-- ==== Sys2Proof/Word.lean ====
section
/-! DEFINITION. The word types of the block and the shape of a sparse table. Registers are 32 bits wide (R41), bytes are
8 bits, signals and counters 64 bits, domain time 72 bits (R8). -/

namespace Sys2Proof

/-- One byte. -/
abbrev Byte := BitVec 8
/-- One register of the window (R41). -/
abbrev W32 := BitVec 32
/-- One 64-bit quantity: a pair of registers (R42), a signal, an operand. -/
abbrev W64 := BitVec 64
/-- Domain time: nanoseconds in [71:8], 1/256 ns in [7:0] (R8). -/
abbrev DT := BitVec 72
/-- A 256-bit key of the block. -/
abbrev Key256 := BitVec 256
/-- A SHA-384 value. -/
abbrev Dig384 := BitVec 384

/-- A sparse table: keys strictly rising, and no entry equal to what an unlisted key reads as. -/
abbrev SMap (α : Type) := List (Nat × α)

end Sys2Proof
end

