-- ==== Sys2Proof/Payload.lean ====
section
/-! DEFINITION. What the block's commands carry: who reaches the register window (R39), the units of a link (R111 to R113,
R126, R129), sibling units (R495), and what a sequencer, a compute port and the fabric send. -/

namespace Sys2Proof

/-- The parties that reach the register window (R39). `vf n` is host software on function n, n ≥ 1. -/
inductive Party where
  | pf | vf (n : Nat) | sec | svc | halter
  deriving DecidableEq, Repr

/-- A time mark (R69). Times are domain times. -/
structure MarkFields where
  seq : Nat
  txPrev : Nat
  echoSeq : Nat
  echoRx : Nat
  echoTurn : Nat
  state : Nat
  hops : Nat
  gmRank : Nat
  gmPrio : Nat
  gmTerm : Nat
  errEst : Nat
  gaitDist : Nat
  deriving DecidableEq, Repr

/-- The body of a CAP (R129). -/
structure CapFields where
  linkVer : Nat
  portId : Nat
  nonce : Nat
  dlkGen : Nat
  txdly : Nat
  rxdly : Nat
  asym : Int
  echo : Nat
  deriving DecidableEq, Repr

/-- A control flit, by its KIND (R126). -/
inductive Flit where
  | mark (m : MarkFields)
  | ack (seq : Nat)
  | retry (seq cause : Nat)
  | cap (c : CapFields)
  | keyReady (epoch gen : Nat)
  | pdn (station port event : Nat)
  | dark (cause : Nat)
  | keyReq (epoch : Nat)
  deriving DecidableEq, Repr

/-- The header of a data frame (R112) less the version, which a sender always writes as negotiated. -/
structure FrameHdr where
  fver : Nat
  ftype : Nat
  flits : Nat
  last : Bool
  sig : Bool
  empty : Bool
  late : Bool
  cover : Bool
  keyPh : Nat
  srcRank : Nat
  srcPost : Bool
  stride : Nat
  coverPlane : Nat
  periodLo : Nat
  share : Nat
  lkind : Nat
  seqLo : Nat
  dstRank : Nat
  deriving DecidableEq, Repr

/-- The header of a control flit (R112). -/
structure CtlHdr where
  fver : Nat
  kind : Nat
  keyPh : Nat
  srcRank : Nat
  srcPost : Bool
  unauth : Bool
  seqLo : Nat
  deriving DecidableEq, Repr

/-- Of the header of a MARK as it arrives (R112, R127): UNAUTH and SEQ[15:0]. -/
structure MarkHdr where
  unauth : Bool
  seqLo : Nat
  deriving DecidableEq, Repr

/-- Who sent a coherence record: SRC_RANK and SHARE of its frame (R112, R196). -/
structure CohSrc where
  rank : Nat
  share : Nat
  deriving DecidableEq, Repr

/-- The 64 bytes of a line and whether they came poisoned (R197). -/
structure LineData where
  bytes : List Byte
  poison : Bool
  deriving DecidableEq, Repr

/-- A data frame as it stands after decryption: header, payload of `flits` × 256 bytes, trailer (R113). -/
structure DataFrame where
  hdr : FrameHdr
  data : List Byte
  poison : Nat
  sigCode : Nat
  sigRef : Nat
  deriving DecidableEq, Repr

/-- What the receive side finds of a unit before it looks inside: the GCM tag verified under the key that KEY_PH selects,
FEC flagged a codeword, the port's check code found an uncorrectable error (R120). -/
structure UnitCheck where
  tagOk : Bool
  fecBad : Bool
  chkBad : Bool
  deriving DecidableEq, Repr

/-- A unit of a sibling port beside MARK (R495). -/
inductive SibUnit where
  | heartbeat
  | outOfService
  | reportReq (body : List Byte)
  | reportData (body : List Byte)
  | mark (m : MarkFields)
  deriving DecidableEq, Repr

/-- An activity that asks for a channel's maintenance token (R471). -/
inductive TokenUse where
  | scrub | farrier | walk | rebuild | bist | reenc
  deriving DecidableEq, Repr

/-- One copy of a fuse row as it reads at the normal and at the margin threshold (R410). -/
structure FuseCopy where
  norm : Nat
  marg : Nat
  deriving DecidableEq, Repr

/-- One copy of the rows that a commit burns (R409, R415). -/
structure CopyRead where
  lcT : FuseCopy
  scrap : FuseCopy
  uds : FuseCopy
  deriving DecidableEq, Repr

/-- The fuse rows (R409, R465, R500): three copies of each life-cycle row, the repair row by entry (an unlisted entry is blank). -/
structure Fuses where
  copies : List CopyRead
  holdLock : List Nat
  serial : List Nat
  auth : List Nat
  repair : List (Nat × Nat)
  deriving DecidableEq, Repr

/-- A failure that a self-test run finds (R456, R457, R465): bits [18:0] of a repair entry, logic or memory, in logic or periphery that the
cluster's units share, SRAM row and bit. -/
structure BistFail where
  unit : Nat
  logic : Bool
  shared : Bool
  row : Nat
  bit : Nat
  deriving DecidableEq, Repr

/-- A hitch record (R217). -/
structure HitchRec where
  hop : Nat
  hid : Nat
  ok : Bool
  cause : Nat
  epoch : Nat
  lost : Nat
  dtNs : Nat
  origin : Nat
  event : Nat
  deriving DecidableEq, Repr

/-- A request of a compute port (R482). `len8` gives 8 × (len8 + 1) bytes; `attr` is REQ_ATTR. -/
structure DcpReq where
  port : Nat
  addr : Nat
  len8 : Nat
  tag : Nat
  gen : Nat
  cls : Nat
  ctx : Nat
  attr : Nat
  wdata : List Byte
  wstrb : Nat
  deriving DecidableEq, Repr

/-- A direct or sync request record as it reaches its home (R183 to R185): the requester, its context and tag, the address, the length of a
load or store, the frame's share, the record's attributes, store data or operands. -/
structure RmtRec where
  port : Nat
  src : Nat
  ctx : Nat
  tag : Nat
  addr : Nat
  len : Nat
  share : Nat
  sync : Bool
  fetch : Bool
  data : List Byte
  strb : Nat
  opnd0 : W64
  opnd1 : W64
  deriving DecidableEq, Repr

/-- A gateway record (R191 to R194): the input port, the frame's SRC_RANK and SHARE, and the fields of the bulk header. `off` and `len`
are the first byte and the length of the fragment within an operation of `total` bytes; `op` is AOP; `data` and `poison` (by 16-byte
units) are the fragment's. -/
structure GwRec where
  port : Nat
  src : Nat
  tag : Nat
  ctx : Nat
  epoch : Nat
  sseq : Nat
  addr : Nat
  off : Nat
  len : Nat
  total : Nat
  share : Nat
  status : Nat
  op : Nat
  opnd0 : W64
  opnd1 : W64
  sig : Option Nat
  ordered : Bool
  data : List Byte
  poison : Nat
  deriving DecidableEq, Repr

/-- What a channel finds when a read returns (R238, R273): of a granule, or of a counter block. -/
structure ReadResult where
  level : Nat            -- 0 a granule, 1 and above a counter block of that level
  index : Nat            -- local page × 64 + granule for level 0; block index otherwise
  firstOk : Bool         -- the first read passed
  secondOk : Bool        -- the second read passed
  sealFail : Bool        -- a counter block failed R264, its check code being clean
  pipeFault : Bool       -- a parity mismatch was found and the operation was performed again (R242)
  copyBad : Nat          -- level 3 and above: copies that failed, 0 to 2
  inCache : Bool         -- the failing unit stood in the counter cache, dirty
  deriving DecidableEq, Repr

/-- What a completed write was (R239, R268), and whether a parity mismatch was found in it, so that it was performed again (R242). -/
structure WriteResult where
  page : Nat
  granule : Nat
  pipeFault : Bool
  deriving DecidableEq, Repr

end Sys2Proof
end

