-- ==== Sys2Proof/Syntax.lean ====
section
/-! DEFINITION. The commands of the block: one constructor per row of spec/opcode_table.json, in the table's order. An operand
`p : Party` is who writes or reads the register (R39); `(p : Nat)` of a packet is its packet store entry; `port`, `ch`, `fn`,
`q`, `page` are numbers of a link port, a channel, a function, a queue, a control cipher page. -/

namespace Sys2Proof

/-- A command. -/
inductive Instr where
  /-- POWER_ON_RESET, R12: POR_N low, or loss of AOCLK or the always-on supply, resets the whole block including the always-on domain. -/
  | powerOnReset (f : Fuses)
  /-- BLOCK_RESET, R453: Block reset asserts: the saddle is cleared, ports go DISABLED, CRST_N asserts and MR, LR and FR stop. -/
  | blockReset
  /-- BLOCK_RESET_DEASSERT, R3: Block reset deasserts and the block samples the ROLE, INSTANCE and BIST_POLICY straps. -/
  | blockResetDeassert (role : Bool) (inst : Nat) (policy : Bool)
  /-- BOOT_RUN, R459: The boot BIST run applies fuse repairs, tests the regions and applies the policy. -/
  | bootRun (fails : List BistFail)
  /-- LAYER0_IDENTITY, R364: Layer 0 derives the DeviceID and Alias keys, builds the Alias certificates and clears slots 0 and 1. -/
  | layer0Identity (sec svc : Dig384)
  /-- FIRMWARE_LOAD, R6: The security cores verify the firmware signature and release and load it, or refuse and stay in reset. -/
  | firmwareLoad (secOk svcOk : Bool) (secVer svcVer : W32)
  /-- FR_REGION_RESET, R24: The front region is reset, losing queues and resident objects. -/
  | frRegionReset
  /-- LR_REGION_RESET, R24: The link region is reset: links retrain, gait banks are emptied and LR pages are reset. -/
  | lrRegionReset
  /-- CLUSTER_FAULT, R18: A fault takes a cluster out of service with the effect its kind decides. -/
  | clusterFault (slot : Nat)
  /-- SLICE_RESTART_DONE, R18: A restarted front-end slice returns to service empty. -/
  | sliceRestartDone (slice : Nat)
  /-- LOCKSTEP_SVC_MISMATCH, R19: A service-pair lockstep mismatch halts the pair and restarts it from its signed image. -/
  | lockstepSvcMismatch
  /-- SVC_PAIR_RESTART_DONE, R19: The service pair finishes its restart and host-assisted functions and Halter resume. -/
  | svcPairRestartDone
  /-- LOCKSTEP_SEC_MISMATCH, R19: A security-pair lockstep mismatch clears the saddle and is fatal-to-instance. -/
  | lockstepSecMismatch
  /-- LEAD_HEARTBEAT, R22: The package lead sends a heartbeat on every sibling port every 10 µs. -/
  | leadHeartbeat
  /-- LEAD_LOST, R22: No lead heartbeat for 100 µs, or a lead out-of-service report, makes the lowest remaining sibling lead. -/
  | leadLost
  /-- SIB_HEARTBEAT, R495: A HEARTBEAT unit arrives on a sibling port. -/
  | sibHeartbeat (port gen : Nat)
  /-- SIB_OUT_OF_SERVICE, R495: An OUT_OF_SERVICE unit arrives on a sibling port from the lead. -/
  | sibOutOfService (port : Nat)
  /-- REPORT_REQ, R382: A sibling receives REPORT_REQ from the lead and answers with its report. -/
  | reportReq (port : Nat)
  /-- REPORT_DATA, R382: The lead receives a sibling report over a sibling port for its PKG digests. -/
  | reportData (port : Nat) (body : List Byte)
  /-- IDLE_TIMER_EXPIRY, R32: A cluster's idle timer expires and the cluster gates. -/
  | idleTimerExpiry (cluster : Nat)
  /-- CLUSTER_WAKE, R30: A wake trigger wakes a gated cluster. -/
  | clusterWake (cluster : Nat)
  /-- MR_OFF_REQ, R28: A request for MR OFF, by register or power-state pin, is granted or refused. -/
  | mrOffReq (p : Option Party)
  /-- MR_OFF_ENTERED, R28: After the dirty counter-cache lines are written back, MR enters OFF and PS_MR_PWR_EN falls. -/
  | mrOffEntered
  /-- MR_WAKE, R506: A request to leave MR OFF raises PS_MR_PWR_EN. -/
  | mrWake
  /-- MR_SUPPLY_GOOD, R506: PS_MR_PWR_GOOD rises, so SLEEP falls, key latches reload and the cold walk is triggered. -/
  | mrSupplyGood
  /-- MR_SUPPLY_LOSS, R506: PS_MR_PWR_GOOD falls while MR power is enabled, which is fatal-to-instance. -/
  | mrSupplyLoss
  /-- REGISTER_WRITE, R9: A write to a register field with no row of its own takes effect under its access type. -/
  | registerWrite (p : Party) (addr : Nat) (size : Nat) (v : W64)
  /-- PAIR_HALF_READ, R42: A 32-bit read of a _LO or _HI half of a register pair uses the party's read latch. -/
  | pairHalfRead (p : Party) (addr : Nat)
  /-- PAIR_HALF_WRITE, R42: A 32-bit write of a _LO or _HI half of a register pair uses the party's write latch. -/
  | pairHalfWrite (p : Party) (addr : Nat) (v : W32)
  /-- LOCK_WRITE, R51: A write of 1 to LOCK freezes every RWL register of the page. -/
  | lockWrite (p : Party) (slot : Nat) (v : W32)
  /-- ERR_INJECT_WRITE, R50: A write to ERR_INJECT makes the block act as if the named errors were detected. -/
  | errInjectWrite (p : Party) (slot : Nat) (v : W32)
  /-- VER_SW_ARCH_WRITE, R57: Host software writes VER_SW_ARCH and the block computes VER_NEG and releases held doorbells. -/
  | verSwArchWrite (p : Party) (v : W32)
  /-- HA_TIMEOUT_WITHDRAW, R62: A host-assisted request not completed within TIMEOUT_US is withdrawn and completed in hardware mode. -/
  | haTimeoutWithdraw (fn : Nat)
  /-- ERR_REC_RPTR_WRITE, R438: Host software advances ERR_REC_RPTR, and a new ERR message may be issued. -/
  | errRecRptrWrite (p : Party) (v : W32)
  /-- TB_CHECK_MISMATCH, R64: The two time-base copies disagree: the time state becomes FREE and the copies are reloaded. -/
  | tbCheckMismatch (cleanA : Bool)
  /-- PPS_IN_EDGE, R66: A rising PPS_IN edge is captured and a time-port grandmaster steers or steps by it. -/
  | ppsInEdge (sub : Nat)
  /-- PPS_LOST, R67: No PPS edge arrives for 1.1 s, so PPS_LOST is set and PPS_PRESENT cleared. -/
  | ppsLost
  /-- PPS_OUT_CROSSING, R68: DT crosses a whole second and PPS_OUT rises. -/
  | ppsOutCrossing
  /-- PPS_OUT_FALL, R497: PPS_OUT falls 1 ms after its rising edge. -/
  | ppsOutFall
  /-- MARK, R69: A port's mark slice sends a time mark every 1,024 ns. -/
  | mark (port : Nat) (sub : Nat)
  /-- MARK_RECEIVE, R71: An incoming time mark is stamped, authenticated and used for offset, parent choice and steering. -/
  | markReceive (port : Nat) (m : MarkFields) (chk : UnitCheck) (hdr : MarkHdr) (sub : Nat)
  /-- GM_SELF_ELECT, R65: A candidate with no grandmaster named for 50 µs elects itself grandmaster. -/
  | gmSelfElect
  /-- PARENT_LOST, R79: No accepted parent mark for 8 intervals takes a LOCKED block to HOLDOVER. -/
  | parentLost
  /-- GM_LOST, R79: No mark names a LOCKED grandmaster for 50 µs in HOLDOVER. -/
  | gmLost
  /-- HOLDOVER_EXPIRED, R79: Time in HOLDOVER reaches TIME_HOLD_MAX and the block goes FREE. -/
  | holdoverExpired
  /-- STEER_DISABLE, R79: Clearing TIME CTRL.STEER_EN holds the block FREE and clears IS_GM. -/
  | steerDisable (p : Party)
  /-- GAIT_LOAD, R91: The GAIT_LOAD packet reads, checks and writes a gait image into a port's inactive bank. -/
  | gaitLoad (p : Nat)
  /-- ARM, R92: Setting GAIT_CTRL.ARM checks the new images and arms the swap, or refuses. -/
  | arm (p : Party)
  /-- ARM_CLEAR, R93: Clearing ARM before the commit point returns the swap to IDLE. -/
  | armClear (p : Party)
  /-- GO, R93: GAIT_GO.GO in host-assisted mode commits an armed swap. -/
  | go (p : Party)
  /-- ABANDON, R93: GAIT_GO.ABANDON cancels an armed swap, or stops every port in LATE. -/
  | abandon (p : Party)
  /-- SWAP_COMMIT_POINT, R93: The commit point, GAIT_SWAP_DT − 10 µs, is reached and the swap becomes COMMITTED. -/
  | swapCommitPoint
  /-- SWAP_DT_REACHED, R93: GAIT_SWAP_DT is reached and every port flips its bank, or the swap goes LATE. -/
  | swapDtReached
  /-- SWAP_LATE_BOUNDARY, R93: In LATE, a new-gait period boundary at which time permits flips every port. -/
  | swapLateBoundary
  /-- WAKE_AHEAD, R94: At the wake-ahead point the executor reads the next stride, wakes slices and clusters and begins fetching. -/
  | wakeAhead (port : Nat) (idx : Nat) (period : Nat)
  /-- STRIDE_START, R95: At a stride's start offset the executor decides under R80 and sends its frames or suppresses them. -/
  | strideStart (port : Nat) (idx : Nat) (period : Nat)
  /-- DATA_FRAME_RECEIVE, R123: A data frame arrives on a port and is verified, accepted, relayed, routed, queued or discarded. -/
  | dataFrameReceive (port : Nat) (f : DataFrame) (chk : UnitCheck)
  /-- FOOTPRINT_END, R103: A stride's footprint closes and the occurrence takes its outcome, with CARRY deciding its effects. -/
  | footprintEnd (port : Nat) (idx : Nat) (period : Nat)
  /-- PLANE_DOWN, R106: A plane is treated as down and, from the next period boundary, its hard strides move to spare windows. -/
  | planeDown (plane : Nat)
  /-- THROTTLE_START, R102: A thermal throttle request or over-temperature stops admission of loose frames. -/
  | throttleStart (pin : Bool) (temp : Int)
  /-- THROTTLE_END, R102: The throttle request and high temperature end, and shedding stops. -/
  | throttleEnd (temp : Int)
  /-- LOOSE_AGE_DROP, R182: A queued loose frame that has waited AGE_US at a Post block is discarded. -/
  | looseAgeDrop (port : Nat)
  /-- REKEY_NOW, R117: Host software writes CTRL.REKEY_NOW and a key change of both directions begins. -/
  | rekeyNow (p : Party) (port : Nat)
  /-- KEY_FRAME_LIMIT, R117: Frames under the current key reach 2^LOG2_FRAMES − 2^32 and the sender begins a key change. -/
  | keyFrameLimit (port : Nat)
  /-- KEY_REQ, R117: A KEY_REQ control flit naming E + 1 arrives; the receiver derives the new receive key and sends KEY_READY. -/
  | keyReq (port : Nat) (epoch : Nat) (chk : UnitCheck) (seqLo : Nat)
  /-- KEY_READY, R117: A KEY_READY control flit arrives and the sender loads its new transmit key and switches epochs. -/
  | keyReady (port : Nat) (epoch gen : Nat) (chk : UnitCheck) (seqLo : Nat)
  /-- KEY_REQ_REPEAT, R117: KEY_REQ is repeated every 1 µs while the change waits. -/
  | keyReqRepeat (port : Nat)
  /-- KEY_READY_REPEAT, R117: KEY_READY is repeated every 100 µs until the first frame of the new epoch arrives. -/
  | keyReadyRepeat (port : Nat)
  /-- KEY_STALL, R118: The sender reaches 2^LOG2_FRAMES frames under one key and stops sending data frames. -/
  | keyStall (port : Nat)
  /-- ACK_SEND, R119: The receiver sends an ACK of the highest in-order sequence number within 128 ns. -/
  | ackSend (port : Nat)
  /-- ACK, R119: An ACK control flit arrives and the sender frees acknowledged frames from its replay buffer. -/
  | ack (port : Nat) (seq : Nat) (chk : UnitCheck) (seqLo : Nat)
  /-- RETRY, R120: A RETRY control flit arrives and the sender resends from the named frame, unless the RETRY is stale. -/
  | retry (port : Nat) (seq cause : Nat) (chk : UnitCheck) (seqLo : Nat)
  /-- RETRY_REPEAT, R120: The receiver repeats RETRY every 256 ns until the expected frame arrives. -/
  | retryRepeat (port : Nat)
  /-- ACK_TIMEOUT, R120: The oldest outstanding frame goes 2 µs without acknowledgement and is resent as if a RETRY had named it. -/
  | ackTimeout (port : Nat)
  /-- REPLAY_CHECK, R131: An uncorrectable error in the replay buffer sends the port to RETRAIN. -/
  | replayCheck (port : Nat)
  /-- SIGNAL_HANDOFF, R213: A signal is handed to the signal logic after its writes complete and is applied to a fence or hitch. -/
  | signalHandoff (ref : Nat) (status : Nat) (late : Bool)
  /-- PDN, R128: A PDN control flit arrives; a Post block forwards it, a Mount block treats the plane as down. -/
  | pdn (port : Nat) (station sport event : Nat) (chk : UnitCheck) (seqLo : Nat)
  /-- PDN_CLEAR, R128: Writing LPTn_CTRL.PDN_CLEAR ends the plane-down condition. -/
  | pdnClear (p : Party) (port : Nat)
  /-- PHY_READY_RISE, R131: PHY ready rises with ENABLE set and the port starts TRAINING with a fresh nonce. -/
  | phyReadyRise (port : Nat)
  /-- PHY_READY_FALL, R131: PHY ready falls and the port leaves UP or training. -/
  | phyReadyFall (port : Nat)
  /-- CAP, R130: A CAP control flit arrives and advances training, or starts RETRAIN in UP. -/
  | cap (port : Nat) (c : CapFields) (chk : UnitCheck)
  /-- CAP_SEND, R126: A port in TRAINING or RETRAIN sends CAP every 1,024 ns. -/
  | capSend (port : Nat)
  /-- TRAIN_TIMEOUT, R131: Training does not complete in 10 ms and the port returns to DOWN. -/
  | trainTimeout (port : Nat)
  /-- TRAIN_RETRY_TIMER, R131: 1 ms after a failed training the port tries again. -/
  | trainRetryTimer (port : Nat)
  /-- DARK, R131: A DARK control flit arrives and the port goes DOWN. -/
  | dark (port : Nat) (cause : Nat) (chk : UnitCheck) (unauth : Bool) (seqLo : Nat)
  /-- RETRAIN, R131: Writing CTRL.RETRAIN leaves DISABLED or retrains the port. -/
  | retrain (p : Party) (port : Nat)
  /-- GO_DARK, R131: Writing CTRL.GO_DARK sends the port to DISABLED with cause 1. -/
  | goDark (p : Party) (port : Nat)
  /-- PORT_DISABLE, R131: Clearing CTRL.ENABLE sends the port to DISABLED. -/
  | portDisable (p : Party) (port : Nat)
  /-- RED_DESC_WRITE, R160: RED_DESC_CMD.WRITE checks the window entry and stores it in the descriptor store, or refuses. -/
  | redDescWrite (p : Party)
  /-- RED_DESC_READ, R158: RED_DESC_CMD.READ copies a descriptor entry into the window. -/
  | redDescRead (p : Party)
  /-- RED_DESC_INVALIDATE, R158: RED_DESC_CMD.INVALIDATE clears VALID of an entry that is not in use. -/
  | redDescInvalidate (p : Party)
  /-- RESET_ROOT, R167: RED_DESC_CMD.RESET_ROOT fails a root's open instances, clears its owe list and STALLED mark. -/
  | resetRoot (p : Party)
  /-- INSTANCE_DEADLINE, R166: An instance's DEADLINE_US passes and it ends INCOMPLETE with an owe list. -/
  | instanceDeadline (root : Nat) (index : Nat)
  /-- RESULT_WRITE_DONE, R168: A DONE Mount instance's result write completes and its held signals are applied. -/
  | resultWriteDone (root : Nat) (index : Nat)
  /-- DCP_LD, R483: A compute-port LD request is accepted and performed locally or remotely. -/
  | dcpLd (r : DcpReq)
  /-- DCP_ST, R483: A compute-port ST request is accepted and performed locally or remotely. -/
  | dcpSt (r : DcpReq)
  /-- DCP_ADD, R483: A compute-port ADD atomic request is accepted. -/
  | dcpAdd (r : DcpReq) (four : Bool)
  /-- DCP_SWAP, R483: A compute-port SWAP atomic request is accepted. -/
  | dcpSwap (r : DcpReq) (four : Bool)
  /-- DCP_CAS, R483: A compute-port CAS atomic request is accepted. -/
  | dcpCas (r : DcpReq) (four : Bool)
  /-- DCP_SMIN, R483: A compute-port SMIN atomic request is accepted. -/
  | dcpSmin (r : DcpReq) (four : Bool)
  /-- DCP_SMAX, R483: A compute-port SMAX atomic request is accepted. -/
  | dcpSmax (r : DcpReq) (four : Bool)
  /-- DCP_UMIN, R483: A compute-port UMIN atomic request is accepted. -/
  | dcpUmin (r : DcpReq) (four : Bool)
  /-- DCP_UMAX, R483: A compute-port UMAX atomic request is accepted. -/
  | dcpUmax (r : DcpReq) (four : Bool)
  /-- DCP_AND, R483: A compute-port AND atomic request is accepted. -/
  | dcpAnd (r : DcpReq) (four : Bool)
  /-- DCP_OR, R483: A compute-port OR atomic request is accepted. -/
  | dcpOr (r : DcpReq) (four : Bool)
  /-- DCP_XOR, R483: A compute-port XOR atomic request is accepted. -/
  | dcpXor (r : DcpReq) (four : Bool)
  /-- DCP_TOKEN_PASS, R483: A compute-port TOKEN_PASS request is accepted. -/
  | dcpTokenPass (r : DcpReq)
  /-- DCP_RD_S, R483: A compute-port coherent read-shared request for a herd line is accepted. -/
  | dcpRdS (r : DcpReq)
  /-- DCP_RD_M, R483: A compute-port coherent read-own request for a herd line is accepted. -/
  | dcpRdM (r : DcpReq)
  /-- DCP_UPG, R483: A compute-port coherent upgrade request is accepted. -/
  | dcpUpg (r : DcpReq)
  /-- DCP_WB, R483: A compute-port coherent write-back request is accepted. -/
  | dcpWb (r : DcpReq)
  /-- DCP_EVS, R483: A compute-port evict-shared request is accepted. -/
  | dcpEvs (r : DcpReq)
  /-- DCP_UNSUPPORTED, R483: A compute-port request with an undefined REQ_OP completes with UNSUPPORTED. -/
  | dcpUnsupported (r : DcpReq) (op : Nat)
  /-- LD, R184: The home performs a remote LD request record. -/
  | rmtLd (r : RmtRec)
  /-- ST, R184: The home performs a remote ST request record. -/
  | rmtSt (r : RmtRec)
  /-- ADD, R184: The home performs a remote ADD atomic. -/
  | rmtAdd (r : RmtRec) (four : Bool)
  /-- SWAP, R184: The home performs a remote SWAP atomic. -/
  | rmtSwap (r : RmtRec) (four : Bool)
  /-- CAS, R184: The home performs a remote CAS atomic. -/
  | rmtCas (r : RmtRec) (four : Bool)
  /-- SMIN, R184: The home performs a remote SMIN atomic. -/
  | rmtSmin (r : RmtRec) (four : Bool)
  /-- SMAX, R184: The home performs a remote SMAX atomic. -/
  | rmtSmax (r : RmtRec) (four : Bool)
  /-- UMIN, R184: The home performs a remote UMIN atomic. -/
  | rmtUmin (r : RmtRec) (four : Bool)
  /-- UMAX, R184: The home performs a remote UMAX atomic. -/
  | rmtUmax (r : RmtRec) (four : Bool)
  /-- AND, R184: The home performs a remote AND atomic. -/
  | rmtAnd (r : RmtRec) (four : Bool)
  /-- OR, R184: The home performs a remote OR atomic. -/
  | rmtOr (r : RmtRec) (four : Bool)
  /-- XOR, R184: The home performs a remote XOR atomic. -/
  | rmtXor (r : RmtRec) (four : Bool)
  /-- TOKEN_PASS, R201: The home passes an ownership token to a new owner, or answers NOT_OWNER. -/
  | rmtTokenPass (r : RmtRec)
  /-- UNSUPPORTED_OP, R184: A remote request record with an unknown OP completes with UNSUPPORTED. -/
  | rmtUnsupported (r : RmtRec) (op : Nat)
  /-- RSP, R186: A response record arrives and completes the matching outstanding request, or is discarded. -/
  | rsp (src tag status : Nat) (data : List Byte) (poison : Nat)
  /-- REMOTE_TIMEOUT, R190: A direct or sync request without a response after GW_RMT_TIMEOUT completes with NO_RESPONSE. -/
  | remoteTimeout (tag : Nat)
  /-- TAG_QUARANTINE_END, R190: A timed-out TAG becomes reusable after 4 ms. -/
  | tagQuarantineEnd (tag : Nat)
  /-- PLANE_SET_CHANGE, R189: The set of usable planes changes and new direct and sync requests are held while DRAINING. -/
  | planeSetChange
  /-- DRAIN_COMPLETE, R189: Every outstanding direct and sync request has answered or timed out and DRAINING clears. -/
  | drainComplete
  /-- PUT_DATA, R193: A gateway PUT_DATA fragment is written at the destination, and ACK is sent once the put is complete. -/
  | putData (r : GwRec)
  /-- GET_REQ, R192: A gateway GET_REQ is performed at the target after earlier puts and AMOs of its stream. -/
  | getReq (r : GwRec)
  /-- GET_DATA, R193: A GET_DATA fragment arrives at the requester, and the get completes with its last fragment. -/
  | getData (r : GwRec)
  /-- AMO_REQ, R193: A gateway AMO_REQ is performed exactly once and answered with AMO_RSP. -/
  | amoReq (r : GwRec)
  /-- AMO_RSP, R193: An AMO_RSP arrives and completes the gateway AMO at the source. -/
  | amoRsp (r : GwRec)
  /-- BULK_ACK, R193: A gateway ACK arrives and completes a put at the source in SSEQ order. -/
  | bulkAck (r : GwRec)
  /-- NAK, R194: A gateway NAK with BUSY arrives and the source retries after RETRY_US. -/
  | nak (r : GwRec)
  /-- BULK_RETRY_TIMEOUT, R193: An incomplete gateway operation is resent after RETRY_US, or fails the stream after RETRY_MAX. -/
  | bulkRetryTimeout (stream : Nat) (sseq : Nat)
  /-- STREAM_RETIRE, R194: A destination stream with nothing incomplete for 4 ms is retired. -/
  | streamRetire (stream : Nat)
  /-- COH_RD_S, R197: The home directory processes a member's RD_S. -/
  | cohRdS (src : CohSrc) (tag line : Nat)
  /-- COH_RD_M, R197: The home directory processes a member's RD_M. -/
  | cohRdM (src : CohSrc) (tag line : Nat)
  /-- COH_UPG, R197: The home directory processes a member's UPG. -/
  | cohUpg (src tag line : Nat)
  /-- COH_WB, R197: The home directory processes a member's WB. -/
  | cohWb (src : CohSrc) (tag line : Nat) (data : LineData)
  /-- COH_EVS, R197: The home directory processes a member's EVS. -/
  | cohEvs (src tag line : Nat)
  /-- DATA_S, R195: A member receives DATA_S and answers its compute's request. -/
  | dataS (src tag status : Nat) (data : List Byte) (poison : Nat)
  /-- DATA_M, R195: A member receives DATA_M and answers its compute's request. -/
  | dataM (src tag status : Nat) (data : List Byte) (poison : Nat)
  /-- UPG_ACK, R195: A member receives UPG_ACK and completes its compute's upgrade. -/
  | upgAck (src tag status : Nat)
  /-- WB_ACK, R195: A member receives WB_ACK and completes its compute's write-back. -/
  | wbAck (src tag status : Nat)
  /-- INV, R195: A member receives INV and snoops its compute. -/
  | inv (src tag line : Nat)
  /-- SNP_S, R195: A member receives SNP_S and snoops its compute to share. -/
  | snpS (src tag line : Nat)
  /-- SNP_I, R195: A member receives SNP_I and snoops its compute to invalidate. -/
  | snpI (src tag line : Nat)
  /-- HERD_FLUSH, R199: A member receives HERD_FLUSH and has its compute write back and drop every line of the home's windows. -/
  | herdFlush (src tag : Nat)
  /-- INV_ACK, R197: The home receives INV_ACK for a line in transaction. -/
  | invAck (src tag line : Nat)
  /-- SNP_RSP, R197: The home receives SNP_RSP, with or without data or LOST, for a line in transaction. -/
  | snpRsp (src tag line : Nat) (data : Option LineData) (lost : Bool)
  /-- FLUSH_DONE, R199: The home receives FLUSH_DONE during a herd flush. -/
  | flushDone (src tag : Nat)
  /-- COH_TIMEOUT, R199: A member fails to answer within COH_TIMEOUT and is taken as holding no copy. -/
  | cohTimeout (line : Nat) (member : Nat)
  /-- SNR_INV_ACK, R485: The compute answers a snoop with INV_ACK. -/
  | snrInvAck (tid : Nat)
  /-- SNR_SNP_RSP, R485: The compute answers a snoop with SNP_RSP, with or without line data. -/
  | snrSnpRsp (tid : Nat) (data : Option (List Byte))
  /-- SNR_FLUSH_DONE, R485: The compute answers a flush snoop with FLUSH_DONE. -/
  | snrFlushDone (tid : Nat)
  /-- COH_ENABLE, R195: Setting COH CTRL.EN checks the herd configuration and enables it, or refuses. -/
  | cohEnable (p : Party)
  /-- COH_DISABLE, R199: Clearing COH CTRL.EN flushes the herd before ACTIVE clears. -/
  | cohDisable (p : Party)
  /-- CMB_FANOUT, R203: The home's response to a merged record arrives and the Post block sends one response per requester. -/
  | cmbFanout (entry : Nat) (status : Nat) (data : List Byte) (poison : Nat)
  /-- CMB_ENTRY_AGE, R203: A CMB entry whose response has not arrived within AGE_US is freed. -/
  | cmbEntryAge (entry : Nat)
  /-- HITCH_ARRIVE, R219: An ARRIVE hitch frame reaches a counter and is recorded, held or discarded. -/
  | hitchArrive (port : Nat) (r : HitchRec)
  /-- HITCH_RELEASE, R219: A RELEASE frame reaches a counter to forward, or a member to apply the decision. -/
  | hitchRelease (port : Nat) (r : HitchRec)
  /-- HITCH_QUERY, R225: A QUERY frame reaches an anchor, which answers from its commit record. -/
  | hitchQuery (port : Nat) (r : HitchRec)
  /-- HITCH_ANSWER, R224: An ANSWER frame reaches a deciding member, which applies a known decision. -/
  | hitchAnswer (port : Nat) (r : HitchRec)
  /-- HITCH_STOP, R227: A STOP record arrives, is forwarded if new, and arms the stop DT. -/
  | hitchStop (port : Nat) (r : HitchRec)
  /-- LEAVE, R221: A LEAVE frame removes the child port from the parent counter from its next occurrence. -/
  | leave (port : Nat) (r : HitchRec)
  /-- HITCH_TIMEOUT, R219: A counter's TIMEOUT_US expires and children not done count as NOT_OK, or WAIT_REL is abandoned. -/
  | hitchTimeout (hid : Nat)
  /-- HITCH_CMD_WRITE, R232: HITCH_CMD.WRITE writes the window into an idle counter. -/
  | hitchCmdWrite (p : Party)
  /-- HITCH_CMD_READ, R232: HITCH_CMD.READ copies a counter into the window. -/
  | hitchCmdRead (p : Party)
  /-- CLEAR, R232: HITCH_CMD.CLEAR returns a counter to IDLE with EPOCH 0. -/
  | hitchClear (p : Party)
  /-- MEMBER_SET, R221: HITCH_CMD.MEMBER_SET replaces CHILDREN of a HELD counter. -/
  | memberSet (p : Party)
  /-- COMMIT_DRAIN_DONE, R224: Every accepted held-class write is complete and the member sends its ARRIVE. -/
  | commitDrainDone
  /-- COMMIT_MAX_WAIT, R224: MAX_WAIT passes without a decision and the member queries its anchors. -/
  | commitMaxWait
  /-- COMMIT_QUERY_REPEAT, R224: The deciding member repeats its QUERY every 20 µs. -/
  | commitQueryRepeat
  /-- IN_DOUBT, R224: 1 ms of queries pass without a decision and the member enters IN_DOUBT. -/
  | inDoubt
  /-- STOP_DT_REACHED, R228: At the stop DT the gait and dispatch stop and an uncommitted member sends ARRIVE NOT_OK. -/
  | stopDtReached
  /-- STOP_DRAIN_END, R229: The 4 ms drain after the stop DT ends and the commit record is written STOPPED. -/
  | stopDrainEnd
  /-- MEMORY_TRAINED, R488: A memory controller raises TRAINED with CAP_PAGES, and when every channel is READY the carve runs and keys are drawn. -/
  | memoryTrained (ch : Nat) (capPages : Nat)
  /-- MEMORY_READ_RESPONSE, R238: A controller read response returns and the channel checks, decrypts and verifies the granule. -/
  | memoryReadResponse (ch : Nat) (r : ReadResult)
  /-- MEMORY_WRITE_DONE, R488: The controller reports a write complete. -/
  | memoryWriteDone (ch : Nat) (w : WriteResult)
  /-- RAT_CMD_WRITE, R247: RAT_CMD.WRITE checks the window entry and writes it into the RAT, or refuses. -/
  | ratCmdWrite (p : Party)
  /-- RAT_CMD_READ, R257: RAT_CMD.READ copies a RAT entry into the window. -/
  | ratCmdRead (p : Party)
  /-- RAT_WRITE_COMPLETE, R250: Every access checked under the old entry completes and the RAT write is reported complete. -/
  | ratWriteComplete (entry : Nat)
  /-- MCH_LINE_PAGES_WRITE, R244: A write of MCH_LINE_PAGES changes the carve, or is refused while a region exists or a pass runs. -/
  | mchLinePagesWrite (p : Party) (v : W32)
  /-- UNWRAP_CHUNK, R253: An unwrap chunk is read, verified and written into the sealed region, the last one sealing the entry. -/
  | unwrapChunk
  /-- REENC_START, R268: A queued block starts background re-encryption in a free slot. -/
  | reencStart (ch : Nat)
  /-- REENC_COMPLETE, R270: A re-encryption slot's last granule is written and the slot closes. -/
  | reencComplete (ch : Nat) (level index : Nat)
  /-- REBUILD, R275: MCHn_TREE_CMD.REBUILD queues a rebuild of the selected extent. -/
  | rebuild (p : Party) (ch : Nat)
  /-- RETIRE, R275: MCHn_TREE_CMD.RETIRE queues a retire of the selected extent. -/
  | retire (p : Party) (ch : Nat)
  /-- WALK, R276: MCHn_TREE_CMD.WALK starts a cold walk of the channel. -/
  | walk (p : Party) (ch : Nat)
  /-- REBUILD_COMPLETE, R275: A rebuild or retire finishes and releases the token. -/
  | rebuildComplete (ch : Nat)
  /-- COLD_WALK_COMPLETE, R276: A cold walk finishes and releases the token. -/
  | coldWalkComplete (ch : Nat)
  /-- SCRUB_CHUNK, R277: The scrubber's schedule calls for the next chunk of 64 pages. -/
  | scrubChunk (ch : Nat)
  /-- PATROL_READ, R433: The patrol reads words of the long-lived on-chip stores once per second. -/
  | patrolRead (store : Nat) (index : Nat) (bad : Bool)
  /-- TOKEN_REQUEST, R471: An activity requests a channel's maintenance token. -/
  | tokenRequest (ch : Nat) (use : TokenUse)
  /-- TOKEN_RELEASE, R472: A holder releases a maintenance token and the oldest waiting request is granted. -/
  | tokenRelease (ch : Nat) (use : TokenUse)
  /-- FAR_START, R285: CTRL.FAR_START starts a Farrier pass, or is refused. -/
  | farStart (p : Party)
  /-- FAR_AUTO_START, R285: AUTO_HOURS pass and a pass starts by itself. -/
  | farAutoStart
  /-- FAR_PAGE_STEP, R282: The Farrier opens a page step at the shoe line when pace or grant allows. -/
  | farPageStep (ch : Nat)
  /-- FAR_PAGE_STEP_DONE, R282: A page step completes: the leaf restarts under K′ and the shoe line advances. -/
  | farPageStepDone (ch : Nat) (page : Nat) (badTags : List Nat)
  /-- FAR_PAUSE, R291: Setting FAR_PAUSE pauses the channel's pass after its open steps. -/
  | farPause (p : Party) (ch : Nat)
  /-- FAR_RESUME, R291: Clearing FAR_PAUSE resumes the pass. -/
  | farResume (p : Party) (ch : Nat)
  /-- FAR_GRANT, R287: Host software writes MCHn_FAR_GRANT with pages the channel may step. -/
  | farGrant (p : Party) (ch : Nat) (v : W32)
  /-- DOORBELL_WRITE, R296: A write to DB_WPTR updates the queue's WPTR, or is ignored or counted. -/
  | doorbellWrite (p : Party) (page : Nat) (off size : Nat) (v : W32)
  /-- PACKET_FETCH, R298: A slice issues host reads for packets of a READY queue. -/
  | packetFetch (slice : Nat)
  /-- FETCH_COMPLETE, R300: A fetched packet arrives, is checked at steps 0 to 5 and stored, and RPTR advances. -/
  | fetchComplete (q : Nat) (ok : Bool) (slots : List Byte)
  /-- PACKET_START, R304: A stored packet starts when its order conditions hold and takes step 6 of its checks. -/
  | packetStart (p : Nat)
  /-- PACKET_COMPLETE, R302: A packet's memory effects complete; the status word is written, the fence advances and MSI-X is sent. -/
  | packetComplete (p : Nat)
  /-- NOP, R317: A NOP packet completes OK. -/
  | nop (p : Nat)
  /-- LAUNCH, R307: A LAUNCH packet starts and waits for WIDTH sequencer credits. -/
  | launch (p : Nat)
  /-- LAUNCH_DISPATCH, R307: Credits are free on WIDTH sequencers and the launch takes them and sends DISPATCH. -/
  | launchDispatch (p : Nat)
  /-- COPY, R308: A COPY packet moves bytes through the mover or the gateway. -/
  | copy (p : Nat)
  /-- REDUCE, R309: A REDUCE packet delivers a local contribution to a root. -/
  | reduce (p : Nat)
  /-- SIGNAL, R310: A SIGNAL packet applies a signal table entry or adds directly to a fence. -/
  | signal (p : Nat)
  /-- WAIT, R311: A WAIT packet waits for a fence value. -/
  | wait (p : Nat)
  /-- TAKE, R311: A TAKE packet waits for a fence value and consumes a token. -/
  | take (p : Nat)
  /-- WAIT_TIMEOUT, R311: A WAIT or TAKE reaches TIMEOUT_US and completes with TIMEOUT. -/
  | waitTimeout (p : Nat)
  /-- GAIT_BIND, R312: A GAIT_BIND packet binds or unbinds a queue or gait ring. -/
  | gaitBind (p : Nat)
  /-- PERSIST, R315: A PERSIST packet dispatches a persistent task bound to a target queue. -/
  | persist (p : Nat)
  /-- TASK_MSG, R315: A TASK_MSG packet delivers a message to a persistent task. -/
  | taskMsg (p : Nat)
  /-- GRAPH_RUN, R336: A GRAPH_RUN packet pins the current graph version and runs its packets. -/
  | graphRun (p : Nat)
  /-- CTX_CREATE, R329: A CTX_CREATE packet creates a context. -/
  | ctxCreate (p : Nat)
  /-- CTX_DESTROY, R329: A CTX_DESTROY packet marks a context DYING and tears down its fences and objects. -/
  | ctxDestroy (p : Nat)
  /-- QUEUE_CREATE, R318: A QUEUE_CREATE packet creates a user queue. -/
  | queueCreate (p : Nat)
  /-- QUEUE_DESTROY, R344: A QUEUE_DESTROY packet drains a queue and frees its slot. -/
  | queueDestroy (p : Nat)
  /-- QUEUE_RESUME, R305: QUEUE_CTL RESUME returns a queue in ERROR to READY at NEW_RPTR. -/
  | queueResume (p : Nat)
  /-- QUEUE_CANCEL, R345: QUEUE_CTL CANCEL aborts a queue's packets with CANCELLED. -/
  | queueCancel (p : Nat)
  /-- SET_PRIO, R318: QUEUE_CTL SET_PRIO changes a queue's fetch priority. -/
  | setPrio (p : Nat)
  /-- QUEUE_HOLD, R305: QUEUE_CTL HOLD puts a queue in HELD. -/
  | queueHold (p : Nat)
  /-- QUEUE_RELEASE, R305: QUEUE_CTL RELEASE returns a HELD queue to its previous state. -/
  | queueRelease (p : Nat)
  /-- OBJ_CREATE, R333: An OBJ_CREATE packet creates a memory object. -/
  | objCreate (p : Nat)
  /-- OBJ_DESTROY, R333: An OBJ_DESTROY packet marks an object DYING and may enter it in the retire list. -/
  | objDestroy (p : Nat)
  /-- FENCE_CREATE, R338: A FENCE_CREATE packet creates a fence. -/
  | fenceCreate (p : Nat)
  /-- FENCE_DESTROY, R338: A FENCE_DESTROY packet puts a fence into error ABANDONED and destroys it. -/
  | fenceDestroy (p : Nat)
  /-- GRAPH_STORE, R335: A GRAPH_STORE packet checks and stores a packet sequence into the graph's other version. -/
  | graphStore (p : Nat)
  /-- KEY_LOAD_ANCHOR, R387: KEY_LOAD ANCHOR copies the broker's root hash into slot 8. -/
  | keyLoadAnchor (p : Nat)
  /-- DLK_ACTIVATE, R386: KEY_LOAD DLK_ACTIVATE makes a held DLK generation ACTIVE and starts key changes on UP ports. -/
  | dlkActivate (p : Nat)
  /-- ERASE, R387: KEY_LOAD ERASE clears a key slot to FREE. -/
  | erase (p : Nat)
  /-- CONF_ENTER, R394: KEY_LOAD CONF_ENTER turns confidential mode on. -/
  | confEnter (p : Nat)
  /-- KEY_LOAD_INVALID_OP, R387: A KEY_LOAD with an undefined OP completes REFUSED, DETAIL 9. -/
  | keyLoadInvalidOp (p : Nat)
  /-- RAT_SET, R318: A RAT_SET packet writes a RAT entry, completing under R250. -/
  | ratSet (p : Nat)
  /-- LC_REQ, R414: An LC_REQ packet submits a life-cycle request to the security cores. -/
  | lcReq (p : Nat)
  /-- SIG_SET, R318: A SIG_SET packet writes a signal table entry. -/
  | sigSet (p : Nat)
  /-- HITCH_JOIN, R216: A HITCH_JOIN packet writes a hitch table entry. -/
  | hitchJoin (p : Nat)
  /-- STEP_CFG, R223: A STEP_CFG packet sets the commit record, commit HID, anchors and step. -/
  | stepCfg (p : Nat)
  /-- STOP_AT, R227: A STOP_AT packet arms a global stop and sends STOP on every UP port. -/
  | stopAt (p : Nat)
  /-- RESUME, R230: A RESUME packet resumes dispatch on a stopped block. -/
  | resume (p : Nat)
  /-- RESOLVE, R225: A RESOLVE packet resolves an in-doubt member with a decision. -/
  | resolve (p : Nat)
  /-- SEAL, R252: A SEAL packet moves a RAT entry to FILLING under a weight key. -/
  | seal (p : Nat)
  /-- UNWRAP, R389: An UNWRAP packet checks a wrapped weight header and starts the unwrap. -/
  | unwrap (p : Nat)
  /-- VF_PROV, R355: A VF_PROV packet provisions, changes or deprovisions a VF. -/
  | vfProv (p : Nat)
  /-- DONE, R321: A sequencer's DONE message returns a credit and may complete a launch. -/
  | seqDone (seq gen id status busyNs : Nat)
  /-- MSG_DONE, R321: A sequencer's MSG_DONE completes a TASK_MSG. -/
  | msgDone (seq gen id msgId status : Nat)
  /-- HEARTBEAT, R321: A sequencer's HEARTBEAT marks it present. -/
  | heartbeat (seq gen running seqNo : Nat)
  /-- HB_LOST, R442: A present sequencer sends no HEARTBEAT for HB_MISS × HB_US and the compute is hung. -/
  | hbLost (seq : Nat)
  /-- KQ_ENABLE, R305: Setting FE_KQ_CFG.EN or VFn_KQ_CFG.EN creates a kernel queue. -/
  | kqEnable (p : Party) (fn : Nat) (v : W32)
  /-- RING_UNBIND, R312: A write to FE_RING_UNBIND unbinds a gait ring. -/
  | ringUnbind (p : Party) (ring : Nat)
  /-- SNAP, R343: CTXS_QCMD.SNAP writes a context's counters to its descriptor and the window. -/
  | snap (p : Party)
  /-- CTXS_OBJ_KICK, R332: A write to CTXS_OBJ_KICK tests an object's teardown point. -/
  | ctxsObjKick (p : Party) (handle : Nat)
  /-- CTXS_TD_DONE, R334: Host software completes the pending teardown and the descriptor is cleared. -/
  | ctxsTdDone (p : Party)
  /-- FNS_READ, R351: FNS_CMD.READ captures the selected fence into the FNS registers. -/
  | fnsRead (p : Party)
  /-- FNS_EVICT, R342: Host software names a fence victim to free a fence slot. -/
  | fnsEvict (p : Party) (fence : Nat)
  /-- QUIESCE, R360: CTRL.QUIESCE of a VF page stops and drains the VF's queues. -/
  | quiesce (p : Party) (fn : Nat)
  /-- VF_RELEASE, R359: CTRL.RELEASE returns a quiesced VF to LIVE. -/
  | vfRelease (p : Party) (fn : Nat)
  /-- VF_QUIESCED, R359: The VF's last packet is retired and it becomes QUIESCED or enters FLR_RESET. -/
  | vfQuiesced (fn : Nat)
  /-- FLR, R359: A function-level reset of a VF or the PF is reported by the host controller. -/
  | flr (fn : Nat)
  /-- FLR_RESET_DONE, R361: FLR_RESET deletes the VF's state and the block reports FLR completion. -/
  | flrResetDone (fn : Nat)
  /-- VF_HA_DONE, R357: Host software writes VF_HA_DONE and the pending VF_PROV is applied. -/
  | vfHaDone (p : Party)
  /-- GET_VERSION, R374: The SPDM responder answers GET_VERSION. -/
  | getVersion
  /-- GET_CAPABILITIES, R375: The SPDM responder answers GET_CAPABILITIES. -/
  | getCapabilities
  /-- NEGOTIATE_ALGORITHMS, R375: The SPDM responder negotiates its single algorithm set. -/
  | negotiateAlgorithms (offers : Bool)
  /-- GET_DIGESTS, R374: The SPDM responder answers GET_DIGESTS for slot 0. -/
  | getDigests
  /-- GET_CERTIFICATE, R366: The SPDM responder serves the certificate chain with its Alias certificate. -/
  | getCertificate (slot off len : Nat)
  /-- CHALLENGE, R374: The SPDM responder answers CHALLENGE, signed with the Alias P-384 key. -/
  | challenge (nonce : List Byte)
  /-- GET_MEASUREMENTS, R374: The SPDM responder answers GET_MEASUREMENTS with signed blocks 1 to 4. -/
  | getMeasurements (session op : Nat) (nonce : List Byte)
  /-- KEY_EXCHANGE, R376: The responder answers KEY_EXCHANGE, requesting mutual authentication, or answers Busy. -/
  | keyExchange (reqId : Nat) (pub : List Byte)
  /-- FINISH, R376: FINISH establishes a session, anchored if the requester chain verifies to slot 8. -/
  | finish (session : Nat) (macOk : Bool)
  /-- GET_ENCAPSULATED_REQUEST, R374: The responder serves GET_ENCAPSULATED_REQUEST for mutual authentication. -/
  | getEncapsulatedRequest (session : Nat)
  /-- DELIVER_ENCAPSULATED_RESPONSE, R374: The responder takes DELIVER_ENCAPSULATED_RESPONSE for mutual authentication. -/
  | deliverEncapsulatedResponse (session : Nat) (body : List Byte)
  /-- END_SESSION, R378: END_SESSION ends the session and clears its slot. -/
  | endSession (session : Nat)
  /-- SPDM_HEARTBEAT, R378: The responder answers an SPDM HEARTBEAT. -/
  | spdmHeartbeat (session : Nat)
  /-- HEARTBEAT_EXPIRY, R378: A session's SPDM heartbeat expires and the session ends. -/
  | heartbeatExpiry (session : Nat)
  /-- KEY_UPDATE, R377: KEY_UPDATE derives new session keys by the SPDM rule. -/
  | keyUpdate (session : Nat) (op : Nat)
  /-- CHUNK_SEND, R374: The responder accepts a CHUNK_SEND piece of a large request. -/
  | chunkSend (session : Nat) (last : Bool) (body : List Byte)
  /-- CHUNK_GET, R373: The responder returns a CHUNK_GET piece of a large response. -/
  | chunkGet (session : Nat) (seqNo : Nat)
  /-- UNSUPPORTED_REQUEST, R374: An unsupported or out-of-order SPDM request is answered with ERROR. -/
  | unsupportedRequest (session : Nat) (outOfOrder : Bool)
  /-- SECURED_MSG_AUTH_FAIL, R378: A secured message that fails authentication ends its session. -/
  | securedMsgAuthFail (session : Nat)
  /-- KEM_GET, R377: KEM_GET draws an ML-KEM-1024 key pair and returns the encapsulation key. -/
  | kemGet (session : Nat)
  /-- KEM_PUT, R377: KEM_PUT decapsulates and switches the session to hybrid keys. -/
  | kemPut (session : Nat) (ct : List Byte)
  /-- REPORT_GET, R379: REPORT_GET assembles and signs an attestation report. -/
  | reportGet (session : Nat) (nonce : List Byte)
  /-- RELEASE, R384: A RELEASE command places a JOIN, DLK or WEIGHT record, or is refused. -/
  | release (session : Nat) (body : List Byte)
  /-- SLOT_QUERY, R374: The Dezor SLOT_QUERY command returns slot status. -/
  | slotQuery (session : Nat)
  /-- IDE_QUERY, R390: IDE_KM QUERY passes the IDE engine's stream report back. -/
  | ideQuery (session port stream : Nat)
  /-- KEY_PROG, R390: IDE_KM KEY_PROG moves a key and IV through the saddle to the key-out port. -/
  | keyProg (session port stream kset dir sub : Nat) (key : Key256) (ifv : W64)
  /-- K_SET_GO, R390: IDE_KM K_SET_GO is sent to the IDE engine. -/
  | kSetGo (session port stream kset dir sub : Nat)
  /-- K_SET_STOP, R390: IDE_KM K_SET_STOP is sent to the IDE engine. -/
  | kSetStop (session port stream kset dir sub : Nat)
  /-- KO_ACK, R494: The IDE engine answers a key-out command and the IDE_KM response is completed. -/
  | koAck (status : Nat) (data : List Byte)
  /-- GET_TDISP_VERSION, R391: The block answers GET_TDISP_VERSION. -/
  | getTdispVersion (session fn : Nat)
  /-- GET_TDISP_CAPABILITIES, R391: The block answers GET_TDISP_CAPABILITIES. -/
  | getTdispCapabilities (session fn : Nat)
  /-- LOCK_INTERFACE_REQUEST, R391: LOCK_INTERFACE moves a LIVE VF's TDI to CONFIG_LOCKED. -/
  | lockInterfaceRequest (session fn : Nat) (flags : Nat)
  /-- GET_DEVICE_INTERFACE_REPORT, R391: The block reports a locked TDI's ranges, provisioning and RAT entries. -/
  | getDeviceInterfaceReport (session fn off len : Nat)
  /-- GET_DEVICE_INTERFACE_STATE, R391: The block answers a TDI's state. -/
  | getDeviceInterfaceState (session fn : Nat)
  /-- START_INTERFACE_REQUEST, R391: START_INTERFACE moves a locked TDI to RUN. -/
  | startInterfaceRequest (session fn : Nat) (nonce : List Byte)
  /-- STOP_INTERFACE_REQUEST, R391: STOP_INTERFACE quiesces the VF and unlocks its TDI. -/
  | stopInterfaceRequest (session fn : Nat)
  /-- SADDLE_OPERATION, R372: The saddle serves the next waiting key operation from source to target. -/
  | saddleOperation (checkOk : Bool)
  /-- END_SESSIONS, R378: KEY CTRL.END_SESSIONS ends every SPDM session. -/
  | endSessions (p : Party)
  /-- KEY_HA_DONE, R381: Host software writes KEY_HA_DONE and the pending report is assembled. -/
  | keyHaDone (p : Party)
  /-- TAMPER, R392: TAMPER_N low at two AOCLK edges zeroises keys and slots and enters block reset. -/
  | tamper
  /-- TAMPER_CLEAR, R393: TAMPER_N returns high and the block leaves reset with an empty tack store. -/
  | tamperClear
  /-- START, R403: CCIP CTRL.START starts a control-cipher job on the page's window. -/
  | ccipStart (p : Party) (page : Nat)
  /-- CCIP_ABORT, R406: CCIP CTRL.ABORT stops a running job at the next block boundary. -/
  | ccipAbort (p : Party) (page : Nat)
  /-- CCIP_JOB_DONE, R405: A control-cipher job ends with its result code. -/
  | ccipJobDone (page done parity : Nat) (bad : Bool)
  /-- CCIP_KEY_TRNG, R401: A key request with SRC TRNG loads a fresh key into the page's latch. -/
  | ccipKeyTrng (p : Party) (page : Nat) (v : W32)
  /-- CCIP_KEY_DERIVE, R401: A key request with SRC DERIVE loads a key derived from a tack store slot. -/
  | ccipKeyDerive (p : Party) (page : Nat) (v : W32) (slotOk : Bool)
  /-- CCIP_KEY_ERASE, R401: A key request with ERASE zeroises the page's key latch. -/
  | ccipKeyErase (p : Party) (page : Nat)
  /-- HOLDUP_ACK, R415: The integrator grants supply hold-up and the fuse commit or burn begins. -/
  | holdupAck
  /-- HOLDUP_TIMEOUT, R414: Hold-up is not granted within 1 ms and the request is refused. -/
  | holdupTimeout
  /-- COMMIT_PHASE_DONE, R415: A fuse copy's burn and read-back completes and the next phase, or the reread and block reset, follows. -/
  | commitPhaseDone (r : CopyRead)
  /-- EXPORT, R418: LCS CTRL.EXPORT writes the DeviceID export record to LCS_EXPORT. -/
  | lcsExport (p : Party)
  /-- HALTER_LINE, R421: A complete line arrives on the Halter UART, or a long or malformed line is refused. -/
  | halterLine (line : List Byte) (good : Bool)
  /-- VER, R422: Halter VER returns the VER page fields. -/
  | halterVer
  /-- STAT, R422: Halter STAT returns LCS, CR, TIME and FE status. -/
  | halterStat
  /-- ERR, R422: Halter ERR returns the ERR page records. -/
  | halterErr
  /-- RD, R422: Halter RD reads a register. -/
  | halterRd (addr : Nat)
  /-- WR, R422: Halter WR writes a register. -/
  | halterWr (addr : Nat) (v : W32)
  /-- MRD, R422: Halter MRD reads local memory with the debug class. -/
  | halterMrd (addr len : Nat)
  /-- MWR, R422: Halter MWR writes local memory with the debug class. -/
  | halterMwr (addr : Nat) (data : List Byte)
  /-- DEVID, R422: Halter DEVID returns the DeviceID export record. -/
  | halterDevid
  /-- LC, R422: Halter LC takes a life-cycle request from the following lines. -/
  | halterLc
  /-- RST, R422: Halter RST requests a block reset. -/
  | halterRst
  /-- HALTER_DISABLE, R423: A write of 0 to HLT CTRL.EN takes Halter to Off until block reset. -/
  | halterDisable (p : Party)
  /-- TRACE_SYNC, R425: The trace port sends SYNC every SYNC_PERIOD messages. -/
  | traceSync
  /-- CNT_SNAP, R427: CNT CTRL.SNAP captures every CNT counter at one instant. -/
  | cntSnap (p : Party)
  /-- CNT_CLEAR, R427: CNT CTRL.CLEAR zeroes the live counters. -/
  | cntClear (p : Party)
  /-- TRIAGE_RETIRE, R440: ERR_TRIAGE_CMD RETIRE retires the shown item. -/
  | triageRetire (p : Party)
  /-- TRIAGE_REBUILD, R440: ERR_TRIAGE_CMD REBUILD rebuilds the shown item. -/
  | triageRebuild (p : Party)
  /-- TRIAGE_LEAVE, R440: ERR_TRIAGE_CMD LEAVE takes no action on the shown item. -/
  | triageLeave (p : Party)
  /-- WATCHDOG_EXPIRY, R441: A launch's budget runs out: it is aborted with WATCHDOG and ABORT goes to its sequencers. -/
  | watchdogExpiry (p : Nat)
  /-- WATCHDOG_GRACE_EXPIRY, R441: GRACE_US ends with a sequencer still silent and the compute is hung. -/
  | watchdogGraceExpiry (p : Nat)
  /-- DCP_STALL, R442: A compute port stalls for more than 10 µs and the compute is hung. -/
  | dcpStall (port : Nat)
  /-- CRST_NOW, R442: ERR CTRL.CRST_NOW declares the compute hung. -/
  | crstNow (p : Party)
  /-- CRST_HOLD_EXPIRY, R443: HOLD_US passes after CRST_N asserted. -/
  | crstHoldExpiry
  /-- CRST_DEASSERT, R486: With HOLD_US passed and DCP_IDLE high, CRST_N deasserts with the new generation. -/
  | crstDeassert
  /-- DCP_IDLE_TIMEOUT, R486: DCP_IDLE stays low 1 ms after HOLD_US and CRST_N deasserts regardless. -/
  | dcpIdleTimeout
  /-- CRST_HEARTBEAT_WAIT_END, R443: Every prior sequencer has sent a new-GEN HEARTBEAT, or HB_MISS × HB_US passes, and replay begins. -/
  | crstHeartbeatWaitEnd
  /-- PERSIST_PROBE_EXPIRY, R447: A replayed persistent task runs PERSIST_PROBE_US with heartbeats and is cleared. -/
  | persistProbeExpiry
  /-- SUSPECT_REPLAY, R448: ERR_SUSPECT_CMD REPLAY queues a suspect for replay. -/
  | suspectReplay (p : Party) (index : Nat)
  /-- SUSPECT_FAIL, R448: ERR_SUSPECT_CMD FAIL completes a suspect CTX_LOST. -/
  | suspectFail (p : Party) (index : Nat)
  /-- SUSPECT_DROP, R448: ERR_SUSPECT_CMD DROP completes a suspect CANCELLED. -/
  | suspectDrop (p : Party) (index : Nat)
  /-- OOS_HOLD_EXPIRY, R451: OOS_HOLD_MS passes with AUTO_RESET set and instance reset follows. -/
  | oosHoldExpiry
  /-- INST_RESET, R452: ERR CTRL.INST_RESET starts an instance reset. -/
  | instReset (p : Party)
  /-- RUN, R462: BST CTRL.RUN starts an on-demand BIST run of a target cluster, or is refused. -/
  | bistRun (p : Party)
  /-- BIST_ABORT, R463: BST CTRL.ABORT stops a run at the next test boundary. -/
  | bistAbort (p : Party)
  /-- BIST_RUN_DONE, R461: An on-demand run ends, applying the policy and restoring banks. -/
  | bistRunDone (fails : List BistFail) (restoreOk : Bool)
  /-- BURN, R466: BST CTRL.BURN burns fuse repair entries for pending log entries. -/
  | burn (p : Party)
  /-- HOLD_LOCK, R466: BST CTRL.HOLD_LOCK burns the HOLD_LOCK fuse row. -/
  | holdLock (p : Party)
  /-- HOST_COMPLETION, R492: A completion arrives from the host controller for a read the block issued. -/
  | hostCompletion (tag status : Nat) (data : List Byte)
  /-- HOST_READ_TIMEOUT, R492: A block-issued host read gets no completion within 100 ms. -/
  | hostReadTimeout (tag : Nat)
  /-- HOST_LINK_DOWN, R492: LINK_UP falls and outstanding host reads complete as timeouts. -/
  | hostLinkDown
  /-- DOE_ACCESS, R493: A configuration access reaches the DOE mailbox registers. -/
  | doeAccess (off : Nat) (write : Bool) (v : W32)
  /-- SCAN_MODE_ENTRY, R503: SCAN_MODE rises and the block ignores it or zeroises and connects the scan chains. -/
  | scanModeEntry
  /-- LSQ_PROTOCOL, R321: A sequencer response whose KIND is reserved is discarded, counted in FE_LSQ_BAD and reported as LSQ_PROTOCOL. -/
  | lsqProtocol (seq kind gen id : Nat)
  /-- REGISTER_READ, R41: A register read with behaviour of its own: a bad size or alignment sets BAD_ACCESS, a read outside the party's rights sets PRIV, and a read beyond the header of a gated page wakes its cluster. -/
  | registerRead (p : Party) (addr : Nat) (size : Nat)
  /-- VF_ENABLE_CHANGE, R359: The host controller's VF Enable or NumVFs input changes; clearing VF Enable acts as an FLR of every VF, and the value decides whether a VF returns to LIVE or QUIESCED and whether RELEASE is allowed. -/
  | vfEnableChange (en : Bool) (num : Nat)
  /-- HOST_LINK_UP, R492: LINK_UP rises and the block may again issue egress requests, and the tunnel ingress stays ungated. -/
  | hostLinkUp
  /-- GENERATION_QUARANTINE_END, R443: A compute-only reset that waits at step 1 goes on once 4 ms have passed since the block last left the generation it would enter. -/
  | generationQuarantineEnd
  /-- BURN_DONE, R466: A fuse repair burn finishes its entries, or fails on read-back; BST_BURN_STATUS.DONE is set and hold-up is released. -/
  | burnDone (done : Nat) (failed : Option Nat)
  /-- KO_ACK_TIMEOUT, R494: The IDE engine does not answer a key-out beat within 100 µs, and the IDE_KM request fails under R390. -/
  | koAckTimeout
  /-- UNWRAP_ABANDON, R252: ABANDON is requested for an entry in FILLING; the region is re-initialised, the entry goes to FAILED and the weight key is released. -/
  | unwrapAbandon (entry : Nat)
  deriving DecidableEq, Repr

end Sys2Proof
end

