-- ==== Sys2Proof/Decode.lean ====
section
/-! DEFINITION. The block has no instruction words: the rows of the opcode table give no bits (R1, the table's rows are commands), so
no word spells a command. -/

namespace Sys2Proof

/-- The command that a word of the opcode table spells: no row gives bits, so none. -/
def decodeTableWord (_nbits _w : Nat) : Option Instr := none

end Sys2Proof
end

