-- ==== Sys2Proof/Config.lean ====
section
/-! DEFINITION. What the spec names and does not compute: the values that the TRNG draws, the values the spec leaves open, and the
cryptographic primitives that the spec takes from standards outside it. Every one is a constant without a body, so no claim can
rest on a particular value of it. -/

namespace Sys2Proof

/-- The `n`-th value drawn from the TRNG since power-on (R116, R370, R377, R401). -/
opaque Config.trng : Nat → BitVec 256
/-- The `i`-th further value drawn in place of the `n`-th, when that one is discarded (R263). -/
opaque Config.redraw : Nat → Nat → BitVec 256
/-- A value the spec leaves open; the argument is the model's own counter `draws`. -/
opaque Config.free : Nat → BitVec 64
/-- AES-256 of one block (R179, R235, R236, R263, R398). -/
opaque Config.aes256 : Key256 → BitVec 128 → BitVec 128
/-- AES-128 of one block (R398). -/
opaque Config.aes128 : BitVec 128 → BitVec 128 → BitVec 128
/-- The inverse of AES-128 of one block (R398). -/
opaque Config.aes128Inv : BitVec 128 → BitVec 128 → BitVec 128
/-- The inverse of AES-256 of one block (R263, R398). -/
opaque Config.aes256Inv : Key256 → BitVec 128 → BitVec 128
/-- SHA-384 (R366, R379, R409). -/
opaque Config.sha384 : List Byte → Dig384
/-- HMAC-SHA-384 (R376, R377). -/
opaque Config.hmac : List Byte → List Byte → Dig384
/-- HKDF-Expand over SHA-384: pseudorandom key, info, length in bytes (R116, R366, R377). -/
opaque Config.hkdfExpand : List Byte → List Byte → Nat → List Byte
/-- The public key of a P-384 private key. -/
opaque Config.p384Public : List Byte → List Byte
/-- ECDSA over P-384: private key, message. -/
opaque Config.p384Sign : List Byte → List Byte → List Byte
/-- Does an ECDSA P-384 signature verify: public key, message, signature. -/
opaque Config.p384Verify : List Byte → List Byte → List Byte → Bool
/-- The ECDH shared secret over P-384: private key, public key. -/
opaque Config.p384Shared : List Byte → List Byte → List Byte
/-- The public key of an ML-DSA-87 seed. -/
opaque Config.mldsaPublic : List Byte → List Byte
/-- An ML-DSA-87 signature: seed, message. -/
opaque Config.mldsaSign : List Byte → List Byte → List Byte
/-- Does an ML-DSA-87 signature verify: public key, message, signature. -/
opaque Config.mldsaVerify : List Byte → List Byte → List Byte → Bool
/-- The encapsulation key of an ML-KEM-1024 seed. -/
opaque Config.mlkemPublic : List Byte → List Byte
/-- ML-KEM-1024 decapsulation: seed, ciphertext. -/
opaque Config.mlkemDecaps : List Byte → List Byte → List Byte
/-- The P-384 public key in the DeviceID certificate of a certificate chain (R366); 97 bytes. -/
opaque Config.certKey : List Byte → List Byte
/-- The chain that the block serves: the chain that host software wrote, the Alias certificate, the alias statement (R365, R366). -/
opaque Config.certChain : List Byte → List Byte → List Byte → List Byte
/-- The X.509 certificate of an Alias P-384 public key under a DeviceID P-384 private key (R365). -/
opaque Config.aliasX509 : List Byte → List Byte → List Byte
/-- What the SPDM key schedule derives (R375, R376): shared secret, a number that stands for the transcript, and which: 0 the export master
secret (48 bytes), 1 request key, response key, request IV, response IV (88 bytes). -/
opaque Config.spdmSchedule : List Byte → Nat → Nat → List Byte
/-- The next key and IV (44 bytes) of a direction under the SPDM update rule, from its key (R374, R377). -/
opaque Config.spdmUpdate : List Byte → List Byte
/-- A DOE data object's dwords: session, response code, body (R373, R493). -/
opaque Config.doeObject : Nat → Nat → List Byte → List (BitVec 32)
/-- The nonce from which the direction keys of a sibling port are derived, by instance and port (R116, R495): R116 takes nonces of a training, and
a sibling port has none. -/
opaque Config.sibNonce : Nat → Nat → Nat
/-- The rank or station of a sibling, by its instance (R116, R495): what a block knows of it is in no register and no unit. -/
opaque Config.sibRank : Nat → Nat
/-- The program counter that a SYNC message carries: the cores' instruction flow is not modelled (R425). -/
opaque Config.tracePc : Nat → BitVec 48
/-- What a requester's certificate chain verifies to: its root's hash and its leaf's public key (R376). -/
opaque Config.chainRoot : List Byte → Option (Dig384 × List Byte)
/-- The set of a counter cache that a block maps to, by level × 2^25 + block, modulo the sets (R267 names the ways, not the mapping). -/
opaque Config.cacheSet : Nat → Nat
/-- The offset filter over accepted marks, newest first (R71 names its length, not its weights). -/
opaque Config.offsetFilter : List Int → Int
/-- The rate servo: filtered offset and present rate to the new rate (R71). -/
opaque Config.rateServo : Int → Int → Int
/-- The parent's rate as measured from the last accepted offsets and the own rates at those marks, newest first, as a value of TIME_RATE_ADJ
(R74 names the measurement, not its formula). -/
opaque Config.parentRate : List Int → List Int → Int

end Sys2Proof
end

