-- ==== Sys2Proof/Machine/SMap.lean ====
section
/-! DEFINITION. Sparse tables: reading, writing, erasing. One canonical form: keys strictly rising and no entry equal to the
value that an unlisted key reads as, so that equal tables are equal data. -/

namespace Sys2Proof.Machine

variable {α : Type}

/-- The entry of key `k`, when the table lists one. -/
def SMap.find? (m : SMap α) (k : Nat) : Option α :=
  match m with
  | [] => none
  | (k', v) :: r => if k' = k then some v else SMap.find? r k

/-- What key `k` reads as; `d` is what an unlisted key reads as. -/
def SMap.getD (m : SMap α) (d : α) (k : Nat) : α := (SMap.find? m k).getD d

/-- The table without an entry of key `k`. -/
def SMap.erase (m : SMap α) (k : Nat) : SMap α :=
  match m with
  | [] => []
  | (k', v) :: r => if k' = k then SMap.erase r k else (k', v) :: SMap.erase r k

/-- The table with `(k, v)` put at its place. -/
def SMap.ins (m : SMap α) (k : Nat) (v : α) : SMap α :=
  match m with
  | [] => [(k, v)]
  | (k', v') :: r => if k < k' then (k, v) :: (k', v') :: r else (k', v') :: SMap.ins r k v

/-- Write an entry, listed whatever its value. -/
def SMap.set (m : SMap α) (k : Nat) (v : α) : SMap α := SMap.ins (SMap.erase m k) k v

/-- Write `v` at `k`; writing what an unlisted key reads as removes the entry. -/
def SMap.put [DecidableEq α] (m : SMap α) (d : α) (k : Nat) (v : α) : SMap α :=
  if v = d then SMap.erase m k else SMap.set m k v

/-- Change the value at `k` by `f`. -/
def SMap.modify [DecidableEq α] (m : SMap α) (d : α) (k : Nat) (f : α → α) : SMap α :=
  SMap.put m d k (f (SMap.getD m d k))

/-- The keys from `lo` up to, but not including, `hi` removed: the return of a range to its reset values. -/
def SMap.dropRange (m : SMap α) (lo hi : Nat) : SMap α := m.filter fun e => e.1 < lo || hi ≤ e.1

/-- The keys of a table. -/
def SMap.keys (m : SMap α) : List Nat := m.map Prod.fst

/-- The listed values of a table, in rising order of their keys. -/
def SMap.values (m : SMap α) : List α := m.map Prod.snd

/-- Strictly rising keys. -/
def SMap.sorted (m : SMap α) : Bool :=
  match m with
  | [] => true
  | [_] => true
  | a :: b :: r => decide (a.1 < b.1) && SMap.sorted (b :: r)

/-- The canonical form: rising keys, no entry equal to the unlisted value. -/
def SMap.wf [DecidableEq α] (d : α) (m : SMap α) : Bool := SMap.sorted m && m.all fun e => decide (e.2 ≠ d)

end Sys2Proof.Machine
end

