-- ==== Sys2Proof/Machine/Regs.lean ====
section
/-! DEFINITION. The register window: page families, pages and their slots (R37), and what a field of a register is (R9, R52).
The table of every field stands in RegTable.lean. -/

namespace Sys2Proof.Machine

/-- The page families of R37. -/
inductive Fam where
  | ver | func | cr | key | lcs | time | hlt | trc | cnt | bst | err | ccip | mch
  | gait | gw | coh | cmb | hitch | red | lpt | fe | ctxs | fns | vf
  deriving DecidableEq, Repr

/-- A page: its family and its index within the family (0 for a single page). -/
structure Page where
  fam : Fam
  idx : Nat
  deriving DecidableEq, Repr

/-- PAGE_ID.FAMILY (R37). -/
def Fam.code : Fam → Nat
  | .ver => 0x01 | .func => 0x02 | .cr => 0x03 | .key => 0x04 | .lcs => 0x05 | .time => 0x06 | .hlt => 0x07
  | .trc => 0x08 | .cnt => 0x09 | .bst => 0x0A | .err => 0x0B | .ccip => 0x0C | .mch => 0x10 | .lpt => 0x20
  | .gait => 0x21 | .red => 0x22 | .gw => 0x23 | .coh => 0x24 | .cmb => 0x25 | .hitch => 0x26 | .fe => 0x30
  | .ctxs => 0x31 | .fns => 0x32 | .vf => 0x33

/-- First slot of a family (R37). -/
def Fam.slot0 : Fam → Nat
  | .ver => 0x000 | .func => 0x001 | .cr => 0x002 | .key => 0x003 | .lcs => 0x004 | .time => 0x005 | .hlt => 0x006
  | .trc => 0x007 | .cnt => 0x008 | .bst => 0x009 | .err => 0x00A | .ccip => 0x010 | .mch => 0x020 | .gait => 0x030
  | .gw => 0x031 | .coh => 0x032 | .cmb => 0x033 | .hitch => 0x034 | .red => 0x038 | .lpt => 0x040 | .fe => 0x080
  | .ctxs => 0x081 | .fns => 0x082 | .vf => 0x100

/-- Slots of a family (R37). -/
def Fam.slots : Fam → Nat
  | .ccip => 16 | .mch => 16 | .red => 8 | .lpt => 64 | .vf => 128
  | _ => 1

/-- Every family, in slot order. -/
def Fam.all : List Fam :=
  [.ver, .func, .cr, .key, .lcs, .time, .hlt, .trc, .cnt, .bst, .err, .ccip, .mch, .gait, .gw, .coh, .cmb, .hitch,
   .red, .lpt, .fe, .ctxs, .fns, .vf]

/-- The smallest reset that returns a page to its reset values (R37). -/
inductive Scope where
  | por | block | lr | fr
  deriving DecidableEq, Repr

/-- R37, last column. -/
def Fam.scope : Fam → Scope
  | .lcs => .por | .time => .por
  | .gait => .lr | .gw => .lr | .coh => .lr | .cmb => .lr | .hitch => .lr | .red => .lr | .lpt => .lr
  | .fe => .fr | .ctxs => .fr | .fns => .fr | .vf => .fr
  | _ => .block

/-- The page's first byte in the window; an index runs within its family's slots. -/
def Page.base (p : Page) : Nat := (p.fam.slot0 + p.idx % p.fam.slots) * 0x1000

/-- The page that holds a window slot; a reserved slot holds none. -/
def Page.ofSlot (n : Nat) : Option Page :=
  (Fam.all.find? fun f => f.slot0 ≤ n && n < f.slot0 + f.slots).map fun f => { fam := f, idx := n - f.slot0 }

/-- Single pages. -/
abbrev Page.ver : Page := { fam := .ver, idx := 0 }
abbrev Page.func : Page := { fam := .func, idx := 0 }
abbrev Page.cr : Page := { fam := .cr, idx := 0 }
abbrev Page.key : Page := { fam := .key, idx := 0 }
abbrev Page.lcs : Page := { fam := .lcs, idx := 0 }
abbrev Page.time : Page := { fam := .time, idx := 0 }
abbrev Page.hlt : Page := { fam := .hlt, idx := 0 }
abbrev Page.trc : Page := { fam := .trc, idx := 0 }
abbrev Page.cnt : Page := { fam := .cnt, idx := 0 }
abbrev Page.bst : Page := { fam := .bst, idx := 0 }
abbrev Page.err : Page := { fam := .err, idx := 0 }
abbrev Page.gait : Page := { fam := .gait, idx := 0 }
abbrev Page.gw : Page := { fam := .gw, idx := 0 }
abbrev Page.coh : Page := { fam := .coh, idx := 0 }
abbrev Page.cmb : Page := { fam := .cmb, idx := 0 }
abbrev Page.hitch : Page := { fam := .hitch, idx := 0 }
abbrev Page.fe : Page := { fam := .fe, idx := 0 }
abbrev Page.ctxs : Page := { fam := .ctxs, idx := 0 }
abbrev Page.fns : Page := { fam := .fns, idx := 0 }
/-- Indexed pages. -/
abbrev Page.ccip (n : Nat) : Page := { fam := .ccip, idx := n }
abbrev Page.mch (n : Nat) : Page := { fam := .mch, idx := n }
abbrev Page.red (n : Nat) : Page := { fam := .red, idx := n }
abbrev Page.lpt (n : Nat) : Page := { fam := .lpt, idx := n }
abbrev Page.vf (n : Nat) : Page := { fam := .vf, idx := n }

/-- Access types (R9). -/
inductive Acc where
  | rw | ro | w1c | wo | rwl
  deriving DecidableEq, Repr

/-- How a written value is stored: as it is; clamped; values outside a range replaced; or a reserved encoding, which leaves
the field as it was (R53). -/
inductive Store where
  | asIs
  | clamp (lo hi : Nat)
  | els (lo hi d : Nat)
  | rsvd (lo hi : Nat)
  deriving DecidableEq, Repr

/-- A field of a register: page family, offset in the page, count and stride of an array of registers, first bit and width,
access, reset value, storing rule; `only0` marks a field that page 0 of its family alone holds. -/
structure Field where
  fam : Fam
  off : Nat
  n : Nat
  stride : Nat
  lo : Nat
  w : Nat
  acc : Acc
  rst : Nat
  store : Store
  only0 : Bool
  deriving DecidableEq, Repr

/-- Does the field lie in the register at offset `o` of page `i` of its family? -/
def Field.hits (f : Field) (i o : Nat) : Bool :=
  f.off ≤ o && (if f.n ≤ 1 then o == f.off else (o - f.off) % f.stride == 0 && (o - f.off) / f.stride < f.n)
    && (!f.only0 || i == 0)

/-- Bits `[lo + w - 1 : lo]` of a register, as a number. -/
def fieldOf (v : W32) (lo w : Nat) : Nat := v.toNat / 2 ^ lo % 2 ^ w

/-- A register with bits `[lo + w - 1 : lo]` replaced. -/
def withField (v : W32) (lo w x : Nat) : W32 :=
  BitVec.ofNat 32 (v.toNat - fieldOf v lo w * 2 ^ lo + (x % 2 ^ w) * 2 ^ lo)

end Sys2Proof.Machine
end

