-- ==== Sys2Proof/Machine/RegTable.lean ====
section
/-! DEFINITION. Every register field that the spec gives a page, with its offset, bits, access, reset value and storing rule,
and every page-specific error bit with its severity. From the page tables of R35, R55, R60, R82, R109, R132, R175, R205,
R207, R209, R232, R257, R278, R292, R323, R349, R351, R362, R395, R407, R428, R429, R454, R467, R495 and R496, and the error
tables beside them. The header registers every page shares (R45 to R51) stand in Ops.lean. -/

namespace Sys2Proof.Machine

/-! Fields of the VER page (R55). -/
def Reg.VER_ARCH.MINOR : Field := ⟨.ver, 0x20, 1, 0, 0, 8, .ro, 0x0, .asIs, false⟩
def Reg.VER_ARCH.MAJOR : Field := ⟨.ver, 0x20, 1, 0, 8, 8, .ro, 0x1, .asIs, false⟩
def Reg.VER_RTL.MINOR : Field := ⟨.ver, 0x24, 1, 0, 0, 8, .ro, 0x4, .asIs, false⟩
def Reg.VER_RTL.MAJOR : Field := ⟨.ver, 0x24, 1, 0, 8, 8, .ro, 0x1, .asIs, false⟩
def Reg.VER_FW_SEC.PATCH : Field := ⟨.ver, 0x28, 1, 0, 0, 8, .ro, 0x0, .asIs, false⟩
def Reg.VER_FW_SEC.MINOR : Field := ⟨.ver, 0x28, 1, 0, 8, 8, .ro, 0x0, .asIs, false⟩
def Reg.VER_FW_SEC.MAJOR : Field := ⟨.ver, 0x28, 1, 0, 16, 8, .ro, 0x0, .asIs, false⟩
def Reg.VER_FW_SVC.PATCH : Field := ⟨.ver, 0x2C, 1, 0, 0, 8, .ro, 0x0, .asIs, false⟩
def Reg.VER_FW_SVC.MINOR : Field := ⟨.ver, 0x2C, 1, 0, 8, 8, .ro, 0x0, .asIs, false⟩
def Reg.VER_FW_SVC.MAJOR : Field := ⟨.ver, 0x2C, 1, 0, 16, 8, .ro, 0x0, .asIs, false⟩
def Reg.VER_STRAP.ROLE : Field := ⟨.ver, 0x30, 1, 0, 0, 1, .ro, 0x0, .asIs, false⟩
def Reg.VER_STRAP.INSTANCE : Field := ⟨.ver, 0x30, 1, 0, 1, 2, .ro, 0x0, .asIs, false⟩
def Reg.VER_STRAP.BIST_POLICY : Field := ⟨.ver, 0x30, 1, 0, 3, 1, .ro, 0x0, .asIs, false⟩
def Reg.VER_FMT.FMT_MAP : Field := ⟨.ver, 0x34, 1, 0, 0, 16, .ro, 0x7FF, .asIs, false⟩
def Reg.VER_FORMATS.PKT : Field := ⟨.ver, 0x38, 1, 0, 0, 4, .ro, 0x1, .asIs, false⟩
def Reg.VER_FORMATS.DESC : Field := ⟨.ver, 0x38, 1, 0, 4, 4, .ro, 0x1, .asIs, false⟩
def Reg.VER_FORMATS.GAIT : Field := ⟨.ver, 0x38, 1, 0, 8, 4, .ro, 0x1, .asIs, false⟩
def Reg.VER_FORMATS.LINK : Field := ⟨.ver, 0x38, 1, 0, 12, 4, .ro, 0x1, .asIs, false⟩
def Reg.VER_FORMATS.REPORT : Field := ⟨.ver, 0x38, 1, 0, 16, 4, .ro, 0x1, .asIs, false⟩
def Reg.VER_FEATn.FEAT : Field := ⟨.ver, 0x40, 4, 4, 0, 32, .ro, 0x0, .asIs, false⟩
def Reg.VER_SW_ARCH.MINOR : Field := ⟨.ver, 0x50, 1, 0, 0, 8, .rw, 0x0, .asIs, false⟩
def Reg.VER_SW_ARCH.MAJOR : Field := ⟨.ver, 0x50, 1, 0, 8, 8, .rw, 0x0, .asIs, false⟩
def Reg.VER_NEG.MINOR : Field := ⟨.ver, 0x54, 1, 0, 0, 8, .ro, 0x0, .asIs, false⟩
def Reg.VER_NEG.MAJOR : Field := ⟨.ver, 0x54, 1, 0, 8, 8, .ro, 0x0, .asIs, false⟩
def Reg.VER_NEG.VALID : Field := ⟨.ver, 0x54, 1, 0, 16, 1, .ro, 0x0, .asIs, false⟩
/-- Every field of the VER family. -/
def Reg.verPart0 : List Field :=
  [Reg.VER_ARCH.MINOR, Reg.VER_ARCH.MAJOR, Reg.VER_RTL.MINOR, Reg.VER_RTL.MAJOR, Reg.VER_FW_SEC.PATCH, Reg.VER_FW_SEC.MINOR, Reg.VER_FW_SEC.MAJOR, Reg.VER_FW_SVC.PATCH, Reg.VER_FW_SVC.MINOR, Reg.VER_FW_SVC.MAJOR, Reg.VER_STRAP.ROLE, Reg.VER_STRAP.INSTANCE, Reg.VER_STRAP.BIST_POLICY, Reg.VER_FMT.FMT_MAP, Reg.VER_FORMATS.PKT, Reg.VER_FORMATS.DESC, Reg.VER_FORMATS.GAIT, Reg.VER_FORMATS.LINK, Reg.VER_FORMATS.REPORT, Reg.VER_FEATn.FEAT, Reg.VER_SW_ARCH.MINOR, Reg.VER_SW_ARCH.MAJOR, Reg.VER_NEG.MINOR, Reg.VER_NEG.MAJOR, Reg.VER_NEG.VALID]
def Reg.verFields : List Field := Reg.verPart0

/-! Fields of the FUNC page (R60). -/
def Reg.FUNC_MODE.TREE_WALK : Field := ⟨.func, 0x20, 1, 0, 0, 1, .rwl, 0x0, .asIs, false⟩
def Reg.FUNC_MODE.FARRIER_PACE : Field := ⟨.func, 0x20, 1, 0, 1, 1, .rwl, 0x0, .asIs, false⟩
def Reg.FUNC_MODE.GAIT_SWAP : Field := ⟨.func, 0x20, 1, 0, 2, 1, .rwl, 0x0, .asIs, false⟩
def Reg.FUNC_MODE.SUSPECT_REPLAY : Field := ⟨.func, 0x20, 1, 0, 3, 1, .rwl, 0x0, .asIs, false⟩
def Reg.FUNC_MODE.OBJ_TEARDOWN : Field := ⟨.func, 0x20, 1, 0, 4, 1, .rwl, 0x0, .asIs, false⟩
def Reg.FUNC_MODE.FENCE_NONRES : Field := ⟨.func, 0x20, 1, 0, 5, 1, .rwl, 0x0, .asIs, false⟩
def Reg.FUNC_MODE.REPORT_ASM : Field := ⟨.func, 0x20, 1, 0, 6, 1, .rwl, 0x0, .asIs, false⟩
def Reg.FUNC_MODE.ERR_TRIAGE : Field := ⟨.func, 0x20, 1, 0, 7, 1, .rwl, 0x0, .asIs, false⟩
def Reg.FUNC_MODE.VF_REPROV : Field := ⟨.func, 0x20, 1, 0, 8, 1, .rwl, 0x0, .asIs, false⟩
def Reg.FUNC_MODE.HITCH_MEMBER : Field := ⟨.func, 0x20, 1, 0, 9, 1, .rwl, 0x0, .asIs, false⟩
def Reg.FUNC_ACTIVE.ACTIVE : Field := ⟨.func, 0x24, 1, 0, 0, 10, .ro, 0x0, .asIs, false⟩
def Reg.FUNC_HA_PEND.PEND : Field := ⟨.func, 0x28, 1, 0, 0, 10, .w1c, 0x0, .asIs, false⟩
def Reg.FUNC_FALLBACK.FALLBACK : Field := ⟨.func, 0x2C, 1, 0, 0, 10, .w1c, 0x0, .asIs, false⟩
def Reg.FUNC_HA_TIMEOUT.TIMEOUT_US : Field := ⟨.func, 0x30, 1, 0, 0, 16, .rwl, 0x2710, .clamp 100 65535, false⟩
/-- Every field of the FUNC family. -/
def Reg.funcPart0 : List Field :=
  [Reg.FUNC_MODE.TREE_WALK, Reg.FUNC_MODE.FARRIER_PACE, Reg.FUNC_MODE.GAIT_SWAP, Reg.FUNC_MODE.SUSPECT_REPLAY, Reg.FUNC_MODE.OBJ_TEARDOWN, Reg.FUNC_MODE.FENCE_NONRES, Reg.FUNC_MODE.REPORT_ASM, Reg.FUNC_MODE.ERR_TRIAGE, Reg.FUNC_MODE.VF_REPROV, Reg.FUNC_MODE.HITCH_MEMBER, Reg.FUNC_ACTIVE.ACTIVE, Reg.FUNC_HA_PEND.PEND, Reg.FUNC_FALLBACK.FALLBACK, Reg.FUNC_HA_TIMEOUT.TIMEOUT_US]
def Reg.funcFields : List Field := Reg.funcPart0

/-! Fields of the CR page (R495). -/
def Reg.CR_SIBs_DLY.DLY : Field := ⟨.cr, 0x40, 3, 4, 0, 16, .rwl, 0x0, .asIs, false⟩
def Reg.CR_SIB_STATUS.UP : Field := ⟨.cr, 0x4C, 1, 0, 0, 3, .ro, 0x0, .asIs, false⟩
def Reg.CR_SIB_STATUS.AUTH : Field := ⟨.cr, 0x4C, 1, 0, 3, 3, .ro, 0x0, .asIs, false⟩
/-! Fields of the CR page (R35). -/
def Reg.CR_PWR_CTRL.AUTO_GATE_EN : Field := ⟨.cr, 0x20, 1, 0, 0, 1, .rw, 0x1, .asIs, false⟩
def Reg.CR_PWR_CTRL.MR_OFF_REQ : Field := ⟨.cr, 0x20, 1, 0, 1, 1, .rw, 0x0, .asIs, false⟩
def Reg.CR_PWR_STATUS.MR_STATE : Field := ⟨.cr, 0x24, 1, 0, 0, 2, .ro, 0x0, .asIs, false⟩
def Reg.CR_PWR_STATUS.MR_OFF_REFUSED : Field := ⟨.cr, 0x24, 1, 0, 2, 1, .ro, 0x0, .asIs, false⟩
def Reg.CR_PWR_STATUS.LR_ANY_GATED : Field := ⟨.cr, 0x24, 1, 0, 3, 1, .ro, 0x0, .asIs, false⟩
def Reg.CR_PWR_STATUS.FR_ANY_GATED : Field := ⟨.cr, 0x24, 1, 0, 4, 1, .ro, 0x0, .asIs, false⟩
def Reg.CR_PWR_STATUS.MCH_GATED : Field := ⟨.cr, 0x24, 1, 0, 16, 16, .ro, 0x0, .asIs, false⟩
def Reg.CR_LPT_GATED_LO.LPT_GATED : Field := ⟨.cr, 0x28, 1, 0, 0, 32, .ro, 0x0, .asIs, false⟩
def Reg.CR_LPT_GATED_HI.LPT_GATED : Field := ⟨.cr, 0x2C, 1, 0, 0, 32, .ro, 0x0, .asIs, false⟩
def Reg.CR_CLK_IDLE.IDLE_NS : Field := ⟨.cr, 0x30, 1, 0, 0, 11, .rwl, 0x3E8, .clamp 200 1900, false⟩
def Reg.CR_BUILD0.MCH_COUNT : Field := ⟨.cr, 0x34, 1, 0, 0, 5, .ro, 0x0, .asIs, false⟩
def Reg.CR_BUILD0.LPT_COUNT : Field := ⟨.cr, 0x34, 1, 0, 5, 7, .ro, 0x0, .asIs, false⟩
def Reg.CR_BUILD0.DCP_COUNT : Field := ⟨.cr, 0x34, 1, 0, 12, 7, .ro, 0x0, .asIs, false⟩
def Reg.CR_BUILD0.SIB_COUNT : Field := ⟨.cr, 0x34, 1, 0, 19, 2, .ro, 0x0, .asIs, false⟩
def Reg.CR_BUILD0.MR_BUILT : Field := ⟨.cr, 0x34, 1, 0, 21, 1, .ro, 0x0, .asIs, false⟩
def Reg.CR_BUILD0.CTR_CACHE_HALF : Field := ⟨.cr, 0x34, 1, 0, 22, 1, .ro, 0x0, .asIs, false⟩
def Reg.CR_BUILD0.STAGING_HALF : Field := ⟨.cr, 0x34, 1, 0, 23, 1, .ro, 0x0, .asIs, false⟩
def Reg.CR_BUILD0.INSTANCE : Field := ⟨.cr, 0x34, 1, 0, 24, 2, .ro, 0x0, .asIs, false⟩
def Reg.CR_BUILD0.IS_LEAD : Field := ⟨.cr, 0x34, 1, 0, 26, 1, .ro, 0x0, .asIs, false⟩
def Reg.CR_BUILD1.LSQ_COUNT : Field := ⟨.cr, 0x38, 1, 0, 0, 7, .ro, 0x0, .asIs, false⟩
def Reg.CR_BUILD1.MCH_MAX_GIB : Field := ⟨.cr, 0x38, 1, 0, 7, 8, .ro, 0x0, .asIs, false⟩
/-- Every field of the CR family. -/
def Reg.crPart0 : List Field :=
  [Reg.CR_SIBs_DLY.DLY, Reg.CR_SIB_STATUS.UP, Reg.CR_SIB_STATUS.AUTH, Reg.CR_PWR_CTRL.AUTO_GATE_EN, Reg.CR_PWR_CTRL.MR_OFF_REQ, Reg.CR_PWR_STATUS.MR_STATE, Reg.CR_PWR_STATUS.MR_OFF_REFUSED, Reg.CR_PWR_STATUS.LR_ANY_GATED, Reg.CR_PWR_STATUS.FR_ANY_GATED, Reg.CR_PWR_STATUS.MCH_GATED, Reg.CR_LPT_GATED_LO.LPT_GATED, Reg.CR_LPT_GATED_HI.LPT_GATED, Reg.CR_CLK_IDLE.IDLE_NS, Reg.CR_BUILD0.MCH_COUNT, Reg.CR_BUILD0.LPT_COUNT, Reg.CR_BUILD0.DCP_COUNT, Reg.CR_BUILD0.SIB_COUNT, Reg.CR_BUILD0.MR_BUILT, Reg.CR_BUILD0.CTR_CACHE_HALF, Reg.CR_BUILD0.STAGING_HALF, Reg.CR_BUILD0.INSTANCE, Reg.CR_BUILD0.IS_LEAD, Reg.CR_BUILD1.LSQ_COUNT, Reg.CR_BUILD1.MCH_MAX_GIB]
def Reg.crFields : List Field := Reg.crPart0

/-! Fields of the KEY page (R395). -/
def Reg.KEY_CTRL.END_SESSIONS : Field := ⟨.key, 0x8, 1, 0, 0, 1, .wo, 0x0, .asIs, false⟩
def Reg.KEY_STATUS.ANCHOR_SET : Field := ⟨.key, 0xC, 1, 0, 0, 1, .ro, 0x0, .asIs, false⟩
def Reg.KEY_STATUS.JOINED : Field := ⟨.key, 0xC, 1, 0, 1, 1, .ro, 0x0, .asIs, false⟩
def Reg.KEY_STATUS.CONF : Field := ⟨.key, 0xC, 1, 0, 2, 1, .ro, 0x0, .asIs, false⟩
def Reg.KEY_STATUS.TAMPER_SEEN : Field := ⟨.key, 0xC, 1, 0, 3, 1, .ro, 0x0, .asIs, false⟩
def Reg.KEY_STATUS.TAMPER_NOW : Field := ⟨.key, 0xC, 1, 0, 4, 1, .ro, 0x0, .asIs, false⟩
def Reg.KEY_STATUS.SESSIONS : Field := ⟨.key, 0xC, 1, 0, 5, 3, .ro, 0x0, .asIs, false⟩
def Reg.KEY_JOIN_JOB.JOB_ID : Field := ⟨.key, 0x20, 1, 0, 0, 32, .ro, 0x0, .asIs, false⟩
def Reg.KEY_JOIN_RANK.RANK : Field := ⟨.key, 0x24, 1, 0, 0, 16, .ro, 0x0, .asIs, false⟩
def Reg.KEY_JOIN_RANK.VALID : Field := ⟨.key, 0x24, 1, 0, 16, 1, .ro, 0x0, .asIs, false⟩
def Reg.KEY_DLK_GEN.NEWEST : Field := ⟨.key, 0x28, 1, 0, 0, 16, .ro, 0x0, .asIs, false⟩
def Reg.KEY_DLK_GEN.OLDER : Field := ⟨.key, 0x28, 1, 0, 16, 16, .ro, 0x0, .asIs, false⟩
def Reg.KEY_CERT_BASE_LO.ADDR : Field := ⟨.key, 0x2C, 1, 0, 0, 32, .rwl, 0x0, .asIs, false⟩
def Reg.KEY_CERT_BASE_HI.ADDR : Field := ⟨.key, 0x30, 1, 0, 0, 13, .rwl, 0x0, .asIs, false⟩
def Reg.KEY_CERT_LEN.BYTES : Field := ⟨.key, 0x34, 1, 0, 0, 16, .rwl, 0x0, .asIs, false⟩
def Reg.KEY_HOSTMEAS_BASE_LO.ADDR : Field := ⟨.key, 0x38, 1, 0, 0, 32, .rw, 0x0, .asIs, false⟩
def Reg.KEY_HOSTMEAS_BASE_HI.ADDR : Field := ⟨.key, 0x3C, 1, 0, 0, 13, .rw, 0x0, .asIs, false⟩
def Reg.KEY_HOSTMEAS_COUNT.COUNT : Field := ⟨.key, 0x40, 1, 0, 0, 4, .rw, 0x0, .clamp 0 8, false⟩
def Reg.KEY_HA_DONE.DONE : Field := ⟨.key, 0x44, 1, 0, 0, 1, .wo, 0x0, .asIs, false⟩
def Reg.KEY_LAST_REFUSE.CODE : Field := ⟨.key, 0x48, 1, 0, 0, 8, .ro, 0x0, .asIs, false⟩
def Reg.KEY_LAST_REFUSE.SOURCE : Field := ⟨.key, 0x48, 1, 0, 8, 4, .ro, 0x0, .asIs, false⟩
def Reg.KEY_REPORTS.COUNT : Field := ⟨.key, 0x4C, 1, 0, 0, 32, .ro, 0x0, .asIs, false⟩
def Reg.KEY_RELEASES.COUNT : Field := ⟨.key, 0x50, 1, 0, 0, 32, .ro, 0x0, .asIs, false⟩
def Reg.KEY_SADDLE_OPS.COUNT : Field := ⟨.key, 0x54, 1, 0, 0, 32, .ro, 0x0, .asIs, false⟩
def Reg.KEY_TAMPER_DT_LO.NS_LO : Field := ⟨.key, 0x58, 1, 0, 0, 32, .ro, 0x0, .asIs, false⟩
def Reg.KEY_TAMPER_DT_HI.NS_HI : Field := ⟨.key, 0x5C, 1, 0, 0, 32, .ro, 0x0, .asIs, false⟩
def Reg.KEY_SLOTn.KIND : Field := ⟨.key, 0x100, 32, 4, 0, 4, .ro, 0x0, .asIs, false⟩
def Reg.KEY_SLOTn.STATE : Field := ⟨.key, 0x100, 32, 4, 4, 2, .ro, 0x0, .asIs, false⟩
def Reg.KEY_SLOTn.GEN_MODEL : Field := ⟨.key, 0x100, 32, 4, 6, 16, .ro, 0x0, .asIs, false⟩
def Reg.KEY_TDIk.TDI : Field := ⟨.key, 0x180, 8, 4, 0, 32, .ro, 0x0, .asIs, false⟩
/-- Every field of the KEY family. -/
def Reg.keyPart0 : List Field :=
  [Reg.KEY_CTRL.END_SESSIONS, Reg.KEY_STATUS.ANCHOR_SET, Reg.KEY_STATUS.JOINED, Reg.KEY_STATUS.CONF, Reg.KEY_STATUS.TAMPER_SEEN, Reg.KEY_STATUS.TAMPER_NOW, Reg.KEY_STATUS.SESSIONS, Reg.KEY_JOIN_JOB.JOB_ID, Reg.KEY_JOIN_RANK.RANK, Reg.KEY_JOIN_RANK.VALID, Reg.KEY_DLK_GEN.NEWEST, Reg.KEY_DLK_GEN.OLDER, Reg.KEY_CERT_BASE_LO.ADDR, Reg.KEY_CERT_BASE_HI.ADDR, Reg.KEY_CERT_LEN.BYTES, Reg.KEY_HOSTMEAS_BASE_LO.ADDR, Reg.KEY_HOSTMEAS_BASE_HI.ADDR, Reg.KEY_HOSTMEAS_COUNT.COUNT, Reg.KEY_HA_DONE.DONE, Reg.KEY_LAST_REFUSE.CODE, Reg.KEY_LAST_REFUSE.SOURCE, Reg.KEY_REPORTS.COUNT, Reg.KEY_RELEASES.COUNT, Reg.KEY_SADDLE_OPS.COUNT, Reg.KEY_TAMPER_DT_LO.NS_LO, Reg.KEY_TAMPER_DT_HI.NS_HI, Reg.KEY_SLOTn.KIND, Reg.KEY_SLOTn.STATE, Reg.KEY_SLOTn.GEN_MODEL, Reg.KEY_TDIk.TDI]
def Reg.keyFields : List Field := Reg.keyPart0

/-! Fields of the LCS page (R428). -/
def Reg.LCS_CTRL.EXPORT : Field := ⟨.lcs, 0x8, 1, 0, 0, 1, .wo, 0x0, .asIs, false⟩
def Reg.LCS_STATUS.STATE : Field := ⟨.lcs, 0xC, 1, 0, 0, 3, .ro, 0x0, .asIs, false⟩
def Reg.LCS_STATUS.TOGGLES : Field := ⟨.lcs, 0xC, 1, 0, 3, 5, .ro, 0x0, .asIs, false⟩
def Reg.LCS_STATUS.COMMITTING : Field := ⟨.lcs, 0xC, 1, 0, 8, 1, .ro, 0x0, .asIs, false⟩
def Reg.LCS_STATUS.REPAIRED : Field := ⟨.lcs, 0xC, 1, 0, 9, 1, .ro, 0x0, .asIs, false⟩
def Reg.LCS_STATUS.AUTH_SET : Field := ⟨.lcs, 0xC, 1, 0, 10, 1, .ro, 0x0, .asIs, false⟩
def Reg.LCS_STATUS.UDS_SET : Field := ⟨.lcs, 0xC, 1, 0, 11, 1, .ro, 0x0, .asIs, false⟩
def Reg.LCS_SERIAL_LO.SERIAL : Field := ⟨.lcs, 0x20, 1, 0, 0, 32, .ro, 0x0, .asIs, false⟩
def Reg.LCS_SERIAL_HI.SERIAL : Field := ⟨.lcs, 0x24, 1, 0, 0, 32, .ro, 0x0, .asIs, false⟩
def Reg.LCS_NONCE_LO.NONCE : Field := ⟨.lcs, 0x28, 1, 0, 0, 32, .ro, 0x0, .asIs, false⟩
def Reg.LCS_NONCE_HI.NONCE : Field := ⟨.lcs, 0x2C, 1, 0, 0, 32, .ro, 0x0, .asIs, false⟩
def Reg.LCS_LAST.CODE : Field := ⟨.lcs, 0x30, 1, 0, 0, 8, .ro, 0x0, .asIs, false⟩
def Reg.LCS_LAST.FROM : Field := ⟨.lcs, 0x30, 1, 0, 8, 3, .ro, 0x0, .asIs, false⟩
def Reg.LCS_LAST.TO : Field := ⟨.lcs, 0x30, 1, 0, 11, 3, .ro, 0x0, .asIs, false⟩
def Reg.LCS_COMMIT_US.US : Field := ⟨.lcs, 0x34, 1, 0, 0, 13, .ro, 0x0, .asIs, false⟩
def Reg.LCS_EXPORT_LO.ADDR : Field := ⟨.lcs, 0x38, 1, 0, 0, 32, .rwl, 0x0, .asIs, false⟩
def Reg.LCS_EXPORT_HI.ADDR : Field := ⟨.lcs, 0x3C, 1, 0, 0, 13, .rwl, 0x0, .asIs, false⟩
def Reg.LCS_EXPORT_STATUS.CODE : Field := ⟨.lcs, 0x40, 1, 0, 0, 8, .ro, 0x0, .asIs, false⟩
def Reg.LCS_EXPORT_STATUS.DONE : Field := ⟨.lcs, 0x40, 1, 0, 8, 1, .ro, 0x0, .asIs, false⟩
def Reg.LCS_MARGIN.BITS : Field := ⟨.lcs, 0x44, 1, 0, 0, 16, .ro, 0x0, .asIs, false⟩
def Reg.LCS_MARGIN.DISAGREE : Field := ⟨.lcs, 0x44, 1, 0, 16, 1, .ro, 0x0, .asIs, false⟩
/-- Every field of the LCS family. -/
def Reg.lcsPart0 : List Field :=
  [Reg.LCS_CTRL.EXPORT, Reg.LCS_STATUS.STATE, Reg.LCS_STATUS.TOGGLES, Reg.LCS_STATUS.COMMITTING, Reg.LCS_STATUS.REPAIRED, Reg.LCS_STATUS.AUTH_SET, Reg.LCS_STATUS.UDS_SET, Reg.LCS_SERIAL_LO.SERIAL, Reg.LCS_SERIAL_HI.SERIAL, Reg.LCS_NONCE_LO.NONCE, Reg.LCS_NONCE_HI.NONCE, Reg.LCS_LAST.CODE, Reg.LCS_LAST.FROM, Reg.LCS_LAST.TO, Reg.LCS_COMMIT_US.US, Reg.LCS_EXPORT_LO.ADDR, Reg.LCS_EXPORT_HI.ADDR, Reg.LCS_EXPORT_STATUS.CODE, Reg.LCS_EXPORT_STATUS.DONE, Reg.LCS_MARGIN.BITS, Reg.LCS_MARGIN.DISAGREE]
def Reg.lcsFields : List Field := Reg.lcsPart0

/-! Fields of the TIME page (R82). -/
def Reg.TIME_CTRL.STEER_EN : Field := ⟨.time, 0x8, 1, 0, 0, 1, .rwl, 0x1, .asIs, false⟩
def Reg.TIME_CTRL.SOURCE : Field := ⟨.time, 0x8, 1, 0, 1, 1, .rwl, 0x0, .asIs, false⟩
def Reg.TIME_CTRL.STEP_ALLOW : Field := ⟨.time, 0x8, 1, 0, 2, 1, .rw, 0x0, .asIs, false⟩
def Reg.TIME_CTRL.PPS_OUT_EN : Field := ⟨.time, 0x8, 1, 0, 3, 1, .rw, 0x0, .asIs, false⟩
def Reg.TIME_STATUS.STATE : Field := ⟨.time, 0xC, 1, 0, 0, 2, .ro, 0x0, .asIs, false⟩
def Reg.TIME_STATUS.IS_GM : Field := ⟨.time, 0xC, 1, 0, 2, 1, .ro, 0x0, .asIs, false⟩
def Reg.TIME_STATUS.HOPS : Field := ⟨.time, 0xC, 1, 0, 3, 4, .ro, 0xF, .asIs, false⟩
def Reg.TIME_STATUS.PARENT : Field := ⟨.time, 0xC, 1, 0, 7, 6, .ro, 0x0, .asIs, false⟩
def Reg.TIME_STATUS.PARENT_VALID : Field := ⟨.time, 0xC, 1, 0, 13, 1, .ro, 0x0, .asIs, false⟩
def Reg.TIME_STATUS.PPS_PRESENT : Field := ⟨.time, 0xC, 1, 0, 14, 1, .ro, 0x0, .asIs, false⟩
def Reg.TIME_STATUS.GAIT_DIST : Field := ⟨.time, 0xC, 1, 0, 15, 4, .ro, 0xF, .asIs, false⟩
def Reg.TIME_STATUS.PARENT_SIB : Field := ⟨.time, 0xC, 1, 0, 19, 1, .ro, 0x0, .asIs, false⟩
def Reg.TIME_NOW_LO.NS_LO : Field := ⟨.time, 0x20, 1, 0, 0, 32, .ro, 0x0, .asIs, false⟩
def Reg.TIME_NOW_HI.NS_HI : Field := ⟨.time, 0x24, 1, 0, 0, 32, .ro, 0x0, .asIs, false⟩
def Reg.TIME_NOW_FRAC.FRAC : Field := ⟨.time, 0x28, 1, 0, 0, 8, .ro, 0x0, .asIs, false⟩
def Reg.TIME_GM_CFG.PRIO : Field := ⟨.time, 0x2C, 1, 0, 0, 8, .rwl, 0xFF, .asIs, false⟩
def Reg.TIME_GM_ID.RANK : Field := ⟨.time, 0x30, 1, 0, 0, 15, .ro, 0x0, .asIs, false⟩
def Reg.TIME_GM_ID.PRIO : Field := ⟨.time, 0x30, 1, 0, 15, 8, .ro, 0x0, .asIs, false⟩
def Reg.TIME_GM_ID.VALID : Field := ⟨.time, 0x30, 1, 0, 23, 1, .ro, 0x0, .asIs, false⟩
def Reg.TIME_GM_TERM.TERM : Field := ⟨.time, 0x34, 1, 0, 0, 16, .ro, 0x0, .asIs, false⟩
def Reg.TIME_ERR_EST.EST : Field := ⟨.time, 0x38, 1, 0, 0, 32, .ro, 0xFFFFFFFF, .asIs, false⟩
def Reg.TIME_RATE_ADJ.RATE : Field := ⟨.time, 0x3C, 1, 0, 0, 32, .ro, 0x0, .asIs, false⟩
def Reg.TIME_HOLD_MAX.US : Field := ⟨.time, 0x40, 1, 0, 0, 10, .rwl, 0x3E8, .clamp 100 1000, false⟩
def Reg.TIME_STEP_COUNT.COUNT : Field := ⟨.time, 0x44, 1, 0, 0, 16, .ro, 0x0, .asIs, false⟩
def Reg.TIME_TOD_NEXT_LO.NS : Field := ⟨.time, 0x48, 1, 0, 0, 32, .rw, 0x0, .asIs, false⟩
def Reg.TIME_TOD_NEXT_HI.NS : Field := ⟨.time, 0x4C, 1, 0, 0, 32, .rw, 0x0, .asIs, false⟩
def Reg.TIME_PPS_LAST_LO.NS_LO : Field := ⟨.time, 0x50, 1, 0, 0, 32, .ro, 0x0, .asIs, false⟩
def Reg.TIME_PPS_LAST_HI.NS_HI : Field := ⟨.time, 0x54, 1, 0, 0, 32, .ro, 0x0, .asIs, false⟩
def Reg.TIME_PPS_LAST_FRAC.FRAC : Field := ⟨.time, 0x58, 1, 0, 0, 8, .ro, 0x0, .asIs, false⟩
def Reg.TIME_PPS_ERR.ERR : Field := ⟨.time, 0x5C, 1, 0, 0, 32, .ro, 0x0, .asIs, false⟩
def Reg.TIME_PORTn_CFG.TIME_EN : Field := ⟨.time, 0x400, 64, 32, 0, 1, .rwl, 0x1, .asIs, false⟩
def Reg.TIME_PORTn_CFG.PARENT_OK : Field := ⟨.time, 0x400, 64, 32, 1, 1, .rwl, 0x1, .asIs, false⟩
def Reg.TIME_PORTn_TXDLY.DLY : Field := ⟨.time, 0x404, 64, 32, 0, 20, .rwl, 0x0, .asIs, false⟩
def Reg.TIME_PORTn_RXDLY.DLY : Field := ⟨.time, 0x408, 64, 32, 0, 20, .rwl, 0x0, .asIs, false⟩
def Reg.TIME_PORTn_ASYM.ASYM : Field := ⟨.time, 0x40C, 64, 32, 0, 32, .rwl, 0x0, .asIs, false⟩
def Reg.TIME_PORTn_RTT.CABLE : Field := ⟨.time, 0x410, 64, 32, 0, 32, .ro, 0x0, .asIs, false⟩
def Reg.TIME_PORTn_OFFSET.THETA : Field := ⟨.time, 0x414, 64, 32, 0, 32, .ro, 0x0, .asIs, false⟩
def Reg.TIME_PORTn_STAT.ACCEPTED : Field := ⟨.time, 0x418, 64, 32, 0, 16, .ro, 0x0, .asIs, false⟩
def Reg.TIME_PORTn_STAT.OUTLIERS : Field := ⟨.time, 0x418, 64, 32, 16, 8, .ro, 0x0, .asIs, false⟩
def Reg.TIME_PORTn_STAT.PEER_STATE : Field := ⟨.time, 0x418, 64, 32, 24, 2, .ro, 0x0, .asIs, false⟩
def Reg.TIME_PORTn_STAT.PEER_HOPS : Field := ⟨.time, 0x418, 64, 32, 26, 4, .ro, 0xF, .asIs, false⟩
def Reg.TIME_PORTn_STAT.CAL_OK : Field := ⟨.time, 0x418, 64, 32, 30, 1, .ro, 0x0, .asIs, false⟩
def Reg.TIME_PORTn_STAT.AUTH : Field := ⟨.time, 0x418, 64, 32, 31, 1, .ro, 0x0, .asIs, false⟩
/-! Fields of the TIME page (R496). -/
def Reg.TIME_SIBs_CFG.TIME_EN : Field := ⟨.time, 0xC00, 3, 32, 0, 1, .rwl, 0x1, .asIs, false⟩
def Reg.TIME_SIBs_CFG.PARENT_OK : Field := ⟨.time, 0xC00, 3, 32, 1, 1, .rwl, 0x1, .asIs, false⟩
def Reg.TIME_SIBs_RTT.RTT : Field := ⟨.time, 0xC10, 3, 32, 0, 32, .ro, 0x0, .asIs, false⟩
def Reg.TIME_SIBs_OFFSET.THETA : Field := ⟨.time, 0xC14, 3, 32, 0, 32, .ro, 0x0, .asIs, false⟩
def Reg.TIME_SIBs_STAT.ACCEPTED : Field := ⟨.time, 0xC18, 3, 32, 0, 16, .ro, 0x0, .asIs, false⟩
def Reg.TIME_SIBs_STAT.OUTLIERS : Field := ⟨.time, 0xC18, 3, 32, 16, 8, .ro, 0x0, .asIs, false⟩
def Reg.TIME_SIBs_STAT.PEER_STATE : Field := ⟨.time, 0xC18, 3, 32, 24, 2, .ro, 0x0, .asIs, false⟩
def Reg.TIME_SIBs_STAT.PEER_HOPS : Field := ⟨.time, 0xC18, 3, 32, 26, 4, .ro, 0xF, .asIs, false⟩
def Reg.TIME_SIBs_STAT.CAL_OK : Field := ⟨.time, 0xC18, 3, 32, 30, 1, .ro, 0x0, .asIs, false⟩
def Reg.TIME_SIBs_STAT.AUTH : Field := ⟨.time, 0xC18, 3, 32, 31, 1, .ro, 0x0, .asIs, false⟩
/-- Every field of the TIME family. -/
def Reg.timePart0 : List Field :=
  [Reg.TIME_CTRL.STEER_EN, Reg.TIME_CTRL.SOURCE, Reg.TIME_CTRL.STEP_ALLOW, Reg.TIME_CTRL.PPS_OUT_EN, Reg.TIME_STATUS.STATE, Reg.TIME_STATUS.IS_GM, Reg.TIME_STATUS.HOPS, Reg.TIME_STATUS.PARENT, Reg.TIME_STATUS.PARENT_VALID, Reg.TIME_STATUS.PPS_PRESENT, Reg.TIME_STATUS.GAIT_DIST, Reg.TIME_STATUS.PARENT_SIB, Reg.TIME_NOW_LO.NS_LO, Reg.TIME_NOW_HI.NS_HI, Reg.TIME_NOW_FRAC.FRAC, Reg.TIME_GM_CFG.PRIO, Reg.TIME_GM_ID.RANK, Reg.TIME_GM_ID.PRIO, Reg.TIME_GM_ID.VALID, Reg.TIME_GM_TERM.TERM, Reg.TIME_ERR_EST.EST, Reg.TIME_RATE_ADJ.RATE, Reg.TIME_HOLD_MAX.US, Reg.TIME_STEP_COUNT.COUNT, Reg.TIME_TOD_NEXT_LO.NS, Reg.TIME_TOD_NEXT_HI.NS, Reg.TIME_PPS_LAST_LO.NS_LO, Reg.TIME_PPS_LAST_HI.NS_HI, Reg.TIME_PPS_LAST_FRAC.FRAC, Reg.TIME_PPS_ERR.ERR]
def Reg.timePart1 : List Field :=
  [Reg.TIME_PORTn_CFG.TIME_EN, Reg.TIME_PORTn_CFG.PARENT_OK, Reg.TIME_PORTn_TXDLY.DLY, Reg.TIME_PORTn_RXDLY.DLY, Reg.TIME_PORTn_ASYM.ASYM, Reg.TIME_PORTn_RTT.CABLE, Reg.TIME_PORTn_OFFSET.THETA, Reg.TIME_PORTn_STAT.ACCEPTED, Reg.TIME_PORTn_STAT.OUTLIERS, Reg.TIME_PORTn_STAT.PEER_STATE, Reg.TIME_PORTn_STAT.PEER_HOPS, Reg.TIME_PORTn_STAT.CAL_OK, Reg.TIME_PORTn_STAT.AUTH, Reg.TIME_SIBs_CFG.TIME_EN, Reg.TIME_SIBs_CFG.PARENT_OK, Reg.TIME_SIBs_RTT.RTT, Reg.TIME_SIBs_OFFSET.THETA, Reg.TIME_SIBs_STAT.ACCEPTED, Reg.TIME_SIBs_STAT.OUTLIERS, Reg.TIME_SIBs_STAT.PEER_STATE, Reg.TIME_SIBs_STAT.PEER_HOPS, Reg.TIME_SIBs_STAT.CAL_OK, Reg.TIME_SIBs_STAT.AUTH]
def Reg.timeFields : List Field := Reg.timePart0 ++ Reg.timePart1

/-! Fields of the HLT page (R429). -/
def Reg.HLT_CTRL.EN : Field := ⟨.hlt, 0x8, 1, 0, 0, 1, .rwl, 0x1, .asIs, false⟩
def Reg.HLT_STATUS.LEVEL : Field := ⟨.hlt, 0xC, 1, 0, 0, 2, .ro, 0x0, .asIs, false⟩
def Reg.HLT_STATUS.BUSY : Field := ⟨.hlt, 0xC, 1, 0, 2, 1, .ro, 0x0, .asIs, false⟩
def Reg.HLT_BAUD.DIV : Field := ⟨.hlt, 0x20, 1, 0, 0, 20, .rwl, 0x3641, .clamp 533 13889, false⟩
def Reg.HLT_CMDS.COUNT : Field := ⟨.hlt, 0x24, 1, 0, 0, 32, .ro, 0x0, .asIs, false⟩
def Reg.HLT_LAST.CMD : Field := ⟨.hlt, 0x28, 1, 0, 0, 8, .ro, 0x0, .asIs, false⟩
def Reg.HLT_LAST.ERR : Field := ⟨.hlt, 0x28, 1, 0, 8, 8, .ro, 0x0, .asIs, false⟩
/-- Every field of the HLT family. -/
def Reg.hltPart0 : List Field :=
  [Reg.HLT_CTRL.EN, Reg.HLT_STATUS.LEVEL, Reg.HLT_STATUS.BUSY, Reg.HLT_BAUD.DIV, Reg.HLT_CMDS.COUNT, Reg.HLT_LAST.CMD, Reg.HLT_LAST.ERR]
def Reg.hltFields : List Field := Reg.hltPart0

/-! Fields of the TRC page (R429). -/
def Reg.TRC_CTRL.EN : Field := ⟨.trc, 0x8, 1, 0, 0, 1, .rw, 0x0, .asIs, false⟩
def Reg.TRC_CTRL.SRC : Field := ⟨.trc, 0x8, 1, 0, 1, 2, .rw, 0x0, .rsvd 0 2, false⟩
def Reg.TRC_CTRL.TS_EN : Field := ⟨.trc, 0x8, 1, 0, 3, 1, .rw, 0x1, .asIs, false⟩
def Reg.TRC_STATUS.RUNNING : Field := ⟨.trc, 0xC, 1, 0, 0, 1, .ro, 0x0, .asIs, false⟩
def Reg.TRC_STATUS.SEC_BLOCKED : Field := ⟨.trc, 0xC, 1, 0, 1, 1, .ro, 0x0, .asIs, false⟩
def Reg.TRC_SYNC_PERIOD.MSGS : Field := ⟨.trc, 0x20, 1, 0, 0, 16, .rw, 0x400, .clamp 64 65535, false⟩
def Reg.TRC_OVERFLOW.COUNT : Field := ⟨.trc, 0x24, 1, 0, 0, 32, .ro, 0x0, .asIs, false⟩
/-- Every field of the TRC family. -/
def Reg.trcPart0 : List Field :=
  [Reg.TRC_CTRL.EN, Reg.TRC_CTRL.SRC, Reg.TRC_CTRL.TS_EN, Reg.TRC_STATUS.RUNNING, Reg.TRC_STATUS.SEC_BLOCKED, Reg.TRC_SYNC_PERIOD.MSGS, Reg.TRC_OVERFLOW.COUNT]
def Reg.trcFields : List Field := Reg.trcPart0

/-! Fields of the CNT page (R429). -/
def Reg.CNT_CTRL.SNAP : Field := ⟨.cnt, 0x8, 1, 0, 0, 1, .wo, 0x0, .asIs, false⟩
def Reg.CNT_CTRL.CLEAR : Field := ⟨.cnt, 0x8, 1, 0, 1, 1, .wo, 0x0, .asIs, false⟩
def Reg.CNT_STATUS.SNAP_DONE : Field := ⟨.cnt, 0xC, 1, 0, 0, 1, .ro, 0x0, .asIs, false⟩
def Reg.CNT_STATUS.FROZEN : Field := ⟨.cnt, 0xC, 1, 0, 1, 1, .ro, 0x0, .asIs, false⟩
def Reg.CNT_SNAP_DT_LO.NS : Field := ⟨.cnt, 0x20, 1, 0, 0, 32, .ro, 0x0, .asIs, false⟩
def Reg.CNT_SNAP_DT_HI.NS : Field := ⟨.cnt, 0x24, 1, 0, 0, 32, .ro, 0x0, .asIs, false⟩
def Reg.CNT_i_LO.COUNT : Field := ⟨.cnt, 0x100, 64, 8, 0, 32, .ro, 0x0, .asIs, false⟩
def Reg.CNT_i_HI.COUNT : Field := ⟨.cnt, 0x104, 64, 8, 0, 32, .ro, 0x0, .asIs, false⟩
/-- Every field of the CNT family. -/
def Reg.cntPart0 : List Field :=
  [Reg.CNT_CTRL.SNAP, Reg.CNT_CTRL.CLEAR, Reg.CNT_STATUS.SNAP_DONE, Reg.CNT_STATUS.FROZEN, Reg.CNT_SNAP_DT_LO.NS, Reg.CNT_SNAP_DT_HI.NS, Reg.CNT_i_LO.COUNT, Reg.CNT_i_HI.COUNT]
def Reg.cntFields : List Field := Reg.cntPart0

/-! Fields of the BST page (R467). -/
def Reg.BST_CTRL.RUN : Field := ⟨.bst, 0x8, 1, 0, 0, 1, .wo, 0x0, .asIs, false⟩
def Reg.BST_CTRL.ABORT : Field := ⟨.bst, 0x8, 1, 0, 1, 1, .wo, 0x0, .asIs, false⟩
def Reg.BST_CTRL.BURN : Field := ⟨.bst, 0x8, 1, 0, 2, 1, .wo, 0x0, .asIs, false⟩
def Reg.BST_CTRL.HOLD_LOCK : Field := ⟨.bst, 0x8, 1, 0, 3, 1, .wo, 0x0, .asIs, false⟩
def Reg.BST_STATUS.STATE : Field := ⟨.bst, 0xC, 1, 0, 0, 2, .ro, 0x0, .asIs, false⟩
def Reg.BST_STATUS.DONE : Field := ⟨.bst, 0xC, 1, 0, 2, 1, .ro, 0x0, .asIs, false⟩
def Reg.BST_STATUS.PASS : Field := ⟨.bst, 0xC, 1, 0, 3, 1, .ro, 0x0, .asIs, false⟩
def Reg.BST_STATUS.POLICY : Field := ⟨.bst, 0xC, 1, 0, 4, 1, .ro, 0x0, .asIs, false⟩
def Reg.BST_STATUS.BURNING : Field := ⟨.bst, 0xC, 1, 0, 5, 1, .ro, 0x0, .asIs, false⟩
def Reg.BST_TARGET.CLUSTER : Field := ⟨.bst, 0x20, 1, 0, 0, 7, .rw, 0x0, .asIs, false⟩
def Reg.BST_TARGET.LBIST : Field := ⟨.bst, 0x20, 1, 0, 7, 1, .rw, 0x0, .asIs, false⟩
def Reg.BST_TARGET.MBIST : Field := ⟨.bst, 0x20, 1, 0, 8, 1, .rw, 0x0, .asIs, false⟩
def Reg.BST_TARGET.SAVE : Field := ⟨.bst, 0x20, 1, 0, 9, 1, .rw, 0x0, .asIs, false⟩
def Reg.BST_CFG.ECLK_HALF : Field := ⟨.bst, 0x24, 1, 0, 0, 1, .rwl, 0x0, .asIs, false⟩
def Reg.BST_RESULT.CODE : Field := ⟨.bst, 0x28, 1, 0, 0, 8, .ro, 0x0, .asIs, false⟩
def Reg.BST_RESULT.FAILS : Field := ⟨.bst, 0x28, 1, 0, 8, 6, .ro, 0x0, .asIs, false⟩
def Reg.BST_RESULT.LBIST_FAIL : Field := ⟨.bst, 0x28, 1, 0, 14, 1, .ro, 0x0, .asIs, false⟩
def Reg.BST_RESULT.MBIST_FAIL : Field := ⟨.bst, 0x28, 1, 0, 15, 1, .ro, 0x0, .asIs, false⟩
def Reg.BST_RESULT.SOFT_REPAIRED : Field := ⟨.bst, 0x28, 1, 0, 16, 1, .ro, 0x0, .asIs, false⟩
def Reg.BST_RESULT.UNREPAIRABLE : Field := ⟨.bst, 0x28, 1, 0, 17, 1, .ro, 0x0, .asIs, false⟩
def Reg.BST_SAVE_LO.ADDR : Field := ⟨.bst, 0x2C, 1, 0, 0, 32, .rwl, 0x0, .asIs, false⟩
def Reg.BST_SAVE_HI.ADDR : Field := ⟨.bst, 0x30, 1, 0, 0, 13, .rwl, 0x0, .asIs, false⟩
def Reg.BST_REPAIRS.SOFT : Field := ⟨.bst, 0x34, 1, 0, 0, 8, .ro, 0x0, .asIs, false⟩
def Reg.BST_REPAIRS.FUSE : Field := ⟨.bst, 0x34, 1, 0, 8, 8, .ro, 0x0, .asIs, false⟩
def Reg.BST_REPAIRS.BLANK : Field := ⟨.bst, 0x34, 1, 0, 16, 8, .ro, 0x0, .asIs, false⟩
def Reg.BST_REPAIRS.VOID : Field := ⟨.bst, 0x34, 1, 0, 24, 8, .ro, 0x0, .asIs, false⟩
def Reg.BST_BURN_STATUS.CODE : Field := ⟨.bst, 0x38, 1, 0, 0, 8, .ro, 0x0, .asIs, false⟩
def Reg.BST_BURN_STATUS.DONE : Field := ⟨.bst, 0x38, 1, 0, 8, 1, .ro, 0x0, .asIs, false⟩
def Reg.BST_LOGe_LO.UNIT : Field := ⟨.bst, 0x100, 32, 8, 0, 19, .ro, 0x0, .asIs, false⟩
def Reg.BST_LOGe_LO.KIND : Field := ⟨.bst, 0x100, 32, 8, 19, 1, .ro, 0x0, .asIs, false⟩
def Reg.BST_LOGe_LO.REPAIRED : Field := ⟨.bst, 0x100, 32, 8, 20, 1, .ro, 0x0, .asIs, false⟩
def Reg.BST_LOGe_LO.FUSE_PENDING : Field := ⟨.bst, 0x100, 32, 8, 21, 1, .ro, 0x0, .asIs, false⟩
def Reg.BST_LOGe_LO.VALID : Field := ⟨.bst, 0x100, 32, 8, 22, 1, .ro, 0x0, .asIs, false⟩
def Reg.BST_LOGe_HI.ROW : Field := ⟨.bst, 0x104, 32, 8, 0, 20, .ro, 0x0, .asIs, false⟩
def Reg.BST_LOGe_HI.BIT : Field := ⟨.bst, 0x104, 32, 8, 20, 8, .ro, 0x0, .asIs, false⟩
/-- Every field of the BST family. -/
def Reg.bstPart0 : List Field :=
  [Reg.BST_CTRL.RUN, Reg.BST_CTRL.ABORT, Reg.BST_CTRL.BURN, Reg.BST_CTRL.HOLD_LOCK, Reg.BST_STATUS.STATE, Reg.BST_STATUS.DONE, Reg.BST_STATUS.PASS, Reg.BST_STATUS.POLICY, Reg.BST_STATUS.BURNING, Reg.BST_TARGET.CLUSTER, Reg.BST_TARGET.LBIST, Reg.BST_TARGET.MBIST, Reg.BST_TARGET.SAVE, Reg.BST_CFG.ECLK_HALF, Reg.BST_RESULT.CODE, Reg.BST_RESULT.FAILS, Reg.BST_RESULT.LBIST_FAIL, Reg.BST_RESULT.MBIST_FAIL, Reg.BST_RESULT.SOFT_REPAIRED, Reg.BST_RESULT.UNREPAIRABLE, Reg.BST_SAVE_LO.ADDR, Reg.BST_SAVE_HI.ADDR, Reg.BST_REPAIRS.SOFT, Reg.BST_REPAIRS.FUSE, Reg.BST_REPAIRS.BLANK, Reg.BST_REPAIRS.VOID, Reg.BST_BURN_STATUS.CODE, Reg.BST_BURN_STATUS.DONE, Reg.BST_LOGe_LO.UNIT, Reg.BST_LOGe_LO.KIND]
def Reg.bstPart1 : List Field :=
  [Reg.BST_LOGe_LO.REPAIRED, Reg.BST_LOGe_LO.FUSE_PENDING, Reg.BST_LOGe_LO.VALID, Reg.BST_LOGe_HI.ROW, Reg.BST_LOGe_HI.BIT]
def Reg.bstFields : List Field := Reg.bstPart0 ++ Reg.bstPart1

/-! Fields of the ERR page (R454). -/
def Reg.ERR_CTRL.INST_RESET : Field := ⟨.err, 0x8, 1, 0, 0, 1, .wo, 0x0, .asIs, false⟩
def Reg.ERR_CTRL.CRST_NOW : Field := ⟨.err, 0x8, 1, 0, 1, 1, .wo, 0x0, .asIs, false⟩
def Reg.ERR_STATUS.ISTATE : Field := ⟨.err, 0xC, 1, 0, 0, 3, .ro, 0x0, .asIs, false⟩
def Reg.ERR_STATUS.TRIAGE_PEND : Field := ⟨.err, 0xC, 1, 0, 3, 1, .ro, 0x0, .asIs, false⟩
def Reg.ERR_STATUS.UNREAD : Field := ⟨.err, 0xC, 1, 0, 8, 7, .ro, 0x0, .asIs, false⟩
def Reg.ERR_CFG.AUTO_RESET : Field := ⟨.err, 0x20, 1, 0, 0, 1, .rwl, 0x1, .asIs, false⟩
def Reg.ERR_CFG.LOCKSTEP_OFF : Field := ⟨.err, 0x20, 1, 0, 1, 1, .rwl, 0x0, .asIs, false⟩
def Reg.ERR_CFG.IRQ_MIN_SEV : Field := ⟨.err, 0x20, 1, 0, 2, 3, .rwl, 0x1, .clamp 0 4, false⟩
def Reg.ERR_CFG.OOS_HOLD_MS : Field := ⟨.err, 0x20, 1, 0, 8, 10, .rwl, 0x64, .clamp 10 1023, false⟩
def Reg.ERR_WD_CFG.GRACE_US : Field := ⟨.err, 0x24, 1, 0, 0, 16, .rwl, 0x64, .clamp 10 65535, false⟩
def Reg.ERR_WD_CFG.HB_MISS : Field := ⟨.err, 0x24, 1, 0, 16, 4, .rwl, 0x4, .clamp 2 15, false⟩
def Reg.ERR_CRST_CFG.HOLD_US : Field := ⟨.err, 0x28, 1, 0, 0, 8, .rwl, 0xA, .clamp 1 255, false⟩
def Reg.ERR_CRST_CFG.REPLAY_MAX : Field := ⟨.err, 0x28, 1, 0, 8, 4, .rwl, 0x2, .asIs, false⟩
def Reg.ERR_CRST_CFG.PERSIST_PROBE_US : Field := ⟨.err, 0x28, 1, 0, 12, 16, .rwl, 0x3E8, .clamp 100 65535, false⟩
def Reg.ERR_ESC_CFG.COUNT : Field := ⟨.err, 0x2C, 1, 0, 0, 4, .rwl, 0x3, .clamp 1 15, false⟩
def Reg.ERR_ESC_CFG.WINDOW_S : Field := ⟨.err, 0x2C, 1, 0, 4, 8, .rwl, 0x3C, .clamp 1 255, false⟩
def Reg.ERR_ESC_STATE.RECENT : Field := ⟨.err, 0x30, 1, 0, 0, 4, .ro, 0x0, .asIs, false⟩
def Reg.ERR_ESC_STATE.REPLAY_RESETS : Field := ⟨.err, 0x30, 1, 0, 4, 4, .ro, 0x0, .asIs, false⟩
def Reg.ERR_ESC_STATE.CRST_TOTAL : Field := ⟨.err, 0x30, 1, 0, 16, 16, .ro, 0x0, .asIs, false⟩
def Reg.ERR_BOOT.CODE : Field := ⟨.err, 0x34, 1, 0, 0, 8, .ro, 0x0, .asIs, false⟩
def Reg.ERR_REC_WPTR.WPTR : Field := ⟨.err, 0x38, 1, 0, 0, 16, .ro, 0x0, .asIs, false⟩
def Reg.ERR_REC_RPTR.RPTR : Field := ⟨.err, 0x3C, 1, 0, 0, 16, .rw, 0x0, .asIs, false⟩
def Reg.ERR_REC_LOST.COUNT : Field := ⟨.err, 0x40, 1, 0, 0, 32, .ro, 0x0, .asIs, false⟩
def Reg.ERR_STALE_GEN.COUNT : Field := ⟨.err, 0x44, 1, 0, 0, 32, .ro, 0x0, .asIs, false⟩
def Reg.ERR_SUSPECTS.COUNT : Field := ⟨.err, 0x48, 1, 0, 0, 11, .ro, 0x0, .asIs, false⟩
def Reg.ERR_SUSPECTS.LEFT : Field := ⟨.err, 0x48, 1, 0, 11, 11, .ro, 0x0, .asIs, false⟩
def Reg.ERR_SUSPECT_SEL.INDEX : Field := ⟨.err, 0x4C, 1, 0, 0, 11, .rw, 0x0, .asIs, false⟩
def Reg.ERR_SUSPECT_INFO.CTX : Field := ⟨.err, 0x50, 1, 0, 0, 12, .ro, 0x0, .asIs, false⟩
def Reg.ERR_SUSPECT_INFO.QUEUE : Field := ⟨.err, 0x50, 1, 0, 12, 13, .ro, 0x0, .asIs, false⟩
def Reg.ERR_SUSPECT_INFO.PERSIST : Field := ⟨.err, 0x50, 1, 0, 25, 1, .ro, 0x0, .asIs, false⟩
def Reg.ERR_SUSPECT_INFO.STATE : Field := ⟨.err, 0x50, 1, 0, 26, 2, .ro, 0x0, .asIs, false⟩
def Reg.ERR_SUSPECT_CMD.INDEX : Field := ⟨.err, 0x54, 1, 0, 0, 11, .wo, 0x0, .asIs, false⟩
def Reg.ERR_SUSPECT_CMD.ACTION : Field := ⟨.err, 0x54, 1, 0, 11, 2, .wo, 0x0, .asIs, false⟩
def Reg.ERR_TRIAGE_ITEM.CH : Field := ⟨.err, 0x58, 1, 0, 0, 4, .ro, 0x0, .asIs, false⟩
def Reg.ERR_TRIAGE_ITEM.LEVEL : Field := ⟨.err, 0x58, 1, 0, 4, 3, .ro, 0x0, .asIs, false⟩
def Reg.ERR_TRIAGE_ITEM.INDEX : Field := ⟨.err, 0x58, 1, 0, 7, 25, .ro, 0x0, .asIs, false⟩
def Reg.ERR_TRIAGE_AUX.GRANULE : Field := ⟨.err, 0x5C, 1, 0, 0, 6, .ro, 0x0, .asIs, false⟩
def Reg.ERR_TRIAGE_AUX.CAUSE : Field := ⟨.err, 0x5C, 1, 0, 6, 2, .ro, 0x0, .asIs, false⟩
def Reg.ERR_TRIAGE_AUX.QUEUED : Field := ⟨.err, 0x5C, 1, 0, 8, 5, .ro, 0x0, .asIs, false⟩
def Reg.ERR_TRIAGE_AUX.VALID : Field := ⟨.err, 0x5C, 1, 0, 13, 1, .ro, 0x0, .asIs, false⟩
def Reg.ERR_TRIAGE_CMD.ACTION : Field := ⟨.err, 0x60, 1, 0, 0, 2, .wo, 0x0, .asIs, false⟩
def Reg.ERR_RECk.DATA : Field := ⟨.err, 0x800, 512, 4, 0, 32, .ro, 0x0, .asIs, false⟩
/-- Every field of the ERR family. -/
def Reg.errPart0 : List Field :=
  [Reg.ERR_CTRL.INST_RESET, Reg.ERR_CTRL.CRST_NOW, Reg.ERR_STATUS.ISTATE, Reg.ERR_STATUS.TRIAGE_PEND, Reg.ERR_STATUS.UNREAD, Reg.ERR_CFG.AUTO_RESET, Reg.ERR_CFG.LOCKSTEP_OFF, Reg.ERR_CFG.IRQ_MIN_SEV, Reg.ERR_CFG.OOS_HOLD_MS, Reg.ERR_WD_CFG.GRACE_US, Reg.ERR_WD_CFG.HB_MISS, Reg.ERR_CRST_CFG.HOLD_US, Reg.ERR_CRST_CFG.REPLAY_MAX, Reg.ERR_CRST_CFG.PERSIST_PROBE_US, Reg.ERR_ESC_CFG.COUNT, Reg.ERR_ESC_CFG.WINDOW_S, Reg.ERR_ESC_STATE.RECENT, Reg.ERR_ESC_STATE.REPLAY_RESETS, Reg.ERR_ESC_STATE.CRST_TOTAL, Reg.ERR_BOOT.CODE, Reg.ERR_REC_WPTR.WPTR, Reg.ERR_REC_RPTR.RPTR, Reg.ERR_REC_LOST.COUNT, Reg.ERR_STALE_GEN.COUNT, Reg.ERR_SUSPECTS.COUNT, Reg.ERR_SUSPECTS.LEFT, Reg.ERR_SUSPECT_SEL.INDEX, Reg.ERR_SUSPECT_INFO.CTX, Reg.ERR_SUSPECT_INFO.QUEUE, Reg.ERR_SUSPECT_INFO.PERSIST]
def Reg.errPart1 : List Field :=
  [Reg.ERR_SUSPECT_INFO.STATE, Reg.ERR_SUSPECT_CMD.INDEX, Reg.ERR_SUSPECT_CMD.ACTION, Reg.ERR_TRIAGE_ITEM.CH, Reg.ERR_TRIAGE_ITEM.LEVEL, Reg.ERR_TRIAGE_ITEM.INDEX, Reg.ERR_TRIAGE_AUX.GRANULE, Reg.ERR_TRIAGE_AUX.CAUSE, Reg.ERR_TRIAGE_AUX.QUEUED, Reg.ERR_TRIAGE_AUX.VALID, Reg.ERR_TRIAGE_CMD.ACTION, Reg.ERR_RECk.DATA]
def Reg.errFields : List Field := Reg.errPart0 ++ Reg.errPart1

/-! Fields of the CCIP page (R407). -/
def Reg.CCIP_CTRL.START : Field := ⟨.ccip, 0x8, 1, 0, 0, 1, .wo, 0x0, .asIs, false⟩
def Reg.CCIP_CTRL.ABORT : Field := ⟨.ccip, 0x8, 1, 0, 1, 1, .wo, 0x0, .asIs, false⟩
def Reg.CCIP_STATUS.BUSY : Field := ⟨.ccip, 0xC, 1, 0, 0, 1, .ro, 0x0, .asIs, false⟩
def Reg.CCIP_STATUS.KEY_VALID : Field := ⟨.ccip, 0xC, 1, 0, 1, 1, .ro, 0x0, .asIs, false⟩
def Reg.CCIP_STATUS.KEY_128 : Field := ⟨.ccip, 0xC, 1, 0, 2, 1, .ro, 0x0, .asIs, false⟩
def Reg.CCIP_STATUS.ENGINE_OUT : Field := ⟨.ccip, 0xC, 1, 0, 3, 1, .ro, 0x0, .asIs, false⟩
def Reg.CCIP_OWNER.OWNER : Field := ⟨.ccip, 0x20, 1, 0, 0, 2, .rwl, 0x0, .asIs, false⟩
def Reg.CCIP_KEY_REQ.SRC : Field := ⟨.ccip, 0x24, 1, 0, 0, 2, .wo, 0x0, .asIs, false⟩
def Reg.CCIP_KEY_REQ.SIZE : Field := ⟨.ccip, 0x24, 1, 0, 2, 1, .wo, 0x0, .asIs, false⟩
def Reg.CCIP_KEY_REQ.SLOT : Field := ⟨.ccip, 0x24, 1, 0, 3, 5, .wo, 0x0, .asIs, false⟩
def Reg.CCIP_KEY_REQ.ERASE : Field := ⟨.ccip, 0x24, 1, 0, 8, 1, .wo, 0x0, .asIs, false⟩
def Reg.CCIP_LABEL.LABEL : Field := ⟨.ccip, 0x28, 1, 0, 0, 32, .rw, 0x0, .asIs, false⟩
def Reg.CCIP_KEY_STATUS.CODE : Field := ⟨.ccip, 0x2C, 1, 0, 0, 8, .ro, 0x0, .asIs, false⟩
def Reg.CCIP_KEY_STATUS.DONE : Field := ⟨.ccip, 0x2C, 1, 0, 8, 1, .ro, 0x0, .asIs, false⟩
def Reg.CCIP_OP.DIR : Field := ⟨.ccip, 0x30, 1, 0, 0, 1, .rw, 0x0, .asIs, false⟩
def Reg.CCIP_OP.PAD : Field := ⟨.ccip, 0x30, 1, 0, 1, 2, .rw, 0x0, .asIs, false⟩
def Reg.CCIP_LEN.LEN : Field := ⟨.ccip, 0x34, 1, 0, 0, 12, .rw, 0x0, .asIs, false⟩
def Reg.CCIP_RESULT.CODE : Field := ⟨.ccip, 0x38, 1, 0, 0, 8, .ro, 0x0, .asIs, false⟩
def Reg.CCIP_RESULT.OUT_LEN : Field := ⟨.ccip, 0x38, 1, 0, 8, 12, .ro, 0x0, .asIs, false⟩
def Reg.CCIP_RESULT.DONE : Field := ⟨.ccip, 0x38, 1, 0, 20, 1, .ro, 0x0, .asIs, false⟩
def Reg.CCIP_BLOCKS.COUNT : Field := ⟨.ccip, 0x3C, 1, 0, 0, 32, .ro, 0x0, .asIs, false⟩
def Reg.CCIP_DATAw.DATA : Field := ⟨.ccip, 0x800, 512, 4, 0, 32, .rw, 0x0, .asIs, false⟩
/-- Every field of the CCIP family. -/
def Reg.ccipPart0 : List Field :=
  [Reg.CCIP_CTRL.START, Reg.CCIP_CTRL.ABORT, Reg.CCIP_STATUS.BUSY, Reg.CCIP_STATUS.KEY_VALID, Reg.CCIP_STATUS.KEY_128, Reg.CCIP_STATUS.ENGINE_OUT, Reg.CCIP_OWNER.OWNER, Reg.CCIP_KEY_REQ.SRC, Reg.CCIP_KEY_REQ.SIZE, Reg.CCIP_KEY_REQ.SLOT, Reg.CCIP_KEY_REQ.ERASE, Reg.CCIP_LABEL.LABEL, Reg.CCIP_KEY_STATUS.CODE, Reg.CCIP_KEY_STATUS.DONE, Reg.CCIP_OP.DIR, Reg.CCIP_OP.PAD, Reg.CCIP_LEN.LEN, Reg.CCIP_RESULT.CODE, Reg.CCIP_RESULT.OUT_LEN, Reg.CCIP_RESULT.DONE, Reg.CCIP_BLOCKS.COUNT, Reg.CCIP_DATAw.DATA]
def Reg.ccipFields : List Field := Reg.ccipPart0

/-! Fields of the MCH page (R257). -/
def Reg.MCH_CTRL.TAG_REREAD : Field := ⟨.mch, 0x8, 1, 0, 0, 1, .rw, 0x1, .asIs, false⟩
def Reg.MCH_STATUS.CH_STATE : Field := ⟨.mch, 0xC, 1, 0, 0, 2, .ro, 0x0, .asIs, false⟩
def Reg.MCH_STATUS.KEY_LOADED : Field := ⟨.mch, 0xC, 1, 0, 2, 1, .ro, 0x0, .asIs, false⟩
def Reg.MCHn_CAP_PAGES.P : Field := ⟨.mch, 0x20, 1, 0, 0, 25, .ro, 0x0, .asIs, false⟩
def Reg.MCHn_TREE_PAGES.T : Field := ⟨.mch, 0x24, 1, 0, 0, 20, .ro, 0x0, .asIs, false⟩
def Reg.MCHn_PIPES.IN_SERVICE : Field := ⟨.mch, 0x28, 1, 0, 0, 7, .ro, 0x40, .asIs, false⟩
def Reg.MCHn_RD_LO.COUNT : Field := ⟨.mch, 0x30, 1, 0, 0, 32, .ro, 0x0, .asIs, false⟩
def Reg.MCHn_RD_HI.COUNT : Field := ⟨.mch, 0x34, 1, 0, 0, 32, .ro, 0x0, .asIs, false⟩
def Reg.MCHn_WR_LO.COUNT : Field := ⟨.mch, 0x38, 1, 0, 0, 32, .ro, 0x0, .asIs, false⟩
def Reg.MCHn_WR_HI.COUNT : Field := ⟨.mch, 0x3C, 1, 0, 0, 32, .ro, 0x0, .asIs, false⟩
def Reg.MCHn_MERGE.COUNT : Field := ⟨.mch, 0x40, 1, 0, 0, 32, .ro, 0x0, .asIs, false⟩
def Reg.MCHn_TAG_FAIL.COUNT : Field := ⟨.mch, 0x44, 1, 0, 0, 32, .ro, 0x0, .asIs, false⟩
def Reg.MCHn_REREAD_OK.COUNT : Field := ⟨.mch, 0x48, 1, 0, 0, 32, .ro, 0x0, .asIs, false⟩
def Reg.MCHn_POISON_RD.COUNT : Field := ⟨.mch, 0x4C, 1, 0, 0, 32, .ro, 0x0, .asIs, false⟩
def Reg.MCH_LINE_PAGES.PAGES : Field := ⟨.mch, 0x400, 1, 0, 0, 25, .rwl, 0x1FFFFC0, .asIs, true⟩
def Reg.MCH_LINE_PAGES_EFF.PAGES : Field := ⟨.mch, 0x404, 1, 0, 0, 25, .ro, 0x0, .asIs, true⟩
def Reg.MCH_USABLE_PAGES.U : Field := ⟨.mch, 0x408, 1, 0, 0, 25, .ro, 0x0, .asIs, true⟩
def Reg.MCH_LOCAL_PAGES.PAGES : Field := ⟨.mch, 0x40C, 1, 0, 0, 29, .ro, 0x0, .asIs, true⟩
def Reg.RAT_SEL.ENTRY : Field := ⟨.mch, 0x410, 1, 0, 0, 8, .rw, 0x0, .asIs, true⟩
def Reg.RAT_CMD.WRITE : Field := ⟨.mch, 0x414, 1, 0, 0, 1, .wo, 0x0, .asIs, true⟩
def Reg.RAT_CMD.READ : Field := ⟨.mch, 0x414, 1, 0, 1, 1, .wo, 0x0, .asIs, true⟩
def Reg.RAT_STATUS.CODE : Field := ⟨.mch, 0x418, 1, 0, 0, 8, .ro, 0x0, .asIs, true⟩
def Reg.RAT_STATUS.DONE : Field := ⟨.mch, 0x418, 1, 0, 8, 1, .ro, 0x0, .asIs, true⟩
def Reg.RAT_REFUSE_COUNT.COUNT : Field := ⟨.mch, 0x41C, 1, 0, 0, 32, .ro, 0x0, .asIs, true⟩
def Reg.RAT_LAST_REFUSE.CLASS : Field := ⟨.mch, 0x420, 1, 0, 0, 3, .ro, 0x0, .asIs, true⟩
def Reg.RAT_LAST_REFUSE.KIND : Field := ⟨.mch, 0x420, 1, 0, 3, 2, .ro, 0x0, .asIs, true⟩
def Reg.RAT_LAST_REFUSE.STEP : Field := ⟨.mch, 0x420, 1, 0, 5, 3, .ro, 0x0, .asIs, true⟩
def Reg.RAT_LAST_REFUSE.ENTRY : Field := ⟨.mch, 0x420, 1, 0, 8, 8, .ro, 0x0, .asIs, true⟩
def Reg.RAT_LAST_REFUSE.CTX : Field := ⟨.mch, 0x420, 1, 0, 16, 12, .ro, 0x0, .asIs, true⟩
def Reg.UNWRAP_STATUS.ENTRY : Field := ⟨.mch, 0x424, 1, 0, 0, 8, .ro, 0x0, .asIs, true⟩
def Reg.UNWRAP_STATUS.ACTIVE : Field := ⟨.mch, 0x424, 1, 0, 8, 1, .ro, 0x0, .asIs, true⟩
def Reg.UNWRAP_CHUNKS.COUNT : Field := ⟨.mch, 0x428, 1, 0, 0, 32, .ro, 0x0, .asIs, true⟩
def Reg.RAT_WINw.DATA : Field := ⟨.mch, 0x440, 8, 4, 0, 32, .rw, 0x0, .asIs, true⟩
/-! Fields of the MCH page (R278). -/
def Reg.MCH_CTRL.SCRUB_EN : Field := ⟨.mch, 0x8, 1, 0, 8, 1, .rw, 0x1, .asIs, false⟩
def Reg.MCH_STATUS.WALKING : Field := ⟨.mch, 0xC, 1, 0, 8, 1, .ro, 0x0, .asIs, false⟩
def Reg.MCH_STATUS.SCRUB_TOKEN : Field := ⟨.mch, 0xC, 1, 0, 9, 1, .ro, 0x0, .asIs, false⟩
def Reg.MCH_STATUS.REENC_ACTIVE : Field := ⟨.mch, 0xC, 1, 0, 10, 1, .ro, 0x0, .asIs, false⟩
def Reg.MCH_STATUS.END_ZONE : Field := ⟨.mch, 0xC, 1, 0, 11, 1, .ro, 0x0, .asIs, false⟩
def Reg.MCH_STATUS.PSN_ANY : Field := ⟨.mch, 0xC, 1, 0, 12, 1, .ro, 0x0, .asIs, false⟩
def Reg.MCHn_TREE_CFG.SCRUB_HOURS : Field := ⟨.mch, 0x100, 1, 0, 0, 8, .rwl, 0x8, .clamp 1 255, false⟩
def Reg.MCHn_TREE_CFG.REENC_MARK : Field := ⟨.mch, 0x100, 1, 0, 8, 7, .rwl, 0x70, .clamp 64 126, false⟩
def Reg.MCHn_TREE_SHAPE.LEVELS : Field := ⟨.mch, 0x104, 1, 0, 0, 3, .ro, 0x0, .asIs, false⟩
def Reg.MCHn_TREE_SHAPE.TOP_BLOCKS : Field := ⟨.mch, 0x104, 1, 0, 3, 7, .ro, 0x0, .asIs, false⟩
def Reg.MCHn_MAJOR_HWM_LO.HWM : Field := ⟨.mch, 0x108, 1, 0, 0, 32, .ro, 0x0, .asIs, false⟩
def Reg.MCHn_MAJOR_HWM_HI.HWM : Field := ⟨.mch, 0x10C, 1, 0, 0, 32, .ro, 0x0, .asIs, false⟩
def Reg.MCHn_TREE_SEL.INDEX : Field := ⟨.mch, 0x110, 1, 0, 0, 25, .rw, 0x0, .asIs, false⟩
def Reg.MCHn_TREE_SEL.LEVEL : Field := ⟨.mch, 0x110, 1, 0, 25, 3, .rw, 0x0, .asIs, false⟩
def Reg.MCHn_TREE_CMD.REBUILD : Field := ⟨.mch, 0x114, 1, 0, 0, 1, .wo, 0x0, .asIs, false⟩
def Reg.MCHn_TREE_CMD.RETIRE : Field := ⟨.mch, 0x114, 1, 0, 1, 1, .wo, 0x0, .asIs, false⟩
def Reg.MCHn_TREE_CMD.WALK : Field := ⟨.mch, 0x114, 1, 0, 2, 1, .wo, 0x0, .asIs, false⟩
def Reg.MCHn_TREE_STATUS.CODE : Field := ⟨.mch, 0x118, 1, 0, 0, 8, .ro, 0x0, .asIs, false⟩
def Reg.MCHn_TREE_STATUS.DONE : Field := ⟨.mch, 0x118, 1, 0, 8, 1, .ro, 0x0, .asIs, false⟩
def Reg.MCHn_PSN_COUNT.COUNT : Field := ⟨.mch, 0x11C, 1, 0, 0, 5, .ro, 0x0, .asIs, false⟩
def Reg.MCHn_PSNe.INDEX : Field := ⟨.mch, 0x120, 16, 4, 0, 25, .ro, 0x0, .asIs, false⟩
def Reg.MCHn_PSNe.LEVEL : Field := ⟨.mch, 0x120, 16, 4, 25, 3, .ro, 0x0, .asIs, false⟩
def Reg.MCHn_PSNe.CAUSE : Field := ⟨.mch, 0x120, 16, 4, 28, 3, .ro, 0x0, .asIs, false⟩
def Reg.MCHn_PSNe.VALID : Field := ⟨.mch, 0x120, 16, 4, 31, 1, .ro, 0x0, .asIs, false⟩
def Reg.MCHn_TREE_CORR.COUNT : Field := ⟨.mch, 0x160, 1, 0, 0, 32, .ro, 0x0, .asIs, false⟩
def Reg.MCHn_MIRROR_FIX.COUNT : Field := ⟨.mch, 0x164, 1, 0, 0, 32, .ro, 0x0, .asIs, false⟩
def Reg.MCHn_CTR_MISS.COUNT : Field := ⟨.mch, 0x168, 1, 0, 0, 32, .ro, 0x0, .asIs, false⟩
def Reg.MCHn_REENC_COUNT.COUNT : Field := ⟨.mch, 0x16C, 1, 0, 0, 32, .ro, 0x0, .asIs, false⟩
def Reg.MCHn_REENC_SLOTS.IN_USE : Field := ⟨.mch, 0x170, 1, 0, 0, 8, .ro, 0x0, .asIs, false⟩
def Reg.MCHn_REENC_SLOTS.QUEUED : Field := ⟨.mch, 0x170, 1, 0, 8, 9, .ro, 0x0, .asIs, false⟩
def Reg.MCHn_SCRUB_POS.CHUNK : Field := ⟨.mch, 0x174, 1, 0, 0, 19, .ro, 0x0, .asIs, false⟩
def Reg.MCHn_SCRUB_PASSES.COUNT : Field := ⟨.mch, 0x178, 1, 0, 0, 16, .ro, 0x0, .asIs, false⟩
/-! Fields of the MCH page (R292). -/
def Reg.MCH_CTRL.FAR_START : Field := ⟨.mch, 0x8, 1, 0, 16, 1, .wo, 0x0, .asIs, true⟩
def Reg.MCH_CTRL.FAR_PAUSE : Field := ⟨.mch, 0x8, 1, 0, 17, 1, .rw, 0x0, .asIs, false⟩
def Reg.MCH_STATUS.FAR_STATE : Field := ⟨.mch, 0xC, 1, 0, 16, 2, .ro, 0x0, .asIs, false⟩
def Reg.MCH_STATUS.URGENT : Field := ⟨.mch, 0xC, 1, 0, 18, 1, .ro, 0x0, .asIs, false⟩
def Reg.MCH_STATUS.WAIT_GRANT : Field := ⟨.mch, 0xC, 1, 0, 19, 1, .ro, 0x0, .asIs, false⟩
def Reg.MCH_STATUS.TWO_KEYS : Field := ⟨.mch, 0xC, 1, 0, 20, 1, .ro, 0x0, .asIs, false⟩
def Reg.MCHn_SHOE_LINE.SL : Field := ⟨.mch, 0x200, 1, 0, 0, 25, .ro, 0x0, .asIs, false⟩
def Reg.MCHn_FAR_MOVED_LO.BYTES : Field := ⟨.mch, 0x204, 1, 0, 0, 32, .ro, 0x0, .asIs, false⟩
def Reg.MCHn_FAR_MOVED_HI.BYTES : Field := ⟨.mch, 0x208, 1, 0, 0, 32, .ro, 0x0, .asIs, false⟩
def Reg.MCHn_FAR_GRANT.PAGES : Field := ⟨.mch, 0x20C, 1, 0, 0, 25, .rw, 0x0, .asIs, false⟩
def Reg.MCHn_FAR_HWM_NEXT_LO.HWM : Field := ⟨.mch, 0x210, 1, 0, 0, 32, .ro, 0x0, .asIs, false⟩
def Reg.MCHn_FAR_HWM_NEXT_HI.HWM : Field := ⟨.mch, 0x214, 1, 0, 0, 32, .ro, 0x0, .asIs, false⟩
def Reg.MCHn_FAR_POISON.COUNT : Field := ⟨.mch, 0x218, 1, 0, 0, 32, .ro, 0x0, .asIs, false⟩
def Reg.FAR_CFG.PACE_PCT : Field := ⟨.mch, 0x280, 1, 0, 0, 6, .rwl, 0x5, .clamp 1 50, true⟩
def Reg.FAR_CFG.AUTO_HOURS : Field := ⟨.mch, 0x280, 1, 0, 8, 16, .rwl, 0x0, .asIs, true⟩
def Reg.FAR_START_STATUS.CODE : Field := ⟨.mch, 0x284, 1, 0, 0, 8, .ro, 0x0, .asIs, true⟩
def Reg.FAR_START_STATUS.CAUSE : Field := ⟨.mch, 0x284, 1, 0, 8, 3, .ro, 0x0, .asIs, true⟩
def Reg.FAR_PASS_COUNT.COUNT : Field := ⟨.mch, 0x288, 1, 0, 0, 16, .ro, 0x0, .asIs, true⟩
def Reg.FAR_START_DT_LO.NS : Field := ⟨.mch, 0x28C, 1, 0, 0, 32, .ro, 0x0, .asIs, true⟩
def Reg.FAR_START_DT_HI.NS : Field := ⟨.mch, 0x290, 1, 0, 0, 32, .ro, 0x0, .asIs, true⟩
def Reg.FAR_END_DT_LO.NS : Field := ⟨.mch, 0x294, 1, 0, 0, 32, .ro, 0x0, .asIs, true⟩
def Reg.FAR_END_DT_HI.NS : Field := ⟨.mch, 0x298, 1, 0, 0, 32, .ro, 0x0, .asIs, true⟩
/-- Every field of the MCH family. -/
def Reg.mchPart0 : List Field :=
  [Reg.MCH_CTRL.TAG_REREAD, Reg.MCH_STATUS.CH_STATE, Reg.MCH_STATUS.KEY_LOADED, Reg.MCHn_CAP_PAGES.P, Reg.MCHn_TREE_PAGES.T, Reg.MCHn_PIPES.IN_SERVICE, Reg.MCHn_RD_LO.COUNT, Reg.MCHn_RD_HI.COUNT, Reg.MCHn_WR_LO.COUNT, Reg.MCHn_WR_HI.COUNT, Reg.MCHn_MERGE.COUNT, Reg.MCHn_TAG_FAIL.COUNT, Reg.MCHn_REREAD_OK.COUNT, Reg.MCHn_POISON_RD.COUNT, Reg.MCH_LINE_PAGES.PAGES, Reg.MCH_LINE_PAGES_EFF.PAGES, Reg.MCH_USABLE_PAGES.U, Reg.MCH_LOCAL_PAGES.PAGES, Reg.RAT_SEL.ENTRY, Reg.RAT_CMD.WRITE, Reg.RAT_CMD.READ, Reg.RAT_STATUS.CODE, Reg.RAT_STATUS.DONE, Reg.RAT_REFUSE_COUNT.COUNT, Reg.RAT_LAST_REFUSE.CLASS, Reg.RAT_LAST_REFUSE.KIND, Reg.RAT_LAST_REFUSE.STEP, Reg.RAT_LAST_REFUSE.ENTRY, Reg.RAT_LAST_REFUSE.CTX, Reg.UNWRAP_STATUS.ENTRY]
def Reg.mchPart1 : List Field :=
  [Reg.UNWRAP_STATUS.ACTIVE, Reg.UNWRAP_CHUNKS.COUNT, Reg.RAT_WINw.DATA, Reg.MCH_CTRL.SCRUB_EN, Reg.MCH_STATUS.WALKING, Reg.MCH_STATUS.SCRUB_TOKEN, Reg.MCH_STATUS.REENC_ACTIVE, Reg.MCH_STATUS.END_ZONE, Reg.MCH_STATUS.PSN_ANY, Reg.MCHn_TREE_CFG.SCRUB_HOURS, Reg.MCHn_TREE_CFG.REENC_MARK, Reg.MCHn_TREE_SHAPE.LEVELS, Reg.MCHn_TREE_SHAPE.TOP_BLOCKS, Reg.MCHn_MAJOR_HWM_LO.HWM, Reg.MCHn_MAJOR_HWM_HI.HWM, Reg.MCHn_TREE_SEL.INDEX, Reg.MCHn_TREE_SEL.LEVEL, Reg.MCHn_TREE_CMD.REBUILD, Reg.MCHn_TREE_CMD.RETIRE, Reg.MCHn_TREE_CMD.WALK, Reg.MCHn_TREE_STATUS.CODE, Reg.MCHn_TREE_STATUS.DONE, Reg.MCHn_PSN_COUNT.COUNT, Reg.MCHn_PSNe.INDEX, Reg.MCHn_PSNe.LEVEL, Reg.MCHn_PSNe.CAUSE, Reg.MCHn_PSNe.VALID, Reg.MCHn_TREE_CORR.COUNT, Reg.MCHn_MIRROR_FIX.COUNT, Reg.MCHn_CTR_MISS.COUNT]
def Reg.mchPart2 : List Field :=
  [Reg.MCHn_REENC_COUNT.COUNT, Reg.MCHn_REENC_SLOTS.IN_USE, Reg.MCHn_REENC_SLOTS.QUEUED, Reg.MCHn_SCRUB_POS.CHUNK, Reg.MCHn_SCRUB_PASSES.COUNT, Reg.MCH_CTRL.FAR_START, Reg.MCH_CTRL.FAR_PAUSE, Reg.MCH_STATUS.FAR_STATE, Reg.MCH_STATUS.URGENT, Reg.MCH_STATUS.WAIT_GRANT, Reg.MCH_STATUS.TWO_KEYS, Reg.MCHn_SHOE_LINE.SL, Reg.MCHn_FAR_MOVED_LO.BYTES, Reg.MCHn_FAR_MOVED_HI.BYTES, Reg.MCHn_FAR_GRANT.PAGES, Reg.MCHn_FAR_HWM_NEXT_LO.HWM, Reg.MCHn_FAR_HWM_NEXT_HI.HWM, Reg.MCHn_FAR_POISON.COUNT, Reg.FAR_CFG.PACE_PCT, Reg.FAR_CFG.AUTO_HOURS, Reg.FAR_START_STATUS.CODE, Reg.FAR_START_STATUS.CAUSE, Reg.FAR_PASS_COUNT.COUNT, Reg.FAR_START_DT_LO.NS, Reg.FAR_START_DT_HI.NS, Reg.FAR_END_DT_LO.NS, Reg.FAR_END_DT_HI.NS]
def Reg.mchFields : List Field := Reg.mchPart0 ++ Reg.mchPart1 ++ Reg.mchPart2

/-! Fields of the GAIT page (R109). -/
def Reg.GAIT_CTRL.ARM : Field := ⟨.gait, 0x8, 1, 0, 0, 1, .rw, 0x0, .asIs, false⟩
def Reg.GAIT_STATUS.SWAP_STATE : Field := ⟨.gait, 0xC, 1, 0, 0, 2, .ro, 0x0, .asIs, false⟩
def Reg.GAIT_STATUS.ANY_ACTIVE : Field := ⟨.gait, 0xC, 1, 0, 2, 1, .ro, 0x0, .asIs, false⟩
def Reg.GAIT_STATUS.ARM_REFUSE : Field := ⟨.gait, 0xC, 1, 0, 3, 3, .ro, 0x0, .asIs, false⟩
def Reg.GAIT_STATUS.SHEDDING : Field := ⟨.gait, 0xC, 1, 0, 6, 1, .ro, 0x0, .asIs, false⟩
def Reg.GAIT_SWAP_DT_LO.NS : Field := ⟨.gait, 0x20, 1, 0, 0, 32, .rw, 0x0, .asIs, false⟩
def Reg.GAIT_SWAP_DT_HI.NS : Field := ⟨.gait, 0x24, 1, 0, 0, 32, .rw, 0x0, .asIs, false⟩
def Reg.GAIT_ACTIVE_ID.ID : Field := ⟨.gait, 0x28, 1, 0, 0, 32, .ro, 0x0, .asIs, false⟩
def Reg.GAIT_PERIOD.NS : Field := ⟨.gait, 0x2C, 1, 0, 0, 23, .ro, 0x0, .asIs, false⟩
def Reg.GAIT_LOAD_STATUS.PORT : Field := ⟨.gait, 0x30, 1, 0, 0, 6, .ro, 0x0, .asIs, false⟩
def Reg.GAIT_LOAD_STATUS.BANK : Field := ⟨.gait, 0x30, 1, 0, 6, 1, .ro, 0x0, .asIs, false⟩
def Reg.GAIT_LOAD_STATUS.OK : Field := ⟨.gait, 0x30, 1, 0, 7, 1, .ro, 0x0, .asIs, false⟩
def Reg.GAIT_LOAD_STATUS.REFUSE : Field := ⟨.gait, 0x30, 1, 0, 8, 8, .ro, 0x0, .asIs, false⟩
def Reg.GAIT_LOAD_STATUS.INDEX : Field := ⟨.gait, 0x30, 1, 0, 16, 12, .ro, 0x0, .asIs, false⟩
def Reg.GAIT_PLANE_DOWN.PLANE : Field := ⟨.gait, 0x34, 1, 0, 0, 24, .rw, 0x0, .asIs, false⟩
def Reg.GAIT_RED_UNITS.MAX : Field := ⟨.gait, 0x38, 1, 0, 0, 4, .rwl, 0xA, .clamp 1 12, false⟩
def Reg.GAIT_GO.GO : Field := ⟨.gait, 0x3C, 1, 0, 0, 1, .wo, 0x0, .asIs, false⟩
def Reg.GAIT_GO.ABANDON : Field := ⟨.gait, 0x3C, 1, 0, 1, 1, .wo, 0x0, .asIs, false⟩
def Reg.GAIT_RING_TBL_LO.ADDR : Field := ⟨.gait, 0x40, 1, 0, 0, 32, .rwl, 0x0, .asIs, false⟩
def Reg.GAIT_RING_TBL_HI.ADDR : Field := ⟨.gait, 0x44, 1, 0, 0, 13, .rwl, 0x0, .asIs, false⟩
def Reg.GAIT_PORTn_STATE.ACTIVE_BANK : Field := ⟨.gait, 0x400, 64, 32, 0, 1, .ro, 0x0, .asIs, false⟩
def Reg.GAIT_PORTn_STATE.ACTIVE : Field := ⟨.gait, 0x400, 64, 32, 1, 1, .ro, 0x0, .asIs, false⟩
def Reg.GAIT_PORTn_STATE.INACTIVE_LOADED : Field := ⟨.gait, 0x400, 64, 32, 2, 1, .ro, 0x0, .asIs, false⟩
def Reg.GAIT_PORTn_STATE.NEXT : Field := ⟨.gait, 0x400, 64, 32, 3, 12, .ro, 0x0, .asIs, false⟩
def Reg.GAIT_PORTn_STATE.COVERING : Field := ⟨.gait, 0x400, 64, 32, 15, 1, .ro, 0x0, .asIs, false⟩
def Reg.GAIT_PORTn_SENT.COUNT : Field := ⟨.gait, 0x404, 64, 32, 0, 32, .ro, 0x0, .asIs, false⟩
def Reg.GAIT_PORTn_LATE.COUNT : Field := ⟨.gait, 0x408, 64, 32, 0, 32, .ro, 0x0, .asIs, false⟩
def Reg.GAIT_PORTn_SUPPRESSED.COUNT : Field := ⟨.gait, 0x40C, 64, 32, 0, 32, .ro, 0x0, .asIs, false⟩
def Reg.GAIT_PORTn_MISSED.COUNT : Field := ⟨.gait, 0x410, 64, 32, 0, 32, .ro, 0x0, .asIs, false⟩
def Reg.GAIT_PORTn_EMPTY.COUNT : Field := ⟨.gait, 0x414, 64, 32, 0, 32, .ro, 0x0, .asIs, false⟩
def Reg.GAIT_PORTn_UNCOVERED.COUNT : Field := ⟨.gait, 0x418, 64, 32, 0, 32, .ro, 0x0, .asIs, false⟩
def Reg.GAIT_PORTn_SHED.COUNT : Field := ⟨.gait, 0x41C, 64, 32, 0, 32, .ro, 0x0, .asIs, false⟩
def Reg.GAIT_SHARE_W.WEIGHT0 : Field := ⟨.gait, 0xC00, 256, 4, 0, 8, .rw, 0x0, .asIs, false⟩
def Reg.GAIT_SHARE_W.WEIGHT1 : Field := ⟨.gait, 0xC00, 256, 4, 8, 8, .rw, 0x0, .asIs, false⟩
def Reg.GAIT_SHARE_W.WEIGHT2 : Field := ⟨.gait, 0xC00, 256, 4, 16, 8, .rw, 0x0, .asIs, false⟩
def Reg.GAIT_SHARE_W.WEIGHT3 : Field := ⟨.gait, 0xC00, 256, 4, 24, 8, .rw, 0x0, .asIs, false⟩
/-- Every field of the GAIT family. -/
def Reg.gaitPart0 : List Field :=
  [Reg.GAIT_CTRL.ARM, Reg.GAIT_STATUS.SWAP_STATE, Reg.GAIT_STATUS.ANY_ACTIVE, Reg.GAIT_STATUS.ARM_REFUSE, Reg.GAIT_STATUS.SHEDDING, Reg.GAIT_SWAP_DT_LO.NS, Reg.GAIT_SWAP_DT_HI.NS, Reg.GAIT_ACTIVE_ID.ID, Reg.GAIT_PERIOD.NS, Reg.GAIT_LOAD_STATUS.PORT, Reg.GAIT_LOAD_STATUS.BANK, Reg.GAIT_LOAD_STATUS.OK, Reg.GAIT_LOAD_STATUS.REFUSE, Reg.GAIT_LOAD_STATUS.INDEX, Reg.GAIT_PLANE_DOWN.PLANE, Reg.GAIT_RED_UNITS.MAX, Reg.GAIT_GO.GO, Reg.GAIT_GO.ABANDON, Reg.GAIT_RING_TBL_LO.ADDR, Reg.GAIT_RING_TBL_HI.ADDR, Reg.GAIT_PORTn_STATE.ACTIVE_BANK, Reg.GAIT_PORTn_STATE.ACTIVE, Reg.GAIT_PORTn_STATE.INACTIVE_LOADED, Reg.GAIT_PORTn_STATE.NEXT, Reg.GAIT_PORTn_STATE.COVERING, Reg.GAIT_PORTn_SENT.COUNT, Reg.GAIT_PORTn_LATE.COUNT, Reg.GAIT_PORTn_SUPPRESSED.COUNT, Reg.GAIT_PORTn_MISSED.COUNT, Reg.GAIT_PORTn_EMPTY.COUNT]
def Reg.gaitPart1 : List Field :=
  [Reg.GAIT_PORTn_UNCOVERED.COUNT, Reg.GAIT_PORTn_SHED.COUNT, Reg.GAIT_SHARE_W.WEIGHT0, Reg.GAIT_SHARE_W.WEIGHT1, Reg.GAIT_SHARE_W.WEIGHT2, Reg.GAIT_SHARE_W.WEIGHT3]
def Reg.gaitFields : List Field := Reg.gaitPart0 ++ Reg.gaitPart1

/-! Fields of the GW page (R205). -/
def Reg.GW_CTRL.EN : Field := ⟨.gw, 0x8, 1, 0, 0, 1, .rw, 0x1, .asIs, false⟩
def Reg.GW_STATUS.DRAINING : Field := ⟨.gw, 0xC, 1, 0, 0, 1, .ro, 0x0, .asIs, false⟩
def Reg.GW_STATUS.RANK_VALID : Field := ⟨.gw, 0xC, 1, 0, 1, 1, .ro, 0x0, .asIs, false⟩
def Reg.GW_SELF.RANK : Field := ⟨.gw, 0x20, 1, 0, 0, 15, .ro, 0x0, .asIs, false⟩
def Reg.GW_SELF.PADDOCK : Field := ⟨.gw, 0x20, 1, 0, 15, 7, .ro, 0x0, .asIs, false⟩
def Reg.GW_RMT_TIMEOUT.US : Field := ⟨.gw, 0x24, 1, 0, 0, 10, .rwl, 0x64, .clamp 10 1000, false⟩
def Reg.GW_BULK_CFG.RETRY_US : Field := ⟨.gw, 0x28, 1, 0, 0, 8, .rwl, 0x32, .clamp 10 200, false⟩
def Reg.GW_BULK_CFG.RETRY_MAX : Field := ⟨.gw, 0x28, 1, 0, 8, 4, .rwl, 0x8, .clamp 1 15, false⟩
def Reg.GW_BULK_CFG.PUT_WINDOW_KIB : Field := ⟨.gw, 0x28, 1, 0, 12, 11, .rwl, 0x40, .clamp 16 2047, false⟩
def Reg.GW_SYNC_SEED.SEED : Field := ⟨.gw, 0x2C, 1, 0, 0, 32, .rwl, 0x0, .asIs, false⟩
def Reg.GW_DIRECT_OUT.COUNT : Field := ⟨.gw, 0x30, 1, 0, 0, 13, .ro, 0x0, .asIs, false⟩
def Reg.GW_SRC_OPS.COUNT : Field := ⟨.gw, 0x34, 1, 0, 0, 13, .ro, 0x0, .asIs, false⟩
def Reg.GW_DST_STREAMS.COUNT : Field := ⟨.gw, 0x38, 1, 0, 0, 14, .ro, 0x0, .asIs, false⟩
def Reg.GW_TIMEOUT_COUNT.COUNT : Field := ⟨.gw, 0x3C, 1, 0, 0, 32, .ro, 0x0, .asIs, false⟩
def Reg.GW_RESEND_COUNT.COUNT : Field := ⟨.gw, 0x40, 1, 0, 0, 32, .ro, 0x0, .asIs, false⟩
def Reg.GW_FAIL_COUNT.COUNT : Field := ⟨.gw, 0x44, 1, 0, 0, 32, .ro, 0x0, .asIs, false⟩
def Reg.GW_REFUSE_COUNT.COUNT : Field := ⟨.gw, 0x48, 1, 0, 0, 32, .ro, 0x0, .asIs, false⟩
def Reg.GW_STALE_COUNT.COUNT : Field := ⟨.gw, 0x4C, 1, 0, 0, 32, .ro, 0x0, .asIs, false⟩
def Reg.GW_TOKENn.EN : Field := ⟨.gw, 0x100, 256, 4, 0, 1, .rw, 0x0, .asIs, false⟩
def Reg.GW_TOKENn.OWNER : Field := ⟨.gw, 0x100, 256, 4, 1, 15, .rw, 0x0, .asIs, false⟩
def Reg.GW_TOKENn.GEN : Field := ⟨.gw, 0x100, 256, 4, 16, 16, .rw, 0x0, .asIs, false⟩
/-- Every field of the GW family. -/
def Reg.gwPart0 : List Field :=
  [Reg.GW_CTRL.EN, Reg.GW_STATUS.DRAINING, Reg.GW_STATUS.RANK_VALID, Reg.GW_SELF.RANK, Reg.GW_SELF.PADDOCK, Reg.GW_RMT_TIMEOUT.US, Reg.GW_BULK_CFG.RETRY_US, Reg.GW_BULK_CFG.RETRY_MAX, Reg.GW_BULK_CFG.PUT_WINDOW_KIB, Reg.GW_SYNC_SEED.SEED, Reg.GW_DIRECT_OUT.COUNT, Reg.GW_SRC_OPS.COUNT, Reg.GW_DST_STREAMS.COUNT, Reg.GW_TIMEOUT_COUNT.COUNT, Reg.GW_RESEND_COUNT.COUNT, Reg.GW_FAIL_COUNT.COUNT, Reg.GW_REFUSE_COUNT.COUNT, Reg.GW_STALE_COUNT.COUNT, Reg.GW_TOKENn.EN, Reg.GW_TOKENn.OWNER, Reg.GW_TOKENn.GEN]
def Reg.gwFields : List Field := Reg.gwPart0

/-! Fields of the COH page (R207). -/
def Reg.COH_CTRL.EN : Field := ⟨.coh, 0x8, 1, 0, 0, 1, .rw, 0x0, .asIs, false⟩
def Reg.COH_STATUS.ACTIVE : Field := ⟨.coh, 0xC, 1, 0, 0, 1, .ro, 0x0, .asIs, false⟩
def Reg.COH_STATUS.CFG_REFUSE : Field := ⟨.coh, 0xC, 1, 0, 1, 4, .ro, 0x0, .asIs, false⟩
def Reg.COH_STATUS.FLUSHING : Field := ⟨.coh, 0xC, 1, 0, 5, 1, .ro, 0x0, .asIs, false⟩
def Reg.COH_HERD_CFG.SIZE : Field := ⟨.coh, 0x20, 1, 0, 0, 4, .rwl, 0x0, .asIs, false⟩
def Reg.COH_HERD_CFG.MY_SLOT : Field := ⟨.coh, 0x20, 1, 0, 4, 3, .rwl, 0x0, .asIs, false⟩
def Reg.COH_MEMBERj.RANK_A : Field := ⟨.coh, 0x24, 4, 4, 0, 15, .rwl, 0x0, .asIs, false⟩
def Reg.COH_MEMBERj.RANK_B : Field := ⟨.coh, 0x24, 4, 4, 16, 15, .rwl, 0x0, .asIs, false⟩
def Reg.COH_WINk_BASE.BASE_MIB : Field := ⟨.coh, 0x40, 4, 8, 0, 25, .rwl, 0x0, .asIs, false⟩
def Reg.COH_WINk_BASE.EN : Field := ⟨.coh, 0x40, 4, 8, 31, 1, .rwl, 0x0, .asIs, false⟩
def Reg.COH_WINk_SIZE.SIZE_MIB : Field := ⟨.coh, 0x44, 4, 8, 0, 25, .rwl, 0x0, .asIs, false⟩
def Reg.COH_TIMEOUT.US : Field := ⟨.coh, 0x60, 1, 0, 0, 10, .rwl, 0x14, .clamp 5 1023, false⟩
def Reg.COH_DIR_USED.COUNT : Field := ⟨.coh, 0x64, 1, 0, 0, 21, .ro, 0x0, .asIs, false⟩
def Reg.COH_BACKINV.COUNT : Field := ⟨.coh, 0x68, 1, 0, 0, 32, .ro, 0x0, .asIs, false⟩
def Reg.COH_LOST_COUNT.COUNT : Field := ⟨.coh, 0x6C, 1, 0, 0, 32, .ro, 0x0, .asIs, false⟩
def Reg.COH_STRAY_COUNT.COUNT : Field := ⟨.coh, 0x70, 1, 0, 0, 32, .ro, 0x0, .asIs, false⟩
/-- Every field of the COH family. -/
def Reg.cohPart0 : List Field :=
  [Reg.COH_CTRL.EN, Reg.COH_STATUS.ACTIVE, Reg.COH_STATUS.CFG_REFUSE, Reg.COH_STATUS.FLUSHING, Reg.COH_HERD_CFG.SIZE, Reg.COH_HERD_CFG.MY_SLOT, Reg.COH_MEMBERj.RANK_A, Reg.COH_MEMBERj.RANK_B, Reg.COH_WINk_BASE.BASE_MIB, Reg.COH_WINk_BASE.EN, Reg.COH_WINk_SIZE.SIZE_MIB, Reg.COH_TIMEOUT.US, Reg.COH_DIR_USED.COUNT, Reg.COH_BACKINV.COUNT, Reg.COH_LOST_COUNT.COUNT, Reg.COH_STRAY_COUNT.COUNT]
def Reg.cohFields : List Field := Reg.cohPart0

/-! Fields of the CMB page (R209). -/
def Reg.CMB_CTRL.CMB_EN : Field := ⟨.cmb, 0x8, 1, 0, 0, 1, .rw, 0x1, .asIs, false⟩
def Reg.CMB_CTRL.ROUTE_EN : Field := ⟨.cmb, 0x8, 1, 0, 1, 1, .rw, 0x0, .asIs, false⟩
def Reg.CMB_STATUS.STATION_VALID : Field := ⟨.cmb, 0xC, 1, 0, 0, 1, .ro, 0x0, .asIs, false⟩
def Reg.CMB_STATION.STATION : Field := ⟨.cmb, 0x20, 1, 0, 0, 15, .rwl, 0x0, .rsvd 0 24575, false⟩
def Reg.CMB_STATION.PLANE : Field := ⟨.cmb, 0x20, 1, 0, 16, 5, .rwl, 0x0, .rsvd 0 23, false⟩
def Reg.CMB_CFG.AGE_US : Field := ⟨.cmb, 0x24, 1, 0, 0, 7, .rwl, 0x64, .clamp 10 100, false⟩
def Reg.CMB_CFG.MAX_ATTACH : Field := ⟨.cmb, 0x24, 1, 0, 8, 7, .rwl, 0x40, .clamp 1 64, false⟩
def Reg.CMB_ENTRIES.COUNT : Field := ⟨.cmb, 0x28, 1, 0, 0, 13, .ro, 0x0, .asIs, false⟩
def Reg.CMB_MERGED.COUNT : Field := ⟨.cmb, 0x2C, 1, 0, 0, 32, .ro, 0x0, .asIs, false⟩
def Reg.CMB_LOOSE_DROP.COUNT : Field := ⟨.cmb, 0x30, 1, 0, 0, 32, .ro, 0x0, .asIs, false⟩
def Reg.CMB_AGE_DROP.COUNT : Field := ⟨.cmb, 0x34, 1, 0, 0, 32, .ro, 0x0, .asIs, false⟩
def Reg.CMB_NOROUTE.COUNT : Field := ⟨.cmb, 0x38, 1, 0, 0, 32, .ro, 0x0, .asIs, false⟩
def Reg.CMB_RT_LOCALi.PORT : Field := ⟨.cmb, 0x200, 256, 4, 0, 6, .rw, 0x0, .asIs, false⟩
def Reg.CMB_RT_LOCALi.VALID : Field := ⟨.cmb, 0x200, 256, 4, 6, 1, .rw, 0x0, .asIs, false⟩
def Reg.CMB_RT_PADp_LO.PORTS : Field := ⟨.cmb, 0x600, 96, 8, 0, 32, .rw, 0x0, .asIs, false⟩
def Reg.CMB_RT_PADp_HI.PORTS : Field := ⟨.cmb, 0x604, 96, 8, 0, 32, .rw, 0x0, .asIs, false⟩
/-- Every field of the CMB family. -/
def Reg.cmbPart0 : List Field :=
  [Reg.CMB_CTRL.CMB_EN, Reg.CMB_CTRL.ROUTE_EN, Reg.CMB_STATUS.STATION_VALID, Reg.CMB_STATION.STATION, Reg.CMB_STATION.PLANE, Reg.CMB_CFG.AGE_US, Reg.CMB_CFG.MAX_ATTACH, Reg.CMB_ENTRIES.COUNT, Reg.CMB_MERGED.COUNT, Reg.CMB_LOOSE_DROP.COUNT, Reg.CMB_AGE_DROP.COUNT, Reg.CMB_NOROUTE.COUNT, Reg.CMB_RT_LOCALi.PORT, Reg.CMB_RT_LOCALi.VALID, Reg.CMB_RT_PADp_LO.PORTS, Reg.CMB_RT_PADp_HI.PORTS]
def Reg.cmbFields : List Field := Reg.cmbPart0

/-! Fields of the HITCH page (R232). -/
def Reg.HITCH_CTRL.EN : Field := ⟨.hitch, 0x8, 1, 0, 0, 1, .rw, 0x1, .asIs, false⟩
def Reg.HITCH_STATUS.ACTIVE : Field := ⟨.hitch, 0xC, 1, 0, 0, 11, .ro, 0x0, .asIs, false⟩
def Reg.HITCH_STATUS.STOPPED : Field := ⟨.hitch, 0xC, 1, 0, 11, 1, .ro, 0x0, .asIs, false⟩
def Reg.HITCH_STATUS.DRAINING : Field := ⟨.hitch, 0xC, 1, 0, 12, 1, .ro, 0x0, .asIs, false⟩
def Reg.HITCH_SEL.HID : Field := ⟨.hitch, 0x20, 1, 0, 0, 10, .rw, 0x0, .asIs, false⟩
def Reg.HITCH_CMD.WRITE : Field := ⟨.hitch, 0x24, 1, 0, 0, 1, .wo, 0x0, .asIs, false⟩
def Reg.HITCH_CMD.READ : Field := ⟨.hitch, 0x24, 1, 0, 1, 1, .wo, 0x0, .asIs, false⟩
def Reg.HITCH_CMD.CLEAR : Field := ⟨.hitch, 0x24, 1, 0, 2, 1, .wo, 0x0, .asIs, false⟩
def Reg.HITCH_CMD.MEMBER_SET : Field := ⟨.hitch, 0x24, 1, 0, 3, 1, .wo, 0x0, .asIs, false⟩
def Reg.HITCH_CMD_STATUS.CODE : Field := ⟨.hitch, 0x28, 1, 0, 0, 8, .ro, 0x0, .asIs, false⟩
def Reg.HITCH_CMD_STATUS.DONE : Field := ⟨.hitch, 0x28, 1, 0, 8, 1, .ro, 0x0, .asIs, false⟩
def Reg.HITCH_TIMEOUT.US : Field := ⟨.hitch, 0x2C, 1, 0, 0, 16, .rwl, 0x2710, .clamp 10 65535, false⟩
def Reg.HITCH_HELD.HID : Field := ⟨.hitch, 0x30, 1, 0, 0, 10, .ro, 0x0, .asIs, false⟩
def Reg.HITCH_HELD.ANY : Field := ⟨.hitch, 0x30, 1, 0, 10, 1, .ro, 0x0, .asIs, false⟩
def Reg.HITCH_STALE_COUNT.COUNT : Field := ⟨.hitch, 0x34, 1, 0, 0, 32, .ro, 0x0, .asIs, false⟩
def Reg.HITCH_STOP_DT_LO.NS : Field := ⟨.hitch, 0x38, 1, 0, 0, 32, .ro, 0x0, .asIs, false⟩
def Reg.HITCH_STOP_DT_HI.NS : Field := ⟨.hitch, 0x3C, 1, 0, 0, 32, .ro, 0x0, .asIs, false⟩
def Reg.HITCH_SMEAR_COUNT.COUNT : Field := ⟨.hitch, 0x40, 1, 0, 0, 32, .ro, 0x0, .asIs, false⟩
def Reg.HITCH_WINw.DATA : Field := ⟨.hitch, 0x100, 8, 4, 0, 32, .rw, 0x0, .asIs, false⟩
/-- Every field of the HITCH family. -/
def Reg.hitchPart0 : List Field :=
  [Reg.HITCH_CTRL.EN, Reg.HITCH_STATUS.ACTIVE, Reg.HITCH_STATUS.STOPPED, Reg.HITCH_STATUS.DRAINING, Reg.HITCH_SEL.HID, Reg.HITCH_CMD.WRITE, Reg.HITCH_CMD.READ, Reg.HITCH_CMD.CLEAR, Reg.HITCH_CMD.MEMBER_SET, Reg.HITCH_CMD_STATUS.CODE, Reg.HITCH_CMD_STATUS.DONE, Reg.HITCH_TIMEOUT.US, Reg.HITCH_HELD.HID, Reg.HITCH_HELD.ANY, Reg.HITCH_STALE_COUNT.COUNT, Reg.HITCH_STOP_DT_LO.NS, Reg.HITCH_STOP_DT_HI.NS, Reg.HITCH_SMEAR_COUNT.COUNT, Reg.HITCH_WINw.DATA]
def Reg.hitchFields : List Field := Reg.hitchPart0

/-! Fields of the RED page (R175). -/
def Reg.RED_CTRL.EN : Field := ⟨.red, 0x8, 1, 0, 0, 1, .rw, 0x1, .asIs, false⟩
def Reg.RED_STATUS.IN_SERVICE : Field := ⟨.red, 0xC, 1, 0, 0, 1, .ro, 0x1, .asIs, false⟩
def Reg.RED_STATUS.LOST : Field := ⟨.red, 0xC, 1, 0, 1, 1, .ro, 0x0, .asIs, false⟩
def Reg.REDn_STAGE_KIB.KIB : Field := ⟨.red, 0x20, 1, 0, 0, 12, .ro, 0x0, .asIs, false⟩
def Reg.REDn_STRIPES.COUNT : Field := ⟨.red, 0x24, 1, 0, 0, 16, .ro, 0x0, .asIs, false⟩
def Reg.REDn_OPND_LO.COUNT : Field := ⟨.red, 0x28, 1, 0, 0, 32, .ro, 0x0, .asIs, false⟩
def Reg.REDn_OPND_HI.COUNT : Field := ⟨.red, 0x2C, 1, 0, 0, 32, .ro, 0x0, .asIs, false⟩
def Reg.REDn_FINAL.COUNT : Field := ⟨.red, 0x30, 1, 0, 0, 32, .ro, 0x0, .asIs, false⟩
def Reg.RED_DESC_SEL.INDEX : Field := ⟨.red, 0x40, 1, 0, 0, 12, .rw, 0x0, .asIs, true⟩
def Reg.RED_DESC_CMD.WRITE : Field := ⟨.red, 0x44, 1, 0, 0, 1, .wo, 0x0, .asIs, true⟩
def Reg.RED_DESC_CMD.READ : Field := ⟨.red, 0x44, 1, 0, 1, 1, .wo, 0x0, .asIs, true⟩
def Reg.RED_DESC_CMD.INVALIDATE : Field := ⟨.red, 0x44, 1, 0, 2, 1, .wo, 0x0, .asIs, true⟩
def Reg.RED_DESC_CMD.RESET_ROOT : Field := ⟨.red, 0x44, 1, 0, 3, 1, .wo, 0x0, .asIs, true⟩
def Reg.RED_DESC_STATUS.CODE : Field := ⟨.red, 0x48, 1, 0, 0, 8, .ro, 0x0, .asIs, true⟩
def Reg.RED_DESC_STATUS.DONE : Field := ⟨.red, 0x48, 1, 0, 8, 1, .ro, 0x0, .asIs, true⟩
def Reg.RED_STAGE_FREE.KIB : Field := ⟨.red, 0x4C, 1, 0, 0, 15, .ro, 0x0, .asIs, true⟩
def Reg.RED_INST_OPEN.COUNT : Field := ⟨.red, 0x50, 1, 0, 0, 11, .ro, 0x0, .asIs, true⟩
def Reg.RED_FLAGS.INEXACT : Field := ⟨.red, 0x54, 1, 0, 0, 1, .w1c, 0x0, .asIs, true⟩
def Reg.RED_FLAGS.UNDERFLOW : Field := ⟨.red, 0x54, 1, 0, 1, 1, .w1c, 0x0, .asIs, true⟩
def Reg.RED_FLAGS.OVERFLOW : Field := ⟨.red, 0x54, 1, 0, 2, 1, .w1c, 0x0, .asIs, true⟩
def Reg.RED_FLAGS.INVALID : Field := ⟨.red, 0x54, 1, 0, 3, 1, .w1c, 0x0, .asIs, true⟩
def Reg.RED_INCOMPLETE.COUNT : Field := ⟨.red, 0x58, 1, 0, 0, 32, .ro, 0x0, .asIs, true⟩
def Reg.RED_STALLED.INDEX : Field := ⟨.red, 0x5C, 1, 0, 0, 12, .ro, 0x0, .asIs, true⟩
def Reg.RED_STALLED.ANY : Field := ⟨.red, 0x5C, 1, 0, 12, 1, .ro, 0x0, .asIs, true⟩
def Reg.RED_OVERCOUNT_DROP.COUNT : Field := ⟨.red, 0x60, 1, 0, 0, 32, .ro, 0x0, .asIs, true⟩
def Reg.RED_DESC_WINw.DATA : Field := ⟨.red, 0x100, 16, 4, 0, 32, .rw, 0x0, .asIs, true⟩
/-- Every field of the RED family. -/
def Reg.redPart0 : List Field :=
  [Reg.RED_CTRL.EN, Reg.RED_STATUS.IN_SERVICE, Reg.RED_STATUS.LOST, Reg.REDn_STAGE_KIB.KIB, Reg.REDn_STRIPES.COUNT, Reg.REDn_OPND_LO.COUNT, Reg.REDn_OPND_HI.COUNT, Reg.REDn_FINAL.COUNT, Reg.RED_DESC_SEL.INDEX, Reg.RED_DESC_CMD.WRITE, Reg.RED_DESC_CMD.READ, Reg.RED_DESC_CMD.INVALIDATE, Reg.RED_DESC_CMD.RESET_ROOT, Reg.RED_DESC_STATUS.CODE, Reg.RED_DESC_STATUS.DONE, Reg.RED_STAGE_FREE.KIB, Reg.RED_INST_OPEN.COUNT, Reg.RED_FLAGS.INEXACT, Reg.RED_FLAGS.UNDERFLOW, Reg.RED_FLAGS.OVERFLOW, Reg.RED_FLAGS.INVALID, Reg.RED_INCOMPLETE.COUNT, Reg.RED_STALLED.INDEX, Reg.RED_STALLED.ANY, Reg.RED_OVERCOUNT_DROP.COUNT, Reg.RED_DESC_WINw.DATA]
def Reg.redFields : List Field := Reg.redPart0

/-! Fields of the LPT page (R132). -/
def Reg.LPT_CTRL.ENABLE : Field := ⟨.lpt, 0x8, 1, 0, 0, 1, .rw, 0x1, .asIs, false⟩
def Reg.LPT_CTRL.RETRAIN : Field := ⟨.lpt, 0x8, 1, 0, 1, 1, .wo, 0x0, .asIs, false⟩
def Reg.LPT_CTRL.GO_DARK : Field := ⟨.lpt, 0x8, 1, 0, 2, 1, .wo, 0x0, .asIs, false⟩
def Reg.LPT_CTRL.REKEY_NOW : Field := ⟨.lpt, 0x8, 1, 0, 3, 1, .wo, 0x0, .asIs, false⟩
def Reg.LPT_CTRL.PDN_CLEAR : Field := ⟨.lpt, 0x8, 1, 0, 4, 1, .wo, 0x0, .asIs, false⟩
def Reg.LPT_STATUS.LSTATE : Field := ⟨.lpt, 0xC, 1, 0, 0, 3, .ro, 0x0, .asIs, false⟩
def Reg.LPT_STATUS.PHY_READY : Field := ⟨.lpt, 0xC, 1, 0, 3, 1, .ro, 0x0, .asIs, false⟩
def Reg.LPT_STATUS.LINK_VER : Field := ⟨.lpt, 0xC, 1, 0, 4, 4, .ro, 0x0, .asIs, false⟩
def Reg.LPT_STATUS.DARK : Field := ⟨.lpt, 0xC, 1, 0, 8, 1, .ro, 0x1, .asIs, false⟩
def Reg.LPT_STATUS.KEY_PH : Field := ⟨.lpt, 0xC, 1, 0, 9, 1, .ro, 0x0, .asIs, false⟩
def Reg.LPT_STATUS.PDN_SEEN : Field := ⟨.lpt, 0xC, 1, 0, 10, 1, .ro, 0x0, .asIs, false⟩
def Reg.LPT_STATUS.DARK_CAUSE : Field := ⟨.lpt, 0xC, 1, 0, 11, 3, .ro, 0x0, .asIs, false⟩
def Reg.LPTn_PEER_ID.PORT_ID : Field := ⟨.lpt, 0x20, 1, 0, 0, 32, .ro, 0x0, .asIs, false⟩
def Reg.LPTn_TRAIN_FAIL.CODE : Field := ⟨.lpt, 0x24, 1, 0, 0, 8, .ro, 0x0, .asIs, false⟩
def Reg.LPTn_EPOCH.EPOCH : Field := ⟨.lpt, 0x28, 1, 0, 0, 31, .ro, 0x0, .asIs, false⟩
def Reg.LPTn_KEY_SLOT.SLOT : Field := ⟨.lpt, 0x2C, 1, 0, 0, 5, .ro, 0x0, .asIs, false⟩
def Reg.LPTn_KEY_SLOT.VALID : Field := ⟨.lpt, 0x2C, 1, 0, 5, 1, .ro, 0x0, .asIs, false⟩
def Reg.LPTn_KEY_SLOT.DLK_GEN : Field := ⟨.lpt, 0x2C, 1, 0, 6, 16, .ro, 0x0, .asIs, false⟩
def Reg.LPTn_KEY_FRAMES_LO.COUNT : Field := ⟨.lpt, 0x30, 1, 0, 0, 32, .ro, 0x0, .asIs, false⟩
def Reg.LPTn_KEY_FRAMES_HI.COUNT : Field := ⟨.lpt, 0x34, 1, 0, 0, 32, .ro, 0x0, .asIs, false⟩
def Reg.LPTn_REKEY_CFG.LOG2_FRAMES : Field := ⟨.lpt, 0x38, 1, 0, 0, 6, .rwl, 0x28, .clamp 33 40, false⟩
def Reg.LPTn_RETRY_CFG.STORM_COUNT : Field := ⟨.lpt, 0x3C, 1, 0, 0, 8, .rwl, 0x40, .clamp 1 255, false⟩
def Reg.LPTn_RETRY_CFG.RETRAIN_MAX : Field := ⟨.lpt, 0x3C, 1, 0, 8, 8, .rwl, 0x3, .clamp 1 255, false⟩
def Reg.LPTn_RETRY_COUNT.COUNT : Field := ⟨.lpt, 0x40, 1, 0, 0, 32, .ro, 0x0, .asIs, false⟩
def Reg.LPTn_TAG_FAIL_COUNT.COUNT : Field := ⟨.lpt, 0x44, 1, 0, 0, 32, .ro, 0x0, .asIs, false⟩
def Reg.LPTn_FEC_UNCORR_COUNT.COUNT : Field := ⟨.lpt, 0x48, 1, 0, 0, 32, .ro, 0x0, .asIs, false⟩
def Reg.LPTn_STRAY_COUNT.COUNT : Field := ⟨.lpt, 0x4C, 1, 0, 0, 32, .ro, 0x0, .asIs, false⟩
def Reg.LPTn_BAD_FRAME_COUNT.COUNT : Field := ⟨.lpt, 0x50, 1, 0, 0, 32, .ro, 0x0, .asIs, false⟩
def Reg.LPTn_CTL_DROP.COUNT : Field := ⟨.lpt, 0x54, 1, 0, 0, 32, .ro, 0x0, .asIs, false⟩
def Reg.LPTn_RETRAIN_COUNT.COUNT : Field := ⟨.lpt, 0x58, 1, 0, 0, 16, .ro, 0x0, .asIs, false⟩
/-- Every field of the LPT family. -/
def Reg.lptPart0 : List Field :=
  [Reg.LPT_CTRL.ENABLE, Reg.LPT_CTRL.RETRAIN, Reg.LPT_CTRL.GO_DARK, Reg.LPT_CTRL.REKEY_NOW, Reg.LPT_CTRL.PDN_CLEAR, Reg.LPT_STATUS.LSTATE, Reg.LPT_STATUS.PHY_READY, Reg.LPT_STATUS.LINK_VER, Reg.LPT_STATUS.DARK, Reg.LPT_STATUS.KEY_PH, Reg.LPT_STATUS.PDN_SEEN, Reg.LPT_STATUS.DARK_CAUSE, Reg.LPTn_PEER_ID.PORT_ID, Reg.LPTn_TRAIN_FAIL.CODE, Reg.LPTn_EPOCH.EPOCH, Reg.LPTn_KEY_SLOT.SLOT, Reg.LPTn_KEY_SLOT.VALID, Reg.LPTn_KEY_SLOT.DLK_GEN, Reg.LPTn_KEY_FRAMES_LO.COUNT, Reg.LPTn_KEY_FRAMES_HI.COUNT, Reg.LPTn_REKEY_CFG.LOG2_FRAMES, Reg.LPTn_RETRY_CFG.STORM_COUNT, Reg.LPTn_RETRY_CFG.RETRAIN_MAX, Reg.LPTn_RETRY_COUNT.COUNT, Reg.LPTn_TAG_FAIL_COUNT.COUNT, Reg.LPTn_FEC_UNCORR_COUNT.COUNT, Reg.LPTn_STRAY_COUNT.COUNT, Reg.LPTn_BAD_FRAME_COUNT.COUNT, Reg.LPTn_CTL_DROP.COUNT, Reg.LPTn_RETRAIN_COUNT.COUNT]
def Reg.lptFields : List Field := Reg.lptPart0

/-! Fields of the FE page (R323). -/
def Reg.FE_CTRL.EN : Field := ⟨.fe, 0x8, 1, 0, 0, 1, .rw, 0x1, .asIs, false⟩
def Reg.FE_STATUS.SLICE_OK : Field := ⟨.fe, 0xC, 1, 0, 0, 8, .ro, 0xFF, .asIs, false⟩
def Reg.FE_STATUS.NEG_HOLD : Field := ⟨.fe, 0xC, 1, 0, 8, 1, .ro, 0x1, .asIs, false⟩
def Reg.FE_GEN.GEN : Field := ⟨.fe, 0x20, 1, 0, 0, 8, .ro, 0x0, .asIs, false⟩
def Reg.FE_KQ_RING_LO.ADDR : Field := ⟨.fe, 0x24, 1, 0, 0, 32, .rwl, 0x0, .asIs, false⟩
def Reg.FE_KQ_RING_HI.ADDR : Field := ⟨.fe, 0x28, 1, 0, 0, 32, .rwl, 0x0, .asIs, false⟩
def Reg.FE_KQ_CFG.LOG2_SLOTS : Field := ⟨.fe, 0x2C, 1, 0, 0, 5, .rwl, 0x8, .els 4 16 8, false⟩
def Reg.FE_KQ_CFG.STAT_EN : Field := ⟨.fe, 0x2C, 1, 0, 5, 1, .rwl, 0x0, .asIs, false⟩
def Reg.FE_KQ_CFG.WB_EN : Field := ⟨.fe, 0x2C, 1, 0, 6, 1, .rwl, 0x0, .asIs, false⟩
def Reg.FE_KQ_CFG.EN : Field := ⟨.fe, 0x2C, 1, 0, 7, 1, .rwl, 0x0, .asIs, false⟩
def Reg.FE_KQ_CFG.VEC : Field := ⟨.fe, 0x2C, 1, 0, 8, 11, .rwl, 0x0, .asIs, false⟩
def Reg.FE_KQ_STAT_LO.ADDR : Field := ⟨.fe, 0x30, 1, 0, 0, 32, .rwl, 0x0, .asIs, false⟩
def Reg.FE_KQ_STAT_HI.ADDR : Field := ⟨.fe, 0x34, 1, 0, 0, 32, .rwl, 0x0, .asIs, false⟩
def Reg.FE_KQ_WB_LO.ADDR : Field := ⟨.fe, 0x38, 1, 0, 0, 32, .rwl, 0x0, .asIs, false⟩
def Reg.FE_KQ_WB_HI.ADDR : Field := ⟨.fe, 0x3C, 1, 0, 0, 32, .rwl, 0x0, .asIs, false⟩
def Reg.FE_Q_SEL.Q : Field := ⟨.fe, 0x40, 1, 0, 0, 13, .rw, 0x0, .asIs, false⟩
def Reg.FE_Q_STATE.QSTATE : Field := ⟨.fe, 0x44, 1, 0, 0, 3, .ro, 0x0, .asIs, false⟩
def Reg.FE_Q_STATE.BIND : Field := ⟨.fe, 0x44, 1, 0, 3, 2, .ro, 0x0, .asIs, false⟩
def Reg.FE_Q_STATE.INFLIGHT : Field := ⟨.fe, 0x44, 1, 0, 5, 7, .ro, 0x0, .asIs, false⟩
def Reg.FE_Q_STATE.STOP_CODE : Field := ⟨.fe, 0x44, 1, 0, 12, 8, .ro, 0x0, .asIs, false⟩
def Reg.FE_Q_STATE.CTX : Field := ⟨.fe, 0x44, 1, 0, 20, 12, .ro, 0x0, .asIs, false⟩
def Reg.FE_Q_RPTR.RPTR : Field := ⟨.fe, 0x48, 1, 0, 0, 32, .ro, 0x0, .asIs, false⟩
def Reg.FE_Q_WPTR.WPTR : Field := ⟨.fe, 0x4C, 1, 0, 0, 32, .ro, 0x0, .asIs, false⟩
def Reg.FE_LSQ_PRESENT_LO.PRESENT : Field := ⟨.fe, 0x50, 1, 0, 0, 32, .ro, 0x0, .asIs, false⟩
def Reg.FE_LSQ_PRESENT_HI.PRESENT : Field := ⟨.fe, 0x54, 1, 0, 0, 32, .ro, 0x0, .asIs, false⟩
def Reg.FE_LSQ_CFG.HB_US : Field := ⟨.fe, 0x58, 1, 0, 0, 16, .rwl, 0x64, .clamp 10 65535, false⟩
def Reg.FE_RING_UNBIND.RING : Field := ⟨.fe, 0x5C, 1, 0, 0, 8, .wo, 0x0, .asIs, false⟩
def Reg.FE_PKT_COUNT_LO.COUNT : Field := ⟨.fe, 0x60, 1, 0, 0, 32, .ro, 0x0, .asIs, false⟩
def Reg.FE_PKT_COUNT_HI.COUNT : Field := ⟨.fe, 0x64, 1, 0, 0, 32, .ro, 0x0, .asIs, false⟩
def Reg.FE_REFUSE_COUNT.COUNT : Field := ⟨.fe, 0x68, 1, 0, 0, 32, .ro, 0x0, .asIs, false⟩
def Reg.FE_DB_STRAY.COUNT : Field := ⟨.fe, 0x6C, 1, 0, 0, 32, .ro, 0x0, .asIs, false⟩
def Reg.FE_DB_RANGE_COUNT.COUNT : Field := ⟨.fe, 0x70, 1, 0, 0, 32, .ro, 0x0, .asIs, false⟩
def Reg.FE_LSQ_BAD.COUNT : Field := ⟨.fe, 0x74, 1, 0, 0, 32, .ro, 0x0, .asIs, false⟩
def Reg.FE_STORE_USED.SLOTS : Field := ⟨.fe, 0x78, 1, 0, 0, 13, .ro, 0x0, .asIs, false⟩
/-- Every field of the FE family. -/
def Reg.fePart0 : List Field :=
  [Reg.FE_CTRL.EN, Reg.FE_STATUS.SLICE_OK, Reg.FE_STATUS.NEG_HOLD, Reg.FE_GEN.GEN, Reg.FE_KQ_RING_LO.ADDR, Reg.FE_KQ_RING_HI.ADDR, Reg.FE_KQ_CFG.LOG2_SLOTS, Reg.FE_KQ_CFG.STAT_EN, Reg.FE_KQ_CFG.WB_EN, Reg.FE_KQ_CFG.EN, Reg.FE_KQ_CFG.VEC, Reg.FE_KQ_STAT_LO.ADDR, Reg.FE_KQ_STAT_HI.ADDR, Reg.FE_KQ_WB_LO.ADDR, Reg.FE_KQ_WB_HI.ADDR, Reg.FE_Q_SEL.Q, Reg.FE_Q_STATE.QSTATE, Reg.FE_Q_STATE.BIND, Reg.FE_Q_STATE.INFLIGHT, Reg.FE_Q_STATE.STOP_CODE, Reg.FE_Q_STATE.CTX, Reg.FE_Q_RPTR.RPTR, Reg.FE_Q_WPTR.WPTR, Reg.FE_LSQ_PRESENT_LO.PRESENT, Reg.FE_LSQ_PRESENT_HI.PRESENT, Reg.FE_LSQ_CFG.HB_US, Reg.FE_RING_UNBIND.RING, Reg.FE_PKT_COUNT_LO.COUNT, Reg.FE_PKT_COUNT_HI.COUNT, Reg.FE_REFUSE_COUNT.COUNT]
def Reg.fePart1 : List Field :=
  [Reg.FE_DB_STRAY.COUNT, Reg.FE_DB_RANGE_COUNT.COUNT, Reg.FE_LSQ_BAD.COUNT, Reg.FE_STORE_USED.SLOTS]
def Reg.feFields : List Field := Reg.fePart0 ++ Reg.fePart1

/-! Fields of the CTXS page (R349). -/
def Reg.CTXS_STATUS.RESIDENT : Field := ⟨.ctxs, 0xC, 1, 0, 0, 6, .ro, 0x0, .asIs, false⟩
def Reg.CTXS_STATUS.PINNED : Field := ⟨.ctxs, 0xC, 1, 0, 6, 6, .ro, 0x0, .asIs, false⟩
def Reg.CTXS_STATUS.TABLES_SET : Field := ⟨.ctxs, 0xC, 1, 0, 12, 1, .ro, 0x0, .asIs, false⟩
def Reg.CTXS_TBL_LO.ADDR : Field := ⟨.ctxs, 0x20, 1, 0, 0, 32, .rwl, 0x0, .asIs, false⟩
def Reg.CTXS_TBL_HI.ADDR : Field := ⟨.ctxs, 0x24, 1, 0, 0, 13, .rwl, 0x0, .asIs, false⟩
def Reg.OBJ_TBL_LO.ADDR : Field := ⟨.ctxs, 0x28, 1, 0, 0, 32, .rwl, 0x0, .asIs, false⟩
def Reg.OBJ_TBL_HI.ADDR : Field := ⟨.ctxs, 0x2C, 1, 0, 0, 13, .rwl, 0x0, .asIs, false⟩
def Reg.CTXS_QSEL.CTX : Field := ⟨.ctxs, 0x30, 1, 0, 0, 12, .rw, 0x0, .asIs, false⟩
def Reg.CTXS_QCMD.SNAP : Field := ⟨.ctxs, 0x34, 1, 0, 0, 1, .wo, 0x0, .asIs, false⟩
def Reg.CTXS_QSTATUS.DONE : Field := ⟨.ctxs, 0x38, 1, 0, 0, 1, .ro, 0x0, .asIs, false⟩
def Reg.CTXS_QSTATUS.ABSENT : Field := ⟨.ctxs, 0x38, 1, 0, 1, 1, .ro, 0x0, .asIs, false⟩
def Reg.CTXS_OBJ_KICK.HANDLE : Field := ⟨.ctxs, 0x3C, 1, 0, 0, 18, .wo, 0x0, .asIs, false⟩
def Reg.CTXS_TD_PEND.HANDLE : Field := ⟨.ctxs, 0x40, 1, 0, 0, 18, .ro, 0x0, .asIs, false⟩
def Reg.CTXS_TD_PEND.KIND : Field := ⟨.ctxs, 0x40, 1, 0, 18, 2, .ro, 0x0, .asIs, false⟩
def Reg.CTXS_TD_PEND.VALID : Field := ⟨.ctxs, 0x40, 1, 0, 20, 1, .ro, 0x0, .asIs, false⟩
def Reg.CTXS_TD_DONE.DONE : Field := ⟨.ctxs, 0x44, 1, 0, 0, 1, .wo, 0x0, .asIs, false⟩
def Reg.CTXS_WALKS.COUNT : Field := ⟨.ctxs, 0x48, 1, 0, 0, 32, .ro, 0x0, .asIs, false⟩
def Reg.CTXS_EVICTS.COUNT : Field := ⟨.ctxs, 0x4C, 1, 0, 0, 32, .ro, 0x0, .asIs, false⟩
def Reg.CTXS_RES_WAIT.COUNT : Field := ⟨.ctxs, 0x50, 1, 0, 0, 32, .ro, 0x0, .asIs, false⟩
def Reg.CTXS_RETIRE_USED.COUNT : Field := ⟨.ctxs, 0x54, 1, 0, 0, 11, .ro, 0x0, .asIs, false⟩
def Reg.CTXS_QWINw.DATA : Field := ⟨.ctxs, 0x100, 28, 4, 0, 32, .ro, 0x0, .asIs, false⟩
/-- Every field of the CTXS family. -/
def Reg.ctxsPart0 : List Field :=
  [Reg.CTXS_STATUS.RESIDENT, Reg.CTXS_STATUS.PINNED, Reg.CTXS_STATUS.TABLES_SET, Reg.CTXS_TBL_LO.ADDR, Reg.CTXS_TBL_HI.ADDR, Reg.OBJ_TBL_LO.ADDR, Reg.OBJ_TBL_HI.ADDR, Reg.CTXS_QSEL.CTX, Reg.CTXS_QCMD.SNAP, Reg.CTXS_QSTATUS.DONE, Reg.CTXS_QSTATUS.ABSENT, Reg.CTXS_OBJ_KICK.HANDLE, Reg.CTXS_TD_PEND.HANDLE, Reg.CTXS_TD_PEND.KIND, Reg.CTXS_TD_PEND.VALID, Reg.CTXS_TD_DONE.DONE, Reg.CTXS_WALKS.COUNT, Reg.CTXS_EVICTS.COUNT, Reg.CTXS_RES_WAIT.COUNT, Reg.CTXS_RETIRE_USED.COUNT, Reg.CTXS_QWINw.DATA]
def Reg.ctxsFields : List Field := Reg.ctxsPart0

/-! Fields of the FNS page (R351). -/
def Reg.FNS_STATUS.RESIDENT : Field := ⟨.fns, 0xC, 1, 0, 0, 7, .ro, 0x0, .asIs, false⟩
def Reg.FNS_STATUS.PINNED : Field := ⟨.fns, 0xC, 1, 0, 7, 7, .ro, 0x0, .asIs, false⟩
def Reg.FNS_TBL_LO.ADDR : Field := ⟨.fns, 0x20, 1, 0, 0, 32, .rwl, 0x0, .asIs, false⟩
def Reg.FNS_TBL_HI.ADDR : Field := ⟨.fns, 0x24, 1, 0, 0, 13, .rwl, 0x0, .asIs, false⟩
def Reg.FNS_SEL.FENCE : Field := ⟨.fns, 0x28, 1, 0, 0, 16, .rw, 0x0, .asIs, false⟩
def Reg.FNS_CMD.READ : Field := ⟨.fns, 0x2C, 1, 0, 0, 1, .wo, 0x0, .asIs, false⟩
def Reg.FNS_VALUE_LO.VALUE : Field := ⟨.fns, 0x30, 1, 0, 0, 32, .ro, 0x0, .asIs, false⟩
def Reg.FNS_VALUE_HI.VALUE : Field := ⟨.fns, 0x34, 1, 0, 0, 32, .ro, 0x0, .asIs, false⟩
def Reg.FNS_INFO.ERR_CODE : Field := ⟨.fns, 0x38, 1, 0, 0, 8, .ro, 0x0, .asIs, false⟩
def Reg.FNS_INFO.ERR : Field := ⟨.fns, 0x38, 1, 0, 8, 1, .ro, 0x0, .asIs, false⟩
def Reg.FNS_INFO.RESIDENT : Field := ⟨.fns, 0x38, 1, 0, 9, 1, .ro, 0x0, .asIs, false⟩
def Reg.FNS_INFO.VALID : Field := ⟨.fns, 0x38, 1, 0, 10, 1, .ro, 0x0, .asIs, false⟩
def Reg.FNS_INFO.DYING : Field := ⟨.fns, 0x38, 1, 0, 11, 1, .ro, 0x0, .asIs, false⟩
def Reg.FNS_INFO.TOKENS : Field := ⟨.fns, 0x38, 1, 0, 12, 16, .ro, 0x0, .asIs, false⟩
def Reg.FNS_WAITERS.WAITS : Field := ⟨.fns, 0x3C, 1, 0, 0, 14, .ro, 0x0, .asIs, false⟩
def Reg.FNS_WAITERS.TAKES : Field := ⟨.fns, 0x3C, 1, 0, 16, 14, .ro, 0x0, .asIs, false⟩
def Reg.FNS_NR_PEND.FENCE : Field := ⟨.fns, 0x40, 1, 0, 0, 16, .ro, 0x0, .asIs, false⟩
def Reg.FNS_NR_PEND.VALID : Field := ⟨.fns, 0x40, 1, 0, 16, 1, .ro, 0x0, .asIs, false⟩
def Reg.FNS_EVICT.FENCE : Field := ⟨.fns, 0x44, 1, 0, 0, 16, .wo, 0x0, .asIs, false⟩
def Reg.FNS_NR_SIG.COUNT : Field := ⟨.fns, 0x48, 1, 0, 0, 32, .ro, 0x0, .asIs, false⟩
def Reg.FNS_SLOT_WAIT.COUNT : Field := ⟨.fns, 0x4C, 1, 0, 0, 32, .ro, 0x0, .asIs, false⟩
/-- Every field of the FNS family. -/
def Reg.fnsPart0 : List Field :=
  [Reg.FNS_STATUS.RESIDENT, Reg.FNS_STATUS.PINNED, Reg.FNS_TBL_LO.ADDR, Reg.FNS_TBL_HI.ADDR, Reg.FNS_SEL.FENCE, Reg.FNS_CMD.READ, Reg.FNS_VALUE_LO.VALUE, Reg.FNS_VALUE_HI.VALUE, Reg.FNS_INFO.ERR_CODE, Reg.FNS_INFO.ERR, Reg.FNS_INFO.RESIDENT, Reg.FNS_INFO.VALID, Reg.FNS_INFO.DYING, Reg.FNS_INFO.TOKENS, Reg.FNS_WAITERS.WAITS, Reg.FNS_WAITERS.TAKES, Reg.FNS_NR_PEND.FENCE, Reg.FNS_NR_PEND.VALID, Reg.FNS_EVICT.FENCE, Reg.FNS_NR_SIG.COUNT, Reg.FNS_SLOT_WAIT.COUNT]
def Reg.fnsFields : List Field := Reg.fnsPart0

/-! Fields of the VF page (R362). -/
def Reg.VF_CTRL.QUIESCE : Field := ⟨.vf, 0x8, 1, 0, 0, 1, .wo, 0x0, .asIs, false⟩
def Reg.VF_CTRL.RELEASE : Field := ⟨.vf, 0x8, 1, 0, 1, 1, .wo, 0x0, .asIs, false⟩
def Reg.VF_STATUS.VSTATE : Field := ⟨.vf, 0xC, 1, 0, 0, 3, .ro, 0x0, .asIs, false⟩
def Reg.VF_STATUS.FLR_PEND : Field := ⟨.vf, 0xC, 1, 0, 3, 1, .ro, 0x0, .asIs, false⟩
def Reg.VF_STATUS.VF_EN : Field := ⟨.vf, 0xC, 1, 0, 4, 1, .ro, 0x0, .asIs, false⟩
def Reg.VF_STATUS.KQ_READY : Field := ⟨.vf, 0xC, 1, 0, 5, 1, .ro, 0x0, .asIs, false⟩
def Reg.VFn_QUEUES.QBASE : Field := ⟨.vf, 0x20, 1, 0, 0, 13, .ro, 0x0, .asIs, false⟩
def Reg.VFn_QUEUES.QCOUNT : Field := ⟨.vf, 0x20, 1, 0, 13, 9, .ro, 0x0, .asIs, false⟩
def Reg.VFn_CTXS.BASE : Field := ⟨.vf, 0x24, 1, 0, 0, 12, .ro, 0x0, .asIs, false⟩
def Reg.VFn_CTXS.COUNT : Field := ⟨.vf, 0x24, 1, 0, 12, 13, .ro, 0x0, .asIs, false⟩
def Reg.VFn_FENCES.BASE : Field := ⟨.vf, 0x28, 1, 0, 0, 16, .ro, 0x0, .asIs, false⟩
def Reg.VFn_FENCES.COUNT : Field := ⟨.vf, 0x28, 1, 0, 16, 16, .ro, 0x0, .asIs, false⟩
def Reg.VFn_OBJ_BASE.BASE : Field := ⟨.vf, 0x2C, 1, 0, 0, 18, .ro, 0x0, .asIs, false⟩
def Reg.VFn_OBJ_COUNT.COUNT : Field := ⟨.vf, 0x30, 1, 0, 0, 19, .ro, 0x0, .asIs, false⟩
def Reg.VFn_SHARES.BASE : Field := ⟨.vf, 0x34, 1, 0, 0, 10, .ro, 0x0, .asIs, false⟩
def Reg.VFn_SHARES.COUNT : Field := ⟨.vf, 0x34, 1, 0, 10, 11, .ro, 0x0, .asIs, false⟩
def Reg.VFn_LIMITS.VEC_COUNT : Field := ⟨.vf, 0x38, 1, 0, 0, 12, .ro, 0x0, .asIs, false⟩
def Reg.VFn_LIMITS.BINDS : Field := ⟨.vf, 0x38, 1, 0, 12, 9, .ro, 0x0, .asIs, false⟩
def Reg.VFn_MEM_2M.UNITS : Field := ⟨.vf, 0x3C, 1, 0, 0, 24, .ro, 0x0, .asIs, false⟩
def Reg.VFn_LOOSE.GBPS : Field := ⟨.vf, 0x40, 1, 0, 0, 13, .ro, 0x0, .asIs, false⟩
def Reg.VFn_USE0.CTX : Field := ⟨.vf, 0x44, 1, 0, 0, 13, .ro, 0x0, .asIs, false⟩
def Reg.VFn_USE0.BINDS : Field := ⟨.vf, 0x44, 1, 0, 13, 9, .ro, 0x0, .asIs, false⟩
def Reg.VFn_USE_FENCE.COUNT : Field := ⟨.vf, 0x48, 1, 0, 0, 17, .ro, 0x0, .asIs, false⟩
def Reg.VFn_USE_OBJ.COUNT : Field := ⟨.vf, 0x4C, 1, 0, 0, 19, .ro, 0x0, .asIs, false⟩
def Reg.VFn_USE_MEM_2M.UNITS : Field := ⟨.vf, 0x50, 1, 0, 0, 24, .ro, 0x0, .asIs, false⟩
def Reg.VFn_QUOTA_REFUSE.COUNT : Field := ⟨.vf, 0x54, 1, 0, 0, 32, .ro, 0x0, .asIs, false⟩
def Reg.VFn_LOOSE_HELD.COUNT : Field := ⟨.vf, 0x58, 1, 0, 0, 32, .ro, 0x0, .asIs, false⟩
def Reg.VFn_DB_DROP.COUNT : Field := ⟨.vf, 0x5C, 1, 0, 0, 32, .ro, 0x0, .asIs, false⟩
def Reg.VFn_KQ_RING_LO.ADDR : Field := ⟨.vf, 0x60, 1, 0, 0, 32, .rwl, 0x0, .asIs, false⟩
def Reg.VFn_KQ_RING_HI.ADDR : Field := ⟨.vf, 0x64, 1, 0, 0, 32, .rwl, 0x0, .asIs, false⟩
def Reg.VFn_KQ_CFG.LOG2_SLOTS : Field := ⟨.vf, 0x68, 1, 0, 0, 5, .rwl, 0x8, .els 4 16 8, false⟩
def Reg.VFn_KQ_CFG.STAT_EN : Field := ⟨.vf, 0x68, 1, 0, 5, 1, .rwl, 0x0, .asIs, false⟩
def Reg.VFn_KQ_CFG.WB_EN : Field := ⟨.vf, 0x68, 1, 0, 6, 1, .rwl, 0x0, .asIs, false⟩
def Reg.VFn_KQ_CFG.EN : Field := ⟨.vf, 0x68, 1, 0, 7, 1, .rwl, 0x0, .asIs, false⟩
def Reg.VFn_KQ_CFG.VEC : Field := ⟨.vf, 0x68, 1, 0, 8, 11, .rwl, 0x0, .asIs, false⟩
def Reg.VFn_KQ_STAT_LO.ADDR : Field := ⟨.vf, 0x6C, 1, 0, 0, 32, .rwl, 0x0, .asIs, false⟩
def Reg.VFn_KQ_STAT_HI.ADDR : Field := ⟨.vf, 0x70, 1, 0, 0, 32, .rwl, 0x0, .asIs, false⟩
def Reg.VFn_KQ_WB_LO.ADDR : Field := ⟨.vf, 0x74, 1, 0, 0, 32, .rwl, 0x0, .asIs, false⟩
def Reg.VFn_KQ_WB_HI.ADDR : Field := ⟨.vf, 0x78, 1, 0, 0, 32, .rwl, 0x0, .asIs, false⟩
def Reg.VF_FLR_PENDk.PEND : Field := ⟨.vf, 0x100, 4, 4, 0, 32, .ro, 0x0, .asIs, true⟩
def Reg.VF_PROV_PEND.FN : Field := ⟨.vf, 0x110, 1, 0, 0, 7, .ro, 0x0, .asIs, true⟩
def Reg.VF_PROV_PEND.VALID : Field := ⟨.vf, 0x110, 1, 0, 7, 1, .ro, 0x0, .asIs, true⟩
def Reg.VF_HA_DONE.DONE : Field := ⟨.vf, 0x114, 1, 0, 0, 1, .wo, 0x0, .asIs, true⟩
/-- Every field of the VF family. -/
def Reg.vfPart0 : List Field :=
  [Reg.VF_CTRL.QUIESCE, Reg.VF_CTRL.RELEASE, Reg.VF_STATUS.VSTATE, Reg.VF_STATUS.FLR_PEND, Reg.VF_STATUS.VF_EN, Reg.VF_STATUS.KQ_READY, Reg.VFn_QUEUES.QBASE, Reg.VFn_QUEUES.QCOUNT, Reg.VFn_CTXS.BASE, Reg.VFn_CTXS.COUNT, Reg.VFn_FENCES.BASE, Reg.VFn_FENCES.COUNT, Reg.VFn_OBJ_BASE.BASE, Reg.VFn_OBJ_COUNT.COUNT, Reg.VFn_SHARES.BASE, Reg.VFn_SHARES.COUNT, Reg.VFn_LIMITS.VEC_COUNT, Reg.VFn_LIMITS.BINDS, Reg.VFn_MEM_2M.UNITS, Reg.VFn_LOOSE.GBPS, Reg.VFn_USE0.CTX, Reg.VFn_USE0.BINDS, Reg.VFn_USE_FENCE.COUNT, Reg.VFn_USE_OBJ.COUNT, Reg.VFn_USE_MEM_2M.UNITS, Reg.VFn_QUOTA_REFUSE.COUNT, Reg.VFn_LOOSE_HELD.COUNT, Reg.VFn_DB_DROP.COUNT, Reg.VFn_KQ_RING_LO.ADDR, Reg.VFn_KQ_RING_HI.ADDR]
def Reg.vfPart1 : List Field :=
  [Reg.VFn_KQ_CFG.LOG2_SLOTS, Reg.VFn_KQ_CFG.STAT_EN, Reg.VFn_KQ_CFG.WB_EN, Reg.VFn_KQ_CFG.EN, Reg.VFn_KQ_CFG.VEC, Reg.VFn_KQ_STAT_LO.ADDR, Reg.VFn_KQ_STAT_HI.ADDR, Reg.VFn_KQ_WB_LO.ADDR, Reg.VFn_KQ_WB_HI.ADDR, Reg.VF_FLR_PENDk.PEND, Reg.VF_PROV_PEND.FN, Reg.VF_PROV_PEND.VALID, Reg.VF_HA_DONE.DONE]
def Reg.vfFields : List Field := Reg.vfPart0 ++ Reg.vfPart1

/-- Every field of a family. -/
def Fam.fields : Fam → List Field
  | .ver => Reg.verFields
  | .func => Reg.funcFields
  | .cr => Reg.crFields
  | .key => Reg.keyFields
  | .lcs => Reg.lcsFields
  | .time => Reg.timeFields
  | .hlt => Reg.hltFields
  | .trc => Reg.trcFields
  | .cnt => Reg.cntFields
  | .bst => Reg.bstFields
  | .err => Reg.errFields
  | .ccip => Reg.ccipFields
  | .mch => Reg.mchFields
  | .gait => Reg.gaitFields
  | .gw => Reg.gwFields
  | .coh => Reg.cohFields
  | .cmb => Reg.cmbFields
  | .hitch => Reg.hitchFields
  | .red => Reg.redFields
  | .lpt => Reg.lptFields
  | .fe => Reg.feFields
  | .ctxs => Reg.ctxsFields
  | .fns => Reg.fnsFields
  | .vf => Reg.vfFields

/-! Page-specific error bits: bits [31:8] of ERR_STATUS, ERR_MASK and ERR_INJECT (R48). -/
/-- R83: LOCKED to HOLDOVER (R79). -/
abbrev Err.time.PARENT_LOST : Nat := 8
/-- R83: 50 µs with no LOCKED grandmaster, or a move to FREE under R81. -/
abbrev Err.time.GM_LOST : Nat := 9
/-- R83: 8 outliers in a row (R71). -/
abbrev Err.time.OUTLIER : Nat := 10
/-- R83: A mark fails authentication (R70). -/
abbrev Err.time.MARK_AUTH : Nat := 11
/-- R83: R77. -/
abbrev Err.time.HOPS_EXCEEDED : Nat := 12
/-- R83: R67. -/
abbrev Err.time.PPS_LOST : Nat := 13
/-- R83: R67. -/
abbrev Err.time.PPS_RANGE : Nat := 14
/-- R83: R74. -/
abbrev Err.time.RATE_LIMIT : Nat := 15
/-- R83: HOLDOVER to FREE. -/
abbrev Err.time.HOLDOVER_EXPIRED : Nat := 16
/-- R83: R74. -/
abbrev Err.time.STEP_NEEDED : Nat := 17
/-- R83: R72. -/
abbrev Err.time.ASYM_RANGE : Nat := 18
/-- R83: R64. -/
abbrev Err.time.TB_CHECK : Nat := 19
/-- R110: R91. -/
abbrev Err.gait.LOAD_REFUSED : Nat := 8
/-- R110: R93, COMMITTED to LATE. -/
abbrev Err.gait.SWAP_MISSED : Nat := 9
/-- R110: An occurrence ends LATE. -/
abbrev Err.gait.LATE : Nat := 10
/-- R110: An occurrence is suppressed. -/
abbrev Err.gait.SUPPRESSED : Nat := 11
/-- R110: A receive occurrence ends MISSED. -/
abbrev Err.gait.MISSED : Nat := 12
/-- R110: R106. -/
abbrev Err.gait.UNCOVERED : Nat := 13
/-- R110: R99. -/
abbrev Err.gait.RED_SHORT : Nat := 14
/-- R110: Uncorrectable check-code error in a stride word. -/
abbrev Err.gait.STORE_CHECK : Nat := 15
/-- R133: R120, tag. -/
abbrev Err.lpt.TAG_FAIL : Nat := 8
/-- R133: R120, FEC. -/
abbrev Err.lpt.FEC_UNCORR : Nat := 9
/-- R133: RETRAIN by STORM_COUNT. -/
abbrev Err.lpt.RETRY_STORM : Nat := 10
/-- R133: R131, training fails. -/
abbrev Err.lpt.TRAIN_FAIL : Nat := 11
/-- R133: Entry to DISABLED. -/
abbrev Err.lpt.PORT_DARK : Nat := 12
/-- R133: R118. -/
abbrev Err.lpt.KEY_STALL : Nat := 13
/-- R133: R127. -/
abbrev Err.lpt.CTL_DROP : Nat := 14
/-- R133: R123. -/
abbrev Err.lpt.STRAY : Nat := 15
/-- R133: R123. -/
abbrev Err.lpt.BAD_FRAME : Nat := 16
/-- R133: Uncorrectable check-code error in the replay buffer. -/
abbrev Err.lpt.REPLAY_CHECK : Nat := 17
/-- R133: R128. -/
abbrev Err.lpt.PDN_RX : Nat := 18
/-- R133: Uncorrectable error in the port engine's control state. -/
abbrev Err.lpt.ENGINE_FAULT : Nat := 19
/-- R176: Uncorrectable check-code error in this cluster's staging. -/
abbrev Err.red.STAGE_CHECK : Nat := 8
/-- R176: The cluster leaves service under R18. -/
abbrev Err.red.CLUSTER_FAULT : Nat := 9
/-- R176: INVALID raised under TRAP. -/
abbrev Err.red.INVALID : Nat := 10
/-- R176: R160, write refused. -/
abbrev Err.red.DESC_REFUSED : Nat := 11
/-- R176: R160, at execution. -/
abbrev Err.red.DESC_FAULT : Nat := 12
/-- R176: R167. -/
abbrev Err.red.STAGING_FULL : Nat := 13
/-- R176: R165, R166. -/
abbrev Err.red.OVERCOUNT : Nat := 14
/-- R176: R166, deadline. -/
abbrev Err.red.INCOMPLETE : Nat := 15
/-- R176: R169. -/
abbrev Err.red.NSET_MISMATCH : Nat := 16
/-- R176: R173. -/
abbrev Err.red.CVT_LENGTH : Nat := 17
/-- R176: R173. -/
abbrev Err.red.DESC_RATE : Nat := 18
/-- R206: R190. -/
abbrev Err.gw.RMT_TIMEOUT : Nat := 8
/-- R206: R193, operation failed. -/
abbrev Err.gw.BULK_FAIL : Nat := 9
/-- R206: A write refused under R200 at this home. -/
abbrev Err.gw.NOT_OWNER : Nat := 10
/-- R206: BUSY sent under R194. -/
abbrev Err.gw.STREAM_FULL : Nat := 11
/-- R206: R178, at either end. -/
abbrev Err.gw.BAD_ADDRESS : Nat := 12
/-- R206: U changed (R189). -/
abbrev Err.gw.DRAIN : Nat := 13
/-- R206: Uncorrectable check-code error in the request, operation or stream tables. -/
abbrev Err.gw.STATE_CHECK : Nat := 14
/-- R208: R199, line poisoned. -/
abbrev Err.coh.COH_LOST : Nat := 8
/-- R208: R199, directory error. -/
abbrev Err.coh.DIR_CHECK : Nat := 9
/-- R208: R195, R207. -/
abbrev Err.coh.CFG_REFUSED : Nat := 10
/-- R208: A record from a non-member. -/
abbrev Err.coh.COH_STRAY : Nat := 11
/-- R208: R197 timeout. -/
abbrev Err.coh.COH_TIMEOUT : Nat := 12
/-- R210: R182, buffer full. -/
abbrev Err.cmb.LOOSE_DROP : Nat := 8
/-- R210: R182, age. -/
abbrev Err.cmb.AGE_DROP : Nat := 9
/-- R210: R181. -/
abbrev Err.cmb.NOROUTE : Nat := 10
/-- R210: Uncorrectable check-code error in a CMB entry. -/
abbrev Err.cmb.CMB_CHECK : Nat := 11
/-- R233: R219, a child marked lost. -/
abbrev Err.hitch.MEMBER_LOST : Nat := 8
/-- R233: R219. -/
abbrev Err.hitch.TIMEOUT : Nat := 9
/-- R233: R219, WAIT_REL abandoned. -/
abbrev Err.hitch.NO_RELEASE : Nat := 10
/-- R233: R219. -/
abbrev Err.hitch.STALE : Nat := 11
/-- R233: R227. -/
abbrev Err.hitch.STOP_LATE : Nat := 12
/-- R233: Uncorrectable check-code error in a counter entry. -/
abbrev Err.hitch.COUNTER_CHECK : Nat := 13
/-- R258: R238, failed after re-read. -/
abbrev Err.mch.TAG_FAIL : Nat := 8
/-- R258: R238, passed on re-read. -/
abbrev Err.mch.TAG_REREAD_OK : Nat := 9
/-- R258: Read of a stored-poison granule (R237). -/
abbrev Err.mch.POISON_RD : Nat := 10
/-- R258: R242. -/
abbrev Err.mch.PIPE_FAULT : Nat := 11
/-- R258: Uncorrectable error in the channel's control state, or its last pipe leaves service. -/
abbrev Err.mch.ENGINE_FAULT : Nat := 12
/-- R258: R249. -/
abbrev Err.mch.RIGHTS : Nat := 13
/-- R258: R244, R247. -/
abbrev Err.mch.RAT_REFUSED : Nat := 14
/-- R258: R252. -/
abbrev Err.mch.UNWRAP_FAIL : Nat := 15
/-- R279: R273, uncorrectable unit in a leaf or L2. -/
abbrev Err.mch.TREE_UNCORR : Nat := 16
/-- R279: R264 fails after re-read. -/
abbrev Err.mch.SEAL_FAIL : Nat := 17
/-- R279: R272. -/
abbrev Err.mch.MIRROR_FIX : Nat := 18
/-- R279: Both copies fail. -/
abbrev Err.mch.MIRROR_LOST : Nat := 19
/-- R279: Uncorrectable unit in a dirty leaf or L2 in the counter cache. -/
abbrev Err.mch.CACHE_LOST : Nat := 20
/-- R279: R274. -/
abbrev Err.mch.PSN_FULL : Nat := 21
/-- R279: R271. -/
abbrev Err.mch.END_ZONE : Nat := 22
/-- R279: R269, R271: a gait write not performed. -/
abbrev Err.mch.REENC_SHORT : Nat := 23
/-- R293: R282, a granule written stored-poison. -/
abbrev Err.mch.FAR_TAG_FAIL : Nat := 24
/-- R293: A forced start, or a pass made urgent (R288). -/
abbrev Err.mch.FAR_FORCED : Nat := 25
/-- R293: R291, key latch error. -/
abbrev Err.mch.FAR_KEY_CHECK : Nat := 26
/-- R324: R301, a queue stopped. -/
abbrev Err.fe.PKT_REFUSED : Nat := 8
/-- R324: R296. -/
abbrev Err.fe.DB_RANGE : Nat := 9
/-- R324: R321. -/
abbrev Err.fe.LSQ_PROTOCOL : Nat := 10
/-- R324: A present sequencer misses its heartbeat. -/
abbrev Err.fe.HB_LOST : Nat := 11
/-- R324: R314. -/
abbrev Err.fe.RING_FAULT : Nat := 12
/-- R324: Uncorrectable check-code error in a stored packet. -/
abbrev Err.fe.STORE_CHECK : Nat := 13
/-- R324: A slice leaves service (R18). -/
abbrev Err.fe.SLICE_FAULT : Nat := 14
/-- R350: R327, a context or object descriptor. -/
abbrev Err.ctxs.DESC_CHECK : Nat := 8
/-- R350: R332. -/
abbrev Err.ctxs.REF_UNDERFLOW : Nat := 9
/-- R350: Uncorrectable check-code error in a context slot. -/
abbrev Err.ctxs.SLOT_CHECK : Nat := 10
/-- R352: R327, a fence descriptor. -/
abbrev Err.fns.DESC_CHECK : Nat := 8
/-- R352: R339. -/
abbrev Err.fns.VALUE_SAT : Nat := 9
/-- R352: R339. -/
abbrev Err.fns.TOKEN_SAT : Nat := 10
/-- R352: Uncorrectable check-code error in a fence slot. -/
abbrev Err.fns.SLOT_CHECK : Nat := 11
/-- R363: R353, R356. -/
abbrev Err.vf.QUOTA : Nat := 8
/-- R363: R359. -/
abbrev Err.vf.FLR_HELD : Nat := 9
/-- R363: R355, in VF0. -/
abbrev Err.vf.PROV_REFUSED : Nat := 10
/-- R363: R360. -/
abbrev Err.vf.DB_DROP : Nat := 11
/-- R396: R367. -/
abbrev Err.key.SLOT_CHECK : Nat := 8
/-- R396: R392. -/
abbrev Err.key.TAMPER : Nat := 9
/-- R396: R384. -/
abbrev Err.key.RELEASE_REFUSED : Nat := 10
/-- R396: R378. -/
abbrev Err.key.SESSION_FAIL : Nat := 11
/-- R396: R366. -/
abbrev Err.key.CERT_MISMATCH : Nat := 12
/-- R396: R370. -/
abbrev Err.key.MEAS_CHANGE : Nat := 13
/-- R396: R390. -/
abbrev Err.key.IDE_KM_FAIL : Nat := 14
/-- R396: R391. -/
abbrev Err.key.TDI_ERROR : Nat := 15
/-- R396: R372, first failure. -/
abbrev Err.key.SADDLE_CHECK : Nat := 16
/-- R408: R405. -/
abbrev Err.ccip.JOB_FAIL : Nat := 8
/-- R408: R406. -/
abbrev Err.ccip.BUSY_ACCESS : Nat := 9
/-- R408: R402. -/
abbrev Err.ccip.KEY_REQ_REFUSED : Nat := 10
/-- R408: R399, first mismatch. -/
abbrev Err.ccip.ENGINE_PARITY : Nat := 11
/-- R408: R399, engine out of service. -/
abbrev Err.ccip.ENGINE_FAULT : Nat := 12
/-- R408: Uncorrectable unit in the page's window. -/
abbrev Err.ccip.WINDOW_CHECK : Nat := 13
/-- R430: R414. -/
abbrev Err.lcs.LC_REFUSED : Nat := 8
/-- R430: R415. -/
abbrev Err.lcs.COMMIT_FAIL : Nat := 9
/-- R430: R410, a marginal bit with a safe vote. -/
abbrev Err.lcs.FUSE_MARGINAL : Nat := 10
/-- R430: R417. -/
abbrev Err.lcs.COPY_REPAIR : Nat := 11
/-- R430: R410. -/
abbrev Err.lcs.LOST : Nat := 12
/-- R430: Framing or overrun error. -/
abbrev Err.hlt.RX_ERROR : Nat := 8
/-- R430: ERR 02 or 04. -/
abbrev Err.hlt.CMD_REFUSED : Nat := 9
/-- R430: R424. -/
abbrev Err.trc.OVERFLOW : Nat := 8
/-- R430: R424. -/
abbrev Err.trc.SRC_REFUSED : Nat := 9
/-- R455: R438. -/
abbrev Err.err.REC_OVERFLOW : Nat := 8
/-- R455: R214. -/
abbrev Err.err.SIG_INVALID : Nat := 9
/-- R455: R224. -/
abbrev Err.err.STALE : Nat := 10
/-- R455: R224. -/
abbrev Err.err.IN_DOUBT : Nat := 11
/-- R455: R227. -/
abbrev Err.err.STOP_LATE : Nat := 12
/-- R455: R441. -/
abbrev Err.err.WATCHDOG : Nat := 13
/-- R455: R442. -/
abbrev Err.err.DCP_STALL : Nat := 14
/-- R455: R443, step 1. -/
abbrev Err.err.CRST : Nat := 15
/-- R455: R447. -/
abbrev Err.err.REPLAY_GUILTY : Nat := 16
/-- R455: R450. -/
abbrev Err.err.ESCALATED : Nat := 17
/-- R455: Service-pair mismatch (R19). -/
abbrev Err.err.LOCKSTEP_SVC : Nat := 18
/-- R455: Security-pair mismatch (R19). -/
abbrev Err.err.LOCKSTEP_SEC : Nat := 19
/-- R455: R444. -/
abbrev Err.err.STALE_GEN : Nat := 20
/-- R455: ERR_BOOT set. -/
abbrev Err.err.BOOT_REFUSED : Nat := 21
/-- R455: R432, no owning bit. -/
abbrev Err.err.DUP_CHECK : Nat := 22
/-- R468: R456. -/
abbrev Err.bst.LBIST_FAIL : Nat := 8
/-- R468: R457. -/
abbrev Err.bst.MBIST_FAIL : Nat := 9
/-- R468: R461. -/
abbrev Err.bst.UNREPAIRABLE : Nat := 10
/-- R468: R464. -/
abbrev Err.bst.RESTORE_FAIL : Nat := 11
/-- R468: R466. -/
abbrev Err.bst.BURN_FAIL : Nat := 12
/-- R468: R462. -/
abbrev Err.bst.RUN_REFUSED : Nat := 13
/-- R468: R467. -/
abbrev Err.bst.LOG_FULL : Nat := 14

/-- The page-specific error bits of a family with the severity code (R435) its chapter gives each: 0 corrected, 1 contained,
2 fatal-to-context, 3 fatal-to-compute, 4 fatal-to-instance. Where the chapter makes the severity depend on the case, the
detecting operation names it. -/
def Fam.errBits : Fam → List (Nat × Nat)
  | .key => [(8, 0), (9, 4), (10, 0), (11, 0), (12, 0), (13, 0), (14, 0), (15, 0), (16, 0)]
  | .lcs => [(8, 0), (9, 4), (10, 0), (11, 0), (12, 4)]
  | .time => [(8, 0), (9, 0), (10, 0), (11, 0), (12, 0), (13, 0), (14, 0), (15, 0), (16, 0), (17, 0), (18, 0), (19, 0)]
  | .hlt => [(8, 0), (9, 0)]
  | .trc => [(8, 0), (9, 0)]
  | .bst => [(8, 0), (9, 0), (10, 0), (11, 0), (12, 0), (13, 0), (14, 0)]
  | .err => [(8, 0), (9, 0), (10, 0), (11, 0), (12, 0), (13, 0), (14, 3), (15, 3), (16, 3), (17, 4), (18, 0), (19, 4), (20, 0), (21, 4), (22, 0)]
  | .ccip => [(8, 0), (9, 0), (10, 0), (11, 0), (12, 0), (13, 1)]
  | .mch => [(8, 1), (9, 0), (10, 1), (11, 0), (12, 4), (13, 0), (14, 0), (15, 0), (16, 1), (17, 1), (18, 0), (19, 1), (20, 1), (21, 4), (22, 0), (23, 0), (24, 1), (25, 0), (26, 4)]
  | .gait => [(8, 0), (9, 0), (10, 0), (11, 0), (12, 0), (13, 0), (14, 0), (15, 0)]
  | .gw => [(8, 0), (9, 0), (10, 0), (11, 0), (12, 0), (13, 0), (14, 2)]
  | .coh => [(8, 1), (9, 1), (10, 0), (11, 0), (12, 0)]
  | .cmb => [(8, 0), (9, 0), (10, 0), (11, 0)]
  | .hitch => [(8, 0), (9, 0), (10, 0), (11, 0), (12, 0), (13, 0)]
  | .red => [(8, 1), (9, 0), (10, 0), (11, 0), (12, 0), (13, 0), (14, 0), (15, 0), (16, 0), (17, 0), (18, 0)]
  | .lpt => [(8, 0), (9, 0), (10, 0), (11, 0), (12, 0), (13, 0), (14, 0), (15, 0), (16, 0), (17, 0), (18, 0), (19, 0)]
  | .fe => [(8, 0), (9, 0), (10, 0), (11, 3), (12, 0), (13, 1), (14, 0)]
  | .ctxs => [(8, 0), (9, 0), (10, 2)]
  | .fns => [(8, 0), (9, 0), (10, 0), (11, 1)]
  | .vf => [(8, 0), (9, 0), (10, 0), (11, 0)]
  | _ => []

end Sys2Proof.Machine
end

