-- ==== Sys2Proof/Machine/Types1.lean ====
section
/-! DEFINITION. The parts of the state, first half: the build, the pins, boot, the package, power, time, links, the gait
store, error records and recovery. Every part is plain data. -/

namespace Sys2Proof.Machine

/-- Build parameters (R33). -/
structure Build where
  mrBuilt : Bool
  mchCount : Nat
  mchMaxGib : Nat
  ctrCacheKib : Nat
  lptCount : Nat
  dcpCount : Nat
  lsqCount : Nat
  stagingMib : Nat
  sibCount : Nat
  deriving DecidableEq, Repr

/-- The reference Mount build (R33). -/
def Build.mount : Build :=
  { mrBuilt := true, mchCount := 16, mchMaxGib := 96, ctrCacheKib := 2048, lptCount := 24, dcpCount := 64, lsqCount := 64,
    stagingMib := 24, sibCount := 0 }

/-- The reference Post build (R33, R11). -/
def Build.post : Build :=
  { mrBuilt := false, mchCount := 16, mchMaxGib := 96, ctrCacheKib := 2048, lptCount := 64, dcpCount := 0, lsqCount := 0,
    stagingMib := 24, sibCount := 0 }

/-- The input pins whose level the block's behaviour reads (R478 to R506). -/
structure PinsIn where
  role : Bool            -- ROLE strap: false Mount, true Post
  inst : Nat             -- INSTANCE strap
  bistPolicy : Bool      -- BIST_POLICY strap
  tamperN : Bool         -- TAMPER_N
  mrOffReq : Bool        -- PS_MR_OFF_REQ
  mrPwrGood : Bool       -- PS_MR_PWR_GOOD
  throttleReq : Bool     -- PS_THROTTLE_REQ
  holdupAck : Bool       -- PS_HOLDUP_ACK
  tempC : Int            -- TEMP_C
  tempValid : Bool       -- TEMP_VALID
  linkUp : Bool          -- LINK_UP of the host interface
  numVf : Nat            -- NUMVF
  vfEn : Bool            -- VF_EN
  deriving DecidableEq, Repr

/-- The level outputs of the block; outputs that are messages stand in the outbox. -/
structure PinsOut where
  crstN : Bool           -- CRST_N (R482)
  dcpGen : Nat           -- DCP_GEN (R482)
  errFatalN : Bool       -- ERR_FATAL_N (R505)
  ppsOut : Bool          -- PPS_OUT (R497)
  mrPwrEn : Bool         -- PS_MR_PWR_EN (R505)
  sleep : Bool           -- DMP SLEEP (R487)
  trainReq : Bool        -- DMP TRAIN_REQ (R487)
  holdupReq : Bool       -- PS_HOLDUP_REQ (R505)
  bistDone : Bool        -- BIST_DONE (R503)
  bistPass : Bool        -- BIST_PASS (R503)
  scan : Bool            -- the scan chains are connected (R503)
  deriving DecidableEq, Repr

/-- How far the block has come out of reset (R453). -/
inductive BootPhase where
  /-- block reset is asserted -/
  | inReset
  /-- deasserted, straps sampled (R3); the boot BIST run is next (R459) -/
  | sampled
  /-- the boot run has ended; layer 0 is next (R364) -/
  | bistDone
  /-- layer 0 has run; the firmware load is next (R6) -/
  | layer0Done
  /-- the firmware runs -/
  | running
  /-- held in reset by a refusal; ERR_BOOT says which (R6, R34, R460, R419) -/
  | held
  deriving DecidableEq, Repr

/-- A command that waits while the service pair restarts (R19, R423): a completion of a host-assisted function by a party, or Halter input.
A Halter command is its place in R422, up to two numbers and bytes. -/
inductive SvcCmd where
  | tdDone (p : Party)
  | fnsEvict (p : Party) (fence : Nat)
  | keyHaDone (p : Party)
  | triageRetire (p : Party)
  | triageRebuild (p : Party)
  | triageLeave (p : Party)
  | vfHaDone (p : Party)
  | suspectReplay (p : Party) (index : Nat)
  | suspectFail (p : Party) (index : Nat)
  | suspectDrop (p : Party) (index : Nat)
  | farGrant (p : Party) (ch : Nat) (v : W32)
  | walk (p : Party) (ch : Nat)
  | go (p : Party)
  | abandon (p : Party)
  | memberSet (p : Party)
  | withdraw (fn : Nat)
  | halterLine (line : List Byte) (good : Bool)
  | halter (cmd a b : Nat) (data : List Byte)
  deriving DecidableEq, Repr

/-- Sampled straps, boot progress and region resets. -/
structure Boot where
  phase : BootPhase
  post : Bool                 -- the sampled role: true Post (R3)
  inst : Nat                  -- the sampled INSTANCE
  policyRepair : Bool         -- the sampled BIST_POLICY, true REPAIR (R460)
  fwSec : W32                 -- VER_FW_SEC of the image that runs
  fwSvc : W32                 -- VER_FW_SVC
  svcHalted : Bool            -- the service pair restarts (R19)
  svcWait : List SvcCmd       -- host-assisted completions and Halter input that wait for the restart, oldest first
  tampered : Bool             -- block reset is held while TAMPER_N is low (R393)
  wrInReset : List Nat        -- page slots whose writes were discarded during a reset (R44)
  deriving DecidableEq, Repr

/-- The package (R22, R382): who leads, which siblings are out of service, what reports have been heard and told. -/
structure Package where
  lead : Nat                  -- the lead's number
  everLost : List Nat         -- former leads: they stay siblings until the whole package has been reset
  out : List Nat              -- siblings out of service
  reports : SMap Dig384       -- SHA-384 of the last report of each sibling, by its number
  awaited : List Nat          -- siblings whose report the report under assembly awaits
  vouched : List (List Byte)  -- nonces of own reports that the lead has fetched since it became the lead
  stale : Bool                -- the lead has changed since the latest own report was issued (R382)
  deriving DecidableEq, Repr

/-- Clock gating and region power (R27 to R32). Clusters are named by their page slots. -/
structure Power where
  gated : List Nat            -- gated clusters, by page slot; front-end slice n by 0x600 + n
  windows : List (Nat × Nat)  -- clusters that a window holds ungated, and the DT in ns at which it ends, slack included (R31)
  mrOff : Bool                -- MR is OFF
  mrGoingOff : Bool           -- OFF is granted, dirty lines are being written back
  mrWaking : Bool             -- PS_MR_PWR_EN has risen, the supply is not yet good
  deriving DecidableEq, Repr

/-- A staging latch pair of one page and party (R42). -/
structure Latch where
  rd : Option (Nat × W32)     -- offset of the pair, upper half captured
  wr : Option (Nat × W32)     -- offset of the pair, lower half written
  frac : Nat                  -- DT[7:0] captured for TIME_NOW_FRAC
  deriving DecidableEq, Repr

/-- No value latched. -/
def Latch.empty : Latch := { rd := none, wr := none, frac := 0 }

/-- What the block knows from the marks of one neighbour: the last accepted mark and when it came (local ns). -/
structure PeerMark where
  m : MarkFields
  auth : Bool
  at_ : Nat
  deriving DecidableEq, Repr

/-- The time-mark unit of one port (R69 to R72). Sibling port s has key 64 + s. -/
structure PortTime where
  txSeq : Nat                        -- SEQ of the next mark sent
  sent : List (Nat × Nat)            -- SEQ and departure DT of the marks last sent, newest first, at most 16
  rx : Option (Nat × Nat)            -- SEQ and arrival DT of the newest far-end mark
  echo : Option (Nat × Nat × Nat)    -- ECHO_SEQ, ECHO_RX, ECHO_TURN
  thetas : List Int                  -- accepted offsets, newest first, at most 64
  rates : List Int                   -- TIME_RATE_ADJ at those marks
  outRun : Nat                       -- outliers in a row
  fresh : Bool                       -- the filter restarts at the next mark
  sinceRestart : Option Nat          -- marks accepted since a restart; none: no restart pending
  calMarks : Nat                     -- marks measured since training (R72)
  peer : Option PeerMark             -- the last accepted mark
  recent : List PeerMark             -- the marks accepted in the last 50 µs, newest first (R65, R69)
  peerTx : Nat                       -- TXDLY, RXDLY and ASYM of the far end's CAP
  peerRx : Nat
  peerAsym : Int
  txdly : Nat                        -- own delays as applied at the last training (R82)
  rxdly : Nat
  asym : Int
  deriving DecidableEq, Repr

/-- Before any mark. -/
def PortTime.empty : PortTime :=
  { txSeq := 0, sent := [], rx := none, echo := none, thetas := [], rates := [], outRun := 0, fresh := true,
    sinceRestart := none, calMarks := 0, peer := none, recent := [], peerTx := 0, peerRx := 0, peerAsym := 0, txdly := 0, rxdly := 0,
    asym := 0 }

/-- The time base and time state beyond the TIME page (R63 to R81). -/
structure Time where
  dtA : DT                     -- first copy of DT
  resA : BitVec 40             -- its residue
  dtB : DT                     -- second copy (R64)
  resB : BitVec 40
  loc : Nat                    -- local time, ns since power-on reset
  holdAt : Nat                 -- local time of entry into HOLDOVER
  holdErr : Nat                -- TIME_ERR_EST at that entry
  topTerm : Nat                -- highest term seen
  ports : SMap PortTime
  lastPps : Option Nat         -- local time of the last PPS_IN edge
  sub : Nat                    -- position reached within the AOCLK period, in 1/256 ns (R63)
  lockGm : Option (Nat × Nat)  -- PRIO and rank of the grandmaster to which the block was last LOCKED (R79, R81)
  slewing : Bool               -- LOCKED to a new grandmaster, the difference is being slewed (R79, R81)
  deriving DecidableEq, Repr

/-- A key of a link direction: the key and the domain link key generation it came from. -/
structure LinkKey where
  key : Key256
  gen : Nat
  deriving DecidableEq, Repr

/-- A port engine (R111 to R131) beyond its page. Times are local ns. -/
structure Link where
  nonceOwn : Nat                     -- TRAIN_NONCE drawn for this training
  noncePeer : Option Nat             -- far end's nonce of this training
  nonceUp : Option Nat               -- far end's nonce of the training that led to UP
  cap : Option CapFields             -- far end's last CAP
  echoed : Bool                      -- step 1 of R130 has succeeded
  keyReadySent : Bool
  keyReadySeen : Bool                -- a KEY_READY of epoch 0 has verified
  txSeq : Nat                        -- next data sequence number
  txCtl : Nat                        -- next control sequence number
  rxNext : Nat                       -- next data sequence number expected
  rxCtl : Option Nat                 -- control sequence number last accepted
  replay : List (Nat × DataFrame)    -- frames not acknowledged, oldest first
  resend : Option (Nat × Nat)        -- first sequence number of the resend under way and its start
  resendAt : Option Nat              -- first sequence number that a resend could not send before its stride's limit (R86)
  freeAt : Nat                       -- when the wire is free again, DT in units of 0.01 ns (R87)
  retryWait : Bool                   -- discarding until rxNext arrives
  retryCause : Nat                   -- cause of the RETRY being repeated (R126)
  ackDue : Bool                      -- a frame has been accepted and not acknowledged
  txKey : Option LinkKey
  rxKey : Option LinkKey
  rxNextKey : Option LinkKey         -- next receive latch
  txNextKey : Option LinkKey         -- next transmit latch (R116)
  rxEpoch : Nat
  rekeyTx : Bool                     -- KEY_REQ is being repeated
  rekeyRx : Bool                     -- KEY_READY is being repeated
  stalled : Bool                     -- R118
  retries : List Nat                 -- starts of the retry episodes of the last ms
  retrains : List Nat                -- counted retrains of the last 10 s
  trained : Bool                     -- a training has been counted or exempted since reset or leaving DISABLED
  cause : Nat                        -- cause of DISABLED, 0 none
  upSince : Nat                      -- local ns at which the port entered UP
  deriving DecidableEq, Repr

/-- A port engine after reset. -/
def Link.empty : Link :=
  { nonceOwn := 0, noncePeer := none, nonceUp := none, cap := none, echoed := false, keyReadySent := false,
    keyReadySeen := false, txSeq := 0, txCtl := 0, rxNext := 0, rxCtl := none, replay := [], resend := none,
    resendAt := none, freeAt := 0, retryWait := false, retryCause := 0, ackDue := false, txKey := none, rxKey := none,
    rxNextKey := none, txNextKey := none, rxEpoch := 0, rekeyTx := false,
    rekeyRx := false, stalled := false, retries := [], retrains := [], trained := false, cause := 0, upSince := 0 }

/-- A stride of a gait image (R89). -/
structure Stride where
  start : Nat
  dur : Nat
  cls : Nat
  rx : Bool
  carry : Bool
  sig : Bool
  guard_ : Nat               -- GUARD_NS as stored; 0 selects GUARD_DEF_NS
  frames : Nat
  fpf : Nat
  lastFlits : Nat
  slack : Nat
  desc : Nat
  srcKind : Nat
  src : Nat
  peer : Nat
  bad : Bool                 -- a stored word is uncorrectable (R110)
  deriving DecidableEq, Repr

/-- A gait image as a bank holds it (R88 to R90). -/
structure GaitImage where
  port : Nat
  period : Nat
  guardDef : Nat
  rank : Nat
  gaitId : Nat
  jobId : Nat
  cableRtt : Nat
  strides : List Stride
  spares : List (Nat × Nat × Nat)    -- LOST_PLANE, SPARE_IDX, COVERED_IDX
  deriving DecidableEq, Repr

/-- The two banks of a port. -/
structure Banks where
  a : Option GaitImage
  b : Option GaitImage
  deriving DecidableEq, Repr

/-- An occurrence in progress (R95, R96, R103). -/
structure Occ where
  port : Nat
  idx : Nat
  period : Nat               -- period number k
  rx : Bool
  cover : Option (Nat × Nat) -- transmit: covered plane and stride when a spare carries it
  sent : Nat                 -- frames sent, or accepted
  late : Bool                -- transmit: a remainder waits; receive: a LATE frame came
  empty : Bool
  suppressed : Bool
  noBuf : Bool               -- receive: no buffer was posted, or the ring could not take it
  done : Bool                -- receive: its data has been written or delivered
  pkt : Option Nat           -- packet store entry taken
  ring : Option Nat          -- gait ring whose span it took
  root : Option Nat          -- Post root whose partial it sends
  bytes : List Byte          -- data to send, or data received so far
  poison : Nat               -- poison of the data by 16-byte units
  sig : Option (Nat × Nat)   -- SIG_REF and SIG_CODE to be sent, or received
  flags : Nat                -- flags of a convert
  wait : List DataFrame      -- transmit: frames not yet on the wire, in order
  limit : Nat                -- transmit: S + D − G + L, DT in units of 0.01 ns (R86)
  closed : Bool              -- receive: its footprint has ended incomplete, a LATE follow-up may come (R103)
  deriving DecidableEq, Repr

/-- A loose frame, late remainder or hitch frame that waits for an open stride: when it arrived, and the function of its context. -/
structure LooseItem where
  f : DataFrame
  at_ : Nat
  fn : Nat
  shed : Bool                -- counted as held back under R102
  held : Bool                -- counted as held for its function's credit (R356)
  deriving DecidableEq, Repr

/-- The gait beyond its page (R84 to R107). -/
structure Gait where
  banks : SMap Banks
  newPeriod : Nat            -- PERIOD_NS of the armed images
  newId : Nat
  newGuard : Nat             -- smallest GUARD_DEF_NS of the armed images
  occs : List Occ
  pdnPlanes : List Nat       -- planes down by a plane-down notice
  downOrder : List (Nat × Nat) -- planes found down and the DT in ns at which each was found, oldest first
  loose : SMap (List LooseItem) -- by output port, in arrival order (R100, R182)
  credits : SMap Nat         -- deficit round robin credit, by port × 1024 + share (R100)
  rounds : SMap (List Nat)   -- shares still to be served in the round that runs, by output port, the one served first (R100)
  units : Nat                -- peak reduce intake units of the active gait (R99)
  newUnits : Nat             -- those of the armed images
  deriving DecidableEq, Repr

/-- An error record (R437). -/
structure ErrRec where
  seq : Nat
  family : Nat
  index : Nat
  bit : Nat
  sev : Nat
  injected : Bool
  ctx : Option Nat
  fn : Nat
  dt : DT
  timeState : Nat
  gen : Nat
  count : Nat
  place : Nat                -- WHERE
  placeKind : Nat            -- WHERE_KIND
  detail : Nat
  deriving DecidableEq, Repr

/-- What a report says beyond page and bit. -/
structure ErrInfo where
  ctx : Option Nat := none
  fn : Nat := 0
  place : Nat := 0
  placeKind : Nat := 0
  detail : Nat := 0
  deriving DecidableEq, Repr

/-- A triage item (R440). -/
structure Triage where
  ch : Nat
  level : Nat
  index : Nat
  granule : Nat
  cause : Nat
  deriving DecidableEq, Repr

/-- A suspect (R446). -/
structure Suspect where
  ctx : Nat
  queue : Nat
  slot : Nat                 -- its packet store entry
  persist : Bool
  state : Nat                -- 0 waiting, 1 replaying, 2 cleared, 3 guilty or ended
  action : Nat               -- 0 none yet, else R448
  deriving DecidableEq, Repr

/-- Where a compute-only reset stands (R443). -/
inductive CrstPhase where
  | idle
  /-- step 1 waits for the generation's quarantine -/
  | quarantine
  /-- CRST_N is low, HOLD_US runs -/
  | hold
  /-- HOLD_US has passed, DCP_IDLE is awaited -/
  | idleWait
  /-- CRST_N is high, heartbeats of the new generation are awaited -/
  | hbWait
  /-- step 6 -/
  | replay
  deriving DecidableEq, Repr

/-- Error records, triage, recovery (R437 to R452). -/
structure Faults where
  ring : SMap ErrRec          -- by slot
  msgOut : Bool               -- an ERR message is outstanding (R439)
  injected : Bool             -- the next report comes from ERR_INJECT (R50)
  armed : List (Nat × Nat × Nat) -- injected errors that await the point their table names: page slot, bit, what they act on (R50, R83, R279)
  triage : List Triage        -- oldest first; the head is shown in host-assisted mode
  suspects : List Suspect
  order : List Nat            -- suspects whose replay is due, by index
  current : Option Nat        -- suspect under replay
  replays : Nat               -- replay resets of the episode
  escTimes : List Nat         -- local ns of the counted resets
  genLeft : SMap Nat          -- local ns at which a generation was last left
  phase : CrstPhase
  isReplayReset : Bool
  hbNeed : List Nat           -- sequencers present before step 1 that have not yet sent the new GEN
  deriving DecidableEq, Repr

/-- The host interface (R491 to R493). -/
structure HostIf where
  nextTag : Nat
  reads : SMap (Nat × Nat × Nat)   -- outstanding reads by tag: purpose, key, bytes
  doeBusy : Bool
  doeIn : List W32
  doeOut : List W32
  doeErr : Bool
  doeIntEn : Bool
  doeIntStat : Bool
  /-- completions of fetch reads whose packet is not whole yet: queue, tag, data -/
  got : List (Nat × Nat × List Byte)
  deriving DecidableEq, Repr

end Sys2Proof.Machine
end

