-- ==== Sys2Proof/Machine/Types2.lean ====
section
/-! DEFINITION. The parts of the state, second half: queues and packets, sequencers, objects, functions. -/

namespace Sys2Proof.Machine

/-- Queue states (R305), in the order of FE_Q_STATE.QSTATE. -/
inductive QState where
  | absent | ready | error | held | draining
  deriving DecidableEq, Repr

/-- FE_Q_STATE.QSTATE (R323). -/
def QState.code : QState → Nat
  | .absent => 0 | .ready => 1 | .error => 2 | .held => 3 | .draining => 4

/-- A queue (R294 to R305, R318). -/
structure Queue where
  kernel : Bool
  fn : Nat
  ctx : Nat
  ring : Nat
  log2 : Nat
  stat : Nat
  wb : Nat
  statEn : Bool
  wbEn : Bool
  prio : Nat
  vec : Nat
  budget : Nat
  rptr : Nat
  wptr : Nat
  state : QState
  prev : QState              -- the state before HELD
  bind : Nat                 -- 0 none, 1 transmit, 2 receive, 3 persist
  stop : Nat                 -- STOP_CODE
  negHold : Bool             -- held for negotiation (R58)
  flrHold : Bool             -- held by an FLR of its function
  ctlHold : Bool             -- held by QUEUE_CTL HOLD
  destroyer : Option Nat     -- the QUEUE_DESTROY packet that waits for ABSENT
  deriving DecidableEq, Repr

/-- A queue in ABSENT. -/
def Queue.absent : Queue :=
  { kernel := false, fn := 0, ctx := 0, ring := 0, log2 := 8, stat := 0, wb := 0, statEn := false, wbEn := false, prio := 0,
    vec := 0, budget := 0, rptr := 0, wptr := 0, state := .absent, prev := .absent, bind := 0, stop := 0, negHold := false,
    flrHold := false, ctlHold := false, destroyer := none }

/-- The end word of a packet store slot (R345). -/
inductive EndWord where
  | none | done | aborted
  deriving DecidableEq, Repr

/-- A dispatched launch (R307, R321): outstanding until every sequencer has answered. -/
structure Launch where
  pkt : Nat                   -- its packet store entry
  ctx : Nat
  gen : Nat
  parts : List Nat            -- sequencers, by PART
  got : List (Nat × Nat)      -- sequencer, status of its DONE
  persist : Bool
  at_ : Nat                   -- local ns of the first DISPATCH beat
  wdFired : Bool              -- the watchdog has fired, the grace runs
  deriving DecidableEq, Repr

/-- A packet in the packet store (R298, R300, R304, R345). -/
structure Pkt where
  queue : Nat
  idx : Nat                   -- first-slot index, free-running
  bytes : List Byte           -- its slots
  fn : Nat
  started : Bool
  performed : Bool            -- its engine has taken it up
  result : Option Nat         -- STATUS, once its effects are complete
  detail : Nat
  flags : Nat
  noFence : Bool              -- CPL_FENCE itself failed the check
  ended : EndWord
  order : Nat                 -- start order, across queues
  at_ : Nat                   -- local ns of the start
  launch : Option Nat         -- its LAUNCH_ID once dispatched
  moved : Nat                 -- bytes moved by a COPY, operands read by a REDUCE
  opsOut : Nat                -- gateway operations outstanding
  bad : Nat                   -- first failing status of its pieces
  graph : Option Nat          -- the GRAPH_RUN packet it belongs to
  graphPos : Nat              -- its place in the graph
  graphVer : Option Nat       -- GRAPH_RUN: the version that it has pinned
  msgId : Nat                 -- TASK_MSG: MSG_ID of its delivery
  waited : Bool               -- its wait for a context or fence slot has been counted
  deriving DecidableEq, Repr

/-- A WAIT or TAKE that waits on a fence (R340). -/
structure Waiter where
  pkt : Nat
  fence : Nat
  value : Nat
  take : Bool
  order : Nat
  deriving DecidableEq, Repr

/-- A local sequencer (R320, R321). -/
structure Seq where
  present : Bool
  credits : Nat
  lastHb : Nat
  deriving DecidableEq, Repr

/-- A sequencer that has sent nothing since reset. -/
def Seq.empty : Seq := { present := false, credits := 16, lastHb := 0 }

/-- The front end beyond its page. -/
structure Front where
  queues : SMap Queue
  pkts : SMap Pkt              -- by packet store entry number
  nextPkt : Nat
  nextOrder : Nat
  nextLaunch : Nat
  nextMsg : Nat
  launches : SMap Launch       -- by LAUNCH_ID
  served : SMap Nat            -- the queue that each slice fetched for last (R298)
  fetching : SMap Nat          -- queues with a host read of a packet outstanding: its tag
  waiters : List Waiter
  seqs : SMap Seq
  rings : SMap Nat             -- gait ring bindings: ring to context (R312)
  slotWait : List Nat          -- packets that wait for a fence slot in host-assisted mode (R342)
  held : List Nat              -- the VF_PROV packet that awaits host software (R357)
  deriving DecidableEq, Repr

/-- A context slot (R330): the counters C8 to C21 while resident. -/
structure CtxSlot where
  ctx : Nat
  counters : List Nat          -- BUSY_NS_0..7, BYTES_0..5
  used : Nat                   -- order of the last use
  deriving DecidableEq, Repr

/-- A fence slot (R342). -/
structure FenceSlot where
  fence : Nat
  value : Nat
  tokens : Nat
  err : Option Nat
  used : Nat
  deriving DecidableEq, Repr

/-- Objects and teardown beyond the pages (R325 to R348). -/
structure Objects where
  ctxBaseSet : Bool
  objBaseSet : Bool
  fenceBaseSet : Bool
  slots : List CtxSlot
  fences : List FenceSlot
  useNo : Nat
  retire : List Nat            -- retire list: object handles
  teardown : List (Nat × Nat)  -- kind, handle: the pending teardown first, then those that wait (host-assisted)
  deriving DecidableEq, Repr

/-- A function (R353 to R361) beyond its page. -/
structure Fn where
  provisioned : Bool
  rate : Nat                   -- loose credit of the function in bytes (R356)
  rateAt : Nat                 -- local ns at which it was last brought up to date
  deriving DecidableEq, Repr

/-- A function never provisioned. -/
def Fn.empty : Fn := { provisioned := false, rate := 0, rateAt := 0 }

end Sys2Proof.Machine
end

