-- ==== Sys2Proof/Machine/Types3.lean ====
section
/-! DEFINITION. The parts of the state, third part: memory, counters, signals, hitches, the step. -/

namespace Sys2Proof.Machine

/-- A RAT entry as its four words W0 to W3 (R246). -/
structure RatEntry where
  w0 : W64
  w1 : W64
  w2 : W64
  w3 : W64
  deriving DecidableEq, Repr

/-- An entry of four zero words: not valid. -/
def RatEntry.zero : RatEntry := { w0 := 0, w1 := 0, w2 := 0, w3 := 0 }

/-- A leaf of the counter tree (R258): the page's major counter and its 64 minor counters; unlisted minors are 0. -/
structure Leaf where
  major : Nat
  minors : SMap Nat
  deriving DecidableEq, Repr

/-- A leaf that has never been written. -/
def Leaf.zero : Leaf := { major := 0, minors := [] }

/-- A re-encryption slot, or a queued re-encryption (R268). A slot holds the block's previous plaintext and the done mask. -/
structure Reenc where
  level : Nat
  index : Nat
  forced : Bool
  old : Leaf := Leaf.zero
  done : W64 := 0
  deriving DecidableEq, Repr

/-- A rebuild or retire that waits or runs (R275). -/
structure Rebuild where
  level : Nat
  index : Nat
  retire : Bool
  byHost : Bool              -- asked by MCHn_TREE_CMD
  triage : Bool              -- the action on the triage item that is shown (R440)
  deriving DecidableEq, Repr

/-- One channel beyond its page (R234 to R292). -/
structure Chan where
  trained : Bool
  capPages : Nat                     -- P
  keyLoaded : Bool                   -- K in the engine latch
  keyNextLoaded : Bool               -- K′ in the engine latch
  leaves : SMap Leaf                 -- level 1, by page g
  upper : SMap Leaf                  -- levels 2 and above, by level × 2^25 + block
  roots : SMap (Nat × Bool)          -- root registers (R262): VER, and true once a top block has been written (not COLD)
  hwm : Nat                          -- high-water mark of the key in force
  hwmNext : Nat                      -- high-water mark of K′
  cached : List Nat                  -- counter blocks in the cache, as level × 2^25 + block, least recently used first
  dirty : List Nat                   -- those not written back
  reenc : List Reenc                 -- open slots
  reencQueue : List Reenc
  psn : SMap (Nat × Nat × Nat)       -- poison list: slot to level, index, cause
  pipesOut : Nat
  walkCmd : Bool                     -- the cold walk awaited or under way is TREE_CMD's (R278)
  walkDue : Bool                     -- a cold walk has been triggered and has not been made (R276)
  rebuilds : List Rebuild
  token : Option TokenUse
  tokenWait : List TokenUse
  steps : List Nat                   -- page steps of the Farrier that are open
  swept : SMap Nat                   -- granules that gait writes have done under open page steps: page × 64 + granule to minor (R269, R282)
  farState : Nat                     -- 0 IDLE, 1 RUNNING, 2 PAUSED, 3 DONE
  shoe : Nat                         -- shoe line
  farRun : Nat                       -- ns of running time of this pass, up to the last pause
  farSince : Nat                     -- local ns since which the channel has been RUNNING
  deriving DecidableEq, Repr

/-- A channel after block reset. -/
def Chan.empty : Chan :=
  { trained := false, capPages := 0, keyLoaded := false, keyNextLoaded := false, leaves := [], upper := [],
    roots := [], hwm := 0, hwmNext := 0, cached := [], dirty := [], reenc := [], reencQueue := [],
    psn := [], pipesOut := 0, walkCmd := false, walkDue := false, rebuilds := [], token := none, tokenWait := [], steps := [], swept := [],
    farState := 0, shoe := 0, farRun := 0, farSince := 0 }

/-- An UNWRAP in progress (R252, R389). -/
structure Unwrap where
  entry : Nat
  slot : Nat
  src : Nat                          -- local offset of the image
  bytes : Nat
  hdr : List Byte                    -- header bytes 0 to 111 (R388)
  chunk : Nat                        -- the next chunk
  key : Key256                       -- the engine latch of the unwrap path
  deriving DecidableEq, Repr

/-- Local memory: plaintext bytes by physical local offset, what is stored poisoned, the RAT, the carve, the channels. -/
structure Mem where
  bytes : SMap Byte                  -- an unlisted byte reads 0 (R241)
  poison : List Nat                  -- stored-poison granules, by local offset of their first byte, rising
  failed : List Nat                  -- granules whose tag failed after re-read, by local offset, rising (R238)
  written : List Nat                 -- pages written since block reset or re-initialisation, by local page, rising
  rat : SMap RatEntry
  ratPending : List (Nat × Option Nat) -- writes not yet complete under R250: entry, RAT_SET packet
  chans : SMap Chan
  ready : Bool                       -- every built channel is READY; the carve has run
  line : Nat                         -- l in force
  usable : Nat                       -- U
  key : Option Key256                -- the memory key latch
  keyNext : Option Key256            -- K′
  farHost : Bool                     -- the pass started in host-assisted mode (R61)
  farCut : Bool                      -- its request has been withdrawn, it goes on in hardware mode (R62)
  chKey : Key256
  plKey : Key256
  unwrap : Option Unwrap
  sealSlots : SMap Nat               -- weight key slot of an entry in FILLING
  stall : Bool                       -- the model's own: the access under way must wait for a slot to close, or for the end zone (R269, R271)
  noSlot : Bool                      -- the model's own: it would overflow a block with no slot free, or past the last MAJOR (R269, R271)
  deriving DecidableEq, Repr

/-- A signal on its way (R213). -/
structure Sig where
  ref : Nat
  status : Nat
  late : Bool
  deriving DecidableEq, Repr

/-- States of a hitch counter (R219). -/
inductive HitchState where
  | idle | collecting | waitRel | heldForMembers
  deriving DecidableEq, Repr

/-- A hitch counter of a Post block (R219 to R221), its entry C0 to C3 decoded. -/
structure HitchCtr where
  valid : Bool
  root : Bool
  parent : Nat
  children : BitVec 64
  epoch : Nat
  state : HitchState
  arrived : BitVec 64
  lostNow : BitVec 64
  timedOut : BitVec 64
  ok : Bool
  cause : Nat
  lostCount : Nat
  held : List (Nat × Bool × Nat × Nat)   -- port, OK, CAUSE, LOST of an ARRIVE of the next epoch
  leaving : BitVec 64        -- children that LEAVE has taken out from the next occurrence
  withdrawn : Bool           -- the request for a new membership was withdrawn (R62)
  deriving DecidableEq, Repr

/-- A counter never written. -/
def HitchCtr.empty : HitchCtr :=
  { valid := false, root := false, parent := 0, children := 0, epoch := 0, state := .idle, arrived := 0, lostNow := 0, timedOut := 0,
    ok := true, cause := 0, lostCount := 0, held := [], leaving := 0, withdrawn := false }

/-- The step of a Mount block (R223 to R225). -/
inductive StepState where
  | running | draining | deciding | inDoubt
  deriving DecidableEq, Repr

/-- Where the answer to an access goes: nowhere, a compute port, another rank. -/
inductive Reply where
  | none
  | dcp (port tag gen : Nat)
  | rmt (rank tag port share : Nat)
  deriving DecidableEq, Repr

/-- An access of a compute port or of another rank that waits (R198, R224): who asks (R248), where, and what. `op` is the code of R184:
1 a load, 2 a store, else an atomic. -/
structure HeldAcc where
  cls : Nat
  fn : Nat
  ctx : Nat
  share : Nat
  rank : Nat
  off : Nat
  op : Nat
  len : Nat
  data : List Byte
  strb : Nat
  opnd0 : Nat
  opnd1 : Nat
  fetch : Bool
  reply : Reply
  deriving DecidableEq, Repr

/-- Signals, hitches of a member, the step and the global stop (R211 to R231). -/
structure Sync where
  signals : SMap W64               -- signal table (R212)
  joins : SMap W64                 -- hitch table (R216)
  epochs : SMap Nat                -- the member's epoch for a HID
  waiting : SMap Nat               -- HIDs at which this member has arrived and waits: local ns of the arrival
  ahead : SMap Nat                 -- further arrivals made at a HID before the release awaited: each is of the next epoch
  awaited : Option Nat             -- the epoch whose decision the step awaits, in DECIDING and IN_DOUBT
  record : Option Nat              -- commit record base
  commitHid : Nat
  anchor0 : Nat
  anchor1 : Nat
  step : Nat
  stepBad : Bool
  stepState : StepState
  arrivedOk : Bool                 -- OK of the commit arrival made
  history : List (Nat × Bool × Nat) -- decisions by epoch with their causes, newest first, at most 16
  decidedDt : Nat                  -- DT of the last decision
  queries : Nat                    -- QUERY frames sent for this occurrence
  sigInvalid : Nat
  stale : Nat
  held : List HeldAcc              -- accesses held while DRAINING, DECIDING or IN_DOUBT
  stopDt : Option Nat              -- stop DT in ns, armed or in force
  stopArmed : Bool                 -- that DT still lies ahead
  stopped : Bool                   -- the front end dispatches no launch
  gaitStopped : Bool               -- the executors start no occurrence until a swap
  runningAtStop : Nat
  stopTime : Nat                   -- time state at the stop DT
  draining : Bool                  -- the drain of R229 runs
  stopLate : Bool
  seenStops : List (Nat × Nat)     -- ORIGIN and EVENT, newest first, at most 16
  eventNo : Nat                    -- event number of the next own STOP or PDN
  smear : List (Nat × Nat × Nat)   -- SRC_RANK, LKIND and number of the first 16 smearing frames
  smearCount : Nat
  counters : SMap HitchCtr         -- Post role, by HID
  seenPdn : List (Nat × Nat)       -- station and event of plane-down notices seen
  deriving DecidableEq, Repr

end Sys2Proof.Machine
end

