-- ==== Sys2Proof/Machine/Types4.lean ====
section
/-! DEFINITION. The parts of the state, fourth part: reduction, the fabric, coherence, combining, keys and sessions, the
control cipher, life-cycle, debug, self-test; and what the block sends out. -/

namespace Sys2Proof.Machine

/-- One element's record of an accumulator (R161 to R163): an exact value in units of the accumulator's least bit (the raw 32 bits
for AND, OR and XOR), NONE of MIN and MAX, the flags, the zero-sign state, and whether a poisoned unit reached it (R168). -/
structure AccRec where
  got : Bool
  none_ : Bool
  val : Int
  nan : Bool
  pinf : Bool
  ninf : Bool
  zs : Bool
  poison : Bool
  deriving DecidableEq, Repr

/-- No operand yet. -/
def AccRec.empty : AccRec :=
  { got := false, none_ := true, val := 0, nan := false, pinf := false, ninf := false, zs := false, poison := false }

/-- How a collection of contributions ended (R166). -/
inductive RedEnd where
  | open_ | done | incomplete | failed | overcount
  deriving DecidableEq, Repr

/-- One reduce instance (R164 to R168). Contributors are numbered by port × 4096 + stride; the local source is 2^20. -/
structure RedInst where
  index : Nat                -- occurrence number i of the root
  recs : List AccRec
  got : List Nat             -- contributors that have delivered
  count : Nat                -- contributions counted
  failures : Nat
  held : List (Nat × Sig)    -- signals held, by contributor
  flags : Nat                -- INVALID raised at widening
  ended : RedEnd
  writing : Bool             -- result write in progress
  clusters : List Nat        -- clusters its stripes lie on
  kib : Nat                  -- staging held
  deriving DecidableEq, Repr

/-- A root's instances and debts (R164 to R167): open ones, and ended ones that still wait for their result write or emission. -/
structure RedRoot where
  next : Nat
  insts : List RedInst
  owe : List Nat             -- contributors that owe a delivery to an ended instance
  stalled : Bool
  deriving DecidableEq, Repr

/-- A root never used. -/
def RedRoot.empty : RedRoot := { next := 0, insts := [], owe := [], stalled := false }

/-- Reduction beyond its pages: the descriptor store (eight 64-bit words an entry, R158) and the roots. -/
structure Red where
  desc : SMap (List W64)
  roots : SMap RedRoot
  deriving DecidableEq, Repr

/-- A direct or sync request of this block (R186 to R190): its tag, the compute port that asked, and the request. `sent` is false while
R188 or R189 holds it. -/
structure RmtReq where
  tag : Nat
  port : Nat
  dcpTag : Nat
  gen : Nat
  ctx : Nat
  fn : Nat
  share : Nat
  dst : Nat
  op : Nat
  fetch : Bool
  ordered : Bool
  sync : Bool
  addr : Nat
  len : Nat
  data : List Byte
  opnd0 : Nat
  opnd1 : Nat
  sent : Bool
  at_ : Nat
  deriving DecidableEq, Repr

/-- A gateway operation of a source stream (R191 to R194). `local_` is the local side of a COPY: a local offset, or a host address when
`host`. A put carries its data when it comes from a compute port or from the host. `frags` are the numbers of the fragments of a get
that have come, with their data by fragment. `result` is kept until the operations before it have been reported (R192, rule 1). -/
structure GwOp where
  epoch : Nat
  seq : Nat
  kind : Nat                 -- 0 put, 1 get, 2 atomic
  pkt : Option Nat
  reply : Reply
  fn : Nat
  addr : Nat
  local_ : Nat
  host : Bool
  inline : Bool              -- the put's data is `data`
  len : Nat
  data : List Byte
  op : Nat
  fetch : Bool
  opnd0 : Nat
  opnd1 : Nat
  ordered : Bool
  sig : Option Nat
  sent : Bool
  resends : Nat
  at_ : Nat
  frags : List Nat
  poison : Nat
  result : Option (Nat × Nat)  -- status and returned word
  deriving DecidableEq, Repr

/-- A source stream. -/
structure GwSrc where
  epoch : Nat
  nextSeq : Nat
  share : Nat
  ops : List GwOp
  waiting : List GwRec := []  -- data of gets that waits for its place in memory (R224)
  deriving DecidableEq, Repr

/-- A source stream never used. -/
def GwSrc.empty : GwSrc := { epoch := 0, nextSeq := 0, share := 0, ops := [] }

/-- A destination stream: the SSEQ it opened at, the first operation not complete, operations complete beyond it, fragments of
incomplete puts, statuses and results kept for duplicates, records held by the ordering rules or by the memory they touch (R192, R224), signals that wait, the puts of which a poisoned
fragment has come (R192 to R194). -/
structure GwDst where
  epoch : Nat
  base : Nat
  next : Nat
  done : List Nat
  frags : SMap (List Nat)
  stat : SMap Nat
  results : SMap Nat
  held : List (Nat × GwRec)  -- BOP and record, oldest first
  sigs : List (Nat × Nat × Nat) -- SSEQ, SIG_REF, SIG status
  dirty : List Nat := []
  deriving DecidableEq, Repr

/-- The fabric interface of a Mount block: requests, streams, the usable planes. Streams are keyed by rank × 4096 + context. -/
structure Fabric where
  reqs : List RmtReq         -- in issue order
  quarantine : List Nat      -- tags of timed-out requests
  nextTag : Nat
  srcs : SMap GwSrc
  dsts : SMap GwDst
  planes : List Nat          -- U, the usable planes when last looked at (R189)
  draining : Bool
  pieces : List (Nat × List Byte × Bool) := []  -- pieces of COPY packets from the host that wait for their place in memory (R224)
  deriving DecidableEq, Repr

/-- A directory line's state (R196). -/
inductive DirState where
  | invalid
  | shared (v : BitVec 8)
  | modified (o : Nat)
  deriving DecidableEq, Repr

/-- A transaction in progress on a line (R197, R198): who asked (a slot), for what, under which identifier, and whose answers are awaited.
`op`: 1 RD_S, 2 RD_M, 3 UPG, 4 a WB that is being written; 0x10 and 0x11 the read or write of a request outside the protocol; 0x12 a
back-invalidation; 0x13 the invalidation after a gait write. -/
structure DirTx where
  asker : Nat
  op : Nat
  tag : Nat
  sid : Nat                  -- identifier of its snoops
  wait : BitVec 8
  data : Option (List Byte × Bool)   -- the line as its owner gave it back, and whether it is poisoned
  lost : Bool                -- the owner could not give it back (R199)
  deriving DecidableEq, Repr

/-- One line of the directory. -/
structure DirLine where
  st : DirState
  tx : Option DirTx
  queue : List (Nat × Nat × Nat)   -- waiting requests: slot, op, tag
  used : Nat                       -- order of the last use
  deriving DecidableEq, Repr

/-- An untracked line. -/
def DirLine.empty : DirLine := { st := .invalid, tx := none, queue := [], used := 0 }

/-- The coherence directory and the block's own snoops. -/
structure Coh where
  dir : SMap DirLine               -- by line number: local offset / 64
  useNo : Nat
  snoops : SMap (Nat × Nat × Nat × Nat) -- SNP_TID to home rank, message, the home's TID, line address
  nextTid : Nat
  reqs : SMap (Nat × Nat × Nat)    -- own coherent requests by TID: compute port, DCP tag, generation
  nextReq : Nat
  flushWait : BitVec 8             -- members whose FLUSH_DONE is awaited
  disabling : Bool                 -- the flush ends with ACTIVE 0
  waits : List HeldAcc             -- accesses outside the protocol that wait for their lines
  lost : List Nat                  -- lines poisoned under R199
  deriving DecidableEq, Repr

/-- A combining entry of a Post block (R202 to R204): the home, the address, OP, LEN, FETCH and SHARE that its requests agree in, the
operands combined so far, the output port, and the attached requests: input port, rank, tag, operand. The first of them is the one
whose record stands for all. -/
structure CmbEntry where
  home : Nat
  addr : Nat
  op : Nat
  len : Nat
  fetch : Bool
  share : Nat
  port : Nat
  parts : List (Nat × Nat × Nat × Nat)
  deriving DecidableEq, Repr

/-- The loose router and combining unit of a Post block. -/
structure Cmb where
  entries : SMap CmbEntry
  nextEntry : Nat
  deriving DecidableEq, Repr

/-- A tack store slot (R367 to R370). -/
structure Slot where
  kind : Nat
  state : Nat
  gen : Nat                      -- DLK generation or MODEL_ID
  payload : List Byte
  deriving DecidableEq, Repr

/-- A FREE slot. -/
def Slot.free : Slot := { kind := 0, state := 0, gen := 0, payload := [] }

/-- An SPDM session (R376 to R378). `secret` is its export master secret; `nonces` are those of the reports issued in it. -/
structure Session where
  id : Nat
  slot : Nat
  phase : Nat                    -- 1 handshake, 2 established
  anchored : Bool
  hybrid : Bool
  kem : Option (List Byte × List Byte) -- seed drawn by KEM_GET and the messages hashed so far, until KEM_PUT
  kemUsed : Bool
  dhe : List Byte                -- ECDHE secret, until FINISH
  secret : List Byte
  ivs : List Byte                -- request IV and response IV of the keys in force
  transcript : Nat               -- stands for the session's transcript, which is not kept
  encap : Nat                    -- encapsulated flow: 0 not begun, 1 request served, 2 chain delivered
  chain : List Byte              -- the requester's certificate chain
  reqSeq : Nat
  rspSeq : Nat
  nonces : List (List Byte)
  deriving DecidableEq, Repr

/-- SPDM connection state (R373 to R375). -/
inductive SpdmPhase where
  | none | version | caps | negotiated
  deriving DecidableEq, Repr

/-- A message whose answer needs the certificate chain (R366, R374), while the chain is read. -/
inductive CertUse where
  | cert (off len : Nat)
  | digests
  | challenge (nonce : List Byte)
  deriving DecidableEq, Repr

/-- The join record (R385). -/
structure Join where
  jobId : Nat
  rank : Nat
  deriving DecidableEq, Repr

/-- What an operation that waits for the saddle serves (R371, R401, R390): a fresh or derived key of a control cipher page, an IDE key. -/
inductive SaddleUse where
  | ccipTrng (page : Nat) (small : Bool)
  | ccipDerive (page slot : Nat) (small : Bool)
  | ide (session stream kset dir sub : Nat) (key : Key256) (ifv : W64)
  deriving DecidableEq, Repr

/-- An operation that waits for the saddle (R372): its priority, what it serves, whether it has failed once. -/
structure SaddleOp where
  prio : Nat
  use : SaddleUse
  failed : Bool
  deriving DecidableEq, Repr

/-- Keys, identity, sessions beyond the KEY page. `meas` is SHA-384 of R364's meas. -/
structure Trust where
  slots : SMap Slot
  checkKey : Key256
  measSec : Dig384               -- SHA-384 of the security image that runs
  measSvc : Dig384               -- SHA-384 of the service image
  meas : Dig384
  measKept : Option Dig384       -- the digest kept with slots 8 to 31 (R370), once a key has been placed
  deviceId : List Byte           -- DeviceID P-384 public point and ML-DSA-87 public key
  exportRec : List Byte          -- DeviceID export record (R418), empty when none
  join : Option Join
  saddleQ : List SaddleOp
  phase : SpdmPhase
  sessions : List Session
  chunkIn : List Byte            -- pieces of a large request
  chunkOut : List Byte           -- large response not yet fetched: its code, then its bytes
  chunkNo : Nat                  -- the piece that is fetched next
  reportQ : List (Nat × List Byte) -- report requests, oldest first: session, nonce
  hostMeas : Option (Bool × List Byte) -- the report under assembly: HA_MISSING and the host entries, once they are known
  lastReport : List Byte         -- the latest report
  koBeat : Option (Nat × Nat × Nat) -- KO operation outstanding: op, session, stream
  tdiNonce : SMap (List Byte)    -- nonce of each locked TDI
  tdiRec : SMap (List Byte)      -- what LOCK_INTERFACE recorded: provisioning and owned RAT entries (R391)
  tdiStop : List (Nat × Nat)     -- STOP_INTERFACE not yet answered: function, session
  certWait : List CertUse        -- messages that await a host read of the chain (Post role), oldest first
  aliasCert : List Byte          -- the Alias certificate and the alias statement of layer 0 (R365)
  aliasStmt : List Byte
  deriving DecidableEq, Repr

/-- A control cipher page beyond its registers (R398 to R406). -/
structure Ccip where
  key : Option (Nat × Key256)    -- size in bits and key
  hadKey : Bool                  -- the latch held a key at START
  running : Bool
  aborting : Bool
  deriving DecidableEq, Repr

/-- A page without a key. -/
def Ccip.empty : Ccip := { key := none, hadKey := false, running := false, aborting := false }

/-- A life-cycle request under way (R413 to R415): its LC_REQ packet, none for Halter's, its states, and what it burns. -/
structure LcReq where
  pkt : Option Nat
  src : Nat
  dst : Nat
  tBits : Nat
  uds : Nat
  deriving DecidableEq, Repr

/-- The life-cycle controller in the always-on domain: the fuses, the request that waits for hold-up or is committed, the copy that is being
burned, and the local ns of the grant. -/
structure Lc where
  fuses : Fuses
  req : Option LcReq
  copy : Option Nat
  start : Nat
  deriving DecidableEq, Repr

/-- Halter, trace and counters beyond their pages (R421 to R427). -/
structure Dbg where
  lcLines : List (List Byte)     -- request lines gathered for LC
  lcWant : Bool                  -- LC has been given, its lines are awaited
  cnt : SMap Nat                 -- live counters
  deriving DecidableEq, Repr

/-- A burn of the repair row or of HOLD_LOCK (R466). -/
structure Burn where
  hold : Bool                    -- HOLD_LOCK
  units : List Nat               -- bits [18:0] of the entries, in order
  granted : Bool                 -- hold-up has been granted
  deriving DecidableEq, Repr

/-- A save or a restore of a port's banks, which takes the token of every channel in ascending channel order (R464, R475). -/
structure BistSpan where
  next : Nat                     -- the channel whose token is asked for; those below it are held
  ending : Option (Bool × Bool)  -- none for a save; of a restore: has the target failed, does the area read back whole?
  deriving DecidableEq, Repr

/-- Self-test beyond its page (R456 to R466). Units are named by bits [18:0] of a repair entry. -/
structure Bist where
  target : Nat                   -- cluster that the run in progress tests
  span : Option BistSpan         -- save or restore under way
  saved : Option (Nat × Nat × Banks)  -- port whose banks lie in a save area, the area, and what they were
  soft : List Nat                -- soft repairs in force
  out : List Nat                 -- clusters (codes of R465) that left service until block reset (R461)
  burn : Option Burn
  deriving DecidableEq, Repr

/-- A message of the block to one of its ports. -/
inductive Out where
  /-- a control flit of a link port with its sequence number and header -/
  | flit (port seq : Nat) (f : Flit) (h : CtlHdr)
  /-- a data frame of a link port with its full sequence number and epoch -/
  | frame (port seq epoch : Nat) (f : DataFrame)
  /-- a unit of a sibling port with its sequence number and header -/
  | sib (port seq : Nat) (u : SibUnit) (h : CtlHdr)
  /-- a response at a compute port -/
  | dcpRsp (port tag gen status : Nat) (data : List Byte) (poison : Nat)
  /-- a snoop at a compute port -/
  | snoop (op addr tid : Nat)
  /-- a DISPATCH: sequencer, generation, context, launch, part, width, persist, and the launch's packet bytes -/
  | dispatch (seq gen ctx id part width : Nat) (persist : Bool) (pkt : List Byte)
  /-- an ABORT to a sequencer -/
  | abort (seq gen id : Nat)
  /-- a MSG to a sequencer -/
  | msg (seq gen id msgId : Nat) (body : List Byte)
  /-- a host write in the name of a function -/
  | hostWrite (fn addr : Nat) (data : List Byte) (poison : Bool)
  /-- a host read with its tag -/
  | hostRead (fn addr len tag : Nat)
  /-- a completion of a host access of the window or of memory -/
  | hostCpl (fn : Nat) (data : List Byte) (poison : Bool)
  /-- an MSI-X message -/
  | msix (fn vec : Nat)
  /-- FLR_DONE -/
  | flrDone (fn : Nat)
  /-- a key-out beat (R494): op, stream, key set, direction, substream, key, IV -/
  | ko (op stream kset dir sub : Nat) (key : Key256) (ifv : W64)
  /-- the KO_ZEROIZE pulse -/
  | koZeroize
  /-- an SPDM response, over DOE or inside a session -/
  | spdm (session : Nat) (code : Nat) (body : List Byte)
  /-- a line sent on the Halter UART -/
  | uart (line : List Byte)
  /-- a trace message -/
  | trace (bytes : List Byte)
  /-- a value returned by a register read -/
  | regData (p : Party) (value : W64)
  /-- a command of the DOE mailbox answered -/
  | cfgData (value : W32)
  deriving DecidableEq, Repr

end Sys2Proof.Machine
end

