-- ==== Sys2Proof/Machine/State.lean ====
section
/-! DEFINITION. The state of the block, its faults and refusals, and the state after power-on reset. Every register that has
a place in the window (R37) is held once, in `regs`, by its byte offset in the window; an unlisted register reads its reset
value (RegTable.lean). What the spec gives the block beyond its registers stands in the other parts. -/

namespace Sys2Proof.Machine

/-- The state of the block. -/
structure State where
  /-- build parameters (R33) -/
  build : Build
  /-- levels of the input pins -/
  pins : PinsIn
  /-- levels of the output pins -/
  outs : PinsOut
  /-- registers, by byte offset in the window; unlisted: the reset value -/
  regs : SMap W32
  /-- read and write latches of register pairs (R42), by page slot × 1024 + party -/
  latches : SMap Latch
  boot : Boot
  pkg : Package
  power : Power
  time : Time
  /-- link ports by number; sibling port s has key 64 + s -/
  links : SMap Link
  gait : Gait
  faults : Faults
  host : HostIf
  front : Front
  objs : Objects
  fns : SMap Fn
  mem : Mem
  sync : Sync
  red : Red
  fab : Fabric
  coh : Coh
  cmb : Cmb
  trust : Trust
  ccip : SMap Ccip
  lc : Lc
  dbg : Dbg
  bist : Bist
  /-- what the block has sent, oldest first -/
  out : List Out
  /-- host writes and MSI-X messages that wait for the host link -/
  egress : List Out
  /-- the model's own counter: values drawn from the TRNG and free values taken so far -/
  draws : Nat
  /-- commands that wait, first in, first out -/
  pending : List Instr
  deriving DecidableEq, Repr

/-- Why the machine stops with a fault. -/
inductive Fault where
  /-- the commanded unit's behaviour is not given by the spec; raised by no meaning of this model, kept for a later one; safe -/
  | unspecified
  deriving DecidableEq, Repr

/-- Why a command has no meaning. -/
inductive Refusal where
  /-- the command has no meaning in this model yet; raised by the dispatch alone; safe -/
  | notModelled (mnemonic : String)
  deriving DecidableEq, Repr

/-- Banks, packets and keys of a block out of power-on reset: nothing held. -/
def Front.empty : Front :=
  { queues := [], pkts := [], nextPkt := 0, nextOrder := 0, nextLaunch := 0, nextMsg := 0, launches := [], served := [], fetching := [], waiters := [],
    seqs := [], rings := [], slotWait := [], held := [] }

/-- No object resident, no table set. -/
def Objects.empty : Objects :=
  { ctxBaseSet := false, objBaseSet := false, fenceBaseSet := false, slots := [], fences := [], useNo := 0, retire := [],
    teardown := [] }

/-- Memory of a fresh tree: every page reads as zeros (R241). -/
def Mem.empty : Mem :=
  { bytes := [], poison := [], failed := [], written := [], rat := [], ratPending := [], chans := [], ready := false, line := 0,
    usable := 0, key := none, keyNext := none, farHost := false, farCut := false, chKey := 0, plKey := 0, unwrap := none, sealSlots := []
    stall := false, noSlot := false }

/-- No signal, no hitch, no step. -/
def Sync.empty : Sync :=
  { signals := [], joins := [], epochs := [], waiting := [], record := none, commitHid := 0, anchor0 := 0, anchor1 := 0,
    step := 0, stepBad := false, stepState := .running, arrivedOk := false, history := [], queries := 0, sigInvalid := 0,
    stale := 0, decidedDt := 0, held := [], stopDt := none, stopArmed := false, ahead := [], awaited := none, stopped := false, gaitStopped := false, runningAtStop := 0,
    stopTime := 0, draining := false, stopLate := false, seenStops := [],
    eventNo := 0, smear := [], smearCount := 0, counters := [], seenPdn := [] }

/-- No recovery in progress, no record. -/
def Faults.empty : Faults :=
  { ring := [], msgOut := false, injected := false, armed := [], triage := [], suspects := [], order := [], current := none,
    replays := 0, escTimes := [], genLeft := [], phase := .idle, isReplayReset := false, hbNeed := [] }

def Red.empty : Red := { desc := [], roots := [] }

def Fabric.empty : Fabric :=
  { reqs := [], quarantine := [], nextTag := 0, srcs := [], dsts := [], planes := [], draining := false }

def Coh.empty : Coh :=
  { dir := [], useNo := 0, snoops := [], nextTid := 0, reqs := [], nextReq := 0, flushWait := 0, disabling := false, waits := [], lost := [] }

def Cmb.empty : Cmb := { entries := [], nextEntry := 0 }

def Gait.empty : Gait :=
  { banks := [], newPeriod := 0, newId := 0, newGuard := 0, occs := [], pdnPlanes := [], downOrder := [], loose := [], credits := [], rounds := [], units := 0, newUnits := 0 }

def Trust.empty : Trust :=
  { slots := [], checkKey := 0, measSec := 0, measSvc := 0, meas := 0, measKept := none, deviceId := [], exportRec := [], join := none
    saddleQ := [], phase := .none, sessions := [], chunkIn := [], chunkOut := [], chunkNo := 0, reportQ := [], hostMeas := none, lastReport := []
    koBeat := none, tdiNonce := [], tdiRec := [], tdiStop := [], certWait := []
    aliasCert := [], aliasStmt := [] }

/-- A fuse copy with no bit burnt. -/
def CopyRead.blank : CopyRead := { lcT := ⟨0, 0⟩, scrap := ⟨0, 0⟩, uds := ⟨0, 0⟩ }

/-- Blank fuses of a part that has never been programmed: the state MAKER (R409, R411). -/
def Fuses.blank : Fuses :=
  { copies := [CopyRead.blank, CopyRead.blank, CopyRead.blank], holdLock := [0, 0, 0], serial := [0, 0, 0], auth := [0, 0, 0]
    repair := [] }

def Lc.empty : Lc := { fuses := Fuses.blank, req := none, copy := none, start := 0 }

def Dbg.empty : Dbg := { lcLines := [], lcWant := false, cnt := [] }

def Bist.empty : Bist := { target := 0, span := none, saved := none, soft := [], out := [], burn := none }

def HostIf.empty : HostIf :=
  { nextTag := 0, reads := [], doeBusy := false, doeIn := [], doeOut := [], doeErr := false, doeIntEn := false,
    doeIntStat := false, got := [] }

/-- Time after power-on reset: FREE, DT from zero (R79). -/
def Time.empty : Time :=
  { dtA := 0, resA := 0, dtB := 0, resB := 0, loc := 0, holdAt := 0, holdErr := 0, topTerm := 0, ports := [],
    lastPps := none, sub := 0, lockGm := none, slewing := false }

def Boot.empty : Boot :=
  { phase := .inReset, post := false, inst := 0, policyRepair := false, fwSec := 0, fwSvc := 0, svcHalted := false, svcWait := [],
    tampered := false, wrInReset := [] }

def Package.empty : Package :=
  { lead := 0, everLost := [], out := [], reports := [], awaited := [], vouched := [], stale := false }

def Power.empty : Power := { gated := [], windows := [], mrOff := false, mrGoingOff := false, mrWaking := false }

def PinsIn.idle : PinsIn :=
  { role := false, inst := 0, bistPolicy := false, tamperN := true, mrOffReq := false, mrPwrGood := true,
    throttleReq := false, holdupAck := false, tempC := 25, tempValid := false, linkUp := true, numVf := 0, vfEn := false }

/-- Outputs at their reset values (R478 to R506). -/
def PinsOut.reset : PinsOut :=
  { crstN := false, dcpGen := 0, errFatalN := true, ppsOut := false, mrPwrEn := false, sleep := false, trainReq := true,
    holdupReq := false, bistDone := false, bistPass := false, scan := false }

/-- The block right after power-on reset, in the reference Mount build, with block reset asserted. -/
def State.reset : State :=
  { build := Build.mount, pins := PinsIn.idle, outs := PinsOut.reset, regs := [], latches := [], boot := Boot.empty,
    pkg := Package.empty, power := Power.empty, time := Time.empty, links := [], gait := Gait.empty, faults := Faults.empty,
    host := HostIf.empty, front := Front.empty, objs := Objects.empty, fns := [], mem := Mem.empty, sync := Sync.empty,
    red := Red.empty, fab := Fabric.empty, coh := Coh.empty, cmb := Cmb.empty, trust := Trust.empty, ccip := [],
    lc := Lc.empty, dbg := Dbg.empty, bist := Bist.empty, out := [], egress := [], draws := 0, pending := [] }

end Sys2Proof.Machine
end

