-- ==== Sys2Proof/Machine/Ops.lean ====
section
/-! DEFINITION. Operations that every family shares: the register store, roles and pages, time stamps, the outbox, reporting an
error (R48 to R50, R437 to R439), and leaving service (R451). -/

namespace Sys2Proof.Machine

/-- The outcome type of a command. -/
abbrev Res := Host.Outcome State Fault Refusal

/-! ### Bytes -/

/-- The `n` low bytes of a number, least significant first. -/
def leBytes : Nat → Nat → List Byte
  | 0, _ => []
  | n + 1, v => BitVec.ofNat 8 v :: leBytes n (v / 256)

/-- The number that bytes spell, least significant first. -/
def ofLe : List Byte → Nat
  | [] => 0
  | b :: r => b.toNat + 256 * ofLe r

/-- The `n` low bytes of a number, most significant first. -/
def beBytes (n v : Nat) : List Byte := (leBytes n v).reverse

/-- The number that bytes spell, most significant first. -/
def ofBe (l : List Byte) : Nat := ofLe l.reverse

/-- `n` bytes of `l` from byte `off`, short bytes read as zero. -/
def slice (l : List Byte) (off n : Nat) : List Byte :=
  let t := (l.drop off).take n
  t ++ List.replicate (n - t.length) 0

/-- Bits `[lo + w - 1 : lo]` of a number. -/
def bits (v lo w : Nat) : Nat := v / 2 ^ lo % 2 ^ w

/-- A bit of a number. -/
def bit (v i : Nat) : Bool := v / 2 ^ i % 2 == 1

/-- 1 for true. -/
def b2n (b : Bool) : Nat := if b then 1 else 0

/-- The bytes of an ASCII text. -/
def ascii (t : String) : List Byte := t.toList.map fun c => BitVec.ofNat 8 c.toNat

/-- A number as a signed number of `w` bits. -/
def signed (v w : Nat) : Int := if 2 * (v % 2 ^ w) < 2 ^ w then ((v % 2 ^ w : Nat) : Int) else ((v % 2 ^ w : Nat) : Int) - (2 ^ w : Nat)

/-- A signed number in two's complement of `w` bits. -/
def unsigned (x : Int) (w : Nat) : Nat := (x % (2 ^ w : Nat)).toNat

/-! ### Registers -/

/-- The reset value of the register at offset `o` of page `i` of family `f`. -/
def regReset (f : Fam) (i o : Nat) : W32 :=
  BitVec.ofNat 32 ((f.fields.filter fun d => d.hits i o).foldl (fun a d => a + d.rst * 2 ^ d.lo) 0)

/-- The reset value of the register at window offset `a` (R37). -/
def windowReset (a : Nat) : W32 :=
  match Page.ofSlot (a / 0x1000) with
  | some p => regReset p.fam p.idx (a % 0x1000)
  | none => 0

/-- The register at window offset `a`. -/
def State.reg (s : State) (a : Nat) : W32 := SMap.getD s.regs (windowReset a) a

/-- Write a whole register. -/
def State.setReg (s : State) (a : Nat) (v : W32) : State :=
  { s with regs := SMap.put s.regs (windowReset a) a v }

/-- The window offset of element `i` of a field's register in page `p`; an index runs within the array. -/
def Field.at_ (f : Field) (p : Page) (i : Nat) : Nat := p.base + f.off + i % f.n * f.stride

/-- The value of field `f` in page `p`, element `i` of its array. -/
def State.rd (s : State) (p : Page) (f : Field) (i : Nat := 0) : Nat := fieldOf (s.reg (f.at_ p i)) f.lo f.w

/-- Set field `f` in page `p`, element `i` of its array. -/
def State.wr (s : State) (p : Page) (f : Field) (v : Nat) (i : Nat := 0) : State :=
  s.setReg (f.at_ p i) (withField (s.reg (f.at_ p i)) f.lo f.w v)

/-- A one-bit field. -/
def State.rdb (s : State) (p : Page) (f : Field) (i : Nat := 0) : Bool := s.rd p f i != 0

/-- Count one in a wrapping counter. -/
def State.inc (s : State) (p : Page) (f : Field) (i : Nat := 0) : State := s.wr p f (s.rd p f i + 1) i

/-- Add to a wrapping counter. -/
def State.add (s : State) (p : Page) (f : Field) (n : Nat) (i : Nat := 0) : State := s.wr p f (s.rd p f i + n) i

/-- Count one in a saturating counter. -/
def State.incSat (s : State) (p : Page) (f : Field) (i : Nat := 0) : State :=
  s.wr p f (min (s.rd p f i + 1) (2 ^ f.w - 1)) i

/-- The value of a register pair (R42). -/
def State.rdPair (s : State) (p : Page) (lo hi : Field) (i : Nat := 0) : Nat := s.rd p lo i + 2 ^ 32 * s.rd p hi i

/-- Set a register pair. -/
def State.wrPair (s : State) (p : Page) (lo hi : Field) (v : Nat) (i : Nat := 0) : State :=
  (s.wr p lo v i).wr p hi (v / 2 ^ 32) i

/-- Return the pages of a reset scope to their reset values (R37, R38). -/
def State.resetPages (s : State) (scopes : List Scope) : State :=
  { s with
    regs := s.regs.filter fun e =>
      match Page.ofSlot (e.1 / 0x1000) with
      | some p => !(scopes.contains p.fam.scope)
      | none => true
    latches := s.latches.filter fun e =>
      match Page.ofSlot (e.1 / 1024) with
      | some p => !(scopes.contains p.fam.scope)
      | none => true }

/-! Header registers of every page (R45 to R51). -/

def hdrErrStatus : Nat := 0x10
def hdrErrMask : Nat := 0x14
def hdrErrInject : Nat := 0x18
def hdrLock : Nat := 0x1C

/-- Common error bits (R48). -/
abbrev Err.LOCK_VIOL : Nat := 0
abbrev Err.BAD_ACCESS : Nat := 1
abbrev Err.WR_IN_RESET : Nat := 2
abbrev Err.PRIV : Nat := 3
abbrev Err.RSVD_VALUE : Nat := 4

/-- LOCK.LOCKED of a page (R51). -/
def State.locked (s : State) (p : Page) : Bool := fieldOf (s.reg (p.base + hdrLock)) 0 1 == 1

/-! ### Roles, pages, operation -/

/-- Post role (R3). -/
def State.post (s : State) : Bool := s.boot.post

/-- Link ports of the build in the sampled role (R33, R34). -/
def State.ports (s : State) : Nat := if s.boot.post then s.build.lptCount else min s.build.lptCount 24

/-- Channels of the build in the sampled role. -/
def State.channels (s : State) : Nat := if s.boot.post || !s.build.mrBuilt then 0 else s.build.mchCount

/-- Is a page present in the sampled role and build (R4, R34)? -/
def State.present (s : State) (p : Page) : Bool :=
  p.idx < p.fam.slots &&
  match p.fam with
  | .mch => p.idx < s.channels
  | .gw => !s.boot.post
  | .coh => !s.boot.post
  | .cmb => s.boot.post
  | .hitch => s.boot.post
  | .lpt => p.idx < s.ports
  | .ctxs => !s.boot.post
  | .fns => !s.boot.post
  | .vf => p.idx == 0 || !s.boot.post
  | _ => true

/-- Out of reset: the firmware runs (R453). -/
def State.up (s : State) : Bool := s.boot.phase == .running

/-- Block reset is deasserted. -/
def State.released (s : State) : Bool := s.boot.phase != .inReset

/-- Block reset is deasserted and the firmware does not run: booting, or held by a refusal. The control region serves the ERR and BST pages
and Halter at ROM level (R423, R453, R461). -/
def State.romLevel (s : State) : Bool := s.boot.phase != .running && s.boot.phase != .inReset

/-- Is a page in service: any page while the firmware runs, ERR and BST at ROM level (R44)? -/
def State.pageUp (s : State) (pg : Page) : Bool := s.up || (s.romLevel && (pg.fam == .err || pg.fam == .bst))

/-- ISTATE (R454): 0 in service, 1 CRST, 2 REPLAY, 3 out of service. -/
def State.istate (s : State) : Nat := s.rd Page.err Reg.ERR_STATUS.ISTATE

/-- Out of reset and in service (R451). -/
def State.serving (s : State) : Bool := s.up && s.istate != 3

/-- Serving in Mount role. -/
def State.mount (s : State) : Bool := s.serving && !s.boot.post

/-- A command that acts only when `ok`; otherwise nothing happens (R4, R478). -/
def guarded (ok : Bool) (s : State) (f : State → State) : Res := .next (if ok then f s else s)

/-! ### Time stamps -/

/-- DT in units of 1/256 ns: the count at the last AOCLK edge and the position within the period (R63). -/
def State.dt (s : State) : Nat := s.time.dtA.toNat + s.time.sub

/-- DT in ns, DT[71:8]. -/
def State.dtNs (s : State) : Nat := s.dt / 256

/-- Local time in ns. -/
def State.now (s : State) : Nat := s.time.loc

/-- The time state (R79): 0 FREE, 1 HOLDOVER, 2 LOCKED. -/
def State.timeState (s : State) : Nat := s.rd Page.time Reg.TIME_STATUS.STATE

/-! ### Outbox and draws -/

/-- Is a message an egress request of the host interface (R492)? Reads are issued by hostRead. -/
def Out.toHost (o : Out) : Bool :=
  match o with
  | .hostWrite _ _ _ _ => true
  | .msix _ _ => true
  | _ => false

/-- Send a message. While the host link is down no egress request goes out (R492): writes and MSI-X messages wait for the link. -/
def State.emit (s : State) (o : Out) : State :=
  if o.toHost && !s.pins.linkUp then { s with egress := s.egress ++ [o] } else { s with out := s.out ++ [o] }

/-- Send several messages, in order. -/
def State.emits (s : State) (l : List Out) : State := l.foldl State.emit s

/-- Raise the PF's FUNC vector (R60, R492). -/
def State.funcVec (s : State) : State := s.emit (.msix 0 2047)

/-- Take `n` draws: the number of the first and the state after them. -/
def State.draw (s : State) (n : Nat) : Nat × State := (s.draws, { s with draws := s.draws + n })

/-- Count operations of the saddle (R371, R395): one source, one target. -/
def State.saddled (s : State) (n : Nat := 1) : State := s.add Page.key Reg.KEY_SADDLE_OPS.COUNT n

/-- Confidential mode (R394). -/
def State.conf (s : State) : Bool := s.rdb Page.key Reg.KEY_STATUS.CONF

/-- Count `n` in live counter `i` of R427: 64 bits, wrapping; confidential mode stops it (R420). -/
def State.cnt (s : State) (i n : Nat) : State :=
  if s.conf then s else { s with dbg := { s.dbg with cnt := SMap.put s.dbg.cnt 0 i ((SMap.getD s.dbg.cnt 0 i + n) % 2 ^ 64) } }

/-! ### Error records (R437 to R439) -/

/-- ERR_REC_WPTR and ERR_REC_RPTR. -/
def State.recWptr (s : State) : Nat := s.rd Page.err Reg.ERR_REC_WPTR.WPTR
def State.recRptr (s : State) : Nat := s.rd Page.err Reg.ERR_REC_RPTR.RPTR

/-- Unread records (R438). -/
def State.unread (s : State) : Nat := (s.recWptr + 65536 - s.recRptr) % 65536

/-- Show the number of unread records in ERR STATUS. -/
def State.showUnread (s : State) : State := s.wr Page.err Reg.ERR_STATUS.UNREAD s.unread

/-- Set a bit of a page's ERR_STATUS (R49). -/
def State.setErrBit (s : State) (p : Page) (b : Nat) : State :=
  s.setReg (p.base + hdrErrStatus) (s.reg (p.base + hdrErrStatus) ||| BitVec.ofNat 32 (2 ^ b))

/-- Is the report of a bit suppressed (R48)? -/
def State.masked (s : State) (p : Page) (b : Nat) : Bool := (s.reg (p.base + hdrErrMask)).getLsbD b

/-- The unread records, oldest first, by their numbers. -/
def State.unreadNos (s : State) : List Nat := (List.range s.unread).map fun k => (s.recRptr + k) % 65536

/-- The record in the slot of number `w`. -/
def State.recAt (s : State) (w : Nat) : Option ErrRec := SMap.find? s.faults.ring (w % 64)

/-- Put a record into the slot of number `w`. -/
def State.putRec (s : State) (w : Nat) (r : ErrRec) : State :=
  { s with faults := { s.faults with ring := SMap.set s.faults.ring (w % 64) r } }

/-- Raise the ERR vector for a record of severity `sev`, unless a message is outstanding (R439). -/
def State.errVec (s : State) (sev : Nat) : State :=
  if s.rd Page.err Reg.ERR_CFG.IRQ_MIN_SEV ≤ sev && !s.faults.msgOut then
    { s.emit (.msix 0 2046) with faults := { s.faults with msgOut := true } }
  else s

/-- Does a new error merge into record `r` (R438)? 1 ms is 256,000,000 units of DT. -/
def mergesWith (r n : ErrRec) : Bool :=
  r.family == n.family && r.index == n.index && r.bit == n.bit && r.sev == n.sev && r.ctx == n.ctx
    && n.dt.toNat ≤ r.dt.toNat + 256000000

/-- Remove the victim at position `k` of the unread records, moving each older record one slot towards the newer end, and
advance ERR_REC_RPTR (R438, steps 1 to 3). -/
def State.displace (s : State) (k : Nat) : State :=
  let nos := s.unreadNos
  let older := (List.range k).reverse
  let s := older.foldl (fun s j =>
    match s.recAt (nos.getD j 0) with
    | some r => s.putRec (nos.getD (j + 1) 0) r
    | none => s) s
  (s.inc Page.err Reg.ERR_REC_LOST.COUNT).inc Page.err Reg.ERR_REC_RPTR.RPTR

/-- Write a new record at ERR_REC_WPTR and advance it. -/
def State.pushRec (s : State) (r : ErrRec) : State :=
  let w := s.recWptr
  ((s.putRec w { r with seq := w }).inc Page.err Reg.ERR_REC_WPTR.WPTR).showUnread

/-- The position of the victim among 64 unread records: the oldest corrected one, or the oldest (R438). -/
def State.victim (s : State) : Nat :=
  (s.unreadNos.findIdx? fun w => ((s.recAt w).map fun r => r.sev == 0).getD false).getD 0

/-- Enter a report in the ring (R438): merge, append, drop or displace. The overflow bit itself makes no record. -/
def State.record (s : State) (r : ErrRec) : State :=
  let newest := if s.unread = 0 then none else s.recAt ((s.recWptr + 65535) % 65536)
  match newest with
  | some n =>
    if mergesWith n r then
      s.putRec ((s.recWptr + 65535) % 65536) { n with count := min (n.count + 1) (2 ^ 32 - 1) }
    else if s.unread < 64 then (s.pushRec r).errVec r.sev
    else if r.sev = 0 then s.inc Page.err Reg.ERR_REC_LOST.COUNT
    else ((((s.displace s.victim).pushRec r).setErrBit Page.err Err.err.REC_OVERFLOW)).errVec r.sev
  | none => (s.pushRec r).errVec r.sev

/-- The record of an error of bit `b` of page `p` now. -/
def State.mkRec (s : State) (p : Page) (b sev : Nat) (i : ErrInfo) : ErrRec :=
  { seq := 0, family := p.fam.code, index := p.idx, bit := b, sev := sev, injected := s.faults.injected, ctx := i.ctx,
    fn := i.fn, dt := BitVec.ofNat 72 s.dt, timeState := s.timeState, gen := s.rd Page.fe Reg.FE_GEN.GEN, count := 1,
    place := i.place, placeKind := i.placeKind, detail := i.detail }

/-- Report an error (R49): the page's bit, and a record unless the bit is masked. -/
def State.report (s : State) (p : Page) (b sev : Nat) (i : ErrInfo := {}) : State :=
  let s1 := s.setErrBit p b
  if s.masked p b then s1 else s1.record (s1.mkRec p b sev i)

/-- The severity a page's table gives a bit (R435); the common bits are corrected. -/
def sevOf (f : Fam) (b : Nat) : Nat := ((f.errBits.find? fun e => e.1 == b).map Prod.snd).getD 0

/-- Report an error at the severity of its page's table. -/
def State.err (s : State) (p : Page) (b : Nat) (i : ErrInfo := {}) : State := s.report p b (sevOf p.fam b) i

/-! ### Injected errors that await their point (R50, R83, R279) -/

/-- The place of page slot and bit in the list. -/
def armedFor (pg : Page) (b : Nat) (e : Nat × Nat × Nat) : Bool := e.1 == pg.base / 0x1000 && e.2.1 == b

/-- What an injected error of page `pg`, bit `b`, that awaits its point acts on; none when none waits. -/
def State.armedAt (s : State) (pg : Page) (b : Nat) : Option Nat := (s.faults.armed.find? (armedFor pg b)).map fun e => e.2.2

/-- An injected error waits for its point. -/
def State.armErr (s : State) (pg : Page) (b on : Nat) : State :=
  { s with faults := { s.faults with armed := (s.faults.armed.filter fun e => !armedFor pg b e) ++ [(pg.base / 0x1000, b, on)] } }

/-- It has come to its point: it waits no longer, and its record is tagged. -/
def State.takeArmed (s : State) (pg : Page) (b : Nat) : State :=
  { s with faults := { s.faults with armed := s.faults.armed.filter fun e => !armedFor pg b e, injected := true } }

/-- Records are no longer tagged. -/
def State.untag (s : State) : State := { s with faults := { s.faults with injected := false } }

/-- The reaction `f` to error `b` of page `pg`, tagged when the error is an injected one. -/
def State.struck (s : State) (pg : Page) (b : Nat) (f : State → State) : State :=
  if (s.armedAt pg b).isSome then (f (s.takeArmed pg b)).untag else f s

/-! ### Links and leaving service -/

/-- The link of port `n`. -/
def State.link (s : State) (n : Nat) : Link := SMap.getD s.links Link.empty n

/-- Change the link of port `n`. -/
def State.setLink (s : State) (n : Nat) (l : Link) : State := { s with links := SMap.put s.links Link.empty n l }

/-- LSTATE of port `n` (R132): 0 DOWN, 1 TRAINING, 2 UNKEYED, 3 UP, 4 RETRAIN, 5 DISABLED. -/
def State.lstate (s : State) (n : Nat) : Nat := s.rd (Page.lpt n) Reg.LPT_STATUS.LSTATE

/-- Is port `n` in UP? -/
def State.portUp (s : State) (n : Nat) : Bool := n < s.ports && s.lstate n == 3

/-- The ports in UP, lowest first. -/
def State.upPorts (s : State) : List Nat := (List.range s.ports).filter fun n => s.lstate n == 3

/-- PHY_EN of port `n` (R489): low in DISABLED, and while the block is not out of reset. -/
def State.phyEn (s : State) (n : Nat) : Bool := s.up && n < s.ports && s.lstate n != 5

/-- Enter link state `x`: DARK is 1 in every state except UP (R131). -/
def State.showLstate (s : State) (n x : Nat) : State :=
  (s.wr (Page.lpt n) Reg.LPT_STATUS.LSTATE x).wr (Page.lpt n) Reg.LPT_STATUS.DARK (b2n (x != 3))

/-- Outside UP no domain link key is in use (R132), and marks are not authenticated (R82, R127). -/
def State.dropAuth (s : State) (n : Nat) : State :=
  (s.wr (Page.lpt n) Reg.LPTn_KEY_SLOT.VALID 0).wr Page.time Reg.TIME_PORTn_STAT.AUTH 0 n

/-- Enter link state `x` (R131). -/
def State.setLstate (s : State) (n x : Nat) : State :=
  if x = 3 then s.showLstate n x else (s.showLstate n x).dropAuth n

/-! ### Who the block is -/

/-- Own rank, when the block has one: GW_SELF reads from the join record (R205, R385). -/
def State.selfRank (s : State) : Option Nat := if s.boot.post then none else s.trust.join.map fun j => j.rank % 2 ^ 15

/-- The station of a Post block, when it has one (R181, R209). -/
def State.station (s : State) : Option Nat :=
  if s.rdb Page.cmb Reg.CMB_STATUS.STATION_VALID then some (s.rd Page.cmb Reg.CMB_STATION.STATION) else none

/-- Own rank or station; none before the block has one (R91). -/
def State.ownId (s : State) : Option Nat := if s.boot.post then s.station else s.selfRank

/-! ### Control flits -/

/-- KIND of a control flit (R126). -/
def flitKind : Flit → Nat
  | .mark _ => 1
  | .ack _ => 2
  | .retry _ _ => 3
  | .cap _ => 4
  | .keyReady _ _ => 5
  | .pdn _ _ _ => 6
  | .dark _ => 7
  | .keyReq _ => 12

/-- KIND of a unit of a sibling port (R126, R495). -/
def sibKind : SibUnit → Nat
  | .mark _ => 1
  | .heartbeat => 8
  | .outOfService => 9
  | .reportReq _ => 10
  | .reportData _ => 11

/-- May a control flit go unauthenticated (R127)? -/
def flitMayBare : Flit → Bool
  | .mark _ => true
  | .cap _ => true
  | .dark _ => true
  | _ => false

/-- The frame format version that port `n` writes: the negotiated one, or the block's own before one is negotiated (R112). -/
def State.flitVer (s : State) (n : Nat) : Nat :=
  let v := s.rd (Page.lpt n) Reg.LPT_STATUS.LINK_VER
  if v = 0 then s.rd Page.ver Reg.VER_FORMATS.LINK else v

/-- The epoch under which a control flit is sealed: a KEY_READY's is the one it names (R117), every other one's the current one. -/
def State.flitEpoch (s : State) (n : Nat) (f : Flit) : Nat :=
  match f with
  | .keyReady e _ => e
  | _ => s.rd (Page.lpt n) Reg.LPTn_EPOCH.EPOCH

/-- The header of a control flit (R112). Outside UP, MARK, CAP and DARK go unauthenticated (R127); KEY_PH of such a flit is 0. -/
def State.flitHdr (s : State) (n : Nat) (f : Flit) : CtlHdr :=
  let bare := !s.portUp n && flitMayBare f
  { fver := s.flitVer n, kind := flitKind f, keyPh := if bare then 0 else s.flitEpoch n f % 2, srcRank := s.ownId.getD 0,
    srcPost := s.boot.post, unauth := bare, seqLo := (s.link n).txCtl % 65536 }

/-- Send a control flit (R115, R127). -/
def State.sendFlit (s : State) (n : Nat) (f : Flit) : State :=
  let l := s.link n
  (s.setLink n { l with txCtl := l.txCtl + 1 }).emit (.flit n l.txCtl f (s.flitHdr n f))

/-- Send a unit on sibling port `p`, sealed once a common generation has given it a key (R495). -/
def State.sendSib (s : State) (p : Nat) (u : SibUnit) : State :=
  let l := s.link (64 + p)
  (s.setLink (64 + p) { l with txCtl := l.txCtl + 1 }).emit (.sib p l.txCtl u
    { fver := s.rd Page.ver Reg.VER_FORMATS.LINK, kind := sibKind u, keyPh := 0, srcRank := s.ownId.getD 0, srcPost := s.boot.post,
      unauth := l.txKey.isNone, seqLo := l.txCtl % 65536 })

/-- Send a unit on several sibling ports. -/
def State.sendSibs (s : State) (l : List Nat) (u : SibUnit) : State := l.foldl (fun s p => s.sendSib p u) s

/-- The occurrences of a port that leaves UP can no longer be acknowledged (R131): a transmission is cut short, a reception that is not
complete finds no further frame. -/
def State.cutOccs (s : State) (n : Nat) : State :=
  { s with gait := { s.gait with occs := s.gait.occs.map fun o =>
      if o.port != n then o else if !o.rx then { o with suppressed := true, wait := [] }
      else if o.done || o.empty then o else { o with noBuf := true } } }

/-- The cause that a port in DISABLED keeps when a further one comes: 3 out of service and 2 cluster fault outlast the others, which
ENABLE clears (R131). -/
def worseCause (old new : Nat) : Nat := if old = 3 ∨ new = 3 then 3 else if old = 2 ∨ new = 2 then 2 else old

/-- What a port engine keeps when it loses its latches and its replay buffer: the nonces last drawn and received (R129), the times of its
retries and retrains (R131). -/
def Link.restart (l : Link) : Link :=
  { Link.empty with
    nonceOwn := l.nonceOwn, noncePeer := l.noncePeer, nonceUp := l.nonceUp, freeAt := l.freeAt, retries := l.retries, retrains := l.retrains
    trained := l.trained }

/-- Enter DISABLED with a cause: send DARK, request the PHY off, lose the replay buffer and the latches (R131). -/
def State.disablePort (s : State) (n cause : Nat) : State :=
  if s.lstate n = 5 then s.setLink n { s.link n with cause := worseCause (s.link n).cause cause } else
  let s := (s.sendFlit n (.dark cause)).cutOccs n
  let s := (s.setLstate n 5).wr (Page.lpt n) Reg.LPT_STATUS.DARK_CAUSE cause
  let s := s.setLink n { (s.link n).restart with cause := cause }
  s.err (Page.lpt n) Err.lpt.PORT_DARK { place := n, placeKind := 5, detail := cause }

/-- Is this block the lead of its package (R22)? -/
def State.isLead (s : State) : Bool := s.pkg.lead == s.boot.inst

/-- The lowest-numbered instance of the package that may lead (R22): it has never been lost as lead and is in service. -/
def State.nextLead (s : State) : Nat :=
  ((List.range (s.build.sibCount + 1)).find? fun k => !s.pkg.everLost.contains k && !s.pkg.out.contains k).getD s.boot.inst

/-- The lead is lost: another instance leads, and what siblings were told of is told again (R22, R382). -/
def State.leadGone (s : State) (k : Nat) : State :=
  let s := { s with pkg := { s.pkg with everLost := k :: s.pkg.everLost, vouched := [], reports := [], stale := true } }
  { s with pkg := { s.pkg with lead := s.nextLead } }

/-- The instance leaves service (R451). -/
def State.outOfService (s : State) : State :=
  if s.istate = 3 then s else
  let s := s.wr Page.err Reg.ERR_STATUS.ISTATE 3
  let s := (List.range s.ports).foldl (fun s n => s.disablePort n 3) s
  let s := { s with outs := { s.outs with errFatalN := false, crstN := false }
                    faults := { s.faults with phase := .idle, suspects := [], order := [], current := none } }
  if s.isLead then
    let s := s.sendSibs (List.range s.build.sibCount) .outOfService
    if s.build.sibCount = 0 then s else s.leadGone s.boot.inst
  else s

/-- Report an error and, when it is fatal-to-instance, leave service; masking changes no handling (R49). -/
def State.fatal (s : State) (p : Page) (b : Nat) (i : ErrInfo := {}) : State := (s.report p b 4 i).outOfService

/-- Report at the table's severity, with the instance's reaction to severity 4. -/
def State.raise (s : State) (p : Page) (b : Nat) (i : ErrInfo := {}) : State :=
  if sevOf p.fam b = 4 then s.fatal p b i else s.err p b i

/-! ### Host-assisted functions (R60 to R62) -/

/-- FUNC_MODE bit `n`: true host-assisted. -/
def State.hostMode (s : State) (n : Nat) : Bool := (s.reg (Page.func.base + 0x20)).getLsbD n

/-- Does a host-assisted request of function `n` await its completion? An acknowledged one still does (R60). -/
def State.haPending (s : State) (n : Nat) : Bool := bit (s.rd Page.func Reg.FUNC_ACTIVE.ACTIVE) n

/-- Post a host-assisted request: FUNC_HA_PEND bit, FUNC_ACTIVE bit, and the FUNC vector when the pending bit rises (R60). -/
def State.haPost (s : State) (n : Nat) : State :=
  let was := bit (s.rd Page.func Reg.FUNC_HA_PEND.PEND) n
  let s := (s.wr Page.func Reg.FUNC_HA_PEND.PEND (s.rd Page.func Reg.FUNC_HA_PEND.PEND ||| 2 ^ n)).wr Page.func
    Reg.FUNC_ACTIVE.ACTIVE (s.rd Page.func Reg.FUNC_ACTIVE.ACTIVE ||| 2 ^ n)
  if was then s else s.funcVec

/-- While the service pair restarts, host-assisted functions and Halter wait (R19, R423): their commands are taken when it is done. -/
def State.assisted (s : State) (c : SvcCmd) (f : State → State) : State :=
  if s.boot.svcHalted then { s with boot := { s.boot with svcWait := s.boot.svcWait ++ [c] } } else f s

/-- Clear a bit of a FUNC register. -/
def clearBit (v n : Nat) : Nat := if bit v n then v - 2 ^ n else v

/-- End a host-assisted request. -/
def State.haClear (s : State) (n : Nat) : State :=
  (s.wr Page.func Reg.FUNC_HA_PEND.PEND (clearBit (s.rd Page.func Reg.FUNC_HA_PEND.PEND) n)).wr Page.func
    Reg.FUNC_ACTIVE.ACTIVE (clearBit (s.rd Page.func Reg.FUNC_ACTIVE.ACTIVE) n)

/-- Set FUNC_FALLBACK bit `n` (R60). -/
def State.fallback (s : State) (n : Nat) : State :=
  s.wr Page.func Reg.FUNC_FALLBACK.FALLBACK (s.rd Page.func Reg.FUNC_FALLBACK.FALLBACK ||| 2 ^ n)

/-! ### Gating -/

/-- Wake clusters. -/
def State.wakeSlots (s : State) (l : List Nat) : State :=
  { s with power := { s.power with gated := s.power.gated.filter fun k => !l.contains k } }

/-! ### Who may write -/

/-- The reach of a party on a page (R39): may it write, may it read. Host software on VF n reaches VER and its own page;
the service cores and Halter only read KEY and LCS. -/
def mayWrite (p : Party) (pg : Page) : Bool :=
  match p with
  | .pf => true
  | .sec => true
  | .svc => pg.fam != .key && pg.fam != .lcs
  | .halter => pg.fam != .key && pg.fam != .lcs && pg.fam != .ccip
  | .vf n => pg.fam == .vf && pg.idx == n

def mayRead (p : Party) (pg : Page) : Bool :=
  match p with
  | .vf n => pg.fam == .ver || (pg.fam == .vf && pg.idx == n)
  | _ => true

/-- A write of a register with an action of its own: nothing acts while block reset is asserted (R478), absent pages ignore it (R4), a page in
reset discards it (R44), a party outside its rights is a privilege fault (R39), otherwise `f` acts. -/
def State.action (s : State) (p : Party) (pg : Page) (f : State → State) : Res :=
  .next (if s.boot.phase == .inReset || !s.present pg then s
    else if !s.pageUp pg then { s with boot := { s.boot with wrInReset := (pg.base / 0x1000) :: s.boot.wrInReset } }
    else if !mayWrite p pg then s.err pg Err.PRIV
    else f s)

end Sys2Proof.Machine
end

