-- ==== Sys2Proof/Machine/Cipher.lean ====
section
/-! DEFINITION. The block ciphers in the byte order of FIPS 197 and GCM over them, and the seal of a counter block (R263). -/

namespace Sys2Proof.Machine

/-! ### AES and GCM -/

/-- AES-256 of 16 bytes, byte 0 in bits [7:0] of the block. -/
def aesBytes (key : Key256) (l : List Byte) : List Byte := leBytes 16 (Config.aes256 key (BitVec.ofNat 128 (ofLe (slice l 0 16)))).toNat

/-- The key that 32 bytes spell. -/
def keyOf (l : List Byte) : Key256 := BitVec.ofNat 256 (ofBe (slice l 0 32))

/-- Multiplication in the field of GCM on big-endian numbers: bits of `x` left, `x`, the running multiple of the other factor, the sum. -/
def gcmMulFrom : Nat → Nat → Nat → Nat → Nat
  | 0, _, _, z => z
  | i + 1, x, v, z =>
    gcmMulFrom i x (if v % 2 = 1 then Nat.xor (v / 2) (0xE1 * 2 ^ 120) else v / 2) (if bit x i then Nat.xor z v else z)
def gcmMul (x y : Nat) : Nat := gcmMulFrom 128 x y 0

/-- Bytes filled up with zeros to whole blocks. -/
def padBlocks (l : List Byte) : List Byte := slice l 0 ((l.length + 15) / 16 * 16)

/-- GHASH of whole blocks under the hash key `h`. -/
def ghash (h : Nat) (l : List Byte) : Nat :=
  (List.range (l.length / 16)).foldl (fun y i => gcmMul (Nat.xor y (ofBe (slice l (16 * i) 16))) h) 0

/-- The tag of GCM with a nonce of 12 bytes. -/
def gcmTag (key : Key256) (nonce aad ct : List Byte) : List Byte :=
  let h := ofBe (aesBytes key (List.replicate 16 0))
  let y := ghash h (padBlocks aad ++ padBlocks ct ++ beBytes 8 (8 * aad.length) ++ beBytes 8 (8 * ct.length))
  beBytes 16 (Nat.xor y (ofBe (aesBytes key (nonce ++ beBytes 4 1))))

/-- Encryption or decryption of GCM: the counter runs from 2. -/
def gcmText (key : Key256) (nonce l : List Byte) : List Byte :=
  ((List.range ((l.length + 15) / 16)).flatMap fun i =>
    let k := aesBytes key (nonce ++ beBytes 4 (i + 2))
    (((l.drop (16 * i)).take 16).zip k).map fun e => e.1 ^^^ e.2)

/-! ### The field of ghash on blocks (R236, R263) -/

/-- A block as the bytes of FIPS 197, byte 0 in bits [7:0], read as a big-endian number, and back. -/
def gfOf (x : BitVec 128) : Nat := ofBe (leBytes 16 x.toNat)
def gfTo (x : Nat) : BitVec 128 := BitVec.ofNat 128 (ofLe (beBytes 16 x))

/-- Product. -/
def gfMul (x y : BitVec 128) : BitVec 128 := gfTo (gcmMul (gfOf x) (gfOf y))

/-- The field's 1, and alpha = x. -/
def gfOne : BitVec 128 := gfTo (2 ^ 127)
def gfAlpha : BitVec 128 := gfTo (2 ^ 126)

/-- Power. -/
def gfPow (x : BitVec 128) : Nat → BitVec 128
  | 0 => gfOne
  | n + 1 => gfMul (gfPow x n) x

/-- Squarings left, the next square, the product so far. -/
def gfInvFrom : Nat → BitVec 128 → BitVec 128 → BitVec 128
  | 0, _, z => z
  | n + 1, q, z => gfInvFrom n (gfMul q q) (gfMul z q)

/-- The inverse: the power 2^128 − 2, the product of the squares from the second to the 127th. -/
def gfInv (x : BitVec 128) : BitVec 128 := gfInvFrom 127 (gfMul x x) gfOne

/-! ### The seal (R263) -/

/-- `hk*x0 xor hk^2*x1 xor …` over blocks, from the power `p`. -/
def sealSum (hk : BitVec 128) : BitVec 128 → List (BitVec 128) → BitVec 128
  | _, [] => 0
  | p, x :: r => gfMul p x ^^^ sealSum hk (gfMul p hk) r

/-- hk of a key: AES-256 of the block with TYPE 3 and every other bit zero. -/
def sealHk (key : Key256) : BitVec 128 := Config.aes256 key (BitVec.ofNat 128 (3 * 2 ^ 17))

/-- The divisor of ck, and ck. -/
def sealDiv (hk : BitVec 128) : BitVec 128 := gfOne ^^^ hk ^^^ gfPow hk 2 ^^^ gfPow hk 3 ^^^ gfPow hk 4
def sealCk (hk : BitVec 128) : BitVec 128 := gfInv (sealDiv hk)

/-- `t*alpha^i` for the blocks in order, from `t`. -/
def sealMasks (t : BitVec 128) : List (BitVec 128) → List (BitVec 128)
  | [] => []
  | _ :: r => t :: sealMasks (gfMul t gfAlpha) r

/-- Seal the four blocks of a counter block under the tweak block `w`; c0 first. -/
def sealBlock (key : Key256) (w : BitVec 128) (x : List (BitVec 128)) : List (BitVec 128) :=
  let hk := sealHk key
  let s := sealSum hk hk x
  let b := (x.zip (sealMasks (Config.aes256 key w) x)).map fun e => Config.aes256 key (e.1 ^^^ s ^^^ e.2) ^^^ e.2
  let v := sealSum hk hk b
  b.map (· ^^^ v)

/-- Unseal them. -/
def unsealBlock (key : Key256) (w : BitVec 128) (c : List (BitVec 128)) : List (BitVec 128) :=
  let hk := sealHk key
  let ck := sealCk hk
  let v := gfMul (sealSum hk hk c) ck
  let b := c.map (· ^^^ v)
  let a := (b.zip (sealMasks (Config.aes256 key w) c)).map fun e => Config.aes256Inv key (e.1 ^^^ e.2) ^^^ e.2
  let s := gfMul (sealSum hk hk a) ck
  a.map (· ^^^ s)

/-- Of the values that the TRNG draws for a memory key, the first whose divisor of ck is not zero (R263); the draws that may follow draw `n`,
by their number. -/
def goodKey : Nat → Nat → Nat → Key256
  | 0, n, i => Config.redraw n i
  | fuel + 1, n, i => if sealDiv (sealHk (Config.redraw n i)) = 0 then goodKey fuel n (i + 1) else Config.redraw n i

/-- A memory key drawn as draw `n` (R21, R263, R280). -/
def memKey (n : Nat) : Key256 := if sealDiv (sealHk (Config.trng n)) = 0 then goodKey 128 n 0 else Config.trng n

end Sys2Proof.Machine
end

