-- ==== Sys2Proof/Machine/Mem.lean ====
section
/-! DEFINITION. Local memory below the rights check: placement (R179), zones and granules (R234), the layout functions of R235,
R236, R243, R261 and R263, stored poison (R237), the marks and the start of a Farrier pass (R265, R280, R285), counter blocks and their
overflow (R265, R268, R271), the maintenance token (R471), lost tree blocks and their triage (R264, R273, R274, R440). -/

namespace Sys2Proof.Machine

/-! ### Layout -/

/-- The input block of R235. `typ`: 0 keystream, 1 tag mask. -/
def inputBlock (major minor page ch blk gran typ : Nat) : BitVec 128 :=
  BitVec.ofNat 128 (major % 2 ^ 64 * 2 ^ 64 + minor % 2 ^ 7 * 2 ^ 57 + page % 2 ^ 25 * 2 ^ 32 + ch % 2 ^ 4 * 2 ^ 28
    + blk % 2 ^ 8 * 2 ^ 20 + gran % 2 * 2 ^ 19 + typ % 4 * 2 ^ 17)

/-- The tweak block of R263. `typ`: 2 the tweak, 3 the hash key's input. -/
def tweakBlock (pmaj pmin index ch level typ : Nat) : BitVec 128 :=
  BitVec.ofNat 128 (pmaj % 2 ^ 64 * 2 ^ 64 + pmin % 2 ^ 7 * 2 ^ 57 + index % 2 ^ 25 * 2 ^ 32 + ch % 2 ^ 4 * 2 ^ 28
    + level % 2 ^ 3 * 2 ^ 25 + typ % 4 * 2 ^ 17)

/-- Tree pages of a channel: blocks of the level, the level, fuel (R243). -/
def treePagesFrom : Nat → Nat → Nat → Nat
  | 0, _, _ => 0
  | fuel + 1, n, lvl =>
    let pages := (n * 64 + 4095) / 4096
    (if lvl < 3 then pages else 2 * pages) + (if n ≤ 64 then 0 else treePagesFrom fuel ((n + 63) / 64) (lvl + 1))

/-- T for a channel of `p` pages (R243). -/
def treePages (p : Nat) : Nat := treePagesFrom 8 p 1

/-- The top level and its number of blocks: blocks of the level, the level, fuel (R261). -/
def treeTopFrom : Nat → Nat → Nat → Nat × Nat
  | 0, n, lvl => (lvl, n)
  | fuel + 1, n, lvl => if n ≤ 64 then (lvl, n) else treeTopFrom fuel ((n + 63) / 64) (lvl + 1)

/-- LEVELS and TOP_BLOCKS for a channel of `p` pages. -/
def treeTop (p : Nat) : Nat × Nat := treeTopFrom 8 p 1

/-- Pages of a level area of `n` blocks (R243). -/
def areaPages (n : Nat) : Nat := (n * 64 + 4095) / 4096

/-- The level areas of a tree in their order, from blocks of the level, the level, its first page, fuel: level, copy, first page (R261). -/
def treeAreasFrom : Nat → Nat → Nat → Nat → List (Nat × Nat × Nat)
  | 0, _, _, _ => []
  | fuel + 1, n, lvl, page =>
    let w := areaPages n
    let next := if n ≤ 64 then fun _ => [] else treeAreasFrom fuel ((n + 63) / 64) (lvl + 1)
    if lvl < 3 then (lvl, 0, page) :: next (page + w) else (lvl, 0, page) :: (lvl, 1, page + w) :: next (page + 2 * w)

/-- The level areas of a channel of `p` pages: they begin at page P − T (R261). -/
def treeAreas (p : Nat) : List (Nat × Nat × Nat) := treeAreasFrom 8 p 1 (p - treePages p)

/-- Page and byte of block `j` of a level in copy `k` of its area (R261). -/
def blockPlace (p level k j : Nat) : Option (Nat × Nat) :=
  ((treeAreas p).find? fun a => a.1 == level && a.2.1 == k).map fun a => (a.2.2 + j / 64, j % 64 * 64)

/-- Round down to a multiple of 64. -/
def down64 (x : Nat) : Nat := x / 64 * 64

/-- The largest multiple of 64 with `b × 65 / 64 ≤ a`. -/
def bulkPages (a : Nat) : Nat := down64 (a * 64 / 65)

/-- l and u of a channel of `p` pages under the request `req` (R243). -/
def carveOf (p req : Nat) : Nat × Nat :=
  let a := p - treePages p
  let l := min (down64 req) (down64 (a * 8 / 9))
  (l, l + bulkPages (a - 9 * l / 8))

/-- The smallest element of a list, 0 for none. -/
def leastOf (l : List Nat) : Nat :=
  match l with
  | [] => 0
  | a :: r => r.foldl min a

/-- l in force and U for channels of the given sizes (R243). -/
def carve (ps : List Nat) (req : Nat) : Nat × Nat :=
  (leastOf (ps.map fun p => (carveOf p req).1), leastOf (ps.map fun p => (carveOf p req).2))

/-- Byte of the tag of granule `i` of page `g` in its tag area (R243). -/
def tagByte (l g i : Nat) : Nat := if g < l then 8 * (64 * g + i) else 8 * (8 * (g - l) + i)

/-- kh of R179 and R189: bits [31:0] of AES-256 of the value as a 128-bit little-endian block. -/
def kh (key : Key256) (x : Nat) : Nat := (Config.aes256 key (BitVec.ofNat 128 x)).toNat % 2 ^ 32

/-! ### Placement and granules -/

/-- Local capacity in bytes (R178, R243). -/
def State.capacity (s : State) : Nat := s.mem.usable * s.channels * 4096

/-- Does the memory region accept accesses: every built channel is READY, and MR is not OFF or on its way (R28, R488)? -/
def State.memOpen (s : State) : Bool := s.mem.ready && !s.power.mrOff && !s.power.mrGoingOff && !s.power.mrWaking

/-- The channel of place `k` of stripe `g` (R179): (k + kh) mod n, which is 0 where there is one channel. -/
def State.chAt (s : State) (k g : Nat) : Nat := if s.channels ≤ 1 then 0 else (k + kh s.mem.chKey g) % s.channels

/-- The channel of a local offset (R179). -/
def State.chOf (s : State) (off : Nat) : Nat := s.chAt (off / 4096 % s.channels) (off / 4096 / s.channels)

/-- The page within its channel (R179). -/
def State.pageOf (s : State) (off : Nat) : Nat := off / 4096 / s.channels

/-- Granule size at a local offset: decided by the zone of the page (R234). -/
def State.granSize (s : State) (off : Nat) : Nat := if s.pageOf off < s.mem.line then 64 else 512

/-- First byte of the granule at a local offset. -/
def State.granStart (s : State) (off : Nat) : Nat := off / s.granSize off * s.granSize off

/-- The granules that a range of bytes touches. -/
def State.granules (s : State) (off len : Nat) : List Nat :=
  if len = 0 then [] else
  ((List.range ((off + len - 1) / 64 - off / 64 + 1)).map fun i => s.granStart ((off / 64 + i) * 64)).eraseDups

/-- Change channel `n`. -/
def State.setChan (s : State) (n : Nat) (c : Chan) : State :=
  { s with mem := { s.mem with chans := SMap.put s.mem.chans Chan.empty n c } }

/-- Channel `n`. -/
def State.chan (s : State) (n : Nat) : Chan := SMap.getD s.mem.chans Chan.empty n

/-- Insert into a rising list without repeats. -/
def insertUp (l : List Nat) (x : Nat) : List Nat :=
  match l with
  | [] => [x]
  | a :: r => if x < a then x :: a :: r else if x = a then a :: r else a :: insertUp r x

/-- The code of a counter block in the cache lists: its level and index. -/
def blockCode (level index : Nat) : Nat := level * 2 ^ 25 + index

/-- Does the block of `level` and `index` cover page `g`? -/
def covers (level index g : Nat) : Bool := g / 64 ^ (level - 1) == index

/-- Is page `g` of channel `n` in a poisoned extent (R274)? -/
def State.extentPoisoned (s : State) (n g : Nat) : Bool :=
  (s.chan n).psn.any fun e => covers e.2.1 e.2.2.1 g

/-- Does the granule at `start` read poisoned, and is it stored so? -/
def State.granPoisoned (s : State) (start : Nat) : Bool :=
  s.mem.poison.contains start || s.mem.failed.contains start || s.extentPoisoned (s.chOf start) (s.pageOf start)

/-- `len` plaintext bytes at a local offset. -/
def State.bytesAt (s : State) (off len : Nat) : List Byte :=
  (List.range len).map fun i => SMap.getD s.mem.bytes 0 (off + i)

/-- A little-endian word of `n` bytes in memory, below the rights check. -/
def State.word (s : State) (off n : Nat) : Nat := ofLe (s.bytesAt off n)

/-- Store bytes, below counters and poison. -/
def State.putBytes (s : State) (off : Nat) (l : List Byte) : State :=
  { s with mem := { s.mem with bytes := (l.zipIdx).foldl (fun m e => SMap.put m 0 (off + e.2) e.1) s.mem.bytes } }

/-- Poison mask of a range: bit k is the 16-byte unit k counted from the range's first unit. -/
def State.poisonMask (s : State) (off len : Nat) : Nat :=
  if len = 0 then 0 else
  ((List.range ((off + len - 1) / 16 - off / 16 + 1)).map fun k =>
    if s.granPoisoned (s.granStart ((off / 16 + k) * 16)) then 2 ^ k else 0).foldl (· + ·) 0

/-! ### Keys, marks and the Farrier's start -/

/-- Is page `g` of channel `n` under K′ (R281)? -/
def State.underNext (s : State) (n g : Nat) : Bool := s.mem.keyNext.isSome && g < (s.chan n).shoe

/-- Show the marks of channel `n` in its page (R278, R292). -/
def State.showHwm (s : State) (n : Nat) : State :=
  (s.wrPair (Page.mch n) Reg.MCHn_MAJOR_HWM_LO.HWM Reg.MCHn_MAJOR_HWM_HI.HWM (s.chan n).hwm).wrPair (Page.mch n)
    Reg.MCHn_FAR_HWM_NEXT_LO.HWM Reg.MCHn_FAR_HWM_NEXT_HI.HWM (s.chan n).hwmNext

/-- Raise the mark of the key in force for page `g` (R265, R281). -/
def State.raiseHwm (s : State) (n g major : Nat) : State :=
  let c := s.chan n
  (if s.underNext n g then s.setChan n { c with hwmNext := max c.hwmNext major }
   else s.setChan n { c with hwm := max c.hwm major }).showHwm n

/-- First MAJOR of the end zone (R271). -/
def endZone : Nat := 2 ^ 64 - 2 ^ 16

/-- Draw a memory key (R21, R263, R280). -/
def State.drawKey (s : State) : Key256 × State :=
  let r := s.draw 1
  (memKey r.1, r.2.saddled)

/-- The channels of the build, as a list. -/
def State.chanList (s : State) : List Nat := List.range s.channels

/-- Does a pass run (R280)? -/
def State.farRunning (s : State) : Bool := s.mem.keyNext.isSome

/-- Channel `n` waits for a grant: the block holds the request while any channel does (R287). -/
def State.farWait (s : State) (n : Nat) : State :=
  let s := s.wr (Page.mch n) Reg.MCH_STATUS.WAIT_GRANT 1
  if s.haPending 1 then s else s.haPost 1

/-- A pass starts: K′ is drawn and loaded into every channel, the second marks open at zero, every shoe line is 0, and in
host-assisted mode a channel that holds no grant waits for one (R280, R281, R285, R287). -/
def State.farBegin (s : State) (cause : Nat) : State :=
  let r := s.drawKey
  let s := { r.2 with mem := { r.2.mem with keyNext := some r.1, farHost := s.hostMode 1, farCut := false } }
  let s := s.chanList.foldl (fun s n =>
    let s := s.setChan n { s.chan n with keyNextLoaded := true, hwmNext := 0, shoe := 0, farState := 1, farRun := 0, farSince := s.now, steps := [] }
    let p := Page.mch n
    ((((((s.saddled.wr p Reg.MCH_STATUS.FAR_STATE 1).wr p Reg.MCH_STATUS.TWO_KEYS 1).wr p Reg.MCHn_SHOE_LINE.SL 0).wrPair p
      Reg.MCHn_FAR_MOVED_LO.BYTES Reg.MCHn_FAR_MOVED_HI.BYTES 0)).showHwm n)) s
  let s := (s.wr (Page.mch 0) Reg.FAR_START_STATUS.CAUSE cause).wrPair (Page.mch 0) Reg.FAR_START_DT_LO.NS Reg.FAR_START_DT_HI.NS s.dtNs
  if s.mem.farHost then
    (s.chanList.filter fun n => s.rd (Page.mch n) Reg.MCHn_FAR_GRANT.PAGES == 0).foldl (fun s n => s.farWait n) s
  else s

/-- A block or the mark has entered the end zone (R271): the status bit, the report, and the Farrier's forced start or urgency
(R285, R288). -/
def State.endZoneCheck (s : State) (n major : Nat) : State :=
  if major < endZone ∨ s.rdb (Page.mch n) Reg.MCH_STATUS.END_ZONE then s else
  let s := (s.wr (Page.mch n) Reg.MCH_STATUS.END_ZONE 1).err (Page.mch n) Err.mch.END_ZONE
  let s := s.err (Page.mch n) Err.mch.FAR_FORCED
  if s.farRunning then s.wr (Page.mch n) Reg.MCH_STATUS.URGENT 1
  else (s.farBegin 3).wr (Page.mch n) Reg.MCH_STATUS.URGENT 1

/-! ### Counters -/

/-- The leaf of page `g` of channel `n`. -/
def State.leaf (s : State) (n g : Nat) : Leaf := SMap.getD (s.chan n).leaves Leaf.zero g

/-- Set a leaf. -/
def State.setLeaf (s : State) (n g : Nat) (l : Leaf) : State :=
  let c := s.chan n
  s.setChan n { c with leaves := SMap.put c.leaves Leaf.zero g l }

/-- A block after an overflow: MAJOR + 1, warm minors 1, cold minors 0 (R265). -/
def Leaf.overflow (l : Leaf) : Leaf := { major := l.major + 1, minors := l.minors.map fun e => (e.1, 1) }

/-- A block as a pass restarts it: MAJOR 0, warm minors 1, cold minors 0 (R282, R283). -/
def Leaf.restart (l : Leaf) : Leaf := { major := 0, minors := l.minors.map fun e => (e.1, 1) }

/-- Show slots and queue of channel `n` (R278). -/
def State.showReenc (s : State) (n : Nat) : State :=
  let c := s.chan n
  let p := Page.mch n
  ((s.wr p Reg.MCHn_REENC_SLOTS.IN_USE (c.reenc.length + c.steps.length)).wr p Reg.MCHn_REENC_SLOTS.QUEUED
    c.reencQueue.length).wr p Reg.MCH_STATUS.REENC_ACTIVE (b2n (c.reenc.length + c.steps.length != 0))

/-- Open slots of channel `n`: re-encryptions and page steps (R268, R282). -/
def State.slotsOpen (s : State) (n : Nat) : Nat := (s.chan n).reenc.length + (s.chan n).steps.length

/-- The access under way must wait: for a slot of its page to close, or for the end zone (R269, R271). -/
def State.noteStall (s : State) : State := { s with mem := { s.mem with stall := true } }

/-- It would overflow a block with no slot free, or take a MAJOR past 2^64 − 1 (R269, R271). -/
def State.noteShort (s : State) : State := { s with mem := { s.mem with noSlot := true } }

/-- A new access: nothing says yet that it must wait. -/
def State.calm (s : State) : State := { s with mem := { s.mem with stall := false, noSlot := false } }

/-- Must the access under way wait? -/
def State.blocked (s : State) : Bool := s.mem.stall || s.mem.noSlot

/-- What `f` does, unless an access in it must wait: then nothing happens yet, and what asked for it asks again. -/
def State.orWait (s : State) (f : State → State) : State := if (f s.calm).blocked then s else f s.calm

/-- A block that is changed is no longer as it stands in the stack: a block of L1 or L2 becomes dirty (R267). -/
def State.soil (s : State) (n level index : Nat) : State :=
  let c := s.chan n
  if level < 3 then s.setChan n { c with dirty := insertUp c.dirty (blockCode level index) } else s

/-- Open the slot of a block whose MAJOR has risen, with its previous plaintext and the granules that need no sweep; a queued re-encryption of
the block is dropped (R268). -/
def State.openSlot (s : State) (n level index : Nat) (forced : Bool) (old : Leaf) (done : W64) : State :=
  let c := s.chan n
  let s := s.setChan n { c with
    reenc := c.reenc ++ [{ level := level, index := index, forced := forced, old := old, done := done }]
    reencQueue := c.reencQueue.filter fun r => r.index != index || r.level != level }
  (s.inc (Page.mch n) Reg.MCHn_REENC_COUNT.COUNT).showReenc n

/-- The open slot of a block. -/
def Chan.slotOf (c : Chan) (level index : Nat) : Option Reenc := c.reenc.find? fun r => r.level == level && r.index == index

/-- May a MAJOR be raised: a slot is free, and 2^64 is not reached (R265, R268, R271)? -/
def State.mayRaise (s : State) (n major : Nat) : Bool := s.slotsOpen n < 128 && major + 1 < 2 ^ 64

/-- Is a block in the end zone, or the mark of its key (R271)? -/
def State.inZone (s : State) (n major : Nat) (next : Bool) : Bool :=
  endZone ≤ major || endZone ≤ (if next then (s.chan n).hwmNext else (s.chan n).hwm)

/-- A leaf's MAJOR rises and the slot for its granules opens (R268). `by_`: the granule whose write overflowed; it is written under the new
pair, so that the sweep skips it (R270). -/
def State.overflowLeaf (s : State) (n g : Nat) (by_ : Option Nat) : State :=
  let l := s.leaf n g
  if !s.mayRaise n l.major then s.noteShort else
  let s := if s.inZone n l.major (s.underNext n g) then s.noteStall else s
  ((((s.setLeaf n g l.overflow).soil n 1 g).raiseHwm n g (l.major + 1)).openSlot n 1 g by_.isSome l
    (BitVec.ofNat 64 ((by_.map fun i => 2 ^ i).getD 0))).endZoneCheck n (l.major + 1)

/-- Queue a block for background re-encryption, unless queued, open or the queue is full (R268). -/
def State.queueReenc (s : State) (n level index : Nat) : State :=
  let c := s.chan n
  if c.reencQueue.length ≥ 256 ∨ c.reencQueue.any (fun r => r.index == index && r.level == level)
    ∨ c.reenc.any (fun r => r.index == index && r.level == level) then s
  else (s.setChan n { c with reencQueue := c.reencQueue ++ [{ level := level, index := index, forced := false }] }).showReenc n

/-! ### Internal blocks (R262, R265, R267) -/

/-- Has the pass restarted block `j` of level `k`, so that it is under K′ (R281, R283)? -/
def State.upperNext (s : State) (n k j : Nat) : Bool :=
  s.farRunning && min ((j + 1) * 64 ^ (k - 1)) s.mem.usable ≤ (s.chan n).shoe

/-- Raise the mark of the key in force for an internal block (R265, R280). -/
def State.raiseUpper (s : State) (n k j major : Nat) : State :=
  let c := s.chan n
  (if s.upperNext n k j then s.setChan n { c with hwmNext := max c.hwmNext major } else s.setChan n { c with hwm := max c.hwm major }).showHwm n

/-- Block `j` of level `k`, and setting it. -/
def State.upper (s : State) (n k j : Nat) : Leaf := SMap.getD (s.chan n).upper Leaf.zero (blockCode k j)
def State.setUpper (s : State) (n k j : Nat) (l : Leaf) : State :=
  let c := s.chan n
  (s.setChan n { c with upper := SMap.put c.upper Leaf.zero (blockCode k j) l }).soil n k j

/-- An internal block's MAJOR rises and the slot for its children opens (R268). -/
def State.overflowUpper (s : State) (n k j : Nat) (forced : Bool) : State :=
  let l := s.upper n k j
  if !s.mayRaise n l.major then s.noteShort else
  let s := if s.inZone n l.major (s.upperNext n k j) then s.noteStall else s
  (((s.setUpper n k j l.overflow).raiseUpper n k j (l.major + 1)).openSlot n k j forced l 0).endZoneCheck n (l.major + 1)

/-- Raise minor `i` of an internal block: overflow past 127, background queue at REENC_MARK (R265, R268). -/
def State.bumpUpper (s : State) (n k j i : Nat) : State :=
  let l := s.upper n k j
  let m := SMap.getD l.minors 0 i
  if 127 ≤ m then s.overflowUpper n k j true
  else
    let s := s.setUpper n k j { l with minors := SMap.put l.minors 0 i (m + 1) }
    if m + 1 ≥ s.rd (Page.mch n) Reg.MCHn_TREE_CFG.REENC_MARK then s.queueReenc n k j else s

/-- A counter block is written to the stack: its parent's minor rises; a block of L3 or above is written through at once, so that the rise
goes on to the root, where VER rises and COLD ends (R265, R267). -/
def State.writeBlock : Nat → Nat → Nat → Nat → State → State
  | 0, _, _, _, s => s
  | fuel + 1, n, level, index, s =>
    let c := s.chan n
    if (treeTop c.capPages).1 ≤ level then
      s.setChan n { c with roots := SMap.set c.roots index ((SMap.getD c.roots (0, false) index).1 + 1, true) }
    else
      let s := s.bumpUpper n (level + 1) (index / 64) (index % 64)
      if 3 ≤ level + 1 then State.writeBlock fuel n (level + 1) (index / 64) s else s

/-- A block that is written back is no longer dirty. -/
def State.cleanBlock (s : State) (n level index : Nat) : State :=
  State.writeBlock 8 n level index
    (s.setChan n { s.chan n with dirty := (s.chan n).dirty.filter (· != blockCode level index) })

/-! ### The maintenance token (R471, R472) -/

/-- A scrub chunk (R277): the position moves on; a pass ends after the last chunk. -/
def State.scrubStep (s : State) (n : Nat) : State :=
  let p := Page.mch n
  let next := s.rd p Reg.MCHn_SCRUB_POS.CHUNK + 1
  if next * 64 < s.mem.usable then s.wr p Reg.MCHn_SCRUB_POS.CHUNK next
  else (s.wr p Reg.MCHn_SCRUB_POS.CHUNK 0).incSat p Reg.MCHn_SCRUB_PASSES.COUNT

/-- The token is granted. -/
def State.grantToken (s : State) (n : Nat) (u : TokenUse) : State :=
  let s := (s.setChan n { s.chan n with token := some u }).wakeSlots [0x20 + n]
  match u with
  | .scrub => (s.wr (Page.mch n) Reg.MCH_STATUS.SCRUB_TOKEN 1).scrubStep n
  | .walk => s.wr (Page.mch n) Reg.MCH_STATUS.WALKING 1
  | _ => s

/-- Is MR ON, so that tokens are granted (R476)? -/
def State.mrOn (s : State) : Bool := !s.power.mrOff && !s.power.mrGoingOff && !s.power.mrWaking

/-- Ask for the token: granted when it is free and MR is ON, else one request of the kind waits. -/
def State.askToken (s : State) (n : Nat) (u : TokenUse) : State :=
  let c := s.chan n
  if u = .reenc ∨ c.token = some u ∨ c.tokenWait.contains u then s
  else if c.token.isNone && s.mrOn then s.grantToken n u
  else s.setChan n { c with tokenWait := c.tokenWait ++ [u] }

/-- A rebuild or retire joins the channel's rebuild list (R472). -/
def State.addRebuild (s : State) (n : Nat) (e : Rebuild) : State :=
  (s.setChan n { s.chan n with rebuilds := (s.chan n).rebuilds ++ [e] }).askToken n .rebuild

/-! ### Poisoned granules and extents (R237, R274) -/

/-- The local offset of page `g` of channel `n` in the stripe that R179 places there. -/
def State.pageAt (s : State) (n g : Nat) : Nat :=
  ((List.range s.channels).find? fun k => s.chAt k g == n).getD 0 * 4096 + g * s.channels * 4096

/-- Remove granule `start` from the stored-poison and failed lists. -/
def State.cleanGran (s : State) (start : Nat) : State :=
  { s with mem := { s.mem with poison := s.mem.poison.filter (· != start), failed := s.mem.failed.filter (· != start) } }

/-- Store granule `start` poisoned (R237). -/
def State.poisonGran (s : State) (start : Nat) : State :=
  { s with mem := { s.mem with poison := insertUp s.mem.poison start, failed := s.mem.failed.filter (· != start) } }

/-- Show the poison list of channel `n` (R278). -/
def State.showPsn (s : State) (n : Nat) : State :=
  let c := s.chan n
  let p := Page.mch n
  let s := (s.wr p Reg.MCHn_PSN_COUNT.COUNT c.psn.length).wr p Reg.MCH_STATUS.PSN_ANY (b2n (c.psn.length != 0))
  (List.range 16).foldl (fun s e =>
    match SMap.find? c.psn e with
    | some x => (((s.wr p Reg.MCHn_PSNe.INDEX x.2.1 e).wr p Reg.MCHn_PSNe.LEVEL x.1 e).wr p Reg.MCHn_PSNe.CAUSE x.2.2 e).wr p
        Reg.MCHn_PSNe.VALID 1 e
    | none => (((s.wr p Reg.MCHn_PSNe.INDEX 0 e).wr p Reg.MCHn_PSNe.LEVEL 0 e).wr p Reg.MCHn_PSNe.CAUSE 0 e).wr p
        Reg.MCHn_PSNe.VALID 0 e) s

/-- Enter an extent in the poison list; a seventeenth entry is fatal (R274). -/
def State.poisonExtent (s : State) (n level index cause : Nat) : State :=
  let c := s.chan n
  if c.psn.any (fun e => level ≤ e.2.1 && index / 64 ^ (e.2.1 - level) == e.2.2.1) then s else
  match (List.range 16).find? fun e => (SMap.find? c.psn e).isNone with
  | none => s.fatal (Page.mch n) Err.mch.PSN_FULL
  | some e => (s.setChan n { c with psn := SMap.set c.psn e (level, index, cause) }).showPsn n

/-! ### Errors in the tree and their triage (R264, R272, R273, R440) -/

/-- Retire what an item names: the extent, through the rebuild list, or the granule, which is rewritten stored-poison. `shown`: the action on
the item that is shown. -/
def State.triageRetire (shown : Bool) (s : State) (t : Triage) : State :=
  if t.level = 0 then
    let off := s.pageAt t.ch t.index
    s.poisonGran (off + t.granule * s.granSize off)
  else s.addRebuild t.ch { level := t.level, index := t.index, retire := true, byHost := false, triage := shown }

/-- Show the oldest item (R440, R454). -/
def State.showTriage (s : State) : State :=
  let p := Page.err
  let q := s.faults.triage.length
  let t := s.faults.triage.head?.getD { ch := 0, level := 0, index := 0, granule := 0, cause := 0 }
  let s := (((s.wr p Reg.ERR_TRIAGE_ITEM.CH t.ch).wr p Reg.ERR_TRIAGE_ITEM.LEVEL t.level).wr p Reg.ERR_TRIAGE_ITEM.INDEX t.index).wr p
    Reg.ERR_TRIAGE_AUX.GRANULE t.granule
  (((s.wr p Reg.ERR_TRIAGE_AUX.CAUSE t.cause).wr p Reg.ERR_TRIAGE_AUX.QUEUED q).wr p Reg.ERR_TRIAGE_AUX.VALID (b2n (q != 0))).wr p
    Reg.ERR_STATUS.TRIAGE_PEND (b2n (q != 0))

/-- An error that needs action: handled at once in hardware mode or with 16 queued; else queued, and shown to host software. -/
def State.triageAdd (s : State) (t : Triage) : State :=
  if !s.hostMode 7 || 16 ≤ s.faults.triage.length then s.triageRetire false t else
  let first := s.faults.triage.isEmpty
  let s := ({ s with faults := { s.faults with triage := s.faults.triage ++ [t] } }).showTriage
  if first then s.haPost 7 else s

/-- A tree block is lost: its extent is poisoned and needs action (R273, R274, R440). The triage item names the poison list (R454). -/
def State.treeLost (s : State) (n level index cause : Nat) : State :=
  let known := (s.chan n).psn.any fun e => level ≤ e.2.1 && index / 64 ^ (e.2.1 - level) == e.2.2.1
  let s := s.poisonExtent n level index cause
  if known || s.istate = 3 then s else s.triageAdd { ch := n, level := level, index := index, granule := 0, cause := 1 }

/-- The conditions on an unsealed block (R264): MAJOR at most the mark of its key; minors 8 to 63 of a bulk page's leaf zero. -/
def Leaf.passes (l : Leaf) (hwm : Nat) (bulkLeaf : Bool) : Bool :=
  l.major ≤ hwm && (!bulkLeaf || l.minors.all fun e => e.1 < 8 || e.2 == 0)

/-- What a read of block `j` of level `k` unseals to when nothing has altered it, under the conditions of R264. -/
def State.blockPasses (s : State) (n k j : Nat) : Bool :=
  let c := s.chan n
  if k = 1 then (s.leaf n j).passes (if s.underNext n j then c.hwmNext else c.hwm) (decide (s.mem.line ≤ j))
  else (s.upper n k j).passes (if s.upperNext n k j then c.hwmNext else c.hwm) false

/-- A dirty leaf or L2 block is lost with its unit of the counter cache: the parent's minor rises, so that the stale copy can never unseal, and the
extent is poisoned (R273). -/
def State.cacheLost (s : State) (n level index : Nat) : State :=
  let s := (State.writeBlock 8 n level index s).err (Page.mch n) Err.mch.CACHE_LOST { place := index, placeKind := 2 }
  let s := s.setChan n { s.chan n with
    dirty := (s.chan n).dirty.filter (· != blockCode level index), cached := (s.chan n).cached.filter (· != blockCode level index) }
  s.treeLost n level index 3

/-- A corrected tree error is counted (R14, R273). -/
def State.treeCorr (s : State) (n : Nat) : State := (s.inc (Page.mch n) Reg.MCHn_TREE_CORR.COUNT).cnt 17 1

/-- A leaf or L2 block in the stack fails twice (R264, R273). -/
def State.blockLost (s : State) (n level index : Nat) (sealFail : Bool) : State :=
  let s := s.err (Page.mch n) (if sealFail then Err.mch.SEAL_FAIL else Err.mch.TREE_UNCORR) { place := index, placeKind := 2 }
  s.treeLost n level index (if sealFail then 2 else 1)

/-- The channel is failed: its control state, its last pipe, its roots or marks are lost (R18, R257, R258). -/
def State.chanFail (s : State) (n : Nat) (i : ErrInfo := {}) : State :=
  (s.wr (Page.mch n) Reg.MCH_STATUS.CH_STATE 3).fatal (Page.mch n) Err.mch.ENGINE_FAULT i

/-- A counter block's read (R264, R272, R273). A block that neither an uncorrectable unit nor an alteration touches passes when it meets R264. -/
def State.blockResult (s : State) (n : Nat) (r : ReadResult) : State :=
  let p := Page.mch n
  if r.inCache then
    if r.level ≤ 2 && (s.chan n).dirty.contains (blockCode r.level r.index) then s.cacheLost n r.level r.index else s.treeCorr n
  else if r.level ≤ 2 then
    let fits := s.blockPasses n r.level r.index
    if r.firstOk && fits then s
    else if r.secondOk && fits then s.treeCorr n
    else s.blockLost n r.level r.index (r.sealFail || !fits)
  else if r.copyBad = 0 && s.blockPasses n r.level r.index then s
  else if r.copyBad = 1 && s.blockPasses n r.level r.index then (s.inc p Reg.MCHn_MIRROR_FIX.COUNT).err p Err.mch.MIRROR_FIX { place := r.index, placeKind := 2 }
  else if r.level = 3 then (s.report p Err.mch.MIRROR_LOST 1 { place := r.index, placeKind := 2 }).treeLost n 3 r.index 4
  else s.fatal p Err.mch.MIRROR_LOST { place := r.index, placeKind := 2 }

end Sys2Proof.Machine
end

