-- ==== Sys2Proof/Machine/Granule.lean ====
section
/-! DEFINITION. Granules: the counter cache (R267), injected errors of counter blocks (R279), reading and writing granules (R237 to R241, R269),
and rebuilding (R275). -/

namespace Sys2Proof.Machine

/-! ### The counter cache (R267) -/

/-- Sets of a counter cache: 16 blocks of 64 bytes each. -/
def State.cacheSets (s : State) : Nat := s.build.ctrCacheKib

/-- May a resident block be replaced: neither pinned nor the parent of a resident block? -/
def evictable (cached : List Nat) (b : Nat) : Bool :=
  b < 3 * 2 ^ 25 && (b < 2 * 2 ^ 25 || !(cached.any fun x => x < 2 * 2 ^ 25 && x % 2 ^ 25 / 64 == b % 2 ^ 25))

/-- The block that makes room for block `b` in a full set: the least recently used one that may be replaced. -/
def State.cacheVictim (s : State) (n b : Nat) : Option Nat :=
  let l := (s.chan n).cached
  if l.length < 16 then none else
  let set := l.filter fun x => Config.cacheSet x % s.cacheSets == Config.cacheSet b % s.cacheSets
  if set.length < 16 then none else set.find? (evictable l)

/-- A block leaves the cache; a dirty one is sealed and written. -/
def State.evict (s : State) (n b : Nat) : State :=
  let c := s.chan n
  let s := s.setChan n { c with cached := c.cached.filter (· != b) }
  if c.dirty.contains b then s.cleanBlock n (b / 2 ^ 25) (b % 2 ^ 25) else s

/-- A block is used: it becomes the most recently used one, in place of another when it was not resident and its set is full. -/
def State.useBlock (s : State) (n b : Nat) : State :=
  let s := if (s.chan n).cached.contains b then s else
    match s.cacheVictim n b with
    | some v => s.evict n v
    | none => s
  s.setChan n { s.chan n with cached := (s.chan n).cached.filter (· != b) ++ [b] }

/-- The blocks from the top down to block `j` of level `k`. -/
def State.pathTo (s : State) (n k j : Nat) : List Nat :=
  ((List.range (treeTop (s.chan n).capPages).1).filter fun m => k ≤ m + 1).reverse.map fun m => blockCode (m + 1) (j / 64 ^ (m + 1 - k))

/-- Is a block warm: has it ever been written? -/
def Chan.warm (c : Chan) (b : Nat) : Bool := if b < 2 * 2 ^ 25 then (SMap.find? c.leaves (b % 2 ^ 25)).isSome else (SMap.find? c.upper b).isSome

/-- The blocks from the top down to a block are used, one miss for each warm level not resident. -/
def State.walkTo (s : State) (n k j : Nat) : State :=
  let c := s.chan n
  let codes := s.pathTo n k j
  let miss := codes.filter fun b => !(c.cached.contains b) && c.warm b
  (codes.foldl (fun s b => s.useBlock n b) s).add (Page.mch n) Reg.MCHn_CTR_MISS.COUNT miss.length

/-- An injected error of bit `b` acts on the block it awaits, once that is among the blocks used (R279). -/
def State.strikeAt (n : Nat) (codes : List Nat) (s : State) (b : Nat) : State :=
  let p := Page.mch n
  match s.armedAt p b with
  | none => s
  | some code =>
    if !codes.contains code then s else
    s.struck p b fun s =>
      match b with
      | 16 => s.blockLost n (code / 2 ^ 25) (code % 2 ^ 25) false
      | 17 => s.blockLost n (code / 2 ^ 25) (code % 2 ^ 25) true
      | 20 => s.cacheLost n (code / 2 ^ 25) (code % 2 ^ 25)
      | _ => if s.rdb p Reg.MCH_STATUS.END_ZONE then s.err p Err.mch.END_ZONE else s.endZoneCheck n endZone

/-- The blocks above page `g` and its leaf are used. -/
def State.touch (s : State) (n g : Nat) : State := [16, 17, 20, 22].foldl (State.strikeAt n (s.pathTo n 1 g)) (s.walkTo n 1 g)

/-! ### Minors (R239, R265, R268, R269) -/

/-- Raise the minor of granule `i` of page `g`: overflow past 127, background queue at REENC_MARK. -/
def State.bumpLeaf (s : State) (n g i : Nat) : State :=
  let l := s.leaf n g
  let m := SMap.getD l.minors 0 i
  if 127 ≤ m then s.overflowLeaf n g (some i)
  else
    let s := (s.setLeaf n g { l with minors := SMap.put l.minors 0 i (m + 1) }).soil n 1 g
    if m + 1 ≥ s.rd (Page.mch n) Reg.MCHn_TREE_CFG.REENC_MARK then s.queueReenc n 1 g else s

/-- Granule `i` of a page whose slot is open is done: the sweep skips it. -/
def State.markDone (s : State) (n g i : Nat) : State :=
  let c := s.chan n
  s.setChan n { c with
    reenc := c.reenc.map fun r => if r.level == 1 && r.index == g then { r with done := r.done ||| BitVec.ofNat 64 (2 ^ i) } else r }

/-- A gait write to granule `i` of a page whose step is open: under K′ with MAJOR 0, minor 1 at first, done; raised from there (R269, R282). -/
def State.sweptWrite (s : State) (n g i : Nat) : State :=
  let c := s.chan n
  let m := SMap.getD c.swept 0 (g * 64 + i)
  if 127 ≤ m then s.noteShort else (s.setChan n { c with swept := SMap.put c.swept 0 (g * 64 + i) (m + 1) }).soil n 1 g

/-- Raise the minor of a granule for a write. A gait write to a granule that the sweep has not done leaves it with minor 1, done (R269). -/
def State.raiseMinor (s : State) (n g i : Nat) (gait : Bool) : State :=
  match (s.chan n).slotOf 1 g with
  | none => if gait && (s.chan n).steps.contains g then s.sweptWrite n g i else s.bumpLeaf n g i
  | some r =>
    if !gait || r.done.getLsbD i then s.bumpLeaf n g i
    else
      let l := s.leaf n g
      ((s.setLeaf n g { l with minors := SMap.put l.minors 0 i 1 }).soil n 1 g).markDone n g i

/-! ### Reading granules (R238) -/

/-- Is channel `n` under an on-demand run, so that accesses to its pages wait (R462)? A save or restore holds tokens too, and tests none. -/
def State.testing (s : State) (n : Nat) : Bool := (s.chan n).token == some .bist && s.bist.span.isNone

/-- Is a page to be re-initialised, once the token is free? Its old contents are out of reach at once (R253, R471). -/
def Chan.awaitsReinit (c : Chan) (g : Nat) : Bool :=
  c.rebuilds.any fun e => e.level == 1 && e.index == g && !e.retire && !e.byHost && !e.triage

/-- The counters of the page of granule `start` are used; an access that is no gait access waits while a slot of the page is open (R269),
the page is to be re-initialised (R253) or the channel is being tested (R462). -/
def State.visit (s : State) (start : Nat) : State :=
  let n := s.chOf start
  let g := s.pageOf start
  let s := (s.wakeSlots [0x20 + n]).touch n g
  if ((s.chan n).slotOf 1 g).isSome || (s.chan n).steps.contains g || (s.chan n).awaitsReinit g || s.testing n then s.noteStall else s

/-- Count a read of granule `start` (R238, R257): a stored-poison granule, and one that has failed, which fails again. -/
def State.countRead (s : State) (start : Nat) : State :=
  let n := s.chOf start
  let p := Page.mch n
  let s := (s.wrPair p Reg.MCHn_RD_LO.COUNT Reg.MCHn_RD_HI.COUNT
    (s.rdPair p Reg.MCHn_RD_LO.COUNT Reg.MCHn_RD_HI.COUNT + 1)).visit start
  if s.extentPoisoned n (s.pageOf start) then s
  else if s.mem.failed.contains start then
    (s.inc p Reg.MCHn_TAG_FAIL.COUNT).err p Err.mch.TAG_FAIL { place := start, placeKind := 1 }
  else if s.mem.poison.contains start then
    (s.inc p Reg.MCHn_POISON_RD.COUNT).err p Err.mch.POISON_RD { place := start, placeKind := 1 }
  else s

/-- Read a range of physical local offsets: the bytes, the poison of their 16-byte units, the state after (R238). -/
def State.readPhys (s : State) (off len : Nat) : List Byte × Nat × State :=
  let s := ((s.granules off len).foldl State.countRead s).cnt 0 len
  (s.bytesAt off len, s.poisonMask off len, s)

/-! ### Writing granules (R237, R239) -/

/-- Is byte `i` of a write written: always, or under a byte mask (R484)? -/
def strobed (strb : Option Nat) (i : Nat) : Bool :=
  match strb with
  | none => true
  | some m => bit m i

/-- Does a write fill granule `start`: every byte of it lies in the range and is written? -/
def State.wholeGran (s : State) (start off len : Nat) (strb : Option Nat) : Bool :=
  off ≤ start && start + s.granSize start ≤ off + len &&
    (strb.isNone || (List.range (s.granSize start)).all fun i => strobed strb (start - off + i))

/-- The granules of which a write writes a byte. -/
def State.writtenGrans (s : State) (off len : Nat) (strb : Option Nat) : List Nat :=
  match strb with
  | none => s.granules off len
  | some m => (s.granules off len).filter fun g =>
      (List.range len).any fun i => bit m i && g ≤ off + i && off + i < g + s.granSize g

/-- What comes before a write: the counters are used, and a granule that it does not fill is read for the merge (R239). -/
def State.prepWrite (s : State) (off len : Nat) (strb : Option Nat) : State :=
  (s.writtenGrans off len strb).foldl (fun s g => if s.wholeGran g off len strb then s.visit g else s.countRead g) s

/-- Is a write of the range refused for poison (R237, R274)? -/
def State.writeRefused (s : State) (off len : Nat) (strb : Option Nat := none) : Bool :=
  (s.writtenGrans off len strb).any fun g =>
    s.extentPoisoned (s.chOf g) (s.pageOf g) || (!(s.wholeGran g off len strb) && s.granPoisoned g)

/-- Index of the granule within its page (R234). -/
def State.granIndex (s : State) (start : Nat) : Nat := start % 4096 / s.granSize start

/-- Count and mark the write of granule `start`. `units`: which 16-byte units the write poisons. -/
def State.writeGran (start off len : Nat) (strb : Option Nat) (units : Nat → Bool) (gait : Bool) (s : State) : State :=
  let n := s.chOf start
  let s := s.raiseMinor n (s.pageOf start) (s.granIndex start) gait
  let p := Page.mch n
  let s := s.wrPair p Reg.MCHn_WR_LO.COUNT Reg.MCHn_WR_HI.COUNT (s.rdPair p Reg.MCHn_WR_LO.COUNT Reg.MCHn_WR_HI.COUNT + 1)
  let s := if s.wholeGran start off len strb then s else s.inc p Reg.MCHn_MERGE.COUNT
  let s := { s with mem := { s.mem with written := insertUp s.mem.written (start / 4096) } }
  let dirty := (List.range (s.granSize start / 16)).any fun k => units (start / 16 + k)
  if dirty then s.poisonGran start else s.cleanGran start

/-- Store bytes under a byte mask: a byte that is not written keeps its value (R484). -/
def State.merged (s : State) (off : Nat) (data : List Byte) (strb : Option Nat) : List Byte :=
  match strb with
  | none => data
  | some m => (data.zipIdx).map fun e => if bit m e.2 then e.1 else SMap.getD s.mem.bytes 0 (off + e.2)

/-- Write bytes to a range of physical local offsets, with the poison mask of their units. `false`: refused for poison, or a gait write that
finds no slot, or would pass the last MAJOR, and is not performed; memory is unchanged (R237, R239, R269, R271, R274). -/
def State.writePhys (s : State) (off : Nat) (data : List Byte) (poison : Nat) (gait : Bool) (strb : Option Nat := none) : Bool × State :=
  let len := data.length
  let s := if gait then s.calm else s
  let t := s.prepWrite off len strb
  if t.writeRefused off len strb then (false, t) else
  let units := fun u => bit poison (u - off / 16) && off / 16 ≤ u
  let r := (t.writtenGrans off len strb).foldl (fun s g => State.writeGran g off len strb units gait s) t
  if gait && r.mem.noSlot then (false, t.err (Page.mch (s.chOf off)) Err.mch.REENC_SHORT { place := off, placeKind := 1 })
  else (true, (r.putBytes off (t.merged off data strb)).cnt 1 len)

/-- Must an access to a range of physical local offsets that is no gait access wait (R269, R271): for a slot of its page to close, for a free
slot, or for the end zone? -/
def State.physHeld (s : State) (off len : Nat) (write : Bool) : Bool :=
  (if write then (s.calm.writePhys off (List.replicate len 0) 0 false).2 else (s.calm.readPhys off len).2.2).blocked

/-! ### Rebuild and retire -/

/-- MAJOR of a fresh block, above the mark of the key in force for it (R265, R275). -/
def State.freshMajor (s : State) (n : Nat) (next : Bool) : Nat := (if next then (s.chan n).hwmNext else (s.chan n).hwm) + 1

/-- The queued re-encryption of a block is dropped. -/
def State.dropReenc (s : State) (n level index : Nat) : State :=
  let c := s.chan n
  s.setChan n { c with reencQueue := c.reencQueue.filter fun r => r.level != level || r.index != index }

/-- A block is written to the stack: its parents are fetched first (R265, R267). -/
def State.storeBlock (s : State) (n level index : Nat) : State := (s.walkTo n (level + 1) (index / 64)).cleanBlock n level index

/-- Page `g` of channel `n` reads as zeros again: a fresh leaf under the key in force, which is written (R241, R265, R271, R275). -/
def State.rebuildPage (s : State) (n g : Nat) : State :=
  let off := s.pageAt n g
  let major := s.freshMajor n (s.underNext n g)
  let s := ((((s.setLeaf n g { major := major, minors := [] }).dropReenc n 1 g).raiseHwm n g major).storeBlock n 1 g).endZoneCheck n major
  { s with mem := { s.mem with
      bytes := SMap.dropRange s.mem.bytes off (off + 4096)
      poison := s.mem.poison.filter fun a => a < off || off + 4096 ≤ a
      failed := s.mem.failed.filter fun a => a < off || off + 4096 ≤ a
      written := s.mem.written.filter (· != off / 4096) } }

/-- Block `j` of level `k ≥ 2` is replaced by a fresh one (R271, R275). -/
def State.freshUpper (s : State) (n k j : Nat) : State :=
  let major := s.freshMajor n (s.upperNext n k j)
  ((((s.setUpper n k j { major := major, minors := [] }).dropReenc n k j).raiseUpper n k j major).walkTo n k j).endZoneCheck n major

/-- Blocks of level `k + 1` of a channel of `p` pages. -/
def levelBlocks : Nat → Nat → Nat
  | 0, p => p
  | k + 1, p => (levelBlocks k p + 63) / 64

/-- The blocks of level `k` in the extent of block `index` of `level`, of those that the channel has. -/
def State.extentBlocks (s : State) (n level index k : Nat) : List Nat :=
  ((List.range (64 ^ (level - k))).map (· + index * 64 ^ (level - k))).filter (· < levelBlocks (k - 1) (s.chan n).capPages)

/-- Remove the poison-list entries whose extent lies in the extent of a block (R274). -/
def State.unpoison (s : State) (n level index : Nat) : State :=
  let c := s.chan n
  if c.psn.isEmpty then s else
  (s.setChan n { c with psn := c.psn.filter fun e =>
    !(e.2.1 ≤ level && e.2.2.1 / 64 ^ (level - e.2.1) == index) }).showPsn n

/-- Rebuild the extent of a block (R275): the block and its descendants, from the top down, are replaced by fresh ones, and every fresh block is
written, leaves first. -/
def State.rebuildExtent (s : State) (n level index : Nat) : State :=
  let inner := (List.range (level - 1)).map (· + 2)
  let s := inner.reverse.foldl (fun s k => (s.extentBlocks n level index k).foldl (fun s j => s.freshUpper n k j) s) (s.unpoison n level index)
  let s := (s.extentBlocks n level index 1).foldl (fun s g => s.rebuildPage n g) s
  inner.foldl (fun s k => (s.extentBlocks n level index k).foldl (fun s j => s.storeBlock n k j) s) s

/-- Store every granule of page `g` poisoned with minor 1 (R275). -/
def State.poisonPage (s : State) (n g : Nat) : State :=
  let off := s.pageAt n g
  let size := s.granSize off
  let k := 4096 / size
  let s := (List.range k).foldl (fun s i => s.poisonGran (off + i * size)) (s.walkTo n 1 g)
  (s.setLeaf n g { s.leaf n g with minors := (List.range k).map fun i => (i, 1) }).soil n 1 g

/-- Retire the extent of a block: rebuild it, then store every granule of its usable pages poisoned (R275). -/
def State.retireExtent (s : State) (n level index : Nat) : State :=
  ((s.extentBlocks n level index 1).filter (· < s.mem.usable)).foldl (fun s g => s.poisonPage n g) (s.rebuildExtent n level index)

/-- Is a re-encryption slot of a block of the extent open, or a page step's slot of one of its pages? -/
def State.extentOpen (s : State) (n level index : Nat) : Bool :=
  ((s.chan n).reenc.any fun r => r.level ≤ level && r.index / 64 ^ (level - r.level) == index) || (s.chan n).steps.any (covers level index)

/-- Must a rebuild wait: for an open slot of its blocks (R275), or because a mark that its fresh blocks would pass is in the end zone (R271)? -/
def State.rebuildHeld (s : State) (n level index : Nat) : Bool :=
  let c := s.chan n
  let next := if level ≤ 1 then s.underNext n index else s.upperNext n level index
  s.extentOpen n level index || (!next && endZone ≤ c.hwm) || (s.underNext n (index * 64 ^ (level - 1)) && endZone ≤ c.hwmNext)

/-- May a rebuild take the channel's token now (R471, R472, R476)? -/
def State.tokenFree (s : State) (n : Nat) : Bool := (s.chan n).token.isNone && (s.chan n).tokenWait.isEmpty && s.mrOn

/-- Re-initialise page `g` of a channel: its leaf is rebuilt, and the poison list no longer names the page. A rebuild that must wait, for the
token too, holds up what asks for it, and stands on the channel's rebuild list where that cannot wait (R271, R274, R275, R471). -/
def State.reinitPage (s : State) (n g : Nat) : State :=
  if s.rebuildHeld n 1 g || !s.tokenFree n then s.noteStall.addRebuild n { level := 1, index := g, retire := false, byHost := false, triage := false }
  else (s.unpoison n 1 g).rebuildPage n g

/-- Re-initialise a range of local offsets: rebuild the leaves of its pages (R252, R275). -/
def State.reinit (s : State) (off len : Nat) : State :=
  ((List.range (len / 4096)).map (· + off / 4096)).foldl (fun s p => s.reinitPage (s.chOf (p * 4096)) (s.pageOf (p * 4096))) s

end Sys2Proof.Machine
end

