-- ==== Sys2Proof/Machine/Rat.lean ====
section
/-! DEFINITION. The region attribute table: its fields (R246), the checks of a write (R247), the check of an access (R248), the
sealed rules (R252), the transactional map (R251), and the ownership token (R200). -/

namespace Sys2Proof.Machine

/-! ### Fields -/

def RatEntry.valid (e : RatEntry) : Bool := bit e.w0.toNat 0
def RatEntry.tx (e : RatEntry) : Bool := bit e.w0.toNat 1
def RatEntry.sealed (e : RatEntry) : Bool := bit e.w0.toNat 2
/-- 0 NONE, 1 FILLING, 2 SEALED, 3 FAILED. -/
def RatEntry.sealState (e : RatEntry) : Nat := bits e.w0.toNat 3 2
def RatEntry.owner (e : RatEntry) : Nat := bits e.w0.toNat 5 7
def RatEntry.share (e : RatEntry) : Nat := bits e.w0.toNat 12 10
def RatEntry.model (e : RatEntry) : Nat := bits e.w0.toNat 22 16
/-- First byte. -/
def RatEntry.base (e : RatEntry) : Nat := bits e.w1.toNat 0 24 * 2 ^ 21
/-- Units of 2 MiB. -/
def RatEntry.size2m (e : RatEntry) : Nat := bits e.w1.toNat 24 24
/-- Size in bytes. -/
def RatEntry.size (e : RatEntry) : Nat := e.size2m * 2 ^ 21
/-- Does class `c` have right `k`: 0 read, 1 write, 2 atomic? -/
def RatEntry.grants (e : RatEntry) (c k : Nat) : Bool := bit (bits e.w2.toNat 0 21) (3 * c + k)
/-- A reserved bit is set. -/
def RatEntry.reservedSet (e : RatEntry) : Bool :=
  bits e.w0.toNat 38 26 != 0 || bits e.w1.toNat 48 16 != 0 || bits e.w2.toNat 21 43 != 0 || e.w3.toNat != 0
/-- Do the ranges of two entries meet? -/
def RatEntry.meets (a b : RatEntry) : Bool := a.base < b.base + b.size && b.base < a.base + a.size
/-- The entry with SEALED, SEAL_STATE and MODEL_ID set (R252). -/
def RatEntry.withSeal (e : RatEntry) (sealed : Bool) (state model : Nat) : RatEntry :=
  { e with w0 := BitVec.ofNat 64 (e.w0.toNat - b2n e.sealed * 2 ^ 2 - e.sealState * 2 ^ 3 - e.model * 2 ^ 22
                                  + b2n sealed * 2 ^ 2 + state % 4 * 2 ^ 3 + model % 2 ^ 16 * 2 ^ 22) }

/-- Entry `n`. -/
def State.ratAt (s : State) (n : Nat) : RatEntry := SMap.getD s.mem.rat RatEntry.zero n

/-- Store entry `n`. -/
def State.setRat (s : State) (n : Nat) (e : RatEntry) : State :=
  { s with mem := { s.mem with rat := SMap.put s.mem.rat RatEntry.zero n e } }

/-- The valid entry that contains a local offset. -/
def State.ratFind (s : State) (off : Nat) : Option (Nat × RatEntry) :=
  s.mem.rat.find? fun e => e.2.valid && e.2.base ≤ off && off < e.2.base + e.2.size

/-- The one valid entry that contains a whole range. -/
def State.ratWhole (s : State) (off len : Nat) : Option (Nat × RatEntry) :=
  s.mem.rat.find? fun e => e.2.valid && e.2.base ≤ off && off + len ≤ e.2.base + e.2.size

/-! ### Functions -/

/-- VSTATE of VF `n` (R359): 0 OFF, 1 LIVE, 2 QUIESCING, 3 QUIESCED, 4 FLR_HELD, 5 FLR_RESET. -/
def State.vstate (s : State) (n : Nat) : Nat := s.rd (Page.vf n) Reg.VF_STATUS.VSTATE

/-- What is kept of function `n` beyond its page. -/
def State.fnOf (s : State) (n : Nat) : Fn := SMap.getD s.fns Fn.empty n

/-- Set it. -/
def State.setFn (s : State) (n : Nat) (f : Fn) : State := { s with fns := SMap.put s.fns Fn.empty n f }

/-- The VFs that are not OFF, lowest first. -/
def State.liveVfs (s : State) : List Nat := (s.fns.filter fun e => e.2.provisioned).map Prod.fst

/-- Units of 2 MiB of the entries a function owns, entry `skip` apart (R353). -/
def State.memUse (s : State) (fn skip : Nat) : Nat :=
  ((s.mem.rat.filter fun e => e.2.valid && e.2.owner == fn && e.1 != skip).map fun e => e.2.size2m).foldl (· + ·) 0

/-! ### Writing an entry -/

/-- The code with which a write of entry `n` is refused, 0 when it is accepted (R247, R353). `release`: an invalidation may be the release of a
sealed entry, which RAT_SET asks for and RAT_CMD.WRITE does not (R253). -/
def State.ratCode (s : State) (n : Nat) (e : RatEntry) (release : Bool) : Nat :=
  let old := s.ratAt n
  if !e.valid then
    if e.reservedSet then 0x01
    else if e.sealed || e.sealState != 0 then 0x06
    else if old.sealed && (!release || old.sealState == 1) then 0x06
    else if n > 255 then 0x0A
    else 0
  else if e.reservedSet then 0x01
  else if e.size2m = 0 ∨ (e.tx ∧ e.size2m % 2 = 1) then 0x02
  else if e.base + e.size > s.capacity then 0x03
  else if s.mem.rat.any (fun x => x.1 != n && x.2.valid && x.2.meets e) then 0x04
  else if (s.pageOf e.base < s.mem.line) != (s.pageOf (e.base + e.size - 1) < s.mem.line) then 0x05
  else if e.sealed || e.sealState != 0 || old.sealed then 0x06
  else if e.owner != 0 && (!((s.fnOf e.owner).provisioned) ||
      s.memUse e.owner n + e.size2m > s.rd (Page.vf e.owner) Reg.VFn_MEM_2M.UNITS) then 0x07
  else if old.valid && (old.tx != e.tx || old.base != e.base || old.size2m != e.size2m) then 0x08
  else if n > 255 then 0x0A
  else 0

/-- A write was refused: code and report (R247, R353). -/
def State.ratRefuse (s : State) (e : RatEntry) (code : Nat) : State :=
  let s := (s.wr (Page.mch 0) Reg.RAT_STATUS.CODE code).err (Page.mch 0) Err.mch.RAT_REFUSED { detail := code }
  if code = 0x07 ∧ e.owner ≠ 0 then
    (s.inc (Page.vf e.owner) Reg.VFn_QUOTA_REFUSE.COUNT).err (Page.vf e.owner) Err.vf.QUOTA { fn := e.owner } else s

/-- Show VFn_USE_MEM_2M of every provisioned VF (R362). -/
def State.showMemUse (s : State) : State :=
  s.liveVfs.foldl (fun s n => s.wr (Page.vf n) Reg.VFn_USE_MEM_2M.UNITS (s.memUse n 256)) s

/-- A function's TDI learns of an accepted write that names it as OWNER_FN; an invalidation's OWNER_FN is ignored (R247, R391). -/
def RatEntry.names (e : RatEntry) : Nat := if e.valid then e.owner else 0

/-- Store an accepted write: an invalidation clears all four words; a release re-initialises the region (R247, R252, R253). DONE
waits for R250. -/
def State.ratStore (s : State) (n : Nat) (e : RatEntry) (pkt : Option Nat) : State :=
  let old := s.ratAt n
  let s := (s.wr (Page.mch 0) Reg.RAT_STATUS.CODE 0).wr (Page.mch 0) Reg.RAT_STATUS.DONE 0
  let s := if !e.valid && old.sealed then s.reinit old.base old.size else s
  let s := s.setRat n (if e.valid then e else RatEntry.zero)
  let s := { s with mem := { s.mem with ratPending := s.mem.ratPending ++ [(n, pkt)] } }
  s.showMemUse

/-! ### Checking an access -/

/-- Who accesses memory (R248): class, function, context, share and rank of a remote request, the model a context is bound to. -/
structure Master where
  cls : Nat
  fn : Nat := 0
  ctx : Nat := 0
  share : Nat := 0
  rank : Nat := 0
  model : Option Nat := none
  deriving DecidableEq, Repr

/-- Step 3 of R248 for an unsealed entry: right and identity. `k`: 0 read, 1 write, 2 atomic. -/
def State.step3 (s : State) (m : Master) (k : Nat) (e : RatEntry) : Bool :=
  e.grants m.cls k &&
  match m.cls with
  | 0 => m.fn == e.owner
  | 2 => m.fn == e.owner
  | 4 => !s.rdb Page.key Reg.KEY_STATUS.CONF
  | 5 => m.share == e.share && e.share != 0
  | _ => true

/-- Step 4 of R248: the sealed rules (R252). -/
def sealAllows (m : Master) (k : Nat) (e : RatEntry) : Bool :=
  match e.sealState with
  | 0 => true
  | 2 => k == 0 && m.cls == 0 && m.model == some e.model && m.fn == e.owner && e.grants 0 0
  | _ => false

/-- Is a rank in a slot of the herd (R195)? -/
def State.herdRank (s : State) (slot : Nat) : Nat :=
  if slot % 2 = 0 then s.rd Page.coh Reg.COH_MEMBERj.RANK_A (slot / 2) else s.rd Page.coh Reg.COH_MEMBERj.RANK_B (slot / 2)

/-- The slot of a rank in the enabled herd. -/
def State.herdSlot (s : State) (rank : Nat) : Option Nat :=
  if !s.rdb Page.coh Reg.COH_STATUS.ACTIVE then none else
  (List.range (min 8 (s.rd Page.coh Reg.COH_HERD_CFG.SIZE))).find? fun k => s.herdRank k == rank

/-- Does the ownership token of entry `n` allow a remote write of a rank (R200)? -/
def State.tokenAllows (s : State) (n rank : Nat) : Bool :=
  !s.rdb Page.gw Reg.GW_TOKENn.EN n || s.rd Page.gw Reg.GW_TOKENn.OWNER n == rank || (s.herdSlot rank).isSome

/-- The failing step of R248 at one offset, with the entry when one was found; none when the access is allowed. -/
def State.checkAt (s : State) (m : Master) (k off : Nat) : Option (Nat × Nat) :=
  if off ≥ s.capacity then some (1, 0) else
  match s.ratFind off with
  | none => some (2, 0)
  | some (n, e) =>
    if e.sealState = 0 && !s.step3 m k e then some (3, n)
    else if !sealAllows m k e then some (4, n)
    else if m.cls = 5 && k != 0 && !s.tokenAllows n m.rank then some (5, n)
    else none

/-- The physical offset of an allowed access (R251). -/
def State.mapTx (s : State) (k off : Nat) : Nat :=
  match s.ratFind off with
  | none => off
  | some (_, e) =>
    if !e.tx then off else
    let half := e.size / 2
    let w := (off - e.base) % half
    let work := if s.sync.step % 2 = 0 then e.base else e.base + half
    let seen := if s.sync.step % 2 = 0 then e.base + half else e.base
    if off < e.base + half ∧ k = 0 then seen + w else work + w

/-- Is the offset in a transactional entry? -/
def State.isTx (s : State) (off : Nat) : Bool := ((s.ratFind off).map fun e => e.2.tx).getD false

/-- A range cut at 2 MiB boundaries, so that no piece spans two entries or two halves: first byte and length. -/
def pieces (off len : Nat) : List (Nat × Nat) :=
  if len = 0 then [] else
  (List.range ((off + len - 1) / 2 ^ 21 - off / 2 ^ 21 + 1)).map fun i =>
    let a := if i = 0 then off else (off / 2 ^ 21 + i) * 2 ^ 21
    (a, min (off + len) ((off / 2 ^ 21 + i + 1) * 2 ^ 21) - a)

/-- The first failing step over a range. -/
def State.checkRange (s : State) (m : Master) (k off len : Nat) : Option (Nat × Nat) :=
  (pieces off len).findSome? fun p => s.checkAt m k p.1

/-- Count and record a refusal (R249); the reaction of class 0 is the context's (Access.lean). -/
def State.countRefusal (s : State) (m : Master) (k step entry off : Nat) : State :=
  let p := Page.mch 0
  let s := (((((s.inc p Reg.RAT_REFUSE_COUNT.COUNT).wr p Reg.RAT_LAST_REFUSE.CLASS m.cls).wr p Reg.RAT_LAST_REFUSE.KIND k).wr p
    Reg.RAT_LAST_REFUSE.STEP step).wr p Reg.RAT_LAST_REFUSE.ENTRY (if step > 2 then entry else 0)).wr p
    Reg.RAT_LAST_REFUSE.CTX (if m.cls = 0 then m.ctx else 0)
  if m.cls = 0 then s.report p Err.mch.RIGHTS 2 { ctx := some m.ctx, fn := m.fn, place := off, placeKind := 1, detail := step }
  else s.report p Err.mch.RIGHTS 0 { fn := m.fn, place := off, placeKind := 1, detail := step }

/-- R186 status of a failing step. -/
def stepStatus (step : Nat) : Nat := if step = 1 then 0x01 else if step = 5 then 0x03 else 0x02

/-- Must an allowed access of kind `k` wait for a re-encryption, a page step or the end zone (R269, R271)? -/
def State.rangeHeld (s : State) (k off len : Nat) : Bool := (pieces off len).any fun p => s.physHeld (s.mapTx k p.1) p.2 (k != 0)

/-- Read an allowed range: bytes, poison mask, state. -/
def State.readRange (s : State) (k off len : Nat) : List Byte × Nat × State :=
  (pieces off len).foldl (fun r p =>
    let x := r.2.2.readPhys (r.2.2.mapTx k p.1) p.2
    (r.1 ++ x.1, r.2.1 + x.2.1 * 2 ^ (p.1 / 16 - off / 16), x.2.2)) ([], 0, s)

/-- Write an allowed range under a byte mask; `false` when a piece was refused for poison, or a gait write was not performed. -/
def State.writeRange (s : State) (k off : Nat) (data : List Byte) (poison : Nat) (gait : Bool) (strb : Option Nat := none) : Bool × State :=
  let cut := fun (p : Nat × Nat) => strb.map fun m => m / 2 ^ (p.1 - off)
  let ps := pieces off data.length
  let t := ps.foldl (fun s p => s.prepWrite (s.mapTx k p.1) p.2 (cut p)) s
  if ps.any (fun p => t.writeRefused (t.mapTx k p.1) p.2 (cut p)) then (false, t) else
  ps.foldl (fun r p =>
    let x := r.2.writePhys (r.2.mapTx k p.1) (slice data (p.1 - off) p.2) (poison / 2 ^ (p.1 / 16 - off / 16)) gait (cut p)
    (r.1 && x.1, x.2)) (true, s)

end Sys2Proof.Machine
end

