-- ==== Sys2Proof/Machine/Objects.lean ====
section
/-! DEFINITION. Shared objects as the other families use them: queues and packets, the object tables and their checks (R325 to
R327), contexts and their slots (R328 to R330), fences (R337 to R342), memory objects (R331 to R334), a lost context (R347), and
the counters of R343. -/

namespace Sys2Proof.Machine

/-! ### Packets and queues -/

/-- A field of a packet: `n` bytes from byte `off`. -/
def Pkt.f (p : Pkt) (off n : Nat) : Nat := ofLe (slice p.bytes off n)

/-- The header (R299). -/
def Pkt.hdr (p : Pkt) : Nat := p.f 0 8
def Pkt.opcode (p : Pkt) : Nat := bits p.hdr 0 8
def Pkt.pver (p : Pkt) : Nat := bits p.hdr 8 4
def Pkt.xslots (p : Pkt) : Nat := bits p.hdr 12 3
def Pkt.barrier (p : Pkt) : Bool := bit p.hdr 15
def Pkt.cplEn (p : Pkt) : Bool := bit p.hdr 16
def Pkt.irq (p : Pkt) : Bool := bit p.hdr 17
def Pkt.cplFence (p : Pkt) : Nat := bits p.hdr 32 16
def Pkt.cplInc (p : Pkt) : Nat := bits p.hdr 48 16

/-- Queue `q`. -/
def State.queue (s : State) (q : Nat) : Queue := SMap.getD s.front.queues Queue.absent q

/-- Set queue `q`. -/
def State.setQueue (s : State) (q : Nat) (x : Queue) : State :=
  { s with front := { s.front with queues := SMap.put s.front.queues Queue.absent q x } }

/-- The packet in store entry `p`. -/
def State.pkt (s : State) (p : Nat) : Option Pkt := SMap.find? s.front.pkts p

/-- Set it. -/
def State.setPkt (s : State) (p : Nat) (x : Pkt) : State :=
  { s with front := { s.front with pkts := SMap.set s.front.pkts p x } }

/-- Change it, when it is there. -/
def State.modPkt (s : State) (p : Nat) (f : Pkt → Pkt) : State :=
  match s.pkt p with
  | some x => s.setPkt p (f x)
  | none => s

/-- The stored packets of queue `q`, with their entries. -/
def State.pktsOf (s : State) (q : Nat) : List (Nat × Pkt) := s.front.pkts.filter fun e => e.2.queue == q

/-- The place of a packet in its queue's order: a graph's packets stand at their GRAPH_RUN's place (R336). -/
def pktKey (e : Nat × Pkt) : Nat := (e.2.graph.getD e.1) * 8192 + (if e.2.graph.isSome then e.2.graphPos + 1 else 0)

/-- The queue's context. -/
def State.pktCtx (s : State) (p : Pkt) : Nat := (s.queue p.queue).ctx

/-- The packet ends with a status: the end word goes from NONE to DONE, and loses against an earlier abort (R345). -/
def State.finish (s : State) (p status : Nat) (detail flags : Nat := 0) : State :=
  s.modPkt p fun x => if x.ended = .none then { x with ended := .done, result := some status, detail := detail, flags := flags } else x

/-- The packet is aborted with a status: the end word goes from NONE to ABORTED (R345). -/
def State.abortPkt (s : State) (p status : Nat) (detail : Nat := 0) : State :=
  s.modPkt p fun x => if x.ended = .none then { x with ended := .aborted, result := some status, detail := detail } else x

/-- Statuses of R303. -/
abbrev St.OK : Nat := 0x00
abbrev St.BAD_ADDRESS : Nat := 0x01
abbrev St.RIGHTS : Nat := 0x02
abbrev St.POISON : Nat := 0x04
abbrev St.UNSUPPORTED : Nat := 0x05
abbrev St.ALIGN : Nat := 0x06
abbrev St.BUSY : Nat := 0x07
abbrev St.NO_RESPONSE : Nat := 0x08
abbrev St.BAD_HANDLE : Nat := 0x16
abbrev St.REFUSED : Nat := 0x17
abbrev St.CANCELLED : Nat := 0x18
abbrev St.FENCE_ERROR : Nat := 0x19
abbrev St.TIMEOUT : Nat := 0x1A
abbrev St.WATCHDOG : Nat := 0x1B
abbrev St.FAULT : Nat := 0x1C
abbrev St.CTX_LOST : Nat := 0x1D
abbrev St.QUOTA : Nat := 0x1E

/-! ### Ranges of functions (R326, R353) -/

/-- The kinds of handle that R353 divides between functions. -/
inductive HKind where
  | queue | ctx | fence | obj | share
  deriving DecidableEq, Repr

/-- First number and count of a VF's range. -/
def State.vfRange (s : State) (n : Nat) (k : HKind) : Nat × Nat :=
  let p := Page.vf n
  match k with
  | .queue => (s.rd p Reg.VFn_QUEUES.QBASE, s.rd p Reg.VFn_QUEUES.QCOUNT)
  | .ctx => (s.rd p Reg.VFn_CTXS.BASE, s.rd p Reg.VFn_CTXS.COUNT)
  | .fence => (s.rd p Reg.VFn_FENCES.BASE, s.rd p Reg.VFn_FENCES.COUNT)
  | .obj => (s.rd p Reg.VFn_OBJ_BASE.BASE, s.rd p Reg.VFn_OBJ_COUNT.COUNT)
  | .share => (s.rd p Reg.VFn_SHARES.BASE, s.rd p Reg.VFn_SHARES.COUNT)

/-- Does a number lie in a range? -/
def inRange (r : Nat × Nat) (h : Nat) : Bool := r.1 ≤ h && h < r.1 + r.2

/-- Is number `h` of kind `k` function `fn`'s? The PF owns what lies outside the ranges of the VFs that are not OFF. -/
def State.owns (s : State) (fn : Nat) (k : HKind) (h : Nat) : Bool :=
  if fn = 0 then s.liveVfs.all fun n => !inRange (s.vfRange n k) h
  else (s.fnOf fn).provisioned && inRange (s.vfRange fn k) h

/-! ### The tables -/

/-- Bases of the tables (R325). -/
def State.ctxTbl (s : State) : Nat := s.rdPair Page.ctxs Reg.CTXS_TBL_LO.ADDR Reg.CTXS_TBL_HI.ADDR
def State.objTbl (s : State) : Nat := s.rdPair Page.ctxs Reg.OBJ_TBL_LO.ADDR Reg.OBJ_TBL_HI.ADDR
def State.fenceTbl (s : State) : Nat := s.rdPair Page.fns Reg.FNS_TBL_LO.ADDR Reg.FNS_TBL_HI.ADDR

/-- Does a table lie within one RAT entry that meets the conditions of R325? -/
def State.tableOk (s : State) (base size : Nat) : Bool :=
  base + size ≤ s.capacity &&
  match s.ratWhole base size with
  | none => false
  | some (_, e) =>
    e.owner == 0 && e.sealState == 0 && e.grants 6 0 && e.grants 6 1 && e.grants 1 0 && e.grants 1 2 &&
    [0, 2, 3, 4, 5].all fun c => !e.grants c 1 && !e.grants c 2

/-- Are all three bases set (R325)? -/
def State.tablesSet (s : State) : Bool :=
  s.objs.ctxBaseSet && s.objs.objBaseSet && s.objs.fenceBaseSet && s.tableOk s.ctxTbl (4096 * 256)
    && s.tableOk s.objTbl (262144 * 64) && s.tableOk s.fenceTbl (65536 * 32)

/-- A 64-bit word of a table. -/
def State.tw (s : State) (off : Nat) : Nat := s.word off 8

/-- Store little-endian bytes with maintenance rights. -/
def State.putW (s : State) (off v n : Nat) : State := (s.writePhys off (leBytes n v) 0 false).2

/-- Clear a descriptor. -/
def State.clearAt (s : State) (off n : Nat) : State := (s.writePhys off (List.replicate n 0) 0 false).2

/-- Handles whose descriptors are not all zero. -/
def State.handlesIn (s : State) (base n esz : Nat) : List Nat :=
  (((s.mem.bytes.filter fun e => base ≤ e.1 && e.1 < base + n * esz).map fun e => (e.1 - base) / esz)).eraseDups

/-! ### Contexts -/

/-- Word `w` of context `c`. -/
def State.ctxOff (s : State) (c w : Nat) : Nat := s.ctxTbl + 256 * (c % 4096) + 8 * w
def State.ctxW (s : State) (c w : Nat) : Nat := s.tw (s.ctxOff c w)
/-- VALID; no context exists before its table's base is set (R325). -/
def State.ctxValid (s : State) (c : Nat) : Bool := s.objs.ctxBaseSet && bit (s.ctxW c 0) 0
def State.ctxLostBit (s : State) (c : Nat) : Bool := bit (s.ctxW c 0) 1
def State.ctxFn (s : State) (c : Nat) : Nat := bits (s.ctxW c 0) 2 7
def State.ctxShare (s : State) (c : Nat) : Nat := bits (s.ctxW c 0) 9 10
/-- The model the context is bound to. -/
def State.ctxModel (s : State) (c : Nat) : Option Nat :=
  if bit (s.ctxW c 0) 19 then some (bits (s.ctxW c 0) 20 16) else none
def State.ctxDying (s : State) (c : Nat) : Bool := bit (s.ctxW c 0) 44
/-- QUEUES, FENCES, OBJECTS. -/
def State.ctxQueues (s : State) (c : Nat) : Nat := bits (s.ctxW c 1) 0 32
def State.ctxFences (s : State) (c : Nat) : Nat := bits (s.ctxW c 1) 32 32
def State.ctxObjects (s : State) (c : Nat) : Nat := bits (s.ctxW c 2) 0 32

/-- The check of R327 on a context descriptor. -/
def State.ctxChecked (s : State) (fn c : Nat) : Bool :=
  s.ctxValid c && s.ctxFn c == fn && bits (s.ctxW c 0) 45 19 == 0 && s.ctxShare c != 0 && bits (s.ctxW c 2) 32 32 == 0
    && ([3, 4, 5, 6, 7] ++ (List.range 10).map (· + 22)).all (fun w => s.ctxW c w == 0)
    && ((s.granules (s.ctxOff c 0) 256).all fun g => !s.granPoisoned g)

/-- May function `fn` use context `c`: it exists, passes R327 and is not DYING (R326, R329). -/
def State.ctxUsable (s : State) (fn c : Nat) : Bool :=
  c < 4096 && s.owns fn .ctx c && s.ctxChecked fn c && !s.ctxDying c

/-- Change C1 or C2 counts: QUEUES, FENCES, OBJECTS by a signed amount. -/
def State.ctxCount (s : State) (c w lo : Nat) (up : Bool) : State :=
  let v := s.ctxW c w
  let n := bits v lo 32
  let n' := if up then n + 1 else n - 1
  s.putW (s.ctxOff c w) (v - n * 2 ^ lo + n' % 2 ^ 32 * 2 ^ lo) 8

/-- The master of a context's accesses (R248, class 0). A context that does not exist is no function's. -/
def State.ctxMaster (s : State) (c : Nat) : Master :=
  { cls := 0, fn := if s.ctxValid c then s.ctxFn c else 65536, ctx := c, model := s.ctxModel c }

/-- The user queues of a context that are not ABSENT. -/
def State.ctxQs (s : State) (c : Nat) : List (Nat × Queue) :=
  s.front.queues.filter fun e => !e.2.kernel && e.2.state != .absent && e.2.ctx == c

/-- Is the slot of context `c` pinned (R330)? -/
def State.ctxPinned (s : State) (c : Nat) : Bool :=
  (s.ctxQs c).any (fun e => e.2.bind == 1 || e.2.bind == 2 || (s.pktsOf e.1).any fun x => x.2.started)
    || s.front.rings.any (fun e => e.2 == c)
    || s.front.launches.any (fun e => e.2.persist && e.2.ctx == c)

/-- Write a slot's counters to C8 to C21. -/
def State.writeCtrs (s : State) (x : CtxSlot) : State :=
  (x.counters.zipIdx).foldl (fun s e => s.putW (s.ctxOff x.ctx (8 + e.2)) e.1 8) s

/-- The counters a descriptor holds. -/
def State.readCtrs (s : State) (c : Nat) : List Nat := (List.range 14).map fun k => s.ctxW c (8 + k)

/-- Load context `c` into a slot (R330): none when all 48 are pinned. -/
def State.loadCtx (s : State) (c : Nat) : Option State :=
  let n := s.objs.useNo + 1
  if s.objs.slots.any (·.ctx == c) then
    some { s with objs := { s.objs with useNo := n, slots := s.objs.slots.map fun x => if x.ctx == c then { x with used := n } else x } }
  else
    let s := s.inc Page.ctxs Reg.CTXS_WALKS.COUNT
    let new : CtxSlot := { ctx := c, counters := s.readCtrs c, used := n }
    if s.objs.slots.length < 48 then some { s with objs := { s.objs with useNo := n, slots := s.objs.slots ++ [new] } }
    else
      match (s.objs.slots.filter fun x => !s.ctxPinned x.ctx).foldl
          (fun (b : Option CtxSlot) x => match b with
            | none => some x
            | some y => if x.used < y.used then some x else some y) none with
      | none => none
      | some v =>
        let s := (s.writeCtrs v).inc Page.ctxs Reg.CTXS_EVICTS.COUNT
        some { s with objs := { s.objs with useNo := n, slots := s.objs.slots.filter (·.ctx != v.ctx) ++ [new] } }

/-- Add to counter `k` of context `c`: BUSY_NS_0 to 7 are 0 to 7, BYTES_0 to 5 are 8 to 13 (R343). -/
def State.addCtr (s : State) (c k n : Nat) : State :=
  if s.objs.slots.any (·.ctx == c) then
    { s with objs := { s.objs with slots := s.objs.slots.map fun x =>
        if x.ctx == c then { x with counters := x.counters.zipIdx.map fun e => if e.2 = k then (e.1 + n) % 2 ^ 64 else e.1 } else x } }
  else if s.ctxValid c then s.putW (s.ctxOff c (8 + k)) ((s.ctxW c (8 + k) + n) % 2 ^ 64) 8 else s

/-- Add to a figure of use of a VF's page. -/
def State.useAdd (s : State) (fn : Nat) (f : Field) (up : Bool) : State :=
  if fn = 0 then s else
  let v := s.rd (Page.vf fn) f
  s.wr (Page.vf fn) f (if up then v + 1 else v - 1)

/-! ### Fences -/

def State.fenceOff (s : State) (f w : Nat) : Nat := s.fenceTbl + 32 * (f % 65536) + 8 * w
def State.fence1 (s : State) (f : Nat) : Nat := s.tw (s.fenceOff f 1)
/-- VALID; no fence exists before its table's base is set (R325). -/
def State.fenceValid (s : State) (f : Nat) : Bool := s.objs.fenceBaseSet && bit (s.fence1 f) 0
def State.fenceCtx (s : State) (f : Nat) : Nat := bits (s.fence1 f) 10 12
def State.fenceFn (s : State) (f : Nat) : Nat := bits (s.fence1 f) 22 7
def State.fenceDying (s : State) (f : Nat) : Bool := bit (s.fence1 f) 29

/-- The slot of a resident fence. -/
def State.fenceSlot (s : State) (f : Nat) : Option FenceSlot := s.objs.fences.find? (·.fence == f)

/-- VALUE, TOKENS and error of a fence, in its slot or its descriptor. -/
def State.fenceNow (s : State) (f : Nat) : Nat × Nat × Option Nat :=
  match s.fenceSlot f with
  | some x => (x.value, x.tokens, x.err)
  | none => (s.tw (s.fenceOff f 0), bits (s.fence1 f) 30 16, if bit (s.fence1 f) 1 then some (bits (s.fence1 f) 2 8) else none)

/-- The check of R327 on a fence descriptor. -/
def State.fenceChecked (s : State) (fn f : Nat) : Bool :=
  s.fenceValid f && s.fenceFn f == fn && bits (s.fence1 f) 46 18 == 0 && s.tw (s.fenceOff f 2) == 0 && s.tw (s.fenceOff f 3) == 0
    && ((s.granules (s.fenceOff f 0) 32).all fun g => !s.granPoisoned g)

/-- A fence that function `fn` may use: it exists, passes R327 and is not DYING. -/
def State.fenceUsable (s : State) (fn f : Nat) : Bool :=
  s.owns fn .fence f && s.fenceChecked fn f && !s.fenceDying f

/-- F1 with tokens and error put in. -/
def fence1With (v tokens : Nat) (err : Option Nat) : Nat :=
  v - bits v 1 9 * 2 - bits v 30 16 * 2 ^ 30 + tokens % 2 ^ 16 * 2 ^ 30
    + (match err with
       | none => 0
       | some c => 2 + c % 256 * 4)

/-- Store VALUE, TOKENS and error of a fence. -/
def State.fencePut (s : State) (f value tokens : Nat) (err : Option Nat) : State :=
  match s.fenceSlot f with
  | some _ =>
    { s with objs := { s.objs with fences := s.objs.fences.map fun x =>
        if x.fence == f then { x with value := value, tokens := tokens, err := err } else x } }
  | none => (s.putW (s.fenceOff f 0) value 8).putW (s.fenceOff f 1) (fence1With (s.fence1 f) tokens err) 8

/-- The WAITs and TAKEs that wait on a fence, earliest start first. -/
def State.waitersOf (s : State) (f : Nat) : List Waiter := s.front.waiters.filter (·.fence == f)

/-- Remove packets from the waiters. -/
def State.dropWaiters (s : State) (ps : List Nat) : State :=
  { s with front := { s.front with waiters := s.front.waiters.filter fun w => !ps.contains w.pkt } }

/-- Release the waiters of a fence (R340). -/
def State.releaseWaiters (s : State) (f : Nat) : State :=
  let x := s.fenceNow f
  let ws := s.waitersOf f
  match x.2.2 with
  | some c => (ws.foldl (fun s w => s.finish w.pkt St.FENCE_ERROR c) s).dropWaiters (ws.map (·.pkt))
  | none =>
    let waits := ws.filter fun w => !w.take && w.value ≤ x.1
    let takes := (ws.filter fun w => w.take && w.value ≤ x.1).take x.2.1
    let s := (waits ++ takes).foldl (fun s w => s.finish w.pkt St.OK) s
    (s.dropWaiters ((waits ++ takes).map (·.pkt))).fencePut f x.1 (x.2.1 - takes.length) none

/-- Evict a fence slot: its figures go to the descriptor. -/
def State.evictFence (s : State) (f : Nat) : State :=
  let x := s.fenceNow f
  ({ s with objs := { s.objs with fences := s.objs.fences.filter (·.fence != f) } }).fencePut f x.1 x.2.1 x.2.2

/-- Load a fence into a free slot. -/
def State.fillFence (s : State) (f : Nat) : State :=
  let x := s.fenceNow f
  let n := s.objs.useNo + 1
  { s with objs := { s.objs with useNo := n, fences := s.objs.fences ++ [{ fence := f, value := x.1, tokens := x.2.1, err := x.2.2, used := n }] } }

/-- The slot of a resident fence is used. -/
def State.useFence (s : State) (f : Nat) : State :=
  let n := s.objs.useNo + 1
  { s with objs := { s.objs with useNo := n, fences := s.objs.fences.map fun x => if x.fence == f then { x with used := n } else x } }

/-- The resident fences without waiters. -/
def State.fenceVictims (s : State) : List FenceSlot := s.objs.fences.filter fun x => (s.waitersOf x.fence).isEmpty

/-- The least recently used of them. -/
def State.fenceVictim (s : State) : Option Nat :=
  (s.fenceVictims.foldl (fun (b : Option FenceSlot) x => match b with
    | none => some x
    | some y => if x.used < y.used then some x else some y) none).map (·.fence)

/-! ### Teardown (R329, R334, R338) -/

/-- Show the request that awaits host software. -/
def State.showTd (s : State) : State :=
  match s.objs.teardown with
  | [] => ((s.wr Page.ctxs Reg.CTXS_TD_PEND.VALID 0).wr Page.ctxs Reg.CTXS_TD_PEND.HANDLE 0).wr Page.ctxs Reg.CTXS_TD_PEND.KIND 0
  | (k, h) :: _ => ((s.wr Page.ctxs Reg.CTXS_TD_PEND.VALID 1).wr Page.ctxs Reg.CTXS_TD_PEND.HANDLE h).wr Page.ctxs Reg.CTXS_TD_PEND.KIND k

/-- Post a teardown to host software, behind any pending one (R334). -/
def State.postTd (s : State) (kind h : Nat) : State :=
  let first := s.objs.teardown.isEmpty
  let s := ({ s with objs := { s.objs with teardown := s.objs.teardown ++ [(kind, h)] } }).showTd
  if first then s.haPost 4 else s

/-- Free a context's descriptor. -/
def State.freeCtx (s : State) (c : Nat) : State :=
  let fn := s.ctxFn c
  let s := (s.clearAt (s.ctxOff c 0) 256).useAdd fn Reg.VFn_USE0.CTX false
  { s with objs := { s.objs with slots := s.objs.slots.filter (·.ctx != c) } }

/-- The context's teardown point (R329, step 4). -/
def State.testCtx (s : State) (c : Nat) : State :=
  if s.ctxValid c && s.ctxDying c && s.ctxFences c == 0 && s.ctxObjects c == 0 && !s.objs.teardown.contains (0, c) then
    if s.hostMode 4 then s.postTd 0 c else s.freeCtx c
  else s

/-- Free a fence's descriptor and count it off its owner. -/
def State.freeFence (s : State) (f : Nat) : State :=
  let c := s.fenceCtx f
  let fn := s.fenceFn f
  let s := { s with objs := { s.objs with fences := s.objs.fences.filter (·.fence != f) } }
  (((s.clearAt (s.fenceOff f 0) 32).useAdd fn Reg.VFn_USE_FENCE.COUNT false).ctxCount c 1 32 false).testCtx c

def State.objOff (s : State) (h w : Nat) : Nat := s.objTbl + 64 * (h % 262144) + 8 * w
def State.objW (s : State) (h w : Nat) : Nat := s.tw (s.objOff h w)
/-- VALID; no object exists before its table's base is set (R325). -/
def State.objValid (s : State) (h : Nat) : Bool := s.objs.objBaseSet && bit (s.objW h 0) 0
/-- 0 LIVE, 1 DYING, 2 FREEING. -/
def State.objState (s : State) (h : Nat) : Nat := bits (s.objW h 0) 1 2
def State.objGraph (s : State) (h : Nat) : Bool := bit (s.objW h 0) 3
def State.objFn (s : State) (h : Nat) : Nat := bits (s.objW h 0) 5 7
def State.objCtx (s : State) (h : Nat) : Nat := bits (s.objW h 0) 12 12
def State.objBase (s : State) (h : Nat) : Nat := s.objW h 1
def State.objSize (s : State) (h : Nat) : Nat := s.objW h 2
def State.objRefs (s : State) (h : Nat) : Nat := bits (s.objW h 3) 0 32

/-- The check of R327 on a memory object descriptor. -/
def State.objChecked (s : State) (fn h : Nat) : Bool :=
  s.objValid h && s.objFn h == fn && s.objState h < 3 && bits (s.objW h 0) 24 40 == 0 && s.objW h 1 < 2 ^ 45 && s.objW h 1 % 4096 == 0
    && s.objW h 2 < 2 ^ 45 && s.objW h 2 % 4096 == 0 && s.objW h 2 != 0 && bits (s.objW h 3) 32 32 == 0 && bits (s.objW h 4) 17 47 == 0
    && ([0, 1].all fun v => !bit (s.objW h 6) (1 + v) || (1 ≤ bits (s.objW h 7) (16 * v) 13 && bits (s.objW h 7) (16 * v) 13 ≤ 4096))
    && bits (s.objW h 6) 3 13 == 0 && bits (s.objW h 6) 48 16 == 0 && bits (s.objW h 7) 13 3 == 0 && bits (s.objW h 7) 29 35 == 0
    && ((s.granules (s.objOff h 0) 64).all fun g => !s.granPoisoned g)

/-- A LIVE object that function `fn` may use. -/
def State.objUsable (s : State) (fn h : Nat) : Bool := s.owns fn .obj h && s.objChecked fn h && s.objState h == 0

/-- Set STATE of an object. -/
def State.setObjState (s : State) (h x : Nat) : State :=
  s.putW (s.objOff h 0) (s.objW h 0 - s.objState h * 2 + x % 4 * 2) 8

/-- Free an object: with SCRUB its pages read zeros; its descriptor is cleared; its owner's count falls (R334). -/
def State.freeObj (s : State) (h : Nat) : State :=
  let c := s.objCtx h
  let fn := s.objFn h
  let s := if bit (s.objW h 0) 4 then s.reinit (s.objBase h) (s.objSize h) else s
  let s := { s with objs := { s.objs with retire := s.objs.retire.filter (· != h) } }
  let s := s.wr Page.ctxs Reg.CTXS_RETIRE_USED.COUNT s.objs.retire.length
  (((s.clearAt (s.objOff h 0) 64).useAdd fn Reg.VFn_USE_OBJ.COUNT false).ctxCount c 2 0 false).testCtx c

/-- Is the retire condition of an object met (R334)? -/
def State.retireMet (s : State) (h : Nat) : Bool :=
  !bit (s.objW h 4) 16 ||
  let f := bits (s.objW h 4) 0 16
  !s.fenceValid f || s.fenceDying f || (s.fenceNow f).2.2.isSome || s.objW h 5 ≤ (s.fenceNow f).1

/-- Test the teardown point of an object and act on it (R334). -/
def State.testObj (s : State) (h : Nat) : State :=
  if s.objValid h && s.objState h == 1 && s.objRefs h == 0 && s.retireMet h then
    let s := s.setObjState h 2
    if s.hostMode 4 then s.postTd 2 h else s.freeObj h
  else s

/-- Drop a reference that the block holds (R332). -/
def State.dropRef (s : State) (h : Nat) : State :=
  let n := s.objRefs h
  let s := if n = 0 then s.err Page.ctxs Err.ctxs.REF_UNDERFLOW else s.putW (s.objOff h 3) (s.objW h 3 - 1) 8
  s.testObj h

/-- Act on a pending or waiting teardown as in hardware mode. -/
def State.doTd (s : State) (k h : Nat) : State :=
  match k with
  | 0 => s.freeCtx h
  | 1 => s.freeFence h
  | _ => s.freeObj h

/-- The pending teardown is completed; the next one is shown (R334). -/
def State.completeTd (s : State) : State :=
  match s.objs.teardown with
  | [] => s
  | (k, h) :: r =>
    let s := ({ s with objs := { s.objs with teardown := r } }).doTd k h
    let s := (s.showTd).haClear 4
    if s.objs.teardown.isEmpty then s else s.haPost 4

/-- The fence's teardown point: DYING and no waiter left (R338). -/
def State.testFence (s : State) (f : Nat) : State :=
  if s.fenceValid f && s.fenceDying f && (s.waitersOf f).isEmpty && !s.objs.teardown.contains (1, f) then
    if s.hostMode 4 then s.postTd 1 f else s.freeFence f
  else s

/-- Test the retire-list objects that name fence `f` (R334). -/
def State.testRetire (s : State) (f : Nat) : State :=
  (s.objs.retire.filter fun h => bits (s.objW h 4) 0 16 == f).foldl (fun s h => s.testObj h) s

/-- Send ABORT to the sequencers of a packet's launch that have not answered (R344, R441). -/
def State.sendAborts (s : State) (p : Nat) : State :=
  match (s.pkt p).bind (·.launch) with
  | none => s
  | some id =>
    match SMap.find? s.front.launches id with
    | none => s
    | some l => s.emits ((l.parts.filter fun k => !(l.got.any fun g => g.1 == k)).map fun k => .abort k l.gen id)

/-- Show the fence that awaits a slot (R342). -/
def State.showNr (s : State) : State :=
  match s.front.slotWait with
  | [] => ((s.wr Page.fns Reg.FNS_NR_PEND.FENCE 0).wr Page.fns Reg.FNS_NR_PEND.VALID 0)
  | p :: _ => ((s.wr Page.fns Reg.FNS_NR_PEND.FENCE (((s.pkt p).map fun x => x.f 8 2).getD 0)).wr Page.fns Reg.FNS_NR_PEND.VALID 1)

/-- A packet no longer waits for a fence's slot; the next one is shown (R342). -/
def State.dropSlotWait (s : State) (p : Nat) : State :=
  if !s.front.slotWait.contains p then s else
  let first := s.front.slotWait.head? == some p
  let s := ({ s with front := { s.front with slotWait := s.front.slotWait.filter (· != p) } }).showNr
  if !first then s
  else
    let s := s.haClear 5
    if s.front.slotWait.isEmpty then s else s.haPost 5

/-- Abort a packet that has not ended: ABORT to its sequencers, its waiting ends (R344, R345). -/
def State.cancelPkt (s : State) (p status : Nat) (detail : Nat := 0) : State :=
  match s.pkt p with
  | none => s
  | some x =>
    if x.ended != .none then s else
    let fs := (s.front.waiters.filter fun w => w.pkt == p).map (·.fence)
    let s := (((s.sendAborts p).abortPkt p status detail).dropWaiters [p]).dropSlotWait p
    fs.foldl (fun s f => s.testFence f) s

/-! ### Applications -/

/-- One application to a fence: amount, tokens, error, release (R339 to R341). -/
def State.applyFence (s : State) (f amount : Nat) (err : Option Nat) : State :=
  let x := s.fenceNow f
  let past := x.1 + amount ≥ 2 ^ 64
  let v := min (x.1 + amount) (2 ^ 64 - 1)
  let e := x.2.2.or (if past then some 0x04 else err)
  let s := if (s.fenceSlot f).isSome then s.useFence f else s.inc Page.fns Reg.FNS_NR_SIG.COUNT
  let s := if past then s.err Page.fns Err.fns.VALUE_SAT { detail := 0x04 } else s
  let s := if x.2.1 = 65535 then s.err Page.fns Err.fns.TOKEN_SAT else s
  (((s.fencePut f v (min (x.2.1 + 1) 65535) e).releaseWaiters f).testFence f).testRetire f

/-- Put a fence into error without an amount (R338, R329, R347): the first error stands; its waiters are released. -/
def State.errorFence (s : State) (f code : Nat) : State :=
  let x := s.fenceNow f
  (((s.fencePut f x.1 x.2.1 (x.2.2.or (some code))).releaseWaiters f).testFence f).testRetire f

/-- Destroy a fence: error, DYING, and its teardown point when nothing waits (R338). -/
def State.destroyFence (s : State) (f code : Nat) : State :=
  let x := s.fenceNow f
  let s := (s.fencePut f x.1 x.2.1 (x.2.2.or (some code))).putW (s.fenceOff f 1)
    (fence1With (s.fence1 f) x.2.1 (x.2.2.or (some code)) + (if s.fenceDying f then 0 else 2 ^ 29)) 8
  ((s.releaseWaiters f).testFence f).testRetire f

/-- The fences that a context owns. -/
def State.fencesOf (s : State) (c : Nat) : List Nat :=
  (s.handlesIn s.fenceTbl 65536 32).filter fun f => s.fenceValid f && s.fenceCtx f == c

/-- The objects that a context owns. -/
def State.objsOf (s : State) (c : Nat) : List Nat :=
  (s.handlesIn s.objTbl 262144 64).filter fun h => s.objValid h && s.objCtx h == c

/-! ### Stopping a queue and losing a context -/

/-- A queue stops in ERROR with a stop code, its vector is raised (R301). -/
def State.stopQueue (s : State) (q code : Nat) : State :=
  let x := s.queue q
  if x.state = .absent ∨ x.state = .draining then s else
  let s := s.setQueue q (if x.state = .held then { x with prev := .error, stop := code } else { x with state := .error, stop := code })
  (s.err Page.fe Err.fe.PKT_REFUSED { ctx := if x.kernel then none else some x.ctx, fn := x.fn, place := q, placeKind := 4, detail := code }).emit
    (.msix x.fn x.vec)

/-- A context has received a fatal result: STEP_BAD, in the state and in the commit record's first word (R223, R231). -/
def State.fatalStep (s : State) : State :=
  match s.sync.record with
  | none => s
  | some off =>
    if s.sync.stepBad then s else
    ({ s with sync := { s.sync with stepBad := true } }).putW off (s.tw off ||| 2 ^ 51) 8

/-- The context receives a fatal result (R347). -/
def State.ctxLost (s : State) (c code : Nat) : State :=
  if !s.ctxValid c then s else
  let s := s.fatalStep
  if s.ctxLostBit c then s else
  let v := s.ctxW c 0
  let s := s.putW (s.ctxOff c 0) (v - bits v 36 8 * 2 ^ 36 + 2 + code % 256 * 2 ^ 36) 8
  let qs := (s.ctxQs c).map Prod.fst
  let s := qs.foldl (fun s q => s.stopQueue q St.CTX_LOST) s
  let s := qs.foldl (fun s q => (s.pktsOf q).foldl (fun s e =>
    s.cancelPkt e.1 St.CTX_LOST) s) s
  (s.fencesOf c).foldl (fun s f => s.errorFence f 0x02) s

/-! ### Holds and TDIs -/

/-- Is any hold of a queue in force? -/
def Queue.holdNow (x : Queue) : Bool := x.negHold || x.flrHold || x.ctlHold

/-- Bring a queue's state in line with its holds (R305). -/
def Queue.settle (x : Queue) : Queue :=
  if x.holdNow then
    (if x.state = .ready ∨ x.state = .error then { x with prev := x.state, state := .held } else x)
  else if x.state = .held then { x with state := x.prev } else x

/-- Change the queues of a function. -/
def State.mapQueues (s : State) (fn : Nat) (f : Queue → Queue) : State :=
  { s with front := { s.front with queues := s.front.queues.map fun e => if e.2.fn = fn ∧ e.2.state ≠ .absent then (e.1, f e.2) else e } }

/-- The state of TDI `n` (R391, R395): 0 CONFIG_UNLOCKED, 1 CONFIG_LOCKED, 2 RUN, 3 ERROR. The TDI_RUN output is the TDIs in RUN. -/
def State.tdi (s : State) (n : Nat) : Nat := bits (s.rd Page.key Reg.KEY_TDIk.TDI (n / 16)) (2 * (n % 16)) 2

/-- Set it. -/
def State.setTdi (s : State) (n x : Nat) : State :=
  let v := s.rd Page.key Reg.KEY_TDIk.TDI (n / 16)
  s.wr Page.key Reg.KEY_TDIk.TDI (v - s.tdi n * 2 ^ (2 * (n % 16)) + x % 4 * 2 ^ (2 * (n % 16))) (n / 16)

/-- An event that a locked or running TDI does not bear (R391): ERROR, its VF's queues are HELD. -/
def State.tdiError (s : State) (n : Nat) : State :=
  if n = 0 ∨ (s.tdi n ≠ 1 ∧ s.tdi n ≠ 2) then s else
  ((s.setTdi n 3).mapQueues n fun x => Queue.settle { x with flrHold := true }).err Page.key Err.key.TDI_ERROR { fn := n }

end Sys2Proof.Machine
end

