-- ==== Sys2Proof/Machine/Access.lean ====
section
/-! DEFINITION. Checked accesses to local memory with the reaction to a refusal (R249), the atomics of R184, global addresses
(R177, R178), and who a compute context, host software or another rank is to the check of R248. -/

namespace Sys2Proof.Machine

/-! ### Masters -/

abbrev Master.pf : Master := { cls := 1 }
abbrev Master.vf (n : Nat) : Master := { cls := 2, fn := n }
abbrev Master.dma : Master := { cls := 3 }
abbrev Master.debug : Master := { cls := 4 }
abbrev Master.remote (rank share : Nat) : Master := { cls := 5, rank := rank, share := share }
abbrev Master.maint : Master := { cls := 6 }

/-! ### Accesses -/

/-- An access was refused (R249): counted, recorded, and fatal to the context of a class 0 access. -/
def State.refuse (s : State) (m : Master) (k step entry off : Nat) : State :=
  let s := s.countRefusal m k step entry off
  if m.cls = 0 then s.ctxLost m.ctx St.RIGHTS else s

/-- Add to the bytes a context has read or written locally (R343). -/
def State.countBytes (s : State) (m : Master) (k n : Nat) : State := if m.cls = 0 then s.addCtr m.ctx k n else s

/-- What an access answers: status (R186), data, poison mask of its 16-byte units, the state after. -/
structure Answer where
  status : Nat
  data : List Byte
  poison : Nat
  st : State
  deriving DecidableEq, Repr

/-- Read (R238, R248, R249): zeros and a status when refused. -/
def State.readAs (s : State) (m : Master) (off len : Nat) : Answer :=
  match s.checkRange m 0 off len with
  | some (step, e) => { status := stepStatus step, data := List.replicate len 0, poison := 0, st := s.refuse m 0 step e off }
  | none =>
    let r := s.readRange 0 off len
    { status := if r.2.1 = 0 then St.OK else St.POISON, data := r.1, poison := r.2.1, st := r.2.2.countBytes m 8 len }

/-- Write (R239, R248, R249). -/
def State.writeAs (s : State) (m : Master) (off : Nat) (data : List Byte) (poison : Nat := 0) : Answer :=
  match s.checkRange m 1 off data.length with
  | some (step, e) => { status := stepStatus step, data := [], poison := 0, st := s.refuse m 1 step e off }
  | none =>
    let r := s.writeRange 1 off data poison false
    { status := if r.1 then St.OK else St.POISON, data := [], poison := 0,
      st := if r.1 then r.2.countBytes m 9 data.length else r.2 }

/-- Write under a byte strobe: byte `i` is written when bit `i` of `strb` is set (R484). A granule whose bytes are all written is a whole write,
which clears its poison (R237). -/
def State.writeStrobed (s : State) (m : Master) (off : Nat) (data : List Byte) (strb : Nat) : Answer :=
  match s.checkRange m 1 off data.length with
  | some (step, e) => { status := stepStatus step, data := [], poison := 0, st := s.refuse m 1 step e off }
  | none =>
    if (List.range data.length).all fun i => bit strb i then s.writeAs m off data else
    let r := s.writeRange 1 off data 0 false (some strb)
    { status := if r.1 then St.OK else St.POISON, data := [], poison := 0,
      st := if r.1 then r.2.countBytes m 9 data.length else r.2 }

/-! ### Atomics (R184) -/

/-- The new value of a word of `n` bytes under the atomic `code` (low nibble of the OP): 0 ADD, 1 SWAP, 2 CAS, 3 SMIN, 4 SMAX, 5 UMIN,
6 UMAX, 7 AND, 8 OR, 9 XOR. -/
def atomNew (code n m a b : Nat) : Nat :=
  let w := 8 * n
  let a := a % 2 ^ w
  let b := b % 2 ^ w
  match code with
  | 0 => (m + a) % 2 ^ w
  | 1 => a
  | 2 => if m = a then b else m
  | 3 => if signed m w ≤ signed a w then m else a
  | 4 => if signed m w ≤ signed a w then a else m
  | 5 => min m a
  | 6 => max m a
  | 7 => m &&& a
  | 8 => m ||| a
  | _ => m ^^^ a

/-- Perform an atomic on the word of `n` bytes at `off` (R184, R187): the old value in `data`. -/
def State.atomicAs (s : State) (m : Master) (off n code a b : Nat) : Answer :=
  match s.checkRange m 2 off n with
  | some (step, e) => { status := stepStatus step, data := List.replicate n 0, poison := 0, st := s.refuse m 2 step e off }
  | none =>
    let phys := s.mapTx 2 off
    let old := s.word phys n
    let r := s.writePhys phys (leBytes n (atomNew code n old a b)) 0 false
    if r.1 then { status := St.OK, data := leBytes n old, poison := 0, st := (r.2.countBytes m 8 n).countBytes m 9 n }
    else { status := St.POISON, data := [], poison := 1, st := r.2 }

/-! ### Global addresses -/

/-- Where an address leads (R177, R178). -/
inductive Dest where
  | bad
  | here (off : Nat)
  | far (rank off : Nat)
  deriving DecidableEq, Repr

/-- Decode a global address. -/
def State.dest (s : State) (a : Nat) : Dest :=
  let space := bits a 60 4
  let rank := bits a 45 15
  let off := bits a 0 45
  if space = 1 then (if rank = 0 then .here off else .bad)
  else if space = 0 then (if rank ≥ 24576 then .bad else if s.selfRank = some rank then .here off else .far rank off)
  else .bad

/-- Do two ranks share a paddock (R178)? -/
def samePaddock (a b : Nat) : Bool := a / 256 == b / 256

/-- BAD_ADDRESS at the requester (R178, R206). -/
def State.badAddress (s : State) : State := s.err Page.gw Err.gw.BAD_ADDRESS

/-- A global address that must be local: its offset. -/
def State.localOff (s : State) (a : Nat) : Option Nat :=
  match s.dest a with
  | .here off => some off
  | _ => none

/-! ### Performing packets -/

/-- The packet in entry `p` that its engine now takes up: it has started, has not been performed, has not ended. A Mount block's front end
waits while the memory region accepts no access (R488). -/
def State.ready (s : State) (p op : Nat) : Bool :=
  s.serving && (s.boot.post || s.memOpen) &&
  match s.pkt p with
  | some x => x.opcode == op && x.started && !x.performed && x.ended == .none
  | none => false

/-- Perform a packet: it is marked performed, then `f` acts with it. While an access to memory that it makes must wait, it waits: it is taken up
again later (R269, R271). -/
def State.perform (s : State) (p op : Nat) (f : Pkt → State → State) : Res :=
  .next (if s.ready p op then
    match s.pkt p with
    | some x => s.orWait fun s => f x (s.setPkt p { x with performed := true })
    | none => s
  else s)

/-- Is a packet's queue bound to strides? Its COPYs and REDUCEs are then taken by the gait executor, not by the mover (R312, R313). -/
def State.boundPkt (s : State) (p : Nat) : Bool :=
  match s.pkt p with
  | some x => (s.queue x.queue).bind == 1 || (s.queue x.queue).bind == 2
  | none => false

/-- Complete a kernel packet: REFUSED with a DETAIL, or OK for code 0 (R318). -/
def State.kres (s : State) (p code : Nat) : State := if code = 0 then s.finish p St.OK else s.finish p St.REFUSED code

end Sys2Proof.Machine
end

