-- ==== Sys2Proof/Machine/Time.lean ====
section
/-! DEFINITION. Domain time: the time base (R63, R64), grandmaster and PPS (R65 to R68), marks (R69 to R72), steering (R73, R74),
time states (R78, R79), what they permit (R80), and sibling marks (R496). Key `n` below 64 is link port n, 64 + s sibling port s. -/

namespace Sys2Proof.Machine

/-! ### The time base -/

/-- TIME_RATE_ADJ, signed, in units of 2^-40 of nominal. -/
def State.rate (s : State) : Int := signed (s.rd Page.time Reg.TIME_RATE_ADJ.RATE) 32

/-- Set it. -/
def State.setRate (s : State) (r : Int) : State := s.wr Page.time Reg.TIME_RATE_ADJ.RATE (unsigned r 32)

/-- A copy of DT and its residue after one AOCLK edge (R63): 10 ns are 2,560 units; the residue counts 2^-40 of a unit. -/
def tickCopy (dt : DT) (res : BitVec 40) (rate : Int) : DT × BitVec 40 :=
  let t := ((dt.toNat * 2 ^ 40 + res.toNat : Nat) : Int) + 2560 * (2 ^ 40 + rate)
  (BitVec.ofNat 72 (t.toNat / 2 ^ 40), BitVec.ofNat 40 t.toNat)

/-- One AOCLK edge: both copies advance (R63, R64) and so does local time. -/
def State.tick (s : State) : State :=
  let a := tickCopy s.time.dtA s.time.resA s.rate
  let b := tickCopy s.time.dtB s.time.resB s.rate
  { s with time := { s.time with dtA := a.1, resA := a.2, dtB := b.1, resB := b.2, loc := s.time.loc + 10, sub := 0 } }

/-- Time has reached a position within the AOCLK period, in units of 1/256 ns, that an event gives; it never goes back (R63). -/
def State.reach (s : State) (sub : Nat) : State := { s with time := { s.time with sub := max s.time.sub (sub % 2560) } }

/-- The timestamp of an event at a position within the AOCLK period (R63). -/
def State.stamp (s : State) (sub : Nat) : Nat := s.time.dtA.toNat + max s.time.sub (sub % 2560)

/-- Step DT by a signed amount; every step is counted (R63). -/
def State.stepDt (s : State) (d : Int) : State :=
  let v : DT := BitVec.ofNat 72 (((s.time.dtA.toNat : Int) + d).toNat)
  ({ s with time := { s.time with dtA := v, resA := 0, dtB := v, resB := 0 } }).incSat Page.time Reg.TIME_STEP_COUNT.COUNT

/-! ### States -/

/-- Hops from the grandmaster. -/
def State.hops (s : State) : Nat := s.rd Page.time Reg.TIME_STATUS.HOPS
def State.isGm (s : State) : Bool := s.rdb Page.time Reg.TIME_STATUS.IS_GM

/-- Picoseconds in units of 1/256 ns, rounded up. -/
def psUnits (ps : Nat) : Nat := (ps * 256 + 999) / 1000

/-- TIME_ERR_EST (R66, R78). DESIGN CHOICE (log entry of the holdover growth): it grows by 20 ps for each whole µs of HOLDOVER. -/
def State.errEst (s : State) : Nat :=
  match s.timeState with
  | 2 => if s.isGm then psUnits 100 else psUnits (100 * s.hops + 200)
  | 1 => s.time.holdErr + psUnits (20 * ((s.now - s.time.holdAt) / 1000))
  | _ => 0xFFFF_FFFF

/-- Does the error bound lie within `ns` ns, in HOLDOVER; always in LOCKED, never in FREE (R80)? -/
def State.within (s : State) (units : Nat) : Bool :=
  match s.timeState with
  | 2 => true
  | 1 => s.errEst ≤ units
  | _ => false

/-- R80: a hard-class stride, or a bank swap, with a guard band in ns. -/
def State.hardOk (s : State) (guardNs : Nat) : Bool := s.within (guardNs * 128)
/-- R80: a firm-class stride, or loose traffic. -/
def State.firmOk (s : State) (guardNs : Nat) : Bool := s.within (guardNs * 256)


/-- Sum of a list of integers. -/
def sumInt (l : List Int) : Int := l.foldl (· + ·) 0

/-- Is any gait bank of this block active (R69)? -/
def State.anyActive (s : State) : Bool := s.rdb Page.gait Reg.GAIT_STATUS.ANY_ACTIVE

/-- Units of time of a port. -/
def State.ptime (s : State) (k : Nat) : PortTime := SMap.getD s.time.ports PortTime.empty k
def State.setPtime (s : State) (k : Nat) (t : PortTime) : State :=
  { s with time := { s.time with ports := SMap.put s.time.ports PortTime.empty k t } }

/-- The marks accepted with authentication in the last `ns` ns, by port. -/
def State.heard (s : State) (ns : Nat) : List (Nat × PeerMark) :=
  (s.time.ports.map fun e => (e.2.recent.filter fun m => m.auth && s.now ≤ m.at_ + ns).map fun m => (e.1, m)).flatten

/-- GAIT_DIST (R69): 0 with a bank active, else 1 + the smallest heard in 16 mark intervals, at most 15. -/
def State.gaitDist (s : State) : Nat :=
  if s.anyActive then 0 else min 15 (1 + ((s.heard 16384).map fun e => e.2.m.gaitDist).foldl min 14)

/-! ### Ports in the TIME page -/

/-- A field of the port's registers: link ports and sibling ports lie at different places (R82, R496). -/
def State.trd (s : State) (k : Nat) (lf sf : Field) : Nat :=
  if k < 64 then s.rd Page.time lf k else s.rd Page.time sf (k - 64)
def State.twr (s : State) (k : Nat) (lf sf : Field) (v : Nat) : State :=
  if k < 64 then s.wr Page.time lf v k else s.wr Page.time sf v (k - 64)

def State.timeEn (s : State) (k : Nat) : Bool := s.trd k Reg.TIME_PORTn_CFG.TIME_EN Reg.TIME_SIBs_CFG.TIME_EN != 0
def State.parentOk (s : State) (k : Nat) : Bool := s.trd k Reg.TIME_PORTn_CFG.PARENT_OK Reg.TIME_SIBs_CFG.PARENT_OK != 0
def State.calOk (s : State) (k : Nat) : Bool := s.trd k Reg.TIME_PORTn_STAT.CAL_OK Reg.TIME_SIBs_STAT.CAL_OK != 0
def State.setCal (s : State) (k : Nat) (b : Bool) : State :=
  s.twr k Reg.TIME_PORTn_STAT.CAL_OK Reg.TIME_SIBs_STAT.CAL_OK (b2n b)
/-- Filtered θ. -/
def State.offset (s : State) (k : Nat) : Int :=
  signed (s.trd k Reg.TIME_PORTn_OFFSET.THETA Reg.TIME_SIBs_OFFSET.THETA) 32

/-! ### Grandmaster and parent -/

/-- A grandmaster: PRIO and rank; smaller is better in this order (R65). -/
def gmBetter (a b : Nat × Nat) : Bool := a.1 < b.1 || (a.1 == b.1 && a.2 < b.2)

/-- The grandmaster the block follows or is. -/
def State.gmNow (s : State) : Option (Nat × Nat) :=
  if s.rdb Page.time Reg.TIME_GM_ID.VALID then
    some (s.rd Page.time Reg.TIME_GM_ID.PRIO, s.rd Page.time Reg.TIME_GM_ID.RANK) else none

/-- Name a grandmaster and its term. -/
def State.setGm (s : State) (g : Nat × Nat) (term : Nat) : State :=
  let p := Page.time
  (((s.wr p Reg.TIME_GM_ID.RANK g.2).wr p Reg.TIME_GM_ID.PRIO g.1).wr p Reg.TIME_GM_ID.VALID 1).wr p Reg.TIME_GM_TERM.TERM term

/-- The best grandmaster named by LOCKED neighbours in the last 50 µs, with its term (R65). -/
def State.gmKnown (s : State) : Option ((Nat × Nat) × Nat) :=
  ((s.heard 50000).filter fun e => e.2.m.state == 2).foldl (fun b e =>
    let g := ((e.2.m.gmPrio, e.2.m.gmRank), e.2.m.gmTerm)
    match b with
    | none => some g
    | some x => if gmBetter g.1 x.1 then some g else some x) none

/-- The block goes FREE (R79). A grandmaster that no mark has named lately is known no more (R82). -/
def State.toFree (s : State) : State :=
  let p := Page.time
  let known := s.gmKnown.isSome
  let s := ((((s.wr p Reg.TIME_STATUS.STATE 0).wr p Reg.TIME_STATUS.IS_GM 0).wr p Reg.TIME_STATUS.HOPS 15).wr p
    Reg.TIME_STATUS.PARENT_VALID 0).wr p Reg.TIME_STATUS.PARENT_SIB 0
  if known then s else s.wr p Reg.TIME_GM_ID.VALID 0

/-- Does a port qualify as parent under grandmaster `g`, hops apart (R73, R496)? -/
def State.nearParent (s : State) (g : Nat × Nat) (k : Nat) : Bool :=
  let t := s.ptime k
  s.parentOk k && s.calOk k && t.sinceRestart.isNone &&
  match t.peer with
  | some m => m.auth && m.m.state == 2 && m.m.gmPrio == g.1 && m.m.gmRank == g.2 && s.now ≤ m.at_ + 8192
  | none => false

/-- The peer's hops of a port. -/
def State.peerHops (s : State) (k : Nat) : Nat := (((s.ptime k).peer).map fun m => m.m.hops).getD 15

/-- The parent under `g`: smallest hops, then lowest port; a sibling only when no link port qualifies (R73, R496). -/
def State.chooseParent (s : State) (g : Nat × Nat) : Option Nat :=
  let ok := fun k => s.nearParent g k && s.peerHops k < 8
  let ls := (List.range s.ports).filter ok
  match ls with
  | [] => if s.boot.post then none else ((List.range s.build.sibCount).map (· + 64)).find? ok
  | _ => ls.foldl (fun b k => match b with
      | none => some k
      | some x => if s.peerHops k < s.peerHops x then some k else some x) none

/-- The parent in force. -/
def State.parent (s : State) : Option Nat :=
  if s.rdb Page.time Reg.TIME_STATUS.PARENT_VALID then
    some (s.rd Page.time Reg.TIME_STATUS.PARENT + (if s.rdb Page.time Reg.TIME_STATUS.PARENT_SIB then 64 else 0))
  else none

/-- Take a parent. -/
def State.setParent (s : State) (k : Nat) : State :=
  let p := Page.time
  (((s.wr p Reg.TIME_STATUS.PARENT (k % 64)).wr p Reg.TIME_STATUS.PARENT_VALID 1).wr p Reg.TIME_STATUS.PARENT_SIB
    (b2n (64 ≤ k))).wr p Reg.TIME_STATUS.HOPS (s.peerHops k + 1)

/-- The grandmaster to which the block is LOCKED, and whether a difference is still being slewed (R79, R81). -/
def State.lockTo (s : State) (g : Option (Nat × Nat)) (slewing : Bool) : State := { s with time := { s.time with lockGm := g, slewing := slewing } }

/-- LOCKED under the parent (R79). -/
def State.toLocked (s : State) (k : Nat) : State := ((s.setParent k).wr Page.time Reg.TIME_STATUS.STATE 2).lockTo s.gmNow false

/-- HOLDOVER: the rate freezes at its 64-mark mean (R79). -/
def State.toHoldover (s : State) : State :=
  let e := s.errEst
  let rates := ((s.parent.map fun k => (s.ptime k).rates).getD [])
  let s := if rates.isEmpty then s else s.setRate (sumInt rates / (rates.length : Int))
  let s := { s with time := { s.time with holdAt := s.now, holdErr := e } }
  ((s.wr Page.time Reg.TIME_STATUS.STATE 1).wr Page.time Reg.TIME_STATUS.PARENT_VALID 0).err Page.time Err.time.PARENT_LOST

/-- ±200 ppm of nominal in units of 2^-40. -/
def rateMax : Int := 219902325

/-- 10 ppm in units of 2^-40. -/
def rateNear : Int := 10995116

/-- Clamp. -/
def clampInt (lo hi x : Int) : Int := max lo (min hi x)

/-- The rate that the servo asks for: in LOCKED and HOLDOVER within 10 ppm of the parent's measured rate (R74, R81). -/
def State.wantRate (s : State) (k : Nat) (theta : Int) : Int :=
  let r := Config.rateServo theta s.rate
  let m := Config.parentRate (s.ptime k).thetas (s.ptime k).rates
  if s.timeState = 0 then r else clampInt (m - rateNear) (m + rateNear) r

/-- RATE_LIMIT: a rate past ±200 ppm is asked for, and the limit is held (R74). An injected one acts as if the rate had been asked for. -/
def State.rateLimit (s : State) (r : Int) : State :=
  s.struck Page.time Err.time.RATE_LIMIT fun s =>
    (s.setRate (if r < 0 then -rateMax else rateMax)).err Page.time Err.time.RATE_LIMIT

/-- Steer the rate by the servo towards the parent at port `k`; past the limit it holds the limit (R74). -/
def State.steerRate (s : State) (k : Nat) (theta : Int) : State :=
  let r := s.wantRate k theta
  if r > rateMax ∨ r < -rateMax ∨ (s.armedAt Page.time Err.time.RATE_LIMIT).isSome then s.rateLimit r else s.setRate r

/-- |filtered θ| ≤ `u` units over 64 accepted marks. -/
def State.settled (s : State) (k : Nat) (u : Int) : Bool := (s.ptime k).thetas.length == 64 && decide (s.offset k ≤ u) && decide (-u ≤ s.offset k)

/-- Is |θ| to a port at most `u` units? -/
def State.near (s : State) (k : Nat) (u : Int) : Bool := decide (s.offset k ≤ u) && decide (-u ≤ s.offset k)

/-- A step of DT makes the accepted offsets stale: every filter restarts. -/
def State.refreshFilters (s : State) : State :=
  { s with time := { s.time with ports := s.time.ports.map fun e => (e.1, { e.2 with thetas := [], rates := [], fresh := true }) } }

/-- Acquire a parent's time in FREE (R74). -/
def State.acquire (s : State) (k : Nat) : State :=
  if (s.armedAt Page.time Err.time.STEP_NEEDED).isSome then s.struck Page.time Err.time.STEP_NEEDED fun s => s.err Page.time Err.time.STEP_NEEDED
  else if s.settled k 12 then s.toLocked k
  else if s.near k 12 then s.steerRate k (s.offset k)
  else if s.rdb Page.time Reg.TIME_CTRL.STEP_ALLOW && !s.anyActive then (s.stepDt (s.offset k)).refreshFilters
  else if s.near k 256000000 then s.steerRate k (s.offset k)
  else s.err Page.time Err.time.STEP_NEEDED

/-- A block in FREE finds no parent: HOPS_EXCEEDED when a port qualifies but for its hops (R77). -/
def State.noParent (s : State) (g : Nat × Nat) : State :=
  let sibs := if s.boot.post then [] else (List.range s.build.sibCount).map (· + 64)
  if (List.range s.ports ++ sibs).any (fun k => s.nearParent g k) then s.err Page.time Err.time.HOPS_EXCEEDED else s

/-- FREE (R73, R74, R77, R79). An injected HOPS_EXCEEDED acts as if every parent stood 8 hops or more away. -/
def State.steerFree (s : State) (g : Nat × Nat) : State :=
  if (s.armedAt Page.time Err.time.HOPS_EXCEEDED).isSome then
    s.struck Page.time Err.time.HOPS_EXCEEDED fun s => s.err Page.time Err.time.HOPS_EXCEEDED
  else match s.chooseParent g with
    | some k => s.acquire k
    | none => s.noParent g

/-- A parent under a new grandmaster stands more than 2 ns away: FREE, GM_LOST (R79, R81). -/
def State.gmApart (s : State) : State := (s.err Page.time Err.time.GM_LOST).toFree

/-- HOLDOVER (R74, R79, R81). -/
def State.steerHoldover (s : State) (g : Nat × Nat) : State :=
  match s.chooseParent g with
  | none => s
  | some k =>
    if s.settled k 12 then s.toLocked k
    else if s.near k 512 then s.steerRate k (s.offset k)
    else if s.time.lockGm == some g then s
    else s.gmApart

/-- Has the parent in force sent a mark in the last 8 intervals that qualified it (R79)? -/
def State.parentLately (s : State) (k : Nat) : Bool :=
  (s.ptime k).recent.any fun m => m.auth && m.m.state == 2 && s.time.lockGm == some (m.m.gmPrio, m.m.gmRank) && m.m.hops < 8 && s.now ≤ m.at_ + 8192

/-- The LOCKED block's parent has stopped qualifying (R73, R79, R81): another parent under the same grandmaster within 500 ps, or under a
new one within 2 ns; else HOLDOVER, or FREE under a new grandmaster. While no port qualifies, it waits until the interval in which the parent
last qualified has passed. -/
def State.changeParent (s : State) (g : Nat × Nat) : State :=
  match s.chooseParent g with
  | none =>
    match s.parent with
    | some k => if s.parentLately k then s else s.toHoldover
    | none => s.toHoldover
  | some k =>
    if s.time.lockGm != some g then (if s.near k 512 then (s.setParent k).lockTo (some g) true else s.gmApart)
    else match s.parent with
      | some old =>
        let d := s.offset k - s.offset old
        if d ≤ 128 ∧ -128 ≤ d then s.setParent k else s.toHoldover
      | none => s.toHoldover

/-- LOCKED under a qualifying parent: HOLDOVER past 500 ps over 64 marks, except while the difference to a new grandmaster is slewed; else
steering (R74, R79, R81). -/
def State.steerLocked (s : State) (k : Nat) : State :=
  if (s.ptime k).thetas.length = 64 ∧ !s.near k 128 ∧ !s.time.slewing then s.toHoldover
  else
    let s := if s.near k 128 then s.lockTo s.time.lockGm false else s
    (s.steerRate k (s.offset k)).wr Page.time Reg.TIME_STATUS.HOPS (s.peerHops k + 1)

/-- A better grandmaster is named: it is the one that the block follows from now on (R65). -/
def State.adopt (s : State) (g : Nat × Nat) (term : Nat) : State := (s.setGm g term).wr Page.time Reg.TIME_STATUS.IS_GM 0

/-- The best known grandmaster is adopted when it is better than the current one, or the block is not LOCKED to the current one (R65). -/
def State.followGm (s : State) : State :=
  match s.gmKnown with
  | none => s
  | some (g, term) =>
    match s.gmNow with
    | none => s.adopt g term
    | some c => if gmBetter g c || (s.timeState != 2 && g != c) then s.adopt g term else s

/-- Act on the marks accepted so far (R65, R73, R74, R79). -/
def State.steer (s : State) : State :=
  if !s.rdb Page.time Reg.TIME_CTRL.STEER_EN then s else
  let s := s.followGm
  if s.isGm then s else
  match s.gmNow with
  | none => s
  | some g =>
    match s.timeState with
    | 0 => s.steerFree g
    | 1 => s.steerHoldover g
    | _ =>
      match s.parent with
      | some k => if s.nearParent g k && s.peerHops k < 8 && s.time.lockGm == some g then s.steerLocked k else s.changeParent g
      | none => s.changeParent g

/-! ### Marks -/

/-- A port's units are sealed: UP for a link port (R127), AUTH for a sibling port (R495). -/
def State.sealedPort (s : State) (k : Nat) : Bool :=
  if k < 64 then s.portUp k else bit (s.rd Page.cr Reg.CR_SIB_STATUS.AUTH) (k - 64)

/-- Does port `k` exchange marks (R69, R126, R496)? -/
def State.marks (s : State) (k : Nat) : Bool :=
  if k < 64 then k < s.ports && s.rdb (Page.lpt k) Reg.LPT_STATUS.PHY_READY && s.timeEn k && s.lstate k != 5
  else !s.boot.post && k - 64 < s.build.sibCount && s.sealedPort k && s.timeEn k

/-- The mark that port `k` would send now (R69). -/
def State.markOut (s : State) (k : Nat) : MarkFields :=
  let t := s.ptime k
  { seq := t.txSeq % 65536
    txPrev := ((t.sent.head?).map Prod.snd).getD 0
    echoSeq := (t.echo.map fun e => e.1).getD 0
    echoRx := (t.echo.map fun e => e.2.1).getD 0
    echoTurn := (t.echo.map fun e => e.2.2).getD 0
    state := s.timeState
    hops := s.hops
    gmRank := s.rd Page.time Reg.TIME_GM_ID.RANK
    gmPrio := s.rd Page.time Reg.TIME_GM_ID.PRIO
    gmTerm := s.rd Page.time Reg.TIME_GM_TERM.TERM
    errEst := s.errEst
    gaitDist := s.gaitDist }

/-- Send a mark and keep its departure (R69). -/
def State.opMark (k sub : Nat) (s : State) : State :=
  let m := s.markOut k
  let t := s.ptime k
  let s := (s.setPtime k { t with txSeq := (t.txSeq + 1) % 65536, sent := ((m.seq, s.stamp sub) :: t.sent).take 16 }).reach sub
  if k < 64 then s.sendFlit k (.mark m) else s.sendSib (k - 64) (.mark m)

/-- Half of an integer, rounded to nearest, ties to even (R71). -/
def halfEven (x : Int) : Int := if x % 2 = 0 then x / 2 else if (x / 2) % 2 = 0 then x / 2 else x / 2 + 1

/-- cable and θ of R71 from the four stamps and the delays. -/
def offsetOf (t1 t2 t3 t4 txA rxA txB rxB asym : Int) : Int × Int :=
  let turn := t3 - t2
  let rtt := (t4 - t1) - turn
  let fixed := txA + rxB + txB + rxA
  (rtt - fixed, halfEven ((t2 - t1) - (t4 - t3) - ((txA + rxB) - (txB + rxA)) - asym))

/-- The measurement that an arriving mark completes: cable and θ (R69, R71). -/
def State.measure (s : State) (k : Nat) (m : MarkFields) : Option (Int × Int) :=
  let t := s.ptime k
  match t.rx with
  | none => none
  | some (q, at_) =>
    if m.seq != (q + 1) % 65536 || (m.echoRx == 0 && m.echoTurn == 0) then none
    else some (offsetOf m.echoTurn m.echoRx m.txPrev at_ t.txdly t.rxdly t.peerTx t.peerRx t.asym)

/-- The two conditions of R72 on the 64th measured cable: a port that fails one is not calibrated. -/
def State.calDone (s : State) (k : Nat) (cable : Int) : State :=
  let a := (s.ptime k).asym + (s.ptime k).peerAsym
  if -5 ≤ a ∧ a ≤ 5 ∧ 0 ≤ cable ∧ cable ≤ 2 ^ 24 ∧ (s.armedAt Page.time Err.time.ASYM_RANGE).isNone then s.setCal k true
  else s.struck Page.time Err.time.ASYM_RANGE fun s => (s.setCal k false).err Page.time Err.time.ASYM_RANGE { place := k, placeKind := 5 }

/-- Calibration of R72 after 64 measured marks; of a sibling port after 64 within ±2 ns of twice its delay (R496). DESIGN CHOICE (log entry
of the calibration value): of the 64 measured values the last one is held against the bounds. -/
def State.calibrate (s : State) (k : Nat) (cable : Int) : State :=
  let t := s.ptime k
  if k < 64 then
    let s := s.setPtime k { t with calMarks := min 64 (t.calMarks + 1) }
    let s := s.wr Page.time Reg.TIME_PORTn_RTT.CABLE (unsigned cable 32) k
    if t.calMarks != 63 then s else s.calDone k cable
  else
    let d : Int := cable - 2 * (s.rd Page.cr Reg.CR_SIBs_DLY.DLY (k - 64) : Nat)
    let s := s.wr Page.time Reg.TIME_SIBs_RTT.RTT (unsigned cable 32) (k - 64)
    if -512 ≤ d ∧ d ≤ 512 then
      let s := s.setPtime k { t with calMarks := min 64 (t.calMarks + 1) }
      if t.calMarks + 1 ≥ 64 then s.setCal k true else s
    else s

/-- The bookkeeping of an arriving mark: what is echoed, what arrived last (R69). -/
def State.noteArrival (s : State) (k : Nat) (m : MarkFields) (arrival : Nat) : State :=
  let t := s.ptime k
  let echo := match t.rx with
    | some (q, a) => if m.seq == (q + 1) % 65536 then some (q, a, m.txPrev) else t.echo
    | none => t.echo
  s.setPtime k { t with rx := some (m.seq, arrival), echo := echo }

/-- Eight outliers in a row: the filter starts again and the port is unfit to be parent (R71); a sibling port loses its calibration (R496). -/
def State.outlier (s : State) (k : Nat) : State :=
  let t := s.ptime k
  let s := s.setPtime k { t with outRun := 0, fresh := true, thetas := [], rates := [], sinceRestart := some 0, calMarks := if k < 64 then t.calMarks else 0 }
  (if k < 64 then s else s.setCal k false).err Page.time Err.time.OUTLIER { place := k, placeKind := 5 }

/-- An offset that passes the 2 ns test, or restarts the filter, is accepted (R71). An injected OUTLIER makes this offset the eighth outlier
in a row. -/
def State.acceptTheta (s : State) (k : Nat) (theta : Int) : State :=
  let t := s.ptime k
  let inj := (s.armedAt Page.time Err.time.OUTLIER).isSome
  if inj || (!t.fresh && (decide (theta - s.offset k > 512) || decide (s.offset k - theta > 512))) then
    let s := s.twr k Reg.TIME_PORTn_STAT.OUTLIERS Reg.TIME_SIBs_STAT.OUTLIERS
      (min 255 (s.trd k Reg.TIME_PORTn_STAT.OUTLIERS Reg.TIME_SIBs_STAT.OUTLIERS + 1))
    if t.outRun + 1 < 8 && !inj then s.setPtime k { t with outRun := t.outRun + 1 }
    else s.struck Page.time Err.time.OUTLIER fun s => s.outlier k
  else
    let thetas := (theta :: (if t.fresh then [] else t.thetas)).take 64
    let s := s.setPtime k { t with
      outRun := 0, fresh := false, thetas := thetas, rates := (s.rate :: t.rates).take 64
      sinceRestart := match t.sinceRestart with
        | none => none
        | some n => if n + 1 ≥ 64 then none else some (n + 1) }
    s.twr k Reg.TIME_PORTn_OFFSET.THETA Reg.TIME_SIBs_OFFSET.THETA (unsigned (Config.offsetFilter thetas) 32)

/-- An accepted mark: counters and what it says of the neighbour (R69, R82). -/
def State.notePeer (s : State) (k : Nat) (m : MarkFields) (auth : Bool) : State :=
  let x : PeerMark := { m := m, auth := auth, at_ := s.now }
  let s := s.setPtime k { s.ptime k with peer := some x, recent := x :: (s.ptime k).recent.filter fun y => s.now ≤ y.at_ + 50000 }
  let s := { s with time := { s.time with topTerm := max s.time.topTerm m.gmTerm } }
  let s := s.twr k Reg.TIME_PORTn_STAT.PEER_STATE Reg.TIME_SIBs_STAT.PEER_STATE m.state
  let s := s.twr k Reg.TIME_PORTn_STAT.PEER_HOPS Reg.TIME_SIBs_STAT.PEER_HOPS m.hops
  s.twr k Reg.TIME_PORTn_STAT.AUTH Reg.TIME_SIBs_STAT.AUTH (b2n auth)

/-- The full sequence number that `lo` stands for, near `next` (R115). -/
def fullSeq (next lo : Nat) : Nat :=
  let d := (lo + 65536 - next % 65536) % 65536
  if d < 32768 ∨ next + d < 65536 then next + d else next + d - 65536

/-- A control flit is discarded (R127). -/
def State.dropCtl (s : State) (n : Nat) : State :=
  (s.inc (Page.lpt n) Reg.LPTn_CTL_DROP.COUNT).err (Page.lpt n) Err.lpt.CTL_DROP { place := n, placeKind := 5 }

/-- FEC flagged a codeword of a unit: counted and reported (R120). -/
def State.fecBad (s : State) (n : Nat) : State :=
  (s.inc (Page.lpt n) Reg.LPTn_FEC_UNCORR_COUNT.COUNT).err (Page.lpt n) Err.lpt.FEC_UNCORR { place := n, placeKind := 5 }

/-- The control sequence number that link port `n` expects at the least, and the one that the low bits of an arriving flit stand for (R127). -/
def State.ctlNext (s : State) (n : Nat) : Nat := ((s.link n).rxCtl.map (· + 1)).getD 0
def State.ctlSeq (s : State) (n lo : Nat) : Nat := fullSeq (s.ctlNext n) lo

/-- A mark that is not accepted in UP is discarded and counted (R70, R127): by the link port; the spec gives a sibling port no counter. One
that fails authentication sets MARK_AUTH. -/
def State.dropMark (s : State) (k : Nat) (auth : Bool) : State :=
  let s := if k < 64 then s.dropCtl k else s
  if auth then s else s.struck Page.time Err.time.MARK_AUTH fun s => s.err Page.time Err.time.MARK_AUTH { place := k, placeKind := 5 }

/-- The stamps of an arriving mark are used: they calibrate, and those of an authenticated mark give an offset (R70, R71, R72). -/
def State.useStamps (s : State) (k : Nat) (m : MarkFields) (auth : Bool) (sub : Nat) : State :=
  let got := s.measure k m
  let s := (s.noteArrival k m (s.stamp sub)).reach sub
  match got with
  | some (cable, theta) => let s := s.calibrate k cable; if auth then s.acceptTheta k theta else s
  | none => s

/-- An authenticated mark is accepted (R65, R69, R71, R82). DESIGN CHOICE (log entry of the accepted marks): a mark whose offset is an outlier
is an accepted mark, and ACCEPTED counts it. -/
def State.acceptMark (s : State) (k : Nat) (m : MarkFields) (sub : Nat) : State :=
  let s := s.useStamps k m true sub
  let s := s.twr k Reg.TIME_PORTn_STAT.ACCEPTED Reg.TIME_SIBs_STAT.ACCEPTED
    (s.trd k Reg.TIME_PORTn_STAT.ACCEPTED Reg.TIME_SIBs_STAT.ACCEPTED + 1)
  (s.notePeer k m true).steer

/-- A mark of a sealed port: authentic, and at a link port above the last accepted control sequence number (R70, R127). -/
def State.sealedMark (s : State) (k : Nat) (m : MarkFields) (chk : UnitCheck) (unauth : Bool) (seqLo sub : Nat) : State :=
  if unauth || !chk.tagOk || (s.armedAt Page.time Err.time.MARK_AUTH).isSome then s.dropMark k false
  else if k < 64 then
    (if s.ctlNext k ≤ s.ctlSeq k seqLo then (s.setLink k { s.link k with rxCtl := some (s.ctlSeq k seqLo) }).acceptMark k m sub
     else s.dropMark k true)
  else s.acceptMark k m sub

/-- An incoming mark (R70, R71, R120, R127): unauthenticated stamps calibrate and nothing else; a spoiled mark is counted where it is spoiled. -/
def State.opMarkReceive (k : Nat) (m : MarkFields) (chk : UnitCheck) (unauth : Bool) (seqLo sub : Nat) (s : State) : State :=
  if chk.fecBad || chk.chkBad then
    let s := if chk.fecBad && decide (k < 64) then s.fecBad k else s
    if s.sealedPort k then s.dropMark k true else s
  else if s.sealedPort k then s.sealedMark k m chk unauth seqLo sub
  else s.useStamps k m false sub

/-! ### Commands -/

/-- A link port key that the block has. -/
def State.isTimePort (s : State) (k : Nat) : Bool := k < s.ports || (64 ≤ k && k - 64 < s.build.sibCount)

/-- MARK (R69). -/
def execMark (port sub : Nat) (s : State) : Res := guarded (s.serving && s.isTimePort port && s.marks port) s (State.opMark port sub)

/-- TB_CHECK_MISMATCH (R64): FREE, report, reload from the clean copy. -/
def execTbCheckMismatch (cleanA : Bool) (s : State) : Res :=
  let t := s.time
  let s := { s with time := if cleanA then { t with dtB := t.dtA, resB := t.resA } else { t with dtA := t.dtB, resA := t.resB } }
  .next (s.toFree.err Page.time Err.time.TB_CHECK)

/-- Steering by PPS: within 0.1 ppm of zero, at most 0.01 ppm per second (R66). -/
def State.ppsSteer (s : State) (e : Int) : State :=
  let r := s.rate
  s.setRate (clampInt (-109951) 109951 (clampInt (r - 10995) (r + 10995) (Config.rateServo (-e) r)))

/-- What a time-port grandmaster does with the error of an edge (R66, R67): a step, a discarded edge, or steering. -/
def State.ppsError (s : State) (e : Int) : State :=
  let p := Page.time
  if e > 256000 ∨ e < -256000 ∨ (s.armedAt p Err.time.PPS_RANGE).isSome then
    if s.rdb p Reg.TIME_CTRL.STEP_ALLOW && !s.anyActive && s.gaitDist == 15 && (s.armedAt p Err.time.PPS_RANGE).isNone then s.stepDt (-e)
    else s.struck p Err.time.PPS_RANGE fun s => s.err p Err.time.PPS_RANGE
  else s.ppsSteer e

/-- PPS_IN_EDGE (R66, R67). The second is added to TIME_TOD_NEXT with the edge: a write that host software makes after the edge replaces the
sum. DESIGN CHOICE (log entry of TIME_PPS_ERR): a difference beyond 32 signed bits is stored modulo 2^32. -/
def State.opPps (sub : Nat) (s : State) : State :=
  let p := Page.time
  let t := s.stamp sub
  let s := s.reach sub
  let s := ((s.wrPair p Reg.TIME_PPS_LAST_LO.NS_LO Reg.TIME_PPS_LAST_HI.NS_HI (t / 256)).wr p Reg.TIME_PPS_LAST_FRAC.FRAC (t % 256)).wr p
    Reg.TIME_STATUS.PPS_PRESENT 1
  let s := { s with time := { s.time with lastPps := some s.now } }
  if !(s.isGm && s.rdb p Reg.TIME_CTRL.SOURCE) then s else
  let tod := s.rdPair p Reg.TIME_TOD_NEXT_LO.NS Reg.TIME_TOD_NEXT_HI.NS
  let e : Int := (t : Int) - (tod * 256 : Nat)
  let s := s.wr p Reg.TIME_PPS_ERR.ERR (unsigned e 32)
  (s.wrPair p Reg.TIME_TOD_NEXT_LO.NS Reg.TIME_TOD_NEXT_HI.NS (tod + 1000000000)).ppsError e

def execPpsInEdge (sub : Nat) (s : State) : Res := .next (State.opPps sub s)

/-- PPS_LOST (R67): 1.1 s without an edge, the first 1.1 s included. -/
def execPpsLost (s : State) : Res :=
  let s := s.wr Page.time Reg.TIME_STATUS.PPS_PRESENT 0
  .next (if s.isGm && s.rdb Page.time Reg.TIME_CTRL.SOURCE then s.err Page.time Err.time.PPS_LOST else s)

/-- PPS_OUT_CROSSING (R68). -/
def execPpsOutCrossing (s : State) : Res :=
  guarded (s.rdb Page.time Reg.TIME_CTRL.PPS_OUT_EN) s fun s => { s with outs := { s.outs with ppsOut := true } }

/-- PPS_OUT_FALL (R497). -/
def execPpsOutFall (s : State) : Res := .next { s with outs := { s.outs with ppsOut := false } }

/-- A tack store slot. -/
def State.slot (s : State) (n : Nat) : Slot := SMap.getD s.trust.slots Slot.free n

/-- The slot that holds generation `g` of the domain link key, ACTIVE. -/
def State.dlkSlot (s : State) (g : Nat) : Option Nat :=
  (List.range 32).find? fun n => (s.slot n).kind == 5 && (s.slot n).state == 2 && (s.slot n).gen == g

/-- The ACTIVE generations. -/
def State.dlkActive (s : State) : List Nat :=
  ((List.range 32).filter fun n => (s.slot n).kind == 5 && (s.slot n).state == 2).map fun n => (s.slot n).gen

/-- The highest ACTIVE generation; 0 for none. -/
def State.dlkGen (s : State) : Nat := s.dlkActive.foldl max 0

/-- Is the block a candidate (R65)? -/
def State.candidate (s : State) : Bool :=
  !s.boot.post && s.rd Page.time Reg.TIME_GM_CFG.PRIO < 0xFF && s.dlkGen != 0

/-- Do marks at local times `l`, newest first, fill the time from `e` back to `b` with no gap of more than 8 mark intervals? -/
def marksFill (e b : Nat) : List Nat → Bool
  | [] => e ≤ b + 8192
  | a :: r => e ≤ a + 8192 && marksFill a b r

/-- Has link port `n` been UP with authenticated marks for the last 50 µs (R65)? DESIGN CHOICE (log entry of self-election): marks arrive for
that time when no 8 mark intervals of it pass without one. -/
def State.upWithMarks (s : State) (n : Nat) : Bool :=
  s.portUp n && (s.link n).upSince + 50000 ≤ s.now &&
    marksFill s.now (s.now - 50000) (((s.ptime n).recent.filter fun m => m.auth && s.now ≤ m.at_ + 50000).map fun m => m.at_)

/-- GM_SELF_ELECT (R65, R66, R79). -/
def execGmSelfElect (s : State) : Res :=
  guarded (s.serving && s.candidate && !s.isGm && s.rdb Page.time Reg.TIME_CTRL.STEER_EN && s.gmKnown.isNone
      && (List.range s.ports).any s.upWithMarks) s fun s =>
    let term := (s.time.topTerm + 1) % 65536
    let s := { s with time := { s.time with topTerm := term } }
    let s := s.setGm (s.rd Page.time Reg.TIME_GM_CFG.PRIO, (s.trust.join.map fun j => j.rank % 2 ^ 15).getD 0) term
    let p := Page.time
    let s := (((s.wr p Reg.TIME_STATUS.STATE 2).wr p Reg.TIME_STATUS.IS_GM 1).wr p Reg.TIME_STATUS.HOPS 0).wr p
      Reg.TIME_STATUS.PARENT_VALID 0
    let s := s.lockTo s.gmNow false
    if s.rdb p Reg.TIME_CTRL.SOURCE then s else s.setRate 0

/-- PARENT_LOST (R79): 8 mark intervals have passed: another parent, or HOLDOVER. -/
def execParentLost (s : State) : Res :=
  guarded (s.serving && s.timeState == 2 && !s.isGm) s fun s =>
    match s.gmNow with
    | some g => if (s.chooseParent g).isSome then s.changeParent g else s.toHoldover
    | none => s.toHoldover

/-- GM_LOST (R79): 50 µs without a LOCKED grandmaster named. A block in FREE then knows none (R82). -/
def execGmLost (s : State) : Res :=
  guarded s.serving s fun s =>
    if s.timeState = 1 then s.err Page.time Err.time.GM_LOST
    else if s.timeState = 0 && s.gmKnown.isNone then s.wr Page.time Reg.TIME_GM_ID.VALID 0
    else s

/-- HOLDOVER_EXPIRED (R79). -/
def execHoldoverExpired (s : State) : Res :=
  guarded (s.up && s.timeState == 1) s fun s => s.toFree.err Page.time Err.time.HOLDOVER_EXPIRED

/-- A write of RWL fields: on a locked page it is ignored, with LOCK_VIOL when it would have changed one (R51). -/
def State.unlocked (s : State) (pg : Page) (changes : Bool) (f : State → State) : State :=
  if !s.locked pg then f s else if changes then s.err pg Err.LOCK_VIOL else s

/-- STEER_DISABLE (R79, R82). -/
def execSteerDisable (p : Party) (s : State) : Res :=
  s.action p Page.time fun s => s.unlocked Page.time (s.rdb Page.time Reg.TIME_CTRL.STEER_EN) fun s =>
    (((s.wr Page.time Reg.TIME_CTRL.STEER_EN 0).toFree).setRate 0)

end Sys2Proof.Machine
end

