-- ==== Sys2Proof/Machine/Send.lean ====
section
/-! DEFINITION. The transmit side that every family shares: the domain link key in use (R116, R386), sealing and sending a data
frame (R112 to R119), the open windows and their arbiter (R86, R100), and loose frames that wait for them (R102, R182, R356). -/

namespace Sys2Proof.Machine

/-! ### Identity and keys -/

/-- PORT_ID of link port `n` (R116). DESIGN CHOICE (log entry of the port identity): a block with neither a join record nor a valid station puts
rank 0. -/
def State.portId (s : State) (n : Nat) : Nat :=
  s.ownId.getD 0 % 2 ^ 15 + (if s.boot.post then 2 ^ 15 else 0) + n % 64 * 2 ^ 16

/-- The direction key from X to Y in epoch `e` (R116). -/
def dirKey (dlk : List Byte) (nonceX nonceY portX portY e : Nat) : Key256 :=
  let prk := Config.hmac (beBytes 8 nonceX ++ beBytes 8 nonceY) dlk
  BitVec.ofNat 256 (ofBe (Config.hkdfExpand (beBytes 48 prk.toNat)
    (ascii "dz1 link dir" ++ beBytes 4 portX ++ beBytes 4 portY ++ beBytes 4 e) 32))

/-- PORT_ID of sibling port `p` of a block with that rank or station (R116, R495). -/
def sibPortId (id : Nat) (post : Bool) (p : Nat) : Nat := id % 2 ^ 15 + (if post then 2 ^ 15 else 0) + p % 64 * 2 ^ 16 + 2 ^ 22

/-- The key bytes of a DLK generation. -/
def State.dlkBytes (s : State) (g : Nat) : List Byte := ((s.dlkSlot g).map fun n => (s.slot n).payload.take 32).getD []

/-- The transmit key of port `n` in epoch `e` under generation `g`. -/
def State.txDirKey (s : State) (n e g : Nat) : LinkKey :=
  let l := s.link n
  { key := dirKey (s.dlkBytes g) l.nonceOwn (l.noncePeer.getD 0) (s.portId n) (s.rd (Page.lpt n) Reg.LPTn_PEER_ID.PORT_ID) e, gen := g }

/-- The sibling port by which instance (own + p + 1) faces this block's sibling port `p` (R495): its port s with s + p + 2 = SIB_COUNT + 1. -/
def State.facing (s : State) (p : Nat) : Nat := s.build.sibCount - 1 - p

/-- The keys of sibling port `p` under generation `g`, transmit and receive, in epoch 0: the nonces and the far end's rank come from no training,
and are the model's open constants (R116, R495). -/
def State.sibKeys (s : State) (p g : Nat) : LinkKey × LinkKey :=
  let far := (s.boot.inst + p + 1) % (s.build.sibCount + 1)
  let me := sibPortId (s.ownId.getD 0) s.boot.post p
  let it := sibPortId (Config.sibRank far) s.boot.post (s.facing p)
  let x := Config.sibNonce s.boot.inst p
  let y := Config.sibNonce far (s.facing p)
  ({ key := dirKey (s.dlkBytes g) x y me it 0, gen := g }, { key := dirKey (s.dlkBytes g) y x it me 0, gen := g })

/-- The receive key. -/
def State.rxDirKey (s : State) (n e g : Nat) : LinkKey :=
  let l := s.link n
  { key := dirKey (s.dlkBytes g) (l.noncePeer.getD 0) l.nonceOwn (s.rd (Page.lpt n) Reg.LPTn_PEER_ID.PORT_ID) (s.portId n) e, gen := g }

/-! ### Sending data frames -/

/-- Bytes of a data frame on the wire (R111). -/
def frameBytes (f : DataFrame) : Nat := f.hdr.flits * 256

/-- Wire time of a frame of `flits` flits in units of 0.01 ns (R87). -/
def wireTime (flits : Nat) : Nat := 128 * flits + 16

/-- DT in units of 0.01 ns: the scale of wire times. -/
def State.wireNow (s : State) : Nat := s.dt * 25 / 64

/-- Frames sealed under the current key. -/
def State.keyFrames (s : State) (n : Nat) : Nat :=
  s.rdPair (Page.lpt n) Reg.LPTn_KEY_FRAMES_LO.COUNT Reg.LPTn_KEY_FRAMES_HI.COUNT

/-- LOG2_FRAMES. -/
def State.log2Frames (s : State) (n : Nat) : Nat := s.rd (Page.lpt n) Reg.LPTn_REKEY_CFG.LOG2_FRAMES

/-- Has port `n` used up its key (R118)? -/
def State.keySpent (s : State) (n : Nat) : Bool := (s.link n).stalled || 2 ^ s.log2Frames n ≤ s.keyFrames n

/-- When the wire of port `n` is free for a frame that is ready now, DT in 0.01 ns. -/
def State.wireFree (s : State) (n : Nat) : Nat := max (s.link n).freeAt s.wireNow

/-- Seal a frame under the current transmit key, keep it in the replay buffer and send it (R112, R114, R118, R119); it leaves at `t`, DT in
0.01 ns, and holds the wire for its wire time (R87). A port that is not in UP, or has used up its key, sends nothing. -/
def State.sendFrameAt (s : State) (n t : Nat) (f : DataFrame) : State :=
  let l := s.link n
  if !s.portUp n || s.keySpent n then s else
  let epoch := s.rd (Page.lpt n) Reg.LPTn_EPOCH.EPOCH
  let f := { f with hdr := { f.hdr with fver := s.rd (Page.lpt n) Reg.LPT_STATUS.LINK_VER, seqLo := l.txSeq % 65536, keyPh := epoch % 2 } }
  let p := Page.lpt n
  let s := s.wakeSlots [0x40 + n]
  let s := s.wrPair p Reg.LPTn_KEY_FRAMES_LO.COUNT Reg.LPTn_KEY_FRAMES_HI.COUNT (s.keyFrames n + 1)
  let s := s.cnt (if f.hdr.ftype = 1 then 4 else 2) f.data.length
  (s.setLink n { l with txSeq := l.txSeq + 1, freeAt := t + wireTime f.hdr.flits, replay := l.replay ++ [(l.txSeq, f)] }).emit
    (.frame n l.txSeq epoch f)

/-- Send a frame as soon as the wire is free. -/
def State.sendFrame (s : State) (n : Nat) (f : DataFrame) : State := s.sendFrameAt n (s.wireFree n) f

/-! ### Open windows -/

/-- The image that port `n` executes. -/
def State.activeImage (s : State) (n : Nat) : Option GaitImage :=
  if s.rdb Page.gait Reg.GAIT_PORTn_STATE.ACTIVE n then
    let b := SMap.getD s.gait.banks { a := none, b := none } n
    if s.rdb Page.gait Reg.GAIT_PORTn_STATE.ACTIVE_BANK n then b.b else b.a
  else none

/-- SWAP_STATE (R93). -/
def State.swapState (s : State) : Nat := s.rd Page.gait Reg.GAIT_STATUS.SWAP_STATE

/-- Guard band of a stride (R89). -/
def GaitImage.guardOf (g : GaitImage) (d : Stride) : Nat := if d.guard_ = 0 then g.guardDef else d.guard_

/-- Position within the period of an image now (R84). -/
def State.phase (s : State) (g : GaitImage) : Nat := if g.period = 0 then 0 else s.dtNs % g.period

/-- Is the footprint of a stride open now (R86)? -/
def State.footOpen (s : State) (g : GaitImage) (d : Stride) : Bool :=
  d.start ≤ s.phase g && s.phase g < d.start + d.dur + d.slack

/-- Has the block stopped, and its drain ended (R228, R229)? Then no window carries anything until a swap. -/
def State.silenced (s : State) : Bool := s.sync.gaitStopped && !s.sync.draining

/-- The open stride of port `n` in a direction whose footprint is open now, with its image; one whose stored word is bad does not run
(R110). -/
def State.openStride (s : State) (n : Nat) (rx : Bool) : Option (GaitImage × Stride) :=
  if s.swapState = 3 || s.silenced then none else
  match s.activeImage n with
  | none => none
  | some g => (g.strides.find? fun d => d.cls == 2 && d.rx == rx && !d.bad && s.footOpen g d).map fun d => (g, d)

/-- When the frames of a stride whose footprint is open now must be on the wire: S + D − G + L, DT in 0.01 ns (R86). -/
def State.spanEnd (s : State) (g : GaitImage) (d : Stride) : Nat := (s.dtNs - s.phase g + (d.start + d.dur - g.guardOf d + d.slack)) * 100

/-- The limit of the transmit footprint of port `n` that is open now (R86); none outside every footprint. -/
def State.sendLimit (s : State) (n : Nat) : Option Nat :=
  (s.activeImage n).bind fun g => (g.strides.find? fun d => !d.rx && s.footOpen g d).map fun d => s.spanEnd g d

/-- May port `n` send loose traffic in the open stride `d` (R80, R118)? -/
def State.mayOpen (s : State) (n : Nat) (g : GaitImage) (d : Stride) : Bool :=
  s.portUp n && !s.keySpent n && s.swapState != 3 && !s.silenced && s.firmOk (g.guardOf d)

/-- Frames that wait at port `n`. -/
def State.looseOf (s : State) (n : Nat) : List LooseItem := SMap.getD s.gait.loose [] n
def State.setLoose (s : State) (n : Nat) (l : List LooseItem) : State :=
  { s with gait := { s.gait with loose := SMap.put s.gait.loose [] n l } }

/-- Late remainders and hitch frames go ahead of all loose traffic (R103, R218). -/
def LooseItem.ahead (x : LooseItem) : Bool := x.f.hdr.ftype == 0 || x.f.hdr.lkind == 5

/-- Weight of a share (R100, R109). -/
def State.shareWeight (s : State) (sh : Nat) : Nat :=
  match sh % 4 with
  | 0 => s.rd Page.gait Reg.GAIT_SHARE_W.WEIGHT0 (sh / 4)
  | 1 => s.rd Page.gait Reg.GAIT_SHARE_W.WEIGHT1 (sh / 4)
  | 2 => s.rd Page.gait Reg.GAIT_SHARE_W.WEIGHT2 (sh / 4)
  | _ => s.rd Page.gait Reg.GAIT_SHARE_W.WEIGHT3 (sh / 4)

/-- Credit of a VF's bucket now, at most 64 KiB; 1 GB/s is 1 byte per ns (R356). -/
def State.bucket (s : State) (fn : Nat) : Nat :=
  let f := s.fnOf fn
  min 65536 (f.rate + s.rd (Page.vf fn) Reg.VFn_LOOSE.GBPS * (s.now - f.rateAt))

/-- Charge a frame to its function's bucket: whether it may go, and the state (R356). -/
def State.charge (s : State) (fn bytes : Nat) : Bool × State :=
  if fn = 0 then (true, s) else
  let b := s.bucket fn
  if b < bytes then (false, s) else (true, s.setFn fn { s.fnOf fn with rate := b - bytes, rateAt := s.now })

/-- Does a frame that leaves as soon as the wire is free fit before `e`, DT in 0.01 ns? -/
def State.fitsBy (s : State) (n e : Nat) (f : DataFrame) : Bool := s.wireFree n + wireTime f.hdr.flits ≤ e

/-- Send the frames that go ahead of the arbiter, in order, before `e`: what is left of them, and the state. The first that does not fit
keeps its place, and those behind it wait (R103, R105). -/
def State.sendAhead (n e : Nat) : List LooseItem → State → List LooseItem × State
  | [], s => ([], s)
  | x :: r, s => if s.fitsBy n e x.f then State.sendAhead n e r (s.sendFrame n x.f) else (x :: r, s)

/-! The arbiter (R100): deficit round robin over shares. A round goes on from window to window; the credit that a share has left over stays
with it while it has no traffic waiting (DESIGN CHOICE, log entry of the arbiter). -/

/-- Key of a share's credit at a port. -/
def creditKey (n sh : Nat) : Nat := n * 1024 + sh

/-- Credit of a share at a port. -/
def State.credit (s : State) (n sh : Nat) : Nat := SMap.getD s.gait.credits 0 (creditKey n sh)
def State.setCredit (s : State) (n sh c : Nat) : State :=
  { s with gait := { s.gait with credits := SMap.put s.gait.credits 0 (creditKey n sh) c } }

/-- The shares still to be served in the round at a port. -/
def State.round (s : State) (n : Nat) : List Nat := SMap.getD s.gait.rounds [] n
def State.setRound (s : State) (n : Nat) (l : List Nat) : State :=
  { s with gait := { s.gait with rounds := SMap.put s.gait.rounds [] n l } }

/-- Shares of nonzero weight with traffic waiting, in the order of their first frames. -/
def State.waitingShares (s : State) (l : List LooseItem) : List Nat :=
  (l.map fun x => x.f.hdr.share).eraseDups.filter fun sh => s.shareWeight sh != 0

/-- A round begins: every share with traffic waiting gains WEIGHT × 512 B of credit. -/
def State.newRound (s : State) (n : Nat) (l : List LooseItem) : State :=
  let shares := s.waitingShares l
  (shares.foldl (fun s sh => s.setCredit n sh (s.credit n sh + s.shareWeight sh * 512)) s).setRound n shares

/-- The frame that the arbiter sends next out of `l`, when one may be sent: the first of the share that is being served, while its credit
covers the payload; else the next share is served, and after the last one a round begins. -/
def State.pick : Nat → Nat → List LooseItem → State → Option LooseItem × State
  | 0, _, _, s => (none, s)
  | fuel + 1, n, l, s =>
    match s.round n with
    | [] => if (s.waitingShares l).isEmpty then (none, s) else State.pick fuel n l (s.newRound n l)
    | sh :: r =>
      match l.find? fun x => x.f.hdr.share == sh with
      | some x => if frameBytes x.f ≤ s.credit n sh then (some x, s) else State.pick fuel n l (s.setRound n r)
      | none => State.pick fuel n l (s.setRound n r)

/-- Count a frame that its function's credit holds, once (R356). -/
def State.countHeld (s : State) (x : LooseItem) : State := if x.held then s else s.inc (Page.vf x.fn) Reg.VFn_LOOSE_HELD.COUNT

/-- Send what the arbiter picks out of `l`, before `e`: the frames left, and the state. A frame that no longer fits ends the window and stays
first; a frame that its function's credit holds waits, behind no other function's frames (R356). -/
def State.arbitrate : Nat → Nat → Nat → List LooseItem → State → List LooseItem × State
  | 0, _, _, l, s => (l, s)
  | fuel + 1, n, e, l, s =>
    let r := State.pick ((s.round n).length + 10 * (l.length + 1)) n l s
    match r.1 with
    | none => (l, r.2)
    | some x =>
      if !r.2.fitsBy n e x.f then (l, r.2) else
      let y := r.2.charge x.fn (frameBytes x.f)
      if y.1 then
        State.arbitrate fuel n e (l.erase x) ((y.2.setCredit n x.f.hdr.share (y.2.credit n x.f.hdr.share - frameBytes x.f)).sendFrame n x.f)
      else
        let z := State.arbitrate fuel n e (l.filter fun i => i.fn != x.fn) (y.2.countHeld x)
        ((l.filter fun i => i.fn == x.fn || z.1.contains i).map fun i => if i = x then { i with held := true } else i, z.2)

/-- Is loose admission stopped (R102)? -/
def State.shedding (s : State) : Bool := s.rdb Page.gait Reg.GAIT_STATUS.SHEDDING

/-- Count the frames that shedding holds back, each once (R102). -/
def State.shed (s : State) (n : Nat) : State :=
  let l := s.looseOf n
  let k := (l.filter fun x => !x.ahead && !x.shed).length
  (s.setLoose n (l.map fun x => if x.ahead then x else { x with shed := true })).add Page.gait Reg.GAIT_PORTn_SHED.COUNT k n

/-- Fill an open window of port `n` up to `e`, DT in 0.01 ns: late remainders and hitch frames first, then the arbiter (R100, R102). -/
def State.drainLoose (s : State) (n e : Nat) : State :=
  let l := s.looseOf n
  let a := State.sendAhead n e (l.filter fun x => x.ahead) s
  let rest := l.filter fun x => !x.ahead
  if s.shedding then (a.2.setLoose n (a.1 ++ rest)).shed n
  else if !a.1.isEmpty then a.2.setLoose n (a.1 ++ rest)
  else
    let x := State.arbitrate (2 * rest.length + 1) n e rest a.2
    x.2.setLoose n x.1

/-- Bytes of payload that wait at port `n`. -/
def State.looseBytes (s : State) (n : Nat) : Nat := ((s.looseOf n).map fun x => (frameBytes x.f)).foldl (· + ·) 0

/-- What waits at port `n` goes out when an open window permits it now (R80, R86). -/
def State.tryLoose (s : State) (n : Nat) : State :=
  match s.openStride n false with
  | some (g, d) => if s.mayOpen n g d then s.drainLoose n (s.spanEnd g d) else s
  | none => s

/-- Hand a loose frame, late remainder or hitch frame to port `n`: it goes at once in an open window when its turn comes, else it waits; a
Post block's buffer of 256 KiB discards what does not fit (R182). -/
def State.queueLoose (s : State) (n : Nat) (f : DataFrame) (fn : Nat := 0) : State :=
  let x : LooseItem := { f := f, at_ := s.now, fn := fn, shed := false, held := false }
  if s.boot.post && s.looseBytes n + (frameBytes f) > 262144 then
    (s.inc Page.cmb Reg.CMB_LOOSE_DROP.COUNT).err Page.cmb Err.cmb.LOOSE_DROP { place := n, placeKind := 5 }
  else (s.setLoose n (s.looseOf n ++ [x])).tryLoose n

/-! ### Loose frames -/

/-- The header of a loose frame that this block originates (R112). -/
def State.looseHdr (s : State) (lkind share dst flits : Nat) : FrameHdr :=
  { fver := 1, ftype := 1, flits := flits, last := true, sig := false, empty := false, late := false, cover := false, keyPh := 0,
    srcRank := s.ownId.getD 0, srcPost := s.boot.post, stride := 0, coverPlane := 0, periodLo := 0, share := share, lkind := lkind,
    seqLo := 0, dstRank := dst }

/-- A loose frame with a payload, padded to whole flits (R111, R113). -/
def State.looseFrame (s : State) (lkind share dst : Nat) (data : List Byte) (poison : Nat := 0) : DataFrame :=
  let flits := max 1 ((data.length + 255) / 256)
  { hdr := s.looseHdr lkind share dst flits, data := slice data 0 (flits * 256), poison := poison, sigCode := 0, sigRef := 0 }

/-- The planes a Mount block may use, in port order: ports in UP whose plane is not down (R106, R189). -/
def State.planeDown (s : State) (p : Nat) : Bool :=
  !s.portUp p || bit (s.rd Page.gait Reg.GAIT_PLANE_DOWN.PLANE) p || s.gait.pdnPlanes.contains p
def State.usablePlanes (s : State) : List Nat := (List.range s.ports).filter fun p => !s.planeDown p

/-- Does domain time permit loose traffic at all (R80)? FREE forbids it. -/
def State.looseTime (s : State) : Bool := s.timeState != 0

end Sys2Proof.Machine
end

