-- ==== Sys2Proof/Machine/Coh.lean ====
section
/-! DEFINITION. Accesses of compute ports and other ranks, and the herd directory that keeps them coherent (R195 to R199): the lines of
the enabled windows, their states and transactions, the snoops of members, lost lines, the flush. -/

namespace Sys2Proof.Machine

/-! ### Answers and accesses -/

/-- Is the compute in reset (R443, R482)? -/
def State.computeReset (s : State) : Bool := !s.outs.crstN

/-- A request or reply of another generation is discarded (R444). -/
def State.staleGen (s : State) : State := (s.inc Page.err Reg.ERR_STALE_GEN.COUNT).err Page.err Err.err.STALE_GEN

/-- Answer at a compute port, unless the generation has passed (R444, R486). -/
def State.dcpAnswer (s : State) (port tag gen status : Nat) (data : List Byte) (poison : Nat) : State :=
  if gen = s.rd Page.fe Reg.FE_GEN.GEN ∧ !s.computeReset then s.emit (.dcpRsp port tag gen status data poison) else s.staleGen

/-- POISON_MAP of a response frame whose data begins at byte 16, from the poison of the data's units (R113). -/
def rspMap (poison n : Nat) : Nat :=
  (List.range n).foldl (fun m k => if bit poison k then m ||| 2 ^ ((16 + 16 * k) / 256) else m) 0

/-- The response record of R186. -/
def rspBytes (status tag : Nat) (data : List Byte) : List Byte :=
  let len8 := if data.isEmpty then 0 else (data.length + 7) / 8 - 1
  let body := leBytes 8 (status % 256 + len8 % 32 * 2 ^ 8 + tag % 65536 * 2 ^ 32) ++ leBytes 8 0 ++ data
  slice body 0 ((body.length + 31) / 32 * 32)

/-- Answer an access: at a compute port, or with a response frame on the port the request came in by (R186, R484). -/
def State.answer (s : State) (r : Reply) (status : Nat) (data : List Byte) (poison : Nat) : State :=
  match r with
  | .none => s
  | .dcp port tag gen => s.dcpAnswer port tag gen status data poison
  | .rmt rank tag port share => s.queueLoose port (s.looseFrame 1 share rank (rspBytes status tag data) (rspMap poison (data.length / 16 + 1)))

/-- The master of an access (R248). -/
def State.accMaster (s : State) (h : HeldAcc) : Master :=
  if h.cls = 0 then s.ctxMaster h.ctx else { cls := h.cls, fn := h.fn, share := h.share, rank := h.rank }

/-- Bytes of an atomic's word (R184). -/
def atomBytes (op : Nat) : Nat := if op / 16 = 2 then 4 else 8

/-- Does an atomic return the old value (R184)? -/
def returnsOld (op : Nat) (fetch : Bool) : Bool := fetch || op % 16 == 1 || op % 16 == 2

/-- Were the lines of a range lost with a herd member (R199)? -/
def State.lostLines (s : State) (off len : Nat) : Bool := s.coh.lost.any fun l => l * 64 < off + len && off < l * 64 + 64

/-- A home's answer of a refusal is counted (R205, R206). -/
def State.countHome (s : State) (r : Reply) (status : Nat) : State :=
  match r with
  | .rmt _ _ _ _ =>
    let s := if [1, 2, 3, 5, 6].contains status then s.inc Page.gw Reg.GW_REFUSE_COUNT.COUNT else s
    let s := if status = 0 ∨ status = 4 then s.cnt 12 1 else s
    if status = 3 then s.err Page.gw Err.gw.NOT_OWNER else if status = 1 then s.err Page.gw Err.gw.BAD_ADDRESS else s
  | _ => s

/-- A line whose granule no longer holds poison is no longer lost. -/
def State.dropLost (s : State) : State :=
  { s with coh := { s.coh with lost := s.coh.lost.filter fun l => s.granPoisoned (s.granStart (l * 64)) } }

/-- Perform an access and answer it (R184, R186, R187). Poison left by a lost herd member is named so (R199). -/
def State.performAcc (s : State) (h : HeldAcc) : State :=
  let m := s.accMaster h
  let lost := s.lostLines h.off (max h.len 8)
  let a := match h.op with
    | 1 => s.readAs m h.off h.len
    | 2 => s.writeStrobed m h.off h.data h.strb
    | _ => s.atomicAs m h.off (atomBytes h.op) (h.op % 16) h.opnd0 h.opnd1
  let data := if h.op = 1 then (if a.status = St.OK ∨ a.status = St.POISON then a.data else [])
    else if h.op = 2 then []
    else if returnsOld h.op h.fetch && a.status == St.OK then slice a.data 0 8 else []
  let st := if a.status = St.POISON && lost then 0x09 else a.status
  let s := if h.op = 1 then a.st else a.st.dropLost
  (s.countHome h.reply st).answer h.reply st data a.poison

/-- Does an access write? -/
def HeldAcc.writes (h : HeldAcc) : Bool := h.op != 1

/-- The lines of 64 bytes that an access touches. -/
def HeldAcc.lines (h : HeldAcc) : List Nat :=
  let n := max 1 (if h.op ≤ 2 then h.len else 8)
  (List.range ((h.off + n - 1) / 64 - h.off / 64 + 1)).map (· + h.off / 64)

/-! ### Coherence frames (R189, R196) -/

/-- The plane of a direct request (R189), by destination and address; none when no plane is usable. -/
def State.directPlane (s : State) (dst addr : Nat) : Option Nat :=
  let u := s.usablePlanes
  u[kh s.mem.plKey (dst * 2 ^ 37 + bits addr 8 37) % u.length]?

/-- Messages of R196. -/
abbrev Cm.RD_S : Nat := 0x01
abbrev Cm.RD_M : Nat := 0x02
abbrev Cm.UPG : Nat := 0x03
abbrev Cm.WB : Nat := 0x04
abbrev Cm.EVS : Nat := 0x05
abbrev Cm.DATA_S : Nat := 0x11
abbrev Cm.DATA_M : Nat := 0x12
abbrev Cm.UPG_ACK : Nat := 0x13
abbrev Cm.WB_ACK : Nat := 0x14
abbrev Cm.INV : Nat := 0x15
abbrev Cm.SNP_S : Nat := 0x16
abbrev Cm.SNP_I : Nat := 0x17
abbrev Cm.HERD_FLUSH : Nat := 0x18
abbrev Cm.INV_ACK : Nat := 0x21
abbrev Cm.SNP_RSP : Nat := 0x22
abbrev Cm.FLUSH_DONE : Nat := 0x23

/-- The bytes of a coherence record. -/
def cohBytes (cm : Nat) (lost : Bool) (tid addr : Nat) (data : List Byte) : List Byte :=
  leBytes 8 (cm + b2n lost * 2 ^ 8 + tid % 65536 * 2 ^ 16) ++ leBytes 8 addr ++ List.replicate 16 0 ++ data

/-- Send a coherence record to a rank, on the plane of its line. -/
def State.sendCoh (s : State) (dst share cm : Nat) (lost : Bool) (tid addr : Nat) (data : List Byte) (poison : Bool := false) : State :=
  match s.directPlane dst addr with
  | some p => s.queueLoose p (s.looseFrame 2 share dst (cohBytes cm lost tid addr data) (b2n poison))
  | none => s

/-! ### The directory -/

def State.dirLine (s : State) (l : Nat) : DirLine := SMap.getD s.coh.dir DirLine.empty l

/-- Is an entry of the directory in use: its line held by some member, or in a transaction? -/
def DirLine.inUse (d : DirLine) : Bool := d.st != .invalid || d.tx.isSome

/-- Show the entries in use. -/
def State.showDir (s : State) : State := s.wr Page.coh Reg.COH_DIR_USED.COUNT (s.coh.dir.filter fun e => e.2.inUse).length

def State.putLine (s : State) (l : Nat) (d : DirLine) : State :=
  let d := if d.st = .invalid ∧ d.tx = none ∧ d.queue.isEmpty then DirLine.empty else d
  ({ s with coh := { s.coh with dir := SMap.put s.coh.dir DirLine.empty l d } }).showDir

/-- Is a line of local memory herd-coherent (R195)? -/
def State.herdLine (s : State) (l : Nat) : Bool :=
  s.rdb Page.coh Reg.COH_STATUS.ACTIVE &&
  (List.range 4).any fun k =>
    let b := s.rd Page.coh Reg.COH_WINk_BASE.BASE_MIB k * 2 ^ 20
    s.rdb Page.coh Reg.COH_WINk_BASE.EN k && b ≤ l * 64 && l * 64 < b + s.rd Page.coh Reg.COH_WINk_SIZE.SIZE_MIB k * 2 ^ 20

/-- Own slot, and the number of members. -/
def State.mySlot (s : State) : Nat := s.rd Page.coh Reg.COH_HERD_CFG.MY_SLOT
def State.herdSize (s : State) : Nat := min 8 (s.rd Page.coh Reg.COH_HERD_CFG.SIZE)

/-- The global address of a local line. -/
def State.lineAddr (s : State) (l : Nat) : Nat := s.selfRank.getD 0 * 2 ^ 45 + l * 64

def slotMask (k : Nat) : BitVec 8 := BitVec.ofNat 8 (if k < 8 then 2 ^ k else 0)
def maskSlots (m : BitVec 8) : List Nat := (List.range 8).filter fun k => m.getLsbD k

/-- Offer a snoop to the own compute (R482, R485): message, home, the home's identifier, the line's address. -/
def State.snoopCompute (s : State) (home cm tid addr : Nat) : State :=
  let t := s.coh.nextTid
  let op := if cm = Cm.INV then 1 else if cm = Cm.SNP_S then 2 else if cm = Cm.SNP_I then 3 else 4
  ({ s with coh := { s.coh with nextTid := (t + 1) % 65536, snoops := SMap.set s.coh.snoops t (home, cm, tid, addr) } }).emit
    (.snoop op addr t)

/-- The home writes a line, poisoned when it came so (R197). -/
def State.homeWrite (s : State) (l : Nat) (data : List Byte) (poison : Bool) : State :=
  let s := (s.writePhys (l * 64) (slice data 0 64) (if poison then 15 else 0) false).2
  { s with coh := { s.coh with lost := s.coh.lost.filter (· != l) } }

/-- The home's line is lost with its owner: it is written poisoned (R199). -/
def State.loseLine (s : State) (l : Nat) : State :=
  let s := (s.writePhys (l * 64) (s.bytesAt (l * 64) 64) 15 false).2
  let s := { s with coh := { s.coh with lost := insertUp s.coh.lost l } }
  (s.inc Page.coh Reg.COH_LOST_COUNT.COUNT).err Page.coh Err.coh.COH_LOST { place := l * 64, placeKind := 1 }

/-- A member's answer to the snoop of a line's transaction; another answer is discarded. An owner that answers without data has lost the line
(R199), unless the gait has overwritten it (R198). -/
def State.memberAnswer (s : State) (l slot tid : Nat) (data : Option (List Byte × Bool)) : State :=
  let d := s.dirLine l
  match d.tx with
  | none => s
  | some t =>
    if !t.wait.getLsbD slot || t.sid != tid then s else
    let gait := t.op == 0x13
    s.putLine l { d with tx := some { t with
      wait := t.wait &&& ~~~slotMask slot
      data := if gait then t.data else if data.isSome then data else t.data
      lost := t.lost || (!gait && data.isNone && d.st == .modified slot) } }

/-- Ask a member of a line's transaction: a frame, a snoop of the own compute, or, while that is in reset, its answer at once (R199). -/
def State.askMember (s : State) (l cm tid slot : Nat) : State :=
  if slot = s.mySlot then
    if s.computeReset then s.memberAnswer l slot tid none else s.snoopCompute (s.selfRank.getD 0) cm tid (s.lineAddr l)
  else s.sendCoh (s.herdRank slot) 0 cm false tid (s.lineAddr l) []

/-- Begin a transaction that asks the members of a mask. -/
def State.startDirTx (s : State) (l slot op tag cm : Nat) (who : BitVec 8) : State :=
  let d := s.dirLine l
  let sid := s.coh.nextTid
  let s := { s with coh := { s.coh with nextTid := (sid + 1) % 65536 } }
  let s := s.putLine l { d with tx := some { asker := slot, op := op, tag := tag, sid := sid, wait := who, data := none, lost := false } }
  (maskSlots who).foldl (fun s k => s.askMember l cm sid k) s

/-- Answer an own coherent request (R195). -/
def State.ownCoh (s : State) (tid status : Nat) (data : List Byte) (poison : Nat) : State :=
  match SMap.find? s.coh.reqs tid with
  | none => s
  | some (port, tag, gen) =>
    ({ s with coh := { s.coh with reqs := SMap.erase s.coh.reqs tid } }).dcpAnswer port tag gen status data poison

/-- The home's answer to a requester (R197). -/
def State.homeReply (s : State) (l slot cm tid : Nat) : State :=
  let withData := cm == Cm.DATA_S || cm == Cm.DATA_M
  let r := if withData then s.readPhys (l * 64) 64 else ([], 0, s)
  let s := r.2.2
  if slot = s.mySlot then
    s.ownCoh tid (if r.2.1 = 0 then St.OK else if s.coh.lost.contains l then 0x09 else St.POISON) r.1 r.2.1
  else s.sendCoh (s.herdRank slot) 0 cm (s.coh.lost.contains l && withData) tid (s.lineAddr l) r.1 (r.2.1 != 0)

/-- Set a line's state and mark its use. -/
def State.setDir (s : State) (l : Nat) (st : DirState) : State :=
  let s := { s with coh := { s.coh with useNo := s.coh.useNo + 1 } }
  s.putLine l { s.dirLine l with st := st, used := s.coh.useNo }

/-- The other lines of a line's set (R197). -/
def State.setMates (s : State) (l : Nat) : List Nat := (s.coh.dir.filter fun e => e.1 % 65536 == l % 65536 && e.1 != l).map Prod.fst

/-- Has the set of a line no free way? -/
def State.setFull (s : State) (l : Nat) : Bool := 16 ≤ ((s.setMates l).filter fun k => (s.dirLine k).inUse).length

/-- The way to be freed in the set of a line: the least recently used without a transaction; none while one is being freed (R197). -/
def State.dirVictim (s : State) (l : Nat) : Option Nat :=
  let set := (s.setMates l).filter fun k => (s.dirLine k).inUse
  if set.any fun k => ((s.dirLine k).tx.map fun t => t.op == 0x12).getD false then none
  else (set.filter fun k => (s.dirLine k).tx.isNone).foldl (fun (b : Option Nat) k => match b with
    | none => some k
    | some x => if (s.dirLine k).used < (s.dirLine x).used then some k else some x) none

/-- A line that must come into the directory finds its set full: the set gives up a way (R197). -/
def State.makeRoom (s : State) (l : Nat) : State :=
  match s.dirVictim l with
  | none => s
  | some v =>
    let s := s.inc Page.coh Reg.COH_BACKINV.COUNT
    match (s.dirLine v).st with
    | .shared m => s.startDirTx v 0 0x12 0 Cm.INV m
    | .modified o => s.startDirTx v 0 0x12 0 Cm.SNP_I (slotMask o)
    | .invalid => s

/-- Process a request at a line without a transaction (R197, R198); `false`: it waits until its set has a way for it. -/
def State.cohApply (s : State) (l slot op tag : Nat) : Bool × State :=
  let m := slotMask slot
  match (s.dirLine l).st with
  | .invalid =>
    if op ≥ 0x10 then (true, s)
    else if s.setFull l then (false, s.makeRoom l)
    else if op = 1 then (true, (s.setDir l (.shared m)).homeReply l slot Cm.DATA_S tag)
    else (true, (s.setDir l (.modified slot)).homeReply l slot Cm.DATA_M tag)
  | .shared v =>
    (true, if op = 0x10 then s
      else if op ≥ 0x11 then s.startDirTx l slot op tag Cm.INV v
      else if op = 1 then (s.setDir l (.shared (v ||| m))).homeReply l slot Cm.DATA_S tag
      else s.startDirTx l slot (if op = 3 && v.getLsbD slot then 3 else 2) tag Cm.INV (v &&& ~~~m))
  | .modified o =>
    (true, if o = slot && op < 0x10 then s.homeReply l slot (if op = 1 then Cm.DATA_S else Cm.DATA_M) tag
      else if op = 1 ∨ op = 0x10 then s.startDirTx l slot op tag Cm.SNP_S (slotMask o)
      else if op = 0x13 then s.startDirTx l slot op tag Cm.INV (slotMask o)
      else s.startDirTx l slot (if op = 3 then 2 else op) tag Cm.SNP_I (slotMask o))

/-- The last answer of a transaction has come: what the owner gave back is written, the new state, and the asker's answer (R197, R199). -/
def State.completeTx (s : State) (l : Nat) : State :=
  let d := s.dirLine l
  match d.tx with
  | none => s
  | some t =>
    let s := s.putLine l { d with tx := none }
    let s := if t.lost then s.loseLine l else match t.data with
      | some x => s.homeWrite l x.1 x.2
      | none => s
    let st := if t.lost then .invalid else d.st
    match t.op with
    | 1 =>
      let v := match st with
        | .modified o => slotMask o
        | .shared v => v
        | .invalid => 0
      (s.setDir l (.shared (v ||| slotMask t.asker))).homeReply l t.asker Cm.DATA_S t.tag
    | 2 => (s.setDir l (.modified t.asker)).homeReply l t.asker Cm.DATA_M t.tag
    | 3 => (s.setDir l (.modified t.asker)).homeReply l t.asker Cm.UPG_ACK t.tag
    | 4 => (s.setDir l .invalid).homeReply l t.asker Cm.WB_ACK t.tag
    | 0x10 =>
      match st with
      | .modified o => s.setDir l (.shared (slotMask o))
      | _ => s.setDir l .invalid
    | _ => s.setDir l .invalid

/-- Does the home leave a line alone for now: during a flush (R199), while the memory region accepts no access (R488), while the line's page is
re-encrypted (R269)? -/
def State.cohHeld (s : State) (l : Nat) : Bool :=
  s.rdb Page.coh Reg.COH_STATUS.FLUSHING || !s.memOpen || s.physHeld (l * 64) 64 true

/-- Finish what can be finished at lines, and take their waiting requests in arrival order. A way that is freed lets the lines of its set go on. -/
def State.cohRun : Nat → List Nat → State → State
  | 0, _, s => s
  | fuel + 1, ls, s =>
    match ls with
    | [] => s
    | l :: r =>
      if s.cohHeld l then State.cohRun fuel r s else
      let d := s.dirLine l
      match d.tx with
      | some t =>
        if t.wait == 0 then State.cohRun fuel (l :: ((if t.op = 0x12 then s.setMates l else []) ++ r)) (s.completeTx l)
        else State.cohRun fuel r s
      | none =>
        match d.queue with
        | [] => State.cohRun fuel r s
        | q :: w =>
          let x := (s.putLine l { d with queue := w }).cohApply l q.1 q.2.1 q.2.2
          if x.1 then State.cohRun fuel (l :: r) x.2
          else State.cohRun fuel (s.setMates l ++ r) (x.2.putLine l { x.2.dirLine l with queue := q :: w })

/-- Rounds that suffice for what waits at the directory. -/
def State.cohFuel (s : State) : Nat := s.coh.dir.foldl (fun n e => n + 64 * (e.2.queue.length + b2n e.2.tx.isSome)) 64

/-- Go on at a line; at every line. -/
def State.cohGo (s : State) (l : Nat) : State := State.cohRun s.cohFuel [l] s
def State.cohAll (s : State) : State :=
  let l := (s.coh.dir.filter fun e => e.2.tx.isSome || !e.2.queue.isEmpty).map Prod.fst
  State.cohRun (s.cohFuel + l.length) l s

/-- A request arrives at a line: behind the current transaction, in arrival order (R197). -/
def State.cohRequest (s : State) (l slot op tag : Nat) : State :=
  let d := s.dirLine l
  (s.putLine l { d with queue := d.queue ++ [(slot, op, tag)] }).cohGo l

/-- The gait has written a range: afterwards the home sends INV to every holder of its lines (R198). -/
def State.gaitWrote (s : State) (ls : List Nat) : State :=
  ls.foldl (fun s l =>
    if (s.dirLine l).inUse && !((s.dirLine l).queue.any fun q => q.2.1 == 0x13) then s.cohRequest l 0 0x13 0 else s) s

/-! ### Accesses outside the protocol (R198) -/

/-- May a read or write of a line go ahead? -/
def State.lineReady (s : State) (l : Nat) (write : Bool) : Bool :=
  !s.herdLine l ||
  ((s.dirLine l).tx.isNone &&
    match (s.dirLine l).st with
    | .invalid => true
    | .shared _ => !write
    | .modified _ => false)

/-- Ask for what a line needs first, once. -/
def State.prepLine (s : State) (l : Nat) (write : Bool) : State :=
  let op := if write then 0x11 else 0x10
  if s.lineReady l write || ((s.dirLine l).tx.map fun t => t.op == op).getD false || (s.dirLine l).queue.any (fun q => q.2.1 == op) then s
  else s.cohRequest l 0 op 0

/-- Make lines ready: the state, and whether they all are. -/
def State.prepLines (s : State) (ls : List Nat) (write : Bool) : Bool × State :=
  let s := ls.foldl (fun s l => s.prepLine l write) s
  (ls.all fun l => s.lineReady l write, s)

/-- The lines of a range. -/
def linesOf (off len : Nat) : List Nat :=
  if len = 0 then [] else (List.range ((off + len - 1) / 64 - off / 64 + 1)).map (· + off / 64)

/-- The lines of a range that lie in herd windows. -/
def State.herdLines (s : State) (off len : Nat) : List Nat :=
  if s.rdb Page.coh Reg.COH_STATUS.ACTIVE then (linesOf off len).filter s.herdLine else []

/-- Are writes into transactional regions held (R224)? -/
def State.holding (s : State) : Bool := s.sync.stepState != .running

/-- Do two remote requests come from one context and touch one 256-byte block (R188)? -/
def HeldAcc.sameBlock (a b : HeldAcc) : Bool :=
  match a.reply, b.reply with
  | .rmt r _ _ _, .rmt q _ _ _ => r == q && a.ctx == b.ctx && a.off / 256 == b.off / 256
  | _, _ => false

/-- Must a request wait behind an earlier one of its context to its block (R188)? -/
def State.behind (s : State) (h : HeldAcc) : Bool := (s.sync.held ++ s.coh.waits).any h.sameBlock

/-- An access waits. One to a gated channel wakes it (R30). -/
def State.waitAcc (s : State) (h : HeldAcc) : State :=
  let s := if s.memOpen then s.wakeSlots (h.lines.map fun l => 0x20 + s.chOf (l * 64)) else s
  { s with coh := { s.coh with waits := s.coh.waits ++ [h] } }

/-- An access: held while the memory region accepts none (R488) or its page is re-encrypted (R269, R271), answered at once when refused,
waiting while its lines are not ready (R187, R198). -/
def State.access (s : State) (h : HeldAcc) : State :=
  let k := if h.op = 1 then 0 else if h.op = 2 then 1 else 2
  if s.memOpen && (s.checkRange (s.accMaster h) k h.off (if h.op ≤ 2 then h.len else atomBytes h.op)).isSome then s.performAcc h else
  if !s.memOpen || s.rangeHeld k h.off (if h.op ≤ 2 then h.len else atomBytes h.op) then s.waitAcc h else
  let r := s.prepLines (h.lines.filter s.herdLine) h.writes
  if r.1 then r.2.performAcc h else r.2.waitAcc h

/-- An access of a compute port or another rank: in issue order behind an earlier one (R188); a write into a transactional region is held while
the step is not RUNNING (R224). -/
def State.doAccess (s : State) (h : HeldAcc) : State :=
  if s.behind h then s.waitAcc h
  else if h.writes && s.holding && s.isTx h.off then { s with sync := { s.sync with held := s.sync.held ++ [h] } }
  else s.access h

/-- Go on with what waits for memory or for lines, oldest first. -/
def State.runWaits (s : State) : State :=
  let s := s.cohAll
  s.coh.waits.foldl (fun s h => s.doAccess h) { s with coh := { s.coh with waits := [] } }

/-- Release the held accesses, oldest first (R224). -/
def State.releaseHeld (s : State) : State :=
  ({ s with coh := { s.coh with waits := s.sync.held ++ s.coh.waits }, sync := { s.sync with held := [] } } : State).runWaits

/-! ### Messages at the home -/

/-- Is a message's sender a member, and its line of an enabled window? Otherwise it is discarded (R207, R208). -/
def State.cohSender (s : State) (src l : Nat) : Option Nat := if s.herdLine l then s.herdSlot src else none
def State.cohStray (s : State) : State := (s.inc Page.coh Reg.COH_STRAY_COUNT.COUNT).err Page.coh Err.coh.COH_STRAY

/-- WB (R197): from the owner, or in place of the owner's answer; another changes nothing and is acknowledged. What is written back during a
flush is kept (R199). -/
def State.opWb (s : State) (l slot tag : Nat) (data : List Byte) (poison : Bool) : State :=
  let d := s.dirLine l
  if s.rdb Page.coh Reg.COH_STATUS.FLUSHING then
    let s := s.homeWrite l data poison
    (if d.st = .modified slot then s.putLine l { s.dirLine l with st := .invalid } else s).homeReply l slot Cm.WB_ACK tag
  else if d.st = .modified slot then
    match d.tx with
    | none => (s.putLine l { d with tx := some { asker := slot, op := 4, tag := tag, sid := 0, wait := 0, data := some (data, poison), lost := false } }).cohGo l
    | some t =>
      ((s.putLine l { d with tx := some { t with
        wait := t.wait &&& ~~~slotMask slot, data := if t.op = 0x13 then t.data else some (data, poison) } }).homeReply l slot Cm.WB_ACK tag).cohGo l
  else s.homeReply l slot Cm.WB_ACK tag

/-- EVS (R197). -/
def State.opEvs (s : State) (l slot : Nat) : State :=
  match (s.dirLine l).st with
  | .shared v => s.setDir l (if v &&& ~~~slotMask slot == 0 then .invalid else .shared (v &&& ~~~slotMask slot))
  | _ => s

/-- The failing step of R248 for a member's message: its read or write of a line is an access of another rank. -/
def State.cohRefused (s : State) (src share k l : Nat) : Option (Nat × Nat) := s.checkRange (Master.remote src share) k (l * 64) 64

/-- A request of a member (R197). A refused read returns zeros, poisoned, since a record holds no status (R196, R249). -/
def State.opCohReq (s : State) (src l op tag share : Nat) : State :=
  match s.cohSender src l with
  | none => s.cohStray
  | some k =>
    match (if op = 3 then none else s.cohRefused src share 0 l) with
    | some (step, e) =>
      (s.refuse (Master.remote src share) 0 step e (l * 64)).sendCoh src share (if op = 1 then Cm.DATA_S else Cm.DATA_M) false tag (s.lineAddr l)
        (List.replicate 64 0) true
    | none => (s.cohRequest l k op tag).runWaits

/-- A write-back of a member; a refused one is acknowledged and not written. -/
def State.opCohWb (s : State) (src l tag share : Nat) (data : List Byte) (poison : Bool) : State :=
  match s.cohSender src l with
  | none => s.cohStray
  | some k =>
    match s.cohRefused src share 1 l with
    | some (step, e) =>
      let s := s.refuse (Master.remote src share) 1 step e (l * 64)
      ((if (s.dirLine l).st = .modified k ∧ (s.dirLine l).tx = none then s.setDir l .invalid else s).homeReply l k Cm.WB_ACK tag).runWaits
    | none => (s.opWb l k tag data poison).runWaits

def State.opCohEvs (s : State) (src l : Nat) : State :=
  match s.cohSender src l with
  | none => s.cohStray
  | some k => (s.opEvs l k).runWaits

/-- An answer of a member (R197). -/
def State.opCohAnswer (s : State) (src l tag : Nat) (data : Option (List Byte × Bool)) : State :=
  match s.cohSender src l with
  | none => s.cohStray
  | some k => ((s.memberAnswer l k tag data).cohGo l).runWaits

/-! ### Flush (R199) -/

/-- The requests of a line that outlast a flush: its transaction's own, then those behind it. -/
def DirLine.asked (d : DirLine) : List (Nat × Nat × Nat) :=
  (match d.tx with
   | some t => if t.op ≤ 3 then [(t.asker, t.op, t.tag)] else []
   | none => []) ++ d.queue.filter fun q => q.2.1 < 0x10

/-- What a transaction still had to write is written. -/
def State.flushTx (s : State) (e : Nat × DirLine) : State :=
  match e.2.tx with
  | some t =>
    let s := match t.data with
      | some x => s.homeWrite e.1 x.1 x.2
      | none => s
    if t.op = 4 then s.homeReply e.1 t.asker Cm.WB_ACK t.tag else s
  | none => s

/-- A request that finds the herd off: the own compute's has no herd line (R483), another's is a stray (R207). -/
def State.noHerd (s : State) (q : Nat × Nat × Nat) : State := if q.1 = s.mySlot then s.ownCoh q.2.2 St.UNSUPPORTED [] 0 else s.cohStray

/-- The flush has ended: the directory is cleared and resumes with what has been asked meanwhile; the herd is off when CTRL.EN was cleared. -/
def State.finishFlush (s : State) : State :=
  if s.coh.flushWait != 0 then s else
  let off := s.coh.disabling
  let s := s.coh.dir.foldl State.flushTx s
  let kept := (s.coh.dir.map fun e => (e.1, { DirLine.empty with queue := e.2.asked })).filter fun e => !e.2.queue.isEmpty
  let s := ({ s with coh := { s.coh with dir := if off then [] else kept, disabling := false } }).showDir
  let s := s.wr Page.coh Reg.COH_STATUS.FLUSHING 0
  (if off then (kept.flatMap fun e => e.2.queue).foldl State.noHerd (s.wr Page.coh Reg.COH_STATUS.ACTIVE 0) else s).runWaits

/-- The lines that a member owns are lost with it. -/
def State.loseMember (s : State) (slot : Nat) : State :=
  (s.coh.dir.filter fun e => e.2.st == .modified slot).foldl (fun s e => (s.loseLine e.1).setDir e.1 .invalid) s

/-- A member has flushed, or is taken to hold nothing. -/
def State.memberFlushed (s : State) (slot : Nat) : State :=
  ({ s with coh := { s.coh with flushWait := s.coh.flushWait &&& ~~~slotMask slot } }).finishFlush

/-- Send HERD_FLUSH to every member (R199). -/
def State.flushHerd (s : State) (disabling : Bool) : State :=
  let n := s.herdSize
  let s := (s.wr Page.coh Reg.COH_STATUS.FLUSHING 1)
  let s := { s with coh := { s.coh with disabling := disabling, flushWait := BitVec.ofNat 8 (2 ^ n - 1) } }
  (List.range n).foldl (fun s k =>
    if k = s.mySlot then
      if s.computeReset then (s.loseMember k).memberFlushed k else s.snoopCompute (s.selfRank.getD 0) Cm.HERD_FLUSH 0 (s.lineAddr 0)
    else s.sendCoh (s.herdRank k) 0 Cm.HERD_FLUSH false 0 (s.lineAddr 0) []) s

/-! ### Messages at a member -/

/-- A snoop from a home: the compute is asked, or, while it is in reset, the block answers (R195, R199). -/
def State.opMemberSnoop (s : State) (src cm tag addr : Nat) : State :=
  if s.computeReset then
    let share := 0
    if cm = Cm.INV then s.sendCoh src share Cm.INV_ACK false tag addr []
    else if cm = Cm.HERD_FLUSH then s.sendCoh src share Cm.FLUSH_DONE false tag addr []
    else s.sendCoh src share Cm.SNP_RSP true tag addr []
  else s.snoopCompute src cm tag addr

/-- Hand the answer of the own compute to the home that asked. -/
def State.snoopAnswered (s : State) (tid : Nat) (data : Option (List Byte)) : State :=
  match SMap.find? s.coh.snoops tid with
  | none => s
  | some (home, cm, tag, addr) =>
    let s := { s with coh := { s.coh with snoops := SMap.erase s.coh.snoops tid } }
    if s.selfRank = some home then
      if cm = Cm.HERD_FLUSH then s.memberFlushed s.mySlot else s.opCohAnswer home (bits addr 0 45 / 64) tag (data.map fun d => (d, false))
    else if cm = Cm.HERD_FLUSH then s.sendCoh home 0 Cm.FLUSH_DONE false tag addr []
    else if cm = Cm.INV then s.sendCoh home 0 Cm.INV_ACK false tag addr []
    else s.sendCoh home 0 Cm.SNP_RSP data.isNone tag addr (data.getD [])

/-! ### Commands -/

/-- The home's requests. -/
def execCohRdS (src : CohSrc) (tag line : Nat) (s : State) : Res := guarded s.mount s fun s => s.opCohReq src.rank line 1 tag src.share
def execCohRdM (src : CohSrc) (tag line : Nat) (s : State) : Res := guarded s.mount s fun s => s.opCohReq src.rank line 2 tag src.share
def execCohUpg (src tag line : Nat) (s : State) : Res := guarded s.mount s fun s => s.opCohReq src line 3 tag 0
def execCohWb (src : CohSrc) (tag line : Nat) (data : LineData) (s : State) : Res :=
  guarded s.mount s fun s => s.opCohWb src.rank line tag src.share data.bytes data.poison
def execCohEvs (src _tag line : Nat) (s : State) : Res := guarded s.mount s fun s => s.opCohEvs src line

/-- A home's answers at the member that asked. -/
def execDataS (_src tag status : Nat) (data : List Byte) (poison : Nat) (s : State) : Res :=
  guarded s.mount s fun s => s.ownCoh tag status data poison
def execDataM (_src tag status : Nat) (data : List Byte) (poison : Nat) (s : State) : Res :=
  guarded s.mount s fun s => s.ownCoh tag status data poison
def execUpgAck (_src tag status : Nat) (s : State) : Res := guarded s.mount s fun s => s.ownCoh tag status [] 0
def execWbAck (_src tag status : Nat) (s : State) : Res := guarded s.mount s fun s => s.ownCoh tag status [] 0

/-- The address of a line at another home. -/
def farLine (home line : Nat) : Nat := home * 2 ^ 45 + line * 64

/-- A home's snoops. -/
def execInv (src tag line : Nat) (s : State) : Res := guarded s.mount s fun s => s.opMemberSnoop src Cm.INV tag (farLine src line)
def execSnpS (src tag line : Nat) (s : State) : Res := guarded s.mount s fun s => s.opMemberSnoop src Cm.SNP_S tag (farLine src line)
def execSnpI (src tag line : Nat) (s : State) : Res := guarded s.mount s fun s => s.opMemberSnoop src Cm.SNP_I tag (farLine src line)
def execHerdFlush (src tag : Nat) (s : State) : Res := guarded s.mount s fun s => s.opMemberSnoop src Cm.HERD_FLUSH tag (farLine src 0)

/-- Members' answers at the home. -/
def execInvAck (src tag line : Nat) (s : State) : Res := guarded s.mount s fun s => s.opCohAnswer src line tag none
def execSnpRsp (src tag line : Nat) (data : Option LineData) (lost : Bool) (s : State) : Res :=
  guarded s.mount s fun s => s.opCohAnswer src line tag (if lost then none else data.map fun d => (d.bytes, d.poison))
def State.opFlushDone (src : Nat) (s : State) : State :=
  match s.herdSlot src with
  | none => s.cohStray
  | some k => if s.coh.flushWait.getLsbD k then s.memberFlushed k else s
def execFlushDone (src _tag : Nat) (s : State) : Res := guarded s.mount s (State.opFlushDone src)

/-- COH_TIMEOUT (R197, R199): the member is taken as holding no copy. -/
def State.opCohTimeout (l member : Nat) (s : State) : State :=
  if s.coh.flushWait.getLsbD member then ((s.loseMember member).err Page.coh Err.coh.COH_TIMEOUT).memberFlushed member
  else
    match (s.dirLine l).tx with
    | none => s
    | some t =>
      if !t.wait.getLsbD member then s else
      let s := s.err Page.coh Err.coh.COH_TIMEOUT { place := l * 64, placeKind := 1 }
      ((s.memberAnswer l member t.sid none).cohGo l).runWaits
def execCohTimeout (line member : Nat) (s : State) : Res := guarded s.mount s (State.opCohTimeout line member)

/-- The compute's answers to snoops (R485); none counts while CRST_N is low. -/
def execSnrInvAck (tid : Nat) (s : State) : Res := guarded (s.mount && !s.computeReset) s fun s => s.snoopAnswered tid none
def execSnrSnpRsp (tid : Nat) (data : Option (List Byte)) (s : State) : Res :=
  guarded (s.mount && !s.computeReset) s fun s => s.snoopAnswered tid data
def execSnrFlushDone (tid : Nat) (s : State) : Res := guarded (s.mount && !s.computeReset) s fun s => s.snoopAnswered tid none

/-! ### Enabling (R195, R199) -/

/-- The member ranks. -/
def State.members (s : State) (n : Nat) : List Nat := (List.range n).map s.herdRank

/-- The enabled windows as base and size in bytes. -/
def State.windows (s : State) : List (Nat × Nat) :=
  ((List.range 4).filter fun k => s.rdb Page.coh Reg.COH_WINk_BASE.EN k).map fun k =>
    (s.rd Page.coh Reg.COH_WINk_BASE.BASE_MIB k * 2 ^ 20, s.rd Page.coh Reg.COH_WINk_SIZE.SIZE_MIB k * 2 ^ 20)

/-- Do two ranges of a list meet? -/
def anyMeet : List (Nat × Nat) → Bool
  | [] => false
  | a :: r => r.any (fun b => a.1 < b.1 + b.2 && b.1 < a.1 + a.2) || anyMeet r

/-- CFG_REFUSE; 0 when the herd may be enabled (R195). -/
def State.herdCode (s : State) : Nat :=
  let n := s.rd Page.coh Reg.COH_HERD_CFG.SIZE
  let l := s.members n
  match s.selfRank with
  | none => if n = 0 ∨ n > 8 then 1 else 5
  | some me =>
    if n = 0 ∨ n > 8 then 1
    else if s.mySlot ≥ n ∨ s.herdRank s.mySlot ≠ me then 2
    else if l.any (fun r => !samePaddock r me) ∨ l.eraseDups.length ≠ n then 3
    else if anyMeet s.windows ∨ s.windows.any (fun w => w.1 + w.2 > s.capacity) then 4
    else 0

/-- COH_ENABLE (R195). -/
def State.opCohEnable (s : State) : State :=
  if s.rdb Page.coh Reg.COH_STATUS.ACTIVE then s else
  let code := s.herdCode
  if code = 0 then ((s.wr Page.coh Reg.COH_CTRL.EN 1).wr Page.coh Reg.COH_STATUS.ACTIVE 1).wr Page.coh Reg.COH_STATUS.CFG_REFUSE 0
  else (s.wr Page.coh Reg.COH_STATUS.CFG_REFUSE code).err Page.coh Err.coh.CFG_REFUSED { detail := code }
def execCohEnable (p : Party) (s : State) : Res := s.action p Page.coh State.opCohEnable

/-- COH_DISABLE (R199): a flush first. -/
def State.opCohDisable (s : State) : State :=
  let s := s.wr Page.coh Reg.COH_CTRL.EN 0
  if s.rdb Page.coh Reg.COH_STATUS.ACTIVE && !s.rdb Page.coh Reg.COH_STATUS.FLUSHING then s.flushHerd true else s
def execCohDisable (p : Party) (s : State) : Res := s.action p Page.coh State.opCohDisable

end Sys2Proof.Machine
end

