-- ==== Sys2Proof/Machine/Sync.lean ====
section
/-! DEFINITION. Signals (R211 to R214), hitches (R215 to R221), transactional steps and their commit (R222 to R226), the global stop
(R227 to R230), the commit record (R231) and the HITCH page's commands (R232, R233). -/

namespace Sys2Proof.Machine

/-! ### Records -/

/-- The 32 bytes of a hitch record (R217). -/
def hitchBytes (r : HitchRec) : List Byte :=
  leBytes 8 (r.hop % 256 + r.hid % 1024 * 2 ^ 8 + b2n r.ok * 2 ^ 18 + r.cause % 8 * 2 ^ 19 + r.epoch % 65536 * 2 ^ 32
    + min r.lost 65535 * 2 ^ 48) ++ leBytes 8 r.dtNs ++ leBytes 8 (r.origin % 2 ^ 15 + r.event % 65536 * 2 ^ 16) ++ leBytes 8 0

/-- The record that 32 bytes spell. -/
def hitchOf (l : List Byte) : HitchRec :=
  let a := ofLe (slice l 0 8)
  let c := ofLe (slice l 16 8)
  { hop := bits a 0 8, hid := bits a 8 10, ok := bit a 18, cause := bits a 19 3, epoch := bits a 32 16, lost := bits a 48 16,
    dtNs := ofLe (slice l 8 8), origin := bits c 0 15, event := bits c 16 16 }

/-- A record of one kind with nothing else in it. -/
def HitchRec.blank (hop hid epoch : Nat) : HitchRec :=
  { hop := hop, hid := hid, ok := false, cause := 0, epoch := epoch, lost := 0, dtNs := 0, origin := 0, event := 0 }

/-- Send a hitch frame: SHARE 0, no context (R217, R218). -/
def State.sendHitch (s : State) (port dst : Nat) (r : HitchRec) : State :=
  (s.queueLoose port (s.looseFrame 5 0 dst (hitchBytes r))).cnt 14 (if r.hop = 1 then 1 else 0)

/-- Send a hitch record on a list of ports. -/
def State.sendHitches (s : State) (ports : List Nat) (r : HitchRec) : State := ports.foldl (fun s p => s.sendHitch p 0 r) s

/-- The channels that a 64-bit mask names. -/
def maskPorts (m : BitVec 64) : List Nat := (List.range 64).filter fun k => m.getLsbD k

/-- A mask of one port. -/
def portMask (p : Nat) : BitVec 64 := BitVec.ofNat 64 (if p < 64 then 2 ^ p else 0)

/-! ### The commit record -/

/-- STATE of the commit record (R231). -/
def State.recordState (s : State) : Nat :=
  let y := s.sync
  if y.stopped then (if y.draining || !s.front.launches.isEmpty then 4 else 5)
  else match y.stepState with
    | .running => 0
    | .draining => 1
    | .deciding => 2
    | .inDoubt => 3

/-- The member's epoch at a hitch. -/
def State.epochOf (s : State) (hid : Nat) : Nat := SMap.getD s.sync.epochs 0 hid

/-- The current epoch of the commit hitch: that of the decision the step awaits, which outlasts the hitch table (R224 to R226), else the
member's. -/
def State.commitEpoch (s : State) : Nat := s.sync.awaited.getD (s.epochOf s.sync.commitHid)

/-- HISTk of the record. -/
def State.histWord (s : State) (k : Nat) : Nat :=
  match s.sync.history.find? fun h => h.1 % 16 == k with
  | some h => h.1 % 65536 + b2n h.2.1 * 2 ^ 16 + h.2.2 % 8 * 2 ^ 17 + 2 ^ 31
  | none => 0

/-- The 256 bytes of the commit record (R231). -/
def State.recordBytes (s : State) : List Byte :=
  let y := s.sync
  leBytes 8 (y.step % 2 ^ 48 + s.recordState * 2 ^ 48 + b2n y.stepBad * 2 ^ 51 + b2n y.stopLate * 2 ^ 52)
  ++ leBytes 8 (s.commitEpoch % 65536 + min y.sigInvalid 65535 * 2 ^ 16 + min y.stale 65535 * 2 ^ 32)
  ++ leBytes 16 (y.decidedDt % 2 ^ 72)
  ++ ((List.range 16).map fun k => leBytes 4 (s.histWord k)).flatten
  ++ leBytes 16 ((y.stopDt.getD 0) * 256 % 2 ^ 72)
  ++ leBytes 8 (y.smearCount % 2 ^ 32 + min y.runningAtStop 65535 * 2 ^ 32 + y.stopTime % 4 * 2 ^ 48) ++ leBytes 8 0
  ++ ((List.range 16).map fun j =>
      leBytes 8 (match y.smear[j]? with
        | some e => e.1 % 2 ^ 15 + e.2.1 % 8 * 2 ^ 15 + e.2.2 % 2 ^ 32 * 2 ^ 18
        | none => 0)).flatten

/-- Write the commit record with maintenance rights (R231). -/
def State.saveRecord (s : State) : State :=
  match s.sync.record with
  | none => s
  | some off => (s.writeAs Master.maint off s.recordBytes).st

/-- STEP_BAD (R223). -/
def State.markStepBad (s : State) : State :=
  if s.sync.stepBad || s.sync.record.isNone then s else ({ s with sync := { s.sync with stepBad := true } }).saveRecord

/-- A signal is discarded (R214). -/
def State.sigInvalid (s : State) : State :=
  (({ s with sync := { s.sync with sigInvalid := s.sync.sigInvalid + 1 } }).err Page.err Err.err.SIG_INVALID).saveRecord

/-- A release is stale (R224). -/
def State.staleRelease (s : State) : State :=
  (({ s with sync := { s.sync with stale := s.sync.stale + 1 } }).err Page.err Err.err.STALE).saveRecord

/-! ### The member's hitches -/

/-- A hitch table entry (R216). -/
def State.joinOf (s : State) (hid : Nat) : Nat := (SMap.getD s.sync.joins 0 hid).toNat
def State.joined (s : State) (hid : Nat) : Bool := bit (s.joinOf hid) 0
def joinCommit (e : Nat) : Bool := bit e 1
def joinPlane (e : Nat) : Nat := bits e 2 5
def joinFence (e : Nat) : Nat := bits e 7 16
def joinInc (e : Nat) : Nat := bits e 23 16
/-- MAX_WAIT in ns. -/
def joinMaxWait (e : Nat) : Nat := max 1 (bits e 39 12) * 100000

/-- The member sends its ARRIVE of an epoch (R216, R217). -/
def State.arriveAt (s : State) (hid epoch : Nat) (ok : Bool) (cause : Nat) : State :=
  s.sendHitch (joinPlane (s.joinOf hid)) 0 { HitchRec.blank 1 hid epoch with ok := ok, cause := if ok then 0 else cause }

/-- The member arrives at the current occurrence and waits for its release. -/
def State.sendArrive (s : State) (hid : Nat) (ok : Bool) (cause : Nat) : State :=
  ({ s with sync := { s.sync with waiting := SMap.set s.sync.waiting hid s.now } }).arriveAt hid (s.epochOf hid) ok cause

/-- The commit arrival: the step awaits the decision of the current epoch (R224). -/
def State.sendCommit (s : State) (ok : Bool) (cause : Nat) : State :=
  let hid := s.sync.commitHid
  (({ s with sync := { s.sync with stepState := .deciding, awaited := some (s.epochOf hid) } }).saveRecord).sendArrive hid ok cause

/-- Advance a release fence; `failed` gives it the error FAILED, as an ABORT of the commit does (R216, R224). -/
def State.releaseFence (s : State) (e : Nat) (failed : Bool) : State :=
  let f := joinFence e
  if s.fenceValid f && !s.fenceDying f then s.applyFence f (joinInc e) (if failed then some 0x16 else none) else s

/-- One arrival at a hitch that is not the commit hitch (R213). While a release is awaited, it is an arrival of the next occurrence, which the
counter holds (R219). -/
def State.plainArrival (s : State) (hid : Nat) (ok : Bool) : State :=
  if (SMap.find? s.sync.waiting hid).isNone then s.sendArrive hid ok 1
  else
    let n := SMap.getD s.sync.ahead 0 hid + 1
    ({ s with sync := { s.sync with ahead := SMap.put s.sync.ahead 0 hid n } }).arriveAt hid ((s.epochOf hid + n) % 65536) ok 1

/-- The commit arrival (R224); one made before suspect replay is complete finds STEP_BAD set (R223, R445). -/
def State.commitArrival (s : State) (ok : Bool) : State :=
  if s.sync.stepState != .running then s.sigInvalid
  else
    let s := if s.istate = 1 ∨ s.istate = 2 then s.markStepBad else s
    ({ s with sync := { s.sync with stepState := .draining, arrivedOk := ok } }).saveRecord

/-- ERR_CODE that a signal's status gives a fence (R341). -/
def sigErr (status : Nat) : Option Nat := if status = 0 then none else if status = 2 then some 0x03 else some (0x10 + status)

/-- Apply a signal (R213, R214); a Post block applies none (R211). -/
def State.applySignal (s : State) (ref status : Nat) : State :=
  if s.boot.post then s else
  let e := (SMap.getD s.sync.signals 0 (ref % 4096)).toNat
  if !bit e 0 then s.sigInvalid else
  if !bit e 1 then
    let f := bits e 3 16
    if s.fenceValid f && !s.fenceDying f && s.fenceCtx f == bits e 48 12 then
      let s := s.applyFence f (bits e 32 16) (sigErr status)
      if bit e 2 && status != 0 then s.markStepBad else s
    else s.sigInvalid
  else
    let hid := bits e 19 10
    if !s.joined hid then s.sigInvalid else
    let s := if bit e 2 && status != 0 then s.markStepBad else s
    if joinCommit (s.joinOf hid) then s.commitArrival (status == 0) else s.plainArrival hid (status == 0)

/-- Apply a decision for the current epoch (R224). -/
def State.applyDecision (s : State) (ok : Bool) (cause : Nat) : State :=
  let hid := s.sync.commitHid
  let ep := s.commitEpoch
  let y := s.sync
  let s := { s with sync := { y with
    history := ((ep, ok, cause) :: y.history).take 16, decidedDt := s.dt, step := if ok then (y.step + 1) % 2 ^ 48 else y.step
    stepBad := false, stepState := .running, queries := 0, waiting := SMap.erase y.waiting hid, awaited := none
    epochs := if s.epochOf hid = ep then SMap.put y.epochs 0 hid ((ep + 1) % 65536) else y.epochs } }
  (s.saveRecord.releaseHeld).releaseFence (s.joinOf hid) (!ok)

/-- The release of a hitch that is not the commit hitch: the next occurrence begins, for which this member may have arrived already. -/
def State.plainRelease (s : State) (hid : Nat) : State :=
  let y := s.sync
  let n := SMap.getD y.ahead 0 hid
  ({ s with sync := { y with waiting := if n = 0 then SMap.erase y.waiting hid else SMap.set y.waiting hid s.now
                             ahead := SMap.put y.ahead 0 hid (n - 1)
                             epochs := SMap.put y.epochs 0 hid ((s.epochOf hid + 1) % 65536) } }).releaseFence (s.joinOf hid) false

/-- A RELEASE at a member (R224). -/
def State.memberRelease (s : State) (r : HitchRec) : State :=
  if !s.joined r.hid then s.staleRelease
  else if joinCommit (s.joinOf r.hid) then
    if r.epoch = s.commitEpoch ∧ (s.sync.stepState = .deciding ∨ s.sync.stepState = .inDoubt) then s.applyDecision r.ok r.cause
    else s.staleRelease
  else if r.epoch != s.epochOf r.hid || (SMap.find? s.sync.waiting r.hid).isNone then s.staleRelease
  else s.plainRelease r.hid

/-! ### The counters of a Post block -/

def State.ctr (s : State) (hid : Nat) : HitchCtr := SMap.getD s.sync.counters HitchCtr.empty hid

/-- Show how many counters are busy, and the lowest HELD one (R232). -/
def State.showHitch (s : State) : State :=
  let busy := (s.sync.counters.filter fun e => e.2.state != .idle).length
  let p := Page.hitch
  let s := s.wr p Reg.HITCH_STATUS.ACTIVE busy
  match s.sync.counters.find? fun e => e.2.state == .heldForMembers with
  | some e => (s.wr p Reg.HITCH_HELD.HID e.1).wr p Reg.HITCH_HELD.ANY 1
  | none => (s.wr p Reg.HITCH_HELD.HID 0).wr p Reg.HITCH_HELD.ANY 0

def State.setCtr (s : State) (hid : Nat) (c : HitchCtr) : State :=
  ({ s with sync := { s.sync with counters := SMap.put s.sync.counters HitchCtr.empty hid c } }).showHitch

/-- A hitch frame is discarded and counted (R219). -/
def State.hitchStale (s : State) : State := (s.inc Page.hitch Reg.HITCH_STALE_COUNT.COUNT).err Page.hitch Err.hitch.STALE

/-- Is every child done (R219)? -/
def HitchCtr.done (c : HitchCtr) : Bool := c.children &&& ~~~(c.arrived ||| c.lostNow ||| c.timedOut) == 0

/-- Outcome and cause of an occurrence: the highest-numbered cause among the children (R219). -/
def HitchCtr.outcome (c : HitchCtr) : Bool × Nat :=
  let ok := c.ok && c.lostNow == 0 && c.timedOut == 0
  let cause := max c.cause (if c.timedOut != 0 then 3 else if c.lostNow != 0 then 2 else 0)
  (ok, if ok then 0 else max 1 cause)

/-- The counter between occurrences. -/
def HitchCtr.rest (c : HitchCtr) : HitchCtr :=
  { c with arrived := 0, lostNow := 0, timedOut := 0, ok := true, cause := 0, lostCount := 0 }

/-- A counter keeps the children of a mask; one that is not the root and keeps none leaves its parent (R221). -/
def State.keepKids (s : State) (hid : Nat) (c : HitchCtr) (kids : BitVec 64) : State :=
  let s := s.setCtr hid { c with children := kids }
  if kids == 0 && c.children != 0 && !c.root then s.sendHitch c.parent 0 (HitchRec.blank 6 hid c.epoch) else s

/-- The counter after an occurrence: the next epoch. -/
def HitchCtr.next (c : HitchCtr) : HitchCtr := { c.rest with epoch := (c.epoch + 1) % 65536, leaving := 0, withdrawn := false }

/-- The membership change of R221 at the end of an occurrence, and the next epoch. Children that have left go in either mode. -/
def State.closeOcc (s : State) (hid : Nat) : State :=
  let c := s.ctr hid
  if c.lostNow != 0 && s.hostMode 9 then
    (s.setCtr hid { c.next with state := .heldForMembers, children := c.children &&& ~~~c.leaving, lostNow := c.lostNow }).haPost 9
  else s.keepKids hid { c.next with state := .idle } (c.children &&& ~~~(c.lostNow ||| c.leaving))

/-- Every child of a counter is done: ARRIVE to the parent, or the root's decision (R219). -/
def State.finishOcc (s : State) (hid : Nat) : State :=
  let c := s.ctr hid
  if c.state != .collecting || !c.done then s else
  let o := c.outcome
  let lost := min 65535 (c.lostCount + (maskPorts c.lostNow).length)
  if c.root then
    let s := s.sendHitches ((maskPorts c.children).filter s.portUp)
      { HitchRec.blank 2 hid c.epoch with ok := o.1, cause := o.2, lost := lost }
    s.closeOcc hid
  else
    let s := s.setCtr hid { c with state := .waitRel }
    s.sendHitch c.parent 0 { HitchRec.blank 1 hid c.epoch with ok := o.1, cause := o.2, lost := lost }

/-- Record an arrival of the current occurrence; children whose port is down when it starts are lost for it, and a lost child stays lost (R219). -/
def State.recordArrival (s : State) (hid port : Nat) (ok : Bool) (cause lost : Nat) : State :=
  let c := s.ctr hid
  let first := c.state == .idle
  let down := if first then (maskPorts c.children).foldl (fun m p => if s.portUp p then m else m ||| portMask p) (0 : BitVec 64) else c.lostNow
  let s := s.setCtr hid { c with
    state := .collecting, arrived := c.arrived ||| portMask port, ok := c.ok && ok, cause := max c.cause (if ok then 0 else max 1 cause)
    lostCount := c.lostCount + lost, lostNow := if first then down &&& ~~~portMask port else down }
  if first && (down &&& ~~~portMask port) != 0 then s.err Page.hitch Err.hitch.MEMBER_LOST else s

/-- Act on the arrivals held for the next occurrence (R219). -/
def State.actHeld (s : State) (hid : Nat) : State :=
  let c := s.ctr hid
  if c.state != .idle || c.held.isEmpty then s else
  (c.held.foldl (fun s h => s.recordArrival hid h.1 h.2.1 h.2.2.1 h.2.2.2) (s.setCtr hid { c with held := [] })).finishOcc hid

/-- The occurrence may be complete: finish it, then act on what was held. -/
def State.advanceCtr (s : State) (hid : Nat) : State := (s.finishOcc hid).actHeld hid

/-- A counter entry is lost (R233): it is cleared, and every child is lost for the occurrence. -/
def State.counterLost (s : State) (hid : Nat) : State :=
  let c := s.ctr hid
  let st := if c.state = .idle && c.valid then .collecting else c.state
  ((s.setCtr hid { c.rest with state := st, held := [], lostNow := c.children }).err Page.hitch Err.hitch.COUNTER_CHECK).advanceCtr hid

/-- An access to a counter: an injected COUNTER_CHECK acts on it (R50, R233). -/
def State.touchCtr (s : State) (hid : Nat) : State :=
  if s.armedAt Page.hitch Err.hitch.COUNTER_CHECK = some hid then s.struck Page.hitch Err.hitch.COUNTER_CHECK fun s => s.counterLost hid else s

/-- An ARRIVE reaches a counter (R219). While the counter is HELD, it waits for the new membership. -/
def State.opArrive (port : Nat) (r : HitchRec) (s : State) : State :=
  let s := s.touchCtr r.hid
  let c := s.ctr r.hid
  if !s.rdb Page.hitch Reg.HITCH_CTRL.EN || !c.valid || !c.children.getLsbD port then s.hitchStale
  else if r.epoch = c.epoch ∧ (c.state = .idle ∨ (c.state = .collecting ∧ !c.arrived.getLsbD port)) then
    (s.recordArrival r.hid port r.ok r.cause r.lost).advanceCtr r.hid
  else if r.epoch = (c.epoch + 1) % 65536 ∧ c.state = .collecting ∧ c.arrived.getLsbD port ∧ !(c.held.any fun h => h.1 == port) then
    s.setCtr r.hid { c with held := c.held ++ [(port, r.ok, r.cause, r.lost)] }
  else if r.epoch = c.epoch ∧ c.state = .heldForMembers ∧ !(c.held.any fun h => h.1 == port) then
    s.setCtr r.hid { c with held := c.held ++ [(port, r.ok, r.cause, r.lost)] }
  else s.hitchStale

/-- A RELEASE reaches a counter (R219). -/
def State.opCounterRelease (port : Nat) (r : HitchRec) (s : State) : State :=
  let s := s.touchCtr r.hid
  let c := s.ctr r.hid
  if !s.rdb Page.hitch Reg.HITCH_CTRL.EN || !c.valid || c.state != .waitRel || c.parent != port || r.epoch != c.epoch then s.hitchStale
  else ((s.sendHitches ((maskPorts c.children).filter s.portUp) r).closeOcc r.hid).actHeld r.hid

/-- A counter in WAIT_REL is abandoned (R219); children that have left go (R221). -/
def State.abandonRel (s : State) (hid : Nat) : State :=
  let c := s.ctr hid
  ((s.keepKids hid { c.next with state := .idle } (c.children &&& ~~~c.leaving)).err Page.hitch Err.hitch.NO_RELEASE).actHeld hid

/-- A port leaves UP: its children not arrived are lost, releases expected from it are abandoned (R219). -/
def State.hitchPortLost (s : State) (port : Nat) : State :=
  (s.sync.counters.map Prod.fst).foldl (fun s hid =>
    let c := s.ctr hid
    match c.state with
    | .collecting =>
      if c.children.getLsbD port && !c.arrived.getLsbD port && !c.lostNow.getLsbD port then
        ((s.setCtr hid { c with lostNow := c.lostNow ||| portMask port }).err Page.hitch Err.hitch.MEMBER_LOST { place := port, placeKind := 5 }).advanceCtr hid
      else s
    | .waitRel => if !c.root && c.parent == port then s.abandonRel hid else s
    | _ => s) s

/-- HITCH_TIMEOUT (R219). -/
def execHitchTimeout (hid : Nat) (s : State) : Res :=
  guarded (s.serving && s.boot.post && (s.ctr hid).valid) s fun s =>
    let s := s.touchCtr hid
    let c := s.ctr hid
    match c.state with
    | .collecting =>
      let late := c.children &&& ~~~(c.arrived ||| c.lostNow)
      ((s.setCtr hid { c with timedOut := late }).err Page.hitch Err.hitch.TIMEOUT).advanceCtr hid
    | .waitRel => s.abandonRel hid
    | _ => s

/-- HITCH_ARRIVE (R219). -/
def execHitchArrive (port : Nat) (r : HitchRec) (s : State) : Res :=
  guarded (s.serving && s.boot.post && s.portUp port) s (State.opArrive port r)

/-- A RELEASE frame: a counter forwards it, a member applies it (R219, R224). -/
def State.opRelease (port : Nat) (r : HitchRec) (s : State) : State :=
  if s.boot.post then s.opCounterRelease port r else s.memberRelease r

/-- LEAVE (R221): the child goes from the next occurrence on, at once when none is under way. -/
def State.opLeave (port : Nat) (r : HitchRec) (s : State) : State :=
  let s := s.touchCtr r.hid
  let c := s.ctr r.hid
  if !c.valid || !s.rdb Page.hitch Reg.HITCH_CTRL.EN then s.hitchStale
  else if c.state = .idle then s.keepKids r.hid c (c.children &&& ~~~portMask port)
  else if c.state = .heldForMembers then s.setCtr r.hid { c with children := c.children &&& ~~~portMask port }
  else s.setCtr r.hid { c with leaving := c.leaving ||| portMask port }

def execLeave (port : Nat) (r : HitchRec) (s : State) : Res :=
  guarded (s.serving && s.boot.post && s.portUp port) s (State.opLeave port r)

/-- A QUERY at an anchor: it answers from its record (R225). -/
def State.opQuery (port : Nat) (r : HitchRec) (s : State) : State :=
  let a := { HitchRec.blank 4 r.hid r.epoch with dtNs := r.dtNs, origin := r.origin, cause := 5 }
  match s.sync.history.find? fun h => h.1 == r.epoch && r.hid == s.sync.commitHid with
  | some h => s.sendHitch port r.origin { a with ok := h.2.1, cause := if h.2.2 = 5 then 0 else h.2.2 }
  | none => s.sendHitch port r.origin a

def execHitchQuery (port : Nat) (r : HitchRec) (s : State) : Res :=
  guarded (s.mount && s.portUp port) s (State.opQuery port r)

/-- An ANSWER at a deciding member (R224, R225). -/
def State.opAnswer (r : HitchRec) (s : State) : State :=
  if r.cause = 5 then s
  else if r.hid = s.sync.commitHid ∧ r.epoch = s.commitEpoch ∧ (s.sync.stepState = .deciding ∨ s.sync.stepState = .inDoubt) then
    s.applyDecision r.ok r.cause
  else s

/-! ### The commit -/

/-- COMMIT_DRAIN_DONE (R224). A member whose hitch table an LR region reset has emptied arrives when it has rejoined (R226). -/
def execCommitDrainDone (s : State) : Res :=
  guarded (s.mount && s.sync.stepState == .draining && s.joined s.sync.commitHid) s fun s => s.sendCommit (s.sync.arrivedOk && !s.sync.stepBad) 1

/-- Send QUERY to both anchors (R224, R225); after an LR region reset, once the member has rejoined (R226). -/
def State.sendQueries (s : State) : State :=
  let hid := s.sync.commitHid
  let r := { HitchRec.blank 3 hid s.commitEpoch with dtNs := s.sync.step, origin := s.selfRank.getD 0 }
  let port := joinPlane (s.joinOf hid)
  ({ (s.sendHitch port s.sync.anchor0 r).sendHitch port s.sync.anchor1 r with sync := { s.sync with queries := s.sync.queries + 1 } })

/-- COMMIT_MAX_WAIT (R224). -/
def execCommitMaxWait (s : State) : Res :=
  guarded (s.mount && s.sync.stepState == .deciding && s.sync.queries == 0 && s.joined s.sync.commitHid) s State.sendQueries

/-- COMMIT_QUERY_REPEAT (R224). -/
def execCommitQueryRepeat (s : State) : Res :=
  guarded (s.mount && s.sync.stepState == .deciding && s.sync.queries != 0 && s.joined s.sync.commitHid) s State.sendQueries

/-- IN_DOUBT (R224). -/
def execInDoubt (s : State) : Res :=
  guarded (s.mount && s.sync.stepState == .deciding && s.sync.queries != 0) s fun s =>
    (({ s with sync := { s.sync with stepState := .inDoubt } }).raise Page.err Err.err.IN_DOUBT).saveRecord

/-- SIGNAL_HANDOFF (R213, R214). -/
def execSignalHandoff (ref status : Nat) (late : Bool) (s : State) : Res :=
  guarded (s.mount && (status < 9 || late)) s fun s => s.applySignal ref status

/-! ### Global stop -/

/-- The block stops (R228): no further occurrence, no further launch; an uncommitted member reports NOT_OK with cause STOPPED. -/
def State.doStop (s : State) (past : Bool) : State :=
  let y := s.sync
  let s := { s with sync := { y with
    stopped := true, gaitStopped := true, draining := true, stopArmed := false, runningAtStop := s.front.launches.length, stopTime := s.timeState
    stopLate := y.stopLate || past } }
  let s := if past then s.err (if s.boot.post then Page.hitch else Page.err) (if s.boot.post then Err.hitch.STOP_LATE else Err.err.STOP_LATE) else s
  if s.boot.post then (s.wr Page.hitch Reg.HITCH_STATUS.STOPPED 1).wr Page.hitch Reg.HITCH_STATUS.DRAINING 1
  else if y.record.isSome && s.joined y.commitHid && (y.stepState == .running || y.stepState == .draining) then
    s.sendCommit false 4
  else s.saveRecord

/-- The stop DT, in the record of a Mount block and the register of a Post block (R231, R232). -/
def State.setStopDt (s : State) (t : Nat) : State :=
  let s := { s with sync := { s.sync with stopDt := some t } }
  if s.boot.post then s.wrPair Page.hitch Reg.HITCH_STOP_DT_LO.NS Reg.HITCH_STOP_DT_HI.NS t else s.saveRecord

/-- Arm a stop; the earliest DT wins; a DT already passed stops at once (R227). A block that has stopped stays so. -/
def State.armStop (s : State) (dtNs : Nat) : State :=
  if s.sync.stopped && s.sync.gaitStopped then s
  else if dtNs ≤ s.dtNs then (s.setStopDt dtNs).doStop true
  else
    let t := if s.sync.stopArmed then min (s.sync.stopDt.getD dtNs) dtNs else dtNs
    ({ s with sync := { s.sync with stopArmed := true } }).setStopDt t

/-- HITCH_STOP (R227): forwarded when new, and armed; a Post block whose hitch logic is off discards it (R232). -/
def State.opStop (port : Nat) (r : HitchRec) (s : State) : State :=
  if s.boot.post && !s.rdb Page.hitch Reg.HITCH_CTRL.EN then s.hitchStale
  else if s.sync.seenStops.contains (r.origin, r.event) then s else
  let s := { s with sync := { s.sync with seenStops := ((r.origin, r.event) :: s.sync.seenStops).take 16 } }
  (s.sendHitches (s.upPorts.filter (· != port)) r).armStop r.dtNs

def execHitchStop (port : Nat) (r : HitchRec) (s : State) : Res :=
  guarded (s.serving && s.portUp port) s (State.opStop port r)

/-- STOP_DT_REACHED (R228). -/
def execStopDtReached (s : State) : Res :=
  guarded (s.serving && s.sync.stopArmed && ((s.sync.stopDt.map fun t => decide (t ≤ s.dtNs)).getD false)) s fun s => s.doStop false

/-- The drain has ended and the last launch completes: the record says STOPPED (R229). -/
def State.noteStopped (s : State) : State :=
  if s.sync.stopped && !s.sync.draining && s.front.launches.isEmpty then s.saveRecord else s

/-- STOP_DRAIN_END (R229). -/
def execStopDrainEnd (s : State) : Res :=
  guarded (s.serving && s.sync.stopped) s fun s =>
    let s := { s with sync := { s.sync with draining := false } }
    if s.boot.post then s.wr Page.hitch Reg.HITCH_STATUS.DRAINING 0 else s.saveRecord

/-- A data frame is accepted after the stop DT: it smears the cut (R229). -/
def State.smearBy (s : State) (f : DataFrame) (num : Nat) : State :=
  if !s.sync.gaitStopped || !s.sync.draining then s else
  if s.boot.post then s.inc Page.hitch Reg.HITCH_SMEAR_COUNT.COUNT
  else
    let y := s.sync
    ({ s with sync := { y with
      smearCount := y.smearCount + 1
      smear := if y.smear.length < 16 then y.smear ++ [(f.hdr.srcRank, f.hdr.lkind, num)] else y.smear } }).saveRecord

/-! ### HITCH_CMD -/

/-- The selected counter. -/
def State.hitchSel (s : State) : Nat := s.rd Page.hitch Reg.HITCH_SEL.HID

/-- Report a command's code (R232). -/
def State.hitchCode (s : State) (code : Nat) : State :=
  (s.wr Page.hitch Reg.HITCH_CMD_STATUS.CODE code).wr Page.hitch Reg.HITCH_CMD_STATUS.DONE 1

/-- Word `w` of the window. -/
def State.hitchWin (s : State) (w : Nat) : Nat :=
  s.rd Page.hitch Reg.HITCH_WINw.DATA (2 * w) + 2 ^ 32 * s.rd Page.hitch Reg.HITCH_WINw.DATA (2 * w + 1)

/-- STATE of a counter entry (R233). -/
def HitchState.code : HitchState → Nat
  | .idle => 0 | .collecting => 1 | .waitRel => 2 | .heldForMembers => 3

/-- C1 of an entry. -/
def HitchCtr.word1 (c : HitchCtr) : Nat :=
  b2n c.valid + b2n c.root * 2 + c.parent % 64 * 4 + c.epoch % 65536 * 2 ^ 8 + c.state.code * 2 ^ 24 + b2n c.ok * 2 ^ 26 + c.cause % 8 * 2 ^ 27

/-- Does a CHILDREN word name a port the block has not, or the parent? -/
def State.badChildren (s : State) (kids parent : Nat) (root : Bool) : Bool :=
  kids / 2 ^ s.ports != 0 || (!root && (bit kids parent || parent ≥ s.ports))

/-- HITCH_CMD.WRITE (R232). -/
def State.opHitchWrite (s : State) : State :=
  let hid := s.hitchSel
  let s := s.touchCtr hid
  let c := s.ctr hid
  let kids := s.hitchWin 0
  let w := s.hitchWin 1
  if c.state != .idle then s.hitchCode 1
  else if kids = 0 then s.hitchCode 2
  else if s.badChildren kids (bits w 2 6) (bit w 1) then s.hitchCode 3
  else if bits w 30 34 != 0 then s.hitchCode 4
  else (s.setCtr hid { c with valid := bit w 0, root := bit w 1, parent := bits w 2 6, children := BitVec.ofNat 64 kids }).hitchCode 0

def execHitchCmdWrite (p : Party) (s : State) : Res := s.action p Page.hitch State.opHitchWrite

/-- HITCH_CMD.READ (R232). -/
def State.opHitchRead (s : State) : State :=
  let s := s.touchCtr s.hitchSel
  let c := s.ctr s.hitchSel
  let ws := [c.children.toNat, c.word1, c.lostNow.toNat, c.arrived.toNat]
  let s := (List.range 4).foldl (fun s k =>
    (s.wr Page.hitch Reg.HITCH_WINw.DATA (ws.getD k 0 % 2 ^ 32) (2 * k)).wr Page.hitch Reg.HITCH_WINw.DATA (ws.getD k 0 / 2 ^ 32) (2 * k + 1)) s
  s.hitchCode 0

def execHitchCmdRead (p : Party) (s : State) : Res := s.action p Page.hitch State.opHitchRead

/-- The request of R221 ends when no counter is HELD any more. -/
def State.endHeld (s : State) : State :=
  if s.sync.counters.any fun e => e.2.state == .heldForMembers then s else s.haClear 9

/-- CLEAR (R232): IDLE, EPOCH 0, LOST 0, holds discarded. -/
def State.opHitchClear (s : State) : State :=
  let s := s.touchCtr s.hitchSel
  let c := s.ctr s.hitchSel
  let s := s.setCtr s.hitchSel { c.rest with state := .idle, epoch := 0, held := [], leaving := 0, withdrawn := false }
  (if c.state = .heldForMembers then s.endHeld else s).hitchCode 0

def execHitchClear (p : Party) (s : State) : Res := s.action p Page.hitch State.opHitchClear

/-- MEMBER_SET (R221, R232). -/
def State.opMemberSet (s : State) : State :=
  let hid := s.hitchSel
  let s := s.touchCtr hid
  let c := s.ctr hid
  let kids := s.hitchWin 0
  if c.state != .heldForMembers then s.hitchCode (if c.withdrawn then 6 else 5)
  else if kids = 0 then s.hitchCode 2
  else if s.badChildren kids c.parent c.root then s.hitchCode 3
  else (((s.setCtr hid { c.rest with state := .idle, children := BitVec.ofNat 64 kids }).actHeld hid).endHeld).hitchCode 0

def execMemberSet (p : Party) (s : State) : Res := s.action p Page.hitch fun s => s.assisted (.memberSet p) State.opMemberSet

/-- A HELD counter whose request is withdrawn acts as in hardware mode (R62, R221). -/
def State.withdrawHeld (s : State) : State :=
  (s.sync.counters.map Prod.fst).foldl (fun s hid =>
    let c := s.ctr hid
    if c.state != .heldForMembers then s else
    (s.keepKids hid { c.rest with state := .idle, withdrawn := true } (c.children &&& ~~~c.lostNow)).actHeld hid) s

/-! ### Packets -/

/-- SIG_SET (R318): DETAIL 1 for a CTX or FENCE that does not fit the entry. -/
def execSigSet (p : Nat) (s : State) : Res :=
  s.perform p 0x64 fun x s =>
    let ref := x.f 8 2 % 4096
    let e := x.f 16 8
    let c := bits e 48 12
    let f := bits e 3 16
    let bad := bit e 0 && (!s.ctxUsable (s.ctxFn c) c || (!bit e 1 && (!s.fenceUsable (s.ctxFn c) f || s.fenceCtx f != c || bits e 32 16 == 0)))
    if bad then s.kres p 1
    else (({ s with sync := { s.sync with signals := SMap.put s.sync.signals 0 ref (BitVec.ofNat 64 e) } }).kres p 0)

/-- HITCH_JOIN (R216, R318). -/
def execHitchJoin (p : Nat) (s : State) : Res :=
  s.perform p 0x65 fun x s =>
    let hid := x.f 8 2 % 1024
    let e := x.f 16 8
    if bit e 0 && joinPlane e ≥ s.ports then s.kres p 1
    else if bit e 0 && joinCommit e && s.sync.joins.any (fun j => j.1 != hid && bit j.2.toNat 0 && joinCommit j.2.toNat) then s.kres p 2
    else
      let y := s.sync
      ({ s with sync := { y with joins := SMap.put y.joins 0 hid (BitVec.ofNat 64 e), epochs := SMap.erase y.epochs hid
                                 waiting := SMap.erase y.waiting hid, ahead := SMap.erase y.ahead hid } }).kres p 0

/-- STEP_CFG (R223, R318). -/
def execStepCfg (p : Nat) (s : State) : Res :=
  s.perform p 0x66 fun x s =>
    let hid := x.f 24 2 % 1024
    if x.f 16 8 % 256 != 0 then s.kres p 1
    else if !(s.joined hid && joinCommit (s.joinOf hid)) then s.kres p 2
    else if s.sync.stepState != .running then s.kres p 3
    else
      (({ s with sync := { s.sync with
        record := some (x.f 16 8), commitHid := hid, anchor0 := x.f 26 2, anchor1 := x.f 28 2, step := x.f 32 6 } }).saveRecord).kres p 0

/-- The active period (R84, R109). -/
def State.activePeriod (s : State) : Nat := s.rd Page.gait Reg.GAIT_PERIOD.NS

/-- STOP_AT (R227, R318). -/
def execStopAt (p : Nat) (s : State) : Res :=
  s.perform p 0x67 fun x s =>
    let t := x.f 16 8
    if s.activePeriod = 0 ∨ t % s.activePeriod ≠ 0 then s.kres p 1
    else if t < s.dtNs + 20000 ∨ t > s.dtNs + 10000000000 then s.kres p 2
    else if s.timeState = 0 then s.kres p 3
    else
      let ev := (s.sync.eventNo + 1) % 65536
      let me := s.selfRank.getD 0
      let s := { s with sync := { s.sync with eventNo := ev, seenStops := ((me, ev) :: s.sync.seenStops).take 16 } }
      let s := s.sendHitches s.upPorts { HitchRec.blank 5 0 0 with dtNs := t, origin := me, event := ev }
      (s.armStop t).kres p 0

end Sys2Proof.Machine
end

