-- ==== Sys2Proof/Machine/Tree.lean ====
section
/-! DEFINITION. Memory commands: training and the carve (R243, R488), the RAT window (R246, R247, R250), the carve register (R244), read
results and failed granules (R238, R242), errors in the tree and their triage (R273, R274, R440), re-encryption (R268), rebuilds and
retires (R275), cold walks (R276), scrub (R277), the maintenance token (R471, R472), the patrol (R433). -/

namespace Sys2Proof.Machine

/-- Write back every dirty block of a channel, leaves first (R267). -/
def State.writeBack (s : State) (n : Nat) : State :=
  let go := fun (s : State) (lo : Nat) =>
    ((s.chan n).dirty.filter fun b => b / 2 ^ 25 == lo).foldl (fun s b => s.cleanBlock n lo (b % 2 ^ 25)) s
  go (go s 1) 2

/-! ### Training and the carve -/

/-- Pages that a controller's report gives: clipped to the build's largest; below 8 GiB the channel stays NOT_READY (R488). -/
def State.clipPages (s : State) (cap : Nat) : Option Nat :=
  if cap < 2097152 then none else some (min cap (s.build.mchMaxGib * 262144))

/-- Show the carve in force (R243). -/
def State.showCarve (s : State) : State :=
  let p := Page.mch 0
  ((s.wr p Reg.MCH_LINE_PAGES_EFF.PAGES s.mem.line).wr p Reg.MCH_USABLE_PAGES.U s.mem.usable).wr p Reg.MCH_LOCAL_PAGES.PAGES
    (s.mem.usable * s.channels)

/-- Compute the carve from every channel's pages and MCH_LINE_PAGES (R243). -/
def State.runCarve (s : State) : State :=
  let r := carve (s.chanList.map fun n => (s.chan n).capPages) (s.rd (Page.mch 0) Reg.MCH_LINE_PAGES.PAGES)
  ({ s with mem := { s.mem with line := r.1, usable := r.2 } }).showCarve

/-- Load the keys into every channel's latches (R245, R280). -/
def State.loadKeys (s : State) : State :=
  s.chanList.foldl (fun s n =>
    ((s.setChan n { s.chan n with keyLoaded := true, keyNextLoaded := s.mem.keyNext.isSome }).wr (Page.mch n) Reg.MCH_STATUS.KEY_LOADED 1).saddled (1 + b2n s.mem.keyNext.isSome)) s

/-- Draw the memory key and CH_KEY, unless this block reset has drawn them (R21, R179). -/
def State.drawMemKeys (s : State) : State :=
  if s.mem.key.isSome then s else
  let a := s.drawKey
  let b := a.2.drawKey
  { b.2 with mem := { b.2.mem with key := some a.1, chKey := b.1 } }

/-- Every built channel is trained: the carve runs, the keys are loaded, the channels are READY, and held accesses are served
(R21, R243, R488). -/
def State.memStart (s : State) : State :=
  let s := (s.runCarve).drawMemKeys.loadKeys
  let s := s.chanList.foldl (fun s n => s.wr (Page.mch n) Reg.MCH_STATUS.CH_STATE 2) s
  ({ s with mem := { s.mem with ready := true } }).runWaits

/-- MEMORY_TRAINED (R243, R488). -/
def State.opTrained (n cap : Nat) (s : State) : State :=
  match s.clipPages cap with
  | none => s
  | some p =>
    let pg := Page.mch n
    let top := treeTop p
    let s := s.setChan n { s.chan n with trained := true, capPages := p }
    let s := ((((s.wr pg Reg.MCH_STATUS.CH_STATE 1).wr pg Reg.MCHn_CAP_PAGES.P p).wr pg Reg.MCHn_TREE_PAGES.T (treePages p)).wr pg
      Reg.MCHn_TREE_SHAPE.LEVELS top.1).wr pg Reg.MCHn_TREE_SHAPE.TOP_BLOCKS top.2
    let s := { s with outs := { s.outs with trainReq := !(s.chanList.all fun k => (s.chan k).trained) } }
    if s.chanList.all fun k => (s.chan k).trained then s.memStart else s

def execMemoryTrained (ch capPages : Nat) (s : State) : Res :=
  guarded (s.mount && ch < s.channels && !(s.chan ch).trained) s (State.opTrained ch capPages)

/-! ### The RAT window -/

/-- The entry in the window. -/
def State.ratWin (s : State) : RatEntry :=
  let w := fun k => BitVec.ofNat 64 (s.rd (Page.mch 0) Reg.RAT_WINw.DATA (2 * k) + 2 ^ 32 * s.rd (Page.mch 0) Reg.RAT_WINw.DATA (2 * k + 1))
  { w0 := w 0, w1 := w 1, w2 := w 2, w3 := w 3 }

/-- RAT_CMD.WRITE (R246, R247). -/
def State.opRatWrite (s : State) : State :=
  let n := s.rd (Page.mch 0) Reg.RAT_SEL.ENTRY
  let e := s.ratWin
  let code := s.ratCode n e false
  if code = 0 then (s.ratStore n e none).tdiError e.names else s.ratRefuse e code
def execRatCmdWrite (p : Party) (s : State) : Res := s.action p (Page.mch 0) State.opRatWrite

/-- RAT_CMD.READ (R257). -/
def State.opRatRead (s : State) : State :=
  let e := s.ratAt (s.rd (Page.mch 0) Reg.RAT_SEL.ENTRY)
  ([e.w0, e.w1, e.w2, e.w3].zipIdx).foldl (fun s x =>
    (s.wr (Page.mch 0) Reg.RAT_WINw.DATA (x.1.toNat % 2 ^ 32) (2 * x.2)).wr (Page.mch 0) Reg.RAT_WINw.DATA (x.1.toNat / 2 ^ 32) (2 * x.2 + 1)) s
def execRatCmdRead (p : Party) (s : State) : Res := s.action p (Page.mch 0) State.opRatRead

/-- RAT_WRITE_COMPLETE (R250): the oldest write of the entry is complete. -/
def State.opRatDone (n : Nat) (s : State) : State :=
  match s.mem.ratPending.find? fun e => e.1 == n with
  | none => s
  | some e =>
    let rest := s.mem.ratPending.erase e
    let s := { s with mem := { s.mem with ratPending := rest } }
    let s := if rest.isEmpty then s.wr (Page.mch 0) Reg.RAT_STATUS.DONE 1 else s
    match e.2 with
    | some p => s.finish p St.OK
    | none => s
def execRatWriteComplete (entry : Nat) (s : State) : Res := guarded s.mount s (State.opRatDone entry)

/-- MCH_LINE_PAGES_WRITE (R244, R275, R290): refused while a region exists or a pass runs; a change rebuilds every warm leaf. -/
def State.opLinePages (v : W32) (s : State) : State :=
  let p := Page.mch 0
  let x := down64 (fieldOf v 0 25)
  if s.mem.rat.any (fun e => e.2.valid) || s.farRunning then
    (s.wr p Reg.RAT_STATUS.CODE 0x09).err p Err.mch.RAT_REFUSED { detail := 0x09 }
  else if x = s.rd p Reg.MCH_LINE_PAGES.PAGES then s
  else
    let s := s.wr p Reg.MCH_LINE_PAGES.PAGES x
    if !s.mem.ready then s else
    let s := s.chanList.foldl (fun s n => ((s.chan n).leaves.map Prod.fst).foldl (fun s g => s.reinitPage n g) s) s
    s.calm.runCarve
def execMchLinePagesWrite (p : Party) (v : W32) (s : State) : Res :=
  s.action p (Page.mch 0) fun s =>
    s.unlocked (Page.mch 0) (down64 (fieldOf v 0 25) != s.rd (Page.mch 0) Reg.MCH_LINE_PAGES.PAGES) (State.opLinePages v)

/-! ### The maintenance token (R471, R472, R476) -/

/-- The oldest request for a free token is granted. -/
def State.nextToken (s : State) (n : Nat) : State :=
  let c := s.chan n
  match c.tokenWait with
  | [] => s
  | x :: r => if c.token.isNone && s.mrOn then (s.setChan n { c with tokenWait := r }).grantToken n x else s

/-- Release the token; the oldest request is granted. -/
def State.dropToken (s : State) (n : Nat) (u : TokenUse) : State :=
  if (s.chan n).token ≠ some u then s else
  let s := if u = .scrub then (s.wr (Page.mch n) Reg.MCH_STATUS.SCRUB_TOKEN 0).cnt 16 1
    else if u = .walk then s.wr (Page.mch n) Reg.MCH_STATUS.WALKING 0 else s
  (s.setChan n { s.chan n with token := none }).nextToken n

/-! ### Triage (R440) -/

/-- Rebuild it: the extent, or the page of the granule. -/
def State.triageRebuild (s : State) (t : Triage) : State :=
  s.addRebuild t.ch { level := max 1 t.level, index := t.index, retire := false, byHost := false, triage := true }

/-- The action on the shown item has completed; the next one is shown. -/
def State.triageNext (s : State) : State :=
  let s := ({ s with faults := { s.faults with triage := s.faults.triage.tail } }).showTriage
  if s.faults.triage.isEmpty then s else s.haPost 7

/-- An action on the shown item answers the request. One that has joined the rebuild list completes with it (R440). -/
def State.triageAct (s : State) (f : State → Triage → State) (later : Triage → Bool) : State :=
  match s.faults.triage with
  | t :: _ =>
    if !s.haPending 7 then s else
    let s := f (s.haClear 7) t
    if later t then s else s.triageNext
  | [] => s

/-- RETIRE acts as hardware mode does; REBUILD; LEAVE. -/
def State.actRetire (s : State) : State := s.triageAct (State.triageRetire true) fun t => t.level != 0
def State.actRebuild (s : State) : State := s.triageAct State.triageRebuild fun _ => true
def State.actLeave (s : State) : State := s.triageAct (fun s _ => s) fun _ => false

def execTriageRetire (p : Party) (s : State) : Res :=
  s.action p Page.err fun s => s.assisted (.triageRetire p) State.actRetire
def execTriageRebuild (p : Party) (s : State) : Res :=
  s.action p Page.err fun s => s.assisted (.triageRebuild p) State.actRebuild
def execTriageLeave (p : Party) (s : State) : Res :=
  s.action p Page.err fun s => s.assisted (.triageLeave p) State.actLeave

/-! ### Read results -/

/-- A pipe's parity mismatch: the pipe leaves service, the last one with the channel (R242). -/
def State.pipeFault (s : State) (n : Nat) : State :=
  let c := s.chan n
  let s := (s.setChan n { c with pipesOut := c.pipesOut + 1 }).wr (Page.mch n) Reg.MCHn_PIPES.IN_SERVICE (64 - (c.pipesOut + 1))
  let s := s.err (Page.mch n) Err.mch.PIPE_FAULT
  if 64 ≤ c.pipesOut + 1 then s.chanFail n else s

/-- A granule's read (R238), stored poison or not; a granule never written reads zeros without a check (R241). -/
def State.granResult (s : State) (n : Nat) (r : ReadResult) : State :=
  let p := Page.mch n
  let g := r.index / 64
  let off := s.pageAt n g
  let start := off + r.index % 64 * s.granSize off
  if r.firstOk || SMap.getD (s.leaf n g).minors 0 (r.index % 64) = 0 then s
  else if s.rdb p Reg.MCH_CTRL.TAG_REREAD && r.secondOk then
    (s.inc p Reg.MCHn_REREAD_OK.COUNT).err p Err.mch.TAG_REREAD_OK { place := start, placeKind := 1 }
  else
    let s := (s.inc p Reg.MCHn_TAG_FAIL.COUNT).err p Err.mch.TAG_FAIL { place := start, placeKind := 1 }
    let s := { s with mem := { s.mem with failed := insertUp s.mem.failed start } }
    s.triageAdd { ch := n, level := 0, index := g, granule := r.index % 64, cause := 0 }

/-- MEMORY_READ_RESPONSE (R238, R242, R273). -/
def State.opReadResponse (n : Nat) (r : ReadResult) (s : State) : State :=
  let s := if r.pipeFault then s.pipeFault n else s
  if s.istate = 3 then s else if r.level = 0 then s.granResult n r else s.blockResult n r
def execMemoryReadResponse (ch : Nat) (r : ReadResult) (s : State) : Res :=
  guarded (s.mount && s.memOpen && ch < s.channels) s (State.opReadResponse ch r)

/-- MEMORY_WRITE_DONE (R242, R488): the controller reports a write complete, a re-encryption's among them. What the write did to memory, to its
counters (R239, R265, R268, R271) and to what waited for it (R125) took place when the channel accepted it; a parity mismatch found in it takes its
pipe out of service. -/
def execMemoryWriteDone (ch : Nat) (w : WriteResult) (s : State) : Res :=
  guarded (s.mount && s.memOpen && ch < s.channels) s fun s => if w.pipeFault then s.pipeFault ch else s

/-! ### Re-encryption -/

/-- The oldest queued block's MAJOR rises and its slot opens; a block of L3 or above is written through. -/
def State.startReenc (s : State) (n : Nat) (r : Reenc) : State :=
  let s := s.walkTo n r.level r.index
  if r.level ≤ 1 then s.overflowLeaf n r.index none
  else
    let s := s.overflowUpper n r.level r.index false
    if 3 ≤ r.level then State.writeBlock 8 n r.level r.index s else s

/-- REENC_START (R268): the oldest queued block takes one of the 112 slots not reserved. In the end zone it waits (R271). -/
def State.opReencStart (n : Nat) (s : State) : State :=
  match (s.chan n).reencQueue with
  | [] => s
  | r :: _ => if 112 ≤ s.slotsOpen n then s else s.orWait fun s => s.startReenc n r
def execReencStart (ch : Nat) (s : State) : Res := guarded (s.mount && s.memOpen && ch < s.channels) s (State.opReencStart ch)

/-- The granules of a slot's page that the sweep has found failing: those that have failed and were not done (R268). -/
def State.sweepBad (s : State) (n : Nat) (r : Reenc) : List Nat :=
  let off := s.pageAt n r.index
  if r.level = 1 then s.mem.failed.filter fun a => off ≤ a && a < off + 4096 && !r.done.getLsbD (s.granIndex a) else []

/-- REENC_COMPLETE (R268 to R270): the slot closes; granules that failed their tags in the sweep are stored poisoned; what waited is served. -/
def State.opReencDone (n level index : Nat) (s : State) : State :=
  match (s.chan n).slotOf level index with
  | none => s
  | some r =>
    let s := (s.sweepBad n r).foldl (fun s a => s.poisonGran a) s
    ((s.setChan n { s.chan n with reenc := (s.chan n).reenc.filter fun r => !(r.level == level && r.index == index) }).showReenc n).runWaits
def execReencComplete (ch level index : Nat) (s : State) : Res :=
  guarded (s.mount && ch < s.channels) s (State.opReencDone ch level index)

/-! ### TREE_CMD and the token's commands (R275, R276, R278, R471) -/

def execTokenRequest (ch : Nat) (use : TokenUse) (s : State) : Res :=
  guarded (s.mount && ch < s.channels) s fun s => s.askToken ch use
def execTokenRelease (ch : Nat) (use : TokenUse) (s : State) : Res :=
  guarded (s.mount && ch < s.channels) s fun s => s.dropToken ch use

/-- SCRUB_CHUNK (R277): the schedule calls for the next chunk. -/
def execScrubChunk (ch : Nat) (s : State) : Res :=
  guarded (s.mount && s.memOpen && ch < s.channels && s.rdb (Page.mch ch) Reg.MCH_CTRL.SCRUB_EN) s fun s => s.askToken ch .scrub

/-- Report a TREE_CMD's code. -/
def State.treeCode (s : State) (n code : Nat) : State := s.wr (Page.mch n) Reg.MCHn_TREE_STATUS.CODE code

/-- The code of a rebuild or retire; 0 when accepted. A WALK that TREE_CMD asked for is a command that runs, as a REBUILD or RETIRE is. -/
def State.treeCmdCode (s : State) (n : Nat) (retire : Bool) : Nat :=
  let c := s.chan n
  let level := s.rd (Page.mch n) Reg.MCHn_TREE_SEL.LEVEL
  if c.rebuilds.any (·.byHost) || c.walkCmd then 1
  else if level = 0 ∨ (treeTop c.capPages).1 < level ∨ (retire = true ∧ 3 < level) then 2
  else if levelBlocks (level - 1) c.capPages ≤ s.rd (Page.mch n) Reg.MCHn_TREE_SEL.INDEX then 3
  else 0

/-- REBUILD and RETIRE. -/
def State.opTreeCmd (n : Nat) (retire : Bool) (s : State) : State :=
  let p := Page.mch n
  let code := s.treeCmdCode n retire
  let s := s.treeCode n code
  if code ≠ 0 then s else
  (s.wr p Reg.MCHn_TREE_STATUS.DONE 0).addRebuild n
    { level := s.rd p Reg.MCHn_TREE_SEL.LEVEL, index := s.rd p Reg.MCHn_TREE_SEL.INDEX, retire := retire, byHost := true, triage := false }
def execRebuild (p : Party) (ch : Nat) (s : State) : Res := s.action p (Page.mch ch) (State.opTreeCmd ch false)
def execRetire (p : Party) (ch : Nat) (s : State) : Res := s.action p (Page.mch ch) (State.opTreeCmd ch true)

/-- What an entry of the rebuild list asks for is done. -/
def State.doRebuild (s : State) (n : Nat) (e : Rebuild) : State :=
  if e.retire then s.retireExtent n e.level e.index else s.rebuildExtent n e.level e.index

/-- REBUILD_COMPLETE (R275): the oldest entry of the list is done, unless it must wait, and the token goes on. -/
def State.opRebuildDone (n : Nat) (s : State) : State :=
  match (s.chan n).rebuilds with
  | [] => s
  | e :: r =>
    if s.rebuildHeld n e.level e.index || (s.calm.doRebuild n e).blocked then s else
    let s := s.doRebuild n e
    let s := s.setChan n { s.chan n with rebuilds := r }
    let s := if e.byHost then s.wr (Page.mch n) Reg.MCHn_TREE_STATUS.DONE 1 else s
    let s := if e.triage then s.triageNext else s
    let s := s.dropToken n .rebuild
    if r.isEmpty then s else s.askToken n .rebuild
def execRebuildComplete (ch : Nat) (s : State) : Res :=
  guarded (s.mount && ch < s.channels && (s.chan ch).token == some .rebuild) s (State.opRebuildDone ch)

/-- Start a walk on a channel. -/
def State.startWalk (s : State) (n : Nat) : State :=
  (s.setChan n { s.chan n with walkDue := false }).askToken n .walk

/-- The request of a host-assisted walk ends when no channel is still to be walked. -/
def State.endWalks (s : State) : State := if s.chanList.any fun n => (s.chan n).walkDue then s else if s.haPending 0 then s.haClear 0 else s

/-- WALK (R276, R278). -/
def State.opWalk (n : Nat) (s : State) : State :=
  let c := s.chan n
  if c.token = some .walk ∨ c.tokenWait.contains .walk then s.treeCode n 4
  else if c.rebuilds.any (·.byHost) then s.treeCode n 1
  else
    let s := ((s.treeCode n 0).wr (Page.mch n) Reg.MCHn_TREE_STATUS.DONE 0).setChan n { c with walkCmd := true }
    (s.startWalk n).endWalks
def execWalk (p : Party) (ch : Nat) (s : State) : Res :=
  s.action p (Page.mch ch) fun s => if s.haPending 0 then s.assisted (.walk p ch) (State.opWalk ch) else s.opWalk ch

/-- COLD_WALK_COMPLETE (R276): a WALK of TREE_CMD is done; the warm blocks of L3 and above stand in the counter cache; the token goes on. -/
def State.opWalkDone (n : Nat) (s : State) : State :=
  let c := s.chan n
  let pinned := (c.upper.map Prod.fst).filter fun b => 3 * 2 ^ 25 ≤ b && !(c.cached.contains b)
  let s := s.setChan n { c with cached := c.cached ++ pinned, walkCmd := false }
  (if c.walkCmd then s.wr (Page.mch n) Reg.MCHn_TREE_STATUS.DONE 1 else s).dropToken n .walk
def execColdWalkComplete (ch : Nat) (s : State) : Res :=
  guarded (s.mount && ch < s.channels && (s.chan ch).token == some .walk) s (State.opWalkDone ch)

/-- A cold walk is triggered (R276): every channel in hardware mode; in host-assisted mode host software is asked. -/
def State.triggerWalk (s : State) : State :=
  if s.hostMode 0 then
    (s.chanList.foldl (fun s n => s.setChan n { s.chan n with walkDue := true }) s).haPost 0
  else s.chanList.foldl (fun s n => s.startWalk n) s

/-! ### The patrol (R433) -/

/-- An uncorrectable word of a store, handled as a read by the store's owner would. Stores: 0 the gait table (index port × 8,192 + bank × 4,096 +
stride), 1 descriptors, 2 signals, 3 hitch tables and counters, 4 the RAT, 5 pinned counter-cache blocks and 6 root registers and marks (index
the channel), 7 the tack store. Poison is never used as a valid value (R15): a lost descriptor or table entry counts as not valid. -/
def State.patrolBad (s : State) (store index : Nat) : State :=
  match store with
  | 0 =>
    let n := index / 8192
    let mark := fun (g : GaitImage) => { g with strides := g.strides.zipIdx.map fun e => if e.2 = index % 4096 then { e.1 with bad := true } else e.1 }
    let b := SMap.getD s.gait.banks { a := none, b := none } n
    let b := if index / 4096 % 2 = 0 then { b with a := b.a.map mark } else { b with b := b.b.map mark }
    ({ s with gait := { s.gait with banks := SMap.put s.gait.banks { a := none, b := none } n b } }).err Page.gait Err.gait.STORE_CHECK
      { place := index, placeKind := 3 }
  | 1 => { s with red := { s.red with desc := SMap.erase s.red.desc (index % 4096) } }
  | 2 => { s with sync := { s.sync with signals := SMap.erase s.sync.signals (index % 4096) } }
  | 3 =>
    if s.boot.post then s.counterLost (index % 1024)
    else { s with sync := { s.sync with joins := SMap.erase s.sync.joins (index % 1024) } }
  | 4 => if s.channels = 0 then s else s.chanFail 0 { place := index, placeKind := 3 }
  | 5 => if index < s.channels then s.treeCorr index else s
  | 6 => if index < s.channels then s.chanFail index else s
  | _ =>
    let x := SMap.getD s.trust.slots Slot.free (index % 32)
    if x.state = 0 then s else
    ({ s with trust := { s.trust with slots := SMap.put s.trust.slots Slot.free (index % 32) { x with state := 3 } } }).err Page.key
      Err.key.SLOT_CHECK { place := index % 32, placeKind := 6 }

/-- PATROL_READ (R433). -/
def execPatrolRead (store index : Nat) (bad : Bool) (s : State) : Res :=
  guarded (s.serving && bad) s fun s => s.patrolBad store index

end Sys2Proof.Machine
end

