-- ==== Sys2Proof/Machine/Farrier.lean ====
section
/-! DEFINITION. The Farrier (R280 to R292): starting a pass, page steps under pace or grant, the restarts of internal blocks, the end of
a pass, pausing and resuming. -/

namespace Sys2Proof.Machine

/-! ### Starting (R285) -/

/-- The code with which a start is refused, 0 when none. -/
def State.farCode (s : State) : Nat :=
  if s.farRunning then 1
  else if s.power.mrOff || s.power.mrGoingOff || s.power.mrWaking then 2
  else if !s.mem.ready then 3 else 0

/-- FAR_START: a write of CTRL.FAR_START in MCH0. -/
def State.opFarStart (s : State) : State :=
  let code := s.farCode
  let s := s.wr (Page.mch 0) Reg.FAR_START_STATUS.CODE code
  if code = 0 then s.farBegin 1 else s
def execFarStart (p : Party) (s : State) : Res := s.action p (Page.mch 0) State.opFarStart

/-- FAR_AUTO_START: the hours of AUTO_HOURS have passed; codes 2 and 3 make it wait. -/
def execFarAutoStart (s : State) : Res :=
  guarded (s.mount && s.rd (Page.mch 0) Reg.FAR_CFG.AUTO_HOURS != 0 && s.farCode == 0) s fun s => s.farBegin 2

/-! ### Pausing (R288, R291) -/

/-- Is the pass urgent in channel `n` (R288)? -/
def State.farUrgent (s : State) (n : Nat) : Bool := s.rdb (Page.mch n) Reg.MCH_STATUS.URGENT

/-- Show a channel's Farrier state. -/
def State.setFar (s : State) (n x : Nat) : State :=
  (s.setChan n { s.chan n with farState := x }).wr (Page.mch n) Reg.MCH_STATUS.FAR_STATE x

/-- Must channel `n` pause: FAR_PAUSE in a channel that is not urgent, or MR is going OFF? -/
def State.farMustPause (s : State) (n : Nat) : Bool :=
  s.power.mrGoingOff || (s.rdb (Page.mch n) Reg.MCH_CTRL.FAR_PAUSE && !s.farUrgent n)

/-- A RUNNING channel that must pause does so once no page step is open: the token goes back, the clock of R286 stops. -/
def State.farSettle (s : State) (n : Nat) : State :=
  let c := s.chan n
  if c.farState = 1 && s.farMustPause n && c.steps.isEmpty then
    ((s.setChan n { c with farRun := c.farRun + (s.now - c.farSince) }).setFar n 2).dropToken n .farrier
  else s

/-- A PAUSED channel that need not pause runs again. -/
def State.farWake (s : State) (n : Nat) : State :=
  let c := s.chan n
  if c.farState = 2 && !s.farMustPause n && s.memOpen then (s.setChan n { c with farSince := s.now }).setFar n 1 else s

def execFarPause (p : Party) (ch : Nat) (s : State) : Res :=
  s.action p (Page.mch ch) fun s => (s.wr (Page.mch ch) Reg.MCH_CTRL.FAR_PAUSE 1).farSettle ch
def execFarResume (p : Party) (ch : Nat) (s : State) : Res :=
  s.action p (Page.mch ch) fun s => (s.wr (Page.mch ch) Reg.MCH_CTRL.FAR_PAUSE 0).farWake ch

/-! ### Grants (R287) -/

/-- Does the pass run against grants: it started in host-assisted mode (R61), and its request has not been withdrawn (R62)? -/
def State.farByGrant (s : State) : Bool := s.mem.farHost && !s.mem.farCut

/-- The request ends when no channel waits. -/
def State.farGranted (s : State) : State :=
  if s.haPending 1 && !(s.chanList.any fun n => s.rdb (Page.mch n) Reg.MCH_STATUS.WAIT_GRANT) then s.haClear 1 else s

/-- FAR_GRANT: pages that the channel may step; discarded after a withdrawal. -/
def State.opFarGrant (n : Nat) (v : W32) (s : State) : State :=
  if s.mem.farCut then s else
  let x := fieldOf v 0 25
  let s := s.wr (Page.mch n) Reg.MCHn_FAR_GRANT.PAGES x
  (if x = 0 then s else s.wr (Page.mch n) Reg.MCH_STATUS.WAIT_GRANT 0).farGranted
def execFarGrant (p : Party) (ch : Nat) (v : W32) (s : State) : Res :=
  s.action p (Page.mch ch) fun s => s.assisted (.farGrant p ch v) (State.opFarGrant ch v)

/-! ### Page steps (R282, R283) -/

/-- Bytes that channel `n` has moved in this pass. -/
def State.farMoved (s : State) (n : Nat) : Nat := s.rdPair (Page.mch n) Reg.MCHn_FAR_MOVED_LO.BYTES Reg.MCHn_FAR_MOVED_HI.BYTES

/-- Count bytes moved. -/
def State.farMove (s : State) (n bytes : Nat) : State :=
  (s.wrPair (Page.mch n) Reg.MCHn_FAR_MOVED_LO.BYTES Reg.MCHn_FAR_MOVED_HI.BYTES (s.farMoved n + bytes)).cnt 15 bytes

/-- The granules of page `g` that gait writes have done while its step is open, with their minors (R269, R282). -/
def Chan.sweptOf (c : Chan) (g : Nat) : List (Nat × Nat) := (c.swept.filter fun e => e.1 / 64 == g).map fun e => (e.1 % 64, e.2)

/-- Has the step of page `g` nothing to write: its leaf is cold, or it lies in a poisoned extent (R282, R290)? -/
def State.farSkips (s : State) (n g : Nat) : Bool := (s.leaf n g == Leaf.zero && ((s.chan n).sweptOf g).isEmpty) || s.extentPoisoned n g

/-- Bytes that the step of page `g` moves: its warm granules with their tags, and its leaf, each read and written. -/
def State.stepBytes (s : State) (n g : Nat) : Nat :=
  if s.farSkips n g then 0 else 2 * ((s.leaf n g).minors.length * (s.granSize (s.pageAt n g) + 8)) + 128

/-- The pages left of the chunk at the shoe line. -/
def State.chunkLeft (s : State) (n : Nat) : List Nat :=
  let sl := (s.chan n).shoe
  (List.range (min ((sl / 64 + 1) * 64) s.mem.usable - sl)).map (· + sl)

/-- Does the chunk's whole byte count lie within the limit of R286 (R474)? PACE_PCT % of 2.0 TB/s is 20 × PACE_PCT bytes per ns of
running time. -/
def State.farPace (s : State) (n : Nat) : Bool :=
  let c := s.chan n
  s.farMoved n + ((s.chunkLeft n).map (s.stepBytes n)).sum ≤ 20 * s.rd (Page.mch 0) Reg.FAR_CFG.PACE_PCT * (c.farRun + (s.now - c.farSince))

/-- Does the channel's grant cover the steps left of the chunk (R473)? -/
def State.farCovered (s : State) (n : Nat) : Bool := (s.chunkLeft n).length ≤ s.rd (Page.mch n) Reg.MCHn_FAR_GRANT.PAGES

/-- May the channel hold the token for the chunk at the shoe line: it holds it, or it is urgent, or its grant or its pace allows the whole chunk
(R288, R473, R474)? -/
def State.farMayHold (s : State) (n : Nat) : Bool :=
  (s.chan n).token == some .farrier || s.farUrgent n || (if s.farByGrant then s.farCovered n else s.farPace n)

/-- The page of the next step. -/
def Chan.nextStep (c : Chan) : Nat := c.shoe + c.steps.length

/-- May channel `n` open a step: RUNNING, pages left in the chunk in hand, a slot free of the reserved ones, and the page has no open slot? -/
def State.farMayStep (s : State) (n : Nat) : Bool :=
  let c := s.chan n
  let g := c.nextStep
  c.farState == 1 && !s.farMustPause n && g < s.mem.usable && (c.steps.isEmpty || g / 64 == c.shoe / 64)
    && c.steps.length < (if s.farUrgent n then 64 else 16) && c.reenc.length + c.steps.length < 112
    && !(c.reenc.any fun r => r.level == 1 && r.index == g)

/-- Restart block `j` of level `k` (R283): MAJOR 0, warm minors 1, the block written under K′. Nothing is written in a poisoned extent (R290). -/
def State.farRestart (s : State) (n k j : Nat) : State :=
  if (s.chan n).psn.any fun e => k ≤ e.2.1 && j / 64 ^ (e.2.1 - k) == e.2.2.1 then s else
  match SMap.find? (s.chan n).upper (blockCode k j) with
  | none => s
  | some l => ((((s.walkTo n k j).setUpper n k j l.restart).dropReenc n k j).cleanBlock n k j).farMove n (if k < 3 then 128 else 192)

/-- The restarts that the shoe line's position calls for, lowest level first. -/
def State.farRestarts (s : State) (n : Nat) : State :=
  let sl := (s.chan n).shoe
  ((List.range (treeTop (s.chan n).capPages).1).map (· + 1)).foldl (fun s k =>
    let w := 64 ^ (k - 1)
    if k ≥ 2 ∧ sl = min (((sl - 1) / w + 1) * w) s.mem.usable then s.farRestart n k ((sl - 1) / w) else s) s

/-- Every channel is DONE: K is destroyed, K′ is the memory key, its marks are the marks (R284). -/
def State.farEnd (s : State) : State :=
  let s := { s with mem := { s.mem with key := s.mem.keyNext, keyNext := none } }
  let s := s.chanList.foldl (fun s n =>
    let c := s.chan n
    let p := Page.mch n
    let s := (s.setChan n { c with hwm := c.hwmNext, hwmNext := 0, keyNextLoaded := false }).setFar n 0
    ((((s.showHwm n).wr p Reg.MCH_STATUS.TWO_KEYS 0).wr p Reg.MCH_STATUS.URGENT 0).wr p Reg.MCH_STATUS.WAIT_GRANT 0).wr p
      Reg.MCH_STATUS.END_ZONE (b2n (endZone ≤ c.hwmNext))) s
  let s := (s.incSat (Page.mch 0) Reg.FAR_PASS_COUNT.COUNT).wrPair (Page.mch 0) Reg.FAR_END_DT_LO.NS Reg.FAR_END_DT_HI.NS s.dtNs
  s.farGranted

/-- A channel has reached U: it is DONE; the pass ends with the last one. -/
def State.farChanEnd (s : State) (n : Nat) : State :=
  let s := ((s.wr (Page.mch n) Reg.MCH_STATUS.WAIT_GRANT 0).setFar n 3).farGranted
  if s.chanList.all fun k => (s.chan k).farState == 3 then s.farEnd else s

/-- A channel whose grant has gone holds no token once its open steps have closed (R473). -/
def State.farYield (s : State) (n : Nat) : State :=
  if s.farByGrant && !s.farUrgent n && s.rd (Page.mch n) Reg.MCHn_FAR_GRANT.PAGES == 0 && (s.chan n).steps.isEmpty then s.dropToken n .farrier
  else s

/-- The page at the shoe line is complete: the line moves on, the restarts follow, the chunk's token goes back at its end (R282, R283,
R289). -/
def State.farAdvance (s : State) (n : Nat) : State :=
  let c := s.chan n
  let s := ((s.setChan n { c with shoe := c.shoe + 1 }).wr (Page.mch n) Reg.MCHn_SHOE_LINE.SL (c.shoe + 1)).farRestarts n
  let atEnd := s.mem.usable ≤ c.shoe + 1
  let s := if atEnd || (c.shoe + 1) % 64 == 0 then s.dropToken n .farrier else s
  (if atEnd then s.farChanEnd n else (s.farSettle n).farYield n).runWaits

/-- Open the step of the next page; one that has nothing to write and stands at the shoe line completes at once. -/
def State.farOpen (s : State) (n : Nat) : State :=
  let c := s.chan n
  let g := c.nextStep
  if c.steps.isEmpty && s.farSkips n g then s.farAdvance n
  else (s.setChan n { c with steps := c.steps ++ [g] }).showReenc n

/-- A step against a grant: it is decremented, and at zero the channel waits for more. -/
def State.farByGrantStep (s : State) (n : Nat) : State :=
  let x := s.rd (Page.mch n) Reg.MCHn_FAR_GRANT.PAGES
  let s := s.wr (Page.mch n) Reg.MCHn_FAR_GRANT.PAGES (x - 1)
  (if x = 1 then s.farWait n else s).farOpen n

/-- FAR_PAGE_STEP (R282, R286 to R289). -/
def State.opFarStep (n : Nat) (s : State) : State :=
  let s := s.farWake n
  if !s.farMayStep n then s
  else if s.farByGrant && !s.farUrgent n && s.rd (Page.mch n) Reg.MCHn_FAR_GRANT.PAGES = 0 then (s.farWait n).farYield n
  else if !s.farMayHold n then s else
  let s := s.askToken n .farrier
  if (s.chan n).token ≠ some .farrier then s
  else s.orWait fun s => if s.farByGrant && !s.farUrgent n then s.farByGrantStep n
  else s.farOpen n
def execFarPageStep (ch : Nat) (s : State) : Res :=
  guarded (s.mount && s.memOpen && s.farRunning && ch < s.channels) s (State.opFarStep ch)

/-- The granules of page `g` that the sweep writes stored-poison: warm ones that failed their tag or were stored so (R282). -/
def State.farBad (s : State) (n g : Nat) (badTags : List Nat) : List Nat :=
  let off := s.pageAt n g
  let done := ((s.chan n).sweptOf g).map Prod.fst
  (((s.leaf n g).minors.map Prod.fst).filter fun i => !done.contains i).filter fun i =>
    badTags.contains i || s.mem.poison.contains (off + i * s.granSize off) || s.mem.failed.contains (off + i * s.granSize off)

/-- The leaf as a page step leaves it: MAJOR 0, warm minors 1, those of granules done by gait writes as these left them (R282). -/
def State.farLeaf (s : State) (n g : Nat) : Leaf :=
  let l := (s.leaf n g).restart
  { l with minors := ((s.chan n).sweptOf g).foldl (fun m e => SMap.put m 0 e.1 e.2) l.minors }

/-- The sweep's end: the leaf restarts under K′ and what failed is stored poisoned (R282, R290). -/
def State.farSweep (s : State) (n g : Nat) (badTags : List Nat) : State :=
  let p := Page.mch n
  let off := s.pageAt n g
  let moved := s.stepBytes n g
  let bad := s.farBad n g badTags
  let s := bad.foldl (fun s i => s.poisonGran (off + i * s.granSize off)) s
  let s := if bad.isEmpty then s else (s.add p Reg.MCHn_FAR_POISON.COUNT bad.length).err p Err.mch.FAR_TAG_FAIL { place := off, placeKind := 1 }
  let s := s.setLeaf n g (s.farLeaf n g)
  let s := s.setChan n { s.chan n with swept := (s.chan n).swept.filter fun e => e.1 / 64 != g }
  ((s.dropReenc n 1 g).storeBlock n 1 g).farMove n moved

/-- FAR_PAGE_STEP_DONE: the step at the shoe line closes. -/
def State.opFarStepDone (n page : Nat) (badTags : List Nat) (s : State) : State :=
  match (s.chan n).steps with
  | [] => s
  | g :: r =>
    if g ≠ page then s else s.orWait fun s =>
    let s := if s.farSkips n g then s else s.farSweep n g badTags
    ((s.setChan n { s.chan n with steps := r }).showReenc n).farAdvance n
def execFarPageStepDone (ch page : Nat) (badTags : List Nat) (s : State) : Res :=
  guarded (s.mount && s.farRunning && ch < s.channels) s (State.opFarStepDone ch page badTags)

end Sys2Proof.Machine
end

