-- ==== Sys2Proof/Machine/Host.lean ====
section
/-! DEFINITION. What the block asks of the host (R491, R492): reads with a tag, writes, in the name of a function; and its SPDM answers
(R373, R374). -/

namespace Sys2Proof.Machine

/-- What an outstanding host read is for, with a key that its purpose interprets. -/
abbrev Use.FETCH : Nat := 1      -- a packet of queue `key` (R298)
abbrev Use.COPY : Nat := 2       -- a piece of the COPY in packet store entry `key` (R308)
abbrev Use.IMAGE : Nat := 3      -- the gait image of packet `key` on a Post block (R319)
abbrev Use.ANCHOR : Nat := 4     -- the anchor of packet `key` on a Post block
abbrev Use.LCREQ : Nat := 5      -- the life-cycle request of packet `key` on a Post block
abbrev Use.CERT : Nat := 6       -- the certificate chain
abbrev Use.MEAS : Nat := 7       -- the host measurement entries
abbrev Use.EXPORT : Nat := 8     -- the write of the DeviceID export record

/-- Issue a host read in the name of a function; while the host link is down none is issued (R492),
and the read times out. -/
def State.hostRead (s : State) (fn addr len purpose key : Nat) : State :=
  let t := s.host.nextTag
  let s := { s with host := { s.host with nextTag := (t + 1) % 4096, reads := SMap.set s.host.reads t (purpose, key, len) } }
  if s.pins.linkUp then s.emit (.hostRead fn addr len t) else s

/-- Issue a host write in the name of a function. -/
def State.hostWrite (s : State) (fn addr : Nat) (data : List Byte) (poison : Bool := false) : State :=
  (s.emit (.hostWrite fn addr data poison)).cnt 9 data.length

/-! ### SPDM answers -/

/-- Response codes and error codes of SPDM (from the SPDM standard). -/
abbrev Spdm.DIGESTS : Nat := 0x01
abbrev Spdm.CERTIFICATE : Nat := 0x02
abbrev Spdm.CHALLENGE_AUTH : Nat := 0x03
abbrev Spdm.VERSION : Nat := 0x04
abbrev Spdm.CHUNK_SEND_ACK : Nat := 0x05
abbrev Spdm.CHUNK_RESPONSE : Nat := 0x06
abbrev Spdm.MEASUREMENTS : Nat := 0x60
abbrev Spdm.CAPABILITIES : Nat := 0x61
abbrev Spdm.ALGORITHMS : Nat := 0x63
abbrev Spdm.KEY_EXCHANGE_RSP : Nat := 0x64
abbrev Spdm.FINISH_RSP : Nat := 0x65
abbrev Spdm.HEARTBEAT_ACK : Nat := 0x68
abbrev Spdm.KEY_UPDATE_ACK : Nat := 0x69
abbrev Spdm.ENCAPSULATED_REQUEST : Nat := 0x6A
abbrev Spdm.ENCAPSULATED_RESPONSE_ACK : Nat := 0x6B
abbrev Spdm.END_SESSION_ACK : Nat := 0x6C
abbrev Spdm.VENDOR : Nat := 0x7E
abbrev Spdm.ERROR : Nat := 0x7F
abbrev Spdm.InvalidRequest : Nat := 0x01
abbrev Spdm.Busy : Nat := 0x03
abbrev Spdm.UnexpectedRequest : Nat := 0x04
abbrev Spdm.Unspecified : Nat := 0x05
abbrev Spdm.DecryptError : Nat := 0x06
abbrev Spdm.UnsupportedRequest : Nat := 0x07
abbrev Spdm.LargeResponse : Nat := 0x0F

/-- A response goes out; the mailbox that waits for one holds it, and says so with the ERR vector when host software asked for that (R493). -/
def State.spdmOut (s : State) (session code : Nat) (body : List Byte) : State :=
  let s := s.emit (.spdm session code body)
  let s := { s with trust := { s.trust with sessions := s.trust.sessions.map fun x => if x.id = session then { x with rspSeq := x.rspSeq + 1 } else x } }
  if !s.host.doeBusy then s else
  let s := { s with host := { s.host with doeBusy := false, doeOut := Config.doeObject session code body, doeIntStat := true } }
  if s.host.doeIntEn then s.emit (.msix 0 2046) else s

/-- Answer: a message above DataTransferSize is kept for CHUNK_GET, and ERROR LargeResponse goes out in its place (R373). Session 0 stands for a
message outside every session. -/
def State.spdmSend (s : State) (session code : Nat) (body : List Byte) : State :=
  if body.length + 4 ≤ 4096 then s.spdmOut session code body
  else
    ({ s with trust := { s.trust with chunkOut := BitVec.ofNat 8 code :: body, chunkNo := 0 } }).spdmOut session Spdm.ERROR
      [BitVec.ofNat 8 Spdm.LargeResponse]

/-- Answer ERROR with a code. -/
def State.spdmErr (s : State) (session code : Nat) : State := s.spdmSend session Spdm.ERROR [BitVec.ofNat 8 code]

end Sys2Proof.Machine
end

