-- ==== Sys2Proof/Machine/Packets.lean ====
section
/-! DEFINITION. The format of packets (R299, R306 to R318, R335, R354, R387, R414) and the checks of R300 at steps 1 to 5. -/

namespace Sys2Proof.Machine

/-- A byte field of a packet as bit position and width. -/
def byteField (b n : Nat) : Nat × Nat := (8 * b, 8 * n)

/-- The body fields of each opcode, as bit positions and widths within the first slot; every other body bit is reserved. -/
def bodyFields (op : Nat) : List (Nat × Nat) :=
  match op with
  | 0x02 => [byteField 8 53]
  | 0x03 => [byteField 8 16, byteField 24 5, byteField 32 2]
  | 0x04 => [byteField 8 8, (128, 12), (144, 12)]
  | 0x05 => [(64, 5), (80, 12), (96, 16), byteField 16 4]
  | 0x06 => [byteField 8 2, byteField 16 12]
  | 0x07 => [byteField 8 2, byteField 16 12]
  | 0x08 => [(64, 13), (80, 2), byteField 11 1]
  | 0x09 => [byteField 8 52, (480, 13)]
  | 0x0A => [byteField 8 2, byteField 16 48]
  | 0x0B => [(64, 18), byteField 48 8]
  | 0x40 => [(64, 12), (80, 10), byteField 12 2, (112, 1)]
  | 0x41 => [(64, 12)]
  | 0x42 => [(64, 13), (80, 12), byteField 12 1, (104, 4), (112, 11), byteField 16 26]
  | 0x43 => [(64, 13)]
  | 0x44 => [(64, 13), byteField 10 1, (88, 2), byteField 16 4]
  | 0x45 => [(64, 18), (96, 12), (112, 2), byteField 16 16]
  | 0x46 => [(64, 18), byteField 12 2, (112, 1), byteField 16 8]
  | 0x47 => [byteField 8 2, (80, 12), byteField 16 8]
  | 0x48 => [byteField 8 2]
  | 0x49 => [(64, 18), byteField 16 10]
  | 0x60 => [byteField 8 2, byteField 16 8]
  | 0x61 => [(64, 6), byteField 16 12]
  | 0x62 => [byteField 8 1, byteField 16 32]
  | 0x63 => [byteField 16 12]
  | 0x64 => [(64, 12), (128, 29), (160, 28)]
  | 0x65 => [(64, 10), (128, 51)]
  | 0x66 => [byteField 16 8, (192, 10), (208, 15), (224, 15), byteField 32 6]
  | 0x67 => [byteField 16 8]
  | 0x69 => [byteField 8 2, (80, 1)]
  | 0x6A => [byteField 8 1, byteField 10 2, (96, 5)]
  | 0x6B => [byteField 8 1, byteField 16 16]
  | 0x6C => [byteField 8 14, byteField 24 22]
  | _ => []

/-- What is left of a number when fields are taken out. -/
def outside (v : Nat) (l : List (Nat × Nat)) : Nat := l.foldl (fun r f => r - bits v f.1 f.2 * 2 ^ f.1) v

/-- Is an opcode a user opcode, or a kernel opcode (R317)? -/
def userOp (op : Nat) : Bool := 0x02 ≤ op && op ≤ 0x0B
def kernelOp (op : Nat) : Bool := (0x40 ≤ op && op ≤ 0x49) || (0x60 ≤ op && op ≤ 0x6C)

/-- Is an opcode defined and served in the role? -/
def opServed (post : Bool) (op : Nat) : Bool :=
  if post then [0x01, 0x60, 0x61, 0x63].contains op else op == 0x01 || userOp op || kernelOp op

/-- Round up a quotient. -/
def ceilDiv (a b : Nat) : Nat := (a + b - 1) / b

/-- Extension slots that a body demands. -/
def demand (op v : Nat) : Nat :=
  match op with
  | 0x02 => ceilDiv (bits v 464 16) 64
  | 0x09 => ceilDiv (bits v 464 16) 64
  | 0x0A => ceilDiv (bits v 64 16 - 48) 64
  | _ => 0

/-- Is an opcode permitted on a queue: its kind, its function, its binding (R312, R315, R317)? `src` is the SRC of a COPY. -/
def opPermitted (kernel : Bool) (fn bind op src : Nat) : Bool :=
  if kernel then op == 0x01 || (0x40 ≤ op && op ≤ 0x49) || (kernelOp op && fn == 0)
  else match bind with
    | 1 => [0x01, 0x03, 0x04, 0x05, 0x06, 0x07].contains op
    | 2 => op == 0x01 || (op == 0x03 && src == 0)
    | 3 => op == 0x01 || op == 0x0A
    | _ => (op == 0x01 || userOp op) && op != 0x0A

/-- Does a field hold a reserved encoding (R299, R306, R308, R310, R315, R318)? -/
def badEncoding (op v : Nat) : Bool :=
  (bit v 16 && bits v 48 16 == 0) ||
  match op with
  | 0x02 => bits v 464 16 > 256 || bits v 464 16 % 4 != 0 || bits v 480 8 == 0 || bits v 480 8 > 64
  | 0x03 => bits v 192 40 == 0
  | 0x05 => !([0, 2].contains (bits v 65 4)) || (bit v 64 && bits v 128 32 == 0)
  | 0x09 => bits v 464 16 > 256 || bits v 464 16 % 4 != 0 || bits v 448 16 != 0
  | 0x0A => bits v 64 16 > 304
  | 0x42 => bits v 320 16 == 0
  | _ => false

/-- Steps 1 to 5 of R300: 0, or the status of the first failure. `avail` is the number of slots up to WPTR. -/
def formatStatus (post kernel : Bool) (fn bind maxVer avail : Nat) (l : List Byte) : Nat :=
  let v := ofLe (slice l 0 64)
  let op := bits v 0 8
  let xs := bits v 12 3
  if bits v 8 4 = 0 ∨ maxVer < bits v 8 4 then 0x10
  else if !opServed post op then 0x11
  else if xs ≠ demand op v ∨ 4 < xs ∨ avail < 1 + xs then 0x12
  else if !opPermitted kernel fn bind op (bits v 64 64) then 0x13
  else if outside v ([(0, 18), (32, 32)] ++ bodyFields op) ≠ 0 ∨ badEncoding op v = true then 0x14
  else 0

end Sys2Proof.Machine
end

