-- ==== Sys2Proof/Machine/Wire.lean ====
section
/-! DEFINITION. Units as they stand on a link: the words of a header (R112), the trailer (R113), the nonce of a seal (R115), and the bodies of
the control flits (R69, R126, R129). -/

namespace Sys2Proof.Machine

/-- Fields of value and width side by side, the first at bit 0. -/
def packed : List (Nat × Nat) → Nat
  | [] => 0
  | (v, w) :: r => v % 2 ^ w + 2 ^ w * packed r

/-- H0 of a data frame (R112). -/
def frameH0 (h : FrameHdr) : Nat :=
  packed [(h.fver, 2), (h.ftype, 2), (h.flits - 1, 4), (b2n h.last, 1), (b2n h.sig, 1), (b2n h.empty, 1), (b2n h.late, 1), (b2n h.cover, 1),
    (h.keyPh, 1), (0, 2), (h.srcRank, 15), (b2n h.srcPost, 1)]

/-- H1 of a data frame: scheduled or loose (R112). -/
def frameH1 (h : FrameHdr) : Nat :=
  if h.ftype = 0 then packed [(h.stride, 12), (h.coverPlane, 5), (h.periodLo, 8), (0, 7)] else packed [(h.share, 10), (h.lkind, 3), (0, 19)]

/-- H2 of a data frame (R112). -/
def frameH2 (h : FrameHdr) : Nat := packed [(h.seqLo, 16), (h.dstRank, 15), (0, 1)]

/-- H0 of a control flit (R112). -/
def ctlH0 (h : CtlHdr) : Nat :=
  packed [(h.fver, 2), (2, 2), (h.kind, 4), (0, 5), (h.keyPh, 1), (0, 2), (h.srcRank, 15), (b2n h.srcPost, 1)]

/-- H1 and H2 of a control flit (R112). -/
def ctlH1 (h : CtlHdr) : Nat := b2n h.unauth
def ctlH2 (h : CtlHdr) : Nat := h.seqLo % 65536

/-- The 12 bytes of a header: the additional authenticated data of its unit (R112, R114). -/
def headerBytes (h0 h1 h2 : Nat) : List Byte := leBytes 4 h0 ++ leBytes 4 h1 ++ leBytes 4 h2

/-- The trailer of a data frame (R113). -/
def trailerOf (f : DataFrame) : Nat := packed [(f.poison, 16), (f.sigCode, 4), (f.sigRef, 12)]

/-- Bytes of a data frame between start markers: header, payload, trailer, tag (R111). -/
def wireBytes (f : DataFrame) : Nat := 256 * f.hdr.flits + 32

/-- The plaintext of a data frame's seal: payload and trailer (R114). -/
def sealedPart (f : DataFrame) : List Byte := f.data ++ leBytes 4 (trailerOf f)

/-- The nonce of a unit's seal: key epoch, series, sequence number (R115). -/
def gcmNonce (epoch : Nat) (ctl : Bool) (seq : Nat) : Nat := packed [(seq, 64), (b2n ctl, 1), (epoch, 31)]

/-- The body of a MARK: the fields of R69 in order. -/
def markBody (m : MarkFields) : Nat :=
  packed [(m.seq, 16), (m.txPrev, 72), (m.echoSeq, 16), (m.echoRx, 72), (m.echoTurn, 72), (m.state, 2), (m.hops, 4), (m.gmRank, 15),
    (m.gmPrio, 8), (m.gmTerm, 16), (m.errEst, 32), (m.gaitDist, 4)]

/-- The body of a CAP (R129). -/
def capBody (c : CapFields) : Nat :=
  packed [(c.linkVer, 4), (c.portId, 32), (c.nonce, 64), (c.dlkGen, 16), (c.txdly, 20), (c.rxdly, 20), (unsigned c.asym 32, 32), (c.echo, 16)]

/-- The body of a control flit as a number; body byte 0 is its low byte (R126). -/
def flitBody : Flit → Nat
  | .mark m => markBody m
  | .ack q => packed [(q, 64)]
  | .retry q cause => packed [(q, 64), (cause, 8)]
  | .cap c => capBody c
  | .keyReady e g => packed [(e, 31), (0, 1), (g, 16)]
  | .pdn st p ev => packed [(st, 15), (p, 6), (0, 11), (ev, 16)]
  | .dark cause => packed [(cause, 8)]
  | .keyReq e => packed [(e, 31)]

/-- The 228 bytes of a control flit's body (R111, R126). -/
def flitBytes (f : Flit) : List Byte := leBytes 228 (flitBody f)

end Sys2Proof.Machine
end

