-- ==== Sys2Proof/Machine/Link.lean ====
section
/-! DEFINITION. Port engines (R111 to R133): control flits and their acceptance (R127), acknowledgement and retry (R119, R120), key
changes (R117, R118), training (R129, R130), link states (R131), plane-down notices (R128). -/

namespace Sys2Proof.Machine

/-! ### Acceptance of control flits -/

/-- An authenticated control flit arrives in UP: it is accepted and acted upon, or discarded (R127). -/
def State.ctl (s : State) (n : Nat) (chk : UnitCheck) (seqLo : Nat) (f : State → State) : State :=
  let s := if chk.fecBad then s.fecBad n else s
  if chk.tagOk && !chk.fecBad && !chk.chkBad && s.ctlNext n ≤ s.ctlSeq n seqLo then
    f (s.setLink n { s.link n with rxCtl := some (s.ctlSeq n seqLo) })
  else s.dropCtl n

/-! ### Leaving UP -/

/-- Does a relay stride of an image name input port `n` (R89, R97)? -/
def GaitImage.relaysFrom (g : GaitImage) (n : Nat) : Bool := g.strides.any fun d => !d.rx && d.cls != 2 && d.srcKind == 0 && d.src == n

/-- Does a stride of the active bank name port `n` (R128): as its own port, or as the input it relays? -/
def State.inGait (s : State) (n : Nat) : Bool :=
  ((s.activeImage n).map fun g => !g.strides.isEmpty).getD false
    || (List.range s.ports).any fun q => ((s.activeImage q).map fun g => g.relaysFrom n).getD false

/-- Send a plane-down notice on every UP port except one. -/
def State.flood (s : State) (but : Nat) (f : Flit) : State := (s.upPorts.filter (· != but)).foldl (fun s p => s.sendFlit p f) s

/-- A port in UP leaves it (R131): its occurrences end, its hitch children are lost (R219), a Post block announces it (R128). DESIGN CHOICE
(log entry of the event numbers): a fresh event number is the last one used, by a notice or a STOP, plus 1 modulo 2^16, and a number that has
been seen is not forgotten before a reset. -/
def State.leaveUp (s : State) (n : Nat) : State :=
  let s := (s.cutOccs n).hitchPortLost n
  if s.boot.post && s.inGait n then
    let ev := (s.sync.eventNo + 1) % 65536
    let me := s.station.getD 0
    let s := { s with sync := { s.sync with eventNo := ev, seenPdn := (me, ev) :: s.sync.seenPdn } }
    s.flood n (.pdn me n ev)
  else s

/-- Enter DISABLED from any state (R131). -/
def State.darken (s : State) (n cause : Nat) : State := (if s.portUp n then s.leaveUp n else s).disablePort n cause

/-! ### Training -/

/-- Count one retrain; RETRAIN_MAX of them within 10 s disable the port (R131). -/
def State.countRetrain (s : State) (n : Nat) : State :=
  let s := s.incSat (Page.lpt n) Reg.LPTn_RETRAIN_COUNT.COUNT
  let l := s.link n
  let recent := (l.retrains.filter fun t => s.now < t + 10000000000) ++ [s.now]
  let s := s.setLink n { l with retrains := recent }
  if recent.length ≥ s.rd (Page.lpt n) Reg.LPTn_RETRY_CFG.RETRAIN_MAX then s.disablePort n 4 else s

/-- The CAP that port `n` sends (R129). -/
def State.capOut (s : State) (n : Nat) : CapFields :=
  let l := s.link n
  let t := s.ptime n
  { linkVer := s.rd Page.ver Reg.VER_FORMATS.LINK, portId := s.portId n, nonce := l.nonceOwn, dlkGen := s.dlkGen, txdly := t.txdly,
    rxdly := t.rxdly, asym := t.asym, echo := (l.noncePeer.getD 0) % 65536 }

/-- Begin training in link state `st`: a fresh nonce, the delays as they stand, no calibration yet, CAP (R72, R116, R131). -/
def State.startTraining (s : State) (n st : Nat) : State :=
  let r := s.draw 1
  let s := r.2
  let l := s.link n
  let s := s.setLink n { l.restart with nonceOwn := (Config.trng r.1).toNat % 2 ^ 64, trained := true }
  let s := s.setPtime n { PortTime.empty with
    txSeq := (s.ptime n).txSeq, txdly := s.rd Page.time Reg.TIME_PORTn_TXDLY.DLY n, rxdly := s.rd Page.time Reg.TIME_PORTn_RXDLY.DLY n
    asym := signed (s.rd Page.time Reg.TIME_PORTn_ASYM.ASYM n) 32 }
  let s := (s.setCal n false).setLstate n st
  s.sendFlit n (.cap (s.capOut n))

/-- Enter TRAINING from DOWN (R131). -/
def State.enterTraining (s : State) (n : Nat) : State :=
  if !(s.rdb (Page.lpt n) Reg.LPT_CTRL.ENABLE && s.rdb (Page.lpt n) Reg.LPT_STATUS.PHY_READY) then s else
  let first := !(s.link n).trained
  let s := s.startTraining n 1
  if first then s else s.countRetrain n

/-- Enter RETRAIN: both latches and the replay buffer are lost, one retrain counts, CAP goes out with a fresh nonce (R131). -/
def State.enterRetrain (s : State) (n : Nat) : State :=
  let s := if s.portUp n then s.leaveUp n else s
  (s.startTraining n 4).countRetrain n

/-- Training fails: back to DOWN with a code (R131). -/
def State.trainFail (s : State) (n code : Nat) : State :=
  ((s.wr (Page.lpt n) Reg.LPTn_TRAIN_FAIL.CODE code).setLstate n 0).err (Page.lpt n) Err.lpt.TRAIN_FAIL
    { place := n, placeKind := 5, detail := code }

/-- Does the far end's PORT_ID fail step 3 of R130? -/
def State.badIdentity (s : State) (n id : Nat) : Bool :=
  id == s.portId n || bit id 22 || bits id 23 9 != 0 || (!bit id 15 && bits id 0 15 ≥ 24576)
    || ((s.trust.join.isSome || (s.boot.post && s.station.isSome)) && bits id 0 16 == bits (s.portId n) 0 16)

/-- The four published delays of a link, in 1/256 ns. -/
def State.fourDelays (s : State) (n : Nat) : Nat :=
  let t := s.ptime n
  t.txdly + t.rxdly + t.peerTx + t.peerRx

/-- The measured cable round trip, in 1/256 ns. -/
def State.cableOf (s : State) (n : Nat) : Int := signed (s.rd Page.time Reg.TIME_PORTn_RTT.CABLE n) 32

/-- R122: at most 150 ns of cable and 260 ns of delays. -/
def State.withinRtt (s : State) (n : Nat) : Bool := decide (s.cableOf n ≤ 38400) && s.fourDelays n ≤ 66560

/-- Show the key in use (R132). -/
def State.showKey (s : State) (n epoch gen : Nat) : State :=
  let p := Page.lpt n
  let s := (((s.wr p Reg.LPTn_EPOCH.EPOCH epoch).wr p Reg.LPT_STATUS.KEY_PH (epoch % 2)).wrPair p Reg.LPTn_KEY_FRAMES_LO.COUNT
    Reg.LPTn_KEY_FRAMES_HI.COUNT 0).wr p Reg.LPTn_KEY_SLOT.DLK_GEN gen
  (s.wr p Reg.LPTn_KEY_SLOT.SLOT ((s.dlkSlot gen).getD 0)).wr p Reg.LPTn_KEY_SLOT.VALID 1

/-- Step 5 of R130 has succeeded: UP in epoch 0, both series at 0 (R131). -/
def State.enterUp (s : State) (n : Nat) : State :=
  let l := s.link n
  let s := s.setLink n { l with
    nonceUp := l.noncePeer, txSeq := 0, txCtl := 0, rxNext := 0, rxCtl := none, replay := [], resend := none, retryWait := false
    ackDue := false, rxEpoch := 0, rekeyTx := false, rekeyRx := true, stalled := false, upSince := s.now }
  (s.showKey n 0 s.dlkGen).setLstate n 3

/-- Step 5 of R130: the keys of epoch 0 are derived and loaded, and KEY_READY goes out; UP once the far end's has verified. A generation that
has changed since derives them anew. -/
def State.confirmKeys (s : State) (n : Nat) : State :=
  let l := s.link n
  let g := s.dlkGen
  let s := if l.keyReadySent && (l.txKey.map fun k => k.gen) == some g then s else
    ((s.setLink n { l with keyReadySent := true, keyReadySeen := false, txKey := some (s.txDirKey n 0 g), rxKey := some (s.rxDirKey n 0 g) }).saddled
      2).sendFlit n (.keyReady 0 g)
  if (s.link n).keyReadySeen then s.enterUp n else s

/-- Steps 2 to 5 of R130, as far as they can go. -/
def State.progress (s : State) (n : Nat) : State :=
  let l := s.link n
  match l.cap with
  | none => s
  | some c =>
    if !l.echoed then s else
    let ver := min c.linkVer (s.rd Page.ver Reg.VER_FORMATS.LINK)
    if ver = 0 then s.trainFail n 1
    else if s.badIdentity n c.portId then s.trainFail n 2
    else
      let s := s.wr (Page.lpt n) Reg.LPT_STATUS.LINK_VER ver
      if (s.ptime n).calMarks < 64 then s
      else if !s.withinRtt n then s.trainFail n 3
      else if s.dlkGen != 0 && c.dlkGen == s.dlkGen then s.confirmKeys n
      else s.setLstate n 2

/-- CAP in TRAINING, RETRAIN or UNKEYED (R129, R130). The 64 marks of R72 are counted from the exchange of the delays on. -/
def State.takeCap (s : State) (n : Nat) (c : CapFields) : State :=
  let l := s.link n
  let t := s.ptime n
  let same := l.cap.isSome && t.peerTx == c.txdly && t.peerRx == c.rxdly && t.peerAsym == c.asym
  let s := s.setLink n { l with
    cap := some c, noncePeer := some c.nonce, echoed := l.echoed || c.echo % 65536 == l.nonceOwn % 65536 }
  let s := s.setPtime n { t with peerTx := c.txdly, peerRx := c.rxdly, peerAsym := c.asym, calMarks := if same then t.calMarks else 0 }
  let s := if same then s else s.setCal n false
  (s.wr (Page.lpt n) Reg.LPTn_PEER_ID.PORT_ID c.portId).progress n

/-- CAP (R130). -/
def execCap (port : Nat) (c : CapFields) (chk : UnitCheck) (s : State) : Res :=
  guarded (s.serving && port < s.ports) s fun s =>
    if chk.fecBad then s.fecBad port
    else if chk.chkBad then s
    else match s.lstate port with
      | 1 => s.takeCap port c
      | 2 => s.takeCap port c
      | 4 => s.takeCap port c
      | 3 => if (s.link port).nonceUp = some c.nonce then s
        else (s.setLink port { s.link port with noncePeer := some c.nonce }).enterRetrain port
      | _ => s

/-- MARK_RECEIVE (R71): in training the 64th mark lets it go on (R130). -/
def execMarkReceive (port : Nat) (m : MarkFields) (chk : UnitCheck) (hdr : MarkHdr) (sub : Nat) (s : State) : Res :=
  guarded (s.serving && s.isTimePort port && s.marks port) s fun s =>
    let s := s.opMarkReceive port m chk hdr.unauth hdr.seqLo sub
    if port < s.ports && (s.lstate port == 1 || s.lstate port == 4) then s.progress port else s

/-- CAP_SEND (R126). DESIGN CHOICE (log entry of CAP in UNKEYED): a port in UNKEYED goes on sending CAP, from which the far end learns a
generation that is released later. -/
def execCapSend (port : Nat) (s : State) : Res :=
  guarded (s.serving && port < s.ports && [1, 2, 4].contains (s.lstate port)) s fun s => s.sendFlit port (.cap (s.capOut port))

/-- TRAIN_TIMEOUT (R131). -/
def execTrainTimeout (port : Nat) (s : State) : Res :=
  guarded (s.serving && port < s.ports && (s.lstate port == 1 || s.lstate port == 4)) s fun s => s.trainFail port 5

/-- TRAIN_RETRY_TIMER (R131). -/
def execTrainRetryTimer (port : Nat) (s : State) : Res :=
  guarded (s.serving && port < s.ports && s.lstate port == 0) s fun s => s.enterTraining port

/-- PHY_READY_RISE (R131). -/
def execPhyReadyRise (port : Nat) (s : State) : Res :=
  guarded (s.serving && port < s.ports) s fun s =>
    let s := s.wr (Page.lpt port) Reg.LPT_STATUS.PHY_READY 1
    if s.lstate port = 0 then s.enterTraining port else s

/-- PHY_READY_FALL (R131). -/
def execPhyReadyFall (port : Nat) (s : State) : Res :=
  guarded (s.serving && port < s.ports) s fun s =>
    let s := s.wr (Page.lpt port) Reg.LPT_STATUS.PHY_READY 0
    match s.lstate port with
    | 3 => s.enterRetrain port
    | 1 => s.trainFail port 6
    | 4 => s.trainFail port 6
    | 2 => s.setLstate port 0
    | _ => s

/-- DARK (R127, R131): in UP it must be authenticated. -/
def State.opDark (n cause : Nat) (s : State) : State :=
  let s := if s.portUp n then s.leaveUp n else s
  ((s.setLink n (s.link n).restart).setLstate n 0).wr (Page.lpt n) Reg.LPT_STATUS.DARK_CAUSE cause

def execDark (port cause : Nat) (chk : UnitCheck) (unauth : Bool) (seqLo : Nat) (s : State) : Res :=
  guarded (s.serving && port < s.ports && s.lstate port != 5) s fun s =>
    if s.portUp port then (if unauth then s.dropCtl port else s.ctl port chk seqLo (State.opDark port cause))
    else if chk.fecBad then s.fecBad port
    else if chk.chkBad || !unauth then s
    else s.opDark port cause

/-- Is the cause of DISABLED cleared (R131)? -/
def State.causeCleared (s : State) (n : Nat) : Bool :=
  let c := (s.link n).cause
  s.rdb (Page.lpt n) Reg.LPT_CTRL.ENABLE && c != 2 && c != 3

/-- RETRAIN (R131): leave DISABLED, or train anew from any other state. -/
def execRetrain (p : Party) (port : Nat) (s : State) : Res :=
  s.action p (Page.lpt port) fun s =>
    if s.lstate port = 5 then
      if !s.causeCleared port then s else
      ((s.setLink port { (s.link port).restart with retrains := [], trained := false }).setLstate port 0).enterTraining port
    else if s.lstate port = 0 then s.enterTraining port
    else s.enterRetrain port

/-- GO_DARK (R131). -/
def execGoDark (p : Party) (port : Nat) (s : State) : Res := s.action p (Page.lpt port) fun s => s.darken port 1

/-- PORT_DISABLE (R131): CTRL.ENABLE is cleared. -/
def execPortDisable (p : Party) (port : Nat) (s : State) : Res :=
  s.action p (Page.lpt port) fun s => (s.wr (Page.lpt port) Reg.LPT_CTRL.ENABLE 0).darken port 5

/-! ### Key changes -/

/-- Transmit epoch. -/
def State.epoch (s : State) (n : Nat) : Nat := s.rd (Page.lpt n) Reg.LPTn_EPOCH.EPOCH

/-- Step 1 of R117: ask for the change of the transmit direction. -/
def State.askRekey (s : State) (n : Nat) : State :=
  (s.setLink n { s.link n with rekeyTx := true }).sendFlit n (.keyReq (s.epoch n + 1))

/-- Is a latch loaded with a key of generation `g`? -/
def loadedFor (k : Option LinkKey) (g : Nat) : Bool := (k.map fun k => k.gen) == some g

/-- Step 2 of R117: derive the next receive key under generation `g` and load it, unless it is loaded, and send KEY_READY. -/
def State.readyRekey (s : State) (n g : Nat) : State :=
  let l := s.link n
  let s := if loadedFor l.rxNextKey g then s else
    (s.setLink n { l with rxNextKey := some (s.rxDirKey n (l.rxEpoch + 1) g), rekeyRx := true }).saddled
  s.sendFlit n (.keyReady (l.rxEpoch + 1) g)

/-- The generation under which the receive direction of a port changes: the highest that is ACTIVE here (R386). -/
def State.beginRekey (s : State) (n : Nat) : State := (s.askRekey n).readyRekey n s.dlkGen

/-- REKEY_NOW (R117): both directions. -/
def execRekeyNow (p : Party) (port : Nat) (s : State) : Res :=
  s.action p (Page.lpt port) fun s => if s.portUp port then s.beginRekey port else s

/-- KEY_FRAME_LIMIT (R117). -/
def execKeyFrameLimit (port : Nat) (s : State) : Res :=
  guarded (s.serving && s.portUp port && 2 ^ s.log2Frames port ≤ s.keyFrames port + 2 ^ 32) s fun s => s.askRekey port

/-- KEY_REQ (R117). -/
def State.opKeyReq (n epoch : Nat) (s : State) : State :=
  let l := s.link n
  if epoch != l.rxEpoch + 1 then s.dropCtl n
  else if l.rxNextKey.isSome then s
  else s.readyRekey n s.dlkGen

def execKeyReq (port epoch : Nat) (chk : UnitCheck) (seqLo : Nat) (s : State) : Res :=
  guarded (s.serving && s.portUp port) s fun s => s.ctl port chk seqLo (State.opKeyReq port epoch)

/-- Does a KEY_READY name epoch E + 1 of a generation ACTIVE here (R117, R386)? -/
def State.readyFits (s : State) (n epoch gen : Nat) : Bool := epoch == s.epoch n + 1 && (s.dlkSlot gen).isSome

/-- Step 3 of R117, its first half: the key that a KEY_READY names is loaded into the next transmit latch. -/
def State.loadTxNext (s : State) (n epoch gen : Nat) : State :=
  if loadedFor (s.link n).txNextKey gen then s
  else (s.setLink n { s.link n with txNextKey := some (s.txDirKey n epoch gen) }).saddled

/-- Step 3 of R117, its second half: the KEY_READY has verified, the transmit direction switches. -/
def State.opKeyReady (n epoch gen : Nat) (s : State) : State :=
  if !s.readyFits n epoch gen then s.dropCtl n else
  let s := s.setLink n { s.link n with txKey := (s.link n).txNextKey, txNextKey := none, rekeyTx := false, stalled := false }
  s.showKey n epoch gen

/-- KEY_READY in UP (R117, R127). -/
def State.keyReadyUp (n epoch gen : Nat) (chk : UnitCheck) (seqLo : Nat) (s : State) : State :=
  let clean := !chk.fecBad && !chk.chkBad && decide (s.ctlNext n ≤ s.ctlSeq n seqLo)
  let s := if clean && s.readyFits n epoch gen then s.loadTxNext n epoch gen else s
  s.ctl n chk seqLo (State.opKeyReady n epoch gen)

/-- KEY_READY in training (R130, step 5). DESIGN CHOICE (log entry of KEY_READY in training): one that comes before this end has sent its own,
or names another epoch or generation, is dropped and counted, and training goes on. -/
def State.trainKeyReady (n epoch gen : Nat) (ok : Bool) (s : State) : State :=
  let l := s.link n
  if !l.keyReadySent || epoch != 0 || gen != s.dlkGen then s.dropCtl n
  else if !ok then s.trainFail n 4
  else (s.setLink n { l with keyReadySeen := true }).progress n

/-- KEY_READY (R117, R130). -/
def execKeyReady (port epoch gen : Nat) (chk : UnitCheck) (seqLo : Nat) (s : State) : Res :=
  guarded (s.serving && port < s.ports) s fun s =>
    if s.portUp port then s.keyReadyUp port epoch gen chk seqLo
    else if [1, 2, 4].contains (s.lstate port) then
      (if chk.fecBad then s.fecBad port else s.trainKeyReady port epoch gen (chk.tagOk && !chk.chkBad))
    else s

/-- KEY_REQ_REPEAT (R117). -/
def execKeyReqRepeat (port : Nat) (s : State) : Res :=
  guarded (s.serving && s.portUp port && (s.link port).rekeyTx) s fun s => s.sendFlit port (.keyReq (s.epoch port + 1))

/-- The epoch and generation that a repeated KEY_READY names. -/
def State.readyNames (s : State) (n : Nat) : Nat × Nat :=
  let l := s.link n
  match l.rxNextKey, l.rxKey with
  | some k, _ => (l.rxEpoch + 1, k.gen)
  | none, some k => (l.rxEpoch, k.gen)
  | none, none => (0, s.dlkGen)

/-- KEY_READY_REPEAT (R117): until the first frame of the new epoch has arrived, or in training. -/
def execKeyReadyRepeat (port : Nat) (s : State) : Res :=
  guarded (s.serving && port < s.ports && ((s.portUp port && (s.link port).rekeyRx)
      || ([1, 2, 4].contains (s.lstate port) && (s.link port).keyReadySent))) s fun s =>
    s.sendFlit port (.keyReady (s.readyNames port).1 (s.readyNames port).2)

/-- KEY_STALL (R118). -/
def execKeyStall (port : Nat) (s : State) : Res :=
  guarded (s.serving && s.portUp port && 2 ^ s.log2Frames port ≤ s.keyFrames port) s fun s =>
    (s.setLink port { s.link port with stalled := true }).err (Page.lpt port) Err.lpt.KEY_STALL { place := port, placeKind := 5 }

/-! ### Acknowledgement and retry -/

/-- ACK_SEND (R119): the highest sequence number accepted in order. -/
def execAckSend (port : Nat) (s : State) : Res :=
  guarded (s.serving && s.portUp port && (s.link port).ackDue) s fun s =>
    (s.setLink port { s.link port with ackDue := false }).sendFlit port (.ack ((s.link port).rxNext - 1))

/-- ACK (R119): frames up to the number leave the replay buffer. -/
def State.opAck (n seq : Nat) (s : State) : State :=
  let l := s.link n
  s.setLink n { l with
    replay := l.replay.filter fun e => seq < e.1
    resend := l.resend.filter fun e => seq < e.1
    resendAt := l.resendAt.map fun q => max q (seq + 1) }

def execAck (port seq : Nat) (chk : UnitCheck) (seqLo : Nat) (s : State) : Res :=
  guarded (s.serving && s.portUp port) s fun s => s.ctl port chk seqLo (State.opAck port seq)

/-- W of R120 in ns: four delays, the cable, 60 ns. -/
def State.retryWindow (s : State) (n : Nat) : Nat := (s.fourDelays n + (s.cableOf n).toNat + 255) / 256 + 60

/-- The epoch under which a frame of the replay buffer was sealed: the current one, or the one before (R117). -/
def State.sealedEpoch (s : State) (n : Nat) (f : DataFrame) : Nat :=
  if f.hdr.keyPh = s.epoch n % 2 then s.epoch n else s.epoch n - 1

/-- Put frames of the replay buffer on the wire again, in order, while they leave it by `e`, DT in 0.01 ns; the first that does not, and those
behind it, wait for the port's next open stride (R86, R103, R120). -/
def State.resendBy (n e : Nat) : List (Nat × DataFrame) → State → State
  | [], s => s.setLink n { s.link n with resendAt := none }
  | (q, f) :: r, s =>
    if s.fitsBy n e f then
      State.resendBy n e r ((s.setLink n { s.link n with freeAt := s.wireFree n + wireTime f.hdr.flits }).emit (.frame n q (s.sealedEpoch n f) f))
    else s.setLink n { s.link n with resendAt := some q }

/-- The frames of the replay buffer from a sequence number on. -/
def State.replayFrom (s : State) (n seq : Nat) : List (Nat × DataFrame) := (s.link n).replay.filter fun e => seq ≤ e.1

/-- Resend from a sequence number on, unless that frame is not held or the RETRY is stale (R120); never past S + D − G + L of the stride that
runs (R86). -/
def State.resendFrom (s : State) (n seq : Nat) : State :=
  let l := s.link n
  let stale := match l.resend with
    | some (q, t) => q == seq && s.now < t + s.retryWindow n
    | none => false
  if stale || !(l.replay.any fun e => e.1 == seq) then s else
  State.resendBy n ((s.sendLimit n).getD 0) (s.replayFrom n seq) (s.setLink n { l with resend := some (seq, s.now) })

/-- What a resend could not send goes out in an open stride, up to `e` (R103). -/
def State.resumeResend (s : State) (n e : Nat) : State :=
  match (s.link n).resendAt with
  | some q => State.resendBy n e (s.replayFrom n q) s
  | none => s

/-- RETRY (R120). -/
def execRetry (port seq _cause : Nat) (chk : UnitCheck) (seqLo : Nat) (s : State) : Res :=
  guarded (s.serving && s.portUp port) s fun s => s.ctl port chk seqLo fun s => s.resendFrom port seq

/-- ACK_TIMEOUT (R120). -/
def execAckTimeout (port : Nat) (s : State) : Res :=
  guarded (s.serving && s.portUp port) s fun s =>
    match (s.link port).replay with
    | (q, _) :: _ => s.resendFrom port q
    | [] => s

/-- RETRY_REPEAT (R120): the RETRY is repeated, with its cause. -/
def execRetryRepeat (port : Nat) (s : State) : Res :=
  guarded (s.serving && s.portUp port && (s.link port).retryWait) s fun s =>
    s.sendFlit port (.retry (s.link port).rxNext (s.link port).retryCause)

/-- A retry episode begins: RETRY is sent, counted, and STORM_COUNT of them within 1 ms force RETRAIN (R120, R131). -/
def State.beginRetry (s : State) (n cause : Nat) : State :=
  let l := s.link n
  if l.retryWait then s else
  let recent := (l.retries.filter fun t => s.now < t + 1000000) ++ [s.now]
  let s := (s.setLink n { l with retryWait := true, retryCause := cause, retries := recent }).inc (Page.lpt n) Reg.LPTn_RETRY_COUNT.COUNT
  let s := s.sendFlit n (.retry l.rxNext cause)
  if recent.length ≥ s.rd (Page.lpt n) Reg.LPTn_RETRY_CFG.STORM_COUNT then
    (s.err (Page.lpt n) Err.lpt.RETRY_STORM { place := n, placeKind := 5 }).enterRetrain n
  else s

/-- REPLAY_CHECK (R131, R133). -/
def execReplayCheck (port : Nat) (s : State) : Res :=
  guarded (s.serving && s.portUp port) s fun s =>
    (s.err (Page.lpt port) Err.lpt.REPLAY_CHECK { place := port, placeKind := 5 }).enterRetrain port

/-! ### Plane-down notices -/

/-- PDN accepted (R128): a Post block floods a new one, a Mount block treats the plane as down. -/
def State.opPdn (n station sport event : Nat) (s : State) : State :=
  if s.boot.post then
    if s.sync.seenPdn.contains (station, event) then s else
    let s := s.err (Page.lpt n) Err.lpt.PDN_RX { place := n, placeKind := 5 }
    ({ s with sync := { s.sync with seenPdn := (station, event) :: s.sync.seenPdn } }).flood n (.pdn station sport event)
  else
    let s := (s.wr (Page.lpt n) Reg.LPT_STATUS.PDN_SEEN 1).err (Page.lpt n) Err.lpt.PDN_RX { place := n, placeKind := 5 }
    { s with gait := { s.gait with pdnPlanes := insertUp s.gait.pdnPlanes n } }

def execPdn (port station sport event : Nat) (chk : UnitCheck) (seqLo : Nat) (s : State) : Res :=
  guarded (s.serving && s.portUp port) s fun s => s.ctl port chk seqLo (State.opPdn port station sport event)

/-- The plane-down condition of R128 ends. -/
def State.clearPdn (s : State) (n : Nat) : State :=
  ({ s with gait := { s.gait with pdnPlanes := s.gait.pdnPlanes.filter (· != n) } }).wr (Page.lpt n) Reg.LPT_STATUS.PDN_SEEN 0

/-- PDN_CLEAR (R128). -/
def execPdnClear (p : Party) (port : Nat) (s : State) : Res := s.action p (Page.lpt port) fun s => s.clearPdn port

end Sys2Proof.Machine
end

