-- ==== Sys2Proof/Machine/Combine.lean ====
section
/-! DEFINITION. The Post block's loose router and combining unit: routes (R181), request records as they pass (R185), merging and
fan-out (R202 to R204). -/

namespace Sys2Proof.Machine

/-! ### Routing -/

/-- A frame without a route is discarded (R181). -/
def State.noRoute (s : State) : State := (s.inc Page.cmb Reg.CMB_NOROUTE.COUNT).err Page.cmb Err.cmb.NOROUTE

/-- The port with the fewest queued loose bytes, ties to the lowest. -/
def State.leastQueued (s : State) (l : List Nat) : Option Nat :=
  l.foldl (fun (b : Option Nat) q =>
    match b with
    | none => some q
    | some x => if s.looseBytes q < s.looseBytes x then some q else some x) none

/-- The output port toward a destination (R181). -/
def State.route (s : State) (d : Nat) : Option Nat :=
  let st := s.rd Page.cmb Reg.CMB_STATION.STATION
  let pad := d / 256
  if !s.rdb Page.cmb Reg.CMB_CTRL.ROUTE_EN then none
  else if st / 2 ^ 13 = 0 ∧ pad = st % 2 ^ 13 / 8 then
    if s.rdb Page.cmb Reg.CMB_RT_LOCALi.VALID (d % 256) then some (s.rd Page.cmb Reg.CMB_RT_LOCALi.PORT (d % 256)) else none
  else if 96 ≤ pad then none
  else
    let m := s.rdPair Page.cmb Reg.CMB_RT_PADp_LO.PORTS Reg.CMB_RT_PADp_HI.PORTS pad
    s.leastQueued ((List.range s.ports).filter fun q => bit m q && s.portUp q)

/-- Route a frame that keeps its place in no stride (R124, R181). -/
def State.routeFrame (s : State) (f : DataFrame) : State :=
  match s.route f.hdr.dstRank with
  | some q => s.queueLoose q f
  | none => s.noRoute

/-! ### Records of a frame -/

/-- Bytes of the request record at an offset: 32, and the store's data (R185). -/
def reqLen (data : List Byte) (off : Nat) : Nat :=
  let w := ofLe (slice data off 8)
  if bits w 0 8 = 2 then 32 + (8 * (bits w 8 5 + 1) + 31) / 32 * 32 else 32

/-- Bytes of the response record at an offset (R186). -/
def rspLen (data : List Byte) (off : Nat) : Nat := (16 + 8 * (bits (ofLe (slice data off 8)) 8 5 + 1) + 31) / 32 * 32

/-- Bytes of the coherence record at an offset (R196): line data follows WB, DATA_S, DATA_M, and an SNP_RSP that is not LOST. -/
def cohLen (data : List Byte) (off : Nat) : Nat :=
  let w := ofLe (slice data off 8)
  let cm := bits w 0 8
  if cm = 0x04 || cm = 0x11 || cm = 0x12 || (cm = 0x22 && !bit w 8) then 96 else 32

/-- The offsets of a frame's records (R180): `len` gives a record's bytes, `stop` its end. -/
def recordsFrom (data : List Byte) (len : List Byte → Nat → Nat) (stop : List Byte → Nat → Bool) : Nat → Nat → List Nat
  | 0, _ => []
  | fuel + 1, off =>
    if data.length < off + 32 || stop data off then [] else off :: recordsFrom data len stop fuel (off + len data off)

/-- An OP or CMSG byte of 0 ends the records. -/
def zeroByte (data : List Byte) (off : Nat) : Bool := slice data off 1 == [0]
/-- Response records end with the frame or with 32 zero bytes: the byte at a record's start is STATUS, and 0 is OK. -/
def zeroRec (data : List Byte) (off : Nat) : Bool := (slice data off 32).all (· == 0)

def reqOffs (data : List Byte) : List Nat := recordsFrom data reqLen zeroByte (data.length / 32) 0
def rspOffs (data : List Byte) : List Nat := recordsFrom data rspLen zeroRec (data.length / 32) 0
def cohOffs (data : List Byte) : List Nat := recordsFrom data cohLen zeroByte (data.length / 32) 0

/-- The poison of the 16-byte units of `n` bytes at an offset of a frame (R113). -/
def unitPoison (f : DataFrame) (off n : Nat) : Nat :=
  (List.range ((n + 15) / 16)).foldl (fun m k => if bit f.poison ((off + 16 * k) / 256) then m ||| 2 ^ k else m) 0

/-- A frame whose payload holds other records; an empty one is not sent. -/
def withRecords (f : DataFrame) (l : List Byte) : DataFrame :=
  let flits := max 1 ((l.length + 255) / 256)
  { f with hdr := { f.hdr with flits := flits }, data := slice l 0 (flits * 256) }

/-! ### Combining -/

/-- May a request be combined (R202): LD, ADD, the extremes and the bitwise operations? -/
def mergeable (op : Nat) : Bool :=
  op == 1 || ((op / 16 == 1 || op / 16 == 2) && [0, 3, 4, 5, 6, 7, 8, 9].contains (op % 16))

/-- Is output port `q` the last hop to a rank (R202): its trained peer is the Mount block with that rank? -/
def State.lastHop (s : State) (q dst : Nat) : Bool := s.portUp q && s.rd (Page.lpt q) Reg.LPTn_PEER_ID.PORT_ID % 2 ^ 16 == dst

/-- Show the entries in use. -/
def State.showCmb (s : State) : State := s.wr Page.cmb Reg.CMB_ENTRIES.COUNT s.cmb.entries.length

def State.putEntry (s : State) (k : Nat) (e : CmbEntry) : State := { s with cmb := { s.cmb with entries := SMap.set s.cmb.entries k e } }
def State.dropEntry (s : State) (k : Nat) : State := ({ s with cmb := { s.cmb with entries := SMap.erase s.cmb.entries k } }).showCmb

/-- Is a record the one that stands for an entry: its first requester's rank and tag? -/
def CmbEntry.named (e : CmbEntry) (rank tag : Nat) : Bool :=
  match e.parts with
  | p :: _ => p.2.1 == rank && p.2.2.1 == tag
  | [] => false

/-- The offset of an entry's record in a frame that waits, when it is there. -/
def CmbEntry.within (e : CmbEntry) (x : LooseItem) : Option Nat :=
  if x.f.hdr.ftype = 1 && x.f.hdr.lkind = 3 && x.f.hdr.dstRank = e.home then
    (reqOffs x.f.data).find? fun o =>
      e.named x.f.hdr.srcRank (bits (ofLe (slice x.f.data o 8)) 32 16) && ofLe (slice x.f.data (o + 8) 8) == e.addr
  else none

/-- Does an entry's record still wait, unsent? -/
def State.entryWaits (s : State) (e : CmbEntry) : Bool := (s.looseOf e.port).any fun x => (e.within x).isSome

/-- Replace OPND0 of the record at an offset. -/
def putOpnd0 (data : List Byte) (o v : Nat) : List Byte := data.take (o + 16) ++ leBytes 8 v ++ data.drop (o + 24)

/-- The waiting record of an entry takes a combined operand (R203). -/
def State.combine (s : State) (e : CmbEntry) (a : Nat) : State :=
  let n := atomBytes e.op
  s.setLoose e.port ((s.looseOf e.port).map fun x =>
    match e.within x with
    | some o => { x with f := { x.f with data := putOpnd0 x.f.data o (atomNew (e.op % 16) n (ofLe (slice x.f.data (o + 16) 8)) a 0) } }
    | none => x)

/-- The entry that a request may join (R202, R203). -/
def State.mergeInto (s : State) (q op len addr home share : Nat) (fetch : Bool) : Option (Nat × CmbEntry) :=
  s.cmb.entries.find? fun x =>
    let e := x.2
    e.port == q && e.op == op && e.len == len && e.addr == addr && e.home == home && e.share == share && e.fetch == fetch
      && (op == 1 || s.entryWaits e)

/-- One sync request on its way to port `q`: `true` when it has been merged and leaves its frame (R203). A request that opens a group
keeps its place. -/
def State.mergeReq (s : State) (inPort q : Nat) (f : DataFrame) (o : Nat) : Bool × State :=
  let w := ofLe (slice f.data o 8)
  let op := bits w 0 8
  let addr := ofLe (slice f.data (o + 8) 8)
  let a := ofLe (slice f.data (o + 16) 8)
  let len := if op = 1 then 8 * (bits w 8 5 + 1) else 0
  let part := (inPort, f.hdr.srcRank, bits w 32 16, a)
  if !mergeable op then (false, s) else
  match s.mergeInto q op len addr f.hdr.dstRank f.hdr.share (bit w 13) with
  | some (k, e) =>
    if e.parts.length ≥ s.rd Page.cmb Reg.CMB_CFG.MAX_ATTACH then (false, s)
    else
      let s := if op = 1 then s else s.combine e a
      (true, (s.putEntry k { e with parts := e.parts ++ [part] }).inc Page.cmb Reg.CMB_MERGED.COUNT)
  | none =>
    if s.cmb.entries.length ≥ 4096 then (false, s) else
    let e : CmbEntry := { home := f.hdr.dstRank, addr := addr, op := op, len := len, fetch := bit w 13, share := f.hdr.share, port := q, parts := [part] }
    let s := s.putEntry s.cmb.nextEntry e
    (false, ({ s with cmb := { s.cmb with nextEntry := s.cmb.nextEntry + 1 } }).showCmb)

/-- A frame of sync requests on its way to a port: merged records leave it, and a frame left empty is not sent (R203). -/
def State.mergeFrame (s : State) (inPort q : Nat) (f : DataFrame) : State :=
  if !s.rdb Page.cmb Reg.CMB_CTRL.CMB_EN || !s.lastHop q f.hdr.dstRank then s.queueLoose q f else
  let r := (reqOffs f.data).foldl (fun (r : List Byte × State) o =>
    let y := r.2.mergeReq inPort q f o
    (if y.1 then r.1 else r.1 ++ slice f.data o (reqLen f.data o), y.2)) ([], s)
  if r.1.isEmpty then r.2 else r.2.queueLoose q (withRecords f r.1)

/-- A response frame of the home to one requester (R203). -/
def rspFrame (home share dst : Nat) (f : FrameHdr) (body : List Byte) (map : Nat) : DataFrame :=
  let flits := max 1 ((body.length + 255) / 256)
  { hdr := { f with ftype := 1, lkind := 1, flits := flits, srcRank := home, srcPost := false, dstRank := dst, share := share }
    data := slice body 0 (flits * 256), poison := map, sigCode := 0, sigRef := 0 }

/-- What requester `j` receives: the old value with the operands before it applied, or the loaded data (R203). -/
def fanData (e : CmbEntry) (status : Nat) (data : List Byte) (before : List Nat) : List Byte :=
  if e.op = 1 then data
  else if status ≠ St.OK ∨ !e.fetch then data
  else leBytes 8 (before.foldl (fun v a => atomNew (e.op % 16) (atomBytes e.op) v a 0) (ofLe (slice data 0 8)))

/-- The home's answer to an entry's record: one response frame a requester, and the entry is freed (R203). -/
def State.opFanout (k status : Nat) (data : List Byte) (poison : Nat) (s : State) : State :=
  match SMap.find? s.cmb.entries k with
  | none => s
  | some e =>
    let s := s.dropEntry k
    (e.parts.zipIdx).foldl (fun s x =>
      let before := (e.parts.take x.2).map fun p => p.2.2.2
      let body := rspBytes status x.1.2.2.1 (fanData e status data before)
      s.routeFrame (rspFrame e.home e.share x.1.2.1 (s.looseHdr 1 e.share x.1.2.1 1) body (rspMap poison ((body.length - 16) / 16)))) s

/-- CMB_FANOUT (R203). -/
def execCmbFanout (entry status : Nat) (data : List Byte) (poison : Nat) (s : State) : Res :=
  guarded (s.serving && s.boot.post) s (State.opFanout entry status data poison)

/-- CMB_ENTRY_AGE (R203): the entry is freed; its requesters time out. -/
def execCmbEntryAge (entry : Nat) (s : State) : Res :=
  guarded (s.serving && s.boot.post) s fun s => s.dropEntry entry

/-- A frame of responses on its way through: a response to an entry's record is fanned out and leaves the frame (R203). -/
def State.passRsp (s : State) (f : DataFrame) : State :=
  let r := (rspOffs f.data).foldl (fun (r : List Byte × State) o =>
    let w := ofLe (slice f.data o 8)
    let n := rspLen f.data o
    match r.2.cmb.entries.find? fun x => x.2.home == f.hdr.srcRank && x.2.named f.hdr.dstRank (bits w 32 16) with
    | some (k, e) =>
      let len := if e.op = 1 then e.len else 8
      (r.1, r.2.opFanout k (bits w 0 8) (if e.op = 1 || e.fetch then slice f.data (o + 16) len else []) (unitPoison f (o + 16) len))
    | none => (r.1 ++ slice f.data o n, r.2)) ([], s)
  if r.1.isEmpty then r.2 else r.2.routeFrame (if r.1.length = f.data.length then f else withRecords f r.1)

/-- A loose frame that a Post block passes on (R181, R203). -/
def State.passLoose (s : State) (inPort : Nat) (f : DataFrame) : State :=
  if f.hdr.lkind = 1 then s.passRsp f
  else if f.hdr.lkind = 3 then
    match s.route f.hdr.dstRank with
    | some q => s.mergeFrame inPort q f
    | none => s.noRoute
  else s.routeFrame f

end Sys2Proof.Machine
end

