-- ==== Sys2Proof/Machine/Format.lean ====
section
/-! DEFINITION. Number formats (R134 to R156): widening a stored element to its exact value, the single rounding, narrowing into
scalars, MX blocks and CBFP blocks, the layout of spans, and the counted random bits of R172. -/

namespace Sys2Proof.Machine

/-! ### Exact values -/

/-- What a pattern widens to (R140): NaN, an infinity, or the dyadic value (−1)^neg × m × 2^e; m = 0 is a zero with a sign. -/
inductive Ext where
  | nan
  | inf (neg : Bool)
  | fin (neg : Bool) (m : Nat) (e : Int)
  deriving DecidableEq, Repr

/-- Flags of R149, by their bits in RED_FLAGS. -/
abbrev Flag.INEXACT : Nat := 1
abbrev Flag.UNDERFLOW : Nat := 2
abbrev Flag.OVERFLOW : Nat := 4
abbrev Flag.INVALID : Nat := 8

/-- Exponent bits, fraction bits and bias of a scalar float (R135). -/
def floatShape (fmt : Nat) : Option (Nat × Nat × Nat) :=
  match fmt with
  | 1 => some (11, 52, 1023)
  | 2 => some (8, 23, 127)
  | 3 => some (5, 10, 15)
  | 4 => some (8, 7, 127)
  | 5 => some (4, 3, 7)
  | 6 => some (5, 2, 15)
  | _ => none

/-- CBFP component width (R139). -/
def cbfpWidth (fvar : Nat) : Nat := match fvar % 4 with | 0 => 9 | 1 => 12 | 2 => 14 | _ => 16

/-- Is the format an MX format? -/
def isMx (fmt : Nat) : Bool := fmt == 7 || fmt == 8 || fmt == 9

/-- Widen a scalar float pattern of fields `eb`, `fb`, `bias` (R135, R141). `e4m3`: no infinity, 0x7F and 0xFF are NaN. `flush`:
subnormals widen to zero. -/
def widenFloat (fmt eb fb bias v : Nat) (flush : Bool) : Ext :=
  let neg := bit v (eb + fb)
  let e := bits v fb eb
  let f := bits v 0 fb
  if fmt = 5 ∧ e = 15 ∧ f = 7 then .nan
  else if fmt ≠ 5 ∧ e = 2 ^ eb - 1 then (if f = 0 then .inf neg else .nan)
  else if e = 0 then .fin neg (if flush then 0 else f) (1 - (bias : Int) - (fb : Int))
  else .fin neg (2 ^ fb + f) ((e : Int) - (bias : Int) - (fb : Int))

/-- Element bits of an MX format. -/
def mxBits (fmt : Nat) : Nat := match fmt with | 7 => 6 | 8 => 4 | _ => 8

/-- The value of an MX element pattern under scale byte `x` (R137). -/
def widenMx (fmt v x : Nat) : Ext :=
  if x = 0xFF then .nan else
  let s : Int := (x : Int) - 127
  match fmt with
  | 7 =>
    let e := bits v 2 3
    let f := bits v 0 2
    if e = 0 then .fin (bit v 5) f (s - 4) else .fin (bit v 5) (4 + f) (s + (e : Int) - 5)
  | 8 =>
    let e := bits v 1 2
    let f := bits v 0 1
    if e = 0 then .fin (bit v 3) f (s - 1) else .fin (bit v 3) (2 + f) (s + (e : Int) - 2)
  | _ =>
    let i := signed v 8
    .fin (decide (i < 0)) i.natAbs (s - 6)

/-- An integer as an exact value; it has no negative zero. -/
def extOfInt (i : Int) (e : Int) : Ext := .fin (decide (i < 0)) i.natAbs e

/-! ### Layout (R136 to R139) -/

/-- Element size in bytes of INT32 and the scalar floats. -/
def scalarBytes (fmt : Nat) : Nat := match fmt with | 0 => 4 | 1 => 8 | 2 => 4 | 3 => 2 | 4 => 2 | _ => 1

/-- Payload bytes of an MX block. -/
def mxPayload (fmt : Nat) : Nat := 4 * mxBits fmt

/-- Bytes of a CBFP block. -/
def cbfpBlock (fvar : Nat) : Nat := 1 + 3 * cbfpWidth fvar

/-- Round up to 16 bytes. -/
def up16 (n : Nat) : Nat := (n + 15) / 16 * 16

/-- Stored bytes of `n` elements (R173). -/
def spanBytes (fmt fvar n : Nat) : Nat :=
  if isMx fmt then
    let blocks := n / 32
    let full := blocks / 16 * (16 + 16 * mxPayload fmt)
    full + (if blocks % 16 = 0 then 0 else up16 (16 + blocks % 16 * mxPayload fmt))
  else if fmt = 10 then up16 (n / 24 * cbfpBlock fvar)
  else n * scalarBytes fmt

/-- First byte of the tile of an MX block, and the block's scale and payload places. -/
def mxScaleAt (fmt b : Nat) : Nat := b / 16 * (16 + 16 * mxPayload fmt) + b % 16
def mxPayloadAt (fmt b : Nat) : Nat := b / 16 * (16 + 16 * mxPayload fmt) + 16 + b % 16 * mxPayload fmt

/-- Byte `k` of a span. -/
def byteAt (l : List Byte) (k : Nat) : Nat := (l.getD k 0).toNat

/-- The MX element pattern at position `i` of block `b` (R138). -/
def mxPattern (fmt : Nat) (l : List Byte) (b i : Nat) : Nat :=
  let w := mxBits fmt
  bits (ofLe (slice l (mxPayloadAt fmt b) (mxPayload fmt))) (w * i) w

/-- Component `c` of CBFP block `b`: packed most significant bit first (R139). -/
def cbfpPattern (fvar : Nat) (l : List Byte) (b c : Nat) : Nat :=
  let w := cbfpWidth fvar
  let body := ofBe (slice l (b * cbfpBlock fvar + 1) (3 * w))
  bits body (24 * w - w * (c + 1)) w

/-- Element `i` of a span, widened (R140, R141). -/
def widenAt (fmt fvar : Nat) (flush : Bool) (l : List Byte) (i : Nat) : Ext :=
  if fmt = 0 then extOfInt (signed (ofLe (slice l (4 * i) 4)) 32) 0
  else if isMx fmt then widenMx fmt (mxPattern fmt l (i / 32) (i % 32)) (byteAt l (mxScaleAt fmt (i / 32)))
  else if fmt = 10 then
    extOfInt (signed (cbfpPattern fvar l (i / 24) (i % 24)) (cbfpWidth fvar)) ((byteAt l (i / 24 * cbfpBlock fvar) % 16 : Nat) : Int)
  else match floatShape fmt with
    | some (eb, fb, bias) =>
      widenFloat fmt eb fb bias (ofLe (slice l (scalarBytes fmt * i) (scalarBytes fmt))) flush
    | none => .fin false 0 0

/-- The 16-byte units that an element's value depends on (R15, R168). -/
def unitsOf (fmt fvar i : Nat) : List Nat :=
  if isMx fmt then
    let a := mxPayloadAt fmt (i / 32) + mxBits fmt * (i % 32) / 8
    let b := mxPayloadAt fmt (i / 32) + (mxBits fmt * (i % 32) + mxBits fmt - 1) / 8
    [mxScaleAt fmt (i / 32) / 16, a / 16, b / 16]
  else if fmt = 10 then
    let base := i / 24 * cbfpBlock fvar
    let w := cbfpWidth fvar
    [base / 16, (base + 1 + w * (i % 24) / 8) / 16, (base + 1 + (w * (i % 24) + w - 1) / 8) / 16]
  else [scalarBytes fmt * i / 16]

/-- The 16-byte units of a written result that depend on element `i`: a block's scale or exponent depends on all of its elements. -/
def writtenUnits (fmt fvar i : Nat) : List Nat :=
  if isMx fmt then
    let a := mxPayloadAt fmt (i / 32)
    (mxScaleAt fmt (i / 32) / 16) :: (List.range ((a + mxPayload fmt - 1) / 16 - a / 16 + 1)).map (· + a / 16)
  else if fmt = 10 then
    let a := i / 24 * cbfpBlock fvar
    (List.range ((a + cbfpBlock fvar - 1) / 16 - a / 16 + 1)).map (· + a / 16)
  else [scalarBytes fmt * i / 16]

/-! ### Rounding (R145, R146) -/

/-- m / 2^sh rounded to an integer: `neg` the sign, `r` the 16 random bits of SR; and whether it is exact. -/
def roundShift (mode : Nat) (neg : Bool) (m sh r : Nat) : Nat × Bool :=
  let k := m / 2 ^ sh
  let d := m % 2 ^ sh
  let up := match mode with
    | 0 => 2 * d > 2 ^ sh || (2 * d == 2 ^ sh && k % 2 == 1)
    | 1 => false
    | 2 => d != 0 && !neg
    | 3 => d != 0 && neg
    | _ => d != 0 && d * 65536 / 2 ^ sh + r ≥ 65536
  (if up then k + 1 else k, d == 0)

/-- m × 2^e rounded to a multiple of 2^q, in units of 2^q. -/
def roundAt (mode : Nat) (neg : Bool) (m : Nat) (e q : Int) (r : Nat) : Nat × Bool :=
  if q ≤ e then (m * 2 ^ (e - q).toNat, true) else roundShift mode neg m (q - e).toNat r

/-- Which way an overflow goes: true to the infinity (or past the largest), false to the largest (R147). -/
def overflowsToInf (mode : Nat) (neg : Bool) : Bool :=
  match mode with
  | 1 => false
  | 2 => !neg
  | 3 => neg
  | _ => true

/-- Settings of R154. -/
structure NSet where
  fmt : Nat
  fvar : Nat
  round : Nat
  trap : Bool
  sub : Nat
  deriving DecidableEq, Repr

/-- The settings that an NSET word spells. -/
def NSet.of (w : Nat) : NSet := { fmt := bits w 0 4, fvar := bits w 4 2, round := bits w 6 3, trap := bit w 9, sub := bits w 10 2 }

/-- Does an NSET word hold a reserved encoding (R154)? -/
def nsetReserved (w : Nat) : Bool :=
  bits w 0 4 > 10 || bits w 6 3 > 4 || (bits w 4 2 != 0 && bits w 0 4 != 10) || bits w 12 4 != 1 || bits w 16 16 != 0

/-- Inputs flush (R143)? -/
def NSet.flushIn (n : NSet) : Bool := n.sub % 2 == 1
/-- Results flush? -/
def NSet.flushOut (n : NSet) : Bool := n.sub ≥ 2

/-- INVALID of a NaN under TRAP (R142). -/
def NSet.nanFlag (n : NSet) : Nat := if n.trap then Flag.INVALID else 0

/-- Sign bit at place `w`. -/
def signAt (neg : Bool) (w : Nat) : Nat := if neg then 2 ^ w else 0

/-- Narrow into a scalar float (R142 to R149): pattern and flags. -/
def narrowFloat (n : NSet) (eb fb bias : Nat) (x : Ext) (r : Nat) : Nat × Nat :=
  let sign := fun neg => signAt neg (eb + fb)
  let e4m3 := n.fmt == 5
  let infPat := (2 ^ eb - 1) * 2 ^ fb
  let maxPat := if e4m3 then 0x7E else infPat - 1
  match x with
  | .nan => (if e4m3 then 0x7F else infPat + 2 ^ (fb - 1), n.nanFlag)
  | .inf neg => if e4m3 then (sign neg + maxPat, Flag.INVALID + Flag.INEXACT) else (sign neg + infPat, 0)
  | .fin neg m e =>
    if m = 0 then (sign neg, 0) else
    let emin : Int := 1 - (bias : Int)
    let q : Int := e + (Nat.log2 m : Int) - (fb : Int)
    let u := roundAt n.round neg m e q r
    let qs : Int := emin - (fb : Int)
    if q < qs ∧ ¬ (q = qs - 1 ∧ u.1 = 2 ^ (fb + 1)) then
      if n.flushOut then (sign neg, Flag.UNDERFLOW + Flag.INEXACT)
      else
        let t := roundAt n.round neg m e qs r
        (sign neg + t.1, if t.2 then 0 else Flag.UNDERFLOW + Flag.INEXACT)
    else
      let k := if u.1 = 2 ^ (fb + 1) then 2 ^ fb else u.1
      let q := if u.1 = 2 ^ (fb + 1) then q + 1 else q
      let field := (q + (fb : Int) + (bias : Int)).toNat
      let pat := field * 2 ^ fb + (k - 2 ^ fb)
      if pat > maxPat then
        (sign neg + (if overflowsToInf n.round neg && !e4m3 then infPat else maxPat), Flag.OVERFLOW + Flag.INEXACT)
      else (sign neg + pat, if u.2 then 0 else Flag.INEXACT)

/-- Narrow into INT32 (R147, R148). -/
def narrowInt (n : NSet) (x : Ext) (r : Nat) : Nat × Nat :=
  match x with
  | .nan => (0, Flag.INVALID + Flag.INEXACT)
  | .inf neg => (if neg then 2 ^ 31 else 2 ^ 31 - 1, Flag.INVALID + Flag.INEXACT)
  | .fin neg m e =>
    let k := roundAt n.round neg m e 0 r
    if neg then
      (if k.1 > 2 ^ 31 then (2 ^ 31, Flag.OVERFLOW + Flag.INEXACT) else ((2 ^ 32 - k.1) % 2 ^ 32, if k.2 then 0 else Flag.INEXACT))
    else if k.1 > 2 ^ 31 - 1 then (2 ^ 31 - 1, Flag.OVERFLOW + Flag.INEXACT)
    else (k.1, if k.2 then 0 else Flag.INEXACT)

/-! ### MX blocks (R150) -/

/-- ⌊log2⌋ of a finite magnitude. -/
def magLog (m : Nat) (e : Int) : Int := (Nat.log2 m : Int) + e

/-- The largest ⌊log2⌋ of the nonzero magnitudes; none when all are zero. -/
def blockLog (xs : List Ext) : Option Int :=
  xs.foldl (fun a x =>
    match x with
    | .fin _ m e => if m = 0 then a else match a with
      | none => some (magLog m e)
      | some l => some (max l (magLog m e))
    | _ => a) none

/-- Largest element exponent of an MX format. -/
def mxEmax (fmt : Nat) : Int := match fmt with | 7 => 4 | 8 => 2 | _ => 0

/-- Round a value in units of the scale to the element format: pattern, exact (no rounding, no clamp). -/
def mxElement (fmt mode : Nat) (neg : Bool) (m : Nat) (e : Int) (r : Nat) : Nat × Bool :=
  if fmt = 9 then
    let k := roundAt mode neg m e (-6) r
    let c := min k.1 127
    (if neg then (256 - c) % 256 else c, k.2 && k.1 ≤ 127)
  else
    let fb : Nat := if fmt = 7 then 2 else 1
    let emin : Int := if fmt = 7 then -2 else 0
    let maxPat : Nat := if fmt = 7 then 31 else 7
    let w : Nat := if fmt = 7 then 5 else 3
    if m = 0 then (signAt neg w, true) else
    let q : Int := max (magLog m e - (fb : Int)) (emin - (fb : Int))
    let k := roundAt mode neg m e q r
    let pat := ((q - (emin - (fb : Int))).toNat) * 2 ^ fb + k.1
    if pat > maxPat then (signAt neg w + maxPat, false) else (signAt neg w + pat, k.2)

/-- Is an MX element pattern zero? -/
def mxZero (fmt pat : Nat) : Bool := if fmt = 9 then pat == 0 else pat % 2 ^ (mxBits fmt - 1) == 0

/-- Narrow 32 values into an MX block: scale, patterns, flags (R150, R148, R149). -/
def narrowMx (n : NSet) (rand : Nat → Nat) (base : Nat) (xs : List Ext) : Nat × List Nat × Nat :=
  let bad := xs.any fun x => match x with | .fin _ _ _ => false | _ => true
  if bad then
    let nans := xs.any (· == .nan)
    let infs := xs.any fun x => match x with | .inf _ => true | _ => false
    let fins := xs.any fun x => match x with | .fin _ _ _ => true | _ => false
    let f := (if nans then n.nanFlag else 0) ||| (if infs then Flag.INVALID + Flag.INEXACT else 0) ||| (if fins then Flag.INEXACT else 0)
    (0xFF, List.replicate 32 0, f)
  else
    match blockLog xs with
    | none =>
      (0x7F, xs.map fun x => (match x with | .fin neg _ _ => if n.fmt = 9 then 0 else signAt neg (mxBits n.fmt - 1) | _ => 0), 0)
    | some l =>
      let s0 := l - mxEmax n.fmt
      let s := max (-127) (min 127 s0)
      let out := xs.zipIdx.map fun p =>
        match p.1 with
        | .fin neg m e =>
          let k := mxElement n.fmt n.round neg m (e - s) (rand (base + p.2))
          let under := s0 < -127 && m != 0 && mxZero n.fmt k.1
          (k.1, (if k.2 then 0 else Flag.INEXACT) ||| (if under then Flag.UNDERFLOW else 0))
        | _ => (0, 0)
      ((s + 127).toNat, out.map Prod.fst, (out.map Prod.snd).foldl (· ||| ·) 0 ||| (if s0 > 127 then Flag.OVERFLOW else 0))

/-! ### CBFP blocks (R151) -/

/-- 2^(w − 1), the magnitude of the smallest mantissa of `w` bits. -/
def halfRange (w : Nat) : Int := ((2 ^ (w - 1) : Nat) : Int)

/-- A component at exponent `ex`: mantissa, fits, exact. -/
def cbfpRound (mode w : Nat) (x : Ext) (ex r : Nat) : Int × Bool × Bool :=
  match x with
  | .fin neg m e =>
    let k := roundAt mode neg m e (ex : Int) r
    let v : Int := if neg then -(k.1 : Int) else k.1
    (v, decide (-halfRange w ≤ v) && decide (v ≤ halfRange w - 1), k.2)
  | _ => (0, true, true)

/-- Narrow 24 components into a CBFP block: exponent, mantissas, flags (R151, R148). -/
def narrowCbfp (n : NSet) (rand : Nat → Nat) (base : Nat) (xs : List Ext) : Nat × List Int × Nat :=
  let w := cbfpWidth n.fvar
  let hi : Int := halfRange w - 1
  let lo : Int := -halfRange w
  let infs := xs.any fun x => match x with | .inf _ => true | _ => false
  let fits := fun ex => xs.zipIdx.all fun p => (cbfpRound n.round w p.1 ex (rand (base + p.2))).2.1
  let found := if infs then none else (List.range 16).find? fits
  let ex := found.getD 15
  let out := xs.zipIdx.map fun p =>
    match p.1 with
    | .nan => ((0 : Int), Flag.INVALID + Flag.INEXACT)
    | .inf neg => (if neg then lo else hi, Flag.INVALID + Flag.INEXACT)
    | x =>
      let k := cbfpRound n.round w x ex (rand (base + p.2))
      (max lo (min hi k.1), if k.2.1 then (if k.2.2 then 0 else Flag.INEXACT) else Flag.OVERFLOW + Flag.INEXACT)
  (ex, out.map Prod.fst, (out.map Prod.snd).foldl (· ||| ·) 0)

/-! ### Spans -/

/-- Cut a list into pieces of `k`; fuel bounds the pieces. -/
def chunks {α : Type} : Nat → Nat → List α → List (List α)
  | 0, _, _ => []
  | fuel + 1, k, l => if l.isEmpty then [] else l.take k :: chunks fuel k (l.drop k)

/-- Pad with zero bytes to a multiple of 16. -/
def pad16 (l : List Byte) : List Byte := slice l 0 (up16 l.length)

/-- The elements' patterns of an MX block as bytes. -/
def mxBytes (fmt : Nat) (pats : List Nat) : List Byte :=
  leBytes (mxPayload fmt) ((pats.zipIdx.map fun p => p.1 * 2 ^ (mxBits fmt * p.2)).foldl (· + ·) 0)

/-- A CBFP block as bytes. -/
def cbfpBytes (fvar ex : Nat) (ms : List Int) : List Byte :=
  let w := cbfpWidth fvar
  BitVec.ofNat 8 ex :: beBytes (3 * w) (ms.foldl (fun (a : Nat) (m : Int) => a * 2 ^ w + unsigned m w) 0)

/-- Narrow values into a span under NSET (R152, R138, R139): bytes and flags. `rand x` gives the random bits of position `x`. -/
def narrowSpan (n : NSet) (rand : Nat → Nat) (xs : List Ext) : List Byte × Nat :=
  if isMx n.fmt then
    let blocks := (chunks xs.length 32 xs).zipIdx.map fun b => narrowMx n rand (32 * b.2) b.1
    let tiles := (chunks blocks.length 16 blocks).map fun t =>
      pad16 (slice (t.map fun b => BitVec.ofNat 8 b.1) 0 16 ++ (t.map fun b => mxBytes n.fmt b.2.1).flatten)
    (tiles.flatten, (blocks.map fun b => b.2.2).foldl (· ||| ·) 0)
  else if n.fmt = 10 then
    let blocks := (chunks xs.length 24 xs).zipIdx.map fun b => narrowCbfp n rand (24 * b.2) b.1
    (pad16 (blocks.map fun b => cbfpBytes n.fvar b.1 b.2.1).flatten, (blocks.map fun b => b.2.2).foldl (· ||| ·) 0)
  else
    let out := xs.zipIdx.map fun p =>
      match floatShape n.fmt with
      | some (eb, fb, bias) => narrowFloat n eb fb bias p.1 (rand p.2)
      | none => narrowInt n p.1 (rand p.2)
    ((out.map fun o => leBytes (scalarBytes n.fmt) o.1).flatten, (out.map Prod.snd).foldl (· ||| ·) 0)

/-- Widen `count` elements of a span. -/
def widenSpan (fmt fvar : Nat) (flush : Bool) (l : List Byte) (count : Nat) : List Ext :=
  (List.range count).map fun i => widenAt fmt fvar flush l i

/-- The 16 random bits of element index `x` (R172). -/
def srBits (seed step x : Nat) : Nat :=
  let M := 2 ^ 64
  let j := x / 4
  let z := (seed + step * 0x9E3779B97F4A7C15 + j * 0xD1B54A32D192ED03) % M
  let z := (z ^^^ (z / 2 ^ 30)) * 0xBF58476D1CE4E5B9 % M
  let z := (z ^^^ (z / 2 ^ 27)) * 0x94D049BB133111EB % M
  let z := z ^^^ (z / 2 ^ 31)
  z / 2 ^ (16 * (x % 4)) % 65536

end Sys2Proof.Machine
end

