-- ==== Sys2Proof/Machine/Reduce.lean ====
section
/-! DEFINITION. Reduce on receive and convert on send (R157 to R176): the descriptor store, exact accumulators, instances and their
contributions, the single rounding, partials, converts, the REDUCE packet (R309) and the commands of the RED0 page. -/

namespace Sys2Proof.Machine

/-! ### Descriptors (R159) -/

/-- A descriptor entry: its eight words. -/
abbrev RedDesc := List W64

/-- Entry `n` of the store; eight zero words when nothing was written. -/
def State.desc (s : State) (n : Nat) : RedDesc := SMap.getD s.red.desc (List.replicate 8 0) n

def RedDesc.w (d : RedDesc) (k : Nat) : Nat := (d.getD k 0).toNat
def RedDesc.valid (d : RedDesc) : Bool := bit (RedDesc.w d 0) 0
/-- 0 ROOT, 1 FEED, 2 CONVERT. -/
def RedDesc.kind (d : RedDesc) : Nat := bits (RedDesc.w d 0) 1 3
def RedDesc.op (d : RedDesc) : Nat := bits (RedDesc.w d 0) 8 3
def RedDesc.partials (d : RedDesc) : Bool := bit (RedDesc.w d 0) 11
def RedDesc.loc (d : RedDesc) : Bool := bit (RedDesc.w d 0) 12
def RedDesc.root (d : RedDesc) : Nat := bits (RedDesc.w d 0) 16 12
def RedDesc.srcFmt (d : RedDesc) : Nat := bits (RedDesc.w d 0) 28 4
def RedDesc.srcFvar (d : RedDesc) : Nat := bits (RedDesc.w d 0) 32 2
def RedDesc.nsetW (d : RedDesc) : Nat := bits (RedDesc.w d 1) 0 32
def RedDesc.nset (d : RedDesc) : NSet := NSet.of (RedDesc.nsetW d)
def RedDesc.expect (d : RedDesc) : Nat := bits (RedDesc.w d 1) 32 16
def RedDesc.elems (d : RedDesc) : Nat := bits (RedDesc.w d 2) 0 32
def RedDesc.sigRef (d : RedDesc) : Nat := bits (RedDesc.w d 2) 32 12
def RedDesc.dest (d : RedDesc) : Nat := bits (RedDesc.w d 3) 0 45
def RedDesc.ctx (d : RedDesc) : Nat := bits (RedDesc.w d 3) 45 12
def RedDesc.seed (d : RedDesc) : Nat := RedDesc.w d 4
def RedDesc.idxBase (d : RedDesc) : Nat := bits (RedDesc.w d 5) 0 48

/-- The step that a descriptor's random bits use (R159, R172). -/
def State.descStep (s : State) (d : RedDesc) : Nat :=
  if bit (RedDesc.w d 5) 48 then s.sync.step % 2 ^ 48 else bits (RedDesc.w d 6) 0 48

/-- The random bits of a position in a descriptor's transfer or result (R172). -/
def State.descRand (s : State) (d : RedDesc) (x : Nat) : Nat := srBits (RedDesc.seed d) (s.descStep d) (RedDesc.idxBase d + x)

/-- A descriptor fault at execution (R160). -/
def State.descFault (s : State) : State := s.err (Page.red 0) Err.red.DESC_FAULT

/-- The root that an entry delivers to: itself, or a FEED's root. -/
def State.rootOf (s : State) (n : Nat) : Option Nat :=
  let d := s.desc n
  if n ≥ 4095 || !RedDesc.valid d then none
  else match RedDesc.kind d with
    | 0 => some n
    | 1 => some (RedDesc.root d)
    | _ => none

/-! ### Use (R160, R165) -/

/-- Every image in a bank or active, with its port. -/
def State.images (s : State) : List GaitImage := (s.gait.banks.map fun e => [e.2.a, e.2.b].filterMap id).flatten

/-- Code of the local source. -/
def localSource : Nat := 2 ^ 20

/-- The receive strides of active banks that name a root or a FEED of it, in table order across ports (R165). -/
def State.feeders (s : State) (root : Nat) : List Nat :=
  ((List.range s.ports).map fun p =>
    match s.activeImage p with
    | none => []
    | some g => (g.strides.zipIdx.filter fun e => e.1.rx && e.1.desc != 0xFFF && s.rootOf e.1.desc == some root).map fun e => p * 4096 + e.2).flatten

/-- The contributors that a root serves, at most 8,192: its strides, then, when LOCAL is 1, the local source (R165). -/
def State.contributors (s : State) (root : Nat) : List Nat :=
  if RedDesc.loc (s.desc root) then (s.feeders root).take 8191 ++ [localSource] else (s.feeders root).take 8192

/-- A root's state. -/
def State.root (s : State) (n : Nat) : RedRoot := SMap.getD s.red.roots RedRoot.empty n

/-- Set it. -/
def State.setRoot (s : State) (n : Nat) (r : RedRoot) : State := { s with red := { s.red with roots := SMap.put s.red.roots RedRoot.empty n r } }

/-- The open instances of a root. -/
def RedRoot.open_ (r : RedRoot) : List RedInst := r.insts.filter fun i => i.ended == .open_

/-- Is index `n` in use (R160)? -/
def State.descInUse (s : State) (n : Nat) : Bool :=
  (n < 4095 && s.images.any (fun g => g.strides.any fun d => d.desc == n))
    || !(s.root n).open_.isEmpty || !(s.root n).owe.isEmpty || (s.root n).stalled
    || (RedDesc.valid (s.desc n) && RedDesc.kind (s.desc n) == 0
        && s.red.desc.any fun e => RedDesc.valid e.2 && RedDesc.kind e.2 == 1 && RedDesc.root e.2 == n)

/-! ### Staging (R164) -/

/-- Is the accumulator EA-2176? -/
def wideAcc (fmt : Nat) : Bool := fmt == 1
/-- Bits of VAL and bytes of a record (R161, R162). -/
def accBits (fmt : Nat) : Nat := if wideAcc fmt then 2172 else 316
def accBytes (fmt : Nat) : Nat := if wideAcc fmt then 272 else 40
/-- −log2 of the weight of VAL's bit 0. -/
def accLsb (fmt : Nat) : Nat := if wideAcc fmt then 1080 else 152

/-- Staging of an instance in KiB: a whole number of 4 KiB (R164). -/
def instKib (fmt elems : Nat) : Nat := (elems * accBytes fmt + 17 * 1024 + 4095) / 4096 * 4

/-- Staging of the block in KiB, and in use. -/
def State.stageKib (s : State) : Nat := s.build.stagingMib * 1024
def State.stageUsed (s : State) : Nat := (s.red.roots.map fun r => (r.2.insts.map (·.kib)).foldl (· + ·) 0).foldl (· + ·) 0

/-- Open instances of the block. -/
def State.openInsts (s : State) : Nat := (s.red.roots.map fun r => r.2.open_.length).foldl (· + ·) 0

/-- Reduce clusters that an R18 fault has not taken. -/
def State.redAlive (s : State) : Nat := ((List.range 8).filter fun k => !s.rdb (Page.red k) Reg.RED_STATUS.LOST).length

/-- RED_SHORT (R99): eight clusters take in 12 units; what is left of them takes in less than the units of the armed or active gait. -/
def State.redShort (s : State) : State :=
  if 3 * s.redAlive < 2 * max s.gait.units (if s.swapState = 0 then 0 else s.gait.newUnits) then s.err Page.gait Err.gait.RED_SHORT else s

/-- Clusters onto which new instances may stripe. -/
def State.redClusters (s : State) : List Nat :=
  (List.range 8).filter fun k => s.rdb (Page.red k) Reg.RED_CTRL.EN && !s.rdb (Page.red k) Reg.RED_STATUS.LOST

/-- Stripes of an instance of `elems` records that fall on the `j`-th of `n` clusters. -/
def stripesOf (elems n j : Nat) : Nat :=
  let t := (elems + 767) / 768
  t / n + (if j < t % n then 1 else 0)

/-- Records of those stripes: the last stripe may be short. -/
def recordsOf (elems n j : Nat) : Nat :=
  let t := (elems + 767) / 768
  let short := t * 768 - elems
  stripesOf elems n j * 768 - (if t % n = (j + 1) % n then short else 0)

/-- Instances that hold staging, each with its root's number format. -/
def State.stagedInsts (s : State) : List (Nat × RedInst) :=
  s.red.roots.flatMap fun r => r.2.insts.map fun i => ((RedDesc.nset (s.desc r.1)).fmt, i)

/-- Stripes that cluster `k` holds, and its staging in KiB, partly used KiB counted whole (R175). -/
def State.redStripes (s : State) (k : Nat) : Nat :=
  (s.stagedInsts.map fun e => match e.2.clusters.findIdx? (· == k) with
    | some j => stripesOf e.2.recs.length e.2.clusters.length j
    | none => 0).foldl (· + ·) 0
def State.redKib (s : State) (k : Nat) : Nat :=
  ((s.stagedInsts.map fun e => match e.2.clusters.findIdx? (· == k) with
    | some j => recordsOf e.2.recs.length e.2.clusters.length j * accBytes e.1
    | none => 0).foldl (· + ·) 0 + 1023) / 1024

/-! ### Records (R163) -/

/-- Is the operand −0, +0? -/
def Ext.negZero (x : Ext) : Bool := match x with | .fin true 0 _ => true | _ => false
def Ext.posZero (x : Ext) : Bool := match x with | .fin false 0 _ => true | _ => false

/-- A finite operand in units of the accumulator's least bit; the raw 32 bits for AND, OR and XOR. -/
def accValue (fmt op : Nat) (neg : Bool) (m : Nat) (e : Int) : Int :=
  if 3 ≤ op && op ≤ 5 then (unsigned (if neg then -(m : Int) else m) 32 : Nat)
  else (if neg then -1 else 1) * (m * 2 ^ (e + (accLsb fmt : Int)).toNat : Nat)

/-- Combine two values of VAL under an OP. -/
def accJoin (op : Nat) (a b : Int) : Int :=
  match op with
  | 1 => min a b
  | 2 => max a b
  | 3 => (Nat.land a.toNat b.toNat : Nat)
  | 4 => (Nat.lor a.toNat b.toNat : Nat)
  | 5 => (Nat.xor a.toNat b.toNat : Nat)
  | _ => a + b

/-- An operand joins a record. The first one sets it. -/
def AccRec.add (fmt op : Nat) (r : AccRec) (x : Ext) (poison : Bool) : AccRec :=
  let zs := match op with
    | 1 => r.zs || x.negZero
    | 2 => r.zs || x.posZero
    | 3 => false
    | 4 => false
    | 5 => false
    | _ => (!r.got || r.zs) && x.negZero
  let r := { r with zs := zs, poison := r.poison || poison }
  match x with
  | .nan => { r with got := true, nan := true, none_ := r.none_ && (op == 1 || op == 2) }
  | .inf neg => { r with got := true, pinf := r.pinf || !neg, ninf := r.ninf || neg, none_ := r.none_ && (op == 1 || op == 2) }
  | .fin neg m e =>
    let v := accValue fmt op neg m e
    { r with got := true, none_ := false, val := if r.none_ then v else accJoin op r.val v }

/-- A partial's record joins a record (R169). -/
def AccRec.join (op : Nat) (a b : AccRec) : AccRec :=
  if !a.got then { b with poison := a.poison || b.poison } else
  { got := true
    none_ := a.none_ && b.none_
    val := if b.none_ then a.val else if a.none_ then b.val else accJoin op a.val b.val
    nan := a.nan || b.nan
    pinf := a.pinf || b.pinf
    ninf := a.ninf || b.ninf
    zs := if op = 0 ∨ op = 6 then a.zs && b.zs else a.zs || b.zs
    poison := a.poison || b.poison }

/-- A record as it is carried (R161, R162). A record that no finite operand has reached is NONE for MIN and MAX, and 0 for the others. -/
def AccRec.bytes (fmt op : Nat) (r : AccRec) : List Byte :=
  let w := accBits fmt
  let v := if r.none_ then (if op = 1 ∨ op = 2 then 2 ^ (w - 1) else 0) else unsigned r.val w
  leBytes (accBytes fmt) (v + b2n r.nan * 2 ^ w + b2n r.pinf * 2 ^ (w + 1) + b2n r.ninf * 2 ^ (w + 2) + b2n r.zs * 2 ^ (w + 3))

/-- The record that bytes spell. NONE stands for MIN and MAX alone. -/
def AccRec.of (fmt op : Nat) (l : List Byte) (poison : Bool) : AccRec :=
  let w := accBits fmt
  let v := ofLe l
  let none_ := (op == 1 || op == 2) && v % 2 ^ w == 2 ^ (w - 1)
  { got := true, none_ := none_, val := if none_ then 0 else if 3 ≤ op && op ≤ 5 then (v % 2 ^ 32 : Nat) else signed v w
    nan := bit v w, pinf := bit v (w + 1), ninf := bit v (w + 2), zs := bit v (w + 3), poison := poison }

/-- What a record rounds from (R170). -/
def AccRec.value (fmt op round : Nat) (r : AccRec) : Ext :=
  if 3 ≤ op && op ≤ 5 then extOfInt (signed r.val.toNat 32) 0
  else if r.nan || (r.pinf && r.ninf && (op == 0 || op == 6 || op == 1 || op == 2)) then .nan
  else
    let sum := op == 0 || op == 6
    if sum && r.pinf then .inf false
    else if sum && r.ninf then .inf true
    else if op == 1 && r.ninf then .inf true
    else if op == 2 && r.pinf then .inf false
    else if op == 1 && r.pinf && r.none_ then .inf false
    else if op == 2 && r.ninf && r.none_ then .inf true
    else if r.val = 0 then
      .fin (if sum then r.zs || round == 3 else if op == 1 then r.zs else !r.zs) 0 0
    else .fin (decide (r.val < 0)) r.val.natAbs (-(accLsb fmt : Int))

/-! ### Deliveries (R165, R166) -/

/-- What arrives at a root. Poison by 16-byte units of the payload. -/
inductive Delivery where
  | operand (data : List Byte) (poison : Nat)
  | part (data : List Byte) (poison : Nat)
  | failed
  deriving DecidableEq, Repr

/-- How a delivery fared. -/
inductive Delivered where
  | taken | owed | overcount | stalled | fault
  deriving DecidableEq, Repr

/-- Does poison touch any of the units? -/
def touched (poison : Nat) (units : List Nat) : Bool := units.any fun u => bit poison u

/-- The operands that a payload spells (R141). -/
def operandsOf (d : RedDesc) (data : List Byte) : List Ext :=
  let n := RedDesc.nset d
  widenSpan n.fmt n.fvar n.flushIn data (RedDesc.elems d)

/-- Combine operands into records. -/
def addOperand (d : RedDesc) (recs : List AccRec) (xs : List Ext) (poison : Nat) : List AccRec :=
  let n := RedDesc.nset d
  (recs.zip xs).zipIdx.map fun e => e.1.1.add n.fmt (RedDesc.op d) e.1.2 (touched poison (unitsOf n.fmt n.fvar e.2))

/-- The clusters of the stripes of `l`, one entry a record, in which some entry satisfies `bad` (R164). -/
def clustersWith (clusters : List Nat) (bad : List Ext → Nat → Bool) (l : List Ext) : List Nat :=
  let t := (l.length + 767) / 768
  (((List.range t).filter fun k => bad ((l.drop (768 * k)).take 768) k).map fun k => clusters.getD (k % max 1 clusters.length) 0).eraseDups

/-- INVALID is raised under TRAP in stripes of these clusters (R176). -/
def State.trapped (s : State) (clusters : List Nat) : State :=
  clusters.foldl (fun s k => s.err (Page.red k) Err.red.INVALID { place := k, placeKind := 1 }) s

/-- Records of a partial transfer. -/
def partRecs (fmt op elems : Nat) (data : List Byte) (poison : Nat) : List AccRec :=
  (List.range elems).map fun i =>
    let a := 16 + i * accBytes fmt
    AccRec.of fmt op (slice data a (accBytes fmt)) (touched poison [a / 16, (a + accBytes fmt - 1) / 16])

/-- Count operands and records combined, on the instance's clusters (R175). -/
def State.countOperands (s : State) (i : RedInst) : State :=
  i.clusters.zipIdx.foldl (fun s c =>
    let p := Page.red c.1
    s.wrPair p Reg.REDn_OPND_LO.COUNT Reg.REDn_OPND_HI.COUNT
      (s.rdPair p Reg.REDn_OPND_LO.COUNT Reg.REDn_OPND_HI.COUNT + recordsOf i.recs.length i.clusters.length c.2)) s

/-- Put a delivery into an instance. -/
def State.intoInst (s : State) (d : RedDesc) (i : RedInst) (who : Nat) (x : Delivery) : State × RedInst :=
  let n := RedDesc.nset d
  let i := { i with got := who :: i.got }
  match x with
  | .failed => (s, { i with count := i.count + 1, failures := i.failures + 1 })
  | .operand data poison =>
    let xs := operandsOf d data
    let bad := if n.trap then clustersWith i.clusters (fun l _ => l.contains .nan) xs else []
    ((s.countOperands i).trapped bad, { i with
      recs := addOperand d i.recs xs poison, count := i.count + 1, flags := if bad.isEmpty then i.flags else i.flags ||| Flag.INVALID })
  | .part data poison =>
    let count := ofLe (slice data 4 2)
    if ofLe (slice data 0 4) != RedDesc.nsetW d || ofLe (slice data 8 4) != RedDesc.elems d then
      (s.err (Page.red 0) Err.red.NSET_MISMATCH, { i with count := i.count + max 1 count, failures := i.failures + max 1 count })
    else
      let recs := partRecs n.fmt (RedDesc.op d) (RedDesc.elems d) data poison
      (s.countOperands i, { i with
        recs := (i.recs.zip recs).map fun e => e.1.join (RedDesc.op d) e.2
        count := i.count + count, failures := i.failures + ofLe (slice data 6 2)
        flags := if bit (byteAt data 12) 3 then i.flags ||| Flag.INVALID else i.flags })

/-! ### The end of an instance (R166, R168) -/

/-- Apply the signals an instance holds, in contributor order, with a status; a signal's own status counts when the instance's is
OK. -/
def State.applyHeldSigs (s : State) (i : RedInst) (status : Nat) : State :=
  let ordered := i.held.mergeSort fun a b => a.1 ≤ b.1
  ordered.foldl (fun s e => s.applySignal e.2.ref (if status = 0 then e.2.status else status)) s

/-- Replace or drop an instance of a root. -/
def State.putInst (s : State) (root : Nat) (i : RedInst) : State :=
  let r := s.root root
  s.setRoot root { r with insts := r.insts.map fun x => if x.index == i.index then i else x }
def State.dropInst (s : State) (root index : Nat) : State :=
  let r := s.root root
  s.setRoot root { r with insts := r.insts.filter fun x => x.index != index }

/-- The poison of a written result, by 16-byte units. -/
def resultPoison (n : NSet) (recs : List AccRec) : Nat :=
  recs.zipIdx.foldl (fun p e => if e.1.poison then (writtenUnits n.fmt n.fvar e.2).foldl (fun p u => p ||| 2 ^ u) p else p) 0

/-- OR into RED_FLAGS, and report INVALID under TRAP in the clusters that raised it (R175, R176). -/
def State.redFlags (s : State) (clusters : List Nat) (f : Nat) : State :=
  let p := Page.red 0
  let s := if bit f 0 then s.wr p Reg.RED_FLAGS.INEXACT 1 else s
  let s := if bit f 1 then s.wr p Reg.RED_FLAGS.UNDERFLOW 1 else s
  let s := if bit f 2 then s.wr p Reg.RED_FLAGS.OVERFLOW 1 else s
  let s := if bit f 3 then s.wr p Reg.RED_FLAGS.INVALID 1 else s
  s.trapped clusters

/-- An instance ends without a result (R166): counted, its signals applied on a Mount block; a Post block keeps it for the partial that
says so. -/
def State.failInst (s : State) (root : Nat) (i : RedInst) (how : RedEnd) (status : Nat) : State :=
  let s := s.inc (Page.red 0) Reg.RED_INCOMPLETE.COUNT
  if s.boot.post && how != .incomplete then
    s.putInst root { i with ended := how, failures := max 1 i.failures, held := [], clusters := [], kib := 0 }
  else (s.dropInst root i.index).applyHeldSigs i status

/-- A Mount instance is DONE: each record is rounded once, the result is written with the rights of CTX (R168, R170), at its time, as the gait
writes (R198). -/
def State.finaliseInst (s : State) (root : Nat) (d : RedDesc) (i : RedInst) : State :=
  let n := RedDesc.nset d
  let xs := i.recs.map fun r => r.value n.fmt (RedDesc.op d) n.round
  let out := narrowSpan n (s.descRand d) xs
  let flags := i.flags ||| out.2
  let s := i.clusters.zipIdx.foldl (fun s c => s.add (Page.red c.1) Reg.REDn_FINAL.COUNT (stripesOf i.recs.length i.clusters.length c.2)) s
  let trap := fun (l : List Ext) (k : Nat) => n.trap && bit (narrowSpan n (fun x => s.descRand d (768 * k + x)) l).2 3
  let s := s.redFlags (if bit out.2 3 then clustersWith i.clusters trap xs else []) flags
  let a := s.writeAs (s.ctxMaster (RedDesc.ctx d)) (RedDesc.dest d) out.1 (resultPoison n i.recs)
  if a.status = St.OK then
    (a.st.gaitWrote (s.herdLines (RedDesc.dest d) out.1.length)).putInst root { i with ended := .done, writing := true, flags := flags }
  else a.st.failInst root i .failed 6

/-- Does a delivery end its instance (R166)? -/
def State.endCheck (s : State) (root : Nat) (d : RedDesc) (i : RedInst) : State :=
  let ex := RedDesc.expect d
  if i.count > ex then (s.err (Page.red 0) Err.red.OVERCOUNT).failInst root i .overcount 8
  else if i.count < ex then s.putInst root i
  else if i.failures != 0 then s.failInst root i .failed 6
  else if s.boot.post then s.putInst root { i with ended := .done }
  else s.finaliseInst root d i

/-- The root is marked STALLED (R167). -/
def State.stallRoot (s : State) (root : Nat) : State :=
  (s.setRoot root { s.root root with stalled := true }).err (Page.red 0) Err.red.STAGING_FULL

/-- Open the next instance of a root; none when staging or clusters are lacking (R164, R167). -/
def State.openInst (s : State) (root : Nat) (d : RedDesc) : Option (State × RedInst) :=
  let n := RedDesc.nset d
  let kib := instKib n.fmt (RedDesc.elems d)
  let cl := s.redClusters
  if cl.isEmpty || s.openInsts ≥ 1024 || s.stageUsed + kib > s.stageKib then none else
  let r := s.root root
  let i : RedInst :=
    { index := r.next, recs := List.replicate (RedDesc.elems d) AccRec.empty, got := [], count := 0, failures := 0, held := []
      flags := 0, ended := .open_, writing := false, clusters := cl, kib := kib }
  some (s.setRoot root { r with next := r.next + 1, insts := r.insts ++ [i] }, i)

/-- The instance that a delivery of `who` belongs to: an open one that does not hold it, a new one, or none left (R165). -/
def State.pickInst (s : State) (root : Nat) (d : RedDesc) (who : Nat) : Delivered ⊕ (State × RedInst) :=
  let r := s.root root
  match r.open_.find? fun i => !i.got.contains who with
  | some i => .inr (s, i)
  | none =>
    if r.open_.length ≥ 2 then .inl .overcount
    else match s.openInst root d with
      | some x => .inr x
      | none => .inl .stalled

/-- Deliver to a root (R165 to R167), with the signal of the frame or packet that brought it. A signal whose delivery is discarded is
applied with its own status. -/
def State.redDeliver (s : State) (desc who : Nat) (x : Delivery) (sig : Option Sig) : State × Delivered :=
  let own := fun (s : State) => match sig with
    | some g => s.applySignal g.ref g.status
    | none => s
  match s.rootOf desc with
  | none => (s.descFault, .fault)
  | some root =>
    let d := s.desc root
    if !RedDesc.valid d || RedDesc.kind d != 0 || !(s.contributors root).contains who then (s.descFault, .fault) else
    let r := s.root root
    if r.stalled then (own s, .stalled)
    else if r.owe.contains who then (own (s.setRoot root { r with owe := r.owe.erase who }), .owed)
    else match s.pickInst root d who with
      | .inl .stalled => (own (s.stallRoot root), .stalled)
      | .inl k => (own ((s.inc (Page.red 0) Reg.RED_OVERCOUNT_DROP.COUNT).err (Page.red 0) Err.red.OVERCOUNT), k)
      | .inr (s, i) =>
        let s := s.cnt 6 (match x with
          | .operand data _ => data.length
          | .part data _ => data.length
          | _ => 0)
        let y := (s.wakeSlots (i.clusters.map (0x38 + ·))).intoInst d i who x
        let i := { y.2 with held := match sig with
          | some g => y.2.held ++ [(who, g)]
          | none => y.2.held }
        (y.1.endCheck root d i, .taken)

/-! ### Sending (R168, R169, R173) -/

/-- The partial of an ended instance: bytes and poison by flits (R169). -/
def partialBytes (d : RedDesc) (i : RedInst) : List Byte × Nat :=
  let n := RedDesc.nset d
  let hd := leBytes 4 (RedDesc.nsetW d) ++ leBytes 2 i.count ++ leBytes 2 i.failures ++ leBytes 4 (RedDesc.elems d)
    ++ leBytes 4 (if bit i.flags 3 then 8 else 0)
  let w := accBytes n.fmt
  let body := (i.recs.map fun r => r.bytes n.fmt (RedDesc.op d)).flatten
  let poison := i.recs.zipIdx.foldl (fun p e =>
    if e.1.poison then p ||| 2 ^ ((16 + e.2 * w) / 256) ||| 2 ^ ((16 + e.2 * w + w - 1) / 256) else p) 0
  (pad16 (hd ++ body), poison)

/-- The instance whose partial a Post root's stride sends next. -/
def State.partialReady (s : State) (root : Nat) : Option RedInst := (s.root root).insts.find? fun i => i.ended != .open_

/-- Convert a source span (R173): output and flags. -/
def State.convert (s : State) (d : RedDesc) (src : List Byte) : List Byte × Nat :=
  let n := RedDesc.nset d
  let xs := widenSpan (RedDesc.srcFmt d) (RedDesc.srcFvar d) n.flushIn src (RedDesc.elems d)
  narrowSpan n (s.descRand d) xs

/-- The poison of a convert's output: an output unit is poisoned when an element it depends on came from a poisoned unit. -/
def convertPoison (d : RedDesc) (poison : Nat) : Nat :=
  let n := RedDesc.nset d
  (List.range (RedDesc.elems d)).foldl (fun p i =>
    if touched poison (unitsOf (RedDesc.srcFmt d) (RedDesc.srcFvar d) i) then (writtenUnits n.fmt n.fvar i).foldl (fun p u => p ||| 2 ^ u) p
    else p) 0

/-! ### Commands of the RED0 page (R158, R160, R167) -/

/-- The entry in the window. -/
def State.redWin (s : State) : RedDesc :=
  (List.range 8).map fun k => BitVec.ofNat 64
    (s.rd (Page.red 0) Reg.RED_DESC_WINw.DATA (2 * k) + 2 ^ 32 * s.rd (Page.red 0) Reg.RED_DESC_WINw.DATA (2 * k + 1))

/-- The selected index. -/
def State.redSel (s : State) : Nat := s.rd (Page.red 0) Reg.RED_DESC_SEL.INDEX

/-- Are the reserved fields of an entry, and those of other kinds and roles, zero (R159)? -/
def descReserved (d : RedDesc) (post : Bool) : Bool :=
  let k := RedDesc.kind d
  let w := RedDesc.w d
  let z := fun (word lo n : Nat) => bits (w word) lo n != 0
  z 0 13 3 || z 0 34 30 || z 2 44 20 || z 3 57 7 || z 5 49 15 || z 6 48 16 || z 7 0 64
    || (k != 1 && (z 0 11 1 || z 0 16 12)) || (k != 2 && (z 0 28 4 || z 0 32 2)) || (k == 2 && (z 0 8 3))
    || (k != 0 && (z 1 32 16 || z 1 48 16))
    || ((k != 0 || post) && (z 0 12 1 || z 3 0 45 || z 3 45 12)) || ((k != 0 || !post) && z 2 32 12)

/-- Does ELEMS fail (R160, 0x05)? -/
def State.badElems (s : State) (d : RedDesc) : Bool :=
  let n := RedDesc.nset d
  let e := RedDesc.elems d
  let conv := RedDesc.kind d == 2
  e == 0 || (isMx n.fmt && e % 32 != 0) || (conv && isMx (RedDesc.srcFmt d) && e % 32 != 0)
    || ((n.fmt == 10 || (conv && RedDesc.srcFmt d == 10)) && e % 24 != 0)
    || (RedDesc.kind d == 0 && 2 * instKib n.fmt e > s.stageKib) || (conv && e > 2 ^ 24)

/-- Does OP fail (R160, 0x04)? -/
def badOp (d : RedDesc) : Bool :=
  let n := RedDesc.nset d
  let op := RedDesc.op d
  RedDesc.kind d != 2 && (op == 7 || (op == 6 && n.fmt != 10) || (op ≤ 2 && n.fmt == 10) || (3 ≤ op && op ≤ 5 && n.fmt != 0))

/-- The code with which a write of entry `n` is refused; 0 when accepted (R160). -/
def State.descCode (s : State) (n : Nat) (d : RedDesc) : Nat :=
  let k := RedDesc.kind d
  let ver := bits (RedDesc.w d 0) 4 4
  let r := s.desc (RedDesc.root d)
  if ver = 0 ∨ ver > s.rd Page.ver Reg.VER_FORMATS.DESC then 0x01
  else if k > 2 then 0x02
  else if nsetReserved (RedDesc.nsetW d) then 0x03
  else if badOp d then 0x04
  else if s.badElems d then 0x05
  else if k = 1 ∧ (RedDesc.root d = n ∨ !RedDesc.valid r ∨ RedDesc.kind r ≠ 0 ∨ RedDesc.nsetW r ≠ RedDesc.nsetW d ∨ RedDesc.op r ≠ RedDesc.op d) then 0x06
  else if s.descInUse n then 0x07
  else if k = 0 ∧ RedDesc.expect d = 0 then 0x08
  else if k = 0 ∧ !s.boot.post ∧ (RedDesc.dest d % 16 ≠ 0 ∨ !s.ctxValid (RedDesc.ctx d)) then 0x09
  else if descReserved d s.boot.post then 0x0A
  else if k = 2 ∧ (RedDesc.srcFmt d > 10 ∨ (RedDesc.srcFvar d ≠ 0 ∧ RedDesc.srcFmt d ≠ 10)) then 0x0B
  else if n = 0xFFF then 0x0C
  else 0

/-- Report a command's outcome. -/
def State.redCode (s : State) (code : Nat) : State :=
  (s.wr (Page.red 0) Reg.RED_DESC_STATUS.CODE code).wr (Page.red 0) Reg.RED_DESC_STATUS.DONE 1

/-- RED_DESC_WRITE. -/
def State.opDescWrite (s : State) : State :=
  let n := s.redSel
  let d := s.redWin
  let code := s.descCode n d
  if code = 0 then ({ s with red := { s.red with desc := SMap.put s.red.desc (List.replicate 8 0) n d } }).redCode 0
  else (s.redCode code).err (Page.red 0) Err.red.DESC_REFUSED { detail := code }

def execRedDescWrite (p : Party) (s : State) : Res := s.action p (Page.red 0) State.opDescWrite

/-- RED_DESC_READ. -/
def State.opDescRead (s : State) : State :=
  if s.redSel = 0xFFF then s.redCode 0x0C else
  let d := s.desc s.redSel
  let s := (List.range 16).foldl (fun s k =>
    s.wr (Page.red 0) Reg.RED_DESC_WINw.DATA (RedDesc.w d (k / 2) / 2 ^ (32 * (k % 2)) % 2 ^ 32) k) s
  s.redCode 0

def execRedDescRead (p : Party) (s : State) : Res := s.action p (Page.red 0) State.opDescRead

/-- RED_DESC_INVALIDATE (R158, R160). DESIGN CHOICE (log entry of the refused commands): a refused INVALIDATE sets DESC_REFUSED as a refused
WRITE does; a refused READ or RESET_ROOT shows its code and sets no bit. -/
def State.opDescInvalidate (s : State) : State :=
  let n := s.redSel
  if n = 0xFFF then (s.redCode 0x0C).err (Page.red 0) Err.red.DESC_REFUSED { detail := 0x0C }
  else if s.descInUse n then (s.redCode 0x07).err (Page.red 0) Err.red.DESC_REFUSED { detail := 0x07 }
  else
    let d := s.desc n
    let d0 := BitVec.ofNat 64 (RedDesc.w d 0 - b2n (RedDesc.valid d))
    ({ s with red := { s.red with desc := SMap.put s.red.desc (List.replicate 8 0) n (d0 :: d.drop 1) } }).redCode 0

def execRedDescInvalidate (p : Party) (s : State) : Res := s.action p (Page.red 0) State.opDescInvalidate

/-- RESET_ROOT (R167): open instances close as FAILED and their signals are applied; a Post root drops what waits. -/
def State.opResetRoot (s : State) : State :=
  let n := s.redSel
  if n = 0xFFF then s.redCode 0x0C else
  let r := s.root n
  let gone := if s.boot.post then r.insts else r.open_
  let s := s.setRoot n { r with insts := r.insts.filter fun i => !gone.contains i, owe := [], stalled := false }
  let s := s.add (Page.red 0) Reg.RED_INCOMPLETE.COUNT r.open_.length
  (r.open_.foldl (fun s i => s.applyHeldSigs i 6) s).redCode 0

def execResetRoot (p : Party) (s : State) : Res := s.action p (Page.red 0) State.opResetRoot

/-- DEADLINE_US of a root, 0 for none (R159). -/
def RedDesc.deadline (d : RedDesc) : Nat := bits (RedDesc.w d 1) 48 16

/-- INSTANCE_DEADLINE (R159, R166): INCOMPLETE, with the contributors not heard from on the owe list; a root without a deadline has none. -/
def execInstanceDeadline (root index : Nat) (s : State) : Res :=
  guarded (s.serving && RedDesc.deadline (s.desc root) != 0) s fun s =>
    match (s.root root).open_.find? fun i => i.index == index with
    | none => s
    | some i =>
      let owe := (s.contributors root).filter fun c => !i.got.contains c
      let s := s.failInst root i .incomplete 7
      let r := s.root root
      (s.setRoot root { r with owe := r.owe ++ owe }).err (Page.red 0) Err.red.INCOMPLETE

/-- RESULT_WRITE_DONE (R168): the held signals are applied; a poisoned result's carry POISON; the staging is freed. -/
def execResultWriteDone (root index : Nat) (s : State) : Res :=
  guarded s.mount s fun s =>
    match (s.root root).insts.find? fun i => i.index == index && i.writing with
    | none => s
    | some i => (s.dropInst root index).applyHeldSigs i (if i.recs.any (·.poison) then 1 else 0)

end Sys2Proof.Machine
end

