-- ==== Sys2Proof/Machine/GaitLoad.lean ====
section
/-! DEFINITION. Gait images and bank swaps: the image layout (R88 to R90), the checks of a load (R91), arming (R92), the swap's states
(R93), and the GAIT_LOAD packet (R318, R319). -/

namespace Sys2Proof.Machine

/-! ### CRC-32C -/

/-- One bit of the reflected CRC-32C. -/
def crcBit (c : Nat) : Nat := if c % 2 = 1 then Nat.xor (c / 2) 0x82F63B78 else c / 2

/-- CRC-32C of bytes. -/
def crc32c (l : List Byte) : Nat :=
  Nat.xor (l.foldl (fun c b => (List.range 8).foldl (fun c _ => crcBit c) (Nat.xor c b.toNat)) 0xFFFFFFFF) 0xFFFFFFFF

/-! ### Layout -/

/-- A 32-bit word of an image. -/
def imgW (l : List Byte) (off : Nat) : Nat := ofLe (slice l off 4)

/-- The stride at an offset of an image (R89). -/
def strideOf (l : List Byte) (off : Nat) : Stride :=
  let w0 := ofLe (slice l off 8)
  let w1 := ofLe (slice l (off + 8) 8)
  let w2 := ofLe (slice l (off + 16) 8)
  { start := bits w0 0 23, dur := bits w0 24 23, cls := bits w0 48 2, rx := bit w0 50, carry := bit w0 51, sig := bit w0 52,
    guard_ := bits w0 56 8, frames := bits w1 0 16, fpf := bits w1 16 4, lastFlits := bits w1 20 4, slack := bits w1 24 12,
    desc := bits w1 36 12, srcKind := bits w2 0 1, src := bits w2 4 13, peer := bits w2 20 15, bad := false }

/-- STRIDE_COUNT and SPARE_COUNT. -/
def imgStrides (l : List Byte) : Nat := bits (imgW l 4) 16 13
def imgSpares (l : List Byte) : Nat := bits (imgW l 0x0C) 0 10

/-- The length that a header implies. -/
def imgLen (l : List Byte) : Nat := 64 + 24 * imgStrides l + 4 * imgSpares l

/-- A spare-map entry (R90). -/
def spareOf (l : List Byte) (off : Nat) : Nat × Nat × Nat := let v := imgW l off; (bits v 0 5, bits v 5 12, bits v 17 12)

/-- The image that bytes spell. -/
def imageOf (l : List Byte) : GaitImage :=
  let n := imgStrides l
  { port := bits (imgW l 4) 8 6, period := bits (imgW l 8) 0 23, guardDef := bits (imgW l 8) 24 8, rank := bits (imgW l 0x0C) 16 15,
    gaitId := imgW l 0x10, jobId := imgW l 0x14, cableRtt := imgW l 0x18,
    strides := (List.range n).map fun i => strideOf l (64 + 24 * i)
    spares := (List.range (imgSpares l)).map fun i => spareOf l (64 + 24 * n + 4 * i) }

/-! ### The checks of a load -/

/-- Is some byte of a range nonzero? -/
def anySet (l : List Byte) (off n : Nat) : Bool := (slice l off n).any (· != 0)

/-- RESERVED of the header (R91, 0x09). -/
def hdrReserved (l : List Byte) : Bool :=
  bit (imgW l 4) 15 || bits (imgW l 4) 29 3 != 0 || bit (imgW l 8) 23 || bits (imgW l 0x0C) 10 6 != 0 || bit (imgW l 0x0C) 31
    || anySet l 0x1C 32

/-- RESERVED of the stride at an offset. -/
def strideReserved (l : List Byte) (off : Nat) (post : Bool) : Bool :=
  let w0 := ofLe (slice l off 8)
  let w1 := ofLe (slice l (off + 8) 8)
  let w2 := ofLe (slice l (off + 16) 8)
  let d := strideOf l off
  bit w0 23 || bit w0 47 || bits w0 53 3 != 0 || bits w1 48 16 != 0 || bits w2 1 3 != 0 || bits w2 17 3 != 0 || bits w2 35 29 != 0
    || (post && d.cls == 3 && (d.srcKind != 0 || d.rx)) || (post && d.rx && (d.srcKind != 0 || d.src != 0))
    || (!post && d.cls < 2 && d.peer ≥ 24576)

/-- Flits of a stride. -/
def Stride.flits (d : Stride) : Nat := (d.frames - 1) * (d.fpf + 1) + (d.lastFlits + 1)

/-- R87 for a hard or firm stride. -/
def fitsWire (dur guard flits frames : Nat) : Bool := guard ≤ dur && (128 * flits + 16 * frames) * 64 ≤ (dur - guard) * 6300

/-- CAPACITY (0x0C). -/
def badCapacity (g : GaitImage) (d : Stride) : Bool :=
  (d.cls < 2 && (d.frames == 0 || !fitsWire d.dur (g.guardOf d) d.flits d.frames)) || (d.cls ≥ 2 && d.frames != 0)
    || (d.guard_ != 0 && d.guard_ < 4) || (d.cls == 2 && d.slack != 0) || d.dur < g.guardOf d

/-- SOURCE (0x0D). -/
def State.badSource (s : State) (d : Stride) : Bool :=
  if s.boot.post then !d.rx && (if d.srcKind = 0 then d.src / 64 != 0 || d.src ≥ s.ports else d.src != 0)
  else d.srcKind == 1 && d.src ≥ 256

/-- The strides of one direction with their indices. -/
def GaitImage.dirStrides (g : GaitImage) (rx : Bool) : List (Stride × Nat) := g.strides.zipIdx.filter fun e => e.1.rx == rx

/-- The first index of a direction whose stride starts before its predecessor (0x0A). -/
def firstDisorder : List (Stride × Nat) → Option Nat
  | a :: b :: r => if b.1.start < a.1.start then some b.2 else firstDisorder (b :: r)
  | _ => none

/-- DESIGN CHOICE (log entry of INDEX in GAIT_LOAD_STATUS): for ORDER and OVERLAP, INDEX names the later stride of the pair, and of both directions'
findings the smaller index. The first index of a direction whose footprint meets its successor's or passes the period's end (0x0B). -/
def firstOverlap (period : Nat) : List (Stride × Nat) → Option Nat
  | a :: b :: r => if a.1.start + a.1.dur + a.1.slack > b.1.start then some b.2 else firstOverlap period (b :: r)
  | [a] => if a.1.start + a.1.dur + a.1.slack > period then some a.2 else none
  | [] => none

/-- The smaller of two found indices. -/
def orMin (a b : Option Nat) : Option Nat :=
  match a, b with
  | some x, some y => some (min x y)
  | some x, none => some x
  | none, y => y

/-- SPARE (0x0E): the first bad entry. -/
def State.badSpare (s : State) (g : GaitImage) : Option Nat :=
  if s.boot.post then (if g.spares.isEmpty then none else some 0) else
  g.spares.findIdx? fun e => ((g.strides[e.2.1]?).map fun d => d.cls != 3).getD true || e.1 == g.port || e.1 ≥ s.ports

/-- The checks that the header alone decides, MAGIC, VERSION and the implied length against BYTES, in their order; 0 when the load goes on
(R91). -/
def State.headCode (s : State) (l : List Byte) (avail : Nat) : Nat :=
  if imgW l 0 ≠ 0x44475431 then 1
  else if imgW l 4 % 256 ≠ s.rd Page.ver Reg.VER_FORMATS.GAIT then 2
  else if imgLen l > avail then 7
  else 0

/-- Does the CRC over the implied length match (R88, R91)? -/
def crcMatches (l : List Byte) : Bool := crc32c (l.take 0x3C ++ List.replicate 4 0 ++ slice l 64 (imgLen l - 64)) == imgW l 0x3C

/-- The first failing check of a load and the index it names; 0 when the image is accepted (R91). -/
def State.loadCode (s : State) (port : Nat) (l : List Byte) (avail : Nat) : Nat × Nat :=
  let g := imageOf l
  let n := imgStrides l
  let at_ := fun (code : Nat) (o : Option Nat) => o.map fun i => (code, i)
  let find := fun (code : Nat) (f : Nat → Bool) => at_ code ((List.range n).find? f)
  let stride := fun i => strideOf l (64 + 24 * i)
  if s.headCode l avail ≠ 0 then (s.headCode l avail, 0)
  else if !crcMatches l then (3, 0)
  else if g.port ≠ port ∨ !s.portUp port then (4, 0)
  else if bit (imgW l 4) 14 != s.boot.post then (5, 0)
  else if (s.boot.post == false && s.trust.join.isNone) ∨ s.ownId ≠ some g.rank then (6, 0)
  else if n > 4096 ∨ imgSpares l > 512 then (7, 0)
  else if g.period < 2000 ∨ g.period > 8000000 ∨ g.guardDef < 4 then (8, 0)
  else if hdrReserved l then (9, 0)
  else
    let spareRsvd := (List.range (imgSpares l)).find? fun i => imgW l (64 + 24 * n + 4 * i) / 2 ^ 29 != 0
    ((find 9 (fun i => strideReserved l (64 + 24 * i) s.boot.post)).or (at_ 9 spareRsvd)
      |>.or (at_ 0x0A (orMin (firstDisorder (g.dirStrides false)) (firstDisorder (g.dirStrides true))))
      |>.or (at_ 0x0B (orMin (firstOverlap g.period (g.dirStrides false)) (firstOverlap g.period (g.dirStrides true))))
      |>.or (find 0x0C fun i => badCapacity g (stride i))
      |>.or (find 0x0D fun i => s.badSource (stride i))
      |>.or (at_ 0x0E (s.badSpare g))
      |>.or (if s.swapState ≠ 0 then some (0x0F, 0) else none)).getD (0, 0)

/-! ### Banks -/

/-- The banks of a port. -/
def State.banks (s : State) (n : Nat) : Banks := SMap.getD s.gait.banks { a := none, b := none } n

/-- The bank in force: true for B. -/
def State.bankB (s : State) (n : Nat) : Bool := s.rdb Page.gait Reg.GAIT_PORTn_STATE.ACTIVE_BANK n

/-- The image in a port's inactive bank. -/
def State.newImage (s : State) (n : Nat) : Option GaitImage := if s.bankB n then (s.banks n).a else (s.banks n).b

/-- Put an image into a port's inactive bank, or empty it. -/
def State.setNewImage (s : State) (n : Nat) (g : Option GaitImage) : State :=
  let b := s.banks n
  let b := if s.bankB n then { b with a := g } else { b with b := g }
  ({ s with gait := { s.gait with banks := SMap.put s.gait.banks { a := none, b := none } n b } }).wr Page.gait
    Reg.GAIT_PORTn_STATE.INACTIVE_LOADED (b2n g.isSome) n

/-- The outcome of a load (R91): the bank and GAIT_LOAD_STATUS. A refused load empties the bank, unless a swap holds it. -/
def State.finishLoad (s : State) (p port : Nat) (l : List Byte) (avail : Nat) : State :=
  let r := s.loadCode port l avail
  let pg := Page.gait
  let s := (((s.wr pg Reg.GAIT_LOAD_STATUS.PORT port).wr pg Reg.GAIT_LOAD_STATUS.BANK (b2n (!s.bankB port))).wr pg Reg.GAIT_LOAD_STATUS.OK
    (b2n (r.1 == 0))).wr pg Reg.GAIT_LOAD_STATUS.REFUSE r.1
  let s := s.wr pg Reg.GAIT_LOAD_STATUS.INDEX r.2
  if r.1 = 0 then (s.setNewImage port (some (imageOf l))).kres p 0
  else
    let s := if s.swapState = 0 then s.setNewImage port none else s
    (s.err pg Err.gait.LOAD_REFUSED { place := port, placeKind := 5, detail := r.1 }).kres p r.1

/-- The header is read: the load is refused by it, or the image is whole, or the implied length is still to be read. -/
def State.headDecides (s : State) (l : List Byte) (avail : Nat) : Bool := s.headCode l avail != 0 || imgLen l ≤ l.length

/-- GAIT_LOAD (R91, R318): the header is read first, then the implied length and no byte beyond it; a Mount block reads memory as host software on
the PF would, a Post block the host. -/
def State.opGaitLoad (p : Nat) (x : Pkt) (s : State) : State :=
  let port := x.f 8 1 % 64
  let len := x.f 24 4
  if len = 0 then s.finishLoad p port [] 0
  else if s.boot.post then s.hostRead 0 (x.f 16 8) (min len 64) Use.IMAGE p
  else match s.localOff (x.f 16 8) with
    | none => s.finish p St.BAD_HANDLE 16
    | some off =>
      let h := s.readAs Master.pf off (min len 64)
      if h.status ≠ St.OK then h.st.finish p h.status
      else if h.st.headDecides h.data len then h.st.finishLoad p port h.data len
      else
        let a := h.st.readAs Master.pf off (imgLen h.data)
        if a.status = St.OK then a.st.finishLoad p port a.data len else a.st.finish p a.status

/-- The host has answered a read of a Post block's load (R91, R319): its header, or the image. -/
def State.imageGot (s : State) (p : Nat) (x : Pkt) (ok : Bool) (l : List Byte) : State :=
  if !ok then s.finish p St.NO_RESPONSE
  else if 64 < l.length || s.headDecides l (x.f 24 4) then s.finishLoad p (x.f 8 1 % 64) l (x.f 24 4)
  else s.hostRead 0 (x.f 16 8) (imgLen l) Use.IMAGE p

def execGaitLoad (p : Nat) (s : State) : Res := s.perform p 0x61 (State.opGaitLoad p)

/-! ### Arming (R92) -/

/-- The ports with an image in the inactive bank. -/
def State.newPorts (s : State) : List (Nat × GaitImage) := (List.range s.ports).filterMap fun n => (s.newImage n).map fun g => (n, g)

/-- Intake units of a receive stride (R99). -/
def State.unitsFor (s : State) (d : Stride) : Nat :=
  if d.rx && d.desc != 0xFFF then (if (RedDesc.nset (s.desc d.desc)).fmt = 1 then 8 else 1) else 0

/-- The reduce load of the new gait at instant `t`. -/
def State.loadAt (s : State) (imgs : List (Nat × GaitImage)) (t : Nat) : Nat :=
  (imgs.map fun e => ((e.2.strides.filter fun d => d.start ≤ t && t < d.start + d.dur + d.slack).map s.unitsFor).foldl (· + ·) 0).foldl (· + ·) 0

/-- The largest reduce load of the new gait: it is reached at some stride's start. -/
def State.peakUnits (s : State) (imgs : List (Nat × GaitImage)) : Nat :=
  (imgs.flatMap fun e => e.2.strides.map fun d => s.loadAt imgs d.start).foldl max 0

/-- Is a new spare-map entry wrong (R92, code 7)? -/
def State.badCover (s : State) (g : GaitImage) (e : Nat × Nat × Nat) : Bool :=
  match s.newImage e.1 with
  | none => true
  | some h =>
    match h.strides[e.2.2]?, g.strides[e.2.1]? with
    | some c, some d => c.cls != 0 || c.rx || !fitsWire d.dur (g.guardOf d) c.flits c.frames
    | _, _ => true

/-- GAIT_SWAP_DT. -/
def State.swapDt (s : State) : Nat := s.rdPair Page.gait Reg.GAIT_SWAP_DT_LO.NS Reg.GAIT_SWAP_DT_HI.NS

/-- The first failure of an arm; 0 when accepted. -/
def State.armCode (s : State) : Nat :=
  let imgs := s.newPorts
  let dt := s.swapDt
  match imgs with
  | [] => 1
  | (_, g0) :: _ =>
    if s.upPorts.any (fun n => (s.newImage n).isNone) ∨ imgs.any (fun e => e.2.gaitId != g0.gaitId || e.2.period != g0.period) then 1
    else if dt % g0.period ≠ 0 ∨ (s.activePeriod ≠ 0 ∧ dt % s.activePeriod ≠ 0) then 2
    else if dt < s.dtNs + 50000 ∨ dt > s.dtNs + 10000000000 then 3
    else if imgs.any (fun e => !e.2.strides.isEmpty && (!s.calOk e.1 || decide ((s.cableOf e.1 - (e.2.cableRtt : Int)).natAbs > e.2.guardDef * 128))) then 4
    else if s.peakUnits imgs > s.rd Page.gait Reg.GAIT_RED_UNITS.MAX then 5
    else if s.timeState = 0 then 6
    else if imgs.any (fun e => e.2.spares.any fun x => s.badCover e.2 x) then 7
    else 0

/-- Set SWAP_STATE. -/
def State.setSwap (s : State) (x : Nat) : State := s.wr Page.gait Reg.GAIT_STATUS.SWAP_STATE x

/-- Note what the armed images share: period, identifier, smallest default guard band. -/
def State.noteNew (s : State) (imgs : List (Nat × GaitImage)) : State :=
  { s with gait := { s.gait with
      newPeriod := leastOf (imgs.map fun e => e.2.period), newId := leastOf (imgs.map fun e => e.2.gaitId)
      newGuard := leastOf (imgs.map fun e => e.2.guardDef), newUnits := s.peakUnits imgs } }

/-- ARM (R92, R93). -/
def State.opArm (s : State) : State :=
  if s.swapState ≠ 0 then s else
  let code := s.armCode
  if code ≠ 0 then (s.wr Page.gait Reg.GAIT_CTRL.ARM 0).wr Page.gait Reg.GAIT_STATUS.ARM_REFUSE code
  else
    let s := s.noteNew s.newPorts
    let s := ((s.wr Page.gait Reg.GAIT_CTRL.ARM 1).setSwap 1).redShort
    if s.hostMode 2 then s.haPost 2 else s

def execArm (p : Party) (s : State) : Res := s.action p Page.gait State.opArm

/-- ARM_CLEAR (R93): an unanswered request goes with the arm. -/
def State.opArmClear (s : State) : State :=
  if s.swapState = 2 then s else
  let s := s.wr Page.gait Reg.GAIT_CTRL.ARM 0
  if s.swapState = 1 then (if s.haPending 2 then s.haClear 2 else s).setSwap 0 else s

def execArmClear (p : Party) (s : State) : Res := s.action p Page.gait State.opArmClear

/-- GO (R93). -/
def execGo (p : Party) (s : State) : Res :=
  s.action p Page.gait fun s => if s.swapState = 1 ∧ s.haPending 2 then s.assisted (.go p) fun s => (s.haClear 2).setSwap 2 else s

/-- Show whether any port's bank is active. -/
def State.showActive (s : State) : State :=
  s.wr Page.gait Reg.GAIT_STATUS.ANY_ACTIVE (b2n ((List.range s.ports).any fun n => s.rdb Page.gait Reg.GAIT_PORTn_STATE.ACTIVE n))

/-- SWAP_COMMIT_POINT (R93, R62). -/
def execSwapCommitPoint (s : State) : Res :=
  guarded (s.serving && s.swapState == 1) s fun s =>
    (if s.haPending 2 then (s.haClear 2).fallback 2 else s).setSwap 2

/-- One port flips: the new image becomes active when it has a stride; a port without one has no active bank. -/
def State.flipPort (s : State) (n : Nat) : State :=
  let pg := Page.gait
  match s.newImage n with
  | none => (s.wr pg Reg.GAIT_PORTn_STATE.ACTIVE 0 n)
  | some g =>
    let old := if s.bankB n then (s.banks n).b else (s.banks n).a
    let s := s.wr pg Reg.GAIT_PORTn_STATE.ACTIVE_BANK (b2n (!s.bankB n)) n
    let s := (s.wr pg Reg.GAIT_PORTn_STATE.ACTIVE (b2n (!g.strides.isEmpty)) n).wr pg Reg.GAIT_PORTn_STATE.INACTIVE_LOADED (b2n old.isSome) n
    (s.wr pg Reg.GAIT_PORTn_STATE.NEXT ((g.strides.findIdx? fun d => !d.rx).getD 0) n).wr pg Reg.GAIT_PORTn_STATE.COVERING 0 n

end Sys2Proof.Machine
end

