-- ==== Sys2Proof/Machine/Fabric.lean ====
section
/-! DEFINITION. The memory-semantic fabric of a Mount block: direct and sync requests at the requester and at the home (R183 to R190),
ownership tokens (R200, R201), and gateway streams at the source and at the destination (R191 to R194). -/

namespace Sys2Proof.Machine

/-! ### Planes (R189, R191) -/

/-- CRC-32C of bytes from a given start. -/
def crc32cFrom (init : Nat) (l : List Byte) : Nat :=
  Nat.xor (l.foldl (fun c b => (List.range 8).foldl (fun c _ => crcBit c) (Nat.xor c b.toNat)) init) 0xFFFFFFFF

/-- The plane of a sync request. -/
def State.syncPlane (s : State) (addr : Nat) : Option Nat :=
  let u := s.usablePlanes
  u[crc32cFrom (s.rd Page.gw Reg.GW_SYNC_SEED.SEED) (leBytes 8 (addr / 64 * 64)) % u.length]?

/-- The plane of fragment `k` of a gateway operation. -/
def State.bulkPlane (s : State) (ctx dst sseq k : Nat) : Option Nat :=
  let u := s.usablePlanes
  u[(kh s.mem.plKey (ctx * 2 ^ 47 + dst * 2 ^ 32 + sseq) + k) % u.length]?

/-! ### Requests of this block (R185, R188 to R190) -/

/-- A request record (R185). -/
def reqBytes (r : RmtReq) : List Byte :=
  let len8 := if r.op ≤ 2 then r.len / 8 - 1 else 0
  let data := if r.op = 2 then slice r.data 0 ((r.len + 31) / 32 * 32) else []
  leBytes 8 (r.op + len8 % 32 * 2 ^ 8 + b2n r.fetch * 2 ^ 13 + b2n r.ordered * 2 ^ 14 + r.ctx % 4096 * 2 ^ 16 + r.tag % 65536 * 2 ^ 32)
    ++ leBytes 8 r.addr ++ leBytes 8 r.opnd0 ++ leBytes 8 r.opnd1 ++ data

/-- Outstanding requests: those that have left (R190). -/
def State.outReqs (s : State) : List RmtReq := s.fab.reqs.filter (·.sent)

/-- Gateway operations at this source. -/
def State.srcOps (s : State) : Nat := (s.fab.srcs.map fun e => e.2.ops.length).foldl (· + ·) 0

/-- A block that a stop has stopped originates no new loose or gateway request (R229); what is due waits until its gait runs again (R230). -/
def State.mute (s : State) : Bool := s.sync.gaitStopped

/-- Show the counts of the GW page (R205). -/
def State.showGw (s : State) : State :=
  let p := Page.gw
  (((s.wr p Reg.GW_DIRECT_OUT.COUNT s.outReqs.length).wr p Reg.GW_SRC_OPS.COUNT s.srcOps).wr p Reg.GW_DST_STREAMS.COUNT
    s.fab.dsts.length).wr p Reg.GW_STATUS.DRAINING (b2n s.fab.draining)

/-- Put a request on its plane; without a usable plane it is lost, and times out. -/
def State.launchReq (s : State) (r : RmtReq) : State :=
  let plane := if r.sync then s.syncPlane r.addr else s.directPlane r.dst r.addr
  let s := s.addCtr r.ctx 10 (if r.op = 2 then r.len else 0)
  match plane with
  | some p => s.queueLoose p (s.looseFrame (if r.sync then 3 else 0) r.share r.dst (reqBytes r)) r.fn
  | none => s

/-- May request `r` leave, with `before` the requests issued earlier and still open (R188)? -/
def mayLeave (before : List RmtReq) (r : RmtReq) : Bool :=
  if r.ordered then before.all fun e => e.ctx != r.ctx
  else before.all fun e => e.ctx != r.ctx || e.dst != r.dst || e.addr / 256 != r.addr / 256 || (e.sent && !e.sync && !r.sync)

/-- Let held requests go, in issue order (R188, R189). -/
def State.releaseReqs (s : State) : State :=
  if s.fab.draining || s.mute then s.showGw else
  let r := s.fab.reqs.foldl (fun (a : List RmtReq × State) r =>
    if !r.sent && mayLeave a.1 r then
      let r := { r with sent := true, at_ := s.now }
      (a.1 ++ [r], a.2.launchReq r)
    else (a.1 ++ [r], a.2)) ([], s)
  ({ r.2 with fab := { r.2.fab with reqs := r.1 } }).showGw

/-- A tag not in use and not in quarantine; tag 0 is left out, so that a zero record ends a frame of responses. -/
def State.freeTag (s : State) : Nat :=
  let used := s.fab.reqs.map (·.tag) ++ s.fab.quarantine
  ((List.range 65535).map fun k => (s.fab.nextTag + k) % 65535 + 1).find? (fun t => !used.contains t) |>.getD 1

/-- Issue a request. -/
def State.issueReq (s : State) (r : RmtReq) : State :=
  let t := s.freeTag
  ({ s with fab := { s.fab with nextTag := t % 65535, reqs := s.fab.reqs ++ [{ r with tag := t, sent := false, at_ := s.now }] } }).releaseReqs

/-- A request ends: it is answered at its compute port (R186, R444), and what it held back may go. -/
def State.endReq (s : State) (r : RmtReq) (status : Nat) (data : List Byte) (poison : Nat) : State :=
  let s := { s with fab := { s.fab with reqs := s.fab.reqs.filter fun x => x.tag != r.tag } }
  (s.dcpAnswer r.port r.dcpTag r.gen status data poison).releaseReqs

/-- RSP (R186, R190). -/
def State.opRsp (src tag status : Nat) (data : List Byte) (poison : Nat) (s : State) : State :=
  match s.fab.reqs.find? fun r => r.sent && r.tag == tag && r.dst == src with
  | none => s.inc Page.gw Reg.GW_STALE_COUNT.COUNT
  | some r =>
    let ok := status = St.OK ∨ status = St.POISON ∨ status = 0x09
    let d := if r.op = 1 && ok then slice data 0 r.len else if r.op > 2 && r.op < 0x30 && status == St.OK && returnsOld r.op r.fetch then slice data 0 8 else []
    (s.addCtr r.ctx 11 d.length).endReq r status d poison
def execRsp (src tag status : Nat) (data : List Byte) (poison : Nat) (s : State) : Res :=
  guarded s.mount s (State.opRsp src tag status data poison)

/-- REMOTE_TIMEOUT (R190): NO_RESPONSE, and the tag is kept back. -/
def State.opRemoteTimeout (tag : Nat) (s : State) : State :=
  match s.fab.reqs.find? fun r => r.sent && r.tag == tag with
  | none => s
  | some r =>
    let s := (s.inc Page.gw Reg.GW_TIMEOUT_COUNT.COUNT).err Page.gw Err.gw.RMT_TIMEOUT { ctx := some r.ctx, fn := r.fn }
    ({ s with fab := { s.fab with quarantine := s.fab.quarantine ++ [tag] } }).endReq r St.NO_RESPONSE [] 0
def execRemoteTimeout (tag : Nat) (s : State) : Res := guarded s.mount s (State.opRemoteTimeout tag)

/-- TAG_QUARANTINE_END (R190). -/
def execTagQuarantineEnd (tag : Nat) (s : State) : Res :=
  guarded s.mount s fun s => { s with fab := { s.fab with quarantine := s.fab.quarantine.filter (· != tag) } }

/-- PLANE_SET_CHANGE (R189). -/
def State.opPlaneSet (s : State) : State :=
  if s.usablePlanes = s.fab.planes then s else
  let s := { s with fab := { s.fab with planes := s.usablePlanes, draining := !s.outReqs.isEmpty } }
  (s.err Page.gw Err.gw.DRAIN).releaseReqs
def execPlaneSetChange (s : State) : Res := guarded s.mount s State.opPlaneSet

/-- DRAIN_COMPLETE (R189). -/
def execDrainComplete (s : State) : Res :=
  guarded (s.mount && s.fab.draining && s.outReqs.isEmpty) s fun s => ({ s with fab := { s.fab with draining := false } }).releaseReqs

/-! ### The home (R184, R187, R200, R201) -/

/-- The fault of a load, store or atomic at an address, as a status; 0 for none: alignment and the 256-byte boundary (R185, R186). -/
def shapeStatus (op addr len : Nat) : Nat :=
  if op ≤ 2 then (if addr % 8 ≠ 0 ∨ addr % 256 + len > 256 then St.ALIGN else 0)
  else if addr % atomBytes op ≠ 0 then St.UNSUPPORTED else 0

/-- The token of entry `n` is passed, or not (R201): a status. -/
def State.giveToken (s : State) (n rank opnd0 : Nat) : Nat × State :=
  let p := Page.gw
  let g := s.rd p Reg.GW_TOKENn.GEN n
  if s.rd p Reg.GW_TOKENn.OWNER n = rank ∧ bits opnd0 16 16 = g ∧ bits opnd0 0 15 < 24576 then
    (St.OK, (s.wr p Reg.GW_TOKENn.OWNER (bits opnd0 0 15) n).wr p Reg.GW_TOKENn.GEN ((g + 1) % 65536) n)
  else (0x03, s)

/-- Pass a token (R201) as a master: a status. Address and rights come first (R187, R248), the right being that of an atomic; whether the
requester is OWNER is the pass's own rule. -/
def State.passToken (s : State) (m : Master) (rank addr opnd0 : Nat) : Nat × State :=
  match s.localOff addr with
  | none => (St.BAD_ADDRESS, s)
  | some off =>
    match s.checkAt m 2 off with
    | none => s.giveToken (((s.ratFind off).map Prod.fst).getD 0) rank opnd0
    | some (5, n) => s.giveToken n rank opnd0
    | some (step, e) => (stepStatus step, s.refuse m 2 step e off)

/-- The access that a request record asks for at its home (R185). -/
def homeAcc (op off : Nat) (r : RmtRec) : HeldAcc :=
  { cls := 5, fn := 0, ctx := r.ctx, share := r.share, rank := r.src, off := off, op := op, len := r.len
    data := slice r.data 0 r.len, strb := 2 ^ r.len - 1, opnd0 := r.opnd0.toNat, opnd1 := r.opnd1.toNat, fetch := r.fetch
    reply := .rmt r.src r.tag r.port r.share }

/-- Perform a request record at its home (R187): address, shape, then rights, token, coherence and the operation. -/
def State.homeReq (s : State) (op : Nat) (r : RmtRec) : State :=
  let rep := Reply.rmt r.src r.tag r.port r.share
  let refuse := fun (s : State) (st : Nat) => (s.countHome rep st).answer rep st [] 0
  match s.localOff r.addr with
  | none => refuse s St.BAD_ADDRESS
  | some off =>
    if s.memOpen && decide (s.capacity ≤ off) then refuse s St.BAD_ADDRESS
    else
      let st := shapeStatus op off r.len
      if st ≠ 0 then refuse s st
      else s.doAccess (homeAcc op off r)

/-- The commands of R184 at the home. -/
def execRmtLd (r : RmtRec) (s : State) : Res := guarded s.mount s fun s => s.homeReq 0x01 r
def execRmtSt (r : RmtRec) (s : State) : Res := guarded s.mount s fun s => s.homeReq 0x02 r
/-- The code of an atomic of 8 or 4 bytes. -/
def atomCode (k : Nat) (four : Bool) : Nat := (if four then 0x20 else 0x10) + k
def execRmtAdd (r : RmtRec) (four : Bool) (s : State) : Res := guarded s.mount s fun s => s.homeReq (atomCode 0 four) r
def execRmtSwap (r : RmtRec) (four : Bool) (s : State) : Res := guarded s.mount s fun s => s.homeReq (atomCode 1 four) r
def execRmtCas (r : RmtRec) (four : Bool) (s : State) : Res := guarded s.mount s fun s => s.homeReq (atomCode 2 four) r
def execRmtSmin (r : RmtRec) (four : Bool) (s : State) : Res := guarded s.mount s fun s => s.homeReq (atomCode 3 four) r
def execRmtSmax (r : RmtRec) (four : Bool) (s : State) : Res := guarded s.mount s fun s => s.homeReq (atomCode 4 four) r
def execRmtUmin (r : RmtRec) (four : Bool) (s : State) : Res := guarded s.mount s fun s => s.homeReq (atomCode 5 four) r
def execRmtUmax (r : RmtRec) (four : Bool) (s : State) : Res := guarded s.mount s fun s => s.homeReq (atomCode 6 four) r
def execRmtAnd (r : RmtRec) (four : Bool) (s : State) : Res := guarded s.mount s fun s => s.homeReq (atomCode 7 four) r
def execRmtOr (r : RmtRec) (four : Bool) (s : State) : Res := guarded s.mount s fun s => s.homeReq (atomCode 8 four) r
def execRmtXor (r : RmtRec) (four : Bool) (s : State) : Res := guarded s.mount s fun s => s.homeReq (atomCode 9 four) r

/-- TOKEN_PASS at the home (R201). -/
def State.homeToken (s : State) (r : RmtRec) : State :=
  let rep := Reply.rmt r.src r.tag r.port r.share
  let x := s.passToken (Master.remote r.src r.share) r.src r.addr r.opnd0.toNat
  (x.2.countHome rep x.1).answer rep x.1 [] 0
def execRmtTokenPass (r : RmtRec) (s : State) : Res := guarded s.mount s fun s => s.homeToken r

/-- A record with an unknown OP (R184). -/
def State.homeUnknown (s : State) (r : RmtRec) : State :=
  let rep := Reply.rmt r.src r.tag r.port r.share
  (s.countHome rep St.UNSUPPORTED).answer rep St.UNSUPPORTED [] 0
def execRmtUnsupported (r : RmtRec) (_op : Nat) (s : State) : Res := guarded s.mount s fun s => s.homeUnknown r

/-! ### Gateway frames (R191) -/

/-- Bytes of a fragment. -/
def fragBytes : Nat := 4032

/-- A bulk frame's payload. -/
def bulkBytes (bop ctx epoch sseq addr total frag tag status aop : Nat) (ordered : Bool) (sig : Option Nat) (o0 o1 : Nat) (data : List Byte) :
    List Byte :=
  leBytes 8 (bop + ctx % 4096 * 2 ^ 8 + epoch % 256 * 2 ^ 20 + sseq % 2 ^ 32 * 2 ^ 32) ++ leBytes 8 addr
    ++ leBytes 8 (total % 2 ^ 32 + frag % 65536 * 2 ^ 32 + (total + 4031) / 4032 % 65536 * 2 ^ 48)
    ++ leBytes 8 (tag % 65536 + status % 256 * 2 ^ 16 + b2n ordered * 2 ^ 24 + b2n sig.isSome * 2 ^ 25 + sig.getD 0 % 4096 * 2 ^ 26)
    ++ leBytes 8 o0 ++ leBytes 8 o1 ++ leBytes 8 aop ++ leBytes 8 0 ++ data

/-- POISON_MAP of a bulk frame from the poison of its data's units: data begins at byte 64. -/
def bulkMap (poison n : Nat) : Nat := (List.range n).foldl (fun m k => if bit poison k then m ||| 2 ^ ((64 + 16 * k) / 256) else m) 0

/-- Send a bulk frame on the plane of its fragment. -/
def State.sendBulk (s : State) (dst share fn ctx sseq k : Nat) (payload : List Byte) (map : Nat := 0) : State :=
  match s.bulkPlane ctx dst sseq k with
  | some p => s.queueLoose p (s.looseFrame 4 share dst payload map) fn
  | none => s

/-- Fragments of an operation: number, first byte, length. -/
def fragsOf (total : Nat) : List (Nat × Nat × Nat) :=
  (List.range ((total + fragBytes - 1) / fragBytes)).map fun k => (k, k * fragBytes, min fragBytes (total - k * fragBytes))

/-! ### The source of a stream (R191 to R194) -/

def streamKey (rank ctx : Nat) : Nat := rank * 4096 + ctx
def State.gwSrc (s : State) (k : Nat) : GwSrc := SMap.getD s.fab.srcs GwSrc.empty k
def State.setSrc (s : State) (k : Nat) (x : GwSrc) : State :=
  ({ s with fab := { s.fab with srcs := SMap.put s.fab.srcs GwSrc.empty k x } }).showGw

/-- Change an operation of a stream. -/
def State.setOp (s : State) (k : Nat) (o : GwOp) : State :=
  let x := s.gwSrc k
  s.setSrc k { x with ops := x.ops.map fun y => if y.seq == o.seq && y.epoch == o.epoch then o else y }

/-- The tag of the request that an operation serves; 0 for a COPY (R191). -/
def GwOp.tag (o : GwOp) : Nat :=
  match o.reply with
  | .dcp _ t _ => t
  | _ => 0

/-- Transmit an operation in full (R191, R193): a put's data is its own or is read from local memory with the context's rights; a refused
read gives the operation its status. -/
def State.sendOp (s : State) (k : Nat) (o : GwOp) : State :=
  let dst := k / 4096
  let ctx := k % 4096
  let sh := (s.gwSrc k).share
  match o.kind with
  | 0 =>
    let a := if o.inline then ({ status := St.OK, data := o.data, poison := o.poison, st := s } : Answer)
      else s.readAs (s.ctxMaster ctx) o.local_ o.len
    if a.status ≠ St.OK ∧ a.status ≠ St.POISON then a.st.setOp k { o with sent := true, result := some (a.status, 0) }
    else
      let s := (fragsOf o.len).foldl (fun s f =>
        let po := a.poison / 2 ^ (f.2.1 / 16) % 2 ^ 252
        s.sendBulk dst sh o.fn ctx o.seq f.1
          (bulkBytes 1 ctx o.epoch o.seq (o.addr + f.2.1) o.len f.1 o.tag 0 0 o.ordered o.sig 0 0 (slice a.data f.2.1 f.2.2)) (bulkMap po 252)) a.st
      (s.addCtr ctx 10 o.len).setOp k { o with sent := true, at_ := s.now }
  | 1 =>
    (s.sendBulk dst sh o.fn ctx o.seq 0 (bulkBytes 2 ctx o.epoch o.seq o.addr o.len 0 o.tag 0 0 o.ordered o.sig 0 0 [])).setOp k
      { o with sent := true, at_ := s.now }
  | _ =>
    (s.sendBulk dst sh o.fn ctx o.seq 0 (bulkBytes 4 ctx o.epoch o.seq o.addr 8 0 o.tag 0 o.op o.ordered none o.opnd0 o.opnd1 [])).setOp k
      { o with sent := true, at_ := s.now }

/-- Put bytes of a stream that have been sent and not acknowledged. -/
def putBytesOut (l : List GwOp) : Nat := ((l.filter fun o => o.kind == 0 && o.sent && o.result.isNone).map (·.len)).foldl (· + ·) 0

/-- Send the operations that the put window lets go, in order (R194). -/
def State.pump (s : State) (k : Nat) : State :=
  if s.mute then s else
  ((s.gwSrc k).ops.filter fun o => !o.sent).foldl (fun s o =>
    let out := putBytesOut (s.gwSrc k).ops
    let earlier := (s.gwSrc k).ops.any fun x => x.kind == 0 && !x.sent && x.seq < o.seq
    if o.kind = 0 && (earlier || (out != 0 && out + o.len > s.rd Page.gw Reg.GW_BULK_CFG.PUT_WINDOW_KIB * 1024)) then s else s.sendOp k o) s

/-- A new operation of a stream. -/
def State.addOp (s : State) (dst ctx share : Nat) (o : GwOp) : State :=
  let k := streamKey dst ctx
  let x := s.gwSrc k
  (s.setSrc k { x with share := share, nextSeq := (x.nextSeq + 1) % 2 ^ 32, ops := x.ops ++ [{ o with epoch := x.epoch, seq := x.nextSeq }] }).pump k

/-- A blank operation. -/
def GwOp.blank : GwOp :=
  { epoch := 0, seq := 0, kind := 0, pkt := none, reply := .none, fn := 0, addr := 0, local_ := 0, host := false, inline := false, len := 0
    data := [], op := 0, fetch := false, opnd0 := 0, opnd1 := 0, ordered := false, sig := none, sent := false, resends := 0, at_ := 0
    frags := [], poison := 0, result := none }

/-- The largest operation (R191). -/
def opMax : Nat := 2 ^ 24

/-- Which side of a COPY is remote: its rank, the global address, and whether the data goes there (R308). -/
def State.copyRemote (s : State) (x : Pkt) : Option (Nat × Nat × Bool) :=
  let fl := x.f 32 4
  match (if bit fl 0 then Dest.bad else s.dest (x.f 8 8)), (if bit fl 1 then Dest.bad else s.dest (x.f 16 8)) with
  | .far r _, .far _ _ => some (r, 0, true)
  | .far r _, _ => some (r, x.f 8 8, false)
  | _, .far r _ => some (r, x.f 16 8, true)
  | _, _ => none

/-- Is a piece of COPY `p` being read from the host? -/
def State.pieceAsked (s : State) (p : Nat) : Bool := s.host.reads.any fun e => e.2.1 == Use.COPY && e.2.2.1 == p

/-- Is there no room for a further gateway operation (R194)? A piece for the gateway that is being read from the host will be one. -/
def State.gwFull (s : State) : Bool :=
  4096 ≤ s.srcOps + (s.host.reads.filter fun e => e.2.1 == Use.COPY && ((s.pkt e.2.2.1).bind s.copyRemote).isSome).length

/-- The next operation of a COPY through the gateway, when the outstanding ones leave room (R194, R308). Data from the host comes by its
own reads. While GW CTRL.EN is 0 the operation completes with BUSY (R205). -/
def State.copyOp (s : State) (p : Nat) : State :=
  match s.pkt p with
  | none => s
  | some x =>
    let len := x.f 24 5
    if x.ended != .none || x.moved ≥ len || s.gwFull || s.mute || x.bad != 0 then s else
    match s.copyRemote x with
    | none => s
    | some (dst, addr, out) =>
      if !s.rdb Page.gw Reg.GW_CTRL.EN then s.setPkt p { x with bad := St.BUSY } else
      let fl := x.f 32 4
      let n := min opMax (len - x.moved)
      let last := x.moved + n ≥ len
      let c := s.pktCtx x
      let loc := if out then x.f 8 8 else x.f 16 8
      let host := if out then bit fl 0 else bit fl 1
      if host && out then s else
      let o := { GwOp.blank with
        kind := if out then 0 else 1, pkt := some p, fn := x.fn, addr := addr + x.moved
        local_ := (if host then loc else (s.localOff loc).getD 0) + x.moved, host := host, len := n, ordered := bit fl 3
        sig := if last && bit fl 2 then some (bits fl 4 12) else none }
      (s.setPkt p { x with moved := x.moved + n, opsOut := x.opsOut + 1 }).addOp dst c (s.ctxShare c) o

/-- Several operations at once, as far as there is room. -/
def State.copyOps : Nat → Nat → State → State
  | 0, _, s => s
  | n + 1, p, s => State.copyOps n p (s.copyOp p)

/-- A COPY ends when all its bytes are moved or a piece has failed, and no operation is outstanding. -/
def State.copyEnd (s : State) (p : Nat) : State :=
  match s.pkt p with
  | none => s
  | some x =>
    if x.opsOut != 0 || (x.moved < x.f 24 5 && x.bad == 0) then s
    else
      let c := s.pktCtx x
      (if (s.copyRemote x).isSome then s.addCtr c 2 (s.now - x.at_) else s).finish p x.bad

/-- A gateway operation of a COPY is complete. -/
def State.copyOpDone (s : State) (p status : Nat) : State :=
  let s := s.modPkt p fun x => { x with opsOut := x.opsOut - 1, bad := if x.bad = 0 then status else x.bad }
  (s.copyOps 8 p).copyEnd p

/-- Report completions in SSEQ order (R192, rule 1); the signal of a get is applied with it (rule 5). -/
def State.reportOps : Nat → Nat → State → State
  | 0, _, s => s
  | fuel + 1, k, s =>
    let x := s.gwSrc k
    match x.ops with
    | [] => s
    | o :: r =>
      match o.result with
      | none => s
      | some (st, v) =>
        let s := (s.setSrc k { x with ops := r }).cnt 13 1
        let data := if o.kind = 1 then (if st = St.OK ∨ st = St.POISON then o.data else [])
          else if o.kind = 2 && st == St.OK && returnsOld o.op o.fetch && o.op < 0x30 then leBytes 8 v else []
        let s := s.answer o.reply st data o.poison
        let s := match (if o.kind = 1 && (st == St.OK || st == St.POISON) then o.sig else none) with
          | some ref => s.applySignal ref (if st = St.OK then 0 else 1)
          | none => s
        let s := match o.pkt with
          | some p => s.copyOpDone p st
          | none => s
        State.reportOps fuel k s

/-- The COPYs through the gateway that have bytes left to move, in the order of their entries. -/
def State.copying (s : State) : List (Nat × Pkt) :=
  s.front.pkts.filter fun e => e.2.opcode == 0x03 && e.2.performed && e.2.ended == .none && e.2.bad == 0 && decide (e.2.moved < e.2.f 24 5)
    && (s.copyRemote e.2).isSome

/-- Bytes of a piece that the mover moves at once, and after which a cancelled COPY stops (R344). -/
def moverPiece : Nat := 4096

/-- Ask the host for the next piece of a COPY that goes through the gateway, when there is room for it (R194). -/
def State.askPiece (s : State) (p : Nat) (x : Pkt) : State :=
  if s.pieceAsked p || s.gwFull || s.mute then s
  else if !s.rdb Page.gw Reg.GW_CTRL.EN then s.setPkt p { x with bad := St.BUSY }
  else s.hostRead x.fn (x.f 8 8 + x.moved) (min moverPiece (x.f 24 5 - x.moved)) Use.COPY p

/-- COPYs that waited for room go on. -/
def State.copyGo (s : State) : State :=
  s.copying.foldl (fun s e => (if bit (e.2.f 32 4) 0 then s.askPiece e.1 e.2 else s.copyOps 8 e.1).copyEnd e.1) s

/-- After a completion: report, and let waiting puts and COPYs go. -/
def State.settleStream (s : State) (k : Nat) : State := ((State.reportOps ((s.gwSrc k).ops.length + 1) k s).pump k).copyGo

/-- The operation that an answer names. -/
def State.findOp (s : State) (r : GwRec) : Option GwOp :=
  (s.gwSrc (streamKey r.src r.ctx)).ops.find? fun o => o.seq == r.sseq && o.epoch == r.epoch && o.result.isNone && o.sent

/-- ACK (R193): a put is complete, or a get has been refused. -/
def State.opAckBulk (r : GwRec) (s : State) : State :=
  match s.findOp r with
  | none => s
  | some o => if o.kind = 2 then s else (s.setOp (streamKey r.src r.ctx) { o with result := some (r.status, 0) }).settleStream (streamKey r.src r.ctx)
def execBulkAck (r : GwRec) (s : State) : Res := guarded s.mount s (State.opAckBulk r)

/-- AMO_RSP (R193). -/
def State.opAmoRsp (r : GwRec) (s : State) : State :=
  match s.findOp r with
  | none => s
  | some o =>
    if o.kind ≠ 2 then s
    else (s.setOp (streamKey r.src r.ctx) { o with result := some (r.status, r.opnd0.toNat) }).settleStream (streamKey r.src r.ctx)
def execAmoRsp (r : GwRec) (s : State) : Res := guarded s.mount s (State.opAmoRsp r)

/-- NAK (R194): the source sends again after RETRY_US. -/
def State.opNak (r : GwRec) (s : State) : State :=
  match s.findOp r with
  | none => s
  | some o => s.setOp (streamKey r.src r.ctx) { o with at_ := s.now }
def execNak (r : GwRec) (s : State) : Res := guarded s.mount s (State.opNak r)

/-- Replace bytes of a buffer. -/
def overlay (l : List Byte) (off : Nat) (d : List Byte) : List Byte := slice l 0 off ++ d ++ l.drop (off + d.length)

/-- Put a fragment of a get where it belongs: the compute's buffer, local memory with the context's rights, the host. -/
def State.landGet (s : State) (ctx : Nat) (o : GwOp) (r : GwRec) : Nat × GwOp × State :=
  match o.pkt with
  | none => (0, { o with data := overlay o.data r.off r.data, poison := o.poison ||| r.poison * 2 ^ (r.off / 16) }, s)
  | some _ =>
    if o.host then (0, o, s.hostWrite o.fn (o.local_ + r.off) r.data (r.poison != 0))
    else
      let a := s.writeAs (s.ctxMaster ctx) (o.local_ + r.off) r.data r.poison
      (a.status, { o with poison := o.poison ||| r.poison }, a.st)

/-- May a range of local memory be taken now? Writes into transactional regions wait while the step is not RUNNING (R224), pages that are
re-encrypted for their slot (R269, R271); lines of a herd are made ready first (R198). -/
def State.gwReady (s : State) (off len : Nat) (write : Bool) : Bool × State :=
  if (write && s.holding && s.isTx off) || s.rangeHeld (b2n write) off len then (false, s) else s.prepLines (s.herdLines off len) write

/-- May the data of a get be put into memory now? -/
def State.landReady (s : State) (o : GwOp) (r : GwRec) : Bool × State :=
  if o.pkt.isSome && !o.host then s.gwReady (o.local_ + r.off) r.data.length true else (true, s)

/-- Data of a get waits for its place in memory. -/
def State.waitData (s : State) (k : Nat) (r : GwRec) : State :=
  let x := s.gwSrc k
  if x.waiting.any fun w => w.sseq == r.sseq && w.epoch == r.epoch && w.off == r.off then s else s.setSrc k { x with waiting := x.waiting ++ [r] }

/-- GET_DATA (R193): the get is complete with its last fragment. -/
def State.opGetData (r : GwRec) (s : State) : State :=
  match s.findOp r with
  | none => s
  | some o =>
    let k := streamKey r.src r.ctx
    let frag := r.off / fragBytes
    if o.kind ≠ 1 ∨ o.frags.contains frag then s else
    let g := s.landReady o r
    if !g.1 then g.2.waitData k r else
    let x := g.2.landGet r.ctx o r
    let o := { x.2.1 with frags := frag :: o.frags }
    let s := x.2.2.addCtr r.ctx 11 r.data.length
    if x.1 ≠ 0 then (s.setOp k { o with result := some (x.1, 0) }).settleStream k
    else if o.frags.length < (o.len + fragBytes - 1) / fragBytes then s.setOp k o
    else (s.setOp k { o with result := some (if o.poison = 0 then St.OK else St.POISON, 0) }).settleStream k
def execGetData (r : GwRec) (s : State) : Res := guarded s.mount s (State.opGetData r)

/-- The operations of a stream that fail complete with NO_RESPONSE, and the stream begins a new epoch when `renew` (R193). -/
def GwSrc.fail (x : GwSrc) (fails : GwOp → Bool) (renew : Bool) : GwSrc :=
  let ops := x.ops.map fun y => if fails y then { y with sent := true, result := some (St.NO_RESPONSE, 0) } else y
  if renew then { x with epoch := (x.epoch + 1) % 256, nextSeq := 0, ops := ops } else { x with ops := ops }

/-- BULK_RETRY_TIMEOUT (R193): sent again in full, or the stream fails from this operation on. -/
def State.opBulkRetry (k sseq : Nat) (s : State) : State :=
  let x := s.gwSrc k
  match x.ops.find? fun o => o.seq == sseq && o.sent && o.result.isNone with
  | none => s
  | some o =>
    if o.resends < s.rd Page.gw Reg.GW_BULK_CFG.RETRY_MAX then
      (s.inc Page.gw Reg.GW_RESEND_COUNT.COUNT).sendOp k { o with resends := o.resends + 1 }
    else
      let fails := fun (y : GwOp) => y.result.isNone && y.epoch == o.epoch && o.seq ≤ y.seq
      let n := (x.ops.filter fails).length
      let s := (s.add Page.gw Reg.GW_FAIL_COUNT.COUNT n).err Page.gw Err.gw.BULK_FAIL { ctx := some (k % 4096) }
      (s.setSrc k (x.fail fails (o.epoch == x.epoch))).settleStream k
def execBulkRetryTimeout (stream sseq : Nat) (s : State) : Res := guarded s.mount s (State.opBulkRetry stream sseq)

/-- STATE_CHECK (R206): the entries of a context are lost, which is fatal to it; its requests and operations complete with NO_RESPONSE, and its
streams begin a new epoch. -/
def State.stateCheck (s : State) (c : Nat) : State :=
  let s := s.err Page.gw Err.gw.STATE_CHECK { ctx := some c, fn := s.ctxFn c }
  let mine : List RmtReq := s.fab.reqs.filter fun r => r.ctx == c
  let tags := (mine.filter fun r => r.sent).map fun r => r.tag
  let s := { s with fab := { s.fab with quarantine := s.fab.quarantine ++ tags } }
  let s := mine.foldl (fun s r => s.endReq r St.NO_RESPONSE [] 0) s
  let ks : List Nat := (s.fab.srcs.filter fun e => e.1 % 4096 == c && !e.2.ops.isEmpty).map Prod.fst
  (ks.foldl (fun s k => (s.setSrc k ((s.gwSrc k).fail (fun y => y.result.isNone) true)).settleStream k) s).ctxLost c St.NO_RESPONSE

/-! ### The destination of a stream (R192 to R194) -/

def GwDst.open_ (epoch base : Nat) : GwDst :=
  { epoch := epoch, base := base, next := base, done := [], frags := [], stat := [], results := [], held := [], sigs := [] }

/-- A destination stream, when the block holds it. -/
def State.gwDst (s : State) (k : Nat) : Option GwDst := SMap.find? s.fab.dsts k
def State.setDst (s : State) (k : Nat) (x : GwDst) : State :=
  ({ s with fab := { s.fab with dsts := SMap.set s.fab.dsts k x } }).showGw

/-- Is operation `q` of a stream complete? -/
def GwDst.isDone (x : GwDst) (q : Nat) : Bool := (x.base ≤ q && q < x.next) || x.done.contains q

/-- Advance `next` over the done marks. -/
def GwDst.advance : Nat → GwDst → GwDst
  | 0, x => x
  | fuel + 1, x => if x.done.contains x.next then GwDst.advance fuel { x with next := x.next + 1, done := x.done.filter (· != x.next) } else x

/-- Mark an operation complete, once; what lies outside the window of duplicates is forgotten. -/
def GwDst.mark (x : GwDst) (q : Nat) : GwDst :=
  if x.isDone q then x else
  let x := { x with dirty := x.dirty.filter (· != q) }
  let x := GwDst.advance (x.done.length + 2) { x with done := q :: x.done, frags := SMap.erase x.frags q }
  { x with stat := x.stat.filter fun e => x.next ≤ e.1 + 256, results := x.results.filter fun e => x.next ≤ e.1 + 256 }

/-- An operation before the one the entry opened at is new: the entry now begins there. -/
def GwDst.reach (x : GwDst) (q : Nat) : GwDst :=
  if q < x.base then { x with base := q, next := q, done := x.done ++ (List.range (x.next - x.base)).map (· + x.base) } else x

/-- Answer with BUSY (R194). -/
def State.sendNak (s : State) (r : GwRec) : State :=
  (s.err Page.gw Err.gw.STREAM_FULL).sendBulk r.src r.share 0 r.ctx r.sseq 0
    (bulkBytes 7 r.ctx r.epoch r.sseq 0 r.total 0 r.tag St.BUSY 0 false none 0 0 [])

/-- Answer with ACK. -/
def State.sendAck (s : State) (r : GwRec) (status : Nat) : State :=
  s.sendBulk r.src r.share 0 r.ctx r.sseq 0 (bulkBytes 6 r.ctx r.epoch r.sseq 0 r.total 0 r.tag status 0 false none 0 0 [])

/-- Answer an atomic. -/
def State.sendAmoRsp (s : State) (r : GwRec) (status v : Nat) : State :=
  s.sendBulk r.src r.share 0 r.ctx r.sseq 0 (bulkBytes 5 r.ctx r.epoch r.sseq 0 8 0 r.tag status 0 false none v 0 [])

/-- The entry that a record belongs to, opened or renewed as its epoch asks (R193, R194); none when the table is full or the epoch is an
old one. -/
def State.enterDst (s : State) (r : GwRec) : Option GwDst ⊕ Unit :=
  match s.gwDst (streamKey r.src r.ctx) with
  | none => if s.fab.dsts.length ≥ 8192 then .inr () else .inl (some (GwDst.open_ r.epoch r.sseq))
  | some x =>
    if x.epoch = r.epoch then .inl (some (x.reach r.sseq))
    else if (r.epoch + 256 - x.epoch) % 256 < 128 then .inl (some (GwDst.open_ r.epoch 0))
    else .inl none

/-- Apply the signals whose operations and all before them are complete (R192, rule 5). -/
def State.gwSigs (s : State) (k : Nat) : State :=
  match s.gwDst k with
  | none => s
  | some x =>
    let due := (x.sigs.filter fun e => e.1 < x.next).mergeSort fun a b => a.1 ≤ b.1
    due.foldl (fun s e => s.applySignal e.2.1 e.2.2) (s.setDst k { x with sigs := x.sigs.filter fun e => x.next ≤ e.1 })

/-- An operation is complete at the destination. -/
def State.gwDone (s : State) (k q status : Nat) (v : Nat) (sig : Option Nat) (poison : Bool) : State :=
  match s.gwDst k with
  | none => s
  | some x =>
    let x := (if status = 0 then x else { x with stat := SMap.set x.stat q status }).mark q
    let x := { x with results := SMap.set x.results q v
                      sigs := match sig with
                        | some ref => x.sigs ++ [(q, ref, if poison then 1 else 0)]
                        | none => x.sigs }
    (s.setDst k x).gwSigs k

/-- Poison that a lost herd member left is named so (R199). -/
def State.nameLost (s : State) (off len st : Nat) : Nat := if st = St.POISON && s.lostLines off len then 0x09 else st

/-- Write a PUT_DATA fragment: its status and the state after; none while its memory must wait. -/
def State.putWrite (s : State) (r : GwRec) : Option Nat × State :=
  match s.localOff r.addr with
  | none => (some St.BAD_ADDRESS, s)
  | some off =>
    let g := s.gwReady off r.data.length true
    if !g.1 then (none, g.2)
    else
      let a := g.2.writeAs (Master.remote r.src r.share) off r.data r.poison
      (some (s.nameLost off r.data.length a.status), a.st.dropLost)

/-- A PUT_DATA fragment has been written with a status; the put is complete with its last fragment. A poisoned fragment poisons its signal. -/
def State.putDone (s : State) (r : GwRec) (st : Nat) : State :=
  let k := streamKey r.src r.ctx
  match s.gwDst k with
  | none => s
  | some x =>
    let s := if st = 0 then s else s.countHome (.rmt 0 0 0 0) st
    let bad := if SMap.getD x.stat 0 r.sseq = 0 then st else SMap.getD x.stat 0 r.sseq
    let got := r.off / fragBytes :: SMap.getD x.frags [] r.sseq
    let dirty := r.poison != 0 || x.dirty.contains r.sseq
    let s := s.setDst k { x with frags := SMap.set x.frags r.sseq got, stat := if bad = 0 then x.stat else SMap.set x.stat r.sseq bad,
                                 dirty := if dirty then r.sseq :: x.dirty.filter (· != r.sseq) else x.dirty }
    if got.length < (r.total + fragBytes - 1) / fragBytes then s
    else ((s.gwDone k r.sseq bad 0 (if bad = 0 then r.sig else none) dirty)).sendAck r bad

/-- Perform a PUT_DATA fragment; `false`: it waits. -/
def State.putFrag (s : State) (r : GwRec) : Bool × State :=
  let got := ((s.gwDst (streamKey r.src r.ctx)).map fun x => SMap.getD x.frags [] r.sseq).getD []
  if got.contains (r.off / fragBytes) then (true, s) else
  match s.putWrite r with
  | (some st, t) => (true, t.putDone r st)
  | (none, t) => (false, t)

/-- The data of a get goes back in fragments. -/
def State.sendGot (s : State) (r : GwRec) (data : List Byte) (poison : Nat) : State :=
  (fragsOf r.total).foldl (fun s f =>
    s.sendBulk r.src r.share 0 r.ctx r.sseq f.1
      (bulkBytes 3 r.ctx r.epoch r.sseq (r.addr + f.2.1) r.total f.1 r.tag 0 0 false none 0 0 (slice data f.2.1 f.2.2))
      (bulkMap (poison / 2 ^ (f.2.1 / 16) % 2 ^ 252) 252)) s

/-- Perform a GET_REQ (R193): its data goes back in fragments; a refusal is acknowledged with its status. `false`: it waits. -/
def State.getFrags (s : State) (r : GwRec) : Bool × State :=
  let k := streamKey r.src r.ctx
  match s.localOff r.addr with
  | none => (true, ((s.countHome (.rmt 0 0 0 0) St.BAD_ADDRESS).gwDone k r.sseq St.BAD_ADDRESS 0 none false).sendAck r St.BAD_ADDRESS)
  | some off =>
    let g := s.gwReady off r.total false
    if !g.1 then (false, g.2) else
    let a := g.2.readAs (Master.remote r.src r.share) off r.total
    (true, if a.status ≠ St.OK ∧ a.status ≠ St.POISON then
        ((a.st.countHome (.rmt 0 0 0 0) a.status).gwDone k r.sseq a.status 0 none false).sendAck r a.status
      else (a.st.sendGot r a.data a.poison).gwDone k r.sseq 0 0 none false)

/-- The result of an atomic is kept and sent (R193). -/
def State.amoDone (s : State) (r : GwRec) (st v : Nat) : State :=
  ((if st = 0 then s else s.countHome (.rmt 0 0 0 0) st).gwDone (streamKey r.src r.ctx) r.sseq st v none false).sendAmoRsp r st v

/-- Perform an AMO_REQ (R184, R193, R201); `false`: it waits. -/
def State.doAmo (s : State) (r : GwRec) : Bool × State :=
  let m := Master.remote r.src r.share
  if r.op = 0x30 then
    let x := s.passToken m r.src r.addr r.opnd0.toNat
    (true, x.2.amoDone r x.1 0)
  else if !((0x10 ≤ r.op && r.op ≤ 0x19) || (0x20 ≤ r.op && r.op ≤ 0x29)) then (true, s.amoDone r St.UNSUPPORTED 0)
  else match s.localOff r.addr with
    | none => (true, s.amoDone r St.BAD_ADDRESS 0)
    | some off =>
      if off % atomBytes r.op ≠ 0 then (true, s.amoDone r St.UNSUPPORTED 0) else
      let g := s.gwReady off 8 true
      if !g.1 then (false, g.2) else
      let a := g.2.atomicAs m off (atomBytes r.op) (r.op % 16) r.opnd0.toNat r.opnd1.toNat
      (true, a.st.dropLost.amoDone r (s.nameLost off 8 a.status) (if a.status = St.OK then ofLe a.data else 0))

/-- Do the ordering rules let a record be performed (R192, rules 3 and 4)? BOP 1 put, 2 get, 4 atomic. -/
def GwDst.turn (x : GwDst) (bop : Nat) (r : GwRec) : Bool := x.next == r.sseq || (bop == 1 && !r.ordered)

/-- Perform a record by its BOP; `false`: it waits for its memory. -/
def State.doBulk (s : State) (bop : Nat) (r : GwRec) : Bool × State :=
  match bop with
  | 1 => s.putFrag r
  | 2 => s.getFrags r
  | _ => s.doAmo r

/-- The records held at a stream. -/
def State.gwHolds (s : State) (k : Nat) : List (Nat × GwRec) := ((s.gwDst k).map (·.held)).getD []

/-- A held record has been performed. -/
def State.unhold (s : State) (k : Nat) (h : Nat × GwRec) : State :=
  match s.gwDst k with
  | none => s
  | some x => s.setDst k { x with held := x.held.filter (· != h) }

/-- Perform a held record whose turn has come and whose memory is ready. -/
def State.gwTry (s : State) (k : Nat) (h : Nat × GwRec) : State :=
  if ((s.gwDst k).map fun x => x.turn h.1 h.2).getD false && (s.gwHolds k).contains h then
    let d := s.doBulk h.1 h.2
    if d.1 then d.2.unhold k h else d.2
  else s

/-- Perform the held records, oldest first, as long as some can be. -/
def State.gwHeld : Nat → Nat → State → State
  | 0, _, s => s
  | fuel + 1, k, s =>
    let n := (s.gwHolds k).length
    let t := (s.gwHolds k).foldl (fun s h => s.gwTry k h) s
    if (t.gwHolds k).length < n then State.gwHeld fuel k t else t

/-- Go on at a stream. -/
def State.gwGoAt (s : State) (k : Nat) : State := State.gwHeld ((s.gwHolds k).length + 1) k s

/-- A record arrives at the destination of its stream (R192 to R194). -/
def State.opBulk (bop : Nat) (r : GwRec) (s : State) : State :=
  let k := streamKey r.src r.ctx
  match s.enterDst r with
  | .inr () => s.sendNak r
  | .inl none => s
  | .inl (some x) =>
    if x.isDone r.sseq then
      let s := s.setDst k x
      (match bop with
       | 1 => s.sendAck r (SMap.getD x.stat 0 r.sseq)
       | 2 => (s.getFrags r).2
       | _ => s.sendAmoRsp r (SMap.getD x.stat 0 r.sseq) (SMap.getD x.results 0 r.sseq))
    else if r.sseq ≥ x.next + 256 then (s.setDst k x).sendNak r
    else
      (s.setDst k { x with held := if x.held.any (fun h => h.1 == bop && h.2.sseq == r.sseq && h.2.off == r.off) then x.held
                                   else x.held ++ [(bop, r)] }).gwGoAt k

/-- PUT_DATA, GET_REQ, AMO_REQ at the destination. -/
def execPutData (r : GwRec) (s : State) : Res := guarded s.mount s (State.opBulk 1 r)
def execGetReq (r : GwRec) (s : State) : Res := guarded s.mount s (State.opBulk 2 r)
def execAmoReq (r : GwRec) (s : State) : Res := guarded s.mount s (State.opBulk 4 r)

/-- STREAM_RETIRE (R194): an entry with nothing incomplete is freed. -/
def execStreamRetire (stream : Nat) (s : State) : Res :=
  guarded s.mount s fun s =>
    match s.gwDst stream with
    | none => s
    | some x =>
      if x.done.isEmpty && x.frags.isEmpty && x.held.isEmpty then
        ({ s with fab := { s.fab with dsts := SMap.erase s.fab.dsts stream } }).showGw
      else s

/-! ### What waits for memory, for the step or for the gait goes on (R224, R229, R269) -/

/-- Data of gets that waits is tried again. -/
def State.landGo (s : State) (k : Nat) : State :=
  let x := s.gwSrc k
  x.waiting.foldl (fun s r => State.opGetData r s) (s.setSrc k { x with waiting := [] })

/-- Everything at both ends of the streams that waits is tried again. -/
def State.gwGo (s : State) : State :=
  let s := ((s.fab.srcs.filter fun e => !e.2.waiting.isEmpty).map Prod.fst).foldl State.landGo s
  ((s.fab.dsts.filter fun e => !e.2.held.isEmpty).map Prod.fst).foldl State.gwGoAt s

/-- Requests, operations and COPYs that waited to leave. -/
def State.leaveGo (s : State) : State :=
  let s := if s.fab.reqs.any fun r => !r.sent then s.releaseReqs else s
  (((s.fab.srcs.filter fun e => e.2.ops.any fun o => !o.sent).map Prod.fst).foldl State.pump s).copyGo

end Sys2Proof.Machine
end

