-- ==== Sys2Proof/Machine/Copy.lean ====
section
/-! DEFINITION. The mover's pieces that come from the host (R308), and what goes on when memory, the step's decision or the gait lets it: held
pieces and gateway records, requests that wait to leave (R224, R229, R269). -/

namespace Sys2Proof.Machine

/-! ### The sides of a COPY -/

/-- One side of a COPY: a host address, a local offset, an address that leads elsewhere, or a bad one. -/
def State.copySide (s : State) (host : Bool) (a : Nat) : Option Dest := if host then none else some (s.dest a)

/-- The local offset of a side, when it has one. -/
def sideOff (d : Option Dest) : Option Nat :=
  match d with
  | some (.here off) => some off
  | _ => none

/-- Is a side of a kind? -/
def sideFar (d : Option Dest) : Bool :=
  match d with
  | some (.far _ _) => true
  | _ => false
def sideBad (d : Option Dest) : Bool :=
  match d with
  | some .bad => true
  | _ => false

/-- SRC and DST of a COPY. -/
def State.copySrc (s : State) (x : Pkt) : Option Dest := s.copySide (bit (x.f 32 4) 0) (x.f 8 8)
def State.copyDst (s : State) (x : Pkt) : Option Dest := s.copySide (bit (x.f 32 4) 1) (x.f 16 8)

/-! ### Pieces -/

/-- The mover's last write is done: the signal goes with it, the time is counted (R308, R343). -/
def State.moverEnd (s : State) (p : Nat) (x : Pkt) (status : Nat) : State :=
  let fl := x.f 32 4
  let s := s.addCtr (s.pktCtx x) 1 (s.now - x.at_)
  let s := if bit fl 2 && (status == St.OK || status == St.POISON) then s.applySignal (bits fl 4 12) (if status = St.OK then 0 else 1) else s
  s.finish p status

/-- Write one piece to the destination: local with the context's rights, or the host. -/
def State.moverWrite (s : State) (x : Pkt) (at_ : Nat) (data : List Byte) (poison : Nat) : Nat × State :=
  match sideOff (s.copyDst x) with
  | some off =>
    let a := s.writeAs (s.ctxMaster (s.pktCtx x)) (off + at_) data poison
    (a.status, a.st)
  | none => (St.OK, (s.hostWrite x.fn (x.f 16 8 + at_) data (poison != 0)).addCtr (s.pktCtx x) 13 data.length)

/-- Ask the host for the next piece of a COPY from host memory; one for the gateway, when there is room for it (R194). -/
def State.moverAsk (s : State) (p : Nat) : State :=
  match s.pkt p with
  | none => s
  | some x =>
    if (s.copyRemote x).isSome then s.askPiece p x
    else s.hostRead x.fn (x.f 8 8 + x.moved) (min moverPiece (x.f 24 5 - x.moved)) Use.COPY p

/-- A piece becomes a put of its own (R191, R308). -/
def State.piecePut (s : State) (p : Nat) (x : Pkt) (dst addr : Nat) (data : List Byte) (mask : Nat) : State :=
  let fl := x.f 32 4
  let c := s.pktCtx x
  let last := x.f 24 5 ≤ x.moved + data.length
  let o := { GwOp.blank with
    kind := 0, pkt := some p, fn := x.fn, addr := addr + x.moved, inline := true, len := data.length, data := data, poison := mask
    ordered := bit fl 3
    sig := if last && bit fl 2 then some (bits fl 4 12) else none }
  let s := (s.setPkt p { x with moved := x.moved + data.length, opsOut := x.opsOut + 1 }).addOp dst c (s.ctxShare c) o
  if last then s else s.moverAsk p

/-- May a piece be written now? Its place in local memory may have to wait (R224, R269). -/
def State.pieceReady (s : State) (x : Pkt) (n : Nat) : Bool × State :=
  match sideOff (s.copyDst x) with
  | some off => s.gwReady (off + x.moved) n true
  | none => (true, s)

/-- A piece is written; the next one is asked for. -/
def State.pieceWrite (s : State) (p : Nat) (x : Pkt) (data : List Byte) (poisoned : Bool) (mask : Nat) : State :=
  let w := s.moverWrite x x.moved data mask
  if w.1 ≠ St.OK then w.2.moverEnd p x w.1 else
  let bad := if poisoned then St.POISON else x.bad
  let s := w.2.setPkt p { x with moved := x.moved + data.length, bad := bad }
  if x.f 24 5 ≤ x.moved + data.length then s.moverEnd p x bad else s.moverAsk p

/-- Put a piece from host memory where it belongs, or let it wait. -/
def State.moverPut (s : State) (p : Nat) (data : List Byte) (poisoned : Bool) : State :=
  match s.pkt p with
  | none => s
  | some x =>
    if x.ended ≠ .none then s else
    let mask := if poisoned then 2 ^ ((data.length + 15) / 16 + 1) - 1 else 0
    match s.copyRemote x with
    | some (dst, addr, _) => s.piecePut p x dst addr data mask
    | none =>
      let g := s.pieceReady x data.length
      if g.1 then g.2.pieceWrite p x data poisoned mask
      else { g.2 with fab := { g.2.fab with pieces := g.2.fab.pieces ++ [(p, data, poisoned)] } }

/-- A piece from host memory has come. -/
def State.moverGot (s : State) (p : Nat) (data : List Byte) (poisoned : Bool) : State :=
  match s.pkt p with
  | none => s
  | some x => if x.ended ≠ .none then s else (s.addCtr (s.pktCtx x) 12 data.length).moverPut p data poisoned

/-- A piece's host read has failed: the COPY ends with NO_RESPONSE, through the gateway once its operations have ended. -/
def State.moverFailed (s : State) (p : Nat) : State :=
  match s.pkt p with
  | none => s
  | some x =>
    if (s.copyRemote x).isSome then (s.setPkt p { x with bad := if x.bad = 0 then St.NO_RESPONSE else x.bad }).copyEnd p
    else s.moverEnd p x St.NO_RESPONSE

/-! ### Going on -/

/-- Pieces that wait are tried again. -/
def State.moverGo (s : State) : State :=
  s.fab.pieces.foldl (fun s e => s.moverPut e.1 e.2.1 e.2.2) { s with fab := { s.fab with pieces := [] } }

/-- What waits at the fabric of a Mount block goes on where it can. -/
def State.fabGo (s : State) : State := if s.boot.post then s else s.gwGo.moverGo.leaveGo

/-- HITCH_RELEASE (R219, R224): a decision releases the writes that it held. -/
def execHitchRelease (port : Nat) (r : HitchRec) (s : State) : Res :=
  guarded (s.serving && s.portUp port) s fun s => (State.opRelease port r s).fabGo

/-- HITCH_ANSWER (R224, R225). -/
def execHitchAnswer (port : Nat) (r : HitchRec) (s : State) : Res :=
  guarded (s.mount && s.portUp port) s fun s => (State.opAnswer r s).fabGo

/-- RESOLVE (R225, R318). -/
def execResolve (p : Nat) (s : State) : Res :=
  s.perform p 0x69 fun x s =>
    if x.f 8 2 = s.commitEpoch ∧ (s.sync.stepState = .deciding ∨ s.sync.stepState = .inDoubt) then
      ((s.applyDecision (bit (x.f 10 1) 0) 0).fabGo).kres p 0
    else s.kres p 1

end Sys2Proof.Machine
end

