-- ==== Sys2Proof/Machine/GaitRun.lean ====
section
/-! DEFINITION. The gait executor: wake-ahead (R94), the sources of a transmit stride (R96, R173, R313, R314), the decision at a stride's
start (R80, R95), plane loss and cover (R106), receive occurrences, the outcomes and CARRY (R103, R104), shedding (R102). -/

namespace Sys2Proof.Machine

/-! ### Strides and occurrences -/

/-- A stride of the image that a port executes, with the image. -/
def State.strideAt (s : State) (port idx : Nat) : Option (GaitImage × Stride) :=
  (s.activeImage port).bind fun g => (g.strides[idx]?).map fun d => (g, d)

/-- The occurrence of a stride in a period. -/
def State.occ (s : State) (port idx period : Nat) : Option Occ :=
  s.gait.occs.find? fun o => o.port == port && o.idx == idx && o.period == period

/-- Are two occurrences the same one? -/
def sameOcc (a b : Occ) : Bool := a.port == b.port && a.idx == b.idx && a.period == b.period

/-- Remove an occurrence. -/
def State.dropOcc (s : State) (o : Occ) : State := { s with gait := { s.gait with occs := s.gait.occs.filter fun x => !sameOcc x o } }

/-- Put an occurrence in place of its former self, or add it. -/
def State.putOcc (s : State) (o : Occ) : State :=
  if s.gait.occs.any (sameOcc o) then
    { s with gait := { s.gait with occs := s.gait.occs.map fun x => if sameOcc x o then o else x } }
  else { s with gait := { s.gait with occs := s.gait.occs ++ [o] } }

/-- A fresh occurrence. -/
def Occ.fresh (port idx period : Nat) (rx : Bool) : Occ :=
  { port := port, idx := idx, period := period, rx := rx, cover := none, sent := 0, late := false, empty := false, suppressed := false
    noBuf := false, done := false, pkt := none, ring := none, root := none, bytes := [], poison := 0, sig := none, flags := 0, wait := [], limit := 0, closed := false }

/-- The down plane that the block acts on in a period that began at `t` ns (R106): the first found by then, ties to the lowest. -/
def State.actedPlane (s : State) (t : Nat) : Option Nat :=
  let l := s.gait.downOrder.filter fun e => s.planeDown e.1 && e.2 ≤ t
  (l.foldl (fun (b : Option (Nat × Nat)) e => match b with
    | none => some e
    | some x => if e.2 < x.2 ∨ (e.2 = x.2 ∧ e.1 < x.1) then some e else some x) none).map (·.1)

/-- Is stride `idx` of a plane named by the spare map of some port in service (R90, R106)? -/
def State.hasSpare (s : State) (plane idx : Nat) : Bool :=
  s.upPorts.any fun p => ((s.activeImage p).map fun g => g.spares.any fun e => e.1 == plane && e.2.2 == idx).getD false

/-- What stride `idx` of a port carries in a period: the port and index of the stride whose occurrence it is, and that stride. A spare of a
port in service carries the stride it covers for the acted plane; an open or relay stride carries none (R85, R97, R106). A relay stride that
names a descriptor is outside the pairings of R157, and its occurrence meets a descriptor fault. -/
def State.carried (s : State) (port idx : Nat) (g : GaitImage) (d : Stride) (period : Nat) : Option (Nat × Nat × Stride) :=
  match d.cls with
  | 2 => none
  | 3 =>
    if s.boot.post || d.rx || !s.portUp port then none else
    (s.actedPlane (period * g.period)).bind fun p =>
      (g.spares.find? fun e => e.1 == p && e.2.1 == idx).bind fun e => (s.strideAt p e.2.2).map fun x => (p, e.2.2, x.2)
  | _ => if s.boot.post && !d.rx && d.srcKind == 0 && d.desc == 0xFFF then none
    else if s.boot.post && d.rx && d.desc == 0xFFF then none
    else some (port, idx, d)

/-- Is the occurrence of a hard transmit stride moved to a spare window in this period? -/
def State.moved (s : State) (port idx : Nat) (g : GaitImage) (d : Stride) (period : Nat) : Bool :=
  d.cls == 0 && !d.rx && s.actedPlane (period * g.period) == some port && s.hasSpare port idx

/-- The stride whose occurrence `o` is, with the port that counts it. -/
def State.occStride (s : State) (o : Occ) : Nat × Nat × Option Stride :=
  let k := o.cover.getD (o.port, o.idx)
  (k.1, k.2, (s.strideAt k.1 k.2).map (·.2))

/-- The context of a stride's queue or ring. -/
def State.strideCtx (s : State) (d : Stride) : Option Nat :=
  if s.boot.post then none
  else if d.srcKind = 1 then SMap.find? s.front.rings d.src
  else if (s.queue d.src).state = .absent then none else some (s.queue d.src).ctx

/-! ### Gait rings (R314) -/

/-- The four words of a ring descriptor, read with maintenance rights; none when the read is refused or poisoned. -/
def State.ringDesc (s : State) (r : Nat) : Option (Nat × Nat × Nat × Nat) × State :=
  let off := s.rdPair Page.gait Reg.GAIT_RING_TBL_LO.ADDR Reg.GAIT_RING_TBL_HI.ADDR + 32 * r
  let a := s.readAs Master.maint off 32
  (if a.status = St.OK then some (ofLe (slice a.data 0 8), ofLe (slice a.data 8 8), ofLe (slice a.data 16 8), ofLe (slice a.data 24 8))
   else none, a.st)

/-- The ring is VALID, bound and of the right direction. -/
def State.ringOk (s : State) (r : Nat) (w0 : Nat) (rx : Bool) : Bool := bit w0 45 && bit w0 46 == rx && (SMap.find? s.front.rings r).isSome

/-- Offset of span `k`. -/
def spanAt (w0 w1 k : Nat) : Nat := bits w0 0 45 + k % max 1 (bits w1 32 16) * ((bits w1 0 32 + 255) / 256 * 256)

/-- Advance the block's own half of W2: CONS of a transmit ring, PROD of a receive ring. -/
def State.ringStep (s : State) (r : Nat) (rx : Bool) : State :=
  let off := s.rdPair Page.gait Reg.GAIT_RING_TBL_LO.ADDR Reg.GAIT_RING_TBL_HI.ADDR + 32 * r + 16 + (if rx then 0 else 4)
  let v := s.word off 4
  (s.writeAs Master.maint off (leBytes 4 ((v + 1) % 2 ^ 32))).st

/-- The ring could not be used. -/
def State.ringFault (s : State) : State := s.err Page.fe Err.fe.RING_FAULT

/-! ### Sources of a transmit stride -/

/-- Bytes that a stride carries. -/
def Stride.bytes (d : Stride) : Nat := d.flits * 256

/-- The oldest packet of a bound queue that has started, has not ended and is in no occurrence's hands, with one of the opcodes. -/
def State.nextBound (s : State) (q : Nat) (ops : List Nat) : Option (Nat × Pkt) :=
  let l := (s.pktsOf q).filter fun e =>
    e.2.started && e.2.ended == .none && ops.contains e.2.opcode && !(s.gait.occs.any fun o => o.pkt == some e.1)
  l.foldl (fun (b : Option (Nat × Pkt)) e => match b with
    | none => some e
    | some x => if pktKey e < pktKey x then some e else some x) none

/-- What a source gives an occurrence. -/
inductive Source where
  | empty
  | suppressed
  | data (bytes : List Byte) (poison : Nat) (flags : Nat)
  deriving DecidableEq, Repr

/-- Does the stride name a convert that may run (R157, R160)? -/
def State.convertOk (s : State) (n : Nat) : Bool := n < 4095 && RedDesc.valid (s.desc n) && RedDesc.kind (s.desc n) == 2

/-- The checks of R173 and the length check of R313, in order: none when the source may be read, else the status a packet completes
with (0 for the rate, which suppresses). -/
def State.sourceCheck (s : State) (d : Stride) (span guard_ len : Nat) : Option Nat × State :=
  if d.desc = 0xFFF then (if len > d.bytes then some 0x27 else none, s)
  else
    let x := s.desc d.desc
    let n := RedDesc.nset x
    if len ≠ spanBytes (RedDesc.srcFmt x) (RedDesc.srcFvar x) (RedDesc.elems x) then
      (some 0x26, s.err (Page.red 0) Err.red.CVT_LENGTH)
    else if spanBytes n.fmt n.fvar (RedDesc.elems x) > d.bytes then (some 0x27, s.err (Page.red 0) Err.red.CVT_LENGTH)
    else if len * 64 > (span - guard_) * 2048 * 63 then (some 0, s.err (Page.red 0) Err.red.DESC_RATE)
    else (none, s)

/-- Read a source with the rights of its context and narrow it when the stride converts (R94, R173). An INVALID that a convert raises under TRAP
shows in RED0: a convert engine is no reduce cluster (DESIGN CHOICE, log entry of the convert's INVALID). -/
def State.readSource (s : State) (d : Stride) (c off len : Nat) : Source × State :=
  let a := s.readAs (s.ctxMaster c) off len
  if a.status ≠ St.OK ∧ a.status ≠ St.POISON then (.empty, a.st)
  else if d.desc = 0xFFF then (.data a.data a.poison 0, a.st)
  else
    let x := s.desc d.desc
    let r := a.st.convert x a.data
    (.data r.1 (convertPoison x a.poison) r.2, (a.st.redFlags (if bit r.2 3 && (RedDesc.nset x).trap then [0] else []) r.2).cnt 7 len)

/-- The address, length and SIG_REF of the source of a COPY or REDUCE (R308, R309, R313); the status it fails with otherwise. -/
def State.pktSource (s : State) (d : Stride) (x : Pkt) : Nat ⊕ (Nat × Nat × Nat) :=
  if x.opcode = 4 then
    if x.f 16 2 % 4096 ≠ d.desc ∨ d.desc = 0xFFF then .inl 0x24
    else match s.localOff (x.f 8 8) with
      | none => .inl St.BAD_ADDRESS
      | some off =>
        let y := s.desc d.desc
        .inr (off, spanBytes (RedDesc.srcFmt y) (RedDesc.srcFvar y) (RedDesc.elems y), x.f 18 2 % 4096)
  else if bit (x.f 32 4) 0 then .inl St.BAD_ADDRESS
  else match s.localOff (x.f 8 8) with
    | none => .inl St.BAD_ADDRESS
    | some off => .inr (off, x.f 24 5, bits (x.f 32 4) 4 12)

/-- A bound queue's source (R313). -/
def State.queueSource (s : State) (o : Occ) (d : Stride) (span guard_ : Nat) : Occ × State :=
  let q := s.queue d.src
  if q.bind ≠ 1 then ({ o with empty := true }, s) else
  match s.nextBound d.src [3, 4] with
  | none => ({ o with empty := true }, s)
  | some (p, x) =>
    let s := s.setPkt p { x with performed := true }
    match s.pktSource d x with
    | .inl st => ({ o with empty := true }, s.finish p st)
    | .inr (off, len, ref) =>
      let k := s.sourceCheck d span guard_ len
      match k.1 with
      | some 0 => ({ o with suppressed := true, pkt := some p }, k.2)
      | some st => ({ o with empty := true }, k.2.finish p st)
      | none =>
        let r := k.2.readSource d q.ctx off len
        match r.1 with
        | .data b po fl => ({ o with pkt := some p, bytes := b, poison := po, flags := fl
                                     sig := if d.sig then some (ref, if po = 0 then 0 else 1) else none }, r.2)
        | .empty => ({ o with empty := true }, r.2)
        | .suppressed => ({ o with suppressed := true }, r.2)

/-- A transmit ring's source (R314). -/
def State.ringSource (s : State) (o : Occ) (d : Stride) (span guard_ : Nat) : Occ × State :=
  let w := s.ringDesc d.src
  let s := w.2
  match w.1 with
  | none => ({ o with suppressed := true }, s.ringFault)
  | some (w0, w1, w2, w3) =>
    if !s.ringOk d.src w0 false then ({ o with suppressed := true }, s.ringFault)
    else if bits w2 0 32 = bits w2 32 32 then ({ o with empty := true }, s)
    else
      let len := bits w1 0 32
      let k := s.sourceCheck d span guard_ len
      match k.1 with
      | some 0 => ({ o with suppressed := true, ring := some d.src }, k.2)
      | some _ => ({ o with empty := true }, k.2.ringStep d.src false)
      | none =>
        let r := k.2.readSource d ((SMap.find? s.front.rings d.src).getD 0) (spanAt w0 w1 (bits w2 32 32)) len
        match r.1 with
        | .data b po fl => ({ o with ring := some d.src, bytes := b, poison := po, flags := fl
                                     sig := if d.sig then some (bits w3 0 12, if po = 0 then 0 else 1) else none }, r.2)
        | .empty => ({ o with empty := true }, r.2)
        | .suppressed => ({ o with suppressed := true }, r.2)

/-- A mask of flits as a mask of 16-byte units: the first unit of each. -/
def flitUnits (m n : Nat) : Nat := (List.range n).foldl (fun a i => if bit m i then a ||| 2 ^ (16 * i) else a) 0

/-- A Post root's partial (R168). -/
def State.rootSource (s : State) (o : Occ) (d : Stride) : Occ × State :=
  let x := s.desc d.desc
  if d.desc = 0xFFF ∨ !RedDesc.valid x ∨ RedDesc.kind x ≠ 0 then ({ o with suppressed := true }, s.descFault) else
  match s.partialReady d.desc with
  | none => ({ o with empty := true }, s)
  | some i =>
    let b := partialBytes x i
    ({ o with root := some d.desc, bytes := b.1, poison := flitUnits b.2 d.flits
              sig := if d.sig then some (RedDesc.sigRef x, if i.recs.any (·.poison) then 1 else 0) else none }, s)

/-- The packet, span or partial that a transmit occurrence which is suppressed from the start would have sent: CARRY decides what becomes of
it (R104). -/
def State.claimSource (s : State) (o : Occ) (d : Stride) : Occ × State :=
  let o := { o with suppressed := true }
  if s.boot.post then ({ o with root := if d.srcKind = 1 && (s.partialReady d.desc).isSome then some d.desc else none }, s)
  else if d.srcKind = 1 then
    let w := s.ringDesc d.src
    match w.1 with
    | some (w0, _, w2, _) =>
      ({ o with ring := if w.2.ringOk d.src w0 false && bits w2 0 32 != bits w2 32 32 then some d.src else none }, w.2)
    | none => (o, w.2)
  else if (s.queue d.src).bind ≠ 1 then (o, s)
  else match s.nextBound d.src [3, 4] with
    | some (p, x) => ({ o with pkt := some p }, s.setPkt p { x with performed := true })
    | none => (o, s)

/-- The source of a transmit occurrence, taken at its wake-ahead point (R94, R96). A bad stride word or a faulty descriptor suppresses (R110,
R157, R160). -/
def State.takeSource (s : State) (o : Occ) (d : Stride) (span guard_ : Nat) : Occ × State :=
  if o.suppressed then s.claimSource o d
  else if s.boot.post && d.srcKind == 0 then s.descFault.claimSource o d
  else if s.boot.post then s.rootSource o d
  else if d.desc ≠ 0xFFF ∧ !s.convertOk d.desc then s.descFault.claimSource o d
  else if d.srcKind = 1 then s.ringSource o d span guard_
  else s.queueSource o d span guard_

/-- The buffer of a receive occurrence (R313, R314): a reduce stride needs none. -/
def State.takeBuffer (s : State) (o : Occ) (d : Stride) : Occ × State :=
  if d.desc ≠ 0xFFF then
    (if (s.rootOf d.desc).isSome then (o, s) else ({ o with noBuf := true }, s.descFault))
  else if d.srcKind = 1 then
    let w := s.ringDesc d.src
    let s := w.2
    match w.1 with
    | none => ({ o with noBuf := true }, s.ringFault)
    | some (w0, w1, w2, _) =>
      if !s.ringOk d.src w0 true then ({ o with noBuf := true }, s.ringFault)
      else if (bits w2 0 32 + 2 ^ 32 - bits w2 32 32) % 2 ^ 32 = bits w1 32 16 then ({ o with noBuf := true }, s)
      else ({ o with ring := some d.src }, s)
  else if (s.queue d.src).bind ≠ 2 then ({ o with noBuf := true }, s)
  else match s.nextBound d.src [3] with
    | none => ({ o with noBuf := true }, s)
    | some (p, x) => ({ o with pkt := some p }, s.setPkt p { x with performed := true })

/-! ### Wake-ahead -/

/-- The slots that a stride's window wakes (R30, R94): the port's data slice and, with a descriptor, every reduce cluster. -/
def Stride.slots (port : Nat) (d : Stride) : List Nat :=
  (Page.lpt port).base / 0x1000 :: (if d.desc = 0xFFF then [] else (List.range 8).map fun k => (Page.red k).base / 0x1000)

/-- The slots that a stride's window wakes, those of the covered stride that it carries included (R30). -/
def State.windowSlots (s : State) (port idx period : Nat) (g : GaitImage) (d : Stride) : List Nat :=
  d.slots port ++ (match s.carried port idx g d period with
    | some (_, _, c) => c.slots port
    | none => [])

/-- A window wakes its clusters and holds them ungated until it ends, slack included (R30, R31). -/
def State.openWindow (s : State) (port idx period : Nat) (g : GaitImage) (d : Stride) : State :=
  let l := s.windowSlots port idx period g d
  let e := period * g.period + d.start + d.dur + d.slack
  let s := s.wakeSlots l
  { s with power := { s.power with windows := s.power.windows.filter (fun w => s.dtNs < w.2) ++ l.map fun k => (k, e) } }

/-- Is domain time past the stop DT, or the gait stopped (R228)? -/
def State.noGait (s : State) : Bool := s.sync.gaitStopped

/-- Begin the occurrence of a stride: nothing when it carries none, is moved elsewhere, or has begun. -/
def State.beginOcc (s : State) (port idx period : Nat) (g : GaitImage) (d : Stride) : State :=
  if (s.occ port idx period).isSome || s.moved port idx g d period then s else
  match s.carried port idx g d period with
  | none => s
  | some (p, i, c) =>
    let o := { Occ.fresh port idx period d.rx with cover := if p = port ∧ i = idx then none else some (p, i) }
    let bad := c.bad || d.bad
    let r := if d.rx then s.takeBuffer o c else s.takeSource { o with suppressed := bad } c d.dur (g.guardOf d)
    r.2.putOcc (if d.rx then { r.1 with noBuf := r.1.noBuf || bad } else r.1)

/-- WAKE_AHEAD (R94). -/
def execWakeAhead (port idx period : Nat) (s : State) : Res :=
  guarded (s.serving && port < s.ports && !s.noGait) s fun s =>
    match s.strideAt port idx with
    | none => s
    | some (g, d) => (s.openWindow port idx period g d).beginOcc port idx period g d

/-! ### Outcomes (R103, R104) -/

/-- The outcomes of an occurrence. -/
inductive Outcome where
  | sent | empty | late | suppressed | missed | uncovered
  deriving DecidableEq, Repr

/-- Status to a packet. -/
def Outcome.status : Outcome → Nat
  | .sent => 0 | .empty => 0 | .late => 0x20 | .suppressed => 0x21 | .missed => 0x22 | .uncovered => 0x23

/-- Status of a signal. -/
def Outcome.sigStatus : Outcome → Nat
  | .suppressed => 3 | .missed => 4 | .uncovered => 5 | _ => 0

/-- Did the data go over? -/
def Outcome.good (x : Outcome) : Bool := x == .sent || x == .late

/-- Count an outcome on a port, and report it (R109, R110). MISSED is counted by the receiver. -/
def State.countOutcome (s : State) (port idx : Nat) (rx : Bool) (x : Outcome) : State :=
  let p := Page.gait
  let i : ErrInfo := { place := idx, placeKind := 3 }
  match x with
  | .sent => s.inc p Reg.GAIT_PORTn_SENT.COUNT port
  | .empty => s.inc p Reg.GAIT_PORTn_EMPTY.COUNT port
  | .late => (s.inc p Reg.GAIT_PORTn_LATE.COUNT port).err p Err.gait.LATE i
  | .suppressed => (s.inc p Reg.GAIT_PORTn_SUPPRESSED.COUNT port).err p Err.gait.SUPPRESSED i
  | .missed => if rx then (s.inc p Reg.GAIT_PORTn_MISSED.COUNT port).err p Err.gait.MISSED i else s
  | .uncovered => (s.inc p Reg.GAIT_PORTn_UNCOVERED.COUNT port).err p Err.gait.UNCOVERED i

/-- Footprint time and payload of a SENT or LATE occurrence go to its context's counters (R343). -/
def State.countUse (s : State) (d : Stride) (rx : Bool) (x : Outcome) : State :=
  if !x.good then s else
  match s.strideCtx d with
  | none => s
  | some c => (s.addCtr c (if rx then 6 else 5) (d.dur + d.slack)).addCtr c (if rx then 11 else 10) d.bytes

/-- The sender's end: the packet, the ring's span or the root's partial (R104, R168). -/
def State.endSource (s : State) (o : Occ) (carry : Bool) (x : Outcome) : State :=
  if x == .empty || (!x.good && carry) then s else
  let s := match o.pkt with
    | some p => s.finish p x.status 0 o.flags
    | none => s
  let s := match o.ring with
    | some r => s.ringStep r false
    | none => s
  match o.root with
  | some r =>
    match s.partialReady r with
    | some i => s.dropInst r i.index
    | none => s
  | none => s

/-- A receive occurrence that brought no data, under CARRY = 0: the posted COPY, the ring's FAIL_SIG, the root's failed delivery (R104). -/
def State.failRx (s : State) (o : Occ) (d : Stride) (port idx : Nat) (x : Outcome) : State :=
  let s := match o.pkt with
    | some p => s.finish p x.status
    | none => s
  if d.desc ≠ 0xFFF then
    (if o.done || (s.rootOf d.desc).isNone then s else (s.redDeliver d.desc (port * 4096 + idx) .failed none).1)
  else if d.srcKind = 1 then
    let w := s.ringDesc d.src
    match w.1 with
    | some (w0, _, _, w3) => if w.2.ringOk d.src w0 true && bit w3 12 then w.2.applySignal (bits w3 0 12) x.sigStatus else w.2
    | none => w.2
  else s

/-- The occurrence takes its outcome. -/
def State.endOcc (s : State) (o : Occ) (x : Outcome) : State :=
  let k := s.occStride o
  let s := (s.dropOcc o).countOutcome k.1 k.2.1 o.rx x
  match k.2.2 with
  | none => s
  | some d =>
    let s := s.countUse d o.rx x
    if !o.rx then s.endSource o d.carry x
    else if x.good then
      match o.pkt with
      | some p => s.finish p x.status
      | none => s
    else if x == .empty || d.carry then s
    else s.failRx o d k.1 k.2.1 x

/-! ### Sending -/

/-- The frames of an occurrence, with the flits of each (R89, R112, R113). -/
def State.framesOf (s : State) (o : Occ) (d : Stride) (peer period cover idx : Nat) : List DataFrame :=
  let hdr : FrameHdr :=
    { fver := 1, ftype := 0, flits := 1, last := true, sig := false, empty := false, late := false, cover := o.cover.isSome, keyPh := 0
      srcRank := s.ownId.getD 0, srcPost := s.boot.post, stride := idx, coverPlane := cover, periodLo := period % 256, share := 0
      lkind := 0, seqLo := 0, dstRank := peer }
  if o.empty then [{ hdr := { hdr with empty := true }, data := List.replicate 256 0, poison := 0, sigCode := 0, sigRef := 0 }] else
  (List.range d.frames).map fun k =>
    let last := k + 1 == d.frames
    let n := if last then d.lastFlits + 1 else d.fpf + 1
    let a := k * (d.fpf + 1)
    let map := (List.range n).foldl (fun m i => if bits o.poison (16 * (a + i)) 16 != 0 then m + 2 ^ i else m) 0
    { hdr := { hdr with flits := n, last := last, sig := last && o.sig.isSome }
      data := slice o.bytes (a * 256) (n * 256)
      poison := map
      sigCode := if last then (o.sig.map (·.2)).getD 0 else 0
      sigRef := if last then (o.sig.map (·.1)).getD 0 else 0 }

/-- Does the header belong to an occurrence: its stride and its period? -/
def State.ofOcc (s : State) (o : Occ) (h : FrameHdr) : Bool :=
  h.ftype == 0 && h.stride == (s.occStride o).2.1 && h.periodLo == o.period % 256

/-- Does a resend still owe a frame of an occurrence? -/
def State.resendOwes (s : State) (o : Occ) : Bool :=
  match (s.link o.port).resendAt with
  | some q => (s.replayFrom o.port q).any fun e => s.ofOcc o e.2.hdr
  | none => false

/-- Is some frame of an occurrence still waiting for an open stride (R103)? -/
def State.lateWaits (s : State) (o : Occ) : Bool :=
  ((s.looseOf o.port).any fun x => x.f.hdr.late && s.ofOcc o x.f.hdr) || s.resendOwes o

/-- Late occurrences of a port whose remainder has left end LATE (R103). -/
def State.settleLate (s : State) (n : Nat) : State :=
  (s.gait.occs.filter fun o => o.port == n && !o.rx && o.late).foldl
    (fun s o => if s.lateWaits o then s else s.endOcc o (if o.empty then .empty else .late)) s

/-- The remainder of a late occurrence is given up. -/
def State.dropLate (s : State) (o : Occ) : State :=
  s.setLoose o.port ((s.looseOf o.port).filter fun x => !(x.f.hdr.late && s.ofOcc o x.f.hdr))

/-- What the receiver finds at the footprint's end; none while LATE frames may follow. -/
def Occ.rxOutcome (o : Occ) : Option Outcome :=
  if o.empty then some .empty
  else if o.done && !o.noBuf then some (if o.late then .late else .sent)
  else if o.noBuf then some .missed
  else none

/-- The outcome of an occurrence that can wait no longer: before its stride's next occurrence, or before a swap (R103). -/
def Occ.lastOutcome (o : Occ) : Outcome :=
  if o.rx then o.rxOutcome.getD .missed
  else if o.suppressed then .suppressed
  else if o.late then .missed
  else if o.sent = 0 || !o.wait.isEmpty then .suppressed
  else if o.empty then .empty
  else .sent

/-- An occurrence ends now. -/
def State.endNow (s : State) (o : Occ) : State := (if o.late && !o.rx then s.dropLate o else s).endOcc o o.lastOutcome

/-- Earlier occurrences of the same stride that are still open end (R103). -/
def State.endOlder (s : State) (port idx period : Nat) : State :=
  (s.gait.occs.filter fun o => o.port == port && o.idx == idx && o.period < period).foldl State.endNow s

/-- May a transmit occurrence be sent now (R80, R95, R118)? -/
def State.maySend (s : State) (port : Nat) (cls guard_ : Nat) : Bool :=
  s.portUp port && !s.keySpent port && s.swapState != 3 && (if cls = 1 then s.firmOk guard_ else s.hardOk guard_)

/-- The class by whose time condition a stride is sent: a spare goes as hard (R85). -/
def Stride.timeCls (d : Stride) : Nat := if d.cls = 1 then 1 else 0

/-- How far the frames of an occurrence have got. -/
inductive Pump where
  | going | cut | late
  deriving DecidableEq, Repr

/-- Send the frames whose turn has come by `upTo`, DT in 0.01 ns, back to back while `ok` holds before each (R95); `late` when the next one would
pass the limit S + D − G + L (R86). -/
def State.dueGo (n upTo limit : Nat) (ok : State → Bool) : List DataFrame → State → (List DataFrame × Pump) × State
  | [], s => (([], .going), s)
  | f :: r, s =>
    let t := (s.link n).freeAt
    if limit < t + wireTime f.hdr.flits then ((f :: r, .late), s)
    else if upTo < t then ((f :: r, .going), s)
    else if !ok s then ((f :: r, .cut), s)
    else State.dueGo n upTo limit ok r (s.sendFrameAt n t f)

/-- Frames of an occurrence that has begun to send go out up to `upTo`: cut short when its time condition no longer holds (R95), its remainder
flagged LATE when the limit is passed (R103). -/
def State.sendDue (s : State) (o : Occ) (upTo : Nat) : State :=
  if o.wait.isEmpty then s else
  match s.strideAt o.port o.idx with
  | none => s.putOcc { o with suppressed := true, wait := [] }
  | some (g, d) =>
    let r := State.dueGo o.port upTo o.limit (fun s => s.maySend o.port d.timeCls (g.guardOf d)) o.wait s
    match r.1.2 with
    | .going => r.2.putOcc { o with wait := r.1.1 }
    | .cut => r.2.putOcc { o with suppressed := true, wait := [] }
    | .late =>
      let s := r.2.putOcc { o with late := true, wait := [] }
      (r.1.1.foldl (fun (s : State) x => s.queueLoose o.port { x with hdr := { x.hdr with late := true } }) s).settleLate o.port

/-- Every occurrence that has frames to send sends those whose turn has come. -/
def State.sendAllDue (s : State) : State := s.gait.occs.foldl (fun s o => s.sendDue o s.wireNow) s

/-- The executor's decision at S, and the frames that leave at once (R95). -/
def State.startTx (s : State) (o : Occ) (g : GaitImage) (d : Stride) : State :=
  let k := s.occStride o
  match k.2.2 with
  | none => s.putOcc { o with suppressed := true }
  | some c =>
    if o.suppressed then s
    else if !s.maySend o.port d.timeCls (g.guardOf d) then s.putOcc { o with suppressed := true }
    else
      let frames := s.framesOf o c c.peer o.period (if o.cover.isSome then k.1 else 0) k.2.1
      let o := { o with sent := frames.length, wait := frames, limit := s.wireNow + (d.dur - g.guardOf d + d.slack) * 100 }
      let s := s.setLink o.port { s.link o.port with freeAt := s.wireFree o.port }
      (s.putOcc o).sendDue o s.wireNow

/-- A hard stride whose plane is down and not covered, or whose cover is not in service (R106). -/
def State.uncoveredNow (s : State) (port : Nat) (d : Stride) : Bool := d.cls == 0 && !d.rx && !s.boot.post && s.planeDown port

/-- The next transmit stride of a port after `idx` (R109). -/
def nextTx (g : GaitImage) (idx : Nat) : Nat :=
  let l := (g.strides.zipIdx.filter fun e => !e.1.rx).map (·.2)
  ((l.find? fun k => idx < k).or l.head?).getD 0

/-- An open stride starts: what a resend owes goes first, then the arbiter fills it, when time permits (R80, R86, R100, R103). One whose stored
word is bad does not run (R110). -/
def State.startOpen (s : State) (port : Nat) (g : GaitImage) (d : Stride) : State :=
  if d.bad || !s.mayOpen port g d then s else
  let e := s.wireNow + (d.dur - g.guardOf d) * 100
  let s := s.resumeResend port e
  (if (s.link port).resendAt.isSome then s else s.drainLoose port e).settleLate port

/-- The start of a stride (R95). -/
def State.opStrideStart (port idx period : Nat) (g : GaitImage) (d : Stride) (s : State) : State :=
  let s := (s.endOlder port idx period).openWindow port idx period g d
  let s := if d.rx then s else s.wr Page.gait Reg.GAIT_PORTn_STATE.NEXT (nextTx g idx) port
  if d.cls = 2 then (if d.rx then s else s.startOpen port g d) else
  let s := s.beginOcc port idx period g d
  let s := if d.cls = 3 then s.wr Page.gait Reg.GAIT_PORTn_STATE.COVERING (b2n (s.occ port idx period).isSome) port else s
  match s.occ port idx period with
  | none => s
  | some o =>
    if o.rx then s
    else if s.uncoveredNow port d then s.endOcc o .uncovered
    else s.startTx o g d

/-- STRIDE_START (R95). A stopped gait starts no occurrence (R228); its open strides still forward while it drains (R229). -/
def execStrideStart (port idx period : Nat) (s : State) : Res :=
  guarded (s.serving && port < s.ports) s fun s =>
    match s.strideAt port idx with
    | none => s
    | some (g, d) => if s.noGait && (d.cls != 2 || s.silenced) then s else s.opStrideStart port idx period g d

/-! ### Receiving -/

/-- Write received data as the gait does: never held, never waiting (R94, R249, R269); the holders of its lines lose them afterwards (R198). -/
def State.writeGait (s : State) (m : Master) (off : Nat) (data : List Byte) (poison : Nat) : Bool × State :=
  match s.checkRange m 1 off data.length with
  | some (step, e) => (false, s.refuse m 1 step e off)
  | none =>
    let r := s.writeRange 1 off data poison true
    (r.1, if r.1 then (r.2.countBytes m 9 data.length).gaitWrote (s.herdLines off data.length) else r.2)

/-- The poison of received flits as 16-byte units: all sixteen of a flagged flit (R113). -/
def spreadPoison (map n : Nat) : Nat := (List.range n).foldl (fun a i => if bit map i then a ||| 65535 * 2 ^ (16 * i) else a) 0

/-- Deliver the data of a complete receive occurrence into its buffer; `true` when it was written (R313, R314). -/
def State.writeRx (s : State) (o : Occ) : Bool × State :=
  match o.pkt, o.ring with
  | some p, _ =>
    match s.pkt p with
    | none => (false, s)
    | some x =>
      let len := x.f 24 5
      let data := o.bytes.take len
      if bit (x.f 32 4) 1 then (true, s.hostWrite x.fn (x.f 16 8) data (bits o.poison 0 (data.length / 16 + 1) != 0))
      else match s.localOff (x.f 16 8) with
        | none => (false, s.finish p St.BAD_ADDRESS)
        | some off => s.writeGait (s.ctxMaster (s.pktCtx x)) off data o.poison
  | none, some r =>
    let w := s.ringDesc r
    match w.1 with
    | none => (false, w.2.ringFault)
    | some (w0, w1, w2, _) =>
      let y := w.2.writeGait (s.ctxMaster ((SMap.find? s.front.rings r).getD 0)) (spanAt w0 w1 (bits w2 0 32)) (o.bytes.take (bits w1 0 32)) o.poison
      (y.1, if y.1 then y.2.ringStep r true else y.2)
  | none, none => (false, s)

/-- Keep a receive occurrence; one whose footprint has ended takes its outcome as soon as it has one (R103). -/
def State.keepRx (s : State) (o : Occ) : State :=
  match o.closed, o.rxOutcome with
  | true, some x => (s.putOcc o).endOcc o x
  | _, _ => s.putOcc o

/-- All frames of a receive occurrence have come: its data is written or delivered, then its signal is applied (R125, R165). -/
def State.completeRx (s : State) (o : Occ) (d : Stride) (port idx : Nat) : State :=
  let sig : Option Sig := o.sig.map fun x => { ref := x.1, status := x.2, late := o.late }
  if o.noBuf then s.keepRx o
  else if d.desc ≠ 0xFFF then
    let part := RedDesc.kind (s.desc d.desc) == 1 && RedDesc.partials (s.desc d.desc)
    let r := s.redDeliver d.desc (port * 4096 + idx) (if part then .part o.bytes o.poison else .operand o.bytes o.poison) sig
    let bad := r.2 == .stalled || r.2 == .fault
    r.1.keepRx { o with done := true, noBuf := bad, bytes := [] }
  else
    let r := s.writeRx o
    let s := match sig with
      | some g => if r.1 then r.2.applySignal g.ref g.status else r.2
      | none => r.2
    s.keepRx { o with done := r.1, noBuf := !r.1, bytes := [] }

/-- A frame joins a receive occurrence. -/
def State.frameInto (s : State) (o : Occ) (d : Stride) (f : DataFrame) : State :=
  let k := s.occStride o
  if f.hdr.empty then s.keepRx { o with empty := true }
  else
    let at_ := o.bytes.length / 16
    let o := { o with
      sent := o.sent + 1, bytes := o.bytes ++ f.data, poison := o.poison ||| spreadPoison f.poison f.hdr.flits * 2 ^ at_
      late := o.late || f.hdr.late
      sig := if f.hdr.sig then some (f.sigRef, f.sigCode) else o.sig }
    if o.sent < d.frames then s.putOcc o else s.completeRx o d k.1 k.2.1

/-! ### The end of a footprint -/

/-- FOOTPRINT_END at the receiver (R103): an occurrence that is not complete waits for a LATE follow-up until its stride's next start. -/
def State.closeRx (s : State) (o : Occ) : State :=
  match o.rxOutcome with
  | some x => s.endOcc o x
  | none => s.putOcc { o with closed := true }

/-- FOOTPRINT_END at the sender (R103): frames that a resend still owes make the occurrence late. -/
def State.closeTx (s : State) (o : Occ) : State :=
  if o.suppressed then s.endOcc o .suppressed
  else if o.late then s
  else if s.resendOwes o then s.putOcc { o with late := true }
  else if o.empty then s.endOcc o .empty
  else s.endOcc o .sent

/-- FOOTPRINT_END (R103). -/
def execFootprintEnd (port idx period : Nat) (s : State) : Res :=
  guarded (s.serving && port < s.ports) s fun s =>
    match s.occ port idx period with
    | none => s
    | some o =>
      if o.rx then s.closeRx o else
      let s := s.sendDue o o.limit
      match s.occ port idx period with
      | none => s
      | some o => s.closeTx o

/-! ### Planes, shedding, ageing -/

/-- PLANE_DOWN (R106): from the next period boundary on the block acts on it. -/
def execPlaneDown (plane : Nat) (s : State) : Res :=
  guarded (s.mount && plane < s.ports && s.planeDown plane) s fun s =>
    { s with gait := { s.gait with
        downOrder := (s.gait.downOrder.filter fun e => e.1 != plane && s.planeDown e.1) ++ [(plane, s.dtNs)] } }

/-- THROTTLE_START (R102, R505): the request, or 105 °C. The temperature reported is a valid one. -/
def execThrottleStart (pin : Bool) (temp : Int) (s : State) : Res :=
  guarded s.serving s fun s =>
    let s := { s with pins := { s.pins with throttleReq := s.pins.throttleReq || pin, tempC := temp, tempValid := true } }
    if pin || decide (105 ≤ temp) then s.wr Page.gait Reg.GAIT_STATUS.SHEDDING 1 else s

/-- THROTTLE_END (R102, R505): the request is low; shedding ends at 100 °C. -/
def execThrottleEnd (temp : Int) (s : State) : Res :=
  guarded s.serving s fun s =>
    let s := { s with pins := { s.pins with throttleReq := false, tempC := temp, tempValid := true } }
    if temp ≤ 100 then s.wr Page.gait Reg.GAIT_STATUS.SHEDDING 0 else s

/-- LOOSE_AGE_DROP (R182): loose frames, hitch frames among them, that have waited AGE_US at a Post block go. -/
def execLooseAgeDrop (port : Nat) (s : State) : Res :=
  guarded (s.serving && s.boot.post && port < s.ports) s fun s =>
    let lim := s.rd Page.cmb Reg.CMB_CFG.AGE_US * 1000
    let old := fun (x : LooseItem) => x.f.hdr.ftype == 1 && decide (x.at_ + lim ≤ s.now)
    let n := ((s.looseOf port).filter old).length
    let s := (s.setLoose port ((s.looseOf port).filter fun x => !old x)).add Page.cmb Reg.CMB_AGE_DROP.COUNT n
    if n = 0 then s else s.err Page.cmb Err.cmb.AGE_DROP { place := port, placeKind := 5 }

/-! ### The end of a swap (R93) -/

/-- Every occurrence of the bank that goes out of use ends. -/
def State.endAll (s : State) : State := s.gait.occs.foldl State.endNow s

/-- Every port stops. -/
def State.stopPorts (s : State) : State :=
  let s := (List.range s.ports).foldl (fun s n => s.wr Page.gait Reg.GAIT_PORTn_STATE.ACTIVE 0 n) s.endAll
  let s := { s with gait := { s.gait with units := 0 } }
  ((s.wr Page.gait Reg.GAIT_ACTIVE_ID.ID 0).wr Page.gait Reg.GAIT_PERIOD.NS 0).showActive

/-- ABANDON (R93). -/
def execAbandon (p : Party) (s : State) : Res :=
  s.action p Page.gait fun s =>
    if s.swapState = 1 ∧ s.haPending 2 then s.assisted (.abandon p) fun s => (s.haClear 2).setSwap 0
    else if s.swapState = 3 then s.stopPorts.setSwap 0
    else s

/-- GAIT_ACTIVE_ID and GAIT_PERIOD after a swap: 0 when no port has an active bank (R109). -/
def State.showGait (s : State) : State :=
  let s := s.showActive
  let any := s.rdb Page.gait Reg.GAIT_STATUS.ANY_ACTIVE
  let s := { s with gait := { s.gait with units := if any then s.gait.newUnits else 0 } }
  ((s.wr Page.gait Reg.GAIT_ACTIVE_ID.ID (if any then s.gait.newId else 0)).wr Page.gait Reg.GAIT_PERIOD.NS
    (if any then s.gait.newPeriod else 0)).redShort

/-- The gait that a stop had stopped runs again; on a Post block, which has no dispatch to resume, the stop is over (R230). -/
def State.leaveStop (s : State) : State :=
  let y := s.sync
  if s.boot.post then
    ({ s with sync := { y with gaitStopped := false, stopped := false, stopDt := if y.stopArmed then y.stopDt else none } }).wr Page.hitch Reg.HITCH_STATUS.STOPPED 0
  else { s with sync := { y with gaitStopped := false } }

/-- The swap completes (R93): the old banks' occurrences end, every port flips at once, plane-down notices end (R128), a stopped gait runs again
(R230). -/
def State.flip (s : State) : State :=
  let s := ((List.range s.ports).foldl (fun s n => s.flipPort n) s.endAll).showGait
  (s.gait.pdnPlanes.foldl (fun s n => s.clearPdn n) s).leaveStop.setSwap 0

/-- SWAP_DT_REACHED (R93). -/
def execSwapDtReached (s : State) : Res :=
  guarded (s.serving && s.swapState == 2) s fun s =>
    if s.hardOk s.gait.newGuard then s.flip else (s.setSwap 3).err Page.gait Err.gait.SWAP_MISSED

/-- SWAP_LATE_BOUNDARY (R93). -/
def execSwapLateBoundary (s : State) : Res :=
  guarded (s.serving && s.swapState == 3 && s.hardOk s.gait.newGuard) s State.flip

end Sys2Proof.Machine
end

