-- ==== Sys2Proof/Machine/Receive.lean ====
section
/-! DEFINITION. Data frames as they arrive: the receive side of R119 and R120, the acceptance of R123, relaying (R97, R124), and the
records of loose frames (R180). -/

namespace Sys2Proof.Machine

/-- A verified frame that nothing accepts (R123). -/
def State.stray (s : State) (n : Nat) : State :=
  (s.inc (Page.lpt n) Reg.LPTn_STRAY_COUNT.COUNT).err (Page.lpt n) Err.lpt.STRAY { place := n, placeKind := 5 }

/-- A malformed frame (R123, R180). -/
def State.badFrame (s : State) (n : Nat) : State :=
  (s.inc (Page.lpt n) Reg.LPTn_BAD_FRAME_COUNT.COUNT).err (Page.lpt n) Err.lpt.BAD_FRAME { place := n, placeKind := 5 }

/-! ### Loose frames at their end -/

/-- The request record at an offset (R185). -/
def reqRec (port : Nat) (f : DataFrame) (sync : Bool) (o : Nat) : RmtRec :=
  let w := ofLe (slice f.data o 8)
  let len := 8 * (bits w 8 5 + 1)
  { port := port, src := f.hdr.srcRank, ctx := bits w 16 12, tag := bits w 32 16, addr := ofLe (slice f.data (o + 8) 8), len := len, share := f.hdr.share,
    sync := sync, fetch := bit w 13, data := if bits w 0 8 = 2 then slice f.data (o + 32) len else [], strb := 0,
    opnd0 := BitVec.ofNat 64 (ofLe (slice f.data (o + 16) 8)), opnd1 := BitVec.ofNat 64 (ofLe (slice f.data (o + 24) 8)) }

/-- Is a code of R184 defined, the token's apart? -/
def opKnown (op : Nat) : Bool := op == 1 || op == 2 || ((op / 16 == 1 || op / 16 == 2) && op % 16 < 10)

/-- Perform the request record at an offset (R184, R187). -/
def State.reqAt (s : State) (port : Nat) (f : DataFrame) (sync : Bool) (o : Nat) : State :=
  let op := bits (ofLe (slice f.data o 8)) 0 8
  let r := reqRec port f sync o
  if opKnown op then s.homeReq op r else if op = 0x30 then s.homeToken r else s.homeUnknown r

/-- Take the response record at an offset (R186). -/
def State.rspAt (s : State) (f : DataFrame) (o : Nat) : State :=
  let w := ofLe (slice f.data o 8)
  let len := 8 * (bits w 8 5 + 1)
  State.opRsp f.hdr.srcRank (bits w 32 16) (bits w 0 8) (slice f.data (o + 16) len) (unitPoison f (o + 16) len) s

/-- Take the coherence record at an offset (R196): requests, write-backs and answers name a line of this home; the others, a line of the
sender. -/
def State.cohAt (s : State) (f : DataFrame) (o : Nat) : State :=
  let w := ofLe (slice f.data o 8)
  let cm := bits w 0 8
  let lost := bit w 8
  let tid := bits w 16 16
  let addr := ofLe (slice f.data (o + 8) 8)
  let line := bits addr 0 45 / 64
  let src := f.hdr.srcRank
  let data := slice f.data (o + 32) 64
  let poison := unitPoison f (o + 32) 64
  let status := if lost then 0x09 else if poison = 0 then St.OK else St.POISON
  match cm with
  | 0x01 => s.opCohReq src line 1 tid f.hdr.share
  | 0x02 => s.opCohReq src line 2 tid f.hdr.share
  | 0x03 => s.opCohReq src line 3 tid f.hdr.share
  | 0x04 => s.opCohWb src line tid f.hdr.share data (poison != 0)
  | 0x05 => s.opCohEvs src line
  | 0x11 => s.ownCoh tid status data poison
  | 0x12 => s.ownCoh tid status data poison
  | 0x13 => s.ownCoh tid St.OK [] 0
  | 0x14 => s.ownCoh tid St.OK [] 0
  | 0x15 => s.opMemberSnoop src cm tid addr
  | 0x16 => s.opMemberSnoop src cm tid addr
  | 0x17 => s.opMemberSnoop src cm tid addr
  | 0x18 => s.opMemberSnoop src cm tid addr
  | 0x21 => s.opCohAnswer src line tid none
  | 0x22 => s.opCohAnswer src line tid (if lost then none else some (data, poison != 0))
  | 0x23 => s.opFlushDone src
  | _ => s

/-- The gateway record of a bulk frame (R191). -/
def bulkRec (port : Nat) (f : DataFrame) : GwRec :=
  let b0 := ofLe (slice f.data 0 8)
  let b2 := ofLe (slice f.data 16 8)
  let b3 := ofLe (slice f.data 24 8)
  let total := bits b2 0 32
  let off := bits b2 32 16 * fragBytes
  let len := min fragBytes (total - off)
  { port := port, src := f.hdr.srcRank, tag := bits b3 0 16, ctx := bits b0 8 12, epoch := bits b0 20 8, sseq := bits b0 32 32, addr := ofLe (slice f.data 8 8),
    off := off, len := len, total := total, share := f.hdr.share, status := bits b3 16 8, op := bits (ofLe (slice f.data 48 8)) 0 8,
    opnd0 := BitVec.ofNat 64 (ofLe (slice f.data 32 8)), opnd1 := BitVec.ofNat 64 (ofLe (slice f.data 40 8)),
    sig := if bit b3 25 then some (bits b3 26 12) else none, ordered := bit b3 24, data := slice f.data 64 len,
    poison := unitPoison f 64 len }

/-- Take a bulk frame (R191); a reserved BOP is malformed. -/
def State.bulkIn (s : State) (port : Nat) (f : DataFrame) : State :=
  let r := bulkRec port f
  match bits (ofLe (slice f.data 0 8)) 0 8 with
  | 1 => State.opBulk 1 r s
  | 2 => State.opBulk 2 r s
  | 3 => State.opGetData r s
  | 4 => State.opBulk 4 r s
  | 5 => State.opAmoRsp r s
  | 6 => State.opAckBulk r s
  | 7 => State.opNak r s
  | _ => s.badFrame port

/-- A Post block routes QUERY and ANSWER (R218); while its hitch logic is off it discards them (R232). -/
def State.routeHitch (s : State) (f : DataFrame) : State :=
  if s.rdb Page.hitch Reg.HITCH_CTRL.EN then s.routeFrame f else s.hitchStale

/-- Take a hitch frame (R217, R218). QUERY and ANSWER are routed by a Post block and taken by the rank they name; a counter answers
ARRIVE and LEAVE, which a Mount block holds none of. -/
def State.hitchIn (s : State) (port : Nat) (f : DataFrame) : State :=
  let r := hitchOf (f.data.take 32)
  let mine := s.selfRank == some f.hdr.dstRank
  match r.hop with
  | 1 => if s.boot.post then State.opArrive port r s else s
  | 2 => (State.opRelease port r s).fabGo
  | 3 => if s.boot.post then s.routeHitch f else if mine then State.opQuery port r s else s.stray port
  | 4 => if s.boot.post then s.routeHitch f else if mine then (State.opAnswer r s).fabGo else s.stray port
  | 5 => State.opStop port r s
  | 6 => if s.boot.post then State.opLeave port r s else s
  | _ => s.badFrame port

/-- The number by which the commit record names a smearing frame (R231): the stride, the SSEQ, or the first record's tag. -/
def smearNo (f : DataFrame) : Nat :=
  let w := ofLe (slice f.data 0 8)
  if f.hdr.ftype = 0 then f.hdr.stride
  else if f.hdr.lkind = 4 then bits w 32 32
  else if f.hdr.lkind = 2 then bits w 16 16
  else if f.hdr.lkind = 5 then 0
  else bits w 32 16

/-- A loose frame that ends its path here (R123, R180). -/
def State.looseIn (s : State) (port : Nat) (f : DataFrame) : State :=
  let s := s.smearBy f (smearNo f)
  match f.hdr.lkind with
  | 0 => (reqOffs f.data).foldl (fun s o => s.reqAt port f false o) s
  | 1 => (rspOffs f.data).foldl (fun s o => s.rspAt f o) s
  | 2 => (cohOffs f.data).foldl (fun s o => s.cohAt f o) s
  | 3 => (reqOffs f.data).foldl (fun s o => s.reqAt port f true o) s
  | 4 => s.bulkIn port f
  | _ => s.hitchIn port f

/-- A loose frame (R123, R180, R218). -/
def State.acceptLoose (s : State) (n : Nat) (f : DataFrame) : State :=
  let opened := (s.openStride n true).isSome
  if 6 ≤ f.hdr.lkind then s.badFrame n
  else if f.hdr.lkind = 5 then (if opened then s.looseIn n f else s.stray n)
  else if s.boot.post then s.passLoose n f
  else if opened && s.selfRank == some f.hdr.dstRank then s.looseIn n f
  else s.stray n

/-! ### Scheduled frames -/

/-- Is a frame from `src` one that a receive stride expects? PEER_RANK is ignored in Post role (R89). -/
def State.fromPeer (s : State) (d : Stride) (src : Nat) : Bool := s.boot.post || d.peer == src

/-- The receive stride of port `n` whose footprint is open and which expects the frame, with its image and index (R123); none in a stopped
gait (R228). -/
def State.rxNow (s : State) (n src : Nat) : Option (GaitImage × Stride × Nat) :=
  if s.swapState = 3 || s.noGait then none else
  (s.activeImage n).bind fun g =>
    (g.strides.zipIdx.find? fun e => e.1.rx && decide (e.1.cls < 2) && s.fromPeer e.1 src && s.footOpen g e.1
      && (!s.boot.post || e.1.desc != 0xFFF)).map fun e => (g, e.1, e.2)

/-- A frame joins the current occurrence of a receive stride, which begins now when it has not begun. -/
def State.joinRx (s : State) (n : Nat) (g : GaitImage) (d : Stride) (idx : Nat) (f : DataFrame) : State :=
  let k := s.dtNs / g.period
  let s := if (s.occ n idx k).isSome then s else s.beginOcc n idx k g d
  match s.occ n idx k with
  | some o => if o.done then s.stray n else s.frameInto o d f
  | none => s.stray n

/-- Is an occurrence one of a receive stride of port `n` that a frame from `src` of period PERIOD_LO may still complete? -/
def State.rxWaits (s : State) (n src lo : Nat) (o : Occ) (d : Stride) : Bool :=
  o.port == n && o.rx && !o.done && !o.empty && o.period % 256 == lo && s.fromPeer d src

/-- The earliest incomplete receive occurrence of a port from a rank in a period, in table order (R123). -/
def State.rxOpen (s : State) (n src lo : Nat) : Option (Occ × Stride) :=
  let l := s.gait.occs.filterMap fun o => (s.strideAt n o.idx).bind fun e => if s.rxWaits n src lo o e.2 then some (o, e.2) else none
  l.foldl (fun (b : Option (Occ × Stride)) x =>
    match b with
    | none => some x
    | some y => if x.1.idx < y.1.idx then some x else some y) none

/-- Occurrences of the running period that lie ahead on port `n` begin when a frame of PERIOD_LO from `src` comes for one of them on another
port (R106, R123). -/
def State.beginAhead (s : State) (n src lo : Nat) : State :=
  match s.activeImage n with
  | none => s
  | some g =>
    let k := s.dtNs / g.period
    if g.period = 0 || k % 256 != lo || s.noGait then s else
    (g.strides.zipIdx.filter fun e => e.1.rx && decide (e.1.cls < 2) && s.fromPeer e.1 src && decide (s.phase g < e.1.start)).foldl
      (fun s e => s.beginOcc n e.2 k g e.1) s

/-- May a stride of class and guard band be sent under R80? -/
def State.timeOk (s : State) (g : GaitImage) (d : Stride) : Bool :=
  if d.timeCls = 1 then s.firmOk (g.guardOf d) else s.hardOk (g.guardOf d)

/-- When a frame that is whole now leaves an output port: 48 ns later (R97), DT in 0.01 ns. -/
def State.relayAt (s : State) : Nat := s.wireNow + 4800

/-- The active transmit strides, each with its port and image, that name input `n` when a frame that is whole now leaves (R97); `spare` selects
the relay strides of a cover path. A stride whose stored word is bad, or which names a descriptor, relays nothing (R110, R157), nor does a
stopped gait. -/
def State.relayStrides (s : State) (n : Nat) (spare : Bool) : List (Nat × GaitImage × Stride) :=
  if s.swapState = 3 || s.noGait then [] else
  (List.range s.ports).filterMap fun q =>
    (s.activeImage q).bind fun g =>
      let at_ := (s.dtNs + 48) % max 1 g.period
      (g.strides.find? fun d => !d.rx && d.srcKind == 0 && d.src == n && d.cls != 2 && (d.cls == 3) == spare && !d.bad && d.desc == 0xFFF
        && decide (d.start ≤ at_) && decide (at_ < d.start + d.dur + d.slack)).map fun d => (q, g, d)

/-- The limit S + D − G + L of an output's footprint, DT in 0.01 ns, for a frame that leaves 48 ns from now (R86). -/
def State.relayEnd (s : State) (g : GaitImage) (d : Stride) : Nat :=
  let t := s.dtNs + 48
  (t - t % max 1 g.period + (d.start + d.dur - g.guardOf d + d.slack)) * 100

/-- Relay a frame in the strides of `l`, resealed by each port (R124): where domain time permits the class (R80, R85), and where it leaves within
the footprint's limit (R86). -/
def State.relay (s : State) (l : List (Nat × GaitImage × Stride)) (f : DataFrame) : State :=
  l.foldl (fun s e =>
    let t := max (s.link e.1).freeAt s.relayAt
    if s.timeOk e.2.1 e.2.2 && t + wireTime f.hdr.flits ≤ s.relayEnd e.2.1 e.2.2 then s.sendFrameAt e.1 t f else s) s

/-- A scheduled frame, neither LATE nor COVER, at a Post block: it feeds the reduce root of the receive stride that is open, and goes to every
output whose active transmit stride names the input (R97, R123, R157). -/
def State.acceptPostOwn (s : State) (n : Nat) (f : DataFrame) : State :=
  let l := s.relayStrides n false
  match s.rxNow n f.hdr.srcRank with
  | some (g, d, idx) => ((s.smearBy f (smearNo f)).joinRx n g d idx f).relay l f
  | none => if l.isEmpty then s.stray n else s.relay l f

/-- A scheduled frame at a Post block (R97, R123, R124). -/
def State.acceptPost (s : State) (n : Nat) (f : DataFrame) : State :=
  if f.hdr.late then
    match s.rxOpen n f.hdr.srcRank f.hdr.periodLo with
    | some (o, d) =>
      if s.station == some f.hdr.dstRank && (s.openStride n true).isSome then (s.smearBy f (smearNo f)).frameInto o d f else s.routeFrame f
    | none => s.routeFrame f
  else if f.hdr.cover then
    let l := s.relayStrides n true
    if l.isEmpty then s.routeFrame f else s.relay l f
  else s.acceptPostOwn n f

/-- A scheduled frame at a Mount block (R123). -/
def State.acceptMount (s : State) (n : Nat) (f : DataFrame) : State :=
  if f.hdr.late || f.hdr.cover then
    if !f.hdr.cover && (s.openStride n true).isNone then s.stray n else
    let p := if f.hdr.cover then f.hdr.coverPlane else n
    let s := if f.hdr.cover then s.beginAhead p f.hdr.srcRank f.hdr.periodLo else s
    match s.rxOpen p f.hdr.srcRank f.hdr.periodLo with
    | some (o, d) => (s.smearBy f (smearNo f)).frameInto o d f
    | none => s.stray n
  else
    match s.rxNow n f.hdr.srcRank with
    | some (g, d, idx) => (s.smearBy f (smearNo f)).joinRx n g d idx f
    | none => s.stray n

/-! ### The receive side -/

/-- Is a verified frame malformed (R123)? -/
def State.malformed (s : State) (n : Nat) (f : DataFrame) : Bool :=
  2 ≤ f.hdr.ftype || f.hdr.fver != s.rd (Page.lpt n) Reg.LPT_STATUS.LINK_VER || (f.hdr.sig && decide (2 < f.sigCode))

/-- A verified frame in sequence is accepted at link level (R117, R119). -/
def State.takeFrame (s : State) (n : Nat) (f : DataFrame) : State :=
  let l := s.link n
  let l := { l with rxNext := l.rxNext + 1, retryWait := false, ackDue := true }
  s.setLink n (if f.hdr.keyPh = l.rxEpoch % 2 then { l with rekeyRx := l.rekeyRx && l.rxNextKey.isSome }
    else { l with rxKey := l.rxNextKey, rxNextKey := none, rxEpoch := l.rxEpoch + 1, rekeyRx := false })

/-- A data frame (R119, R120, R123). DESIGN CHOICE (log entry of the RETRY causes): of several causes the first of FEC, check code, sequence number,
tag is named, and a spoiled frame is not looked at for being a duplicate. -/
def State.opFrame (n : Nat) (f : DataFrame) (chk : UnitCheck) (s : State) : State :=
  let l := s.link n
  let q := fullSeq l.rxNext f.hdr.seqLo
  let p := Page.lpt n
  if chk.fecBad then (s.fecBad n).beginRetry n 2
  else if chk.chkBad then s.beginRetry n 3
  else if q < l.rxNext then s.setLink n { l with ackDue := true }
  else if l.rxNext < q then s.beginRetry n 4
  else if !chk.tagOk || (f.hdr.keyPh != l.rxEpoch % 2 && l.rxNextKey.isNone) then
    ((s.inc p Reg.LPTn_TAG_FAIL_COUNT.COUNT).err p Err.lpt.TAG_FAIL { place := n, placeKind := 5 }).beginRetry n 1
  else
    let s := s.takeFrame n f
    if s.malformed n f then s.badFrame n else
    let s := s.cnt (if f.hdr.ftype = 1 then 5 else 3) f.data.length
    if f.hdr.ftype = 1 then s.acceptLoose n f
    else if s.boot.post then s.acceptPost n f
    else s.acceptMount n f

/-- DATA_FRAME_RECEIVE (R119, R120, R123). -/
def execDataFrameReceive (port : Nat) (f : DataFrame) (chk : UnitCheck) (s : State) : Res :=
  guarded (s.serving && s.portUp port) s (State.opFrame port f chk)

end Sys2Proof.Machine
end

