-- ==== Sys2Proof/Machine/Front.lean ====
section
/-! DEFINITION. The front end: doorbells (R295, R296), fetch (R298), the checks and the completion of packets (R300 to R305), launches and
their dispatch (R307, R320, R321), signals, waits, bindings, persistent tasks and stored graphs (R310 to R316, R336). -/

namespace Sys2Proof.Machine

/-! ### Queues -/

/-- Does the front region take part: in service and not in its region's reset? -/
def State.feUp (s : State) : Bool := s.serving

/-- The slice of a queue, and whether it is in service (R294, R323). -/
def sliceOf (q : Nat) : Nat := q / 1024
def State.sliceOk (s : State) (n : Nat) : Bool := bit (s.rd Page.fe Reg.FE_STATUS.SLICE_OK) n

/-- The function in whose range queue number `q` lies (R353). -/
def State.queueFn (s : State) (q : Nat) : Nat := (s.liveVfs.find? fun n => inRange (s.vfRange n .queue) q).getD 0

/-- Is negotiation complete (R57, R58)? -/
def State.negotiated (s : State) : Bool := s.rdb Page.ver Reg.VER_NEG.VALID

/-- Slots of a ring, slots between RPTR and WPTR. -/
def Queue.slots (x : Queue) : Nat := 2 ^ x.log2
def Queue.avail (x : Queue) : Nat := (x.wptr + 2 ^ 32 - x.rptr) % 2 ^ 32

/-- Create a queue: READY, or HELD while negotiation is pending, except queue 0 (R58, R305). -/
def State.createQueue (s : State) (q : Nat) (x : Queue) : State :=
  s.setQueue q (Queue.settle { x with state := .ready, rptr := 0, wptr := 0, negHold := q != 0 && !s.negotiated })

/-- End the host reads of a purpose and key. -/
def State.dropReads (s : State) (use key : Nat) : State :=
  { s with host := { s.host with reads := s.host.reads.filter fun e => !(e.2.1 == use && e.2.2.1 == key) } }

/-! ### Doorbells -/

/-- The queue of a page of a function's doorbell BAR (R295, R358). -/
def State.dbQueue (s : State) (p : Party) (page : Nat) : Option Nat :=
  match p with
  | .vf n => if page < (s.vfRange n .queue).2 then some ((s.vfRange n .queue).1 + page) else none
  | _ => if page < 8192 && s.queueFn page == 0 then some page else none

def State.dbStray (s : State) : State := s.inc Page.fe Reg.FE_DB_STRAY.COUNT

/-- A write of `v` to DB_WPTR of queue `q` (R296); it wakes a gated slice (R30). -/
def State.doorbell (s : State) (q v : Nat) : State :=
  let x := s.queue q
  if x.state = .absent then s.dbStray
  else if 2 ^ 31 ≤ (v + 2 ^ 32 - x.wptr) % 2 ^ 32 then s
  else if x.slots < (v + 2 ^ 32 - x.rptr) % 2 ^ 32 then (s.inc Page.fe Reg.FE_DB_RANGE_COUNT.COUNT).err Page.fe Err.fe.DB_RANGE { fn := x.fn, place := q, placeKind := 4 }
  else
    let s := s.wakeSlots [0x600 + sliceOf q]
    s.setQueue q { x with wptr := v }

/-- A write within a doorbell BAR; other accesses are stray (R295). -/
def State.dbAccess (s : State) (p : Party) (page off size : Nat) (v : W32) : State :=
  match s.dbQueue p page with
  | none => s.dbStray
  | some q =>
    if size = 4 ∧ off = 0 then s.doorbell q v.toNat
    else if size = 4 ∧ (off = 8 ∨ off = 12) then s
    else s.dbStray

/-- DOORBELL_WRITE: a VF's doorbells are ignored in OFF and FLR_HELD, and dropped from its quiesce to its release (R358 to R360). -/
def State.opDoorbell (p : Party) (page off size : Nat) (v : W32) (s : State) : State :=
  match p with
  | .vf n =>
    match s.vstate n with
    | 1 => s.dbAccess p page off size v
    | 0 => s
    | 4 => s
    | _ => (s.inc (Page.vf n) Reg.VFn_DB_DROP.COUNT).err (Page.vf n) Err.vf.DB_DROP { fn := n }
  | _ => s.dbAccess p page off size v
def execDoorbellWrite (p : Party) (page off size : Nat) (v : W32) (s : State) : Res :=
  guarded s.feUp s (State.opDoorbell p page off size v)

/-! ### Fetch -/

/-- Fetched packets of a queue that have not completed; the packets of a graph run are not fetched. -/
def State.inFlight (s : State) (q : Nat) : Nat := ((s.pktsOf q).filter fun e => e.2.graph.isNone).length

/-- Packet store slots in use in a slice. -/
def State.storeUsed (s : State) (slice : Nat) : Nat :=
  ((s.front.pkts.filter fun e => sliceOf e.2.queue == slice && e.2.graph.isNone).map fun e => 1 + e.2.xslots).foldl (· + ·) 0

/-- May queue `q` be fetched for (R298)? -/
def State.mayFetch (s : State) (q : Nat) (x : Queue) : Bool :=
  x.state == .ready && x.avail != 0 && (SMap.find? s.front.fetching q).isNone && s.inFlight q < 64
    && s.storeUsed (sliceOf q) + min 5 x.avail ≤ 4096

/-- The smallest number of a list that is above `a`, else the smallest. -/
def nextAfter (a : Nat) (l : List Nat) : Nat :=
  let up := l.filter (a < ·)
  match up with
  | [] => l.foldl min (l.headD 0)
  | b :: r => r.foldl min b

/-- The queue that slice `n` fetches for: the highest PRIO, in round robin within it. -/
def State.pickQueue (s : State) (n : Nat) : Option Nat :=
  let l := s.front.queues.filter fun e => sliceOf e.1 == n && s.mayFetch e.1 e.2
  let top := l.foldl (fun m e => max m e.2.prio) 0
  match l.filter fun e => e.2.prio == top with
  | [] => none
  | l => some (match SMap.find? s.front.served n with
    | some a => nextAfter a (l.map Prod.fst)
    | none => (l.map Prod.fst).foldl min ((l.map Prod.fst).headD 0))

/-- Host reads of at most four slots, none across the ring's end: for `n` slots from index `i`. -/
def fetchReads : Nat → Queue → Nat → Nat → List (Nat × Nat)
  | 0, _, _, _ => []
  | fuel + 1, x, i, n =>
    if n = 0 then [] else
    let k := min n (min 4 (x.slots - i % x.slots))
    (x.ring + 64 * (i % x.slots), 64 * k) :: fetchReads fuel x (i + k) (n - k)

/-- Issue the reads of the packet at RPTR. -/
def State.fetchFor (s : State) (q : Nat) : State :=
  let x := s.queue q
  let tag := s.host.nextTag
  let s := (fetchReads 5 x x.rptr (min 5 x.avail)).foldl (fun s r => s.hostRead x.fn r.1 r.2 Use.FETCH q) s
  { s with front := { s.front with fetching := SMap.set s.front.fetching q tag, served := SMap.set s.front.served (sliceOf q) q } }

/-- PACKET_FETCH (R298). -/
def State.opFetch (slice : Nat) (s : State) : State :=
  match s.pickQueue slice with
  | none => s
  | some q => s.fetchFor q
def execPacketFetch (slice : Nat) (s : State) : Res :=
  guarded (s.feUp && s.sliceOk slice && s.pins.linkUp && s.rdb Page.fe Reg.FE_CTRL.EN) s (State.opFetch slice)

/-- Write the status word of the packet at slot index `i` of queue `q` (R302). -/
def State.statusWord (s : State) (q i status flags detail : Nat) : State :=
  let x := s.queue q
  if !x.statEn then s else
  s.hostWrite x.fn (x.stat + 8 * (i % x.slots)) (leBytes 8 (status % 256 + flags % 16 * 2 ^ 8 + detail % 256 * 2 ^ 16 + i % 2 ^ 32 * 2 ^ 32))

/-- Count a completed packet (R323). -/
def State.countPkt (s : State) : State :=
  s.wrPair Page.fe Reg.FE_PKT_COUNT_LO.COUNT Reg.FE_PKT_COUNT_HI.COUNT
    (s.rdPair Page.fe Reg.FE_PKT_COUNT_LO.COUNT Reg.FE_PKT_COUNT_HI.COUNT + 1) |>.cnt 10 1

/-- The packet at RPTR is refused at steps 0 to 5: its status word is written before the queue's vector is raised (R301, R302). -/
def State.refusePkt (s : State) (q status : Nat) : State :=
  let i := (s.queue q).rptr
  (((s.inc Page.fe Reg.FE_REFUSE_COUNT.COUNT).statusWord q i status 0 0).stopQueue q status).countPkt

/-- A packet as it enters the store. -/
def Pkt.fresh (q idx fn : Nat) (l : List Byte) : Pkt :=
  { queue := q, idx := idx, bytes := l, fn := fn, started := false, performed := false, result := none, detail := 0, flags := 0,
    noFence := false, ended := .none, order := 0, at_ := 0, launch := none, moved := 0, opsOut := 0, bad := 0, graph := none,
    graphPos := 0, graphVer := none, msgId := 0, waited := false }

/-- Put a packet into the store. -/
def State.addPkt (s : State) (x : Pkt) : State :=
  { s with front := { s.front with pkts := SMap.set s.front.pkts s.front.nextPkt x, nextPkt := s.front.nextPkt + 1 } }

/-- The packet at RPTR passes: it enters the store, RPTR advances and is written back (R298). -/
def State.storePkt (s : State) (q : Nat) (l : List Byte) : State :=
  let x := s.queue q
  let n := 1 + bits (ofLe (slice l 0 8)) 12 3
  let r := (x.rptr + n) % 2 ^ 32
  let s := (s.addPkt (Pkt.fresh q x.rptr x.fn (slice l 0 (64 * n)))).setQueue q { x with rptr := r }
  if x.wbEn then s.hostWrite x.fn x.wb (leBytes 8 r) else s

/-- A fetch of queue `q` ends. -/
def State.endFetch (s : State) (q : Nat) : State :=
  let s := s.dropReads Use.FETCH q
  { s with
    front := { s.front with fetching := SMap.erase s.front.fetching q }
    host := { s.host with got := s.host.got.filter fun e => e.1 != q } }

/-- The packet at RPTR of queue `q` has come, or its read has failed (R298, R300, R301). A queue that has left READY reads it again. -/
def State.opFetched (q : Nat) (ok : Bool) (l : List Byte) (s : State) : State :=
  if (SMap.find? s.front.fetching q).isNone then s else
  let s := s.endFetch q
  let x := s.queue q
  if x.state ≠ .ready ∨ x.avail = 0 then s else
  let st := if ok then formatStatus s.boot.post x.kernel x.fn x.bind (s.rd Page.ver Reg.VER_FORMATS.PKT) x.avail l else 0x15
  if st = 0 then s.storePkt q l else s.refusePkt q st
def execFetchComplete (q : Nat) (ok : Bool) (l : List Byte) (s : State) : Res := guarded s.feUp s (State.opFetched q ok l)

/-! ### Start -/

/-- The packets of the queue before packet `p`. -/
def State.before (s : State) (p : Nat) (x : Pkt) : List (Nat × Pkt) := (s.pktsOf x.queue).filter fun e => pktKey e < pktKey (p, x)

/-- Is a packet in an occurrence's hands? -/
def State.inOcc (s : State) (p : Nat) : Bool := s.gait.occs.any fun o => o.pkt == some p

/-- The order conditions of R304, R313 and R317. -/
def State.orderOk (s : State) (p : Nat) (x : Pkt) : Bool :=
  let l := s.before p x
  let q := s.queue x.queue
  l.all (fun e => e.2.started && (e.2.opcode != 0x0B || e.2.performed || e.2.result.isSome))
    && (!x.barrier || (l.filter fun e => some e.1 != x.graph).isEmpty)
    && (l.all fun e => e.2.opcode != 0x06 && e.2.opcode != 0x07)
    && (!q.kernel || l.isEmpty)
    && (q.bind != 1 || !([0x05, 0x06, 0x07].contains x.opcode)
        || l.all fun e => !([0x03, 0x04].contains e.2.opcode) || s.inOcc e.1 || e.2.ended != .none)

/-- May function `fn` name fence `f`, owned by `ctx` when given? None when it may; else whether its descriptor fails R327. -/
def State.fenceFault (s : State) (fn f : Nat) (ctx : Option Nat) : Option Bool :=
  if !s.owns fn .fence f then some false
  else if !s.fenceChecked fn f then some true
  else if s.fenceDying f || (ctx.map fun c => c != s.fenceCtx f).getD false then some false
  else none

/-- The sequencers present that two AFFINITY words permit, with their free credits (R307, R316). -/
def State.permitted (s : State) (a b : Nat) : List (Nat × Nat) :=
  (s.front.seqs.filter fun e => e.2.present && (a == 0 || bit a e.1) && (b == 0 || bit b e.1)).map fun e => (e.1, e.2.credits)

/-- AFFINITY of the graph run that a packet belongs to. -/
def State.graphAff (s : State) (x : Pkt) : Nat :=
  match x.graph.bind s.pkt with
  | some g => g.f 48 8
  | none => 0

/-- The sequencers that a LAUNCH or PERSIST may go to, and how many it needs. -/
def State.seqsFor (s : State) (x : Pkt) : List (Nat × Nat) := s.permitted (x.f 48 8) (s.graphAff x)
def Pkt.width (x : Pkt) : Nat := if x.opcode = 0x09 then 1 else x.f 60 1

/-- The handle of Q or TQ names a user queue of the function that is not going away. -/
def State.userQueueOf (s : State) (fn q : Nat) : Bool :=
  let x := s.queue q
  x.state != .absent && x.state != .draining && !x.kernel && x.fn == fn

/-- Step 6 of R300: none when every handle passes, else DETAIL and the page whose DESC_CHECK is set. -/
def State.step6 (s : State) (x : Pkt) : Option (Nat × Option Page) :=
  let q := s.queue x.queue
  let ctx := if q.kernel then none else some q.ctx
  let fence := fun (f : Nat) (own : Option Nat) (d : Nat) => (s.fenceFault x.fn f own).map fun b => (d, if b then some Page.fns else none)
  let here : Option (Nat × Option Page) := if q.kernel || s.objs.slots.any (·.ctx == q.ctx) || s.ctxChecked x.fn q.ctx then none else some (0, some Page.ctxs)
  here.or (((if x.cplEn then fence x.cplFence ctx 4 else none)).or
  (match x.opcode with
  | 0x02 => if (s.seqsFor x).length < x.width then some (48, none) else none
  | 0x05 => if bit (x.f 8 8) 0 then fence (bits (x.f 8 8) 32 16) ctx 12 else none
  | 0x06 => fence (x.f 8 2) none 8
  | 0x07 => fence (x.f 8 2) none 8
  | 0x08 => if x.f 10 1 = 3 ∨ s.userQueueOf x.fn (x.f 8 2) = true then none else some (8, none)
  | 0x09 => if s.userQueueOf x.fn (x.f 60 2 % 8192) then (if (s.seqsFor x).length < 1 then some (48, none) else none) else some (60, none)
  | 0x0B =>
    let h := x.f 8 4 % 2 ^ 18
    if !s.owns x.fn .obj h then some (8, none)
    else if !s.objChecked x.fn h then some (8, some Page.ctxs)
    else if s.objState h ≠ 0 ∨ s.objGraph h = false ∨ bit (s.objW h 6) (1 + bits (s.objW h 6) 0 1) = false then some (8, none) else none
  | _ => none))

/-- Can a WAIT or TAKE on fence `f` have a slot: resident, a free slot, or a victim (R342)? -/
def State.slotFor (s : State) (f : Nat) : Bool :=
  (s.fenceSlot f).isSome || s.objs.fences.length < 64 || s.fenceVictim.isSome

/-- Count a packet's wait for a slot once. -/
def State.countWait (s : State) (p : Nat) (pg : Page) (f : Field) : State :=
  match s.pkt p with
  | some x => if x.waited then s else (s.setPkt p { x with waited := true }).inc pg f
  | none => s

/-- DETAIL of a QUEUE_CTL whose OP is none of the five: Q first, then OP (R318). -/
def State.badCtl (s : State) (x : Pkt) : Option Nat :=
  if x.opcode = 0x44 ∧ (x.f 10 1 = 0 ∨ 5 < x.f 10 1) then some (if s.userQueueOf x.fn (x.f 8 2 % 8192) then 2 else 1) else none

/-- Pin the current version of the graph that a GRAPH_RUN names, and take the run's reference (R336). -/
def State.pinGraph (s : State) (p : Nat) (x : Pkt) : State :=
  let h := x.f 8 4 % 2 ^ 18
  let w := s.objW h 6
  let v := bits w 0 1
  let s := ((s.inc Page.ctxs Reg.CTXS_WALKS.COUNT).putW (s.objOff h 6) (w + 2 ^ (16 + 16 * v)) 8).putW (s.objOff h 3) (s.objW h 3 + 1) 8
  s.modPkt p fun x => { x with graphVer := some v }

/-- The packet starts: step 6 decides whether an engine takes it up (R300, R301). A GRAPH_RUN pins its version (R336). -/
def State.startPkt (s : State) (p : Nat) (x : Pkt) : State :=
  let s := { s with front := { s.front with nextOrder := s.front.nextOrder + 1 } }
  let s := s.setPkt p { x with started := true, order := s.front.nextOrder, at_ := s.now }
  match s.step6 x with
  | some (d, pg) =>
    let s := match pg with
      | some g => s.err g (if g.fam == Fam.fns then Err.fns.DESC_CHECK else Err.ctxs.DESC_CHECK) { fn := x.fn }
      | none => s
    ((s.modPkt p fun x => { x with noFence := d == 4 }).inc Page.fe Reg.FE_REFUSE_COUNT.COUNT).finish p St.BAD_HANDLE d
  | none =>
    match s.badCtl x with
    | some d => s.finish p St.REFUSED d
    | none => if x.opcode = 0x0B then s.pinGraph p x else s

/-- PACKET_START (R304, R330, R342): the context takes its slot first, once its descriptor has passed R327; a packet that finds none free does
not start. Kernel packets need the control cores. A start whose access to a descriptor must wait is tried again (R269, R271). -/
def State.opStart (p : Nat) (s : State) : State :=
  match s.pkt p with
  | none => s
  | some x =>
    let q := s.queue x.queue
    if x.started || x.result.isSome || q.state != .ready || !s.orderOk p x then s
    else if q.kernel then (if !s.boot.svcHalted then s.startPkt p x else s)
    else if (x.opcode == 0x06 || x.opcode == 0x07) && s.owns x.fn .fence (x.f 8 2) && !s.slotFor (x.f 8 2) then
      s.countWait p Page.fns Reg.FNS_SLOT_WAIT.COUNT
    else if !(s.objs.slots.any (·.ctx == q.ctx)) && !s.ctxChecked x.fn q.ctx then s.startPkt p x
    else match s.loadCtx q.ctx with
      | none => s.countWait p Page.ctxs Reg.CTXS_RES_WAIT.COUNT
      | some s => s.startPkt p x
def execPacketStart (p : Nat) (s : State) : Res := guarded (s.feUp && (s.boot.post || s.memOpen)) s fun s => s.orWait (State.opStart p)

/-! ### Completion -/

/-- The error that a packet's status gives its fence (R302, R341). -/
def cplErr (status : Nat) : Option Nat :=
  if status = St.OK ∨ status = 0x20 ∨ status = St.CANCELLED then none else some ((0x80 + status) % 256)

/-- Advance the completion fence (R302); one that may not be named advances nothing. -/
def State.advanceCpl (s : State) (x : Pkt) (status : Nat) : State :=
  let q := s.queue x.queue
  if x.cplEn && !x.noFence && (s.fenceFault x.fn x.cplFence (if q.kernel then none else some q.ctx)).isNone then
    s.applyFence x.cplFence x.cplInc (cplErr status)
  else s

/-- Does VF `n` still hold a queue? -/
def State.vfBusy (s : State) (n : Nat) : Bool := s.front.queues.any fun e => e.2.fn == n && e.2.state != .absent

/-- The queue's last packet has been retired: a DRAINING queue is ABSENT, and its QUEUE_DESTROY completes (R305, R344). -/
def State.retireQueue (s : State) (q : Nat) : State :=
  let x := s.queue q
  if x.state ≠ .draining ∨ (s.pktsOf q).isEmpty = false then s else
  let s := s.setQueue q Queue.absent
  let s := if x.kernel then s else s.ctxCount x.ctx 1 0 false
  match x.destroyer with
  | some p => s.finish p St.OK
  | none => s

/-- Drop a pin of version `v` of a graph and the run's reference (R336). -/
def State.unpin (s : State) (h v : Nat) : State :=
  let w := s.objW h 6
  (s.putW (s.objOff h 6) (if bits w (16 + 16 * v) 16 = 0 then w else w - 2 ^ (16 + 16 * v)) 8).dropRef h

/-- A packet of a graph run has completed: the run's status is the first failing one in graph order; the run ends with its last packet
(R336). -/
def State.graphPart (s : State) (g pos status : Nat) : State :=
  match s.pkt g with
  | none => s
  | some x =>
    let code := if status = 0 then x.bad else
      let c := (pos + 1) * 256 + status
      if x.bad = 0 then c else min c x.bad
    let s := s.setPkt g { x with bad := code }
    if s.front.pkts.any fun e => e.2.graph == some g then s
    else s.finish g (code % 256)

/-- A packet whose effects are complete completes (R302): status word, fence, MSI-X; its place in the store is free; a GRAPH_RUN drops its pin and
its reference (R336). -/
def State.opComplete (p : Nat) (s : State) : State :=
  match s.pkt p with
  | none => s
  | some x =>
    match x.result with
    | none => s
    | some st =>
      let live := (x.launch.map fun id => (SMap.find? s.front.launches id).isSome).getD false
      if x.opsOut ≠ 0 ∨ live = true ∨ s.inOcc p = true then s else
      let q := s.queue x.queue
      let s := if x.graph.isSome then s else s.statusWord x.queue x.idx st x.flags x.detail
      let s := s.advanceCpl x st
      let s := if x.irq then s.emit (.msix q.fn q.vec) else s
      let s := (s.dropReads Use.COPY p).countPkt
      let s := { s with front := { s.front with pkts := SMap.erase s.front.pkts p } }
      let s := match x.graphVer with
        | some v => s.unpin (x.f 8 4 % 2 ^ 18) v
        | none => s
      let s := match x.graph with
        | some g => s.graphPart g x.graphPos st
        | none => s
      s.retireQueue x.queue
def execPacketComplete (p : Nat) (s : State) : Res := guarded s.feUp s fun s => s.orWait (State.opComplete p)

/-- NOP (R317). -/
def execNop (p : Nat) (s : State) : Res := s.perform p 0x01 fun _ s => s.finish p St.OK

/-! ### Launches (R307) -/

/-- Order by most credits, then lowest number. -/
def insertSeq (e : Nat × Nat) : List (Nat × Nat) → List (Nat × Nat)
  | [] => [e]
  | a :: r => if a.2 < e.2 ∨ (a.2 = e.2 ∧ e.1 < a.1) then e :: a :: r else a :: insertSeq e r

/-- The sequencers chosen for `n` parts, by number; none when too few have a free credit. -/
def chooseSeqs (l : List (Nat × Nat)) (n : Nat) : Option (List Nat) :=
  let free := (l.filter fun e => 0 < e.2).foldl (fun r e => insertSeq e r) []
  if free.length < n then none else some ((free.take n).foldl (fun r e => insertUp r e.1) [])

/-- Sequencer `k`. -/
def State.seq (s : State) (k : Nat) : Seq := SMap.getD s.front.seqs Seq.empty k
def State.setSeq (s : State) (k : Nat) (x : Seq) : State :=
  { s with front := { s.front with seqs := SMap.put s.front.seqs Seq.empty k x } }

/-- Is the packet a persistent task? -/
def Pkt.persist (x : Pkt) : Bool := x.opcode == 0x09

/-- The target queue of a PERSIST. -/
def Pkt.target (x : Pkt) : Nat := x.f 60 2 % 8192

/-- Dispatch a launch to sequencers: a credit of each, a DISPATCH to each (R307, R321). -/
def State.dispatch (s : State) (p : Nat) (x : Pkt) (ks : List Nat) : State :=
  let id := s.front.nextLaunch
  let gen := s.rd Page.fe Reg.FE_GEN.GEN
  let c := s.pktCtx x
  let s := s.cnt 11 1
  let s := ks.foldl (fun s k => s.setSeq k { s.seq k with credits := (s.seq k).credits - 1 }) s
  let s := s.emits (ks.zipIdx.map fun e => .dispatch e.1 gen c id e.2 ks.length x.persist x.bytes)
  let l : Launch := { pkt := p, ctx := c, gen := gen, parts := ks, got := [], persist := x.persist, at_ := s.now, wdFired := false }
  let s := { s with front := { s.front with nextLaunch := (id + 1) % 2 ^ 32, launches := SMap.set s.front.launches id l } }
  let s := s.setPkt p { x with launch := some id }
  if x.persist then s.setQueue x.target { s.queue x.target with bind := 3 } else s

/-- LAUNCH: it waits for its credits (R307). -/
def execLaunch (p : Nat) (s : State) : Res := s.perform p 0x02 fun _ s => s

/-- May launches be dispatched: not stopped (R228), no compute-only reset or replay (R443, R447)? -/
def State.mayDispatch (s : State) : Bool := !s.sync.stopped && s.istate == 0

/-- May a PERSIST have its target queue: of its context, unbound, with no fetched packet outstanding (R315)? -/
def State.targetFree (s : State) (x : Pkt) : Bool :=
  let t := s.queue x.target
  t.ctx == s.pktCtx x && t.bind == 0 && (s.pktsOf x.target).isEmpty

/-- LAUNCH_DISPATCH (R307): of a LAUNCH, or of the task of a PERSIST, whose target queue is bound to it then (R315). -/
def State.opDispatch (p : Nat) (s : State) : State :=
  match s.pkt p with
  | none => s
  | some x =>
    if (x.opcode != 0x02 && x.opcode != 0x09) || !x.performed || x.ended != .none || x.launch.isSome || !s.mayDispatch then s else
    if x.persist && !s.targetFree x then s.finish p St.BUSY else
    match chooseSeqs (s.seqsFor x) x.width with
    | none => s
    | some ks => s.dispatch p x ks
def execLaunchDispatch (p : Nat) (s : State) : Res := guarded (s.feUp && s.memOpen) s (State.opDispatch p)

/-- PERSIST (R315). -/
def State.opPersist (p : Nat) (x : Pkt) (s : State) : State :=
  if s.targetFree x then s else s.finish p St.BUSY
def execPersist (p : Nat) (s : State) : Res := s.perform p 0x09 (State.opPersist p)

/-- The persistent task that queue `q` feeds. -/
def State.taskOf (s : State) (q : Nat) : Option (Nat × Launch) :=
  s.front.launches.find? fun e => e.2.persist && ((s.pkt e.2.pkt).map fun x => x.target == q).getD false

/-- Deliver a TASK_MSG to its task: after the earlier ones, while the task runs in the current generation (R315). -/
def State.opTaskMsg (p : Nat) (x : Pkt) (s : State) : State :=
  match s.taskOf x.queue with
  | none => s
  | some (id, l) =>
    let n := s.front.nextMsg
    let s := { s with front := { s.front with nextMsg := (n + 1) % 2 ^ 32 } }
    (s.setPkt p { x with performed := true, msgId := n }).emits
      (l.parts.map fun k => .msg k l.gen id n (slice x.bytes 16 (x.f 8 2)))

/-- Is packet `p` the suspect under replay (R447)? -/
def State.underReplay (s : State) (p : Nat) : Bool :=
  ((s.faults.current.bind fun i => s.faults.suspects[i]?).map fun u => u.slot == p).getD false

/-- May the TASK_MSG be delivered now? A task under replay takes its messages once it is cleared (R445). -/
def State.msgReady (s : State) (p : Nat) (x : Pkt) : Bool :=
  ((s.taskOf x.queue).map fun e => e.2.gen == s.rd Page.fe Reg.FE_GEN.GEN && s.istate != 1 && !s.underReplay e.2.pkt).getD false
    && (s.before p x).all fun e => e.2.opcode != 0x0A || e.2.performed || e.2.result.isSome
def State.opTaskMsgAt (p : Nat) (s : State) : State :=
  match s.pkt p with
  | some x => if s.ready p 0x0A && s.msgReady p x then s.opTaskMsg p x else s
  | none => s
def execTaskMsg (p : Nat) (s : State) : Res := .next (State.opTaskMsgAt p s)

/-! ### Signals and waits -/

/-- SIGNAL (R310). -/
def State.opSignal (p : Nat) (x : Pkt) (s : State) : State :=
  let b := x.f 8 8
  let st := bits b 1 4
  let s := if bit b 0 then s.applyFence (bits b 32 16) (x.f 16 4) (if st = 2 then some 0x03 else none)
    else s.applySignal (bits b 16 12) st
  s.finish p St.OK
def execSignal (p : Nat) (s : State) : Res := s.perform p 0x05 (State.opSignal p)

/-- Waiters stand in the order in which they started (R340). -/
def insertWaiter (w : Waiter) : List Waiter → List Waiter
  | [] => [w]
  | a :: r => if w.order < a.order then w :: a :: r else a :: insertWaiter w r
def State.addWaiter (s : State) (w : Waiter) : State := { s with front := { s.front with waiters := insertWaiter w s.front.waiters } }

/-- Test a WAIT or TAKE whose fence is resident: it completes at once or waits (R340, R341). -/
def State.testWait (s : State) (p : Nat) (x : Pkt) : State :=
  let f := x.f 8 2
  let take := x.opcode == 0x07
  let v := s.fenceNow f
  match v.2.2 with
  | some c => s.finish p St.FENCE_ERROR c
  | none =>
    if x.f 16 8 ≤ v.1 && (!take || 0 < v.2.1) then
      (if take then s.fencePut f v.1 (v.2.1 - 1) none else s).finish p St.OK
    else
      s.addWaiter { pkt := p, fence := f, value := x.f 16 8, take := take, order := x.order }

/-- A WAIT or TAKE takes a slot for its fence, when one is free or it is resident; else the victim is chosen by the mode (R342). -/
def State.opWait (p : Nat) (x : Pkt) (s : State) : State :=
  let f := x.f 8 2
  if (s.fenceSlot f).isSome then (s.useFence f).testWait p x
  else if s.objs.fences.length < 64 then (s.fillFence f).testWait p x
  else if s.hostMode 5 then
    let first := s.front.slotWait.isEmpty
    let s := ({ s with front := { s.front with slotWait := s.front.slotWait ++ [p] } }).showNr
    if first then s.haPost 5 else s
  else match s.fenceVictim with
    | some v => ((s.evictFence v).fillFence f).testWait p x
    | none => s.setPkt p { x with performed := false }
def execWait (p : Nat) (s : State) : Res := s.perform p 0x06 (State.opWait p)
def execTake (p : Nat) (s : State) : Res := s.perform p 0x07 (State.opWait p)

/-- The first waiting packet gets the slot of victim `v`; the next one is shown. -/
def State.giveSlot (s : State) (v : Nat) : State :=
  match s.front.slotWait with
  | [] => s
  | p :: r =>
    let s := { s with front := { s.front with slotWait := r } }
    let s := match s.pkt p with
      | some x =>
        if x.ended != EndWord.none then s
        else if (s.fenceSlot (x.f 8 2)).isSome then s.testWait p x
        else ((s.evictFence v).fillFence (x.f 8 2)).testWait p x
      | none => s
    let s := (s.showNr).haClear 5
    if s.front.slotWait.isEmpty then s else s.haPost 5

/-- FNS_EVICT (R342): a fence with waiters, or one not resident, is ignored. -/
def State.opEvict (f : Nat) (s : State) : State :=
  if (s.fenceSlot f).isSome && (s.waitersOf f).isEmpty && !s.front.slotWait.isEmpty then s.giveSlot f else s
def execFnsEvict (p : Party) (f : Nat) (s : State) : Res := s.action p Page.fns fun s => s.assisted (.fnsEvict p f) (State.opEvict f)

/-- WAIT_TIMEOUT (R311): TIMEOUT_US has passed for a WAIT or TAKE that has started, whatever it waits for. -/
def State.opWaitTimeout (p : Nat) (s : State) : State :=
  match s.pkt p with
  | none => s
  | some x =>
    if (x.opcode == 0x06 || x.opcode == 0x07) && x.started && x.ended == .none && x.f 24 4 != 0 then
      (((s.finish p St.TIMEOUT).dropWaiters [p]).dropSlotWait p).testFence (x.f 8 2)
    else s
def execWaitTimeout (p : Nat) (s : State) : Res := guarded s.feUp s (State.opWaitTimeout p)

/-! ### Bindings (R312) -/

/-- Would function `fn` exceed BINDS with one binding more (R353)? -/
def State.bindsFull (s : State) (fn : Nat) : Bool :=
  fn != 0 && s.rd (Page.vf fn) Reg.VFn_LIMITS.BINDS ≤ s.rd (Page.vf fn) Reg.VFn_USE0.BINDS

/-- QUOTA: the packet completes with it and the VF's page counts it (R353). -/
def State.quota (s : State) (p fn : Nat) : State :=
  ((s.inc (Page.vf fn) Reg.VFn_QUOTA_REFUSE.COUNT).err (Page.vf fn) Err.vf.QUOTA { fn := fn }).finish p St.QUOTA

/-- Is a queue bound to the gait? -/
def Queue.gaitBound (x : Queue) : Bool := x.bind == 1 || x.bind == 2

/-- Bind or unbind a queue. -/
def State.bindQueue (s : State) (p : Nat) (x : Pkt) (q mode : Nat) : State :=
  let y := s.queue q
  if y.ctx ≠ s.pktCtx x ∨ y.bind = 3 ∨ (s.pktsOf q).isEmpty = false then s.finish p St.BUSY
  else if mode ≠ 0 ∧ y.bind = 0 ∧ s.bindsFull x.fn = true then s.quota p x.fn
  else
    let s := if (mode ≠ 0) = (y.bind ≠ 0) then s else s.useAdd x.fn Reg.VFn_USE0.BINDS (mode ≠ 0)
    (s.setQueue q { y with bind := mode }).finish p St.OK

/-- Bind a gait ring to the context. -/
def State.bindRing (s : State) (p : Nat) (x : Pkt) (r : Nat) : State :=
  let c := s.pktCtx x
  match SMap.find? s.front.rings r with
  | some d => if d = c then s.finish p St.OK else s.finish p St.BUSY
  | none =>
    if s.bindsFull x.fn then s.quota p x.fn else
    let s := { s with front := { s.front with rings := SMap.set s.front.rings r c } }
    (s.useAdd x.fn Reg.VFn_USE0.BINDS true).finish p St.OK

/-- GAIT_BIND. -/
def State.opGaitBind (p : Nat) (x : Pkt) (s : State) : State :=
  if x.f 10 1 = 3 then s.bindRing p x (x.f 11 1) else s.bindQueue p x (x.f 8 2) (x.f 10 1)
def execGaitBind (p : Nat) (s : State) : Res := s.perform p 0x08 (State.opGaitBind p)

/-- Unbind a ring. -/
def State.unbindRing (s : State) (r : Nat) : State :=
  match SMap.find? s.front.rings r with
  | none => s
  | some c => ({ s with front := { s.front with rings := SMap.erase s.front.rings r } }).useAdd (s.ctxFn c) Reg.VFn_USE0.BINDS false
def execRingUnbind (p : Party) (ring : Nat) (s : State) : Res := s.action p Page.fe fun s => s.unbindRing ring

/-! ### Stored graphs (R335, R336) -/

/-- The packets of a sequence of slots: fuel, slots left. -/
def cutPackets : Nat → List Byte → List (List Byte)
  | 0, _ => []
  | fuel + 1, l =>
    if l.length < 64 then [] else
    let n := 64 * (1 + bits (ofLe (slice l 0 8)) 12 3)
    slice l 0 n :: cutPackets fuel (l.drop n)

/-- GRAPH_RUN: the packets of the version that it pinned at its start take the issuing queue's order. -/
def State.opGraphRun (p : Nat) (x : Pkt) (s : State) : State :=
  let h := x.f 8 4 % 2 ^ 18
  let v := x.graphVer.getD 0
  let n := bits (s.objW h 7) (16 * v) 13
  let r := s.readPhys (s.objBase h + v * (s.objSize h / 2)) (64 * n)
  let s := r.2.2
  let ps := cutPackets n r.1
  if r.2.1 ≠ 0 ∨ ps.isEmpty then s.finish p (if r.2.1 = 0 then St.OK else St.POISON)
  else ps.zipIdx.foldl (fun s e => s.addPkt { Pkt.fresh x.queue x.idx x.fn e.1 with graph := some p, graphPos := e.2 }) s
def execGraphRun (p : Nat) (s : State) : Res := s.perform p 0x0B (State.opGraphRun p)

/-! ### Kernel queues (R294, R305, R323, R362) -/

/-- Create the kernel queue of a function from its registers, with the CFG field access of its page. -/
def State.kernelQueue (s : State) (fn : Nat) : State :=
  let p := if fn = 0 then Page.fe else Page.vf fn
  let rd := fun (a b : Field) => s.rd p (if fn = 0 then a else b)
  let pair := fun (a b c d : Field) => rd a c + 2 ^ 32 * rd b d
  let q := if fn = 0 then 0 else (s.vfRange fn .queue).1
  if (s.queue q).state ≠ .absent then s else
  s.createQueue q { Queue.absent with
    kernel := true, fn := fn
    ring := pair Reg.FE_KQ_RING_LO.ADDR Reg.FE_KQ_RING_HI.ADDR Reg.VFn_KQ_RING_LO.ADDR Reg.VFn_KQ_RING_HI.ADDR / 4096 * 4096
    log2 := rd Reg.FE_KQ_CFG.LOG2_SLOTS Reg.VFn_KQ_CFG.LOG2_SLOTS
    stat := pair Reg.FE_KQ_STAT_LO.ADDR Reg.FE_KQ_STAT_HI.ADDR Reg.VFn_KQ_STAT_LO.ADDR Reg.VFn_KQ_STAT_HI.ADDR
    wb := pair Reg.FE_KQ_WB_LO.ADDR Reg.FE_KQ_WB_HI.ADDR Reg.VFn_KQ_WB_LO.ADDR Reg.VFn_KQ_WB_HI.ADDR
    statEn := rd Reg.FE_KQ_CFG.STAT_EN Reg.VFn_KQ_CFG.STAT_EN != 0
    wbEn := rd Reg.FE_KQ_CFG.WB_EN Reg.VFn_KQ_CFG.WB_EN != 0
    vec := rd Reg.FE_KQ_CFG.VEC Reg.VFn_KQ_CFG.VEC, prio := 3, budget := 65535 }

/-- LOG2_SLOTS as stored: 4 to 16, else 8. -/
def kqLog2 (v : W32) : Nat := if 4 ≤ fieldOf v 0 5 ∧ fieldOf v 0 5 ≤ 16 then fieldOf v 0 5 else 8

/-- Does a write of VFn_KQ_CFG set EN with a VEC at or above VEC_COUNT? -/
def State.badVec (s : State) (fn : Nat) (v : W32) : Bool :=
  fn != 0 && decide (s.rd (Page.vf fn) Reg.VFn_LIMITS.VEC_COUNT ≤ fieldOf v 8 11) && v.getLsbD 7

/-- A KQ_CFG register as a write of `v` stores it. -/
def State.kqWord (s : State) (fn : Nat) (v : W32) : W32 :=
  BitVec.ofNat 32 (kqLog2 v + fieldOf v 5 2 * 2 ^ 5 + (if s.badVec fn v then 0 else fieldOf v 7 1) * 2 ^ 7 + fieldOf v 8 11 * 2 ^ 8)

/-- The page that holds a function's KQ registers, and the offset of its KQ_CFG. -/
def kqPage (fn : Nat) : Page := if fn = 0 then Page.fe else Page.vf fn
def kqBase (fn : Nat) : Nat := (kqPage fn).base + (if fn = 0 then 0x2C else 0x68)

/-- A write of a KQ_CFG register: EN creates the kernel queue. A VF's EN is acted on in LIVE alone, and needs a VEC below its count. -/
def State.opKq (fn : Nat) (v : W32) (s : State) : State :=
  let w := s.kqWord fn v
  let s := if s.badVec fn v then (s.setReg (kqBase fn) w).err (kqPage fn) Err.RSVD_VALUE else s.setReg (kqBase fn) w
  if w.getLsbD 7 ∧ (fn = 0 ∨ s.vstate fn = 1) then s.kernelQueue fn else s
def execKqEnable (p : Party) (fn : Nat) (v : W32) (s : State) : Res :=
  s.action p (kqPage fn) fun s => s.unlocked (kqPage fn) (s.kqWord fn v != s.reg (kqBase fn)) (State.opKq fn v)

end Sys2Proof.Machine
end

