-- ==== Sys2Proof/Machine/Mover.lean ====
section
/-! DEFINITION. The mover and the local contribution of a reduce: COPY (R308) and REDUCE (R309). Lines of local memory that the herd may hold
are made ready first (R198); a write into a transactional region waits while the step is not RUNNING (R224). -/

namespace Sys2Proof.Machine

/-! ### COPY -/

/-- The status with which a COPY is refused as a whole, 0 when none (R308). -/
def State.copyStatus (s : State) (x : Pkt) : Nat :=
  let a := s.copySrc x
  let b := s.copyDst x
  if (sideFar a && sideFar b) || (a.isNone && b.isNone) then St.UNSUPPORTED
  else if sideBad a || sideBad b then St.BAD_ADDRESS
  else if (sideFar a || sideFar b) && x.f 24 5 % 8 != 0 then St.ALIGN else 0

/-- The lines of the COPY's local sides are ready, or their snoops are on their way. -/
def State.copyLines (s : State) (x : Pkt) : Bool × State :=
  let len := x.f 24 5
  let side := fun (r : Bool × State) (d : Option Dest) (w : Bool) =>
    match sideOff d with
    | some off =>
      let k := r.2.prepLines (r.2.herdLines off len) w
      (r.1 && k.1, k.2)
    | none => r
  side (side (true, s) (s.copySrc x) false) (s.copyDst x) true

/-- Must the COPY wait for the step (R224), or for the memory of a local side (R269, R271)? -/
def State.copyHeld (s : State) (x : Pkt) : Bool :=
  (s.holding && ((sideOff (s.copyDst x)).map fun off => (pieces off (x.f 24 5)).any fun e => s.isTx e.1).getD false)
    || ((sideOff (s.copySrc x)).map fun off => s.rangeHeld 0 off (x.f 24 5)).getD false
    || ((sideOff (s.copyDst x)).map fun off => s.rangeHeld 1 off (x.f 24 5)).getD false

/-- Move the rest of a COPY whose source is local, piece by piece: fuel, place, poison seen so far. A refused piece ends it. -/
def State.moverLocal : Nat → Nat → Pkt → Nat → Nat → Bool → State → State
  | 0, p, x, _, _, seen, s => s.moverEnd p x (if seen then St.POISON else St.OK)
  | fuel + 1, p, x, src, at_, seen, s =>
    let len := x.f 24 5
    if len ≤ at_ then s.moverEnd p x (if seen then St.POISON else St.OK) else
    let n := min moverPiece (len - at_)
    let a := s.readAs (s.ctxMaster (s.pktCtx x)) (src + at_) n
    if a.status ≠ St.OK ∧ a.status ≠ St.POISON then a.st.moverEnd p x a.status else
    let w := a.st.moverWrite x at_ a.data a.poison
    if w.1 ≠ St.OK then w.2.moverEnd p x w.1
    else State.moverLocal fuel p x src (at_ + n) (seen || a.poison != 0) w.2

/-- COPY (R308). -/
def State.opCopy (p : Nat) (x : Pkt) (s : State) : State :=
  let st := s.copyStatus x
  if st ≠ 0 then (if st = St.BAD_ADDRESS then s.badAddress else s).finish p st
  else if s.copyHeld x then s.setPkt p { x with performed := false }
  else
    let k := s.copyLines x
    let s := k.2
    if !k.1 then s.setPkt p { x with performed := false }
    else if (s.copyRemote x).isSome && !((s.copySrc x).isNone) then (s.copyOps 8 p).copyEnd p
    else match sideOff (s.copySrc x) with
      | some src => State.moverLocal (x.f 24 5 / moverPiece + 1) p x src 0 false s
      | none => s.moverAsk p

/-- COPY; on a bound queue the gait executor takes it (R313). -/
def execCopy (p : Nat) (s : State) : Res := if s.boundPkt p then .next s else s.perform p 0x03 (State.opCopy p)

/-! ### REDUCE -/

/-- The status of a delivery (R303). -/
def deliveryStatus (d : Delivered) : Nat :=
  match d with
  | .taken => St.OK
  | .owed => 0x28
  | .overcount => 0x29
  | .stalled => 0x25
  | .fault => 0x24

/-- REDUCE: one local contribution, read with the context's rights (R309). -/
def State.opReduce (p : Nat) (x : Pkt) (s : State) : State :=
  let n := x.f 16 2 % 4096
  let d := s.desc n
  let c := s.pktCtx x
  if n = 0xFFF || !RedDesc.valid d || RedDesc.kind d != 0 || !RedDesc.loc d then s.descFault.finish p 0x24
  else match s.localOff (x.f 8 8) with
    | none => s.finish p St.BAD_HANDLE 8
    | some off =>
      let len := spanBytes (RedDesc.nset d).fmt (RedDesc.nset d).fvar (RedDesc.elems d)
      if (s.root n).stalled then s.finish p 0x25 else
      let k := s.prepLines (s.herdLines off len) false
      if !k.1 || k.2.rangeHeld 0 off len then k.2.setPkt p { x with performed := false } else
      let a := k.2.readAs (s.ctxMaster c) off len
      if a.status != St.OK && a.status != St.POISON then a.st.finish p a.status else
      let r := a.st.redDeliver n localSource (.operand a.data a.poison) none
      (r.1.addCtr c 3 (r.1.now - x.at_)).finish p (deliveryStatus r.2)

/-- REDUCE; on a bound queue the gait executor takes it (R313). -/
def execReduce (p : Nat) (s : State) : Res := if s.boundPkt p then .next s else s.perform p 0x04 (State.opReduce p)

end Sys2Proof.Machine
end

