-- ==== Sys2Proof/Machine/ObjOps.lean ====
section
/-! DEFINITION. Kernel packets on queues (R318, R344, R345), contexts (R329), memory objects (R333), stored graphs (R335), fences (R338),
RAT entries (R246, R250), and the CTXS and FNS page commands (R332, R334, R343, R351). -/

namespace Sys2Proof.Machine

/-! ### Draining (R344) -/

/-- What becomes of one packet of a queue that drains or is cancelled. -/
def State.drainPkt (s : State) (e : Nat × Pkt) : State :=
  let x := e.2
  if s.inOcc e.1 || x.ended != .none then s
  else if x.performed && (x.opcode == 0x0B || x.opcode == 0x0A || (s.queue x.queue).kernel) then s
  else s.cancelPkt e.1 St.CANCELLED

/-- Every packet of a queue, in order. -/
def State.drainPkts (s : State) (q : Nat) : State := (s.pktsOf q).foldl (fun s e => s.drainPkt e) s

/-- A binding of a queue to the gait ends. -/
def State.endBinding (s : State) (q : Nat) : State :=
  let x := s.queue q
  if x.gaitBound then (s.setQueue q { x with bind := 0 }).useAdd x.fn Reg.VFn_USE0.BINDS false else s

/-- The queue drains: fetch stops, its packets are dealt with, the slot is freed with the last one. -/
def State.drainQueue (s : State) (q : Nat) (by_ : Option Nat) : State :=
  let s := (s.endFetch q).endBinding q
  let s := s.setQueue q { s.queue q with state := .draining, destroyer := by_ }
  (s.drainPkts q).retireQueue q

/-! ### Queue packets (R318) -/

/-- A kernel operation on user queue Q of the function, refused with DETAIL 1 when it is none. -/
def State.onQueue (s : State) (p : Nat) (x : Pkt) (f : Nat → Queue → State → State) : State :=
  let q := x.f 8 2 % 8192
  if s.userQueueOf x.fn q then f q (s.queue q) s else s.kres p 1

/-- Vectors of a function: the PF's queues have 2,046, a VF's as many as it is given (R318, R353). -/
def State.vecCount (s : State) (fn : Nat) : Nat := if fn = 0 then 2046 else s.rd (Page.vf fn) Reg.VFn_LIMITS.VEC_COUNT

/-- A context that a kernel packet names: its descriptor is read, unless it is resident, and checked (R327, R349). -/
def State.noteCtx (s : State) (fn c : Nat) : State :=
  if !s.owns fn .ctx c then s else
  let s := if s.objs.slots.any (·.ctx == c) then s else s.inc Page.ctxs Reg.CTXS_WALKS.COUNT
  if s.ctxChecked fn c then s else s.err Page.ctxs Err.ctxs.DESC_CHECK { fn := fn }

/-- QUEUE_CREATE's refusal code. -/
def State.queueCode (s : State) (x : Pkt) : Nat :=
  let q := x.f 8 2 % 8192
  if !s.owns x.fn .queue q || q == 0 || (x.fn != 0 && q == (s.vfRange x.fn .queue).1) || (s.queue q).state != .absent || !s.sliceOk (sliceOf q) then 1
  else if !s.ctxUsable x.fn (x.f 10 2 % 4096) then 2
  else if x.f 12 1 < 4 ∨ 16 < x.f 12 1 then 3
  else if x.f 16 8 % 4096 ≠ 0 ∨ x.f 24 8 % 4096 ≠ 0 ∨ x.f 32 8 % 8 ≠ 0 then 4
  else if s.vecCount x.fn ≤ x.f 14 2 % 2048 then 5 else 0

/-- QUEUE_CREATE. -/
def State.opQueueCreate (p : Nat) (x : Pkt) (s : State) : State :=
  let c := x.f 10 2 % 4096
  let code := s.queueCode x
  let s := if code = 1 then s else s.noteCtx x.fn c
  if code ≠ 0 then s.kres p code else
  let g := x.f 13 1
  let s := s.createQueue (x.f 8 2 % 8192) { Queue.absent with
    fn := x.fn, ctx := c, log2 := x.f 12 1, prio := bits g 0 2, statEn := bit g 2, wbEn := bit g 3, vec := x.f 14 2 % 2048
    ring := x.f 16 8, stat := x.f 24 8, wb := x.f 32 8, budget := x.f 40 2 }
  (s.ctxCount c 1 0 true).kres p 0
def execQueueCreate (p : Nat) (s : State) : Res := s.perform p 0x42 (State.opQueueCreate p)

/-- QUEUE_DESTROY (R344): it completes when the queue is ABSENT. -/
def execQueueDestroy (p : Nat) (s : State) : Res :=
  s.perform p 0x43 fun x s => s.onQueue p x fun q _ s => s.drainQueue q (some p)

/-- A QUEUE_CTL packet with OP `op`: other OPs are other rows. -/
def State.queueCtl (s : State) (p op : Nat) (f : Pkt → Nat → Queue → State → State) : Res :=
  if ((s.pkt p).map fun x => x.f 10 1 == op).getD false then s.perform p 0x44 fun x s => s.onQueue p x (f x) else .next s

/-- RESUME: DETAIL 3 when R305 refuses, 4 for a queue of a LOST context (R347). -/
def State.opQueueResume (p : Nat) (x : Pkt) (q : Nat) (y : Queue) (s : State) : State :=
  let r := x.f 16 4
  if s.ctxLostBit y.ctx then s.kres p 4
  else if y.state ≠ .error ∨ y.avail < (r + 2 ^ 32 - y.rptr) % 2 ^ 32 then s.kres p 3
  else (s.setQueue q { y with state := .ready, rptr := r, stop := 0 }).kres p 0
def execQueueResume (p : Nat) (s : State) : Res := s.queueCtl p 1 (State.opQueueResume p)

/-- CANCEL (R345): the queue stays, its packets end as under QUEUE_DESTROY. -/
def execQueueCancel (p : Nat) (s : State) : Res := s.queueCtl p 2 fun _ q _ s => (s.drainPkts q).kres p 0

/-- SET_PRIO. -/
def execSetPrio (p : Nat) (s : State) : Res := s.queueCtl p 3 fun x q y s => (s.setQueue q { y with prio := x.f 11 1 % 4 }).kres p 0

/-- HOLD and RELEASE (R305). -/
def execQueueHold (p : Nat) (s : State) : Res :=
  s.queueCtl p 4 fun _ q y s => (s.setQueue q (Queue.settle { y with ctlHold := true })).kres p 0
def execQueueRelease (p : Nat) (s : State) : Res :=
  s.queueCtl p 5 fun _ q y s => (s.setQueue q (Queue.settle { y with ctlHold := false })).kres p 0

/-! ### Contexts (R329) -/

/-- An object packet: DETAIL 15 while a table is not set (R325). -/
def State.objPkt (s : State) (p op : Nat) (f : Pkt → State → State) : Res :=
  s.perform p op fun x s => if s.tablesSet then f x s else s.kres p 15

/-- Does a sealed entry of the function bind the model (R329)? -/
def State.modelOwned (s : State) (fn model : Nat) : Bool :=
  s.mem.rat.any fun e => e.2.valid && e.2.owner == fn && e.2.sealed && e.2.model == model

/-- CTX_CREATE. -/
def State.opCtxCreate (p : Nat) (x : Pkt) (s : State) : State :=
  let c := x.f 8 2 % 4096
  let share := x.f 10 2 % 1024
  let model := x.f 12 2
  let bound := bit (x.f 14 1) 0
  if !s.owns x.fn .ctx c || s.ctxValid c then s.kres p 1
  else if share == 0 || !s.owns x.fn .share share then s.kres p 2
  else if bound && !s.modelOwned x.fn model then s.kres p 3
  else
    let s := s.clearAt (s.ctxOff c 0) 256
    let s := s.putW (s.ctxOff c 0) (1 + x.fn * 2 ^ 2 + share * 2 ^ 9 + b2n bound * 2 ^ 19 + model * 2 ^ 20) 8
    (s.useAdd x.fn Reg.VFn_USE0.CTX true).kres p 0
def execCtxCreate (p : Nat) (s : State) : Res := s.objPkt p 0x40 (State.opCtxCreate p)

/-- The context is destroyed: DYING, its fences in error OWNER_LOST, its LIVE objects DYING without their creator's reference, and its
descriptor freed at its teardown point (R329). -/
def State.destroyCtx (s : State) (c : Nat) : State :=
  let s := s.putW (s.ctxOff c 0) (s.ctxW c 0 + (if s.ctxDying c then 0 else 2 ^ 44)) 8
  let s := (s.fencesOf c).foldl (fun s f => s.destroyFence f 0x02) s
  let s := (s.objsOf c).foldl (fun s h => if s.objState h = 0 then (s.setObjState h 1).dropRef h else s) s
  s.testCtx c

/-- CTX_DESTROY. -/
def State.opCtxDestroy (p : Nat) (x : Pkt) (s : State) : State :=
  let c := x.f 8 2 % 4096
  let s := s.noteCtx x.fn c
  if !s.ctxUsable x.fn c then s.kres p 1
  else if s.ctxQueues c ≠ 0 then s.kres p 2
  else (s.destroyCtx c).kres p 0
def execCtxDestroy (p : Nat) (s : State) : Res := s.objPkt p 0x41 (State.opCtxDestroy p)

/-! ### Memory objects (R333) -/

/-- Does a range lie within one RAT entry of the function? -/
def State.rangeOwned (s : State) (fn base size : Nat) : Bool :=
  match s.ratWhole base size with
  | some (_, e) => e.owner == fn
  | none => false

/-- OBJ_CREATE. -/
def State.opObjCreate (p : Nat) (x : Pkt) (s : State) : State :=
  let h := x.f 8 4 % 2 ^ 18
  let c := x.f 12 2 % 4096
  let base := x.f 16 8
  let size := x.f 24 8
  if !s.owns x.fn .obj h || s.objValid h then s.kres p 1 else
  let s := s.noteCtx x.fn c
  if !s.ctxUsable x.fn c then s.kres p 2
  else if base % 4096 ≠ 0 ∨ size % 4096 ≠ 0 ∨ size = 0 then s.kres p 3
  else if 2 ^ 45 ≤ base + size ∨ s.rangeOwned x.fn base size = false then s.kres p 4
  else
    let s := s.clearAt (s.objOff h 0) 64
    let s := s.putW (s.objOff h 0) (1 + b2n (bit (x.f 14 1) 0) * 2 ^ 3 + b2n (bit (x.f 14 1) 1) * 2 ^ 4 + x.fn * 2 ^ 5 + c * 2 ^ 12) 8
    let s := ((s.putW (s.objOff h 1) base 8).putW (s.objOff h 2) size 8).putW (s.objOff h 3) 1 8
    ((s.ctxCount c 2 0 true).useAdd x.fn Reg.VFn_USE_OBJ.COUNT true).kres p 0
def execObjCreate (p : Nat) (s : State) : Res := s.objPkt p 0x45 (State.opObjCreate p)

/-- An object that a kernel packet names: its descriptor is read and checked (R327, R349). -/
def State.noteObj (s : State) (fn h : Nat) : State :=
  if !s.owns fn .obj h then s else
  let s := s.inc Page.ctxs Reg.CTXS_WALKS.COUNT
  if s.objChecked fn h then s else s.err Page.ctxs Err.ctxs.DESC_CHECK { fn := fn }

/-- OBJ_DESTROY. -/
def State.opObjDestroy (p : Nat) (x : Pkt) (s : State) : State :=
  let h := x.f 8 4 % 2 ^ 18
  let f := x.f 12 2
  let en := bit (x.f 14 1) 0
  let s := s.noteObj x.fn h
  if !s.objUsable x.fn h then s.kres p 1
  else if en && !s.fenceUsable x.fn f then s.kres p 2
  else if en && 1024 ≤ s.objs.retire.length then s.kres p 3
  else
    let s := s.setObjState h 1
    let s := if en then
        let s := (s.putW (s.objOff h 4) (f + 2 ^ 16) 8).putW (s.objOff h 5) (x.f 16 8) 8
        let s := { s with objs := { s.objs with retire := s.objs.retire ++ [h] } }
        s.wr Page.ctxs Reg.CTXS_RETIRE_USED.COUNT s.objs.retire.length
      else s
    (s.dropRef h).kres p 0
def execObjDestroy (p : Nat) (s : State) : Res := s.objPkt p 0x46 (State.opObjDestroy p)

/-! ### Fences (R338) -/

/-- FENCE_CREATE. -/
def State.opFenceCreate (p : Nat) (x : Pkt) (s : State) : State :=
  let f := x.f 8 2
  let c := x.f 10 2 % 4096
  if !s.owns x.fn .fence f || s.fenceValid f then s.kres p 1 else
  let s := s.noteCtx x.fn c
  if !s.ctxUsable x.fn c then s.kres p 2
  else
    let s := ((s.clearAt (s.fenceOff f 0) 32).putW (s.fenceOff f 0) (x.f 16 8) 8).putW (s.fenceOff f 1) (1 + c * 2 ^ 10 + x.fn * 2 ^ 22) 8
    ((s.ctxCount c 1 32 true).useAdd x.fn Reg.VFn_USE_FENCE.COUNT true).kres p 0
def execFenceCreate (p : Nat) (s : State) : Res := s.objPkt p 0x47 (State.opFenceCreate p)

/-- FENCE_DESTROY: error ABANDONED. -/
def State.opFenceDestroy (p : Nat) (x : Pkt) (s : State) : State :=
  let f := x.f 8 2
  if !s.owns x.fn .fence f then s.kres p 1
  else if !s.fenceChecked x.fn f then
    (s.err Page.fns Err.fns.DESC_CHECK { fn := x.fn }).kres p 1
  else if s.fenceDying f then s.kres p 1
  else (s.destroyFence f 0x01).kres p 0
def execFenceDestroy (p : Nat) (s : State) : Res := s.objPkt p 0x48 (State.opFenceDestroy p)

/-! ### Stored graphs (R335) -/

/-- Do the packets of a sequence of `n` slots pass steps 1 to 5, none of a forbidden opcode? -/
def graphOk : Nat → Nat → Nat → Nat → List Byte → Bool
  | 0, _, _, n, _ => n == 0
  | fuel + 1, maxVer, fn, n, l =>
    if n = 0 then true else
    let h := ofLe (slice l 0 8)
    let k := 1 + bits h 12 3
    formatStatus false false fn 0 maxVer n l == 0 && !([0x0B, 0x09, 0x08, 0x0A].contains (bits h 0 8))
      && graphOk fuel maxVer fn (n - k) (l.drop (64 * k))

/-- The master in whose name the block reads what a function's kernel packet names: class 1 or 2 (R248). -/
def fnMaster (fn : Nat) : Master := if fn = 0 then Master.pf else Master.vf fn

/-- GRAPH_STORE. -/
def State.opGraphStore (p : Nat) (x : Pkt) (s : State) : State :=
  let h := x.f 8 4 % 2 ^ 18
  let n := x.f 24 2
  let s := s.noteObj x.fn h
  if !s.objUsable x.fn h || !s.objGraph h then s.kres p 1
  else if n = 0 ∨ 4096 < n ∨ s.objSize h / 128 < n then s.kres p 2
  else
    let w := s.objW h 6
    let v := 1 - bits w 0 1
    if bits w (16 + 16 * v) 16 ≠ 0 then s.kres p 3 else
    let a := s.readAs (fnMaster x.fn) (x.f 16 8) (64 * n)
    if a.status ≠ St.OK then a.st.finish p a.status
    else if !graphOk n (a.st.rd Page.ver Reg.VER_FORMATS.PKT) x.fn n a.data then a.st.kres p 4
    else
      let r := a.st.writePhys (a.st.objBase h + v * (a.st.objSize h / 2)) a.data 0 false
      if !r.1 then r.2.finish p St.POISON else
      let s := r.2
      let o7 := s.objW h 7
      let s := s.putW (s.objOff h 7) (o7 - bits o7 (16 * v) 13 * 2 ^ (16 * v) + n * 2 ^ (16 * v)) 8
      let w' := w - bits w 0 1 + v
      (s.putW (s.objOff h 6) (if bit w (1 + v) then w' else w' + 2 ^ (1 + v)) 8).kres p 0
def execGraphStore (p : Nat) (s : State) : Res := s.objPkt p 0x49 (State.opGraphStore p)

/-! ### RAT_SET (R246, R247, R250) -/

/-- The entry that a RAT_SET carries. -/
def Pkt.ratEntry (x : Pkt) : RatEntry :=
  { w0 := BitVec.ofNat 64 (x.f 16 8), w1 := BitVec.ofNat 64 (x.f 24 8), w2 := BitVec.ofNat 64 (x.f 32 8), w3 := BitVec.ofNat 64 (x.f 40 8) }

/-- RAT_SET: an accepted write completes under R250; a locked or running TDI of its owner goes to ERROR (R391). -/
def State.opRatSet (p : Nat) (x : Pkt) (s : State) : State :=
  let n := x.f 8 1
  let e := x.ratEntry
  let code := s.ratCode n e true
  if code = 0 then (s.ratStore n e (some p)).tdiError e.names else (s.ratRefuse e code).kres p code
def execRatSet (p : Nat) (s : State) : Res := s.perform p 0x62 (State.opRatSet p)

/-! ### CTXS and FNS page commands -/

/-- SNAP (R343, R349): the counters of CTXS_QSEL to their descriptor and the window. -/
def State.opSnap (s : State) : State :=
  let c := s.rd Page.ctxs Reg.CTXS_QSEL.CTX
  let s := s.wr Page.ctxs Reg.CTXS_QSTATUS.DONE 1
  if !s.ctxValid c then s.wr Page.ctxs Reg.CTXS_QSTATUS.ABSENT 1 else
  let s := match s.objs.slots.find? fun x => x.ctx == c with
    | some x => s.writeCtrs x
    | none => s
  let s := s.wr Page.ctxs Reg.CTXS_QSTATUS.ABSENT 0
  ((s.readCtrs c).zipIdx).foldl (fun s e =>
    (s.wr Page.ctxs Reg.CTXS_QWINw.DATA (e.1 % 2 ^ 32) (2 * e.2)).wr Page.ctxs Reg.CTXS_QWINw.DATA (e.1 / 2 ^ 32) (2 * e.2 + 1)) s
def execSnap (p : Party) (s : State) : Res := s.action p Page.ctxs State.opSnap

/-- A kick of an object: its descriptor is read and checked, then its teardown point is tested (R327, R332, R334). -/
def State.opKick (h : Nat) (s : State) : State :=
  let s := s.inc Page.ctxs Reg.CTXS_WALKS.COUNT
  if s.objChecked (s.objFn h) h then s.testObj h else s.err Page.ctxs Err.ctxs.DESC_CHECK

/-- CTXS_OBJ_KICK (R332, R334). -/
def execCtxsObjKick (p : Party) (h : Nat) (s : State) : Res := s.action p Page.ctxs fun s => s.opKick (h % 2 ^ 18)

/-- CTXS_TD_DONE (R334): discarded when no request awaits it (R62). -/
def execCtxsTdDone (p : Party) (s : State) : Res := 
  s.action p Page.ctxs fun s => if s.haPending 4 then s.assisted (.tdDone p) State.completeTd else s

/-- FNS_READ (R351): capture the fence that FNS_SEL names. -/
def State.opFnsRead (s : State) : State :=
  let p := Page.fns
  let f := s.rd p Reg.FNS_SEL.FENCE
  let x := s.fenceNow f
  let s := s.wrPair p Reg.FNS_VALUE_LO.VALUE Reg.FNS_VALUE_HI.VALUE x.1
  let s := ((s.wr p Reg.FNS_INFO.ERR_CODE (x.2.2.getD 0)).wr p Reg.FNS_INFO.ERR (b2n x.2.2.isSome)).wr p Reg.FNS_INFO.RESIDENT (b2n (s.fenceSlot f).isSome)
  let s := ((s.wr p Reg.FNS_INFO.VALID (b2n (s.fenceValid f))).wr p Reg.FNS_INFO.DYING (b2n (s.fenceDying f))).wr p Reg.FNS_INFO.TOKENS x.2.1
  let ws := s.waitersOf f
  (s.wr p Reg.FNS_WAITERS.WAITS (ws.filter fun w => !w.take).length).wr p Reg.FNS_WAITERS.TAKES (ws.filter fun w => w.take).length
def execFnsRead (p : Party) (s : State) : Res := s.action p Page.fns State.opFnsRead

end Sys2Proof.Machine
end

