-- ==== Sys2Proof/Machine/Vf.lean ====
section
/-! DEFINITION. Virtual functions: provisioning (R353 to R357), quiesce and function-level reset of a VF (R359 to R361). -/

namespace Sys2Proof.Machine

/-! ### State -/

/-- VF Enable of VF `n`: the controller's VF Enable with NumVFs at or above `n` (R362). -/
def State.vfEnabled (s : State) (n : Nat) : Bool := s.pins.vfEn && n ≤ s.pins.numVf

/-- Show it in every page. -/
def State.showVfEn (s : State) : State :=
  (List.range 128).foldl (fun s n => s.wr (Page.vf n) Reg.VF_STATUS.VF_EN (b2n (s.vfEnabled n))) s

/-- Enter a VSTATE; OFF unlocks the TDI (R391). -/
def State.setVstate (s : State) (n x : Nat) : State :=
  let s := s.wr (Page.vf n) Reg.VF_STATUS.VSTATE x
  if x = 0 then s.setTdi n 0 else s

/-- FLR_PEND in the VF's page and in VF_FLR_PENDk. -/
def State.setFlrPend (s : State) (n : Nat) (b : Bool) : State :=
  let s := s.wr (Page.vf n) Reg.VF_STATUS.FLR_PEND (b2n b)
  let v := clearBit (s.rd (Page.vf 0) Reg.VF_FLR_PENDk.PEND (n / 32)) (n % 32)
  s.wr (Page.vf 0) Reg.VF_FLR_PENDk.PEND (v + b2n b * 2 ^ (n % 32)) (n / 32)
def State.flrPend (s : State) (n : Nat) : Bool := s.rdb (Page.vf n) Reg.VF_STATUS.FLR_PEND

/-! ### VF_PROV (R354 to R357) -/

/-- The kinds with their BASE and COUNT in a VF_PROV body, their limits and table ends (R353, R354). -/
def provRange (x : Pkt) (k : HKind) : Nat × Nat :=
  match k with
  | .queue => (x.f 10 2 % 8192, x.f 12 2)
  | .ctx => (x.f 14 2 % 4096, x.f 16 2)
  | .fence => (x.f 18 2, x.f 20 2)
  | .obj => (x.f 24 4 % 2 ^ 18, x.f 28 4)
  | .share => (x.f 32 2 % 1024, x.f 34 2)
def provLimit (k : HKind) : Nat :=
  match k with
  | .queue => 256
  | .ctx => 4096
  | .fence => 65535
  | .obj => 262144
  | .share => 1023
def tableEnd (k : HKind) : Nat :=
  match k with
  | .queue => 8192
  | .ctx => 4096
  | .fence => 65536
  | .obj => 262144
  | .share => 1024
def allKinds : List HKind := [.queue, .ctx, .fence, .obj, .share]

/-- Do two ranges meet? -/
def rangesMeet (a b : Nat × Nat) : Bool := 0 < a.2 && 0 < b.2 && a.1 < b.1 + b.2 && b.1 < a.1 + a.2

/-- The numbers of a kind that are in use, with their functions: queues not ABSENT, VALID descriptors. -/
def State.usedOf (s : State) (k : HKind) : List (Nat × Nat) :=
  match k with
  | .queue => (s.front.queues.filter fun e => e.2.state != .absent).map fun e => (e.1, e.2.fn)
  | .ctx => ((s.handlesIn s.ctxTbl 4096 256).filter s.ctxValid).map fun c => (c, s.ctxFn c)
  | .fence => ((s.handlesIn s.fenceTbl 65536 32).filter s.fenceValid).map fun f => (f, s.fenceFn f)
  | .obj => ((s.handlesIn s.objTbl 262144 64).filter s.objValid).map fun h => (h, s.objFn h)
  | .share => []

/-- DETAIL 2: a new range meets another VF's, holds queue 0 or share 0, or what belongs to another function. -/
def State.provClash (s : State) (x : Pkt) (n : Nat) (k : HKind) : Bool :=
  let r := provRange x k
  ((s.liveVfs.filter (· != n)).any fun m => rangesMeet r (s.vfRange m k))
    || ((k == .queue || k == .share) && inRange r 0)
    || ((s.usedOf k).any fun u => inRange r u.1 && u.2 != n)

/-- DETAIL 3: a part removed holds what is the VF's. -/
def State.provHolds (s : State) (r : Nat × Nat) (n : Nat) (k : HKind) : Bool :=
  (s.fnOf n).provisioned && (s.usedOf k).any fun u => inRange (s.vfRange n k) u.1 && !inRange r u.1 && u.2 == n

/-- Reserved bits within the listed fields (R354). -/
def provReserved (x : Pkt) : Bool :=
  bits (x.f 8 1) 7 1 != 0 || bits (x.f 9 1) 1 7 != 0 || bits (x.f 10 2) 13 3 != 0 || bits (x.f 14 2) 12 4 != 0 || bits (x.f 24 4) 18 14 != 0
    || bits (x.f 32 2) 10 6 != 0 || bits (x.f 40 4) 24 8 != 0

/-- The DETAIL with which a VF_PROV is refused, 0 when none (R355). -/
def State.provCode (s : State) (x : Pkt) : Nat :=
  let n := x.f 8 1
  let live := bit (x.f 9 1) 0
  if n = 0 ∨ 127 < n ∨ s.pins.numVf < n then 1
  else if live && allKinds.any fun k => s.provClash x n k then 2
  else if allKinds.any fun k => s.provHolds (if live then provRange x k else (0, 0)) n k then 3
  else if (allKinds.any fun k => tableEnd k < (provRange x k).1 + (provRange x k).2 || provLimit k < (provRange x k).2)
      || 2048 < x.f 36 2 || 256 < x.f 38 2 || 4800 < x.f 44 2 || (live && x.f 12 2 == 0) then 4
  else if provReserved x then 5
  else if s.vstate n = 2 ∨ s.vstate n = 4 ∨ s.vstate n = 5 ∨ (live = false ∧ s.vstate n ≠ 3 ∧ s.vstate n ≠ 0)
      ∨ (live = false ∧ (s.mem.rat.any fun e => e.2.valid && e.2.owner == n) = true) then 6
  else if s.rdb (Page.vf 0) Reg.VF_PROV_PEND.VALID then 7 else 0

/-- Return the VFn_KQ registers to their reset values. -/
def State.resetKq (s : State) (n : Nat) : State :=
  ((List.range 7).map fun k => (Page.vf n).base + 0x60 + 4 * k).foldl (fun s a => s.setReg a (windowReset a)) s

/-- Set a VF's ranges and quotas. -/
def State.setProv (s : State) (n : Nat) (r : HKind → Nat × Nat) (vec binds mem loose : Nat) : State :=
  let p := Page.vf n
  let s := (s.wr p Reg.VFn_QUEUES.QBASE (r .queue).1).wr p Reg.VFn_QUEUES.QCOUNT (r .queue).2
  let s := (s.wr p Reg.VFn_CTXS.BASE (r .ctx).1).wr p Reg.VFn_CTXS.COUNT (r .ctx).2
  let s := (s.wr p Reg.VFn_FENCES.BASE (r .fence).1).wr p Reg.VFn_FENCES.COUNT (r .fence).2
  let s := (s.wr p Reg.VFn_OBJ_BASE.BASE (r .obj).1).wr p Reg.VFn_OBJ_COUNT.COUNT (r .obj).2
  let s := (s.wr p Reg.VFn_SHARES.BASE (r .share).1).wr p Reg.VFn_SHARES.COUNT (r .share).2
  (((s.wr p Reg.VFn_LIMITS.VEC_COUNT vec).wr p Reg.VFn_LIMITS.BINDS binds).wr p Reg.VFn_MEM_2M.UNITS mem).wr p Reg.VFn_LOOSE.GBPS loose

/-- An accepted change takes effect as one step (R357, R359); a locked or running TDI goes to ERROR (R391). -/
def State.applyProv (s : State) (x : Pkt) : State :=
  let n := x.f 8 1
  if bit (x.f 9 1) 0 then
    let s := s.setProv n (provRange x) (x.f 36 2) (x.f 38 2) (x.f 40 4 % 2 ^ 24) (x.f 44 2)
    let s := if s.vstate n = 0 then (s.resetKq n).setVstate n 1 else s
    ((s.setFn n { s.fnOf n with provisioned := true }).tdiError n).showMemUse
  else
    ((s.setProv n (fun _ => (0, 0)) 0 0 0 0).setVstate n 0).setFn n Fn.empty

/-- A VF_PROV is refused. -/
def State.provRefuse (s : State) (p code : Nat) : State := (s.err (Page.vf 0) Err.vf.PROV_REFUSED { detail := code }).kres p code

/-- VF_PROV. -/
def State.opVfProv (p : Nat) (x : Pkt) (s : State) : State :=
  let code := s.provCode x
  if code ≠ 0 then s.provRefuse p code
  else if s.hostMode 8 then
    let s := { s with front := { s.front with held := [p] } }
    ((s.wr (Page.vf 0) Reg.VF_PROV_PEND.FN (x.f 8 1)).wr (Page.vf 0) Reg.VF_PROV_PEND.VALID 1).haPost 8
  else (s.applyProv x).kres p 0
def execVfProv (p : Nat) (s : State) : Res := s.perform p 0x6C (State.opVfProv p)

/-- The held change is checked again and applied (R357). -/
def State.finishProv (s : State) : State :=
  let s := ((s.wr (Page.vf 0) Reg.VF_PROV_PEND.FN 0).wr (Page.vf 0) Reg.VF_PROV_PEND.VALID 0).haClear 8
  match s.front.held with
  | [] => s
  | p :: _ =>
    let s := { s with front := { s.front with held := [] } }
    match s.pkt p with
    | none => s
    | some x =>
      let code := s.provCode x
      if code = 0 then (s.applyProv x).kres p 0 else s.provRefuse p code

/-- VF_HA_DONE: discarded when no request awaits it (R62). -/
def execVfHaDone (p : Party) (s : State) : Res := 
  s.action p (Page.vf 0) fun s => if s.haPending 8 then s.assisted (.vfHaDone p) State.finishProv else s

/-! ### Quiesce and FLR (R359 to R361) -/

/-- The queues of a function that are not ABSENT. -/
def State.queuesOf (s : State) (fn : Nat) : List Nat := (s.front.queues.filter fun e => e.2.fn == fn && e.2.state != .absent).map Prod.fst

/-- The gait rings bound to contexts of a function. -/
def State.ringsOf (s : State) (fn : Nat) : List Nat := (s.front.rings.filter fun e => s.ctxFn e.2 == fn).map Prod.fst

/-- A quiesce (R360). -/
def State.startQuiesce (s : State) (n : Nat) : State :=
  let s := (s.tdiError n).setVstate n 2
  let s := (s.queuesOf n).foldl (fun s q => if (s.queue q).state = .draining then s else s.drainQueue q none) s
  (s.ringsOf n).foldl (fun s r => s.unbindRing r) s

/-- QUIESCE: written by the PF (R358, R359). -/
def execQuiesce (p : Party) (fn : Nat) (s : State) : Res :=
  s.action p (Page.vf fn) fun s =>
    match p with
    | .vf _ => s.err (Page.vf fn) Err.PRIV
    | _ => if fn ≠ 0 ∧ (s.vstate fn = 1 ∨ s.vstate fn = 4) then s.startQuiesce fn else s

/-- The STOP_INTERFACE requests that waited for function `fn` are answered (R391). -/
def State.stopAnswered (s : State) (fn : Nat) : State :=
  let l := s.trust.tdiStop.filter fun e => e.1 == fn
  let s := { s with trust := { s.trust with tdiStop := s.trust.tdiStop.filter fun e => e.1 != fn } }
  l.foldl (fun s e => s.spdmSend e.2 Spdm.VENDOR [7]) s

/-- VF_QUIESCED: the last packet of the VF has been retired (R359). -/
def State.opVfQuiesced (fn : Nat) (s : State) : State :=
  if fn = 0 ∨ s.vstate fn ≠ 2 ∨ s.vfBusy fn = true then s
  else ((s.setVstate fn (if s.flrPend fn then 5 else 3)).funcVec).stopAnswered fn
def execVfQuiesced (fn : Nat) (s : State) : Res := guarded s.feUp s (State.opVfQuiesced fn)

/-- VF_RELEASE (R359, R360): the kernel queue is created again when its EN reads 1. -/
def State.opVfRelease (fn : Nat) (s : State) : State :=
  if fn = 0 ∨ s.vstate fn ≠ 3 ∨ s.vfEnabled fn = false then s else
  let s := s.setVstate fn 1
  if s.rdb (Page.vf fn) Reg.VFn_KQ_CFG.EN then s.kernelQueue fn else s
def execVfRelease (p : Party) (fn : Nat) (s : State) : Res :=
  s.action p (Page.vf fn) fun s =>
    match p with
    | .vf _ => s.err (Page.vf fn) Err.PRIV
    | _ => s.opVfRelease fn

/-- The FLR of a VF (R359): held while the PF has not quiesced it; a second one is absorbed; the block's part for a VF in OFF is nothing. -/
def State.vfFlr (s : State) (n : Nat) : State :=
  let s := if s.vstate n = 0 then s else s.tdiError n
  match s.vstate n with
  | 1 => (((s.setFlrPend n true).setVstate n 4).mapQueues n fun x => Queue.settle { x with flrHold := true }).err (Page.vf n) Err.vf.FLR_HELD { fn := n }
  | 2 => s.setFlrPend n true
  | 3 => (s.setFlrPend n true).setVstate n 5
  | 0 => s.emit (.flrDone n)
  | _ => s

/-- The registers of page VFn that step 3 of R361 returns: all but STATUS and the provisioning. -/
def State.resetVfPage (s : State) (n : Nat) : State :=
  let b := (Page.vf n).base
  { s with regs := s.regs.filter fun e => !(b ≤ e.1 && e.1 < b + 0x1000) || e.1 == b + 0x0C || (b + 0x20 ≤ e.1 && e.1 < b + 0x44) || (b + 0x100 ≤ e.1) }

/-- Show what the VF still has: contexts, fences and objects that are VALID until their teardown points (R362). -/
def State.showUse (s : State) (n : Nat) : State :=
  let p := Page.vf n
  let count := fun k => ((s.usedOf k).filter fun u => u.2 == n).length
  ((s.wr p Reg.VFn_USE0.CTX (count .ctx)).wr p Reg.VFn_USE_FENCE.COUNT (count .fence)).wr p Reg.VFn_USE_OBJ.COUNT (count .obj)

/-- FLR_RESET deletes the VF's state (R361) and the block reports its part complete. -/
def State.opFlrReset (n : Nat) (s : State) : State :=
  if n = 0 ∨ s.vstate n ≠ 5 then s else
  let objs := ((s.usedOf .obj).filter fun u => u.2 == n).map Prod.fst
  let s := objs.foldl (fun s h => if bit (s.objW h 0) 4 then s else s.putW (s.objOff h 0) (s.objW h 0 + 2 ^ 4) 8) s
  let ctxs := ((s.usedOf .ctx).filter fun u => u.2 == n).map Prod.fst
  let s := ctxs.foldl (fun s c => s.destroyCtx c) s
  let s := ((s.resetVfPage n).showUse n).showMemUse
  ((s.setFlrPend n false).setVstate n (if s.vfEnabled n then 1 else 3)).emit (.flrDone n)
def execFlrResetDone (fn : Nat) (s : State) : Res := guarded (s.feUp && s.memOpen) s (State.opFlrReset fn)

/-- VF_ENABLE_CHANGE (R359): clearing VF Enable counts as an FLR of every VF. -/
def State.opVfEnable (en : Bool) (num : Nat) (s : State) : State :=
  let was := s.pins.vfEn
  let s := ({ s with pins := { s.pins with vfEn := en, numVf := num } })
  if !s.up || s.boot.post then s else
  let s := s.showVfEn
  if was && !en then s.liveVfs.foldl (fun s n => s.vfFlr n) s else s
def execVfEnableChange (en : Bool) (num : Nat) (s : State) : Res := .next (State.opVfEnable en num s)

end Sys2Proof.Machine
end

