-- ==== Sys2Proof/Machine/Recovery.lean ====
section
/-! DEFINITION. Sequencer responses (R307, R315, R321), the watchdog and hangs (R441, R442), the compute-only reset (R443 to R445), suspect
replay (R446 to R449) and escalation (R450). -/

namespace Sys2Proof.Machine

/-! ### The end of a launch -/

/-- FE_GEN, the current compute generation. -/
def State.feGen (s : State) : Nat := s.rd Page.fe Reg.FE_GEN.GEN

/-- Set ISTATE (R454). -/
def State.setIstate (s : State) (x : Nat) : State := s.wr Page.err Reg.ERR_STATUS.ISTATE x

/-- A bad response of a sequencer (R321). -/
def State.lsqBad (s : State) : State := (s.inc Page.fe Reg.FE_LSQ_BAD.COUNT).err Page.fe Err.fe.LSQ_PROTOCOL

/-- Does queue `q` feed a persistent task that runs, or that waits for its replay? -/
def State.taskHeld (s : State) (q : Nat) : Bool :=
  (s.taskOf q).isSome || s.faults.suspects.any fun u =>
    u.persist && u.state ≤ 1 && ((s.pkt u.slot).map fun x => x.target == q && x.ended == EndWord.none).getD false

/-- The task that queue `q` fed has ended: the queue is unbound, its TASK_MSGs complete with CANCELLED (R315). -/
def State.freeTask (s : State) (q : Nat) : State :=
  if (s.queue q).bind ≠ 3 ∨ s.taskHeld q = true then s else
  let s := s.setQueue q { s.queue q with bind := 0 }
  ((s.pktsOf q).filter fun e => e.2.opcode == 0x0A).foldl (fun s e => s.cancelPkt e.1 St.CANCELLED) s
def State.freeTasks (s : State) : State :=
  ((s.front.queues.filter fun e => e.2.bind == 3).map Prod.fst).foldl State.freeTask s

/-- STATUS that a launch takes from the DONEs of its parts, in sequencer order (R307, R321). -/
def Launch.status (l : Launch) : Nat :=
  match ((l.parts.filterMap fun k => (l.got.find? fun g => g.1 == k).map Prod.snd).find? fun c => c != 0) with
  | none => St.OK
  | some c => if c = 2 then St.CANCELLED else St.FAULT

/-- Every part of a launch has answered. -/
def State.endLaunch (s : State) (id : Nat) (l : Launch) : State :=
  let s := { s with front := { s.front with launches := SMap.erase s.front.launches id } }
  let s := s.finish l.pkt l.status
  let timedOut := l.wdFired && ((s.pkt l.pkt).map fun x => x.result == some St.WATCHDOG).getD false
  let s := if timedOut then s.err Page.err Err.err.WATCHDOG { ctx := some l.ctx, fn := s.ctxFn l.ctx } else s
  (if l.persist then s.freeTasks else s).noteStopped

/-! ### Suspects (R446 to R448) -/

/-- Change suspect `i`. -/
def State.modSuspect (s : State) (i : Nat) (f : Suspect → Suspect) : State :=
  { s with faults := { s.faults with suspects := s.faults.suspects.zipIdx.map fun e => if e.2 = i then f e.1 else e.1 } }

/-- Suspect `i` comes to an end: 2 cleared, 3 guilty or ended. -/
def State.endSuspect (s : State) (i x : Nat) : State :=
  let s := s.modSuspect i fun u => { u with state := x }
  ({ s with faults := { s.faults with current := if s.faults.current = some i then none else s.faults.current } }).freeTasks

/-- A suspect's context receives fatal-to-compute, its launch completes CTX_LOST even where the watchdog had ended it (R447, R448). -/
def State.loseSuspect (s : State) (i : Nat) (u : Suspect) : State :=
  let s := s.modPkt u.slot fun x =>
    if x.ended = EndWord.none ∨ x.result = some St.WATCHDOG then { x with ended := .aborted, result := some St.CTX_LOST, detail := 0 } else x
  (s.ctxLost u.ctx St.CTX_LOST).endSuspect i 3

/-- The launches that become suspects: dispatched, end word NONE, in dispatch order (R446). -/
def State.newSuspects (s : State) : List Suspect :=
  let l := s.front.launches.filter fun e => ((s.pkt e.2.pkt).map fun x => x.ended == EndWord.none).getD false
  let n := s.front.nextLaunch
  ((l.filter fun e => n ≤ e.1) ++ l.filter fun e => e.1 < n).map fun e =>
    { ctx := e.2.ctx, queue := ((s.pkt e.2.pkt).map fun x => x.queue).getD 0, slot := e.2.pkt, persist := e.2.persist, state := 0, action := 0 }

/-- Step 7 (R443): in service again. -/
def State.endEpisode (s : State) : State :=
  ((if s.haPending 3 then s.haClear 3 else s).setIstate 0).freeTasks |> fun s =>
    { s with faults := { s.faults with phase := .idle, isReplayReset := false } }

/-- Sequencers that are present and that a launch may go to. -/
def Pkt.lacksSeqs (s : State) (x : Pkt) : Bool := (s.seqsFor x).length < x.width

/-- Take up due replays until one runs, is held by a stop (R449) or waits for its credits; when none is left the episode ends (R447). -/
def State.replayNext : Nat → State → State
  | 0, s => s
  | n + 1, s =>
    if s.faults.phase ≠ .replay ∨ s.sync.stopped = true ∨ s.faults.current.isSome = true then s else
    match s.faults.order with
    | [] => if s.haPending 3 then s else s.endEpisode
    | i :: r =>
      let pop := { s with faults := { s.faults with order := r } }
      match s.faults.suspects[i]? with
      | none => State.replayNext n pop
      | some u =>
        match s.pkt u.slot with
        | none => State.replayNext n (pop.endSuspect i 3)
        | some x =>
          if x.ended ≠ EndWord.none then State.replayNext n (pop.endSuspect i 3)
          else if x.lacksSeqs s then State.replayNext n ((pop.finish u.slot St.BAD_HANDLE 48).endSuspect i 2)
          else match chooseSeqs (s.seqsFor x) x.width with
            | none => s
            | some ks =>
              let s := (pop.dispatch u.slot x ks).modSuspect i fun u => { u with state := 1 }
              { s with faults := { s.faults with current := some i } }

/-- Go on with the replays that are due. -/
def State.replay (s : State) : State := State.replayNext (s.faults.order.length + 1) s

/-- The suspect under replay has ended without a hang (R447). -/
def State.clearCurrent (s : State) : State :=
  match s.faults.current with
  | none => s
  | some i => (s.endSuspect i 2).replay

/-! ### Responses of the sequencers (R321) -/

/-- The launch that a response of sequencer `k` names, in the current generation. -/
def State.launchOf (s : State) (k id : Nat) : Option Launch :=
  (SMap.find? s.front.launches id).bind fun l => if l.parts.contains k && l.gen == s.feGen then some l else none

/-- Busy time of a DONE (R343): of a launch as the sequencer reports it; of a persistent task from its dispatch. -/
def State.addBusy (s : State) (l : Launch) (busyNs : Nat) : State :=
  if l.persist then s.addCtr l.ctx 7 (s.now - l.at_) else s.addCtr l.ctx 0 busyNs

/-- DONE (R307, R321): the credit returns; the last part ends the launch. -/
def State.opDone (k gen id status busyNs : Nat) (s : State) : State :=
  if gen ≠ s.feGen then s.staleGen else
  match s.launchOf k id with
  | none => s.lsqBad
  | some l =>
    if l.got.any fun g => g.1 == k then s.lsqBad else
    let l := { l with got := l.got ++ [(k, status)] }
    let s := (s.setSeq k { s.seq k with credits := min 16 ((s.seq k).credits + 1) }).addBusy l busyNs
    if l.got.length < l.parts.length then { s with front := { s.front with launches := SMap.set s.front.launches id l } }
    else
      let mine := s.underReplay l.pkt
      let s := s.endLaunch id l
      if mine then s.clearCurrent else s.replay
def execSeqDone (k gen id status busyNs : Nat) (s : State) : Res := guarded (s.feUp && s.mount) s (State.opDone k gen id status busyNs)

/-- The TASK_MSG that a MSG_DONE answers. -/
def State.msgOf (s : State) (id msgId : Nat) : Option Nat :=
  (s.front.pkts.find? fun e => e.2.opcode == 0x0A && e.2.performed && e.2.result.isNone && e.2.msgId == msgId
    && ((s.taskOf e.2.queue).map fun t => t.1 == id).getD false).map Prod.fst

/-- MSG_DONE (R315, R321). -/
def State.opMsgDone (k gen id msgId status : Nat) (s : State) : State :=
  if gen ≠ s.feGen then s.staleGen else
  match s.launchOf k id, s.msgOf id msgId with
  | some _, some p => s.finish p (if status = 0 then St.OK else if status = 2 then St.CANCELLED else St.FAULT)
  | _, _ => s.lsqBad
def execMsgDone (k gen id msgId status : Nat) (s : State) : Res := guarded (s.feUp && s.mount) s (State.opMsgDone k gen id msgId status)

/-- HEARTBEAT (R320, R321): the sequencer is present; one of an old generation says nothing. -/
def State.opHeartbeat (k gen : Nat) (s : State) : State :=
  if gen ≠ s.feGen then s else
  let s := s.setSeq k { s.seq k with present := true, lastHb := s.now }
  { s with faults := { s.faults with hbNeed := s.faults.hbNeed.filter (· != k) } }
def execHeartbeat (k gen _running _seqNo : Nat) (s : State) : Res :=
  guarded (s.feUp && s.mount && k < s.build.lsqCount) s (State.opHeartbeat k gen)

/-- A response whose KIND is reserved (R321). -/
def execLsqProtocol (_k _kind _gen _id : Nat) (s : State) : Res := guarded (s.feUp && s.mount) s State.lsqBad

/-! ### The compute-only reset (R443) -/

/-- The compute's answer to an own snoop while it is in reset (R199): its lines are lost. -/
def State.snoopLost (s : State) (tid : Nat) : State :=
  let s := match SMap.find? s.coh.snoops tid with
    | some (home, cm, _, _) => if s.selfRank = some home ∧ cm = Cm.HERD_FLUSH then s.loseMember s.mySlot else s
    | none => s
  s.snoopAnswered tid none

/-- The sequencers that are present. -/
def presentSeqs (l : SMap Seq) : List Nat := (l.filter fun e => e.2.present).map Prod.fst

/-- CRST_N is low; the generation that is left is noted, and whose heartbeats step 5 awaits. -/
def State.beginHold (s : State) : State :=
  let f := s.faults
  { s with
    faults := { f with genLeft := SMap.set f.genLeft s.feGen s.now, phase := .hold, hbNeed := presentSeqs s.front.seqs }
    outs := { s.outs with crstN := false } }

/-- The launches of the generation that is left are no longer outstanding. -/
def State.dropLaunches (s : State) : State :=
  let ps := s.front.launches.map fun e => e.2.pkt
  ps.foldl (fun (s : State) p => s.modPkt p fun x => { x with launch := none }) { s with front := { s.front with launches := [] } }

/-- Steps 1 and 2: the generation `g` is entered, CRST_N asserts. -/
def State.enterReset (s : State) (g : Nat) : State :=
  let s := (s.beginHold.wr Page.fe Reg.FE_GEN.GEN g).dropLaunches.noteStopped
  ((s.coh.snoops.map Prod.fst).foldl State.snoopLost s).freeTasks

/-- A generation is not entered less than 4 ms after it was last left (R443). -/
def State.genFree (s : State) (g : Nat) : Bool :=
  match SMap.find? s.faults.genLeft g with
  | some t => t + 4000000 ≤ s.now
  | none => true

/-- The generation after the current one. -/
def State.nextGen (s : State) : Nat := (s.feGen + 1) % 256

/-- Step 1. -/
def State.startReset (s : State) : State :=
  let s := ((s.setIstate 1).incSat Page.err Reg.ERR_ESC_STATE.CRST_TOTAL).err Page.err Err.err.CRST
  if s.genFree s.nextGen then s.enterReset s.nextGen
  else { s with faults := { s.faults with phase := .quarantine } }

/-- Counted resets within WINDOW_S (R450). -/
def State.recentResets (s : State) : List Nat :=
  s.faults.escTimes.filter fun t => s.now < t + s.rd Page.err Reg.ERR_ESC_CFG.WINDOW_S * 1000000000

/-- A hang in service (R443, R450). -/
def State.hangServing (s : State) : State :=
  let l := s.recentResets
  if s.rd Page.err Reg.ERR_ESC_CFG.COUNT ≤ l.length + 1 then s.fatal Page.err Err.err.ESCALATED
  else
    let s := (s.wr Page.err Reg.ERR_ESC_STATE.REPLAY_RESETS 0)
    ({ s with faults := { s.faults with escTimes := s.now :: l, suspects := s.newSuspects, order := [], current := none, replays := 0
                                        isReplayReset := false } }).startReset

/-- The cleared persistent tasks that run become suspects again, at the end of the list (R447). -/
def State.suspectAgain (s : State) : State :=
  let n := s.faults.suspects.length
  let more := (s.newSuspects.filter fun u => u.persist).map fun u => { u with action := 1 }
  { s with faults := { s.faults with suspects := s.faults.suspects ++ more, order := s.faults.order ++ (List.range more.length).map (n + ·) } }

/-- A replay reset (R447). -/
def State.replayReset (s : State) : State :=
  let s := s.suspectAgain
  let n := s.faults.replays + 1
  ({ (s.wr Page.err Reg.ERR_ESC_STATE.REPLAY_RESETS (min 15 n)) with
    faults := { s.faults with replays := n, isReplayReset := true } }).startReset

/-- A hang in replay: the suspect under replay is guilty (R447, R449). -/
def State.hangReplay (s : State) : State :=
  match s.faults.current.bind fun i => (s.faults.suspects[i]?).map fun u => (i, u) with
  | none => s.replayReset
  | some (i, u) =>
    let s := s.err Page.err Err.err.REPLAY_GUILTY { ctx := some u.ctx, fn := s.ctxFn u.ctx, place := u.queue, placeKind := 4 }
    let s := { s with front := { s.front with launches := s.front.launches.filter fun e => e.2.pkt != u.slot } }
    ((s.modPkt u.slot fun x => { x with launch := none }).loseSuspect i u).replayReset

/-- The compute is hung (R442, R443, R449). -/
def State.hang (s : State) : State :=
  match s.istate with
  | 0 => s.hangServing
  | 2 => s.hangReplay
  | _ => s

/-- GENERATION_QUARANTINE_END: step 1 goes on. -/
def execGenerationQuarantineEnd (s : State) : Res :=
  guarded (s.mount && s.faults.phase == .quarantine && s.genFree s.nextGen) s fun s => s.enterReset s.nextGen

/-- CRST_HOLD_EXPIRY (step 3). -/
def execCrstHoldExpiry (s : State) : Res :=
  guarded (s.mount && s.faults.phase == .hold) s fun s => { s with faults := { s.faults with phase := .idleWait } }

/-- Step 4: CRST_N deasserts, the compute port shows the new generation (R486). -/
def State.opDeassert (s : State) : State :=
  { s with outs := { s.outs with crstN := true, dcpGen := s.feGen }, faults := { s.faults with phase := .hbWait } }
def execCrstDeassert (s : State) : Res := guarded (s.mount && s.faults.phase == .idleWait) s State.opDeassert

/-- DCP_IDLE_TIMEOUT (R486). -/
def execDcpIdleTimeout (s : State) : Res :=
  guarded (s.mount && s.faults.phase == .idleWait) s fun s => (s.err Page.err Err.err.DCP_STALL).opDeassert

/-- The waiting suspects when nothing more is replayed: each completes CTX_LOST, its context fatal-to-compute (R447). -/
def State.loseWaiting (s : State) : State :=
  s.faults.suspects.zipIdx.foldl (fun s e =>
    if e.1.state ≠ 0 then s
    else if ((s.pkt e.1.slot).map fun x => x.ended == EndWord.none).getD false then s.loseSuspect e.2 e.1
    else s.endSuspect e.2 3) { s with faults := { s.faults with order := [] } }

/-- The indices of the waiting suspects. -/
def State.waitingSuspects (s : State) : List Nat :=
  (s.faults.suspects.zipIdx.filter fun e => e.1.state == 0).map Prod.snd

/-- Every sequencer's credits return; one that has not been heard in the new generation is absent (R443, step 5). -/
def freshSeqs (need : List Nat) (l : SMap Seq) : SMap Seq :=
  l.map fun e => (e.1, { present := e.2.present && !need.contains e.1, credits := 16, lastHb := e.2.lastHb })

/-- ISTATE is REPLAY (step 6). -/
def State.enterReplay (s : State) : State :=
  let s := s.setIstate 2
  let f := s.faults
  { s with front := { s.front with seqs := freshSeqs f.hbNeed s.front.seqs }, faults := { f with phase := .replay, hbNeed := [] } }

/-- Step 5 ends, step 6 begins (R443, R447, R448). -/
def State.opHeartbeatEnd (s : State) : State :=
  let s := s.enterReplay
  if s.rd Page.err Reg.ERR_CRST_CFG.REPLAY_MAX ≤ s.faults.replays then s.loseWaiting.endEpisode
  else if s.faults.isReplayReset then s.replay
  else if s.hostMode 3 && !s.waitingSuspects.isEmpty then s.haPost 3
  else ({ s with faults := { s.faults with order := s.waitingSuspects } }).replay
def execCrstHeartbeatWaitEnd (s : State) : Res :=
  guarded (s.mount && s.feUp && s.faults.phase == .hbWait) s State.opHeartbeatEnd

/-! ### Hangs (R441, R442) -/

/-- The outstanding launch of packet `p`. -/
def State.launchAt (s : State) (p : Nat) : Option (Nat × Launch) :=
  (s.pkt p).bind fun x => x.launch.bind fun id => (SMap.find? s.front.launches id).map fun l => (id, l)

/-- WATCHDOG_EXPIRY: the end word goes to ABORTED unless it is set, and ABORT goes to the silent sequencers. -/
def State.opWatchdog (p : Nat) (s : State) : State :=
  match s.launchAt p with
  | none => s
  | some (id, l) =>
    if l.persist || l.wdFired then s else
    let s := (s.sendAborts p).abortPkt p St.WATCHDOG
    { s with front := { s.front with launches := SMap.set s.front.launches id { l with wdFired := true } } }
def execWatchdogExpiry (p : Nat) (s : State) : Res := guarded (s.feUp && s.mount) s (State.opWatchdog p)

/-- WATCHDOG_GRACE_EXPIRY: a sequencer is still silent. -/
def State.opGrace (p : Nat) (s : State) : State :=
  match s.launchAt p with
  | none => s
  | some (_, l) => if l.wdFired then s.hang else s
def execWatchdogGraceExpiry (p : Nat) (s : State) : Res := guarded (s.feUp && s.mount) s (State.opGrace p)

/-- HB_LOST of a present sequencer; during steps 1 to 5 the wait for heartbeats decides (R443). -/
def execHbLost (k : Nat) (s : State) : Res :=
  guarded (s.feUp && s.mount && (s.seq k).present && (s.istate == 0 || s.istate == 2)) s fun s =>
    (s.err Page.fe Err.fe.HB_LOST).hang

/-- DCP_STALL (R442, R484). -/
def execDcpStall (port : Nat) (s : State) : Res :=
  guarded (s.mount && port < s.build.dcpCount && !s.computeReset) s fun s =>
    (s.err Page.err Err.err.DCP_STALL { place := port, placeKind := 5 }).hang

/-- CRST_NOW: ignored unless in service (R449); a Post block has no compute. -/
def State.opCrstNow (s : State) : State := if s.istate = 0 ∧ s.post = false then s.hang else s
def execCrstNow (p : Party) (s : State) : Res := s.action p Page.err State.opCrstNow

/-! ### Replay -/

/-- Deliver again the TASK_MSGs of a replayed task that were delivered and not answered (R445). -/
def State.resendMsgs (s : State) (p : Nat) : State :=
  match s.launchAt p, s.pkt p with
  | some (id, l), some x =>
    ((s.pktsOf x.target).filter fun e => e.2.opcode == 0x0A && e.2.performed && e.2.result.isNone).foldl (fun s e =>
      s.emits (l.parts.map fun k => .msg k l.gen id e.2.msgId (slice e.2.bytes 16 (e.2.f 8 2)))) s
  | _, _ => s

/-- PERSIST_PROBE_EXPIRY (R447): the task under replay is cleared and keeps running. -/
def State.opProbe (s : State) : State :=
  match s.faults.current.bind fun i => s.faults.suspects[i]? with
  | none => s
  | some u => if ((s.launchAt u.slot).map fun e => e.2.persist).getD false then (s.resendMsgs u.slot).clearCurrent else s
def execPersistProbeExpiry (s : State) : Res := guarded (s.feUp && s.mount && s.istate == 2) s State.opProbe

/-- The request is complete once every entry has an action or has ended (R448). -/
def State.actionsDone (s : State) : State :=
  let open_ := s.faults.suspects.any fun u => u.action == 0 && u.state == 0 && ((s.pkt u.slot).map fun x => x.ended == EndWord.none).getD false
  (if open_ then s else s.haClear 3).replay

/-- ERR_SUSPECT_CMD with an action for entry `i` (R448). -/
def State.suspectCmd (p : Party) (i : Nat) (c : SvcCmd) (f : Suspect → State → State) (s : State) : Res :=
  s.action p Page.err fun s => s.assisted c fun s =>
    match s.faults.suspects[i]? with
    | none => s
    | some u => if s.istate == 2 && s.haPending 3 && u.action == 0 && u.state == 0 then (f u s).actionsDone else s

/-- Note an action. -/
def State.noteAction (s : State) (i a : Nat) : State := s.modSuspect i fun u => { u with action := a }

def execSuspectReplay (p : Party) (i : Nat) (s : State) : Res :=
  s.suspectCmd p i (.suspectReplay p i) fun _ s =>
    let s := s.noteAction i 1
    { s with faults := { s.faults with order := s.faults.order ++ [i] } }
def execSuspectFail (p : Party) (i : Nat) (s : State) : Res :=
  s.suspectCmd p i (.suspectFail p i) fun u s => (s.noteAction i 2).loseSuspect i u
def execSuspectDrop (p : Party) (i : Nat) (s : State) : Res :=
  s.suspectCmd p i (.suspectDrop p i) fun u s => ((s.noteAction i 3).cancelPkt u.slot St.CANCELLED).endSuspect i 3

/-- The request of R448 is withdrawn: what has no action is replayed, in list order, after what host software has named (R62). -/
def State.withdrawSuspects (s : State) : State :=
  let l := (s.faults.suspects.zipIdx.filter fun e => e.1.action == 0 && e.1.state == 0).map Prod.snd
  let s := l.foldl (fun s i => s.noteAction i 1) s
  (({ s with faults := { s.faults with order := s.faults.order ++ l } }).haClear 3).replay

/-- RESUME (R230, R318): dispatch and held replays resume (R449); the gait resumes at a swap only. -/
def execResume (p : Nat) (s : State) : Res :=
  s.perform p 0x68 fun _ s =>
    if !s.sync.stopped then s.kres p 1
    else ((({ s with sync := { s.sync with
      stopped := false, draining := false, stopDt := if s.sync.stopArmed then s.sync.stopDt else none } }).saveRecord).kres p 0).replay

end Sys2Proof.Machine
end

