-- ==== Sys2Proof/Machine/Weights.lean ====
section
/-! DEFINITION. Sealed regions: SEAL, UNWRAP and its chunks (R252, R253, R388, R389). -/

namespace Sys2Proof.Machine

/-! ### Sealing -/

/-- The filling of entry `n` ends: its key is released, the UNWRAP into it is over (R252, R253). -/
def State.endFill (s : State) (n : Nat) : State :=
  let s := if s.mem.unwrap.any fun u => u.entry == n then s.wr (Page.mch 0) Reg.UNWRAP_STATUS.ACTIVE 0 else s
  { s with mem := { s.mem with sealSlots := SMap.erase s.mem.sealSlots n, unwrap := s.mem.unwrap.filter fun u => u.entry != n } }

/-- Entry `n` goes to FAILED: the region is re-initialised, the key is released (R252). -/
def State.sealFail (s : State) (n : Nat) : State :=
  let e := s.ratAt n
  (((s.setRat n (e.withSeal true 3 e.model)).reinit e.base e.size).endFill n).err (Page.mch 0) Err.mch.UNWRAP_FAIL

/-- Is entry `n` in FILLING? -/
def State.filling (s : State) (n : Nat) : Bool := (s.ratAt n).valid && (s.ratAt n).sealState == 1

/-- Slot `k` holds the weight key of entry `n`. -/
def State.useKey (s : State) (n k : Nat) : State := { s with mem := { s.mem with sealSlots := SMap.set s.mem.sealSlots n k } }

/-- SEAL (R252, R318). -/
def State.opSeal (p : Nat) (x : Pkt) (s : State) : State :=
  let n := x.f 8 1
  let k := bits (x.f 12 1) 0 5
  let e := s.ratAt n
  if !e.valid || e.sealed || e.sealState != 0 || e.tx then s.kres p 1
  else if (s.slot k).kind != 6 || (s.slot k).state != 1 then s.kres p 2
  else
    (((s.setRat n (e.withSeal true 1 (x.f 10 2))).reinit e.base e.size).useKey n k).finish p St.OK
def execSeal (p : Nat) (s : State) : Res := s.perform p 0x6A (State.opSeal p)

/-- CHUNKS, CHUNK_LOG2 and TOTAL of a header (R388). -/
def wrapChunks (h : List Byte) : Nat := ofLe (slice h 8 4)
def wrapLog2 (h : List Byte) : Nat := ofLe (slice h 5 1)
def wrapTotal (h : List Byte) : Nat := ofLe (slice h 16 8)
def wrapModel (h : List Byte) : Nat := ofLe (slice h 6 2)

/-- The nonce of chunk `c`, and its additional data. -/
def wrapNonce (h : List Byte) (c : Nat) : List Byte := slice h 24 8 ++ beBytes 4 c
def wrapAad (h : List Byte) (c : Nat) : List Byte := slice h 0 112 ++ beBytes 4 c

/-- Are the header's own fields good (R388, R389)? The last chunk holds 1 to 2^CHUNK_LOG2 bytes. -/
def wrapOk (h : List Byte) : Bool :=
  ofLe (slice h 0 4) == 0x44574731 && ofLe (slice h 4 1) == 1 && 16 ≤ wrapLog2 h && wrapLog2 h ≤ 24 && 1 ≤ wrapChunks h
    && ofLe (slice h 12 4) == 0 && (slice h 32 80).all (· == 0)
    && (wrapChunks h - 1) * 2 ^ wrapLog2 h < wrapTotal h && wrapTotal h ≤ wrapChunks h * 2 ^ wrapLog2 h

/-- The checks of R389 on a header of 128 bytes; `bad`: the header could not be read without error. -/
def State.unwrapOk (s : State) (n bytes : Nat) (h : List Byte) (bad : Bool) : Bool :=
  let e := s.ratAt n
  let k := s.slot (SMap.getD s.mem.sealSlots 0 n)
  128 ≤ bytes && !bad && wrapOk h && k.kind == 6 && k.state == 1
    && slice h 112 16 == gcmTag (keyOf k.payload) (wrapNonce h 0xFFFFFFFF) (slice h 0 112) []
    && wrapModel h == e.model && wrapModel h == k.gen && bytes == 128 + wrapTotal h + 16 * wrapChunks h && wrapTotal h ≤ e.size
    && s.mem.unwrap.isNone

/-- Record a refusal in KEY_LAST_REFUSE (R395): source 1 RELEASE, 2 KEY_LOAD, 3 UNWRAP, 4 IDE_KM, 5 TDISP. -/
def State.lastRefuse (s : State) (source code : Nat) : State :=
  (s.wr Page.key Reg.KEY_LAST_REFUSE.CODE code).wr Page.key Reg.KEY_LAST_REFUSE.SOURCE source

/-- UNWRAP (R253, R318, R389): a source that the host PF class may not read, or a header that R389 refuses, leaves the entry FAILED (R252). -/
def State.opUnwrap (p : Nat) (x : Pkt) (s : State) : State :=
  let n := x.f 8 1
  let src := x.f 16 8
  let bytes := x.f 24 8
  if !s.filling n then (s.lastRefuse 3 1).kres p 1
  else if (s.checkRange Master.pf 0 src bytes).isSome then ((s.sealFail n).lastRefuse 3 2).kres p 2
  else
    let a := s.readAs Master.maint src (min bytes 128)
    let h := slice a.data 0 128
    if s.unwrapOk n bytes h (a.status != St.OK) then
      let s := (((a.st.wr (Page.mch 0) Reg.UNWRAP_STATUS.ENTRY n).wr (Page.mch 0) Reg.UNWRAP_STATUS.ACTIVE 1).wr (Page.mch 0)
        Reg.UNWRAP_CHUNKS.COUNT 0).saddled
      let k := SMap.getD s.mem.sealSlots 0 n
      let u : Unwrap := { entry := n, slot := k, src := src, bytes := bytes, hdr := slice h 0 112, chunk := 0, key := keyOf (s.slot k).payload }
      ({ s with mem := { s.mem with unwrap := some u } } : State).finish p St.OK
    else ((a.st.sealFail n).lastRefuse 3 3).kres p 3
def execUnwrap (p : Nat) (s : State) : Res := s.perform p 0x6B (State.opUnwrap p)

/-- The next chunk is read, decrypted and verified, then written; the last one seals the entry (R252, R253, R388). A chunk
whose access must wait is asked for again (R269, R271). -/
def State.opChunk (s : State) (u : Unwrap) : State :=
  let size := 2 ^ wrapLog2 u.hdr
  let len := if u.chunk + 1 < wrapChunks u.hdr then size else wrapTotal u.hdr - (wrapChunks u.hdr - 1) * size
  let a := s.readAs Master.maint (u.src + 128 + u.chunk * (size + 16)) (len + 16)
  let ct := slice a.data 0 len
  if a.status != St.OK || slice a.data len 16 != gcmTag u.key (wrapNonce u.hdr u.chunk) (wrapAad u.hdr u.chunk) ct then
    a.st.sealFail u.entry
  else
    let e := a.st.ratAt u.entry
    let s := ((a.st.writePhys (e.base + u.chunk * size) (gcmText u.key (wrapNonce u.hdr u.chunk) ct) 0 false).2).inc (Page.mch 0)
      Reg.UNWRAP_CHUNKS.COUNT
    if u.chunk + 1 < wrapChunks u.hdr then { s with mem := { s.mem with unwrap := some { u with chunk := u.chunk + 1 } } }
    else
      let s := { s with mem := { s.mem with unwrap := none, sealSlots := SMap.erase s.mem.sealSlots u.entry } }
      (s.setRat u.entry (e.withSeal true 2 e.model)).wr (Page.mch 0) Reg.UNWRAP_STATUS.ACTIVE 0
def execUnwrapChunk (s : State) : Res :=
  guarded (s.mount && s.memOpen) s fun s =>
    match s.mem.unwrap with
    | some u => s.orWait fun s => s.opChunk u
    | none => s

/-- UNWRAP_ABANDON (R252). -/
def execUnwrapAbandon (entry : Nat) (s : State) : Res :=
  guarded (s.mount && s.filling entry) s fun s => s.sealFail entry

end Sys2Proof.Machine
end

