-- ==== Sys2Proof/Machine/Keys.lean ====
section
/-! DEFINITION. The tack store (R367 to R370), KEY_LOAD (R387), the join record and the generations of the domain link key (R385, R386), and
the saddle's queue (R371, R372) with what waits for it: keys of control cipher pages (R401) and IDE keys (R390). -/

namespace Sys2Proof.Machine

/-- HKDF-Extract over SHA-384 as bytes. -/
def hkdfExtract (salt ikm : List Byte) : List Byte := beBytes 48 (Config.hmac salt ikm).toNat

/-- SHA-384 as bytes. -/
def shaBytes (l : List Byte) : List Byte := beBytes 48 (Config.sha384 l).toNat

/-- Fill or clear a slot. -/
def State.setSlot (s : State) (n : Nat) (x : Slot) : State :=
  { s with trust := { s.trust with slots := SMap.put s.trust.slots Slot.free n x } }

/-- Life-cycle state code (R411). -/
def State.lcState (s : State) : Nat := s.rd Page.lcs Reg.LCS_STATUS.STATE

/-- SHA-384 of `meas` as kept with slots 8 to 31 from now on (R370). -/
def State.keepMeas (s : State) : State := { s with trust := { s.trust with measKept := some s.trust.meas } }

/-- Slots 8 to 31 and the join record are erased (R370). -/
def State.eraseKeys (s : State) : State :=
  { s with trust := { s.trust with slots := s.trust.slots.filter fun e => e.1 < 8, join := none } }

/-! ### KEY_LOAD -/

/-- A KEY_LOAD packet with OP `op` is performed by `f` on its SLOT and SRC (R387); `f` answers a refusal code and the state. -/
def State.keyLoad (s : State) (p : Nat) (isOp : Nat → Bool) (f : Nat → Nat → State → Nat × State) : Res :=
  match s.pkt p with
  | none => .next s
  | some x =>
    if !isOp (x.f 8 1) then .next s else
    s.perform p 0x60 fun x s =>
      let r := f (x.f 9 1) (x.f 16 8) s
      if r.1 = 0 then r.2.finish p St.OK else (r.2.lastRefuse 2 r.1).finish p St.REFUSED r.1

/-- Put the anchor into slot 8 (R368). -/
def State.putAnchor (s : State) (l : List Byte) : State :=
  (s.setSlot 8 { kind := 4, state := 1, gen := 0, payload := slice l 0 48 }).keepMeas

/-- ANCHOR in Mount role. -/
def State.opAnchor (src : Nat) (s : State) : Nat × State :=
  if (s.slot 8).state != 0 then (1, s)
  else
    let a := s.readAs Master.pf src 48
    if (s.checkRange Master.pf 0 src 48).isSome || a.status != St.OK then (2, s) else (0, a.st.putAnchor a.data)

/-- KEY_LOAD_ANCHOR (R387); in Post role SRC is read through the host interface (R319), and the packet ends with that read. -/
def execKeyLoadAnchor (p : Nat) (s : State) : Res :=
  if s.boot.post then
    match s.pkt p with
    | none => .next s
    | some x =>
      if x.f 8 1 != 1 then .next s else
      s.perform p 0x60 fun x s =>
        if (s.slot 8).state != 0 then (s.lastRefuse 2 1).finish p St.REFUSED 1 else s.hostRead 0 (x.f 16 8) 48 Use.ANCHOR p
  else s.keyLoad p (· == 1) fun _ src s => s.opAnchor src

/-- The host read of an anchor has ended. -/
def State.anchorRead (s : State) (p : Nat) (ok : Bool) (l : List Byte) : State :=
  if !ok then (s.lastRefuse 2 2).finish p St.REFUSED 2
  else if (s.slot 8).state != 0 then (s.lastRefuse 2 1).finish p St.REFUSED 1
  else (s.putAnchor l).finish p St.OK

/-- After a generation has become ACTIVE (R385, R386): every UP port changes keys under it, every UNKEYED port goes on with R130. -/
def State.dlkBegun (s : State) : State :=
  (List.range s.ports).foldl (fun s n =>
    if s.portUp n then s.readyRekey n s.dlkGen else if s.lstate n = 2 then s.progress n else s) s

/-- DLK_ACTIVATE. -/
def State.opActivate (n : Nat) (s : State) : Nat × State :=
  let x := s.slot n
  if n < 9 || x.kind != 5 || x.state != 1 then (3, s)
  else if s.dlkActive.length ≥ 2 then (4, s)
  else (0, (s.setSlot n { x with state := 2 }).dlkBegun)

/-- DLK_ACTIVATE (R387). -/
def execDlkActivate (p : Nat) (s : State) : Res := s.keyLoad p (· == 2) fun n _ s => s.opActivate n

/-- Does a latch of a link or sibling port hold a key of generation `g` (R386)? -/
def State.genUsed (s : State) (g : Nat) : Bool :=
  s.links.any fun e => [e.2.txKey, e.2.txNextKey, e.2.rxKey, e.2.rxNextKey].any fun k => k.any fun x => x.gen == g

/-- ERASE. -/
def State.opErase (n : Nat) (s : State) : Nat × State :=
  let x := s.slot n
  if n < 9 || 32 ≤ n then (5, s)
  else if (x.kind == 5 && x.state != 0 && s.genUsed x.gen) || (x.kind == 6 && s.mem.sealSlots.any fun e => e.2 == n) then (6, s)
  else (0, s.setSlot n Slot.free)

/-- ERASE (R387). -/
def execErase (p : Nat) (s : State) : Res := s.keyLoad p (· == 3) fun n _ s => s.opErase n

/-- CONF_ENTER (R394, R420): the service pair's trace ends after the message in progress; the counters freeze; a Halter command ends. -/
def State.opConfEnter (s : State) : Nat × State :=
  if s.lcState != 2 then (7, s)
  else if (s.slot 8).state != 1 || s.trust.join.isNone then (8, s)
  else
    let s := ((s.wr Page.key Reg.KEY_STATUS.CONF 1).wr Page.cnt Reg.CNT_STATUS.FROZEN 1).wr Page.trc Reg.TRC_STATUS.RUNNING 0
    (0, { s with dbg := { s.dbg with lcLines := [], lcWant := false } })

/-- CONF_ENTER (R387). -/
def execConfEnter (p : Nat) (s : State) : Res := s.keyLoad p (· == 4) fun _ _ s => s.opConfEnter

/-- KEY_LOAD_INVALID_OP (R387). -/
def execKeyLoadInvalidOp (p : Nat) (s : State) : Res := s.keyLoad p (fun op => op == 0 || 4 < op) fun _ _ s => (9, s)

/-! ### The saddle -/

/-- Queue an operation. -/
def State.saddleAdd (s : State) (prio : Nat) (u : SaddleUse) : State :=
  { s with trust := { s.trust with saddleQ := s.trust.saddleQ ++ [{ prio := prio, use := u, failed := false }] } }

/-- The operation that the saddle serves next: the highest priority, then the earliest. -/
def nextSaddle (l : List SaddleOp) : Option SaddleOp :=
  l.foldl (fun (b : Option SaddleOp) x => match b with
    | none => some x
    | some y => if x.prio < y.prio then some x else some y) none

/-- Control cipher page `n` beyond its registers. -/
def State.ccipAt (s : State) (n : Nat) : Ccip := SMap.getD s.ccip Ccip.empty n
def State.setCcip (s : State) (n : Nat) (c : Ccip) : State := { s with ccip := SMap.put s.ccip Ccip.empty n c }

/-- A key request of page `n` is complete with a code (R402, R407); every code but 0 is a refusal. -/
def State.ccipKeyDone (s : State) (n code : Nat) : State :=
  let p := Page.ccip n
  let s := ((s.wr p Reg.CCIP_KEY_STATUS.CODE code).wr p Reg.CCIP_KEY_STATUS.DONE 1).wr p Reg.CCIP_STATUS.BUSY 0
  if code = 0 then s else s.err p Err.ccip.KEY_REQ_REFUSED { detail := code }

/-- Load or clear the latch of page `n`. -/
def State.ccipKey (s : State) (n : Nat) (k : Option (Bool × Key256)) : State :=
  let p := Page.ccip n
  let s := s.setCcip n { s.ccipAt n with key := k.map fun x => (if x.1 then 128 else 256, x.2) }
  (s.wr p Reg.CCIP_STATUS.KEY_VALID (b2n k.isSome)).wr p Reg.CCIP_STATUS.KEY_128 (b2n (k.any fun x => x.1))

/-- Does slot `n` hold a DLK or WEIGHT key, HELD or ACTIVE (R402)? -/
def State.derivable (s : State) (n : Nat) : Bool :=
  ((s.slot n).kind == 5 || (s.slot n).kind == 6) && ((s.slot n).state == 1 || (s.slot n).state == 2)

/-- The key that page `n` derives from slot `k` (R401). -/
def State.ccipDerived (s : State) (n k : Nat) : Key256 :=
  keyOf (Config.hkdfExpand (hkdfExtract (ascii "dz1 ccip") (slice (s.slot k).payload 0 32))
    (ascii "dz1 ccip key" ++ beBytes 1 n ++ beBytes 4 (s.rd (Page.ccip n) Reg.CCIP_LABEL.LABEL)) 32)

/-- A beat on the key-out port (R494). The block presents one command at a time: its answer is awaited. -/
def State.koSend (s : State) (op session stream kset dir sub : Nat) (key : Key256) (ifv : W64) : State :=
  ({ s with trust := { s.trust with koBeat := some (op, session, stream) } }).emit (.ko op stream kset dir sub key ifv)

/-- The saddle performs an operation. -/
def State.saddleDo (s : State) (u : SaddleUse) : State :=
  match u with
  | .ccipTrng n small =>
    let r := s.draw 1
    (r.2.saddled.ccipKey n (some (small, Config.trng r.1))).ccipKeyDone n 0
  | .ccipDerive n k small =>
    if s.derivable k then (s.saddled.ccipKey n (some (small, s.ccipDerived n k))).ccipKeyDone n 0 else s.ccipKeyDone n 4
  | .ide session stream kset dir sub key ifv => s.saddled.koSend 2 session stream kset dir sub key ifv

/-- An operation has failed twice: fatal (R372); a key request ends with code 6 (R402). -/
def State.saddleFail (s : State) (u : SaddleUse) : State :=
  let s := match u with
    | .ccipTrng n _ => s.ccipKeyDone n 6
    | .ccipDerive n _ _ => s.ccipKeyDone n 6
    | .ide _ _ _ _ _ _ _ => s
  s.fatal Page.key Err.key.SADDLE_CHECK

/-- The saddle serves the next operation; with a bad check it is repeated once from its source, a drawn one with a fresh draw. -/
def State.opSaddle (ok : Bool) (s : State) : State :=
  match nextSaddle s.trust.saddleQ with
  | none => s
  | some x =>
    let q := s.trust.saddleQ.erase x
    let s' := { s with trust := { s.trust with saddleQ := q } }
    if ok then s'.saddleDo x.use
    else if x.failed then s'.saddleFail x.use
    else
      let s := ({ s with trust := { s.trust with saddleQ := { x with failed := true } :: q } }).err Page.key Err.key.SADDLE_CHECK
      match x.use with
      | .ccipTrng _ _ => (s.draw 1).2
      | _ => s
def execSaddleOperation (checkOk : Bool) (s : State) : Res := guarded s.serving s (State.opSaddle checkOk)

end Sys2Proof.Machine
end

