-- ==== Sys2Proof/Machine/Control.lean ====
section
/-! DEFINITION. The control cipher (R397 to R408): ownership of its pages, key requests, jobs and their padding. -/

namespace Sys2Proof.Machine

/-- May a party reach the page beyond its header, and its CTRL register (R400)? -/
def ownerMay (p : Party) (owner : Nat) : Bool :=
  match p with
  | .sec => true
  | .svc => owner == 1
  | .pf => owner == 2
  | _ => false

/-- A command of a party on page `n`: only its owner's parties command it (R400). -/
def State.ccipDo (s : State) (p : Party) (n : Nat) (f : State → State) : Res :=
  s.action p (Page.ccip n) fun s =>
    if ownerMay p (s.rd (Page.ccip n) Reg.CCIP_OWNER.OWNER) then f s else s.err (Page.ccip n) Err.PRIV

/-- STATUS.BUSY. -/
def State.ccipBusy (s : State) (n : Nat) : Bool := s.rdb (Page.ccip n) Reg.CCIP_STATUS.BUSY

/-! ### The window -/

/-- The first `len` bytes of the data window (R403). -/
def State.window (s : State) (n len : Nat) : List Byte :=
  ((List.range ((len + 3) / 4)).flatMap fun w => leBytes 4 (s.rd (Page.ccip n) Reg.CCIP_DATAw.DATA w)).take len

/-- Put bytes at the start of the window; later bytes keep their values. -/
def State.setWindow (s : State) (n : Nat) (l : List Byte) : State :=
  (List.range ((l.length + 3) / 4)).foldl (fun s w =>
    let old := leBytes 4 (s.rd (Page.ccip n) Reg.CCIP_DATAw.DATA w)
    let new := (l.drop (4 * w)).take 4
    s.wr (Page.ccip n) Reg.CCIP_DATAw.DATA (ofLe (new ++ old.drop new.length)) w) s

/-- The whole window cleared to zero. -/
def State.clearWindow (s : State) (n : Nat) : State := s.setWindow n (List.replicate 2048 0)

/-! ### Padding (R404) -/

/-- Bytes appended on encryption under PAD. -/
def padBytes (pad len : Nat) : List Byte :=
  let fill := (16 - len % 16) % 16
  match pad with
  | 0 => []
  | 1 => List.replicate fill 0
  | 2 => List.replicate (16 - len % 16) (BitVec.ofNat 8 (16 - len % 16))
  | _ => BitVec.ofNat 8 0x80 :: List.replicate (15 - len % 16) 0

/-- OUT_LEN of a decryption, none where the padding check fails. -/
def unpad (pad : Nat) (l : List Byte) : Option Nat :=
  let n := l.length
  match pad with
  | 2 =>
    let p := (l.getLast?.getD 0).toNat
    if 1 ≤ p ∧ p ≤ 16 ∧ p ≤ n ∧ (l.drop (n - p)).all (fun b => b.toNat == p) = true then some (n - p) else none
  | 3 =>
    let zeros := (l.reverse.takeWhile (· == 0)).length
    if zeros < n ∧ zeros < 16 ∧ (slice l (n - zeros - 1) 1) = [BitVec.ofNat 8 0x80] then some (n - zeros - 1) else none
  | _ => some n

/-- Is the length of a job bad (R405, LENGTH)? -/
def badLength (decrypt : Bool) (pad len : Nat) : Bool :=
  2048 < len || (if decrypt then len == 0 || len % 16 != 0 else (pad == 0 && len % 16 != 0) || 2048 < len + (padBytes pad len).length)

/-! ### Key requests -/

/-- A key request of CCIP_KEY_REQ (R401, R402, R406); `slotOk`: the check of the slot verifies (R367). -/
def State.keyReq (s : State) (n src slot : Nat) (small erase slotOk : Bool) : State :=
  let p := Page.ccip n
  if s.ccipBusy n then
    ((s.err p Err.ccip.BUSY_ACCESS).wr p Reg.CCIP_KEY_STATUS.CODE 1).err p Err.ccip.KEY_REQ_REFUSED { detail := 1 }
  else if erase then (s.ccipKey n none).ccipKeyDone n 0
  else if src = 0 ∨ src = 3 then s.ccipKeyDone n 2
  else if src = 2 ∧ s.rd p Reg.CCIP_OWNER.OWNER ≠ 0 then s.ccipKeyDone n 3
  else if src = 2 ∧ s.derivable slot = false then s.ccipKeyDone n 4
  else if src = 2 ∧ slotOk = false then
    ((s.setSlot slot { s.slot slot with state := 3 }).err Page.key Err.key.SLOT_CHECK { place := slot, placeKind := 6 }).ccipKeyDone n 5
  else
    let s := (s.wr p Reg.CCIP_STATUS.BUSY 1).wr p Reg.CCIP_KEY_STATUS.DONE 0
    s.saddleAdd 5 (if src = 1 then .ccipTrng n small else .ccipDerive n slot small)

/-- A request as a word of CCIP_KEY_REQ. -/
def State.keyReqWord (n : Nat) (v : W32) (s : State) : State :=
  s.keyReq n (fieldOf v 0 2) (fieldOf v 3 5) (v.getLsbD 2) (v.getLsbD 8) true

/-- CCIP_KEY_TRNG: SRC 1; the word gives SIZE. -/
def execCcipKeyTrng (p : Party) (page : Nat) (v : W32) (s : State) : Res :=
  s.ccipDo p page fun s => s.keyReq page 1 0 (v.getLsbD 2) false true

/-- CCIP_KEY_DERIVE: SRC 2; the word gives SIZE and SLOT. -/
def execCcipKeyDerive (p : Party) (page : Nat) (v : W32) (slotOk : Bool) (s : State) : Res :=
  s.ccipDo p page fun s => s.keyReq page 2 (fieldOf v 3 5) (v.getLsbD 2) false slotOk

/-- CCIP_KEY_ERASE. -/
def execCcipKeyErase (p : Party) (page : Nat) (s : State) : Res := s.ccipDo p page fun s => s.keyReq page 0 0 false true true

/-! ### Jobs -/

/-- START (R398, R403, R406): BUSY until the job ends. -/
def State.opCcipStart (n : Nat) (s : State) : State :=
  let p := Page.ccip n
  if s.ccipBusy n then s.err p Err.ccip.BUSY_ACCESS
  else
    (s.setCcip n { s.ccipAt n with running := true, aborting := false, hadKey := (s.ccipAt n).key.isSome }).wr p Reg.CCIP_STATUS.BUSY 1
      |>.wr p Reg.CCIP_RESULT.DONE 0
def execCcipStart (p : Party) (page : Nat) (s : State) : Res := s.ccipDo p page (State.opCcipStart page)

/-- ABORT (R406): ignored without a job. -/
def State.opAbort (n : Nat) (s : State) : State :=
  if (s.ccipAt n).running then s.setCcip n { s.ccipAt n with aborting := true } else s
def execCcipAbort (p : Party) (page : Nat) (s : State) : Res := s.ccipDo p page (State.opAbort page)

/-- A job ends with a code and OUT_LEN (R405). -/
def State.jobEnd (s : State) (n code outLen blocks : Nat) : State :=
  let p := Page.ccip n
  let s := s.setCcip n { s.ccipAt n with running := false, aborting := false }
  let s := if code = 0 ∨ code = 3 then s else s.clearWindow n
  let s := ((s.wr p Reg.CCIP_RESULT.CODE code).wr p Reg.CCIP_RESULT.OUT_LEN (if code = 0 ∨ code = 3 then outLen else 0)).wr p
    Reg.CCIP_RESULT.DONE 1
  let s := (s.wr p Reg.CCIP_STATUS.BUSY 0).add p Reg.CCIP_BLOCKS.COUNT blocks
  if code = 0 ∨ code = 4 then s else s.err p Err.ccip.JOB_FAIL { detail := code }

/-- One block under the page's key (R403). -/
def cipherBlock (k : Nat × Key256) (decrypt : Bool) (l : List Byte) : List Byte :=
  let x := BitVec.ofNat 128 (ofLe l)
  let small := BitVec.ofNat 128 (ofLe ((beBytes 32 k.2.toNat).take 16))
  leBytes 16 (if k.1 = 128 then (if decrypt then Config.aes128Inv small x else Config.aes128 small x)
    else (if decrypt then Config.aes256Inv k.2 x else Config.aes256 k.2 x)).toNat

/-- The blocks of a text, each on its own. -/
def cipherBlocks (k : Nat × Key256) (decrypt : Bool) (l : List Byte) : List Byte :=
  (List.range (l.length / 16)).flatMap fun i => cipherBlock k decrypt (slice l (16 * i) 16)

/-- The job runs to its end under key `k` (R403, R404). -/
def State.jobRun (s : State) (n : Nat) (k : Nat × Key256) (decrypt : Bool) (pad len : Nat) : State :=
  if decrypt then
    let t := cipherBlocks k true (s.window n len)
    match unpad pad t with
    | some m => (s.setWindow n (t.take m ++ List.replicate (len - m) 0)).jobEnd n 0 m (len / 16)
    | none => (s.setWindow n t).jobEnd n 3 len (len / 16)
  else
    let t := cipherBlocks k false (s.window n len ++ padBytes pad len)
    (s.setWindow n t).jobEnd n 0 t.length (t.length / 16)

/-- The engine leaves service (R399). -/
def State.engineOut (s : State) : State :=
  (List.range 16).foldl (fun s k => (s.wr (Page.ccip k) Reg.CCIP_STATUS.ENGINE_OUT 1).err (Page.ccip k) Err.ccip.ENGINE_FAULT) s

/-- CCIP_JOB_DONE (R399, R403 to R406): the job of a page ends. `done` is the number of blocks processed when it ends early, `parity` the parity
mismatches of one block, `bad`: a window unit that it read was uncorrectable. -/
def State.opJobDone (n done parity : Nat) (bad : Bool) (s : State) : State :=
  let p := Page.ccip n
  let c := s.ccipAt n
  let decrypt := s.rdb p Reg.CCIP_OP.DIR
  let pad := s.rd p Reg.CCIP_OP.PAD
  let len := s.rd p Reg.CCIP_LEN.LEN
  let total := (if decrypt then len else len + (padBytes pad len).length) / 16
  let done := min done total
  let parity := if total = 0 then 0 else parity
  if s.rdb p Reg.CCIP_STATUS.ENGINE_OUT then s.jobEnd n 6 0 0
  else if !c.hadKey then s.jobEnd n 1 0 0
  else if badLength decrypt pad len then s.jobEnd n 2 0 0
  else
    match c.key with
    | none => s.jobEnd n 5 0 done
    | some k =>
      let s := if parity = 0 then s else s.err p Err.ccip.ENGINE_PARITY
      if 2 ≤ parity then (s.engineOut).jobEnd n 6 0 done
      else if bad then (s.err p Err.ccip.WINDOW_CHECK).jobEnd n 7 0 done
      else if c.aborting then s.jobEnd n 4 0 done
      else s.jobRun n k decrypt pad len
def execCcipJobDone (page done parity : Nat) (bad : Bool) (s : State) : Res :=
  guarded (s.up && (s.ccipAt page).running) s (State.opJobDone page done parity bad)

end Sys2Proof.Machine
end

