-- ==== Sys2Proof/Machine/Fuse.lean ====
section
/-! DEFINITION. The life-cycle fuses (R409 to R411, R417): voting over three copies read at two thresholds, the life-cycle state that the
voted rows give, and the completion of a copy at power-on. -/

namespace Sys2Proof
open Sys2Proof.Machine

/-- Bits that surely read as 1, and bits that may. -/
def FuseCopy.sure (c : FuseCopy) : Nat := Nat.land c.norm c.marg
def FuseCopy.may (c : FuseCopy) : Nat := Nat.lor c.norm c.marg

/-- Two of three (R16), bit by bit. -/
def vote3 (l : List Nat) : Nat :=
  let a := l.getD 0 0
  let b := l.getD 1 0
  let c := l.getD 2 0
  Nat.lor (Nat.lor (Nat.land a b) (Nat.land b c)) (Nat.land a c)

/-- Is a vote of the row unsafe: would it change with the reading of the marginal bits (R410)? -/
def rowUnsafe (l : List FuseCopy) : Bool := vote3 (l.map FuseCopy.sure) != vote3 (l.map FuseCopy.may)

/-- Does the row hold a marginal bit whose vote is safe (R410)? -/
def rowSafeMarginal (l : List FuseCopy) : Bool :=
  let m := (l.map fun c => Nat.xor c.norm c.marg).foldl Nat.lor 0
  Nat.land m (Nat.xor (vote3 (l.map FuseCopy.sure)) (vote3 (l.map FuseCopy.may))) != m

/-- The voted row. -/
def rowVote (l : List FuseCopy) : Nat := vote3 (l.map FuseCopy.sure)

/-- Ones among the low `w` bits. -/
def ones (w v : Nat) : Nat := ((List.range w).filter fun i => bit v i).length

/-- Marginal bits of a row of `w` bits. -/
def rowMarginal (w : Nat) (l : List FuseCopy) : Nat := (l.map fun c => ones w (Nat.xor c.norm c.marg)).foldl (· + ·) 0

def Fuses.tRow (f : Fuses) : List FuseCopy := f.copies.map (·.lcT)
def Fuses.scrapRow (f : Fuses) : List FuseCopy := f.copies.map (·.scrap)
def Fuses.udsRow (f : Fuses) : List FuseCopy := f.copies.map (·.uds)

/-- The voted unique device secret, serial number and authority. -/
def Fuses.uds (f : Fuses) : Nat := rowVote f.udsRow
def Fuses.serialNo (f : Fuses) : Nat := vote3 f.serial
def Fuses.authHash (f : Fuses) : Nat := vote3 f.auth

/-- k: leading ones of the voted T (R411). -/
def Fuses.toggles (f : Fuses) : Nat := ((List.range 18).takeWhile fun i => bit (rowVote f.tRow) i).length

/-- A UDS burnt by a completed transition stands whole in two copies at least (R410, R415). -/
def Fuses.udsWhole (f : Fuses) : Bool := 2 ≤ (f.udsRow.filter fun c => c.sure == f.uds && c.may == f.uds).length

/-- The conditions of LOST (R410). -/
def Fuses.lost (f : Fuses) : Bool :=
  rowUnsafe f.tRow || rowUnsafe f.scrapRow || rowUnsafe f.udsRow || rowVote f.tRow != 2 ^ f.toggles - 1
    || (bit (rowVote f.tRow) 0 && f.uds != 0 && !f.udsWhole)

/-- The state code (R411). -/
def Fuses.state (f : Fuses) : Nat :=
  if f.lost then 5
  else if bit (rowVote f.scrapRow) 0 then 4
  else if f.toggles = 0 then 0
  else if f.toggles = 1 then 1
  else if f.toggles % 2 = 0 then 2
  else 3

/-- Marginal bits at the last read, and whether a copy differs from the vote (R428). -/
def Fuses.marginal (f : Fuses) : Nat := rowMarginal 18 f.tRow + rowMarginal 1 f.scrapRow + rowMarginal 256 f.udsRow
def Fuses.disagree (f : Fuses) : Bool :=
  (f.tRow.any fun c => c.norm != rowVote f.tRow) || (f.scrapRow.any fun c => c.norm != rowVote f.scrapRow)
    || f.udsRow.any fun c => c.norm != f.uds

def Fuses.safeMarginal (f : Fuses) : Bool := rowSafeMarginal f.tRow || rowSafeMarginal f.scrapRow || rowSafeMarginal f.udsRow

/-- One copy with every bit whose vote is 1 (R417). -/
def FuseCopy.fill (c : FuseCopy) (v : Nat) : FuseCopy := { norm := Nat.lor c.norm v, marg := Nat.lor c.marg v }
def Fuses.filled (f : Fuses) : Fuses :=
  { f with copies := f.copies.map fun c =>
      { lcT := c.lcT.fill (rowVote f.tRow), scrap := c.scrap.fill (rowVote f.scrapRow), uds := c.uds.fill f.uds } }

/-- HOLD_LOCK, voted (R460). -/
def Fuses.holdLocked (f : Fuses) : Bool := bit (vote3 f.holdLock) 0

end Sys2Proof

namespace Sys2Proof.Machine

/-- Set the fuses. -/
def State.setFuses (s : State) (f : Fuses) : State := { s with lc := { s.lc with fuses := f } }

/-- Read the rows (R410): the LCS page shows what they give; a marginal bit with a safe vote, or a lost state, is reported. -/
def State.readFuses (s : State) : State :=
  let f := s.lc.fuses
  let p := Page.lcs
  let s := ((((s.wr p Reg.LCS_STATUS.STATE f.state).wr p Reg.LCS_STATUS.TOGGLES f.toggles).wr p Reg.LCS_STATUS.AUTH_SET
    (b2n (f.authHash != 0))).wr p Reg.LCS_STATUS.UDS_SET (b2n (f.uds != 0))).wrPair p Reg.LCS_SERIAL_LO.SERIAL Reg.LCS_SERIAL_HI.SERIAL f.serialNo
  let s := (s.wr p Reg.LCS_MARGIN.BITS f.marginal).wr p Reg.LCS_MARGIN.DISAGREE (b2n f.disagree)
  let s := if f.safeMarginal then s.err p Err.lcs.FUSE_MARGINAL else s
  if f.lost then s.report p Err.lcs.LOST 4 else s

/-- Complete the copies that lack a bit whose safe vote is 1 (R417); a lost unit stays as it is. -/
def State.repairFuses (s : State) : State :=
  let f := s.lc.fuses
  if f.lost || f.filled == f then s
  else (((s.setFuses f.filled).wr Page.lcs Reg.LCS_STATUS.REPAIRED 1)).err Page.lcs Err.lcs.COPY_REPAIR

end Sys2Proof.Machine
end

