-- ==== Sys2Proof/Machine/Reset.lean ====
section
/-! DEFINITION. The reset scopes (R24, R37, R452): LR region reset, FR region reset and with it the FLR of the PF (R359), block reset,
power-on reset; tamper (R392, R393) and scan mode (R503), which end in block reset. -/

namespace Sys2Proof.Machine

/-! ### LR region reset -/

/-- A compute port's access that a region reset cuts off ends NO_RESPONSE. -/
def State.cutReply (s : State) (r : Reply) : State :=
  match r with
  | .dcp port tag gen => s.dcpAnswer port tag gen St.NO_RESPONSE [] 0
  | .none => s
  | .rmt _ _ _ _ => s

/-- What the fabric, the coherence directory and the held accesses owe to compute ports and packets ends NO_RESPONSE. -/
def State.cutFabric (s : State) : State :=
  let ops := (s.fab.srcs.map fun e => e.2.ops).flatten
  let s := s.fab.reqs.foldl (fun s r => s.dcpAnswer r.port r.dcpTag r.gen St.NO_RESPONSE [] 0) s
  let s := s.coh.reqs.foldl (fun s e => s.dcpAnswer e.2.1 e.2.2.1 e.2.2.2 St.NO_RESPONSE [] 0) s
  let s := (s.coh.waits ++ s.sync.held).foldl (fun s h => s.cutReply h.reply) s
  ops.foldl (fun s o => match o.pkt with
    | some p => s.finish p St.NO_RESPONSE
    | none => s.cutReply o.reply) s

/-- Packets that an occurrence has taken end SUPPRESSED. -/
def State.cutGait (s : State) : State :=
  (s.gait.occs.filterMap fun o => o.pkt).foldl (fun s p => s.finish p 0x21) s

/-- The ports whose PHY is ready. -/
def State.phyPorts (s : State) : List Nat := (List.range s.ports).filter fun n => s.rdb (Page.lpt n) Reg.LPT_STATUS.PHY_READY

/-- A reduce cluster leaves service (R18); the intake may fall short of the gait (R99). -/
def State.redOut (s : State) (n : Nat) : State := (s.wr (Page.red n) Reg.RED_STATUS.LOST 1).redShort

/-- Link and reduce clusters that a self-test took out of service until block reset (R461); R465 numbers them. -/
def State.bistOut (s : State) : State :=
  s.bist.out.foldl (fun s c =>
    if 16 ≤ c ∧ c < 80 then s.darken (c - 16) 2 else if 80 ≤ c ∧ c < 88 then s.redOut (c - 80) else s) s

/-- LR region reset (R24, R37): the pages of the link region, gait banks, descriptors, roots, streams, signal and hitch tables are lost,
every port is DOWN and trains again. -/
def State.resetLr (s : State) : State :=
  let s := if s.boot.post then s else s.markStepBad
  let phy := s.phyPorts
  let s := s.cutFabric.cutGait
  let s := { s.resetPages [.lr] with
    links := [], gait := Gait.empty, red := Red.empty, fab := Fabric.empty, coh := Coh.empty, cmb := Cmb.empty
    sync := { s.sync with signals := [], joins := [], epochs := [], waiting := [], ahead := [], counters := [], held := [], seenStops := [], seenPdn := []
                          smear := [], smearCount := 0 }
    power := { s.power with gated := s.power.gated.filter fun k => !(0x38 ≤ k && k < 0x80) } }
  let s := phy.foldl (fun s n => s.wr (Page.lpt n) Reg.LPT_STATUS.PHY_READY 1) s
  let s := phy.foldl (fun s n => s.enterTraining n) s
  s.bistOut

/-- LR_REGION_RESET. -/
def execLrRegionReset (s : State) : Res := guarded s.serving s State.resetLr

/-! ### FR region reset -/

/-- Resident objects go to their descriptors where these are intact (R24, R346). -/
def State.writeBackObjs (s : State) : State :=
  let s := s.objs.slots.foldl (fun s x => if s.ctxValid x.ctx then s.writeCtrs x else s) s
  (s.objs.fences.map (·.fence)).foldl (fun s f => s.evictFence f) s

/-- The pending and the waiting teardowns are completed as in hardware mode (R334). -/
def State.finishTds (s : State) : State :=
  let l := s.objs.teardown
  if l.isEmpty then s else
  let s := l.foldl (fun s t => s.doTd t.1 t.2) { s with objs := { s.objs with teardown := [] } }
  s.fallback 4

/-- FR region reset (R24, R37): queues, packets and launches are lost, every VF is OFF, suspects are lost and the instance is in service
again (R449). -/
def State.resetFr (s : State) : State :=
  let s := if s.boot.post then s else s.markStepBad
  let s := s.writeBackObjs.finishTds
  let owed := (List.range 128).filter fun n => 0 < n && s.flrPend n
  let gen := s.feGen
  let f := s.front
  let s := (s.resetPages [.fr]).wr Page.fe Reg.FE_GEN.GEN gen
  let s := s.wr Page.ver Reg.VER_NEG.VALID 0
  let s := { s with
    front := { Front.empty with nextPkt := f.nextPkt, nextOrder := f.nextOrder, nextLaunch := f.nextLaunch, nextMsg := f.nextMsg }
    objs := Objects.empty, fns := []
    host := { s.host with reads := s.host.reads.filter fun e => Use.CERT ≤ e.2.1, doeBusy := false, doeIn := [], doeOut := [], doeErr := false, got := [] }
    power := { s.power with gated := s.power.gated.filter fun k => k < 0x600 } }
  let s := if s.boot.post then s else s.showVfEn
  let s := (List.range 8).foldl (fun s k => s.wr Page.key Reg.KEY_TDIk.TDI 0 k) s
  let s := { s with trust := { s.trust with tdiNonce := [], tdiRec := [], tdiStop := [] } }
  let s := [3, 4, 5, 8].foldl (fun (s : State) b => if s.haPending b then s.haClear b else s) s
  let s := if s.istate = 1 ∨ s.istate = 2 then
      { (s.setIstate 0) with
        outs := { s.outs with crstN := true, dcpGen := gen }
        faults := { s.faults with phase := .idle, suspects := [], order := [], current := none, isReplayReset := false, hbNeed := [] } }
    else { s with faults := { s.faults with suspects := [], order := [], current := none } }
  owed.foldl (fun s n => s.emit (.flrDone n)) s

/-- FR_REGION_RESET. -/
def execFrRegionReset (s : State) : Res := guarded s.serving s State.resetFr

/-- FLR: of the PF it resets the front region (R359). -/
def execFlr (fn : Nat) (s : State) : Res :=
  guarded s.up s fun s =>
    if fn = 0 then s.resetFr.emit (.flrDone 0) else if s.boot.post then s else s.vfFlr fn

/-! ### Block reset -/

/-- Key slots over a block reset: 8 to 31 and the join record stay, sessions end (R24, R370). -/
def Trust.overReset (t : Trust) : Trust :=
  { Trust.empty with
    slots := t.slots.filter fun e => 8 ≤ e.1, checkKey := t.checkKey, measKept := t.measKept, join := t.join }

/-- KEY registers that only power-on reset clears (R395). -/
def State.keepKeyPor (s old : State) : State :=
  (s.wr Page.key Reg.KEY_STATUS.TAMPER_SEEN (old.rd Page.key Reg.KEY_STATUS.TAMPER_SEEN)).wrPair Page.key Reg.KEY_TAMPER_DT_LO.NS_LO
    Reg.KEY_TAMPER_DT_HI.NS_HI (old.rdPair Page.key Reg.KEY_TAMPER_DT_LO.NS_LO Reg.KEY_TAMPER_DT_HI.NS_HI)

/-- Output levels while block reset is asserted: those of the always-on domain stay (R478). -/
def PinsOut.inReset (o : PinsOut) : PinsOut := { o with crstN := false, dcpGen := 0, sleep := false, trainReq := true }

/-- Block reset asserts (R24, R37, R453). What stays: the pages of power-on scope, the time base, tack store slots 8 to 31 and the join
record, the life-cycle controller with its commit and burns, soft repairs of always-on units (code 97), the package. -/
def State.blockReset (s : State) : State :=
  let t := (s.toFree.resetPages [.block, .lr, .fr]).keepKeyPor s
  let pkg := if s.isLead && s.build.sibCount != 0 && s.boot.phase != .inReset then
      { s.pkg with everLost := s.boot.inst :: s.pkg.everLost } else s.pkg
  { t with
    outs := t.outs.inReset, latches := [], links := [], gait := Gait.empty, faults := Faults.empty, front := Front.empty, objs := Objects.empty
    fns := [], mem := Mem.empty, sync := Sync.empty, red := Red.empty, fab := Fabric.empty, coh := Coh.empty, cmb := Cmb.empty
    host := { HostIf.empty with nextTag := s.host.nextTag }, egress := [], trust := s.trust.overReset, ccip := [], dbg := Dbg.empty, power := Power.empty
    pkg := { pkg with awaited := [], vouched := [], stale := false }
    bist := { s.bist with target := 0, span := none, saved := none, out := [], soft := s.bist.soft.filter fun u => u % 128 == 97 }
    lc := { s.lc with req := s.lc.req.map fun r => { r with pkt := none } }
    boot := { s.boot with phase := .inReset, fwSec := 0, fwSvc := 0, svcHalted := false, svcWait := [], wrInReset := [] } }

/-- BLOCK_RESET: RST_N falls. -/
def execBlockReset (s : State) : Res := .next s.blockReset

/-- INST_RESET (R452): ERR CTRL.INST_RESET, which the ERR page takes at ROM level too. -/
def execInstReset (p : Party) (s : State) : Res := s.action p Page.err State.blockReset

/-- OOS_HOLD_EXPIRY (R451). -/
def execOosHoldExpiry (s : State) : Res :=
  guarded (s.up && s.istate == 3 && s.rdb Page.err Reg.ERR_CFG.AUTO_RESET) s State.blockReset

/-- POWER_ON_RESET: everything is as after power-on, with the fuses `f` as the fuse port holds them; the time base restarts, CHECK_KEY is
drawn (R367), the fuses are read (R410) and completed (R417). Pin levels and what has been sent stand, and block reset is still asserted. -/
def State.powerOn (s : State) (f : Fuses) : State :=
  let t : State := { State.reset with
    build := s.build, pins := s.pins, out := s.out, draws := s.draws, pending := s.pending, lc := { Lc.empty with fuses := f } }
  let r := t.draw 1
  let t := { r.2 with trust := { r.2.trust with checkKey := Config.trng r.1 } }
  t.readFuses.repairFuses
def execPowerOnReset (f : Fuses) (s : State) : Res := .next (s.powerOn f)

/-! ### Tamper and scan -/

/-- Zeroisation (R392): every slot, the join record, the memory keys, CHECK_KEY, the port latches and the control cipher keys; what waits for the
saddle is discarded; the IDE engine is told (R494). -/
def State.zeroise (s : State) : State :=
  let t := s.trust
  { s with
    trust := { t with slots := [], join := none, checkKey := 0, saddleQ := [], sessions := [], koBeat := none }
    mem := { s.mem with key := none, keyNext := none, chKey := 0, plKey := 0, unwrap := none, sealSlots := [] }
    links := s.links.map fun e => (e.1, { e.2 with txKey := none, txNextKey := none, rxKey := none, rxNextKey := none })
    ccip := [] }

/-- TAMPER: zeroised, recorded, and in block reset while TAMPER_N is low (R393). The ERR page of the reset that follows starts empty. -/
def State.opTamper (s : State) : State :=
  let s := { s with pins := { s.pins with tamperN := false } }
  let s := (s.zeroise.emit .koZeroize).fatal Page.key Err.key.TAMPER
  let s := (s.wr Page.key Reg.KEY_STATUS.TAMPER_SEEN 1).wrPair Page.key Reg.KEY_TAMPER_DT_LO.NS_LO Reg.KEY_TAMPER_DT_HI.NS_HI s.dtNs
  let s := s.blockReset
  { s with boot := { s.boot with tampered := true } }
def execTamper (s : State) : Res := .next s.opTamper

/-- TAMPER_CLEAR: TAMPER_N returns high; block reset may deassert. -/
def execTamperClear (s : State) : Res :=
  .next { s with pins := { s.pins with tamperN := true }, boot := { s.boot with tampered := false } }

/-- SCAN_MODE_ENTRY (R503): ignored in FIELDED, SCRAPPED and LOST; else zeroised, in block reset, and only then are the chains connected. -/
def execScanModeEntry (s : State) : Res :=
  let st := s.lc.fuses.state
  guarded (st != 2 && st != 4 && st != 5) s fun s =>
    let s := (s.zeroise.emit .koZeroize).blockReset
    { s with outs := { s.outs with scan := true } }

end Sys2Proof.Machine
end

