-- ==== Sys2Proof/Machine/Bist.lean ====
section
/-! DEFINITION. Self-test and repair (R456 to R468): the repair row, the policy, the log, clusters that leave service (R18), on-demand runs,
burns. The findings of a run are the command's operand: the block compares signatures and reads its SRAMs itself. -/

namespace Sys2Proof.Machine

/-! ### The repair row (R465) -/

/-- CLUSTER and GROUP of a unit. -/
def groupOf (unit : Nat) : Nat := unit % 2 ^ 15
def clusterOf (unit : Nat) : Nat := unit % 2 ^ 7

/-- The entry that a burn writes for a unit: COMPLETE, ONES, and bits [18:0]. -/
def repairEntry (unit : Nat) : Nat := unit % 2 ^ 19 + ones 19 unit * 2 ^ 20 + 2 ^ 25

/-- A valid entry, but for a lower-numbered one of its group. -/
def goodEntry (v : Nat) : Bool :=
  bit v 25 && bits v 20 5 == ones 19 v && !bit v 19 && bits v 26 6 == 0 && decide (clusterOf v ≤ 97)

/-- The valid entries, lowest number first: of two that name a group the lower is applied. -/
def validEntries (l : List (Nat × Nat)) : List Nat :=
  ((List.range 128).filterMap fun k => (l.find? fun e => e.1 == k).map Prod.snd).foldl (fun a v =>
    if goodEntry v && !a.any (fun u => groupOf u == groupOf v) then a ++ [v % 2 ^ 19] else a) []

/-- Entries that are not blank; the blank ones, lowest first. -/
def usedEntries (l : List (Nat × Nat)) : Nat := ((List.range 128).filter fun k => l.any fun e => e.1 == k && e.2 != 0).length
def blankEntries (l : List (Nat × Nat)) : List Nat := (List.range 128).filter fun k => !(l.any fun e => e.1 == k && e.2 != 0)

/-- Write entry `k`. -/
def putRepair (f : Fuses) (k v : Nat) : Fuses := { f with repair := (f.repair.filter fun e => e.1 != k) ++ [(k, v)] }

/-- Show the counts of BST_REPAIRS and the policy (R460, R467). -/
def State.policy (s : State) : Bool := s.boot.policyRepair && !s.lc.fuses.holdLocked
def State.showRepairs (s : State) : State :=
  let l := s.lc.fuses.repair
  let p := Page.bst
  let v := (validEntries l).length
  ((((s.wr p Reg.BST_REPAIRS.SOFT s.bist.soft.length).wr p Reg.BST_REPAIRS.FUSE v).wr p Reg.BST_REPAIRS.BLANK (blankEntries l).length).wr p
    Reg.BST_REPAIRS.VOID (usedEntries l - v)).wr p Reg.BST_STATUS.POLICY (b2n s.policy)

/-- Is the spare of a unit's group free (R461)? -/
def State.spareFree (s : State) (unit : Nat) : Bool :=
  !((validEntries s.lc.fuses.repair ++ s.bist.soft).any fun u => groupOf u == groupOf unit)

/-! ### Findings (R461, R467) -/

/-- Log a failure; the log holds 32. -/
def State.logFail (s : State) (b : BistFail) (repaired : Bool) : State :=
  let p := Page.bst
  let n := s.rd p Reg.BST_RESULT.FAILS
  let s := s.err p (if b.logic then Err.bst.LBIST_FAIL else Err.bst.MBIST_FAIL) 
  let s := if b.logic then s.wr p Reg.BST_RESULT.LBIST_FAIL 1 else s.wr p Reg.BST_RESULT.MBIST_FAIL 1
  if 32 ≤ n then s.err p Err.bst.LOG_FULL else
  let s := ((((s.wr p Reg.BST_LOGe_LO.UNIT b.unit n).wr p Reg.BST_LOGe_LO.KIND (b2n b.logic) n).wr p Reg.BST_LOGe_LO.REPAIRED (b2n repaired) n).wr p
    Reg.BST_LOGe_LO.FUSE_PENDING (b2n repaired) n).wr p Reg.BST_LOGe_LO.VALID 1 n
  ((s.wr p Reg.BST_LOGe_HI.ROW (if b.logic then 0 else b.row) n).wr p Reg.BST_LOGe_HI.BIT (if b.logic then 0 else b.bit) n).wr p Reg.BST_RESULT.FAILS (n + 1)

/-- A new run: log and results are empty. -/
def State.clearLog (s : State) : State :=
  let s := (List.range 32).foldl (fun s k => (s.setReg (Page.bst.base + 0x100 + 8 * k) 0).setReg (Page.bst.base + 0x104 + 8 * k) 0) s
  ((s.setReg (Page.bst.base + 0x28) 0).wr Page.bst Reg.BST_STATUS.DONE 0).wr Page.bst Reg.BST_STATUS.PASS 0

/-- Take in one failure under the policy: logged; a unit whose group's spare is free is repaired under REPAIR; anything else leaves its
cluster on the list of failed clusters. A unit that this run has repaired, not one that stood repaired before it (`old`), is met again. -/
def State.takeFail (repair : Bool) (old : List Nat) (a : List Nat × State) (b : BistFail) : List Nat × State :=
  let s := a.2
  let again := s.bist.soft.contains (b.unit % 2 ^ 19) && !old.contains (b.unit % 2 ^ 19)
  if !b.shared && repair && (again || s.spareFree b.unit) then
    let s := if again then s else { s with bist := { s.bist with soft := s.bist.soft ++ [b.unit % 2 ^ 19] } }
    (a.1, (s.wr Page.bst Reg.BST_RESULT.SOFT_REPAIRED 1).logFail b true)
  else
    let s := if b.shared || !s.spareFree b.unit then s.wr Page.bst Reg.BST_RESULT.UNREPAIRABLE 1 else s
    (a.1 ++ [clusterOf b.unit], s.logFail b false)

/-- All failures of a run; the clusters that could not be repaired. -/
def State.findings (s : State) (l : List BistFail) : List Nat × State := l.foldl (State.takeFail s.policy s.bist.soft) ([], s)

/-- The run has ended. -/
def State.runEnded (s : State) (pass : Bool) : State :=
  (((s.wr Page.bst Reg.BST_STATUS.STATE 0).wr Page.bst Reg.BST_STATUS.DONE 1).wr Page.bst Reg.BST_STATUS.PASS (b2n pass)).showRepairs

/-! ### A cluster leaves service (R18) -/

/-- A front-end slice fails: its queues are ABSENT and their packets lost, the contexts that owned them receive fatal-to-context. -/
def State.sliceOut (s : State) (n : Nat) : State :=
  let ok := clearBit (s.rd Page.fe Reg.FE_STATUS.SLICE_OK) n
  let s := (s.wr Page.fe Reg.FE_STATUS.SLICE_OK ok).err Page.fe Err.fe.SLICE_FAULT { place := n, placeKind := 1 }
  let mine := fun q => q / 1024 == n
  let ctxs := ((s.front.queues.filter fun e => mine e.1 && e.2.state != .absent && !e.2.kernel).map fun e => e.2.ctx).eraseDups
  let gone := (s.front.pkts.filter fun e => mine e.2.queue).map Prod.fst
  let freed := (s.front.queues.filterMap fun e => if mine e.1 then e.2.destroyer else none).filter fun p => !gone.contains p
  let s := gone.foldl (fun s p => s.sendAborts p) s
  let f := s.front
  let s := { s with
    front := { f with queues := f.queues.filter fun e => !mine e.1, pkts := f.pkts.filter fun e => !mine e.2.queue
                      launches := f.launches.filter fun e => !gone.contains e.2.pkt, waiters := f.waiters.filter fun w => !gone.contains w.pkt
                      fetching := f.fetching.filter fun e => !mine e.1, slotWait := f.slotWait.filter fun p => !gone.contains p
                      held := f.held.filter fun p => !gone.contains p }
    host := { s.host with reads := s.host.reads.filter fun e =>
      !((e.2.1 == Use.FETCH && mine e.2.2.1) || (Use.COPY ≤ e.2.1 && e.2.1 < Use.CERT && gone.contains e.2.2.1)) } }
  let s := freed.foldl (fun s p => s.finish p St.OK) s
  ctxs.foldl (fun s c => s.ctxLost c St.FAULT) s

/-- A reduce cluster fails: instances with a stripe there fail, their contexts receive fatal-to-context (R18, R166). -/
def State.redFault (s : State) (n : Nat) : State :=
  let s := (s.redOut n).err (Page.red n) Err.red.CLUSTER_FAULT { place := n, placeKind := 1 }
  let on := fun (i : RedInst) => ((i.clusters.findIdx? (· == n)).map fun j => stripesOf i.recs.length i.clusters.length j != 0).getD false
  let hit := (s.red.roots.map fun r => (r.2.open_.filter on).map fun i => (r.1, i)).flatten
  hit.foldl (fun s h =>
    let s := s.failInst h.1 h.2 .failed 6
    if s.boot.post then s else s.ctxLost (RedDesc.ctx (s.desc h.1)) St.FAULT) s

/-- A cluster leaves service, by its code of R465; `bist` records that it stays out until block reset. -/
def State.clusterOut (s : State) (c : Nat) (bist : Bool) : State :=
  let s := if bist then { s with bist := { s.bist with out := c :: s.bist.out.erase c } } else s
  if c < 16 then s.chanFail c { place := c, placeKind := 1 }
  else if c < 80 then
    if c - 16 < s.ports then (s.err (Page.lpt (c - 16)) Err.lpt.ENGINE_FAULT { place := c - 16, placeKind := 5 }).darken (c - 16) 2 else s
  else if c < 88 then s.redFault (c - 80)
  else if c < 96 then s.sliceOut (c - 88)
  else s

/-! ### On-demand runs (R462 to R464) -/

/-- Target that BST_TARGET selects. -/
def State.bistTarget (s : State) : Nat := s.rd Page.bst Reg.BST_TARGET.CLUSTER

/-- Does the target meet its row of R462? -/
def State.targetMet (s : State) (c : Nat) : Bool :=
  if c < 16 then s.rd (Page.mch c) Reg.MCH_STATUS.CH_STATE == 2 && !s.anyActive && s.memOpen
  else if c < 80 then s.lstate (c - 16) == 5
  else if c < 88 then !s.rdb (Page.red (c - 80)) Reg.RED_CTRL.EN && s.redStripes (c - 80) == 0
  else !(s.front.queues.any fun e => e.1 / 1024 == c - 88 && e.2.state != .absent)

/-- Is the target absent in the role or build, or one that no run may test? -/
def State.targetAbsent (s : State) (c : Nat) : Bool :=
  if c < 16 then s.channels ≤ c else if c < 80 then s.ports ≤ c - 16 else 96 ≤ c || (88 < c && s.boot.post)

/-- The save area: 256 KiB with maintenance rights in an entry of OWNER_FN 0 (R464). -/
def State.saveArea (s : State) : Option Nat :=
  let a := s.rdPair Page.bst Reg.BST_SAVE_LO.ADDR Reg.BST_SAVE_HI.ADDR
  match s.ratWhole a 0x40000 with
  | none => none
  | some e => if a % 4096 = 0 && e.2.owner == 0 && (s.checkRange Master.maint 0 a 0x40000).isNone && (s.checkRange Master.maint 1 a 0x40000).isNone
      then some a else none

/-- Is a run in progress; is a burn? -/
def State.running (s : State) : Bool := s.rd Page.bst Reg.BST_STATUS.STATE != 0
def State.burning (s : State) : Bool := s.bist.burn.isSome

/-- The refusal code of R462. -/
def State.runCode (s : State) : Nat :=
  let c := s.bistTarget
  let save := s.rdb Page.bst Reg.BST_TARGET.SAVE
  if s.lcState = 2 ∨ s.lcState = 5 then 1
  else if s.targetAbsent c then 2
  else if !s.targetMet c then 3
  else if s.running || s.burning then 4
  else if save && (s.boot.post || c < 16 || 80 ≤ c || s.saveArea.isNone) then 5
  else if !s.rdb Page.bst Reg.BST_TARGET.LBIST && !s.rdb Page.bst Reg.BST_TARGET.MBIST then 6 else 0

/-- Save the banks of a port: the area's bytes are free values, since the spec does not lay them out; the block keeps what it saved. -/
def State.saveBanks (s : State) (n : Nat) : State :=
  match s.saveArea with
  | none => s
  | some a =>
    let r := s.draw 0x40000
    let s := (r.2.writeAs Master.maint a ((List.range 0x40000).map fun k => BitVec.ofNat 8 (Config.free (r.1 + k)).toNat)).st
    { s with bist := { s.bist with saved := some (n, a, s.banks n) } }

/-! ### A save or a restore takes the token of every channel (R464, R475) -/

/-- Ask for the tokens from channel `n` on, each once the one below it is held; the channel whose token is still awaited. -/
def State.spanTokens : Nat → Nat → State → Nat × State
  | 0, n, s => (n, s)
  | f + 1, n, s =>
    let s := s.askToken n .bist
    if (s.chan n).token == some .bist then State.spanTokens f (n + 1) s else (n, s)

/-- The save or restore is over: every token goes back, a request that still waits is withdrawn. -/
def State.dropSpan (s : State) : State :=
  let s := { s with bist := { s.bist with span := none } }
  s.chanList.foldl (fun s n =>
    let s := s.setChan n { s.chan n with tokenWait := (s.chan n).tokenWait.filter (· != .bist) }
    s.dropToken n .bist) s

/-- RUN: the target is latched. -/
def State.opRun (s : State) : State :=
  let code := s.runCode
  if code ≠ 0 then (s.wr Page.bst Reg.BST_RESULT.CODE code).err Page.bst Err.bst.RUN_REFUSED { detail := code }
  else
    let c := s.bistTarget
    let s := s.clearLog
    let s := { s with bist := { s.bist with target := c } }
    let s := if c < 16 then (s.writeBack c).askToken c .bist
      else if 16 ≤ c && c < 80 && s.rdb Page.bst Reg.BST_TARGET.SAVE then
        { s with bist := { s.bist with span := some { next := 0, ending := none } } } else s
    s.wr Page.bst Reg.BST_STATUS.STATE (if s.bist.span.isSome then 1 else 2)

/-- What a port's banks hold after its run: what the area gives back when it reads without error (`ok`: of its own units too), or nothing; the
state after the read. -/
def State.readBanks (s : State) (ok : Bool) : Option Banks × State :=
  match s.bist.saved with
  | none => (none, s)
  | some (_, a, b) =>
    let r := s.readAs Master.maint a 0x40000
    (if ok && r.status == St.OK then some b else none, r.st)

/-- Banks after the run of a port: restored, or empty (R464). -/
def State.restoreBanks (s : State) (n : Nat) (ok : Bool) : State :=
  let bad := s.bist.saved.isSome
  let r := s.readBanks ok
  let s := r.2
  let b : Banks := r.1.getD { a := none, b := none }
  let bad := bad && r.1.isNone
  let s := { s with gait := { s.gait with banks := SMap.put s.gait.banks { a := none, b := none } n b }, bist := { s.bist with saved := none } }
  let s := if b.a.isNone && b.b.isNone then s.wr Page.gait Reg.GAIT_PORTn_STATE.ACTIVE 0 n else s
  (if bad then s.err Page.bst Err.bst.RESTORE_FAIL { place := n, placeKind := 5 } else s).showActive

/-- After the run: the target's banks, its token and its cold walk. -/
def State.afterRun (s : State) (c : Nat) (restoreOk : Bool) : State :=
  if c < 16 then
    let s := s.dropSpan
    if s.hostMode 0 then (s.setChan c { s.chan c with walkDue := true }).haPost 0 else s.startWalk c
  else if c < 80 then s.restoreBanks (c - 16) restoreOk
  else s

/-- A run that passes is the channel's BIST repair: the pipes that parity took out of service return (R242). -/
def State.pipesBack (s : State) (n : Nat) : State :=
  (s.setChan n { s.chan n with pipesOut := 0 }).wr (Page.mch n) Reg.MCHn_PIPES.IN_SERVICE 64

/-- A run ends with the target failed or not (R461); a port that passes may leave DISABLED again (R131). -/
def State.endRun (s : State) (failed restoreOk : Bool) : State :=
  let c := s.bist.target
  let s := (s.runEnded (!failed)).afterRun c restoreOk
  if failed then
    let s := if s.rdb Page.bst Reg.BST_RESULT.UNREPAIRABLE then s.err Page.bst Err.bst.UNREPAIRABLE { place := c, placeKind := 1 } else s
    s.clusterOut c true
  else if c < 16 then s.pipesBack c
  else if c < 80 then
    let n := c - 16
    let s := { s with bist := { s.bist with out := s.bist.out.erase c } }
    if (s.link n).cause = 2 then s.setLink n { s.link n with cause := 0 } else s
  else s

/-- Carry on a save or a restore: the next token, or, with all of them held, the transfer itself, after which the tokens go back. A
transfer that must wait (R269, R271) keeps them. -/
def State.bistGo (s : State) : State :=
  match s.bist.span with
  | none => s
  | some x =>
    let r := State.spanTokens (s.channels - x.next) x.next s
    let t := if r.1 < s.channels then r.2 else match x.ending with
      | none => (r.2.calm.saveBanks (s.bist.target - 16)).wr Page.bst Reg.BST_STATUS.STATE 2
      | some e => r.2.calm.endRun e.1 e.2
    if r.1 < s.channels || t.blocked then { r.2 with bist := { r.2.bist with span := some { x with next := r.1 } } } else t.dropSpan
def execBistRun (p : Party) (s : State) : Res := s.action p Page.bst fun s => if s.up then s.opRun.bistGo else s

/-- The tests of a run are over: it ends, once what was saved of a port has been restored. -/
def State.testsOver (s : State) (failed restoreOk : Bool) : State :=
  if s.bist.saved.isSome then
    ({ s with bist := { s.bist with span := some { next := 0, ending := some (failed, restoreOk) } } } : State).wr Page.bst Reg.BST_STATUS.STATE 3 |>.bistGo
  else s.endRun failed restoreOk

/-- Is the target under test: does the run hold its channel's token, or has what it saves been saved? -/
def State.underTest (s : State) : Bool :=
  s.running && s.bist.span.isNone && (16 ≤ s.bist.target || (s.chan s.bist.target).token == some .bist)

/-- BIST_RUN_DONE: the findings of the target are logged and decided. -/
def State.opRunDone (fails : List BistFail) (restoreOk : Bool) (s : State) : State :=
  let r := s.findings fails
  r.2.testsOver (!r.1.isEmpty) restoreOk
def execBistRunDone (fails : List BistFail) (restoreOk : Bool) (s : State) : Res :=
  guarded (s.serving && s.underTest) s (State.opRunDone fails restoreOk)

/-- ABORT: a target tested in part counts as failed. A run that still waits for a token has tested nothing: it ends, and nothing has changed.
A restore that waits goes on. -/
def State.opBistAbort (s : State) : State :=
  if s.underTest then (s.wr Page.bst Reg.BST_RESULT.UNREPAIRABLE 1).testsOver true true
  else if s.running && (s.bist.span.all fun x => x.ending.isNone) then (s.runEnded false).dropSpan
  else s

/-- BIST_ABORT (R463). -/
def execBistAbort (p : Party) (s : State) : Res := s.action p Page.bst State.opBistAbort

/-! ### Burns (R466) -/

/-- Log entries with FUSE_PENDING. -/
def State.pendingUnits (s : State) : List Nat :=
  ((List.range 32).filter fun k => s.rdb Page.bst Reg.BST_LOGe_LO.VALID k && s.rdb Page.bst Reg.BST_LOGe_LO.FUSE_PENDING k).map fun k =>
    s.rd Page.bst Reg.BST_LOGe_LO.UNIT k

/-- Distinct units: one entry repairs a unit whose failing bits fill several log entries. -/
def State.burnUnits (s : State) : List Nat := s.pendingUnits.eraseDups

/-- The refusal code of a burn. -/
def State.burnCode (s : State) (hold : Bool) : Nat :=
  if s.lcState ≠ 0 ∧ s.lcState ≠ 1 ∧ s.lcState ≠ 3 then 1
  else if !hold && s.burnUnits.isEmpty then 2
  else if !hold && (blankEntries s.lc.fuses.repair).length < s.burnUnits.length then 3
  else if s.running || s.burning || s.lc.req.isSome then 4 else 0

/-- Show the end of a burn. -/
def State.burnStatus (s : State) (code : Nat) : State := (s.wr Page.bst Reg.BST_BURN_STATUS.CODE code).wr Page.bst Reg.BST_BURN_STATUS.DONE 1

/-- Ask for a burn: hold-up is requested first. -/
def State.opBurn (hold : Bool) (s : State) : State :=
  let code := s.burnCode hold
  if code ≠ 0 then s.burnStatus code
  else
    let s := (s.wr Page.bst Reg.BST_BURN_STATUS.CODE 0).wr Page.bst Reg.BST_BURN_STATUS.DONE 0
    { s with bist := { s.bist with burn := some { hold := hold, units := if hold then [] else s.burnUnits, granted := false } }
             outs := { s.outs with holdupReq := true } }
def execBurn (p : Party) (s : State) : Res := s.action p Page.bst (State.opBurn false)
def execHoldLock (p : Party) (s : State) : Res := s.action p Page.bst (State.opBurn true)

/-- FUSE_PENDING of a unit's log entries clears. -/
def State.clearPending (s : State) (unit : Nat) : State :=
  (List.range 32).foldl (fun s k =>
    if s.rdb Page.bst Reg.BST_LOGe_LO.VALID k && s.rd Page.bst Reg.BST_LOGe_LO.UNIT k == unit then s.wr Page.bst Reg.BST_LOGe_LO.FUSE_PENDING 0 k else s) s

/-- Burn one unit's entry into the lowest blank place. -/
def State.burnOne (s : State) (unit : Nat) : State :=
  match (blankEntries s.lc.fuses.repair).head? with
  | none => s
  | some k => (s.setFuses (putRepair s.lc.fuses k (repairEntry unit))).clearPending unit

/-- BURN_DONE: `done` entries are burnt; `failed` is what the entry, or the three copies of HOLD_LOCK, whose read-back failed holds. -/
def State.opBurnDone (done : Nat) (failed : Option Nat) (b : Burn) (s : State) : State :=
  let s := { s with bist := { s.bist with burn := none }, outs := { s.outs with holdupReq := false } }
  let s := if b.hold then
      let v := failed.getD 7
      s.setFuses { s.lc.fuses with holdLock := s.lc.fuses.holdLock.zipIdx.map fun e => Nat.lor e.1 (b2n (bit v e.2)) }
    else
      let s := (b.units.take done).foldl State.burnOne s
      match failed, (blankEntries s.lc.fuses.repair).head? with
      | some v, some k => s.setFuses (putRepair s.lc.fuses k v)
      | _, _ => s
  let s := ((s.wr Page.bst Reg.BST_STATUS.BURNING 0).burnStatus 0).showRepairs
  if failed.isSome then s.err Page.bst Err.bst.BURN_FAIL else s
def execBurnDone (done : Nat) (failed : Option Nat) (s : State) : Res :=
  match s.bist.burn with
  | some b => .next (if b.granted then State.opBurnDone done failed b s else s)
  | none => .next s

end Sys2Proof.Machine
end

