-- ==== Sys2Proof/Machine/Boot.lean ====
section
/-! DEFINITION. From block reset to running firmware (R3, R6, R34, R364, R365, R459 to R461), clusters that leave service (R18), lockstep (R19). -/

namespace Sys2Proof.Machine

/-- The block stays in reset, with the reason in ERR_BOOT (R34, R454, R455): CRST_N is low, as throughout reset (R482). -/
def State.holdBoot (s : State) (code : Nat) : State :=
  let s := (s.wr Page.err Reg.ERR_BOOT.CODE code).report Page.err Err.err.BOOT_REFUSED 4 { detail := code }
  { s with boot := { s.boot with phase := .held }, outs := { s.outs with errFatalN := false, crstN := false, mrPwrEn := false } }

/-- Draw LCS_NONCE (R413). -/
def State.drawNonce (s : State) : State :=
  let r := s.draw 1
  r.2.wrPair Page.lcs Reg.LCS_NONCE_LO.NONCE Reg.LCS_NONCE_HI.NONCE ((Config.trng r.1).toNat % 2 ^ 64)

/-- Straps are sampled and checked (R3, R34, R504); LCS_NONCE and PL_KEY are drawn. -/
def State.opStraps (role : Bool) (inst : Nat) (policy : Bool) (s : State) : State :=
  let s := { s with
    pins := { s.pins with role := role, inst := inst, bistPolicy := policy }
    boot := { s.boot with phase := .sampled, post := role, inst := inst, policyRepair := policy }
    outs := { s.outs with errFatalN := true, crstN := !role, mrPwrEn := !role } }
  let s := { s with pkg := { s.pkg with lead := if s.pkg.everLost.contains inst then s.nextLead else s.pkg.lead } }
  let r := s.drawNonce.drawKey
  let s := ({ r.2 with mem := { r.2.mem with plKey := r.1 } }).showRepairs
  if s.lc.fuses.lost then s.holdBoot 6
  else if !role && (!s.build.mrBuilt || s.build.dcpCount == 0) then s.holdBoot 3
  else if s.build.sibCount < inst then s.holdBoot 4
  else s

/-- BLOCK_RESET_DEASSERT: not while a tamper condition lasts (R393) or the scan chains are connected (R503). -/
def execBlockResetDeassert (role : Bool) (inst : Nat) (policy : Bool) (s : State) : Res :=
  guarded (s.boot.phase == .inReset && !s.boot.tampered && !s.outs.scan) s (State.opStraps role inst policy)

/-- The boot run (R459 to R461). -/
def State.opBootRun (fails : List BistFail) (s : State) : State :=
  let r := s.clearLog.findings fails
  let bad := r.1.eraseDups
  let s := r.2.runEnded bad.isEmpty
  let s := { s with outs := { s.outs with bistDone := true, bistPass := bad.isEmpty } }
  let s := if s.rdb Page.bst Reg.BST_RESULT.UNREPAIRABLE then s.err Page.bst Err.bst.UNREPAIRABLE else s
  if bad.any fun c => !s.policy || c < 16 || 96 ≤ c then s.holdBoot 5
  else
    let s := bad.foldl (fun s c => s.clusterOut c true) s
    { s with boot := { s.boot with phase := .bistDone } }
def execBootRun (fails : List BistFail) (s : State) : Res := guarded (s.boot.phase == .sampled) s (State.opBootRun fails)

/-! ### Layer 0 (R364, R365, R370, R418) -/

/-- The order of the P-384 group (from the curve's standard). -/
def p384Order : Nat :=
  0xffffffffffffffffffffffffffffffffffffffffffffffffc7634d81f4372ddf581a0db248b0a77aecec196accc52973

/-- A scalar from 1 to the order less 1 stands; any other is expanded again with a further byte of info. -/
def scalarFrom (prk info : List Byte) : Nat → Nat → List Byte → List Byte
  | 0, _, l => l
  | n + 1, k, l =>
    if 0 < ofBe l ∧ ofBe l < p384Order then l
    else scalarFrom prk info n (k + 1) (slice (Config.hkdfExpand prk (info ++ [BitVec.ofNat 8 k]) 80) 0 48)

/-- A P-384 scalar and an ML-DSA-87 seed from an extracted key. -/
def identity (prk info : List Byte) : List Byte × List Byte :=
  let x := Config.hkdfExpand prk info 80
  (scalarFrom prk info 255 1 (slice x 0 48), slice x 48 32)

/-- lc_state byte (R411). -/
def Fuses.stateByte (f : Sys2Proof.Fuses) : Byte := BitVec.ofNat 8 (f.state + 8 * f.toggles)

/-- R364's meas. -/
def State.measBytes (s : State) : List Byte :=
  beBytes 48 s.trust.measSec.toNat ++ beBytes 48 s.trust.measSvc.toNat ++ [Fuses.stateByte s.lc.fuses] ++ leBytes 4 0x0104

/-- prk_u. -/
def State.prkU (s : State) : List Byte := hkdfExtract (ascii "dz1 uds") (beBytes 32 s.lc.fuses.uds)

/-- Public keys and signatures at the lengths of R379, R413 and R418. -/
def p384Key (k : List Byte) : List Byte := slice (Config.p384Public k) 0 97
def mldsaKey (k : List Byte) : List Byte := slice (Config.mldsaPublic k) 0 2592
def p384Sig (k m : List Byte) : List Byte := slice (Config.p384Sign k m) 0 96
def mldsaSig (k m : List Byte) : List Byte := slice (Config.mldsaSign k m) 0 4627

/-- The public keys of an identity. -/
def publics (k : List Byte × List Byte) : List Byte := p384Key k.1 ++ mldsaKey k.2

/-- The DeviceID export record (R418). -/
def State.exportRecord (s : State) (did : List Byte × List Byte) : List Byte :=
  let l := leBytes 8 s.lc.fuses.serialNo ++ [Fuses.stateByte s.lc.fuses] ++ publics did
  let d := shaBytes (ascii "dz1 devid" ++ l)
  l ++ p384Sig did.1 d ++ mldsaSig did.2 d

/-- Keys of another measurement are erased (R370). -/
def State.checkMeas (s : State) : State :=
  match s.trust.measKept with
  | none => s
  | some m => if m = s.trust.meas then s else s.eraseKeys.err Page.key Err.key.MEAS_CHANGE

/-- Layer 0: slots 0 and 1 are FREE again when it ends; MAKER and SCRAPPED have no identity (R419). -/
def State.opLayer0 (sec svc : Dig384) (s : State) : State :=
  let s := { s with trust := { s.trust with measSec := sec, measSvc := svc } }
  let s := { s with trust := { s.trust with meas := Config.sha384 s.measBytes }, boot := { s.boot with phase := .layer0Done } }
  let s := s.checkMeas
  let st := s.lc.fuses.state
  if st = 0 ∨ st = 4 then s else
  let did := identity s.prkU (ascii "dz1 device id")
  let ali := identity (hkdfExtract (shaBytes s.measBytes) s.prkU) (ascii "dz1 alias")
  let s := (s.saddled 4).setSlot 2 { kind := 2, state := 1, gen := 0, payload := slice ali.1 0 64 }
  let s := s.setSlot 3 { kind := 2, state := 1, gen := 0, payload := slice ali.2 0 64 }
  let stmt := shaBytes s.measBytes ++ publics ali ++ leBytes 4 0x0104
  { s with trust := { s.trust with
      aliasCert := Config.aliasX509 did.1 (p384Key ali.1), aliasStmt := stmt ++ mldsaSig did.2 stmt
      deviceId := publics did, exportRec := if st = 1 ∨ st = 3 then s.exportRecord did else [] } }
def execLayer0Identity (sec svc : Dig384) (s : State) : Res := guarded (s.boot.phase == .bistDone) s (State.opLayer0 sec svc)

/-! ### Firmware (R6) -/

/-- Is an image's release 1.4? -/
def releaseOk (v : W32) : Bool := fieldOf v 8 8 == 4 && fieldOf v 16 8 == 1

/-- The firmware runs; pages whose writes were discarded say so (R44). -/
def State.startFirmware (s : State) (secVer svcVer : W32) : State :=
  let l := s.boot.wrInReset.eraseDups
  let s := { s with boot := { s.boot with phase := .running, fwSec := secVer, fwSvc := svcVer, wrInReset := [] } }
  let s := if s.boot.post then s else s.showVfEn
  l.foldl (fun s k => match Page.ofSlot k with
    | some p => s.err p Err.WR_IN_RESET
    | none => s) s

/-- FIRMWARE_LOAD. -/
def State.opFirmware (secOk svcOk : Bool) (secVer svcVer : W32) (s : State) : State :=
  if !secOk || !svcOk then s.holdBoot 1
  else if !releaseOk secVer || !releaseOk svcVer then s.holdBoot 2
  else s.startFirmware secVer svcVer
def execFirmwareLoad (secOk svcOk : Bool) (secVer svcVer : W32) (s : State) : Res :=
  guarded (s.boot.phase == .layer0Done) s (State.opFirmware secOk svcOk secVer svcVer)

/-! ### Cluster faults (R18) -/

/-- The cluster of a page slot, by its code of R465; front-end slice n has slot 0x600 + n. -/
def clusterAt (slot : Nat) : Option Nat :=
  if 0x20 ≤ slot ∧ slot < 0x30 then some (slot - 0x20)
  else if 0x40 ≤ slot ∧ slot < 0x80 then some (slot - 0x40 + 16)
  else if 0x38 ≤ slot ∧ slot < 0x40 then some (slot - 0x38 + 80)
  else if 0x600 ≤ slot ∧ slot < 0x608 then some (slot - 0x600 + 88)
  else none

/-- CLUSTER_FAULT: an absent cluster has no fault. -/
def execClusterFault (slot : Nat) (s : State) : Res :=
  guarded s.serving s fun s => match clusterAt slot with
    | some c => if s.targetAbsent c then s else s.clusterOut c false
    | none => s

/-- SLICE_RESTART_DONE: the slice is empty and in service again, unless a self-test took it out. -/
def execSliceRestartDone (slice : Nat) (s : State) : Res :=
  guarded (s.serving && slice < 8 && !s.bist.out.contains (88 + slice)) s fun s =>
    if s.sliceOk slice then s else s.wr Page.fe Reg.FE_STATUS.SLICE_OK (s.rd Page.fe Reg.FE_STATUS.SLICE_OK + 2 ^ slice)

/-! ### Lockstep (R19, R434) -/

/-- Is the compare switched off? -/
def State.lockstepOff (s : State) : Bool :=
  s.rdb Page.err Reg.ERR_CFG.LOCKSTEP_OFF && (s.lcState == 0 || s.lcState == 1 || s.lcState == 3)

/-- LOCKSTEP_SVC_MISMATCH: the pair halts; host-assisted functions and Halter wait. -/
def execLockstepSvcMismatch (s : State) : Res :=
  guarded (s.up && !s.lockstepOff) s fun s =>
    ({ s with boot := { s.boot with svcHalted := true } }).err Page.err Err.err.LOCKSTEP_SVC

/-- LOCKSTEP_SEC_MISMATCH: the saddle is cleared, and the instance leaves service. -/
def execLockstepSecMismatch (s : State) : Res :=
  guarded (s.up && !s.lockstepOff) s fun s =>
    ({ s with trust := { s.trust with saddleQ := [] } }).fatal Page.err Err.err.LOCKSTEP_SEC

end Sys2Proof.Machine
end

