-- ==== Sys2Proof/Machine/Life.lean ====
section
/-! DEFINITION. Life-cycle transitions (R412 to R416), supply hold-up (R415, R466, R506), the DeviceID export (R418). -/

namespace Sys2Proof.Machine

/-! ### Requests (R413, R414) -/

/-- MAGIC, QVER and the reserved bytes. -/
def lcFormBad (l : List Byte) : Bool :=
  ofLe (slice l 0 4) != 0x444C4352 || ofLe (slice l 4 1) != 1 || ofLe (slice l 7 1) != 0 || (slice l 72 56).any (· != 0) || (slice l 225 31).any (· != 0)

/-- The transitions of R412. -/
def lcPair (a b : Nat) : Bool :=
  (a == 0 && b == 1) || (a == 1 && b == 2) || (a == 2 && b == 3) || (a == 3 && b == 2) || (a < 4 && b == 4)

/-- The limits of R412 on the number of returns. -/
def lcLimit (a b k : Nat) : Bool := (a == 2 && b == 3 && 16 < k) || (a == 3 && b == 2 && 17 < k)

/-- DEVID_HASH that a request must name: the identity's, zero in MAKER. -/
def State.devidHash (s : State) (src : Nat) : List Byte := if src = 0 then List.replicate 48 0 else shaBytes s.trust.deviceId

/-- Do both signatures verify? -/
def lcSigned (l : List Byte) : Bool :=
  let d := shaBytes (ascii "dz1 lc request" ++ slice l 0 128)
  Config.p384Verify (slice l 128 97) d (slice l 2848 96) && Config.mldsaVerify (slice l 256 2592) d (slice l 2944 4627)

/-- The first failing code of R414 for a record that has been read; 0 when none. -/
def State.lcCode (s : State) (l : List Byte) : Nat :=
  let src := ofLe (slice l 5 1)
  let dst := ofLe (slice l 6 1)
  let f := s.lc.fuses
  if lcFormBad l then 1
  else if src ≠ s.lcState then 3
  else if !lcPair src dst then 4
  else if ofLe (slice l 8 8) ≠ f.serialNo then 5
  else if ofLe (slice l 16 8) ≠ s.rdPair Page.lcs Reg.LCS_NONCE_LO.NONCE Reg.LCS_NONCE_HI.NONCE then 6
  else if slice l 24 48 ≠ s.devidHash src then 7
  else if f.authHash = 0 ∨ ofLe (shaBytes (slice l 128 97 ++ slice l 256 2592)) ≠ f.authHash then 8
  else if !lcSigned l then 9
  else if lcLimit src dst f.toggles then 10
  else if s.conf then 11
  else if s.lc.req.isSome ∨ s.burning then 12 else 0

/-- Record the outcome of a request in LCS_LAST; LCS_NONCE is drawn again (R413). -/
def State.lcLast (s : State) (code src dst : Nat) : State :=
  let p := Page.lcs
  (((s.wr p Reg.LCS_LAST.CODE code).wr p Reg.LCS_LAST.FROM src).wr p Reg.LCS_LAST.TO dst).drawNonce

/-- Refuse a request; Halter's has no packet. -/
def State.lcRefuse (s : State) (pkt : Option Nat) (code : Nat) : State :=
  let s := s.err Page.lcs Err.lcs.LC_REFUSED { detail := code }
  match pkt with
  | some p => s.finish p St.REFUSED code
  | none => s

/-- The UDS that a transition burns (R415): for MAKER to INTEGRATOR a fresh draw, or what copy 0 already holds; ones for SCRAPPED. -/
def State.lcUds (s : State) (src dst : Nat) : Nat × State :=
  if dst = 4 then (2 ^ 256 - 1, s)
  else if src ≠ 0 then (0, s)
  else
    let c := ((s.lc.fuses.copies.head?).getD CopyRead.blank).uds
    if c.norm = c.marg ∧ c.norm ≠ 0 then (c.norm, s)
    else
      let r := s.draw 1
      ((Config.trng r.1).toNat, r.2.saddled)

/-- Take a record: refused with a code, or hold-up is requested for its commit. -/
def State.lcSubmit (s : State) (pkt : Option Nat) (l : List Byte) : Nat × State :=
  let code := s.lcCode l
  let src := ofLe (slice l 5 1)
  let dst := ofLe (slice l 6 1)
  let s := s.lcLast code src dst
  if code ≠ 0 then (code, s.lcRefuse pkt code)
  else
    let r := s.lcUds src dst
    let t := if dst = 4 then 0 else 2 ^ s.lc.fuses.toggles
    (0, { r.2 with
      lc := { r.2.lc with req := some { pkt := pkt, src := src, dst := dst, tBits := t, uds := r.1 }, copy := none }
      outs := { r.2.outs with holdupReq := true } })

/-- A request refused before its record is read. -/
def State.lcUnread (s : State) (p : Option Nat) (code : Nat) : State := (s.lcLast code 0 0).lcRefuse p code

/-- LC_REQ. -/
def State.opLcReq (p : Nat) (x : Pkt) (s : State) : State :=
  let src := x.f 16 8
  if x.f 24 4 ≠ 7571 then s.lcUnread (some p) 1
  else if s.boot.post then s.hostRead 0 src 7571 Use.LCREQ p
  else
    let a := s.readAs Master.pf src 7571
    if (s.checkRange Master.pf 0 src 7571).isSome || a.status != St.OK then s.lcUnread (some p) 2 else (a.st.lcSubmit (some p) a.data).2
def execLcReq (p : Nat) (s : State) : Res := s.perform p 0x63 (State.opLcReq p)

/-- The host read of a request has ended (Post role). -/
def State.lcRead (s : State) (p : Nat) (ok : Bool) (l : List Byte) : State := if ok then (s.lcSubmit (some p) l).2 else s.lcUnread (some p) 2

/-! ### Hold-up and the commit (R415) -/

/-- HOLDUP_ACK: the burn or the commit that waits for it begins. -/
def State.opHoldup (s : State) : State :=
  let s := { s with pins := { s.pins with holdupAck := true } }
  match s.bist.burn, s.lc.req, s.lc.copy with
  | some b, _, _ => ({ s with bist := { s.bist with burn := some { b with granted := true } } }).wr Page.bst Reg.BST_STATUS.BURNING 1
  | none, some _, none =>
    ({ s with lc := { s.lc with copy := some 0, start := s.now } }).wr Page.lcs Reg.LCS_STATUS.COMMITTING 1
  | _, _, _ => s
def execHoldupAck (s : State) : Res := guarded s.outs.holdupReq s State.opHoldup

/-- Release hold-up. -/
def State.endHoldup (s : State) : State :=
  { s with outs := { s.outs with holdupReq := false }, pins := { s.pins with holdupAck := false } }

/-- HOLDUP_TIMEOUT: code 13 for a request, code 5 for a burn. -/
def State.opHoldupTimeout (s : State) : State :=
  match s.bist.burn, s.lc.req, s.lc.copy with
  | some _, _, _ => (({ s with bist := { s.bist with burn := none } }).burnStatus 5).endHoldup
  | none, some r, none =>
    (((({ s with lc := { s.lc with req := none } }).wr Page.lcs Reg.LCS_LAST.CODE 13).lcRefuse r.pkt 13)).endHoldup
  | _, _, _ => s
def execHoldupTimeout (s : State) : Res := guarded (s.outs.holdupReq && !s.pins.holdupAck) s State.opHoldupTimeout

/-- Does a copy hold every bit that the commit burns, at both thresholds? -/
def CopyRead.holds (c : CopyRead) (r : LcReq) : Bool :=
  let has := fun (x : FuseCopy) (v : Nat) => Nat.land x.norm v == v && Nat.land x.marg v == v
  has c.lcT r.tBits && has c.scrap (if r.dst = 4 then 1 else 0) && has c.uds r.uds

/-- The packet of a commit ends, and its completion is written at once. -/
def State.lcComplete (s : State) (pkt : Option Nat) (status : Nat) : State :=
  match pkt with
  | some p => if (s.pkt p).isSome then (s.finish p status).opComplete p else s
  | none => s

/-- The reread: state by R410, completion, hold-up released, block reset (R415, step 4). -/
def State.endCommit (s : State) (r : LcReq) (ok : Bool) : State :=
  let us := (s.now - s.lc.start) / 1000
  let s := ({ s with lc := { s.lc with req := none, copy := none } }).readFuses
  let s := (s.wr Page.lcs Reg.LCS_STATUS.COMMITTING 0).wr Page.lcs Reg.LCS_COMMIT_US.US us
  let s := if ok then s else s.fatal Page.lcs Err.lcs.COMMIT_FAIL
  ((s.lcComplete r.pkt (if ok then St.OK else St.FAULT)).endHoldup).blockReset

/-- COMMIT_PHASE_DONE: copy `c` has been burnt and reads as `x`; the next phase follows, or the reread. -/
def State.opPhase (x : CopyRead) (r : LcReq) (c : Nat) (s : State) : State :=
  let f := s.lc.fuses
  let s := s.setFuses { f with copies := f.copies.zipIdx.map fun e => if e.2 = c then x else e.1 }
  if !CopyRead.holds x r then s.endCommit r false
  else if c < 2 then { s with lc := { s.lc with copy := some (c + 1) } }
  else s.endCommit r true
def execCommitPhaseDone (r : CopyRead) (s : State) : Res :=
  match s.lc.req, s.lc.copy with
  | some q, some c => .next (State.opPhase r q c s)
  | _, _ => .next s

/-! ### DeviceID export (R418) -/

/-- Report the end of an export. -/
def State.exportDone (s : State) (code : Nat) : State :=
  (s.wr Page.lcs Reg.LCS_EXPORT_STATUS.CODE code).wr Page.lcs Reg.LCS_EXPORT_STATUS.DONE 1

/-- EXPORT: the record goes to LCS_EXPORT; in Post role through the host interface (R319). -/
def State.opExport (s : State) : State :=
  let l := s.trust.exportRec
  let a := s.rdPair Page.lcs Reg.LCS_EXPORT_LO.ADDR Reg.LCS_EXPORT_HI.ADDR
  if l.isEmpty then s.exportDone 1
  else if s.boot.post then (if a % 16 ≠ 0 then s.exportDone 2 else (s.hostWrite 0 a l).exportDone 0)
  else
    let own := (s.ratWhole a l.length).any fun e => e.2.owner == 0
    if a % 16 ≠ 0 ∨ own = false then s.exportDone 2
    else
      let w := s.writeAs Master.maint a l
      w.st.exportDone (if w.status = St.OK then 0 else 2)
def execLcsExport (p : Party) (s : State) : Res := s.action p Page.lcs State.opExport

end Sys2Proof.Machine
end

