-- ==== Sys2Proof/Machine/View.lean ====
section
/-! DEFINITION. Registers whose value follows from the rest of the state: what they read as. -/

namespace Sys2Proof.Machine

/-- A 32-bit value. -/
abbrev w32 (n : Nat) : W32 := BitVec.ofNat 32 n

/-! ### VER, CR (R35, R55, R56) -/

/-- VER_STRAP. -/
def State.strapWord (s : State) : Nat := b2n s.boot.post + 2 * s.boot.inst + 8 * b2n s.boot.policyRepair

/-- VER_FEAT0 (R56). -/
def State.feat0 (s : State) : Nat :=
  (if s.boot.post then 0x001A6CF0 else 0x001BF3FF) + (if s.build.sibCount = 0 then 0 else 2 ^ 18)

/-- CR_BUILD0, CR_BUILD1. -/
def State.build0 (s : State) : Nat :=
  let b := s.build
  (if b.mrBuilt then b.mchCount else 0) + 2 ^ 5 * b.lptCount + 2 ^ 12 * b.dcpCount + 2 ^ 19 * b.sibCount + 2 ^ 21 * b2n b.mrBuilt
    + 2 ^ 22 * b2n (b.ctrCacheKib == 1024) + 2 ^ 23 * b2n (b.stagingMib == 12) + 2 ^ 24 * s.boot.inst + 2 ^ 26 * b2n s.isLead
def State.build1 (s : State) : Nat := s.build.lsqCount + 2 ^ 7 * s.build.mchMaxGib

/-- Is the cluster of a page slot gated? -/
def State.gatedSlot (s : State) (slot : Nat) : Bool := s.power.gated.contains slot

/-- The bits of the gated clusters among `n` from page slot `lo`. -/
def State.gatedBits (s : State) (lo n : Nat) : Nat :=
  ((List.range n).map fun k => if s.gatedSlot (lo + k) then 2 ^ k else 0).foldl (· + ·) 0

/-- CR_PWR_STATUS. -/
def State.pwrStatus (s : State) : Nat :=
  let mch := s.gatedBits 0x20 16
  let st := if s.boot.post then 0 else if s.power.mrGoingOff || s.power.mrWaking then 3 else if s.power.mrOff then 2 else if mch = 0 then 0 else 1
  st + 4 * s.rd Page.cr Reg.CR_PWR_STATUS.MR_OFF_REFUSED + 8 * b2n (s.gatedBits 0x40 64 != 0 || s.gatedBits 0x38 8 != 0)
    + 16 * b2n (s.gatedBits 0x600 8 != 0) + 2 ^ 16 * mch

/-! ### FUNC (R60) -/

/-- Is a cold walk due, waiting for its token, or running in channel `n`? -/
def State.walkOpen (s : State) (n : Nat) : Bool :=
  let c := s.chan n
  c.walkDue || c.token == some .walk || c.tokenWait.contains .walk

/-- FUNC_ACTIVE: host-assisted requests, and occurrences of both modes that last: a walk, a pass, a swap, a replay, a teardown, a wait for a
fence slot, a report under assembly, a triage item that is queued or on a rebuild list, a reprovisioning. -/
def State.funcActive (s : State) : Nat :=
  let l := s.chanList
  Nat.lor (s.rd Page.func Reg.FUNC_ACTIVE.ACTIVE)
    (b2n (l.any s.walkOpen) + 2 * b2n (l.any fun n => (s.chan n).farState == 1 || (s.chan n).farState == 2)
      + 4 * b2n (s.rd Page.gait Reg.GAIT_STATUS.SWAP_STATE != 0) + 8 * b2n (s.istate == 2) + 16 * b2n (!s.objs.teardown.isEmpty)
      + 32 * b2n (!s.front.slotWait.isEmpty) + 64 * b2n (!s.trust.reportQ.isEmpty)
      + 128 * b2n (!s.faults.triage.isEmpty || l.any fun n => (s.chan n).rebuilds.any fun e => !e.byHost) + 256 * b2n (!s.front.held.isEmpty))

/-! ### KEY (R369, R395) -/

/-- KEY_SLOTn. -/
def State.slotWord (s : State) (n : Nat) : Nat :=
  let x := s.slot n
  if x.state = 0 then 0 else x.kind + 2 ^ 4 * x.state + 2 ^ 6 * x.gen

/-- KEY STATUS. -/
def State.keyStatus (s : State) : Nat :=
  b2n ((s.slot 8).state == 1) + 2 * b2n s.trust.join.isSome + 4 * b2n s.conf + 8 * s.rd Page.key Reg.KEY_STATUS.TAMPER_SEEN
    + 16 * b2n (!s.pins.tamperN) + 32 * s.trust.sessions.length

/-- KEY_JOIN_RANK. -/
def State.joinRank (s : State) : Nat := match s.trust.join with
  | some j => j.rank + 2 ^ 16
  | none => 0

/-- KEY_DLK_GEN: the highest ACTIVE generation, and the other one. -/
def State.dlkGens (s : State) : Nat :=
  let l := s.dlkActive
  let top := l.foldl max 0
  top + 2 ^ 16 * ((l.filter (· != top)).foldl max 0)

/-! ### ERR (R437, R454) -/

/-- The 32 bytes of a record. -/
def ErrRec.toBytes (r : ErrRec) : List Byte :=
  let e0 := r.seq % 2 ^ 16 + 2 ^ 16 * r.family + 2 ^ 24 * r.index + 2 ^ 32 * r.bit + 2 ^ 37 * r.sev + 2 ^ 40 * b2n r.injected
    + 2 ^ 41 * b2n r.ctx.isSome + 2 ^ 42 * (r.ctx.getD 0 % 4096) + 2 ^ 54 * r.fn
  let e2 := r.dt.toNat % 256 + 2 ^ 8 * r.timeState + 2 ^ 10 * r.gen + 2 ^ 32 * r.count
  let e3 := r.place % 2 ^ 45 + 2 ^ 45 * r.placeKind + 2 ^ 48 * r.detail
  leBytes 8 e0 ++ leBytes 8 (r.dt.toNat / 256) ++ leBytes 8 e2 ++ leBytes 8 e3

/-- ERR_RECk: word `w` of the record in slot `k`. -/
def State.recWord (s : State) (k w : Nat) : Nat :=
  match SMap.find? s.faults.ring k with
  | some r => ofLe (slice (ErrRec.toBytes r) (4 * w) 4)
  | none => 0

/-- ERR_SUSPECTS, ERR_SUSPECT_INFO. -/
def State.suspectsWord (s : State) : Nat :=
  s.faults.suspects.length + 2 ^ 11 * (s.faults.suspects.filter fun x => x.state < 2).length
def State.suspectInfo (s : State) : Nat :=
  match s.faults.suspects[s.rd Page.err Reg.ERR_SUSPECT_SEL.INDEX]? with
  | some x => x.ctx + 2 ^ 12 * x.queue + 2 ^ 25 * b2n x.persist + 2 ^ 26 * x.state
  | none => 0

/-! ### Debug (R419, R420, R429) -/

/-- The level of Halter: 0 Off, 1 ROM, 2 Field, 3 Full. -/
def State.hltLevel (s : State) : Nat :=
  if s.romLevel then 1
  else if !s.rdb Page.hlt Reg.HLT_CTRL.EN || s.conf then 0
  else if s.lcState = 2 then 2 else 3

/-- Registers that count traffic (R426): zero in confidential mode. -/
def activityReg (f : Fam) (off : Nat) : Bool :=
  match f with
  | .cnt => 0x100 ≤ off
  | .mch => 0x30 ≤ off && off < 0x44
  | .red => 0x28 ≤ off && off < 0x34
  | .fe => off == 0x60 || off == 0x64
  | .gait => 0x400 ≤ off && off < 0xC00 && ((off - 0x400) % 0x20 == 4 || (off - 0x400) % 0x20 == 0x14)
  | .ccip => off == 0x3C
  | _ => false

/-! ### Link region (R175, R205) -/

/-- Lowest stalled root, and whether any is. -/
def State.stalledWord (s : State) : Nat :=
  match (s.red.roots.filter fun r => r.2.stalled).head? with
  | some r => r.1 + 2 ^ 12
  | none => 0

/-! ### Front region (R323, R349, R351, R362) -/

/-- Fetched packets of a queue that have not completed. -/
def State.inflight (s : State) (q : Nat) : Nat := min 64 (s.inFlight q)

/-- FE_Q_STATE of the selected queue. -/
def State.qStateWord (s : State) (q : Nat) : Nat :=
  let x := s.queue q
  x.state.code + 2 ^ 3 * x.bind + 2 ^ 5 * s.inflight q + 2 ^ 12 * x.stop + 2 ^ 20 * x.ctx

/-- Present sequencers from `lo`. -/
def State.presentBits (s : State) (lo : Nat) : Nat :=
  ((List.range 32).map fun k => if (SMap.getD s.front.seqs Seq.empty (lo + k)).present then 2 ^ k else 0).foldl (· + ·) 0

/-! ### Registers as they read -/

/-- What the register at offset `off` of page `pg` holds, bits [31:30] of STATUS aside. -/
def State.view (s : State) (pg : Page) (off : Nat) : W32 :=
  let own := s.reg (pg.base + off)
  let sel := s.rd Page.fe Reg.FE_Q_SEL.Q
  if s.conf && activityReg pg.fam off then 0 else
  match pg.fam with
  | .ver =>
    if off = 0x28 then s.boot.fwSec &&& w32 0xFFFFFF else if off = 0x2C then s.boot.fwSvc &&& w32 0xFFFFFF
    else if off = 0x30 then w32 s.strapWord else if off = 0x40 then w32 s.feat0 else own
  | .func => if off = 0x24 then w32 s.funcActive else own
  | .cr =>
    if off = 0x24 then w32 s.pwrStatus else if off = 0x28 then w32 (s.gatedBits 0x40 32) else if off = 0x2C then w32 (s.gatedBits 0x60 32)
    else if off = 0x34 then w32 s.build0 else if off = 0x38 then w32 s.build1 else own
  | .key =>
    if off = 0x0C then w32 s.keyStatus else if off = 0x20 then w32 ((s.trust.join.map (·.jobId)).getD 0)
    else if off = 0x24 then w32 s.joinRank else if off = 0x28 then w32 s.dlkGens
    else if 0x100 ≤ off ∧ off < 0x180 then w32 (s.slotWord ((off - 0x100) / 4)) else own
  | .time =>
    if off = 0x0C then withField own 15 4 s.gaitDist else if off = 0x20 then w32 s.dtNs else if off = 0x24 then w32 (s.dtNs / 2 ^ 32)
    else if off = 0x38 then w32 (min s.errEst 0xFFFFFFFF) else own
  | .hlt => if off = 0x0C then w32 (s.hltLevel + 4 * b2n s.dbg.lcWant) else own
  | .err =>
    if off = 0x30 then withField own 0 4 (min 15 s.recentResets.length) else if off = 0x48 then w32 s.suspectsWord
    else if off = 0x50 then w32 s.suspectInfo else if 0x800 ≤ off then w32 (s.recWord ((off - 0x800) / 32) ((off - 0x800) % 32 / 4)) else own
  | .gw =>
    if off = 0x0C then withField own 1 1 (b2n s.selfRank.isSome)
    else if off = 0x20 then w32 ((s.selfRank.map fun r => r + 2 ^ 15 * (r / 256)).getD 0) else own
  | .red =>
    if off = 0x0C then withField own 0 1 (b2n (s.redClusters.contains pg.idx)) else if off = 0x20 then w32 (s.redKib pg.idx)
    else if off = 0x24 then w32 (s.redStripes pg.idx)
    else if pg.idx ≠ 0 then own
    else if off = 0x4C then w32 (s.stageKib - s.stageUsed) else if off = 0x50 then w32 s.openInsts else if off = 0x5C then w32 s.stalledWord else own
  | .fe =>
    if off = 0x0C then withField own 8 1 (1 - s.rd Page.ver Reg.VER_NEG.VALID)
    else if off = 0x44 then w32 (s.qStateWord sel) else if off = 0x48 then w32 (s.queue sel).rptr
    else if off = 0x4C then w32 (s.queue sel).wptr else if off = 0x50 then w32 (s.presentBits 0) else if off = 0x54 then w32 (s.presentBits 32)
    else if off = 0x78 then w32 (s.storeUsed (sel / 1024)) else own
  | .ctxs =>
    if off = 0x0C then w32 (s.objs.slots.length + 2 ^ 6 * (s.objs.slots.filter fun x => s.ctxPinned x.ctx).length + 2 ^ 12 * b2n s.tablesSet) else own
  | .fns =>
    if off = 0x0C then w32 (s.objs.fences.length + 2 ^ 7 * (s.objs.fences.filter fun x => !(s.waitersOf x.fence).isEmpty).length) else own
  | .vf =>
    if off = 0x0C then
      let q := if pg.idx = 0 then 0 else (s.vfRange pg.idx .queue).1
      withField own 5 1 (b2n ((pg.idx == 0 || s.vstate pg.idx != 0) && (s.queue q).state != .absent))
    else if pg.idx = 0 ∧ 0x20 ≤ off ∧ off < 0x7C then 0 else own
  | _ => own

/-- PAGE_ID (R45). -/
def Page.id (p : Page) : Nat := p.fam.code + 2 ^ 8 * p.idx + 2 ^ 20 + 2 ^ 24

/-- STATUS bits [31:30] (R47): GATED, IN_RESET. -/
def State.statusHigh (s : State) (pg : Page) : Nat := 2 ^ 30 * b2n (s.gatedSlot (pg.base / 0x1000)) + 2 ^ 31 * b2n (!s.pageUp pg)

/-- Registers of link and sibling ports that the block does not have: absent, as the ports are (R4, R34). -/
def State.absentReg (s : State) (pg : Page) (off : Nat) : Bool :=
  match pg.fam with
  | .time => (0x400 ≤ off && off < 0xC00 && s.ports ≤ (off - 0x400) / 0x20) || (0xC00 ≤ off && s.build.sibCount ≤ (off - 0xC00) / 0x20)
  | .gait => 0x400 ≤ off && off < 0xC00 && s.ports ≤ (off - 0x400) / 0x20
  | .cr => 0x40 ≤ off && off < 0x4C && s.build.sibCount ≤ (off - 0x40) / 4
  | _ => false

/-- A register of a present page as it reads (R44): a page in reset returns PAGE_ID and STATUS, zero for the rest. -/
def State.look (s : State) (pg : Page) (off : Nat) : W32 :=
  if off = 0 then w32 (Page.id pg)
  else if off = 0x0C then w32 ((s.view pg off).toNat % 2 ^ 30 + s.statusHigh pg)
  else if s.pageUp pg && !s.absentReg pg off then s.view pg off else 0

end Sys2Proof.Machine
end

