-- ==== Sys2Proof/Machine/Spdm.lean ====
section
/-! DEFINITION. The SPDM responder (R373 to R378): connection set-up, certificates, measurements, sessions, key changes, the hybrid step. Message
bodies follow the SPDM standard, which the spec takes as it is; what a body holds that the spec does not name is not kept. -/

namespace Sys2Proof.Machine

/-- A byte. -/
abbrev by1 (n : Nat) : Byte := BitVec.ofNat 8 n

/-- A number of bytes drawn from the TRNG. -/
def State.drawBytes (s : State) (n : Nat) : List Byte × State :=
  let r := s.draw ((n + 31) / 32)
  (((List.range ((n + 31) / 32)).flatMap fun i => beBytes 32 (Config.trng (r.1 + i)).toNat).take n, r.2)

/-- Change the connection state. -/
def State.setSpdm (s : State) (x : SpdmPhase) : State := { s with trust := { s.trust with phase := x } }

/-- Once algorithms are negotiated `f` acts; before that the request is out of order (R374). -/
def State.afterAlgorithms (s : State) (session : Nat) (f : State → State) : State :=
  if s.trust.phase = .negotiated then f s else s.spdmErr session Spdm.UnexpectedRequest

/-- Is there no identity (R419)? -/
def State.noIdentity (s : State) : Bool := s.lcState == 0 || s.lcState == 4

/-- A request that needs an identity (R419). -/
def State.identified (s : State) (f : State → State) : State :=
  if s.noIdentity then s.spdmErr 0 Spdm.Unspecified else s.afterAlgorithms 0 f

/-- A private key in a slot, when the slot is usable. -/
def State.slotKey (s : State) (n len : Nat) : Option (List Byte) :=
  if (s.slot n).state = 1 then some (slice (s.slot n).payload 0 len) else none

/-- A number that stands for a transcript: a value the model leaves free. -/
def State.transcript (s : State) : Nat × State :=
  let r := s.draw 1
  ((Config.free r.1).toNat, r.2)

/-! ### Connection set-up (R373 to R375) -/

/-- GET_VERSION: versions 1.2 and 1.3. -/
def execGetVersion (s : State) : Res :=
  guarded s.up s fun s => (s.setSpdm .version).spdmSend 0 Spdm.VERSION ([0, 2] ++ leBytes 2 0x1200 ++ leBytes 2 0x1300)

/-- The capability flags of R375. -/
def spdmCaps : Nat := 0x273D6

/-- GET_CAPABILITIES: the flags, DataTransferSize and MaxSPDMmsgSize. CTExponent is open. -/
def State.opCapabilities (s : State) : State :=
  if s.trust.phase ≠ .version then s.spdmErr 0 Spdm.UnexpectedRequest
  else
    let r := s.draw 1
    (r.2.setSpdm .caps).spdmSend 0 Spdm.CAPABILITIES
      ([0, by1 (Config.free r.1).toNat, 0, 0] ++ leBytes 4 spdmCaps ++ leBytes 4 4096 ++ leBytes 4 65536)
def execGetCapabilities (s : State) : Res := guarded s.up s State.opCapabilities

/-- The algorithms of R375: measurement hash, base asymmetric, base hash, DHE group, AEAD, requester asymmetric, key schedule. -/
def spdmAlgorithms : List Byte := leBytes 4 4 ++ leBytes 4 0x80 ++ leBytes 4 2 ++ leBytes 2 0x10 ++ leBytes 2 2 ++ leBytes 2 0x80 ++ leBytes 2 1

/-- NEGOTIATE_ALGORITHMS. -/
def State.opAlgorithms (offers : Bool) (s : State) : State :=
  if s.trust.phase ≠ .caps then s.spdmErr 0 Spdm.UnexpectedRequest
  else if offers then (s.setSpdm .negotiated).spdmSend 0 Spdm.ALGORITHMS spdmAlgorithms
  else s.spdmErr 0 Spdm.InvalidRequest
def execNegotiateAlgorithms (offers : Bool) (s : State) : Res := guarded s.up s (State.opAlgorithms offers)

/-! ### Certificates (R366) -/

/-- A signature of the Alias P-384 key; none when its slot is not usable. -/
def State.aliasSign (s : State) (m : List Byte) : Option (List Byte × State) :=
  (s.slotKey 2 48).map fun k => (p384Sig k m, s.saddled)

/-- Answer a waiting message from the chain that is served. -/
def State.serveChain (s : State) (u : CertUse) (chain : List Byte) : State :=
  match u with
  | .cert off len =>
    if chain.length < off then s.spdmErr 0 Spdm.InvalidRequest
    else
      let l := (chain.drop off).take len
      s.spdmSend 0 Spdm.CERTIFICATE ([0, 0] ++ leBytes 2 l.length ++ leBytes 2 (chain.length - off - l.length) ++ l)
  | .digests => s.spdmSend 0 Spdm.DIGESTS (shaBytes chain)
  | .challenge nonce =>
    let t := s.transcript
    let r := t.2.drawBytes 32
    match r.2.aliasSign (leBytes 8 t.1 ++ nonce ++ r.1) with
    | some x => x.2.spdmSend 0 Spdm.CHALLENGE_AUTH (shaBytes chain ++ r.1 ++ x.1)
    | none => r.2.spdmErr 0 Spdm.Unspecified

/-- The chain that host software wrote has been read: it is served when its DeviceID key is the one layer 0 derived. -/
def State.chainRead (s : State) (u : CertUse) (ok : Bool) (l : List Byte) : State :=
  if !ok || slice (Config.certKey l) 0 97 != slice s.trust.deviceId 0 97 then (s.err Page.key Err.key.CERT_MISMATCH).spdmErr 0 Spdm.Unspecified
  else s.serveChain u (Config.certChain l s.trust.aliasCert s.trust.aliasStmt)

/-- Read the chain: with maintenance rights, or through the host interface in Post role. -/
def State.needChain (u : CertUse) (s : State) : State :=
  let a := s.rdPair Page.key Reg.KEY_CERT_BASE_LO.ADDR Reg.KEY_CERT_BASE_HI.ADDR
  let n := s.rd Page.key Reg.KEY_CERT_LEN.BYTES
  if s.boot.post then
    ({ s with trust := { s.trust with certWait := s.trust.certWait ++ [u] } }).hostRead 0 a n Use.CERT 0
  else
    let r := s.readAs Master.maint a n
    r.st.chainRead u (r.status == St.OK) r.data

/-- A host read of the chain has ended (Post role). -/
def State.certGot (s : State) (ok : Bool) (l : List Byte) : State :=
  match s.trust.certWait with
  | [] => s
  | u :: q => ({ s with trust := { s.trust with certWait := q } }).chainRead u ok l

/-- GET_DIGESTS. -/
def execGetDigests (s : State) : Res := guarded s.up s fun s => s.identified (State.needChain .digests)

/-- GET_CERTIFICATE: slot 0 only. -/
def execGetCertificate (slot off len : Nat) (s : State) : Res :=
  guarded s.up s fun s => s.identified fun s =>
    if slot ≠ 0 then s.spdmErr 0 Spdm.InvalidRequest else s.needChain (.cert off len)

/-- CHALLENGE. -/
def execChallenge (nonce : List Byte) (s : State) : Res := guarded s.up s fun s => s.identified (State.needChain (.challenge nonce))

/-! ### Sessions (R376 to R378) -/

/-- The session with an identifier. -/
def State.session (s : State) (id : Nat) : Option Session := s.trust.sessions.find? fun x => x.id == id

/-- Change a session. -/
def State.modSession (s : State) (id : Nat) (f : Session → Session) : State :=
  { s with trust := { s.trust with sessions := s.trust.sessions.map fun x => if x.id = id then f x else x } }

/-- A message of a session in `phase`: counted, then `f` acts. Outside a session, or in another phase, it is out of order. -/
def State.inSession (s : State) (id phase : Nat) (f : Session → State → State) : State :=
  match s.session id with
  | none => s.spdmErr 0 Spdm.UnexpectedRequest
  | some x =>
    let s := s.modSession id fun x => { x with reqSeq := x.reqSeq + 1 }
    if x.phase ≠ phase then s.spdmErr id Spdm.UnexpectedRequest else f { x with reqSeq := x.reqSeq + 1 } s

/-- A session ends: its slot is cleared, and what waits for an answer in it is dropped. Keys already released stay (R378). -/
def State.sessionEnd (s : State) (id : Nat) : State :=
  match s.session id with
  | none => s
  | some x =>
    let s := s.setSlot x.slot Slot.free
    let t := s.trust
    { s with trust := { t with
        sessions := t.sessions.filter fun y => y.id != id
        tdiStop := t.tdiStop.filter fun e => e.2 != id
        reportQ := (t.reportQ.take 1) ++ (t.reportQ.drop 1).filter fun e => e.1 != id } }

/-- KEY_EXCHANGE: a session in the handshake, mutual authentication requested with the encapsulated flow. -/
def State.opKeyExchange (reqId : Nat) (pub : List Byte) (s : State) : State :=
  if 4 ≤ s.trust.sessions.length then s.spdmErr 0 Spdm.Busy
  else
    match (List.range 4).find? fun k => (s.slot (4 + k)).state = 0 ∧ (s.trust.sessions.any fun x => x.slot == 4 + k) = false with
    | none => s.spdmErr 0 Spdm.Busy
    | some k =>
      let id := reqId % 65536 + 65536 * (4 + k)
      let r := s.saddled.drawBytes 48
      let t := r.2.transcript
      match t.2.aliasSign (leBytes 8 t.1 ++ pub) with
      | none => t.2.spdmErr 0 Spdm.Unspecified
      | some sg =>
        let x : Session :=
          { id := id, slot := 4 + k, phase := 1, anchored := false, hybrid := false, kem := none, kemUsed := false
            dhe := Config.p384Shared r.1 pub, secret := [], ivs := [], transcript := t.1, encap := 0, chain := [], reqSeq := 0, rspSeq := 0
            nonces := [] }
        ({ sg.2 with trust := { sg.2.trust with sessions := sg.2.trust.sessions ++ [x] } }).spdmOut 0 Spdm.KEY_EXCHANGE_RSP
          (leBytes 2 (4 + k) ++ [2] ++ p384Key r.1 ++ sg.1)
def execKeyExchange (reqId : Nat) (pub : List Byte) (s : State) : Res := guarded s.up s fun s => s.identified (State.opKeyExchange reqId pub)

/-- GET_ENCAPSULATED_REQUEST: the block asks for the requester's certificate. -/
def execGetEncapsulatedRequest (session : Nat) (s : State) : Res :=
  guarded s.up s fun s => s.inSession session 1 fun x s =>
    if x.encap ≠ 0 then s.spdmErr session Spdm.UnexpectedRequest
    else (s.modSession session fun x => { x with encap := 1 }).spdmSend session Spdm.ENCAPSULATED_REQUEST [0x82]

/-- DELIVER_ENCAPSULATED_RESPONSE: the requester's chain. -/
def execDeliverEncapsulatedResponse (session : Nat) (body : List Byte) (s : State) : Res :=
  guarded s.up s fun s => s.inSession session 1 fun x s =>
    if x.encap ≠ 1 then s.spdmErr session Spdm.UnexpectedRequest
    else (s.modSession session fun x => { x with encap := 2, chain := body }).spdmSend session Spdm.ENCAPSULATED_RESPONSE_ACK []

/-- Is the session of a requester with this root anchored (R376)? -/
def State.anchoredBy (s : State) (root : Dig384) : Bool := (s.slot 8).state == 1 && (s.slot 8).payload == beBytes 48 root.toNat

/-- FINISH (R368, R376): the session is established, its data keys go to its slot, the KEY page is locked (R366). -/
def State.opFinish (x : Session) (macOk : Bool) (s : State) : State :=
  if x.encap ≠ 2 then s.spdmErr x.id Spdm.UnexpectedRequest
  else if !macOk then (s.spdmErr x.id Spdm.DecryptError).sessionEnd x.id
  else
    match Config.chainRoot x.chain with
    | none => (s.spdmErr x.id Spdm.Unspecified).sessionEnd x.id
    | some root =>
      let keys := Config.spdmSchedule x.dhe x.transcript 1
      let s := (s.saddled.spdmSend x.id Spdm.FINISH_RSP []).setSlot x.slot { kind := 3, state := 1, gen := 0, payload := slice keys 0 64 }
      let s := s.modSession x.id fun y =>
        { y with phase := 2, anchored := s.anchoredBy root.1, dhe := [], secret := Config.spdmSchedule x.dhe x.transcript 0
                 ivs := slice keys 64 24, reqSeq := 0, rspSeq := 0 }
      s.setReg (Page.key.base + hdrLock) 1
def execFinish (session : Nat) (macOk : Bool) (s : State) : Res := guarded s.up s fun s => s.inSession session 1 fun x s => s.opFinish x macOk

/-- END_SESSION. -/
def execEndSession (session : Nat) (s : State) : Res :=
  guarded s.up s fun s => s.inSession session 2 fun _ s => (s.spdmSend session Spdm.END_SESSION_ACK []).sessionEnd session

/-- HEARTBEAT. -/
def execSpdmHeartbeat (session : Nat) (s : State) : Res :=
  guarded s.up s fun s => s.inSession session 2 fun _ s => s.spdmSend session Spdm.HEARTBEAT_ACK []

/-- HEARTBEAT_EXPIRY. -/
def execHeartbeatExpiry (session : Nat) (s : State) : Res := guarded s.up s fun s => s.sessionEnd session

/-- SECURED_MSG_AUTH_FAIL. -/
def execSecuredMsgAuthFail (session : Nat) (s : State) : Res :=
  guarded s.up s fun s => if (s.session session).isSome then (s.sessionEnd session).err Page.key Err.key.SESSION_FAIL else s

/-- END_SESSIONS: CTRL.END_SESSIONS. -/
def execEndSessions (p : Party) (s : State) : Res :=
  s.action p Page.key fun s => (s.trust.sessions.map fun x => x.id).foldl (fun s id => s.sessionEnd id) s

/-! ### Key changes -/

/-- Put new keys of a direction into a session's slot: `k` 0 request, 1 response. -/
def State.newKeys (s : State) (id k : Nat) : State :=
  match s.session id with
  | none => s
  | some x =>
    let y := s.slot x.slot
    let n := Config.spdmUpdate (slice y.payload (32 * k) 32)
    let key := slice n 0 32
    let iv := slice n 32 12
    let s := s.saddled.setSlot x.slot
      { y with payload := if k = 0 then key ++ slice y.payload 32 32 else slice y.payload 0 32 ++ key }
    s.modSession id fun x =>
      if k = 0 then { x with ivs := iv ++ slice x.ivs 12 12, reqSeq := 0 } else { x with ivs := slice x.ivs 0 12 ++ iv, rspSeq := 0 }

/-- KEY_UPDATE: 1 the request key, 2 both keys, 3 verifies. -/
def State.opKeyUpdate (id op : Nat) (s : State) : State :=
  let ack := fun (s : State) => s.spdmSend id Spdm.KEY_UPDATE_ACK [by1 op]
  match op with
  | 1 => ack (s.newKeys id 0)
  | 2 => ack ((s.newKeys id 0).newKeys id 1)
  | 3 => ack s
  | _ => s.spdmErr id Spdm.InvalidRequest
def execKeyUpdate (session : Nat) (op : Nat) (s : State) : Res := guarded s.up s fun s => s.inSession session 2 fun _ s => s.opKeyUpdate session op

/-- KEM_GET (R377): d and z are drawn through the saddle; a second one in a session is refused. -/
def State.opKemGet (x : Session) (s : State) : State :=
  if x.kemUsed then s.spdmErr x.id Spdm.UnexpectedRequest
  else
    let r := s.saddled.drawBytes 64
    let ek := slice (Config.mlkemPublic r.1) 0 1568
    (r.2.modSession x.id fun y => { y with kem := some (r.1, [1] ++ ek), kemUsed := true }).spdmSend x.id Spdm.VENDOR ek
def execKemGet (session : Nat) (s : State) : Res := guarded s.up s fun s => s.inSession session 2 State.opKemGet

/-- KEM_PUT (R377): the answer is the last message under the previous keys. -/
def State.opKemPut (ct : List Byte) (x : Session) (s : State) : State :=
  match x.kem with
  | none => s.spdmErr x.id Spdm.UnexpectedRequest
  | some (seed, msgs) =>
    if ct.length ≠ 1568 then s.spdmErr x.id Spdm.InvalidRequest
    else
      let th := shaBytes (msgs ++ [2] ++ ct)
      let prk := hkdfExtract x.secret (Config.mlkemDecaps seed ct ++ th)
      let exp := fun (t : String) (n : Nat) => slice (Config.hkdfExpand prk (ascii t) n) 0 n
      let s := (s.saddled.spdmSend x.id Spdm.VENDOR []).setSlot x.slot
        { s.slot x.slot with payload := exp "dz1 hyb req key" 32 ++ exp "dz1 hyb rsp key" 32 }
      s.modSession x.id fun y =>
        { y with kem := none, hybrid := true, reqSeq := 0, rspSeq := 0, ivs := exp "dz1 hyb req iv" 12 ++ exp "dz1 hyb rsp iv" 12 }
def execKemPut (session : Nat) (ct : List Byte) (s : State) : Res := guarded s.up s fun s => s.inSession session 2 (State.opKemPut ct)

/-! ### Large messages, other requests (R373, R374) -/

/-- CHUNK_SEND: pieces gather up to MaxSPDMmsgSize. The request they make up arrives as a command of its own. -/
def State.opChunkSend (session : Nat) (last : Bool) (body : List Byte) (s : State) : State :=
  let l := s.trust.chunkIn ++ body
  if 65536 < l.length then ({ s with trust := { s.trust with chunkIn := [] } }).spdmErr session Spdm.InvalidRequest
  else ({ s with trust := { s.trust with chunkIn := if last then [] else l } }).spdmSend session Spdm.CHUNK_SEND_ACK []
def execChunkSend (session : Nat) (last : Bool) (body : List Byte) (s : State) : Res := guarded s.up s (State.opChunkSend session last body)

/-- CHUNK_GET: the next piece of the large response, 4,080 bytes but for the last. -/
def State.opChunkGet (session seqNo : Nat) (s : State) : State :=
  let l := s.trust.chunkOut
  if l.isEmpty then s.spdmErr session Spdm.UnexpectedRequest
  else if seqNo ≠ s.trust.chunkNo then s.spdmErr session Spdm.InvalidRequest
  else
    let rest := l.drop 4080
    ({ s with trust := { s.trust with chunkOut := rest, chunkNo := if rest.isEmpty then 0 else seqNo + 1 } }).spdmSend session Spdm.CHUNK_RESPONSE
      ([by1 (b2n rest.isEmpty)] ++ leBytes 2 seqNo ++ l.take 4080)
def execChunkGet (session seqNo : Nat) (s : State) : Res := guarded s.up s (State.opChunkGet session seqNo)

/-- UNSUPPORTED_REQUEST: any other request code, or one out of the SPDM order. -/
def execUnsupportedRequest (session : Nat) (outOfOrder : Bool) (s : State) : Res :=
  guarded s.up s fun s => s.spdmErr session (if outOfOrder then Spdm.UnexpectedRequest else Spdm.UnsupportedRequest)

/-- SLOT_QUERY: KEY_SLOTn of every slot. -/
def execSlotQuery (session : Nat) (s : State) : Res :=
  guarded s.up s fun s => s.inSession session 2 fun _ s =>
    s.spdmSend session Spdm.VENDOR ((List.range 32).flatMap fun n => leBytes 4 (s.slotWord n))

end Sys2Proof.Machine
end

