-- ==== Sys2Proof/Machine/Report.lean ====
section
/-! DEFINITION. Reports (R379 to R381), measurements (R374), the package (R22, R382, R495), RELEASE (R383 to R385). -/

namespace Sys2Proof.Machine

/-! ### The package (R22, R495) -/

/-- The instance at sibling port `p`. -/
def State.sibAt (s : State) (p : Nat) : Nat := (s.boot.inst + p + 1) % (s.build.sibCount + 1)

/-- Siblings in service. -/
def State.siblings (s : State) : List Nat :=
  (List.range (s.build.sibCount + 1)).filter fun k => k != s.boot.inst && !s.pkg.out.contains k

/-! ### The body of a report (R379) -/

/-- Flags word at 0x004. -/
def State.reportFlags (s : State) (missing : Bool) (pkgs : Nat) : Nat :=
  1 + 2 ^ 8 * b2n s.boot.post + 2 ^ 9 * b2n s.conf + 2 ^ 10 * s.rd Page.key Reg.KEY_STATUS.TAMPER_SEEN + 2 ^ 11 * b2n s.trust.join.isSome
    + 2 ^ 12 * b2n missing + 2 ^ 13 * s.lcState + 2 ^ 16 * s.boot.inst + 2 ^ 18 * b2n s.isLead + 2 ^ 19 * pkgs

/-- The digests of PKG: the lead's, by rising number. -/
def State.pkgDigests (s : State) : List (List Byte) :=
  if s.isLead then s.siblings.filterMap fun k => (SMap.find? s.pkg.reports k).map fun d => beBytes 48 d.toNat else []

/-- Bytes 0x004 to 0x03F. -/
def State.reportHead (s : State) (missing : Bool) : List Byte :=
  leBytes 4 (s.reportFlags missing s.pkgDigests.length)
    ++ leBytes 4 (s.view Page.ver 0x20).toNat ++ leBytes 4 (s.view Page.ver 0x24).toNat ++ leBytes 4 (s.view Page.ver 0x28).toNat
    ++ leBytes 4 (s.view Page.ver 0x2C).toNat ++ leBytes 4 s.feat0 ++ leBytes 4 s.build0
    ++ leBytes 4 (s.joinRank % 65536) ++ leBytes 4 ((s.trust.join.map (·.jobId)).getD 0) ++ leBytes 4 s.dlkGens ++ leBytes 4 0
    ++ leBytes 16 (s.dt % 2 ^ 72 + 2 ^ 72 * s.timeState)

/-- The body: 1,072 bytes. -/
def State.reportBody (s : State) (nonce : List Byte) (missing : Bool) (hosts : List Byte) : List Byte :=
  leBytes 4 0x44525054 ++ s.reportHead missing ++ slice nonce 0 48
    ++ beBytes 48 s.trust.measSec.toNat ++ beBytes 48 s.trust.measSvc.toNat ++ (s.slotKey 8 48).getD (List.replicate 48 0)
    ++ (List.range 32).flatMap (fun n => leBytes 4 (s.slotWord n)) ++ List.replicate 16 0
    ++ slice s.pkgDigests.flatten 0 144 ++ leBytes 16 (hosts.length / 64) ++ slice hosts 0 512

/-- A report of 5,795 bytes: the body with both signatures (R380); none when an Alias key is not usable. -/
def State.signReport (s : State) (body : List Byte) : Option (List Byte) :=
  match s.slotKey 2 48, s.slotKey 3 32 with
  | some k, some m =>
    let d := shaBytes (ascii "dz1 report" ++ body)
    some (body ++ p384Sig k d ++ mldsaSig m d)
  | _, _ => none

/-! ### Assembly (R381, R382) -/

/-- The report under assembly is made and sent; a session that has ended gets none. -/
def State.assemble (s : State) : State :=
  match s.trust.reportQ, s.trust.hostMeas with
  | (id, nonce) :: q, some h =>
    let s := { s with trust := { s.trust with reportQ := q, hostMeas := none }, pkg := { s.pkg with awaited := [] } }
    if (s.session id).isNone then s else
    (match s.signReport (s.reportBody nonce h.1 h.2) with
     | none => s.spdmErr id Spdm.Unspecified
     | some r =>
       let s := ((s.saddled 2).inc Page.key Reg.KEY_REPORTS.COUNT).modSession id fun x => { x with nonces := nonce :: x.nonces }
       ({ s with trust := { s.trust with lastReport := r }, pkg := { s.pkg with stale := false } }).spdmSend id Spdm.VENDOR r)
  | _, _ => s

/-- The host entries are known: the lead asks its siblings for their reports. -/
def State.measKnown (s : State) (missing : Bool) (l : List Byte) : State :=
  let s := { s with trust := { s.trust with hostMeas := some (missing, l) } }
  if !s.isLead || s.siblings.isEmpty then s.assemble
  else
    let ps := (List.range s.build.sibCount).filter fun p => s.siblings.contains (s.sibAt p)
    ({ s with pkg := { s.pkg with awaited := s.siblings } }).sendSibs ps (.reportReq [])

/-- Read the host entries (R381); entries that cannot be read are not included. -/
def State.readMeas (s : State) : State :=
  let n := 64 * s.rd Page.key Reg.KEY_HOSTMEAS_COUNT.COUNT
  let a := s.rdPair Page.key Reg.KEY_HOSTMEAS_BASE_LO.ADDR Reg.KEY_HOSTMEAS_BASE_HI.ADDR
  if n = 0 then s.measKnown false []
  else if s.boot.post then s.hostRead 0 a n Use.MEAS 0
  else
    let r := s.readAs Master.maint a n
    r.st.measKnown false (if r.status = St.OK then r.data else [])

/-- The host read of the entries has ended (Post role). -/
def State.measGot (s : State) (ok : Bool) (l : List Byte) : State :=
  if s.trust.reportQ.isEmpty || s.trust.hostMeas.isSome then s else s.measKnown false (if ok then l else [])

/-- The oldest request begins. -/
def State.startReport (s : State) : State :=
  if s.trust.reportQ.isEmpty then s else if s.hostMode 6 then s.haPost 6 else s.readMeas

/-- The next requests begin once one has been answered; each that is answered at once makes room for the one behind it. -/
def State.nextReports : Nat → State → State
  | 0, s => s
  | n + 1, s =>
    if s.trust.reportQ.isEmpty || s.trust.hostMeas.isSome || s.haPending 6 || s.host.reads.any (fun e => e.2.1 == Use.MEAS) then s
    else State.nextReports n s.startReport

/-- Go on with the queue of requests. -/
def State.goReports (s : State) : State := State.nextReports s.trust.reportQ.length s

/-- REPORT_GET: waits behind one that is pending. -/
def State.opReportGet (nonce : List Byte) (x : Session) (s : State) : State :=
  if nonce.length ≠ 48 then s.spdmErr x.id Spdm.InvalidRequest
  else ({ s with trust := { s.trust with reportQ := s.trust.reportQ ++ [(x.id, nonce)] } }).goReports
def execReportGet (session : Nat) (nonce : List Byte) (s : State) : Res := guarded s.up s fun s => s.inSession session 2 (State.opReportGet nonce)

/-- KEY_HA_DONE (R381): host software has written fresh entries; discarded when no request awaits it (R62). -/
def execKeyHaDone (p : Party) (s : State) : Res :=
  s.action p Page.key fun s => if s.haPending 6 then s.assisted (.keyHaDone p) fun s => (s.haClear 6).readMeas.goReports else s

/-- The request is withdrawn (R62, R381): HOST_COUNT 0 and HA_MISSING. -/
def State.withdrawReport (s : State) : State := (((s.haClear 6).fallback 6).measKnown true []).goReports

/-- GET_MEASUREMENTS (R374): operation 0 answers the number of blocks, 1 to 4 a block, 0xFF every block; signed with the Alias P-384 key. -/
def State.opMeasurements (session op : Nat) (nonce : List Byte) (s : State) : State :=
  let blocks := [beBytes 48 s.trust.measSec.toNat, beBytes 48 s.trust.measSvc.toNat, beBytes 48 s.trust.meas.toNat, shaBytes (s.reportHead false)]
  if 4 < op ∧ op ≠ 0xFF then s.spdmErr session Spdm.InvalidRequest
  else
    let body := if op = 0 then [4] else if op = 0xFF then blocks.flatten else blocks.getD (op - 1) []
    let t := s.transcript
    match t.2.aliasSign (leBytes 8 t.1 ++ nonce ++ body) with
    | some x => x.2.spdmSend session Spdm.MEASUREMENTS (body ++ x.1)
    | none => t.2.spdmErr session Spdm.Unspecified
def execGetMeasurements (session op : Nat) (nonce : List Byte) (s : State) : Res :=
  guarded s.up s fun s =>
    if session = 0 then s.afterAlgorithms 0 (State.opMeasurements 0 op nonce)
    else s.inSession session 2 fun _ s => s.opMeasurements session op nonce

/-! ### Sibling units -/

/-- LEAD_HEARTBEAT: the lead sends one on every sibling port. -/
def execLeadHeartbeat (s : State) : Res :=
  guarded (s.serving && s.isLead) s fun s => s.sendSibs (List.range s.build.sibCount) .heartbeat

/-- Heartbeats arrive, or no longer arrive, on sibling port `p` (CR_SIB_STATUS). -/
def State.setSibUp (s : State) (p : Nat) (up : Bool) : State :=
  let v := clearBit (s.rd Page.cr Reg.CR_SIB_STATUS.UP) p
  s.wr Page.cr Reg.CR_SIB_STATUS.UP (v + b2n up * 2 ^ p)

/-- Units on port `p` are sealed under generation `g`, or not sealed (0). -/
def State.setSibAuth (s : State) (p g : Nat) : State :=
  let v := clearBit (s.rd Page.cr Reg.CR_SIB_STATUS.AUTH) p
  match s.dlkSlot g with
  | some _ =>
    (s.setLink (64 + p) { s.link (64 + p) with txKey := some (s.sibKeys p g).1, rxKey := some (s.sibKeys p g).2 }).wr Page.cr Reg.CR_SIB_STATUS.AUTH (v + 2 ^ p)
  | none => (s.setLink (64 + p) { s.link (64 + p) with txKey := none, rxKey := none }).wr Page.cr Reg.CR_SIB_STATUS.AUTH v

/-- SIB_HEARTBEAT: a heartbeat on port `p`, sealed under generation `gen` (0: unauthenticated). -/
def State.opSibHeartbeat (p gen : Nat) (s : State) : State :=
  let s := { s with pkg := { s.pkg with out := s.pkg.out.filter (· != s.sibAt p) } }
  (s.setSibUp p true).setSibAuth p gen
def execSibHeartbeat (port gen : Nat) (s : State) : Res := guarded (s.serving && port < s.build.sibCount) s (State.opSibHeartbeat port gen)

/-- A sibling has left service: nothing is awaited of it, and a lead is replaced. -/
def State.sibGone (s : State) (k : Nat) : State :=
  let s := { s with pkg := { s.pkg with out := k :: s.pkg.out.filter (· != k), awaited := s.pkg.awaited.filter (· != k) } }
  let s := if s.pkg.lead = k then s.leadGone k else s
  if s.pkg.awaited.isEmpty && s.trust.hostMeas.isSome then s.assemble.goReports else s

/-- SIB_OUT_OF_SERVICE. -/
def execSibOutOfService (port : Nat) (s : State) : Res :=
  guarded (s.serving && port < s.build.sibCount) s fun s => ((s.setSibUp port false).setSibAuth port 0).sibGone (s.sibAt port)

/-- LEAD_LOST: no heartbeat of the lead for 100 µs. -/
def State.opLeadLost (s : State) : State :=
  let s := (List.range s.build.sibCount).foldl (fun s p => if s.sibAt p = s.pkg.lead then s.setSibUp p false else s) s
  s.sibGone s.pkg.lead
def execLeadLost (s : State) : Res := guarded (s.serving && !s.isLead) s State.opLeadLost

/-- The nonce of a report. -/
def reportNonce (r : List Byte) : List Byte := slice r 0x40 48

/-- REPORT_REQ: the latest report goes out; the lead, which asks, is about to vouch for it. A report from before the last change of lead is
vouched for no more (R382). -/
def State.opReportReq (p : Nat) (s : State) : State :=
  let r := s.trust.lastReport
  let s := s.sendSib p (.reportData r)
  if s.sibAt p = s.pkg.lead ∧ r.isEmpty = false ∧ s.pkg.stale = false then { s with pkg := { s.pkg with vouched := reportNonce r :: s.pkg.vouched } } else s
def execReportReq (port : Nat) (s : State) : Res := guarded (s.serving && port < s.build.sibCount) s (State.opReportReq port)

/-- REPORT_DATA: the lead keeps the digest; the last one that is awaited completes the report. -/
def State.opReportData (p : Nat) (body : List Byte) (s : State) : State :=
  let k := s.sibAt p
  let s := { s with pkg := { s.pkg with
    reports := if body.isEmpty then s.pkg.reports else SMap.set s.pkg.reports k (Config.sha384 body)
    awaited := s.pkg.awaited.filter (· != k) } }
  if s.pkg.awaited.isEmpty && s.trust.hostMeas.isSome then s.assemble.goReports else s
def execReportData (port : Nat) (body : List Byte) (s : State) : Res :=
  guarded (s.serving && s.isLead && port < s.build.sibCount) s (State.opReportData port body)

/-! ### RELEASE (R383 to R385) -/

/-- Fields of a record. -/
def relKind (l : List Byte) : Nat := ofLe (slice l 1 1)
def relSlot (l : List Byte) : Nat := ofLe (slice l 2 1)
def relJob (l : List Byte) : Nat := ofLe (slice l 4 4)
def relRank (l : List Byte) : Nat := ofLe (slice l 8 2)
def relGen (l : List Byte) : Nat := ofLe (slice l 10 2)
def relNonce (l : List Byte) : List Byte := slice l 16 48

/-- Are the reserved bytes, and the KEY of a JOIN, zero? -/
def relReserved (l : List Byte) : Bool :=
  slice l 0 1 == [0] && slice l 3 1 == [0] && (slice l 12 4).all (· == 0) && (slice l 96 32).all (· == 0)
    && (relKind l != 1 || (slice l 64 32).all (· == 0))

/-- Does R382 stop a sibling from accepting a RELEASE? -/
def State.unvouched (s : State) (nonce : List Byte) : Bool := s.build.sibCount != 0 && !s.isLead && !s.pkg.vouched.contains nonce

/-- Is a JOIN refused with code 4? -/
def State.joinBad (s : State) (job rank : Nat) : Bool :=
  24576 ≤ rank % 2 ^ 15 || bit rank 15 != s.boot.post || (s.boot.post && rank % 2 ^ 15 != s.rd Page.cmb Reg.CMB_STATION.STATION)
    || s.trust.join.any fun j => j.jobId != job || j.rank != rank

/-- The generations of the domain link key held, in any state but FREE. -/
def State.dlkHeld (s : State) : List Nat :=
  ((List.range 32).filter fun n => (s.slot n).kind == 5 && (s.slot n).state != 0).map fun n => (s.slot n).gen

/-- The first failing code of R384; 0 accepted. -/
def State.relCode (s : State) (x : Session) (l : List Byte) : Nat :=
  let k := relKind l
  if !x.anchored || !x.hybrid then 1
  else if !x.nonces.contains (relNonce l) || s.unvouched (relNonce l) then 2
  else if k = 0 ∨ 3 < k ∨ relReserved l = false ∨ (k = 2 ∧ relGen l = 0) ∨ (k = 3 ∧ s.boot.post = true) then 3
  else if k = 1 ∧ s.joinBad (relJob l) (relRank l) = true then 4
  else if k ≠ 1 ∧ (s.trust.join.isNone = true ∨ relSlot l < 9 ∨ 31 < relSlot l ∨ (s.slot (relSlot l)).state ≠ 0) then 5
  else if k = 2 ∧ (s.dlkHeld.any fun g => relGen l ≤ g) = true then 6
  else if k = 1 ∧ s.conf = true ∧ (s.trust.join.any fun j => j.jobId != relJob l) = true then 7
  else 0

/-- JOIN accepted (R385). -/
def State.joinDone (s : State) (job rank : Nat) : State :=
  if s.trust.join.isSome then s else
  let s := { s with trust := { s.trust with join := some { jobId := job, rank := rank } } }
  (List.range s.ports).foldl (fun s n => if s.lstate n = 0 ∨ s.lstate n = 5 then s else s.enterRetrain n) s

/-- What an accepted record does. -/
def State.relApply (s : State) (l : List Byte) : State :=
  let put := fun (s : State) (kind st : Nat) =>
    s.setSlot (relSlot l) { kind := kind, state := st, gen := relGen l, payload := slice l 64 32 }
  if relKind l = 1 then s.joinDone (relJob l) (relRank l)
  else if relKind l = 2 then
    if s.dlkActive.isEmpty then (put s 5 2).dlkBegun else put s 5 1
  else put s 6 1

/-- RELEASE. -/
def State.opReleaseKey (l : List Byte) (x : Session) (s : State) : State :=
  if l.length ≠ 128 then s.spdmErr x.id Spdm.InvalidRequest else
  let code := s.relCode x l
  if code = 0 then ((s.relApply l).keepMeas.inc Page.key Reg.KEY_RELEASES.COUNT).spdmSend x.id Spdm.VENDOR [0]
  else ((s.err Page.key Err.key.RELEASE_REFUSED { detail := code }).lastRefuse 1 code).spdmSend x.id Spdm.VENDOR [by1 code]
def execRelease (session : Nat) (body : List Byte) (s : State) : Res := guarded s.up s fun s => s.inSession session 2 (State.opReleaseKey body)

end Sys2Proof.Machine
end

