-- ==== Sys2Proof/Machine/Tdisp.lean ====
section
/-! DEFINITION. IDE key management over the key-out port (R390, R494) and TDISP (R391). -/

namespace Sys2Proof.Machine

/-! ### IDE_KM -/

/-- An IDE_KM request fails (R390). -/
def State.ideFail (s : State) (session error : Nat) : State := ((s.err Page.key Err.key.IDE_KM_FAIL).lastRefuse 4 error).spdmErr session error

/-- Is an IDE operation under way? The key-out port takes one command at a time. -/
def State.ideBusy (s : State) : Bool :=
  s.trust.koBeat.isSome || s.trust.saddleQ.any fun x => match x.use with
    | .ide _ _ _ _ _ _ _ => true
    | _ => false

/-- An IDE_KM request: only in an anchored, hybrid session, and only for port index 0. -/
def State.ide (s : State) (session port : Nat) (f : State → State) : State :=
  s.inSession session 2 fun x s =>
    if !x.anchored || !x.hybrid then s.ideFail session Spdm.UnexpectedRequest
    else if port ≠ 0 then s.ideFail session Spdm.InvalidRequest
    else if s.ideBusy then s.spdmErr session Spdm.Busy
    else f s

/-- QUERY: the engine's stream report. -/
def execIdeQuery (session port stream : Nat) (s : State) : Res :=
  guarded s.up s fun s => s.ide session port fun s => s.koSend 1 session stream 0 0 0 0 0

/-- KEY_PROG: the key goes through the saddle to the port. -/
def execKeyProg (session port stream kset dir sub : Nat) (key : Key256) (ifv : W64) (s : State) : Res :=
  guarded s.up s fun s => s.ide session port fun s => s.saddleAdd 4 (.ide session stream kset dir sub key ifv)

/-- K_SET_GO, K_SET_STOP. -/
def execKSetGo (session port stream kset dir sub : Nat) (s : State) : Res :=
  guarded s.up s fun s => s.ide session port fun s => s.koSend 3 session stream kset dir sub 0 0
def execKSetStop (session port stream kset dir sub : Nat) (s : State) : Res :=
  guarded s.up s fun s => s.ide session port fun s => s.koSend 4 session stream kset dir sub 0 0

/-- The request that a beat served is answered; a session that has ended gets no answer. -/
def State.koAnswer (s : State) (session : Nat) (f : State → State) : State :=
  let s := { s with trust := { s.trust with koBeat := none } }
  if (s.session session).isNone then s else f s

/-- KO_ACK: the status of the engine, or its stream report. -/
def State.opKoAck (status : Nat) (data : List Byte) (s : State) : State :=
  match s.trust.koBeat with
  | none => s
  | some (op, session, _) =>
    let s := if status = 0 then s else (s.err Page.key Err.key.IDE_KM_FAIL { detail := status }).lastRefuse 4 status
    s.koAnswer session fun s => s.spdmSend session Spdm.VENDOR (by1 status :: (if op = 1 then slice data 0 16 else []))
def execKoAck (status : Nat) (data : List Byte) (s : State) : Res := guarded s.up s (State.opKoAck status data)

/-- KO_ACK_TIMEOUT: an answer after 100 µs fails the request. -/
def State.opKoTimeout (s : State) : State :=
  match s.trust.koBeat with
  | none => s
  | some (_, session, _) => (s.err Page.key Err.key.IDE_KM_FAIL).koAnswer session fun s => s.spdmErr session Spdm.Unspecified
def execKoAckTimeout (s : State) : Res := guarded s.up s State.opKoTimeout

/-! ### TDISP -/

/-- Error codes of TDISP (from its standard). -/
abbrev Tdisp.InvalidRequest : Nat := 0x0001
abbrev Tdisp.InvalidState : Nat := 0x0004
abbrev Tdisp.InvalidInterface : Nat := 0x0101
abbrev Tdisp.InvalidNonce : Nat := 0x0102

/-- Answer TDISP_ERROR; KEY_LAST_REFUSE keeps the code's low byte. -/
def State.tdispErr (s : State) (session code : Nat) : State :=
  (s.lastRefuse 5 (code % 256)).spdmSend session Spdm.VENDOR (by1 0x7F :: leBytes 4 code)

/-- A TDISP request about TDI `fn` in a session: VFs 1 to 127 of a Mount block. -/
def State.tdisp (s : State) (session fn : Nat) (f : State → State) : State :=
  s.inSession session 2 fun _ s =>
    if s.boot.post then s.spdmErr session Spdm.UnsupportedRequest
    else if fn = 0 ∨ 127 < fn then s.tdispErr session Tdisp.InvalidInterface
    else f s

/-- A request out of order: a locked or running TDI goes to ERROR (R391). -/
def State.tdispOrder (s : State) (session fn : Nat) : State := (s.tdiError fn).tdispErr session Tdisp.InvalidState

/-- GET_TDISP_VERSION, GET_TDISP_CAPABILITIES, GET_DEVICE_INTERFACE_STATE. -/
def execGetTdispVersion (session fn : Nat) (s : State) : Res :=
  guarded s.up s fun s => s.tdisp session fn fun s => s.spdmSend session Spdm.VENDOR [1, 1, 0x10]
def execGetTdispCapabilities (session fn : Nat) (s : State) : Res :=
  guarded s.up s fun s => s.tdisp session fn fun s =>
    let r := s.draw 1
    r.2.spdmSend session Spdm.VENDOR (by1 2 :: leBytes 8 (Config.free r.1).toNat)
def execGetDeviceInterfaceState (session fn : Nat) (s : State) : Res :=
  guarded s.up s fun s => s.tdisp session fn fun s => s.spdmSend session Spdm.VENDOR [5, by1 (s.tdi fn)]

/-- What LOCK_INTERFACE records for the interface report: the register BAR's pages and the doorbell pages, the provisioning, the RAT entries owned. -/
def State.tdiReport (s : State) (fn : Nat) : List Byte :=
  let prov := (List.range 9).flatMap fun k => leBytes 4 (s.reg ((Page.vf fn).base + 0x20 + 4 * k)).toNat
  let ents := ((List.range 256).filter fun k => (s.ratAt k).valid && (s.ratAt k).owner == fn).flatMap fun k =>
    let e := s.ratAt k
    leBytes 4 k ++ leBytes 8 e.w0.toNat ++ leBytes 8 e.w1.toNat ++ leBytes 8 e.w2.toNat ++ leBytes 8 e.w3.toNat
  leBytes 4 2 ++ leBytes 4 (s.vfRange fn .queue).2 ++ prov ++ ents

/-- LOCK_INTERFACE_REQUEST: a LIVE VF's TDI is locked, with a nonce; its provisioning and the RAT entries that it owns are recorded. -/
def State.opTdiLock (session fn : Nat) (s : State) : State :=
  if s.tdi fn ≠ 0 ∨ s.vstate fn ≠ 1 then s.tdispOrder session fn
  else
    let r := s.drawBytes 32
    let s := r.2.setTdi fn 1
    ({ s with trust := { s.trust with
        tdiNonce := SMap.set s.trust.tdiNonce fn r.1, tdiRec := SMap.set s.trust.tdiRec fn (s.tdiReport fn) } }).spdmSend session Spdm.VENDOR (by1 3 :: r.1)
def execLockInterfaceRequest (session fn : Nat) (_flags : Nat) (s : State) : Res :=
  guarded s.up s fun s => s.tdisp session fn (State.opTdiLock session fn)

/-- GET_DEVICE_INTERFACE_REPORT. -/
def State.opTdiReport (session fn off len : Nat) (s : State) : State :=
  if s.tdi fn ≠ 1 ∧ s.tdi fn ≠ 2 then s.tdispErr session Tdisp.InvalidState
  else
    let r := SMap.getD s.trust.tdiRec [] fn
    if r.length < off then s.tdispErr session Tdisp.InvalidRequest
    else
      let l := (r.drop off).take len
      s.spdmSend session Spdm.VENDOR (by1 4 :: leBytes 2 l.length ++ leBytes 2 (r.length - off - l.length) ++ l)
def execGetDeviceInterfaceReport (session fn off len : Nat) (s : State) : Res :=
  guarded s.up s fun s => s.tdisp session fn (State.opTdiReport session fn off len)

/-- START_INTERFACE_REQUEST: RUN, for the nonce of the lock. -/
def State.opTdiStart (session fn : Nat) (nonce : List Byte) (s : State) : State :=
  if s.tdi fn ≠ 1 then s.tdispOrder session fn
  else if SMap.find? s.trust.tdiNonce fn ≠ some nonce then s.tdispErr session Tdisp.InvalidNonce
  else (s.setTdi fn 2).spdmSend session Spdm.VENDOR [6]
def execStartInterfaceRequest (session fn : Nat) (nonce : List Byte) (s : State) : Res :=
  guarded s.up s fun s => s.tdisp session fn (State.opTdiStart session fn nonce)

/-- STOP_INTERFACE_REQUEST: CONFIG_UNLOCKED, and the VF quiesces; answered when QUIESCED. -/
def State.opTdiStop (session fn : Nat) (s : State) : State :=
  if s.tdi fn ≠ 2 ∧ s.tdi fn ≠ 3 then s.tdispOrder session fn
  else
    let s := s.setTdi fn 0
    let s := { s with trust := { s.trust with tdiNonce := SMap.erase s.trust.tdiNonce fn, tdiRec := SMap.erase s.trust.tdiRec fn, tdiStop := s.trust.tdiStop ++ [(fn, session)] } }
    if s.vstate fn = 1 ∨ s.vstate fn = 4 then s.startQuiesce fn
    else if s.vstate fn = 2 then s
    else s.stopAnswered fn
def execStopInterfaceRequest (session fn : Nat) (s : State) : Res :=
  guarded s.up s fun s => s.tdisp session fn (State.opTdiStop session fn)

end Sys2Proof.Machine
end

