-- ==== Sys2Proof/Machine/Power.lean ====
section
/-! DEFINITION. Clock gating (R27 to R32) and MR power (R28, R291, R505, R506). -/

namespace Sys2Proof.Machine

/-! ### Idle gating -/

/-- Does a window hold the cluster of a page slot ungated now (R31)? -/
def State.inWindow (s : State) (slot : Nat) : Bool := s.power.windows.any fun w => w.1 == slot && decide (s.dtNs < w.2)

/-- Has the cluster of a page slot work, a maintenance token, or a window (R31, R32)? -/
def State.clusterBusy (s : State) (slot : Nat) : Bool :=
  if s.inWindow slot then true
  else if slot < 0x30 then
    let c := s.chan (slot - 0x20)
    c.token.isSome || !c.reenc.isEmpty || !c.steps.isEmpty || (s.coh.waits ++ s.sync.held).any fun h => s.chOf h.off == slot - 0x20
  else if slot < 0x40 then s.redStripes (slot - 0x38) != 0
  else if slot < 0x80 then
    (s.gait.occs.any fun o => o.port == slot - 0x40) || !(s.looseOf (slot - 0x40)).isEmpty || !(s.link (slot - 0x40)).replay.isEmpty
  else
    (s.front.pkts.any fun e => e.2.queue / 1024 == slot - 0x600) || s.front.fetching.any fun e => e.1 / 1024 == slot - 0x600

/-- IDLE_TIMER_EXPIRY: a present cluster without work gates while CR_PWR_CTRL allows it. -/
def execIdleTimerExpiry (cluster : Nat) (s : State) : Res :=
  guarded (s.serving && s.rdb Page.cr Reg.CR_PWR_CTRL.AUTO_GATE_EN) s fun s =>
    match clusterAt cluster with
    | some c =>
      if s.targetAbsent c || s.clusterBusy cluster || s.gatedSlot cluster then s
      else { s with power := { s.power with gated := cluster :: s.power.gated } }
    | none => s

/-- CLUSTER_WAKE. -/
def execClusterWake (cluster : Nat) (s : State) : Res := guarded s.serving s fun s => s.wakeSlots [cluster]

/-! ### MR power -/

/-- Does a reply go to a compute port? -/
def Reply.toPort (r : Reply) : Bool :=
  match r with
  | .dcp _ _ _ => true
  | _ => false

/-- Has a compute port a request outstanding? -/
def State.dcpOutstanding (s : State) : Bool :=
  !s.fab.reqs.isEmpty || !s.coh.reqs.isEmpty || (s.coh.waits ++ s.sync.held).any (fun h => Reply.toPort h.reply)
    || s.fab.srcs.any fun e => e.2.ops.any fun o => Reply.toPort o.reply

/-- May MR go OFF (R28)? The Farrier's tokens go back when its pass pauses (R291). -/
def State.mrMayOff (s : State) : Bool :=
  !s.anyActive && !s.dcpOutstanding && s.chanList.all fun n => (s.chan n).token.isNone || (s.chan n).token == some .farrier

/-- A request for OFF: granted, or MR_OFF_REFUSED. -/
def State.askMrOff (s : State) : State :=
  if s.power.mrOff || s.power.mrGoingOff || s.power.mrWaking then s
  else if s.mrMayOff then
    let s := { s with power := { s.power with mrGoingOff := true } }
    s.chanList.foldl (fun s n => s.farSettle n) s
  else s.wr Page.cr Reg.CR_PWR_STATUS.MR_OFF_REFUSED 1

/-- The pin or the register asks for OFF (R506). -/
def State.mrOffAsked (s : State) : Bool := s.pins.mrOffReq || s.rdb Page.cr Reg.CR_PWR_CTRL.MR_OFF_REQ

/-- PS_MR_OFF_REQ rises, or a write sets CR_PWR_CTRL.MR_OFF_REQ. -/
def execMrOffReq (p : Option Party) (s : State) : Res :=
  match p with
  | none =>
    let s := { s with pins := { s.pins with mrOffReq := true } }
    guarded s.mount s State.askMrOff
  | some p => s.action p Page.cr fun s =>
    let s := s.wr Page.cr Reg.CR_PWR_CTRL.MR_OFF_REQ 1
    if s.mount then s.askMrOff else s

/-- MR_OFF_ENTERED: every pass is PAUSED and every re-encryption has finished; dirty blocks have been written back, the engine latches and the
cache are lost (R267, R291). -/
def State.opMrOff (s : State) : State :=
  if s.chanList.any fun n => (s.chan n).farState == 1 || !(s.chan n).reenc.isEmpty then s else
  let s := s.chanList.foldl (fun s n =>
    let s := s.writeBack n
    (s.setChan n { s.chan n with keyLoaded := false, keyNextLoaded := false, cached := [] }).wr (Page.mch n) Reg.MCH_STATUS.KEY_LOADED 0) s
  { s with
    power := { s.power with mrGoingOff := false, mrOff := true, gated := s.power.gated.filter fun k => !(0x20 ≤ k && k < 0x30) }
    outs := { s.outs with mrPwrEn := false, sleep := true } }
def execMrOffEntered (s : State) : Res := guarded (s.mount && s.power.mrGoingOff) s State.opMrOff

/-- MR_WAKE: the supply is asked for. -/
def execMrWake (s : State) : Res :=
  guarded (s.mount && s.power.mrOff && !s.power.mrWaking) s fun s =>
    { s with power := { s.power with mrWaking := true }, outs := { s.outs with mrPwrEn := true } }

/-- MR_SUPPLY_GOOD: SLEEP falls, the latches are loaded again, waiting requests for tokens are granted (R476), the cold walk is triggered, a
pass resumes. -/
def State.opMrGood (s : State) : State :=
  let s := { s with power := { s.power with mrOff := false, mrWaking := false }, outs := { s.outs with sleep := false } }
  let s := (s.chanList.foldl (fun s n => s.nextToken n) s.loadKeys).triggerWalk
  s.chanList.foldl (fun s n => s.farWake n) s
def execMrSupplyGood (s : State) : Res :=
  let s := { s with pins := { s.pins with mrPwrGood := true } }
  guarded (s.mount && s.power.mrWaking) s State.opMrGood

/-- MR_SUPPLY_LOSS: with the supply enabled, fatal-to-instance (R25, R291); the spec names no error bit for it. -/
def execMrSupplyLoss (s : State) : Res :=
  let s := { s with pins := { s.pins with mrPwrGood := false } }
  guarded (s.mount && s.outs.mrPwrEn && !s.power.mrWaking) s State.outOfService

end Sys2Proof.Machine
end

