-- ==== Sys2Proof/Machine/HostEnd.lean ====
section
/-! DEFINITION. What comes back over the host interface: completions, timeouts and the state of the link (R298, R492), and the DOE mailbox (R493). -/

namespace Sys2Proof.Machine

/-! ### Host reads -/

/-- A read of a packet fetch has brought data: with the last of the packet's reads the packet is whole, its pieces in the order of issue. -/
def State.fetchGot (s : State) (q tag : Nat) (data : List Byte) : State :=
  let s := { s with host := { s.host with got := s.host.got ++ [(q, tag, data)] } }
  if s.host.reads.any (fun e => e.2.1 == Use.FETCH && e.2.2.1 == q) then s
  else
    let first := SMap.getD s.front.fetching q 0
    let mine := (s.host.got.filter fun e => e.1 == q).mergeSort fun a b => (a.2.1 + 4096 - first) % 4096 ≤ (b.2.1 + 4096 - first) % 4096
    State.opFetched q true (mine.flatMap fun e => e.2.2) s

/-- A host read has ended: 0 success, 1 failure, 2 poisoned, as IN_STATUS has it (R491). A poisoned packet fetch is a failure (R298), and only
a COPY goes on with poisoned data (R436). -/
def State.readEnd (tag status : Nat) (data : List Byte) (s : State) : State :=
  match SMap.find? s.host.reads tag with
  | none => s
  | some (use, key, len) =>
    let s := { s with host := { s.host with reads := SMap.erase s.host.reads tag } }
    let status := if data.length = len then status else 1
    let ok := status == 0
    let s := if status = 1 then s else s.cnt 8 data.length
    if use = Use.FETCH then (if ok then s.fetchGot key tag data else State.opFetched key false [] s)
    else if use = Use.COPY then (if ok || status == 2 then s.moverGot key data (status == 2) else s.moverFailed key)
    else if use = Use.IMAGE then
      match s.pkt key with
      | none => s
      | some x => s.imageGot key x ok data
    else if use = Use.ANCHOR then s.anchorRead key ok data
    else if use = Use.LCREQ then s.lcRead key ok data
    else if use = Use.CERT then s.certGot ok data
    else if use = Use.MEAS then (s.measGot ok data).goReports
    else s

/-- HOST_COMPLETION. -/
def execHostCompletion (tag status : Nat) (data : List Byte) (s : State) : Res := guarded s.released s (State.readEnd tag status data)

/-- HOST_READ_TIMEOUT: 100 ms without a completion (R492). -/
def execHostReadTimeout (tag : Nat) (s : State) : Res := guarded s.released s (State.readEnd tag 1 [])

/-- HOST_LINK_DOWN: outstanding reads end as timeouts, and no request goes out (R492). -/
def execHostLinkDown (s : State) : Res :=
  let tags := s.host.reads.map Prod.fst
  let s := { s with pins := { s.pins with linkUp := false } }
  .next (if s.released then tags.foldl (fun s t => State.readEnd t 1 [] s) s else s)

/-- HOST_LINK_UP: what has waited goes out, in order. -/
def execHostLinkUp (s : State) : Res :=
  .next { s with pins := { s.pins with linkUp := true }, out := s.out ++ s.egress, egress := [] }

/-! ### The DOE mailbox (R493) -/

/-- The answer of DOE Discovery for an index: the block's three object types, then the end of the list. -/
def doeDiscovery (index : Nat) : W32 :=
  if index = 0 then 0x01000001
  else if index = 1 then 0x02010001
  else if index = 2 then 0x00020001
  else 0x0000FFFF

/-- DOE Control: abort, interrupt enable, go. -/
def State.doeControl (v : W32) (s : State) : State :=
  let s := { s with host := { s.host with doeIntEn := v.getLsbD 1 } }
  if v.getLsbD 0 then { s with host := { s.host with doeBusy := false, doeIn := [], doeOut := [], doeErr := false, doeIntStat := false } }
  else if !v.getLsbD 31 || s.host.doeBusy || s.host.doeErr then s
  else
    let l := s.host.doeIn
    let s := { s with host := { s.host with doeIn := [] } }
    let head := (l.headD 0).toNat % 2 ^ 24
    let len := (l.getD 1 0).toNat % 2 ^ 18
    if l.length < 3 || len ≠ l.length || !s.up then { s with host := { s.host with doeErr := true } }
    else if head = 0x000001 then
      let s := { s with host := { s.host with doeOut := [0x00000001, 3, doeDiscovery ((l.getD 2 0).toNat % 256)], doeIntStat := true } }
      if s.host.doeIntEn then s.emit (.msix 0 2046) else s
    else if head = 0x010001 || head = 0x020001 then { s with host := { s.host with doeBusy := true } }
    else s

/-- DOE Status. -/
def State.doeStatus (s : State) : W32 :=
  BitVec.ofNat 32 (b2n s.host.doeBusy + b2n s.host.doeIntStat * 2 + b2n s.host.doeErr * 4 + b2n (!s.host.doeOut.isEmpty) * 2 ^ 31)

/-- DOE_ACCESS at CFG_OFF 2 to 5: Control, Status, Write Data Mailbox, Read Data Mailbox. A write of the read mailbox takes the dword that it shows. -/
def execDoeAccess (off : Nat) (write : Bool) (v : W32) (s : State) : Res :=
  guarded s.released s fun s =>
    let h := s.host
    if write then
      match off with
      | 2 => s.doeControl v
      | 3 => if v.getLsbD 1 then { s with host := { h with doeIntStat := false } } else s
      | 4 => if h.doeBusy || h.doeErr then s else { s with host := { h with doeIn := h.doeIn ++ [v] } }
      | 5 => { s with host := { h with doeOut := h.doeOut.drop 1 } }
      | _ => s
    else
      s.emit (.cfgData (match off with
        | 2 => BitVec.ofNat 32 (b2n h.doeIntEn * 2)
        | 3 => s.doeStatus
        | 5 => h.doeOut.headD 0
        | _ => 0))

end Sys2Proof.Machine
end

