-- ==== Sys2Proof/Machine/Counters.lean ====
section
/-! DEFINITION. The CNT page (R426, R427) and the trace port (R424, R425). The live counters count where their events happen. -/

namespace Sys2Proof.Machine

/-- SNAP: every counter at this instant. -/
def State.opCntSnap (s : State) : State :=
  let p := Page.cnt
  let s := (List.range 64).foldl (fun s i => s.wrPair p Reg.CNT_i_LO.COUNT Reg.CNT_i_HI.COUNT (SMap.getD s.dbg.cnt 0 i) i) s
  (s.wrPair p Reg.CNT_SNAP_DT_LO.NS Reg.CNT_SNAP_DT_HI.NS s.dtNs).wr p Reg.CNT_STATUS.SNAP_DONE 1

/-- A write of a HLT, TRC or CNT register is ignored in confidential mode (R420). -/
def State.unlessConf (s : State) (f : State → State) : State := if s.conf then s else f s

def execCntSnap (p : Party) (s : State) : Res := s.action p Page.cnt fun s => s.unlessConf State.opCntSnap

/-- CLEAR: the live counters, not the captured ones. -/
def execCntClear (p : Party) (s : State) : Res :=
  s.action p Page.cnt fun s => s.unlessConf fun s => { s with dbg := { s.dbg with cnt := [] } }

/-! ### Trace -/

/-- May the security pair be traced (R419)? -/
def State.secTrace (s : State) : Bool := !s.conf && s.lcState != 2

/-- The sources that the port carries: 1 the service pair, 0 the security pair (R425). -/
def State.traceSources (s : State) : List Nat :=
  let src := s.rd Page.trc Reg.TRC_CTRL.SRC
  if !s.rdb Page.trc Reg.TRC_CTRL.EN || s.conf then []
  else (if src != 1 then [1] else []) ++ (if src != 0 && s.secTrace then [0] else [])

/-- What a write of TRC CTRL leaves: RUNNING, and the refusal of the security pair (R424). -/
def State.traceCtrl (s : State) : State :=
  let p := Page.trc
  let blocked := s.rdb p Reg.TRC_CTRL.EN && s.rd p Reg.TRC_CTRL.SRC != 0 && !s.secTrace
  let s := (s.wr p Reg.TRC_STATUS.RUNNING (b2n (!s.traceSources.isEmpty))).wr p Reg.TRC_STATUS.SEC_BLOCKED (b2n blocked)
  if blocked then s.err p Err.trc.SRC_REFUSED else s

/-- The SYNC of a source, and the TIME that follows it when TS_EN is set (R425). The PC is a free value. -/
def State.syncOf (s : State) (src : Nat) : State :=
  let r := s.draw 1
  let s := r.2.emit (.trace (leBytes 8 (1 + 2 ^ 4 * src + 2 ^ 8 * (Config.tracePc r.1).toNat)))
  if s.rdb Page.trc Reg.TRC_CTRL.TS_EN then s.emit (.trace (leBytes 8 (2 + 2 ^ 4 * src + 2 ^ 8 * (s.dtNs % 2 ^ 56)))) else s

/-- TRACE_SYNC: SYNC_PERIOD messages have been sent since the last SYNC. -/
def execTraceSync (s : State) : Res := guarded s.up s fun s => s.traceSources.foldl (fun s src => s.syncOf src) s

end Sys2Proof.Machine
end

