-- ==== Sys2Proof/Machine/Inject.lean ====
section
/-! DEFINITION. ERR_INJECT (R50): the block acts as if the named error had been detected, and tags its record as injected. What an error does
is what the operation that detects it does; where the injection names no unit for the error to act on, it produces the bit and its record, as
R324 and R350 say of theirs. -/

namespace Sys2Proof.Machine

/-- Run a command inside another operation. -/
def State.also (s : State) (f : State → Res) : State :=
  match f s with
  | .next t => t
  | _ => s

/-- What an injected error waits for, when the point that detects it lies ahead (R83, R233, R279): offsets and marks of a sealed port, the
acquisition of a parent, an edge of a time-port grandmaster, the servo, a calibration; the counter or block that it acts on. None: it acts now. -/
def State.awaits (s : State) (pg : Page) (b : Nat) : Option Nat :=
  let ports := (List.range s.ports ++ (List.range s.build.sibCount).map (· + 64)).filter s.marks
  let now := fun (c : Bool) => if c then some 0 else none
  match pg.fam with
  | .time =>
    match b with
    | 10 => now (ports.any s.sealedPort)
    | 11 => now (ports.any s.sealedPort)
    | 12 => now (s.timeState == 0 && !s.isGm)
    | 14 => now (s.isGm && s.rdb pg Reg.TIME_CTRL.SOURCE)
    | 15 => now !s.isGm
    | 17 => now (s.timeState == 0 && !s.isGm)
    | 18 => now (ports.any fun k => k < 64 && (s.ptime k).calMarks < 64)
    | _ => none
  | .hitch =>
    let hid := s.rd pg Reg.HITCH_SEL.HID
    if b = 13 && (s.ctr hid).valid then some hid else none
  | .mch =>
    let level := s.rd pg Reg.MCHn_TREE_SEL.LEVEL
    let code := blockCode level (s.rd pg Reg.MCHn_TREE_SEL.INDEX)
    if ([16, 17, 20].contains b && 1 ≤ level && level ≤ 2) || (b = 22 && 1 ≤ level) then some code else none
  | _ => none

/-- An error of the TIME page (R83): the reaction of R79 and R81 to a lost parent or grandmaster. -/
def State.injTime (s : State) (b : Nat) : State :=
  match b with
  | 8 => if s.timeState = 2 && !s.isGm then s.toHoldover else s
  | 9 => if s.timeState = 2 && !s.isGm then s.gmApart else s.also execGmLost
  | 13 => s.also execPpsLost
  | 16 => s.also execHoldoverExpired
  | 19 => s.also (execTbCheckMismatch true)
  | _ => s

/-- An error of page LPTn (R133). -/
def State.injLpt (s : State) (n b : Nat) : State :=
  let p := Page.lpt n
  let i : ErrInfo := { place := n, placeKind := 5 }
  match b with
  | 8 => if s.portUp n then ((s.inc p Reg.LPTn_TAG_FAIL_COUNT.COUNT).err p b i).beginRetry n 1 else s
  | 9 => if s.portUp n then (s.fecBad n).beginRetry n 2 else s
  | 10 => if s.portUp n then (s.err p b i).enterRetrain n else s
  | 11 => if s.lstate n = 1 ∨ s.lstate n = 4 then s.trainFail n 5 else s
  | 12 => s.darken n 1
  | 13 => if s.portUp n then (s.setLink n { s.link n with stalled := true }).err p b i else s
  | 14 => s.dropCtl n
  | 15 => s.stray n
  | 16 => s.badFrame n
  | 17 => s.also (execReplayCheck n)
  | 19 => s.clusterOut (16 + n) false
  | _ => s

/-- An error of page MCHn (R258, R293). -/
def State.injMch (s : State) (n b : Nat) : State := if b = 11 then s.pipeFault n else s

/-- The context whose entries a STATE_CHECK loses: that of the oldest direct or sync request, else of a gateway operation (R206). -/
def State.gwVictim (s : State) : Option Nat :=
  match s.fab.reqs with
  | r :: _ => some r.ctx
  | [] => (s.fab.srcs.find? fun e => !e.2.ops.isEmpty).map fun e => e.1 % 4096

/-- An error of the GW page. -/
def State.injGw (s : State) (b : Nat) : State :=
  match b with
  | 13 => s.also execPlaneSetChange
  | 14 => (s.gwVictim.map s.stateCheck).getD s
  | _ => s

/-- CMB_CHECK (R210): the oldest entry is freed, and its requesters hear no more. -/
def State.injCmb (s : State) (b : Nat) : State :=
  match s.cmb.entries with
  | e :: _ => if b = Err.cmb.CMB_CHECK then (s.dropEntry e.1).err Page.cmb b else s
  | [] => s

/-- The oldest stored packet of the queue that FE_Q_SEL names completes with FAULT, and the queue stops (R324). -/
def State.injStore (s : State) : State :=
  let q := s.rd Page.fe Reg.FE_Q_SEL.Q
  match (s.pktsOf q).foldl (fun o e => match o with
    | none => some e
    | some x => if pktKey e < pktKey x then some e else some x) none with
  | none => s
  | some e =>
    let s := s.err Page.fe Err.fe.STORE_CHECK { fn := e.2.fn, place := q, placeKind := 4 }
    (s.cancelPkt e.1 St.FAULT).stopQueue q St.FAULT

/-- An error of the FE page (R324). -/
def State.injFe (s : State) (b : Nat) : State :=
  let slice := s.rd Page.fe Reg.FE_Q_SEL.Q / 1024
  match b with
  | 11 => match (List.range 64).find? fun k => (s.seq k).present with
    | some k => s.also (execHbLost k)
    | none => s
  | 13 => s.injStore
  | 14 => if s.sliceOk slice then s.sliceOut slice else s
  | _ => s

/-- An error of the CTXS or FNS page: the slot of the selected context or fence, when resident (R350, R352). -/
def State.injCtxs (s : State) (b : Nat) : State :=
  let c := s.rd Page.ctxs Reg.CTXS_QSEL.CTX
  if b = 10 && s.objs.slots.any (fun x => x.ctx == c) then
    (s.err Page.ctxs b { ctx := some c, fn := s.ctxFn c }).ctxLost c St.FAULT
  else s
def State.injFns (s : State) (b : Nat) : State :=
  let f := s.rd Page.fns Reg.FNS_SEL.FENCE
  if b = 11 && s.objs.fences.any (fun x => x.fence == f) then
    (s.err Page.fns b { place := f, placeKind := 6 }).errorFence f 0x05
  else s

/-- An error of the ERR page (R454). -/
def State.injErr (s : State) (b : Nat) : State :=
  let p := Page.err
  match b with
  | 14 => if s.mount then (s.err p b).hang else s
  | 15 => if s.mount then (s.err p b).hang else s
  | 18 => s.also execLockstepSvcMismatch
  | 19 => s.also execLockstepSecMismatch
  | _ => s

/-- The operation that detects error `b` of a page acts, where it has something to act on. -/
def State.detected (s : State) (pg : Page) (b : Nat) : State :=
  match pg.fam with
  | .time => s.injTime b
  | .gait => if b = 9 ∧ s.swapState = 2 then (s.setSwap 3).err pg b else s
  | .lpt => s.injLpt pg.idx b
  | .red => if b = 9 then s.redFault pg.idx else s
  | .gw => s.injGw b
  | .cmb => s.injCmb b
  | .coh => if b = 9 ∧ s.rdb pg Reg.COH_STATUS.ACTIVE ∧ ¬ s.rdb pg Reg.COH_STATUS.FLUSHING then (s.err pg b).flushHerd false else s
  | .mch => s.injMch pg.idx b
  | .fe => s.injFe b
  | .ctxs => s.injCtxs b
  | .fns => s.injFns b
  | .key => if b = 9 then s.zeroise.emit .koZeroize else s
  | .ccip =>
    if b = 12 then s.engineOut
    else if b = 13 ∧ (s.ccipAt pg.idx).running then (s.err pg b).jobEnd pg.idx 7 0 0 else s
  | .err => s.injErr b
  | _ => s

/-- An injected error acts now: whatever acts, the bit and a record follow; an error fatal to the instance takes it out of service (R50). -/
def State.injectNow (s : State) (pg : Page) (b : Nat) : State :=
  let e := pg.base + hdrErrStatus
  let was := s.reg e
  let s := { s.setReg e (was &&& ~~~BitVec.ofNat 32 (2 ^ b)) with faults := { s.faults with injected := true } }
  let s := s.detected pg b
  let s := if (s.reg e).getLsbD b then s else s.raise pg b
  s.untag

/-- Inject error `b` of a page: at the point that detects it, where that lies ahead, else now (R50). -/
def State.injectBit (pg : Page) (s : State) (b : Nat) : State :=
  if s.istate = 3 then s else
  match s.awaits pg b with
  | some on => s.armErr pg b on
  | none => s.injectNow pg b

/-- A write of ERR_INJECT. -/
def State.inject (s : State) (pg : Page) (v : W32) : State :=
  if s.conf || s.lcState == 4 then s
  else ((pg.fam.errBits.map Prod.fst).filter fun b => 8 ≤ b && v.getLsbD b).foldl (State.injectBit pg) s

/-- ERR_INJECT_WRITE. -/
def execErrInjectWrite (p : Party) (slot : Nat) (v : W32) (s : State) : Res :=
  match Page.ofSlot slot with
  | none => .next s
  | some pg => s.action p pg fun s => s.inject pg v

end Sys2Proof.Machine
end

