-- ==== Sys2Proof/Machine/Registers.lean ====
section
/-! DEFINITION. The register window (R9, R37 to R53, R507): who reaches a register, access sizes, the latches of register pairs (R42), what a
write stores, and what it makes happen. A write that has a command of its own does what that command does. -/

namespace Sys2Proof.Machine

/-! ### Register pairs (R41, R42) -/

/-- The pairs of a family: offset of the first _LO register, how many, their distance, and whether page 0 alone holds them. -/
def Fam.pairs : Fam → List (Nat × Nat × Nat × Bool)
  | .time => [(0x20, 1, 0, false), (0x48, 1, 0, false), (0x50, 1, 0, false)]
  | .gait => [(0x20, 1, 0, false), (0x40, 1, 0, false)]
  | .lpt => [(0x30, 1, 0, false)]
  | .red => [(0x28, 1, 0, false)]
  | .cmb => [(0x600, 96, 8, false)]
  | .hitch => [(0x38, 1, 0, false)]
  | .mch => [(0x30, 1, 0, false), (0x38, 1, 0, false), (0x108, 1, 0, false), (0x204, 1, 0, false), (0x210, 1, 0, false), (0x28C, 1, 0, true), (0x294, 1, 0, true)]
  | .fe => [(0x24, 1, 0, false), (0x30, 1, 0, false), (0x38, 1, 0, false), (0x50, 1, 0, false), (0x60, 1, 0, false)]
  | .ctxs => [(0x20, 1, 0, false), (0x28, 1, 0, false)]
  | .fns => [(0x20, 1, 0, false), (0x30, 1, 0, false)]
  | .vf => [(0x60, 1, 0, false), (0x6C, 1, 0, false), (0x74, 1, 0, false)]
  | .key => [(0x2C, 1, 0, false), (0x38, 1, 0, false), (0x58, 1, 0, false)]
  | .lcs => [(0x20, 1, 0, false), (0x28, 1, 0, false), (0x38, 1, 0, false)]
  | .bst => [(0x2C, 1, 0, false), (0x100, 32, 8, false)]
  | .cr => [(0x28, 1, 0, false)]
  | .cnt => [(0x20, 1, 0, false), (0x100, 64, 8, false)]
  | _ => []

/-- Does the pair's lower half lie at offset `off` of page `pg`? -/
def pairHas (pg : Page) (off : Nat) (e : Nat × Nat × Nat × Bool) : Bool :=
  e.1 ≤ off && (if e.2.1 ≤ 1 then off == e.1 else (off - e.1) % e.2.2.1 == 0 && (off - e.1) / e.2.2.1 < e.2.1) && (!e.2.2.2 || pg.idx == 0)

/-- Is the register the lower half, the upper half, of a pair? -/
def isLo (pg : Page) (off : Nat) : Bool := pg.fam.pairs.any (pairHas pg off)
def isHi (pg : Page) (off : Nat) : Bool := 4 ≤ off && isLo pg (off - 4)

/-- A party's number among the latches of a page. -/
def Party.no (p : Party) : Nat :=
  match p with
  | .pf => 0
  | .sec => 1
  | .svc => 2
  | .halter => 3
  | .vf n => 16 + n

/-- The latches of a party on a page. -/
def latchKey (p : Party) (pg : Page) : Nat := pg.base / 0x1000 * 1024 + Party.no p
def State.latch (s : State) (p : Party) (pg : Page) : Latch := SMap.getD s.latches Latch.empty (latchKey p pg)
def State.setLatch (s : State) (p : Party) (pg : Page) (x : Latch) : State :=
  { s with latches := SMap.put s.latches Latch.empty (latchKey p pg) x }

/-! ### Who reaches what (R39, R358, R395, R400, R428) -/

/-- The page and offset that an address names: an offset in the window, or for a VF an offset in its register BAR. -/
def target (p : Party) (addr : Nat) : Option (Page × Nat) :=
  match p with
  | .vf n => if addr < 0x1000 then some (Page.ver, addr) else if addr < 0x2000 then some (Page.vf n, addr - 0x1000) else none
  | _ => (Page.ofSlot (addr / 0x1000)).map fun pg => (pg, addr % 0x1000)

/-- Does a VF's BAR read zero and ignore writes: in OFF (R358) and FLR_HELD (R359)? -/
def State.barDead (s : State) (p : Party) : Bool :=
  match p with
  | .vf n => s.vstate n == 0 || s.vstate n == 4
  | _ => false

/-- May a party read a register? -/
def State.readOk (s : State) (p : Party) (pg : Page) (off : Nat) : Bool :=
  mayRead p pg && (pg.fam != .ccip || off < 0x20 || ownerMay p (s.rd pg Reg.CCIP_OWNER.OWNER))

/-- May a party write a register? -/
def State.writeOk (s : State) (p : Party) (pg : Page) (off : Nat) : Bool :=
  mayWrite p pg &&
  match pg.fam with
  | .key => p != .pf || [0x08, 0x2C, 0x30, 0x34, 0x38, 0x3C, 0x40, 0x44].contains off
  | .lcs => p != .pf || [0x08, 0x38, 0x3C].contains off
  | .ccip => if off = 0x20 then p == .sec else ownerMay p (s.rd pg Reg.CCIP_OWNER.OWNER)
  | .vf => off != 8 || !(p == .vf pg.idx)
  | _ => true

/-- Note a write that a page in reset discards (R44). -/
def State.lostWrite (s : State) (pg : Page) : State :=
  { s with boot := { s.boot with wrInReset := (pg.base / 0x1000) :: s.boot.wrInReset } }

/-- An access beyond the header of a gated page wakes its cluster (R44). -/
def State.wakeFor (s : State) (pg : Page) (off : Nat) : State := if off < 0x20 then s else s.wakeSlots [pg.base / 0x1000]

/-! ### Reads -/

/-- A register as a party reads it: the window of a busy control-cipher page reads zero (R406). -/
def State.show (s : State) (pg : Page) (off : Nat) : W32 :=
  if pg.fam == .ccip && 0x800 ≤ off && s.ccipBusy pg.idx then 0 else s.look pg off

/-- One 32-bit read, with the party's read latch (R42). TIME_NOW_FRAC shows what the last read of TIME_NOW_LO captured. -/
def State.read32 (s : State) (p : Party) (pg : Page) (off : Nat) : W32 × State :=
  let v := s.show pg off
  if !s.pageUp pg then (v, s)
  else if isLo pg off then
    let l := s.latch p pg
    let frac := if pg.fam == .time && off == 0x20 then s.dt % 256 else l.frac
    (v, s.setLatch p pg { l with rd := some (off, s.show pg (off + 4)), frac := frac })
  else if isHi pg off then
    let l := s.latch p pg
    match l.rd with
    | some (o, h) => if o = off - 4 then (h, s.setLatch p pg { l with rd := none }) else (v, s)
    | none => (v, s)
  else if pg.fam == .time && off == 0x28 then (w32 (s.latch p pg).frac, s)
  else (v, s)

/-- A read that the party has no right to, or of a wrong form: zero, and the error in a page in service. -/
def State.noRead (s : State) (pg : Page) (b : Nat) : Nat × State := (0, if s.pageUp pg then s.err pg b else s)

/-- A 32-bit read of a register within the party's reach (R39). -/
def State.read32By (s : State) (p : Party) (pg : Page) (off : Nat) : Nat × State :=
  if !s.readOk p pg off then s.noRead pg Err.PRIV else
  let r := s.read32 p pg off
  (r.1.toNat, r.2)

/-- A read of `size` bytes at an offset (R41): its value, the state after it. A 64-bit read of two registers is two reads. -/
def State.readSized (s : State) (p : Party) (pg : Page) (off size : Nat) : Nat × State :=
  if size = 4 ∧ off % 4 = 0 then s.read32By p pg off
  else if size = 8 ∧ off % 4 = 0 ∧ isLo pg off = true then
    if !s.readOk p pg off then s.noRead pg Err.PRIV else ((s.show pg off).toNat + 2 ^ 32 * (s.show pg (off + 4)).toNat, s)
  else if size = 8 ∧ off % 8 = 0 then
    let a := s.read32By p pg off
    let b := a.2.read32By p pg (off + 4)
    (a.1 + 2 ^ 32 * b.1, b.2)
  else if !s.readOk p pg off then s.noRead pg Err.PRIV
  else s.noRead pg Err.BAD_ACCESS

/-- A read by a party: an absent page reads zero (R4), as do a dead BAR and a page in reset (R44); a register outside the party's reach is
a privilege fault. -/
def State.readAt (s : State) (p : Party) (addr size : Nat) : Nat × State :=
  match target p addr with
  | none => (0, s)
  | some (pg, off) =>
    if !s.present pg || s.barDead p then (0, s)
    else (if s.readOk p pg off then s.wakeFor pg off else s).readSized p pg off size

/-- Read and answer. -/
def State.readReg (s : State) (p : Party) (addr size : Nat) : State :=
  if !s.released then s else
  let r := s.readAt p addr size
  r.2.emit (.regData p (BitVec.ofNat 64 r.1))

/-! ### What a write stores -/

/-- The value that a field stores for a written one, none for a reserved encoding (R53). -/
def Store.of (x : Store) (v : Nat) : Option Nat :=
  match x with
  | .asIs => some v
  | .clamp lo hi => some (max lo (min hi v))
  | .els lo hi d => some (if lo ≤ v ∧ v ≤ hi then v else d)
  | .rsvd lo hi => if lo ≤ v ∧ v ≤ hi then some v else none

/-- What a write of a word does so far: the word, whether a locked field would have changed, whether a reserved encoding was written. -/
structure Stored where
  word : W32
  viol : Bool
  rsvd : Bool
  deriving DecidableEq, Repr

/-- One field of a written word (R9, R51, R53). -/
def Field.put (f : Field) (locked : Bool) (v : W32) (x : Stored) : Stored :=
  let n := fieldOf v f.lo f.w
  let old := fieldOf x.word f.lo f.w
  match f.acc with
  | .ro => x
  | .wo => x
  | .w1c => { x with word := withField x.word f.lo f.w (old &&& (2 ^ f.w - 1 - n)) }
  | .rw =>
    match f.store.of n with
    | some k => { x with word := withField x.word f.lo f.w k }
    | none => { x with rsvd := true }
  | .rwl =>
    match f.store.of n with
    | some k => if locked then { x with viol := x.viol || k != old } else { x with word := withField x.word f.lo f.w k }
    | none => { x with rsvd := true }

/-- Write words of a page by the access types of their fields. LOCK_VIOL and RSVD_VALUE count once. -/
def State.putWords (s : State) (pg : Page) (l : List (Nat × W32)) : State :=
  let xs := l.map fun e =>
    (e.1, (pg.fam.fields.filter fun f => f.hits pg.idx e.1).foldl (fun x f => f.put (s.locked pg) e.2 x)
      ({ word := s.reg (pg.base + e.1), viol := false, rsvd := false } : Stored))
  let t := xs.foldl (fun s e => s.setReg (pg.base + e.1) e.2.word) s
  let t := if xs.any (fun e => e.2.viol) then t.err pg Err.LOCK_VIOL else t
  if xs.any (fun e => e.2.rsvd) then t.err pg Err.RSVD_VALUE else t

/-- Write one word. -/
def State.putWord (s : State) (pg : Page) (off : Nat) (v : W32) : State := s.putWords pg [(off, v)]

/-- The bits of a page's error registers: the common ones and the page's own (R48). -/
def errBits (pg : Page) : W32 := BitVec.ofNat 32 (((pg.fam.errBits.map Prod.fst).foldl (fun a b => a ||| 2 ^ b) 0) ||| 0x1F)

/-! ### What a write makes happen -/

/-- VER_SW_ARCH (R57, R58): the negotiation; queues held for it are let go. -/
def State.opSwArch (v : W32) (s : State) : State :=
  let p := Page.ver
  if s.negotiated then s.err p Err.LOCK_VIOL
  else
    let s := s.putWord p 0x50 v
    if fieldOf v 8 8 = 0 then s
    else
      let s := ((s.wr p Reg.VER_NEG.MINOR 0).wr p Reg.VER_NEG.MAJOR 1).wr p Reg.VER_NEG.VALID 1
      { s with front := { s.front with queues := s.front.queues.map fun e => (e.1, Queue.settle { e.2 with negHold := false }) } }

/-- ERR_REC_RPTR (R438, R439): host software has read up to it; the next message goes out when a record that calls for one is unread. -/
def State.opRecRptr (v : W32) (s : State) : State :=
  let n := fieldOf v 0 16
  if (n + 65536 - s.recRptr) % 65536 > s.unread then s.err Page.err Err.RSVD_VALUE
  else
    let s := (s.wr Page.err Reg.ERR_REC_RPTR.RPTR n).showUnread
    let s := { s with faults := { s.faults with msgOut := false } }
    match (s.unreadNos.filterMap fun w => s.recAt w).foldl (fun (m : Option Nat) r => some (max (m.getD 0) r.sev)) none with
    | some sev => s.errVec sev
    | none => s

/-- A register that starts one command per write (R507): `l` are its commands by bit. -/
def State.oneCommand (s : State) (pg : Page) (v : W32) (l : List (State → Res)) : State :=
  match (l.zipIdx.filter fun e => v.getLsbD e.2).map Prod.fst with
  | [] => s
  | [f] => s.also f
  | _ => s.err pg Err.RSVD_VALUE

/-- A register whose bits each start an action. -/
def State.commands (s : State) (v : W32) (l : List (State → Res)) : State :=
  (l.zipIdx.filter fun e => v.getLsbD e.2).foldl (fun s e => s.also e.1) s

/-- A write of the PF to CR_PWR_CTRL: AUTO_GATE_EN 0 keeps every cluster ON; a rise of MR_OFF_REQ asks for OFF, its fall for ON (R28, R35). -/
def State.opPwrCtrl (p : Party) (v : W32) (s : State) : State :=
  let was := s.rdb Page.cr Reg.CR_PWR_CTRL.MR_OFF_REQ
  let s := s.putWord Page.cr 0x20 v
  let s := if s.rdb Page.cr Reg.CR_PWR_CTRL.AUTO_GATE_EN then s else { s with power := { s.power with gated := [] } }
  let now := s.rdb Page.cr Reg.CR_PWR_CTRL.MR_OFF_REQ
  if !was && now then s.also (execMrOffReq (some p))
  else if was && !now then
    let s := s.wr Page.cr Reg.CR_PWR_STATUS.MR_OFF_REFUSED 0
    if s.mrOffAsked then s
    else if s.power.mrGoingOff then
      let s := { s with power := { s.power with mrGoingOff := false } }
      s.chanList.foldl (fun s n => (s.nextToken n).farWake n) s
    else s.also execMrWake
  else s

/-- LPT_CTRL of a port. -/
def State.opLptCtrl (p : Party) (n : Nat) (v : W32) (s : State) : State :=
  let on := s.rdb (Page.lpt n) Reg.LPT_CTRL.ENABLE
  let s := if v.getLsbD 0 then s.wr (Page.lpt n) Reg.LPT_CTRL.ENABLE 1 else if on then s.also (execPortDisable p n) else s
  s.commands (v >>> 1) [execRetrain p n, execGoDark p n, execRekeyNow p n, execPdnClear p n]

/-- MCH_CTRL of a channel: FAR_START is the action of channel 0. -/
def State.opMchCtrl (p : Party) (n : Nat) (v : W32) (s : State) : State :=
  let was := s.rdb (Page.mch n) Reg.MCH_CTRL.FAR_PAUSE
  let s := s.putWord (Page.mch n) 8 (withField v 17 1 (b2n was))
  let s := if v.getLsbD 17 && !was then s.also (execFarPause p n) else if !v.getLsbD 17 && was then s.also (execFarResume p n) else s
  if v.getLsbD 16 && n == 0 then s.also (execFarStart p) else s

/-- TIME_CTRL: clearing STEER_EN holds the block FREE (R79). -/
def State.opTimeCtrl (p : Party) (v : W32) (s : State) : State :=
  let was := s.rd Page.time Reg.TIME_CTRL.STEER_EN
  let s := s.putWord Page.time 8 (withField v 0 1 (if was = 0 then fieldOf v 0 1 else 1))
  if was ≠ 0 ∧ ¬ v.getLsbD 0 then s.also (execSteerDisable p) else s

/-- A control-cipher page (R400, R401, R406): while the page is busy, its window, CCIP_OP, CCIP_LEN, START and key requests are refused. -/
def State.opCcipWrite (p : Party) (n off : Nat) (v : W32) (s : State) : State :=
  let pg := Page.ccip n
  if off = 8 then s.commands v [execCcipStart p n, execCcipAbort p n]
  else if off = 0x24 then s.keyReqWord n v
  else if off = 0x20 then
    if fieldOf v 0 2 = 3 then s.err pg Err.RSVD_VALUE else s.putWord pg off v
  else if s.ccipBusy n && (off == 0x30 || off == 0x34 || 0x800 ≤ off) then s.err pg Err.ccip.BUSY_ACCESS
  else s.putWord pg off v

/-- HLT, TRC and CNT registers (R423, R424, R427). EN of Halter stays 0 until block reset. -/
def State.opDebugWrite (p : Party) (pg : Page) (off : Nat) (v : W32) (s : State) : State :=
  if off ≠ 8 then s.putWord pg off v
  else match pg.fam with
    | .hlt =>
      let en := s.rdb pg Reg.HLT_CTRL.EN
      let s := s.putWord pg off (if en then v else v &&& ~~~1)
      if s.rdb pg Reg.HLT_CTRL.EN then s else { s with dbg := { s.dbg with lcLines := [], lcWant := false } }
    | .trc => (s.putWord pg off v).traceCtrl
    | _ => s.commands v [execCntSnap p, execCntClear p]

/-- The COH configuration may be written only while the herd is off (R207). -/
def State.opCohWrite (p : Party) (off : Nat) (v : W32) (s : State) : State :=
  let pg := Page.coh
  if off = 8 then (if v.getLsbD 0 then s.also (execCohEnable p) else s.also (execCohDisable p))
  else if (s.rdb pg Reg.COH_CTRL.EN || s.rdb pg Reg.COH_STATUS.ACTIVE) && pg.fam.fields.any (fun f => f.acc == .rwl && f.hits 0 off) then
    s.err pg Err.coh.CFG_REFUSED
  else s.putWord pg off v

/-- ERR_SUSPECT_CMD and ERR_TRIAGE_CMD (R440, R448): ACTION 0 is a reserved encoding. -/
def State.opSuspectCmd (p : Party) (v : W32) (s : State) : State :=
  let i := fieldOf v 0 11
  match fieldOf v 11 2 with
  | 0 => s.err Page.err Err.RSVD_VALUE
  | 1 => s.also (execSuspectReplay p i)
  | 2 => s.also (execSuspectFail p i)
  | _ => s.also (execSuspectDrop p i)
def State.opTriageCmd (p : Party) (v : W32) (s : State) : State :=
  match fieldOf v 0 2 with
  | 0 => s.err Page.err Err.RSVD_VALUE
  | 1 => s.also (execTriageRetire p)
  | 2 => s.also (execTriageRebuild p)
  | _ => s.also (execTriageLeave p)

/-- A committed write of one register of a page, outside the header's error and lock registers. -/
def State.writeReg1 (s : State) (p : Party) (pg : Page) (off : Nat) (v : W32) : State :=
  let n := pg.idx
  match pg.fam with
  | .ver => if off = 0x50 then s.opSwArch v else s.putWord pg off v
  | .func => s.putWord pg off (if off = 0x20 && s.boot.post then v &&& ~~~0x10B else v)
  | .cr => if off = 0x20 then s.opPwrCtrl p v else s.putWord pg off v
  | .key =>
    if off = 8 then s.commands v [execEndSessions p] else if off = 0x44 then s.commands v [execKeyHaDone p] else s.putWord pg off v
  | .lcs => if off = 8 then s.commands v [execLcsExport p] else s.putWord pg off v
  | .time => if off = 8 then s.opTimeCtrl p v else s.putWord pg off v
  | .hlt => s.opDebugWrite p pg off v
  | .trc => s.opDebugWrite p pg off v
  | .cnt => s.opDebugWrite p pg off v
  | .bst => if off = 8 then s.commands v [execBistRun p, execBistAbort p, execBurn p, execHoldLock p] else s.putWord pg off v
  | .err =>
    if off = 8 then s.commands v [execInstReset p, execCrstNow p]
    else if off = 0x3C then s.opRecRptr v
    else if off = 0x54 then s.opSuspectCmd p v
    else if off = 0x60 then s.opTriageCmd p v else s.putWord pg off v
  | .ccip => s.opCcipWrite p n off v
  | .mch =>
    if off = 8 then s.opMchCtrl p n v
    else if off = 0x114 then s.oneCommand pg v [execRebuild p n, execRetire p n, execWalk p n]
    else if off = 0x20C then s.also (execFarGrant p n v)
    else if off = 0x400 ∧ n = 0 then s.also (execMchLinePagesWrite p v)
    else if off = 0x414 ∧ n = 0 then s.oneCommand pg v [execRatCmdWrite p, execRatCmdRead p] else s.putWord pg off v
  | .gait =>
    if off = 8 then (if v.getLsbD 0 then s.also (execArm p) else s.also (execArmClear p))
    else if off = 0x3C then s.oneCommand pg v [execGo p, execAbandon p] else s.putWord pg off v
  | .gw => s.putWord pg off v
  | .coh => s.opCohWrite p off v
  | .cmb =>
    if off = 0x20 ∧ p = .pf ∧ s.locked pg = false ∧ fieldOf v 13 2 ≠ 3 then (s.putWord pg off v).wr pg Reg.CMB_STATUS.STATION_VALID 1
    else s.putWord pg off v
  | .hitch =>
    if off = 0x24 then s.oneCommand pg v [execHitchCmdWrite p, execHitchCmdRead p, execHitchClear p, execMemberSet p] else s.putWord pg off v
  | .red =>
    if off = 0x44 ∧ n = 0 then s.oneCommand pg v [execRedDescWrite p, execRedDescRead p, execRedDescInvalidate p, execResetRoot p]
    else s.putWord pg off v
  | .lpt => if off = 8 then s.opLptCtrl p n v else s.putWord pg off v
  | .fe =>
    if off = 0x2C then s.also (execKqEnable p 0 v) else if off = 0x5C then s.also (execRingUnbind p (fieldOf v 0 8)) else s.putWord pg off v
  | .ctxs =>
    if off = 0x34 then s.commands v [execSnap p] else if off = 0x3C then s.also (execCtxsObjKick p (fieldOf v 0 18))
    else if off = 0x44 then s.commands v [execCtxsTdDone p] else s.putWord pg off v
  | .fns =>
    if off = 0x2C then s.commands v [execFnsRead p] else if off = 0x44 then s.also (execFnsEvict p (fieldOf v 0 16)) else s.putWord pg off v
  | .vf =>
    if off = 8 then s.commands v [execQuiesce p n, execVfRelease p n]
    else if off = 0x68 ∧ n ≠ 0 then s.also (execKqEnable p n v)
    else if off = 0x114 ∧ n = 0 then s.commands v [execVfHaDone p]
    else if n = 0 ∧ 0x20 ≤ off ∧ off < 0x7C then s else s.putWord pg off v

/-- What host software's write of a pair marks as written: a table base that is now set (R325). -/
def State.pairMark (s : State) (p : Party) (pg : Page) (lo : Nat) : State :=
  if p != .pf then s else
  match pg.fam, lo with
  | .ctxs, 0x20 => if s.locked pg then s else { s with objs := { s.objs with ctxBaseSet := true } }
  | .ctxs, 0x28 => if s.locked pg then s else { s with objs := { s.objs with objBaseSet := true } }
  | .fns, 0x20 => if s.locked pg then s else { s with objs := { s.objs with fenceBaseSet := true } }
  | _, _ => s

/-- Pages whose RW and RWL registers and CTRL confidential mode freezes (R420). -/
def State.frozen (s : State) (pg : Page) : Bool := s.conf && (pg.fam == .hlt || pg.fam == .trc || pg.fam == .cnt)

/-- One committed 32-bit write: the error registers and LOCK of the header (R48 to R51), or the register's own. -/
def State.commit (s : State) (p : Party) (pg : Page) (off : Nat) (v : W32) : State :=
  let a := pg.base + off
  if (s.frozen pg && off != hdrErrStatus) || s.absentReg pg off then s
  else if off = hdrErrStatus then s.setReg a (s.reg a &&& ~~~v)
  else if off = hdrErrMask then s.setReg a (v &&& errBits pg)
  else if off = hdrErrInject then s.inject pg v
  else if off = hdrLock then (if v.getLsbD 0 then s.setReg a 1 else s)
  else s.writeReg1 p pg off v

/-- Both halves of a pair at once. Pairs hold plain fields; those of page VF0 below 0x07C read zero (R362). -/
def State.commitPair (s : State) (p : Party) (pg : Page) (lo : Nat) (l h : W32) : State :=
  if pg = Page.vf 0 then s
  else if s.frozen pg then s
  else (s.putWords pg [(lo, l), (lo + 4, h)]).pairMark p pg lo

/-- One 32-bit write, with the party's write latch (R42). -/
def State.write32 (s : State) (p : Party) (pg : Page) (off : Nat) (v : W32) : State :=
  if isLo pg off then s.setLatch p pg { s.latch p pg with wr := some (off, v) }
  else if isHi pg off then
    let l := s.latch p pg
    match l.wr with
    | some (o, x) =>
      if o = off - 4 then (s.setLatch p pg { l with wr := none }).commitPair p pg o x v else (s.commit p pg off v).pairMark p pg (off - 4)
    | none => (s.commit p pg off v).pairMark p pg (off - 4)
  else s.commit p pg off v

/-- A 32-bit write of a register within the party's reach (R39). -/
def State.write32By (s : State) (p : Party) (pg : Page) (off : Nat) (v : W32) : State :=
  if s.writeOk p pg off then (s.wakeFor pg off).write32 p pg off v else s.err pg Err.PRIV

/-- A write of `size` bytes at an offset (R41). A 64-bit write of two registers is two writes. -/
def State.writeSized (s : State) (p : Party) (pg : Page) (off size : Nat) (v : W64) : State :=
  let lo : W32 := v.setWidth 32
  let hi : W32 := (v >>> 32).setWidth 32
  if size = 4 ∧ off % 4 = 0 then s.write32By p pg off lo
  else if size = 8 ∧ off % 4 = 0 ∧ isLo pg off = true then
    if s.writeOk p pg off then (s.wakeFor pg off).commitPair p pg off lo hi else s.err pg Err.PRIV
  else if size = 8 ∧ off % 8 = 0 then (s.write32By p pg off lo).write32By p pg (off + 4) hi
  else if s.writeOk p pg off then (s.wakeFor pg off).err pg Err.BAD_ACCESS else s.err pg Err.PRIV

/-- A write by a party: ignored by an absent page (R4) and a dead BAR, discarded by a page in reset (R44); a register outside the party's
reach is a privilege fault. -/
def State.writeTo (s : State) (p : Party) (pg : Page) (off size : Nat) (v : W64) : State :=
  if !s.released || !s.present pg || s.barDead p then s
  else if !s.pageUp pg then s.lostWrite pg
  else s.writeSized p pg off size v

/-- A write at an address. -/
def State.writeAt (s : State) (p : Party) (addr size : Nat) (v : W64) : State :=
  match target p addr with
  | none => s
  | some (pg, off) => s.writeTo p pg off size v

/-! ### The commands -/

/-- REGISTER_READ. -/
def execRegisterRead (p : Party) (addr size : Nat) (s : State) : Res := .next (s.readReg p addr size)

/-- REGISTER_WRITE. -/
def execRegisterWrite (p : Party) (addr size : Nat) (v : W64) (s : State) : Res := .next (s.writeAt p addr size v)

/-- PAIR_HALF_READ: a 32-bit read of a half. -/
def execPairHalfRead (p : Party) (addr : Nat) (s : State) : Res := .next (s.readReg p addr 4)

/-- PAIR_HALF_WRITE: a 32-bit write of a half. -/
def execPairHalfWrite (p : Party) (addr : Nat) (v : W32) (s : State) : Res := .next (s.writeAt p addr 4 (v.setWidth 64))

/-- LOCK_WRITE, of the page in a window slot. -/
def execLockWrite (p : Party) (slot : Nat) (v : W32) (s : State) : Res :=
  match Page.ofSlot slot with
  | none => .next s
  | some pg => .next (s.writeTo p pg hdrLock 4 (v.setWidth 64))

/-- VER_SW_ARCH_WRITE. -/
def execVerSwArchWrite (p : Party) (v : W32) (s : State) : Res := .next (s.writeTo p Page.ver 0x50 4 (v.setWidth 64))

/-- ERR_REC_RPTR_WRITE. -/
def execErrRecRptrWrite (p : Party) (v : W32) (s : State) : Res := .next (s.writeTo p Page.err 0x3C 4 (v.setWidth 64))

end Sys2Proof.Machine
end

