-- ==== Sys2Proof/Machine/Assist.lean ====
section
/-! DEFINITION. The withdrawal of a host-assisted request (R62): the pending bit clears, the occurrence goes on in hardware mode from where it
stopped, FUNC_FALLBACK says so. -/

namespace Sys2Proof.Machine

/-- The packet that waits longest for a fence slot gets the least recently used one; without a victim it waits as in hardware mode (R342). -/
def State.withdrawSlot (s : State) : State :=
  match s.front.slotWait, s.fenceVictim with
  | [], _ => s
  | _, some v => s.giveSlot v
  | p :: r, none =>
    let s := ({ s with front := { s.front with slotWait := r } }).modPkt p fun x => { x with performed := false }
    let s := s.showNr.haClear 5
    if s.front.slotWait.isEmpty then s else s.haPost 5

/-- What an occurrence of function `n` does in hardware mode from the point of its request on (R60). -/
def State.inHardware (s : State) (n : Nat) : State :=
  match n with
  | 0 => (s.chanList.filter fun k => (s.chan k).walkDue).foldl (fun s k => s.startWalk k) s
  | 1 => s.chanList.foldl (fun s k => s.wr (Page.mch k) Reg.MCH_STATUS.WAIT_GRANT 0) { s with mem := { s.mem with farCut := true } }
  | 3 => s.withdrawSuspects
  | 4 => s.completeTd
  | 5 => s.withdrawSlot
  | 7 => s.actRetire
  | 8 => s.finishProv
  | 9 => s.withdrawHeld
  | _ => s

/-- HA_TIMEOUT_WITHDRAW of function `fn`. While the service pair restarts, it waits behind the completions that were ordered before it. An armed swap in hardware mode waits for its commit point (R93). -/
def State.opWithdraw (n : Nat) (s : State) : State :=
  if !s.haPending n then s
  else if n = 6 then s.withdrawReport
  else if n = 3 ∨ n = 4 ∨ n = 5 ∨ n = 7 ∨ n = 8 then (s.fallback n).inHardware n
  else ((s.haClear n).fallback n).inHardware n
def execHaTimeoutWithdraw (fn : Nat) (s : State) : Res :=
  guarded (s.serving && fn < 10) s fun s => s.assisted (.withdraw fn) (State.opWithdraw fn)

end Sys2Proof.Machine
end

