-- ==== Sys2Proof/Machine/Dcp.lean ====
section
/-! DEFINITION. The compute ports (R482 to R486): requests of the compute, where each goes (R183), and what it answers. -/

namespace Sys2Proof.Machine

/-! ### Acceptance -/

/-- The reply of a request. -/
def dcpReply (r : DcpReq) : Reply := .dcp r.port r.tag r.gen

/-- Does a reply name a port? -/
def Reply.atPort (p : Nat) (r : Reply) : Bool :=
  match r with
  | .dcp q _ _ => q == p
  | _ => false

/-- Outstanding requests of a port (R484). -/
def State.portOut (s : State) (p : Nat) : Nat :=
  (s.fab.reqs.filter fun r => r.port == p).length + (s.coh.reqs.filter fun r => r.2.1 == p).length
    + ((s.fab.srcs.map fun e => (e.2.ops.filter fun o => o.reply.atPort p).length).foldl (· + ·) 0)
    + (s.sync.held.filter fun h => h.reply.atPort p).length + (s.coh.waits.filter fun h => h.reply.atPort p).length

/-- A request is offered to a ready port (R484): the compute is out of reset and not about to enter it (R443, step 1), memory is open
(R488) and the port has room. -/
def State.reqReady (s : State) (r : DcpReq) : Bool := s.mount && !s.computeReset && s.faults.phase != .quarantine && s.memOpen && r.port < s.build.dcpCount && s.portOut r.port < 1024

/-- Answer a request. -/
def State.dcpDone (s : State) (r : DcpReq) (status : Nat) : State := s.dcpAnswer r.port r.tag r.gen status [] 0

/-- Accept a request: one of another generation is discarded (R444), else `f` acts. -/
def State.dcp (s : State) (r : DcpReq) (f : State → State) : Res :=
  guarded (s.reqReady r) s fun s => if r.gen = s.rd Page.fe Reg.FE_GEN.GEN then f s else s.staleGen

/-! ### Fields -/

def dcpLen (r : DcpReq) : Nat := 8 * (r.len8 + 1)
def dcpSync (r : DcpReq) : Bool := bit r.attr 0
def dcpOrdered (r : DcpReq) : Bool := bit r.attr 1
def dcpFetch (r : DcpReq) : Bool := bit r.attr 2
def dcpOpnd0 (r : DcpReq) : Nat := ofLe (slice r.wdata 0 8)
def dcpOpnd1 (r : DcpReq) : Nat := ofLe (slice r.wdata 8 8)

/-- The master class of REQ_CLASS (R248, R482): compute, integrator DMA, debug. -/
def dcpClass (r : DcpReq) : Nat :=
  match r.cls with
  | 0 => 0
  | 1 => 3
  | _ => 4

/-- The function and the share under which a request travels (R112, R356). -/
def State.dcpFn (s : State) (r : DcpReq) : Nat := if r.cls = 0 && s.ctxValid r.ctx then s.ctxFn r.ctx else 0
def State.dcpShare (s : State) (r : DcpReq) : Nat := if r.cls = 0 && s.ctxValid r.ctx then s.ctxShare r.ctx else 0

/-! ### Where a request goes (R183) -/

/-- A local access. -/
def State.dcpLocal (s : State) (r : DcpReq) (op off : Nat) : State :=
  s.doAccess { cls := dcpClass r, fn := 0, ctx := r.ctx, share := 0, rank := 0, off := off, op := op, len := if op ≤ 2 then dcpLen r else 0
               data := slice r.wdata 0 (dcpLen r), strb := r.wstrb, opnd0 := dcpOpnd0 r, opnd1 := dcpOpnd1 r, fetch := dcpFetch r
               reply := dcpReply r }

/-- The data of a store that leaves the block. A request record carries whole bytes and no byte enables (R185), and the spec does not say
what becomes of a disabled byte: such a byte is a free value. -/
def State.farData (s : State) (r : DcpReq) : List Byte × State :=
  let d := slice r.wdata 0 (dcpLen r)
  if (List.range d.length).all fun i => bit r.wstrb i then (d, s) else
  let x := s.draw d.length
  (d.zipIdx.map fun e => if bit r.wstrb e.2 then e.1 else BitVec.ofNat 8 (Config.free (x.1 + e.2)).toNat, x.2)

/-- A direct or sync request (R183, R188, R190); one beyond 4,096 outstanding waits at the port, as does one in a stopped block (R229). -/
def State.dcpDirect (s : State) (r : DcpReq) (op dst : Nat) (sync ordered : Bool) : State :=
  if s.fab.reqs.length ≥ 4096 || s.mute then s else
  let d := if op = 2 then s.farData r else ([], s)
  d.2.issueReq
    { tag := 0, port := r.port, dcpTag := r.tag, gen := r.gen, ctx := r.ctx, fn := s.dcpFn r, share := s.dcpShare r, dst := dst, op := op
      fetch := dcpFetch r, ordered := ordered, sync := sync, addr := r.addr, len := if op ≤ 2 then dcpLen r else 0, data := d.1
      opnd0 := if op ≤ 2 then 0 else dcpOpnd0 r, opnd1 := if op ≤ 2 then 0 else dcpOpnd1 r, sent := false, at_ := 0 }

/-- A request through the gateway (R183, R191); one beyond 4,096 outstanding waits at the port (R194). -/
def State.dcpGateway (s : State) (r : DcpReq) (op dst : Nat) : State :=
  if s.gwFull || s.mute then s else
  let d := if op = 2 then s.farData r else ([], s)
  d.2.addOp dst r.ctx (s.dcpShare r)
    { GwOp.blank with
      kind := if op = 2 then 0 else if op = 1 then 1 else 2, reply := dcpReply r, fn := s.dcpFn r, addr := r.addr, inline := true
      len := if op ≤ 2 then dcpLen r else 8, data := d.1, op := op, fetch := dcpFetch r, opnd0 := dcpOpnd0 r, opnd1 := dcpOpnd1 r
      ordered := dcpOrdered r }

/-- A load, store or atomic at a remote home (R183): a load or atomic with the sync attribute, one whose home shares the paddock, or the
gateway. While GW CTRL.EN is 0 it completes with BUSY (R205). -/
def State.dcpFar (s : State) (r : DcpReq) (op dst : Nat) : State :=
  if !s.rdb Page.gw Reg.GW_CTRL.EN then s.dcpDone r St.BUSY
  else if dcpSync r && op != 2 then s.dcpDirect r op dst true (dcpOrdered r)
  else if samePaddock (s.selfRank.getD 0) dst then s.dcpDirect r op dst false (dcpOrdered r)
  else s.dcpGateway r op dst

/-- A load, store or atomic of the compute (R178, R183, R483). -/
def State.dcpAccess (s : State) (r : DcpReq) (op : Nat) : State :=
  let len := if op ≤ 2 then dcpLen r else atomBytes op
  match s.dest r.addr with
  | .bad => s.badAddress.dcpDone r St.BAD_ADDRESS
  | .here off => if shapeStatus op r.addr len ≠ 0 then s.dcpDone r (shapeStatus op r.addr len) else s.dcpLocal r op off
  | .far dst _ => if shapeStatus op r.addr len ≠ 0 then s.dcpDone r (shapeStatus op r.addr len) else s.dcpFar r op dst

/-! ### Loads, stores, atomics, tokens -/

/-- DCP_LD and the others of R184. -/
def execDcpLd (r : DcpReq) (s : State) : Res := s.dcp r fun s => s.dcpAccess r 0x01
def execDcpSt (r : DcpReq) (s : State) : Res := s.dcp r fun s => s.dcpAccess r 0x02
def execDcpAdd (r : DcpReq) (four : Bool) (s : State) : Res := s.dcp r fun s => s.dcpAccess r (atomCode 0 four)
def execDcpSwap (r : DcpReq) (four : Bool) (s : State) : Res := s.dcp r fun s => s.dcpAccess r (atomCode 1 four)
def execDcpCas (r : DcpReq) (four : Bool) (s : State) : Res := s.dcp r fun s => s.dcpAccess r (atomCode 2 four)
def execDcpSmin (r : DcpReq) (four : Bool) (s : State) : Res := s.dcp r fun s => s.dcpAccess r (atomCode 3 four)
def execDcpSmax (r : DcpReq) (four : Bool) (s : State) : Res := s.dcp r fun s => s.dcpAccess r (atomCode 4 four)
def execDcpUmin (r : DcpReq) (four : Bool) (s : State) : Res := s.dcp r fun s => s.dcpAccess r (atomCode 5 four)
def execDcpUmax (r : DcpReq) (four : Bool) (s : State) : Res := s.dcp r fun s => s.dcpAccess r (atomCode 6 four)
def execDcpAnd (r : DcpReq) (four : Bool) (s : State) : Res := s.dcp r fun s => s.dcpAccess r (atomCode 7 four)
def execDcpOr (r : DcpReq) (four : Bool) (s : State) : Res := s.dcp r fun s => s.dcpAccess r (atomCode 8 four)
def execDcpXor (r : DcpReq) (four : Bool) (s : State) : Res := s.dcp r fun s => s.dcpAccess r (atomCode 9 four)

/-- The master of a request (R248). -/
def State.dcpMaster (s : State) (r : DcpReq) : Master := if dcpClass r = 0 then s.ctxMaster r.ctx else { cls := dcpClass r }

/-- TOKEN_PASS (R201): here, as a direct request under ORDERED semantics, or as an atomic of the stream. -/
def State.opTokenPass (r : DcpReq) (s : State) : State :=
  match s.dest r.addr with
  | .bad => s.badAddress.dcpDone r St.BAD_ADDRESS
  | .here _ =>
    let x := s.passToken (s.dcpMaster r) (s.selfRank.getD 32768) r.addr (dcpOpnd0 r)
    x.2.dcpDone r x.1
  | .far dst _ =>
    if !s.rdb Page.gw Reg.GW_CTRL.EN then s.dcpDone r St.BUSY
    else if samePaddock (s.selfRank.getD 0) dst then s.dcpDirect r 0x30 dst false true
    else s.dcpGateway r 0x30 dst

def execDcpTokenPass (r : DcpReq) (s : State) : Res := s.dcp r (State.opTokenPass r)

/-! ### Coherent requests (R195, R483) -/

/-- Remember an own coherent request under a fresh identifier. -/
def State.openCoh (s : State) (r : DcpReq) : Nat × State :=
  let t := s.coh.nextReq
  (t, { s with coh := { s.coh with nextReq := (t + 1) % 65536, reqs := SMap.set s.coh.reqs t (r.port, r.tag, r.gen) } })

/-- The right that a coherent request needs at its home (R248): a read's, a write's for WB; UPG moves no data. -/
def cohRight (cm : Nat) : Option Nat := if cm = Cm.WB then some 1 else if cm = Cm.UPG then none else some 0

/-- The failing step of R248 for a coherent request to a line of this home. -/
def State.dcpCohRefused (s : State) (r : DcpReq) (cm off : Nat) : Option (Nat × Nat × Nat) :=
  match cohRight cm with
  | none => none
  | some k => (s.checkRange (s.dcpMaster r) k off 64).map fun e => (k, e.1, e.2)

/-- A coherent request: at a line of this home's herd windows, at another member's, or unsupported. One to this home is checked as any access
(R248, R249). -/
def State.dcpCoh (s : State) (r : DcpReq) (cm : Nat) (atHome : Nat → Nat → State → State) : State :=
  let addr := r.addr / 64 * 64
  match s.dest addr with
  | .bad => s.badAddress.dcpDone r St.BAD_ADDRESS
  | .here off =>
    if !s.herdLine (off / 64) then s.dcpDone r St.UNSUPPORTED
    else match s.dcpCohRefused r cm off with
      | some (k, step, e) => (s.refuse (s.dcpMaster r) k step e off).dcpDone r (stepStatus step)
      | none =>
        let x := s.openCoh r
        atHome (off / 64) x.1 x.2
  | .far dst _ =>
    if (s.herdSlot dst).isNone then s.dcpDone r St.UNSUPPORTED
    else if s.mute then s
    else
      let x := s.openCoh r
      x.2.sendCoh dst (s.dcpShare r) cm false x.1 addr (if cm = Cm.WB then slice r.wdata 0 64 else [])

/-- RD_S, RD_M, UPG at this home go to its directory under the own slot. -/
def State.opDcpRead (cm op : Nat) (r : DcpReq) (s : State) : State :=
  s.dcpCoh r cm fun l t s => (s.cohRequest l s.mySlot op t).runWaits
def execDcpRdS (r : DcpReq) (s : State) : Res := s.dcp r (State.opDcpRead Cm.RD_S 1 r)
def execDcpRdM (r : DcpReq) (s : State) : Res := s.dcp r (State.opDcpRead Cm.RD_M 2 r)
def execDcpUpg (r : DcpReq) (s : State) : Res := s.dcp r (State.opDcpRead Cm.UPG 3 r)

/-- WB. -/
def execDcpWb (r : DcpReq) (s : State) : Res :=
  s.dcp r fun s => s.dcpCoh r Cm.WB fun l t s => (s.opWb l s.mySlot t (slice r.wdata 0 64) false).runWaits

/-- EVS: no message answers it (R196), so it completes when it has been sent. -/
def State.opDcpEvs (r : DcpReq) (s : State) : State :=
  let addr := r.addr / 64 * 64
  match s.dest addr with
  | .bad => s.badAddress.dcpDone r St.BAD_ADDRESS
  | .here off => if s.herdLine (off / 64) then (s.opEvs (off / 64) s.mySlot).dcpDone r St.OK else s.dcpDone r St.UNSUPPORTED
  | .far dst _ =>
    if (s.herdSlot dst).isNone then s.dcpDone r St.UNSUPPORTED
    else if s.mute then s
    else (s.sendCoh dst (s.dcpShare r) Cm.EVS false 0 addr []).dcpDone r St.OK
def execDcpEvs (r : DcpReq) (s : State) : Res := s.dcp r (State.opDcpEvs r)

/-- DCP_UNSUPPORTED (R483). -/
def execDcpUnsupported (r : DcpReq) (_op : Nat) (s : State) : Res := s.dcp r fun s => s.dcpDone r St.UNSUPPORTED

end Sys2Proof.Machine
end

