-- ==== Sys2Proof/Machine/Halter.lean ====
section
/-! DEFINITION. Halter, the debug monitor of the service cores (R419 to R423). The spec gives the commands and what they reach; how a data line
spells what it shows is this model's choice: hex digits, fields parted by spaces. -/

namespace Sys2Proof.Machine

/-! ### Lines -/

/-- A hex digit, `n` hex digits of a number, the hex digits of bytes in order. -/
def hexDigit (n : Nat) : Byte := BitVec.ofNat 8 (if n % 16 < 10 then 48 + n % 16 else 55 + n % 16)
def hexOf : Nat → Nat → List Byte
  | 0, _ => []
  | n + 1, v => hexOf n (v / 16) ++ [hexDigit v]
def hexBytes (l : List Byte) : List Byte := l.flatMap fun b => hexOf 2 b.toNat

/-- The value of a hex digit. -/
def digitOf (b : Byte) : Option Nat :=
  let c := b.toNat
  if 48 ≤ c ∧ c ≤ 57 then some (c - 48) else if 65 ≤ c ∧ c ≤ 70 then some (c - 55) else if 97 ≤ c ∧ c ≤ 102 then some (c - 87) else none

/-- A hex number of 1 to 16 digits. -/
def hexNum (l : List Byte) : Option Nat :=
  if l.isEmpty || 16 < l.length then none
  else l.foldl (fun a b => match a, digitOf b with
    | some n, some d => some (16 * n + d)
    | _, _ => none) (some 0)

/-- The bytes that hex digits spell, two digits a byte. -/
def hexList : List Byte → Option (List Byte)
  | [] => some []
  | [_] => none
  | a :: b :: r =>
    match digitOf a, digitOf b, hexList r with
    | some x, some y, some l => some (BitVec.ofNat 8 (16 * x + y) :: l)
    | _, _, _ => none

/-- The words of a line, parted by spaces. -/
def lineWords (l : List Byte) : List (List Byte) :=
  ((l.splitOn (BitVec.ofNat 8 32)).filter fun w => !w.isEmpty)

/-- Lines of at most `n` bytes. -/
def cutLines (n : Nat) : Nat → List Byte → List (List Byte)
  | 0, _ => []
  | fuel + 1, l => if l.isEmpty then [] else l.take n :: cutLines n fuel (l.drop n)

/-! ### Answers -/

/-- Send a line. -/
def State.say (s : State) (l : List Byte) : State := s.emit (.uart l)

/-- The commands by their place in R422. -/
abbrev Hc.VER : Nat := 0
abbrev Hc.STAT : Nat := 1
abbrev Hc.ERR : Nat := 2
abbrev Hc.RD : Nat := 3
abbrev Hc.WR : Nat := 4
abbrev Hc.MRD : Nat := 5
abbrev Hc.MWR : Nat := 6
abbrev Hc.DEVID : Nat := 7
abbrev Hc.LC : Nat := 8
abbrev Hc.RST : Nat := 9

/-- The final line of a command: OK, or ERR and its code; ERR 02 and 04 set CMD_REFUSED (R422, R423, R430). -/
def State.answered (s : State) (cmd code : Nat) : State :=
  let s := (s.inc Page.hlt Reg.HLT_CMDS.COUNT).wr Page.hlt Reg.HLT_LAST.CMD cmd
  let s := s.wr Page.hlt Reg.HLT_LAST.ERR code
  if code = 0 then s.say (ascii "OK")
  else
    let s := s.say (ascii "ERR " ++ hexOf 2 code)
    if code = 2 ∨ code = 4 then s.err Page.hlt Err.hlt.CMD_REFUSED else s

/-- A line that is no command: the last command stays as it was. -/
def State.lineErr (s : State) (code : Nat) : State := s.answered (s.rd Page.hlt Reg.HLT_LAST.CMD) code

/-- Does Halter take a line: not at the Off level (R420, R423)? -/
def State.halterOn (s : State) : Bool := s.released && s.hltLevel != 0

/-- Which level a command needs (R422): 1 ROM, 2 Field, 3 Full. -/
def needLevel (cmd : Nat) : Nat :=
  if cmd ≤ Hc.ERR then 1 else if cmd = Hc.RD ∨ cmd = Hc.MRD then 2 else 3

/-- Run a command within its level. LC needs MAKER, INTEGRATOR or RETURNED. -/
def State.halter (s : State) (cmd : Nat) (f : State → State) : State :=
  if !s.halterOn then s
  else if s.hltLevel < needLevel cmd ∨ (cmd = Hc.LC ∧ ¬ (s.lcState = 0 ∨ s.lcState = 1 ∨ s.lcState = 3)) then s.answered cmd 2
  else f s

/-- A command that reaches Halter: held while the service pair restarts (R423). -/
def State.halterCmd (s : State) (c : SvcCmd) (cmd : Nat) (f : State → State) : Res := .next (s.assisted c fun s => s.halter cmd f)

/-- A register as Halter prints it. -/
def State.regLine (s : State) (pg : Page) (off : Nat) : List Byte := hexOf 8 (s.look pg off).toNat

/-! ### The commands -/

/-- VER: the registers of the VER page from 0x020 to 0x054. -/
def State.opHltVer (s : State) : State :=
  ((List.range 14).foldl (fun s k => s.say (hexOf 3 (0x20 + 4 * k) ++ ascii " " ++ s.regLine Page.ver (0x20 + 4 * k))) s).answered Hc.VER 0
def execHalterVer (s : State) : Res := s.halterCmd (.halter Hc.VER 0 0 []) Hc.VER State.opHltVer

/-- STAT: STATUS of LCS, CR, TIME and FE. -/
def State.opHltStat (s : State) : State :=
  ([Page.lcs, Page.cr, Page.time, Page.fe].foldl (fun s pg => s.say (s.regLine pg 0x0C)) s).answered Hc.STAT 0
def execHalterStat (s : State) : Res := s.halterCmd (.halter Hc.STAT 0 0 []) Hc.STAT State.opHltStat

/-- ERR: the unread records, oldest first, each of 32 bytes (R437). -/
def State.opHltErr (s : State) : State :=
  (s.unreadNos.foldl (fun s w => s.say ((List.range 8).flatMap fun k => s.regLine Page.err (0x800 + 32 * (w % 64) + 4 * k))) s).answered Hc.ERR 0
def execHalterErr (s : State) : Res := s.halterCmd (.halter Hc.ERR 0 0 []) Hc.ERR State.opHltErr

/-- The page and offset of a window offset that Halter may read or write; none is access refused (R39). -/
def State.halterReg (s : State) (off : Nat) (write : Bool) : Option (Page × Nat) :=
  (target .halter off).filter fun t => !s.present t.1 || (if write then s.writeOk .halter t.1 t.2 else s.readOk .halter t.1 t.2)

/-- Is the window offset of a 32-bit register? -/
def windowOff (off : Nat) : Bool := off % 4 == 0 && off < 0x200000

/-- RD: a register at DZ_BASE + off. A slot without a page reads zero. -/
def State.opHltRd (off : Nat) (s : State) : State :=
  if !windowOff off then s.answered Hc.RD 3
  else
    let r := s.readAt .halter off 4
    if (target .halter off).isSome && (s.halterReg off false).isNone then r.2.answered Hc.RD 4
    else (r.2.say (hexOf 8 r.1)).answered Hc.RD 0
def execHalterRd (addr : Nat) (s : State) : Res := s.halterCmd (.halter Hc.RD addr 0 []) Hc.RD (State.opHltRd addr)

/-- WR: write a register. -/
def State.opHltWr (off : Nat) (v : W32) (s : State) : State :=
  if !windowOff off then s.answered Hc.WR 3
  else
    let ok := (target .halter off).isNone || (s.halterReg off true).isSome
    let t := s.writeAt .halter off 4 (v.setWidth 64)
    if t.released then t.answered Hc.WR (if ok then 0 else 4) else t
def execHalterWr (addr : Nat) (v : W32) (s : State) : Res := s.halterCmd (.halter Hc.WR addr v.toNat []) Hc.WR (State.opHltWr addr v)

/-- MRD: at most 256 bytes of local memory, as the debug master (R248). -/
def State.opHltMrd (addr len : Nat) (s : State) : State :=
  if 256 < len then s.answered Hc.MRD 3
  else if len = 0 then s.answered Hc.MRD 0
  else
    let a := s.readAs Master.debug addr len
    if a.status = St.OK then ((cutLines 32 8 a.data).foldl (fun s l => s.say (hexBytes l)) a.st).answered Hc.MRD 0
    else a.st.answered Hc.MRD 4
def execHalterMrd (addr len : Nat) (s : State) : Res := s.halterCmd (.halter Hc.MRD addr len []) Hc.MRD (State.opHltMrd addr len)

/-- MWR: at most 128 bytes. -/
def State.opHltMwr (addr : Nat) (data : List Byte) (s : State) : State :=
  if data.isEmpty || 128 < data.length then s.answered Hc.MWR 3
  else
    let a := s.writeAs Master.debug addr data
    a.st.answered Hc.MWR (if a.status = St.OK then 0 else 4)
def execHalterMwr (addr : Nat) (data : List Byte) (s : State) : Res := s.halterCmd (.halter Hc.MWR addr 0 data) Hc.MWR (State.opHltMwr addr data)

/-- DEVID: the record of R418, 32 bytes a line; ERR 02 where there is none. -/
def State.opHltDevid (s : State) : State :=
  let l := s.trust.exportRec
  if l.isEmpty then s.answered Hc.DEVID 2
  else ((cutLines 32 (l.length / 32 + 1) l).foldl (fun s x => s.say (hexBytes x)) s).answered Hc.DEVID 0
def execHalterDevid (s : State) : Res := s.halterCmd (.halter Hc.DEVID 0 0 []) Hc.DEVID State.opHltDevid

/-- The request that the lines after LC have spelled; a refusal answers its code (R414, R422). -/
def State.lcGiven (s : State) : State :=
  let l := s.dbg.lcLines.flatten
  let s := { s with dbg := { s.dbg with lcLines := [], lcWant := false } }
  if l.length ≠ 7571 then (s.lcUnread none 1).answered Hc.LC 1
  else
    let r := s.lcSubmit none l
    r.2.answered Hc.LC r.1

/-- LC: the lines that follow are a request. -/
def State.opHltLc (s : State) : State := { s with dbg := { s.dbg with lcLines := [], lcWant := true } }
def execHalterLc (s : State) : Res := s.halterCmd (.halter Hc.LC 0 0 []) Hc.LC State.opHltLc

/-- A line of a request: "+" and up to 256 hex digits, or "." at its end. -/
def State.lcLine (s : State) (l : List Byte) : State :=
  if l = ascii "." then s.lcGiven
  else
    match l with
    | b :: r =>
      match (if b = BitVec.ofNat 8 43 ∧ r.length ≤ 256 then hexList r else none) with
      | some x => { s with dbg := { s.dbg with lcLines := s.dbg.lcLines ++ [x] } }
      | none => ({ s with dbg := { s.dbg with lcLines := [], lcWant := false } }).answered Hc.LC 3
    | [] => ({ s with dbg := { s.dbg with lcLines := [], lcWant := false } }).answered Hc.LC 3

/-- RST: a block reset. -/
def State.opHltRst (s : State) : State := (s.answered Hc.RST 0).blockReset
def execHalterRst (s : State) : Res := s.halterCmd (.halter Hc.RST 0 0 []) Hc.RST State.opHltRst

/-- A command with arguments: a bad one answers ERR 03, within the level. -/
def State.withArgs (s : State) (cmd : Nat) (f : Option (State → State)) : State :=
  s.halter cmd fun s => match f with
    | some g => g s
    | none => s.answered cmd 3

/-- A command line. -/
def State.command (s : State) (ws : List (List Byte)) : State :=
  match ws with
  | [] => s
  | c :: a =>
    let none_ := fun (g : State → State) => if a.isEmpty then some g else none
    if c = ascii "VER" then s.withArgs Hc.VER (none_ State.opHltVer)
    else if c = ascii "STAT" then s.withArgs Hc.STAT (none_ State.opHltStat)
    else if c = ascii "ERR" then s.withArgs Hc.ERR (none_ State.opHltErr)
    else if c = ascii "RD" then s.withArgs Hc.RD (match a with
      | [x] => (hexNum x).map State.opHltRd
      | _ => none)
    else if c = ascii "WR" then s.withArgs Hc.WR (match a with
      | [x, y] =>
        match hexNum x, hexNum y with
        | some o, some v => if v < 2 ^ 32 then some (State.opHltWr o (BitVec.ofNat 32 v)) else none
        | _, _ => none
      | _ => none)
    else if c = ascii "MRD" then s.withArgs Hc.MRD (match a with
      | [x, y] =>
        match hexNum x, hexNum y with
        | some o, some n => some (State.opHltMrd o n)
        | _, _ => none
      | _ => none)
    else if c = ascii "MWR" then s.withArgs Hc.MWR (match a with
      | [x, y] =>
        match hexNum x, hexList y with
        | some o, some l => some (State.opHltMwr o l)
        | _, _ => none
      | _ => none)
    else if c = ascii "DEVID" then s.withArgs Hc.DEVID (none_ State.opHltDevid)
    else if c = ascii "LC" then s.withArgs Hc.LC (none_ State.opHltLc)
    else if c = ascii "RST" then s.withArgs Hc.RST (none_ State.opHltRst)
    else s.lineErr 1

/-- A line, its CR and any LF taken off; not `good`: a framing or overrun error in it (R421, R423). -/
def State.opHltLine (line : List Byte) (good : Bool) (s : State) : State :=
  if !s.halterOn then s else
  let l := line.filter fun b => b != BitVec.ofNat 8 10
  if !good then (s.err Page.hlt Err.hlt.RX_ERROR).lineErr 7
  else if 512 < l.length then s.lineErr 6
  else if s.dbg.lcWant then s.lcLine l
  else s.command (lineWords l)

/-- HALTER_LINE. -/
def execHalterLine (line : List Byte) (good : Bool) (s : State) : Res := .next (s.assisted (.halterLine line good) (State.opHltLine line good))

/-- HALTER_DISABLE: a write of 0 to HLT CTRL.EN (R423). -/
def execHalterDisable (p : Party) (s : State) : Res := .next (s.writeTo p Page.hlt 0x08 4 0)

/-! ### The service pair is back (R19) -/

/-- What has waited, taken as it would have been taken then. -/
def State.takeWaiting (s : State) (c : SvcCmd) : State :=
  match c with
  | .tdDone p => s.also (execCtxsTdDone p)
  | .fnsEvict p f => s.also (execFnsEvict p f)
  | .keyHaDone p => s.also (execKeyHaDone p)
  | .triageRetire p => s.also (execTriageRetire p)
  | .triageRebuild p => s.also (execTriageRebuild p)
  | .triageLeave p => s.also (execTriageLeave p)
  | .vfHaDone p => s.also (execVfHaDone p)
  | .suspectReplay p i => s.also (execSuspectReplay p i)
  | .suspectFail p i => s.also (execSuspectFail p i)
  | .suspectDrop p i => s.also (execSuspectDrop p i)
  | .farGrant p n v => s.also (execFarGrant p n v)
  | .walk p n => s.also (execWalk p n)
  | .go p => s.also (execGo p)
  | .abandon p => s.also (execAbandon p)
  | .memberSet p => s.also (execMemberSet p)
  | .withdraw n => s.also (execHaTimeoutWithdraw n)
  | .halterLine l g => s.also (execHalterLine l g)
  | .halter cmd a b l =>
    s.halter cmd (match cmd with
      | 0 => State.opHltVer
      | 1 => State.opHltStat
      | 2 => State.opHltErr
      | 3 => State.opHltRd a
      | 4 => State.opHltWr a (BitVec.ofNat 32 b)
      | 5 => State.opHltMrd a b
      | 6 => State.opHltMwr a l
      | 7 => State.opHltDevid
      | 8 => State.opHltLc
      | _ => State.opHltRst)

/-- SVC_PAIR_RESTART_DONE. -/
def execSvcPairRestartDone (s : State) : Res :=
  let l := s.boot.svcWait
  .next (l.foldl State.takeWaiting { s with boot := { s.boot with svcHalted := false, svcWait := [] } })

end Sys2Proof.Machine
end

