-- ==== Sys2Proof/Machine/Dispatch.lean ====
section
/-! DEFINITION. One arm per command: the direct call of its meaning, or its rejection by name. -/

namespace Sys2Proof.Machine
open Sys2Proof

/-- The effect of a command on everything but the queue. -/
def exec (i : Instr) (s : State) : Host.Outcome State Fault Refusal :=
  match i with
  | .powerOnReset f => Sys2Proof.Machine.execPowerOnReset f s
  | .blockReset => Sys2Proof.Machine.execBlockReset s
  | .blockResetDeassert role inst policy => Sys2Proof.Machine.execBlockResetDeassert role inst policy s
  | .bootRun fails => Sys2Proof.Machine.execBootRun fails s
  | .layer0Identity sec svc => Sys2Proof.Machine.execLayer0Identity sec svc s
  | .firmwareLoad secOk svcOk secVer svcVer => Sys2Proof.Machine.execFirmwareLoad secOk svcOk secVer svcVer s
  | .frRegionReset => Sys2Proof.Machine.execFrRegionReset s
  | .lrRegionReset => Sys2Proof.Machine.execLrRegionReset s
  | .clusterFault slot => Sys2Proof.Machine.execClusterFault slot s
  | .sliceRestartDone slice => Sys2Proof.Machine.execSliceRestartDone slice s
  | .lockstepSvcMismatch => Sys2Proof.Machine.execLockstepSvcMismatch s
  | .svcPairRestartDone => Sys2Proof.Machine.execSvcPairRestartDone s
  | .lockstepSecMismatch => Sys2Proof.Machine.execLockstepSecMismatch s
  | .leadHeartbeat => Sys2Proof.Machine.execLeadHeartbeat s
  | .leadLost => Sys2Proof.Machine.execLeadLost s
  | .sibHeartbeat port gen => Sys2Proof.Machine.execSibHeartbeat port gen s
  | .sibOutOfService port => Sys2Proof.Machine.execSibOutOfService port s
  | .reportReq port => Sys2Proof.Machine.execReportReq port s
  | .reportData port body => Sys2Proof.Machine.execReportData port body s
  | .idleTimerExpiry cluster => Sys2Proof.Machine.execIdleTimerExpiry cluster s
  | .clusterWake cluster => Sys2Proof.Machine.execClusterWake cluster s
  | .mrOffReq p => Sys2Proof.Machine.execMrOffReq p s
  | .mrOffEntered => Sys2Proof.Machine.execMrOffEntered s
  | .mrWake => Sys2Proof.Machine.execMrWake s
  | .mrSupplyGood => Sys2Proof.Machine.execMrSupplyGood s
  | .mrSupplyLoss => Sys2Proof.Machine.execMrSupplyLoss s
  | .registerWrite p addr size v => Sys2Proof.Machine.execRegisterWrite p addr size v s
  | .pairHalfRead p addr => Sys2Proof.Machine.execPairHalfRead p addr s
  | .pairHalfWrite p addr v => Sys2Proof.Machine.execPairHalfWrite p addr v s
  | .lockWrite p slot v => Sys2Proof.Machine.execLockWrite p slot v s
  | .errInjectWrite p slot v => Sys2Proof.Machine.execErrInjectWrite p slot v s
  | .verSwArchWrite p v => Sys2Proof.Machine.execVerSwArchWrite p v s
  | .haTimeoutWithdraw fn => Sys2Proof.Machine.execHaTimeoutWithdraw fn s
  | .errRecRptrWrite p v => Sys2Proof.Machine.execErrRecRptrWrite p v s
  | .tbCheckMismatch cleanA => Sys2Proof.Machine.execTbCheckMismatch cleanA s
  | .ppsInEdge sub => Sys2Proof.Machine.execPpsInEdge sub s
  | .ppsLost => Sys2Proof.Machine.execPpsLost s
  | .ppsOutCrossing => Sys2Proof.Machine.execPpsOutCrossing s
  | .ppsOutFall => Sys2Proof.Machine.execPpsOutFall s
  | .mark port sub => Sys2Proof.Machine.execMark port sub s
  | .markReceive port m chk hdr sub => Sys2Proof.Machine.execMarkReceive port m chk hdr sub s
  | .gmSelfElect => Sys2Proof.Machine.execGmSelfElect s
  | .parentLost => Sys2Proof.Machine.execParentLost s
  | .gmLost => Sys2Proof.Machine.execGmLost s
  | .holdoverExpired => Sys2Proof.Machine.execHoldoverExpired s
  | .steerDisable p => Sys2Proof.Machine.execSteerDisable p s
  | .gaitLoad p => Sys2Proof.Machine.execGaitLoad p s
  | .arm p => Sys2Proof.Machine.execArm p s
  | .armClear p => Sys2Proof.Machine.execArmClear p s
  | .go p => Sys2Proof.Machine.execGo p s
  | .abandon p => Sys2Proof.Machine.execAbandon p s
  | .swapCommitPoint => Sys2Proof.Machine.execSwapCommitPoint s
  | .swapDtReached => Sys2Proof.Machine.execSwapDtReached s
  | .swapLateBoundary => Sys2Proof.Machine.execSwapLateBoundary s
  | .wakeAhead port idx period => Sys2Proof.Machine.execWakeAhead port idx period s
  | .strideStart port idx period => Sys2Proof.Machine.execStrideStart port idx period s
  | .dataFrameReceive port f chk => Sys2Proof.Machine.execDataFrameReceive port f chk s
  | .footprintEnd port idx period => Sys2Proof.Machine.execFootprintEnd port idx period s
  | .planeDown plane => Sys2Proof.Machine.execPlaneDown plane s
  | .throttleStart pin temp => Sys2Proof.Machine.execThrottleStart pin temp s
  | .throttleEnd temp => Sys2Proof.Machine.execThrottleEnd temp s
  | .looseAgeDrop port => Sys2Proof.Machine.execLooseAgeDrop port s
  | .rekeyNow p port => Sys2Proof.Machine.execRekeyNow p port s
  | .keyFrameLimit port => Sys2Proof.Machine.execKeyFrameLimit port s
  | .keyReq port epoch chk seqLo => Sys2Proof.Machine.execKeyReq port epoch chk seqLo s
  | .keyReady port epoch gen chk seqLo => Sys2Proof.Machine.execKeyReady port epoch gen chk seqLo s
  | .keyReqRepeat port => Sys2Proof.Machine.execKeyReqRepeat port s
  | .keyReadyRepeat port => Sys2Proof.Machine.execKeyReadyRepeat port s
  | .keyStall port => Sys2Proof.Machine.execKeyStall port s
  | .ackSend port => Sys2Proof.Machine.execAckSend port s
  | .ack port seq chk seqLo => Sys2Proof.Machine.execAck port seq chk seqLo s
  | .retry port seq cause chk seqLo => Sys2Proof.Machine.execRetry port seq cause chk seqLo s
  | .retryRepeat port => Sys2Proof.Machine.execRetryRepeat port s
  | .ackTimeout port => Sys2Proof.Machine.execAckTimeout port s
  | .replayCheck port => Sys2Proof.Machine.execReplayCheck port s
  | .signalHandoff ref status late => Sys2Proof.Machine.execSignalHandoff ref status late s
  | .pdn port station sport event chk seqLo => Sys2Proof.Machine.execPdn port station sport event chk seqLo s
  | .pdnClear p port => Sys2Proof.Machine.execPdnClear p port s
  | .phyReadyRise port => Sys2Proof.Machine.execPhyReadyRise port s
  | .phyReadyFall port => Sys2Proof.Machine.execPhyReadyFall port s
  | .cap port c chk => Sys2Proof.Machine.execCap port c chk s
  | .capSend port => Sys2Proof.Machine.execCapSend port s
  | .trainTimeout port => Sys2Proof.Machine.execTrainTimeout port s
  | .trainRetryTimer port => Sys2Proof.Machine.execTrainRetryTimer port s
  | .dark port cause chk unauth seqLo => Sys2Proof.Machine.execDark port cause chk unauth seqLo s
  | .retrain p port => Sys2Proof.Machine.execRetrain p port s
  | .goDark p port => Sys2Proof.Machine.execGoDark p port s
  | .portDisable p port => Sys2Proof.Machine.execPortDisable p port s
  | .redDescWrite p => Sys2Proof.Machine.execRedDescWrite p s
  | .redDescRead p => Sys2Proof.Machine.execRedDescRead p s
  | .redDescInvalidate p => Sys2Proof.Machine.execRedDescInvalidate p s
  | .resetRoot p => Sys2Proof.Machine.execResetRoot p s
  | .instanceDeadline root index => Sys2Proof.Machine.execInstanceDeadline root index s
  | .resultWriteDone root index => Sys2Proof.Machine.execResultWriteDone root index s
  | .dcpLd r => Sys2Proof.Machine.execDcpLd r s
  | .dcpSt r => Sys2Proof.Machine.execDcpSt r s
  | .dcpAdd r four => Sys2Proof.Machine.execDcpAdd r four s
  | .dcpSwap r four => Sys2Proof.Machine.execDcpSwap r four s
  | .dcpCas r four => Sys2Proof.Machine.execDcpCas r four s
  | .dcpSmin r four => Sys2Proof.Machine.execDcpSmin r four s
  | .dcpSmax r four => Sys2Proof.Machine.execDcpSmax r four s
  | .dcpUmin r four => Sys2Proof.Machine.execDcpUmin r four s
  | .dcpUmax r four => Sys2Proof.Machine.execDcpUmax r four s
  | .dcpAnd r four => Sys2Proof.Machine.execDcpAnd r four s
  | .dcpOr r four => Sys2Proof.Machine.execDcpOr r four s
  | .dcpXor r four => Sys2Proof.Machine.execDcpXor r four s
  | .dcpTokenPass r => Sys2Proof.Machine.execDcpTokenPass r s
  | .dcpRdS r => Sys2Proof.Machine.execDcpRdS r s
  | .dcpRdM r => Sys2Proof.Machine.execDcpRdM r s
  | .dcpUpg r => Sys2Proof.Machine.execDcpUpg r s
  | .dcpWb r => Sys2Proof.Machine.execDcpWb r s
  | .dcpEvs r => Sys2Proof.Machine.execDcpEvs r s
  | .dcpUnsupported r op => Sys2Proof.Machine.execDcpUnsupported r op s
  | .rmtLd r => Sys2Proof.Machine.execRmtLd r s
  | .rmtSt r => Sys2Proof.Machine.execRmtSt r s
  | .rmtAdd r four => Sys2Proof.Machine.execRmtAdd r four s
  | .rmtSwap r four => Sys2Proof.Machine.execRmtSwap r four s
  | .rmtCas r four => Sys2Proof.Machine.execRmtCas r four s
  | .rmtSmin r four => Sys2Proof.Machine.execRmtSmin r four s
  | .rmtSmax r four => Sys2Proof.Machine.execRmtSmax r four s
  | .rmtUmin r four => Sys2Proof.Machine.execRmtUmin r four s
  | .rmtUmax r four => Sys2Proof.Machine.execRmtUmax r four s
  | .rmtAnd r four => Sys2Proof.Machine.execRmtAnd r four s
  | .rmtOr r four => Sys2Proof.Machine.execRmtOr r four s
  | .rmtXor r four => Sys2Proof.Machine.execRmtXor r four s
  | .rmtTokenPass r => Sys2Proof.Machine.execRmtTokenPass r s
  | .rmtUnsupported r op => Sys2Proof.Machine.execRmtUnsupported r op s
  | .rsp src tag status data poison => Sys2Proof.Machine.execRsp src tag status data poison s
  | .remoteTimeout tag => Sys2Proof.Machine.execRemoteTimeout tag s
  | .tagQuarantineEnd tag => Sys2Proof.Machine.execTagQuarantineEnd tag s
  | .planeSetChange => Sys2Proof.Machine.execPlaneSetChange s
  | .drainComplete => Sys2Proof.Machine.execDrainComplete s
  | .putData r => Sys2Proof.Machine.execPutData r s
  | .getReq r => Sys2Proof.Machine.execGetReq r s
  | .getData r => Sys2Proof.Machine.execGetData r s
  | .amoReq r => Sys2Proof.Machine.execAmoReq r s
  | .amoRsp r => Sys2Proof.Machine.execAmoRsp r s
  | .bulkAck r => Sys2Proof.Machine.execBulkAck r s
  | .nak r => Sys2Proof.Machine.execNak r s
  | .bulkRetryTimeout stream sseq => Sys2Proof.Machine.execBulkRetryTimeout stream sseq s
  | .streamRetire stream => Sys2Proof.Machine.execStreamRetire stream s
  | .cohRdS src tag line => Sys2Proof.Machine.execCohRdS src tag line s
  | .cohRdM src tag line => Sys2Proof.Machine.execCohRdM src tag line s
  | .cohUpg src tag line => Sys2Proof.Machine.execCohUpg src tag line s
  | .cohWb src tag line data => Sys2Proof.Machine.execCohWb src tag line data s
  | .cohEvs src tag line => Sys2Proof.Machine.execCohEvs src tag line s
  | .dataS src tag status data poison => Sys2Proof.Machine.execDataS src tag status data poison s
  | .dataM src tag status data poison => Sys2Proof.Machine.execDataM src tag status data poison s
  | .upgAck src tag status => Sys2Proof.Machine.execUpgAck src tag status s
  | .wbAck src tag status => Sys2Proof.Machine.execWbAck src tag status s
  | .inv src tag line => Sys2Proof.Machine.execInv src tag line s
  | .snpS src tag line => Sys2Proof.Machine.execSnpS src tag line s
  | .snpI src tag line => Sys2Proof.Machine.execSnpI src tag line s
  | .herdFlush src tag => Sys2Proof.Machine.execHerdFlush src tag s
  | .invAck src tag line => Sys2Proof.Machine.execInvAck src tag line s
  | .snpRsp src tag line data lost => Sys2Proof.Machine.execSnpRsp src tag line data lost s
  | .flushDone src tag => Sys2Proof.Machine.execFlushDone src tag s
  | .cohTimeout line member => Sys2Proof.Machine.execCohTimeout line member s
  | .snrInvAck tid => Sys2Proof.Machine.execSnrInvAck tid s
  | .snrSnpRsp tid data => Sys2Proof.Machine.execSnrSnpRsp tid data s
  | .snrFlushDone tid => Sys2Proof.Machine.execSnrFlushDone tid s
  | .cohEnable p => Sys2Proof.Machine.execCohEnable p s
  | .cohDisable p => Sys2Proof.Machine.execCohDisable p s
  | .cmbFanout entry status data poison => Sys2Proof.Machine.execCmbFanout entry status data poison s
  | .cmbEntryAge entry => Sys2Proof.Machine.execCmbEntryAge entry s
  | .hitchArrive port r => Sys2Proof.Machine.execHitchArrive port r s
  | .hitchRelease port r => Sys2Proof.Machine.execHitchRelease port r s
  | .hitchQuery port r => Sys2Proof.Machine.execHitchQuery port r s
  | .hitchAnswer port r => Sys2Proof.Machine.execHitchAnswer port r s
  | .hitchStop port r => Sys2Proof.Machine.execHitchStop port r s
  | .leave port r => Sys2Proof.Machine.execLeave port r s
  | .hitchTimeout hid => Sys2Proof.Machine.execHitchTimeout hid s
  | .hitchCmdWrite p => Sys2Proof.Machine.execHitchCmdWrite p s
  | .hitchCmdRead p => Sys2Proof.Machine.execHitchCmdRead p s
  | .hitchClear p => Sys2Proof.Machine.execHitchClear p s
  | .memberSet p => Sys2Proof.Machine.execMemberSet p s
  | .commitDrainDone => Sys2Proof.Machine.execCommitDrainDone s
  | .commitMaxWait => Sys2Proof.Machine.execCommitMaxWait s
  | .commitQueryRepeat => Sys2Proof.Machine.execCommitQueryRepeat s
  | .inDoubt => Sys2Proof.Machine.execInDoubt s
  | .stopDtReached => Sys2Proof.Machine.execStopDtReached s
  | .stopDrainEnd => Sys2Proof.Machine.execStopDrainEnd s
  | .memoryTrained ch capPages => Sys2Proof.Machine.execMemoryTrained ch capPages s
  | .memoryReadResponse ch r => Sys2Proof.Machine.execMemoryReadResponse ch r s
  | .memoryWriteDone ch w => Sys2Proof.Machine.execMemoryWriteDone ch w s
  | .ratCmdWrite p => Sys2Proof.Machine.execRatCmdWrite p s
  | .ratCmdRead p => Sys2Proof.Machine.execRatCmdRead p s
  | .ratWriteComplete entry => Sys2Proof.Machine.execRatWriteComplete entry s
  | .mchLinePagesWrite p v => Sys2Proof.Machine.execMchLinePagesWrite p v s
  | .unwrapChunk => Sys2Proof.Machine.execUnwrapChunk s
  | .reencStart ch => Sys2Proof.Machine.execReencStart ch s
  | .reencComplete ch level index => Sys2Proof.Machine.execReencComplete ch level index s
  | .rebuild p ch => Sys2Proof.Machine.execRebuild p ch s
  | .retire p ch => Sys2Proof.Machine.execRetire p ch s
  | .walk p ch => Sys2Proof.Machine.execWalk p ch s
  | .rebuildComplete ch => Sys2Proof.Machine.execRebuildComplete ch s
  | .coldWalkComplete ch => Sys2Proof.Machine.execColdWalkComplete ch s
  | .scrubChunk ch => Sys2Proof.Machine.execScrubChunk ch s
  | .patrolRead store index bad => Sys2Proof.Machine.execPatrolRead store index bad s
  | .tokenRequest ch use => Sys2Proof.Machine.execTokenRequest ch use s
  | .tokenRelease ch use => Sys2Proof.Machine.execTokenRelease ch use s
  | .farStart p => Sys2Proof.Machine.execFarStart p s
  | .farAutoStart => Sys2Proof.Machine.execFarAutoStart s
  | .farPageStep ch => Sys2Proof.Machine.execFarPageStep ch s
  | .farPageStepDone ch page badTags => Sys2Proof.Machine.execFarPageStepDone ch page badTags s
  | .farPause p ch => Sys2Proof.Machine.execFarPause p ch s
  | .farResume p ch => Sys2Proof.Machine.execFarResume p ch s
  | .farGrant p ch v => Sys2Proof.Machine.execFarGrant p ch v s
  | .doorbellWrite p page off size v => Sys2Proof.Machine.execDoorbellWrite p page off size v s
  | .packetFetch slice => Sys2Proof.Machine.execPacketFetch slice s
  | .fetchComplete q ok slots => Sys2Proof.Machine.execFetchComplete q ok slots s
  | .packetStart p => Sys2Proof.Machine.execPacketStart p s
  | .packetComplete p => Sys2Proof.Machine.execPacketComplete p s
  | .nop p => Sys2Proof.Machine.execNop p s
  | .launch p => Sys2Proof.Machine.execLaunch p s
  | .launchDispatch p => Sys2Proof.Machine.execLaunchDispatch p s
  | .copy p => Sys2Proof.Machine.execCopy p s
  | .reduce p => Sys2Proof.Machine.execReduce p s
  | .signal p => Sys2Proof.Machine.execSignal p s
  | .wait p => Sys2Proof.Machine.execWait p s
  | .take p => Sys2Proof.Machine.execTake p s
  | .waitTimeout p => Sys2Proof.Machine.execWaitTimeout p s
  | .gaitBind p => Sys2Proof.Machine.execGaitBind p s
  | .persist p => Sys2Proof.Machine.execPersist p s
  | .taskMsg p => Sys2Proof.Machine.execTaskMsg p s
  | .graphRun p => Sys2Proof.Machine.execGraphRun p s
  | .ctxCreate p => Sys2Proof.Machine.execCtxCreate p s
  | .ctxDestroy p => Sys2Proof.Machine.execCtxDestroy p s
  | .queueCreate p => Sys2Proof.Machine.execQueueCreate p s
  | .queueDestroy p => Sys2Proof.Machine.execQueueDestroy p s
  | .queueResume p => Sys2Proof.Machine.execQueueResume p s
  | .queueCancel p => Sys2Proof.Machine.execQueueCancel p s
  | .setPrio p => Sys2Proof.Machine.execSetPrio p s
  | .queueHold p => Sys2Proof.Machine.execQueueHold p s
  | .queueRelease p => Sys2Proof.Machine.execQueueRelease p s
  | .objCreate p => Sys2Proof.Machine.execObjCreate p s
  | .objDestroy p => Sys2Proof.Machine.execObjDestroy p s
  | .fenceCreate p => Sys2Proof.Machine.execFenceCreate p s
  | .fenceDestroy p => Sys2Proof.Machine.execFenceDestroy p s
  | .graphStore p => Sys2Proof.Machine.execGraphStore p s
  | .keyLoadAnchor p => Sys2Proof.Machine.execKeyLoadAnchor p s
  | .dlkActivate p => Sys2Proof.Machine.execDlkActivate p s
  | .erase p => Sys2Proof.Machine.execErase p s
  | .confEnter p => Sys2Proof.Machine.execConfEnter p s
  | .keyLoadInvalidOp p => Sys2Proof.Machine.execKeyLoadInvalidOp p s
  | .ratSet p => Sys2Proof.Machine.execRatSet p s
  | .lcReq p => Sys2Proof.Machine.execLcReq p s
  | .sigSet p => Sys2Proof.Machine.execSigSet p s
  | .hitchJoin p => Sys2Proof.Machine.execHitchJoin p s
  | .stepCfg p => Sys2Proof.Machine.execStepCfg p s
  | .stopAt p => Sys2Proof.Machine.execStopAt p s
  | .resume p => Sys2Proof.Machine.execResume p s
  | .resolve p => Sys2Proof.Machine.execResolve p s
  | .seal p => Sys2Proof.Machine.execSeal p s
  | .unwrap p => Sys2Proof.Machine.execUnwrap p s
  | .vfProv p => Sys2Proof.Machine.execVfProv p s
  | .seqDone seq gen id status busyNs => Sys2Proof.Machine.execSeqDone seq gen id status busyNs s
  | .msgDone seq gen id msgId status => Sys2Proof.Machine.execMsgDone seq gen id msgId status s
  | .heartbeat seq gen running seqNo => Sys2Proof.Machine.execHeartbeat seq gen running seqNo s
  | .hbLost seq => Sys2Proof.Machine.execHbLost seq s
  | .kqEnable p fn v => Sys2Proof.Machine.execKqEnable p fn v s
  | .ringUnbind p ring => Sys2Proof.Machine.execRingUnbind p ring s
  | .snap p => Sys2Proof.Machine.execSnap p s
  | .ctxsObjKick p handle => Sys2Proof.Machine.execCtxsObjKick p handle s
  | .ctxsTdDone p => Sys2Proof.Machine.execCtxsTdDone p s
  | .fnsRead p => Sys2Proof.Machine.execFnsRead p s
  | .fnsEvict p fence => Sys2Proof.Machine.execFnsEvict p fence s
  | .quiesce p fn => Sys2Proof.Machine.execQuiesce p fn s
  | .vfRelease p fn => Sys2Proof.Machine.execVfRelease p fn s
  | .vfQuiesced fn => Sys2Proof.Machine.execVfQuiesced fn s
  | .flr fn => Sys2Proof.Machine.execFlr fn s
  | .flrResetDone fn => Sys2Proof.Machine.execFlrResetDone fn s
  | .vfHaDone p => Sys2Proof.Machine.execVfHaDone p s
  | .getVersion => Sys2Proof.Machine.execGetVersion s
  | .getCapabilities => Sys2Proof.Machine.execGetCapabilities s
  | .negotiateAlgorithms offers => Sys2Proof.Machine.execNegotiateAlgorithms offers s
  | .getDigests => Sys2Proof.Machine.execGetDigests s
  | .getCertificate slot off len => Sys2Proof.Machine.execGetCertificate slot off len s
  | .challenge nonce => Sys2Proof.Machine.execChallenge nonce s
  | .getMeasurements session op nonce => Sys2Proof.Machine.execGetMeasurements session op nonce s
  | .keyExchange reqId pub => Sys2Proof.Machine.execKeyExchange reqId pub s
  | .finish session macOk => Sys2Proof.Machine.execFinish session macOk s
  | .getEncapsulatedRequest session => Sys2Proof.Machine.execGetEncapsulatedRequest session s
  | .deliverEncapsulatedResponse session body => Sys2Proof.Machine.execDeliverEncapsulatedResponse session body s
  | .endSession session => Sys2Proof.Machine.execEndSession session s
  | .spdmHeartbeat session => Sys2Proof.Machine.execSpdmHeartbeat session s
  | .heartbeatExpiry session => Sys2Proof.Machine.execHeartbeatExpiry session s
  | .keyUpdate session op => Sys2Proof.Machine.execKeyUpdate session op s
  | .chunkSend session last body => Sys2Proof.Machine.execChunkSend session last body s
  | .chunkGet session seqNo => Sys2Proof.Machine.execChunkGet session seqNo s
  | .unsupportedRequest session outOfOrder => Sys2Proof.Machine.execUnsupportedRequest session outOfOrder s
  | .securedMsgAuthFail session => Sys2Proof.Machine.execSecuredMsgAuthFail session s
  | .kemGet session => Sys2Proof.Machine.execKemGet session s
  | .kemPut session ct => Sys2Proof.Machine.execKemPut session ct s
  | .reportGet session nonce => Sys2Proof.Machine.execReportGet session nonce s
  | .release session body => Sys2Proof.Machine.execRelease session body s
  | .slotQuery session => Sys2Proof.Machine.execSlotQuery session s
  | .ideQuery session port stream => Sys2Proof.Machine.execIdeQuery session port stream s
  | .keyProg session port stream kset dir sub key ifv => Sys2Proof.Machine.execKeyProg session port stream kset dir sub key ifv s
  | .kSetGo session port stream kset dir sub => Sys2Proof.Machine.execKSetGo session port stream kset dir sub s
  | .kSetStop session port stream kset dir sub => Sys2Proof.Machine.execKSetStop session port stream kset dir sub s
  | .koAck status data => Sys2Proof.Machine.execKoAck status data s
  | .getTdispVersion session fn => Sys2Proof.Machine.execGetTdispVersion session fn s
  | .getTdispCapabilities session fn => Sys2Proof.Machine.execGetTdispCapabilities session fn s
  | .lockInterfaceRequest session fn flags => Sys2Proof.Machine.execLockInterfaceRequest session fn flags s
  | .getDeviceInterfaceReport session fn off len => Sys2Proof.Machine.execGetDeviceInterfaceReport session fn off len s
  | .getDeviceInterfaceState session fn => Sys2Proof.Machine.execGetDeviceInterfaceState session fn s
  | .startInterfaceRequest session fn nonce => Sys2Proof.Machine.execStartInterfaceRequest session fn nonce s
  | .stopInterfaceRequest session fn => Sys2Proof.Machine.execStopInterfaceRequest session fn s
  | .saddleOperation checkOk => Sys2Proof.Machine.execSaddleOperation checkOk s
  | .endSessions p => Sys2Proof.Machine.execEndSessions p s
  | .keyHaDone p => Sys2Proof.Machine.execKeyHaDone p s
  | .tamper => Sys2Proof.Machine.execTamper s
  | .tamperClear => Sys2Proof.Machine.execTamperClear s
  | .ccipStart p page => Sys2Proof.Machine.execCcipStart p page s
  | .ccipAbort p page => Sys2Proof.Machine.execCcipAbort p page s
  | .ccipJobDone page done parity bad => Sys2Proof.Machine.execCcipJobDone page done parity bad s
  | .ccipKeyTrng p page v => Sys2Proof.Machine.execCcipKeyTrng p page v s
  | .ccipKeyDerive p page v slotOk => Sys2Proof.Machine.execCcipKeyDerive p page v slotOk s
  | .ccipKeyErase p page => Sys2Proof.Machine.execCcipKeyErase p page s
  | .holdupAck => Sys2Proof.Machine.execHoldupAck s
  | .holdupTimeout => Sys2Proof.Machine.execHoldupTimeout s
  | .commitPhaseDone r => Sys2Proof.Machine.execCommitPhaseDone r s
  | .lcsExport p => Sys2Proof.Machine.execLcsExport p s
  | .halterLine line good => Sys2Proof.Machine.execHalterLine line good s
  | .halterVer => Sys2Proof.Machine.execHalterVer s
  | .halterStat => Sys2Proof.Machine.execHalterStat s
  | .halterErr => Sys2Proof.Machine.execHalterErr s
  | .halterRd addr => Sys2Proof.Machine.execHalterRd addr s
  | .halterWr addr v => Sys2Proof.Machine.execHalterWr addr v s
  | .halterMrd addr len => Sys2Proof.Machine.execHalterMrd addr len s
  | .halterMwr addr data => Sys2Proof.Machine.execHalterMwr addr data s
  | .halterDevid => Sys2Proof.Machine.execHalterDevid s
  | .halterLc => Sys2Proof.Machine.execHalterLc s
  | .halterRst => Sys2Proof.Machine.execHalterRst s
  | .halterDisable p => Sys2Proof.Machine.execHalterDisable p s
  | .traceSync => Sys2Proof.Machine.execTraceSync s
  | .cntSnap p => Sys2Proof.Machine.execCntSnap p s
  | .cntClear p => Sys2Proof.Machine.execCntClear p s
  | .triageRetire p => Sys2Proof.Machine.execTriageRetire p s
  | .triageRebuild p => Sys2Proof.Machine.execTriageRebuild p s
  | .triageLeave p => Sys2Proof.Machine.execTriageLeave p s
  | .watchdogExpiry p => Sys2Proof.Machine.execWatchdogExpiry p s
  | .watchdogGraceExpiry p => Sys2Proof.Machine.execWatchdogGraceExpiry p s
  | .dcpStall port => Sys2Proof.Machine.execDcpStall port s
  | .crstNow p => Sys2Proof.Machine.execCrstNow p s
  | .crstHoldExpiry => Sys2Proof.Machine.execCrstHoldExpiry s
  | .crstDeassert => Sys2Proof.Machine.execCrstDeassert s
  | .dcpIdleTimeout => Sys2Proof.Machine.execDcpIdleTimeout s
  | .crstHeartbeatWaitEnd => Sys2Proof.Machine.execCrstHeartbeatWaitEnd s
  | .persistProbeExpiry => Sys2Proof.Machine.execPersistProbeExpiry s
  | .suspectReplay p index => Sys2Proof.Machine.execSuspectReplay p index s
  | .suspectFail p index => Sys2Proof.Machine.execSuspectFail p index s
  | .suspectDrop p index => Sys2Proof.Machine.execSuspectDrop p index s
  | .oosHoldExpiry => Sys2Proof.Machine.execOosHoldExpiry s
  | .instReset p => Sys2Proof.Machine.execInstReset p s
  | .bistRun p => Sys2Proof.Machine.execBistRun p s
  | .bistAbort p => Sys2Proof.Machine.execBistAbort p s
  | .bistRunDone fails restoreOk => Sys2Proof.Machine.execBistRunDone fails restoreOk s
  | .burn p => Sys2Proof.Machine.execBurn p s
  | .holdLock p => Sys2Proof.Machine.execHoldLock p s
  | .hostCompletion tag status data => Sys2Proof.Machine.execHostCompletion tag status data s
  | .hostReadTimeout tag => Sys2Proof.Machine.execHostReadTimeout tag s
  | .hostLinkDown => Sys2Proof.Machine.execHostLinkDown s
  | .doeAccess off write v => Sys2Proof.Machine.execDoeAccess off write v s
  | .scanModeEntry => Sys2Proof.Machine.execScanModeEntry s
  | .lsqProtocol seq kind gen id => Sys2Proof.Machine.execLsqProtocol seq kind gen id s
  | .registerRead p addr size => Sys2Proof.Machine.execRegisterRead p addr size s
  | .vfEnableChange en num => Sys2Proof.Machine.execVfEnableChange en num s
  | .hostLinkUp => Sys2Proof.Machine.execHostLinkUp s
  | .generationQuarantineEnd => Sys2Proof.Machine.execGenerationQuarantineEnd s
  | .burnDone done failed => Sys2Proof.Machine.execBurnDone done failed s
  | .koAckTimeout => Sys2Proof.Machine.execKoAckTimeout s
  | .unwrapAbandon entry => Sys2Proof.Machine.execUnwrapAbandon entry s

end Sys2Proof.Machine
end

