-- ==== Sys2Proof/Machine/Step.lean ====
section
/-! DEFINITION. One step of the block: the command at the front of the queue, or, with none waiting, one edge of AOCLK (R63). -/

namespace Sys2Proof.Machine

/-- What the block does with no command waiting: AOCLK runs and DT advances (R12, R63, R64), and the strides that are being sent put on the wire
the frames whose turn has come (R95); gateway and COPY work that waited, and a save or restore of BIST, is tried again. DESIGN CHOICE. -/
def idle (s : State) : Host.Outcome State Fault Refusal := .next s.tick.sendAllDue.fabGo.bistGo

/-- Take the command at the front of the queue and run it. -/
def step (s : State) : Host.Outcome State Fault Refusal :=
  match s.pending with
  | [] => idle s
  | c :: r => exec c { s with pending := r }

/-- Put the command that a word of the opcode table spells at the front of the queue; no word spells one. -/
def State.withFetchWord (s : State) (nbits w : Nat) : State :=
  match decodeTableWord nbits w with
  | some c => { s with pending := c :: s.pending }
  | none => s

end Sys2Proof.Machine
end

