-- ==== Sys2Proof/Safety.lean ====
section
/-! DEFINITION. What claims about runs are stated in: the parts of the state, what it is for a part to stay as it was, and the
invariant of the stored tables. -/

namespace Sys2Proof.Machine

/-- A part of the state: a field of State beside the build and the queue, the bytes that memory holds, or the registers of the pages
of a family. -/
inductive Part where
  | pins | outs | latches | boot | pkg | power | time | links | gait | faults | host | front | objs | fns | mem | bytes | sync | red
  | fab | coh | cmb | trust | ccip | lc | dbg | bist | out | egress | draws
  | page (f : Fam)
  deriving DecidableEq, Repr

/-- Part `p` is in `t` what it is in `s`: the field is equal, every byte of memory reads as before, every register of the family reads
as before. -/
def Part.same (p : Part) (s t : State) : Prop :=
  match p with
  | .pins => t.pins = s.pins
  | .outs => t.outs = s.outs
  | .latches => t.latches = s.latches
  | .boot => t.boot = s.boot
  | .pkg => t.pkg = s.pkg
  | .power => t.power = s.power
  | .time => t.time = s.time
  | .links => t.links = s.links
  | .gait => t.gait = s.gait
  | .faults => t.faults = s.faults
  | .host => t.host = s.host
  | .front => t.front = s.front
  | .objs => t.objs = s.objs
  | .fns => t.fns = s.fns
  | .mem => t.mem = s.mem
  | .bytes => t.mem.bytes = s.mem.bytes
  | .sync => t.sync = s.sync
  | .red => t.red = s.red
  | .fab => t.fab = s.fab
  | .coh => t.coh = s.coh
  | .cmb => t.cmb = s.cmb
  | .trust => t.trust = s.trust
  | .ccip => t.ccip = s.ccip
  | .lc => t.lc = s.lc
  | .dbg => t.dbg = s.dbg
  | .bist => t.bist = s.bist
  | .out => t.out = s.out
  | .egress => t.egress = s.egress
  | .draws => t.draws = s.draws
  | .page f => ∀ (a : Nat) (q : Page), Page.ofSlot (a / 0x1000) = some q → q.fam = f → t.reg a = s.reg a

/-- The register table is canonical: its offsets rise strictly and no entry holds its register's reset value, so that equal registers
are equal data. -/
def State.regsWf (s : State) : Prop := SMap.sorted s.regs = true ∧ ∀ e ∈ s.regs, e.2 ≠ windowReset e.1

/-- The bytes of memory are canonical: addresses rise strictly and no entry holds the byte that an unlisted address reads as. -/
def Mem.wf (m : Mem) : Bool := SMap.wf 0 m.bytes

/-- The invariant of the stored tables. -/
def State.wf (s : State) : Prop := s.regsWf ∧ s.mem.wf = true

/-- Every part. -/
def Part.all : List Part :=
  [.pins, .outs, .latches, .boot, .pkg, .power, .time, .links, .gait, .faults, .host, .front, .objs, .fns, .mem, .bytes, .sync, .red, .fab,
    .coh, .cmb, .trust, .ccip, .lc, .dbg, .bist, .out, .egress, .draws] ++ Fam.all.map .page

/-- Every part but those of a list. -/
def Part.allBut (l : List Part) : List Part := Part.all.filter fun p => !l.contains p

/-- What these commands may change: dcpRdS, dcpRdM, dcpUpg, dcpWb and 32 more. -/
def Part.set1 : List Part := Part.allBut [.pins, .latches, .boot, .time, .host, .red, .fab, .cmb, .trust, .ccip, .lc, .bist, .page .ver,
      .page .cr, .page .lcs, .page .hlt, .page .trc, .page .cnt, .page .bst, .page .ccip, .page .hitch, .page .red]

/-- What these commands may change: dcpLd, dcpSt, dcpAdd, dcpSwap and 11 more. -/
def Part.set2 : List Part := Part.allBut [.pins, .latches, .boot, .time, .host, .red, .cmb, .trust, .ccip, .lc, .bist, .page .ver,
      .page .cr, .page .lcs, .page .hlt, .page .trc, .page .cnt, .page .bst, .page .ccip, .page .hitch, .page .red]

/-- What these commands may change: inDoubt, unwrapChunk, graphStore, stepCfg and 4 more. -/
def Part.set3 : List Part := [.outs, .pkg, .power, .links, .gait, .faults, .front, .objs, .mem, .bytes, .sync, .dbg, .out, .egress,
      .draws, .page .func, .page .key, .page .time, .page .err, .page .mch, .page .lpt, .page .fe, .page .ctxs, .page .fns, .page .vf]

/-- What these commands may change: reportData, keyLoadAnchor, getDigests, getCertificate and 2 more. -/
def Part.set4 : List Part := Part.allBut [.pins, .latches, .boot, .time, .fns, .red, .fab, .coh, .cmb, .ccip, .lc, .bist, .page .ver,
      .page .cr, .page .lcs, .page .hlt, .page .trc, .page .cnt, .page .bst, .page .ccip, .page .gait, .page .gw, .page .coh, .page .cmb,
      .page .hitch, .page .red]

/-- What these commands may change: ideQuery, keyProg, kSetGo, kSetStop and 2 more. -/
def Part.set5 : List Part := [.faults, .host, .trust, .out, .egress, .page .key, .page .err]

/-- What these commands may change: rsp, remoteTimeout, planeSetChange, drainComplete. -/
def Part.set6 : List Part := [.outs, .pkg, .power, .links, .gait, .faults, .objs, .fns, .mem, .bytes, .fab, .dbg, .out, .egress, .draws,
      .page .func, .page .key, .page .time, .page .err, .page .mch, .page .gait, .page .gw, .page .cmb, .page .lpt, .page .vf]

/-- What these commands may change: getData, hitchAnswer, copy, resolve. -/
def Part.set7 : List Part := Part.allBut [.pins, .latches, .boot, .time, .red, .cmb, .trust, .ccip, .lc, .bist, .page .ver, .page .cr,
      .page .lcs, .page .hlt, .page .trc, .page .cnt, .page .bst, .page .ccip, .page .hitch, .page .red]

/-- What these commands may change: inv, snpS, snpI, herdFlush. -/
def Part.set8 : List Part := [.power, .links, .gait, .faults, .fns, .coh, .dbg, .out, .egress, .page .err, .page .gait, .page .cmb,
      .page .lpt, .page .vf]

/-- What these commands may change: hitchCmdWrite, hitchCmdRead, hitchClear, memberSet. -/
def Part.set9 : List Part := [.boot, .power, .links, .gait, .faults, .fns, .sync, .dbg, .out, .egress, .page .func, .page .err,
      .page .gait, .page .cmb, .page .hitch, .page .lpt, .page .vf]

/-- What these commands may change: waitTimeout, queueCancel, fenceDestroy, persistProbeExpiry. -/
def Part.set10 : List Part := [.outs, .pkg, .power, .links, .gait, .faults, .front, .objs, .mem, .bytes, .dbg, .out, .egress, .draws,
      .page .func, .page .key, .page .time, .page .err, .page .mch, .page .lpt, .page .ctxs, .page .fns, .page .vf]

/-- What these commands may change: strideStart, footprintEnd, reduce. -/
def Part.set11 : List Part := Part.allBut [.pins, .latches, .boot, .time, .host, .fab, .cmb, .trust, .ccip, .lc, .bist, .page .ver,
      .page .cr, .page .lcs, .page .hlt, .page .trc, .page .cnt, .page .bst, .page .ccip, .page .gw, .page .hitch]

/-- What these commands may change: signalHandoff, commitDrainDone, signal. -/
def Part.set12 : List Part := Part.allBut [.pins, .latches, .boot, .time, .host, .red, .fab, .coh, .cmb, .trust, .ccip, .lc, .bist,
      .page .ver, .page .cr, .page .lcs, .page .hlt, .page .trc, .page .cnt, .page .bst, .page .ccip, .page .gw, .page .coh,
      .page .hitch, .page .red]

/-- What these commands may change: amoRsp, bulkAck, bulkRetryTimeout. -/
def Part.set13 : List Part := Part.allBut [.pins, .latches, .boot, .time, .red, .coh, .cmb, .trust, .ccip, .lc, .bist, .page .ver,
      .page .cr, .page .lcs, .page .hlt, .page .trc, .page .cnt, .page .bst, .page .ccip, .page .coh, .page .hitch, .page .red]

/-- What these commands may change: hitchArrive, leave, hitchTimeout. -/
def Part.set14 : List Part := [.power, .links, .gait, .faults, .fns, .sync, .dbg, .out, .egress, .page .func, .page .err, .page .gait,
      .page .cmb, .page .hitch, .page .lpt, .page .vf]

/-- What these commands may change: hitchStop, stopDtReached, stopAt. -/
def Part.set15 : List Part := Part.allBut [.pins, .latches, .boot, .time, .host, .red, .fab, .coh, .cmb, .trust, .ccip, .lc, .bist,
      .page .ver, .page .cr, .page .lcs, .page .hlt, .page .trc, .page .cnt, .page .bst, .page .ccip, .page .gw, .page .coh, .page .red]

/-- What these commands may change: walk, triageRetire, triageRebuild. -/
def Part.set16 : List Part := [.boot, .power, .faults, .mem, .out, .egress, .page .func, .page .err, .page .mch]

/-- What these commands may change: ctxDestroy, objDestroy, flrResetDone. -/
def Part.set17 : List Part := [.outs, .pkg, .power, .links, .gait, .faults, .front, .objs, .mem, .bytes, .dbg, .out, .egress, .draws,
      .page .func, .page .key, .page .time, .page .err, .page .mch, .page .lpt, .page .ctxs, .page .vf]

/-- What these commands may change: ccipKeyTrng, ccipKeyDerive, ccipKeyErase. -/
def Part.set18 : List Part := [.boot, .faults, .trust, .ccip, .out, .egress, .page .key, .page .err, .page .ccip]

/-- The parts that a command may change: what its meaning can reach. Every other part stays as it was. -/
def touches (i : Instr) : List Part :=
  match i with
  | .powerOnReset _ => Part.allBut []
  | .blockReset => Part.allBut [.pins, .time, .out, .draws, .page .lcs]
  | .blockResetDeassert _ _ _ => [.pins, .outs, .boot, .pkg, .faults, .mem, .out, .egress, .draws, .page .key, .page .lcs, .page .bst,
      .page .err]
  | .bootRun _ => Part.allBut [.pins, .latches, .time, .fab, .coh, .cmb, .trust, .ccip, .lc]
  | .layer0Identity _ _ => [.boot, .faults, .trust, .out, .egress, .page .key, .page .err]
  | .firmwareLoad _ _ _ _ => Part.allBut [.pins, .latches, .pkg, .power, .time, .links, .gait, .host, .front, .objs, .fns, .mem, .bytes,
      .sync, .red, .fab, .coh, .cmb, .trust, .ccip, .lc, .dbg, .bist, .draws]
  | .frRegionReset => Part.allBut [.pins, .boot, .time, .red, .fab, .coh, .cmb, .ccip, .lc, .bist, .page .cr, .page .lcs, .page .hlt,
      .page .trc, .page .cnt, .page .bst, .page .ccip, .page .gait, .page .gw, .page .coh, .page .cmb, .page .hitch, .page .red]
  | .lrRegionReset => Part.allBut [.pins, .boot, .host, .trust, .ccip, .lc, .bist, .page .ver, .page .cr, .page .lcs, .page .hlt,
      .page .trc, .page .cnt, .page .bst, .page .ccip]
  | .clusterFault _ => Part.allBut [.pins, .latches, .boot, .time, .fab, .coh, .cmb, .trust, .ccip, .lc, .page .ver, .page .cr,
      .page .lcs, .page .hlt, .page .trc, .page .cnt, .page .bst, .page .ccip, .page .gw, .page .coh]
  | .sliceRestartDone _ => [.page .fe]
  | .lockstepSvcMismatch => [.boot, .faults, .out, .egress, .page .err]
  | .svcPairRestartDone => Part.allBut []
  | .lockstepSecMismatch => [.outs, .pkg, .links, .gait, .faults, .trust, .out, .egress, .page .time, .page .err, .page .lpt]
  | .leadHeartbeat => [.links, .out, .egress]
  | .leadLost => Part.allBut [.pins, .latches, .boot, .time, .fns, .red, .fab, .coh, .cmb, .ccip, .lc, .bist, .page .ver, .page .lcs,
      .page .hlt, .page .trc, .page .cnt, .page .bst, .page .ccip, .page .gait, .page .gw, .page .coh, .page .cmb, .page .hitch,
      .page .red]
  | .sibHeartbeat _ _ => [.pkg, .links, .page .cr]
  | .sibOutOfService _ => Part.allBut [.pins, .latches, .boot, .time, .fns, .red, .fab, .coh, .cmb, .ccip, .lc, .bist, .page .ver,
      .page .lcs, .page .hlt, .page .trc, .page .cnt, .page .bst, .page .ccip, .page .gait, .page .gw, .page .coh, .page .cmb,
      .page .hitch, .page .red]
  | .reportReq _ => [.pkg, .links, .out, .egress]
  | .reportData _ _ => Part.set4
  | .idleTimerExpiry _ => [.power]
  | .clusterWake _ => [.power]
  | .mrOffReq _ => [.pins, .boot, .power, .faults, .mem, .dbg, .out, .egress, .page .cr, .page .err, .page .mch]
  | .mrOffEntered => [.outs, .power, .faults, .mem, .out, .egress, .draws, .page .func, .page .key, .page .err, .page .mch]
  | .mrWake => [.outs, .power]
  | .mrSupplyGood => [.pins, .outs, .power, .mem, .out, .egress, .page .func, .page .key, .page .mch]
  | .mrSupplyLoss => [.pins, .outs, .pkg, .links, .gait, .faults, .out, .egress, .page .time, .page .err, .page .lpt]
  | .registerWrite _ _ _ _ => Part.allBut []
  | .pairHalfRead _ _ => Part.allBut [.pins, .outs, .boot, .pkg, .time, .links, .gait, .host, .front, .objs, .fns, .mem, .bytes, .sync,
      .red, .fab, .coh, .cmb, .trust, .ccip, .lc, .dbg, .bist, .draws]
  | .pairHalfWrite _ _ _ => Part.allBut []
  | .lockWrite _ _ _ => Part.allBut []
  | .errInjectWrite _ _ _ => Part.allBut [.pins, .latches, .lc]
  | .verSwArchWrite _ _ => Part.allBut []
  | .haTimeoutWithdraw _ => Part.allBut [.pins, .latches, .time, .red, .fab, .coh, .cmb, .ccip, .lc, .bist]
  | .errRecRptrWrite _ _ => Part.allBut []
  | .tbCheckMismatch _ => [.time, .faults, .out, .egress, .page .time, .page .err]
  | .ppsInEdge _ => [.time, .faults, .out, .egress, .page .time, .page .err]
  | .ppsLost => [.faults, .out, .egress, .page .time, .page .err]
  | .ppsOutCrossing => [.outs]
  | .ppsOutFall => [.outs]
  | .mark _ _ => [.time, .links, .out, .egress]
  | .markReceive _ _ _ _ _ => [.time, .links, .faults, .out, .egress, .page .key, .page .time, .page .err, .page .lpt]
  | .gmSelfElect => [.time, .page .time]
  | .parentLost => [.time, .faults, .out, .egress, .page .time, .page .err]
  | .gmLost => [.faults, .out, .egress, .page .time, .page .err]
  | .holdoverExpired => [.faults, .out, .egress, .page .time, .page .err]
  | .steerDisable _ => [.boot, .faults, .out, .egress, .page .time, .page .err]
  | .gaitLoad _ => Part.allBut [.pins, .latches, .boot, .time, .fns, .red, .fab, .coh, .cmb, .trust, .ccip, .lc, .bist, .page .ver,
      .page .cr, .page .lcs, .page .hlt, .page .trc, .page .cnt, .page .bst, .page .ccip, .page .gw, .page .coh, .page .cmb,
      .page .hitch, .page .red]
  | .arm _ => [.boot, .gait, .faults, .out, .egress, .page .func, .page .err, .page .gait]
  | .armClear _ => [.boot, .faults, .out, .egress, .page .func, .page .err, .page .gait]
  | .go _ => [.boot, .faults, .out, .egress, .page .func, .page .err, .page .gait]
  | .abandon _ => Part.allBut [.pins, .latches, .time, .host, .fab, .cmb, .trust, .ccip, .lc, .bist, .page .ver, .page .cr, .page .lcs,
      .page .hlt, .page .trc, .page .cnt, .page .bst, .page .ccip, .page .gw, .page .hitch]
  | .swapCommitPoint => [.page .func, .page .gait]
  | .swapDtReached => Part.allBut [.pins, .latches, .boot, .time, .host, .fab, .cmb, .trust, .ccip, .lc, .bist, .page .ver, .page .cr,
      .page .lcs, .page .hlt, .page .trc, .page .cnt, .page .bst, .page .ccip, .page .gw]
  | .swapLateBoundary => Part.allBut [.pins, .latches, .boot, .time, .host, .fab, .cmb, .trust, .ccip, .lc, .bist, .page .ver, .page .cr,
      .page .lcs, .page .hlt, .page .trc, .page .cnt, .page .bst, .page .ccip, .page .gw]
  | .wakeAhead _ _ _ => [.outs, .pkg, .power, .links, .gait, .faults, .front, .objs, .mem, .bytes, .sync, .dbg, .out, .egress, .draws,
      .page .func, .page .key, .page .time, .page .err, .page .mch, .page .red, .page .lpt, .page .fe, .page .ctxs, .page .fns, .page .vf]
  | .strideStart _ _ _ => Part.set11
  | .dataFrameReceive _ _ _ => Part.allBut [.pins, .latches, .boot, .trust, .ccip, .lc, .bist, .page .ver, .page .cr, .page .lcs,
      .page .hlt, .page .trc, .page .cnt, .page .bst, .page .ccip]
  | .footprintEnd _ _ _ => Part.set11
  | .planeDown _ => [.gait]
  | .throttleStart _ _ => [.pins, .page .gait]
  | .throttleEnd _ => [.pins, .page .gait]
  | .looseAgeDrop _ => [.gait, .faults, .out, .egress, .page .err, .page .cmb]
  | .rekeyNow _ _ => [.boot, .links, .faults, .out, .egress, .page .key, .page .err, .page .lpt]
  | .keyFrameLimit _ => [.links, .out, .egress]
  | .keyReq _ _ _ _ => [.links, .faults, .out, .egress, .page .key, .page .err, .page .lpt]
  | .keyReady _ _ _ _ _ => [.links, .faults, .out, .egress, .page .key, .page .time, .page .err, .page .lpt]
  | .keyReqRepeat _ => [.links, .out, .egress]
  | .keyReadyRepeat _ => [.links, .out, .egress]
  | .keyStall _ => [.links, .faults, .out, .egress, .page .err, .page .lpt]
  | .ackSend _ => [.links, .out, .egress]
  | .ack _ _ _ _ => [.links, .faults, .out, .egress, .page .err, .page .lpt]
  | .retry _ _ _ _ _ => [.links, .faults, .out, .egress, .page .err, .page .lpt]
  | .retryRepeat _ => [.links, .out, .egress]
  | .ackTimeout _ => [.links, .out, .egress]
  | .replayCheck _ => [.power, .time, .links, .gait, .faults, .fns, .sync, .dbg, .out, .egress, .draws, .page .func, .page .time,
      .page .err, .page .gait, .page .cmb, .page .hitch, .page .lpt, .page .vf]
  | .signalHandoff _ _ _ => Part.set12
  | .pdn _ _ _ _ _ _ => [.links, .gait, .faults, .sync, .out, .egress, .page .err, .page .lpt]
  | .pdnClear _ _ => [.boot, .gait, .faults, .out, .egress, .page .err, .page .lpt]
  | .phyReadyRise _ => [.time, .links, .gait, .faults, .out, .egress, .draws, .page .time, .page .err, .page .lpt]
  | .phyReadyFall _ => [.power, .time, .links, .gait, .faults, .fns, .sync, .dbg, .out, .egress, .draws, .page .func, .page .time,
      .page .err, .page .gait, .page .cmb, .page .hitch, .page .lpt, .page .vf]
  | .cap _ _ _ => [.power, .time, .links, .gait, .faults, .fns, .sync, .dbg, .out, .egress, .draws, .page .func, .page .key, .page .time,
      .page .err, .page .gait, .page .cmb, .page .hitch, .page .lpt, .page .vf]
  | .capSend _ => [.links, .out, .egress]
  | .trainTimeout _ => [.faults, .out, .egress, .page .time, .page .err, .page .lpt]
  | .trainRetryTimer _ => [.time, .links, .gait, .faults, .out, .egress, .draws, .page .time, .page .err, .page .lpt]
  | .dark _ _ _ _ _ => [.power, .links, .gait, .faults, .fns, .sync, .dbg, .out, .egress, .page .func, .page .time, .page .err,
      .page .gait, .page .cmb, .page .hitch, .page .lpt, .page .vf]
  | .retrain _ _ => [.boot, .power, .time, .links, .gait, .faults, .fns, .sync, .dbg, .out, .egress, .draws, .page .func, .page .time,
      .page .err, .page .gait, .page .cmb, .page .hitch, .page .lpt, .page .vf]
  | .goDark _ _ => [.boot, .power, .links, .gait, .faults, .fns, .sync, .dbg, .out, .egress, .page .func, .page .time, .page .err,
      .page .gait, .page .cmb, .page .hitch, .page .lpt, .page .vf]
  | .portDisable _ _ => [.boot, .power, .links, .gait, .faults, .fns, .sync, .dbg, .out, .egress, .page .func, .page .time, .page .err,
      .page .gait, .page .cmb, .page .hitch, .page .lpt, .page .vf]
  | .redDescWrite _ => [.boot, .faults, .red, .out, .egress, .page .err, .page .red]
  | .redDescRead _ => [.boot, .faults, .out, .egress, .page .err, .page .red]
  | .redDescInvalidate _ => [.boot, .faults, .red, .out, .egress, .page .err, .page .red]
  | .resetRoot _ => Part.allBut [.pins, .latches, .time, .host, .fab, .coh, .cmb, .trust, .ccip, .lc, .bist, .page .ver, .page .cr,
      .page .lcs, .page .hlt, .page .trc, .page .cnt, .page .bst, .page .ccip, .page .gw, .page .coh, .page .hitch]
  | .instanceDeadline _ _ => Part.allBut [.pins, .latches, .boot, .time, .host, .fab, .coh, .cmb, .trust, .ccip, .lc, .bist, .page .ver,
      .page .cr, .page .lcs, .page .hlt, .page .trc, .page .cnt, .page .bst, .page .ccip, .page .gw, .page .coh, .page .hitch]
  | .resultWriteDone _ _ => Part.allBut [.pins, .latches, .boot, .time, .host, .fab, .coh, .cmb, .trust, .ccip, .lc, .bist, .page .ver,
      .page .cr, .page .lcs, .page .hlt, .page .trc, .page .cnt, .page .bst, .page .ccip, .page .gw, .page .coh, .page .hitch, .page .red]
  | .dcpLd _ => Part.set2
  | .dcpSt _ => Part.set2
  | .dcpAdd _ _ => Part.set2
  | .dcpSwap _ _ => Part.set2
  | .dcpCas _ _ => Part.set2
  | .dcpSmin _ _ => Part.set2
  | .dcpSmax _ _ => Part.set2
  | .dcpUmin _ _ => Part.set2
  | .dcpUmax _ _ => Part.set2
  | .dcpAnd _ _ => Part.set2
  | .dcpOr _ _ => Part.set2
  | .dcpXor _ _ => Part.set2
  | .dcpTokenPass _ => Part.allBut [.pins, .latches, .boot, .time, .host, .red, .coh, .cmb, .trust, .ccip, .lc, .bist, .page .ver,
      .page .cr, .page .lcs, .page .hlt, .page .trc, .page .cnt, .page .bst, .page .ccip, .page .coh, .page .hitch, .page .red]
  | .dcpRdS _ => Part.set1
  | .dcpRdM _ => Part.set1
  | .dcpUpg _ => Part.set1
  | .dcpWb _ => Part.set1
  | .dcpEvs _ => [.power, .links, .gait, .faults, .fns, .coh, .dbg, .out, .egress, .page .err, .page .gait, .page .gw, .page .coh,
      .page .cmb, .page .lpt, .page .vf]
  | .dcpUnsupported _ _ => [.faults, .out, .egress, .page .err]
  | .rmtLd _ => Part.set1
  | .rmtSt _ => Part.set1
  | .rmtAdd _ _ => Part.set1
  | .rmtSwap _ _ => Part.set1
  | .rmtCas _ _ => Part.set1
  | .rmtSmin _ _ => Part.set1
  | .rmtSmax _ _ => Part.set1
  | .rmtUmin _ _ => Part.set1
  | .rmtUmax _ _ => Part.set1
  | .rmtAnd _ _ => Part.set1
  | .rmtOr _ _ => Part.set1
  | .rmtXor _ _ => Part.set1
  | .rmtTokenPass _ => Part.allBut [.pins, .latches, .boot, .time, .host, .red, .fab, .coh, .cmb, .trust, .ccip, .lc, .bist, .page .ver,
      .page .cr, .page .lcs, .page .hlt, .page .trc, .page .cnt, .page .bst, .page .ccip, .page .coh, .page .hitch, .page .red]
  | .rmtUnsupported _ _ => [.power, .links, .gait, .faults, .fns, .dbg, .out, .egress, .page .err, .page .gait, .page .gw, .page .cmb,
      .page .lpt, .page .vf]
  | .rsp _ _ _ _ _ => Part.set6
  | .remoteTimeout _ => Part.set6
  | .tagQuarantineEnd _ => [.fab]
  | .planeSetChange => Part.set6
  | .drainComplete => Part.set6
  | .putData _ => Part.set2
  | .getReq _ => Part.set2
  | .getData _ => Part.set7
  | .amoReq _ => Part.set2
  | .amoRsp _ => Part.set13
  | .bulkAck _ => Part.set13
  | .nak _ => [.fab, .page .gw]
  | .bulkRetryTimeout _ _ => Part.set13
  | .streamRetire _ => [.fab, .page .gw]
  | .cohRdS _ _ _ => Part.set1
  | .cohRdM _ _ _ => Part.set1
  | .cohUpg _ _ _ => Part.set1
  | .cohWb _ _ _ _ => Part.set1
  | .cohEvs _ _ _ => Part.set1
  | .dataS _ _ _ _ _ => [.faults, .coh, .out, .egress, .page .err]
  | .dataM _ _ _ _ _ => [.faults, .coh, .out, .egress, .page .err]
  | .upgAck _ _ _ => [.faults, .coh, .out, .egress, .page .err]
  | .wbAck _ _ _ => [.faults, .coh, .out, .egress, .page .err]
  | .inv _ _ _ => Part.set8
  | .snpS _ _ _ => Part.set8
  | .snpI _ _ _ => Part.set8
  | .herdFlush _ _ => Part.set8
  | .invAck _ _ _ => Part.set1
  | .snpRsp _ _ _ _ _ => Part.set1
  | .flushDone _ _ => Part.set1
  | .cohTimeout _ _ => Part.set1
  | .snrInvAck _ => Part.set1
  | .snrSnpRsp _ _ => Part.set1
  | .snrFlushDone _ => Part.set1
  | .cohEnable _ => [.boot, .faults, .out, .egress, .page .err, .page .coh]
  | .cohDisable _ => Part.allBut [.pins, .latches, .time, .host, .red, .fab, .cmb, .trust, .ccip, .lc, .bist, .page .ver, .page .cr,
      .page .lcs, .page .hlt, .page .trc, .page .cnt, .page .bst, .page .ccip, .page .hitch, .page .red]
  | .cmbFanout _ _ _ _ => [.power, .links, .gait, .faults, .fns, .cmb, .dbg, .out, .egress, .page .err, .page .gait, .page .cmb,
      .page .lpt, .page .vf]
  | .cmbEntryAge _ => [.cmb, .page .cmb]
  | .hitchArrive _ _ => Part.set14
  | .hitchRelease _ _ => Part.allBut [.pins, .latches, .boot, .time, .red, .cmb, .trust, .ccip, .lc, .bist, .page .ver, .page .cr,
      .page .lcs, .page .hlt, .page .trc, .page .cnt, .page .bst, .page .ccip, .page .red]
  | .hitchQuery _ _ => [.power, .links, .gait, .faults, .fns, .dbg, .out, .egress, .page .err, .page .gait, .page .cmb, .page .lpt,
      .page .vf]
  | .hitchAnswer _ _ => Part.set7
  | .hitchStop _ _ => Part.set15
  | .leave _ _ => Part.set14
  | .hitchTimeout _ => Part.set14
  | .hitchCmdWrite _ => Part.set9
  | .hitchCmdRead _ => Part.set9
  | .hitchClear _ => Part.set9
  | .memberSet _ => Part.set9
  | .commitDrainDone => Part.set12
  | .commitMaxWait => [.power, .links, .gait, .faults, .fns, .sync, .dbg, .out, .egress, .page .err, .page .gait, .page .cmb, .page .lpt,
      .page .vf]
  | .commitQueryRepeat => [.power, .links, .gait, .faults, .fns, .sync, .dbg, .out, .egress, .page .err, .page .gait, .page .cmb,
      .page .lpt, .page .vf]
  | .inDoubt => Part.set3
  | .stopDtReached => Part.set15
  | .stopDrainEnd => [.outs, .pkg, .power, .links, .gait, .faults, .front, .objs, .mem, .bytes, .sync, .dbg, .out, .egress, .draws,
      .page .func, .page .key, .page .time, .page .err, .page .mch, .page .hitch, .page .lpt, .page .fe, .page .ctxs, .page .fns,
      .page .vf]
  | .memoryTrained _ _ => Part.set1
  | .memoryReadResponse _ _ => [.outs, .pkg, .power, .links, .gait, .faults, .mem, .dbg, .out, .egress, .draws, .page .func, .page .key,
      .page .time, .page .err, .page .mch, .page .lpt]
  | .memoryWriteDone _ _ => [.outs, .pkg, .links, .gait, .faults, .mem, .out, .egress, .page .time, .page .err, .page .mch, .page .lpt]
  | .ratCmdWrite _ => [.boot, .power, .faults, .front, .mem, .bytes, .out, .egress, .draws, .page .func, .page .key, .page .err,
      .page .mch, .page .vf]
  | .ratCmdRead _ => [.boot, .faults, .out, .egress, .page .err, .page .mch]
  | .ratWriteComplete _ => [.front, .mem, .page .mch]
  | .mchLinePagesWrite _ _ => [.boot, .power, .faults, .mem, .bytes, .out, .egress, .draws, .page .func, .page .key, .page .err,
      .page .mch]
  | .unwrapChunk => Part.set3
  | .reencStart _ => [.faults, .mem, .out, .egress, .draws, .page .func, .page .key, .page .err, .page .mch]
  | .reencComplete _ _ _ => Part.set1
  | .rebuild _ _ => [.boot, .power, .faults, .mem, .out, .egress, .page .err, .page .mch]
  | .retire _ _ => [.boot, .power, .faults, .mem, .out, .egress, .page .err, .page .mch]
  | .walk _ _ => Part.set16
  | .rebuildComplete _ => [.power, .faults, .mem, .bytes, .dbg, .out, .egress, .draws, .page .func, .page .key, .page .err, .page .mch]
  | .coldWalkComplete _ => [.power, .mem, .dbg, .page .mch]
  | .scrubChunk _ => [.power, .mem, .page .mch]
  | .patrolRead _ _ _ => [.outs, .pkg, .power, .links, .gait, .faults, .fns, .sync, .red, .trust, .dbg, .out, .egress, .page .func,
      .page .key, .page .time, .page .err, .page .mch, .page .gait, .page .cmb, .page .hitch, .page .lpt, .page .vf]
  | .tokenRequest _ _ => [.power, .mem, .page .mch]
  | .tokenRelease _ _ => [.power, .mem, .dbg, .page .mch]
  | .farStart _ => [.boot, .faults, .mem, .out, .egress, .draws, .page .func, .page .key, .page .err, .page .mch]
  | .farAutoStart => [.mem, .out, .egress, .draws, .page .func, .page .key, .page .mch]
  | .farPageStep _ => Part.set1
  | .farPageStepDone _ _ _ => Part.set1
  | .farPause _ _ => [.boot, .power, .faults, .mem, .dbg, .out, .egress, .page .err, .page .mch]
  | .farResume _ _ => [.boot, .faults, .mem, .out, .egress, .page .err, .page .mch]
  | .farGrant _ _ _ => [.boot, .faults, .out, .egress, .page .func, .page .err, .page .mch]
  | .doorbellWrite _ _ _ _ _ => [.power, .faults, .front, .out, .egress, .page .err, .page .fe, .page .vf]
  | .packetFetch _ => [.host, .front, .out, .egress]
  | .fetchComplete _ _ _ => [.faults, .host, .front, .dbg, .out, .egress, .page .err, .page .fe]
  | .packetStart _ => Part.allBut [.pins, .latches, .boot, .time, .host, .fns, .sync, .red, .fab, .coh, .cmb, .trust, .ccip, .lc, .bist]
  | .packetComplete _ => [.outs, .pkg, .power, .links, .gait, .faults, .host, .front, .objs, .mem, .bytes, .dbg, .out, .egress, .draws,
      .page .func, .page .key, .page .time, .page .err, .page .mch, .page .lpt, .page .fe, .page .ctxs, .page .fns, .page .vf]
  | .nop _ => [.front, .mem]
  | .launch _ => [.front, .mem]
  | .launchDispatch _ => [.front, .dbg, .out, .egress]
  | .copy _ => Part.set7
  | .reduce _ => Part.set11
  | .signal _ => Part.set12
  | .wait _ => [.outs, .pkg, .power, .links, .gait, .faults, .front, .objs, .mem, .bytes, .dbg, .out, .egress, .draws, .page .func,
      .page .key, .page .time, .page .err, .page .mch, .page .lpt, .page .fns]
  | .take _ => [.outs, .pkg, .power, .links, .gait, .faults, .front, .objs, .mem, .bytes, .dbg, .out, .egress, .draws, .page .func,
      .page .key, .page .time, .page .err, .page .mch, .page .lpt, .page .fns]
  | .waitTimeout _ => Part.set10
  | .gaitBind _ => [.faults, .front, .mem, .out, .egress, .page .err, .page .vf]
  | .persist _ => [.front, .mem]
  | .taskMsg _ => [.front, .out, .egress]
  | .graphRun _ => [.outs, .pkg, .power, .links, .gait, .faults, .front, .mem, .dbg, .out, .egress, .draws, .page .func, .page .key,
      .page .time, .page .err, .page .mch, .page .lpt]
  | .ctxCreate _ => [.outs, .pkg, .power, .links, .gait, .faults, .front, .mem, .bytes, .dbg, .out, .egress, .draws, .page .func,
      .page .key, .page .time, .page .err, .page .mch, .page .lpt, .page .vf]
  | .ctxDestroy _ => Part.set17
  | .queueCreate _ => [.outs, .pkg, .power, .links, .gait, .faults, .front, .mem, .bytes, .dbg, .out, .egress, .draws, .page .func,
      .page .key, .page .time, .page .err, .page .mch, .page .lpt, .page .ctxs]
  | .queueDestroy _ => [.outs, .pkg, .power, .links, .gait, .faults, .host, .front, .objs, .mem, .bytes, .dbg, .out, .egress, .draws,
      .page .func, .page .key, .page .time, .page .err, .page .mch, .page .lpt, .page .ctxs, .page .fns, .page .vf]
  | .queueResume _ => [.front, .mem]
  | .queueCancel _ => Part.set10
  | .setPrio _ => [.front, .mem]
  | .queueHold _ => [.front, .mem]
  | .queueRelease _ => [.front, .mem]
  | .objCreate _ => [.outs, .pkg, .power, .links, .gait, .faults, .front, .mem, .bytes, .dbg, .out, .egress, .draws, .page .func,
      .page .key, .page .time, .page .err, .page .mch, .page .lpt, .page .ctxs, .page .vf]
  | .objDestroy _ => Part.set17
  | .fenceCreate _ => [.outs, .pkg, .power, .links, .gait, .faults, .front, .mem, .bytes, .dbg, .out, .egress, .draws, .page .func,
      .page .key, .page .time, .page .err, .page .mch, .page .lpt, .page .ctxs, .page .vf]
  | .fenceDestroy _ => Part.set10
  | .graphStore _ => Part.set3
  | .keyLoadAnchor _ => Part.set4
  | .dlkActivate _ => [.links, .faults, .front, .mem, .trust, .out, .egress, .page .key, .page .time, .page .err, .page .lpt]
  | .erase _ => [.front, .mem, .trust, .page .key]
  | .confEnter _ => [.front, .mem, .dbg, .page .key, .page .trc, .page .cnt]
  | .keyLoadInvalidOp _ => [.front, .mem, .page .key]
  | .ratSet _ => [.power, .faults, .front, .mem, .bytes, .out, .egress, .draws, .page .func, .page .key, .page .err, .page .mch, .page .vf]
  | .lcReq _ => Part.allBut [.pins, .latches, .boot, .time, .fns, .red, .fab, .coh, .cmb, .trust, .ccip, .bist, .page .ver, .page .cr,
      .page .hlt, .page .trc, .page .cnt, .page .bst, .page .ccip, .page .gait, .page .gw, .page .coh, .page .cmb, .page .hitch,
      .page .red]
  | .sigSet _ => [.front, .mem, .sync]
  | .hitchJoin _ => [.front, .mem, .sync]
  | .stepCfg _ => Part.set3
  | .stopAt _ => Part.set15
  | .resume _ => Part.set3
  | .resolve _ => Part.set7
  | .seal _ => [.power, .faults, .front, .mem, .bytes, .out, .egress, .draws, .page .func, .page .key, .page .err, .page .mch]
  | .unwrap _ => Part.set3
  | .vfProv _ => Part.allBut [.pins, .outs, .latches, .boot, .pkg, .power, .time, .links, .gait, .host, .objs, .bytes, .sync, .red, .fab,
      .coh, .cmb, .trust, .ccip, .lc, .dbg, .bist, .draws]
  | .seqDone _ _ _ _ _ => Part.set3
  | .msgDone _ _ _ _ _ => [.faults, .front, .out, .egress, .page .err, .page .fe]
  | .heartbeat _ _ _ _ => [.faults, .front]
  | .hbLost _ => Part.set1
  | .kqEnable _ _ _ => Part.allBut [.pins, .outs, .latches, .pkg, .power, .time, .links, .gait, .host, .objs, .fns, .mem, .bytes, .sync,
      .red, .fab, .coh, .cmb, .trust, .ccip, .lc, .dbg, .bist, .draws]
  | .ringUnbind _ _ => [.boot, .faults, .front, .out, .egress, .page .err, .page .fe, .page .vf]
  | .snap _ => [.outs, .boot, .pkg, .power, .links, .gait, .faults, .mem, .bytes, .dbg, .out, .egress, .draws, .page .func, .page .key,
      .page .time, .page .err, .page .mch, .page .lpt, .page .ctxs]
  | .ctxsObjKick _ _ => [.outs, .boot, .pkg, .power, .links, .gait, .faults, .objs, .mem, .bytes, .dbg, .out, .egress, .draws,
      .page .func, .page .key, .page .time, .page .err, .page .mch, .page .lpt, .page .ctxs, .page .vf]
  | .ctxsTdDone _ => [.outs, .boot, .pkg, .power, .links, .gait, .faults, .objs, .mem, .bytes, .dbg, .out, .egress, .draws, .page .func,
      .page .key, .page .time, .page .err, .page .mch, .page .lpt, .page .ctxs, .page .vf]
  | .fnsRead _ => [.boot, .faults, .out, .egress, .page .err, .page .fns]
  | .fnsEvict _ _ => [.outs, .boot, .pkg, .power, .links, .gait, .faults, .front, .objs, .mem, .bytes, .dbg, .out, .egress, .draws,
      .page .func, .page .key, .page .time, .page .err, .page .mch, .page .lpt, .page .fns]
  | .quiesce _ _ => [.outs, .boot, .pkg, .power, .links, .gait, .faults, .host, .front, .objs, .mem, .bytes, .dbg, .out, .egress, .draws,
      .page .func, .page .key, .page .time, .page .err, .page .mch, .page .lpt, .page .ctxs, .page .fns, .page .vf]
  | .vfRelease _ _ => [.boot, .faults, .front, .out, .egress, .page .key, .page .err, .page .vf]
  | .vfQuiesced _ => [.host, .trust, .out, .egress, .page .key, .page .vf]
  | .flr _ => Part.allBut [.pins, .boot, .time, .red, .fab, .coh, .cmb, .ccip, .lc, .bist, .page .cr, .page .lcs, .page .hlt, .page .trc,
      .page .cnt, .page .bst, .page .ccip, .page .gait, .page .gw, .page .coh, .page .cmb, .page .hitch, .page .red]
  | .flrResetDone _ => Part.set17
  | .vfHaDone _ => Part.allBut [.pins, .outs, .latches, .pkg, .power, .time, .links, .gait, .host, .objs, .mem, .bytes, .sync, .red,
      .fab, .coh, .cmb, .trust, .ccip, .lc, .dbg, .bist, .draws]
  | .getVersion => [.host, .trust, .out, .egress]
  | .getCapabilities => [.host, .trust, .out, .egress, .draws]
  | .negotiateAlgorithms _ => [.host, .trust, .out, .egress]
  | .getDigests => Part.set4
  | .getCertificate _ _ _ => Part.set4
  | .challenge _ => Part.set4
  | .getMeasurements _ _ _ => [.host, .trust, .out, .egress, .draws, .page .key]
  | .keyExchange _ _ => [.host, .trust, .out, .egress, .draws, .page .key]
  | .finish _ _ => [.host, .trust, .out, .egress, .page .key]
  | .getEncapsulatedRequest _ => [.host, .trust, .out, .egress]
  | .deliverEncapsulatedResponse _ _ => [.host, .trust, .out, .egress]
  | .endSession _ => [.host, .trust, .out, .egress]
  | .spdmHeartbeat _ => [.host, .trust, .out, .egress]
  | .heartbeatExpiry _ => [.trust]
  | .keyUpdate _ _ => [.host, .trust, .out, .egress, .page .key]
  | .chunkSend _ _ _ => [.host, .trust, .out, .egress]
  | .chunkGet _ _ => [.host, .trust, .out, .egress]
  | .unsupportedRequest _ _ => [.host, .trust, .out, .egress]
  | .securedMsgAuthFail _ => [.faults, .trust, .out, .egress, .page .key, .page .err]
  | .kemGet _ => [.host, .trust, .out, .egress, .draws, .page .key]
  | .kemPut _ _ => [.host, .trust, .out, .egress, .page .key]
  | .reportGet _ _ => Part.set4
  | .release _ _ => [.power, .time, .links, .gait, .faults, .host, .fns, .sync, .trust, .dbg, .out, .egress, .draws, .page .func,
      .page .key, .page .time, .page .err, .page .gait, .page .cmb, .page .hitch, .page .lpt, .page .vf]
  | .slotQuery _ => [.host, .trust, .out, .egress]
  | .ideQuery _ _ _ => Part.set5
  | .keyProg _ _ _ _ _ _ _ _ => Part.set5
  | .kSetGo _ _ _ _ _ _ => Part.set5
  | .kSetStop _ _ _ _ _ _ => Part.set5
  | .koAck _ _ => Part.set5
  | .getTdispVersion _ _ => [.host, .trust, .out, .egress, .page .key]
  | .getTdispCapabilities _ _ => [.host, .trust, .out, .egress, .draws, .page .key]
  | .lockInterfaceRequest _ _ _ => [.faults, .host, .front, .trust, .out, .egress, .draws, .page .key, .page .err]
  | .getDeviceInterfaceReport _ _ _ _ => [.host, .trust, .out, .egress, .page .key]
  | .getDeviceInterfaceState _ _ => [.host, .trust, .out, .egress, .page .key]
  | .startInterfaceRequest _ _ _ => [.faults, .host, .front, .trust, .out, .egress, .page .key, .page .err]
  | .stopInterfaceRequest _ _ => [.outs, .pkg, .power, .links, .gait, .faults, .host, .front, .objs, .mem, .bytes, .trust, .dbg, .out,
      .egress, .draws, .page .func, .page .key, .page .time, .page .err, .page .mch, .page .lpt, .page .ctxs, .page .fns, .page .vf]
  | .saddleOperation _ => [.outs, .pkg, .links, .gait, .faults, .trust, .ccip, .out, .egress, .draws, .page .key, .page .time,
      .page .err, .page .ccip, .page .lpt]
  | .endSessions _ => [.boot, .faults, .trust, .out, .egress, .page .key, .page .err]
  | .keyHaDone _ => Part.allBut [.pins, .latches, .time, .fns, .red, .fab, .coh, .cmb, .ccip, .lc, .bist, .page .ver, .page .cr,
      .page .lcs, .page .hlt, .page .trc, .page .cnt, .page .bst, .page .ccip, .page .gait, .page .gw, .page .coh, .page .cmb,
      .page .hitch, .page .red]
  | .tamper => Part.allBut [.time, .draws, .page .lcs]
  | .tamperClear => [.pins, .boot]
  | .ccipStart _ _ => [.boot, .faults, .ccip, .out, .egress, .page .err, .page .ccip]
  | .ccipAbort _ _ => [.boot, .faults, .ccip, .out, .egress, .page .err, .page .ccip]
  | .ccipJobDone _ _ _ _ => [.faults, .ccip, .out, .egress, .page .err, .page .ccip]
  | .ccipKeyTrng _ _ _ => Part.set18
  | .ccipKeyDerive _ _ _ _ => Part.set18
  | .ccipKeyErase _ _ => Part.set18
  | .holdupAck => [.pins, .lc, .bist, .page .lcs, .page .bst]
  | .holdupTimeout => [.pins, .outs, .faults, .front, .lc, .bist, .out, .egress, .page .lcs, .page .bst, .page .err]
  | .commitPhaseDone _ => Part.allBut [.time]
  | .lcsExport _ => Part.allBut [.pins, .latches, .time, .host, .fns, .red, .fab, .coh, .cmb, .trust, .ccip, .lc, .bist, .page .ver,
      .page .cr, .page .hlt, .page .trc, .page .cnt, .page .bst, .page .ccip, .page .gait, .page .gw, .page .coh, .page .cmb,
      .page .hitch, .page .red]
  | .halterLine _ _ => Part.allBut []
  | .halterVer => [.boot, .faults, .out, .egress, .page .hlt, .page .err]
  | .halterStat => [.boot, .faults, .out, .egress, .page .hlt, .page .err]
  | .halterErr => [.boot, .faults, .out, .egress, .page .hlt, .page .err]
  | .halterRd _ => Part.allBut [.pins, .outs, .pkg, .time, .links, .gait, .host, .front, .objs, .fns, .mem, .bytes, .sync, .red, .fab,
      .coh, .cmb, .trust, .ccip, .lc, .dbg, .bist, .draws]
  | .halterWr _ _ => Part.allBut []
  | .halterMrd _ _ => Part.allBut [.pins, .latches, .time, .host, .fns, .red, .fab, .coh, .cmb, .trust, .ccip, .lc, .bist, .page .ver,
      .page .cr, .page .lcs, .page .trc, .page .cnt, .page .bst, .page .ccip, .page .gait, .page .gw, .page .coh, .page .cmb,
      .page .hitch, .page .red]
  | .halterMwr _ _ => Part.allBut [.pins, .latches, .time, .host, .fns, .red, .fab, .coh, .cmb, .trust, .ccip, .lc, .bist, .page .ver,
      .page .cr, .page .lcs, .page .trc, .page .cnt, .page .bst, .page .ccip, .page .gait, .page .gw, .page .coh, .page .cmb,
      .page .hitch, .page .red]
  | .halterDevid => [.boot, .faults, .out, .egress, .page .hlt, .page .err]
  | .halterLc => [.boot, .faults, .dbg, .out, .egress, .page .hlt, .page .err]
  | .halterRst => Part.allBut [.pins, .time, .draws, .page .lcs]
  | .halterDisable _ => Part.allBut []
  | .traceSync => [.out, .egress, .draws]
  | .cntSnap _ => [.boot, .faults, .out, .egress, .page .cnt, .page .err]
  | .cntClear _ => [.boot, .faults, .dbg, .out, .egress, .page .cnt, .page .err]
  | .triageRetire _ => Part.set16
  | .triageRebuild _ => Part.set16
  | .triageLeave _ => [.boot, .faults, .out, .egress, .page .func, .page .err]
  | .watchdogExpiry _ => [.front, .out, .egress]
  | .watchdogGraceExpiry _ => Part.set1
  | .dcpStall _ => Part.set1
  | .crstNow _ => Part.allBut [.pins, .latches, .time, .host, .red, .fab, .cmb, .trust, .ccip, .lc, .bist, .page .ver, .page .cr,
      .page .lcs, .page .hlt, .page .trc, .page .cnt, .page .bst, .page .ccip, .page .hitch, .page .red]
  | .crstHoldExpiry => [.faults]
  | .crstDeassert => [.outs, .faults]
  | .dcpIdleTimeout => [.outs, .faults, .out, .egress, .page .err]
  | .crstHeartbeatWaitEnd => Part.set3
  | .persistProbeExpiry => Part.set10
  | .suspectReplay _ _ => [.outs, .boot, .pkg, .power, .links, .gait, .faults, .front, .objs, .mem, .bytes, .dbg, .out, .egress, .draws,
      .page .func, .page .key, .page .time, .page .err, .page .mch, .page .lpt, .page .ctxs, .page .fns, .page .vf]
  | .suspectFail _ _ => [.outs, .boot, .pkg, .power, .links, .gait, .faults, .front, .objs, .mem, .bytes, .sync, .dbg, .out, .egress,
      .draws, .page .func, .page .key, .page .time, .page .err, .page .mch, .page .lpt, .page .fe, .page .ctxs, .page .fns, .page .vf]
  | .suspectDrop _ _ => [.outs, .boot, .pkg, .power, .links, .gait, .faults, .front, .objs, .mem, .bytes, .dbg, .out, .egress, .draws,
      .page .func, .page .key, .page .time, .page .err, .page .mch, .page .lpt, .page .ctxs, .page .fns, .page .vf]
  | .oosHoldExpiry => Part.allBut [.pins, .time, .out, .draws, .page .lcs]
  | .instReset _ => Part.allBut [.pins, .time, .draws, .page .lcs]
  | .bistRun _ => Part.allBut [.pins, .latches, .time, .fab, .coh, .cmb, .trust, .ccip, .lc]
  | .bistAbort _ => Part.allBut [.pins, .latches, .time, .fab, .coh, .cmb, .trust, .ccip, .lc, .page .ver, .page .cr, .page .lcs,
      .page .hlt, .page .trc, .page .cnt, .page .ccip, .page .gw, .page .coh]
  | .bistRunDone _ _ => Part.allBut [.pins, .latches, .boot, .time, .fab, .coh, .cmb, .trust, .ccip, .lc, .page .ver, .page .cr,
      .page .lcs, .page .hlt, .page .trc, .page .cnt, .page .ccip, .page .gw, .page .coh]
  | .burn _ => [.outs, .boot, .faults, .bist, .out, .egress, .page .bst, .page .err]
  | .holdLock _ => [.outs, .boot, .faults, .bist, .out, .egress, .page .bst, .page .err]
  | .hostCompletion _ _ _ => Part.allBut [.pins, .latches, .boot, .time, .red, .cmb, .ccip, .bist, .page .ver, .page .cr, .page .hlt,
      .page .trc, .page .cnt, .page .bst, .page .ccip, .page .hitch, .page .red]
  | .hostReadTimeout _ => Part.allBut [.pins, .latches, .boot, .time, .red, .cmb, .ccip, .bist, .page .ver, .page .cr, .page .hlt,
      .page .trc, .page .cnt, .page .bst, .page .ccip, .page .hitch, .page .red]
  | .hostLinkDown => Part.allBut [.latches, .boot, .time, .red, .cmb, .ccip, .bist, .page .ver, .page .cr, .page .hlt, .page .trc,
      .page .cnt, .page .bst, .page .ccip, .page .hitch, .page .red]
  | .doeAccess _ _ _ => [.host, .out, .egress]
  | .scanModeEntry => Part.allBut [.pins, .time, .draws, .page .lcs]
  | .lsqProtocol _ _ _ _ => [.faults, .out, .egress, .page .err, .page .fe]
  | .registerRead _ _ _ => Part.allBut [.pins, .outs, .boot, .pkg, .time, .links, .gait, .host, .front, .objs, .fns, .mem, .bytes, .sync,
      .red, .fab, .coh, .cmb, .trust, .ccip, .lc, .dbg, .bist, .draws]
  | .vfEnableChange _ _ => [.pins, .faults, .front, .out, .egress, .page .key, .page .err, .page .vf]
  | .hostLinkUp => [.pins, .out, .egress]
  | .generationQuarantineEnd => Part.set1
  | .burnDone _ _ => [.outs, .faults, .lc, .bist, .out, .egress, .page .bst, .page .err]
  | .koAckTimeout => Part.set5
  | .unwrapAbandon _ => [.power, .faults, .mem, .bytes, .out, .egress, .draws, .page .func, .page .key, .page .err, .page .mch]

end Sys2Proof.Machine
end

