-- ==== Sys2Proof/Certificates/Slice0/Obligations.lean ====
section
/-! DEFINITION. The statements for the provers. Each docstring says which rules of spec/ its statement formalises. Where a clause rests on
the model's own choice the docstring names the entry of the assumption log. -/

open Sys2Proof Sys2Proof.Machine

/-- POWER_ON_RESET answers a state in block reset with no key slot, no link, no memory byte, time restarted, TAMPER latch
cleared and CHECK_KEY drawn; BLOCK_RESET and INST_RESET answer a state in block reset that keeps slots 8 to 31, the
join record, DT and the fuses, and in which every register of a page of block, LR or FR scope except KEY's reads its
reset value; LR_REGION_RESET loses reduction, fabric, coherence and combining state; FR_REGION_RESET loses queues,
packets, functions and objects; OOS_HOLD_EXPIRY is a block reset when ISTATE is 3 and AUTO_RESET is set. (R12, R24,
R37, R453, R452) -/
def Obligations.ResetCommandsComplete : Prop :=
  (∀ (f : Fuses) (s : State), ∃ t, exec (.powerOnReset f) s = .next t ∧ t.boot.phase = .inReset ∧ t.trust.slots = [] ∧
    t.trust.join = none ∧ t.trust.checkKey = Config.trng s.draws ∧ t.links = [] ∧ t.mem = Mem.empty ∧ t.time = Time.empty ∧
    t.build = s.build ∧ t.pins = s.pins) ∧
  (∀ s : State, ∃ t, exec .blockReset s = .next t ∧ t.boot.phase = .inReset ∧
    t.trust.slots = s.trust.slots.filter (fun e => 8 ≤ e.1) ∧ t.trust.join = s.trust.join ∧ t.time = s.time ∧
    t.lc.fuses = s.lc.fuses ∧ t.mem = Mem.empty ∧ t.front = Front.empty ∧
    ∀ a p, Page.ofSlot (a / 0x1000) = some p → p.fam.scope ≠ .por → p.fam ≠ .key → t.reg a = windowReset a) ∧
  (∀ (p : Party) (s : State), s.boot.phase = .running → mayWrite p Page.err = true →
    exec (.instReset p) s = exec .blockReset s ∧ ∃ t, exec (.instReset p) s = .next t ∧ t.boot.phase = .inReset) ∧
  (∀ s : State, s.boot.phase = .running → s.istate = 3 → s.rdb Page.err Reg.ERR_CFG.AUTO_RESET = true →
    exec .oosHoldExpiry s = exec .blockReset s ∧ ∃ t, exec .oosHoldExpiry s = .next t ∧ t.boot.phase = .inReset) ∧
  (∀ s : State, s.serving = true → ∃ t, exec .lrRegionReset s = .next t ∧ t.red = Red.empty ∧ t.cmb = Cmb.empty ∧ t.gait.banks = []) ∧
  (∀ s : State, s.serving = true → ∃ t, exec .frRegionReset s = .next t ∧ t.objs = Objects.empty ∧ t.fns = [] ∧
    t.front.queues = [] ∧ t.front.pkts = [] ∧ t.front.launches = [] ∧ t.front.seqs = [] ∧ t.faults.suspects = [])

/-- BLOCK_RESET_DEASSERT samples the straps; a boot run without findings passes and leads to layer 0; LAYER0_IDENTITY
records the measurements and, unless the part is in MAKER or SCRAPPED, fills slots 2 and 3; FIRMWARE_LOAD of two good
images of release 1.4 starts the firmware; a service pair mismatch halts the pair, its restart ends the halt, a
security pair mismatch clears the saddle and is fatal-to-instance; a faulty front-end slice is out of SLICE_OK and
back after its restart; a faulty link cluster reports ENGINE_FAULT and goes DARK with cause 2. (R3, R6, R18, R19,
R364, R459) -/
def Obligations.BootCommandsComplete : Prop :=
  (∀ (role : Bool) (inst : Nat) (policy : Bool) (s : State), s.boot.phase = .inReset → s.boot.tampered = false →
    s.outs.scan = false → s.lc.fuses.lost = false → (role = true ∨ s.build.mrBuilt = true ∧ s.build.dcpCount ≠ 0) →
    inst ≤ s.build.sibCount →
    ∃ t, exec (.blockResetDeassert role inst policy) s = .next t ∧ t.boot.phase = .sampled ∧ t.boot.post = role ∧
      t.boot.inst = inst ∧ t.boot.policyRepair = policy ∧ t.outs.crstN = !role ∧ t.outs.mrPwrEn = !role) ∧
  (∀ s : State, s.boot.phase = .sampled →
    ∃ t, exec (.bootRun []) s = .next t ∧ t.boot.phase = .bistDone ∧ t.outs.bistDone = true ∧ t.outs.bistPass = true) ∧
  (∀ (sec svc : Dig384) (s : State), s.boot.phase = .bistDone → s.trust.measKept = none →
    ∃ t, exec (.layer0Identity sec svc) s = .next t ∧ t.boot.phase = .layer0Done ∧ t.trust.measSec = sec ∧ t.trust.measSvc = svc ∧
      (s.lc.fuses.state ≠ 0 → s.lc.fuses.state ≠ 4 →
        (t.slot 2).kind = 2 ∧ (t.slot 2).state = 1 ∧ (t.slot 3).kind = 2 ∧ (t.slot 3).state = 1)) ∧
  (∀ (a b : W32) (s : State), s.boot.phase = .layer0Done → releaseOk a = true → releaseOk b = true →
    ∃ t, exec (.firmwareLoad true true a b) s = .next t ∧ t.boot.phase = .running ∧ t.boot.fwSec = a ∧ t.boot.fwSvc = b) ∧
  (∀ s : State, s.boot.phase = .running → s.lockstepOff = false →
    exec .lockstepSvcMismatch s =
      .next (({ s with boot := { s.boot with svcHalted := true } } : State).err Page.err Err.err.LOCKSTEP_SVC)) ∧
  (∀ s : State, s.boot.phase = .running → s.lockstepOff = false →
    exec .lockstepSecMismatch s =
      .next (({ s with trust := { s.trust with saddleQ := [] } } : State).fatal Page.err Err.err.LOCKSTEP_SEC)) ∧
  (∀ s : State, s.boot.svcWait = [] →
    exec .svcPairRestartDone s = .next { s with boot := { s.boot with svcHalted := false, svcWait := [] } }) ∧
  (∀ (slot : Nat) (s : State), s.serving = true → 0x40 ≤ slot → slot < 0x40 + s.ports → slot < 0x80 →
    exec (.clusterFault slot) s = .next ((s.err (Page.lpt (slot - 0x40)) Err.lpt.ENGINE_FAULT
      { place := slot - 0x40, placeKind := 5 }).darken (slot - 0x40) 2)) ∧
  (∀ (k : Nat) (s : State), s.serving = true → k < 8 → s.bist.out.contains (88 + k) = false →
    exec (.sliceRestartDone k) s = .next (if s.sliceOk k then s
      else s.wr Page.fe Reg.FE_STATUS.SLICE_OK (s.rd Page.fe Reg.FE_STATUS.SLICE_OK + 2 ^ k)))

/-- LEAD_HEARTBEAT sends one heartbeat on each sibling port; SIB_HEARTBEAT takes its sender off the list of those out of
service and shows its port UP; SIB_OUT_OF_SERVICE and LEAD_LOST put the sibling on that list, and a lost lead can
never lead again; REPORT_REQ is answered by the latest report, which the sibling then vouches for to the lead that
asked, unless the report is from before the last change of lead; REPORT_DATA keeps the report's SHA-384 and no longer
awaits its sender. (R22, R382, R451) -/
def Obligations.PackageCommandsComplete : Prop :=
  (∀ s : State, s.serving = true → s.isLead = true →
    exec .leadHeartbeat s = .next (s.sendSibs (List.range s.build.sibCount) .heartbeat)) ∧
  (∀ (port gen : Nat) (s : State), s.serving = true → port < s.build.sibCount → port < 3 →
    ∃ t, exec (.sibHeartbeat port gen) s = .next t ∧ t.pkg.out.contains (s.sibAt port) = false ∧
      bit (t.rd Page.cr Reg.CR_SIB_STATUS.UP) port = true) ∧
  (∀ (port : Nat) (s : State), s.serving = true → port < s.build.sibCount → s.pkg.awaited = [] → s.trust.hostMeas = none →
    ∃ t, exec (.sibOutOfService port) s = .next t ∧ t.pkg.out.contains (s.sibAt port) = true ∧
      (s.sibAt port = s.pkg.lead → t.pkg.everLost = s.pkg.lead :: s.pkg.everLost)) ∧
  (∀ s : State, s.serving = true → s.isLead = false → s.pkg.awaited = [] → s.trust.hostMeas = none →
    ∃ t, exec .leadLost s = .next t ∧ t.pkg.out.contains s.pkg.lead = true ∧ t.pkg.everLost = s.pkg.lead :: s.pkg.everLost) ∧
  (∀ (port : Nat) (s : State), s.serving = true → port < s.build.sibCount →
    ∃ t h, exec (.reportReq port) s = .next t ∧
      t.out = s.out ++ [.sib port (s.link (64 + port)).txCtl (.reportData s.trust.lastReport) h] ∧
      (s.sibAt port = s.pkg.lead → s.trust.lastReport.isEmpty = false → s.pkg.stale = false →
        t.pkg.vouched = reportNonce s.trust.lastReport :: s.pkg.vouched) ∧
      (s.pkg.stale = true → t.pkg = s.pkg)) ∧
  (∀ (port : Nat) (body : List Byte) (s : State), s.serving = true → s.isLead = true → port < s.build.sibCount → body ≠ [] →
    s.trust.hostMeas = none →
    exec (.reportData port body) s = .next { s with pkg := { s.pkg with
      reports := SMap.set s.pkg.reports (s.sibAt port) (Config.sha384 body)
      awaited := s.pkg.awaited.filter (· != s.sibAt port) } })

/-- An idle timer gates a present, idle cluster and nothing else; a wake ungates it and nothing else; MR goes OFF on a
request when nothing stands against it, with SLEEP and without supply once the write-back is done; a wake asks for the
supply; good supply ends OFF; loss of an enabled supply takes the instance out of service. (R25, R27, R28, R32, R291,
R505) -/
def Obligations.PowerCommandsComplete : Prop :=
  (∀ (k c : Nat) (s : State), s.serving = true → s.rdb Page.cr Reg.CR_PWR_CTRL.AUTO_GATE_EN = true → clusterAt k = some c →
    s.targetAbsent c = false → s.clusterBusy k = false → s.gatedSlot k = false →
    exec (.idleTimerExpiry k) s = .next { s with power := { s.power with gated := k :: s.power.gated } }) ∧
  (∀ (k : Nat) (s : State), s.serving = true →
    exec (.clusterWake k) s = .next { s with power := { s.power with gated := s.power.gated.filter fun x => !([k].contains x) } }) ∧
  (∀ s : State, s.mount = true → s.power = Power.empty → s.mrMayOff = true →
    ∃ t, exec (.mrOffReq none) s = .next t ∧ t.pins.mrOffReq = true ∧ t.power.mrGoingOff = true ∧ t.mem.bytes = s.mem.bytes) ∧
  (∀ s : State, s.mount = true → s.power = Power.empty → s.mrMayOff = false →
    exec (.mrOffReq none) s =
      .next (({ s with pins := { s.pins with mrOffReq := true } } : State).wr Page.cr Reg.CR_PWR_STATUS.MR_OFF_REFUSED 1)) ∧
  (∀ s : State, s.mount = true → s.power.mrGoingOff = true → (s.chanList.any fun n => (s.chan n).farState == 1 || !(s.chan n).reenc.isEmpty) = false →
    ∃ t, exec .mrOffEntered s = .next t ∧ t.power.mrOff = true ∧ t.power.mrGoingOff = false ∧ t.outs.sleep = true ∧
      t.outs.mrPwrEn = false) ∧
  (∀ s : State, s.mount = true → s.power.mrOff = true → s.power.mrWaking = false →
    exec .mrWake s = .next { s with power := { s.power with mrWaking := true }, outs := { s.outs with mrPwrEn := true } }) ∧
  (∀ s : State, s.mount = true → s.power.mrWaking = true →
    ∃ t, exec .mrSupplyGood s = .next t ∧ t.power.mrOff = false ∧ t.power.mrWaking = false ∧ t.outs.sleep = false ∧
      t.pins.mrPwrGood = true) ∧
  (∀ s : State, s.mount = true → s.outs.mrPwrEn = true → s.power.mrWaking = false →
    exec .mrSupplyLoss s = .next ({ s with pins := { s.pins with mrPwrGood := false } } : State).outOfService ∧
    ∃ t, exec .mrSupplyLoss s = .next t ∧ t.outs.errFatalN = false ∧ t.outs.crstN = false)

/-- A 4-byte read of a register that is no half of a pair answers the register's value and changes nothing but the outbox
and the gating of its cluster; reading the lower half of TIME_NOW captures the upper half; a PF write of
GW_RMT_TIMEOUT stores the value clamped to 10 to 1,000, or, on a locked page, leaves it; writing the lower half of a
pair changes only the write latch; writing 1 to LOCK sets LOCKED of that page and writing 0 changes nothing there; an
access outside a party's rights sets PRIV and changes no other register of its page. (R9, R39, R41, R42, R44, R51,
R53) -/
def Obligations.RegisterAccessCompletes : Prop :=
  (∀ (p : Party) (addr off : Nat) (pg : Page) (s : State), s.boot.phase = .running → target p addr = some (pg, off) → pg.fam ≠ .ccip →
    pg.fam ≠ .time → s.present pg = true → s.barDead p = false → mayRead p pg = true → off % 4 = 0 → isLo pg off = false →
    isHi pg off = false →
    exec (.registerRead p addr 4) s =
      .next ((s.wakeFor pg off).emit (.regData p (BitVec.ofNat 64 ((s.wakeFor pg off).look pg off).toNat)))) ∧
  (∀ s : State, s.boot.phase = .running →
    ∃ t, exec (.pairHalfRead .pf 0x5020) s = .next t ∧
      (t.latch .pf Page.time).rd = some (0x20, (s.wakeFor Page.time 0x20).look Page.time 0x24) ∧
      (t.latch .pf Page.time).frac = s.dt % 256 ∧ t.regs = s.regs) ∧
  (∀ (v : W64) (s : State), s.boot.phase = .running → s.boot.post = false → s.locked Page.gw = false →
    ∃ t, exec (.registerWrite .pf (Page.gw.base + 0x24) 4 v) s = .next t ∧
      t.rd Page.gw Reg.GW_RMT_TIMEOUT.US = max 10 (min 1000 (v.toNat % 1024)) ∧
      ∀ a, a ≠ Page.gw.base + 0x24 → t.reg a = s.reg a) ∧
  (∀ (v : W64) (s : State), s.boot.phase = .running → s.boot.post = false → s.locked Page.gw = true →
    ∃ t, exec (.registerWrite .pf (Page.gw.base + 0x24) 4 v) s = .next t ∧
      t.rd Page.gw Reg.GW_RMT_TIMEOUT.US = s.rd Page.gw Reg.GW_RMT_TIMEOUT.US) ∧
  (∀ (v : W32) (s : State), s.boot.phase = .running →
    ∃ t, exec (.pairHalfWrite .pf 0x5048 v) s = .next t ∧ (t.latch .pf Page.time).wr = some (0x48, v) ∧ t.regs = s.regs) ∧
  (∀ (p : Party) (slot : Nat) (pg : Page) (v : W32) (s : State), s.boot.phase = .running → Page.ofSlot slot = some pg →
    s.present pg = true → s.barDead p = false → s.writeOk p pg hdrLock = true → s.frozen pg = false → s.absentReg pg hdrLock = false →
    isLo pg hdrLock = false → isHi pg hdrLock = false →
    exec (.lockWrite p slot v) s = .next (if v.getLsbD 0 then s.setReg (pg.base + hdrLock) 1 else s)) ∧
  (∀ (p : Party) (addr off size : Nat) (pg : Page) (v : W64) (s : State), s.boot.phase = .running → target p addr = some (pg, off) →
    s.present pg = true → s.barDead p = false → s.writeOk p pg off = false →
    exec (.registerWrite p addr size v) s = .next (s.err pg Err.PRIV))

/-- ERR_INJECT_WRITE with no page-specific bit changes nothing, and with the parent-loss bit of TIME on a block without
that error leaves an injected report of it; VER_SW_ARCH_WRITE with a major version negotiates 1.0 once;
ERR_REC_RPTR_WRITE of a value within the unread records advances the pointer; HA_TIMEOUT_WITHDRAW ends the pending
request of function 1 and sets its fallback bit. (R50, R57, R60, R62, R438) -/
def Obligations.HeaderCommandsComplete : Prop :=
  (∀ (p : Party) (slot : Nat) (pg : Page) (v : W32) (s : State), s.boot.phase = .running → Page.ofSlot slot = some pg →
    s.present pg = true → mayWrite p pg = true →
    exec (.errInjectWrite p slot v) s = .next (s.inject pg v)) ∧
  (∀ (p : Party) (s : State), s.boot.phase = .running → mayWrite p Page.time = true → s.conf = false → s.lc.fuses.state ≠ 4 →
    s.lcState ≠ 4 → s.istate ≠ 3 → (s.reg (Page.time.base + hdrErrStatus)).getLsbD Err.time.PARENT_LOST = false →
    ∃ t, exec (.errInjectWrite p 5 (BitVec.ofNat 32 (2 ^ Err.time.PARENT_LOST))) s = .next t ∧
      (t.reg (Page.time.base + hdrErrStatus)).getLsbD Err.time.PARENT_LOST = true) ∧
  (∀ (v : W32) (s : State), s.boot.phase = .running → s.negotiated = false → fieldOf v 8 8 ≠ 0 →
    ∃ t, exec (.verSwArchWrite .pf v) s = .next t ∧ t.negotiated = true ∧ t.rd Page.ver Reg.VER_NEG.MAJOR = 1 ∧
      t.rd Page.ver Reg.VER_NEG.MINOR = 0 ∧ t.rd Page.ver Reg.VER_SW_ARCH.MAJOR = fieldOf v 8 8) ∧
  (∀ (v : W32) (s : State), s.boot.phase = .running → (fieldOf v 0 16 + 65536 - s.recRptr) % 65536 ≤ s.unread →
    ∃ t, exec (.errRecRptrWrite .pf v) s = .next t ∧ t.recRptr = fieldOf v 0 16 ∧ t.recWptr = s.recWptr) ∧
  (∀ s : State, s.serving = true → s.haPending 1 = true → s.boot.svcHalted = false →
    exec (.haTimeoutWithdraw 1) s =
      .next (((s.haClear 1).fallback 1).chanList.foldl (fun s k => s.wr (Page.mch k) Reg.MCH_STATUS.WAIT_GRANT 0)
        { (s.haClear 1).fallback 1 with mem := { ((s.haClear 1).fallback 1).mem with farCut := true } }))

/-- A check mismatch reloads the bad copy from the clean one, goes FREE and reports TB_CHECK; the PPS commands store the
edge, note its loss and drive PPS_OUT; a mark leaves with the next sequence number and its departure is kept; an
arriving mark's sequence number and arrival time are kept, and with authentication the neighbour's fields; a block
without a grandmaster elects itself with the next term; GM_LOST, HOLDOVER_EXPIRED, PARENT_LOST and STEER_DISABLE take
the transitions of the table of time states. (R64, R66, R67, R68, R69, R71, R79) -/
def Obligations.TimeCommandsComplete : Prop :=
  (∀ (cleanA : Bool) (s : State), exec (.tbCheckMismatch cleanA) s = .next
    (({ s with time := if cleanA then { s.time with dtB := s.time.dtA, resB := s.time.resA }
        else { s.time with dtA := s.time.dtB, resA := s.time.resB } } : State).toFree.err Page.time Err.time.TB_CHECK)) ∧
  (∀ (sub : Nat) (s : State), s.isGm = false →
    ∃ t, exec (.ppsInEdge sub) s = .next t ∧ t.time.lastPps = some s.now ∧ t.rdb Page.time Reg.TIME_STATUS.PPS_PRESENT = true ∧
      t.rd Page.time Reg.TIME_PPS_LAST_FRAC.FRAC = s.stamp sub % 256) ∧
  (∀ s : State, s.isGm = false →
    exec .ppsLost s = .next (s.wr Page.time Reg.TIME_STATUS.PPS_PRESENT 0)) ∧
  (∀ s : State, s.rdb Page.time Reg.TIME_CTRL.PPS_OUT_EN = true →
    exec .ppsOutCrossing s = .next { s with outs := { s.outs with ppsOut := true } }) ∧
  (∀ s : State, exec .ppsOutFall s = .next { s with outs := { s.outs with ppsOut := false } }) ∧
  (∀ (port sub : Nat) (s : State), s.serving = true → port < 64 → port < s.ports → s.marks port = true →
    ∃ t, exec (.mark port sub) s = .next t ∧
      t.out = s.out ++ [.flit port (s.link port).txCtl (.mark (s.markOut port)) (s.flitHdr port (.mark (s.markOut port)))] ∧
      (t.ptime port).txSeq = ((s.ptime port).txSeq + 1) % 65536 ∧ t.regs = s.regs) ∧
  (∀ (port : Nat) (m : MarkFields) (chk : UnitCheck) (unauth : Bool) (q sub : Nat) (s : State), s.serving = true → port < s.ports →
    port < 64 → s.marks port = true → chk.fecBad = false → chk.chkBad = false → s.sealedPort port = false →
    ∃ t, exec (.markReceive port m chk { unauth := unauth, seqLo := q } sub) s = .next t ∧ (t.ptime port).rx = some (m.seq, s.stamp sub) ∧
      (t.ptime port).peer = (s.ptime port).peer) ∧
  (∀ (port : Nat) (m : MarkFields) (chk : UnitCheck) (q sub : Nat) (s : State), s.serving = true → port < s.ports → port < 64 →
    s.marks port = true → chk.fecBad = false → chk.chkBad = false → chk.tagOk = true → s.sealedPort port = true →
    s.rdb Page.time Reg.TIME_CTRL.STEER_EN = false → s.ctlNext port ≤ s.ctlSeq port q →
    (s.armedAt Page.time Err.time.MARK_AUTH) = none →
    ∃ t, exec (.markReceive port m chk { unauth := false, seqLo := q } sub) s = .next t ∧ (t.ptime port).rx = some (m.seq, s.stamp sub) ∧
      (t.ptime port).peer = some { m := m, auth := true, at_ := s.now } ∧
      (t.link port).rxCtl = some (s.ctlSeq port q)) ∧
  (∀ s : State, s.serving = true → s.candidate = true → s.isGm = false → s.rdb Page.time Reg.TIME_CTRL.STEER_EN = true →
    s.gmKnown = none → ((List.range s.ports).any s.upWithMarks) = true →
    ∃ t, exec .gmSelfElect s = .next t ∧ t.timeState = 2 ∧ t.isGm = true ∧ t.time.topTerm = (s.time.topTerm + 1) % 65536 ∧
      t.rd Page.time Reg.TIME_GM_TERM.TERM = (s.time.topTerm + 1) % 65536 ∧
      t.rd Page.time Reg.TIME_GM_ID.PRIO = s.rd Page.time Reg.TIME_GM_CFG.PRIO) ∧
  (∀ s : State, s.serving = true → s.timeState = 2 → s.isGm = false → s.gmNow = none →
    exec .parentLost s = .next s.toHoldover ∧ ∃ t, exec .parentLost s = .next t ∧ t.timeState = 1 ∧ t.time.holdAt = s.now) ∧
  (∀ s : State, s.serving = true → s.timeState = 1 → exec .gmLost s = .next (s.err Page.time Err.time.GM_LOST)) ∧
  (∀ s : State, s.boot.phase = .running → s.timeState = 1 →
    exec .holdoverExpired s = .next (s.toFree.err Page.time Err.time.HOLDOVER_EXPIRED) ∧
    ∃ t, exec .holdoverExpired s = .next t ∧ t.timeState = 0 ∧ t.rd Page.time Reg.TIME_STATUS.HOPS = 15) ∧
  (∀ (p : Party) (s : State), s.boot.phase = .running → mayWrite p Page.time = true → s.locked Page.time = false →
    exec (.steerDisable p) s = .next (((s.wr Page.time Reg.TIME_CTRL.STEER_EN 0).toFree).setRate 0))

/-- A rise of PHY_READY in DOWN, the retry timer and RETRAIN begin TRAINING with a fresh nonce; a fall in UNKEYED leads to
DOWN; CAP is sent and taken; a timeout ends in DOWN with code 5; an unauthenticated DARK outside UP leads to DOWN;
GO_DARK and PORT_DISABLE lead to DISABLED with causes 1 and 5. (R116, R126, R127, R129, R130, R131) -/
def Obligations.TrainingCommandsComplete : Prop :=
  (∀ (port : Nat) (s : State), s.serving = true → port < s.ports → port < 64 → s.lstate port = 0 → (s.link port).trained = false →
    s.rdb (Page.lpt port) Reg.LPT_CTRL.ENABLE = true →
    ∃ t, exec (.phyReadyRise port) s = .next t ∧ t.lstate port = 1 ∧ t.rdb (Page.lpt port) Reg.LPT_STATUS.PHY_READY = true ∧
      (t.link port).nonceOwn = (Config.trng s.draws).toNat % 2 ^ 64) ∧
  (∀ (port : Nat) (s : State), s.serving = true → port < s.ports → port < 64 → s.lstate port = 0 → (s.link port).trained = false →
    s.rdb (Page.lpt port) Reg.LPT_CTRL.ENABLE = true → s.rdb (Page.lpt port) Reg.LPT_STATUS.PHY_READY = true →
    ∃ t, exec (.trainRetryTimer port) s = .next t ∧ t.lstate port = 1 ∧ (t.link port).nonceOwn = (Config.trng s.draws).toNat % 2 ^ 64) ∧
  (∀ (p : Party) (port : Nat) (s : State), s.boot.phase = .running → mayWrite p (Page.lpt port) = true → port < s.ports → port < 64 →
    s.lstate port = 0 → (s.link port).trained = false → s.rdb (Page.lpt port) Reg.LPT_CTRL.ENABLE = true →
    s.rdb (Page.lpt port) Reg.LPT_STATUS.PHY_READY = true →
    ∃ t, exec (.retrain p port) s = .next t ∧ t.lstate port = 1 ∧ (t.link port).nonceOwn = (Config.trng s.draws).toNat % 2 ^ 64) ∧
  (∀ (port : Nat) (s : State), s.serving = true → port < s.ports → port < 64 → s.lstate port = 2 →
    exec (.phyReadyFall port) s = .next ((s.wr (Page.lpt port) Reg.LPT_STATUS.PHY_READY 0).setLstate port 0)) ∧
  (∀ (port : Nat) (s : State), s.serving = true → port < s.ports → s.lstate port = 1 →
    exec (.capSend port) s = .next (s.sendFlit port (.cap (s.capOut port)))) ∧
  (∀ (port : Nat) (c : CapFields) (chk : UnitCheck) (s : State), s.serving = true → port < s.ports → port < 64 → s.lstate port = 1 →
    chk.fecBad = false → chk.chkBad = false → (s.link port).echoed = false → c.echo % 65536 ≠ (s.link port).nonceOwn % 65536 →
    ∃ t, exec (.cap port c chk) s = .next t ∧ (t.link port).cap = some c ∧ (t.link port).noncePeer = some c.nonce ∧
      t.rd (Page.lpt port) Reg.LPTn_PEER_ID.PORT_ID = c.portId % 2 ^ 32 ∧ t.lstate port = 1) ∧
  (∀ (port : Nat) (s : State), s.serving = true → port < s.ports → port < 64 → s.lstate port = 1 →
    ∃ t, exec (.trainTimeout port) s = .next t ∧ t.lstate port = 0 ∧ t.rd (Page.lpt port) Reg.LPTn_TRAIN_FAIL.CODE = 5) ∧
  (∀ (port cause : Nat) (chk : UnitCheck) (q : Nat) (s : State), s.serving = true → port < s.ports → port < 64 → s.lstate port ≠ 5 →
    s.lstate port ≠ 3 → chk.fecBad = false → chk.chkBad = false → cause < 8 →
    ∃ t, exec (.dark port cause chk true q) s = .next t ∧ t.lstate port = 0 ∧ t.rd (Page.lpt port) Reg.LPT_STATUS.DARK_CAUSE = cause ∧
      (t.link port).replay = []) ∧
  (∀ (p : Party) (port : Nat) (s : State), s.boot.phase = .running → mayWrite p (Page.lpt port) = true → port < s.ports → port < 64 →
    s.lstate port ≠ 5 → s.lstate port ≠ 3 →
    exec (.goDark p port) s = .next (s.disablePort port 1) ∧
    ∃ t, exec (.goDark p port) s = .next t ∧ t.lstate port = 5 ∧ t.rd (Page.lpt port) Reg.LPT_STATUS.DARK_CAUSE = 1) ∧
  (∀ (p : Party) (port : Nat) (s : State), s.boot.phase = .running → mayWrite p (Page.lpt port) = true → port < s.ports → port < 64 →
    s.lstate port ≠ 5 → s.lstate port ≠ 3 →
    ∃ t, exec (.portDisable p port) s = .next t ∧ t.lstate port = 5 ∧ t.rd (Page.lpt port) Reg.LPT_STATUS.DARK_CAUSE = 5 ∧
      t.rdb (Page.lpt port) Reg.LPT_CTRL.ENABLE = false)

/-- A key change asks with KEY_REQ and offers the next receive key with KEY_READY; an authenticated KEY_REQ of the next
epoch loads the next receive key and leaves the one in use; KEY_READY of the next epoch installs the transmit key; the
repeats send what is outstanding; the frame limit asks, the hard limit stalls; ACK_SEND acknowledges what was accepted
in order, ACK releases the replay buffer up to its number. (R117, R118, R119, R127) -/
def Obligations.LinkKeyAndAckCommandsComplete : Prop :=
  (∀ (p : Party) (port : Nat) (s : State), s.boot.phase = .running → mayWrite p (Page.lpt port) = true → port < 64 → s.portUp port = true →
    exec (.rekeyNow p port) s = .next ((s.askRekey port).readyRekey port s.dlkGen) ∧
    ∃ t, exec (.rekeyNow p port) s = .next t ∧ (t.link port).rekeyTx = true ∧ (t.link port).rxNextKey.isSome = true) ∧
  (∀ (port : Nat) (s : State), s.serving = true → s.portUp port = true → 2 ^ s.log2Frames port ≤ s.keyFrames port + 2 ^ 32 →
    exec (.keyFrameLimit port) s =
      .next ((s.setLink port { s.link port with rekeyTx := true }).sendFlit port (.keyReq (s.epoch port + 1)))) ∧
  (∀ (port epoch : Nat) (chk : UnitCheck) (q : Nat) (s : State), s.serving = true → s.portUp port = true → chk.tagOk = true →
    chk.fecBad = false → chk.chkBad = false → s.ctlNext port ≤ s.ctlSeq port q →
    epoch = (s.link port).rxEpoch + 1 → (s.link port).rxNextKey = none →
    ∃ t, exec (.keyReq port epoch chk q) s = .next t ∧ (t.link port).rxNextKey.isSome = true ∧ (t.link port).rekeyRx = true ∧
      (t.link port).rxKey = (s.link port).rxKey) ∧
  (∀ (port epoch gen : Nat) (chk : UnitCheck) (q : Nat) (s : State), s.serving = true → s.portUp port = true → chk.tagOk = true →
    chk.fecBad = false → chk.chkBad = false → s.ctlNext port ≤ s.ctlSeq port q →
    epoch = s.epoch port + 1 → (s.dlkSlot gen).isSome = true →
    ∃ t, exec (.keyReady port epoch gen chk q) s = .next t ∧ (t.link port).txKey.isSome = true ∧ (t.link port).txNextKey = none ∧
      (t.link port).rekeyTx = false ∧ (t.link port).stalled = false ∧ t.epoch port = epoch % 2 ^ Reg.LPTn_EPOCH.EPOCH.w) ∧
  (∀ (port : Nat) (s : State), s.serving = true → s.portUp port = true → (s.link port).rekeyTx = true →
    exec (.keyReqRepeat port) s = .next (s.sendFlit port (.keyReq (s.epoch port + 1)))) ∧
  (∀ (port : Nat) (s : State), s.serving = true → s.portUp port = true → (s.link port).rekeyRx = true →
    exec (.keyReadyRepeat port) s = .next (s.sendFlit port (.keyReady (s.readyNames port).1 (s.readyNames port).2))) ∧
  (∀ (port : Nat) (s : State), s.serving = true → s.portUp port = true → 2 ^ s.log2Frames port ≤ s.keyFrames port →
    exec (.keyStall port) s = .next ((s.setLink port { s.link port with stalled := true }).err (Page.lpt port) Err.lpt.KEY_STALL
      { place := port, placeKind := 5 })) ∧
  (∀ (port : Nat) (s : State), s.serving = true → s.portUp port = true → (s.link port).ackDue = true →
    exec (.ackSend port) s =
      .next ((s.setLink port { s.link port with ackDue := false }).sendFlit port (.ack ((s.link port).rxNext - 1)))) ∧
  (∀ (port seq : Nat) (chk : UnitCheck) (q : Nat) (s : State), s.serving = true → s.portUp port = true → chk.tagOk = true →
    chk.fecBad = false → chk.chkBad = false → s.ctlNext port ≤ s.ctlSeq port q →
    ∃ t, exec (.ack port seq chk q) s = .next t ∧ (t.link port).replay = (s.link port).replay.filter (fun e => decide (seq < e.1)) ∧
      (t.link port).rxCtl = some (s.ctlSeq port q) ∧ t.regs = s.regs ∧ t.out = s.out)

/-- A good image set is armed, disarmed, committed by GO or at the commit point, abandoned, and swapped at its time, when
SWAP_STATE returns to 0, or marked late with SWAP_MISSED; WAKE_AHEAD wakes a stride's clusters and begins its
occurrence; a transmit stride with a waiting occurrence sends it; a frame in sequence is accepted at link level and
delivered; a finished receive occurrence ends with its outcome; a plane found down joins the list of downed planes;
shedding starts at 105 °C and ends at 100 °C; aged loose frames are dropped and counted. (R92, R93, R94, R95, R102,
R103, R106, R119, R182) -/
def Obligations.GaitCommandsComplete : Prop :=
  (∀ (p : Party) (s : State), s.boot.phase = .running → mayWrite p Page.gait = true → s.swapState = 0 → s.armCode = 0 →
    s.hostMode 2 = false →
    ∃ t, exec (.arm p) s = .next t ∧ t.swapState = 1 ∧ t.rd Page.gait Reg.GAIT_CTRL.ARM = 1 ∧ t.gait.banks = s.gait.banks) ∧
  (∀ (p : Party) (s : State), s.boot.phase = .running → mayWrite p Page.gait = true → s.swapState = 1 → s.haPending 2 = false →
    exec (.armClear p) s = .next ((s.wr Page.gait Reg.GAIT_CTRL.ARM 0).setSwap 0)) ∧
  (∀ (p : Party) (s : State), s.boot.phase = .running → mayWrite p Page.gait = true → s.swapState = 1 → s.haPending 2 = true →
    s.boot.svcHalted = false →
    exec (.go p) s = .next ((s.haClear 2).setSwap 2) ∧ exec (.abandon p) s = .next ((s.haClear 2).setSwap 0)) ∧
  (∀ s : State, s.serving = true → s.swapState = 1 → s.haPending 2 = false → exec .swapCommitPoint s = .next (s.setSwap 2)) ∧
  (∀ s : State, s.serving = true → s.swapState = 1 → s.haPending 2 = true →
    exec .swapCommitPoint s = .next (((s.haClear 2).fallback 2).setSwap 2)) ∧
  (∀ s : State, s.serving = true → s.swapState = 2 → s.hardOk s.gait.newGuard = true →
    ∃ t, exec .swapDtReached s = .next t ∧ t.swapState = 0 ∧ t.sync.gaitStopped = false ∧ t.gait.banks = s.gait.banks) ∧
  (∀ s : State, s.serving = true → s.swapState = 2 → s.hardOk s.gait.newGuard = false →
    exec .swapDtReached s = .next ((s.setSwap 3).err Page.gait Err.gait.SWAP_MISSED)) ∧
  (∀ s : State, s.serving = true → s.swapState = 3 → s.hardOk s.gait.newGuard = true →
    ∃ t, exec .swapLateBoundary s = .next t ∧ t.swapState = 0 ∧ t.sync.gaitStopped = false) ∧
  (∀ (port idx k : Nat) (g : GaitImage) (d : Stride) (s : State), s.serving = true → port < s.ports → s.noGait = false →
    s.strideAt port idx = some (g, d) →
    exec (.wakeAhead port idx k) s = .next ((s.openWindow port idx k g d).beginOcc port idx k g d) ∧
    ∀ c, c ∈ d.slots port → (s.openWindow port idx k g d).power.gated.contains c = false) ∧
  (∀ (port idx k : Nat) (g : GaitImage) (d : Stride) (o : Occ) (s : State), s.serving = true → port < s.ports → s.noGait = false →
    s.strideAt port idx = some (g, d) → s.endOlder port idx k = s → d.rx = false → d.cls ≠ 2 → d.cls ≠ 3 →
    s.occ port idx k = some o → o.rx = false →
    let u := (s.openWindow port idx k g d).wr Page.gait Reg.GAIT_PORTn_STATE.NEXT (nextTx g idx) port
    u.uncoveredNow port d = false → exec (.strideStart port idx k) s = .next (u.startTx o g d)) ∧
  (∀ (port : Nat) (f : DataFrame) (chk : UnitCheck) (s : State), s.mount = true → s.portUp port = true → chk.tagOk = true →
    chk.fecBad = false → chk.chkBad = false → fullSeq (s.link port).rxNext f.hdr.seqLo = (s.link port).rxNext →
    f.hdr.keyPh = (s.link port).rxEpoch % 2 → (s.takeFrame port f).malformed port f = false → f.hdr.ftype = 0 →
    exec (.dataFrameReceive port f chk) s = .next (((s.takeFrame port f).cnt 3 f.data.length).acceptMount port f) ∧
    ((s.takeFrame port f).link port).rxNext = (s.link port).rxNext + 1 ∧ ((s.takeFrame port f).link port).ackDue = true) ∧
  (∀ (port idx k : Nat) (o : Occ) (x : Outcome) (s : State), s.serving = true → port < s.ports → s.occ port idx k = some o →
    o.rx = true → o.rxOutcome = some x →
    exec (.footprintEnd port idx k) s = .next (s.endOcc o x)) ∧
  (∀ (plane : Nat) (s : State), s.mount = true → plane < s.ports → s.planeDown plane = true →
    exec (.planeDown plane) s = .next { s with gait := { s.gait with
      downOrder := (s.gait.downOrder.filter fun e => e.1 != plane && s.planeDown e.1) ++ [(plane, s.dtNs)] } }) ∧
  (∀ (temp : Int) (s : State), s.serving = true → 105 ≤ temp →
    ∃ t, exec (.throttleStart false temp) s = .next t ∧ t.rd Page.gait Reg.GAIT_STATUS.SHEDDING = 1 ∧ t.pins.tempC = temp) ∧
  (∀ (temp : Int) (s : State), s.serving = true → temp ≤ 100 →
    ∃ t, exec (.throttleEnd temp) s = .next t ∧ t.rd Page.gait Reg.GAIT_STATUS.SHEDDING = 0 ∧ t.pins.throttleReq = false) ∧
  (∀ (port : Nat) (s : State), s.serving = true → s.boot.post = true → port < s.ports →
    ((s.looseOf port).filter fun x => x.f.hdr.ftype == 1 && decide (x.at_ + s.rd Page.cmb Reg.CMB_CFG.AGE_US * 1000 ≤ s.now)) ≠ [] →
    ∃ t, exec (.looseAgeDrop port) s = .next t ∧
      t.looseOf port = (s.looseOf port).filter fun x => !(x.f.hdr.ftype == 1 && decide (x.at_ + s.rd Page.cmb Reg.CMB_CFG.AGE_US * 1000 ≤ s.now)))

/-- RED_DESC_WRITE of an acceptable entry stores the window at the selected index with code 0, a refused one stores
nothing, gives its code and reports DESC_REFUSED; READ puts the entry into the window; INVALIDATE clears its valid
bit; RESET_ROOT clears debts and stall; a descriptor of deadline 0 has none; a deadline ends the instance INCOMPLETE
and keeps who still owes; a finished result write drops the instance and applies its held signals; a home's answer is
fanned out and an aged entry leaves the combining unit. (R160, R166, R167, R168, R175, R203) -/
def Obligations.ReduceCommandsComplete : Prop :=
  (∀ (p : Party) (s : State), s.boot.phase = .running → mayWrite p (Page.red 0) = true → s.descCode s.redSel s.redWin = 0 →
    exec (.redDescWrite p) s = .next (({ s with red := { s.red with
      desc := SMap.put s.red.desc (List.replicate 8 0) s.redSel s.redWin } } : State).redCode 0)) ∧
  (∀ (p : Party) (s : State), s.boot.phase = .running → mayWrite p (Page.red 0) = true → s.descCode s.redSel s.redWin ≠ 0 →
    exec (.redDescWrite p) s = .next ((s.redCode (s.descCode s.redSel s.redWin)).err (Page.red 0) Err.red.DESC_REFUSED
      { detail := s.descCode s.redSel s.redWin })) ∧
  (∀ (p : Party) (k : Nat) (s : State), s.boot.phase = .running → mayWrite p (Page.red 0) = true → s.redSel ≠ 0xFFF → k < 16 →
    ∃ t, exec (.redDescRead p) s = .next t ∧ t.rd (Page.red 0) Reg.RED_DESC_STATUS.CODE = 0 ∧ t.red = s.red ∧
      t.rd (Page.red 0) Reg.RED_DESC_WINw.DATA k = RedDesc.w (s.desc s.redSel) (k / 2) / 2 ^ (32 * (k % 2)) % 2 ^ 32) ∧
  (∀ (p : Party) (s : State), s.boot.phase = .running → mayWrite p (Page.red 0) = true → s.redSel ≠ 0xFFF → s.descInUse s.redSel = false →
    let d := BitVec.ofNat 64 (RedDesc.w (s.desc s.redSel) 0 - b2n (RedDesc.valid (s.desc s.redSel))) :: (s.desc s.redSel).drop 1
    exec (.redDescInvalidate p) s = .next (({ s with red := { s.red with
      desc := SMap.put s.red.desc (List.replicate 8 0) s.redSel d } } : State).redCode 0)) ∧
  (∀ (p : Party) (s : State), s.boot.phase = .running → mayWrite p (Page.red 0) = true → s.redSel ≠ 0xFFF → (s.root s.redSel).open_ = [] →
    ∃ t, exec (.resetRoot p) s = .next t ∧ (t.root s.redSel).owe = [] ∧ (t.root s.redSel).stalled = false ∧
      t.rd (Page.red 0) Reg.RED_DESC_STATUS.CODE = 0) ∧
  (∀ (root index : Nat) (s : State), s.serving = true → RedDesc.deadline (s.desc root) = 0 → exec (.instanceDeadline root index) s = .next s) ∧
  (∀ (root index : Nat) (i : RedInst) (s : State), s.serving = true → RedDesc.deadline (s.desc root) ≠ 0 →
    ((s.root root).open_.find? fun i => i.index == index) = some i →
    exec (.instanceDeadline root index) s =
      .next (((s.failInst root i .incomplete 7).setRoot root { ((s.failInst root i .incomplete 7).root root) with
        owe := ((s.failInst root i .incomplete 7).root root).owe ++ (s.contributors root).filter fun c => !i.got.contains c }).err
          (Page.red 0) Err.red.INCOMPLETE)) ∧
  (∀ (root index : Nat) (i : RedInst) (s : State), s.mount = true →
    ((s.root root).insts.find? fun i => i.index == index && i.writing) = some i →
    exec (.resultWriteDone root index) s =
      .next ((s.setRoot root { s.root root with insts := (s.root root).insts.filter fun x => x.index != index }).applyHeldSigs i
        (if i.recs.any (·.poison) then 1 else 0))) ∧
  (∀ (k status : Nat) (data : List Byte) (poison : Nat) (e : CmbEntry) (s : State), s.serving = true → s.boot.post = true →
    SMap.find? s.cmb.entries k = some e → e.parts = [] →
    exec (.cmbFanout k status data poison) s =
      .next ({ s with cmb := { s.cmb with entries := SMap.erase s.cmb.entries k } } : State).showCmb) ∧
  (∀ (k status : Nat) (data : List Byte) (poison port rank tag v : Nat) (e : CmbEntry) (s : State), s.serving = true → s.boot.post = true →
    SMap.find? s.cmb.entries k = some e → e.parts = [(port, rank, tag, v)] →
    exec (.cmbFanout k status data poison) s =
      .next ((s.dropEntry k).routeFrame (rspFrame e.home e.share rank ((s.dropEntry k).looseHdr 1 e.share rank 1)
        (rspBytes status tag (fanData e status data []))
        (rspMap poison (((rspBytes status tag (fanData e status data [])).length - 16) / 16))))) ∧
  (∀ (k : Nat) (s : State), s.serving = true → s.boot.post = true →
    exec (.cmbEntryAge k) s = .next ({ s with cmb := { s.cmb with entries := SMap.erase s.cmb.entries k } } : State).showCmb)

/-- A read request of a member makes an untracked line SHARED by it, a read-for-ownership or an upgrade MODIFIED by it; a
write-back of the owner frees the line, an eviction takes the member off; the last answer to a transaction gives the
line to its asker; a home's answer goes to the compute port that asked; a home's snoop is offered to the compute and
the compute's answer sent back; enabling and disabling the herd. (R195, R196, R197, R199, R485) -/
def Obligations.CoherenceCommandsComplete : Prop :=
  (∀ (src tag l share k : Nat) (s : State), s.mount = true → s.cohSender src l = some k → s.cohHeld l = false →
    s.coh.waits = [] → s.dirLine l = DirLine.empty → s.setFull l = false →
    (s.coh.dir.all fun e => e.1 == l || (e.2.tx.isNone && e.2.queue.isEmpty)) = true →
    (s.cohRefused src share 0 l = none → ∃ t, exec (.cohRdS { rank := src, share := share } tag l) s = .next t ∧ (t.dirLine l).st = .shared (slotMask k) ∧ (t.dirLine l).tx = none) ∧
    (s.cohRefused src share 0 l = none → ∃ t, exec (.cohRdM { rank := src, share := share } tag l) s = .next t ∧ (t.dirLine l).st = .modified k ∧ (t.dirLine l).tx = none) ∧
    (∃ t, exec (.cohUpg src tag l) s = .next t ∧ (t.dirLine l).st = .modified k ∧ (t.dirLine l).tx = none)) ∧
  (∀ (src tag l share k u : Nat) (data : List Byte) (poison : Bool) (s : State), s.mount = true → s.cohSender src l = some k →
    s.cohHeld l = false → s.coh.waits = [] → s.cohRefused src share 1 l = none → (s.coh.dir.all fun e => e.1 == l || (e.2.tx.isNone && e.2.queue.isEmpty)) = true →
    s.dirLine l = { st := .modified k, tx := none, queue := [], used := u } →
    ∃ t, exec (.cohWb { rank := src, share := share } tag l { bytes := data, poison := poison }) s = .next t ∧ (t.dirLine l).st = .invalid) ∧
  (∀ (src tag l k u : Nat) (v : BitVec 8) (s : State), s.mount = true → s.cohSender src l = some k → s.coh.waits = [] →
    (s.coh.dir.all fun e => e.1 == l || (e.2.tx.isNone && e.2.queue.isEmpty)) = true →
    s.dirLine l = { st := .shared v, tx := none, queue := [], used := u } → (v &&& ~~~slotMask k == 0) = false →
    ∃ t, exec (.cohEvs src tag l) s = .next t ∧ (t.dirLine l).st = .shared (v &&& ~~~slotMask k)) ∧
  (∀ (src tag status port dt gen : Nat) (data : List Byte) (poison : Nat) (s : State), s.mount = true →
    SMap.find? s.coh.reqs tag = some (port, dt, gen) →
    exec (.dataS src tag status data poison) s =
      .next (({ s with coh := { s.coh with reqs := SMap.erase s.coh.reqs tag } } : State).dcpAnswer port dt gen status data poison) ∧
    exec (.dataM src tag status data poison) s = exec (.dataS src tag status data poison) s ∧
    exec (.upgAck src tag status) s =
      .next (({ s with coh := { s.coh with reqs := SMap.erase s.coh.reqs tag } } : State).dcpAnswer port dt gen status [] 0) ∧
    exec (.wbAck src tag status) s = exec (.upgAck src tag status) s) ∧
  (∀ (src tag l : Nat) (s : State), s.mount = true → s.computeReset = false →
    (∃ t, exec (.inv src tag l) s = .next t ∧ t.out = s.out ++ [.snoop 1 (farLine src l) s.coh.nextTid] ∧
      SMap.find? t.coh.snoops s.coh.nextTid = some (src, Cm.INV, tag, farLine src l)) ∧
    (∃ t, exec (.snpS src tag l) s = .next t ∧ t.out = s.out ++ [.snoop 2 (farLine src l) s.coh.nextTid] ∧
      SMap.find? t.coh.snoops s.coh.nextTid = some (src, Cm.SNP_S, tag, farLine src l)) ∧
    (∃ t, exec (.snpI src tag l) s = .next t ∧ t.out = s.out ++ [.snoop 3 (farLine src l) s.coh.nextTid] ∧
      SMap.find? t.coh.snoops s.coh.nextTid = some (src, Cm.SNP_I, tag, farLine src l)) ∧
    (∃ t, exec (.herdFlush src tag) s = .next t ∧ t.out = s.out ++ [.snoop 4 (farLine src 0) s.coh.nextTid] ∧
      SMap.find? t.coh.snoops s.coh.nextTid = some (src, Cm.HERD_FLUSH, tag, farLine src 0))) ∧
  (∀ (src tag l k u a q : Nat) (v : BitVec 8) (s : State), s.mount = true → s.cohSender src l = some k → k < 8 → s.coh.waits = [] →
    s.cohHeld l = false → (s.coh.dir.all fun e => e.1 == l || (e.2.tx.isNone && e.2.queue.isEmpty)) = true →
    s.dirLine l = { st := .shared v, queue := [], used := u, tx := some (DirTx.mk a 2 q tag (slotMask k) none false) } →
    (∃ t, exec (.invAck src tag l) s = .next t ∧ (t.dirLine l).st = .modified a ∧ (t.dirLine l).tx = none) ∧
    (s.coh.flushWait.getLsbD k = false →
      ∃ t, exec (.cohTimeout l k) s = .next t ∧ (t.dirLine l).st = .modified a ∧ (t.dirLine l).tx = none)) ∧
  (∀ (src tag l k u a q : Nat) (b : List Byte) (poison : Bool) (s : State), s.mount = true → s.cohSender src l = some k → k < 8 →
    s.coh.waits = [] → s.cohHeld l = false → (s.coh.dir.all fun e => e.1 == l || (e.2.tx.isNone && e.2.queue.isEmpty)) = true →
    s.dirLine l = { st := .modified k, queue := [], used := u, tx := some (DirTx.mk a 1 q tag (slotMask k) none false) } →
    ∃ t, exec (.snpRsp src tag l (some { bytes := b, poison := poison }) false) s = .next t ∧ (t.dirLine l).st = .shared (slotMask k ||| slotMask a) ∧
      (t.dirLine l).tx = none) ∧
  (∀ (src tag k : Nat) (s : State), s.mount = true → s.herdSlot src = some k → s.coh.flushWait.getLsbD k = true →
    exec (.flushDone src tag) s =
      .next ({ s with coh := { s.coh with flushWait := s.coh.flushWait &&& ~~~slotMask k } } : State).finishFlush) ∧
  (∀ (tid home tag addr : Nat) (data : Option (List Byte)) (s : State), s.mount = true → s.computeReset = false → s.selfRank ≠ some home →
    (SMap.find? s.coh.snoops tid = some (home, Cm.INV, tag, addr) →
      exec (.snrInvAck tid) s = .next (({ s with coh := { s.coh with snoops := SMap.erase s.coh.snoops tid } } : State).sendCoh home 0
        Cm.INV_ACK false tag addr [])) ∧
    (SMap.find? s.coh.snoops tid = some (home, Cm.SNP_S, tag, addr) →
      exec (.snrSnpRsp tid data) s = .next (({ s with coh := { s.coh with snoops := SMap.erase s.coh.snoops tid } } : State).sendCoh home 0
        Cm.SNP_RSP data.isNone tag addr (data.getD []))) ∧
    (SMap.find? s.coh.snoops tid = some (home, Cm.HERD_FLUSH, tag, addr) →
      exec (.snrFlushDone tid) s = .next (({ s with coh := { s.coh with snoops := SMap.erase s.coh.snoops tid } } : State).sendCoh home 0
        Cm.FLUSH_DONE false tag addr []))) ∧
  (∀ (p : Party) (s : State), s.boot.phase = .running → mayWrite p Page.coh = true → s.boot.post = false →
    s.rdb Page.coh Reg.COH_STATUS.ACTIVE = false →
    (s.herdCode = 0 → exec (.cohEnable p) s = .next (((s.wr Page.coh Reg.COH_CTRL.EN 1).wr Page.coh Reg.COH_STATUS.ACTIVE 1).wr Page.coh
      Reg.COH_STATUS.CFG_REFUSE 0)) ∧
    (s.herdCode ≠ 0 → exec (.cohEnable p) s = .next ((s.wr Page.coh Reg.COH_STATUS.CFG_REFUSE s.herdCode).err Page.coh Err.coh.CFG_REFUSED
      { detail := s.herdCode })) ∧
    exec (.cohDisable p) s = .next (s.wr Page.coh Reg.COH_CTRL.EN 0))

/-- A ready request of the current generation to local memory with its rights granted: a load answers OK with the bytes
read, a store writes its bytes and answers OK, each atomic writes the word that its operator gives from the old word
and the operands and answers OK, with the old word where it fetches; TOKEN_PASS passes the token and answers its
status; a coherent request to another member of the herd sends its message under a fresh identifier, EVS answers OK at
once; a request outside the set is answered UNSUPPORTED. (R177, R183, R184, R186, R195, R201, R482, R483) -/
def Obligations.ComputePortCommandsComplete : Prop :=
  (∀ (r : DcpReq) (off : Nat) (s : State), s.reqReady r = true → r.gen = s.rd Page.fe Reg.FE_GEN.GEN → s.dest r.addr = .here off →
    shapeStatus 1 r.addr (dcpLen r) = 0 → s.rdb Page.coh Reg.COH_STATUS.ACTIVE = false → dcpClass r ≠ 0 →
    let m : Master := { cls := dcpClass r, fn := 0, share := 0, rank := 0 }
    s.checkRange m 0 off (dcpLen r) = none → s.rangeHeld 0 off (dcpLen r) = false → (s.readRange 0 off (dcpLen r)).2.1 = 0 →
    exec (.dcpLd r) s = .next (((s.readRange 0 off (dcpLen r)).2.2.countBytes m 8 (dcpLen r)).dcpAnswer r.port r.tag r.gen St.OK
      (s.readRange 0 off (dcpLen r)).1 0)) ∧
  (∀ (r : DcpReq) (off : Nat) (s : State), s.reqReady r = true → r.gen = s.rd Page.fe Reg.FE_GEN.GEN → s.dest r.addr = .here off →
    shapeStatus 2 r.addr (dcpLen r) = 0 → s.rdb Page.coh Reg.COH_STATUS.ACTIVE = false → s.holding = false →
    let h : HeldAcc := { cls := dcpClass r, fn := 0, ctx := r.ctx, share := 0, rank := 0, off := off, op := 2, len := dcpLen r
                         data := slice r.wdata 0 (dcpLen r), strb := r.wstrb, opnd0 := dcpOpnd0 r, opnd1 := dcpOpnd1 r
                         fetch := dcpFetch r, reply := dcpReply r }
    let m := s.accMaster h
    s.checkRange m 1 off (dcpLen r) = none → s.rangeHeld 1 off (dcpLen r) = false → ((List.range (dcpLen r)).all fun i => bit r.wstrb i) = true →
    (s.writeRange 1 off (slice r.wdata 0 (dcpLen r)) 0 false).1 = true →
    exec (.dcpSt r) s = .next ((((s.writeRange 1 off (slice r.wdata 0 (dcpLen r)) 0 false).2.countBytes m 9 (dcpLen r)).dropLost).dcpAnswer
      r.port r.tag r.gen St.OK [] 0)) ∧
  (∀ (r : DcpReq) (four : Bool) (off : Nat) (s : State), s.reqReady r = true → r.gen = s.rd Page.fe Reg.FE_GEN.GEN →
    s.dest r.addr = .here off → r.addr % (if four then 4 else 8) = 0 → s.rdb Page.coh Reg.COH_STATUS.ACTIVE = false → s.holding = false →
    dcpClass r ≠ 0 →
    let m : Master := { cls := dcpClass r, fn := 0, share := 0, rank := 0 }
    let n : Nat := if four then 4 else 8
    let phys := s.mapTx 2 off
    let old := s.word phys n
    let w := fun k => s.writePhys phys (leBytes n (atomNew k n old (dcpOpnd0 r) (dcpOpnd1 r))) 0 false
    let T := fun k => ((((w k).2.countBytes m 8 n).countBytes m 9 n).dropLost).dcpAnswer r.port r.tag r.gen St.OK
      (if returnsOld (atomCode k four) (dcpFetch r) then slice (leBytes n old) 0 8 else []) 0
    s.checkRange m 2 off n = none → s.rangeHeld 2 off n = false → (∀ k < 10, (w k).1 = true) →
    exec (.dcpAdd r four) s = .next (T 0) ∧
    exec (.dcpSwap r four) s = .next (T 1) ∧
    exec (.dcpCas r four) s = .next (T 2) ∧
    exec (.dcpSmin r four) s = .next (T 3) ∧
    exec (.dcpSmax r four) s = .next (T 4) ∧
    exec (.dcpUmin r four) s = .next (T 5) ∧
    exec (.dcpUmax r four) s = .next (T 6) ∧
    exec (.dcpAnd r four) s = .next (T 7) ∧
    exec (.dcpOr r four) s = .next (T 8) ∧
    exec (.dcpXor r four) s = .next (T 9)) ∧
  (∀ (r : DcpReq) (off : Nat) (s : State), s.reqReady r = true → r.gen = s.rd Page.fe Reg.FE_GEN.GEN → s.dest r.addr = .here off →
    let x := s.passToken (s.dcpMaster r) (s.selfRank.getD 32768) r.addr (dcpOpnd0 r)
    exec (.dcpTokenPass r) s = .next (x.2.dcpDone r x.1)) ∧
  (∀ (r : DcpReq) (dst off k : Nat) (s : State), s.reqReady r = true → r.gen = s.rd Page.fe Reg.FE_GEN.GEN →
    s.dest (r.addr / 64 * 64) = .far dst off → s.herdSlot dst = some k → s.mute = false →
    let u : State := { s with coh := { s.coh with
      nextReq := (s.coh.nextReq + 1) % 65536, reqs := SMap.set s.coh.reqs s.coh.nextReq (r.port, r.tag, r.gen) } }
    exec (.dcpRdS r) s = .next (u.sendCoh dst (s.dcpShare r) Cm.RD_S false s.coh.nextReq (r.addr / 64 * 64) []) ∧
    exec (.dcpRdM r) s = .next (u.sendCoh dst (s.dcpShare r) Cm.RD_M false s.coh.nextReq (r.addr / 64 * 64) []) ∧
    exec (.dcpUpg r) s = .next (u.sendCoh dst (s.dcpShare r) Cm.UPG false s.coh.nextReq (r.addr / 64 * 64) []) ∧
    exec (.dcpWb r) s = .next (u.sendCoh dst (s.dcpShare r) Cm.WB false s.coh.nextReq (r.addr / 64 * 64) (slice r.wdata 0 64)) ∧
    exec (.dcpEvs r) s = .next ((s.sendCoh dst (s.dcpShare r) Cm.EVS false 0 (r.addr / 64 * 64) []).dcpDone r St.OK)) ∧
  (∀ (r : DcpReq) (op : Nat) (s : State), s.reqReady r = true → r.gen = s.rd Page.fe Reg.FE_GEN.GEN →
    exec (.dcpUnsupported r op) s = .next (s.emit (.dcpRsp r.port r.tag r.gen St.UNSUPPORTED [] 0)))

/-- A request record whose rights are granted is performed at its home and answered to its requester: a load with the
bytes read, a store after its write, an atomic with the old word where it fetches; TOKEN_PASS answers its status, an
unknown OP UNSUPPORTED; a response ends its request at the compute port, a timeout ends it NO_RESPONSE and quarantines
its tag, which the end of quarantine frees; a change of the usable planes starts draining and its end stops it. (R184,
R185, R187, R188, R189, R190, R201, R205) -/
def Obligations.RemoteCommandsComplete : Prop :=
  (∀ (r : RmtRec) (off : Nat) (s : State), s.mount = true → s.localOff r.addr = some off → s.memOpen = true → off < s.capacity →
    shapeStatus 1 off r.len = 0 → s.rdb Page.coh Reg.COH_STATUS.ACTIVE = false →
    let m : Master := { cls := 5, fn := 0, share := r.share, rank := r.src }
    s.checkRange m 0 off r.len = none → s.rangeHeld 0 off r.len = false → s.behind (homeAcc 1 off r) = false → (s.readRange 0 off r.len).2.1 = 0 →
    exec (.rmtLd r) s = .next ((((s.readRange 0 off r.len).2.2.countBytes m 8 r.len).countHome (.rmt r.src r.tag r.port r.share) St.OK).answer
      (.rmt r.src r.tag r.port r.share) St.OK (s.readRange 0 off r.len).1 0)) ∧
  (∀ (r : RmtRec) (off : Nat) (s : State), s.mount = true → s.localOff r.addr = some off → s.memOpen = true → off < s.capacity →
    shapeStatus 2 off r.len = 0 → s.rdb Page.coh Reg.COH_STATUS.ACTIVE = false → s.holding = false →
    let m : Master := { cls := 5, fn := 0, share := r.share, rank := r.src }
    let w := s.writeRange 1 off (slice r.data 0 r.len) 0 false
    s.checkRange m 1 off r.len = none → s.rangeHeld 1 off r.len = false → s.behind (homeAcc 2 off r) = false →
    w.1 = true →
    exec (.rmtSt r) s = .next ((((w.2.countBytes m 9 r.len).dropLost).countHome (.rmt r.src r.tag r.port r.share) St.OK).answer
      (.rmt r.src r.tag r.port r.share) St.OK [] 0)) ∧
  (∀ (r : RmtRec) (four : Bool) (off : Nat) (s : State), s.mount = true → s.localOff r.addr = some off → s.memOpen = true →
    off < s.capacity → off % (if four then 4 else 8) = 0 → s.rdb Page.coh Reg.COH_STATUS.ACTIVE = false → s.holding = false →
    let m : Master := { cls := 5, fn := 0, share := r.share, rank := r.src }
    let n : Nat := if four then 4 else 8
    let phys := s.mapTx 2 off
    let old := s.word phys n
    let w := fun k => s.writePhys phys (leBytes n (atomNew k n old r.opnd0.toNat r.opnd1.toNat)) 0 false
    let T := fun k => (((((w k).2.countBytes m 8 n).countBytes m 9 n).dropLost).countHome (.rmt r.src r.tag r.port r.share) St.OK).answer
      (.rmt r.src r.tag r.port r.share) St.OK (if returnsOld (atomCode k four) r.fetch then slice (leBytes n old) 0 8 else []) 0
    s.checkRange m 2 off n = none → s.rangeHeld 2 off n = false → (∀ k < 10, s.behind (homeAcc (atomCode k four) off r) = false) →
    (∀ k < 10, (w k).1 = true) →
    exec (.rmtAdd r four) s = .next (T 0) ∧
    exec (.rmtSwap r four) s = .next (T 1) ∧
    exec (.rmtCas r four) s = .next (T 2) ∧
    exec (.rmtSmin r four) s = .next (T 3) ∧
    exec (.rmtSmax r four) s = .next (T 4) ∧
    exec (.rmtUmin r four) s = .next (T 5) ∧
    exec (.rmtUmax r four) s = .next (T 6) ∧
    exec (.rmtAnd r four) s = .next (T 7) ∧
    exec (.rmtOr r four) s = .next (T 8) ∧
    exec (.rmtXor r four) s = .next (T 9)) ∧
  (∀ (r : RmtRec) (s : State), s.mount = true →
    let x := s.passToken (Master.remote r.src r.share) r.src r.addr r.opnd0.toNat
    exec (.rmtTokenPass r) s = .next ((x.2.countHome (.rmt r.src r.tag r.port r.share) x.1).answer (.rmt r.src r.tag r.port r.share) x.1 [] 0)) ∧
  (∀ (r : RmtRec) (off n g : Nat) (e : RatEntry) (s : State), s.localOff r.addr = some off →
    s.checkAt (Master.remote r.src r.share) 2 off = none → s.ratFind off = some (n, e) →
    s.rd Page.gw Reg.GW_TOKENn.OWNER n = r.src → s.rd Page.gw Reg.GW_TOKENn.GEN n = g → bits r.opnd0.toNat 16 16 = g →
    bits r.opnd0.toNat 0 15 < 24576 → n < 256 →
    let x := s.passToken (Master.remote r.src r.share) r.src r.addr r.opnd0.toNat
    x.1 = St.OK ∧ x.2.rd Page.gw Reg.GW_TOKENn.OWNER n = bits r.opnd0.toNat 0 15 ∧ x.2.rd Page.gw Reg.GW_TOKENn.GEN n = (g + 1) % 65536) ∧
  (∀ (r : RmtRec) (op : Nat) (s : State), s.mount = true →
    exec (.rmtUnsupported r op) s = .next ((s.countHome (.rmt r.src r.tag r.port r.share) St.UNSUPPORTED).answer
      (.rmt r.src r.tag r.port r.share) St.UNSUPPORTED [] 0)) ∧
  (∀ (src tag poison : Nat) (data : List Byte) (r : RmtReq) (s : State), s.mount = true →
    (s.fab.reqs.find? fun r => r.sent && r.tag == tag && r.dst == src) = some r → r.op = 1 →
    exec (.rsp src tag St.OK data poison) s = .next ((s.addCtr r.ctx 11 (slice data 0 r.len).length).endReq r St.OK (slice data 0 r.len) poison)) ∧
  (∀ (tag : Nat) (r : RmtReq) (s : State), s.mount = true → (s.fab.reqs.find? fun r => r.sent && r.tag == tag) = some r →
    let u := (s.inc Page.gw Reg.GW_TIMEOUT_COUNT.COUNT).err Page.gw Err.gw.RMT_TIMEOUT { ctx := some r.ctx, fn := r.fn }
    exec (.remoteTimeout tag) s =
      .next (({ u with fab := { u.fab with quarantine := u.fab.quarantine ++ [tag] } } : State).endReq r St.NO_RESPONSE [] 0)) ∧
  (∀ (tag : Nat) (s : State), s.mount = true →
    exec (.tagQuarantineEnd tag) s = .next { s with fab := { s.fab with quarantine := s.fab.quarantine.filter (· != tag) } }) ∧
  (∀ s : State, s.mount = true → s.usablePlanes ≠ s.fab.planes →
    exec .planeSetChange s = .next ((({ s with fab := { s.fab with planes := s.usablePlanes, draining := !s.outReqs.isEmpty } } : State).err
      Page.gw Err.gw.DRAIN).releaseReqs)) ∧
  (∀ s : State, s.mount = true → s.fab.draining = true → s.outReqs = [] →
    exec .drainComplete s = .next ({ s with fab := { s.fab with draining := false } } : State).releaseReqs)

/-- At the destination, a new put fragment, get or atomic joins the records held at its stream, and those whose turn has
come and whose memory is ready are performed in order: a put fragment whose rights are granted writes its bytes and
counts towards its acknowledgement, a get is answered with its bytes in fragments, an atomic writes the new word and
answers the old one. At the source, an ACK completes a put, an AMO_RSP an atomic, a GET_DATA of a one-fragment get the
get, NAK restarts the retry timer, a retry timeout sends the operation again and counts it, and a stream with nothing
incomplete retires. (R191, R192, R193, R194, R201) -/
def Obligations.GatewayCommandsComplete : Prop :=
  (∀ (r : GwRec) (x : GwDst) (off : Nat) (s : State), s.mount = true → s.enterDst r = .inl (some x) → x.isDone r.sseq = false →
    r.sseq < x.next + 256 → (x.held.any fun h => h.1 == 1 && h.2.sseq == r.sseq && h.2.off == r.off) = false →
    let k := streamKey r.src r.ctx
    let u := s.setDst k { x with held := x.held ++ [(1, r)] }
    exec (.putData r) s = .next (u.gwGoAt k) ∧
    (x.turn 1 r = true → s.localOff r.addr = some off → SMap.getD x.frags [] r.sseq = [] →
      let g := u.gwReady off r.data.length true
      let a := g.2.writeAs (Master.remote r.src r.share) off r.data r.poison
      g.1 = true → a.status = 0 →
      u.gwTry k (1, r) = (a.st.dropLost.putDone r 0).unhold k (1, r))) ∧
  (∀ (r : GwRec) (x : GwDst) (off : Nat) (s : State), s.mount = true → s.enterDst r = .inl (some x) → x.isDone r.sseq = false →
    r.sseq < x.next + 256 → (x.held.any fun h => h.1 == 2 && h.2.sseq == r.sseq && h.2.off == r.off) = false →
    let k := streamKey r.src r.ctx
    let u := s.setDst k { x with held := x.held ++ [(2, r)] }
    exec (.getReq r) s = .next (u.gwGoAt k) ∧
    (x.turn 2 r = true → s.localOff r.addr = some off →
      let g := u.gwReady off r.total false
      let a := g.2.readAs (Master.remote r.src r.share) off r.total
      g.1 = true → a.status = St.OK →
      u.gwTry k (2, r) = ((a.st.sendGot r a.data a.poison).gwDone k r.sseq 0 0 none false).unhold k (2, r))) ∧
  (∀ (r : GwRec) (x : GwDst) (off : Nat) (s : State), s.mount = true → s.enterDst r = .inl (some x) → x.isDone r.sseq = false →
    r.sseq < x.next + 256 → (x.held.any fun h => h.1 == 4 && h.2.sseq == r.sseq && h.2.off == r.off) = false →
    let k := streamKey r.src r.ctx
    let u := s.setDst k { x with held := x.held ++ [(4, r)] }
    exec (.amoReq r) s = .next (u.gwGoAt k) ∧
    (x.turn 4 r = true → s.localOff r.addr = some off →
      (0x10 ≤ r.op ∧ r.op ≤ 0x19) ∨ (0x20 ≤ r.op ∧ r.op ≤ 0x29) → off % atomBytes r.op = 0 →
      let g := u.gwReady off 8 true
      let a := g.2.atomicAs (Master.remote r.src r.share) off (atomBytes r.op) (r.op % 16) r.opnd0.toNat r.opnd1.toNat
      g.1 = true → a.status = St.OK →
      u.gwTry k (4, r) = (a.st.dropLost.amoDone r 0 (ofLe a.data)).unhold k (4, r))) ∧
  (∀ (r : GwRec) (o : GwOp) (s : State), s.mount = true → s.findOp r = some o →
    let k := streamKey r.src r.ctx
    (o.kind ≠ 2 → exec (.bulkAck r) s = .next ((s.setOp k { o with result := some (r.status, 0) }).settleStream k)) ∧
    (o.kind = 2 → exec (.amoRsp r) s = .next ((s.setOp k { o with result := some (r.status, r.opnd0.toNat) }).settleStream k)) ∧
    exec (.nak r) s = .next (s.setOp k { o with at_ := s.now }) ∧
    (o.kind = 1 → o.frags = [] → o.pkt = none → o.len ≤ fragBytes →
      let p := o.poison ||| r.poison * 2 ^ (r.off / 16)
      exec (.getData r) s = .next (((s.addCtr r.ctx 11 r.data.length).setOp k
        { o with data := overlay o.data r.off r.data, poison := p, frags := [r.off / fragBytes]
                 result := some (if p = 0 then St.OK else St.POISON, 0) }).settleStream k))) ∧
  (∀ (k sseq : Nat) (o : GwOp) (s : State), s.mount = true →
    ((s.gwSrc k).ops.find? fun o => o.seq == sseq && o.sent && o.result.isNone) = some o →
    o.resends < s.rd Page.gw Reg.GW_BULK_CFG.RETRY_MAX →
    exec (.bulkRetryTimeout k sseq) s =
      .next ((s.inc Page.gw Reg.GW_RESEND_COUNT.COUNT).sendOp k { o with resends := o.resends + 1 })) ∧
  (∀ (k : Nat) (x : GwDst) (s : State), s.mount = true → s.gwDst k = some x → x.done = [] → x.frags = [] → x.held = [] →
    exec (.streamRetire k) s = .next ({ s with fab := { s.fab with dsts := SMap.erase s.fab.dsts k } } : State).showGw)

/-- An ARRIVE of the current epoch from a child is recorded and the occurrence goes on when every child is done; a RELEASE
from the parent is forwarded to the children and closes the occurrence, at a waiting member it ends the wait, opens
the next epoch and advances the release fence; LEAVE takes the child out at once in IDLE and HELD, and from the next
occurrence on otherwise, and a counter that is not the root and whose last child has left leaves its parent; a timeout
marks the missing children or abandons the release; an anchor answers a QUERY from its record; an ANSWER decides; a
new stop is forwarded on the other ports that are UP and armed, at a Post block when its hitch logic is on; the
counter commands, when no injected COUNTER_CHECK awaits the counter, write, read, clear and re-member the selected
counter and report code 0. (R217, R219, R221, R224, R225, R227, R231, R232, R233) -/
def Obligations.HitchCommandsComplete : Prop :=
  (∀ (port : Nat) (r : HitchRec) (s : State), s.serving = true → s.boot.post = true → s.portUp port = true →
    s.rdb Page.hitch Reg.HITCH_CTRL.EN = true → (s.ctr r.hid).valid = true → (s.ctr r.hid).children.getLsbD port = true →
    r.epoch = (s.ctr r.hid).epoch → s.armedAt Page.hitch Err.hitch.COUNTER_CHECK ≠ some r.hid →
    (s.ctr r.hid).state = .idle ∨ ((s.ctr r.hid).state = .collecting ∧ (s.ctr r.hid).arrived.getLsbD port = false) →
    exec (.hitchArrive port r) s = .next ((s.recordArrival r.hid port r.ok r.cause r.lost).advanceCtr r.hid)) ∧
  (∀ (port : Nat) (r : HitchRec) (s : State), s.serving = true → s.boot.post = true → s.portUp port = true →
    s.rdb Page.hitch Reg.HITCH_CTRL.EN = true → (s.ctr r.hid).valid = true → (s.ctr r.hid).state = .waitRel →
    (s.ctr r.hid).parent = port → r.epoch = (s.ctr r.hid).epoch → s.armedAt Page.hitch Err.hitch.COUNTER_CHECK ≠ some r.hid →
    exec (.hitchRelease port r) s =
      .next (((s.sendHitches ((maskPorts (s.ctr r.hid).children).filter s.portUp) r).closeOcc r.hid).actHeld r.hid)) ∧
  (∀ (port : Nat) (r : HitchRec) (s : State), s.serving = true → s.boot.post = false → s.portUp port = true → s.joined r.hid = true →
    r.epoch = s.epochOf r.hid → joinCommit (s.joinOf r.hid) = false → (SMap.find? s.sync.waiting r.hid).isSome = true →
    exec (.hitchRelease port r) s = .next (s.plainRelease r.hid).fabGo ∧
    (SMap.getD s.sync.ahead 0 r.hid = 0 →
      s.plainRelease r.hid = ({ s with sync := { s.sync with
        waiting := SMap.erase s.sync.waiting r.hid, ahead := SMap.put s.sync.ahead 0 r.hid 0
        epochs := SMap.put s.sync.epochs 0 r.hid ((r.epoch + 1) % 65536) } } : State).releaseFence (s.joinOf r.hid) false)) ∧
  (∀ (port : Nat) (r : HitchRec) (s : State), s.serving = true → s.boot.post = true → s.portUp port = true →
    s.rdb Page.hitch Reg.HITCH_CTRL.EN = true → (s.ctr r.hid).valid = true → s.armedAt Page.hitch Err.hitch.COUNTER_CHECK ≠ some r.hid →
    let kids := (s.ctr r.hid).children &&& ~~~portMask port
    ((s.ctr r.hid).state = .idle → kids ≠ 0 →
      exec (.leave port r) s = .next (s.setCtr r.hid { s.ctr r.hid with children := kids })) ∧
    ((s.ctr r.hid).state = .idle → kids = 0 → (s.ctr r.hid).children ≠ 0 → (s.ctr r.hid).root = false →
      exec (.leave port r) s = .next ((s.setCtr r.hid { s.ctr r.hid with children := kids }).sendHitch (s.ctr r.hid).parent 0
        (HitchRec.blank 6 r.hid (s.ctr r.hid).epoch))) ∧
    ((s.ctr r.hid).state = .heldForMembers →
      exec (.leave port r) s = .next (s.setCtr r.hid { s.ctr r.hid with children := kids })) ∧
    ((s.ctr r.hid).state = .collecting ∨ (s.ctr r.hid).state = .waitRel →
      exec (.leave port r) s = .next (s.setCtr r.hid { s.ctr r.hid with leaving := (s.ctr r.hid).leaving ||| portMask port }))) ∧
  (∀ (hid : Nat) (s : State), s.serving = true → s.boot.post = true → (s.ctr hid).valid = true → s.armedAt Page.hitch Err.hitch.COUNTER_CHECK ≠ some hid →
    let c := s.ctr hid
    (c.state = .collecting → exec (.hitchTimeout hid) s =
      .next (((s.setCtr hid { c with timedOut := c.children &&& ~~~(c.arrived ||| c.lostNow) }).err Page.hitch
        Err.hitch.TIMEOUT).advanceCtr hid)) ∧
    (c.state = .waitRel → exec (.hitchTimeout hid) s = .next (s.abandonRel hid))) ∧
  (∀ (port : Nat) (r : HitchRec) (s : State), s.mount = true → s.portUp port = true →
    let a := { HitchRec.blank 4 r.hid r.epoch with dtNs := r.dtNs, origin := r.origin, cause := 5 }
    (∀ h, (s.sync.history.find? fun h => h.1 == r.epoch && r.hid == s.sync.commitHid) = some h →
      exec (.hitchQuery port r) s = .next (s.sendHitch port r.origin { a with ok := h.2.1, cause := if h.2.2 = 5 then 0 else h.2.2 })) ∧
    ((s.sync.history.find? fun h => h.1 == r.epoch && r.hid == s.sync.commitHid) = none →
      exec (.hitchQuery port r) s = .next (s.sendHitch port r.origin a))) ∧
  (∀ (port : Nat) (r : HitchRec) (s : State), s.mount = true → s.portUp port = true → r.cause ≠ 5 → r.hid = s.sync.commitHid →
    r.epoch = s.commitEpoch → s.sync.stepState = .deciding ∨ s.sync.stepState = .inDoubt →
    exec (.hitchAnswer port r) s = .next (s.applyDecision r.ok r.cause).fabGo) ∧
  (∀ (port : Nat) (r : HitchRec) (s : State), s.serving = true → s.portUp port = true → (r.origin, r.event) ∉ s.sync.seenStops →
    (s.boot.post = false ∨ s.rdb Page.hitch Reg.HITCH_CTRL.EN = true) →
    let u : State := { s with sync := { s.sync with seenStops := ((r.origin, r.event) :: s.sync.seenStops).take 16 } }
    exec (.hitchStop port r) s = .next ((u.sendHitches (s.upPorts.filter (· != port)) r).armStop r.dtNs)) ∧
  (∀ (p : Party) (s : State), s.boot.phase = .running → s.boot.post = true → mayWrite p Page.hitch = true →
    let hid := s.hitchSel
    s.armedAt Page.hitch Err.hitch.COUNTER_CHECK ≠ some hid →
    let c := s.ctr hid
    let w := s.hitchWin 1
    (c.state = .idle → s.hitchWin 0 ≠ 0 → s.badChildren (s.hitchWin 0) (bits w 2 6) (bit w 1) = false → bits w 30 34 = 0 →
      exec (.hitchCmdWrite p) s = .next ((s.setCtr hid { c with
        valid := bit w 0, root := bit w 1, parent := bits w 2 6, children := BitVec.ofNat 64 (s.hitchWin 0) }).hitchCode 0)) ∧
    (∃ t, exec (.hitchCmdRead p) s = .next t ∧ t.hitchWin 0 = c.children.toNat ∧ t.hitchWin 1 = c.word1 % 2 ^ 64 ∧
      t.hitchWin 2 = c.lostNow.toNat ∧ t.hitchWin 3 = c.arrived.toNat ∧ t.sync = s.sync) ∧
    (let u := s.setCtr hid { c.rest with state := .idle, epoch := 0, held := [], leaving := 0, withdrawn := false }
     exec (.hitchClear p) s = .next ((if c.state = .heldForMembers then u.endHeld else u).hitchCode 0)) ∧
    (s.boot.svcHalted = false → c.state = .heldForMembers → s.hitchWin 0 ≠ 0 → s.badChildren (s.hitchWin 0) c.parent c.root = false →
      exec (.memberSet p) s = .next ((((s.setCtr hid
        { c.rest with state := .idle, children := BitVec.ofNat 64 (s.hitchWin 0) }).actHeld hid).endHeld).hitchCode 0)))

/-- The end of DRAINING makes the step DECIDING, writes the record and sends the member's arrival, OK only if it arrived
OK with no STEP_BAD; MAX_WAIT and each repeat send QUERY to both anchors; the end of the queries makes the step
IN_DOUBT, raises the error and writes the record; an armed stop whose DT is reached stops the gait and the launches,
and its drain ends. (R223, R224, R227, R228, R229, R231) -/
def Obligations.CommitAndStopCommandsComplete : Prop :=
  (∀ s : State, s.mount = true → s.sync.stepState = .draining → s.joined s.sync.commitHid = true →
    exec .commitDrainDone s = .next ((({ s with sync := { s.sync with
      stepState := .deciding, awaited := some (s.epochOf s.sync.commitHid) } } : State).saveRecord).sendArrive
      s.sync.commitHid (s.sync.arrivedOk && !s.sync.stepBad) 1)) ∧
  (∀ s : State, s.mount = true → s.sync.stepState = .deciding → s.joined s.sync.commitHid = true →
    let r := { HitchRec.blank 3 s.sync.commitHid s.commitEpoch with dtNs := s.sync.step, origin := s.selfRank.getD 0 }
    let port := joinPlane (s.joinOf s.sync.commitHid)
    let u := (s.sendHitch port s.sync.anchor0 r).sendHitch port s.sync.anchor1 r
    let t : State := { u with sync := { s.sync with queries := s.sync.queries + 1 } }
    (s.sync.queries = 0 → exec .commitMaxWait s = .next t) ∧ (s.sync.queries ≠ 0 → exec .commitQueryRepeat s = .next t)) ∧
  (∀ s : State, s.mount = true → s.sync.stepState = .deciding → s.sync.queries ≠ 0 →
    exec .inDoubt s = .next ((({ s with sync := { s.sync with stepState := .inDoubt } } : State).raise Page.err Err.err.IN_DOUBT).saveRecord)) ∧
  (∀ (d : Nat) (s : State), s.serving = true → s.sync.stopArmed = true → s.sync.stopDt = some d → d ≤ s.dtNs →
    ∃ t, exec .stopDtReached s = .next t ∧ t = s.doStop false ∧
      (s.boot.post = true → t.sync.stopped = true ∧ t.sync.gaitStopped = true ∧ t.rd Page.hitch Reg.HITCH_STATUS.STOPPED = 1)) ∧
  (∀ s : State, s.serving = true → s.sync.stopped = true →
    let u : State := { s with sync := { s.sync with draining := false } }
    (s.boot.post = true → exec .stopDrainEnd s = .next (u.wr Page.hitch Reg.HITCH_STATUS.DRAINING 0)) ∧
    (s.boot.post = false → exec .stopDrainEnd s = .next u.saveRecord)) ∧
  (∀ (p : Nat) (x : Pkt) (s : State), s.pkt p = some x →
    let u := s.calm.setPkt p { x with performed := true }
    (s.ready p 0x64 = true → bit (x.f 16 8) 0 = false ∨ (u.ctxUsable (u.ctxFn (bits (x.f 16 8) 48 12)) (bits (x.f 16 8) 48 12) = true ∧
        (bit (x.f 16 8) 1 = true ∨ (u.fenceUsable (u.ctxFn (bits (x.f 16 8) 48 12)) (bits (x.f 16 8) 3 16) = true ∧
          u.fenceCtx (bits (x.f 16 8) 3 16) = bits (x.f 16 8) 48 12 ∧ bits (x.f 16 8) 32 16 ≠ 0))) →
      exec (.sigSet p) s = .next (({ u with sync := { u.sync with
        signals := SMap.put u.sync.signals 0 (x.f 8 2 % 4096) (BitVec.ofNat 64 (x.f 16 8)) } } : State).finish p St.OK)) ∧
    (s.ready p 0x65 = true → bit (x.f 16 8) 0 = false ∨ (joinPlane (x.f 16 8) < s.ports ∧ (joinCommit (x.f 16 8) = false ∨
        (s.sync.joins.any fun j => j.1 != x.f 8 2 % 1024 && bit j.2.toNat 0 && joinCommit j.2.toNat) = false)) →
      exec (.hitchJoin p) s = .next (({ u with sync := { u.sync with
        joins := SMap.put u.sync.joins 0 (x.f 8 2 % 1024) (BitVec.ofNat 64 (x.f 16 8))
        epochs := SMap.erase u.sync.epochs (x.f 8 2 % 1024), waiting := SMap.erase u.sync.waiting (x.f 8 2 % 1024)
        ahead := SMap.erase u.sync.ahead (x.f 8 2 % 1024) } } : State).finish p St.OK)) ∧
    (s.ready p 0x66 = true → x.f 16 8 % 256 = 0 → s.joined (x.f 24 2 % 1024) = true → joinCommit (s.joinOf (x.f 24 2 % 1024)) = true →
      s.sync.stepState = .running →
      let t := (({ u with sync := { u.sync with
        record := some (x.f 16 8), commitHid := x.f 24 2 % 1024, anchor0 := x.f 26 2, anchor1 := x.f 28 2
        step := x.f 32 6 } } : State).saveRecord).finish p St.OK
      t.blocked = false → exec (.stepCfg p) s = .next t) ∧
    (s.ready p 0x67 = true → s.activePeriod ≠ 0 → x.f 16 8 % s.activePeriod = 0 → s.dtNs + 20000 ≤ x.f 16 8 →
      x.f 16 8 ≤ s.dtNs + 10000000000 → s.timeState ≠ 0 →
      let ev := (s.sync.eventNo + 1) % 65536
      let me := s.selfRank.getD 0
      let v : State := { u with sync := { u.sync with eventNo := ev, seenStops := ((me, ev) :: u.sync.seenStops).take 16 } }
      let t := ((v.sendHitches s.upPorts
        { HitchRec.blank 5 0 0 with dtNs := x.f 16 8, origin := me, event := ev }).armStop (x.f 16 8)).finish p St.OK
      t.blocked = false → exec (.stopAt p) s = .next t) ∧
    (s.ready p 0x69 = true → x.f 8 2 = s.commitEpoch → s.sync.stepState = .deciding ∨ s.sync.stepState = .inDoubt →
      let t := ((u.applyDecision (bit (x.f 10 1) 0) 0).fabGo).finish p St.OK
      t.blocked = false → exec (.resolve p) s = .next t))

/-- A trained channel shows its pages and its tree shape; a granule that fails its tag twice is counted, recorded and
marked as failed, a good one changes nothing; a completed write without a parity mismatch changes nothing more; a good
entry in the window is stored with code 0 and DONE 0 until its completion, a refused one reports its code; a read puts
the four words in the window; MCH_LINE_PAGES changes only while no region exists; while no access of theirs must wait,
SEAL starts FILLING and remembers its slot, UNWRAP starts the chunks if its header is good and fails the entry if not,
a good chunk is written and counted, the last one seals the region, a bad one fails the entry; UNWRAP_ABANDON fails
the entry; an uncorrectable word of a signal entry makes it not valid. (R238, R243, R244, R246, R247, R250, R252,
R253, R388, R389, R433, R488) -/
def Obligations.MemoryCommandsComplete : Prop :=
  (∀ (ch cap q : Nat) (s : State), s.mount = true → ch < s.channels → (s.chan ch).trained = false → s.clipPages cap = some q →
    (∃ k, k < s.channels ∧ k ≠ ch ∧ (s.chan k).trained = false) →
    ∃ t, exec (.memoryTrained ch cap) s = .next t ∧ (t.chan ch).trained = true ∧ (t.chan ch).capPages = q ∧
      t.rd (Page.mch ch) Reg.MCHn_CAP_PAGES.P = q % 2 ^ 25 ∧ t.mem.ready = s.mem.ready) ∧
  (∀ (ch : Nat) (r : ReadResult) (s : State), s.mount = true → s.memOpen = true → ch < s.channels → r.pipeFault = false → s.istate ≠ 3 →
    r.level = 0 → r.firstOk = true → exec (.memoryReadResponse ch r) s = .next s) ∧
  (∀ (ch : Nat) (r : ReadResult) (s : State), s.mount = true → s.memOpen = true → ch < s.channels → r.pipeFault = false → s.istate ≠ 3 →
    r.level = 0 → r.firstOk = false → r.secondOk = false → SMap.getD (s.leaf ch (r.index / 64)).minors 0 (r.index % 64) ≠ 0 →
    let off := s.pageAt ch (r.index / 64)
    let start := off + r.index % 64 * s.granSize off
    let u := (s.inc (Page.mch ch) Reg.MCHn_TAG_FAIL.COUNT).err (Page.mch ch) Err.mch.TAG_FAIL { place := start, placeKind := 1 }
    exec (.memoryReadResponse ch r) s = .next (({ u with mem := { u.mem with failed := insertUp u.mem.failed start } } : State).triageAdd
      { ch := ch, level := 0, index := r.index / 64, granule := r.index % 64, cause := 0 })) ∧
  (∀ (ch : Nat) (w : WriteResult) (s : State), w.pipeFault = false → exec (.memoryWriteDone ch w) s = .next s) ∧
  (∀ (p : Party) (s : State), s.boot.phase = .running → s.channels ≠ 0 → mayWrite p (Page.mch 0) = true →
    let n := s.rd (Page.mch 0) Reg.RAT_SEL.ENTRY
    (s.ratCode n s.ratWin false = 0 → exec (.ratCmdWrite p) s = .next ((s.ratStore n s.ratWin none).tdiError s.ratWin.names)) ∧
    (s.ratCode n s.ratWin false ≠ 0 → exec (.ratCmdWrite p) s = .next (s.ratRefuse s.ratWin (s.ratCode n s.ratWin false))) ∧
    (∃ t, exec (.ratCmdRead p) s = .next t ∧ t.ratWin = s.ratAt n ∧ t.mem = s.mem)) ∧
  (∀ (n : Nat) (e : Nat × Option Nat) (s : State), s.mount = true → (s.mem.ratPending.find? fun e => e.1 == n) = some e → e.2 = none →
    s.mem.ratPending.erase e = [] →
    exec (.ratWriteComplete n) s =
      .next (({ s with mem := { s.mem with ratPending := [] } } : State).wr (Page.mch 0) Reg.RAT_STATUS.DONE 1)) ∧
  (∀ (p : Party) (v : W32) (s : State), s.boot.phase = .running → s.channels ≠ 0 → mayWrite p (Page.mch 0) = true →
    s.locked (Page.mch 0) = false → (s.mem.rat.any fun e => e.2.valid) = false → s.farRunning = false → s.mem.ready = false →
    exec (.mchLinePagesWrite p v) s = .next (if down64 (fieldOf v 0 25) = s.rd (Page.mch 0) Reg.MCH_LINE_PAGES.PAGES then s
      else s.wr (Page.mch 0) Reg.MCH_LINE_PAGES.PAGES (down64 (fieldOf v 0 25)))) ∧
  (∀ (p : Nat) (x : Pkt) (s : State), s.ready p 0x6A = true → s.pkt p = some x →
    let n := x.f 8 1
    let k := bits (x.f 12 1) 0 5
    let e := s.ratAt n
    e.valid = true → e.sealed = false → e.sealState = 0 → e.tx = false → (s.slot k).kind = 6 → (s.slot k).state = 1 →
    let u := ((s.calm.setPkt p { x with performed := true }).setRat n (e.withSeal true 1 (x.f 10 2))).reinit e.base e.size
    let t := ({ u with mem := { u.mem with sealSlots := SMap.set u.mem.sealSlots n k } } : State).finish p St.OK
    t.blocked = false → exec (.seal p) s = .next t) ∧
  (∀ (p : Nat) (x : Pkt) (s : State), s.ready p 0x6B = true → s.pkt p = some x →
    let n := x.f 8 1
    let src := x.f 16 8
    let w := s.calm.setPkt p { x with performed := true }
    let a := w.readAs Master.maint src (min (x.f 24 8) 128)
    let h := slice a.data 0 128
    s.filling n = true → w.checkRange Master.pf 0 src (x.f 24 8) = none →
    let u := (((a.st.wr (Page.mch 0) Reg.UNWRAP_STATUS.ENTRY n).wr (Page.mch 0) Reg.UNWRAP_STATUS.ACTIVE 1).wr (Page.mch 0)
      Reg.UNWRAP_CHUNKS.COUNT 0).saddled
    let k := SMap.getD u.mem.sealSlots 0 n
    let v : Unwrap := { entry := n, slot := k, src := src, bytes := x.f 24 8, hdr := slice h 0 112, chunk := 0, key := keyOf (u.slot k).payload }
    let t := if w.unwrapOk n (x.f 24 8) h (a.status != St.OK) then
        ({ u with mem := { u.mem with unwrap := some v } } : State).finish p St.OK
      else ((a.st.sealFail n).lastRefuse 3 3).kres p 3
    t.blocked = false → exec (.unwrap p) s = .next t) ∧
  (∀ (u : Unwrap) (s : State), s.mount = true → s.memOpen = true → s.mem.unwrap = some u →
    let size := 2 ^ wrapLog2 u.hdr
    let len := if u.chunk + 1 < wrapChunks u.hdr then size else wrapTotal u.hdr - (wrapChunks u.hdr - 1) * size
    let a := s.calm.readAs Master.maint (u.src + 128 + u.chunk * (size + 16)) (len + 16)
    let ct := slice a.data 0 len
    let e := a.st.ratAt u.entry
    let v := ((a.st.writePhys (e.base + u.chunk * size) (gcmText u.key (wrapNonce u.hdr u.chunk) ct) 0 false).2).inc (Page.mch 0)
      Reg.UNWRAP_CHUNKS.COUNT
    let t :=
      if a.status ≠ St.OK ∨ slice a.data len 16 ≠ gcmTag u.key (wrapNonce u.hdr u.chunk) (wrapAad u.hdr u.chunk) ct then a.st.sealFail u.entry
      else if u.chunk + 1 < wrapChunks u.hdr then { v with mem := { v.mem with unwrap := some { u with chunk := u.chunk + 1 } } }
      else (({ v with mem := { v.mem with unwrap := none, sealSlots := SMap.erase v.mem.sealSlots u.entry } } : State).setRat u.entry
        (e.withSeal true 2 e.model)).wr (Page.mch 0) Reg.UNWRAP_STATUS.ACTIVE 0
    t.blocked = false → exec .unwrapChunk s = .next t) ∧
  (∀ (n : Nat) (s : State), s.mount = true → s.filling n = true → exec (.unwrapAbandon n) s = .next (s.sealFail n)) ∧
  (∀ (index : Nat) (s : State), s.serving = true →
    exec (.patrolRead 2 index true) s = .next { s with sync := { s.sync with signals := SMap.erase s.sync.signals (index % 4096) } })

/-- The oldest queued block, a leaf or an internal one, takes a free slot and its MAJOR rises, unless it must wait for the
end zone; a completed sweep closes the slot and what waited is served; a rebuild or retire command with code 0 is
listed and asks for the token, its completion rebuilds or retires the extent, sets DONE or shows the next triage item,
and gives the token back; a walk command asks for the token, a completed walk sets DONE if a command asked for it and
gives the token back; a free token is granted, or waits while MR is not ON, a scrub chunk moves the position on, a
release passes the token on. (R268, R275, R276, R277, R278, R471, R472, R476) -/
def Obligations.CounterTreeCommandsComplete : Prop :=
  (∀ (ch : Nat) (r : Reenc) (l : List Reenc) (s : State), s.mount = true → s.memOpen = true → ch < s.channels →
    (s.chan ch).reencQueue = r :: l → s.slotsOpen ch < 112 →
    let u := s.calm.walkTo ch r.level r.index
    (r.level ≤ 1 → (u.overflowLeaf ch r.index none).blocked = false →
      exec (.reencStart ch) s = .next (u.overflowLeaf ch r.index none)) ∧
    (r.level = 2 → (u.overflowUpper ch 2 r.index false).blocked = false →
      exec (.reencStart ch) s = .next (u.overflowUpper ch 2 r.index false)) ∧
    (let t := State.writeBlock 8 ch r.level r.index (u.overflowUpper ch r.level r.index false)
     3 ≤ r.level → t.blocked = false → exec (.reencStart ch) s = .next t)) ∧
  (∀ (ch level index : Nat) (r : Reenc) (s : State), s.mount = true → ch < s.channels → (s.chan ch).slotOf level index = some r →
    let off := s.pageAt ch r.index
    let u := (if r.level = 1 then s.mem.failed.filter fun a => off ≤ a && a < off + 4096 && !r.done.getLsbD (s.granIndex a) else []).foldl (fun s a => s.poisonGran a) s
    exec (.reencComplete ch level index) s = .next (((u.setChan ch { u.chan ch with
      reenc := (u.chan ch).reenc.filter fun r => !(r.level == level && r.index == index) }).showReenc ch).runWaits)) ∧
  (∀ (p : Party) (ch : Nat) (s : State), s.boot.phase = .running → ch < s.channels → ch < 12 → mayWrite p (Page.mch ch) = true →
    let e := fun b => ({ level := s.rd (Page.mch ch) Reg.MCHn_TREE_SEL.LEVEL, index := s.rd (Page.mch ch) Reg.MCHn_TREE_SEL.INDEX, retire := b, byHost := true, triage := false } : Rebuild)
    let c := s.treeCode ch 0
    (s.treeCmdCode ch false = 0 → exec (.rebuild p ch) s =
      .next ((c.wr (Page.mch ch) Reg.MCHn_TREE_STATUS.DONE 0).addRebuild ch (e false))) ∧
    (s.treeCmdCode ch true = 0 → exec (.retire p ch) s =
      .next ((c.wr (Page.mch ch) Reg.MCHn_TREE_STATUS.DONE 0).addRebuild ch (e true))) ∧
    (s.haPending 0 = false ∨ s.boot.svcHalted = false → (s.chan ch).token ≠ some .walk → .walk ∉ (s.chan ch).tokenWait →
      ((s.chan ch).rebuilds.any fun x => x.byHost) = false →
      exec (.walk p ch) s = .next ((((c.wr (Page.mch ch) Reg.MCHn_TREE_STATUS.DONE 0).setChan ch
        { s.chan ch with walkCmd := true }).startWalk ch).endWalks))) ∧
  (∀ (ch : Nat) (e : Rebuild) (s : State), s.mount = true → ch < s.channels → (s.chan ch).token = some .rebuild → (s.chan ch).rebuilds = [e] →
    s.rebuildHeld ch e.level e.index = false → (s.calm.doRebuild ch e).blocked = false →
    let u := if e.retire then s.retireExtent ch e.level e.index else s.rebuildExtent ch e.level e.index
    let v := u.setChan ch { u.chan ch with rebuilds := [] }
    (e.byHost = true → e.triage = false → exec (.rebuildComplete ch) s = .next ((v.wr (Page.mch ch)
      Reg.MCHn_TREE_STATUS.DONE 1).dropToken ch .rebuild)) ∧
    (e.byHost = false → e.triage = true → exec (.rebuildComplete ch) s = .next (v.triageNext.dropToken ch .rebuild)) ∧
    (e.byHost = false → e.triage = false → exec (.rebuildComplete ch) s = .next (v.dropToken ch .rebuild))) ∧
  (∀ (ch : Nat) (s : State), s.mount = true → ch < s.channels → (s.chan ch).token = some .walk →
    let pinned := ((s.chan ch).upper.map Prod.fst).filter fun b => 3 * 2 ^ 25 ≤ b && !((s.chan ch).cached.contains b)
    let v := s.setChan ch { s.chan ch with cached := (s.chan ch).cached ++ pinned, walkCmd := false }
    ((s.chan ch).walkCmd = true →
      exec (.coldWalkComplete ch) s = .next ((v.wr (Page.mch ch) Reg.MCHn_TREE_STATUS.DONE 1).dropToken ch .walk)) ∧
    ((s.chan ch).walkCmd = false → exec (.coldWalkComplete ch) s = .next (v.dropToken ch .walk))) ∧
  (∀ (ch : Nat) (s : State), s.mount = true → ch < s.channels → (s.chan ch).token = none → (s.chan ch).tokenWait = [] →
    (∀ u, u ≠ .reenc → s.mrOn = true → exec (.tokenRequest ch u) s = .next (s.grantToken ch u)) ∧
    (∀ u, u ≠ .reenc → s.mrOn = false → exec (.tokenRequest ch u) s = .next (s.setChan ch { s.chan ch with tokenWait := [u] })) ∧
    (s.memOpen = true → s.rdb (Page.mch ch) Reg.MCH_CTRL.SCRUB_EN = true → exec (.scrubChunk ch) s = .next (s.grantToken ch .scrub))) ∧
  (∀ (ch : Nat) (u : TokenUse) (s : State), s.mount = true → ch < s.channels → (s.chan ch).token = some u → (s.chan ch).tokenWait = [] →
    ∃ t, exec (.tokenRelease ch u) s = .next t ∧ (t.chan ch).token = none)

/-- A start with code 0 begins a pass with its cause, also when the hours of AUTO_HOURS have passed; a page step of a
channel that holds the token opens, against its grant where the pass runs by grants and nothing makes the step urgent;
a completed step at the shoe line is swept and the line moves on by one page; FAR_PAUSE is set and a running channel
settles, cleared and it runs again; a grant of pages is stored and ends the wait. (R280, R282, R283, R284, R285, R287,
R288, R289, R290, R291) -/
def Obligations.FarrierCommandsComplete : Prop :=
  (∀ (p : Party) (s : State), s.boot.phase = .running → s.channels ≠ 0 → mayWrite p (Page.mch 0) = true → s.farCode = 0 →
    exec (.farStart p) s = .next ((s.wr (Page.mch 0) Reg.FAR_START_STATUS.CODE 0).farBegin 1)) ∧
  (∀ s : State, s.mount = true → s.rd (Page.mch 0) Reg.FAR_CFG.AUTO_HOURS ≠ 0 → s.farCode = 0 →
    exec .farAutoStart s = .next (s.farBegin 2)) ∧
  (∀ (ch : Nat) (s : State), s.mount = true → s.memOpen = true → s.farRunning = true → ch < s.channels → s.farWake ch = s →
    s.farMayStep ch = true → (s.chan ch).token = some .farrier →
    (s.farByGrant = false ∨ s.farUrgent ch = true → (s.calm.farOpen ch).blocked = false → exec (.farPageStep ch) s = .next (s.calm.farOpen ch)) ∧
    (s.farByGrant = true → s.farUrgent ch = false → s.rd (Page.mch ch) Reg.MCHn_FAR_GRANT.PAGES ≠ 0 →
      (s.calm.farByGrantStep ch).blocked = false → exec (.farPageStep ch) s = .next (s.calm.farByGrantStep ch))) ∧
  (∀ (ch g : Nat) (r bad : List Nat) (s : State), s.mount = true → s.farRunning = true → ch < s.channels → (s.chan ch).steps = g :: r →
    let u := if s.farSkips ch g then s.calm else s.calm.farSweep ch g bad
    let t := ((u.setChan ch { u.chan ch with steps := r }).showReenc ch).farAdvance ch
    t.blocked = false → exec (.farPageStepDone ch g bad) s = .next t) ∧
  (∀ (p : Party) (ch : Nat) (s : State), s.boot.phase = .running → ch < s.channels → ch < 12 → mayWrite p (Page.mch ch) = true →
    exec (.farPause p ch) s = .next ((s.wr (Page.mch ch) Reg.MCH_CTRL.FAR_PAUSE 1).farSettle ch) ∧
    exec (.farResume p ch) s = .next ((s.wr (Page.mch ch) Reg.MCH_CTRL.FAR_PAUSE 0).farWake ch)) ∧
  (∀ (p : Party) (ch : Nat) (v : W32) (s : State), s.boot.phase = .running → ch < s.channels → ch < 12 → mayWrite p (Page.mch ch) = true →
    s.boot.svcHalted = false → s.mem.farCut = false → fieldOf v 0 25 ≠ 0 →
    exec (.farGrant p ch v) s = .next (((s.wr (Page.mch ch) Reg.MCHn_FAR_GRANT.PAGES (fieldOf v 0 25)).wr (Page.mch ch)
      Reg.MCH_STATUS.WAIT_GRANT 0).farGranted))

/-- A doorbell write within the ring sets WPTR and wakes the slice; a fetch reads up to five slots of the chosen queue; a
fetched packet that passes steps 1 to 5 enters the store, another is refused with its status; a packet whose turn has
come and whose handles pass starts, a GRAPH_RUN pinning its graph, unless its descriptors must wait for memory; a NOP
ends OK; a LAUNCH waits for its credits and is dispatched to the chosen sequencers, a PERSIST likewise; a TASK_MSG
goes to its task; a packet whose effects are complete reports its status, advances its fence, raises its vector, is
counted, leaves the store and drops the graph it pinned; EN of a kernel queue's CFG creates it; a ring is unbound.
(R293, R296, R298, R300, R301, R302, R304, R307, R315, R317, R323, R330) -/
def Obligations.FrontEndCommandsComplete : Prop :=
  (∀ (p : Party) (page q : Nat) (v : W32) (s : State), s.feUp = true → (∀ n, p ≠ .vf n) → s.dbQueue p page = some q →
    (s.queue q).state ≠ .absent → (v.toNat + 2 ^ 32 - (s.queue q).wptr) % 2 ^ 32 < 2 ^ 31 →
    (v.toNat + 2 ^ 32 - (s.queue q).rptr) % 2 ^ 32 ≤ (s.queue q).slots →
    let u := s.wakeSlots [0x600 + sliceOf q]
    exec (.doorbellWrite p page 0 4 v) s = .next (u.setQueue q { s.queue q with wptr := v.toNat })) ∧
  (∀ (slice q : Nat) (s : State), s.feUp = true → s.sliceOk slice = true → s.pins.linkUp = true → s.rdb Page.fe Reg.FE_CTRL.EN = true →
    s.pickQueue slice = some q → exec (.packetFetch slice) s = .next (s.fetchFor q)) ∧
  (∀ (q : Nat) (l : List Byte) (s : State), s.feUp = true → (SMap.find? s.front.fetching q).isSome = true → (s.queue q).state = .ready →
    (s.queue q).avail ≠ 0 →
    let x := s.queue q
    let st := formatStatus s.boot.post x.kernel x.fn x.bind (s.rd Page.ver Reg.VER_FORMATS.PKT) x.avail l
    (st = 0 → exec (.fetchComplete q true l) s = .next ((s.endFetch q).storePkt q l)) ∧
    (st ≠ 0 → exec (.fetchComplete q true l) s = .next ((s.endFetch q).refusePkt q st))) ∧
  (∀ (p : Nat) (x : Pkt) (s : State), s.feUp = true → s.boot.post = true ∨ s.memOpen = true → s.pkt p = some x → x.started = false →
    x.result = none → (s.queue x.queue).state = .ready → s.orderOk p x = true →
    let c := s.calm
    let q := s.queue x.queue
    (q.kernel = true → s.boot.svcHalted = false → (c.startPkt p x).blocked = false →
      exec (.packetStart p) s = .next (c.startPkt p x)) ∧
    (q.kernel = false → ((x.opcode == 0x06 || x.opcode == 0x07) && c.owns x.fn .fence (x.f 8 2) && !c.slotFor (x.f 8 2)) = false →
      ((c.objs.slots.any (·.ctx == q.ctx)) = false → c.ctxChecked x.fn q.ctx = false → (c.startPkt p x).blocked = false →
        exec (.packetStart p) s = .next (c.startPkt p x)) ∧
      (∀ v, (c.objs.slots.any (·.ctx == q.ctx)) = true ∨ c.ctxChecked x.fn q.ctx = true → c.loadCtx q.ctx = some v →
        (v.startPkt p x).blocked = false → exec (.packetStart p) s = .next (v.startPkt p x)))) ∧
  (∀ (p : Nat) (x : Pkt) (s : State),
    let u : State := { s with front := { s.front with nextOrder := s.front.nextOrder + 1 } }
    let v := u.setPkt p { x with started := true, order := s.front.nextOrder + 1, at_ := s.now }
    v.step6 x = none → v.badCtl x = none → s.startPkt p x = if x.opcode = 0x0B then v.pinGraph p x else v) ∧
  (∀ (p : Nat) (x : Pkt) (s : State), s.pkt p = some x →
    let u := s.calm.setPkt p { x with performed := true }
    (s.ready p 0x01 = true → exec (.nop p) s = .next (u.finish p St.OK)) ∧
    (s.ready p 0x02 = true → exec (.launch p) s = .next u) ∧
    (s.ready p 0x09 = true →
      exec (.persist p) s = .next (if (u.queue x.target).ctx = u.pktCtx x ∧ (u.queue x.target).bind = 0 ∧ u.pktsOf x.target = [] then u
        else u.finish p St.BUSY)) ∧
    (∀ id l, s.ready p 0x0A = true → s.msgReady p x = true → s.taskOf x.queue = some (id, l) →
      let w : State := { s with front := { s.front with nextMsg := (s.front.nextMsg + 1) % 2 ^ 32 } }
      exec (.taskMsg p) s = .next ((w.setPkt p { x with performed := true, msgId := s.front.nextMsg }).emits
        (l.parts.map fun k => .msg k l.gen id s.front.nextMsg (slice x.bytes 16 (x.f 8 2)))))) ∧
  (∀ (p : Nat) (x : Pkt) (ks : List Nat) (s : State), s.feUp = true → s.memOpen = true → s.pkt p = some x →
    x.opcode = 0x02 ∨ (x.opcode = 0x09 ∧ s.targetFree x = true) → x.performed = true → x.ended = .none → x.launch = none → s.mayDispatch = true →
    chooseSeqs (s.seqsFor x) x.width = some ks → exec (.launchDispatch p) s = .next (s.dispatch p x ks)) ∧
  (∀ (p st : Nat) (x : Pkt) (s : State), s.feUp = true → s.pkt p = some x → x.result = some st → x.opsOut = 0 → x.launch = none →
    s.inOcc p = false →
    let s' := s
    let s := s'.calm
    let a := if x.graph.isSome then s else s.statusWord x.queue x.idx st x.flags x.detail
    let b := a.advanceCpl x st
    let c := if x.irq then b.emit (.msix (s.queue x.queue).fn (s.queue x.queue).vec) else b
    let d := (c.dropReads Use.COPY p).countPkt
    let e : State := { d with front := { d.front with pkts := SMap.erase d.front.pkts p } }
    let e := match x.graphVer with
      | some v => e.unpin (x.f 8 4 % 2 ^ 18) v
      | none => e
    let e := match x.graph with
      | some g => e.graphPart g x.graphPos st
      | none => e
    (e.retireQueue x.queue).blocked = false → exec (.packetComplete p) s' = .next (e.retireQueue x.queue)) ∧
  (∀ (p : Party) (fn : Nat) (v : W32) (s : State), s.boot.phase = .running → s.present (kqPage fn) = true → mayWrite p (kqPage fn) = true →
    s.locked (kqPage fn) = false → s.badVec fn v = false →
    let u := s.setReg (kqBase fn) (s.kqWord fn v)
    exec (.kqEnable p fn v) s =
      .next (if (s.kqWord fn v).getLsbD 7 ∧ (fn = 0 ∨ u.vstate fn = 1) then u.kernelQueue fn else u)) ∧
  (∀ (p : Party) (ring c : Nat) (s : State), s.boot.phase = .running → mayWrite p Page.fe = true → SMap.find? s.front.rings ring = some c →
    exec (.ringUnbind p ring) s = .next (({ s with front := { s.front with rings := SMap.erase s.front.rings ring } } : State).useAdd
      (s.ctxFn c) Reg.VFn_USE0.BINDS false))

/-- (Where a command's memory must wait for a coherent line, the packet waits and the command changes nothing.) A COPY
that is not refused moves its bytes piece by piece when its source is local, through the gateway when one side is
remote, by host reads when its source is in host memory; on a bound queue COPY and REDUCE wait for the executor; a
REDUCE delivers its operand and ends with the delivery's status; SIGNAL advances a fence or applies a signal; a WAIT
or TAKE on a resident fence is tested, TAKE taking a token, and one that times out ends TIMEOUT; FNS_EVICT gives the
waiting packet its slot; GAIT_BIND binds a queue or a ring; GRAPH_RUN enters the packets of the pinned version;
GAIT_LOAD reads the image's header, and the image's length after it unless the header decides, then checks and loads
it. (R91, R308, R309, R310, R311, R312, R313, R336, R340, R341, R342) -/
def Obligations.PacketCommandsComplete : Prop :=
  (∀ (p : Nat) (s : State), s.boundPkt p = true → exec (.copy p) s = .next s ∧ exec (.reduce p) s = .next s) ∧
  (∀ (p : Nat) (x : Pkt) (s : State), s.boundPkt p = false → s.ready p 0x03 = true → s.pkt p = some x →
    let u := s.calm.setPkt p { x with performed := true }
    let v := (u.copyLines x).2
    u.copyStatus x = 0 → u.copyHeld x = false → (u.copyLines x).1 = true →
    (∀ src, v.copyRemote x = none → sideOff (v.copySrc x) = some src →
      let t := State.moverLocal (x.f 24 5 / moverPiece + 1) p x src 0 false v
      t.blocked = false → exec (.copy p) s = .next t) ∧
    ((v.copyRemote x).isSome = true → (v.copySrc x).isSome = true →
      let t := (v.copyOps 8 p).copyEnd p
      t.blocked = false → exec (.copy p) s = .next t) ∧
    (v.copySrc x = none → (v.moverAsk p).blocked = false → exec (.copy p) s = .next (v.moverAsk p))) ∧
  (∀ (p off : Nat) (x : Pkt) (s : State), s.boundPkt p = false → s.ready p 0x04 = true → s.pkt p = some x →
    let u := s.calm.setPkt p { x with performed := true }
    let n := x.f 16 2 % 4096
    let d := s.desc n
    let len := spanBytes (RedDesc.nset d).fmt (RedDesc.nset d).fvar (RedDesc.elems d)
    let k := u.prepLines (u.herdLines off len) false
    let a := k.2.readAs (u.ctxMaster (u.pktCtx x)) off len
    let r := a.st.redDeliver n localSource (.operand a.data a.poison) none
    n ≠ 0xFFF → RedDesc.valid d = true → RedDesc.kind d = 0 → RedDesc.loc d = true → u.localOff (x.f 8 8) = some off →
    (u.root n).stalled = false → k.1 = true → k.2.rangeHeld 0 off len = false → a.status = St.OK →
    let t := (r.1.addCtr (u.pktCtx x) 3 (r.1.now - x.at_)).finish p (deliveryStatus r.2)
    t.blocked = false → exec (.reduce p) s = .next t) ∧
  (∀ (p : Nat) (x : Pkt) (s : State), s.ready p 0x05 = true → s.pkt p = some x →
    let u := s.calm.setPkt p { x with performed := true }
    let b := x.f 8 8
    let t := (if bit b 0 then u.applyFence (bits b 32 16) (x.f 16 4) (if bits b 1 4 = 2 then some 0x03 else none)
      else u.applySignal (bits b 16 12) (bits b 1 4)).finish p St.OK
    t.blocked = false → exec (.signal p) s = .next t) ∧
  (∀ (p : Nat) (x : Pkt) (s : State), s.pkt p = some x → (s.fenceSlot (x.f 8 2)).isSome = true →
    let u := (s.calm.setPkt p { x with performed := true }).useFence (x.f 8 2)
    let v := u.fenceNow (x.f 8 2)
    let t := u.finish p St.OK
    let k := (u.fencePut (x.f 8 2) v.1 (v.2.1 - 1) none).finish p St.OK
    (s.ready p 0x06 = true → v.2.2 = none → x.f 16 8 ≤ v.1 → t.blocked = false → exec (.wait p) s = .next t) ∧
    (s.ready p 0x07 = true → v.2.2 = none → x.f 16 8 ≤ v.1 → 0 < v.2.1 → k.blocked = false → exec (.take p) s = .next k) ∧
    (s.ready p 0x06 = true → v.2.2 = none → v.1 < x.f 16 8 → u.blocked = false →
      exec (.wait p) s = .next (u.addWaiter { pkt := p, fence := x.f 8 2, value := x.f 16 8, take := false, order := x.order }))) ∧
  (∀ (p : Nat) (x : Pkt) (s : State), s.feUp = true → s.pkt p = some x → x.opcode = 0x06 ∨ x.opcode = 0x07 → x.started = true →
    x.ended = .none → x.f 24 4 ≠ 0 →
    exec (.waitTimeout p) s = .next ((((s.finish p St.TIMEOUT).dropWaiters [p]).dropSlotWait p).testFence (x.f 8 2))) ∧
  (∀ (q : Party) (f : Nat) (s : State), s.boot.phase = .running → s.boot.post = false → mayWrite q Page.fns = true → s.boot.svcHalted = false →
    (s.fenceSlot f).isSome = true → s.waitersOf f = [] → s.front.slotWait ≠ [] → exec (.fnsEvict q f) s = .next (s.giveSlot f)) ∧
  (∀ (p : Nat) (x : Pkt) (s : State), s.ready p 0x08 = true → s.pkt p = some x →
    let u := s.calm.setPkt p { x with performed := true }
    (x.f 10 1 ≠ 3 → (u.queue (x.f 8 2)).ctx = u.pktCtx x → (u.queue (x.f 8 2)).bind = 0 → x.f 10 1 ≠ 0 → u.pktsOf (x.f 8 2) = [] →
      u.bindsFull x.fn = false →
      let v := u.useAdd x.fn Reg.VFn_USE0.BINDS true
      let t := (v.setQueue (x.f 8 2) { u.queue (x.f 8 2) with bind := x.f 10 1 }).finish p St.OK
      t.blocked = false → exec (.gaitBind p) s = .next t) ∧
    (x.f 10 1 = 3 → SMap.find? u.front.rings (x.f 11 1) = none → u.bindsFull x.fn = false →
      let t := (({ u with front := { u.front with
        rings := SMap.set u.front.rings (x.f 11 1) (u.pktCtx x) } } : State).useAdd x.fn Reg.VFn_USE0.BINDS true).finish p St.OK
      t.blocked = false → exec (.gaitBind p) s = .next t)) ∧
  (∀ (p v : Nat) (x : Pkt) (s : State), s.ready p 0x0B = true → s.pkt p = some x → x.graphVer = some v →
    let u := s.calm.setPkt p { x with performed := true }
    let h := x.f 8 4 % 2 ^ 18
    let n := bits (u.objW h 7) (16 * v) 13
    let r := u.readPhys (u.objBase h + v * (u.objSize h / 2)) (64 * n)
    let t := (cutPackets n r.1).zipIdx.foldl (fun s e =>
      s.addPkt { Pkt.fresh x.queue x.idx x.fn e.1 with graph := some p, graphPos := e.2 }) r.2.2
    r.2.1 = 0 → cutPackets n r.1 ≠ [] → t.blocked = false → exec (.graphRun p) s = .next t) ∧
  (∀ (p off : Nat) (x : Pkt) (s : State), s.ready p 0x61 = true → s.pkt p = some x →
    let u := s.calm.setPkt p { x with performed := true }
    let len := x.f 24 4
    let h := u.readAs Master.pf off (min len 64)
    let a := h.st.readAs Master.pf off (imgLen h.data)
    (s.boot.post = false → len ≠ 0 → u.localOff (x.f 16 8) = some off → h.status = St.OK → h.st.headDecides h.data len = true →
      let t := h.st.finishLoad p (x.f 8 1 % 64) h.data len
      t.blocked = false → exec (.gaitLoad p) s = .next t) ∧
    (s.boot.post = false → len ≠ 0 → u.localOff (x.f 16 8) = some off → h.status = St.OK → h.st.headDecides h.data len = false →
      a.status = St.OK →
      let t := a.st.finishLoad p (x.f 8 1 % 64) a.data len
      t.blocked = false → exec (.gaitLoad p) s = .next t) ∧
    (s.boot.post = true → len ≠ 0 →
      let t := u.hostRead 0 (x.f 16 8) (min len 64) Use.IMAGE p
      t.blocked = false → exec (.gaitLoad p) s = .next t))

/-- With code 0 a QUEUE_CREATE creates the queue and counts it at its context, the other queue packets drain, resume,
cancel, rank, hold and release the queue they name; with the tables set, the object packets create and destroy
contexts, memory objects and fences by writing their descriptors, and GRAPH_STORE writes the version that is not
current and makes it current; RAT_SET stores its entry and waits for its completion; SNAP, OBJ_KICK, TD_DONE and
FNS_READ act on what they name. (A packet whose table or memory must wait for a coherent line waits.) (R305, R318,
R325, R329, R332, R333, R334, R335, R338, R343, R344, R351) -/
def Obligations.ObjectCommandsComplete : Prop :=
  (∀ (p : Nat) (x : Pkt) (s : State), s.ready p 0x42 = true → s.pkt p = some x →
    let u := s.calm.setPkt p { x with performed := true }
    let g := x.f 13 1
    u.queueCode x = 0 →
    let y : Queue := { Queue.absent with
      fn := x.fn, ctx := x.f 10 2 % 4096, log2 := x.f 12 1, prio := bits g 0 2, statEn := bit g 2, wbEn := bit g 3, vec := x.f 14 2 % 2048
      ring := x.f 16 8, stat := x.f 24 8, wb := x.f 32 8, budget := x.f 40 2 }
    let t := (((u.noteCtx x.fn (x.f 10 2 % 4096)).createQueue (x.f 8 2 % 8192) y).ctxCount (x.f 10 2 % 4096) 1 0 true).finish p St.OK
    t.blocked = false → exec (.queueCreate p) s = .next t) ∧
  (∀ (p : Nat) (x : Pkt) (s : State), s.pkt p = some x →
    let u := s.calm.setPkt p { x with performed := true }
    let q := x.f 8 2 % 8192
    let y := u.queue q
    u.userQueueOf x.fn q = true →
    (s.ready p 0x43 = true → (u.drainQueue q (some p)).blocked = false → exec (.queueDestroy p) s = .next (u.drainQueue q (some p))) ∧
    (s.ready p 0x44 = true → x.f 10 1 = 1 → u.ctxLostBit y.ctx = false → y.state = .error →
      (x.f 16 4 + 2 ^ 32 - y.rptr) % 2 ^ 32 ≤ y.avail →
      exec (.queueResume p) s = .next ((u.setQueue q { y with state := .ready, rptr := x.f 16 4, stop := 0 }).finish p St.OK)) ∧
    (s.ready p 0x44 = true → x.f 10 1 = 2 → ((u.drainPkts q).finish p St.OK).blocked = false →
      exec (.queueCancel p) s = .next ((u.drainPkts q).finish p St.OK)) ∧
    (s.ready p 0x44 = true → x.f 10 1 = 3 →
      exec (.setPrio p) s = .next ((u.setQueue q { y with prio := x.f 11 1 % 4 }).finish p St.OK)) ∧
    (s.ready p 0x44 = true → x.f 10 1 = 4 →
      exec (.queueHold p) s = .next ((u.setQueue q (Queue.settle { y with ctlHold := true })).finish p St.OK)) ∧
    (s.ready p 0x44 = true → x.f 10 1 = 5 →
      exec (.queueRelease p) s = .next ((u.setQueue q (Queue.settle { y with ctlHold := false })).finish p St.OK))) ∧
  (∀ (p : Nat) (x : Pkt) (s : State), s.pkt p = some x →
    let u := s.calm.setPkt p { x with performed := true }
    let h := x.f 8 4 % 2 ^ 18
    u.tablesSet = true →
    (let c := x.f 8 2 % 4096
     let a := u.clearAt (u.ctxOff c 0) 256
     let w := 1 + x.fn * 2 ^ 2 + x.f 10 2 % 1024 * 2 ^ 9 + b2n (bit (x.f 14 1) 0) * 2 ^ 19 + x.f 12 2 * 2 ^ 20
     s.ready p 0x40 = true → u.owns x.fn .ctx c = true → u.ctxValid c = false → x.f 10 2 % 1024 ≠ 0 → u.owns x.fn .share (x.f 10 2 % 1024) = true →
     bit (x.f 14 1) 0 = false ∨ u.modelOwned x.fn (x.f 12 2) = true →
     let t := ((a.putW (a.ctxOff c 0) w 8).useAdd x.fn Reg.VFn_USE0.CTX true).finish p St.OK
     t.blocked = false → exec (.ctxCreate p) s = .next t) ∧
    (let c := x.f 8 2 % 4096
     let v := u.noteCtx x.fn c
     s.ready p 0x41 = true → v.ctxUsable x.fn c = true → v.ctxQueues c = 0 →
     let t := (v.destroyCtx c).finish p St.OK
     t.blocked = false → exec (.ctxDestroy p) s = .next t) ∧
    (let c := x.f 12 2 % 4096
     let v := u.noteCtx x.fn c
     let a := v.clearAt (v.objOff h 0) 64
     let b := a.putW (a.objOff h 0) (1 + b2n (bit (x.f 14 1) 0) * 2 ^ 3 + b2n (bit (x.f 14 1) 1) * 2 ^ 4 + x.fn * 2 ^ 5 + c * 2 ^ 12) 8
     let d := ((b.putW (b.objOff h 1) (x.f 16 8) 8).putW (b.objOff h 2) (x.f 24 8) 8).putW (b.objOff h 3) 1 8
     s.ready p 0x45 = true → u.owns x.fn .obj h = true → u.objValid h = false → v.ctxUsable x.fn c = true → x.f 16 8 % 4096 = 0 →
     x.f 24 8 % 4096 = 0 → x.f 24 8 ≠ 0 → x.f 16 8 + x.f 24 8 < 2 ^ 45 → v.rangeOwned x.fn (x.f 16 8) (x.f 24 8) = true →
     let t := ((d.ctxCount c 2 0 true).useAdd x.fn Reg.VFn_USE_OBJ.COUNT true).finish p St.OK
     t.blocked = false → exec (.objCreate p) s = .next t) ∧
    (let v := u.noteObj x.fn h
     s.ready p 0x46 = true → v.objUsable x.fn h = true → bit (x.f 14 1) 0 = false →
     let t := ((v.setObjState h 1).dropRef h).finish p St.OK
     t.blocked = false → exec (.objDestroy p) s = .next t) ∧
    (let f := x.f 8 2
     let c := x.f 10 2 % 4096
     let v := u.noteCtx x.fn c
     let t := ((((v.clearAt (v.fenceOff f 0) 32).putW (v.fenceOff f 0) (x.f 16 8) 8).putW (v.fenceOff f 1)
       (1 + c * 2 ^ 10 + x.fn * 2 ^ 22) 8).ctxCount c 1 32 true).useAdd x.fn Reg.VFn_USE_FENCE.COUNT true |>.finish p St.OK
     s.ready p 0x47 = true → u.owns x.fn .fence f = true → u.fenceValid f = false → v.ctxUsable x.fn c = true →
     t.blocked = false → exec (.fenceCreate p) s = .next t) ∧
    (let f := x.f 8 2
     s.ready p 0x48 = true → u.owns x.fn .fence f = true → u.fenceChecked x.fn f = true → u.fenceDying f = false →
     let t := (u.destroyFence f 0x01).finish p St.OK
     t.blocked = false → exec (.fenceDestroy p) s = .next t) ∧
    (let v := u.noteObj x.fn h
     let w := v.objW h 6
     let k := 1 - bits w 0 1
     let a := v.readAs (fnMaster x.fn) (x.f 16 8) (64 * x.f 24 2)
     s.ready p 0x49 = true → v.objUsable x.fn h = true → v.objGraph h = true → x.f 24 2 ≠ 0 → x.f 24 2 ≤ 4096 → x.f 24 2 ≤ v.objSize h / 128 →
     bits w (16 + 16 * k) 16 = 0 → a.status = St.OK → graphOk (x.f 24 2) (a.st.rd Page.ver Reg.VER_FORMATS.PKT) x.fn (x.f 24 2) a.data = true →
     let r := a.st.writePhys (a.st.objBase h + k * (a.st.objSize h / 2)) a.data 0 false
     let b := r.2
     let o7 := b.objW h 7
     let c := b.putW (b.objOff h 7) (o7 - bits o7 (16 * k) 13 * 2 ^ (16 * k) + x.f 24 2 * 2 ^ (16 * k)) 8
     let w' := w - bits w 0 1 + k
     let t := (c.putW (c.objOff h 6) (if bit w (1 + k) then w' else w' + 2 ^ (1 + k)) 8).finish p St.OK
     r.1 = true → t.blocked = false → exec (.graphStore p) s = .next t)) ∧
  (∀ (p : Nat) (x : Pkt) (s : State), s.ready p 0x62 = true → s.pkt p = some x →
    let u := s.calm.setPkt p { x with performed := true }
    let t := (u.ratStore (x.f 8 1) x.ratEntry (some p)).tdiError x.ratEntry.names
    u.ratCode (x.f 8 1) x.ratEntry true = 0 → t.blocked = false → exec (.ratSet p) s = .next t) ∧
  (∀ (q : Party) (s : State), s.boot.phase = .running → s.boot.post = false → mayWrite q Page.ctxs = true →
    (s.ctxValid (s.rd Page.ctxs Reg.CTXS_QSEL.CTX) = false → exec (.snap q) s =
      .next ((s.wr Page.ctxs Reg.CTXS_QSTATUS.DONE 1).wr Page.ctxs Reg.CTXS_QSTATUS.ABSENT 1)) ∧
    (∃ t, exec (.snap q) s = .next t ∧ t.rd Page.ctxs Reg.CTXS_QSTATUS.DONE = 1) ∧
    (∀ h, let v := s.inc Page.ctxs Reg.CTXS_WALKS.COUNT
      exec (.ctxsObjKick q h) s = .next (if v.objChecked (v.objFn (h % 2 ^ 18)) (h % 2 ^ 18) = true then v.testObj (h % 2 ^ 18)
        else v.err Page.ctxs Err.ctxs.DESC_CHECK)) ∧
    (s.haPending 4 = true → s.boot.svcHalted = false → exec (.ctxsTdDone q) s = .next s.completeTd)) ∧
  (∀ (q : Party) (s : State), s.boot.phase = .running → s.boot.post = false → mayWrite q Page.fns = true →
    let f := s.rd Page.fns Reg.FNS_SEL.FENCE
    ∃ t, exec (.fnsRead q) s = .next t ∧ t.rdPair Page.fns Reg.FNS_VALUE_LO.VALUE Reg.FNS_VALUE_HI.VALUE = (s.fenceNow f).1 % 2 ^ 64 ∧
      t.rd Page.fns Reg.FNS_INFO.VALID = b2n (s.fenceValid f) ∧ t.rd Page.fns Reg.FNS_INFO.RESIDENT = b2n (s.fenceSlot f).isSome ∧
      t.mem = s.mem ∧ t.objs = s.objs ∧ t.front = s.front)

/-- A DONE of the current generation returns its credit and is kept, the last one ends the launch; MSG_DONE ends its
TASK_MSG; a heartbeat makes its sequencer present; a reserved kind is counted and recorded; a lost heartbeat, a
stalled port, a grace expiry and CRST_NOW in service are hangs; a watchdog expiry aborts the packet and its
sequencers; the reset goes on through hold, idle wait, CRST_N deassertion and the heartbeat wait to replay; a probe
expiry clears the task under replay; an action on a suspect replays, fails or drops it; the triage item that is shown
is left, stored poisoned, or joins its channel's rebuild list to be retired or rebuilt; RESUME ends a stop. (R307,
R315, R320, R321, R440, R441, R442, R443, R445, R446, R448, R449) -/
def Obligations.RecoveryCommandsComplete : Prop :=
  (∀ (k gen id st busy : Nat) (l : Launch) (s : State), s.feUp = true → s.mount = true → gen = s.feGen → s.launchOf k id = some l →
    (l.got.any fun g => g.1 == k) = false →
    let m : Launch := { l with got := l.got ++ [(k, st)] }
    let u := (s.setSeq k { s.seq k with credits := min 16 ((s.seq k).credits + 1) }).addBusy m busy
    (m.got.length < m.parts.length →
      exec (.seqDone k gen id st busy) s = .next { u with front := { u.front with launches := SMap.set u.front.launches id m } }) ∧
    (m.parts.length ≤ m.got.length → exec (.seqDone k gen id st busy) s =
      .next (if u.underReplay m.pkt then (u.endLaunch id m).clearCurrent else (u.endLaunch id m).replay))) ∧
  (∀ (k gen id msg st p : Nat) (l : Launch) (s : State), s.feUp = true → s.mount = true → gen = s.feGen → s.launchOf k id = some l →
    s.msgOf id msg = some p →
    exec (.msgDone k gen id msg st) s = .next (s.finish p (if st = 0 then St.OK else if st = 2 then St.CANCELLED else St.FAULT))) ∧
  (∀ (k gen a b : Nat) (s : State), s.feUp = true → s.mount = true → k < s.build.lsqCount → gen = s.feGen →
    let u := s.setSeq k { s.seq k with present := true, lastHb := s.now }
    exec (.heartbeat k gen a b) s = .next { u with faults := { u.faults with hbNeed := s.faults.hbNeed.filter (· != k) } }) ∧
  (∀ (k kind gen id : Nat) (s : State), s.feUp = true → s.mount = true →
    exec (.lsqProtocol k kind gen id) s = .next ((s.inc Page.fe Reg.FE_LSQ_BAD.COUNT).err Page.fe Err.fe.LSQ_PROTOCOL)) ∧
  (∀ (k : Nat) (s : State), s.feUp = true → s.mount = true → (s.seq k).present = true → s.istate = 0 →
    exec (.hbLost k) s = .next (s.err Page.fe Err.fe.HB_LOST).hang) ∧
  (∀ (port : Nat) (s : State), s.mount = true → port < s.build.dcpCount → s.computeReset = false →
    exec (.dcpStall port) s = .next (s.err Page.err Err.err.DCP_STALL { place := port, placeKind := 5 }).hang) ∧
  (∀ (p : Party) (s : State), s.boot.phase = .running → mayWrite p Page.err = true → s.istate = 0 → s.post = false →
    exec (.crstNow p) s = .next s.hang) ∧
  (∀ s : State, s.istate = 0 → s.recentResets.length + 1 < s.rd Page.err Reg.ERR_ESC_CFG.COUNT →
    let u := s.wr Page.err Reg.ERR_ESC_STATE.REPLAY_RESETS 0
    s.hang = ({ u with faults := { u.faults with escTimes := u.now :: s.recentResets, suspects := u.newSuspects, order := [], current := none
                                                 replays := 0, isReplayReset := false } } : State).startReset) ∧
  (∀ (p id : Nat) (l : Launch) (s : State), s.feUp = true → s.mount = true → s.launchAt p = some (id, l) →
    (l.persist = false → l.wdFired = false →
      let u := (s.sendAborts p).abortPkt p St.WATCHDOG
      exec (.watchdogExpiry p) s =
        .next { u with front := { u.front with launches := SMap.set u.front.launches id { l with wdFired := true } } }) ∧
    (l.wdFired = true → exec (.watchdogGraceExpiry p) s = .next s.hang)) ∧
  (∀ s : State, s.mount = true → s.faults.phase = .quarantine → s.genFree s.nextGen = true →
    exec .generationQuarantineEnd s = .next (s.enterReset s.nextGen)) ∧
  (∀ s : State, s.mount = true → s.faults.phase = .hold →
    exec .crstHoldExpiry s = .next { s with faults := { s.faults with phase := .idleWait } }) ∧
  (∀ s : State, s.mount = true → s.faults.phase = .idleWait →
    exec .crstDeassert s = .next { s with
      outs := { s.outs with crstN := true, dcpGen := s.feGen }, faults := { s.faults with phase := .hbWait } } ∧
    exec .dcpIdleTimeout s = .next (s.err Page.err Err.err.DCP_STALL).opDeassert) ∧
  (∀ s : State, s.mount = true → s.feUp = true → s.faults.phase = .hbWait →
    let u := s.enterReplay
    (u.rd Page.err Reg.ERR_CRST_CFG.REPLAY_MAX ≤ u.faults.replays →
      exec .crstHeartbeatWaitEnd s = .next u.loseWaiting.endEpisode) ∧
    (u.faults.replays < u.rd Page.err Reg.ERR_CRST_CFG.REPLAY_MAX → u.faults.isReplayReset = false → u.hostMode 3 = false →
      exec .crstHeartbeatWaitEnd s = .next ({ u with faults := { u.faults with order := u.waitingSuspects } } : State).replay)) ∧
  (∀ (u : Suspect) (id : Nat) (l : Launch) (s : State), s.feUp = true → s.mount = true → s.istate = 2 →
    (s.faults.current.bind fun i => s.faults.suspects[i]?) = some u → s.launchAt u.slot = some (id, l) → l.persist = true →
    exec .persistProbeExpiry s = .next (s.resendMsgs u.slot).clearCurrent) ∧
  (∀ (p : Party) (i : Nat) (u : Suspect) (s : State), s.boot.phase = .running → mayWrite p Page.err = true → s.boot.svcHalted = false →
    s.istate = 2 → s.haPending 3 = true → s.faults.suspects[i]? = some u → u.action = 0 → u.state = 0 →
    let v := s.noteAction i 1
    exec (.suspectReplay p i) s =
      .next ({ v with faults := { v.faults with order := v.faults.order ++ [i] } } : State).actionsDone ∧
    exec (.suspectFail p i) s = .next ((s.noteAction i 2).loseSuspect i u).actionsDone ∧
    exec (.suspectDrop p i) s = .next (((s.noteAction i 3).cancelPkt u.slot St.CANCELLED).endSuspect i 3).actionsDone) ∧
  (∀ (p : Party) (e : Triage) (r : List Triage) (s : State), s.boot.phase = .running → mayWrite p Page.err = true → s.boot.svcHalted = false →
    s.faults.triage = e :: r → s.haPending 7 = true →
    let u := s.haClear 7
    let entry := fun b => ({ level := max 1 e.level, index := e.index, retire := b, byHost := false, triage := true } : Rebuild)
    (e.level ≠ 0 → exec (.triageRetire p) s = .next (u.addRebuild e.ch (entry true))) ∧
    (e.level = 0 → exec (.triageRetire p) s =
      .next (u.poisonGran (u.pageAt e.ch e.index + e.granule * u.granSize (u.pageAt e.ch e.index))).triageNext) ∧
    exec (.triageRebuild p) s = .next (u.addRebuild e.ch (entry false)) ∧
    exec (.triageLeave p) s = .next u.triageNext) ∧
  (∀ (p : Nat) (x : Pkt) (s : State), s.ready p 0x68 = true → s.pkt p = some x → s.sync.stopped = true →
    let u := s.calm.setPkt p { x with performed := true }
    let t := ((({ u with sync := { u.sync with
      stopped := false, draining := false, stopDt := if u.sync.stopArmed then u.sync.stopDt else none } } : State).saveRecord).finish p St.OK).replay
    t.blocked = false → exec (.resume p) s = .next t)

/-- A VF_PROV with code 0 is applied at once in hardware mode and held for host software otherwise, which VF_HA_DONE ends;
QUIESCE of a LIVE VF drains its queues and unbinds its rings, and the last retired packet leads to QUIESCED, or to
FLR_RESET when an FLR waits; a release of a QUIESCED VF makes it LIVE; an FLR of a LIVE VF is held, of a QUIESCED one
enters FLR_RESET, of an OFF one is answered at once, of the PF resets the front region; FLR_RESET ends in LIVE or
QUIESCED with its part reported; a change of VF Enable is shown in every page. (R353, R354, R355, R357, R358, R359,
R360, R361, R362, R391) -/
def Obligations.FunctionCommandsComplete : Prop :=
  (∀ (p : Nat) (x : Pkt) (s : State), s.ready p 0x6C = true → s.pkt p = some x →
    let u := s.calm.setPkt p { x with performed := true }
    u.provCode x = 0 →
    (u.hostMode 8 = false → ((u.applyProv x).finish p St.OK).blocked = false →
      exec (.vfProv p) s = .next ((u.applyProv x).finish p St.OK)) ∧
    (u.hostMode 8 = true → exec (.vfProv p) s = .next (((({ u with front := { u.front with held := [p] } } : State).wr (Page.vf 0)
      Reg.VF_PROV_PEND.FN (x.f 8 1)).wr (Page.vf 0) Reg.VF_PROV_PEND.VALID 1).haPost 8))) ∧
  (∀ (q : Party) (s : State), s.boot.phase = .running → s.boot.post = false → mayWrite q (Page.vf 0) = true → s.haPending 8 = true →
    s.boot.svcHalted = false → exec (.vfHaDone q) s = .next s.finishProv) ∧
  (∀ (q : Party) (fn : Nat) (s : State), s.boot.phase = .running → s.boot.post = false → (∀ n, q ≠ .vf n) → mayWrite q (Page.vf fn) = true →
    fn ≠ 0 → fn < 128 →
    (s.vstate fn = 1 → exec (.quiesce q fn) s = .next (s.startQuiesce fn)) ∧
    (s.vstate fn = 3 → s.vfEnabled fn = true → exec (.vfRelease q fn) s =
      .next (if (s.setVstate fn 1).rdb (Page.vf fn) Reg.VFn_KQ_CFG.EN then (s.setVstate fn 1).kernelQueue fn else s.setVstate fn 1))) ∧
  (∀ (fn : Nat) (s : State), s.feUp = true → fn ≠ 0 → fn < 128 →
    (s.vstate fn = 2 → s.vfBusy fn = false →
      exec (.vfQuiesced fn) s = .next (((s.setVstate fn (if s.flrPend fn then 5 else 3)).funcVec).stopAnswered fn)) ∧
    (s.memOpen = true → s.vstate fn = 5 →
      ∃ t, exec (.flrResetDone fn) s = .next t ∧ t.vstate fn = (if s.vfEnabled fn then 1 else 3) ∧ t.flrPend fn = false)) ∧
  (∀ (fn : Nat) (s : State), s.feUp = true → fn ≠ 0 → fn < 128 → s.boot.post = false →
    (s.vstate fn = 0 → exec (.flr fn) s = .next (s.emit (.flrDone fn))) ∧
    (s.vstate fn = 1 → exec (.flr fn) s = .next (((((s.tdiError fn).setFlrPend fn true).setVstate fn 4).mapQueues fn fun x =>
      Queue.settle { x with flrHold := true }).err (Page.vf fn) Err.vf.FLR_HELD { fn := fn })) ∧
    (s.vstate fn = 2 → exec (.flr fn) s = .next ((s.tdiError fn).setFlrPend fn true)) ∧
    (s.vstate fn = 3 → exec (.flr fn) s = .next (((s.tdiError fn).setFlrPend fn true).setVstate fn 5))) ∧
  (∀ s : State, s.feUp = true → exec (.flr 0) s = .next (s.resetFr.emit (.flrDone 0))) ∧
  (∀ (en : Bool) (num : Nat) (s : State),
    let u : State := { s with pins := { s.pins with vfEn := en, numVf := num } }
    (s.up = false → exec (.vfEnableChange en num) s = .next u) ∧
    (s.up = true → s.boot.post = false → s.pins.vfEn = false ∨ en = true → exec (.vfEnableChange en num) s = .next u.showVfEn))

/-- ANCHOR puts the 48 bytes it reads into slot 8, DLK_ACTIVATE makes a held generation ACTIVE, ERASE frees a slot that
nothing uses, CONF_ENTER sets CONF and freezes the counters and the trace, another OP is refused with code 9; the
saddle performs the next operation; END_SESSIONS ends every session, KEY_HA_DONE ends the request for measurement
entries; tamper zeroises, leaves every slot free and asserts block reset, and its clear lets block reset go; a key
request of an idle cipher page makes it busy until the saddle serves it, an erase is done at once; START makes the
page busy, ABORT marks the job, a finished job shows its result. (R367, R368, R371, R372, R385, R387, R392, R393,
R398, R401, R402, R405) -/
def Obligations.KeyAndCipherCommandsComplete : Prop :=
  (∀ (p : Nat) (x : Pkt) (s : State), s.boot.post = false → s.ready p 0x60 = true → s.pkt p = some x →
    let u := s.calm.setPkt p { x with performed := true }
    let n := x.f 9 1
    (x.f 8 1 = 1 → (s.slot 8).state = 0 → u.checkRange Master.pf 0 (x.f 16 8) 48 = none → (u.readAs Master.pf (x.f 16 8) 48).status = St.OK →
      let t := ((u.readAs Master.pf (x.f 16 8) 48).st.putAnchor (u.readAs Master.pf (x.f 16 8) 48).data).finish p St.OK
      t.blocked = false → exec (.keyLoadAnchor p) s = .next t) ∧
    (x.f 8 1 = 2 → 9 ≤ n → (s.slot n).kind = 5 → (s.slot n).state = 1 → s.dlkActive.length < 2 →
      exec (.dlkActivate p) s = .next (((u.setSlot n { s.slot n with state := 2 }).dlkBegun).finish p St.OK)) ∧
    (x.f 8 1 = 3 → 9 ≤ n → n < 32 → ((s.slot n).kind = 5 → (s.slot n).state ≠ 0 → u.genUsed (s.slot n).gen = false) →
      ((s.slot n).kind = 6 → (s.mem.sealSlots.any fun e => e.2 == n) = false) →
      exec (.erase p) s = .next ((u.setSlot n Slot.free).finish p St.OK)) ∧
    (x.f 8 1 = 4 → s.lcState = 2 → (s.slot 8).state = 1 → s.trust.join.isSome = true →
      ∃ t, exec (.confEnter p) s = .next t ∧ t.rd Page.key Reg.KEY_STATUS.CONF = 1 ∧ t.rd Page.cnt Reg.CNT_STATUS.FROZEN = 1 ∧
        t.rd Page.trc Reg.TRC_STATUS.RUNNING = 0 ∧ t.trust = s.trust ∧ t.mem = s.calm.mem) ∧
    (x.f 8 1 = 0 ∨ 4 < x.f 8 1 → exec (.keyLoadInvalidOp p) s = .next ((u.lastRefuse 2 9).finish p St.REFUSED 9))) ∧
  (∀ (x : SaddleOp) (s : State), s.serving = true → nextSaddle s.trust.saddleQ = some x →
    let u : State := { s with trust := { s.trust with saddleQ := s.trust.saddleQ.erase x } }
    exec (.saddleOperation true) s = .next (u.saddleDo x.use) ∧
    (x.failed = true → exec (.saddleOperation false) s = .next (u.saddleFail x.use))) ∧
  (∀ (p : Party) (s : State), s.boot.phase = .running → mayWrite p Page.key = true →
    exec (.endSessions p) s = .next ((s.trust.sessions.map fun x => x.id).foldl (fun s id => s.sessionEnd id) s) ∧
    (s.haPending 6 = true → s.boot.svcHalted = false → exec (.keyHaDone p) s = .next (s.haClear 6).readMeas.goReports)) ∧
  (∀ s : State, (exec .tamper s = .next s.opTamper ∧ s.opTamper.trust.slots = [] ∧ s.opTamper.boot.tampered = true) ∧
    exec .tamperClear s = .next { s with pins := { s.pins with tamperN := true }, boot := { s.boot with tampered := false } }) ∧
  (∀ (p : Party) (n : Nat) (v : W32) (s : State), s.boot.phase = .running → n < 16 → mayWrite p (Page.ccip n) = true →
    ownerMay p (s.rd (Page.ccip n) Reg.CCIP_OWNER.OWNER) = true →
    let u := (s.wr (Page.ccip n) Reg.CCIP_STATUS.BUSY 1).wr (Page.ccip n) Reg.CCIP_KEY_STATUS.DONE 0
    (s.ccipBusy n = false → exec (.ccipKeyTrng p n v) s = .next (u.saddleAdd 5 (.ccipTrng n (v.getLsbD 2)))) ∧
    (s.ccipBusy n = false → s.rd (Page.ccip n) Reg.CCIP_OWNER.OWNER = 0 → s.derivable (fieldOf v 3 5) = true →
      exec (.ccipKeyDerive p n v true) s = .next (u.saddleAdd 5 (.ccipDerive n (fieldOf v 3 5) (v.getLsbD 2)))) ∧
    (s.ccipBusy n = false → exec (.ccipKeyErase p n) s = .next ((s.ccipKey n none).ccipKeyDone n 0)) ∧
    (s.ccipBusy n = false → exec (.ccipStart p n) s = .next (((s.setCcip n { s.ccipAt n with
      running := true, aborting := false, hadKey := (s.ccipAt n).key.isSome }).wr (Page.ccip n) Reg.CCIP_STATUS.BUSY 1).wr (Page.ccip n)
      Reg.CCIP_RESULT.DONE 0)) ∧
    ((s.ccipAt n).running = true → exec (.ccipAbort p n) s = .next (s.setCcip n { s.ccipAt n with aborting := true }))) ∧
  (∀ (n done : Nat) (k : Nat × Key256) (s : State), s.up = true → (s.ccipAt n).running = true → (s.ccipAt n).hadKey = true →
    (s.ccipAt n).key = some k → (s.ccipAt n).aborting = false → s.rdb (Page.ccip n) Reg.CCIP_STATUS.ENGINE_OUT = false →
    let decrypt := s.rdb (Page.ccip n) Reg.CCIP_OP.DIR
    let pad := s.rd (Page.ccip n) Reg.CCIP_OP.PAD
    let len := s.rd (Page.ccip n) Reg.CCIP_LEN.LEN
    badLength decrypt pad len = false → exec (.ccipJobDone n done 0 false) s = .next (s.jobRun n k decrypt pad len))

/-- GET_VERSION offers 1.2 and 1.3 in any state of the connection; GET_CAPABILITIES follows it, NEGOTIATE_ALGORITHMS
follows that; with algorithms negotiated and an identity, GET_DIGESTS, GET_CERTIFICATE of slot 0 and CHALLENGE answer
from the chain that host software wrote when its DeviceID key is the block's; KEY_EXCHANGE takes the first free slot
of 4 to 7; GET_MEASUREMENTS outside a session answers number and blocks, signed; CHUNK_SEND keeps a piece, CHUNK_GET
gives the next one; another request is UnsupportedRequest or UnexpectedRequest. (R366, R371, R373, R374, R375, R376,
R419) -/
def Obligations.SpdmConnectionCommandsComplete : Prop :=
  (∀ s : State, s.up = true →
    exec .getVersion s = .next ((s.setSpdm .version).spdmSend 0 Spdm.VERSION ([0, 2] ++ leBytes 2 0x1200 ++ leBytes 2 0x1300)) ∧
    (s.trust.phase = .version → ∃ (b : Byte) (u : State), exec .getCapabilities s = .next ((u.setSpdm .caps).spdmSend 0 Spdm.CAPABILITIES
      ([0, b, 0, 0] ++ leBytes 4 0x273D6 ++ leBytes 4 4096 ++ leBytes 4 65536)) ∧ u.draws = s.draws + 1 ∧ { u with draws := s.draws } = s) ∧
    (s.trust.phase = .caps → exec (.negotiateAlgorithms true) s = .next ((s.setSpdm .negotiated).spdmSend 0 Spdm.ALGORITHMS spdmAlgorithms) ∧
      exec (.negotiateAlgorithms false) s = .next (s.spdmErr 0 Spdm.InvalidRequest))) ∧
  (∀ (off len : Nat) (nonce key : List Byte) (s : State), s.up = true → s.boot.post = false → s.lcState ≠ 0 → s.lcState ≠ 4 →
    s.trust.phase = .negotiated →
    let r := s.readAs Master.maint (s.rdPair Page.key Reg.KEY_CERT_BASE_LO.ADDR Reg.KEY_CERT_BASE_HI.ADDR) (s.rd Page.key Reg.KEY_CERT_LEN.BYTES)
    let chain := Config.certChain r.data s.trust.aliasCert s.trust.aliasStmt
    r.status = St.OK → slice (Config.certKey r.data) 0 97 = slice s.trust.deviceId 0 97 →
    r.st.trust = s.trust →
    exec .getDigests s = .next (r.st.spdmSend 0 Spdm.DIGESTS (shaBytes chain)) ∧
    (off ≤ chain.length → exec (.getCertificate 0 off len) s = .next (r.st.spdmSend 0 Spdm.CERTIFICATE
      ([0, 0] ++ leBytes 2 ((chain.drop off).take len).length ++ leBytes 2 (chain.length - off - ((chain.drop off).take len).length)
        ++ (chain.drop off).take len))) ∧
    ((r.st.slot 2).state = 1 → key = slice (r.st.slot 2).payload 0 48 →
      ∃ (u : State) (t : Nat) (ours : List Byte), { u with draws := r.st.draws } = r.st ∧ exec (.challenge nonce) s =
        .next (u.saddled.spdmSend 0 Spdm.CHALLENGE_AUTH (shaBytes chain ++ ours ++ p384Sig key (leBytes 8 t ++ nonce ++ ours))))) ∧
  (∀ (reqId : Nat) (pub key : List Byte) (s : State), s.up = true → s.lcState ≠ 0 → s.lcState ≠ 4 → s.trust.phase = .negotiated →
    s.trust.sessions = [] → (s.slot 4).state = 0 → (s.slot 2).state = 1 → key = slice (s.slot 2).payload 0 48 →
    ∃ (x : Session) (u : State) (e : List Byte), exec (.keyExchange reqId pub) s =
        .next (({ u with trust := { u.trust with sessions := [x] } }).spdmOut 0 Spdm.KEY_EXCHANGE_RSP
          (leBytes 2 4 ++ [2] ++ p384Key e ++ p384Sig key (leBytes 8 x.transcript ++ pub))) ∧
      x.id = reqId % 65536 + 0x40000 ∧ x.slot = 4 ∧ x.phase = 1 ∧ x.anchored = false ∧ x.hybrid = false ∧ x.dhe = Config.p384Shared e pub ∧
      u.trust = s.trust) ∧
  (∀ (op : Nat) (nonce key : List Byte) (s : State), s.up = true → s.trust.phase = .negotiated → (s.slot 2).state = 1 →
    key = slice (s.slot 2).payload 0 48 →
    ∃ (u : State) (t : Nat), { u with draws := s.draws } = s ∧
      (op = 0 → exec (.getMeasurements 0 op nonce) s =
        .next (u.saddled.spdmSend 0 Spdm.MEASUREMENTS ([4] ++ p384Sig key (leBytes 8 t ++ nonce ++ [4])))) ∧
      (op = 1 → exec (.getMeasurements 0 op nonce) s = .next (u.saddled.spdmSend 0 Spdm.MEASUREMENTS
        (beBytes 48 s.trust.measSec.toNat ++ p384Sig key (leBytes 8 t ++ nonce ++ beBytes 48 s.trust.measSec.toNat))))) ∧
  (∀ (session seqNo : Nat) (last outOfOrder : Bool) (body : List Byte) (s : State), s.up = true →
    (s.trust.chunkIn.length + body.length ≤ 65536 → exec (.chunkSend session last body) s =
      .next (({ s with trust := { s.trust with chunkIn := if last then [] else s.trust.chunkIn ++ body } }).spdmSend session
        Spdm.CHUNK_SEND_ACK [])) ∧
    (s.trust.chunkOut ≠ [] → s.trust.chunkOut.length ≤ 4080 → seqNo = s.trust.chunkNo → exec (.chunkGet session seqNo) s =
      .next (({ s with trust := { s.trust with chunkOut := [], chunkNo := 0 } }).spdmSend session Spdm.CHUNK_RESPONSE
        ([1] ++ leBytes 2 seqNo ++ s.trust.chunkOut))) ∧
    exec (.unsupportedRequest session outOfOrder) s =
      .next (s.spdmErr session (if outOfOrder then Spdm.UnexpectedRequest else Spdm.UnsupportedRequest)))

/-- Every message of a session counts one request. In the handshake the block asks for the requester's certificate, takes
it, and at FINISH establishes the session, puts its data keys in its slot and locks the KEY page; in an established
session END_SESSION and a heartbeat that stays away end it, HEARTBEAT and KEY_UPDATE verification are acknowledged,
KEY_UPDATE 1 replaces the request key; KEM_GET draws a decapsulation key once, KEM_PUT of 1,568 bytes makes the
session hybrid; a message that fails authentication ends the session without an answer; SLOT_QUERY gives the 32 slot
words; REPORT_GET queues its nonce; RELEASE answers the first failing code, or does what its record says and answers
0. (R366, R368, R376, R377, R378, R379, R381, R383, R384, R385, R387) -/
def Obligations.SpdmSessionCommandsComplete : Prop :=
  (∀ (id : Nat) (x : Session) (body : List Byte) (s : State), s.up = true → s.session id = some x → x.phase = 1 → x.id = id →
    let w := s.modSession id fun y => { y with reqSeq := y.reqSeq + 1 }
    (x.encap = 0 → exec (.getEncapsulatedRequest id) s =
      .next ((w.modSession id fun y => { y with encap := 1 }).spdmSend id Spdm.ENCAPSULATED_REQUEST [0x82])) ∧
    (x.encap = 1 → exec (.deliverEncapsulatedResponse id body) s =
      .next ((w.modSession id fun y => { y with encap := 2, chain := body }).spdmSend id Spdm.ENCAPSULATED_RESPONSE_ACK [])) ∧
    (x.encap = 2 → ∃ t, exec (.finish id true) s = .next t ∧ (match Config.chainRoot x.chain with
      | none => t = (w.spdmErr id Spdm.Unspecified).sessionEnd id
      | some _ => t.reg (Page.key.base + hdrLock) = 1 ∧ ∀ z, t.session id = some z → z.phase = 2 ∧ z.dhe = [] ∧ z.reqSeq = 0 ∧ z.rspSeq = 0)) ∧
    (x.encap = 2 → exec (.finish id false) s = .next ((w.spdmErr id Spdm.DecryptError).sessionEnd id))) ∧
  (∀ (id : Nat) (x : Session) (ct nonce body : List Byte) (s : State), s.up = true → s.session id = some x → x.phase = 2 → x.id = id →
    let w := s.modSession id fun y => { y with reqSeq := y.reqSeq + 1 }
    let y : Session := { x with reqSeq := x.reqSeq + 1 }
    exec (.endSession id) s = .next ((w.spdmSend id Spdm.END_SESSION_ACK []).sessionEnd id) ∧
    exec (.heartbeatExpiry id) s = .next (s.sessionEnd id) ∧ (s.sessionEnd id).session id = none ∧
    exec (.securedMsgAuthFail id) s = .next ((s.sessionEnd id).err Page.key Err.key.SESSION_FAIL) ∧
    exec (.spdmHeartbeat id) s = .next (w.spdmSend id Spdm.HEARTBEAT_ACK []) ∧
    exec (.keyUpdate id 3) s = .next (w.spdmSend id Spdm.KEY_UPDATE_ACK [3]) ∧
    exec (.keyUpdate id 1) s = .next ((w.newKeys id 0).spdmSend id Spdm.KEY_UPDATE_ACK [1]) ∧
    exec (.slotQuery id) s = .next (w.spdmSend id Spdm.VENDOR ((List.range 32).flatMap fun n => leBytes 4 (w.slotWord n))) ∧
    (x.kemUsed = false → exec (.kemGet id) s = .next (w.opKemGet y)) ∧
    ((∃ k, x.kem = some k) → ct.length = 1568 → ∃ t, exec (.kemPut id ct) s = .next t ∧ t = w.opKemPut ct y ∧
      ∀ z, t.session id = some z → z.hybrid = true ∧ z.kem = none ∧ z.reqSeq = 0 ∧ z.rspSeq = 0) ∧
    (nonce.length = 48 → exec (.reportGet id nonce) s =
      .next ({ w with trust := { w.trust with reportQ := w.trust.reportQ ++ [(id, nonce)] } } : State).goReports) ∧
    (body.length = 128 → w.relCode y body = 0 →
      exec (.release id body) s = .next (((w.relApply body).keepMeas.inc Page.key Reg.KEY_RELEASES.COUNT).spdmSend id Spdm.VENDOR [0])) ∧
    (body.length = 128 → (x.anchored = false ∨ x.hybrid = false) →
      exec (.release id body) s =
        .next (((w.err Page.key Err.key.RELEASE_REFUSED { detail := 1 }).lastRefuse 1 1).spdmSend id Spdm.VENDOR [1])))

/-- In an anchored hybrid session and for port index 0, QUERY, K_SET_GO and K_SET_STOP put their beat on the key-out port
and KEY_PROG asks the saddle for one; another port index fails with IDE_KM_FAIL; the engine's answer, or 100
microseconds without one, answers the request. In a session of a Mount block, a TDISP request about VF 1 to 127 is
answered: version and state in any state, LOCK of a LIVE VF takes CONFIG_UNLOCKED to CONFIG_LOCKED with a fresh nonce,
the report in CONFIG_LOCKED, START with the lock's nonce goes to RUN, STOP unlocks and quiesces the VF; another
function number is INVALID_INTERFACE, and an order that R391 does not have takes the TDI to ERROR. (R371, R390, R391,
R494) -/
def Obligations.InterfaceKeyAndTdispCommandsComplete : Prop :=
  (∀ (id port stream kset dir sub : Nat) (key : Key256) (ifv : W64) (x : Session) (s : State), s.up = true → s.session id = some x →
    x.phase = 2 → x.anchored = true → x.hybrid = true →
    let w := s.modSession id fun y => { y with reqSeq := y.reqSeq + 1 }
    (s.ideBusy = false → exec (.ideQuery id 0 stream) s = .next (w.koSend 1 id stream 0 0 0 0 0) ∧
      exec (.keyProg id 0 stream kset dir sub key ifv) s = .next (w.saddleAdd 4 (.ide id stream kset dir sub key ifv)) ∧
      exec (.kSetGo id 0 stream kset dir sub) s = .next (w.koSend 3 id stream kset dir sub 0 0) ∧
      exec (.kSetStop id 0 stream kset dir sub) s = .next (w.koSend 4 id stream kset dir sub 0 0)) ∧
    (port ≠ 0 → exec (.ideQuery id port stream) s =
      .next (((w.err Page.key Err.key.IDE_KM_FAIL).lastRefuse 4 Spdm.InvalidRequest).spdmErr id Spdm.InvalidRequest))) ∧
  (∀ (op id stream : Nat) (data : List Byte) (s : State), s.up = true → s.trust.koBeat = some (op, id, stream) → (s.session id).isSome = true →
    let u := fun (z : State) => ({ z with trust := { z.trust with koBeat := none } } : State)
    exec (.koAck 0 data) s = .next ((u s).spdmSend id Spdm.VENDOR ((0 : Byte) :: (if op = 1 then slice data 0 16 else []))) ∧
    exec .koAckTimeout s = .next ((u (s.err Page.key Err.key.IDE_KM_FAIL)).spdmErr id Spdm.Unspecified)) ∧
  (∀ (id fn flags off len : Nat) (nonce : List Byte) (x : Session) (s : State), s.up = true → s.boot.post = false → s.session id = some x →
    x.phase = 2 → 0 < fn → fn < 128 →
    let w := s.modSession id fun y => { y with reqSeq := y.reqSeq + 1 }
    exec (.getTdispVersion id fn) s = .next (w.spdmSend id Spdm.VENDOR [1, 1, 0x10]) ∧
    exec (.getDeviceInterfaceState id fn) s = .next (w.spdmSend id Spdm.VENDOR [5, by1 (s.tdi fn)]) ∧
    (∃ (u : State) (b : List Byte), { u with draws := s.draws } = w ∧ b.length = 8 ∧
      exec (.getTdispCapabilities id fn) s = .next (u.spdmSend id Spdm.VENDOR (by1 2 :: b))) ∧
    (s.tdi fn = 0 → s.vstate fn = 1 → ∃ t, exec (.lockInterfaceRequest id fn flags) s = .next t ∧ t.tdi fn = 1 ∧
      (SMap.find? t.trust.tdiNonce fn).isSome = true ∧ SMap.find? t.trust.tdiRec fn = some (s.tdiReport fn)) ∧
    (s.tdi fn ≠ 0 → exec (.lockInterfaceRequest id fn flags) s = .next ((w.tdiError fn).tdispErr id Tdisp.InvalidState)) ∧
    (let r := SMap.getD s.trust.tdiRec [] fn
     s.tdi fn = 1 → off ≤ r.length → exec (.getDeviceInterfaceReport id fn off len) s =
      .next (w.spdmSend id Spdm.VENDOR (by1 4 :: leBytes 2 ((r.drop off).take len).length
        ++ leBytes 2 (r.length - off - ((r.drop off).take len).length) ++ (r.drop off).take len))) ∧
    (s.tdi fn = 1 → SMap.find? s.trust.tdiNonce fn = some nonce →
      exec (.startInterfaceRequest id fn nonce) s = .next ((w.setTdi fn 2).spdmSend id Spdm.VENDOR [6])) ∧
    (s.tdi fn = 2 → s.vstate fn = 1 → ∃ t, exec (.stopInterfaceRequest id fn) s = .next t ∧
      t = ({ w.setTdi fn 0 with trust := { (w.setTdi fn 0).trust with
        tdiNonce := SMap.erase s.trust.tdiNonce fn, tdiRec := SMap.erase s.trust.tdiRec fn, tdiStop := s.trust.tdiStop ++ [(fn, id)] } } : State).startQuiesce fn)) ∧
  (∀ (id fn : Nat) (x : Session) (s : State), s.up = true → s.boot.post = false → s.session id = some x → x.phase = 2 → fn = 0 ∨ 127 < fn →
    exec (.getTdispVersion id fn) s =
      .next ((s.modSession id fun y => { y with reqSeq := y.reqSeq + 1 }).tdispErr id Tdisp.InvalidInterface))

/-- LC_REQ of another length is refused with code 1, and a record that is read is taken; a hold-up grant starts the commit
with copy 0, or the burn that waits; without a grant the request is refused with code 13, the burn shows code 5; a
copy that holds its bits leads to the next copy, after the third the block resets; an export without a record shows
code 1; RUN on an idle target with all conditions met starts it, a run's end shows DONE, an abort counts a target
under test as failed and drops a run that waits for its token; BURN and HOLD_LOCK ask for hold-up, or show their code;
a granted burn writes its entries and ends. (R412, R413, R414, R415, R418, R461, R462, R463, R464, R466, R467, R506) -/
def Obligations.LifeCycleAndBistCommandsComplete : Prop :=
  (∀ (p : Nat) (x : Pkt) (s : State), s.ready p 0x63 = true → s.pkt p = some x → s.boot.post = false →
    let u := s.calm.setPkt p { x with performed := true }
    let a := u.readAs Master.pf (x.f 16 8) 7571
    (x.f 24 4 ≠ 7571 →
      exec (.lcReq p) s = .next (((u.lcLast 1 0 0).err Page.lcs Err.lcs.LC_REFUSED { detail := 1 }).finish p St.REFUSED 1)) ∧
    (x.f 24 4 = 7571 → u.checkRange Master.pf 0 (x.f 16 8) 7571 = none → a.status = St.OK → a.st.blocked = false →
      exec (.lcReq p) s = .next (a.st.lcSubmit (some p) a.data).2)) ∧
  (∀ (r : LcReq) (s : State), s.outs.holdupReq = true → s.bist.burn = none → s.lc.req = some r → s.lc.copy = none →
    (∃ t, exec .holdupAck s = .next t ∧ t.lc = { s.lc with copy := some 0, start := s.now } ∧ t.pins.holdupAck = true ∧
      t.rd Page.lcs Reg.LCS_STATUS.COMMITTING = 1) ∧
    (s.pins.holdupAck = false → ∃ t, exec .holdupTimeout s = .next t ∧ t.lc.req = none ∧ t.outs.holdupReq = false ∧ t.lc.fuses = s.lc.fuses ∧
      t.rd Page.lcs Reg.LCS_LAST.CODE = 13)) ∧
  (∀ (b : Burn) (s : State), s.outs.holdupReq = true → s.bist.burn = some b →
    (∃ t, exec .holdupAck s = .next t ∧ t.bist = { s.bist with burn := some { b with granted := true } } ∧
      t.rd Page.bst Reg.BST_STATUS.BURNING = 1) ∧
    (s.pins.holdupAck = false → ∃ t, exec .holdupTimeout s = .next t ∧ t.bist.burn = none ∧ t.outs.holdupReq = false ∧
      t.rd Page.bst Reg.BST_BURN_STATUS.CODE = 5 ∧ t.rd Page.bst Reg.BST_BURN_STATUS.DONE = 1)) ∧
  (∀ (r : LcReq) (c : Nat) (k : CopyRead) (s : State), s.lc.req = some r → s.lc.copy = some c →
    (CopyRead.holds k r = true → c < 2 → ∃ t, exec (.commitPhaseDone k) s = .next t ∧ t.lc.copy = some (c + 1) ∧ t.lc.req = some r) ∧
    (CopyRead.holds k r = true → c = 2 → ∃ t, exec (.commitPhaseDone k) s = .next t ∧ t.boot.phase = .inReset ∧ t.lc.req = none ∧ t.lc.copy = none)) ∧
  (∀ (p : Party) (s : State), s.boot.phase = .running → mayWrite p Page.lcs = true → s.trust.exportRec = [] →
    exec (.lcsExport p) s = .next ((s.wr Page.lcs Reg.LCS_EXPORT_STATUS.CODE 1).wr Page.lcs Reg.LCS_EXPORT_STATUS.DONE 1)) ∧
  (∀ (p : Party) (s : State), s.boot.phase = .running → mayWrite p Page.bst = true →
    (s.runCode = 0 → 80 ≤ s.bistTarget → s.bist.span = none → exec (.bistRun p) s =
      .next (({ s.clearLog with bist := { s.clearLog.bist with target := s.bistTarget } } : State).wr Page.bst Reg.BST_STATUS.STATE 2)) ∧
    (s.runCode ≠ 0 → s.bist.span = none → exec (.bistRun p) s =
      .next ((s.wr Page.bst Reg.BST_RESULT.CODE s.runCode).err Page.bst Err.bst.RUN_REFUSED { detail := s.runCode })) ∧
    (s.underTest = true → exec (.bistAbort p) s = .next ((s.wr Page.bst Reg.BST_RESULT.UNREPAIRABLE 1).testsOver true true)) ∧
    (s.underTest = false → s.running = true → s.bist.span = none → exec (.bistAbort p) s = .next (s.runEnded false).dropSpan) ∧
    (s.burnCode false = 0 → ∃ t, exec (.burn p) s = .next t ∧ t.outs.holdupReq = true ∧
      t.bist.burn = some { hold := false, units := s.burnUnits, granted := false } ∧ t.rd Page.bst Reg.BST_BURN_STATUS.DONE = 0) ∧
    (s.burnCode true = 0 → ∃ t, exec (.holdLock p) s = .next t ∧ t.outs.holdupReq = true ∧
      t.bist.burn = some { hold := true, units := [], granted := false })) ∧
  (∀ s : State, s.serving = true → s.underTest = true → 80 ≤ s.bist.target → s.bist.saved = none →
    exec (.bistRunDone [] true) s = .next (s.runEnded true) ∧
    (s.runEnded true).rd Page.bst Reg.BST_STATUS.DONE = 1 ∧ (s.runEnded true).rd Page.bst Reg.BST_STATUS.PASS = 1) ∧
  (∀ (n : Nat) (b : Burn) (s : State), s.bist.burn = some b → b.granted = true → ∃ t, exec (.burnDone n none) s = .next t ∧
    t.bist.burn = none ∧ t.outs.holdupReq = false ∧ t.rd Page.bst Reg.BST_STATUS.BURNING = 0 ∧ t.rd Page.bst Reg.BST_BURN_STATUS.DONE = 1 ∧
    t.rd Page.bst Reg.BST_BURN_STATUS.CODE = 0)

/-- At a level that has the command, VER, STAT and ERR print and answer OK, RD prints a register that Halter may read, WR
writes one, MRD and MWR reach the memory as the debug master, DEVID prints the record or answers 02, LC waits for the
lines of a request, RST answers and resets the block; below its level a command answers 02; a damaged line answers 07,
one above 512 bytes 06, one that is no command 01; a write of 0 to EN disables Halter; a SYNC goes out for every
source that may be traced; SNAP captures the live counters, CLEAR zeroes them, both but in confidential mode; scan
mode entry zeroises and resets unless the block is FIELDED, SCRAPPED or LOST. How a line spells what it shows is the
model's choice (log entry of the Halter lines). (R419, R420, R421, R422, R423, R424, R425, R426, R427, R503) -/
def Obligations.DebugCommandsComplete : Prop :=
  (∀ s : State, s.boot.svcHalted = false → s.halterOn = true →
    exec .halterVer s = .next s.opHltVer ∧ exec .halterStat s = .next s.opHltStat ∧ exec .halterErr s = .next s.opHltErr ∧
    s.opHltVer.rd Page.hlt Reg.HLT_LAST.ERR = 0 ∧ s.opHltStat.rd Page.hlt Reg.HLT_LAST.CMD = Hc.STAT ∧
    s.opHltErr.rd Page.hlt Reg.HLT_LAST.CMD = Hc.ERR) ∧
  (∀ (addr : Nat) (s : State), s.boot.svcHalted = false → s.halterOn = true →
    (2 ≤ s.hltLevel → addr % 4 = 0 → addr < 0x200000 → (s.halterReg addr false).isSome = true → exec (.halterRd addr) s =
      .next (((s.readAt .halter addr 4).2.say (hexOf 8 (s.readAt .halter addr 4).1)).answered Hc.RD 0)) ∧
    (s.hltLevel < 2 → exec (.halterRd addr) s = .next (s.answered Hc.RD 2))) ∧
  (∀ (addr : Nat) (v : W32) (s : State), s.boot.svcHalted = false → s.halterOn = true → s.hltLevel = 3 → addr % 4 = 0 → addr < 0x200000 →
    (s.halterReg addr true).isSome = true → (s.writeAt .halter addr 4 (v.setWidth 64)).boot.phase ≠ .inReset →
    exec (.halterWr addr v) s = .next ((s.writeAt .halter addr 4 (v.setWidth 64)).answered Hc.WR 0)) ∧
  (∀ (addr len : Nat) (data : List Byte) (s : State), s.boot.svcHalted = false → s.halterOn = true → s.hltLevel = 3 →
    (0 < len → len ≤ 256 → (s.readAs Master.debug addr len).status = St.OK → exec (.halterMrd addr len) s =
      .next (((cutLines 32 8 (s.readAs Master.debug addr len).data).foldl (fun s l => s.say (hexBytes l)) (s.readAs Master.debug addr len).st).answered
        Hc.MRD 0)) ∧
    (data ≠ [] → data.length ≤ 128 → exec (.halterMwr addr data) s = .next ((s.writeAs Master.debug addr data).st.answered Hc.MWR
      (if (s.writeAs Master.debug addr data).status = St.OK then 0 else 4)))) ∧
  (∀ s : State, s.boot.svcHalted = false → s.halterOn = true → s.hltLevel = 3 →
    (s.trust.exportRec = [] → exec .halterDevid s = .next (s.answered Hc.DEVID 2)) ∧
    (s.trust.exportRec ≠ [] → ∃ t, exec .halterDevid s = .next t ∧ t.rd Page.hlt Reg.HLT_LAST.ERR = 0) ∧
    (s.lcState = 1 → exec .halterLc s = .next { s with dbg := { s.dbg with lcLines := [], lcWant := true } }) ∧
    exec .halterRst s = .next ((s.answered Hc.RST 0).blockReset)) ∧
  (∀ (line : List Byte) (s : State), s.boot.svcHalted = false → s.halterOn = true →
    exec (.halterLine line false) s = .next ((s.err Page.hlt Err.hlt.RX_ERROR).lineErr 7) ∧
    ((∀ b ∈ line, b ≠ 10) → 512 < line.length → exec (.halterLine line true) s = .next (s.lineErr 6)) ∧
    (s.dbg.lcWant = false → exec (.halterLine (ascii "HELLO") true) s = .next (s.lineErr 1)) ∧
    (s.dbg.lcWant = false → exec (.halterLine (ascii "STAT") true) s = exec .halterStat s) ∧
    (s.dbg.lcWant = false → exec (.halterLine (ascii "RD 40") true) s = exec (.halterRd 64) s)) ∧
  (∀ (p : Party) (s : State), p = .pf → s.boot.phase = .running → s.conf = false → (∀ x, s.locked x = false) →
    ∃ t, exec (.halterDisable p) s = .next t ∧ t.rd Page.hlt Reg.HLT_CTRL.EN = 0) ∧
  (∀ (p : Party) (s : State), s.boot.phase = .running → s.conf = false → mayWrite p Page.cnt = true →
    (∃ t, exec (.cntSnap p) s = .next t ∧ t.rd Page.cnt Reg.CNT_STATUS.SNAP_DONE = 1 ∧ t.dbg = s.dbg) ∧
    exec (.cntClear p) s = .next { s with dbg := { s.dbg with cnt := [] } } ∧
    (s.traceSources = [1] → s.rdb Page.trc Reg.TRC_CTRL.TS_EN = false → ∃ (u : State) (pc : Nat), { u with draws := s.draws } = s ∧
      exec .traceSync s = .next (u.emit (.trace (leBytes 8 (0x11 + 256 * pc)))))) ∧
  (∀ s : State, s.lc.fuses.state ≠ 2 → s.lc.fuses.state ≠ 4 → s.lc.fuses.state ≠ 5 →
    exec .scanModeEntry s = .next { (s.zeroise.emit .koZeroize).blockReset with outs := { ((s.zeroise.emit .koZeroize).blockReset).outs with scan := true } })

/-- A completion, or a timeout, ends the read with its tag and nothing else when no read has it; a link that falls ends
every read and holds what would go out, a link that rises sends it in order; a DOE write of the mailbox gathers
dwords, GO of a data object whose length is right hands an SPDM object to the responder and answers DOE Discovery at
once, ABORT empties the mailbox, a read shows a register of the capability. The names and offsets of the four
registers are the model's (log entry of the DOE mailbox). (R298, R436, R491, R492, R493) -/
def Obligations.HostEndCommandsComplete : Prop :=
  (∀ (tag status : Nat) (data : List Byte) (s : State), s.boot.phase ≠ .inReset →
    (SMap.find? s.host.reads tag = none → exec (.hostCompletion tag status data) s = .next s ∧ exec (.hostReadTimeout tag) s = .next s) ∧
    (∀ (p : Nat), SMap.find? s.host.reads tag = some (Use.COPY, p, data.length) → status = 0 →
      exec (.hostCompletion tag status data) s =
        .next (((({ s with host := { s.host with reads := SMap.erase s.host.reads tag } } : State).cnt 8 data.length)).moverGot p data false)) ∧
    (∀ (p n : Nat), SMap.find? s.host.reads tag = some (Use.COPY, p, n + 1) → exec (.hostReadTimeout tag) s =
        .next (({ s with host := { s.host with reads := SMap.erase s.host.reads tag } } : State).moverFailed p))) ∧
  (∀ s : State, (s.host.reads = [] → exec .hostLinkDown s = .next { s with pins := { s.pins with linkUp := false } }) ∧
    exec .hostLinkUp s = .next { s with pins := { s.pins with linkUp := true }, out := s.out ++ s.egress, egress := [] }) ∧
  (∀ (v : W32) (s : State), s.boot.phase ≠ .inReset →
    exec (.doeAccess 5 false v) s = .next (s.emit (.cfgData (s.host.doeOut.headD 0))) ∧
    exec (.doeAccess 3 false v) s = .next (s.emit (.cfgData s.doeStatus)) ∧
    exec (.doeAccess 5 true v) s = .next { s with host := { s.host with doeOut := s.host.doeOut.drop 1 } } ∧
    (s.host.doeBusy = false → s.host.doeErr = false →
      exec (.doeAccess 4 true v) s = .next { s with host := { s.host with doeIn := s.host.doeIn ++ [v] } }) ∧
    exec (.doeAccess 2 true 1) s = .next { s with host := { s.host with
      doeIntEn := false, doeBusy := false, doeIn := [], doeOut := [], doeErr := false, doeIntStat := false } } ∧
    (s.host.doeBusy = false → s.host.doeErr = false → s.up = true → s.host.doeIn = [0x00010001, 3, v] →
      exec (.doeAccess 2 true 0x80000000) s = .next { s with host := { s.host with doeIntEn := false, doeIn := [], doeBusy := true } }))

/-- For every state whose queue begins with a command, the step is that command's effect on the state with the rest of the
queue; that commands wait first in, first out is how the model takes them from outside (log entry of the queue). (R43,
R478) -/
def Obligations.StepRunsTheFrontCommand : Prop :=
  ∀ (c : Instr) (r : List Instr) (s : State), s.pending = c :: r → step s = exec c { s with pending := r }

/-- On an empty queue the step answers a next state: an edge of AOCLK, then what it lets go on, the frames of open
footprints whose turn has come, gateway, request and COPY work that waited for memory or for room, and a save or
restore of BIST. The edge changes time alone: local time has gone on by 10 ns, and each copy of DT with its residue by
10 ns at the steering rate; with none of that work waiting it is all that the step does. That an empty queue is an
edge of AOCLK is the model's choice (log entry of the empty queue). (R12, R63, R64) -/
def Obligations.EmptyQueueIsOneClockEdge : Prop :=
  ∀ s : State, s.pending = [] →
    step s = .next s.tick.sendAllDue.fabGo.bistGo ∧
    { s.tick with time := s.time } = s ∧ s.tick.time.loc = s.time.loc + 10 ∧
    (0 ≤ 2 ^ 40 + s.rate →
      (s.tick.time.dtA.toNat * 2 ^ 40 + s.tick.time.resA.toNat : Int) =
        (s.time.dtA.toNat * 2 ^ 40 + s.time.resA.toNat + 2560 * (2 ^ 40 + s.rate)) % 2 ^ 112 ∧
      (s.tick.time.dtB.toNat * 2 ^ 40 + s.tick.time.resB.toNat : Int) =
        (s.time.dtB.toNat * 2 ^ 40 + s.time.resB.toNat + 2560 * (2 ^ 40 + s.rate)) % 2 ^ 112) ∧
    (s.gait.occs = [] → s.bist.span = none →
      s.boot.post = true ∨ (s.fab.srcs = [] ∧ s.fab.dsts = [] ∧ s.fab.pieces = [] ∧ s.fab.reqs = [] ∧ s.front.pkts = []) → step s = .next s.tick)

/-- In the state after power-on reset the block is in reset, every register reads the reset value of its page, every tack
store slot is free and there is no join record, every byte of memory reads zero and is not poisoned, no link is up,
nothing waits and nothing has been sent, and the blank fuses give MAKER. That the fuses are blank is the model's
choice (log entry of the fuses at reset). (R21, R24, R37, R241, R367, R411) -/
def Obligations.PowerOnResetState : Prop :=
  State.reset.boot.phase = .inReset ∧ (∀ a, State.reset.reg a = windowReset a) ∧ (∀ n, (State.reset.slot n).state = 0) ∧
    State.reset.trust.join = none ∧ (∀ a, SMap.getD State.reset.mem.bytes 0 a = 0) ∧ State.reset.mem.poison = [] ∧
    (∀ n, (State.reset.link n).replay = []) ∧ (∀ n, State.reset.portUp n = false) ∧ State.reset.pending = [] ∧ State.reset.out = [] ∧
    State.reset.egress = [] ∧ State.reset.lc.fuses.state = 0

/-- On a word of 8 or 4 bytes holding m, ADD writes the sum modulo the width, SWAP the operand, CAS the second operand
when m equals the first and m otherwise, SMIN and SMAX the signed, UMIN and UMAX the unsigned extreme, AND, OR and XOR
the bitwise result. (R184) -/
def Obligations.AtomicOperatorsCompute : Prop :=
  ∀ (n : Nat) (m a b : BitVec (8 * n)), n = 4 ∨ n = 8 →
    atomNew 0 n m.toNat a.toNat b.toNat = (m + a).toNat ∧ atomNew 1 n m.toNat a.toNat b.toNat = a.toNat ∧
    atomNew 2 n m.toNat a.toNat b.toNat = (if m = a then b else m).toNat ∧
    atomNew 3 n m.toNat a.toNat b.toNat = (if m.sle a then m else a).toNat ∧
    atomNew 4 n m.toNat a.toNat b.toNat = (if m.sle a then a else m).toNat ∧
    atomNew 5 n m.toNat a.toNat b.toNat = (if m.ule a then m else a).toNat ∧
    atomNew 6 n m.toNat a.toNat b.toNat = (if m.ule a then a else m).toNat ∧
    atomNew 7 n m.toNat a.toNat b.toNat = (m &&& a).toNat ∧ atomNew 8 n m.toNat a.toNat b.toNat = (m ||| a).toNat ∧
    atomNew 9 n m.toNat a.toNat b.toNat = (m ^^^ a).toNat

/-- The 16 random bits of element index x are those of the 64-bit recurrence of R172 on the seed, the step and x / 4, at
place 16 times x mod 4; a descriptor draws them for its SEED, its IDX_BASE plus the position, and STEP_VAL or the
current step when STEP_SRC is 1, reduced to 48 bits; beside that step they depend on no state. (R172) -/
def Obligations.StochasticRoundingBits : Prop :=
  (∀ seed step x : Nat,
    let z0 : BitVec 64 := BitVec.ofNat 64 seed + BitVec.ofNat 64 step * 0x9E3779B97F4A7C15 + BitVec.ofNat 64 (x / 4) * 0xD1B54A32D192ED03
    let z1 := (z0 ^^^ (z0 >>> (30 : Nat))) * 0xBF58476D1CE4E5B9
    let z2 := (z1 ^^^ (z1 >>> (27 : Nat))) * 0x94D049BB133111EB
    let z3 := z2 ^^^ (z2 >>> (31 : Nat))
    srBits seed step x = ((z3 >>> (16 * (x % 4))) &&& 0xFFFF).toNat) ∧
  (∀ (d : RedDesc) (x : Nat) (s : State),
    (bit (RedDesc.w d 5) 48 = false → s.descRand d x = srBits (RedDesc.w d 4) (bits (RedDesc.w d 6) 0 48) (bits (RedDesc.w d 5) 0 48 + x)) ∧
    (bit (RedDesc.w d 5) 48 = true → s.descRand d x = srBits (RedDesc.w d 4) (s.sync.step % 2 ^ 48) (bits (RedDesc.w d 5) 0 48 + x)))

/-- In a transactional entry of base B and half size S, a read of the visible window goes to the half that the step's
parity makes visible, every other access to the working half, at the same place in the half; what is written in one
step is read in the next one, and no read of the visible window in a step reaches a byte that the step writes. (R222,
R251) -/
def Obligations.TransactionalEntryMapsToItsHalves : Prop :=
  ∀ (slot off : Nat) (e : RatEntry) (s : State), s.ratFind off = some (slot, e) → e.tx = true → 0 < e.size / 2 →
    let half := e.size / 2
    let w := (off - e.base) % half
    let work := if s.sync.step % 2 = 0 then e.base else e.base + half
    let seen := if s.sync.step % 2 = 0 then e.base + half else e.base
    let next : State := { s with sync := { s.sync with step := s.sync.step + 1 } }
    (off < e.base + half → s.mapTx 0 off = seen + w ∧ s.mapTx 1 off = work + w ∧ s.mapTx 2 off = work + w ∧
      next.mapTx 0 off = s.mapTx 1 off) ∧
    (e.base + half ≤ off → s.mapTx 0 off = work + w ∧ s.mapTx 1 off = work + w ∧ s.mapTx 2 off = work + w) ∧
    (∀ off', off < e.base + half → s.ratFind off' = some (slot, e) → s.mapTx 0 off ≠ s.mapTx 1 off')

/-- Fuses that are not LOST give SCRAPPED when LC_SCRAP is voted 1, else MAKER for k 0, INTEGRATOR for k 1, FIELDED for an
even k of at least 2 and RETURNED for an odd k of at least 3; LOST fuses give LOST; codes 6 and 7 never appear. The
code is what LCS STATUS.STATE shows and what a report carries; the lc_state byte is the code and k, so that every
fielding and every return changes the byte. (R411) -/
def Obligations.VotedRowsGiveTheState : Prop :=
  (∀ f : Fuses, (f.lost = true → f.state = 5) ∧
    (f.lost = false → bit (rowVote f.scrapRow) 0 = true → f.state = 4) ∧
    (f.lost = false → bit (rowVote f.scrapRow) 0 = false →
      (f.toggles = 0 → f.state = 0) ∧ (f.toggles = 1 → f.state = 1) ∧ (f.toggles % 2 = 0 → 2 ≤ f.toggles → f.state = 2) ∧
      (f.toggles % 2 = 1 → 3 ≤ f.toggles → f.state = 3)) ∧
    f.state < 6 ∧ bits (Fuses.stateByte f).toNat 0 3 = f.state ∧ bits (Fuses.stateByte f).toNat 3 5 = f.toggles) ∧
  (∀ f g : Fuses, f.toggles ≠ g.toggles → Fuses.stateByte f ≠ Fuses.stateByte g) ∧
  (∀ s : State, s.readFuses.lcState = s.readFuses.lc.fuses.state) ∧
  (∀ (missing : Bool) (pkgs : Nat) (s : State), bits (s.reportFlags missing pkgs) 13 3 = s.lcState)

/-- A record that no check refuses names the state in force as its FROM, and its pair is one of MAKER to INTEGRATOR,
INTEGRATOR to FIELDED, FIELDED to RETURNED with k at most 16, RETURNED to FIELDED with k at most 17, or any of the
first four to SCRAPPED; it carries the unit's serial number and nonce; a unit that is SCRAPPED or LOST accepts none.
(R412, R413, R414) -/
def Obligations.AcceptedRequestIsAPermittedMove : Prop :=
  ∀ (l : List Byte) (s : State),
    let src := ofLe (slice l 5 1)
    let dst := ofLe (slice l 6 1)
    let k := s.lc.fuses.toggles
    s.lcCode l ≠ 0 ∨
    (src = s.lcState ∧ src ≠ 4 ∧ src ≠ 5 ∧
    ((src = 0 ∧ dst = 1) ∨ (src = 1 ∧ dst = 2) ∨ (src = 2 ∧ dst = 3 ∧ k ≤ 16) ∨ (src = 3 ∧ dst = 2 ∧ k ≤ 17) ∨ (src < 4 ∧ dst = 4)) ∧
    ofLe (slice l 8 8) = s.lc.fuses.serialNo ∧ s.lc.req = none ∧ s.conf = false)

/-- For every channel size and request, the line zone is a multiple of 64 pages and no larger than asked, the bulk zone is
the largest multiple of 64 that still fits, both with their tags lie in what the tree leaves; for the 96 GiB channel
of R243 the tree takes 399,558 pages and the zones are those of its table. (R234, R243) -/
def Obligations.CarveFitsTheChannel : Prop :=
  (∀ p req : Nat,
    let a := p - treePages p
    let l := (carveOf p req).1
    let u := (carveOf p req).2
    l % 64 = 0 ∧ u % 64 = 0 ∧ l ≤ u ∧ l ≤ req ∧ 9 * l / 8 + (u - l) / 64 * 65 ≤ a ∧ a < 9 * l / 8 + ((u - l) / 64 + 1) * 65) ∧
  treePages 25165824 = 399558 ∧ carveOf 25165824 (2 ^ 32) = (22014400, 22014464) ∧ carveOf 25165824 0 = (0, 24385216)

/-- For RAT_CMD, RED_DESC_CMD, HITCH_CMD, every MCHn_TREE_CMD and GAIT_GO: a write of host software that sets more than
one command bit performs none of the commands and leaves the matching status (for GAIT_GO the page's STATUS and
FUNC_HA_PEND) unchanged, and sets ERR_STATUS.RSVD_VALUE of the page, its report aside; a write that sets none of the
bits does nothing but wake the page's cluster; a write that sets one bit starts that command. (R507) -/
def Obligations.OneCommandPerWrite : Prop :=
  ∀ (pg : Page) (off width status : Nat) (v : W32) (s : State),
    (pg, off, width, status) ∈ [(Page.mch 0, 0x414, 2, 0x418), (Page.red 0, 0x44, 4, 0x48), (Page.hitch, 0x24, 4, 0x28), (Page.gait, 0x3C, 2, 0x0C)]
      ++ (List.range 16).map (fun n => (Page.mch n, 0x114, 3, 0x118)) →
    s.boot.phase = .running → s.present pg = true →
    let w := fun (t : State) => exec (.registerWrite .pf (pg.base + off) 4 (v.setWidth 64)) s = .next t
    (∀ i j, i < j → j < width → v.getLsbD i = true → v.getLsbD j = true → ∃ t, w t ∧ t = (s.wakeFor pg off).err pg Err.RSVD_VALUE ∧
      t.reg (pg.base + status) = s.reg (pg.base + status) ∧ t.rd Page.func Reg.FUNC_HA_PEND.PEND = s.rd Page.func Reg.FUNC_HA_PEND.PEND ∧
      (t.reg (pg.base + hdrErrStatus)).getLsbD Err.RSVD_VALUE = true) ∧
    ((∀ i < width, v.getLsbD i = false) → w (s.wakeFor pg off)) ∧
    (∀ k, pg = Page.mch 0 → off = 0x414 → v = 2 → exec (.ratCmdRead .pf) (s.wakeFor pg off) = .next k → w k) ∧
    (∀ k, pg = Page.red 0 → v = 4 → exec (.redDescInvalidate .pf) (s.wakeFor pg off) = .next k → w k) ∧
    (∀ k, pg = Page.hitch → v = 8 → exec (.memberSet .pf) (s.wakeFor pg off) = .next k → w k) ∧
    (∀ k, pg = Page.gait → v = 1 → exec (.go .pf) (s.wakeFor pg off) = .next k → w k) ∧
    (∀ n k, pg = Page.mch n → off = 0x114 → v = 4 → exec (.walk .pf n) (s.wakeFor pg off) = .next k → w k)

/-- For every operation of a reduce descriptor (AND, OR and XOR over finite operands, which is all that INT32 has), two
orders of the same operands leave the same record, and combining the records of two non-empty groups gives the record
of all operands together. A result rounds from its record alone. (R161, R163, R169, R171) -/
def Obligations.ReduceResultIgnoresOrderAndGrouping : Prop :=
  (∀ (fmt op : Nat) (xs ys : List (Ext × Bool)), xs.Perm ys → (op < 3 ∨ 5 < op ∨ ∀ x ∈ xs, ∃ neg m e, x.1 = .fin neg m e) →
    xs.foldl (fun r x => AccRec.add fmt op r x.1 x.2) AccRec.empty = ys.foldl (fun r x => AccRec.add fmt op r x.1 x.2) AccRec.empty) ∧
  (∀ (fmt op : Nat) (xs ys : List (Ext × Bool)), op < 7 → ys ≠ [] →
    (op < 3 ∨ 5 < op ∨ ∀ x ∈ xs ++ ys, ∃ neg m e, x.1 = .fin neg m e) →
    AccRec.join op (xs.foldl (fun r x => AccRec.add fmt op r x.1 x.2) AccRec.empty)
        (ys.foldl (fun r x => AccRec.add fmt op r x.1 x.2) AccRec.empty) =
      (xs ++ ys).foldl (fun r x => AccRec.add fmt op r x.1 x.2) AccRec.empty)

/-- A record whose value lies in the range of its format, NONE only for MIN and MAX, is what its 40 or 272 bytes spell.
(R161, R162, R169) -/
def Obligations.RecordSurvivesBeingCarried : Prop :=
  ∀ (fmt op : Nat) (r : AccRec), r.got = true →
    (r.none_ = true → r.val = 0 ∧ (op = 1 ∨ op = 2)) →
    (if 3 ≤ op ∧ op ≤ 5 then 0 ≤ r.val ∧ r.val < 2 ^ 32
      else -(2 ^ (accBits fmt - 1) : Int) < r.val ∧ r.val < 2 ^ (accBits fmt - 1)) →
    (AccRec.bytes fmt op r).length = accBytes fmt ∧ AccRec.of fmt op (AccRec.bytes fmt op r) r.poison = r

/-- For binary64, binary32, binary16, bfloat16, E4M3 and E5M2: a pattern that is no NaN, widened with subnormals kept and
narrowed into its own format with results kept, in any rounding mode, gives the same pattern and raises no flag.
(R135, R141, R147, R152) -/
def Obligations.ExactConversionKeepsThePattern : Prop :=
  ∀ (fmt eb fb bias v r : Nat) (n : NSet), floatShape fmt = some (eb, fb, bias) → v < 2 ^ (1 + eb + fb) → n.fmt = fmt → n.flushOut = false →
    widenFloat fmt eb fb bias v false ≠ .nan → narrowFloat n eb fb bias (widenFloat fmt eb fb bias v false) r = (v, 0)

/-- A write below the rights check that is performed leaves, at the range it names, the bytes it carries, every other byte
of memory as it was, and the memory in its canonical form; one that is not performed leaves every byte. (R237, R238,
R239, R241, R251) -/
def Obligations.StoredBytesReadBackAndOthersStay : Prop :=
  ∀ (off poison a : Nat) (data : List Byte) (gait : Bool) (s : State),
    let r := s.writePhys off data poison gait
    (r.1 = true → r.2.bytesAt off data.length = data) ∧
    ((r.1 = false ∨ a < off ∨ off + data.length ≤ a) → SMap.getD r.2.mem.bytes 0 a = SMap.getD s.mem.bytes 0 a) ∧
    (SMap.wf 0 s.mem.bytes = true → SMap.wf 0 r.2.mem.bytes = true)

/-- Within the widths of their fields, equal input blocks have equal counters, page, channel, block, granule half and
type, equal tweak blocks equal parent counters, index, channel, level and type, and no input block is a tweak block;
the worked blocks of the memory chapters come out as written. (R235, R263, R266) -/
def Obligations.KeystreamAndTweakBlocksAreInjective : Prop :=
  (∀ M m p c b g t M' m' p' c' b' g' t' : Nat, M < 2 ^ 64 → m < 128 → p < 2 ^ 25 → c < 16 → b < 256 → g < 2 → t < 2 →
    M' < 2 ^ 64 → m' < 128 → p' < 2 ^ 25 → c' < 16 → b' < 256 → g' < 2 → t' < 2 →
    inputBlock M m p c b g t = inputBlock M' m' p' c' b' g' t' → M = M' ∧ m = m' ∧ p = p' ∧ c = c' ∧ b = b' ∧ g = g' ∧ t = t') ∧
  (∀ M m i c l t M' m' i' c' l' t' : Nat, M < 2 ^ 64 → m < 128 → i < 2 ^ 25 → c < 16 → l < 8 → t < 4 →
    M' < 2 ^ 64 → m' < 128 → i' < 2 ^ 25 → c' < 16 → l' < 8 → t' < 4 →
    tweakBlock M m i c l t = tweakBlock M' m' i' c' l' t' → M = M' ∧ m = m' ∧ i = i' ∧ c = c' ∧ l = l' ∧ t = t') ∧
  (∀ M m p c b g t M' m' i c' l t' : Nat, t < 2 → 2 ≤ t' → t' < 4 → inputBlock M m p c b g t ≠ tweakBlock M' m' i c' l t')

/-- For every command and every state, every part of the state that the command's list of parts does not name is left as
it was: each field of State, every byte of memory, and every register of every page of a family that the list does not
name. The lists are the model's own, read off the effects that the rules give each command; they name the parts that a
command may change in some state. (R9, R24, R37, R49, R241) -/
def Obligations.PartsOutsideACommandsReachStay : Prop :=
  ∀ (i : Instr) (s t : State), exec i s = .next t → ∀ p : Part, p ∉ touches i → p.same s t

/-- For every command and every state the command answers a next state, in which the queue of waiting commands and the
build's parameters are what they were. That an input which the spec gives no meaning in the present state changes
nothing, and that the queue is not lost at a reset, are the model's choices (log entries of ignored inputs and of the
queue). (R4, R33, R478) -/
def Obligations.EveryCommandCompletesAndLeavesQueueAndBuild : Prop :=
  ∀ (i : Instr) (s : State), ∃ t, exec i s = .next t ∧ t.pending = s.pending ∧ t.build = s.build

/-- From every state in which the register table and the bytes of memory are canonical (offsets and addresses rise
strictly, and no entry holds what an unlisted one reads as), every step, of any command at the front of the queue or
of the idle block, leads to a state in which they are canonical, so that two states that read alike in all registers
and bytes hold equal tables. (R9, R24, R37, R234, R239, R241) -/
def Obligations.StepKeepsTheTablesCanonical : Prop :=
  ∀ s t : State, s.wf → step s = .next t → t.wf

/-- The register table and the bytes of memory of the state after power-on reset are canonical. (R24, R37, R241) -/
def Obligations.ResetTablesAreCanonical : Prop :=
  State.reset.wf

/-- Element i of an INT32 span, widened, is an integer from −2^31 to 2^31 − 1 that is congruent, modulo 2^32, to what
bytes 4i to 4i + 3 of the span spell little-endian; every pattern is such an integer, none a special value. (R136) -/
def Obligations.IntegerElementsAreTwosComplement : Prop :=
  ∀ (fvar i : Nat) (flush : Bool) (l : List Byte), ∃ v : Int,
    widenAt 0 fvar flush l i = extOfInt v 0 ∧ -2147483648 ≤ v ∧ v ≤ 2147483647 ∧
      (v - ((l.getD (4 * i) 0).toNat + 256 * (l.getD (4 * i + 1) 0).toNat + 65536 * (l.getD (4 * i + 2) 0).toNat
        + 16777216 * (l.getD (4 * i + 3) 0).toNat : Nat)) % 4294967296 = 0

/-- In every state in which block reset is deasserted, a read at an address of a page that is absent in the sampled role
and build, or of a reserved slot, answers zero and changes nothing else, and a write there changes nothing: it raises
no error. (R4, R34, R37) -/
def Obligations.AbsentPagesReadZeroAndIgnoreWrites : Prop :=
  ∀ (p : Party) (addr size : Nat) (v : W64) (s : State), s.released = true →
    (target p addr = none ∨ ∃ pg off, target p addr = some (pg, off) ∧ s.present pg = false) →
    exec (.registerRead p addr size) s = .next (s.emit (.regData p 0)) ∧ exec (.registerWrite p addr size v) s = .next s

/-- An authenticated RETRY of a number held in the replay buffer, with no resend of it under way, begins a resend from
that number: in an open footprint the frame that fits goes out as it was sealed, outside every footprint nothing goes
out and the frames wait; ACK_TIMEOUT acts as a RETRY naming the oldest frame held would; RETRY_REPEAT sends the RETRY
again with its number and cause; a replay-store error is reported and retrains the port. (R120, R131) -/
def Obligations.RetryCommandsComplete : Prop :=
  (∀ (port seq cause : Nat) (chk : UnitCheck) (q : Nat) (s : State), s.serving = true → s.portUp port = true → chk.tagOk = true →
    chk.fecBad = false → chk.chkBad = false → s.ctlNext port ≤ s.ctlSeq port q →
    (s.link port).resend = none → ((s.link port).replay.any fun e => e.1 == seq) = true →
    ∃ t, exec (.retry port seq cause chk q) s = .next t ∧ (t.link port).resend = some (seq, s.now) ∧
      (t.link port).replay = (s.link port).replay ∧ t.regs = s.regs ∧
      (s.sendLimit port = none → t.out = s.out ∧ (t.link port).resendAt.isSome = true) ∧
      (∀ (f : DataFrame) (e : Nat), (s.link port).replay = [(seq, f)] → s.sendLimit port = some e → s.fitsBy port e f = true →
        t.out = s.out ++ [.frame port seq (s.sealedEpoch port f) f] ∧ (t.link port).resendAt = none)) ∧
  (∀ (port q : Nat) (f : DataFrame) (r : List (Nat × DataFrame)) (s : State), s.serving = true → s.portUp port = true →
    (s.link port).replay = (q, f) :: r →
    exec (.ackTimeout port) s = .next (s.resendFrom port q) ∧
    ((s.link port).resend = none → ∃ t, exec (.ackTimeout port) s = .next t ∧ (t.link port).resend = some (q, s.now))) ∧
  (∀ (port : Nat) (s : State), s.serving = true → s.portUp port = true → (s.link port).retryWait = true →
    exec (.retryRepeat port) s = .next (s.sendFlit port (.retry (s.link port).rxNext (s.link port).retryCause))) ∧
  (∀ (port : Nat) (s : State), s.serving = true → s.portUp port = true →
    exec (.replayCheck port) s =
      .next ((s.err (Page.lpt port) Err.lpt.REPLAY_CHECK { place := port, placeKind := 5 }).enterRetrain port))

/-- An authenticated plane-down notice marks the plane on a Mount block, and on a Post block an event not seen before is
remembered; PDN_CLEAR ends the condition; a handed-off signal is applied on a Mount block, and a Post block applies
none; a write that completes changes nothing, or takes the pipe of its parity mismatch out of service. (R128, R213,
R214, R242, R488) -/
def Obligations.NoticesAndSignalsComplete : Prop :=
  (∀ (port st sp ev : Nat) (chk : UnitCheck) (q : Nat) (s : State), s.mount = true → s.portUp port = true → chk.tagOk = true →
    chk.fecBad = false → chk.chkBad = false → s.ctlNext port ≤ s.ctlSeq port q →
    ∃ t, exec (.pdn port st sp ev chk q) s = .next t ∧ t.gait.pdnPlanes.contains port = true ∧ t.sync = s.sync) ∧
  (∀ (port st sp ev : Nat) (chk : UnitCheck) (q : Nat) (s : State), s.serving = true → s.portUp port = true → chk.tagOk = true →
    chk.fecBad = false → chk.chkBad = false → s.ctlNext port ≤ s.ctlSeq port q →
    s.boot.post = true → s.sync.seenPdn.contains (st, ev) = false →
    ∃ t, exec (.pdn port st sp ev chk q) s = .next t ∧ t.sync.seenPdn = (st, ev) :: s.sync.seenPdn ∧ t.gait = s.gait) ∧
  (∀ (p : Party) (port : Nat) (s : State), s.boot.phase = .running → mayWrite p (Page.lpt port) = true → port < s.ports → port < 64 →
    exec (.pdnClear p port) s = .next (({ s with gait := { s.gait with pdnPlanes := s.gait.pdnPlanes.filter (· != port) } } : State).wr
      (Page.lpt port) Reg.LPT_STATUS.PDN_SEEN 0)) ∧
  (∀ (ref status : Nat) (late : Bool) (s : State), s.mount = true → status < 9 →
    exec (.signalHandoff ref status late) s = .next (s.applySignal ref status)) ∧
  (∀ (ref status : Nat) (late : Bool) (s : State), s.boot.post = true → exec (.signalHandoff ref status late) s = .next s) ∧
  (∀ (ch : Nat) (w : WriteResult) (s : State), s.mount = true → s.memOpen = true → ch < s.channels →
    (w.pipeFault = false → exec (.memoryWriteDone ch w) s = .next s) ∧
    (w.pipeFault = true → exec (.memoryWriteDone ch w) s = .next (s.pipeFault ch)) ∧
    (w.pipeFault = true → (s.chan ch).pipesOut < 63 →
      ∃ t, exec (.memoryWriteDone ch w) s = .next t ∧ (t.chan ch).pipesOut = (s.chan ch).pipesOut + 1 ∧ t.mem.bytes = s.mem.bytes))
end

