-- ==== Sys2Proof/Laws/SMap.lean ====
section
/-! SUPPORT. Laws of the sparse tables: reading after writing, and that every operation keeps the canonical form. -/

namespace Sys2Proof.Machine

variable {α : Type}

/-! ### Reading after writing -/

theorem SMap.find?_erase (m : SMap α) (k j : Nat) :
    SMap.find? (SMap.erase m k) j = if j = k then none else SMap.find? m j := by
  induction m with
  | nil => simp [SMap.erase, SMap.find?]
  | cons e r ih =>
    obtain ⟨a, v⟩ := e
    by_cases h : a = k <;> by_cases hj : a = j <;> simp_all [SMap.erase, SMap.find?]

theorem SMap.find?_ins (m : SMap α) (k j : Nat) (v : α) (h : SMap.find? m k = none) :
    SMap.find? (SMap.ins m k v) j = if j = k then some v else SMap.find? m j := by
  induction m with
  | nil => simp [SMap.ins, SMap.find?, eq_comm]
  | cons e r ih =>
    obtain ⟨a, w⟩ := e
    have hk : a ≠ k := by intro e; simp [SMap.find?, e] at h
    have hr : SMap.find? r k = none := by simpa [SMap.find?, hk] using h
    by_cases hj : j = k
    · subst hj
      by_cases hlt : j < a
      · simp [SMap.ins, SMap.find?, hlt]
      · simpa [SMap.ins, SMap.find?, hlt, hk] using ih hr
    · have hj' : k ≠ j := fun e => hj e.symm
      by_cases hlt : k < a
      · simp [SMap.ins, SMap.find?, hlt, hj, hj']
      · simp [SMap.ins, SMap.find?, hlt, ih hr, hj]

@[simp] theorem SMap.find?_set (m : SMap α) (k j : Nat) (v : α) :
    SMap.find? (SMap.set m k v) j = if j = k then some v else SMap.find? m j := by
  unfold SMap.set
  rw [SMap.find?_ins _ _ _ _ (by simp [SMap.find?_erase]), SMap.find?_erase]
  split <;> rfl

theorem SMap.find?_put [DecidableEq α] (m : SMap α) (d v : α) (k j : Nat) :
    SMap.find? (SMap.put m d k v) j = if j = k then (if v = d then none else some v) else SMap.find? m j := by
  unfold SMap.put
  by_cases h : v = d <;> by_cases hj : j = k <;> simp [h, hj, SMap.find?_erase]

/-- What a table reads after a write. -/
@[simp] theorem SMap.getD_put [DecidableEq α] (m : SMap α) (d v : α) (k j : Nat) :
    SMap.getD (SMap.put m d k v) d j = if j = k then v else SMap.getD m d j := by
  unfold SMap.getD
  rw [SMap.find?_put]
  by_cases hj : j = k <;> by_cases h : v = d <;> simp [h, hj]

@[simp] theorem SMap.getD_set (m : SMap α) (d v : α) (k j : Nat) :
    SMap.getD (SMap.set m k v) d j = if j = k then v else SMap.getD m d j := by
  unfold SMap.getD
  rw [SMap.find?_set]
  by_cases hj : j = k <;> simp [hj]

@[simp] theorem SMap.getD_nil (d : α) (k : Nat) : SMap.getD [] d k = d := rfl

/-! ### The canonical form -/

/-- Every key of the table lies above `b`. -/
def SMap.above (b : Nat) (m : SMap α) : Prop := ∀ e ∈ m, b < e.1

theorem SMap.sorted_cons (e : Nat × α) (r : SMap α) :
    SMap.sorted (e :: r) = true ↔ SMap.above e.1 r ∧ SMap.sorted r = true := by
  induction r generalizing e with
  | nil => simp [SMap.sorted, SMap.above]
  | cons f r ih =>
    simp only [SMap.sorted, Bool.and_eq_true, decide_eq_true_eq]
    constructor
    · rintro ⟨h, hs⟩
      refine ⟨?_, hs⟩
      have := ((ih f).1 hs).1
      intro x hx
      rcases List.mem_cons.1 hx with rfl | hx
      · exact h
      · exact h.trans (this x hx)
    · rintro ⟨h, hs⟩
      exact ⟨h f (by simp), hs⟩

theorem SMap.mem_erase (m : SMap α) (k : Nat) (e : Nat × α) (h : e ∈ SMap.erase m k) : e ∈ m ∧ e.1 ≠ k := by
  induction m with
  | nil => simp [SMap.erase] at h
  | cons f r ih =>
    obtain ⟨a, v⟩ := f
    by_cases ha : a = k
    · simp only [SMap.erase, ha, if_true] at h
      exact ⟨by simp [(ih h).1], (ih h).2⟩
    · simp only [SMap.erase, ha, if_false, List.mem_cons] at h
      rcases h with rfl | h
      · exact ⟨by simp, ha⟩
      · exact ⟨by simp [(ih h).1], (ih h).2⟩

theorem SMap.sorted_erase (m : SMap α) (k : Nat) (h : SMap.sorted m = true) : SMap.sorted (SMap.erase m k) = true := by
  induction m with
  | nil => rfl
  | cons f r ih =>
    obtain ⟨a, v⟩ := f
    have hs := (SMap.sorted_cons (a, v) r).1 h
    by_cases ha : a = k
    · simpa [SMap.erase, ha] using ih hs.2
    · simp only [SMap.erase, ha, if_false]
      rw [SMap.sorted_cons]
      exact ⟨fun e he => hs.1 e (SMap.mem_erase r k e he).1, ih hs.2⟩

theorem SMap.mem_ins (m : SMap α) (k : Nat) (v : α) (e : Nat × α) (h : e ∈ SMap.ins m k v) : e = (k, v) ∨ e ∈ m := by
  induction m with
  | nil => simpa [SMap.ins] using h
  | cons f r ih =>
    obtain ⟨a, w⟩ := f
    by_cases hk : k < a
    · simpa [SMap.ins, hk] using h
    · simp only [SMap.ins, hk, if_false, List.mem_cons] at h
      rcases h with rfl | h
      · simp
      · rcases ih h with h | h <;> simp [h]

theorem SMap.sorted_ins (m : SMap α) (k : Nat) (v : α) (h : SMap.sorted m = true) (hk : ∀ e ∈ m, e.1 ≠ k) :
    SMap.sorted (SMap.ins m k v) = true := by
  induction m with
  | nil => rfl
  | cons f r ih =>
    obtain ⟨a, w⟩ := f
    have hs := (SMap.sorted_cons (a, w) r).1 h
    have ha : a ≠ k := hk (a, w) (by simp)
    by_cases hlt : k < a
    · simp only [SMap.ins, hlt, if_true]
      rw [SMap.sorted_cons]
      refine ⟨?_, h⟩
      intro e he
      rcases List.mem_cons.1 he with rfl | he
      · exact hlt
      · exact hlt.trans (hs.1 e he)
    · simp only [SMap.ins, hlt, if_false]
      rw [SMap.sorted_cons]
      refine ⟨?_, ih hs.2 fun e he => hk e (by simp [he])⟩
      intro e he
      rcases SMap.mem_ins r k v e he with rfl | he
      · show a < k; omega
      · exact hs.1 e he

theorem SMap.sorted_set (m : SMap α) (k : Nat) (v : α) (h : SMap.sorted m = true) : SMap.sorted (SMap.set m k v) = true :=
  SMap.sorted_ins _ k v (SMap.sorted_erase m k h) fun e he => (SMap.mem_erase m k e he).2

theorem SMap.mem_set (m : SMap α) (k : Nat) (v : α) (e : Nat × α) (h : e ∈ SMap.set m k v) : e = (k, v) ∨ e ∈ m := by
  rcases SMap.mem_ins _ k v e h with h | h
  · exact .inl h
  · exact .inr (SMap.mem_erase m k e h).1

theorem SMap.wf_iff [DecidableEq α] (d : α) (m : SMap α) :
    SMap.wf d m = true ↔ SMap.sorted m = true ∧ ∀ e ∈ m, e.2 ≠ d := by
  simp [SMap.wf]

theorem SMap.wf_erase [DecidableEq α] (d : α) (m : SMap α) (k : Nat) (h : SMap.wf d m = true) :
    SMap.wf d (SMap.erase m k) = true := by
  rw [SMap.wf_iff] at h ⊢
  exact ⟨SMap.sorted_erase m k h.1, fun e he => h.2 e (SMap.mem_erase m k e he).1⟩

/-- A write keeps the canonical form. -/
theorem SMap.wf_put [DecidableEq α] (d : α) (m : SMap α) (k : Nat) (v : α) (h : SMap.wf d m = true) :
    SMap.wf d (SMap.put m d k v) = true := by
  unfold SMap.put
  split
  · exact SMap.wf_erase d m k h
  · rename_i hv
    rw [SMap.wf_iff] at h ⊢
    refine ⟨SMap.sorted_set m k v h.1, fun e he => ?_⟩
    rcases SMap.mem_set m k v e he with rfl | he
    · exact hv
    · exact h.2 e he

theorem SMap.sorted_filter (m : SMap α) (p : Nat × α → Bool) (h : SMap.sorted m = true) :
    SMap.sorted (m.filter p) = true := by
  induction m with
  | nil => rfl
  | cons f r ih =>
    have hs := (SMap.sorted_cons f r).1 h
    by_cases hp : p f
    · rw [List.filter_cons_of_pos hp, SMap.sorted_cons]
      exact ⟨fun e he => hs.1 e (List.mem_of_mem_filter he), ih hs.2⟩
    · rw [List.filter_cons_of_neg hp]
      exact ih hs.2

/-- Leaving entries out keeps the canonical form. -/
theorem SMap.wf_filter [DecidableEq α] (d : α) (m : SMap α) (p : Nat × α → Bool) (h : SMap.wf d m = true) :
    SMap.wf d (m.filter p) = true := by
  rw [SMap.wf_iff] at h ⊢
  exact ⟨SMap.sorted_filter m p h.1, fun e he => h.2 e (List.mem_of_mem_filter he)⟩

theorem SMap.wf_dropRange [DecidableEq α] (d : α) (m : SMap α) (lo hi : Nat) (h : SMap.wf d m = true) :
    SMap.wf d (SMap.dropRange m lo hi) = true := SMap.wf_filter d m _ h

end Sys2Proof.Machine
end

