-- ==== Sys2Proof/Laws/Frame.lean ====
section
/-! SUPPORT. Frames: a set of parts as a number, `Frame M s t` (what is outside the set is in `t` what it is in `s`, and the stored tables
stay canonical), how it goes through the forms that definitions are written in, and what the operations on registers do. -/

namespace Sys2Proof.Machine

/-! ### Sets of parts -/

/-- The number that stands for the pages of a family. -/
def Fam.mask : Fam → Nat
  | .ver => 0x20000000
  | .func => 0x40000000
  | .cr => 0x80000000
  | .key => 0x100000000
  | .lcs => 0x200000000
  | .time => 0x400000000
  | .hlt => 0x800000000
  | .trc => 0x1000000000
  | .cnt => 0x2000000000
  | .bst => 0x4000000000
  | .err => 0x8000000000
  | .ccip => 0x10000000000
  | .mch => 0x20000000000
  | .gait => 0x40000000000
  | .gw => 0x80000000000
  | .coh => 0x100000000000
  | .cmb => 0x200000000000
  | .hitch => 0x400000000000
  | .red => 0x800000000000
  | .lpt => 0x1000000000000
  | .fe => 0x2000000000000
  | .ctxs => 0x4000000000000
  | .fns => 0x8000000000000
  | .vf => 0x10000000000000

/-- The number that stands for a part. -/
def Part.mask : Part → Nat
  | .pins => 0x1
  | .outs => 0x2
  | .latches => 0x4
  | .boot => 0x8
  | .pkg => 0x10
  | .power => 0x20
  | .time => 0x40
  | .links => 0x80
  | .gait => 0x100
  | .faults => 0x200
  | .host => 0x400
  | .front => 0x800
  | .objs => 0x1000
  | .fns => 0x2000
  | .mem => 0x4000
  | .bytes => 0x8000
  | .sync => 0x10000
  | .red => 0x20000
  | .fab => 0x40000
  | .coh => 0x80000
  | .cmb => 0x100000
  | .trust => 0x200000
  | .ccip => 0x400000
  | .lc => 0x800000
  | .dbg => 0x1000000
  | .bist => 0x2000000
  | .out => 0x4000000
  | .egress => 0x8000000
  | .draws => 0x10000000
  | .page f => f.mask

/-- The number of a list of parts. -/
def maskOf (l : List Part) : Nat := l.foldr (fun p a => p.mask ||| a) 0

theorem Part.mask_and (p q : Part) (h : p ≠ q) : p.mask &&& q.mask = 0 := by
  have key : ∀ f g : Fam, f ≠ g → f.mask &&& g.mask = 0 := by
    intro f g
    cases f <;> cases g <;> first | (intro h; exact absurd rfl h) | (intro _; rfl)
  have k1 : ∀ f : Fam, f.mask &&& 0x1FFFFFFF = 0 := by intro f; cases f <;> rfl
  by_cases hp : ∃ f, p = .page f
  · obtain ⟨f, rfl⟩ := hp
    by_cases hq : ∃ g, q = .page g
    · obtain ⟨g, rfl⟩ := hq
      exact key f g (fun e => h (by rw [e]))
    · have : q.mask &&& 0x1FFFFFFF = q.mask := by
        cases q <;> first | rfl | exact absurd ⟨_, rfl⟩ hq
      show f.mask &&& q.mask = 0
      rw [← this, Nat.and_comm q.mask, ← Nat.and_assoc, k1, Nat.zero_and]
  · have e : p.mask &&& 0x1FFFFFFF = p.mask := by
      cases p <;> first | rfl | exact absurd ⟨_, rfl⟩ hp
    by_cases hq : ∃ g, q = .page g
    · obtain ⟨g, rfl⟩ := hq
      show p.mask &&& g.mask = 0
      rw [← e, Nat.and_assoc, Nat.and_comm _ g.mask, k1, Nat.and_zero]
    · cases p <;> first
        | exact absurd ⟨_, rfl⟩ hp
        | (cases q <;> first | exact absurd ⟨_, rfl⟩ hq | rfl | exact absurd rfl h)

theorem maskOf_not_mem (l : List Part) (p : Part) (h : p ∉ l) : maskOf l &&& p.mask = 0 := by
  induction l with
  | nil => exact Nat.zero_and _
  | cons q r ih =>
    simp only [List.mem_cons, not_or] at h
    show (q.mask ||| maskOf r) &&& p.mask = 0
    rw [Nat.and_or_distrib_right, ih h.2, Part.mask_and q p (fun e => h.1 e.symm)]
    rfl

/-- Set `M` has all that `N` has. -/
def Covers (M N : Nat) : Prop := N &&& M = N

theorem Covers.refl (M : Nat) : Covers M M := Nat.and_self M

theorem Covers.to {M N K : Nat} (h : Covers M N) (k : Covers N K) : Covers M K := by
  show K &&& M = K
  have h : N &&& M = N := h
  have k : K &&& N = K := k
  rw [← k, Nat.and_assoc, h]

theorem Covers.zero {M N p : Nat} (h : Covers M N) (hp : M &&& p = 0) : N &&& p = 0 := by
  have h : N &&& M = N := h
  rw [← h, Nat.and_assoc, hp, Nat.and_zero]

theorem Fam.mask_pos (f : Fam) : f.mask ≠ 0 := by cases f <;> decide

/-- The pages of a family. -/
theorem Covers.fam {M N : Nat} (f : Fam) (h : Covers M N) (k : Nat.land f.mask N = f.mask) : Covers M f.mask := h.to k

/-- The pages of the families of reset scopes. -/
def scopeMask (l : List Scope) : Nat := Fam.all.foldr (fun f a => if l.contains f.scope then f.mask ||| a else a) 0

theorem scopeMask_covers (l : List Scope) (f : Fam) (h : l.contains f.scope = true) : Covers (scopeMask l) f.mask := by
  have key : ∀ L : List Fam, f ∈ L → f.mask &&& L.foldr (fun f a => if l.contains f.scope then f.mask ||| a else a) 0 = f.mask := by
    intro L
    induction L with
    | nil => intro h; cases h
    | cons g r ih =>
      intro hm
      simp only [List.foldr_cons]
      rcases List.mem_cons.1 hm with rfl | hm
      · rw [if_pos h, Nat.and_or_distrib_left, Nat.and_self]
        exact Nat.eq_of_testBit_eq fun i => by simp; intro a _; exact a
      · split
        · rw [Nat.and_or_distrib_left, ih hm]
          exact Nat.eq_of_testBit_eq fun i => by simp; intro a _; exact a
        · exact ih hm
  exact key Fam.all (by cases f <;> decide)

/-- Every page. -/
theorem Covers.page {M : Nat} (h : Covers M 0x1FFFFFE0000000) (f : Fam) : Covers M f.mask := h.to (by cases f <;> rfl)

/-! ### The frame -/

/-- What is outside `M` is in `t` what it is in `s`, and canonical tables stay so. -/
structure Frame (M : Nat) (s t : State) : Prop where
  same : ∀ p : Part, M &&& p.mask = 0 → p.same s t
  build : t.build = s.build
  pending : t.pending = s.pending
  regs : s.regsWf → t.regsWf
  bytes : s.mem.wf = true → t.mem.wf = true

theorem Part.same_refl (p : Part) (s : State) : p.same s s := by
  cases p <;> first | rfl | (intro _ _ _ _; rfl)

theorem Part.same_trans (p : Part) (s t u : State) (h : p.same s t) (k : p.same t u) : p.same s u := by
  cases p <;> first | exact Eq.trans k h | (intro a q e f; exact Eq.trans (k a q e f) (h a q e f))

theorem Frame.refl (M : Nat) (s : State) : Frame M s s :=
  ⟨fun p _ => p.same_refl s, rfl, rfl, id, id⟩

/-- Nothing is outside the full set. -/
theorem Frame.full {s t : State} (hb : t.build = s.build) (hp : t.pending = s.pending) (hr : t.regsWf) (hm : t.mem.wf = true) :
    Frame 0x1FFFFFFFFFFFFF s t :=
  ⟨fun p h => absurd h (by cases p <;> first | decide | (rename_i f; cases f <;> decide)), hb, hp, fun _ => hr, fun _ => hm⟩

/-- One more change within `N`. -/
theorem Frame.step {M N : Nat} {s0 s t : State} (hM : Covers M N) (k : Frame N s t) (h : Frame M s0 s) : Frame M s0 t :=
  ⟨fun p hp => Part.same_trans p s0 s t (h.same p hp) (k.same p (hM.zero hp)), k.build.trans h.build, k.pending.trans h.pending,
    fun w => k.regs (h.regs w), fun w => k.bytes (h.bytes w)⟩

/-! ### Through pairs, options and answers -/

/-- The first, the second component, what an option holds, the state of an answer, what a step answers, has `P`. -/
def FstP {α β : Type} (P : α → Prop) (p : α × β) : Prop := P p.1
def SndP {α β : Type} (P : β → Prop) (p : α × β) : Prop := P p.2
def SomeP {α : Type} (P : α → Prop) (o : Option α) : Prop := ∀ x, o = some x → P x
def InrP {α β : Type} (P : β → Prop) (o : α ⊕ β) : Prop := ∀ x, o = .inr x → P x
def StP (P : State → Prop) (a : Answer) : Prop := P a.st
def NextP (P : State → Prop) (r : Res) : Prop := ∀ t, r = .next t → P t

/-- A function keeps `P`; each command of a list keeps `P`. -/
def FunP (P : State → Prop) (f : State → State) : Prop := ∀ y, P y → P (f y)
def CmdsP (P : State → Prop) : List (State → Res) → Prop
  | [] => True
  | f :: r => (∀ y, P y → NextP P (f y)) ∧ CmdsP P r

theorem CmdsP.mem {P : State → Prop} {l : List (State → Res)} {f : State → Res} (h : CmdsP P l) (m : f ∈ l) :
    ∀ y, P y → NextP P (f y) := by
  induction l with
  | nil => cases m
  | cons g r ih =>
    rcases List.mem_cons.1 m with rfl | m
    · exact h.1
    · exact ih h.2 m

theorem FstP.out {α β : Type} {P : α → Prop} {p : α × β} {a : α} {b : β} (e : p = (a, b)) (h : FstP P p) : P a := by
  subst e; exact h
theorem SndP.out {α β : Type} {P : β → Prop} {p : α × β} {a : α} {b : β} (e : p = (a, b)) (h : SndP P p) : P b := by
  subst e; exact h
theorem SomeP.out {α : Type} {P : α → Prop} {o : Option α} {a : α} (e : o = some a) (h : SomeP P o) : P a := h a e
theorem InrP.out {α β : Type} {P : β → Prop} {o : α ⊕ β} {a : β} (e : o = .inr a) (h : InrP P o) : P a := h a e

theorem NextP.out {P : State → Prop} {r : Res} {t : State} (e : r = .next t) (h : NextP P r) : P t := h t e

theorem SomeP.some {α : Type} {P : α → Prop} {a : α} (h : P a) : SomeP P (some a) := by
  intro x e; cases e; exact h
theorem SomeP.none {α : Type} {P : α → Prop} : SomeP P (none : Option α) := by intro x e; cases e
theorem InrP.inr {α β : Type} {P : β → Prop} {a : β} (h : P a) : InrP P (Sum.inr a : α ⊕ β) := by
  intro x e; cases e; exact h
theorem InrP.inl {α β : Type} {P : β → Prop} {a : α} : InrP P (Sum.inl a : α ⊕ β) := by intro x e; cases e
theorem NextP.next {P : State → Prop} {t : State} (h : P t) : NextP P (Host.Outcome.next t) := by
  intro x e; cases e; exact h

theorem SomeP.getD {α : Type} {P : α → Prop} {o : Option α} {d : α} (ho : SomeP P o) (hd : P d) : P (o.getD d) := by
  cases o with
  | none => exact hd
  | some x => exact ho x rfl

theorem SomeP.map {α β : Type} {P : β → Prop} {o : Option α} {f : α → β} (h : ∀ x, P (f x)) : SomeP P (o.map f) := by
  intro x e
  cases o with
  | none => cases e
  | some y => cases e; exact h y

/-! ### Through conditions and folds -/

theorem ite_rule {α : Type} {P : α → Prop} {c : Prop} {d : Decidable c} {a b : α} (ha : P a) (hb : P b) : P (@ite α c d a b) := by
  split <;> assumption

theorem cond_rule {α : Type} {P : α → Prop} {c : Bool} {a b : α} (ha : P a) (hb : P b) : P (cond c a b) := by
  cases c <;> assumption

theorem dite_rule {α : Type} {P : α → Prop} {c : Prop} {d : Decidable c} {a : c → α} {b : ¬c → α} (ha : ∀ h, P (a h))
    (hb : ∀ h, P (b h)) : P (@dite α c d a b) := by
  split
  · exact ha _
  · exact hb _

theorem fold_rule {α β : Type} {P : α → Prop} {f : α → β → α} {a : α} {l : List β} (ha : P a) (hf : ∀ x b, P x → P (f x b)) :
    P (l.foldl f a) := by
  induction l generalizing a with
  | nil => exact ha
  | cons b r ih => exact ih (hf a b ha)

theorem fold_mem_rule {α β : Type} {P : α → Prop} {f : α → β → α} {a : α} {l : List β} (ha : P a)
    (hf : ∀ x b, b ∈ l → P x → P (f x b)) : P (l.foldl f a) := by
  induction l generalizing a with
  | nil => exact ha
  | cons b r ih => exact ih (hf a b (by simp) ha) (fun x c hc => hf x c (by simp [hc]))

/-! ### Registers -/

theorem find_filter {α : Type} (m : SMap α) (p : Nat × α → Bool) (k : Nat) (h : ∀ v, p (k, v) = true) :
    SMap.find? (m.filter p) k = SMap.find? m k := by
  induction m with
  | nil => rfl
  | cons e r ih =>
    obtain ⟨a, v⟩ := e
    by_cases ha : a = k
    · subst ha
      simp [h, SMap.find?]
    · by_cases hp : p (a, v) = true <;> simp [hp, SMap.find?, ha, ih]

theorem State.regsWf_put (m : SMap W32) (a : Nat) (v : W32) (h : SMap.sorted m = true ∧ ∀ e ∈ m, e.2 ≠ windowReset e.1) :
    SMap.sorted (SMap.put m (windowReset a) a v) = true ∧ ∀ e ∈ SMap.put m (windowReset a) a v, e.2 ≠ windowReset e.1 := by
  unfold SMap.put
  split
  · exact ⟨SMap.sorted_erase m a h.1, fun e he => h.2 e (SMap.mem_erase m a e he).1⟩
  · rename_i hv
    refine ⟨SMap.sorted_set m a v h.1, fun e he => ?_⟩
    rcases SMap.mem_set m a v e he with rfl | he
    · exact hv
    · exact h.2 e he

/-- Every field of State but the registers, unchanged. -/
theorem Frame.of_regs {M : Nat} {s : State} {r : SMap W32} (hp : ∀ f : Fam, M &&& f.mask = 0 → (Part.page f).same s { s with regs := r })
    (hw : s.regsWf → ({ s with regs := r } : State).regsWf) : Frame M s { s with regs := r } := by
  refine ⟨fun p => ?_, rfl, rfl, hw, id⟩
  cases p with
  | page f => exact hp f
  | _ => intro _; rfl

/-- Writing a register changes the registers of its page's family. -/
theorem Frame.setReg_at (s : State) (a : Nat) (v : W32) (M : Nat)
    (h : ∀ q, Page.ofSlot (a / 0x1000) = some q → Covers M q.fam.mask) : Frame M s (s.setReg a v) := by
  refine Frame.of_regs (fun f hf b q hq hfam => ?_) (fun w => State.regsWf_put s.regs a v w)
  by_cases e : b = a
  · subst e
    have := (h q hq).zero hf
    rw [hfam, Nat.and_self] at this
    exact absurd this f.mask_pos
  · show SMap.getD (SMap.put s.regs (windowReset a) a v) (windowReset b) b = SMap.getD s.regs (windowReset b) b
    unfold SMap.getD
    rw [SMap.find?_put, if_neg e]

theorem Fam.apart (f g : Fam) : f = g ∨ f.slot0 + f.slots ≤ g.slot0 ∨ g.slot0 + g.slots ≤ f.slot0 := by
  cases f <;> cases g <;> first | exact Or.inl rfl | exact Or.inr (Or.inl (by decide)) | exact Or.inr (Or.inr (by decide))

theorem Page.ofSlot_range (n : Nat) (q : Page) (e : Page.ofSlot n = some q) :
    q.fam.slot0 ≤ n ∧ n < q.fam.slot0 + q.fam.slots := by
  unfold Page.ofSlot at e
  cases h : Fam.all.find? (fun f => f.slot0 ≤ n && n < f.slot0 + f.slots) with
  | none => rw [h] at e; cases e
  | some f =>
    rw [h] at e
    have := List.find?_some h
    simp only [Option.map_some, Option.some.injEq] at e
    subst e
    simpa using this

theorem Page.ofSlot_base (p : Page) (o : Nat) (h : o < 0x1000) (q : Page) (e : Page.ofSlot ((p.base + o) / 0x1000) = some q) :
    q.fam = p.fam := by
  have d : (p.base + o) / 0x1000 = p.fam.slot0 + p.idx % p.fam.slots := by
    unfold Page.base; omega
  rw [d] at e
  have hs : 0 < p.fam.slots := by cases p.fam <;> decide
  have hl := Nat.mod_lt p.idx hs
  have hr := Page.ofSlot_range _ q e
  rcases Fam.apart q.fam p.fam with h | h | h
  · exact h
  · omega
  · omega

/-- Does a field's array of registers lie within its page? -/
def Field.inPage (f : Field) : Bool := Nat.ble 1 f.n && Nat.blt (f.off + (f.n - 1) * f.stride) 0x1000

theorem Field.inPage_lt (f : Field) (h : f.inPage = true) (i : Nat) : f.off + i % f.n * f.stride < 0x1000 := by
  simp only [Field.inPage, Bool.and_eq_true, Nat.ble_eq, Nat.blt_eq] at h
  have : i % f.n ≤ f.n - 1 := Nat.le_sub_one_of_lt (Nat.mod_lt i h.1)
  have := Nat.mul_le_mul_right f.stride this
  omega

variable {M : Nat} {s0 s : State}

theorem State.setReg_frame {p : Page} {o : Nat} {v : W32} (hp : Covers M p.fam.mask) (ho : Nat.blt o 0x1000 = true)
    (h : Frame M s0 s) : Frame M s0 (s.setReg (p.base + o) v) := by
  have ho : o < 0x1000 := by simpa using ho
  refine Frame.step hp (Frame.setReg_at s (p.base + o) v p.fam.mask ?_) h
  intro q e
  rw [Page.ofSlot_base p o ho q e]
  exact Covers.refl _

theorem State.setReg_any {a : Nat} {v : W32} (hM : Covers M 0x1FFFFFE0000000) (h : Frame M s0 s) : Frame M s0 (s.setReg a v) :=
  Frame.step hM (Frame.setReg_at s a v _ fun q _ => Covers.page (Covers.refl _) q.fam) h

theorem State.wr_frame {p : Page} {f : Field} {v i : Nat} (h : Frame M s0 s) (hp : Covers M p.fam.mask)
    (hf : f.inPage = true) : Frame M s0 (s.wr p f v i) := by
  unfold State.wr Field.at_
  rw [Nat.add_assoc]
  exact State.setReg_frame hp (by have := f.inPage_lt hf i; simpa using this) h

end Sys2Proof.Machine
end

