-- ==== Sys2Proof/Laws/FrameUpdate.lean ====
section
/-! SUPPORT. Frames of record updates: setting fields of the state changes these fields and nothing else. -/

namespace Sys2Proof.Machine

/-- A change of fields beside the registers and the bytes of memory. -/
theorem Frame.update {M N : Nat} {s0 s t : State} (hM : Covers M N) (hd : ∀ p : Part, N &&& p.mask = 0 → p.same s t)
    (hb : t.build = s.build) (hp : t.pending = s.pending) (hr : t.regs = s.regs) (hm : t.mem.bytes = s.mem.bytes)
    (h : Frame M s0 s) : Frame M s0 t :=
  Frame.step hM ⟨hd, hb, hp, fun w => by unfold State.regsWf at w ⊢; rw [hr]; exact w,
    fun w => by unfold Mem.wf at w ⊢; rw [hm]; exact w⟩ h

variable {M : Nat} {s0 s : State}

/-- A change of the bytes of memory that keeps them canonical. -/
theorem Frame.upd_bytes {m : Mem} (hM : Covers M 0xC000) (hw : s.mem.wf = true → m.wf = true) (h : Frame M s0 s) :
    Frame M s0 { s with mem := m } := by
  refine Frame.step (s := s) hM ⟨fun p hp => ?_, rfl, rfl, id, hw⟩ h
  cases p <;> first | exact rfl | (intro _ _ _ _; exact rfl) | exact absurd hp (by decide)

theorem Frame.upd_links {x0 : SMap Link}
    (hM : Covers M 0x80) (h : Frame M s0 s) :
    Frame M s0 { s with links := x0 } := by
  refine Frame.update (s := s) hM (fun p hp => ?_) rfl rfl rfl rfl h
  cases p <;> first | exact rfl | (intro _ _ _ _; exact rfl) | exact absurd hp (by decide)

theorem Frame.upd_outs_lc {x0 : PinsOut} {x1 : Lc}
    (hM : Covers M 0x800002) (h : Frame M s0 s) :
    Frame M s0 { s with outs := x0, lc := x1 } := by
  refine Frame.update (s := s) hM (fun p hp => ?_) rfl rfl rfl rfl h
  cases p <;> first | exact rfl | (intro _ _ _ _; exact rfl) | exact absurd hp (by decide)

theorem Frame.upd_draws {x0 : Nat}
    (hM : Covers M 0x10000000) (h : Frame M s0 s) :
    Frame M s0 { s with draws := x0 } := by
  refine Frame.update (s := s) hM (fun p hp => ?_) rfl rfl rfl rfl h
  cases p <;> first | exact rfl | (intro _ _ _ _; exact rfl) | exact absurd hp (by decide)

theorem Frame.upd_outs_boot {x0 : PinsOut} {x1 : Boot}
    (hM : Covers M 0xa) (h : Frame M s0 s) :
    Frame M s0 { s with outs := x0, boot := x1 } := by
  refine Frame.update (s := s) hM (fun p hp => ?_) rfl rfl rfl rfl h
  cases p <;> first | exact rfl | (intro _ _ _ _; exact rfl) | exact absurd hp (by decide)

theorem Frame.upd_ccip {x0 : SMap Ccip}
    (hM : Covers M 0x400000) (h : Frame M s0 s) :
    Frame M s0 { s with ccip := x0 } := by
  refine Frame.update (s := s) hM (fun p hp => ?_) rfl rfl rfl rfl h
  cases p <;> first | exact rfl | (intro _ _ _ _; exact rfl) | exact absurd hp (by decide)

theorem Frame.upd_faults_front {x0 : Faults} {x1 : Front}
    (hM : Covers M 0xa00) (h : Frame M s0 s) :
    Frame M s0 { s with faults := x0, front := x1 } := by
  refine Frame.update (s := s) hM (fun p hp => ?_) rfl rfl rfl rfl h
  cases p <;> first | exact rfl | (intro _ _ _ _; exact rfl) | exact absurd hp (by decide)

theorem Frame.upd_host_front {x0 : HostIf} {x1 : Front}
    (hM : Covers M 0xc00) (h : Frame M s0 s) :
    Frame M s0 { s with host := x0, front := x1 } := by
  refine Frame.update (s := s) hM (fun p hp => ?_) rfl rfl rfl rfl h
  cases p <;> first | exact rfl | (intro _ _ _ _; exact rfl) | exact absurd hp (by decide)

theorem Frame.upd_boot_trust {x0 : Boot} {x1 : Trust}
    (hM : Covers M 0x200008) (h : Frame M s0 s) :
    Frame M s0 { s with boot := x0, trust := x1 } := by
  refine Frame.update (s := s) hM (fun p hp => ?_) rfl rfl rfl rfl h
  cases p <;> first | exact rfl | (intro _ _ _ _; exact rfl) | exact absurd hp (by decide)

theorem Frame.upd_blockReset {x0 : PinsOut} {x1 : SMap Latch} {x2 : Boot} {x3 : Package} {x4 : Power} {x5 : SMap Link} {x6 : Gait} {x7 : Faults} {x8 : HostIf} {x9 : Front} {x10 : Objects} {x11 : SMap Fn} {x12 : Mem} {x13 : Sync} {x14 : Red} {x15 : Fabric} {x16 : Coh} {x17 : Cmb} {x18 : Trust} {x19 : SMap Ccip} {x20 : Lc} {x21 : Dbg} {x22 : Bist} {x23 : List Out}
    (hM : Covers M 0xbff7fbe) (hm : x12.bytes = s.mem.bytes) (h : Frame M s0 s) :
    Frame M s0 { s with outs := x0, latches := x1, boot := x2, pkg := x3, power := x4, links := x5, gait := x6, faults := x7, host := x8, front := x9, objs := x10, fns := x11, mem := x12, sync := x13, red := x14, fab := x15, coh := x16, cmb := x17, trust := x18, ccip := x19, lc := x20, dbg := x21, bist := x22, egress := x23 } := by
  refine Frame.update (s := s) hM (fun p hp => ?_) rfl rfl rfl hm h
  cases p <;> first | exact rfl | (intro _ _ _ _; exact rfl) | exact absurd hp (by decide) | exact hm

theorem Frame.upd_pkg_trust {x0 : Package} {x1 : Trust}
    (hM : Covers M 0x200010) (h : Frame M s0 s) :
    Frame M s0 { s with pkg := x0, trust := x1 } := by
  refine Frame.update (s := s) hM (fun p hp => ?_) rfl rfl rfl rfl h
  cases p <;> first | exact rfl | (intro _ _ _ _; exact rfl) | exact absurd hp (by decide)

theorem Frame.upd_gait_bist {x0 : Gait} {x1 : Bist}
    (hM : Covers M 0x2000100) (h : Frame M s0 s) :
    Frame M s0 { s with gait := x0, bist := x1 } := by
  refine Frame.update (s := s) hM (fun p hp => ?_) rfl rfl rfl rfl h
  cases p <;> first | exact rfl | (intro _ _ _ _; exact rfl) | exact absurd hp (by decide)

theorem Frame.upd_pins_boot {x0 : PinsIn} {x1 : Boot}
    (hM : Covers M 0x9) (h : Frame M s0 s) :
    Frame M s0 { s with pins := x0, boot := x1 } := by
  refine Frame.update (s := s) hM (fun p hp => ?_) rfl rfl rfl rfl h
  cases p <;> first | exact rfl | (intro _ _ _ _; exact rfl) | exact absurd hp (by decide)

theorem Frame.upd_egress {x0 : List Out}
    (hM : Covers M 0x8000000) (h : Frame M s0 s) :
    Frame M s0 { s with egress := x0 } := by
  refine Frame.update (s := s) hM (fun p hp => ?_) rfl rfl rfl rfl h
  cases p <;> first | exact rfl | (intro _ _ _ _; exact rfl) | exact absurd hp (by decide)

theorem Frame.upd_out {x0 : List Out}
    (hM : Covers M 0x4000000) (h : Frame M s0 s) :
    Frame M s0 { s with out := x0 } := by
  refine Frame.update (s := s) hM (fun p hp => ?_) rfl rfl rfl rfl h
  cases p <;> first | exact rfl | (intro _ _ _ _; exact rfl) | exact absurd hp (by decide)

theorem Frame.upd_outs_bist {x0 : PinsOut} {x1 : Bist}
    (hM : Covers M 0x2000002) (h : Frame M s0 s) :
    Frame M s0 { s with outs := x0, bist := x1 } := by
  refine Frame.update (s := s) hM (fun p hp => ?_) rfl rfl rfl rfl h
  cases p <;> first | exact rfl | (intro _ _ _ _; exact rfl) | exact absurd hp (by decide)

theorem Frame.upd_power_links_gait_sync_red_fab_coh_cmb {x0 : Power} {x1 : SMap Link} {x2 : Gait} {x3 : Sync} {x4 : Red} {x5 : Fabric} {x6 : Coh} {x7 : Cmb}
    (hM : Covers M 0x1f01a0) (h : Frame M s0 s) :
    Frame M s0 { s with power := x0, links := x1, gait := x2, sync := x3, red := x4, fab := x5, coh := x6, cmb := x7 } := by
  refine Frame.update (s := s) hM (fun p hp => ?_) rfl rfl rfl rfl h
  cases p <;> first | exact rfl | (intro _ _ _ _; exact rfl) | exact absurd hp (by decide)

theorem Frame.upd_links_mem_trust_ccip {x0 : SMap Link} {x1 : Mem} {x2 : Trust} {x3 : SMap Ccip}
    (hM : Covers M 0x604080) (hm : x1.bytes = s.mem.bytes) (h : Frame M s0 s) :
    Frame M s0 { s with links := x0, mem := x1, trust := x2, ccip := x3 } := by
  refine Frame.update (s := s) hM (fun p hp => ?_) rfl rfl rfl hm h
  cases p <;> first | exact rfl | (intro _ _ _ _; exact rfl) | exact absurd hp (by decide) | exact hm

theorem Frame.upd_fns {x0 : SMap Fn}
    (hM : Covers M 0x2000) (h : Frame M s0 s) :
    Frame M s0 { s with fns := x0 } := by
  refine Frame.update (s := s) hM (fun p hp => ?_) rfl rfl rfl rfl h
  cases p <;> first | exact rfl | (intro _ _ _ _; exact rfl) | exact absurd hp (by decide)

theorem Frame.upd_fab {x0 : Fabric}
    (hM : Covers M 0x40000) (h : Frame M s0 s) :
    Frame M s0 { s with fab := x0 } := by
  refine Frame.update (s := s) hM (fun p hp => ?_) rfl rfl rfl rfl h
  cases p <;> first | exact rfl | (intro _ _ _ _; exact rfl) | exact absurd hp (by decide)

theorem Frame.upd_pins_out_egress {x0 : PinsIn} {x1 : List Out} {x2 : List Out}
    (hM : Covers M 0xc000001) (h : Frame M s0 s) :
    Frame M s0 { s with pins := x0, out := x1, egress := x2 } := by
  refine Frame.update (s := s) hM (fun p hp => ?_) rfl rfl rfl rfl h
  cases p <;> first | exact rfl | (intro _ _ _ _; exact rfl) | exact absurd hp (by decide)

theorem Frame.upd_outs_power {x0 : PinsOut} {x1 : Power}
    (hM : Covers M 0x22) (h : Frame M s0 s) :
    Frame M s0 { s with outs := x0, power := x1 } := by
  refine Frame.update (s := s) hM (fun p hp => ?_) rfl rfl rfl rfl h
  cases p <;> first | exact rfl | (intro _ _ _ _; exact rfl) | exact absurd hp (by decide)

theorem Frame.upd_power_host_front_objs_fns {x0 : Power} {x1 : HostIf} {x2 : Front} {x3 : Objects} {x4 : SMap Fn}
    (hM : Covers M 0x3c20) (h : Frame M s0 s) :
    Frame M s0 { s with power := x0, host := x1, front := x2, objs := x3, fns := x4 } := by
  refine Frame.update (s := s) hM (fun p hp => ?_) rfl rfl rfl rfl h
  cases p <;> first | exact rfl | (intro _ _ _ _; exact rfl) | exact absurd hp (by decide)

theorem Frame.upd_outs_faults {x0 : PinsOut} {x1 : Faults}
    (hM : Covers M 0x202) (h : Frame M s0 s) :
    Frame M s0 { s with outs := x0, faults := x1 } := by
  refine Frame.update (s := s) hM (fun p hp => ?_) rfl rfl rfl rfl h
  cases p <;> first | exact rfl | (intro _ _ _ _; exact rfl) | exact absurd hp (by decide)

theorem Frame.upd_outs {x0 : PinsOut}
    (hM : Covers M 0x2) (h : Frame M s0 s) :
    Frame M s0 { s with outs := x0 } := by
  refine Frame.update (s := s) hM (fun p hp => ?_) rfl rfl rfl rfl h
  cases p <;> first | exact rfl | (intro _ _ _ _; exact rfl) | exact absurd hp (by decide)

theorem Frame.upd_dbg {x0 : Dbg}
    (hM : Covers M 0x1000000) (h : Frame M s0 s) :
    Frame M s0 { s with dbg := x0 } := by
  refine Frame.update (s := s) hM (fun p hp => ?_) rfl rfl rfl rfl h
  cases p <;> first | exact rfl | (intro _ _ _ _; exact rfl) | exact absurd hp (by decide)

theorem Frame.upd_boot {x0 : Boot}
    (hM : Covers M 0x8) (h : Frame M s0 s) :
    Frame M s0 { s with boot := x0 } := by
  refine Frame.update (s := s) hM (fun p hp => ?_) rfl rfl rfl rfl h
  cases p <;> first | exact rfl | (intro _ _ _ _; exact rfl) | exact absurd hp (by decide)

theorem Frame.upd_coh {x0 : Coh}
    (hM : Covers M 0x80000) (h : Frame M s0 s) :
    Frame M s0 { s with coh := x0 } := by
  refine Frame.update (s := s) hM (fun p hp => ?_) rfl rfl rfl rfl h
  cases p <;> first | exact rfl | (intro _ _ _ _; exact rfl) | exact absurd hp (by decide)

theorem Frame.upd_objs {x0 : Objects}
    (hM : Covers M 0x1000) (h : Frame M s0 s) :
    Frame M s0 { s with objs := x0 } := by
  refine Frame.update (s := s) hM (fun p hp => ?_) rfl rfl rfl rfl h
  cases p <;> first | exact rfl | (intro _ _ _ _; exact rfl) | exact absurd hp (by decide)

theorem Frame.upd_pins_outs_boot {x0 : PinsIn} {x1 : PinsOut} {x2 : Boot}
    (hM : Covers M 0xb) (h : Frame M s0 s) :
    Frame M s0 { s with pins := x0, outs := x1, boot := x2 } := by
  refine Frame.update (s := s) hM (fun p hp => ?_) rfl rfl rfl rfl h
  cases p <;> first | exact rfl | (intro _ _ _ _; exact rfl) | exact absurd hp (by decide)

theorem Frame.upd_mem {x0 : Mem}
    (hM : Covers M 0x4000) (hm : x0.bytes = s.mem.bytes) (h : Frame M s0 s) :
    Frame M s0 { s with mem := x0 } := by
  refine Frame.update (s := s) hM (fun p hp => ?_) rfl rfl rfl hm h
  cases p <;> first | exact rfl | (intro _ _ _ _; exact rfl) | exact absurd hp (by decide) | exact hm

theorem Frame.upd_cmb {x0 : Cmb}
    (hM : Covers M 0x100000) (h : Frame M s0 s) :
    Frame M s0 { s with cmb := x0 } := by
  refine Frame.update (s := s) hM (fun p hp => ?_) rfl rfl rfl rfl h
  cases p <;> first | exact rfl | (intro _ _ _ _; exact rfl) | exact absurd hp (by decide)

theorem Frame.upd_time {x0 : Time}
    (hM : Covers M 0x40) (h : Frame M s0 s) :
    Frame M s0 { s with time := x0 } := by
  refine Frame.update (s := s) hM (fun p hp => ?_) rfl rfl rfl rfl h
  cases p <;> first | exact rfl | (intro _ _ _ _; exact rfl) | exact absurd hp (by decide)

theorem Frame.upd_power {x0 : Power}
    (hM : Covers M 0x20) (h : Frame M s0 s) :
    Frame M s0 { s with power := x0 } := by
  refine Frame.update (s := s) hM (fun p hp => ?_) rfl rfl rfl rfl h
  cases p <;> first | exact rfl | (intro _ _ _ _; exact rfl) | exact absurd hp (by decide)

theorem Frame.upd_front {x0 : Front}
    (hM : Covers M 0x800) (h : Frame M s0 s) :
    Frame M s0 { s with front := x0 } := by
  refine Frame.update (s := s) hM (fun p hp => ?_) rfl rfl rfl rfl h
  cases p <;> first | exact rfl | (intro _ _ _ _; exact rfl) | exact absurd hp (by decide)

theorem Frame.upd_host {x0 : HostIf}
    (hM : Covers M 0x400) (h : Frame M s0 s) :
    Frame M s0 { s with host := x0 } := by
  refine Frame.update (s := s) hM (fun p hp => ?_) rfl rfl rfl rfl h
  cases p <;> first | exact rfl | (intro _ _ _ _; exact rfl) | exact absurd hp (by decide)

theorem Frame.upd_red {x0 : Red}
    (hM : Covers M 0x20000) (h : Frame M s0 s) :
    Frame M s0 { s with red := x0 } := by
  refine Frame.update (s := s) hM (fun p hp => ?_) rfl rfl rfl rfl h
  cases p <;> first | exact rfl | (intro _ _ _ _; exact rfl) | exact absurd hp (by decide)

theorem Frame.upd_pkg {x0 : Package}
    (hM : Covers M 0x10) (h : Frame M s0 s) :
    Frame M s0 { s with pkg := x0 } := by
  refine Frame.update (s := s) hM (fun p hp => ?_) rfl rfl rfl rfl h
  cases p <;> first | exact rfl | (intro _ _ _ _; exact rfl) | exact absurd hp (by decide)

theorem Frame.upd_faults {x0 : Faults}
    (hM : Covers M 0x200) (h : Frame M s0 s) :
    Frame M s0 { s with faults := x0 } := by
  refine Frame.update (s := s) hM (fun p hp => ?_) rfl rfl rfl rfl h
  cases p <;> first | exact rfl | (intro _ _ _ _; exact rfl) | exact absurd hp (by decide)

theorem Frame.upd_lc {x0 : Lc}
    (hM : Covers M 0x800000) (h : Frame M s0 s) :
    Frame M s0 { s with lc := x0 } := by
  refine Frame.update (s := s) hM (fun p hp => ?_) rfl rfl rfl rfl h
  cases p <;> first | exact rfl | (intro _ _ _ _; exact rfl) | exact absurd hp (by decide)

theorem Frame.upd_trust {x0 : Trust}
    (hM : Covers M 0x200000) (h : Frame M s0 s) :
    Frame M s0 { s with trust := x0 } := by
  refine Frame.update (s := s) hM (fun p hp => ?_) rfl rfl rfl rfl h
  cases p <;> first | exact rfl | (intro _ _ _ _; exact rfl) | exact absurd hp (by decide)

theorem Frame.upd_gait {x0 : Gait}
    (hM : Covers M 0x100) (h : Frame M s0 s) :
    Frame M s0 { s with gait := x0 } := by
  refine Frame.update (s := s) hM (fun p hp => ?_) rfl rfl rfl rfl h
  cases p <;> first | exact rfl | (intro _ _ _ _; exact rfl) | exact absurd hp (by decide)

theorem Frame.upd_bist {x0 : Bist}
    (hM : Covers M 0x2000000) (h : Frame M s0 s) :
    Frame M s0 { s with bist := x0 } := by
  refine Frame.update (s := s) hM (fun p hp => ?_) rfl rfl rfl rfl h
  cases p <;> first | exact rfl | (intro _ _ _ _; exact rfl) | exact absurd hp (by decide)

theorem Frame.upd_sync {x0 : Sync}
    (hM : Covers M 0x10000) (h : Frame M s0 s) :
    Frame M s0 { s with sync := x0 } := by
  refine Frame.update (s := s) hM (fun p hp => ?_) rfl rfl rfl rfl h
  cases p <;> first | exact rfl | (intro _ _ _ _; exact rfl) | exact absurd hp (by decide)

theorem Frame.upd_latches {x0 : SMap Latch}
    (hM : Covers M 0x4) (h : Frame M s0 s) :
    Frame M s0 { s with latches := x0 } := by
  refine Frame.update (s := s) hM (fun p hp => ?_) rfl rfl rfl rfl h
  cases p <;> first | exact rfl | (intro _ _ _ _; exact rfl) | exact absurd hp (by decide)

theorem Frame.upd_pins {x0 : PinsIn}
    (hM : Covers M 0x1) (h : Frame M s0 s) :
    Frame M s0 { s with pins := x0 } := by
  refine Frame.update (s := s) hM (fun p hp => ?_) rfl rfl rfl rfl h
  cases p <;> first | exact rfl | (intro _ _ _ _; exact rfl) | exact absurd hp (by decide)

theorem Frame.upd_pins_outs {x0 : PinsIn} {x1 : PinsOut}
    (hM : Covers M 0x3) (h : Frame M s0 s) :
    Frame M s0 { s with pins := x0, outs := x1 } := by
  refine Frame.update (s := s) hM (fun p hp => ?_) rfl rfl rfl rfl h
  cases p <;> first | exact rfl | (intro _ _ _ _; exact rfl) | exact absurd hp (by decide)

theorem Frame.upd_sync_coh {x0 : Sync} {x1 : Coh}
    (hM : Covers M 0x90000) (h : Frame M s0 s) :
    Frame M s0 { s with sync := x0, coh := x1 } := by
  refine Frame.update (s := s) hM (fun p hp => ?_) rfl rfl rfl rfl h
  cases p <;> first | exact rfl | (intro _ _ _ _; exact rfl) | exact absurd hp (by decide)

end Sys2Proof.Machine
end

