-- ==== Sys2Proof/Laws/FrameOps.lean ====
section
/-! SUPPORT. What each operation and each meaning of Machine/Ops.lean can change: it keeps the frame `Frame M s0` for every set `M` that
has the parts it names, given that its arguments keep it. -/

namespace Sys2Proof.Machine

theorem State.setLink_frame {M : Nat} {s0 : State} {s : State} {n : ℕ} {l : Link} (hM : Covers M 0x80) (hs0 : Frame M s0 s) :
    Frame M s0 (State.setLink s n l) := by
  unfold State.setLink
  exact (Frame.upd_links (hM.to rfl) hs0)

theorem State.emit_frame {M : Nat} {s0 : State} {s : State} {o : Out} (hM : Covers M 0xc000000) (hs0 : Frame M s0 s) :
    Frame M s0 (State.emit s o) := by
  unfold State.emit
  exact (ite_rule (Frame.upd_egress (hM.to rfl) hs0) (Frame.upd_out (hM.to rfl) hs0))

theorem State.sendFlit_frame {M : Nat} {s0 : State} {s : State} {n : ℕ} {f : Flit} (hM : Covers M 0xc000080) (hs0 : Frame M s0 s) :
    Frame M s0 (State.sendFlit s n f) := by
  unfold State.sendFlit
  extract_lets v1
  exact (State.emit_frame (hM.to rfl) (State.setLink_frame (hM.to rfl) hs0))

theorem State.cutOccs_frame {M : Nat} {s0 : State} {s : State} {n : ℕ} (hM : Covers M 0x100) (hs0 : Frame M s0 s) :
    Frame M s0 (State.cutOccs s n) := by
  unfold State.cutOccs
  exact (Frame.upd_gait (hM.to rfl) hs0)

theorem State.inc_frame {M : Nat} {s0 : State} {s : State} {p : Page} {f : Field} {i : optParam ℕ 0} (hs0 : Frame M s0 s) (hs1 : Covers M p.fam.mask) (hs2 : f.inPage = true) :
    Frame M s0 (State.inc s p f i) := by
  unfold State.inc
  exact (State.wr_frame hs0 hs1 hs2)

theorem State.cnt_frame {M : Nat} {s0 : State} {s : State} {i : ℕ} {n : ℕ} (hM : Covers M 0x1000000) (hs0 : Frame M s0 s) :
    Frame M s0 (State.cnt s i n) := by
  unfold State.cnt
  exact (ite_rule hs0 (Frame.upd_dbg (hM.to rfl) hs0))

theorem State.wrPair_frame {M : Nat} {s0 : State} {s : State} {p : Page} {lo : Field} {hi : Field} {v : ℕ} {i : optParam ℕ 0} (hs0 : Frame M s0 s) (hs1 : Covers M p.fam.mask) (hs2 : lo.inPage = true) (hs3 : hi.inPage = true) :
    Frame M s0 (State.wrPair s p lo hi v i) := by
  unfold State.wrPair
  exact (State.wr_frame (State.wr_frame hs0 hs1 hs2) hs1 hs3)

theorem State.wakeSlots_frame {M : Nat} {s0 : State} {s : State} {l : List ℕ} (hM : Covers M 0x20) (hs0 : Frame M s0 s) :
    Frame M s0 (State.wakeSlots s l) := by
  unfold State.wakeSlots
  exact (Frame.upd_power (hM.to rfl) hs0)

theorem State.add_frame {M : Nat} {s0 : State} {s : State} {p : Page} {f : Field} {n : ℕ} {i : optParam ℕ 0} (hs0 : Frame M s0 s) (hs1 : Covers M p.fam.mask) (hs2 : f.inPage = true) :
    Frame M s0 (State.add s p f n i) := by
  unfold State.add
  exact (State.wr_frame hs0 hs1 hs2)

theorem State.putRec_frame {M : Nat} {s0 : State} {s : State} {w : ℕ} {r : ErrRec} (hM : Covers M 0x200) (hs0 : Frame M s0 s) :
    Frame M s0 (State.putRec s w r) := by
  unfold State.putRec
  exact (Frame.upd_faults (hM.to rfl) hs0)

theorem State.displace_frame {M : Nat} {s0 : State} {s : State} {k : ℕ} (hM : Covers M 0x8000000200) (hs0 : Frame M s0 s) :
    Frame M s0 (State.displace s k) := by
  unfold State.displace
  extract_lets v1 v2 v3
  have h4 : Frame M s0 v3 := by
    unfold v3
    refine (fold_rule hs0 fun x8 b9 h10 => ?_)
    split
    · rename_i w11 w12 w13
      exact (State.putRec_frame (hM.to rfl) h10)
    · rename_i w14 w15
      exact h10
  clear_value v3
  exact (State.inc_frame (State.inc_frame h4 (hM.fam .err rfl) rfl) (hM.fam .err rfl) rfl)

theorem State.setErrBit_frame {M : Nat} {s0 : State} {s : State} {p : Page} {b : ℕ} (hs0 : Frame M s0 s) (hs1 : Covers M p.fam.mask) :
    Frame M s0 (State.setErrBit s p b) := by
  unfold State.setErrBit
  exact (State.setReg_frame hs1 rfl hs0)

theorem State.showUnread_frame {M : Nat} {s0 : State} {s : State} (hM : Covers M 0x8000000000) (hs0 : Frame M s0 s) :
    Frame M s0 (State.showUnread s) := by
  unfold State.showUnread
  exact (State.wr_frame hs0 (hM.fam .err rfl) rfl)

theorem State.pushRec_frame {M : Nat} {s0 : State} {s : State} {r : ErrRec} (hM : Covers M 0x8000000200) (hs0 : Frame M s0 s) :
    Frame M s0 (State.pushRec s r) := by
  unfold State.pushRec
  extract_lets v1
  exact (State.showUnread_frame (hM.to rfl) (State.inc_frame (State.putRec_frame (hM.to rfl) hs0) (hM.fam .err rfl) rfl))

theorem State.errVec_frame {M : Nat} {s0 : State} {s : State} {sev : ℕ} (hM : Covers M 0xc000200) (hs0 : Frame M s0 s) :
    Frame M s0 (State.errVec s sev) := by
  unfold State.errVec
  refine (ite_rule ?_ hs0)
  extract_lets v1 v2
  have h3 : Frame M s0 v1 := (State.emit_frame (hM.to rfl) hs0)
  clear_value v1
  exact (Frame.upd_faults (hM.to rfl) h3)

theorem State.record_frame {M : Nat} {s0 : State} {s : State} {r : ErrRec} (hM : Covers M 0x800c000200) (hs0 : Frame M s0 s) :
    Frame M s0 (State.record s r) := by
  unfold State.record
  extract_lets v1
  clear_value v1
  split
  · rename_i w2 w3
    exact (ite_rule (State.putRec_frame (hM.to rfl) hs0) (ite_rule (State.errVec_frame (hM.to rfl) (State.pushRec_frame (hM.to rfl) hs0)) (ite_rule (State.inc_frame hs0 (hM.fam .err rfl) rfl) (State.errVec_frame (hM.to rfl) (State.setErrBit_frame (State.pushRec_frame (hM.to rfl) (State.displace_frame (hM.to rfl) hs0)) (hM.fam .err rfl))))))
  · rename_i w4
    exact (State.errVec_frame (hM.to rfl) (State.pushRec_frame (hM.to rfl) hs0))

theorem State.report_frame {M : Nat} {s0 : State} {s : State} {p : Page} {b : ℕ} {sev : ℕ} {i : optParam ErrInfo { }} (hM : Covers M 0x800c000200) (hs0 : Frame M s0 s) (hs1 : Covers M p.fam.mask) :
    Frame M s0 (State.report s p b sev i) := by
  unfold State.report
  extract_lets v1
  have h2 : Frame M s0 v1 := (State.setErrBit_frame hs0 hs1)
  clear_value v1
  exact (ite_rule h2 (State.record_frame (hM.to rfl) h2))

theorem State.err_frame {M : Nat} {s0 : State} {s : State} {p : Page} {b : ℕ} {i : optParam ErrInfo { }} (hM : Covers M 0x800c000200) (hs0 : Frame M s0 s) (hs1 : Covers M p.fam.mask) :
    Frame M s0 (State.err s p b i) := by
  unfold State.err
  exact (State.report_frame (hM.to rfl) hs0 hs1)

theorem State.funcVec_frame {M : Nat} {s0 : State} {s : State} (hM : Covers M 0xc000000) (hs0 : Frame M s0 s) :
    Frame M s0 (State.funcVec s) := by
  unfold State.funcVec
  exact (State.emit_frame (hM.to rfl) hs0)

theorem State.haPost_frame {M : Nat} {s0 : State} {s : State} {n : ℕ} (hM : Covers M 0x4c000000) (hs0 : Frame M s0 s) :
    Frame M s0 (State.haPost s n) := by
  unfold State.haPost
  extract_lets v1 v2
  have h3 : Frame M s0 v2 := (State.wr_frame (State.wr_frame hs0 (hM.fam .func rfl) rfl) (hM.fam .func rfl) rfl)
  clear_value v2
  exact (ite_rule h3 (State.funcVec_frame (hM.to rfl) h3))

theorem State.haClear_frame {M : Nat} {s0 : State} {s : State} {n : ℕ} (hM : Covers M 0x40000000) (hs0 : Frame M s0 s) :
    Frame M s0 (State.haClear s n) := by
  unfold State.haClear
  exact (State.wr_frame (State.wr_frame hs0 (hM.fam .func rfl) rfl) (hM.fam .func rfl) rfl)

theorem State.assisted_frame {M : Nat} {s0 : State} {s : State} {c : SvcCmd} {f : State → State} (hM : Covers M 0x8) (hs0 : Frame M s0 s) (hs2 : ∀ y0, Frame M s0 y0 → Frame M s0 (f y0)) :
    Frame M s0 (State.assisted s c f) := by
  unfold State.assisted
  exact (ite_rule (Frame.upd_boot (hM.to rfl) hs0) (hs2 _ hs0))

theorem State.action_frame {M : Nat} {s0 : State} {s : State} {p : Party} {pg : Page} {f : State → State} (hM : Covers M 0x800c000208) (hs0 : Frame M s0 s) (hs2 : Covers M pg.fam.mask) (hs3 : ∀ y0, Frame M s0 y0 → Frame M s0 (f y0)) :
    NextP (Frame M s0) (State.action s p pg f) := by
  unfold State.action
  exact (NextP.next (ite_rule hs0 (ite_rule (Frame.upd_boot (hM.to rfl) hs0) (ite_rule (State.err_frame (hM.to rfl) hs0 hs2) (hs3 _ hs0)))))

theorem State.saddled_frame {M : Nat} {s0 : State} {s : State} {n : optParam ℕ 1} (hM : Covers M 0x100000000) (hs0 : Frame M s0 s) :
    Frame M s0 (State.saddled s n) := by
  unfold State.saddled
  exact (State.add_frame hs0 (hM.fam .key rfl) rfl)

theorem State.draw_frame {M : Nat} {s0 : State} {s : State} {n : ℕ} (hM : Covers M 0x10000000) (hs0 : Frame M s0 s) :
    SndP (Frame M s0) (State.draw s n) := by
  unfold State.draw
  exact (Frame.upd_draws (hM.to rfl) hs0)

theorem State.incSat_frame {M : Nat} {s0 : State} {s : State} {p : Page} {f : Field} {i : optParam ℕ 0} (hs0 : Frame M s0 s) (hs1 : Covers M p.fam.mask) (hs2 : f.inPage = true) :
    Frame M s0 (State.incSat s p f i) := by
  unfold State.incSat
  exact (State.wr_frame hs0 hs1 hs2)

theorem State.leadGone_frame {M : Nat} {s0 : State} {s : State} {k : ℕ} (hM : Covers M 0x10) (hs0 : Frame M s0 s) :
    Frame M s0 (State.leadGone s k) := by
  unfold State.leadGone
  extract_lets v1 v2 v3
  have h4 : Frame M s0 v2 := (Frame.upd_pkg (hM.to rfl) hs0)
  clear_value v2
  exact (Frame.upd_pkg (hM.to rfl) h4)

theorem State.sendSib_frame {M : Nat} {s0 : State} {s : State} {p : ℕ} {u : SibUnit} (hM : Covers M 0xc000080) (hs0 : Frame M s0 s) :
    Frame M s0 (State.sendSib s p u) := by
  unfold State.sendSib
  extract_lets v1
  exact (State.emit_frame (hM.to rfl) (State.setLink_frame (hM.to rfl) hs0))

theorem State.sendSibs_frame {M : Nat} {s0 : State} {s : State} {l : List ℕ} {u : SibUnit} (hM : Covers M 0xc000080) (hs0 : Frame M s0 s) :
    Frame M s0 (State.sendSibs s l u) := by
  unfold State.sendSibs
  exact (fold_rule hs0 fun x1 b2 h3 => (State.sendSib_frame (hM.to rfl) h3))

theorem State.dropAuth_frame {M : Nat} {s0 : State} {s : State} {n : ℕ} (hM : Covers M 0x1000400000000) (hs0 : Frame M s0 s) :
    Frame M s0 (State.dropAuth s n) := by
  unfold State.dropAuth
  exact (State.wr_frame (State.wr_frame hs0 (hM.fam .lpt rfl) rfl) (hM.fam .time rfl) rfl)

theorem State.showLstate_frame {M : Nat} {s0 : State} {s : State} {n : ℕ} {p2 : ℕ} (hM : Covers M 0x1000000000000) (hs0 : Frame M s0 s) :
    Frame M s0 (State.showLstate s n p2) := by
  unfold State.showLstate
  exact (State.wr_frame (State.wr_frame hs0 (hM.fam .lpt rfl) rfl) (hM.fam .lpt rfl) rfl)

theorem State.setLstate_frame {M : Nat} {s0 : State} {s : State} {n : ℕ} {p2 : ℕ} (hM : Covers M 0x1000400000000) (hs0 : Frame M s0 s) :
    Frame M s0 (State.setLstate s n p2) := by
  unfold State.setLstate
  exact (ite_rule (State.showLstate_frame (hM.to rfl) hs0) (State.dropAuth_frame (hM.to rfl) (State.showLstate_frame (hM.to rfl) hs0)))

theorem State.disablePort_frame {M : Nat} {s0 : State} {s : State} {n : ℕ} {cause : ℕ} (hM : Covers M 0x100840c000380) (hs0 : Frame M s0 s) :
    Frame M s0 (State.disablePort s n cause) := by
  unfold State.disablePort
  refine (ite_rule (State.setLink_frame (hM.to rfl) hs0) ?_)
  extract_lets v1 v2 v3 v4
  have h5 : Frame M s0 v1 := (State.cutOccs_frame (hM.to rfl) (State.sendFlit_frame (hM.to rfl) hs0))
  clear_value v1
  have h6 : Frame M s0 v2 := (State.wr_frame (State.setLstate_frame (hM.to rfl) h5) (hM.fam .lpt rfl) rfl)
  clear_value v2
  have h7 : Frame M s0 v4 := (State.setLink_frame (hM.to rfl) h6)
  clear_value v4
  exact (State.err_frame (hM.to rfl) h7 (hM.fam .lpt rfl))

theorem State.outOfService_frame {M : Nat} {s0 : State} {s : State} (hM : Covers M 0x100840c000392) (hs0 : Frame M s0 s) :
    Frame M s0 (State.outOfService s) := by
  unfold State.outOfService
  refine (ite_rule hs0 ?_)
  extract_lets v1 v2 v3 v4 v5 v6
  have h7 : Frame M s0 v1 := (State.wr_frame hs0 (hM.fam .err rfl) rfl)
  clear_value v1
  have h8 : Frame M s0 v2 := (fold_rule h7 fun x9 b10 h11 => (State.disablePort_frame (hM.to rfl) h11))
  clear_value v2
  have h12 : Frame M s0 v5 := (Frame.upd_outs_faults (hM.to rfl) h8)
  clear_value v5
  have h13 : Frame M s0 v6 := (State.sendSibs_frame (hM.to rfl) h12)
  clear_value v6
  exact (ite_rule (ite_rule h13 (State.leadGone_frame (hM.to rfl) h13)) h12)

theorem State.fatal_frame {M : Nat} {s0 : State} {s : State} {p : Page} {b : ℕ} {i : optParam ErrInfo { }} (hM : Covers M 0x100840c000392) (hs0 : Frame M s0 s) (hs1 : Covers M p.fam.mask) :
    Frame M s0 (State.fatal s p b i) := by
  unfold State.fatal
  exact (State.outOfService_frame (hM.to rfl) (State.report_frame (hM.to rfl) hs0 hs1))

theorem State.takeArmed_frame {M : Nat} {s0 : State} {s : State} {pg : Page} {b : ℕ} (hM : Covers M 0x200) (hs0 : Frame M s0 s) :
    Frame M s0 (State.takeArmed s pg b) := by
  unfold State.takeArmed
  exact (Frame.upd_faults (hM.to rfl) hs0)

theorem State.untag_frame {M : Nat} {s0 : State} {s : State} (hM : Covers M 0x200) (hs0 : Frame M s0 s) :
    Frame M s0 (State.untag s) := by
  unfold State.untag
  exact (Frame.upd_faults (hM.to rfl) hs0)

theorem State.struck_frame {M : Nat} {s0 : State} {s : State} {pg : Page} {b : ℕ} {f : State → State} (hM : Covers M 0x200) (hs0 : Frame M s0 s) (hs3 : ∀ y0, Frame M s0 y0 → Frame M s0 (f y0)) :
    Frame M s0 (State.struck s pg b f) := by
  unfold State.struck
  exact (ite_rule (State.untag_frame (hM.to rfl) (hs3 _ (State.takeArmed_frame (hM.to rfl) hs0))) (hs3 _ hs0))

theorem State.emits_frame {M : Nat} {s0 : State} {s : State} {l : List Out} (hM : Covers M 0xc000000) (hs0 : Frame M s0 s) :
    Frame M s0 (State.emits s l) := by
  unfold State.emits
  exact (fold_rule hs0 fun x1 b2 h3 => (State.emit_frame (hM.to rfl) h3))

theorem State.resetPages_frame {M : Nat} {s0 s : State} {l : List Scope} (hM : Covers M 0x4) (hs0 : Frame M s0 s)
    (hs1 : Covers M (scopeMask l)) : Frame M s0 (State.resetPages s l) := by
  let r := s.regs.filter fun e =>
    match Page.ofSlot (e.1 / 0x1000) with
    | some p => !(l.contains p.fam.scope)
    | none => true
  have h : Frame M s0 { s with regs := r } := by
    refine Frame.step (Covers.refl M) (Frame.of_regs (fun f hf a q hq hfam => ?_) (fun w => ?_)) hs0
    · have hc : l.contains f.scope = false := by
        cases h : l.contains f.scope with
        | false => rfl
        | true =>
          have := (hs1.to (scopeMask_covers l f h)).zero hf
          rw [Nat.and_self] at this
          exact absurd this f.mask_pos
      have := find_filter s.regs (fun e => match Page.ofSlot (e.1 / 0x1000) with
        | some p => !(l.contains p.fam.scope)
        | none => true) a (by intro v; simp only [hq, hfam, hc]; rfl)
      show SMap.getD r _ a = SMap.getD s.regs _ a
      unfold SMap.getD
      rw [this]
    · exact ⟨SMap.sorted_filter _ _ w.1, fun e he => w.2 e (List.mem_of_mem_filter he)⟩
  exact Frame.upd_latches (s := { s with regs := r }) hM h


theorem guarded_frame {M : Nat} {s0 : State} {ok : Bool} {s : State} {f : State → State} (hs1 : Frame M s0 s) (hs2 : ∀ y0, Frame M s0 y0 → Frame M s0 (f y0)) :
    NextP (Frame M s0) (guarded ok s f) := by
  unfold guarded
  exact (NextP.next (ite_rule (hs2 _ hs1) hs1))

theorem State.raise_frame {M : Nat} {s0 : State} {s : State} {p : Page} {b : ℕ} {i : optParam ErrInfo { }} (hM : Covers M 0x100840c000392) (hs0 : Frame M s0 s) (hs1 : Covers M p.fam.mask) :
    Frame M s0 (State.raise s p b i) := by
  unfold State.raise
  exact (ite_rule (State.fatal_frame (hM.to rfl) hs0 hs1) (State.err_frame (hM.to rfl) hs0 hs1))

theorem State.armErr_frame {M : Nat} {s0 : State} {s : State} {pg : Page} {b : ℕ} {on : ℕ} (hM : Covers M 0x200) (hs0 : Frame M s0 s) :
    Frame M s0 (State.armErr s pg b on) := by
  unfold State.armErr
  exact (Frame.upd_faults (hM.to rfl) hs0)

theorem State.fallback_frame {M : Nat} {s0 : State} {s : State} {n : ℕ} (hM : Covers M 0x40000000) (hs0 : Frame M s0 s) :
    Frame M s0 (State.fallback s n) := by
  unfold State.fallback
  exact (State.wr_frame hs0 (hM.fam .func rfl) rfl)

end Sys2Proof.Machine
end

