-- ==== Sys2Proof/Laws/FrameMem.lean ====
section
/-! SUPPORT. What each operation and each meaning of Machine/Mem.lean can change: it keeps the frame `Frame M s0` for every set `M` that
has the parts it names, given that its arguments keep it. -/

namespace Sys2Proof.Machine

theorem State.putBytes_frame {M : Nat} {s0 s : State} {off : Nat} {l : List Byte} (hM : Covers M 0xC000) (hs0 : Frame M s0 s) :
    Frame M s0 (State.putBytes s off l) := by
  refine Frame.upd_bytes hM (fun w => ?_) hs0
  have key : ∀ (l : List (Byte × Nat)) (m : SMap Byte), SMap.wf 0 m = true →
      SMap.wf 0 (l.foldl (fun m e => SMap.put m 0 (off + e.2) e.1) m) = true := by
    intro l
    induction l with
    | nil => intro m w; exact w
    | cons e r ih => intro m w; exact ih _ (SMap.wf_put _ m _ _ w)
  exact key _ _ w


theorem State.cleanGran_frame {M : Nat} {s0 : State} {s : State} {start : ℕ} (hM : Covers M 0x4000) (hs0 : Frame M s0 s) :
    Frame M s0 (State.cleanGran s start) := by
  unfold State.cleanGran
  exact (Frame.upd_mem (hM.to rfl) rfl hs0)

theorem State.poisonGran_frame {M : Nat} {s0 : State} {s : State} {start : ℕ} (hM : Covers M 0x4000) (hs0 : Frame M s0 s) :
    Frame M s0 (State.poisonGran s start) := by
  unfold State.poisonGran
  exact (Frame.upd_mem (hM.to rfl) rfl hs0)

theorem State.setChan_frame {M : Nat} {s0 : State} {s : State} {n : ℕ} {c : Chan} (hM : Covers M 0x4000) (hs0 : Frame M s0 s) :
    Frame M s0 (State.setChan s n c) := by
  unfold State.setChan
  exact (Frame.upd_mem (hM.to rfl) rfl hs0)

theorem State.setLeaf_frame {M : Nat} {s0 : State} {s : State} {n : ℕ} {g : ℕ} {l : Leaf} (hM : Covers M 0x4000) (hs0 : Frame M s0 s) :
    Frame M s0 (State.setLeaf s n g l) := by
  unfold State.setLeaf
  extract_lets v1
  exact (State.setChan_frame (hM.to rfl) hs0)

theorem State.soil_frame {M : Nat} {s0 : State} {s : State} {n : ℕ} {level : ℕ} {index : ℕ} (hM : Covers M 0x4000) (hs0 : Frame M s0 s) :
    Frame M s0 (State.soil s n level index) := by
  unfold State.soil
  extract_lets v1
  exact (ite_rule (State.setChan_frame (hM.to rfl) hs0) hs0)

theorem State.showReenc_frame {M : Nat} {s0 : State} {s : State} {n : ℕ} (hM : Covers M 0x20000000000) (hs0 : Frame M s0 s) :
    Frame M s0 (State.showReenc s n) := by
  unfold State.showReenc
  extract_lets v1 v2
  exact (State.wr_frame (State.wr_frame (State.wr_frame hs0 (hM.fam .mch rfl) rfl) (hM.fam .mch rfl) rfl) (hM.fam .mch rfl) rfl)

theorem State.queueReenc_frame {M : Nat} {s0 : State} {s : State} {n : ℕ} {level : ℕ} {index : ℕ} (hM : Covers M 0x20000004000) (hs0 : Frame M s0 s) :
    Frame M s0 (State.queueReenc s n level index) := by
  unfold State.queueReenc
  extract_lets v1
  exact (ite_rule hs0 (State.showReenc_frame (hM.to rfl) (State.setChan_frame (hM.to rfl) hs0)))

theorem State.showHwm_frame {M : Nat} {s0 : State} {s : State} {n : ℕ} (hM : Covers M 0x20000000000) (hs0 : Frame M s0 s) :
    Frame M s0 (State.showHwm s n) := by
  unfold State.showHwm
  exact (State.wrPair_frame (State.wrPair_frame hs0 (hM.fam .mch rfl) rfl rfl) (hM.fam .mch rfl) rfl rfl)

theorem State.raiseHwm_frame {M : Nat} {s0 : State} {s : State} {n : ℕ} {g : ℕ} {major : ℕ} (hM : Covers M 0x20000004000) (hs0 : Frame M s0 s) :
    Frame M s0 (State.raiseHwm s n g major) := by
  unfold State.raiseHwm
  extract_lets v1
  exact (State.showHwm_frame (hM.to rfl) (ite_rule (State.setChan_frame (hM.to rfl) hs0) (State.setChan_frame (hM.to rfl) hs0)))

theorem State.openSlot_frame {M : Nat} {s0 : State} {s : State} {n : ℕ} {level : ℕ} {index : ℕ} {forced : Bool} {old : Leaf} {done : W64} (hM : Covers M 0x20000004000) (hs0 : Frame M s0 s) :
    Frame M s0 (State.openSlot s n level index forced old done) := by
  unfold State.openSlot
  extract_lets v1 v2
  have h3 : Frame M s0 v2 := (State.setChan_frame (hM.to rfl) hs0)
  clear_value v2
  exact (State.showReenc_frame (hM.to rfl) (State.inc_frame h3 (hM.fam .mch rfl) rfl))

theorem State.farWait_frame {M : Nat} {s0 : State} {s : State} {n : ℕ} (hM : Covers M 0x2004c000000) (hs0 : Frame M s0 s) :
    Frame M s0 (State.farWait s n) := by
  unfold State.farWait
  extract_lets v1
  have h2 : Frame M s0 v1 := (State.wr_frame hs0 (hM.fam .mch rfl) rfl)
  clear_value v1
  exact (ite_rule h2 (State.haPost_frame (hM.to rfl) h2))

theorem State.drawKey_frame {M : Nat} {s0 : State} {s : State} (hM : Covers M 0x110000000) (hs0 : Frame M s0 s) :
    SndP (Frame M s0) (State.drawKey s) := by
  unfold State.drawKey
  extract_lets v1
  have h2 : SndP (Frame M s0) v1 := (State.draw_frame (hM.to rfl) hs0)
  clear_value v1
  exact (State.saddled_frame (hM.to rfl) h2)

theorem State.farBegin_frame {M : Nat} {s0 : State} {s : State} {cause : ℕ} (hM : Covers M 0x2015c004000) (hs0 : Frame M s0 s) :
    Frame M s0 (State.farBegin s cause) := by
  unfold State.farBegin
  extract_lets v1 v2 v3 v4 v5 v6
  have h7 : SndP (Frame M s0) v1 := (State.drawKey_frame (hM.to rfl) hs0)
  clear_value v1
  have h8 : Frame M s0 v2 := h7
  have h9 : Frame M s0 v4 := (Frame.upd_mem (hM.to rfl) rfl h8)
  clear_value v4
  have h10 : Frame M s0 v5 := by
    unfold v5
    refine (fold_rule h9 fun x14 b15 h16 => ?_)
    extract_lets v17 v18 v19
    have h20 : Frame M s0 v18 := (State.setChan_frame (hM.to rfl) h16)
    clear_value v18
    exact (State.showHwm_frame (hM.to rfl) (State.wrPair_frame (State.wr_frame (State.wr_frame (State.wr_frame (State.saddled_frame (hM.to rfl) h20) (hM.fam .mch rfl) rfl) (hM.fam .mch rfl) rfl) (hM.fam .mch rfl) rfl) (hM.fam .mch rfl) rfl rfl))
  clear_value v5
  have h21 : Frame M s0 v6 := (State.wrPair_frame (State.wr_frame h10 (hM.fam .mch rfl) rfl) (hM.fam .mch rfl) rfl rfl)
  clear_value v6
  exact (ite_rule (fold_rule h21 fun x22 b23 h24 => (State.farWait_frame (hM.to rfl) h24)) h21)

theorem State.endZoneCheck_frame {M : Nat} {s0 : State} {s : State} {n : ℕ} {major : ℕ} (hM : Covers M 0x2815c004200) (hs0 : Frame M s0 s) :
    Frame M s0 (State.endZoneCheck s n major) := by
  unfold State.endZoneCheck
  refine (ite_rule hs0 ?_)
  extract_lets v1 v2
  have h3 : Frame M s0 v1 := (State.err_frame (hM.to rfl) (State.wr_frame hs0 (hM.fam .mch rfl) rfl) (hM.fam .mch rfl))
  clear_value v1
  have h4 : Frame M s0 v2 := (State.err_frame (hM.to rfl) h3 (hM.fam .mch rfl))
  clear_value v2
  exact (ite_rule (State.wr_frame h4 (hM.fam .mch rfl) rfl) (State.wr_frame (State.farBegin_frame (hM.to rfl) h4) (hM.fam .mch rfl) rfl))

theorem State.noteStall_frame {M : Nat} {s0 : State} {s : State} (hM : Covers M 0x4000) (hs0 : Frame M s0 s) :
    Frame M s0 (State.noteStall s) := by
  unfold State.noteStall
  exact (Frame.upd_mem (hM.to rfl) rfl hs0)

theorem State.noteShort_frame {M : Nat} {s0 : State} {s : State} (hM : Covers M 0x4000) (hs0 : Frame M s0 s) :
    Frame M s0 (State.noteShort s) := by
  unfold State.noteShort
  exact (Frame.upd_mem (hM.to rfl) rfl hs0)

theorem State.overflowLeaf_frame {M : Nat} {s0 : State} {s : State} {n : ℕ} {g : ℕ} {by_ : Option ℕ} (hM : Covers M 0x2815c004200) (hs0 : Frame M s0 s) :
    Frame M s0 (State.overflowLeaf s n g by_) := by
  unfold State.overflowLeaf
  extract_lets v1 v2
  have h3 : Frame M s0 v2 := (ite_rule (State.noteStall_frame (hM.to rfl) hs0) hs0)
  clear_value v2
  exact (ite_rule (State.noteShort_frame (hM.to rfl) hs0) (State.endZoneCheck_frame (hM.to rfl) (State.openSlot_frame (hM.to rfl) (State.raiseHwm_frame (hM.to rfl) (State.soil_frame (hM.to rfl) (State.setLeaf_frame (hM.to rfl) h3))))))

theorem State.setUpper_frame {M : Nat} {s0 : State} {s : State} {n : ℕ} {k : ℕ} {j : ℕ} {l : Leaf} (hM : Covers M 0x4000) (hs0 : Frame M s0 s) :
    Frame M s0 (State.setUpper s n k j l) := by
  unfold State.setUpper
  extract_lets v1
  exact (State.soil_frame (hM.to rfl) (State.setChan_frame (hM.to rfl) hs0))

theorem State.raiseUpper_frame {M : Nat} {s0 : State} {s : State} {n : ℕ} {k : ℕ} {j : ℕ} {major : ℕ} (hM : Covers M 0x20000004000) (hs0 : Frame M s0 s) :
    Frame M s0 (State.raiseUpper s n k j major) := by
  unfold State.raiseUpper
  extract_lets v1
  exact (State.showHwm_frame (hM.to rfl) (ite_rule (State.setChan_frame (hM.to rfl) hs0) (State.setChan_frame (hM.to rfl) hs0)))

theorem State.overflowUpper_frame {M : Nat} {s0 : State} {s : State} {n : ℕ} {k : ℕ} {j : ℕ} {forced : Bool} (hM : Covers M 0x2815c004200) (hs0 : Frame M s0 s) :
    Frame M s0 (State.overflowUpper s n k j forced) := by
  unfold State.overflowUpper
  extract_lets v1 v2
  have h3 : Frame M s0 v2 := (ite_rule (State.noteStall_frame (hM.to rfl) hs0) hs0)
  clear_value v2
  exact (ite_rule (State.noteShort_frame (hM.to rfl) hs0) (State.endZoneCheck_frame (hM.to rfl) (State.openSlot_frame (hM.to rfl) (State.raiseUpper_frame (hM.to rfl) (State.setUpper_frame (hM.to rfl) h3)))))

theorem State.bumpUpper_frame {M : Nat} {s0 : State} {s : State} {n : ℕ} {k : ℕ} {j : ℕ} {i : ℕ} (hM : Covers M 0x2815c004200) (hs0 : Frame M s0 s) :
    Frame M s0 (State.bumpUpper s n k j i) := by
  unfold State.bumpUpper
  extract_lets v1 v2 v3
  have h4 : Frame M s0 v3 := (State.setUpper_frame (hM.to rfl) hs0)
  clear_value v3
  exact (ite_rule (State.overflowUpper_frame (hM.to rfl) hs0) (ite_rule (State.queueReenc_frame (hM.to rfl) h4) h4))

theorem State.writeBlock_frame {M : Nat} {s0 : State} {a : ℕ} {p1 : ℕ} {p2 : ℕ} {p3 : ℕ} {p4 : State} (hM : Covers M 0x2815c004200) (hs4 : Frame M s0 p4) :
    Frame M s0 (State.writeBlock a p1 p2 p3 p4) := by
  induction a generalizing p1 p2 p3 p4
  · unfold State.writeBlock
    exact hs4
  · rename_i k ih
    unfold State.writeBlock
    extract_lets v1 v2
    have h3 : Frame M s0 v2 := (State.bumpUpper_frame (hM.to rfl) hs4)
    clear_value v2
    exact (ite_rule (State.setChan_frame (hM.to rfl) hs4) (ite_rule (ih h3) h3))

theorem State.cleanBlock_frame {M : Nat} {s0 : State} {s : State} {n : ℕ} {level : ℕ} {index : ℕ} (hM : Covers M 0x2815c004200) (hs0 : Frame M s0 s) :
    Frame M s0 (State.cleanBlock s n level index) := by
  unfold State.cleanBlock
  exact (State.writeBlock_frame (hM.to rfl) (State.setChan_frame (hM.to rfl) hs0))

theorem State.showTriage_frame {M : Nat} {s0 : State} {s : State} (hM : Covers M 0x8000000000) (hs0 : Frame M s0 s) :
    Frame M s0 (State.showTriage s) := by
  unfold State.showTriage
  extract_lets v1 v2 v3 v4
  have h5 : Frame M s0 v4 := (State.wr_frame (State.wr_frame (State.wr_frame (State.wr_frame hs0 (hM.fam .err rfl) rfl) (hM.fam .err rfl) rfl) (hM.fam .err rfl) rfl) (hM.fam .err rfl) rfl)
  clear_value v4
  exact (State.wr_frame (State.wr_frame (State.wr_frame (State.wr_frame h5 (hM.fam .err rfl) rfl) (hM.fam .err rfl) rfl) (hM.fam .err rfl) rfl) (hM.fam .err rfl) rfl)

theorem State.scrubStep_frame {M : Nat} {s0 : State} {s : State} {n : ℕ} (hM : Covers M 0x20000000000) (hs0 : Frame M s0 s) :
    Frame M s0 (State.scrubStep s n) := by
  unfold State.scrubStep
  extract_lets v1 v2
  exact (ite_rule (State.wr_frame hs0 (hM.fam .mch rfl) rfl) (State.incSat_frame (State.wr_frame hs0 (hM.fam .mch rfl) rfl) (hM.fam .mch rfl) rfl))

theorem State.grantToken_frame {M : Nat} {s0 : State} {s : State} {n : ℕ} {u : TokenUse} (hM : Covers M 0x20000004020) (hs0 : Frame M s0 s) :
    Frame M s0 (State.grantToken s n u) := by
  unfold State.grantToken
  extract_lets v1 v2
  have h3 : Frame M s0 v2 := (State.wakeSlots_frame (hM.to rfl) (State.setChan_frame (hM.to rfl) hs0))
  clear_value v2
  split
  · rename_i w4
    exact (State.scrubStep_frame (hM.to rfl) (State.wr_frame h3 (hM.fam .mch rfl) rfl))
  · rename_i w5
    exact (State.wr_frame h3 (hM.fam .mch rfl) rfl)
  · rename_i w6 w7 w8
    exact h3

theorem State.askToken_frame {M : Nat} {s0 : State} {s : State} {n : ℕ} {u : TokenUse} (hM : Covers M 0x20000004020) (hs0 : Frame M s0 s) :
    Frame M s0 (State.askToken s n u) := by
  unfold State.askToken
  extract_lets v1
  exact (ite_rule hs0 (ite_rule (State.grantToken_frame (hM.to rfl) hs0) (State.setChan_frame (hM.to rfl) hs0)))

theorem State.addRebuild_frame {M : Nat} {s0 : State} {s : State} {n : ℕ} {e : Rebuild} (hM : Covers M 0x20000004020) (hs0 : Frame M s0 s) :
    Frame M s0 (State.addRebuild s n e) := by
  unfold State.addRebuild
  exact (State.askToken_frame (hM.to rfl) (State.setChan_frame (hM.to rfl) hs0))

theorem State.triageRetire_frame {M : Nat} {s0 : State} {shown : Bool} {s : State} {t : Triage} (hM : Covers M 0x20000004020) (hs1 : Frame M s0 s) :
    Frame M s0 (State.triageRetire shown s t) := by
  unfold State.triageRetire
  refine (ite_rule ?_ (State.addRebuild_frame (hM.to rfl) hs1))
  extract_lets v1
  exact (State.poisonGran_frame (hM.to rfl) hs1)

theorem State.triageAdd_frame {M : Nat} {s0 : State} {s : State} {t : Triage} (hM : Covers M 0x2804c004220) (hs0 : Frame M s0 s) :
    Frame M s0 (State.triageAdd s t) := by
  unfold State.triageAdd
  refine (ite_rule (State.triageRetire_frame (hM.to rfl) hs0) ?_)
  extract_lets v1 v2 v3
  have h4 : Frame M s0 v3 := (State.showTriage_frame (hM.to rfl) (Frame.upd_faults (hM.to rfl) hs0))
  clear_value v3
  exact (ite_rule (State.haPost_frame (hM.to rfl) h4) h4)

theorem State.showPsn_frame {M : Nat} {s0 : State} {s : State} {n : ℕ} (hM : Covers M 0x20000000000) (hs0 : Frame M s0 s) :
    Frame M s0 (State.showPsn s n) := by
  unfold State.showPsn
  extract_lets v1 v2 v3
  have h4 : Frame M s0 v3 := (State.wr_frame (State.wr_frame hs0 (hM.fam .mch rfl) rfl) (hM.fam .mch rfl) rfl)
  clear_value v3
  refine (fold_rule h4 fun x5 b6 h7 => ?_)
  split
  · rename_i w8 w9 w10
    exact (State.wr_frame (State.wr_frame (State.wr_frame (State.wr_frame h7 (hM.fam .mch rfl) rfl) (hM.fam .mch rfl) rfl) (hM.fam .mch rfl) rfl) (hM.fam .mch rfl) rfl)
  · rename_i w11 w12
    exact (State.wr_frame (State.wr_frame (State.wr_frame (State.wr_frame h7 (hM.fam .mch rfl) rfl) (hM.fam .mch rfl) rfl) (hM.fam .mch rfl) rfl) (hM.fam .mch rfl) rfl)

theorem State.poisonExtent_frame {M : Nat} {s0 : State} {s : State} {n : ℕ} {level : ℕ} {index : ℕ} {cause : ℕ} (hM : Covers M 0x102840c004392) (hs0 : Frame M s0 s) :
    Frame M s0 (State.poisonExtent s n level index cause) := by
  unfold State.poisonExtent
  extract_lets v1
  refine (ite_rule hs0 ?_)
  split
  · rename_i w2 w3
    exact (State.fatal_frame (hM.to rfl) hs0 (hM.fam .mch rfl))
  · rename_i w4 w5 w6
    exact (State.showPsn_frame (hM.to rfl) (State.setChan_frame (hM.to rfl) hs0))

theorem State.treeLost_frame {M : Nat} {s0 : State} {s : State} {n : ℕ} {level : ℕ} {index : ℕ} {cause : ℕ} (hM : Covers M 0x102844c0043b2) (hs0 : Frame M s0 s) :
    Frame M s0 (State.treeLost s n level index cause) := by
  unfold State.treeLost
  extract_lets v1 v2
  have h3 : Frame M s0 v2 := (State.poisonExtent_frame (hM.to rfl) hs0)
  clear_value v2
  exact (ite_rule h3 (State.triageAdd_frame (hM.to rfl) h3))

theorem State.cacheLost_frame {M : Nat} {s0 : State} {s : State} {n : ℕ} {level : ℕ} {index : ℕ} (hM : Covers M 0x102855c0043b2) (hs0 : Frame M s0 s) :
    Frame M s0 (State.cacheLost s n level index) := by
  unfold State.cacheLost
  extract_lets v1 v2 v3
  have h4 : Frame M s0 v1 := (State.err_frame (hM.to rfl) (State.writeBlock_frame (hM.to rfl) hs0) (hM.fam .mch rfl))
  clear_value v1
  have h5 : Frame M s0 v3 := (State.setChan_frame (hM.to rfl) h4)
  clear_value v3
  exact (State.treeLost_frame (hM.to rfl) h5)

theorem State.blockLost_frame {M : Nat} {s0 : State} {s : State} {n : ℕ} {level : ℕ} {index : ℕ} {sealFail : Bool} (hM : Covers M 0x102844c0043b2) (hs0 : Frame M s0 s) :
    Frame M s0 (State.blockLost s n level index sealFail) := by
  unfold State.blockLost
  extract_lets v1
  have h2 : Frame M s0 v1 := (State.err_frame (hM.to rfl) hs0 (hM.fam .mch rfl))
  clear_value v1
  exact (State.treeLost_frame (hM.to rfl) h2)

theorem State.calm_frame {M : Nat} {s0 : State} {s : State} (hM : Covers M 0x4000) (hs0 : Frame M s0 s) :
    Frame M s0 (State.calm s) := by
  unfold State.calm
  exact (Frame.upd_mem (hM.to rfl) rfl hs0)

theorem State.chanFail_frame {M : Nat} {s0 : State} {s : State} {n : ℕ} {i : optParam ErrInfo { }} (hM : Covers M 0x102840c000392) (hs0 : Frame M s0 s) :
    Frame M s0 (State.chanFail s n i) := by
  unfold State.chanFail
  exact (State.fatal_frame (hM.to rfl) (State.wr_frame hs0 (hM.fam .mch rfl) rfl) (hM.fam .mch rfl))

theorem State.orWait_frame {M : Nat} {s0 : State} {s : State} {f : State → State} (hM : Covers M 0x4000) (hs0 : Frame M s0 s) (hs1 : ∀ y0, Frame M s0 y0 → Frame M s0 (f y0)) :
    Frame M s0 (State.orWait s f) := by
  unfold State.orWait
  exact (ite_rule hs0 (hs1 _ (State.calm_frame (hM.to rfl) hs0)))

theorem State.treeCorr_frame {M : Nat} {s0 : State} {s : State} {n : ℕ} (hM : Covers M 0x20001000000) (hs0 : Frame M s0 s) :
    Frame M s0 (State.treeCorr s n) := by
  unfold State.treeCorr
  exact (State.cnt_frame (hM.to rfl) (State.inc_frame hs0 (hM.fam .mch rfl) rfl))

theorem State.blockResult_frame {M : Nat} {s0 : State} {s : State} {n : ℕ} {r : ReadResult} (hM : Covers M 0x102855d0043b2) (hs0 : Frame M s0 s) :
    Frame M s0 (State.blockResult s n r) := by
  unfold State.blockResult
  extract_lets v1 v2
  exact (ite_rule (ite_rule (State.cacheLost_frame (hM.to rfl) hs0) (State.treeCorr_frame (hM.to rfl) hs0)) (ite_rule (ite_rule hs0 (ite_rule (State.treeCorr_frame (hM.to rfl) hs0) (State.blockLost_frame (hM.to rfl) hs0))) (ite_rule hs0 (ite_rule (State.err_frame (hM.to rfl) (State.inc_frame hs0 (hM.fam .mch rfl) rfl) (hM.fam .mch rfl)) (ite_rule (State.treeLost_frame (hM.to rfl) (State.report_frame (hM.to rfl) hs0 (hM.fam .mch rfl))) (State.fatal_frame (hM.to rfl) hs0 (hM.fam .mch rfl)))))))

end Sys2Proof.Machine
end

