-- ==== Sys2Proof/Laws/FrameGranule.lean ====
section
/-! SUPPORT. What each operation and each meaning of Machine/Granule.lean can change: it keeps the frame `Frame M s0` for every set `M` that
has the parts it names, given that its arguments keep it. -/

namespace Sys2Proof.Machine

theorem State.markDone_frame {M : Nat} {s0 : State} {s : State} {n : ℕ} {g : ℕ} {i : ℕ} (hM : Covers M 0x4000) (hs0 : Frame M s0 s) :
    Frame M s0 (State.markDone s n g i) := by
  unfold State.markDone
  extract_lets v1
  exact (State.setChan_frame (hM.to rfl) hs0)

theorem State.bumpLeaf_frame {M : Nat} {s0 : State} {s : State} {n : ℕ} {g : ℕ} {i : ℕ} (hM : Covers M 0x2815c004200) (hs0 : Frame M s0 s) :
    Frame M s0 (State.bumpLeaf s n g i) := by
  unfold State.bumpLeaf
  extract_lets v1 v2 v3
  have h4 : Frame M s0 v3 := (State.soil_frame (hM.to rfl) (State.setLeaf_frame (hM.to rfl) hs0))
  clear_value v3
  exact (ite_rule (State.overflowLeaf_frame (hM.to rfl) hs0) (ite_rule (State.queueReenc_frame (hM.to rfl) h4) h4))

theorem State.sweptWrite_frame {M : Nat} {s0 : State} {s : State} {n : ℕ} {g : ℕ} {i : ℕ} (hM : Covers M 0x4000) (hs0 : Frame M s0 s) :
    Frame M s0 (State.sweptWrite s n g i) := by
  unfold State.sweptWrite
  extract_lets v1 v2
  exact (ite_rule (State.noteShort_frame (hM.to rfl) hs0) (State.soil_frame (hM.to rfl) (State.setChan_frame (hM.to rfl) hs0)))

theorem State.raiseMinor_frame {M : Nat} {s0 : State} {s : State} {n : ℕ} {g : ℕ} {i : ℕ} {gait : Bool} (hM : Covers M 0x2815c004200) (hs0 : Frame M s0 s) :
    Frame M s0 (State.raiseMinor s n g i gait) := by
  unfold State.raiseMinor
  split
  · rename_i w1 w2
    exact (ite_rule (State.sweptWrite_frame (hM.to rfl) hs0) (State.bumpLeaf_frame (hM.to rfl) hs0))
  · rename_i w3 w4 w5
    refine (ite_rule (State.bumpLeaf_frame (hM.to rfl) hs0) ?_)
    extract_lets v6
    exact (State.markDone_frame (hM.to rfl) (State.soil_frame (hM.to rfl) (State.setLeaf_frame (hM.to rfl) hs0)))

theorem State.writeGran_frame {M : Nat} {s0 : State} {start : ℕ} {off : ℕ} {len : ℕ} {strb : Option ℕ} {units : ℕ → Bool} {gait : Bool} {s : State} (hM : Covers M 0x2815c004200) (hs6 : Frame M s0 s) :
    Frame M s0 (State.writeGran start off len strb units gait s) := by
  unfold State.writeGran
  extract_lets v1 v2 v3 v4 v5 v6 v7 v8
  have h9 : Frame M s0 v2 := (State.raiseMinor_frame (hM.to rfl) hs6)
  clear_value v2
  have h10 : Frame M s0 v4 := (State.wrPair_frame h9 (hM.fam .mch rfl) rfl rfl)
  clear_value v4
  have h11 : Frame M s0 v5 := (ite_rule h10 (State.inc_frame h10 (hM.fam .mch rfl) rfl))
  clear_value v5
  have h12 : Frame M s0 v7 := (Frame.upd_mem (hM.to rfl) rfl h11)
  clear_value v7
  exact (ite_rule (State.poisonGran_frame (hM.to rfl) h12) (State.cleanGran_frame (hM.to rfl) h12))

theorem State.evict_frame {M : Nat} {s0 : State} {s : State} {n : ℕ} {b : ℕ} (hM : Covers M 0x2815c004200) (hs0 : Frame M s0 s) :
    Frame M s0 (State.evict s n b) := by
  unfold State.evict
  extract_lets v1 v2
  have h3 : Frame M s0 v2 := (State.setChan_frame (hM.to rfl) hs0)
  clear_value v2
  exact (ite_rule (State.cleanBlock_frame (hM.to rfl) h3) h3)

theorem State.useBlock_frame {M : Nat} {s0 : State} {s : State} {n : ℕ} {b : ℕ} (hM : Covers M 0x2815c004200) (hs0 : Frame M s0 s) :
    Frame M s0 (State.useBlock s n b) := by
  unfold State.useBlock
  extract_lets v1 v2
  have h3 : Frame M s0 v1 := by
    unfold v1
    refine (ite_rule hs0 ?_)
    split
    · rename_i w4 w5 w6
      exact (State.evict_frame (hM.to rfl) hs0)
    · rename_i w7 w8
      exact hs0
  clear_value v1
  exact (State.setChan_frame (hM.to rfl) h3)

theorem State.walkTo_frame {M : Nat} {s0 : State} {s : State} {n : ℕ} {k : ℕ} {j : ℕ} (hM : Covers M 0x2815c004200) (hs0 : Frame M s0 s) :
    Frame M s0 (State.walkTo s n k j) := by
  unfold State.walkTo
  extract_lets v1 v2 v3
  exact (State.add_frame (fold_rule hs0 fun x4 b5 h6 => (State.useBlock_frame (hM.to rfl) h6)) (hM.fam .mch rfl) rfl)

theorem State.strikeAt_frame {M : Nat} {s0 : State} {n : ℕ} {codes : List ℕ} {s : State} {b : ℕ} (hM : Covers M 0x102855c0043b2) (hs2 : Frame M s0 s) :
    Frame M s0 (State.strikeAt n codes s b) := by
  unfold State.strikeAt
  extract_lets v1
  split
  · rename_i w2 w3
    exact hs2
  · rename_i w4 w5 w6
    refine (ite_rule hs2 (State.struck_frame (hM.to rfl) hs2 (fun x7 h8 => ?_)))
    split
    · rename_i w9
      exact (State.blockLost_frame (hM.to rfl) h8)
    · rename_i w10
      exact (State.blockLost_frame (hM.to rfl) h8)
    · rename_i w11
      exact (State.cacheLost_frame (hM.to rfl) h8)
    · rename_i w12 w13 w14 w15
      exact (ite_rule (State.err_frame (hM.to rfl) h8 (hM.fam .mch rfl)) (State.endZoneCheck_frame (hM.to rfl) h8))

theorem State.touch_frame {M : Nat} {s0 : State} {s : State} {n : ℕ} {g : ℕ} (hM : Covers M 0x102855c0043b2) (hs0 : Frame M s0 s) :
    Frame M s0 (State.touch s n g) := by
  unfold State.touch
  exact (fold_rule (State.walkTo_frame (hM.to rfl) hs0) fun x1 b2 h3 => (State.strikeAt_frame (hM.to rfl) h3))

theorem State.visit_frame {M : Nat} {s0 : State} {s : State} {start : ℕ} (hM : Covers M 0x102855c0043b2) (hs0 : Frame M s0 s) :
    Frame M s0 (State.visit s start) := by
  unfold State.visit
  extract_lets v1 v2 v3
  have h4 : Frame M s0 v3 := (State.touch_frame (hM.to rfl) (State.wakeSlots_frame (hM.to rfl) hs0))
  clear_value v3
  exact (ite_rule (State.noteStall_frame (hM.to rfl) h4) h4)

theorem State.countRead_frame {M : Nat} {s0 : State} {s : State} {start : ℕ} (hM : Covers M 0x102855c0043b2) (hs0 : Frame M s0 s) :
    Frame M s0 (State.countRead s start) := by
  unfold State.countRead
  extract_lets v1 v2 v3
  have h4 : Frame M s0 v3 := (State.visit_frame (hM.to rfl) (State.wrPair_frame hs0 (hM.fam .mch rfl) rfl rfl))
  clear_value v3
  exact (ite_rule h4 (ite_rule (State.err_frame (hM.to rfl) (State.inc_frame h4 (hM.fam .mch rfl) rfl) (hM.fam .mch rfl)) (ite_rule (State.err_frame (hM.to rfl) (State.inc_frame h4 (hM.fam .mch rfl) rfl) (hM.fam .mch rfl)) h4)))

theorem State.prepWrite_frame {M : Nat} {s0 : State} {s : State} {off : ℕ} {len : ℕ} {strb : Option ℕ} (hM : Covers M 0x102855c0043b2) (hs0 : Frame M s0 s) :
    Frame M s0 (State.prepWrite s off len strb) := by
  unfold State.prepWrite
  exact (fold_rule hs0 fun x1 b2 h3 => (ite_rule (State.visit_frame (hM.to rfl) h3) (State.countRead_frame (hM.to rfl) h3)))

theorem State.writePhys_frame {M : Nat} {s0 : State} {s : State} {off : ℕ} {data : List Byte} {poison : ℕ} {gait : Bool} {strb : optParam (Option ℕ) none} (hM : Covers M 0x102855d00c3b2) (hs0 : Frame M s0 s) :
    SndP (Frame M s0) (State.writePhys s off data poison gait strb) := by
  unfold State.writePhys
  extract_lets v1 v2 v3 v4 v5
  have h6 : Frame M s0 v2 := (ite_rule (State.calm_frame (hM.to rfl) hs0) hs0)
  clear_value v2
  have h7 : Frame M s0 v3 := (State.prepWrite_frame (hM.to rfl) h6)
  clear_value v3
  have h8 : Frame M s0 v5 := (fold_rule h7 fun x9 b10 h11 => (State.writeGran_frame (hM.to rfl) h11))
  clear_value v5
  exact (ite_rule (P := (SndP (Frame M s0))) h7 (ite_rule (P := (SndP (Frame M s0))) (State.err_frame (hM.to rfl) h7 (hM.fam .mch rfl)) (State.cnt_frame (hM.to rfl) (State.putBytes_frame (hM.to rfl) h8))))

theorem State.unpoison_frame {M : Nat} {s0 : State} {s : State} {n : ℕ} {level : ℕ} {index : ℕ} (hM : Covers M 0x20000004000) (hs0 : Frame M s0 s) :
    Frame M s0 (State.unpoison s n level index) := by
  unfold State.unpoison
  extract_lets v1
  exact (ite_rule hs0 (State.showPsn_frame (hM.to rfl) (State.setChan_frame (hM.to rfl) hs0)))

theorem State.dropReenc_frame {M : Nat} {s0 : State} {s : State} {n : ℕ} {level : ℕ} {index : ℕ} (hM : Covers M 0x4000) (hs0 : Frame M s0 s) :
    Frame M s0 (State.dropReenc s n level index) := by
  unfold State.dropReenc
  extract_lets v1
  exact (State.setChan_frame (hM.to rfl) hs0)

theorem State.storeBlock_frame {M : Nat} {s0 : State} {s : State} {n : ℕ} {level : ℕ} {index : ℕ} (hM : Covers M 0x2815c004200) (hs0 : Frame M s0 s) :
    Frame M s0 (State.storeBlock s n level index) := by
  unfold State.storeBlock
  exact (State.cleanBlock_frame (hM.to rfl) (State.walkTo_frame (hM.to rfl) hs0))

theorem State.rebuildPage_frame {M : Nat} {s0 s : State} {n g : Nat} (hM : Covers M 0x2815c00c200) (hs0 : Frame M s0 s) :
    Frame M s0 (State.rebuildPage s n g) := by
  unfold State.rebuildPage
  extract_lets off major s1
  have h1 : Frame M s0 s1 := State.endZoneCheck_frame (hM.to rfl) (State.storeBlock_frame (hM.to rfl)
    (State.raiseHwm_frame (hM.to rfl) (State.dropReenc_frame (hM.to rfl) (State.setLeaf_frame (hM.to rfl) hs0))))
  exact Frame.upd_bytes (hM.to rfl) (fun w => SMap.wf_dropRange _ _ _ _ w) h1


theorem State.reinitPage_frame {M : Nat} {s0 : State} {s : State} {n : ℕ} {g : ℕ} (hM : Covers M 0x2815c00c220) (hs0 : Frame M s0 s) :
    Frame M s0 (State.reinitPage s n g) := by
  unfold State.reinitPage
  exact (ite_rule (State.addRebuild_frame (hM.to rfl) (State.noteStall_frame (hM.to rfl) hs0)) (State.rebuildPage_frame (hM.to rfl) (State.unpoison_frame (hM.to rfl) hs0)))

theorem State.reinit_frame {M : Nat} {s0 : State} {s : State} {off : ℕ} {len : ℕ} (hM : Covers M 0x2815c00c220) (hs0 : Frame M s0 s) :
    Frame M s0 (State.reinit s off len) := by
  unfold State.reinit
  exact (fold_rule hs0 fun x1 b2 h3 => (State.reinitPage_frame (hM.to rfl) h3))

theorem State.readPhys_frame {M : Nat} {s0 : State} {s : State} {off : ℕ} {len : ℕ} (hM : Covers M 0x102855d0043b2) (hs0 : Frame M s0 s) :
    SndP (SndP (Frame M s0)) (State.readPhys s off len) := by
  unfold State.readPhys
  extract_lets v1
  have h2 : Frame M s0 v1 := (State.cnt_frame (hM.to rfl) (fold_rule hs0 fun x3 b4 h5 => (State.countRead_frame (hM.to rfl) h5)))
  clear_value v1
  exact h2

theorem State.freshUpper_frame {M : Nat} {s0 : State} {s : State} {n : ℕ} {k : ℕ} {j : ℕ} (hM : Covers M 0x2815c004200) (hs0 : Frame M s0 s) :
    Frame M s0 (State.freshUpper s n k j) := by
  unfold State.freshUpper
  extract_lets v1
  exact (State.endZoneCheck_frame (hM.to rfl) (State.walkTo_frame (hM.to rfl) (State.raiseUpper_frame (hM.to rfl) (State.dropReenc_frame (hM.to rfl) (State.setUpper_frame (hM.to rfl) hs0)))))

theorem State.rebuildExtent_frame {M : Nat} {s0 : State} {s : State} {n : ℕ} {level : ℕ} {index : ℕ} (hM : Covers M 0x2815c00c200) (hs0 : Frame M s0 s) :
    Frame M s0 (State.rebuildExtent s n level index) := by
  unfold State.rebuildExtent
  extract_lets v1 v2 v3
  have h4 : Frame M s0 v2 := (fold_rule (State.unpoison_frame (hM.to rfl) hs0) fun x5 b6 h7 => (fold_rule h7 fun x8 b9 h10 => (State.freshUpper_frame (hM.to rfl) h10)))
  clear_value v2
  have h11 : Frame M s0 v3 := (fold_rule h4 fun x12 b13 h14 => (State.rebuildPage_frame (hM.to rfl) h14))
  clear_value v3
  exact (fold_rule h11 fun x15 b16 h17 => (fold_rule h17 fun x18 b19 h20 => (State.storeBlock_frame (hM.to rfl) h20)))

theorem State.poisonPage_frame {M : Nat} {s0 : State} {s : State} {n : ℕ} {g : ℕ} (hM : Covers M 0x2815c004200) (hs0 : Frame M s0 s) :
    Frame M s0 (State.poisonPage s n g) := by
  unfold State.poisonPage
  extract_lets v1 v2 v3 v4 v5
  have h6 : Frame M s0 v4 := (fold_rule (State.walkTo_frame (hM.to rfl) hs0) fun x7 b8 h9 => (State.poisonGran_frame (hM.to rfl) h9))
  clear_value v4
  exact (State.soil_frame (hM.to rfl) (State.setLeaf_frame (hM.to rfl) h6))

theorem State.retireExtent_frame {M : Nat} {s0 : State} {s : State} {n : ℕ} {level : ℕ} {index : ℕ} (hM : Covers M 0x2815c00c200) (hs0 : Frame M s0 s) :
    Frame M s0 (State.retireExtent s n level index) := by
  unfold State.retireExtent
  exact (fold_rule (State.rebuildExtent_frame (hM.to rfl) hs0) fun x1 b2 h3 => (State.poisonPage_frame (hM.to rfl) h3))

end Sys2Proof.Machine
end

