-- ==== Sys2Proof/Laws/FrameRat.lean ====
section
/-! SUPPORT. What each operation and each meaning of Machine/Rat.lean can change: it keeps the frame `Frame M s0` for every set `M` that
has the parts it names, given that its arguments keep it. -/

namespace Sys2Proof.Machine

theorem State.setFn_frame {M : Nat} {s0 : State} {s : State} {n : ℕ} {f : Fn} (hM : Covers M 0x2000) (hs0 : Frame M s0 s) :
    Frame M s0 (State.setFn s n f) := by
  unfold State.setFn
  exact (Frame.upd_fns (hM.to rfl) hs0)

theorem State.showMemUse_frame {M : Nat} {s0 : State} {s : State} (hM : Covers M 0x10000000000000) (hs0 : Frame M s0 s) :
    Frame M s0 (State.showMemUse s) := by
  unfold State.showMemUse
  exact (fold_rule hs0 fun x1 b2 h3 => (State.wr_frame h3 (hM.fam .vf rfl) rfl))

theorem State.writeRange_frame {M : Nat} {s0 : State} {s : State} {k : ℕ} {off : ℕ} {data : List Byte} {poison : ℕ} {gait : Bool} {strb : optParam (Option ℕ) none} (hM : Covers M 0x102855d00c3b2) (hs0 : Frame M s0 s) :
    SndP (Frame M s0) (State.writeRange s k off data poison gait strb) := by
  unfold State.writeRange
  extract_lets v1 v2 v3
  have h4 : Frame M s0 v3 := (fold_rule hs0 fun x5 b6 h7 => (State.prepWrite_frame (hM.to rfl) h7))
  clear_value v3
  refine (ite_rule (P := (SndP (Frame M s0))) h4 (fold_rule (P := (SndP (Frame M s0))) hs0 fun x8 b9 h10 => ?_))
  extract_lets v11
  have h12 : SndP (Frame M s0) v11 := (State.writePhys_frame (hM.to rfl) h10)
  clear_value v11
  exact h12

theorem State.countRefusal_frame {M : Nat} {s0 : State} {s : State} {m : Master} {k : ℕ} {step : ℕ} {entry : ℕ} {off : ℕ} (hM : Covers M 0x2800c000200) (hs0 : Frame M s0 s) :
    Frame M s0 (State.countRefusal s m k step entry off) := by
  unfold State.countRefusal
  extract_lets v1 v2
  have h3 : Frame M s0 v2 := (State.wr_frame (State.wr_frame (State.wr_frame (State.wr_frame (State.wr_frame (State.inc_frame hs0 (hM.fam .mch rfl) rfl) (hM.fam .mch rfl) rfl) (hM.fam .mch rfl) rfl) (hM.fam .mch rfl) rfl) (hM.fam .mch rfl) rfl) (hM.fam .mch rfl) rfl)
  clear_value v2
  exact (ite_rule (State.report_frame (hM.to rfl) h3 (hM.fam .mch rfl)) (State.report_frame (hM.to rfl) h3 (hM.fam .mch rfl)))

theorem State.readRange_frame {M : Nat} {s0 : State} {s : State} {k : ℕ} {off : ℕ} {len : ℕ} (hM : Covers M 0x102855d0043b2) (hs0 : Frame M s0 s) :
    SndP (SndP (Frame M s0)) (State.readRange s k off len) := by
  unfold State.readRange
  refine (fold_rule (P := (SndP (SndP (Frame M s0)))) hs0 fun x1 b2 h3 => ?_)
  extract_lets v4
  have h5 : SndP (SndP (Frame M s0)) v4 := (State.readPhys_frame (hM.to rfl) h3)
  clear_value v4
  exact h5

theorem State.ratRefuse_frame {M : Nat} {s0 : State} {s : State} {e : RatEntry} {code : ℕ} (hM : Covers M 0x1002800c000200) (hs0 : Frame M s0 s) :
    Frame M s0 (State.ratRefuse s e code) := by
  unfold State.ratRefuse
  extract_lets v1
  have h2 : Frame M s0 v1 := (State.err_frame (hM.to rfl) (State.wr_frame hs0 (hM.fam .mch rfl) rfl) (hM.fam .mch rfl))
  clear_value v1
  exact (ite_rule (State.err_frame (hM.to rfl) (State.inc_frame h2 (hM.fam .vf rfl) rfl) (hM.fam .vf rfl)) h2)

theorem State.setRat_frame {M : Nat} {s0 : State} {s : State} {n : ℕ} {e : RatEntry} (hM : Covers M 0x4000) (hs0 : Frame M s0 s) :
    Frame M s0 (State.setRat s n e) := by
  unfold State.setRat
  exact (Frame.upd_mem (hM.to rfl) rfl hs0)

theorem State.ratStore_frame {M : Nat} {s0 : State} {s : State} {n : ℕ} {e : RatEntry} {pkt : Option ℕ} (hM : Covers M 0x1002815c00c220) (hs0 : Frame M s0 s) :
    Frame M s0 (State.ratStore s n e pkt) := by
  unfold State.ratStore
  extract_lets v1 v2 v3 v4 v5 v6
  have h7 : Frame M s0 v2 := (State.wr_frame (State.wr_frame hs0 (hM.fam .mch rfl) rfl) (hM.fam .mch rfl) rfl)
  clear_value v2
  have h8 : Frame M s0 v3 := (ite_rule (State.reinit_frame (hM.to rfl) h7) h7)
  clear_value v3
  have h9 : Frame M s0 v4 := (State.setRat_frame (hM.to rfl) h8)
  clear_value v4
  have h10 : Frame M s0 v6 := (Frame.upd_mem (hM.to rfl) rfl h9)
  clear_value v6
  exact (State.showMemUse_frame (hM.to rfl) h10)

end Sys2Proof.Machine
end

