-- ==== Sys2Proof/Laws/FrameObjects.lean ====
section
/-! SUPPORT. What each operation and each meaning of Machine/Objects.lean can change: it keeps the frame `Frame M s0` for every set `M` that
has the parts it names, given that its arguments keep it. -/

namespace Sys2Proof.Machine

theorem State.setPkt_frame {M : Nat} {s0 : State} {s : State} {p : ℕ} {p2 : Pkt} (hM : Covers M 0x800) (hs0 : Frame M s0 s) :
    Frame M s0 (State.setPkt s p p2) := by
  unfold State.setPkt
  exact (Frame.upd_front (hM.to rfl) hs0)

theorem State.modPkt_frame {M : Nat} {s0 : State} {s : State} {p : ℕ} {f : Pkt → Pkt} (hM : Covers M 0x800) (hs0 : Frame M s0 s) :
    Frame M s0 (State.modPkt s p f) := by
  unfold State.modPkt
  split
  · rename_i w1 w2 w3
    exact (State.setPkt_frame (hM.to rfl) hs0)
  · rename_i w4 w5
    exact hs0

theorem State.finish_frame {M : Nat} {s0 : State} {s : State} {p : ℕ} {status : ℕ} {detail : optParam ℕ 0} {flags : optParam ℕ 0} (hM : Covers M 0x800) (hs0 : Frame M s0 s) :
    Frame M s0 (State.finish s p status detail flags) := by
  unfold State.finish
  exact (State.modPkt_frame (hM.to rfl) hs0)

theorem State.setTdi_frame {M : Nat} {s0 : State} {s : State} {n : ℕ} {p2 : ℕ} (hM : Covers M 0x100000000) (hs0 : Frame M s0 s) :
    Frame M s0 (State.setTdi s n p2) := by
  unfold State.setTdi
  extract_lets v1
  exact (State.wr_frame hs0 (hM.fam .key rfl) rfl)

theorem State.mapQueues_frame {M : Nat} {s0 : State} {s : State} {fn : ℕ} {f : Queue → Queue} (hM : Covers M 0x800) (hs0 : Frame M s0 s) :
    Frame M s0 (State.mapQueues s fn f) := by
  unfold State.mapQueues
  exact (Frame.upd_front (hM.to rfl) hs0)

theorem State.tdiError_frame {M : Nat} {s0 : State} {s : State} {n : ℕ} (hM : Covers M 0x810c000a00) (hs0 : Frame M s0 s) :
    Frame M s0 (State.tdiError s n) := by
  unfold State.tdiError
  exact (ite_rule hs0 (State.err_frame (hM.to rfl) (State.mapQueues_frame (hM.to rfl) (State.setTdi_frame (hM.to rfl) hs0)) (hM.fam .key rfl)))

theorem State.setQueue_frame {M : Nat} {s0 : State} {s : State} {q : ℕ} {p2 : Queue} (hM : Covers M 0x800) (hs0 : Frame M s0 s) :
    Frame M s0 (State.setQueue s q p2) := by
  unfold State.setQueue
  exact (Frame.upd_front (hM.to rfl) hs0)

theorem State.useAdd_frame {M : Nat} {s0 : State} {s : State} {fn : ℕ} {f : Field} {up : Bool} (hM : Covers M 0x10000000000000) (hs0 : Frame M s0 s) (hs2 : f.inPage = true) :
    Frame M s0 (State.useAdd s fn f up) := by
  unfold State.useAdd
  refine (ite_rule hs0 ?_)
  extract_lets v1
  exact (State.wr_frame hs0 (hM.fam .vf rfl) hs2)

theorem State.clearAt_frame {M : Nat} {s0 : State} {s : State} {off : ℕ} {n : ℕ} (hM : Covers M 0x102855d00c3b2) (hs0 : Frame M s0 s) :
    Frame M s0 (State.clearAt s off n) := by
  unfold State.clearAt
  exact (State.writePhys_frame (hM.to rfl) hs0)

theorem State.putW_frame {M : Nat} {s0 : State} {s : State} {off : ℕ} {v : ℕ} {n : ℕ} (hM : Covers M 0x102855d00c3b2) (hs0 : Frame M s0 s) :
    Frame M s0 (State.putW s off v n) := by
  unfold State.putW
  exact (State.writePhys_frame (hM.to rfl) hs0)

theorem State.ctxCount_frame {M : Nat} {s0 : State} {s : State} {c : ℕ} {w : ℕ} {lo : ℕ} {up : Bool} (hM : Covers M 0x102855d00c3b2) (hs0 : Frame M s0 s) :
    Frame M s0 (State.ctxCount s c w lo up) := by
  unfold State.ctxCount
  extract_lets v1 v2 v3
  exact (State.putW_frame (hM.to rfl) hs0)

theorem State.freeCtx_frame {M : Nat} {s0 : State} {s : State} {c : ℕ} (hM : Covers M 0x1102855d00d3b2) (hs0 : Frame M s0 s) :
    Frame M s0 (State.freeCtx s c) := by
  unfold State.freeCtx
  extract_lets v1 v2 v3
  have h4 : Frame M s0 v2 := (State.useAdd_frame (hM.to rfl) (State.clearAt_frame (hM.to rfl) hs0) rfl)
  clear_value v2
  exact (Frame.upd_objs (hM.to rfl) h4)

theorem State.showTd_frame {M : Nat} {s0 : State} {s : State} (hM : Covers M 0x4000000000000) (hs0 : Frame M s0 s) :
    Frame M s0 (State.showTd s) := by
  unfold State.showTd
  split
  · rename_i w1 w2
    exact (State.wr_frame (State.wr_frame (State.wr_frame hs0 (hM.fam .ctxs rfl) rfl) (hM.fam .ctxs rfl) rfl) (hM.fam .ctxs rfl) rfl)
  · rename_i w3 w4 w5 w6 w7
    exact (State.wr_frame (State.wr_frame (State.wr_frame hs0 (hM.fam .ctxs rfl) rfl) (hM.fam .ctxs rfl) rfl) (hM.fam .ctxs rfl) rfl)

theorem State.postTd_frame {M : Nat} {s0 : State} {s : State} {kind : ℕ} {h : ℕ} (hM : Covers M 0x400004c001000) (hs0 : Frame M s0 s) :
    Frame M s0 (State.postTd s kind h) := by
  unfold State.postTd
  extract_lets v1 v2 v3
  have h4 : Frame M s0 v3 := (State.showTd_frame (hM.to rfl) (Frame.upd_objs (hM.to rfl) hs0))
  clear_value v3
  exact (ite_rule (State.haPost_frame (hM.to rfl) h4) h4)

theorem State.testCtx_frame {M : Nat} {s0 : State} {s : State} {c : ℕ} (hM : Covers M 0x1502855d00d3b2) (hs0 : Frame M s0 s) :
    Frame M s0 (State.testCtx s c) := by
  unfold State.testCtx
  exact (ite_rule (ite_rule (State.postTd_frame (hM.to rfl) hs0) (State.freeCtx_frame (hM.to rfl) hs0)) hs0)

theorem State.freeFence_frame {M : Nat} {s0 : State} {s : State} {f : ℕ} (hM : Covers M 0x1502855d00d3b2) (hs0 : Frame M s0 s) :
    Frame M s0 (State.freeFence s f) := by
  unfold State.freeFence
  extract_lets v1 v2 v3 v4
  have h5 : Frame M s0 v4 := (Frame.upd_objs (hM.to rfl) hs0)
  clear_value v4
  exact (State.testCtx_frame (hM.to rfl) (State.ctxCount_frame (hM.to rfl) (State.useAdd_frame (hM.to rfl) (State.clearAt_frame (hM.to rfl) h5) rfl)))

theorem State.testFence_frame {M : Nat} {s0 : State} {s : State} {f : ℕ} (hM : Covers M 0x1502855d00d3b2) (hs0 : Frame M s0 s) :
    Frame M s0 (State.testFence s f) := by
  unfold State.testFence
  exact (ite_rule (ite_rule (State.postTd_frame (hM.to rfl) hs0) (State.freeFence_frame (hM.to rfl) hs0)) hs0)

theorem State.sendAborts_frame {M : Nat} {s0 : State} {s : State} {p : ℕ} (hM : Covers M 0xc000000) (hs0 : Frame M s0 s) :
    Frame M s0 (State.sendAborts s p) := by
  unfold State.sendAborts
  split
  · rename_i w1 w2
    exact hs0
  · rename_i w3 w4 w5
    split
    · rename_i w6 w7
      exact hs0
    · rename_i w8 w9 w10
      exact (State.emits_frame (hM.to rfl) hs0)

theorem State.abortPkt_frame {M : Nat} {s0 : State} {s : State} {p : ℕ} {status : ℕ} {detail : optParam ℕ 0} (hM : Covers M 0x800) (hs0 : Frame M s0 s) :
    Frame M s0 (State.abortPkt s p status detail) := by
  unfold State.abortPkt
  exact (State.modPkt_frame (hM.to rfl) hs0)

theorem State.dropWaiters_frame {M : Nat} {s0 : State} {s : State} {ps : List ℕ} (hM : Covers M 0x800) (hs0 : Frame M s0 s) :
    Frame M s0 (State.dropWaiters s ps) := by
  unfold State.dropWaiters
  exact (Frame.upd_front (hM.to rfl) hs0)

theorem State.showNr_frame {M : Nat} {s0 : State} {s : State} (hM : Covers M 0x8000000000000) (hs0 : Frame M s0 s) :
    Frame M s0 (State.showNr s) := by
  unfold State.showNr
  split
  · rename_i w1 w2
    exact (State.wr_frame (State.wr_frame hs0 (hM.fam .fns rfl) rfl) (hM.fam .fns rfl) rfl)
  · rename_i w3 w4 w5 w6
    exact (State.wr_frame (State.wr_frame hs0 (hM.fam .fns rfl) rfl) (hM.fam .fns rfl) rfl)

theorem State.dropSlotWait_frame {M : Nat} {s0 : State} {s : State} {p : ℕ} (hM : Covers M 0x800004c000800) (hs0 : Frame M s0 s) :
    Frame M s0 (State.dropSlotWait s p) := by
  unfold State.dropSlotWait
  refine (ite_rule hs0 ?_)
  extract_lets v1 v2 v3 v4
  have h5 : Frame M s0 v3 := (State.showNr_frame (hM.to rfl) (Frame.upd_front (hM.to rfl) hs0))
  clear_value v3
  have h6 : Frame M s0 v4 := (State.haClear_frame (hM.to rfl) h5)
  clear_value v4
  exact (ite_rule h5 (ite_rule h6 (State.haPost_frame (hM.to rfl) h6)))

theorem State.cancelPkt_frame {M : Nat} {s0 : State} {s : State} {p : ℕ} {status : ℕ} {detail : optParam ℕ 0} (hM : Covers M 0x1d02855d00dbb2) (hs0 : Frame M s0 s) :
    Frame M s0 (State.cancelPkt s p status detail) := by
  unfold State.cancelPkt
  split
  · rename_i w1 w2
    exact hs0
  · rename_i w3 w4 w5
    refine (ite_rule hs0 ?_)
    extract_lets v6 v7
    have h8 : Frame M s0 v7 := (State.dropSlotWait_frame (hM.to rfl) (State.dropWaiters_frame (hM.to rfl) (State.abortPkt_frame (hM.to rfl) (State.sendAborts_frame (hM.to rfl) hs0))))
    clear_value v7
    exact (fold_rule h8 fun x9 b10 h11 => (State.testFence_frame (hM.to rfl) h11))

theorem State.fencePut_frame {M : Nat} {s0 : State} {s : State} {f : ℕ} {value : ℕ} {tokens : ℕ} {err : Option ℕ} (hM : Covers M 0x102855d00d3b2) (hs0 : Frame M s0 s) :
    Frame M s0 (State.fencePut s f value tokens err) := by
  unfold State.fencePut
  split
  · rename_i w1 w2 w3
    exact (Frame.upd_objs (hM.to rfl) hs0)
  · rename_i w4 w5
    exact (State.putW_frame (hM.to rfl) (State.putW_frame (hM.to rfl) hs0))

theorem State.evictFence_frame {M : Nat} {s0 : State} {s : State} {f : ℕ} (hM : Covers M 0x102855d00d3b2) (hs0 : Frame M s0 s) :
    Frame M s0 (State.evictFence s f) := by
  unfold State.evictFence
  extract_lets v1 v2
  exact (State.fencePut_frame (hM.to rfl) (Frame.upd_objs (hM.to rfl) hs0))

theorem State.fillFence_frame {M : Nat} {s0 : State} {s : State} {f : ℕ} (hM : Covers M 0x1000) (hs0 : Frame M s0 s) :
    Frame M s0 (State.fillFence s f) := by
  unfold State.fillFence
  extract_lets v1 v2 v3
  exact (Frame.upd_objs (hM.to rfl) hs0)

theorem State.freeObj_frame {M : Nat} {s0 : State} {s : State} {h : ℕ} (hM : Covers M 0x1502855d00d3b2) (hs0 : Frame M s0 s) :
    Frame M s0 (State.freeObj s h) := by
  unfold State.freeObj
  extract_lets v1 v2 v3 v4 v5 v6
  have h7 : Frame M s0 v3 := (ite_rule (State.reinit_frame (hM.to rfl) hs0) hs0)
  clear_value v3
  have h8 : Frame M s0 v5 := (Frame.upd_objs (hM.to rfl) h7)
  clear_value v5
  have h9 : Frame M s0 v6 := (State.wr_frame h8 (hM.fam .ctxs rfl) rfl)
  clear_value v6
  exact (State.testCtx_frame (hM.to rfl) (State.ctxCount_frame (hM.to rfl) (State.useAdd_frame (hM.to rfl) (State.clearAt_frame (hM.to rfl) h9) rfl)))

theorem State.doTd_frame {M : Nat} {s0 : State} {s : State} {k : ℕ} {h : ℕ} (hM : Covers M 0x1502855d00d3b2) (hs0 : Frame M s0 s) :
    Frame M s0 (State.doTd s k h) := by
  unfold State.doTd
  split
  · rename_i w1
    exact (State.freeCtx_frame (hM.to rfl) hs0)
  · rename_i w2
    exact (State.freeFence_frame (hM.to rfl) hs0)
  · rename_i w3 w4 w5
    exact (State.freeObj_frame (hM.to rfl) hs0)

theorem State.completeTd_frame {M : Nat} {s0 : State} {s : State} (hM : Covers M 0x1502855d00d3b2) (hs0 : Frame M s0 s) :
    Frame M s0 (State.completeTd s) := by
  unfold State.completeTd
  split
  · rename_i w1 w2
    exact hs0
  · rename_i w3 w4 w5 w6 w7
    extract_lets v8 v9 v10
    have h11 : Frame M s0 v9 := (State.doTd_frame (hM.to rfl) (Frame.upd_objs (hM.to rfl) hs0))
    clear_value v9
    have h12 : Frame M s0 v10 := (State.haClear_frame (hM.to rfl) (State.showTd_frame (hM.to rfl) h11))
    clear_value v10
    exact (ite_rule h12 (State.haPost_frame (hM.to rfl) h12))

theorem State.setObjState_frame {M : Nat} {s0 : State} {s : State} {h : ℕ} {p2 : ℕ} (hM : Covers M 0x102855d00c3b2) (hs0 : Frame M s0 s) :
    Frame M s0 (State.setObjState s h p2) := by
  unfold State.setObjState
  exact (State.putW_frame (hM.to rfl) hs0)

theorem State.testObj_frame {M : Nat} {s0 : State} {s : State} {h : ℕ} (hM : Covers M 0x1502855d00d3b2) (hs0 : Frame M s0 s) :
    Frame M s0 (State.testObj s h) := by
  unfold State.testObj
  refine (ite_rule ?_ hs0)
  extract_lets v1
  have h2 : Frame M s0 v1 := (State.setObjState_frame (hM.to rfl) hs0)
  clear_value v1
  exact (ite_rule (State.postTd_frame (hM.to rfl) h2) (State.freeObj_frame (hM.to rfl) h2))

theorem State.writeCtrs_frame {M : Nat} {s0 : State} {s : State} {p1 : CtxSlot} (hM : Covers M 0x102855d00c3b2) (hs0 : Frame M s0 s) :
    Frame M s0 (State.writeCtrs s p1) := by
  unfold State.writeCtrs
  exact (fold_rule hs0 fun x1 b2 h3 => (State.putW_frame (hM.to rfl) h3))

theorem State.addCtr_frame {M : Nat} {s0 : State} {s : State} {c : ℕ} {k : ℕ} {n : ℕ} (hM : Covers M 0x102855d00d3b2) (hs0 : Frame M s0 s) :
    Frame M s0 (State.addCtr s c k n) := by
  unfold State.addCtr
  exact (ite_rule (Frame.upd_objs (hM.to rfl) hs0) (ite_rule (State.putW_frame (hM.to rfl) hs0) hs0))

theorem State.releaseWaiters_frame {M : Nat} {s0 : State} {s : State} {f : ℕ} (hM : Covers M 0x102855d00dbb2) (hs0 : Frame M s0 s) :
    Frame M s0 (State.releaseWaiters s f) := by
  unfold State.releaseWaiters
  extract_lets v1 v2 v3 v4 v5
  have h6 : Frame M s0 v5 := (fold_rule hs0 fun x7 b8 h9 => (State.finish_frame (hM.to rfl) h9))
  clear_value v5
  split
  · rename_i w10 w11 w12
    exact (State.dropWaiters_frame (hM.to rfl) (fold_rule hs0 fun x13 b14 h15 => (State.finish_frame (hM.to rfl) h15)))
  · rename_i w16 w17
    exact (State.fencePut_frame (hM.to rfl) (State.dropWaiters_frame (hM.to rfl) h6))

theorem State.testRetire_frame {M : Nat} {s0 : State} {s : State} {f : ℕ} (hM : Covers M 0x1502855d00d3b2) (hs0 : Frame M s0 s) :
    Frame M s0 (State.testRetire s f) := by
  unfold State.testRetire
  exact (fold_rule hs0 fun x1 b2 h3 => (State.testObj_frame (hM.to rfl) h3))

theorem State.errorFence_frame {M : Nat} {s0 : State} {s : State} {f : ℕ} {code : ℕ} (hM : Covers M 0x1502855d00dbb2) (hs0 : Frame M s0 s) :
    Frame M s0 (State.errorFence s f code) := by
  unfold State.errorFence
  extract_lets v1
  exact (State.testRetire_frame (hM.to rfl) (State.testFence_frame (hM.to rfl) (State.releaseWaiters_frame (hM.to rfl) (State.fencePut_frame (hM.to rfl) hs0))))

theorem State.stopQueue_frame {M : Nat} {s0 : State} {s : State} {q : ℕ} {code : ℕ} (hM : Covers M 0x200800c000a00) (hs0 : Frame M s0 s) :
    Frame M s0 (State.stopQueue s q code) := by
  unfold State.stopQueue
  extract_lets v1 v2
  have h3 : Frame M s0 v2 := (State.setQueue_frame (hM.to rfl) hs0)
  clear_value v2
  exact (ite_rule hs0 (State.emit_frame (hM.to rfl) (State.err_frame (hM.to rfl) h3 (hM.fam .fe rfl))))

theorem State.fatalStep_frame {M : Nat} {s0 : State} {s : State} (hM : Covers M 0x102855d01c3b2) (hs0 : Frame M s0 s) :
    Frame M s0 (State.fatalStep s) := by
  unfold State.fatalStep
  split
  · rename_i w1 w2
    exact hs0
  · rename_i w3 w4 w5
    exact (ite_rule hs0 (State.putW_frame (hM.to rfl) (Frame.upd_sync (hM.to rfl) hs0)))

theorem State.ctxLost_frame {M : Nat} {s0 : State} {s : State} {c : ℕ} {code : ℕ} (hM : Covers M 0x1f02855d01dbb2) (hs0 : Frame M s0 s) :
    Frame M s0 (State.ctxLost s c code) := by
  unfold State.ctxLost
  refine (ite_rule hs0 ?_)
  extract_lets v1 v2 v3 v4 v5 v6
  have h7 : Frame M s0 v1 := (State.fatalStep_frame (hM.to rfl) hs0)
  clear_value v1
  have h8 : Frame M s0 v3 := (State.putW_frame (hM.to rfl) h7)
  clear_value v3
  have h9 : Frame M s0 v5 := (fold_rule h8 fun x10 b11 h12 => (State.stopQueue_frame (hM.to rfl) h12))
  clear_value v5
  have h13 : Frame M s0 v6 := (fold_rule h9 fun x14 b15 h16 => (fold_rule h16 fun x17 b18 h19 => (State.cancelPkt_frame (hM.to rfl) h19)))
  clear_value v6
  exact (ite_rule h7 (fold_rule h13 fun x20 b21 h22 => (State.errorFence_frame (hM.to rfl) h22)))

theorem State.useFence_frame {M : Nat} {s0 : State} {s : State} {f : ℕ} (hM : Covers M 0x1000) (hs0 : Frame M s0 s) :
    Frame M s0 (State.useFence s f) := by
  unfold State.useFence
  extract_lets v1 v2
  exact (Frame.upd_objs (hM.to rfl) hs0)

theorem State.applyFence_frame {M : Nat} {s0 : State} {s : State} {f : ℕ} {amount : ℕ} {err : Option ℕ} (hM : Covers M 0x1d02855d00dbb2) (hs0 : Frame M s0 s) :
    Frame M s0 (State.applyFence s f amount err) := by
  unfold State.applyFence
  extract_lets v1 v2 v3 v4 v5 v6 v7
  have h8 : Frame M s0 v5 := (ite_rule (State.useFence_frame (hM.to rfl) hs0) (State.inc_frame hs0 (hM.fam .fns rfl) rfl))
  clear_value v5
  have h9 : Frame M s0 v6 := (ite_rule (State.err_frame (hM.to rfl) h8 (hM.fam .fns rfl)) h8)
  clear_value v6
  have h10 : Frame M s0 v7 := (ite_rule (State.err_frame (hM.to rfl) h9 (hM.fam .fns rfl)) h9)
  clear_value v7
  exact (State.testRetire_frame (hM.to rfl) (State.testFence_frame (hM.to rfl) (State.releaseWaiters_frame (hM.to rfl) (State.fencePut_frame (hM.to rfl) h10))))

theorem State.loadCtx_frame {M : Nat} {s0 : State} {s : State} {c : ℕ} (hM : Covers M 0x502855d00d3b2) (hs0 : Frame M s0 s) :
    SomeP (Frame M s0) (State.loadCtx s c) := by
  unfold State.loadCtx
  extract_lets v1 v2 v3 v4 v5
  have h6 : Frame M s0 v3 := (State.inc_frame hs0 (hM.fam .ctxs rfl) rfl)
  clear_value v3
  refine (ite_rule (P := (SomeP (Frame M s0))) (SomeP.some (Frame.upd_objs (hM.to rfl) hs0)) (ite_rule (P := (SomeP (Frame M s0))) (SomeP.some (Frame.upd_objs (hM.to rfl) h6)) ?_))
  split
  · rename_i w7 w8
    exact SomeP.none
  · rename_i w9 w10 w11
    extract_lets v12 v13
    have h14 : Frame M s0 v12 := (State.inc_frame (State.writeCtrs_frame (hM.to rfl) h6) (hM.fam .ctxs rfl) rfl)
    clear_value v12
    exact (SomeP.some (Frame.upd_objs (hM.to rfl) h14))

theorem State.destroyFence_frame {M : Nat} {s0 : State} {s : State} {f : ℕ} {code : ℕ} (hM : Covers M 0x1502855d00dbb2) (hs0 : Frame M s0 s) :
    Frame M s0 (State.destroyFence s f code) := by
  unfold State.destroyFence
  extract_lets v1 v2
  have h3 : Frame M s0 v2 := (State.putW_frame (hM.to rfl) (State.fencePut_frame (hM.to rfl) hs0))
  clear_value v2
  exact (State.testRetire_frame (hM.to rfl) (State.testFence_frame (hM.to rfl) (State.releaseWaiters_frame (hM.to rfl) h3)))

theorem State.dropRef_frame {M : Nat} {s0 : State} {s : State} {h : ℕ} (hM : Covers M 0x1502855d00d3b2) (hs0 : Frame M s0 s) :
    Frame M s0 (State.dropRef s h) := by
  unfold State.dropRef
  extract_lets v1 v2
  have h3 : Frame M s0 v2 := (ite_rule (State.err_frame (hM.to rfl) hs0 (hM.fam .ctxs rfl)) (State.putW_frame (hM.to rfl) hs0))
  clear_value v2
  exact (State.testObj_frame (hM.to rfl) h3)

end Sys2Proof.Machine
end

