-- ==== Sys2Proof/Laws/FrameAccess.lean ====
section
/-! SUPPORT. What each operation and each meaning of Machine/Access.lean can change: it keeps the frame `Frame M s0` for every set `M` that
has the parts it names, given that its arguments keep it. -/

namespace Sys2Proof.Machine

theorem State.kres_frame {M : Nat} {s0 : State} {s : State} {p : ℕ} {code : ℕ} (hM : Covers M 0x800) (hs0 : Frame M s0 s) :
    Frame M s0 (State.kres s p code) := by
  unfold State.kres
  exact (ite_rule (State.finish_frame (hM.to rfl) hs0) (State.finish_frame (hM.to rfl) hs0))

theorem State.countBytes_frame {M : Nat} {s0 : State} {s : State} {m : Master} {k : ℕ} {n : ℕ} (hM : Covers M 0x102855d00d3b2) (hs0 : Frame M s0 s) :
    Frame M s0 (State.countBytes s m k n) := by
  unfold State.countBytes
  exact (ite_rule (State.addCtr_frame (hM.to rfl) hs0) hs0)

theorem State.refuse_frame {M : Nat} {s0 : State} {s : State} {m : Master} {k : ℕ} {step : ℕ} {entry : ℕ} {off : ℕ} (hM : Covers M 0x1f02855d01dbb2) (hs0 : Frame M s0 s) :
    Frame M s0 (State.refuse s m k step entry off) := by
  unfold State.refuse
  extract_lets v1
  have h2 : Frame M s0 v1 := (State.countRefusal_frame (hM.to rfl) hs0)
  clear_value v1
  exact (ite_rule (State.ctxLost_frame (hM.to rfl) h2) h2)

theorem State.writeAs_frame {M : Nat} {s0 : State} {s : State} {m : Master} {off : ℕ} {data : List Byte} {poison : optParam ℕ 0} (hM : Covers M 0x1f02855d01dbb2) (hs0 : Frame M s0 s) :
    StP (Frame M s0) (State.writeAs s m off data poison) := by
  unfold State.writeAs
  split
  · rename_i w1 w2 w3 w4
    exact (State.refuse_frame (hM.to rfl) hs0)
  · rename_i w5 w6
    extract_lets v7
    have h8 : SndP (Frame M s0) v7 := (State.writeRange_frame (hM.to rfl) hs0)
    clear_value v7
    exact (ite_rule (State.countBytes_frame (hM.to rfl) h8) h8)

theorem Answer.st_frame {M : Nat} {s0 : State} {self : Answer} (hs0 : StP (Frame M s0) self) :
    Frame M s0 (Answer.st self) := by
  unfold Answer.st
  exact hs0

theorem State.atomicAs_frame {M : Nat} {s0 : State} {s : State} {m : Master} {off : ℕ} {n : ℕ} {code : ℕ} {a : ℕ} {b : ℕ} (hM : Covers M 0x1f02855d01dbb2) (hs0 : Frame M s0 s) :
    StP (Frame M s0) (State.atomicAs s m off n code a b) := by
  unfold State.atomicAs
  split
  · rename_i w1 w2 w3 w4
    exact (State.refuse_frame (hM.to rfl) hs0)
  · rename_i w5 w6
    extract_lets v7 v8 v9
    have h10 : SndP (Frame M s0) v9 := (State.writePhys_frame (hM.to rfl) hs0)
    clear_value v9
    exact (ite_rule (P := (StP (Frame M s0))) (State.countBytes_frame (hM.to rfl) (State.countBytes_frame (hM.to rfl) h10)) h10)

theorem State.writeStrobed_frame {M : Nat} {s0 : State} {s : State} {m : Master} {off : ℕ} {data : List Byte} {strb : ℕ} (hM : Covers M 0x1f02855d01dbb2) (hs0 : Frame M s0 s) :
    StP (Frame M s0) (State.writeStrobed s m off data strb) := by
  unfold State.writeStrobed
  split
  · rename_i w1 w2 w3 w4
    exact (State.refuse_frame (hM.to rfl) hs0)
  · rename_i w5 w6
    refine (ite_rule (P := (StP (Frame M s0))) (State.writeAs_frame (hM.to rfl) hs0) ?_)
    extract_lets v7
    have h8 : SndP (Frame M s0) v7 := (State.writeRange_frame (hM.to rfl) hs0)
    clear_value v7
    exact (ite_rule (State.countBytes_frame (hM.to rfl) h8) h8)

theorem State.readAs_frame {M : Nat} {s0 : State} {s : State} {m : Master} {off : ℕ} {len : ℕ} (hM : Covers M 0x1f02855d01dbb2) (hs0 : Frame M s0 s) :
    StP (Frame M s0) (State.readAs s m off len) := by
  unfold State.readAs
  split
  · rename_i w1 w2 w3 w4
    exact (State.refuse_frame (hM.to rfl) hs0)
  · rename_i w5 w6
    extract_lets v7
    have h8 : SndP (SndP (Frame M s0)) v7 := (State.readRange_frame (hM.to rfl) hs0)
    clear_value v7
    exact (State.countBytes_frame (hM.to rfl) h8)

theorem State.badAddress_frame {M : Nat} {s0 : State} {s : State} (hM : Covers M 0x8800c000200) (hs0 : Frame M s0 s) :
    Frame M s0 (State.badAddress s) := by
  unfold State.badAddress
  exact (State.err_frame (hM.to rfl) hs0 (hM.fam .gw rfl))

theorem State.perform_frame {M : Nat} {s0 : State} {s : State} {p : ℕ} {op : ℕ} {f : Pkt → State → State} (hM : Covers M 0x4800) (hs0 : Frame M s0 s) (hs3 : ∀ y0 y1, Frame M s0 y1 → Frame M s0 (f y0 y1)) :
    NextP (Frame M s0) (State.perform s p op f) := by
  unfold State.perform
  refine (NextP.next (ite_rule ?_ hs0))
  split
  · rename_i w1 w2 w3
    exact (State.orWait_frame (hM.to rfl) hs0 (fun x4 h5 => (hs3 _ _ (State.setPkt_frame (hM.to rfl) h5))))
  · rename_i w6 w7
    exact hs0

end Sys2Proof.Machine
end

