-- ==== Sys2Proof/Laws/FrameTime.lean ====
section
/-! SUPPORT. What each operation and each meaning of Machine/Time.lean can change: it keeps the frame `Frame M s0` for every set `M` that
has the parts it names, given that its arguments keep it. -/

namespace Sys2Proof.Machine

theorem State.unlocked_frame {M : Nat} {s0 : State} {s : State} {pg : Page} {changes : Bool} {f : State → State} (hM : Covers M 0x800c000200) (hs0 : Frame M s0 s) (hs1 : Covers M pg.fam.mask) (hs3 : ∀ y0, Frame M s0 y0 → Frame M s0 (f y0)) :
    Frame M s0 (State.unlocked s pg changes f) := by
  unfold State.unlocked
  exact (ite_rule (hs3 _ hs0) (ite_rule (State.err_frame (hM.to rfl) hs0 hs1) hs0))

theorem State.twr_frame {M : Nat} {s0 : State} {s : State} {k : ℕ} {lf : Field} {sf : Field} {v : ℕ} (hM : Covers M 0x400000000) (hs0 : Frame M s0 s) (hs2 : lf.inPage = true) (hs3 : sf.inPage = true) :
    Frame M s0 (State.twr s k lf sf v) := by
  unfold State.twr
  exact (ite_rule (State.wr_frame hs0 (hM.fam .time rfl) hs2) (State.wr_frame hs0 (hM.fam .time rfl) hs3))

theorem State.setCal_frame {M : Nat} {s0 : State} {s : State} {k : ℕ} {b : Bool} (hM : Covers M 0x400000000) (hs0 : Frame M s0 s) :
    Frame M s0 (State.setCal s k b) := by
  unfold State.setCal
  exact (State.twr_frame (hM.to rfl) hs0 rfl rfl)

theorem State.setPtime_frame {M : Nat} {s0 : State} {s : State} {k : ℕ} {t : PortTime} (hM : Covers M 0x40) (hs0 : Frame M s0 s) :
    Frame M s0 (State.setPtime s k t) := by
  unfold State.setPtime
  exact (Frame.upd_time (hM.to rfl) hs0)

theorem State.toFree_frame {M : Nat} {s0 : State} {s : State} (hM : Covers M 0x400000000) (hs0 : Frame M s0 s) :
    Frame M s0 (State.toFree s) := by
  unfold State.toFree
  extract_lets v1 v2 v3
  have h4 : Frame M s0 v3 := (State.wr_frame (State.wr_frame (State.wr_frame (State.wr_frame (State.wr_frame hs0 (hM.fam .time rfl) rfl) (hM.fam .time rfl) rfl) (hM.fam .time rfl) rfl) (hM.fam .time rfl) rfl) (hM.fam .time rfl) rfl)
  clear_value v3
  exact (ite_rule h4 (State.wr_frame h4 (hM.fam .time rfl) rfl))

theorem State.setRate_frame {M : Nat} {s0 : State} {s : State} {r : ℤ} (hM : Covers M 0x400000000) (hs0 : Frame M s0 s) :
    Frame M s0 (State.setRate s r) := by
  unfold State.setRate
  exact (State.wr_frame hs0 (hM.fam .time rfl) rfl)

theorem execSteerDisable_frame {M : Nat} {s0 : State} {p : Party} {s : State} (hM : Covers M 0x840c000208) (hs1 : Frame M s0 s) :
    NextP (Frame M s0) (execSteerDisable p s) := by
  unfold execSteerDisable
  exact (State.action_frame (hM.to rfl) hs1 (hM.fam .time rfl) (fun x1 h2 => (State.unlocked_frame (hM.to rfl) h2 (hM.fam .time rfl) (fun x3 h4 => (State.setRate_frame (hM.to rfl) (State.toFree_frame (hM.to rfl) (State.wr_frame h4 (hM.fam .time rfl) rfl)))))))

theorem State.dropCtl_frame {M : Nat} {s0 : State} {s : State} {n : ℕ} (hM : Covers M 0x100800c000200) (hs0 : Frame M s0 s) :
    Frame M s0 (State.dropCtl s n) := by
  unfold State.dropCtl
  exact (State.err_frame (hM.to rfl) (State.inc_frame hs0 (hM.fam .lpt rfl) rfl) (hM.fam .lpt rfl))

theorem State.fecBad_frame {M : Nat} {s0 : State} {s : State} {n : ℕ} (hM : Covers M 0x100800c000200) (hs0 : Frame M s0 s) :
    Frame M s0 (State.fecBad s n) := by
  unfold State.fecBad
  exact (State.err_frame (hM.to rfl) (State.inc_frame hs0 (hM.fam .lpt rfl) rfl) (hM.fam .lpt rfl))

theorem execTbCheckMismatch_frame {M : Nat} {s0 : State} {cleanA : Bool} {s : State} (hM : Covers M 0x840c000240) (hs1 : Frame M s0 s) :
    NextP (Frame M s0) (execTbCheckMismatch cleanA s) := by
  unfold execTbCheckMismatch
  extract_lets v1 v2
  have h3 : Frame M s0 v2 := (Frame.upd_time (hM.to rfl) hs1)
  clear_value v2
  exact (NextP.next (State.err_frame (hM.to rfl) (State.toFree_frame (hM.to rfl) h3) (hM.fam .time rfl)))

theorem execHoldoverExpired_frame {M : Nat} {s0 : State} {s : State} (hM : Covers M 0x840c000200) (hs0 : Frame M s0 s) :
    NextP (Frame M s0) (execHoldoverExpired s) := by
  unfold execHoldoverExpired
  exact (guarded_frame hs0 (fun x1 h2 => (State.err_frame (hM.to rfl) (State.toFree_frame (hM.to rfl) h2) (hM.fam .time rfl))))

theorem execPpsLost_frame {M : Nat} {s0 : State} {s : State} (hM : Covers M 0x840c000200) (hs0 : Frame M s0 s) :
    NextP (Frame M s0) (execPpsLost s) := by
  unfold execPpsLost
  extract_lets v1
  have h2 : Frame M s0 v1 := (State.wr_frame hs0 (hM.fam .time rfl) rfl)
  clear_value v1
  exact (NextP.next (ite_rule (State.err_frame (hM.to rfl) h2 (hM.fam .time rfl)) h2))

theorem execGmLost_frame {M : Nat} {s0 : State} {s : State} (hM : Covers M 0x840c000200) (hs0 : Frame M s0 s) :
    NextP (Frame M s0) (execGmLost s) := by
  unfold execGmLost
  exact (guarded_frame hs0 (fun x1 h2 => (ite_rule (State.err_frame (hM.to rfl) h2 (hM.fam .time rfl)) (ite_rule (State.wr_frame h2 (hM.fam .time rfl) rfl) h2))))

theorem State.gmApart_frame {M : Nat} {s0 : State} {s : State} (hM : Covers M 0x840c000200) (hs0 : Frame M s0 s) :
    Frame M s0 (State.gmApart s) := by
  unfold State.gmApart
  exact (State.toFree_frame (hM.to rfl) (State.err_frame (hM.to rfl) hs0 (hM.fam .time rfl)))

theorem State.toHoldover_frame {M : Nat} {s0 : State} {s : State} (hM : Covers M 0x840c000240) (hs0 : Frame M s0 s) :
    Frame M s0 (State.toHoldover s) := by
  unfold State.toHoldover
  extract_lets v1 v2 v3 v4 v5
  have h6 : Frame M s0 v3 := (ite_rule hs0 (State.setRate_frame (hM.to rfl) hs0))
  clear_value v3
  have h7 : Frame M s0 v5 := (Frame.upd_time (hM.to rfl) h6)
  clear_value v5
  exact (State.err_frame (hM.to rfl) (State.wr_frame (State.wr_frame h7 (hM.fam .time rfl) rfl) (hM.fam .time rfl) rfl) (hM.fam .time rfl))

theorem State.stepDt_frame {M : Nat} {s0 : State} {s : State} {d : ℤ} (hM : Covers M 0x400000040) (hs0 : Frame M s0 s) :
    Frame M s0 (State.stepDt s d) := by
  unfold State.stepDt
  extract_lets v1 v2
  exact (State.incSat_frame (Frame.upd_time (hM.to rfl) hs0) (hM.fam .time rfl) rfl)

theorem State.refreshFilters_frame {M : Nat} {s0 : State} {s : State} (hM : Covers M 0x40) (hs0 : Frame M s0 s) :
    Frame M s0 (State.refreshFilters s) := by
  unfold State.refreshFilters
  exact (Frame.upd_time (hM.to rfl) hs0)

theorem State.rateLimit_frame {M : Nat} {s0 : State} {s : State} {r : ℤ} (hM : Covers M 0x840c000200) (hs0 : Frame M s0 s) :
    Frame M s0 (State.rateLimit s r) := by
  unfold State.rateLimit
  exact (State.struck_frame (hM.to rfl) hs0 (fun x1 h2 => (State.err_frame (hM.to rfl) (State.setRate_frame (hM.to rfl) h2) (hM.fam .time rfl))))

theorem State.steerRate_frame {M : Nat} {s0 : State} {s : State} {k : ℕ} {theta : ℤ} (hM : Covers M 0x840c000200) (hs0 : Frame M s0 s) :
    Frame M s0 (State.steerRate s k theta) := by
  unfold State.steerRate
  extract_lets v1
  exact (ite_rule (State.rateLimit_frame (hM.to rfl) hs0) (State.setRate_frame (hM.to rfl) hs0))

theorem State.setParent_frame {M : Nat} {s0 : State} {s : State} {k : ℕ} (hM : Covers M 0x400000000) (hs0 : Frame M s0 s) :
    Frame M s0 (State.setParent s k) := by
  unfold State.setParent
  extract_lets v1
  exact (State.wr_frame (State.wr_frame (State.wr_frame (State.wr_frame hs0 (hM.fam .time rfl) rfl) (hM.fam .time rfl) rfl) (hM.fam .time rfl) rfl) (hM.fam .time rfl) rfl)

theorem State.lockTo_frame {M : Nat} {s0 : State} {s : State} {g : Option (ℕ × ℕ)} {slewing : Bool} (hM : Covers M 0x40) (hs0 : Frame M s0 s) :
    Frame M s0 (State.lockTo s g slewing) := by
  unfold State.lockTo
  exact (Frame.upd_time (hM.to rfl) hs0)

theorem State.toLocked_frame {M : Nat} {s0 : State} {s : State} {k : ℕ} (hM : Covers M 0x400000040) (hs0 : Frame M s0 s) :
    Frame M s0 (State.toLocked s k) := by
  unfold State.toLocked
  exact (State.lockTo_frame (hM.to rfl) (State.wr_frame (State.setParent_frame (hM.to rfl) hs0) (hM.fam .time rfl) rfl))

theorem State.acquire_frame {M : Nat} {s0 : State} {s : State} {k : ℕ} (hM : Covers M 0x840c000240) (hs0 : Frame M s0 s) :
    Frame M s0 (State.acquire s k) := by
  unfold State.acquire
  exact (ite_rule (State.struck_frame (hM.to rfl) hs0 (fun x1 h2 => (State.err_frame (hM.to rfl) h2 (hM.fam .time rfl)))) (ite_rule (State.toLocked_frame (hM.to rfl) hs0) (ite_rule (State.steerRate_frame (hM.to rfl) hs0) (ite_rule (State.refreshFilters_frame (hM.to rfl) (State.stepDt_frame (hM.to rfl) hs0)) (ite_rule (State.steerRate_frame (hM.to rfl) hs0) (State.err_frame (hM.to rfl) hs0 (hM.fam .time rfl)))))))

theorem State.notePeer_frame {M : Nat} {s0 : State} {s : State} {k : ℕ} {m : MarkFields} {auth : Bool} (hM : Covers M 0x400000040) (hs0 : Frame M s0 s) :
    Frame M s0 (State.notePeer s k m auth) := by
  unfold State.notePeer
  extract_lets v1 v2 v3 v4 v5 v6 v7
  have h8 : Frame M s0 v3 := (State.setPtime_frame (hM.to rfl) hs0)
  clear_value v3
  have h9 : Frame M s0 v5 := (Frame.upd_time (hM.to rfl) h8)
  clear_value v5
  have h10 : Frame M s0 v6 := (State.twr_frame (hM.to rfl) h9 rfl rfl)
  clear_value v6
  have h11 : Frame M s0 v7 := (State.twr_frame (hM.to rfl) h10 rfl rfl)
  clear_value v7
  exact (State.twr_frame (hM.to rfl) h11 rfl rfl)

theorem State.changeParent_frame {M : Nat} {s0 : State} {s : State} {g : ℕ × ℕ} (hM : Covers M 0x840c000240) (hs0 : Frame M s0 s) :
    Frame M s0 (State.changeParent s g) := by
  unfold State.changeParent
  split
  · rename_i w1 w2
    split
    · rename_i w3 w4 w5
      exact (ite_rule hs0 (State.toHoldover_frame (hM.to rfl) hs0))
    · rename_i w6 w7
      exact (State.toHoldover_frame (hM.to rfl) hs0)
  · rename_i w8 w9 w10
    refine (ite_rule (ite_rule (State.lockTo_frame (hM.to rfl) (State.setParent_frame (hM.to rfl) hs0)) (State.gmApart_frame (hM.to rfl) hs0)) ?_)
    split
    · rename_i w11 w12 w13
      extract_lets v14
      exact (ite_rule (State.setParent_frame (hM.to rfl) hs0) (State.toHoldover_frame (hM.to rfl) hs0))
    · rename_i w15 w16
      exact (State.toHoldover_frame (hM.to rfl) hs0)

theorem State.steerLocked_frame {M : Nat} {s0 : State} {s : State} {k : ℕ} (hM : Covers M 0x840c000240) (hs0 : Frame M s0 s) :
    Frame M s0 (State.steerLocked s k) := by
  unfold State.steerLocked
  refine (ite_rule (State.toHoldover_frame (hM.to rfl) hs0) ?_)
  extract_lets v1
  have h2 : Frame M s0 v1 := (ite_rule (State.lockTo_frame (hM.to rfl) hs0) hs0)
  clear_value v1
  exact (State.wr_frame (State.steerRate_frame (hM.to rfl) h2) (hM.fam .time rfl) rfl)

theorem State.steerHoldover_frame {M : Nat} {s0 : State} {s : State} {g : ℕ × ℕ} (hM : Covers M 0x840c000240) (hs0 : Frame M s0 s) :
    Frame M s0 (State.steerHoldover s g) := by
  unfold State.steerHoldover
  split
  · rename_i w1 w2
    exact hs0
  · rename_i w3 w4 w5
    exact (ite_rule (State.toLocked_frame (hM.to rfl) hs0) (ite_rule (State.steerRate_frame (hM.to rfl) hs0) (ite_rule hs0 (State.gmApart_frame (hM.to rfl) hs0))))

theorem State.noParent_frame {M : Nat} {s0 : State} {s : State} {g : ℕ × ℕ} (hM : Covers M 0x840c000200) (hs0 : Frame M s0 s) :
    Frame M s0 (State.noParent s g) := by
  unfold State.noParent
  extract_lets v1
  exact (ite_rule (State.err_frame (hM.to rfl) hs0 (hM.fam .time rfl)) hs0)

theorem State.steerFree_frame {M : Nat} {s0 : State} {s : State} {g : ℕ × ℕ} (hM : Covers M 0x840c000240) (hs0 : Frame M s0 s) :
    Frame M s0 (State.steerFree s g) := by
  unfold State.steerFree
  refine (ite_rule (State.struck_frame (hM.to rfl) hs0 (fun x1 h2 => (State.err_frame (hM.to rfl) h2 (hM.fam .time rfl)))) ?_)
  split
  · rename_i w3 w4 w5
    exact (State.acquire_frame (hM.to rfl) hs0)
  · rename_i w6 w7
    exact (State.noParent_frame (hM.to rfl) hs0)

theorem State.setGm_frame {M : Nat} {s0 : State} {s : State} {g : ℕ × ℕ} {term : ℕ} (hM : Covers M 0x400000000) (hs0 : Frame M s0 s) :
    Frame M s0 (State.setGm s g term) := by
  unfold State.setGm
  extract_lets v1
  exact (State.wr_frame (State.wr_frame (State.wr_frame (State.wr_frame hs0 (hM.fam .time rfl) rfl) (hM.fam .time rfl) rfl) (hM.fam .time rfl) rfl) (hM.fam .time rfl) rfl)

theorem State.adopt_frame {M : Nat} {s0 : State} {s : State} {g : ℕ × ℕ} {term : ℕ} (hM : Covers M 0x400000000) (hs0 : Frame M s0 s) :
    Frame M s0 (State.adopt s g term) := by
  unfold State.adopt
  exact (State.wr_frame (State.setGm_frame (hM.to rfl) hs0) (hM.fam .time rfl) rfl)

theorem State.followGm_frame {M : Nat} {s0 : State} {s : State} (hM : Covers M 0x400000000) (hs0 : Frame M s0 s) :
    Frame M s0 (State.followGm s) := by
  unfold State.followGm
  split
  · rename_i w1 w2
    exact hs0
  · rename_i w3 w4 w5 w6
    split
    · rename_i w7 w8
      exact (State.adopt_frame (hM.to rfl) hs0)
    · rename_i w9 w10 w11
      exact (ite_rule (State.adopt_frame (hM.to rfl) hs0) hs0)

theorem State.steer_frame {M : Nat} {s0 : State} {s : State} (hM : Covers M 0x840c000240) (hs0 : Frame M s0 s) :
    Frame M s0 (State.steer s) := by
  unfold State.steer
  refine (ite_rule hs0 ?_)
  extract_lets v1
  have h2 : Frame M s0 v1 := (State.followGm_frame (hM.to rfl) hs0)
  clear_value v1
  refine (ite_rule h2 ?_)
  split
  · rename_i w3 w4
    exact h2
  · rename_i w5 w6 w7
    split
    · rename_i w8 w9
      exact (State.steerFree_frame (hM.to rfl) h2)
    · rename_i w10 w11
      exact (State.steerHoldover_frame (hM.to rfl) h2)
    · rename_i w12 w13 w14
      split
      · rename_i w15 w16 w17
        exact (ite_rule (State.steerLocked_frame (hM.to rfl) h2) (State.changeParent_frame (hM.to rfl) h2))
      · rename_i w18 w19
        exact (State.changeParent_frame (hM.to rfl) h2)

theorem State.outlier_frame {M : Nat} {s0 : State} {s : State} {k : ℕ} (hM : Covers M 0x840c000240) (hs0 : Frame M s0 s) :
    Frame M s0 (State.outlier s k) := by
  unfold State.outlier
  extract_lets v1 v2
  have h3 : Frame M s0 v2 := (State.setPtime_frame (hM.to rfl) hs0)
  clear_value v2
  exact (State.err_frame (hM.to rfl) (ite_rule h3 (State.setCal_frame (hM.to rfl) h3)) (hM.fam .time rfl))

theorem State.acceptTheta_frame {M : Nat} {s0 : State} {s : State} {k : ℕ} {theta : ℤ} (hM : Covers M 0x840c000240) (hs0 : Frame M s0 s) :
    Frame M s0 (State.acceptTheta s k theta) := by
  unfold State.acceptTheta
  extract_lets v1 v2 v3 v4 v5
  have h6 : Frame M s0 v3 := (State.twr_frame (hM.to rfl) hs0 rfl rfl)
  clear_value v3
  have h7 : Frame M s0 v5 := (State.setPtime_frame (hM.to rfl) hs0)
  clear_value v5
  exact (ite_rule (ite_rule (State.setPtime_frame (hM.to rfl) h6) (State.struck_frame (hM.to rfl) h6 (fun x8 h9 => (State.outlier_frame (hM.to rfl) h9)))) (State.twr_frame (hM.to rfl) h7 rfl rfl))

theorem State.calDone_frame {M : Nat} {s0 : State} {s : State} {k : ℕ} {cable : ℤ} (hM : Covers M 0x840c000200) (hs0 : Frame M s0 s) :
    Frame M s0 (State.calDone s k cable) := by
  unfold State.calDone
  extract_lets v1
  exact (ite_rule (State.setCal_frame (hM.to rfl) hs0) (State.struck_frame (hM.to rfl) hs0 (fun x2 h3 => (State.err_frame (hM.to rfl) (State.setCal_frame (hM.to rfl) h3) (hM.fam .time rfl)))))

theorem State.calibrate_frame {M : Nat} {s0 : State} {s : State} {k : ℕ} {cable : ℤ} (hM : Covers M 0x840c000240) (hs0 : Frame M s0 s) :
    Frame M s0 (State.calibrate s k cable) := by
  unfold State.calibrate
  extract_lets v1 v2 v3 v4 v5 v6
  have h7 : Frame M s0 v2 := (State.setPtime_frame (hM.to rfl) hs0)
  clear_value v2
  have h8 : Frame M s0 v3 := (State.wr_frame h7 (hM.fam .time rfl) rfl)
  clear_value v3
  have h9 : Frame M s0 v5 := (State.wr_frame hs0 (hM.fam .time rfl) rfl)
  clear_value v5
  have h10 : Frame M s0 v6 := (State.setPtime_frame (hM.to rfl) h9)
  clear_value v6
  exact (ite_rule (ite_rule h8 (State.calDone_frame (hM.to rfl) h8)) (ite_rule (ite_rule (State.setCal_frame (hM.to rfl) h10) h10) h9))

theorem State.noteArrival_frame {M : Nat} {s0 : State} {s : State} {k : ℕ} {m : MarkFields} {arrival : ℕ} (hM : Covers M 0x40) (hs0 : Frame M s0 s) :
    Frame M s0 (State.noteArrival s k m arrival) := by
  unfold State.noteArrival
  extract_lets v1 v2
  exact (State.setPtime_frame (hM.to rfl) hs0)

theorem State.reach_frame {M : Nat} {s0 : State} {s : State} {sub : ℕ} (hM : Covers M 0x40) (hs0 : Frame M s0 s) :
    Frame M s0 (State.reach s sub) := by
  unfold State.reach
  exact (Frame.upd_time (hM.to rfl) hs0)

theorem State.useStamps_frame {M : Nat} {s0 : State} {s : State} {k : ℕ} {m : MarkFields} {auth : Bool} {sub : ℕ} (hM : Covers M 0x840c000240) (hs0 : Frame M s0 s) :
    Frame M s0 (State.useStamps s k m auth sub) := by
  unfold State.useStamps
  extract_lets v1 v2
  have h3 : Frame M s0 v2 := (State.reach_frame (hM.to rfl) (State.noteArrival_frame (hM.to rfl) hs0))
  clear_value v2
  clear_value v1
  split
  · rename_i w4 w5 w6
    extract_lets v7
    have h8 : Frame M s0 v7 := (State.calibrate_frame (hM.to rfl) h3)
    clear_value v7
    exact (ite_rule (State.acceptTheta_frame (hM.to rfl) h8) h8)
  · rename_i w9
    exact h3

theorem State.acceptMark_frame {M : Nat} {s0 : State} {s : State} {k : ℕ} {m : MarkFields} {sub : ℕ} (hM : Covers M 0x840c000240) (hs0 : Frame M s0 s) :
    Frame M s0 (State.acceptMark s k m sub) := by
  unfold State.acceptMark
  extract_lets v1 v2
  have h3 : Frame M s0 v1 := (State.useStamps_frame (hM.to rfl) hs0)
  clear_value v1
  have h4 : Frame M s0 v2 := (State.twr_frame (hM.to rfl) h3 rfl rfl)
  clear_value v2
  exact (State.steer_frame (hM.to rfl) (State.notePeer_frame (hM.to rfl) h4))

theorem State.dropMark_frame {M : Nat} {s0 : State} {s : State} {k : ℕ} {auth : Bool} (hM : Covers M 0x100840c000200) (hs0 : Frame M s0 s) :
    Frame M s0 (State.dropMark s k auth) := by
  unfold State.dropMark
  extract_lets v1
  have h2 : Frame M s0 v1 := (ite_rule (State.dropCtl_frame (hM.to rfl) hs0) hs0)
  clear_value v1
  exact (ite_rule h2 (State.struck_frame (hM.to rfl) h2 (fun x3 h4 => (State.err_frame (hM.to rfl) h4 (hM.fam .time rfl)))))

theorem State.sealedMark_frame {M : Nat} {s0 : State} {s : State} {k : ℕ} {m : MarkFields} {chk : UnitCheck} {unauth : Bool} {seqLo : ℕ} {sub : ℕ} (hM : Covers M 0x100840c0002c0) (hs0 : Frame M s0 s) :
    Frame M s0 (State.sealedMark s k m chk unauth seqLo sub) := by
  unfold State.sealedMark
  exact (ite_rule (State.dropMark_frame (hM.to rfl) hs0) (ite_rule (ite_rule (State.acceptMark_frame (hM.to rfl) (State.setLink_frame (hM.to rfl) hs0)) (State.dropMark_frame (hM.to rfl) hs0)) (State.acceptMark_frame (hM.to rfl) hs0)))

theorem State.ppsSteer_frame {M : Nat} {s0 : State} {s : State} {e : ℤ} (hM : Covers M 0x400000000) (hs0 : Frame M s0 s) :
    Frame M s0 (State.ppsSteer s e) := by
  unfold State.ppsSteer
  extract_lets v1
  exact (State.setRate_frame (hM.to rfl) hs0)

theorem State.ppsError_frame {M : Nat} {s0 : State} {s : State} {e : ℤ} (hM : Covers M 0x840c000240) (hs0 : Frame M s0 s) :
    Frame M s0 (State.ppsError s e) := by
  unfold State.ppsError
  extract_lets v1
  exact (ite_rule (ite_rule (State.stepDt_frame (hM.to rfl) hs0) (State.struck_frame (hM.to rfl) hs0 (fun x2 h3 => (State.err_frame (hM.to rfl) h3 (hM.fam .time rfl))))) (State.ppsSteer_frame (hM.to rfl) hs0))

theorem State.opPps_frame {M : Nat} {s0 : State} {sub : ℕ} {s : State} (hM : Covers M 0x840c000240) (hs1 : Frame M s0 s) :
    Frame M s0 (State.opPps sub s) := by
  unfold State.opPps
  extract_lets v1 v2 v3 v4 v5 v6 v7 v8 v9
  have h10 : Frame M s0 v3 := (State.reach_frame (hM.to rfl) hs1)
  clear_value v3
  have h11 : Frame M s0 v4 := (State.wr_frame (State.wr_frame (State.wrPair_frame h10 (hM.fam .time rfl) rfl rfl) (hM.fam .time rfl) rfl) (hM.fam .time rfl) rfl)
  clear_value v4
  have h12 : Frame M s0 v6 := (Frame.upd_time (hM.to rfl) h11)
  clear_value v6
  have h13 : Frame M s0 v9 := (State.wr_frame h12 (hM.fam .time rfl) rfl)
  clear_value v9
  exact (ite_rule h12 (State.ppsError_frame (hM.to rfl) (State.wrPair_frame h13 (hM.fam .time rfl) rfl rfl)))

theorem execPpsInEdge_frame {M : Nat} {s0 : State} {sub : ℕ} {s : State} (hM : Covers M 0x840c000240) (hs1 : Frame M s0 s) :
    NextP (Frame M s0) (execPpsInEdge sub s) := by
  unfold execPpsInEdge
  exact (NextP.next (State.opPps_frame (hM.to rfl) hs1))

theorem execPpsOutFall_frame {M : Nat} {s0 : State} {s : State} (hM : Covers M 0x2) (hs0 : Frame M s0 s) :
    NextP (Frame M s0) (execPpsOutFall s) := by
  unfold execPpsOutFall
  exact (NextP.next (Frame.upd_outs (hM.to rfl) hs0))

theorem State.opMarkReceive_frame {M : Nat} {s0 : State} {k : ℕ} {m : MarkFields} {chk : UnitCheck} {unauth : Bool} {seqLo : ℕ} {sub : ℕ} {s : State} (hM : Covers M 0x100840c0002c0) (hs6 : Frame M s0 s) :
    Frame M s0 (State.opMarkReceive k m chk unauth seqLo sub s) := by
  unfold State.opMarkReceive
  refine (ite_rule ?_ (ite_rule (State.sealedMark_frame (hM.to rfl) hs6) (State.useStamps_frame (hM.to rfl) hs6)))
  extract_lets v1
  have h2 : Frame M s0 v1 := (ite_rule (State.fecBad_frame (hM.to rfl) hs6) hs6)
  clear_value v1
  exact (ite_rule (State.dropMark_frame (hM.to rfl) h2) h2)

theorem State.opMark_frame {M : Nat} {s0 : State} {k : ℕ} {sub : ℕ} {s : State} (hM : Covers M 0xc0000c0) (hs2 : Frame M s0 s) :
    Frame M s0 (State.opMark k sub s) := by
  unfold State.opMark
  extract_lets v1 v2 v3
  have h4 : Frame M s0 v3 := (State.reach_frame (hM.to rfl) (State.setPtime_frame (hM.to rfl) hs2))
  clear_value v3
  exact (ite_rule (State.sendFlit_frame (hM.to rfl) h4) (State.sendSib_frame (hM.to rfl) h4))

theorem execMark_frame {M : Nat} {s0 : State} {port : ℕ} {sub : ℕ} {s : State} (hM : Covers M 0xc0000c0) (hs2 : Frame M s0 s) :
    NextP (Frame M s0) (execMark port sub s) := by
  unfold execMark
  exact (guarded_frame hs2 (fun x1 h2 => (State.opMark_frame (hM.to rfl) h2)))

theorem State.tick_frame {M : Nat} {s0 : State} {s : State} (hM : Covers M 0x40) (hs0 : Frame M s0 s) :
    Frame M s0 (State.tick s) := by
  unfold State.tick
  extract_lets v1 v2 v3
  exact (Frame.upd_time (hM.to rfl) hs0)

theorem execGmSelfElect_frame {M : Nat} {s0 : State} {s : State} (hM : Covers M 0x400000040) (hs0 : Frame M s0 s) :
    NextP (Frame M s0) (execGmSelfElect s) := by
  unfold execGmSelfElect
  refine (guarded_frame hs0 (fun x1 h2 => ?_))
  extract_lets v3 v4 v5 v6 v7 v8 v9
  have h10 : Frame M s0 v5 := (Frame.upd_time (hM.to rfl) h2)
  clear_value v5
  have h11 : Frame M s0 v6 := (State.setGm_frame (hM.to rfl) h10)
  clear_value v6
  have h12 : Frame M s0 v8 := (State.wr_frame (State.wr_frame (State.wr_frame (State.wr_frame h11 (hM.fam .time rfl) rfl) (hM.fam .time rfl) rfl) (hM.fam .time rfl) rfl) (hM.fam .time rfl) rfl)
  clear_value v8
  have h13 : Frame M s0 v9 := (State.lockTo_frame (hM.to rfl) h12)
  clear_value v9
  exact (ite_rule h13 (State.setRate_frame (hM.to rfl) h13))

theorem execParentLost_frame {M : Nat} {s0 : State} {s : State} (hM : Covers M 0x840c000240) (hs0 : Frame M s0 s) :
    NextP (Frame M s0) (execParentLost s) := by
  unfold execParentLost
  refine (guarded_frame hs0 (fun x1 h2 => ?_))
  split
  · rename_i w3 w4 w5
    exact (ite_rule (State.changeParent_frame (hM.to rfl) h2) (State.toHoldover_frame (hM.to rfl) h2))
  · rename_i w6 w7
    exact (State.toHoldover_frame (hM.to rfl) h2)

theorem execPpsOutCrossing_frame {M : Nat} {s0 : State} {s : State} (hM : Covers M 0x2) (hs0 : Frame M s0 s) :
    NextP (Frame M s0) (execPpsOutCrossing s) := by
  unfold execPpsOutCrossing
  exact (guarded_frame hs0 (fun x1 h2 => (Frame.upd_outs (hM.to rfl) h2)))

end Sys2Proof.Machine
end

