-- ==== Sys2Proof/Laws/FrameSend.lean ====
section
/-! SUPPORT. What each operation and each meaning of Machine/Send.lean can change: it keeps the frame `Frame M s0` for every set `M` that
has the parts it names, given that its arguments keep it. -/

namespace Sys2Proof.Machine

theorem State.setRound_frame {M : Nat} {s0 : State} {s : State} {n : ℕ} {l : List ℕ} (hM : Covers M 0x100) (hs0 : Frame M s0 s) :
    Frame M s0 (State.setRound s n l) := by
  unfold State.setRound
  exact (Frame.upd_gait (hM.to rfl) hs0)

theorem State.setLoose_frame {M : Nat} {s0 : State} {s : State} {n : ℕ} {l : List LooseItem} (hM : Covers M 0x100) (hs0 : Frame M s0 s) :
    Frame M s0 (State.setLoose s n l) := by
  unfold State.setLoose
  exact (Frame.upd_gait (hM.to rfl) hs0)

theorem State.countHeld_frame {M : Nat} {s0 : State} {s : State} {p1 : LooseItem} (hM : Covers M 0x10000000000000) (hs0 : Frame M s0 s) :
    Frame M s0 (State.countHeld s p1) := by
  unfold State.countHeld
  exact (ite_rule hs0 (State.inc_frame hs0 (hM.fam .vf rfl) rfl))

theorem State.setCredit_frame {M : Nat} {s0 : State} {s : State} {n : ℕ} {sh : ℕ} {c : ℕ} (hM : Covers M 0x100) (hs0 : Frame M s0 s) :
    Frame M s0 (State.setCredit s n sh c) := by
  unfold State.setCredit
  exact (Frame.upd_gait (hM.to rfl) hs0)

theorem State.sendFrameAt_frame {M : Nat} {s0 : State} {s : State} {n : ℕ} {t : ℕ} {f : DataFrame} (hM : Covers M 0x100000d0000a0) (hs0 : Frame M s0 s) :
    Frame M s0 (State.sendFrameAt s n t f) := by
  unfold State.sendFrameAt
  extract_lets v1 v2 v3 v4 v5 v6 v7 v8
  have h9 : Frame M s0 v6 := (State.wakeSlots_frame (hM.to rfl) hs0)
  clear_value v6
  have h10 : Frame M s0 v7 := (State.wrPair_frame h9 (hM.fam .lpt rfl) rfl rfl)
  clear_value v7
  have h11 : Frame M s0 v8 := (State.cnt_frame (hM.to rfl) h10)
  clear_value v8
  exact (ite_rule hs0 (State.emit_frame (hM.to rfl) (State.setLink_frame (hM.to rfl) h11)))

theorem State.sendFrame_frame {M : Nat} {s0 : State} {s : State} {n : ℕ} {f : DataFrame} (hM : Covers M 0x100000d0000a0) (hs0 : Frame M s0 s) :
    Frame M s0 (State.sendFrame s n f) := by
  unfold State.sendFrame
  exact (State.sendFrameAt_frame (hM.to rfl) hs0)

theorem State.charge_frame {M : Nat} {s0 : State} {s : State} {fn : ℕ} {bytes : ℕ} (hM : Covers M 0x2000) (hs0 : Frame M s0 s) :
    SndP (Frame M s0) (State.charge s fn bytes) := by
  unfold State.charge
  refine (ite_rule (P := (SndP (Frame M s0))) hs0 ?_)
  extract_lets v1 v2
  exact (ite_rule (P := (SndP (Frame M s0))) hs0 (State.setFn_frame (hM.to rfl) hs0))

theorem State.newRound_frame {M : Nat} {s0 : State} {s : State} {n : ℕ} {l : List LooseItem} (hM : Covers M 0x100) (hs0 : Frame M s0 s) :
    Frame M s0 (State.newRound s n l) := by
  unfold State.newRound
  extract_lets v1
  exact (State.setRound_frame (hM.to rfl) (fold_rule hs0 fun x2 b3 h4 => (State.setCredit_frame (hM.to rfl) h4)))

theorem State.pick_frame {M : Nat} {s0 : State} {a : ℕ} {p1 : ℕ} {p2 : List LooseItem} {p3 : State} (hM : Covers M 0x100) (hs3 : Frame M s0 p3) :
    SndP (Frame M s0) (State.pick a p1 p2 p3) := by
  induction a generalizing p1 p2 p3
  · unfold State.pick
    exact hs3
  · rename_i k ih
    unfold State.pick
    split
    · rename_i w1 w2
      exact (ite_rule (P := (SndP (Frame M s0))) hs3 (ih (State.newRound_frame (hM.to rfl) hs3)))
    · rename_i w3 w4 w5 w6
      split
      · rename_i w7 w8 w9
        exact (ite_rule (P := (SndP (Frame M s0))) hs3 (ih (State.setRound_frame (hM.to rfl) hs3)))
      · rename_i w10 w11
        exact (ih (State.setRound_frame (hM.to rfl) hs3))

theorem State.arbitrate_frame {M : Nat} {s0 : State} {a : ℕ} {p1 : ℕ} {p2 : ℕ} {p3 : List LooseItem} {p4 : State} (hM : Covers M 0x1100000d0021a0) (hs4 : Frame M s0 p4) :
    SndP (Frame M s0) (State.arbitrate a p1 p2 p3 p4) := by
  induction a generalizing p1 p2 p3 p4
  · unfold State.arbitrate
    exact hs4
  · rename_i k ih
    unfold State.arbitrate
    extract_lets v1
    have h2 : SndP (Frame M s0) v1 := (State.pick_frame (hM.to rfl) hs4)
    clear_value v1
    split
    · rename_i w3 w4
      exact h2
    · rename_i w5 w6 w7
      refine (ite_rule (P := (SndP (Frame M s0))) h2 ?_)
      extract_lets v8 v9
      have h10 : SndP (Frame M s0) v8 := (State.charge_frame (hM.to rfl) h2)
      clear_value v8
      have h11 : SndP (Frame M s0) v9 := (ih (State.countHeld_frame (hM.to rfl) h10))
      clear_value v9
      exact (ite_rule (P := (SndP (Frame M s0))) (ih (State.sendFrame_frame (hM.to rfl) (State.setCredit_frame (hM.to rfl) h10))) h11)

theorem State.shed_frame {M : Nat} {s0 : State} {s : State} {n : ℕ} (hM : Covers M 0x40000000100) (hs0 : Frame M s0 s) :
    Frame M s0 (State.shed s n) := by
  unfold State.shed
  extract_lets v1 v2
  exact (State.add_frame (State.setLoose_frame (hM.to rfl) hs0) (hM.fam .gait rfl) rfl)

theorem State.sendAhead_frame {M : Nat} {s0 : State} {n : ℕ} {e : ℕ} {a : List LooseItem} {p3 : State} (hM : Covers M 0x100000d0000a0) (hs3 : Frame M s0 p3) :
    SndP (Frame M s0) (State.sendAhead n e a p3) := by
  induction a generalizing n e p3
  · unfold State.sendAhead
    exact hs3
  · rename_i hd tl ih
    unfold State.sendAhead
    exact (ite_rule (P := (SndP (Frame M s0))) (ih (State.sendFrame_frame (hM.to rfl) hs3)) hs3)

theorem State.drainLoose_frame {M : Nat} {s0 : State} {s : State} {n : ℕ} {e : ℕ} (hM : Covers M 0x1104000d0021a0) (hs0 : Frame M s0 s) :
    Frame M s0 (State.drainLoose s n e) := by
  unfold State.drainLoose
  extract_lets v1 v2 v3 v4
  have h5 : SndP (Frame M s0) v2 := (State.sendAhead_frame (hM.to rfl) hs0)
  clear_value v2
  have h6 : SndP (Frame M s0) v4 := (State.arbitrate_frame (hM.to rfl) h5)
  clear_value v4
  exact (ite_rule (State.shed_frame (hM.to rfl) (State.setLoose_frame (hM.to rfl) h5)) (ite_rule (State.setLoose_frame (hM.to rfl) h5) (State.setLoose_frame (hM.to rfl) h6)))

theorem State.tryLoose_frame {M : Nat} {s0 : State} {s : State} {n : ℕ} (hM : Covers M 0x1104000d0021a0) (hs0 : Frame M s0 s) :
    Frame M s0 (State.tryLoose s n) := by
  unfold State.tryLoose
  split
  · rename_i w1 w2 w3 w4
    exact (ite_rule (State.drainLoose_frame (hM.to rfl) hs0) hs0)
  · rename_i w5 w6
    exact hs0

theorem State.queueLoose_frame {M : Nat} {s0 : State} {s : State} {n : ℕ} {f : DataFrame} {fn : optParam ℕ 0} (hM : Covers M 0x1124800d0023a0) (hs0 : Frame M s0 s) :
    Frame M s0 (State.queueLoose s n f fn) := by
  unfold State.queueLoose
  extract_lets v1
  exact (ite_rule (State.err_frame (hM.to rfl) (State.inc_frame hs0 (hM.fam .cmb rfl) rfl) (hM.fam .cmb rfl)) (State.tryLoose_frame (hM.to rfl) (State.setLoose_frame (hM.to rfl) hs0)))

end Sys2Proof.Machine
end

