-- ==== Sys2Proof/Laws/FrameCoh.lean ====
section
/-! SUPPORT. What each operation and each meaning of Machine/Coh.lean can change: it keeps the frame `Frame M s0` for every set `M` that
has the parts it names, given that its arguments keep it. -/

namespace Sys2Proof.Machine

theorem State.showDir_frame {M : Nat} {s0 : State} {s : State} (hM : Covers M 0x100000000000) (hs0 : Frame M s0 s) :
    Frame M s0 (State.showDir s) := by
  unfold State.showDir
  exact (State.wr_frame hs0 (hM.fam .coh rfl) rfl)

theorem State.sendCoh_frame {M : Nat} {s0 : State} {s : State} {dst : ℕ} {share : ℕ} {cm : ℕ} {lost : Bool} {tid : ℕ} {addr : ℕ} {data : List Byte} {poison : optParam Bool false} (hM : Covers M 0x1124800d0023a0) (hs0 : Frame M s0 s) :
    Frame M s0 (State.sendCoh s dst share cm lost tid addr data poison) := by
  unfold State.sendCoh
  split
  · rename_i w1 w2 w3
    exact (State.queueLoose_frame (hM.to rfl) hs0)
  · rename_i w4 w5
    exact hs0

theorem State.snoopCompute_frame {M : Nat} {s0 : State} {s : State} {home : ℕ} {cm : ℕ} {tid : ℕ} {addr : ℕ} (hM : Covers M 0xc080000) (hs0 : Frame M s0 s) :
    Frame M s0 (State.snoopCompute s home cm tid addr) := by
  unfold State.snoopCompute
  extract_lets v1 v2 v3
  exact (State.emit_frame (hM.to rfl) (Frame.upd_coh (hM.to rfl) hs0))

theorem State.loseLine_frame {M : Nat} {s0 : State} {s : State} {l : ℕ} (hM : Covers M 0x112855d08c3b2) (hs0 : Frame M s0 s) :
    Frame M s0 (State.loseLine s l) := by
  unfold State.loseLine
  extract_lets v1 v2 v3
  have h4 : Frame M s0 v1 := (State.writePhys_frame (hM.to rfl) hs0)
  have h5 : Frame M s0 v3 := (Frame.upd_coh (hM.to rfl) h4)
  clear_value v3
  exact (State.err_frame (hM.to rfl) (State.inc_frame h5 (hM.fam .coh rfl) rfl) (hM.fam .coh rfl))

theorem State.putLine_frame {M : Nat} {s0 : State} {s : State} {l : ℕ} {d : DirLine} (hM : Covers M 0x100000080000) (hs0 : Frame M s0 s) :
    Frame M s0 (State.putLine s l d) := by
  unfold State.putLine
  extract_lets v1 v2
  exact (State.showDir_frame (hM.to rfl) (Frame.upd_coh (hM.to rfl) hs0))

theorem State.setDir_frame {M : Nat} {s0 : State} {s : State} {l : ℕ} {st : DirState} (hM : Covers M 0x100000080000) (hs0 : Frame M s0 s) :
    Frame M s0 (State.setDir s l st) := by
  unfold State.setDir
  extract_lets v1 v2 v3
  have h4 : Frame M s0 v2 := (Frame.upd_coh (hM.to rfl) hs0)
  clear_value v2
  exact (State.putLine_frame (hM.to rfl) h4)

theorem State.loseMember_frame {M : Nat} {s0 : State} {s : State} {slot : ℕ} (hM : Covers M 0x112855d08c3b2) (hs0 : Frame M s0 s) :
    Frame M s0 (State.loseMember s slot) := by
  unfold State.loseMember
  exact (fold_rule hs0 fun x1 b2 h3 => (State.setDir_frame (hM.to rfl) (State.loseLine_frame (hM.to rfl) h3)))

theorem State.cohStray_frame {M : Nat} {s0 : State} {s : State} (hM : Covers M 0x10800c000200) (hs0 : Frame M s0 s) :
    Frame M s0 (State.cohStray s) := by
  unfold State.cohStray
  exact (State.err_frame (hM.to rfl) (State.inc_frame hs0 (hM.fam .coh rfl) rfl) (hM.fam .coh rfl))

theorem State.staleGen_frame {M : Nat} {s0 : State} {s : State} (hM : Covers M 0x800c000200) (hs0 : Frame M s0 s) :
    Frame M s0 (State.staleGen s) := by
  unfold State.staleGen
  exact (State.err_frame (hM.to rfl) (State.inc_frame hs0 (hM.fam .err rfl) rfl) (hM.fam .err rfl))

theorem State.dcpAnswer_frame {M : Nat} {s0 : State} {s : State} {port : ℕ} {tag : ℕ} {gen : ℕ} {status : ℕ} {data : List Byte} {poison : ℕ} (hM : Covers M 0x800c000200) (hs0 : Frame M s0 s) :
    Frame M s0 (State.dcpAnswer s port tag gen status data poison) := by
  unfold State.dcpAnswer
  exact (ite_rule (State.emit_frame (hM.to rfl) hs0) (State.staleGen_frame (hM.to rfl) hs0))

theorem State.ownCoh_frame {M : Nat} {s0 : State} {s : State} {tid : ℕ} {status : ℕ} {data : List Byte} {poison : ℕ} (hM : Covers M 0x800c080200) (hs0 : Frame M s0 s) :
    Frame M s0 (State.ownCoh s tid status data poison) := by
  unfold State.ownCoh
  split
  · rename_i w1 w2
    exact hs0
  · rename_i w3 w4 w5 w6 w7
    exact (State.dcpAnswer_frame (hM.to rfl) (Frame.upd_coh (hM.to rfl) hs0))

theorem State.noHerd_frame {M : Nat} {s0 : State} {s : State} {q : ℕ × ℕ × ℕ} (hM : Covers M 0x10800c080200) (hs0 : Frame M s0 s) :
    Frame M s0 (State.noHerd s q) := by
  unfold State.noHerd
  exact (ite_rule (State.ownCoh_frame (hM.to rfl) hs0) (State.cohStray_frame (hM.to rfl) hs0))

theorem State.memberAnswer_frame {M : Nat} {s0 : State} {s : State} {l : ℕ} {slot : ℕ} {tid : ℕ} {data : Option (List Byte × Bool)} (hM : Covers M 0x100000080000) (hs0 : Frame M s0 s) :
    Frame M s0 (State.memberAnswer s l slot tid data) := by
  unfold State.memberAnswer
  extract_lets v1
  split
  · rename_i w2 w3
    exact hs0
  · rename_i w4 w5 w6
    refine (ite_rule hs0 ?_)
    extract_lets v7
    exact (State.putLine_frame (hM.to rfl) hs0)

theorem State.askMember_frame {M : Nat} {s0 : State} {s : State} {l : ℕ} {cm : ℕ} {tid : ℕ} {slot : ℕ} (hM : Covers M 0x1134800d0823a0) (hs0 : Frame M s0 s) :
    Frame M s0 (State.askMember s l cm tid slot) := by
  unfold State.askMember
  exact (ite_rule (ite_rule (State.memberAnswer_frame (hM.to rfl) hs0) (State.snoopCompute_frame (hM.to rfl) hs0)) (State.sendCoh_frame (hM.to rfl) hs0))

theorem State.startDirTx_frame {M : Nat} {s0 : State} {s : State} {l : ℕ} {slot : ℕ} {op : ℕ} {tag : ℕ} {cm : ℕ} {who : BitVec 8} (hM : Covers M 0x1134800d0823a0) (hs0 : Frame M s0 s) :
    Frame M s0 (State.startDirTx s l slot op tag cm who) := by
  unfold State.startDirTx
  extract_lets v1 v2 v3 v4 v5
  have h6 : Frame M s0 v4 := (Frame.upd_coh (hM.to rfl) hs0)
  clear_value v4
  have h7 : Frame M s0 v5 := (State.putLine_frame (hM.to rfl) h6)
  clear_value v5
  exact (fold_rule h7 fun x8 b9 h10 => (State.askMember_frame (hM.to rfl) h10))

theorem State.homeReply_frame {M : Nat} {s0 : State} {s : State} {l : ℕ} {slot : ℕ} {cm : ℕ} {tid : ℕ} (hM : Covers M 0x1126855d0863b2) (hs0 : Frame M s0 s) :
    Frame M s0 (State.homeReply s l slot cm tid) := by
  unfold State.homeReply
  extract_lets v1 v2 v3
  have h4 : SndP (SndP (Frame M s0)) v2 := (ite_rule (P := (SndP (SndP (Frame M s0)))) (State.readPhys_frame (hM.to rfl) hs0) hs0)
  clear_value v2
  have h5 : Frame M s0 v3 := h4
  exact (ite_rule (State.ownCoh_frame (hM.to rfl) h5) (State.sendCoh_frame (hM.to rfl) h5))

theorem State.makeRoom_frame {M : Nat} {s0 : State} {s : State} {l : ℕ} (hM : Covers M 0x1134800d0823a0) (hs0 : Frame M s0 s) :
    Frame M s0 (State.makeRoom s l) := by
  unfold State.makeRoom
  split
  · rename_i w1 w2
    exact hs0
  · rename_i w3 w4 w5
    extract_lets v6
    have h7 : Frame M s0 v6 := (State.inc_frame hs0 (hM.fam .coh rfl) rfl)
    clear_value v6
    split
    · rename_i w8 w9 w10
      exact (State.startDirTx_frame (hM.to rfl) h7)
    · rename_i w11 w12 w13
      exact (State.startDirTx_frame (hM.to rfl) h7)
    · rename_i w14 w15
      exact h7

theorem State.cohApply_frame {M : Nat} {s0 : State} {s : State} {l : ℕ} {slot : ℕ} {op : ℕ} {tag : ℕ} (hM : Covers M 0x1136855d0863b2) (hs0 : Frame M s0 s) :
    SndP (Frame M s0) (State.cohApply s l slot op tag) := by
  unfold State.cohApply
  extract_lets v1
  split
  · rename_i w2 w3
    exact (ite_rule (P := (SndP (Frame M s0))) hs0 (ite_rule (P := (SndP (Frame M s0))) (State.makeRoom_frame (hM.to rfl) hs0) (ite_rule (P := (SndP (Frame M s0))) (State.homeReply_frame (hM.to rfl) (State.setDir_frame (hM.to rfl) hs0)) (State.homeReply_frame (hM.to rfl) (State.setDir_frame (hM.to rfl) hs0)))))
  · rename_i w4 w5 w6
    exact (ite_rule hs0 (ite_rule (State.startDirTx_frame (hM.to rfl) hs0) (ite_rule (State.homeReply_frame (hM.to rfl) (State.setDir_frame (hM.to rfl) hs0)) (State.startDirTx_frame (hM.to rfl) hs0))))
  · rename_i w7 w8 w9
    exact (ite_rule (State.homeReply_frame (hM.to rfl) hs0) (ite_rule (State.startDirTx_frame (hM.to rfl) hs0) (ite_rule (State.startDirTx_frame (hM.to rfl) hs0) (State.startDirTx_frame (hM.to rfl) hs0))))

theorem State.homeWrite_frame {M : Nat} {s0 : State} {s : State} {l : ℕ} {data : List Byte} {poison : Bool} (hM : Covers M 0x102855d08c3b2) (hs0 : Frame M s0 s) :
    Frame M s0 (State.homeWrite s l data poison) := by
  unfold State.homeWrite
  extract_lets v1 v2
  have h3 : Frame M s0 v1 := (State.writePhys_frame (hM.to rfl) hs0)
  exact (Frame.upd_coh (hM.to rfl) h3)

theorem State.completeTx_frame {M : Nat} {s0 : State} {s : State} {l : ℕ} (hM : Covers M 0x1136855d08e3b2) (hs0 : Frame M s0 s) :
    Frame M s0 (State.completeTx s l) := by
  unfold State.completeTx
  extract_lets v1 v2
  have h3 : Frame M s0 v2 := (State.putLine_frame (hM.to rfl) hs0)
  clear_value v2
  split
  · rename_i w4 w5
    exact hs0
  · rename_i w6 w7 w8
    extract_lets v9 v10 v11
    have h12 : Frame M s0 v9 := by
      unfold v9
      refine (ite_rule (State.loseLine_frame (hM.to rfl) h3) ?_)
      split
      · rename_i w13 w14 w15
        exact (State.homeWrite_frame (hM.to rfl) h3)
      · rename_i w16 w17
        exact h3
    clear_value v9
    split
    · rename_i w18 w19
      exact (State.homeReply_frame (hM.to rfl) (State.setDir_frame (hM.to rfl) h12))
    · rename_i w20 w21
      exact (State.homeReply_frame (hM.to rfl) (State.setDir_frame (hM.to rfl) h12))
    · rename_i w22 w23
      exact (State.homeReply_frame (hM.to rfl) (State.setDir_frame (hM.to rfl) h12))
    · rename_i w24 w25
      exact (State.homeReply_frame (hM.to rfl) (State.setDir_frame (hM.to rfl) h12))
    · rename_i w26 w27
      clear_value v10
      split
      · rename_i w28 w29
        exact (State.setDir_frame (hM.to rfl) h12)
      · rename_i w30 w31
        exact (State.setDir_frame (hM.to rfl) h12)
    · rename_i w32 w33 w34 w35 w36 w37
      exact (State.setDir_frame (hM.to rfl) h12)

theorem State.cohRun_frame {M : Nat} {s0 : State} {a : ℕ} {p1 : List ℕ} {p2 : State} (hM : Covers M 0x1136855d08e3b2) (hs2 : Frame M s0 p2) :
    Frame M s0 (State.cohRun a p1 p2) := by
  induction a generalizing p1 p2
  · unfold State.cohRun
    exact hs2
  · rename_i k ih
    unfold State.cohRun
    split
    · rename_i w1
      exact hs2
    · rename_i w2 w3 w4
      refine (ite_rule (ih hs2) ?_)
      extract_lets v5
      split
      · rename_i w6 w7 w8
        exact (ite_rule (ih (State.completeTx_frame (hM.to rfl) hs2)) (ih hs2))
      · rename_i w9 w10
        split
        · rename_i w11 w12
          exact (ih hs2)
        · rename_i w13 w14 w15 w16
          extract_lets v17 v18
          have h19 : SndP (Frame M s0) v17 := (State.cohApply_frame (hM.to rfl) (State.putLine_frame (hM.to rfl) hs2))
          clear_value v17
          exact (ite_rule (ih h19) (ih (State.putLine_frame (hM.to rfl) h19)))

theorem State.cohGo_frame {M : Nat} {s0 : State} {s : State} {l : ℕ} (hM : Covers M 0x1136855d08e3b2) (hs0 : Frame M s0 s) :
    Frame M s0 (State.cohGo s l) := by
  unfold State.cohGo
  exact (State.cohRun_frame (hM.to rfl) hs0)

theorem State.cohRequest_frame {M : Nat} {s0 : State} {s : State} {l : ℕ} {slot : ℕ} {op : ℕ} {tag : ℕ} (hM : Covers M 0x1136855d08e3b2) (hs0 : Frame M s0 s) :
    Frame M s0 (State.cohRequest s l slot op tag) := by
  unfold State.cohRequest
  extract_lets v1
  exact (State.cohGo_frame (hM.to rfl) (State.putLine_frame (hM.to rfl) hs0))

theorem State.prepLine_frame {M : Nat} {s0 : State} {s : State} {l : ℕ} {write : Bool} (hM : Covers M 0x1136855d08e3b2) (hs0 : Frame M s0 s) :
    Frame M s0 (State.prepLine s l write) := by
  unfold State.prepLine
  extract_lets v1
  exact (ite_rule hs0 (State.cohRequest_frame (hM.to rfl) hs0))

theorem State.prepLines_frame {M : Nat} {s0 : State} {s : State} {ls : List ℕ} {write : Bool} (hM : Covers M 0x1136855d08e3b2) (hs0 : Frame M s0 s) :
    SndP (Frame M s0) (State.prepLines s ls write) := by
  unfold State.prepLines
  extract_lets v1
  have h2 : Frame M s0 v1 := (fold_rule hs0 fun x3 b4 h5 => (State.prepLine_frame (hM.to rfl) h5))
  clear_value v1
  exact h2

theorem State.waitAcc_frame {M : Nat} {s0 : State} {s : State} {h : HeldAcc} (hM : Covers M 0x80020) (hs0 : Frame M s0 s) :
    Frame M s0 (State.waitAcc s h) := by
  unfold State.waitAcc
  extract_lets v1 v2
  have h3 : Frame M s0 v1 := (ite_rule (State.wakeSlots_frame (hM.to rfl) hs0) hs0)
  clear_value v1
  exact (Frame.upd_coh (hM.to rfl) h3)

theorem State.countHome_frame {M : Nat} {s0 : State} {s : State} {r : Reply} {status : ℕ} (hM : Covers M 0x8800d000200) (hs0 : Frame M s0 s) :
    Frame M s0 (State.countHome s r status) := by
  unfold State.countHome
  split
  · rename_i w1 w2 w3 w4 w5
    extract_lets v6 v7
    have h8 : Frame M s0 v6 := (ite_rule (State.inc_frame hs0 (hM.fam .gw rfl) rfl) hs0)
    clear_value v6
    have h9 : Frame M s0 v7 := (ite_rule (State.cnt_frame (hM.to rfl) h8) h8)
    clear_value v7
    exact (ite_rule (State.err_frame (hM.to rfl) h9 (hM.fam .gw rfl)) (ite_rule (State.err_frame (hM.to rfl) h9 (hM.fam .gw rfl)) h9))
  · rename_i w10 w11
    exact hs0

theorem State.answer_frame {M : Nat} {s0 : State} {s : State} {r : Reply} {status : ℕ} {data : List Byte} {poison : ℕ} (hM : Covers M 0x1124800d0023a0) (hs0 : Frame M s0 s) :
    Frame M s0 (State.answer s r status data poison) := by
  unfold State.answer
  split
  · rename_i w1
    exact hs0
  · rename_i w2 w3 w4 w5
    exact (State.dcpAnswer_frame (hM.to rfl) hs0)
  · rename_i w6 w7 w8 w9 w10
    exact (State.queueLoose_frame (hM.to rfl) hs0)

theorem State.dropLost_frame {M : Nat} {s0 : State} {s : State} (hM : Covers M 0x80000) (hs0 : Frame M s0 s) :
    Frame M s0 (State.dropLost s) := by
  unfold State.dropLost
  exact (Frame.upd_coh (hM.to rfl) hs0)

theorem State.performAcc_frame {M : Nat} {s0 : State} {s : State} {h : HeldAcc} (hM : Covers M 0x1f2e855d09fbb2) (hs0 : Frame M s0 s) :
    Frame M s0 (State.performAcc s h) := by
  unfold State.performAcc
  extract_lets v1 v2 v3 v4 v5 v6
  have h7 : StP (Frame M s0) v3 := by
    unfold v3
    split
    · rename_i w8 w9
      exact (State.readAs_frame (hM.to rfl) hs0)
    · rename_i w10 w11
      exact (State.writeStrobed_frame (hM.to rfl) hs0)
    · rename_i w12 w13 w14
      exact (State.atomicAs_frame (hM.to rfl) hs0)
  clear_value v3
  have h15 : Frame M s0 v6 := (ite_rule h7 (State.dropLost_frame (hM.to rfl) h7))
  clear_value v6
  exact (State.answer_frame (hM.to rfl) (State.countHome_frame (hM.to rfl) h15))

theorem State.access_frame {M : Nat} {s0 : State} {s : State} {h : HeldAcc} (hM : Covers M 0x1f3e855d09fbb2) (hs0 : Frame M s0 s) :
    Frame M s0 (State.access s h) := by
  unfold State.access
  extract_lets v1 v2
  have h3 : SndP (Frame M s0) v2 := (State.prepLines_frame (hM.to rfl) hs0)
  clear_value v2
  exact (ite_rule (State.performAcc_frame (hM.to rfl) hs0) (ite_rule (State.waitAcc_frame (hM.to rfl) hs0) (ite_rule (State.performAcc_frame (hM.to rfl) h3) (State.waitAcc_frame (hM.to rfl) h3))))

theorem State.doAccess_frame {M : Nat} {s0 : State} {s : State} {h : HeldAcc} (hM : Covers M 0x1f3e855d09fbb2) (hs0 : Frame M s0 s) :
    Frame M s0 (State.doAccess s h) := by
  unfold State.doAccess
  exact (ite_rule (State.waitAcc_frame (hM.to rfl) hs0) (ite_rule (Frame.upd_sync (hM.to rfl) hs0) (State.access_frame (hM.to rfl) hs0)))

theorem State.cohAll_frame {M : Nat} {s0 : State} {s : State} (hM : Covers M 0x1136855d08e3b2) (hs0 : Frame M s0 s) :
    Frame M s0 (State.cohAll s) := by
  unfold State.cohAll
  extract_lets v1
  exact (State.cohRun_frame (hM.to rfl) hs0)

theorem State.runWaits_frame {M : Nat} {s0 : State} {s : State} (hM : Covers M 0x1f3e855d09fbb2) (hs0 : Frame M s0 s) :
    Frame M s0 (State.runWaits s) := by
  unfold State.runWaits
  extract_lets v1 v2
  have h3 : Frame M s0 v1 := (State.cohAll_frame (hM.to rfl) hs0)
  clear_value v1
  exact (fold_rule (Frame.upd_coh (hM.to rfl) h3) fun x4 b5 h6 => (State.doAccess_frame (hM.to rfl) h6))

theorem State.flushTx_frame {M : Nat} {s0 : State} {s : State} {e : ℕ × DirLine} (hM : Covers M 0x1126855d08e3b2) (hs0 : Frame M s0 s) :
    Frame M s0 (State.flushTx s e) := by
  unfold State.flushTx
  split
  · rename_i w1 w2 w3
    extract_lets v4
    have h5 : Frame M s0 v4 := by
      unfold v4
      split
      · rename_i w6 w7 w8
        exact (State.homeWrite_frame (hM.to rfl) hs0)
      · rename_i w9 w10
        exact hs0
    clear_value v4
    exact (ite_rule (State.homeReply_frame (hM.to rfl) h5) h5)
  · rename_i w11 w12
    exact hs0

theorem State.finishFlush_frame {M : Nat} {s0 : State} {s : State} (hM : Covers M 0x1f3e855d09fbb2) (hs0 : Frame M s0 s) :
    Frame M s0 (State.finishFlush s) := by
  unfold State.finishFlush
  refine (ite_rule hs0 ?_)
  extract_lets v1 v2 v3 v4 v5 v6 v7
  have h8 : Frame M s0 v2 := (fold_rule hs0 fun x9 b10 h11 => (State.flushTx_frame (hM.to rfl) h11))
  clear_value v2
  have h12 : Frame M s0 v6 := (State.showDir_frame (hM.to rfl) (Frame.upd_coh (hM.to rfl) h8))
  clear_value v6
  have h13 : Frame M s0 v7 := (State.wr_frame h12 (hM.fam .coh rfl) rfl)
  clear_value v7
  exact (State.runWaits_frame (hM.to rfl) (ite_rule (fold_rule (State.wr_frame h13 (hM.fam .coh rfl) rfl) fun x14 b15 h16 => (State.noHerd_frame (hM.to rfl) h16)) h13))

theorem State.memberFlushed_frame {M : Nat} {s0 : State} {s : State} {slot : ℕ} (hM : Covers M 0x1f3e855d09fbb2) (hs0 : Frame M s0 s) :
    Frame M s0 (State.memberFlushed s slot) := by
  unfold State.memberFlushed
  exact (State.finishFlush_frame (hM.to rfl) (Frame.upd_coh (hM.to rfl) hs0))

theorem State.flushHerd_frame {M : Nat} {s0 : State} {s : State} {disabling : Bool} (hM : Covers M 0x1f3e855d09fbb2) (hs0 : Frame M s0 s) :
    Frame M s0 (State.flushHerd s disabling) := by
  unfold State.flushHerd
  extract_lets v1 v2 v3 v4
  have h5 : Frame M s0 v2 := (State.wr_frame hs0 (hM.fam .coh rfl) rfl)
  clear_value v2
  have h6 : Frame M s0 v4 := (Frame.upd_coh (hM.to rfl) h5)
  clear_value v4
  exact (fold_rule h6 fun x7 b8 h9 => (ite_rule (ite_rule (State.memberFlushed_frame (hM.to rfl) (State.loseMember_frame (hM.to rfl) h9)) (State.snoopCompute_frame (hM.to rfl) h9)) (State.sendCoh_frame (hM.to rfl) h9)))

theorem State.opCohDisable_frame {M : Nat} {s0 : State} {s : State} (hM : Covers M 0x1f3e855d09fbb2) (hs0 : Frame M s0 s) :
    Frame M s0 (State.opCohDisable s) := by
  unfold State.opCohDisable
  extract_lets v1
  have h2 : Frame M s0 v1 := (State.wr_frame hs0 (hM.fam .coh rfl) rfl)
  clear_value v1
  exact (ite_rule (State.flushHerd_frame (hM.to rfl) h2) h2)

theorem execCohDisable_frame {M : Nat} {s0 : State} {p : Party} {s : State} (hM : Covers M 0x1f3e855d09fbba) (hs1 : Frame M s0 s) :
    NextP (Frame M s0) (execCohDisable p s) := by
  unfold execCohDisable
  exact (State.action_frame (hM.to rfl) hs1 (hM.fam .coh rfl) (fun x1 h2 => (State.opCohDisable_frame (hM.to rfl) h2)))

theorem State.opCohEnable_frame {M : Nat} {s0 : State} {s : State} (hM : Covers M 0x10800c000200) (hs0 : Frame M s0 s) :
    Frame M s0 (State.opCohEnable s) := by
  unfold State.opCohEnable
  refine (ite_rule hs0 ?_)
  extract_lets v1
  exact (ite_rule (State.wr_frame (State.wr_frame (State.wr_frame hs0 (hM.fam .coh rfl) rfl) (hM.fam .coh rfl) rfl) (hM.fam .coh rfl) rfl) (State.err_frame (hM.to rfl) (State.wr_frame hs0 (hM.fam .coh rfl) rfl) (hM.fam .coh rfl)))

theorem execCohEnable_frame {M : Nat} {s0 : State} {p : Party} {s : State} (hM : Covers M 0x10800c000208) (hs1 : Frame M s0 s) :
    NextP (Frame M s0) (execCohEnable p s) := by
  unfold execCohEnable
  exact (State.action_frame (hM.to rfl) hs1 (hM.fam .coh rfl) (fun x1 h2 => (State.opCohEnable_frame (hM.to rfl) h2)))

theorem State.gaitWrote_frame {M : Nat} {s0 : State} {s : State} {ls : List ℕ} (hM : Covers M 0x1136855d08e3b2) (hs0 : Frame M s0 s) :
    Frame M s0 (State.gaitWrote s ls) := by
  unfold State.gaitWrote
  exact (fold_rule hs0 fun x1 b2 h3 => (ite_rule (State.cohRequest_frame (hM.to rfl) h3) h3))

theorem State.opCohAnswer_frame {M : Nat} {s0 : State} {s : State} {src : ℕ} {l : ℕ} {tag : ℕ} {data : Option (List Byte × Bool)} (hM : Covers M 0x1f3e855d09fbb2) (hs0 : Frame M s0 s) :
    Frame M s0 (State.opCohAnswer s src l tag data) := by
  unfold State.opCohAnswer
  split
  · rename_i w1 w2
    exact (State.cohStray_frame (hM.to rfl) hs0)
  · rename_i w3 w4 w5
    exact (State.runWaits_frame (hM.to rfl) (State.cohGo_frame (hM.to rfl) (State.memberAnswer_frame (hM.to rfl) hs0)))

theorem State.snoopAnswered_frame {M : Nat} {s0 : State} {s : State} {tid : ℕ} {data : Option (List Byte)} (hM : Covers M 0x1f3e855d09fbb2) (hs0 : Frame M s0 s) :
    Frame M s0 (State.snoopAnswered s tid data) := by
  unfold State.snoopAnswered
  split
  · rename_i w1 w2
    exact hs0
  · rename_i w3 w4 w5 w6 w7 w8
    extract_lets v9 v10
    have h11 : Frame M s0 v10 := (Frame.upd_coh (hM.to rfl) hs0)
    exact (ite_rule (ite_rule (State.memberFlushed_frame (hM.to rfl) h11) (State.opCohAnswer_frame (hM.to rfl) h11)) (ite_rule (State.sendCoh_frame (hM.to rfl) h11) (ite_rule (State.sendCoh_frame (hM.to rfl) h11) (State.sendCoh_frame (hM.to rfl) h11))))

theorem State.opEvs_frame {M : Nat} {s0 : State} {s : State} {l : ℕ} {slot : ℕ} (hM : Covers M 0x100000080000) (hs0 : Frame M s0 s) :
    Frame M s0 (State.opEvs s l slot) := by
  unfold State.opEvs
  split
  · rename_i w1 w2 w3
    exact (State.setDir_frame (hM.to rfl) hs0)
  · rename_i w4 w5
    exact hs0

theorem execSnpRsp_frame {M : Nat} {s0 : State} {src : ℕ} {tag : ℕ} {line : ℕ} {data : Option LineData} {lost : Bool} {s : State} (hM : Covers M 0x1f3e855d09fbb2) (hs5 : Frame M s0 s) :
    NextP (Frame M s0) (execSnpRsp src tag line data lost s) := by
  unfold execSnpRsp
  exact (guarded_frame hs5 (fun x1 h2 => (State.opCohAnswer_frame (hM.to rfl) h2)))

theorem State.opCohTimeout_frame {M : Nat} {s0 : State} {l : ℕ} {member : ℕ} {s : State} (hM : Covers M 0x1f3e855d09fbb2) (hs2 : Frame M s0 s) :
    Frame M s0 (State.opCohTimeout l member s) := by
  unfold State.opCohTimeout
  refine (ite_rule (State.memberFlushed_frame (hM.to rfl) (State.err_frame (hM.to rfl) (State.loseMember_frame (hM.to rfl) hs2) (hM.fam .coh rfl))) ?_)
  split
  · rename_i w1 w2
    exact hs2
  · rename_i w3 w4 w5
    refine (ite_rule hs2 ?_)
    extract_lets v6
    have h7 : Frame M s0 v6 := (State.err_frame (hM.to rfl) hs2 (hM.fam .coh rfl))
    clear_value v6
    exact (State.runWaits_frame (hM.to rfl) (State.cohGo_frame (hM.to rfl) (State.memberAnswer_frame (hM.to rfl) h7)))

theorem execCohTimeout_frame {M : Nat} {s0 : State} {line : ℕ} {member : ℕ} {s : State} (hM : Covers M 0x1f3e855d09fbb2) (hs2 : Frame M s0 s) :
    NextP (Frame M s0) (execCohTimeout line member s) := by
  unfold execCohTimeout
  exact (guarded_frame hs2 (fun x1 h2 => (State.opCohTimeout_frame (hM.to rfl) h2)))

theorem State.opCohReq_frame {M : Nat} {s0 : State} {s : State} {src : ℕ} {l : ℕ} {op : ℕ} {tag : ℕ} {share : ℕ} (hM : Covers M 0x1f3e855d09fbb2) (hs0 : Frame M s0 s) :
    Frame M s0 (State.opCohReq s src l op tag share) := by
  unfold State.opCohReq
  split
  · rename_i w1 w2
    exact (State.cohStray_frame (hM.to rfl) hs0)
  · rename_i w3 w4 w5
    split
    · rename_i w6 w7 w8 w9
      exact (State.sendCoh_frame (hM.to rfl) (State.refuse_frame (hM.to rfl) hs0))
    · rename_i w10 w11
      exact (State.runWaits_frame (hM.to rfl) (State.cohRequest_frame (hM.to rfl) hs0))

theorem execCohRdM_frame {M : Nat} {s0 : State} {src : CohSrc} {tag : ℕ} {line : ℕ} {s : State} (hM : Covers M 0x1f3e855d09fbb2) (hs3 : Frame M s0 s) :
    NextP (Frame M s0) (execCohRdM src tag line s) := by
  unfold execCohRdM
  exact (guarded_frame hs3 (fun x1 h2 => (State.opCohReq_frame (hM.to rfl) h2)))

theorem State.releaseHeld_frame {M : Nat} {s0 : State} {s : State} (hM : Covers M 0x1f3e855d09fbb2) (hs0 : Frame M s0 s) :
    Frame M s0 (State.releaseHeld s) := by
  unfold State.releaseHeld
  exact (State.runWaits_frame (hM.to rfl) (Frame.upd_sync_coh (hM.to rfl) hs0))

theorem State.opWb_frame {M : Nat} {s0 : State} {s : State} {l : ℕ} {slot : ℕ} {tag : ℕ} {data : List Byte} {poison : Bool} (hM : Covers M 0x1136855d08e3b2) (hs0 : Frame M s0 s) :
    Frame M s0 (State.opWb s l slot tag data poison) := by
  unfold State.opWb
  extract_lets v1 v2 v3
  have h4 : Frame M s0 v2 := (State.homeWrite_frame (hM.to rfl) hs0)
  clear_value v2
  refine (ite_rule (State.homeReply_frame (hM.to rfl) (ite_rule (State.putLine_frame (hM.to rfl) h4) h4)) (ite_rule ?_ (State.homeReply_frame (hM.to rfl) hs0)))
  split
  · rename_i w5 w6
    exact (State.cohGo_frame (hM.to rfl) (State.putLine_frame (hM.to rfl) hs0))
  · rename_i w7 w8 w9
    exact (State.cohGo_frame (hM.to rfl) (State.homeReply_frame (hM.to rfl) (State.putLine_frame (hM.to rfl) hs0)))

theorem State.opFlushDone_frame {M : Nat} {s0 : State} {src : ℕ} {s : State} (hM : Covers M 0x1f3e855d09fbb2) (hs1 : Frame M s0 s) :
    Frame M s0 (State.opFlushDone src s) := by
  unfold State.opFlushDone
  split
  · rename_i w1 w2
    exact (State.cohStray_frame (hM.to rfl) hs1)
  · rename_i w3 w4 w5
    exact (ite_rule (State.memberFlushed_frame (hM.to rfl) hs1) hs1)

theorem execCohUpg_frame {M : Nat} {s0 : State} {src : ℕ} {tag : ℕ} {line : ℕ} {s : State} (hM : Covers M 0x1f3e855d09fbb2) (hs3 : Frame M s0 s) :
    NextP (Frame M s0) (execCohUpg src tag line s) := by
  unfold execCohUpg
  exact (guarded_frame hs3 (fun x1 h2 => (State.opCohReq_frame (hM.to rfl) h2)))

theorem execSnrFlushDone_frame {M : Nat} {s0 : State} {tid : ℕ} {s : State} (hM : Covers M 0x1f3e855d09fbb2) (hs1 : Frame M s0 s) :
    NextP (Frame M s0) (execSnrFlushDone tid s) := by
  unfold execSnrFlushDone
  exact (guarded_frame hs1 (fun x1 h2 => (State.snoopAnswered_frame (hM.to rfl) h2)))

theorem execUpgAck_frame {M : Nat} {s0 : State} {_src : ℕ} {tag : ℕ} {status : ℕ} {s : State} (hM : Covers M 0x800c080200) (hs3 : Frame M s0 s) :
    NextP (Frame M s0) (execUpgAck _src tag status s) := by
  unfold execUpgAck
  exact (guarded_frame hs3 (fun x1 h2 => (State.ownCoh_frame (hM.to rfl) h2)))

theorem State.opCohWb_frame {M : Nat} {s0 : State} {s : State} {src : ℕ} {l : ℕ} {tag : ℕ} {share : ℕ} {data : List Byte} {poison : Bool} (hM : Covers M 0x1f3e855d09fbb2) (hs0 : Frame M s0 s) :
    Frame M s0 (State.opCohWb s src l tag share data poison) := by
  unfold State.opCohWb
  split
  · rename_i w1 w2
    exact (State.cohStray_frame (hM.to rfl) hs0)
  · rename_i w3 w4 w5
    split
    · rename_i w6 w7 w8 w9
      extract_lets v10
      have h11 : Frame M s0 v10 := (State.refuse_frame (hM.to rfl) hs0)
      clear_value v10
      exact (State.runWaits_frame (hM.to rfl) (State.homeReply_frame (hM.to rfl) (ite_rule (State.setDir_frame (hM.to rfl) h11) h11)))
    · rename_i w12 w13
      exact (State.runWaits_frame (hM.to rfl) (State.opWb_frame (hM.to rfl) hs0))

theorem execInvAck_frame {M : Nat} {s0 : State} {src : ℕ} {tag : ℕ} {line : ℕ} {s : State} (hM : Covers M 0x1f3e855d09fbb2) (hs3 : Frame M s0 s) :
    NextP (Frame M s0) (execInvAck src tag line s) := by
  unfold execInvAck
  exact (guarded_frame hs3 (fun x1 h2 => (State.opCohAnswer_frame (hM.to rfl) h2)))

theorem State.opMemberSnoop_frame {M : Nat} {s0 : State} {s : State} {src : ℕ} {cm : ℕ} {tag : ℕ} {addr : ℕ} (hM : Covers M 0x1124800d0823a0) (hs0 : Frame M s0 s) :
    Frame M s0 (State.opMemberSnoop s src cm tag addr) := by
  unfold State.opMemberSnoop
  refine (ite_rule ?_ (State.snoopCompute_frame (hM.to rfl) hs0))
  extract_lets v1
  exact (ite_rule (State.sendCoh_frame (hM.to rfl) hs0) (ite_rule (State.sendCoh_frame (hM.to rfl) hs0) (State.sendCoh_frame (hM.to rfl) hs0)))

theorem State.opCohEvs_frame {M : Nat} {s0 : State} {s : State} {src : ℕ} {l : ℕ} (hM : Covers M 0x1f3e855d09fbb2) (hs0 : Frame M s0 s) :
    Frame M s0 (State.opCohEvs s src l) := by
  unfold State.opCohEvs
  split
  · rename_i w1 w2
    exact (State.cohStray_frame (hM.to rfl) hs0)
  · rename_i w3 w4 w5
    exact (State.runWaits_frame (hM.to rfl) (State.opEvs_frame (hM.to rfl) hs0))

theorem execCohEvs_frame {M : Nat} {s0 : State} {src : ℕ} {_tag : ℕ} {line : ℕ} {s : State} (hM : Covers M 0x1f3e855d09fbb2) (hs3 : Frame M s0 s) :
    NextP (Frame M s0) (execCohEvs src _tag line s) := by
  unfold execCohEvs
  exact (guarded_frame hs3 (fun x1 h2 => (State.opCohEvs_frame (hM.to rfl) h2)))

theorem execFlushDone_frame {M : Nat} {s0 : State} {src : ℕ} {_tag : ℕ} {s : State} (hM : Covers M 0x1f3e855d09fbb2) (hs2 : Frame M s0 s) :
    NextP (Frame M s0) (execFlushDone src _tag s) := by
  unfold execFlushDone
  exact (guarded_frame hs2 (fun x1 h2 => (State.opFlushDone_frame (hM.to rfl) h2)))

theorem execDataS_frame {M : Nat} {s0 : State} {_src : ℕ} {tag : ℕ} {status : ℕ} {data : List Byte} {poison : ℕ} {s : State} (hM : Covers M 0x800c080200) (hs5 : Frame M s0 s) :
    NextP (Frame M s0) (execDataS _src tag status data poison s) := by
  unfold execDataS
  exact (guarded_frame hs5 (fun x1 h2 => (State.ownCoh_frame (hM.to rfl) h2)))

theorem execCohRdS_frame {M : Nat} {s0 : State} {src : CohSrc} {tag : ℕ} {line : ℕ} {s : State} (hM : Covers M 0x1f3e855d09fbb2) (hs3 : Frame M s0 s) :
    NextP (Frame M s0) (execCohRdS src tag line s) := by
  unfold execCohRdS
  exact (guarded_frame hs3 (fun x1 h2 => (State.opCohReq_frame (hM.to rfl) h2)))

theorem execHerdFlush_frame {M : Nat} {s0 : State} {src : ℕ} {tag : ℕ} {s : State} (hM : Covers M 0x1124800d0823a0) (hs2 : Frame M s0 s) :
    NextP (Frame M s0) (execHerdFlush src tag s) := by
  unfold execHerdFlush
  exact (guarded_frame hs2 (fun x1 h2 => (State.opMemberSnoop_frame (hM.to rfl) h2)))

theorem execSnrSnpRsp_frame {M : Nat} {s0 : State} {tid : ℕ} {data : Option (List Byte)} {s : State} (hM : Covers M 0x1f3e855d09fbb2) (hs2 : Frame M s0 s) :
    NextP (Frame M s0) (execSnrSnpRsp tid data s) := by
  unfold execSnrSnpRsp
  exact (guarded_frame hs2 (fun x1 h2 => (State.snoopAnswered_frame (hM.to rfl) h2)))

theorem execInv_frame {M : Nat} {s0 : State} {src : ℕ} {tag : ℕ} {line : ℕ} {s : State} (hM : Covers M 0x1124800d0823a0) (hs3 : Frame M s0 s) :
    NextP (Frame M s0) (execInv src tag line s) := by
  unfold execInv
  exact (guarded_frame hs3 (fun x1 h2 => (State.opMemberSnoop_frame (hM.to rfl) h2)))

theorem execSnpI_frame {M : Nat} {s0 : State} {src : ℕ} {tag : ℕ} {line : ℕ} {s : State} (hM : Covers M 0x1124800d0823a0) (hs3 : Frame M s0 s) :
    NextP (Frame M s0) (execSnpI src tag line s) := by
  unfold execSnpI
  exact (guarded_frame hs3 (fun x1 h2 => (State.opMemberSnoop_frame (hM.to rfl) h2)))

theorem execWbAck_frame {M : Nat} {s0 : State} {_src : ℕ} {tag : ℕ} {status : ℕ} {s : State} (hM : Covers M 0x800c080200) (hs3 : Frame M s0 s) :
    NextP (Frame M s0) (execWbAck _src tag status s) := by
  unfold execWbAck
  exact (guarded_frame hs3 (fun x1 h2 => (State.ownCoh_frame (hM.to rfl) h2)))

theorem execDataM_frame {M : Nat} {s0 : State} {_src : ℕ} {tag : ℕ} {status : ℕ} {data : List Byte} {poison : ℕ} {s : State} (hM : Covers M 0x800c080200) (hs5 : Frame M s0 s) :
    NextP (Frame M s0) (execDataM _src tag status data poison s) := by
  unfold execDataM
  exact (guarded_frame hs5 (fun x1 h2 => (State.ownCoh_frame (hM.to rfl) h2)))

theorem execSnpS_frame {M : Nat} {s0 : State} {src : ℕ} {tag : ℕ} {line : ℕ} {s : State} (hM : Covers M 0x1124800d0823a0) (hs3 : Frame M s0 s) :
    NextP (Frame M s0) (execSnpS src tag line s) := by
  unfold execSnpS
  exact (guarded_frame hs3 (fun x1 h2 => (State.opMemberSnoop_frame (hM.to rfl) h2)))

theorem execSnrInvAck_frame {M : Nat} {s0 : State} {tid : ℕ} {s : State} (hM : Covers M 0x1f3e855d09fbb2) (hs1 : Frame M s0 s) :
    NextP (Frame M s0) (execSnrInvAck tid s) := by
  unfold execSnrInvAck
  exact (guarded_frame hs1 (fun x1 h2 => (State.snoopAnswered_frame (hM.to rfl) h2)))

theorem execCohWb_frame {M : Nat} {s0 : State} {src : CohSrc} {tag : ℕ} {line : ℕ} {data : LineData} {s : State} (hM : Covers M 0x1f3e855d09fbb2) (hs4 : Frame M s0 s) :
    NextP (Frame M s0) (execCohWb src tag line data s) := by
  unfold execCohWb
  exact (guarded_frame hs4 (fun x1 h2 => (State.opCohWb_frame (hM.to rfl) h2)))

end Sys2Proof.Machine
end

