-- ==== Sys2Proof/Laws/FrameSync.lean ====
section
/-! SUPPORT. What each operation and each meaning of Machine/Sync.lean can change: it keeps the frame `Frame M s0` for every set `M` that
has the parts it names, given that its arguments keep it. -/

namespace Sys2Proof.Machine

theorem State.sendHitch_frame {M : Nat} {s0 : State} {s : State} {port : ℕ} {dst : ℕ} {r : HitchRec} (hM : Covers M 0x1124800d0023a0) (hs0 : Frame M s0 s) :
    Frame M s0 (State.sendHitch s port dst r) := by
  unfold State.sendHitch
  exact (State.cnt_frame (hM.to rfl) (State.queueLoose_frame (hM.to rfl) hs0))

theorem State.showHitch_frame {M : Nat} {s0 : State} {s : State} (hM : Covers M 0x400000000000) (hs0 : Frame M s0 s) :
    Frame M s0 (State.showHitch s) := by
  unfold State.showHitch
  extract_lets v1 v2 v3
  have h4 : Frame M s0 v3 := (State.wr_frame hs0 (hM.fam .hitch rfl) rfl)
  clear_value v3
  split
  · rename_i w5 w6 w7
    exact (State.wr_frame (State.wr_frame h4 (hM.fam .hitch rfl) rfl) (hM.fam .hitch rfl) rfl)
  · rename_i w8 w9
    exact (State.wr_frame (State.wr_frame h4 (hM.fam .hitch rfl) rfl) (hM.fam .hitch rfl) rfl)

theorem State.setCtr_frame {M : Nat} {s0 : State} {s : State} {hid : ℕ} {c : HitchCtr} (hM : Covers M 0x400000010000) (hs0 : Frame M s0 s) :
    Frame M s0 (State.setCtr s hid c) := by
  unfold State.setCtr
  exact (State.showHitch_frame (hM.to rfl) (Frame.upd_sync (hM.to rfl) hs0))

theorem State.keepKids_frame {M : Nat} {s0 : State} {s : State} {hid : ℕ} {c : HitchCtr} {kids : BitVec 64} (hM : Covers M 0x1164800d0123a0) (hs0 : Frame M s0 s) :
    Frame M s0 (State.keepKids s hid c kids) := by
  unfold State.keepKids
  extract_lets v1
  have h2 : Frame M s0 v1 := (State.setCtr_frame (hM.to rfl) hs0)
  clear_value v1
  exact (ite_rule (State.sendHitch_frame (hM.to rfl) h2) h2)

theorem State.recordArrival_frame {M : Nat} {s0 : State} {s : State} {hid : ℕ} {port : ℕ} {ok : Bool} {cause : ℕ} {lost : ℕ} (hM : Covers M 0x40800c010200) (hs0 : Frame M s0 s) :
    Frame M s0 (State.recordArrival s hid port ok cause lost) := by
  unfold State.recordArrival
  extract_lets v1 v2 v3 v4
  have h5 : Frame M s0 v4 := (State.setCtr_frame (hM.to rfl) hs0)
  clear_value v4
  exact (ite_rule (State.err_frame (hM.to rfl) h5 (hM.fam .hitch rfl)) h5)

theorem State.closeOcc_frame {M : Nat} {s0 : State} {s : State} {hid : ℕ} (hM : Covers M 0x1164804d0123a0) (hs0 : Frame M s0 s) :
    Frame M s0 (State.closeOcc s hid) := by
  unfold State.closeOcc
  extract_lets v1 v2
  exact (ite_rule (State.haPost_frame (hM.to rfl) (State.setCtr_frame (hM.to rfl) hs0)) (State.keepKids_frame (hM.to rfl) hs0))

theorem State.sendHitches_frame {M : Nat} {s0 : State} {s : State} {ports : List ℕ} {r : HitchRec} (hM : Covers M 0x1124800d0023a0) (hs0 : Frame M s0 s) :
    Frame M s0 (State.sendHitches s ports r) := by
  unfold State.sendHitches
  exact (fold_rule hs0 fun x1 b2 h3 => (State.sendHitch_frame (hM.to rfl) h3))

theorem State.finishOcc_frame {M : Nat} {s0 : State} {s : State} {hid : ℕ} (hM : Covers M 0x1164804d0123a0) (hs0 : Frame M s0 s) :
    Frame M s0 (State.finishOcc s hid) := by
  unfold State.finishOcc
  extract_lets v1 v2 v3 v4 v5 v6 v7
  have h8 : Frame M s0 v5 := (State.sendHitches_frame (hM.to rfl) hs0)
  clear_value v5
  have h9 : Frame M s0 v6 := (State.setCtr_frame (hM.to rfl) hs0)
  clear_value v6
  exact (ite_rule hs0 (ite_rule (State.closeOcc_frame (hM.to rfl) h8) (State.sendHitch_frame (hM.to rfl) h9)))

theorem State.actHeld_frame {M : Nat} {s0 : State} {s : State} {hid : ℕ} (hM : Covers M 0x1164804d0123a0) (hs0 : Frame M s0 s) :
    Frame M s0 (State.actHeld s hid) := by
  unfold State.actHeld
  extract_lets v1
  exact (ite_rule hs0 (State.finishOcc_frame (hM.to rfl) (fold_rule (State.setCtr_frame (hM.to rfl) hs0) fun x2 b3 h4 => (State.recordArrival_frame (hM.to rfl) h4))))

theorem State.abandonRel_frame {M : Nat} {s0 : State} {s : State} {hid : ℕ} (hM : Covers M 0x1164804d0123a0) (hs0 : Frame M s0 s) :
    Frame M s0 (State.abandonRel s hid) := by
  unfold State.abandonRel
  extract_lets v1 v2
  exact (State.actHeld_frame (hM.to rfl) (State.err_frame (hM.to rfl) (State.keepKids_frame (hM.to rfl) hs0) (hM.fam .hitch rfl)))

theorem State.advanceCtr_frame {M : Nat} {s0 : State} {s : State} {hid : ℕ} (hM : Covers M 0x1164804d0123a0) (hs0 : Frame M s0 s) :
    Frame M s0 (State.advanceCtr s hid) := by
  unfold State.advanceCtr
  exact (State.actHeld_frame (hM.to rfl) (State.finishOcc_frame (hM.to rfl) hs0))

theorem State.hitchPortLost_frame {M : Nat} {s0 : State} {s : State} {port : ℕ} (hM : Covers M 0x1164804d0123a0) (hs0 : Frame M s0 s) :
    Frame M s0 (State.hitchPortLost s port) := by
  unfold State.hitchPortLost
  refine (fold_rule hs0 fun x1 b2 h3 => ?_)
  extract_lets v4
  split
  · rename_i w5 w6
    exact (ite_rule (State.advanceCtr_frame (hM.to rfl) (State.err_frame (hM.to rfl) (State.setCtr_frame (hM.to rfl) h3) (hM.fam .hitch rfl))) h3)
  · rename_i w7 w8
    exact (ite_rule (State.abandonRel_frame (hM.to rfl) h3) h3)
  · rename_i w9 w10 w11
    exact h3

theorem State.arriveAt_frame {M : Nat} {s0 : State} {s : State} {hid : ℕ} {epoch : ℕ} {ok : Bool} {cause : ℕ} (hM : Covers M 0x1124800d0023a0) (hs0 : Frame M s0 s) :
    Frame M s0 (State.arriveAt s hid epoch ok cause) := by
  unfold State.arriveAt
  exact (State.sendHitch_frame (hM.to rfl) hs0)

theorem State.sendArrive_frame {M : Nat} {s0 : State} {s : State} {hid : ℕ} {ok : Bool} {cause : ℕ} (hM : Covers M 0x1124800d0123a0) (hs0 : Frame M s0 s) :
    Frame M s0 (State.sendArrive s hid ok cause) := by
  unfold State.sendArrive
  exact (State.arriveAt_frame (hM.to rfl) (Frame.upd_sync (hM.to rfl) hs0))

theorem State.plainArrival_frame {M : Nat} {s0 : State} {s : State} {hid : ℕ} {ok : Bool} (hM : Covers M 0x1124800d0123a0) (hs0 : Frame M s0 s) :
    Frame M s0 (State.plainArrival s hid ok) := by
  unfold State.plainArrival
  refine (ite_rule (State.sendArrive_frame (hM.to rfl) hs0) ?_)
  extract_lets v1 v2
  exact (State.arriveAt_frame (hM.to rfl) (Frame.upd_sync (hM.to rfl) hs0))

theorem State.saveRecord_frame {M : Nat} {s0 : State} {s : State} (hM : Covers M 0x1f02855d01dbb2) (hs0 : Frame M s0 s) :
    Frame M s0 (State.saveRecord s) := by
  unfold State.saveRecord
  split
  · rename_i w1 w2
    exact hs0
  · rename_i w3 w4 w5
    exact (State.writeAs_frame (hM.to rfl) hs0)

theorem State.markStepBad_frame {M : Nat} {s0 : State} {s : State} (hM : Covers M 0x1f02855d01dbb2) (hs0 : Frame M s0 s) :
    Frame M s0 (State.markStepBad s) := by
  unfold State.markStepBad
  exact (ite_rule hs0 (State.saveRecord_frame (hM.to rfl) (Frame.upd_sync (hM.to rfl) hs0)))

theorem State.sigInvalid_frame {M : Nat} {s0 : State} {s : State} (hM : Covers M 0x1f02855d01dbb2) (hs0 : Frame M s0 s) :
    Frame M s0 (State.sigInvalid s) := by
  unfold State.sigInvalid
  exact (State.saveRecord_frame (hM.to rfl) (State.err_frame (hM.to rfl) (Frame.upd_sync (hM.to rfl) hs0) (hM.fam .err rfl)))

theorem State.commitArrival_frame {M : Nat} {s0 : State} {s : State} {ok : Bool} (hM : Covers M 0x1f02855d01dbb2) (hs0 : Frame M s0 s) :
    Frame M s0 (State.commitArrival s ok) := by
  unfold State.commitArrival
  refine (ite_rule (State.sigInvalid_frame (hM.to rfl) hs0) ?_)
  extract_lets v1 v2
  have h3 : Frame M s0 v1 := (ite_rule (State.markStepBad_frame (hM.to rfl) hs0) hs0)
  clear_value v1
  exact (State.saveRecord_frame (hM.to rfl) (Frame.upd_sync (hM.to rfl) h3))

theorem State.applySignal_frame {M : Nat} {s0 : State} {s : State} {ref : ℕ} {status : ℕ} (hM : Covers M 0x1f26855d01fbb2) (hs0 : Frame M s0 s) :
    Frame M s0 (State.applySignal s ref status) := by
  unfold State.applySignal
  refine (ite_rule hs0 ?_)
  extract_lets v1 v2 v3 v4 v5
  have h6 : Frame M s0 v3 := (State.applyFence_frame (hM.to rfl) hs0)
  clear_value v3
  have h7 : Frame M s0 v5 := (ite_rule (State.markStepBad_frame (hM.to rfl) hs0) hs0)
  clear_value v5
  exact (ite_rule (State.sigInvalid_frame (hM.to rfl) hs0) (ite_rule (ite_rule (ite_rule (State.markStepBad_frame (hM.to rfl) h6) h6) (State.sigInvalid_frame (hM.to rfl) hs0)) (ite_rule (State.sigInvalid_frame (hM.to rfl) hs0) (ite_rule (State.commitArrival_frame (hM.to rfl) h7) (State.plainArrival_frame (hM.to rfl) h7)))))

theorem State.endHeld_frame {M : Nat} {s0 : State} {s : State} (hM : Covers M 0x40000000) (hs0 : Frame M s0 s) :
    Frame M s0 (State.endHeld s) := by
  unfold State.endHeld
  exact (ite_rule hs0 (State.haClear_frame (hM.to rfl) hs0))

theorem State.hitchCode_frame {M : Nat} {s0 : State} {s : State} {code : ℕ} (hM : Covers M 0x400000000000) (hs0 : Frame M s0 s) :
    Frame M s0 (State.hitchCode s code) := by
  unfold State.hitchCode
  exact (State.wr_frame (State.wr_frame hs0 (hM.fam .hitch rfl) rfl) (hM.fam .hitch rfl) rfl)

theorem State.counterLost_frame {M : Nat} {s0 : State} {s : State} {hid : ℕ} (hM : Covers M 0x1164804d0123a0) (hs0 : Frame M s0 s) :
    Frame M s0 (State.counterLost s hid) := by
  unfold State.counterLost
  extract_lets v1 v2 v3
  exact (State.advanceCtr_frame (hM.to rfl) (State.err_frame (hM.to rfl) (State.setCtr_frame (hM.to rfl) hs0) (hM.fam .hitch rfl)))

theorem State.touchCtr_frame {M : Nat} {s0 : State} {s : State} {hid : ℕ} (hM : Covers M 0x1164804d0123a0) (hs0 : Frame M s0 s) :
    Frame M s0 (State.touchCtr s hid) := by
  unfold State.touchCtr
  exact (ite_rule (State.struck_frame (hM.to rfl) hs0 (fun x1 h2 => (State.counterLost_frame (hM.to rfl) h2))) hs0)

theorem State.opMemberSet_frame {M : Nat} {s0 : State} {s : State} (hM : Covers M 0x1164804d0123a0) (hs0 : Frame M s0 s) :
    Frame M s0 (State.opMemberSet s) := by
  unfold State.opMemberSet
  extract_lets v1 v2 v3 v4 v5
  have h6 : Frame M s0 v2 := (State.touchCtr_frame (hM.to rfl) hs0)
  clear_value v2
  exact (ite_rule (State.hitchCode_frame (hM.to rfl) h6) (ite_rule (State.hitchCode_frame (hM.to rfl) h6) (ite_rule (State.hitchCode_frame (hM.to rfl) h6) (State.hitchCode_frame (hM.to rfl) (State.endHeld_frame (hM.to rfl) (State.actHeld_frame (hM.to rfl) (State.setCtr_frame (hM.to rfl) h6)))))))

theorem execMemberSet_frame {M : Nat} {s0 : State} {p : Party} {s : State} (hM : Covers M 0x1164804d0123a8) (hs1 : Frame M s0 s) :
    NextP (Frame M s0) (execMemberSet p s) := by
  unfold execMemberSet
  exact (State.action_frame (hM.to rfl) hs1 (hM.fam .hitch rfl) (fun x1 h2 => (State.assisted_frame (hM.to rfl) h2 (fun x3 h4 => (State.opMemberSet_frame (hM.to rfl) h4)))))

theorem State.opHitchClear_frame {M : Nat} {s0 : State} {s : State} (hM : Covers M 0x1164804d0123a0) (hs0 : Frame M s0 s) :
    Frame M s0 (State.opHitchClear s) := by
  unfold State.opHitchClear
  extract_lets v1 v2 v3 v4
  have h5 : Frame M s0 v1 := (State.touchCtr_frame (hM.to rfl) hs0)
  clear_value v1
  have h6 : Frame M s0 v4 := (State.setCtr_frame (hM.to rfl) h5)
  clear_value v4
  exact (State.hitchCode_frame (hM.to rfl) (ite_rule (State.endHeld_frame (hM.to rfl) h6) h6))

theorem execHitchClear_frame {M : Nat} {s0 : State} {p : Party} {s : State} (hM : Covers M 0x1164804d0123a8) (hs1 : Frame M s0 s) :
    NextP (Frame M s0) (execHitchClear p s) := by
  unfold execHitchClear
  exact (State.action_frame (hM.to rfl) hs1 (hM.fam .hitch rfl) (fun x1 h2 => (State.opHitchClear_frame (hM.to rfl) h2)))

theorem State.opHitchRead_frame {M : Nat} {s0 : State} {s : State} (hM : Covers M 0x1164804d0123a0) (hs0 : Frame M s0 s) :
    Frame M s0 (State.opHitchRead s) := by
  unfold State.opHitchRead
  extract_lets v1 v2 v3 v4
  have h5 : Frame M s0 v1 := (State.touchCtr_frame (hM.to rfl) hs0)
  clear_value v1
  have h6 : Frame M s0 v4 := (fold_rule h5 fun x7 b8 h9 => (State.wr_frame (State.wr_frame h9 (hM.fam .hitch rfl) rfl) (hM.fam .hitch rfl) rfl))
  clear_value v4
  exact (State.hitchCode_frame (hM.to rfl) h6)

theorem execHitchCmdRead_frame {M : Nat} {s0 : State} {p : Party} {s : State} (hM : Covers M 0x1164804d0123a8) (hs1 : Frame M s0 s) :
    NextP (Frame M s0) (execHitchCmdRead p s) := by
  unfold execHitchCmdRead
  exact (State.action_frame (hM.to rfl) hs1 (hM.fam .hitch rfl) (fun x1 h2 => (State.opHitchRead_frame (hM.to rfl) h2)))

theorem State.opHitchWrite_frame {M : Nat} {s0 : State} {s : State} (hM : Covers M 0x1164804d0123a0) (hs0 : Frame M s0 s) :
    Frame M s0 (State.opHitchWrite s) := by
  unfold State.opHitchWrite
  extract_lets v1 v2 v3 v4 v5
  have h6 : Frame M s0 v2 := (State.touchCtr_frame (hM.to rfl) hs0)
  clear_value v2
  exact (ite_rule (State.hitchCode_frame (hM.to rfl) h6) (ite_rule (State.hitchCode_frame (hM.to rfl) h6) (ite_rule (State.hitchCode_frame (hM.to rfl) h6) (ite_rule (State.hitchCode_frame (hM.to rfl) h6) (State.hitchCode_frame (hM.to rfl) (State.setCtr_frame (hM.to rfl) h6))))))

theorem execHitchCmdWrite_frame {M : Nat} {s0 : State} {p : Party} {s : State} (hM : Covers M 0x1164804d0123a8) (hs1 : Frame M s0 s) :
    NextP (Frame M s0) (execHitchCmdWrite p s) := by
  unfold execHitchCmdWrite
  exact (State.action_frame (hM.to rfl) hs1 (hM.fam .hitch rfl) (fun x1 h2 => (State.opHitchWrite_frame (hM.to rfl) h2)))

theorem State.noteStopped_frame {M : Nat} {s0 : State} {s : State} (hM : Covers M 0x1f02855d01dbb2) (hs0 : Frame M s0 s) :
    Frame M s0 (State.noteStopped s) := by
  unfold State.noteStopped
  exact (ite_rule (State.saveRecord_frame (hM.to rfl) hs0) hs0)

theorem State.releaseFence_frame {M : Nat} {s0 : State} {s : State} {e : ℕ} {failed : Bool} (hM : Covers M 0x1d02855d00dbb2) (hs0 : Frame M s0 s) :
    Frame M s0 (State.releaseFence s e failed) := by
  unfold State.releaseFence
  extract_lets v1
  exact (ite_rule (State.applyFence_frame (hM.to rfl) hs0) hs0)

theorem State.plainRelease_frame {M : Nat} {s0 : State} {s : State} {hid : ℕ} (hM : Covers M 0x1d02855d01dbb2) (hs0 : Frame M s0 s) :
    Frame M s0 (State.plainRelease s hid) := by
  unfold State.plainRelease
  extract_lets v1 v2
  exact (State.releaseFence_frame (hM.to rfl) (Frame.upd_sync (hM.to rfl) hs0))

theorem State.applyDecision_frame {M : Nat} {s0 : State} {s : State} {ok : Bool} {cause : ℕ} (hM : Covers M 0x1f3e855d09fbb2) (hs0 : Frame M s0 s) :
    Frame M s0 (State.applyDecision s ok cause) := by
  unfold State.applyDecision
  extract_lets v1 v2 v3 v4
  have h5 : Frame M s0 v4 := (Frame.upd_sync (hM.to rfl) hs0)
  clear_value v4
  exact (State.releaseFence_frame (hM.to rfl) (State.releaseHeld_frame (hM.to rfl) (State.saveRecord_frame (hM.to rfl) h5)))

theorem State.staleRelease_frame {M : Nat} {s0 : State} {s : State} (hM : Covers M 0x1f02855d01dbb2) (hs0 : Frame M s0 s) :
    Frame M s0 (State.staleRelease s) := by
  unfold State.staleRelease
  exact (State.saveRecord_frame (hM.to rfl) (State.err_frame (hM.to rfl) (Frame.upd_sync (hM.to rfl) hs0) (hM.fam .err rfl)))

theorem State.memberRelease_frame {M : Nat} {s0 : State} {s : State} {r : HitchRec} (hM : Covers M 0x1f3e855d09fbb2) (hs0 : Frame M s0 s) :
    Frame M s0 (State.memberRelease s r) := by
  unfold State.memberRelease
  exact (ite_rule (State.staleRelease_frame (hM.to rfl) hs0) (ite_rule (ite_rule (State.applyDecision_frame (hM.to rfl) hs0) (State.staleRelease_frame (hM.to rfl) hs0)) (ite_rule (State.staleRelease_frame (hM.to rfl) hs0) (State.plainRelease_frame (hM.to rfl) hs0))))

theorem execStepCfg_frame {M : Nat} {s0 : State} {p : ℕ} {s : State} (hM : Covers M 0x1f02855d01dbb2) (hs1 : Frame M s0 s) :
    NextP (Frame M s0) (execStepCfg p s) := by
  unfold execStepCfg
  refine (State.perform_frame (hM.to rfl) hs1 (fun x1 x2 h3 => ?_))
  extract_lets v4 v5
  exact (ite_rule (State.kres_frame (hM.to rfl) h3) (ite_rule (State.kres_frame (hM.to rfl) h3) (ite_rule (State.kres_frame (hM.to rfl) h3) (State.kres_frame (hM.to rfl) (State.saveRecord_frame (hM.to rfl) (Frame.upd_sync (hM.to rfl) h3))))))

theorem State.smearBy_frame {M : Nat} {s0 : State} {s : State} {f : DataFrame} {num : ℕ} (hM : Covers M 0x1f42855d01dbb2) (hs0 : Frame M s0 s) :
    Frame M s0 (State.smearBy s f num) := by
  unfold State.smearBy
  refine (ite_rule hs0 (ite_rule (State.inc_frame hs0 (hM.fam .hitch rfl) rfl) ?_))
  extract_lets v1
  exact (State.saveRecord_frame (hM.to rfl) (Frame.upd_sync (hM.to rfl) hs0))

theorem State.hitchStale_frame {M : Nat} {s0 : State} {s : State} (hM : Covers M 0x40800c000200) (hs0 : Frame M s0 s) :
    Frame M s0 (State.hitchStale s) := by
  unfold State.hitchStale
  exact (State.err_frame (hM.to rfl) (State.inc_frame hs0 (hM.fam .hitch rfl) rfl) (hM.fam .hitch rfl))

theorem State.opLeave_frame {M : Nat} {s0 : State} {port : ℕ} {r : HitchRec} {s : State} (hM : Covers M 0x1164804d0123a0) (hs2 : Frame M s0 s) :
    Frame M s0 (State.opLeave port r s) := by
  unfold State.opLeave
  extract_lets v1 v2
  have h3 : Frame M s0 v1 := (State.touchCtr_frame (hM.to rfl) hs2)
  clear_value v1
  exact (ite_rule (State.hitchStale_frame (hM.to rfl) h3) (ite_rule (State.keepKids_frame (hM.to rfl) h3) (ite_rule (State.setCtr_frame (hM.to rfl) h3) (State.setCtr_frame (hM.to rfl) h3))))

theorem State.withdrawHeld_frame {M : Nat} {s0 : State} {s : State} (hM : Covers M 0x1164804d0123a0) (hs0 : Frame M s0 s) :
    Frame M s0 (State.withdrawHeld s) := by
  unfold State.withdrawHeld
  refine (fold_rule hs0 fun x1 b2 h3 => ?_)
  extract_lets v4 v5
  exact (ite_rule h3 (State.actHeld_frame (hM.to rfl) (State.keepKids_frame (hM.to rfl) h3)))

theorem State.sendCommit_frame {M : Nat} {s0 : State} {s : State} {ok : Bool} {cause : ℕ} (hM : Covers M 0x1f26855d01fbb2) (hs0 : Frame M s0 s) :
    Frame M s0 (State.sendCommit s ok cause) := by
  unfold State.sendCommit
  extract_lets v1 v2
  exact (State.sendArrive_frame (hM.to rfl) (State.saveRecord_frame (hM.to rfl) (Frame.upd_sync (hM.to rfl) hs0)))

theorem State.doStop_frame {M : Nat} {s0 : State} {s : State} {past : Bool} (hM : Covers M 0x1f66855d01fbb2) (hs0 : Frame M s0 s) :
    Frame M s0 (State.doStop s past) := by
  unfold State.doStop
  extract_lets v1 v2 v3
  have h4 : Frame M s0 v2 := (Frame.upd_sync (hM.to rfl) hs0)
  clear_value v2
  have h5 : Frame M s0 v3 := (ite_rule (State.err_frame (hM.to rfl) h4 (ite_rule (P := fun p : Page => Covers M p.fam.mask) (hM.fam .hitch rfl) (hM.fam .err rfl))) h4)
  clear_value v3
  exact (ite_rule (State.wr_frame (State.wr_frame h5 (hM.fam .hitch rfl) rfl) (hM.fam .hitch rfl) rfl) (ite_rule (State.sendCommit_frame (hM.to rfl) h5) (State.saveRecord_frame (hM.to rfl) h5)))

theorem State.setStopDt_frame {M : Nat} {s0 : State} {s : State} {t : ℕ} (hM : Covers M 0x1f42855d01dbb2) (hs0 : Frame M s0 s) :
    Frame M s0 (State.setStopDt s t) := by
  unfold State.setStopDt
  extract_lets v1 v2
  have h3 : Frame M s0 v2 := (Frame.upd_sync (hM.to rfl) hs0)
  clear_value v2
  exact (ite_rule (State.wrPair_frame h3 (hM.fam .hitch rfl) rfl rfl) (State.saveRecord_frame (hM.to rfl) h3))

theorem State.armStop_frame {M : Nat} {s0 : State} {s : State} {dtNs : ℕ} (hM : Covers M 0x1f66855d01fbb2) (hs0 : Frame M s0 s) :
    Frame M s0 (State.armStop s dtNs) := by
  unfold State.armStop
  refine (ite_rule hs0 (ite_rule (State.doStop_frame (hM.to rfl) (State.setStopDt_frame (hM.to rfl) hs0)) ?_))
  extract_lets v1 v2
  exact (State.setStopDt_frame (hM.to rfl) (Frame.upd_sync (hM.to rfl) hs0))

theorem execHitchJoin_frame {M : Nat} {s0 : State} {p : ℕ} {s : State} (hM : Covers M 0x14800) (hs1 : Frame M s0 s) :
    NextP (Frame M s0) (execHitchJoin p s) := by
  unfold execHitchJoin
  refine (State.perform_frame (hM.to rfl) hs1 (fun x1 x2 h3 => ?_))
  extract_lets v4 v5 v6
  exact (ite_rule (State.kres_frame (hM.to rfl) h3) (ite_rule (State.kres_frame (hM.to rfl) h3) (State.kres_frame (hM.to rfl) (Frame.upd_sync (hM.to rfl) h3))))

theorem State.sendQueries_frame {M : Nat} {s0 : State} {s : State} (hM : Covers M 0x1124800d0123a0) (hs0 : Frame M s0 s) :
    Frame M s0 (State.sendQueries s) := by
  unfold State.sendQueries
  extract_lets v1 v2 v3 v4 v5 v6
  have h7 : Frame M s0 v5 := (State.sendHitch_frame (hM.to rfl) (State.sendHitch_frame (hM.to rfl) hs0))
  clear_value v5
  exact (Frame.upd_sync (hM.to rfl) h7)

theorem State.opQuery_frame {M : Nat} {s0 : State} {port : ℕ} {r : HitchRec} {s : State} (hM : Covers M 0x1124800d0023a0) (hs2 : Frame M s0 s) :
    Frame M s0 (State.opQuery port r s) := by
  unfold State.opQuery
  extract_lets v1 v2
  split
  · rename_i w3 w4 w5
    exact (State.sendHitch_frame (hM.to rfl) hs2)
  · rename_i w6 w7
    exact (State.sendHitch_frame (hM.to rfl) hs2)

theorem execStopDtReached_frame {M : Nat} {s0 : State} {s : State} (hM : Covers M 0x1f66855d01fbb2) (hs0 : Frame M s0 s) :
    NextP (Frame M s0) (execStopDtReached s) := by
  unfold execStopDtReached
  exact (guarded_frame hs0 (fun x1 h2 => (State.doStop_frame (hM.to rfl) h2)))

theorem execInDoubt_frame {M : Nat} {s0 : State} {s : State} (hM : Covers M 0x1f02855d01dbb2) (hs0 : Frame M s0 s) :
    NextP (Frame M s0) (execInDoubt s) := by
  unfold execInDoubt
  exact (guarded_frame hs0 (fun x1 h2 => (State.saveRecord_frame (hM.to rfl) (State.raise_frame (hM.to rfl) (Frame.upd_sync (hM.to rfl) h2) (hM.fam .err rfl)))))

theorem execStopDrainEnd_frame {M : Nat} {s0 : State} {s : State} (hM : Covers M 0x1f42855d01dbb2) (hs0 : Frame M s0 s) :
    NextP (Frame M s0) (execStopDrainEnd s) := by
  unfold execStopDrainEnd
  refine (guarded_frame hs0 (fun x1 h2 => ?_))
  extract_lets v3 v4
  have h5 : Frame M s0 v4 := (Frame.upd_sync (hM.to rfl) h2)
  clear_value v4
  exact (ite_rule (State.wr_frame h5 (hM.fam .hitch rfl) rfl) (State.saveRecord_frame (hM.to rfl) h5))

theorem State.opStop_frame {M : Nat} {s0 : State} {port : ℕ} {r : HitchRec} {s : State} (hM : Covers M 0x1f66855d01fbb2) (hs2 : Frame M s0 s) :
    Frame M s0 (State.opStop port r s) := by
  unfold State.opStop
  refine (ite_rule (State.hitchStale_frame (hM.to rfl) hs2) (ite_rule hs2 ?_))
  extract_lets v1 v2
  have h3 : Frame M s0 v2 := (Frame.upd_sync (hM.to rfl) hs2)
  clear_value v2
  exact (State.armStop_frame (hM.to rfl) (State.sendHitches_frame (hM.to rfl) h3))

theorem execHitchStop_frame {M : Nat} {s0 : State} {port : ℕ} {r : HitchRec} {s : State} (hM : Covers M 0x1f66855d01fbb2) (hs2 : Frame M s0 s) :
    NextP (Frame M s0) (execHitchStop port r s) := by
  unfold execHitchStop
  exact (guarded_frame hs2 (fun x1 h2 => (State.opStop_frame (hM.to rfl) h2)))

theorem execLeave_frame {M : Nat} {s0 : State} {port : ℕ} {r : HitchRec} {s : State} (hM : Covers M 0x1164804d0123a0) (hs2 : Frame M s0 s) :
    NextP (Frame M s0) (execLeave port r s) := by
  unfold execLeave
  exact (guarded_frame hs2 (fun x1 h2 => (State.opLeave_frame (hM.to rfl) h2)))

theorem State.opAnswer_frame {M : Nat} {s0 : State} {r : HitchRec} {s : State} (hM : Covers M 0x1f3e855d09fbb2) (hs1 : Frame M s0 s) :
    Frame M s0 (State.opAnswer r s) := by
  unfold State.opAnswer
  exact (ite_rule hs1 (ite_rule (State.applyDecision_frame (hM.to rfl) hs1) hs1))

theorem State.opCounterRelease_frame {M : Nat} {s0 : State} {port : ℕ} {r : HitchRec} {s : State} (hM : Covers M 0x1164804d0123a0) (hs2 : Frame M s0 s) :
    Frame M s0 (State.opCounterRelease port r s) := by
  unfold State.opCounterRelease
  extract_lets v1 v2
  have h3 : Frame M s0 v1 := (State.touchCtr_frame (hM.to rfl) hs2)
  clear_value v1
  exact (ite_rule (State.hitchStale_frame (hM.to rfl) h3) (State.actHeld_frame (hM.to rfl) (State.closeOcc_frame (hM.to rfl) (State.sendHitches_frame (hM.to rfl) h3))))

theorem State.opRelease_frame {M : Nat} {s0 : State} {port : ℕ} {r : HitchRec} {s : State} (hM : Covers M 0x1f7e855d09fbb2) (hs2 : Frame M s0 s) :
    Frame M s0 (State.opRelease port r s) := by
  unfold State.opRelease
  exact (ite_rule (State.opCounterRelease_frame (hM.to rfl) hs2) (State.memberRelease_frame (hM.to rfl) hs2))

theorem State.opArrive_frame {M : Nat} {s0 : State} {port : ℕ} {r : HitchRec} {s : State} (hM : Covers M 0x1164804d0123a0) (hs2 : Frame M s0 s) :
    Frame M s0 (State.opArrive port r s) := by
  unfold State.opArrive
  extract_lets v1 v2
  have h3 : Frame M s0 v1 := (State.touchCtr_frame (hM.to rfl) hs2)
  clear_value v1
  exact (ite_rule (State.hitchStale_frame (hM.to rfl) h3) (ite_rule (State.advanceCtr_frame (hM.to rfl) (State.recordArrival_frame (hM.to rfl) h3)) (ite_rule (State.setCtr_frame (hM.to rfl) h3) (ite_rule (State.setCtr_frame (hM.to rfl) h3) (State.hitchStale_frame (hM.to rfl) h3)))))

theorem execStopAt_frame {M : Nat} {s0 : State} {p : ℕ} {s : State} (hM : Covers M 0x1f66855d01fbb2) (hs1 : Frame M s0 s) :
    NextP (Frame M s0) (execStopAt p s) := by
  unfold execStopAt
  refine (State.perform_frame (hM.to rfl) hs1 (fun x1 x2 h3 => ?_))
  extract_lets v4 v5 v6 v7 v8 v9 v10
  have h11 : Frame M s0 v8 := (Frame.upd_sync (hM.to rfl) h3)
  clear_value v8
  have h12 : Frame M s0 v10 := (State.sendHitches_frame (hM.to rfl) h11)
  clear_value v10
  exact (ite_rule (State.kres_frame (hM.to rfl) h3) (ite_rule (State.kres_frame (hM.to rfl) h3) (ite_rule (State.kres_frame (hM.to rfl) h3) (State.kres_frame (hM.to rfl) (State.armStop_frame (hM.to rfl) h12)))))

theorem execSignalHandoff_frame {M : Nat} {s0 : State} {ref : ℕ} {status : ℕ} {late : Bool} {s : State} (hM : Covers M 0x1f26855d01fbb2) (hs3 : Frame M s0 s) :
    NextP (Frame M s0) (execSignalHandoff ref status late s) := by
  unfold execSignalHandoff
  exact (guarded_frame hs3 (fun x1 h2 => (State.applySignal_frame (hM.to rfl) h2)))

theorem execCommitMaxWait_frame {M : Nat} {s0 : State} {s : State} (hM : Covers M 0x1124800d0123a0) (hs0 : Frame M s0 s) :
    NextP (Frame M s0) (execCommitMaxWait s) := by
  unfold execCommitMaxWait
  exact (guarded_frame hs0 (fun x1 h2 => (State.sendQueries_frame (hM.to rfl) h2)))

theorem execCommitQueryRepeat_frame {M : Nat} {s0 : State} {s : State} (hM : Covers M 0x1124800d0123a0) (hs0 : Frame M s0 s) :
    NextP (Frame M s0) (execCommitQueryRepeat s) := by
  unfold execCommitQueryRepeat
  exact (guarded_frame hs0 (fun x1 h2 => (State.sendQueries_frame (hM.to rfl) h2)))

theorem execCommitDrainDone_frame {M : Nat} {s0 : State} {s : State} (hM : Covers M 0x1f26855d01fbb2) (hs0 : Frame M s0 s) :
    NextP (Frame M s0) (execCommitDrainDone s) := by
  unfold execCommitDrainDone
  exact (guarded_frame hs0 (fun x1 h2 => (State.sendCommit_frame (hM.to rfl) h2)))

theorem execHitchTimeout_frame {M : Nat} {s0 : State} {hid : ℕ} {s : State} (hM : Covers M 0x1164804d0123a0) (hs1 : Frame M s0 s) :
    NextP (Frame M s0) (execHitchTimeout hid s) := by
  unfold execHitchTimeout
  refine (guarded_frame hs1 (fun x1 h2 => ?_))
  extract_lets v3 v4 v5
  have h6 : Frame M s0 v3 := (State.touchCtr_frame (hM.to rfl) h2)
  clear_value v3
  split
  · rename_i w7 w8
    exact (State.advanceCtr_frame (hM.to rfl) (State.err_frame (hM.to rfl) (State.setCtr_frame (hM.to rfl) h6) (hM.fam .hitch rfl)))
  · rename_i w9 w10
    exact (State.abandonRel_frame (hM.to rfl) h6)
  · rename_i w11 w12 w13
    exact h6

theorem execHitchQuery_frame {M : Nat} {s0 : State} {port : ℕ} {r : HitchRec} {s : State} (hM : Covers M 0x1124800d0023a0) (hs2 : Frame M s0 s) :
    NextP (Frame M s0) (execHitchQuery port r s) := by
  unfold execHitchQuery
  exact (guarded_frame hs2 (fun x1 h2 => (State.opQuery_frame (hM.to rfl) h2)))

theorem execSigSet_frame {M : Nat} {s0 : State} {p : ℕ} {s : State} (hM : Covers M 0x14800) (hs1 : Frame M s0 s) :
    NextP (Frame M s0) (execSigSet p s) := by
  unfold execSigSet
  refine (State.perform_frame (hM.to rfl) hs1 (fun x1 x2 h3 => ?_))
  extract_lets v4 v5 v6 v7 v8 v9
  exact (ite_rule (State.kres_frame (hM.to rfl) h3) (State.kres_frame (hM.to rfl) (Frame.upd_sync (hM.to rfl) h3)))

theorem execHitchArrive_frame {M : Nat} {s0 : State} {port : ℕ} {r : HitchRec} {s : State} (hM : Covers M 0x1164804d0123a0) (hs2 : Frame M s0 s) :
    NextP (Frame M s0) (execHitchArrive port r s) := by
  unfold execHitchArrive
  exact (guarded_frame hs2 (fun x1 h2 => (State.opArrive_frame (hM.to rfl) h2)))

end Sys2Proof.Machine
end

