-- ==== Sys2Proof/Laws/FrameTree.lean ====
section
/-! SUPPORT. What each operation and each meaning of Machine/Tree.lean can change: it keeps the frame `Frame M s0` for every set `M` that
has the parts it names, given that its arguments keep it. -/

namespace Sys2Proof.Machine

theorem State.opRatRead_frame {M : Nat} {s0 : State} {s : State} (hM : Covers M 0x20000000000) (hs0 : Frame M s0 s) :
    Frame M s0 (State.opRatRead s) := by
  unfold State.opRatRead
  extract_lets v1
  exact (fold_rule hs0 fun x2 b3 h4 => (State.wr_frame (State.wr_frame h4 (hM.fam .mch rfl) rfl) (hM.fam .mch rfl) rfl))

theorem execRatCmdRead_frame {M : Nat} {s0 : State} {p : Party} {s : State} (hM : Covers M 0x2800c000208) (hs1 : Frame M s0 s) :
    NextP (Frame M s0) (execRatCmdRead p s) := by
  unfold execRatCmdRead
  exact (State.action_frame (hM.to rfl) hs1 (hM.fam .mch rfl) (fun x1 h2 => (State.opRatRead_frame (hM.to rfl) h2)))

theorem State.opRatWrite_frame {M : Nat} {s0 : State} {s : State} (hM : Covers M 0x1002815c00ca20) (hs0 : Frame M s0 s) :
    Frame M s0 (State.opRatWrite s) := by
  unfold State.opRatWrite
  extract_lets v1 v2 v3
  exact (ite_rule (State.tdiError_frame (hM.to rfl) (State.ratStore_frame (hM.to rfl) hs0)) (State.ratRefuse_frame (hM.to rfl) hs0))

theorem execRatCmdWrite_frame {M : Nat} {s0 : State} {p : Party} {s : State} (hM : Covers M 0x1002815c00ca28) (hs1 : Frame M s0 s) :
    NextP (Frame M s0) (execRatCmdWrite p s) := by
  unfold execRatCmdWrite
  exact (State.action_frame (hM.to rfl) hs1 (hM.fam .mch rfl) (fun x1 h2 => (State.opRatWrite_frame (hM.to rfl) h2)))

theorem State.showCarve_frame {M : Nat} {s0 : State} {s : State} (hM : Covers M 0x20000000000) (hs0 : Frame M s0 s) :
    Frame M s0 (State.showCarve s) := by
  unfold State.showCarve
  extract_lets v1
  exact (State.wr_frame (State.wr_frame (State.wr_frame hs0 (hM.fam .mch rfl) rfl) (hM.fam .mch rfl) rfl) (hM.fam .mch rfl) rfl)

theorem State.runCarve_frame {M : Nat} {s0 : State} {s : State} (hM : Covers M 0x20000004000) (hs0 : Frame M s0 s) :
    Frame M s0 (State.runCarve s) := by
  unfold State.runCarve
  extract_lets v1 v2
  exact (State.showCarve_frame (hM.to rfl) (Frame.upd_mem (hM.to rfl) rfl hs0))

theorem State.opLinePages_frame {M : Nat} {s0 : State} {v : W32} {s : State} (hM : Covers M 0x2815c00c220) (hs1 : Frame M s0 s) :
    Frame M s0 (State.opLinePages v s) := by
  unfold State.opLinePages
  extract_lets v1 v2 v3 v4
  have h5 : Frame M s0 v3 := (State.wr_frame hs1 (hM.fam .mch rfl) rfl)
  clear_value v3
  have h6 : Frame M s0 v4 := (fold_rule h5 fun x7 b8 h9 => (fold_rule h9 fun x10 b11 h12 => (State.reinitPage_frame (hM.to rfl) h12)))
  clear_value v4
  exact (ite_rule (State.err_frame (hM.to rfl) (State.wr_frame hs1 (hM.fam .mch rfl) rfl) (hM.fam .mch rfl)) (ite_rule hs1 (ite_rule h5 (State.runCarve_frame (hM.to rfl) (State.calm_frame (hM.to rfl) h6)))))

theorem execMchLinePagesWrite_frame {M : Nat} {s0 : State} {p : Party} {v : W32} {s : State} (hM : Covers M 0x2815c00c228) (hs2 : Frame M s0 s) :
    NextP (Frame M s0) (execMchLinePagesWrite p v s) := by
  unfold execMchLinePagesWrite
  exact (State.action_frame (hM.to rfl) hs2 (hM.fam .mch rfl) (fun x1 h2 => (State.unlocked_frame (hM.to rfl) h2 (hM.fam .mch rfl) (fun x3 h4 => (State.opLinePages_frame (hM.to rfl) h4)))))

theorem State.startWalk_frame {M : Nat} {s0 : State} {s : State} {n : ℕ} (hM : Covers M 0x20000004020) (hs0 : Frame M s0 s) :
    Frame M s0 (State.startWalk s n) := by
  unfold State.startWalk
  exact (State.askToken_frame (hM.to rfl) (State.setChan_frame (hM.to rfl) hs0))

theorem State.endWalks_frame {M : Nat} {s0 : State} {s : State} (hM : Covers M 0x40000000) (hs0 : Frame M s0 s) :
    Frame M s0 (State.endWalks s) := by
  unfold State.endWalks
  exact (ite_rule hs0 (ite_rule (State.haClear_frame (hM.to rfl) hs0) hs0))

theorem State.treeCode_frame {M : Nat} {s0 : State} {s : State} {n : ℕ} {code : ℕ} (hM : Covers M 0x20000000000) (hs0 : Frame M s0 s) :
    Frame M s0 (State.treeCode s n code) := by
  unfold State.treeCode
  exact (State.wr_frame hs0 (hM.fam .mch rfl) rfl)

theorem State.opWalk_frame {M : Nat} {s0 : State} {n : ℕ} {s : State} (hM : Covers M 0x20040004020) (hs1 : Frame M s0 s) :
    Frame M s0 (State.opWalk n s) := by
  unfold State.opWalk
  extract_lets v1 v2
  have h3 : Frame M s0 v2 := (State.setChan_frame (hM.to rfl) (State.wr_frame (State.treeCode_frame (hM.to rfl) hs1) (hM.fam .mch rfl) rfl))
  clear_value v2
  exact (ite_rule (State.treeCode_frame (hM.to rfl) hs1) (ite_rule (State.treeCode_frame (hM.to rfl) hs1) (State.endWalks_frame (hM.to rfl) (State.startWalk_frame (hM.to rfl) h3))))

theorem execWalk_frame {M : Nat} {s0 : State} {p : Party} {ch : ℕ} {s : State} (hM : Covers M 0x2804c004228) (hs2 : Frame M s0 s) :
    NextP (Frame M s0) (execWalk p ch s) := by
  unfold execWalk
  exact (State.action_frame (hM.to rfl) hs2 (hM.fam .mch rfl) (fun x1 h2 => (ite_rule (State.assisted_frame (hM.to rfl) h2 (fun x3 h4 => (State.opWalk_frame (hM.to rfl) h4))) (State.opWalk_frame (hM.to rfl) h2))))

theorem State.opTreeCmd_frame {M : Nat} {s0 : State} {n : ℕ} {retire : Bool} {s : State} (hM : Covers M 0x20000004020) (hs2 : Frame M s0 s) :
    Frame M s0 (State.opTreeCmd n retire s) := by
  unfold State.opTreeCmd
  extract_lets v1 v2 v3
  have h4 : Frame M s0 v3 := (State.treeCode_frame (hM.to rfl) hs2)
  clear_value v3
  exact (ite_rule h4 (State.addRebuild_frame (hM.to rfl) (State.wr_frame h4 (hM.fam .mch rfl) rfl)))

theorem execRetire_frame {M : Nat} {s0 : State} {p : Party} {ch : ℕ} {s : State} (hM : Covers M 0x2800c004228) (hs2 : Frame M s0 s) :
    NextP (Frame M s0) (execRetire p ch s) := by
  unfold execRetire
  exact (State.action_frame (hM.to rfl) hs2 (hM.fam .mch rfl) (fun x1 h2 => (State.opTreeCmd_frame (hM.to rfl) h2)))

theorem execRebuild_frame {M : Nat} {s0 : State} {p : Party} {ch : ℕ} {s : State} (hM : Covers M 0x2800c004228) (hs2 : Frame M s0 s) :
    NextP (Frame M s0) (execRebuild p ch s) := by
  unfold execRebuild
  exact (State.action_frame (hM.to rfl) hs2 (hM.fam .mch rfl) (fun x1 h2 => (State.opTreeCmd_frame (hM.to rfl) h2)))

theorem State.nextToken_frame {M : Nat} {s0 : State} {s : State} {n : ℕ} (hM : Covers M 0x20000004020) (hs0 : Frame M s0 s) :
    Frame M s0 (State.nextToken s n) := by
  unfold State.nextToken
  extract_lets v1
  split
  · rename_i w2 w3
    exact hs0
  · rename_i w4 w5 w6 w7
    exact (ite_rule (State.grantToken_frame (hM.to rfl) (State.setChan_frame (hM.to rfl) hs0)) hs0)

theorem State.dropToken_frame {M : Nat} {s0 : State} {s : State} {n : ℕ} {u : TokenUse} (hM : Covers M 0x20001004020) (hs0 : Frame M s0 s) :
    Frame M s0 (State.dropToken s n u) := by
  unfold State.dropToken
  refine (ite_rule hs0 ?_)
  extract_lets v1 v2
  have h3 : Frame M s0 v1 := (ite_rule (State.cnt_frame (hM.to rfl) (State.wr_frame hs0 (hM.fam .mch rfl) rfl)) (ite_rule (State.wr_frame hs0 (hM.fam .mch rfl) rfl) hs0))
  clear_value v1
  exact (State.nextToken_frame (hM.to rfl) (State.setChan_frame (hM.to rfl) h3))

theorem State.triageNext_frame {M : Nat} {s0 : State} {s : State} (hM : Covers M 0x804c000200) (hs0 : Frame M s0 s) :
    Frame M s0 (State.triageNext s) := by
  unfold State.triageNext
  extract_lets v1 v2
  have h3 : Frame M s0 v2 := (State.showTriage_frame (hM.to rfl) (Frame.upd_faults (hM.to rfl) hs0))
  clear_value v2
  exact (ite_rule h3 (State.haPost_frame (hM.to rfl) h3))

theorem State.triageAct_frame {M : Nat} {s0 : State} {s : State} {f : State → Triage → State} {later : Triage → Bool} (hM : Covers M 0x804c000200) (hs0 : Frame M s0 s) (hs1 : ∀ y0 y1, Frame M s0 y0 → Frame M s0 (f y0 y1)) :
    Frame M s0 (State.triageAct s f later) := by
  unfold State.triageAct
  split
  · rename_i w1 w2 w3 w4
    refine (ite_rule hs0 ?_)
    extract_lets v5
    have h6 : Frame M s0 v5 := (hs1 _ _ (State.haClear_frame (hM.to rfl) hs0))
    clear_value v5
    exact (ite_rule h6 (State.triageNext_frame (hM.to rfl) h6))
  · rename_i w7 w8
    exact hs0

theorem State.actLeave_frame {M : Nat} {s0 : State} {s : State} (hM : Covers M 0x804c000200) (hs0 : Frame M s0 s) :
    Frame M s0 (State.actLeave s) := by
  unfold State.actLeave
  exact (State.triageAct_frame (hM.to rfl) hs0 (fun x1 x2 h3 => h3))

theorem execTriageLeave_frame {M : Nat} {s0 : State} {p : Party} {s : State} (hM : Covers M 0x804c000208) (hs1 : Frame M s0 s) :
    NextP (Frame M s0) (execTriageLeave p s) := by
  unfold execTriageLeave
  exact (State.action_frame (hM.to rfl) hs1 (hM.fam .err rfl) (fun x1 h2 => (State.assisted_frame (hM.to rfl) h2 (fun x3 h4 => (State.actLeave_frame (hM.to rfl) h4)))))

theorem State.triageRebuild_frame {M : Nat} {s0 : State} {s : State} {t : Triage} (hM : Covers M 0x20000004020) (hs0 : Frame M s0 s) :
    Frame M s0 (State.triageRebuild s t) := by
  unfold State.triageRebuild
  exact (State.addRebuild_frame (hM.to rfl) hs0)

theorem State.actRebuild_frame {M : Nat} {s0 : State} {s : State} (hM : Covers M 0x2804c004220) (hs0 : Frame M s0 s) :
    Frame M s0 (State.actRebuild s) := by
  unfold State.actRebuild
  exact (State.triageAct_frame (hM.to rfl) hs0 (fun x1 x2 h3 => (State.triageRebuild_frame (hM.to rfl) h3)))

theorem execTriageRebuild_frame {M : Nat} {s0 : State} {p : Party} {s : State} (hM : Covers M 0x2804c004228) (hs1 : Frame M s0 s) :
    NextP (Frame M s0) (execTriageRebuild p s) := by
  unfold execTriageRebuild
  exact (State.action_frame (hM.to rfl) hs1 (hM.fam .err rfl) (fun x1 h2 => (State.assisted_frame (hM.to rfl) h2 (fun x3 h4 => (State.actRebuild_frame (hM.to rfl) h4)))))

theorem State.actRetire_frame {M : Nat} {s0 : State} {s : State} (hM : Covers M 0x2804c004220) (hs0 : Frame M s0 s) :
    Frame M s0 (State.actRetire s) := by
  unfold State.actRetire
  exact (State.triageAct_frame (hM.to rfl) hs0 (fun x1 x2 h3 => (State.triageRetire_frame (hM.to rfl) h3)))

theorem execTriageRetire_frame {M : Nat} {s0 : State} {p : Party} {s : State} (hM : Covers M 0x2804c004228) (hs1 : Frame M s0 s) :
    NextP (Frame M s0) (execTriageRetire p s) := by
  unfold execTriageRetire
  exact (State.action_frame (hM.to rfl) hs1 (hM.fam .err rfl) (fun x1 h2 => (State.assisted_frame (hM.to rfl) h2 (fun x3 h4 => (State.actRetire_frame (hM.to rfl) h4)))))

theorem State.writeBack_frame {M : Nat} {s0 : State} {s : State} {n : ℕ} (hM : Covers M 0x2815c004200) (hs0 : Frame M s0 s) :
    Frame M s0 (State.writeBack s n) := by
  unfold State.writeBack
  extract_lets v1
  have h2 : ∀ y0 y1, Frame M s0 y0 → Frame M s0 (v1 y0 y1) := by
    refine (fun x3 x4 h5 => (fold_rule h5 fun x6 b7 h8 => (State.cleanBlock_frame (hM.to rfl) h8)))
  clear_value v1
  exact (h2 _ _ (h2 _ _ hs0))

theorem State.pipeFault_frame {M : Nat} {s0 : State} {s : State} {n : ℕ} (hM : Covers M 0x102840c004392) (hs0 : Frame M s0 s) :
    Frame M s0 (State.pipeFault s n) := by
  unfold State.pipeFault
  extract_lets v1 v2 v3
  have h4 : Frame M s0 v2 := (State.wr_frame (State.setChan_frame (hM.to rfl) hs0) (hM.fam .mch rfl) rfl)
  clear_value v2
  have h5 : Frame M s0 v3 := (State.err_frame (hM.to rfl) h4 (hM.fam .mch rfl))
  clear_value v3
  exact (ite_rule (State.chanFail_frame (hM.to rfl) h5) h5)

theorem State.opWalkDone_frame {M : Nat} {s0 : State} {n : ℕ} {s : State} (hM : Covers M 0x20001004020) (hs1 : Frame M s0 s) :
    Frame M s0 (State.opWalkDone n s) := by
  unfold State.opWalkDone
  extract_lets v1 v2 v3
  have h4 : Frame M s0 v3 := (State.setChan_frame (hM.to rfl) hs1)
  clear_value v3
  exact (State.dropToken_frame (hM.to rfl) (ite_rule (State.wr_frame h4 (hM.fam .mch rfl) rfl) h4))

theorem execColdWalkComplete_frame {M : Nat} {s0 : State} {ch : ℕ} {s : State} (hM : Covers M 0x20001004020) (hs1 : Frame M s0 s) :
    NextP (Frame M s0) (execColdWalkComplete ch s) := by
  unfold execColdWalkComplete
  exact (guarded_frame hs1 (fun x1 h2 => (State.opWalkDone_frame (hM.to rfl) h2)))

theorem State.opReencDone_frame {M : Nat} {s0 : State} {n : ℕ} {level : ℕ} {index : ℕ} {s : State} (hM : Covers M 0x1f3e855d09fbb2) (hs3 : Frame M s0 s) :
    Frame M s0 (State.opReencDone n level index s) := by
  unfold State.opReencDone
  split
  · rename_i w1 w2
    exact hs3
  · rename_i w3 w4 w5
    extract_lets v6 v7
    have h8 : Frame M s0 v6 := (fold_rule hs3 fun x9 b10 h11 => (State.poisonGran_frame (hM.to rfl) h11))
    clear_value v6
    exact (State.runWaits_frame (hM.to rfl) (State.showReenc_frame (hM.to rfl) (State.setChan_frame (hM.to rfl) h8)))

theorem execReencComplete_frame {M : Nat} {s0 : State} {ch : ℕ} {level : ℕ} {index : ℕ} {s : State} (hM : Covers M 0x1f3e855d09fbb2) (hs3 : Frame M s0 s) :
    NextP (Frame M s0) (execReencComplete ch level index s) := by
  unfold execReencComplete
  exact (guarded_frame hs3 (fun x1 h2 => (State.opReencDone_frame (hM.to rfl) h2)))

theorem State.triggerWalk_frame {M : Nat} {s0 : State} {s : State} (hM : Covers M 0x2004c004020) (hs0 : Frame M s0 s) :
    Frame M s0 (State.triggerWalk s) := by
  unfold State.triggerWalk
  exact (ite_rule (State.haPost_frame (hM.to rfl) (fold_rule hs0 fun x1 b2 h3 => (State.setChan_frame (hM.to rfl) h3))) (fold_rule hs0 fun x4 b5 h6 => (State.startWalk_frame (hM.to rfl) h6)))

theorem State.startReenc_frame {M : Nat} {s0 : State} {s : State} {n : ℕ} {r : Reenc} (hM : Covers M 0x2815c004200) (hs0 : Frame M s0 s) :
    Frame M s0 (State.startReenc s n r) := by
  unfold State.startReenc
  extract_lets v1 v2
  have h3 : Frame M s0 v1 := (State.walkTo_frame (hM.to rfl) hs0)
  clear_value v1
  have h4 : Frame M s0 v2 := (State.overflowUpper_frame (hM.to rfl) h3)
  clear_value v2
  exact (ite_rule (State.overflowLeaf_frame (hM.to rfl) h3) (ite_rule (State.writeBlock_frame (hM.to rfl) h4) h4))

theorem State.drawMemKeys_frame {M : Nat} {s0 : State} {s : State} (hM : Covers M 0x110004000) (hs0 : Frame M s0 s) :
    Frame M s0 (State.drawMemKeys s) := by
  unfold State.drawMemKeys
  refine (ite_rule hs0 ?_)
  extract_lets v1 v2 v3 v4
  have h5 : SndP (Frame M s0) v1 := (State.drawKey_frame (hM.to rfl) hs0)
  clear_value v1
  have h6 : SndP (Frame M s0) v2 := (State.drawKey_frame (hM.to rfl) h5)
  clear_value v2
  have h7 : Frame M s0 v3 := h6
  exact (Frame.upd_mem (hM.to rfl) rfl h7)

theorem State.loadKeys_frame {M : Nat} {s0 : State} {s : State} (hM : Covers M 0x20100004000) (hs0 : Frame M s0 s) :
    Frame M s0 (State.loadKeys s) := by
  unfold State.loadKeys
  exact (fold_rule hs0 fun x1 b2 h3 => (State.saddled_frame (hM.to rfl) (State.wr_frame (State.setChan_frame (hM.to rfl) h3) (hM.fam .mch rfl) rfl)))

theorem State.memStart_frame {M : Nat} {s0 : State} {s : State} (hM : Covers M 0x1f3e855d09fbb2) (hs0 : Frame M s0 s) :
    Frame M s0 (State.memStart s) := by
  unfold State.memStart
  extract_lets v1 v2 v3
  have h4 : Frame M s0 v1 := (State.loadKeys_frame (hM.to rfl) (State.drawMemKeys_frame (hM.to rfl) (State.runCarve_frame (hM.to rfl) hs0)))
  clear_value v1
  have h5 : Frame M s0 v2 := (fold_rule h4 fun x6 b7 h8 => (State.wr_frame h8 (hM.fam .mch rfl) rfl))
  clear_value v2
  exact (State.runWaits_frame (hM.to rfl) (Frame.upd_mem (hM.to rfl) rfl h5))

theorem State.opTrained_frame {M : Nat} {s0 : State} {n : ℕ} {cap : ℕ} {s : State} (hM : Covers M 0x1f3e855d09fbb2) (hs2 : Frame M s0 s) :
    Frame M s0 (State.opTrained n cap s) := by
  unfold State.opTrained
  split
  · rename_i w1 w2
    exact hs2
  · rename_i w3 w4 w5
    extract_lets v6 v7 v8 v9 v10 v11 v12
    have h13 : Frame M s0 v9 := (State.setChan_frame (hM.to rfl) hs2)
    clear_value v9
    have h14 : Frame M s0 v10 := (State.wr_frame (State.wr_frame (State.wr_frame (State.wr_frame (State.wr_frame h13 (hM.fam .mch rfl) rfl) (hM.fam .mch rfl) rfl) (hM.fam .mch rfl) rfl) (hM.fam .mch rfl) rfl) (hM.fam .mch rfl) rfl)
    clear_value v10
    have h15 : Frame M s0 v12 := (Frame.upd_outs (hM.to rfl) h14)
    clear_value v12
    exact (ite_rule (State.memStart_frame (hM.to rfl) h15) h15)

theorem execMemoryTrained_frame {M : Nat} {s0 : State} {ch : ℕ} {capPages : ℕ} {s : State} (hM : Covers M 0x1f3e855d09fbb2) (hs2 : Frame M s0 s) :
    NextP (Frame M s0) (execMemoryTrained ch capPages s) := by
  unfold execMemoryTrained
  exact (guarded_frame hs2 (fun x1 h2 => (State.opTrained_frame (hM.to rfl) h2)))

theorem State.granResult_frame {M : Nat} {s0 : State} {s : State} {n : ℕ} {r : ReadResult} (hM : Covers M 0x2804c004220) (hs0 : Frame M s0 s) :
    Frame M s0 (State.granResult s n r) := by
  unfold State.granResult
  extract_lets v1 v2 v3 v4 v5 v6 v7
  have h8 : Frame M s0 v5 := (State.err_frame (hM.to rfl) (State.inc_frame hs0 (hM.fam .mch rfl) rfl) (hM.fam .mch rfl))
  clear_value v5
  have h9 : Frame M s0 v7 := (Frame.upd_mem (hM.to rfl) rfl h8)
  clear_value v7
  exact (ite_rule hs0 (ite_rule (State.err_frame (hM.to rfl) (State.inc_frame hs0 (hM.fam .mch rfl) rfl) (hM.fam .mch rfl)) (State.triageAdd_frame (hM.to rfl) h9)))

theorem State.doRebuild_frame {M : Nat} {s0 : State} {s : State} {n : ℕ} {e : Rebuild} (hM : Covers M 0x2815c00c200) (hs0 : Frame M s0 s) :
    Frame M s0 (State.doRebuild s n e) := by
  unfold State.doRebuild
  exact (ite_rule (State.retireExtent_frame (hM.to rfl) hs0) (State.rebuildExtent_frame (hM.to rfl) hs0))

theorem State.opRebuildDone_frame {M : Nat} {s0 : State} {n : ℕ} {s : State} (hM : Covers M 0x2815d00c220) (hs1 : Frame M s0 s) :
    Frame M s0 (State.opRebuildDone n s) := by
  unfold State.opRebuildDone
  split
  · rename_i w1 w2
    exact hs1
  · rename_i w3 w4 w5 w6
    refine (ite_rule hs1 ?_)
    extract_lets v7 v8 v9 v10 v11 v12
    have h13 : Frame M s0 v7 := (State.doRebuild_frame (hM.to rfl) hs1)
    clear_value v7
    have h14 : Frame M s0 v9 := (State.setChan_frame (hM.to rfl) h13)
    clear_value v9
    have h15 : Frame M s0 v10 := (ite_rule (State.wr_frame h14 (hM.fam .mch rfl) rfl) h14)
    clear_value v10
    have h16 : Frame M s0 v11 := (ite_rule (State.triageNext_frame (hM.to rfl) h15) h15)
    clear_value v11
    have h17 : Frame M s0 v12 := (State.dropToken_frame (hM.to rfl) h16)
    clear_value v12
    exact (ite_rule h17 (State.askToken_frame (hM.to rfl) h17))

theorem execRebuildComplete_frame {M : Nat} {s0 : State} {ch : ℕ} {s : State} (hM : Covers M 0x2815d00c220) (hs1 : Frame M s0 s) :
    NextP (Frame M s0) (execRebuildComplete ch s) := by
  unfold execRebuildComplete
  exact (guarded_frame hs1 (fun x1 h2 => (State.opRebuildDone_frame (hM.to rfl) h2)))

theorem State.opReadResponse_frame {M : Nat} {s0 : State} {n : ℕ} {r : ReadResult} {s : State} (hM : Covers M 0x102855d0043b2) (hs2 : Frame M s0 s) :
    Frame M s0 (State.opReadResponse n r s) := by
  unfold State.opReadResponse
  extract_lets v1
  have h2 : Frame M s0 v1 := (ite_rule (State.pipeFault_frame (hM.to rfl) hs2) hs2)
  clear_value v1
  exact (ite_rule h2 (ite_rule (State.granResult_frame (hM.to rfl) h2) (State.blockResult_frame (hM.to rfl) h2)))

theorem execMemoryReadResponse_frame {M : Nat} {s0 : State} {ch : ℕ} {r : ReadResult} {s : State} (hM : Covers M 0x102855d0043b2) (hs2 : Frame M s0 s) :
    NextP (Frame M s0) (execMemoryReadResponse ch r s) := by
  unfold execMemoryReadResponse
  exact (guarded_frame hs2 (fun x1 h2 => (State.opReadResponse_frame (hM.to rfl) h2)))

theorem State.opReencStart_frame {M : Nat} {s0 : State} {n : ℕ} {s : State} (hM : Covers M 0x2815c004200) (hs1 : Frame M s0 s) :
    Frame M s0 (State.opReencStart n s) := by
  unfold State.opReencStart
  split
  · rename_i w1 w2
    exact hs1
  · rename_i w3 w4 w5 w6
    exact (ite_rule hs1 (State.orWait_frame (hM.to rfl) hs1 (fun x7 h8 => (State.startReenc_frame (hM.to rfl) h8))))

theorem execTokenRelease_frame {M : Nat} {s0 : State} {ch : ℕ} {use : TokenUse} {s : State} (hM : Covers M 0x20001004020) (hs2 : Frame M s0 s) :
    NextP (Frame M s0) (execTokenRelease ch use s) := by
  unfold execTokenRelease
  exact (guarded_frame hs2 (fun x1 h2 => (State.dropToken_frame (hM.to rfl) h2)))

theorem State.opRatDone_frame {M : Nat} {s0 : State} {n : ℕ} {s : State} (hM : Covers M 0x20000004800) (hs1 : Frame M s0 s) :
    Frame M s0 (State.opRatDone n s) := by
  unfold State.opRatDone
  split
  · rename_i w1 w2
    exact hs1
  · rename_i w3 w4 w5
    extract_lets v6 v7 v8 v9
    have h10 : Frame M s0 v8 := (Frame.upd_mem (hM.to rfl) rfl hs1)
    clear_value v8
    have h11 : Frame M s0 v9 := (ite_rule (State.wr_frame h10 (hM.fam .mch rfl) rfl) h10)
    clear_value v9
    split
    · rename_i w12 w13 w14
      exact (State.finish_frame (hM.to rfl) h11)
    · rename_i w15 w16
      exact h11

theorem execReencStart_frame {M : Nat} {s0 : State} {ch : ℕ} {s : State} (hM : Covers M 0x2815c004200) (hs1 : Frame M s0 s) :
    NextP (Frame M s0) (execReencStart ch s) := by
  unfold execReencStart
  exact (guarded_frame hs1 (fun x1 h2 => (State.opReencStart_frame (hM.to rfl) h2)))

theorem execScrubChunk_frame {M : Nat} {s0 : State} {ch : ℕ} {s : State} (hM : Covers M 0x20000004020) (hs1 : Frame M s0 s) :
    NextP (Frame M s0) (execScrubChunk ch s) := by
  unfold execScrubChunk
  exact (guarded_frame hs1 (fun x1 h2 => (State.askToken_frame (hM.to rfl) h2)))

theorem State.patrolBad_frame {M : Nat} {s0 : State} {s : State} {store : ℕ} {index : ℕ} (hM : Covers M 0x1166854d2323b2) (hs0 : Frame M s0 s) :
    Frame M s0 (State.patrolBad s store index) := by
  unfold State.patrolBad
  split
  · rename_i w1
    extract_lets v2 v3 v4 v5 v6
    exact (State.err_frame (hM.to rfl) (Frame.upd_gait (hM.to rfl) hs0) (hM.fam .gait rfl))
  · rename_i w7
    exact (Frame.upd_red (hM.to rfl) hs0)
  · rename_i w8
    exact (Frame.upd_sync (hM.to rfl) hs0)
  · rename_i w9
    exact (ite_rule (State.counterLost_frame (hM.to rfl) hs0) (Frame.upd_sync (hM.to rfl) hs0))
  · rename_i w10
    exact (ite_rule hs0 (State.chanFail_frame (hM.to rfl) hs0))
  · rename_i w11
    exact (ite_rule (State.treeCorr_frame (hM.to rfl) hs0) hs0)
  · rename_i w12
    exact (ite_rule (State.chanFail_frame (hM.to rfl) hs0) hs0)
  · rename_i w13 w14 w15 w16 w17 w18 w19 w20
    extract_lets v21 v22
    exact (ite_rule hs0 (State.err_frame (hM.to rfl) (Frame.upd_trust (hM.to rfl) hs0) (hM.fam .key rfl)))

theorem execMemoryWriteDone_frame {M : Nat} {s0 : State} {ch : ℕ} {w : WriteResult} {s : State} (hM : Covers M 0x102840c004392) (hs2 : Frame M s0 s) :
    NextP (Frame M s0) (execMemoryWriteDone ch w s) := by
  unfold execMemoryWriteDone
  exact (guarded_frame hs2 (fun x1 h2 => (ite_rule (State.pipeFault_frame (hM.to rfl) h2) h2)))

theorem execTokenRequest_frame {M : Nat} {s0 : State} {ch : ℕ} {use : TokenUse} {s : State} (hM : Covers M 0x20000004020) (hs2 : Frame M s0 s) :
    NextP (Frame M s0) (execTokenRequest ch use s) := by
  unfold execTokenRequest
  exact (guarded_frame hs2 (fun x1 h2 => (State.askToken_frame (hM.to rfl) h2)))

theorem execPatrolRead_frame {M : Nat} {s0 : State} {store : ℕ} {index : ℕ} {bad : Bool} {s : State} (hM : Covers M 0x1166854d2323b2) (hs3 : Frame M s0 s) :
    NextP (Frame M s0) (execPatrolRead store index bad s) := by
  unfold execPatrolRead
  exact (guarded_frame hs3 (fun x1 h2 => (State.patrolBad_frame (hM.to rfl) h2)))

theorem execRatWriteComplete_frame {M : Nat} {s0 : State} {entry : ℕ} {s : State} (hM : Covers M 0x20000004800) (hs1 : Frame M s0 s) :
    NextP (Frame M s0) (execRatWriteComplete entry s) := by
  unfold execRatWriteComplete
  exact (guarded_frame hs1 (fun x1 h2 => (State.opRatDone_frame (hM.to rfl) h2)))

end Sys2Proof.Machine
end

