-- ==== Sys2Proof/Laws/FrameFarrier.lean ====
section
/-! SUPPORT. What each operation and each meaning of Machine/Farrier.lean can change: it keeps the frame `Frame M s0` for every set `M` that
has the parts it names, given that its arguments keep it. -/

namespace Sys2Proof.Machine

theorem State.farGranted_frame {M : Nat} {s0 : State} {s : State} (hM : Covers M 0x40000000) (hs0 : Frame M s0 s) :
    Frame M s0 (State.farGranted s) := by
  unfold State.farGranted
  exact (ite_rule (State.haClear_frame (hM.to rfl) hs0) hs0)

theorem State.opFarGrant_frame {M : Nat} {s0 : State} {n : ℕ} {v : W32} {s : State} (hM : Covers M 0x20040000000) (hs2 : Frame M s0 s) :
    Frame M s0 (State.opFarGrant n v s) := by
  unfold State.opFarGrant
  refine (ite_rule hs2 ?_)
  extract_lets v1 v2
  have h3 : Frame M s0 v2 := (State.wr_frame hs2 (hM.fam .mch rfl) rfl)
  clear_value v2
  exact (State.farGranted_frame (hM.to rfl) (ite_rule h3 (State.wr_frame h3 (hM.fam .mch rfl) rfl)))

theorem execFarGrant_frame {M : Nat} {s0 : State} {p : Party} {ch : ℕ} {v : W32} {s : State} (hM : Covers M 0x2804c000208) (hs3 : Frame M s0 s) :
    NextP (Frame M s0) (execFarGrant p ch v s) := by
  unfold execFarGrant
  exact (State.action_frame (hM.to rfl) hs3 (hM.fam .mch rfl) (fun x1 h2 => (State.assisted_frame (hM.to rfl) h2 (fun x3 h4 => (State.opFarGrant_frame (hM.to rfl) h4)))))

theorem State.opFarStart_frame {M : Nat} {s0 : State} {s : State} (hM : Covers M 0x2015c004000) (hs0 : Frame M s0 s) :
    Frame M s0 (State.opFarStart s) := by
  unfold State.opFarStart
  extract_lets v1 v2
  have h3 : Frame M s0 v2 := (State.wr_frame hs0 (hM.fam .mch rfl) rfl)
  clear_value v2
  exact (ite_rule (State.farBegin_frame (hM.to rfl) h3) h3)

theorem execFarStart_frame {M : Nat} {s0 : State} {p : Party} {s : State} (hM : Covers M 0x2815c004208) (hs1 : Frame M s0 s) :
    NextP (Frame M s0) (execFarStart p s) := by
  unfold execFarStart
  exact (State.action_frame (hM.to rfl) hs1 (hM.fam .mch rfl) (fun x1 h2 => (State.opFarStart_frame (hM.to rfl) h2)))

theorem State.setFar_frame {M : Nat} {s0 : State} {s : State} {n : ℕ} {p2 : ℕ} (hM : Covers M 0x20000004000) (hs0 : Frame M s0 s) :
    Frame M s0 (State.setFar s n p2) := by
  unfold State.setFar
  exact (State.wr_frame (State.setChan_frame (hM.to rfl) hs0) (hM.fam .mch rfl) rfl)

theorem State.farWake_frame {M : Nat} {s0 : State} {s : State} {n : ℕ} (hM : Covers M 0x20000004000) (hs0 : Frame M s0 s) :
    Frame M s0 (State.farWake s n) := by
  unfold State.farWake
  extract_lets v1
  exact (ite_rule (State.setFar_frame (hM.to rfl) (State.setChan_frame (hM.to rfl) hs0)) hs0)

theorem execFarResume_frame {M : Nat} {s0 : State} {p : Party} {ch : ℕ} {s : State} (hM : Covers M 0x2800c004208) (hs2 : Frame M s0 s) :
    NextP (Frame M s0) (execFarResume p ch s) := by
  unfold execFarResume
  exact (State.action_frame (hM.to rfl) hs2 (hM.fam .mch rfl) (fun x1 h2 => (State.farWake_frame (hM.to rfl) (State.wr_frame h2 (hM.fam .mch rfl) rfl))))

theorem State.farSettle_frame {M : Nat} {s0 : State} {s : State} {n : ℕ} (hM : Covers M 0x20001004020) (hs0 : Frame M s0 s) :
    Frame M s0 (State.farSettle s n) := by
  unfold State.farSettle
  extract_lets v1
  exact (ite_rule (State.dropToken_frame (hM.to rfl) (State.setFar_frame (hM.to rfl) (State.setChan_frame (hM.to rfl) hs0))) hs0)

theorem execFarPause_frame {M : Nat} {s0 : State} {p : Party} {ch : ℕ} {s : State} (hM : Covers M 0x2800d004228) (hs2 : Frame M s0 s) :
    NextP (Frame M s0) (execFarPause p ch s) := by
  unfold execFarPause
  exact (State.action_frame (hM.to rfl) hs2 (hM.fam .mch rfl) (fun x1 h2 => (State.farSettle_frame (hM.to rfl) (State.wr_frame h2 (hM.fam .mch rfl) rfl))))

theorem State.farMove_frame {M : Nat} {s0 : State} {s : State} {n : ℕ} {bytes : ℕ} (hM : Covers M 0x20001000000) (hs0 : Frame M s0 s) :
    Frame M s0 (State.farMove s n bytes) := by
  unfold State.farMove
  exact (State.cnt_frame (hM.to rfl) (State.wrPair_frame hs0 (hM.fam .mch rfl) rfl rfl))

theorem State.farRestart_frame {M : Nat} {s0 : State} {s : State} {n : ℕ} {k : ℕ} {j : ℕ} (hM : Covers M 0x2815d004200) (hs0 : Frame M s0 s) :
    Frame M s0 (State.farRestart s n k j) := by
  unfold State.farRestart
  refine (ite_rule hs0 ?_)
  split
  · rename_i w1 w2
    exact hs0
  · rename_i w3 w4 w5
    exact (State.farMove_frame (hM.to rfl) (State.cleanBlock_frame (hM.to rfl) (State.dropReenc_frame (hM.to rfl) (State.setUpper_frame (hM.to rfl) (State.walkTo_frame (hM.to rfl) hs0)))))

theorem State.farRestarts_frame {M : Nat} {s0 : State} {s : State} {n : ℕ} (hM : Covers M 0x2815d004200) (hs0 : Frame M s0 s) :
    Frame M s0 (State.farRestarts s n) := by
  unfold State.farRestarts
  extract_lets v1
  refine (fold_rule hs0 fun x2 b3 h4 => ?_)
  extract_lets v5
  exact (ite_rule (State.farRestart_frame (hM.to rfl) h4) h4)

theorem State.farYield_frame {M : Nat} {s0 : State} {s : State} {n : ℕ} (hM : Covers M 0x20001004020) (hs0 : Frame M s0 s) :
    Frame M s0 (State.farYield s n) := by
  unfold State.farYield
  exact (ite_rule (State.dropToken_frame (hM.to rfl) hs0) hs0)

theorem State.farEnd_frame {M : Nat} {s0 : State} {s : State} (hM : Covers M 0x20040004000) (hs0 : Frame M s0 s) :
    Frame M s0 (State.farEnd s) := by
  unfold State.farEnd
  extract_lets v1 v2 v3 v4
  have h5 : Frame M s0 v2 := (Frame.upd_mem (hM.to rfl) rfl hs0)
  clear_value v2
  have h6 : Frame M s0 v3 := by
    unfold v3
    refine (fold_rule h5 fun x10 b11 h12 => ?_)
    extract_lets v13 v14 v15
    have h16 : Frame M s0 v15 := (State.setFar_frame (hM.to rfl) (State.setChan_frame (hM.to rfl) h12))
    clear_value v15
    exact (State.wr_frame (State.wr_frame (State.wr_frame (State.wr_frame (State.showHwm_frame (hM.to rfl) h16) (hM.fam .mch rfl) rfl) (hM.fam .mch rfl) rfl) (hM.fam .mch rfl) rfl) (hM.fam .mch rfl) rfl)
  clear_value v3
  have h17 : Frame M s0 v4 := (State.wrPair_frame (State.incSat_frame h6 (hM.fam .mch rfl) rfl) (hM.fam .mch rfl) rfl rfl)
  clear_value v4
  exact (State.farGranted_frame (hM.to rfl) h17)

theorem State.farChanEnd_frame {M : Nat} {s0 : State} {s : State} {n : ℕ} (hM : Covers M 0x20040004000) (hs0 : Frame M s0 s) :
    Frame M s0 (State.farChanEnd s n) := by
  unfold State.farChanEnd
  extract_lets v1
  have h2 : Frame M s0 v1 := (State.farGranted_frame (hM.to rfl) (State.setFar_frame (hM.to rfl) (State.wr_frame hs0 (hM.fam .mch rfl) rfl)))
  clear_value v1
  exact (ite_rule (State.farEnd_frame (hM.to rfl) h2) h2)

theorem State.farAdvance_frame {M : Nat} {s0 : State} {s : State} {n : ℕ} (hM : Covers M 0x1f3e855d09fbb2) (hs0 : Frame M s0 s) :
    Frame M s0 (State.farAdvance s n) := by
  unfold State.farAdvance
  extract_lets v1 v2 v3 v4
  have h5 : Frame M s0 v2 := (State.farRestarts_frame (hM.to rfl) (State.wr_frame (State.setChan_frame (hM.to rfl) hs0) (hM.fam .mch rfl) rfl))
  clear_value v2
  have h6 : Frame M s0 v4 := (ite_rule (State.dropToken_frame (hM.to rfl) h5) h5)
  clear_value v4
  exact (State.runWaits_frame (hM.to rfl) (ite_rule (State.farChanEnd_frame (hM.to rfl) h6) (State.farYield_frame (hM.to rfl) (State.farSettle_frame (hM.to rfl) h6))))

theorem State.farOpen_frame {M : Nat} {s0 : State} {s : State} {n : ℕ} (hM : Covers M 0x1f3e855d09fbb2) (hs0 : Frame M s0 s) :
    Frame M s0 (State.farOpen s n) := by
  unfold State.farOpen
  extract_lets v1 v2
  exact (ite_rule (State.farAdvance_frame (hM.to rfl) hs0) (State.showReenc_frame (hM.to rfl) (State.setChan_frame (hM.to rfl) hs0)))

theorem State.farByGrantStep_frame {M : Nat} {s0 : State} {s : State} {n : ℕ} (hM : Covers M 0x1f3e855d09fbb2) (hs0 : Frame M s0 s) :
    Frame M s0 (State.farByGrantStep s n) := by
  unfold State.farByGrantStep
  extract_lets v1 v2
  have h3 : Frame M s0 v2 := (State.wr_frame hs0 (hM.fam .mch rfl) rfl)
  clear_value v2
  exact (State.farOpen_frame (hM.to rfl) (ite_rule (State.farWait_frame (hM.to rfl) h3) h3))

theorem State.opFarStep_frame {M : Nat} {s0 : State} {n : ℕ} {s : State} (hM : Covers M 0x1f3e855d09fbb2) (hs1 : Frame M s0 s) :
    Frame M s0 (State.opFarStep n s) := by
  unfold State.opFarStep
  extract_lets v1 v2
  have h3 : Frame M s0 v1 := (State.farWake_frame (hM.to rfl) hs1)
  clear_value v1
  have h4 : Frame M s0 v2 := (State.askToken_frame (hM.to rfl) h3)
  clear_value v2
  exact (ite_rule h3 (ite_rule (State.farYield_frame (hM.to rfl) (State.farWait_frame (hM.to rfl) h3)) (ite_rule h3 (ite_rule h4 (State.orWait_frame (hM.to rfl) h4 (fun x5 h6 => (ite_rule (State.farByGrantStep_frame (hM.to rfl) h6) (State.farOpen_frame (hM.to rfl) h6))))))))

theorem execFarPageStep_frame {M : Nat} {s0 : State} {ch : ℕ} {s : State} (hM : Covers M 0x1f3e855d09fbb2) (hs1 : Frame M s0 s) :
    NextP (Frame M s0) (execFarPageStep ch s) := by
  unfold execFarPageStep
  exact (guarded_frame hs1 (fun x1 h2 => (State.opFarStep_frame (hM.to rfl) h2)))

theorem execFarAutoStart_frame {M : Nat} {s0 : State} {s : State} (hM : Covers M 0x2015c004000) (hs0 : Frame M s0 s) :
    NextP (Frame M s0) (execFarAutoStart s) := by
  unfold execFarAutoStart
  exact (guarded_frame hs0 (fun x1 h2 => (State.farBegin_frame (hM.to rfl) h2)))

theorem State.farSweep_frame {M : Nat} {s0 : State} {s : State} {n : ℕ} {g : ℕ} {badTags : List ℕ} (hM : Covers M 0x2815d004200) (hs0 : Frame M s0 s) :
    Frame M s0 (State.farSweep s n g badTags) := by
  unfold State.farSweep
  extract_lets v1 v2 v3 v4 v5 v6 v7 v8 v9
  have h10 : Frame M s0 v5 := (fold_rule hs0 fun x11 b12 h13 => (State.poisonGran_frame (hM.to rfl) h13))
  clear_value v5
  have h14 : Frame M s0 v6 := (ite_rule h10 (State.err_frame (hM.to rfl) (State.add_frame h10 (hM.fam .mch rfl) rfl) (hM.fam .mch rfl)))
  clear_value v6
  have h15 : Frame M s0 v7 := (State.setLeaf_frame (hM.to rfl) h14)
  clear_value v7
  have h16 : Frame M s0 v9 := (State.setChan_frame (hM.to rfl) h15)
  clear_value v9
  exact (State.farMove_frame (hM.to rfl) (State.storeBlock_frame (hM.to rfl) (State.dropReenc_frame (hM.to rfl) h16)))

theorem State.opFarStepDone_frame {M : Nat} {s0 : State} {n : ℕ} {page : ℕ} {badTags : List ℕ} {s : State} (hM : Covers M 0x1f3e855d09fbb2) (hs3 : Frame M s0 s) :
    Frame M s0 (State.opFarStepDone n page badTags s) := by
  unfold State.opFarStepDone
  split
  · rename_i w1 w2
    exact hs3
  · rename_i w3 w4 w5 w6
    refine (ite_rule hs3 (State.orWait_frame (hM.to rfl) hs3 (fun x7 h8 => ?_)))
    extract_lets v9 v10
    have h11 : Frame M s0 v9 := (ite_rule h8 (State.farSweep_frame (hM.to rfl) h8))
    clear_value v9
    exact (State.farAdvance_frame (hM.to rfl) (State.showReenc_frame (hM.to rfl) (State.setChan_frame (hM.to rfl) h11)))

theorem execFarPageStepDone_frame {M : Nat} {s0 : State} {ch : ℕ} {page : ℕ} {badTags : List ℕ} {s : State} (hM : Covers M 0x1f3e855d09fbb2) (hs3 : Frame M s0 s) :
    NextP (Frame M s0) (execFarPageStepDone ch page badTags s) := by
  unfold execFarPageStepDone
  exact (guarded_frame hs3 (fun x1 h2 => (State.opFarStepDone_frame (hM.to rfl) h2)))

end Sys2Proof.Machine
end

