-- ==== Sys2Proof/Laws/FrameHost.lean ====
section
/-! SUPPORT. What each operation and each meaning of Machine/Host.lean can change: it keeps the frame `Frame M s0` for every set `M` that
has the parts it names, given that its arguments keep it. -/

namespace Sys2Proof.Machine

theorem State.hostWrite_frame {M : Nat} {s0 : State} {s : State} {fn : ℕ} {addr : ℕ} {data : List Byte} {poison : optParam Bool false} (hM : Covers M 0xd000000) (hs0 : Frame M s0 s) :
    Frame M s0 (State.hostWrite s fn addr data poison) := by
  unfold State.hostWrite
  exact (State.cnt_frame (hM.to rfl) (State.emit_frame (hM.to rfl) hs0))

theorem State.hostRead_frame {M : Nat} {s0 : State} {s : State} {fn : ℕ} {addr : ℕ} {len : ℕ} {purpose : ℕ} {key : ℕ} (hM : Covers M 0xc000400) (hs0 : Frame M s0 s) :
    Frame M s0 (State.hostRead s fn addr len purpose key) := by
  unfold State.hostRead
  extract_lets v1 v2 v3
  have h4 : Frame M s0 v3 := (Frame.upd_host (hM.to rfl) hs0)
  clear_value v3
  exact (ite_rule (State.emit_frame (hM.to rfl) h4) h4)

theorem State.spdmOut_frame {M : Nat} {s0 : State} {s : State} {session : ℕ} {code : ℕ} {body : List Byte} (hM : Covers M 0xc200400) (hs0 : Frame M s0 s) :
    Frame M s0 (State.spdmOut s session code body) := by
  unfold State.spdmOut
  extract_lets v1 v2 v3 v4 v5
  have h6 : Frame M s0 v1 := (State.emit_frame (hM.to rfl) hs0)
  clear_value v1
  have h7 : Frame M s0 v3 := (Frame.upd_trust (hM.to rfl) h6)
  clear_value v3
  have h8 : Frame M s0 v5 := (Frame.upd_host (hM.to rfl) h7)
  clear_value v5
  exact (ite_rule h7 (ite_rule (State.emit_frame (hM.to rfl) h8) h8))

theorem State.spdmSend_frame {M : Nat} {s0 : State} {s : State} {session : ℕ} {code : ℕ} {body : List Byte} (hM : Covers M 0xc200400) (hs0 : Frame M s0 s) :
    Frame M s0 (State.spdmSend s session code body) := by
  unfold State.spdmSend
  exact (ite_rule (State.spdmOut_frame (hM.to rfl) hs0) (State.spdmOut_frame (hM.to rfl) (Frame.upd_trust (hM.to rfl) hs0)))

theorem State.spdmErr_frame {M : Nat} {s0 : State} {s : State} {session : ℕ} {code : ℕ} (hM : Covers M 0xc200400) (hs0 : Frame M s0 s) :
    Frame M s0 (State.spdmErr s session code) := by
  unfold State.spdmErr
  exact (State.spdmSend_frame (hM.to rfl) hs0)

end Sys2Proof.Machine
end

