-- ==== Sys2Proof/Laws/FrameLink.lean ====
section
/-! SUPPORT. What each operation and each meaning of Machine/Link.lean can change: it keeps the frame `Frame M s0` for every set `M` that
has the parts it names, given that its arguments keep it. -/

namespace Sys2Proof.Machine

theorem State.flood_frame {M : Nat} {s0 : State} {s : State} {but : ℕ} {f : Flit} (hM : Covers M 0xc000080) (hs0 : Frame M s0 s) :
    Frame M s0 (State.flood s but f) := by
  unfold State.flood
  exact (fold_rule hs0 fun x1 b2 h3 => (State.sendFlit_frame (hM.to rfl) h3))

theorem State.leaveUp_frame {M : Nat} {s0 : State} {s : State} {n : ℕ} (hM : Covers M 0x1164804d0123a0) (hs0 : Frame M s0 s) :
    Frame M s0 (State.leaveUp s n) := by
  unfold State.leaveUp
  extract_lets v1 v2 v3 v4 v5
  have h6 : Frame M s0 v1 := (State.hitchPortLost_frame (hM.to rfl) (State.cutOccs_frame (hM.to rfl) hs0))
  clear_value v1
  have h7 : Frame M s0 v5 := (Frame.upd_sync (hM.to rfl) h6)
  clear_value v5
  exact (ite_rule (State.flood_frame (hM.to rfl) h7) h6)

theorem State.clearPdn_frame {M : Nat} {s0 : State} {s : State} {n : ℕ} (hM : Covers M 0x1000000000100) (hs0 : Frame M s0 s) :
    Frame M s0 (State.clearPdn s n) := by
  unfold State.clearPdn
  exact (State.wr_frame (Frame.upd_gait (hM.to rfl) hs0) (hM.fam .lpt rfl) rfl)

theorem execPdnClear_frame {M : Nat} {s0 : State} {p : Party} {port : ℕ} {s : State} (hM : Covers M 0x100800c000308) (hs2 : Frame M s0 s) :
    NextP (Frame M s0) (execPdnClear p port s) := by
  unfold execPdnClear
  exact (State.action_frame (hM.to rfl) hs2 (hM.fam .lpt rfl) (fun x1 h2 => (State.clearPdn_frame (hM.to rfl) h2)))

theorem State.askRekey_frame {M : Nat} {s0 : State} {s : State} {n : ℕ} (hM : Covers M 0xc000080) (hs0 : Frame M s0 s) :
    Frame M s0 (State.askRekey s n) := by
  unfold State.askRekey
  exact (State.sendFlit_frame (hM.to rfl) (State.setLink_frame (hM.to rfl) hs0))

theorem State.readyRekey_frame {M : Nat} {s0 : State} {s : State} {n : ℕ} {g : ℕ} (hM : Covers M 0x10c000080) (hs0 : Frame M s0 s) :
    Frame M s0 (State.readyRekey s n g) := by
  unfold State.readyRekey
  extract_lets v1 v2
  have h3 : Frame M s0 v2 := (ite_rule hs0 (State.saddled_frame (hM.to rfl) (State.setLink_frame (hM.to rfl) hs0)))
  clear_value v2
  exact (State.sendFlit_frame (hM.to rfl) h3)

theorem State.beginRekey_frame {M : Nat} {s0 : State} {s : State} {n : ℕ} (hM : Covers M 0x10c000080) (hs0 : Frame M s0 s) :
    Frame M s0 (State.beginRekey s n) := by
  unfold State.beginRekey
  exact (State.readyRekey_frame (hM.to rfl) (State.askRekey_frame (hM.to rfl) hs0))

theorem execRekeyNow_frame {M : Nat} {s0 : State} {p : Party} {port : ℕ} {s : State} (hM : Covers M 0x100810c000288) (hs2 : Frame M s0 s) :
    NextP (Frame M s0) (execRekeyNow p port s) := by
  unfold execRekeyNow
  exact (State.action_frame (hM.to rfl) hs2 (hM.fam .lpt rfl) (fun x1 h2 => (ite_rule (State.beginRekey_frame (hM.to rfl) h2) h2)))

theorem State.darken_frame {M : Nat} {s0 : State} {s : State} {n : ℕ} {cause : ℕ} (hM : Covers M 0x1164844d0123a0) (hs0 : Frame M s0 s) :
    Frame M s0 (State.darken s n cause) := by
  unfold State.darken
  exact (State.disablePort_frame (hM.to rfl) (ite_rule (State.leaveUp_frame (hM.to rfl) hs0) hs0))

theorem execGoDark_frame {M : Nat} {s0 : State} {p : Party} {port : ℕ} {s : State} (hM : Covers M 0x1164844d0123a8) (hs2 : Frame M s0 s) :
    NextP (Frame M s0) (execGoDark p port s) := by
  unfold execGoDark
  exact (State.action_frame (hM.to rfl) hs2 (hM.fam .lpt rfl) (fun x1 h2 => (State.darken_frame (hM.to rfl) h2)))

theorem State.startTraining_frame {M : Nat} {s0 : State} {s : State} {n : ℕ} {st : ℕ} (hM : Covers M 0x100041c0000c0) (hs0 : Frame M s0 s) :
    Frame M s0 (State.startTraining s n st) := by
  unfold State.startTraining
  extract_lets v1 v2 v3 v4 v5 v6 v7 v8
  have h9 : SndP (Frame M s0) v1 := (State.draw_frame (hM.to rfl) hs0)
  clear_value v1
  have h10 : Frame M s0 v2 := h9
  have h11 : Frame M s0 v5 := (State.setLink_frame (hM.to rfl) h10)
  clear_value v5
  have h12 : Frame M s0 v7 := (State.setPtime_frame (hM.to rfl) h11)
  clear_value v7
  have h13 : Frame M s0 v8 := (State.setLstate_frame (hM.to rfl) (State.setCal_frame (hM.to rfl) h12))
  clear_value v8
  exact (State.sendFlit_frame (hM.to rfl) h13)

theorem State.countRetrain_frame {M : Nat} {s0 : State} {s : State} {n : ℕ} (hM : Covers M 0x100840c000380) (hs0 : Frame M s0 s) :
    Frame M s0 (State.countRetrain s n) := by
  unfold State.countRetrain
  extract_lets v1 v2 v3 v4
  have h5 : Frame M s0 v1 := (State.incSat_frame hs0 (hM.fam .lpt rfl) rfl)
  clear_value v1
  have h6 : Frame M s0 v4 := (State.setLink_frame (hM.to rfl) h5)
  clear_value v4
  exact (ite_rule (State.disablePort_frame (hM.to rfl) h6) h6)

theorem State.enterRetrain_frame {M : Nat} {s0 : State} {s : State} {n : ℕ} (hM : Covers M 0x1164845d0123e0) (hs0 : Frame M s0 s) :
    Frame M s0 (State.enterRetrain s n) := by
  unfold State.enterRetrain
  extract_lets v1
  have h2 : Frame M s0 v1 := (ite_rule (State.leaveUp_frame (hM.to rfl) hs0) hs0)
  clear_value v1
  exact (State.countRetrain_frame (hM.to rfl) (State.startTraining_frame (hM.to rfl) h2))

theorem State.enterTraining_frame {M : Nat} {s0 : State} {s : State} {n : ℕ} (hM : Covers M 0x100841c0003c0) (hs0 : Frame M s0 s) :
    Frame M s0 (State.enterTraining s n) := by
  unfold State.enterTraining
  refine (ite_rule hs0 ?_)
  extract_lets v1 v2
  have h3 : Frame M s0 v2 := (State.startTraining_frame (hM.to rfl) hs0)
  clear_value v2
  exact (ite_rule h3 (State.countRetrain_frame (hM.to rfl) h3))

theorem execRetrain_frame {M : Nat} {s0 : State} {p : Party} {port : ℕ} {s : State} (hM : Covers M 0x1164845d0123e8) (hs2 : Frame M s0 s) :
    NextP (Frame M s0) (execRetrain p port s) := by
  unfold execRetrain
  exact (State.action_frame (hM.to rfl) hs2 (hM.fam .lpt rfl) (fun x1 h2 => (ite_rule (ite_rule h2 (State.enterTraining_frame (hM.to rfl) (State.setLstate_frame (hM.to rfl) (State.setLink_frame (hM.to rfl) h2)))) (ite_rule (State.enterTraining_frame (hM.to rfl) h2) (State.enterRetrain_frame (hM.to rfl) h2)))))

theorem execPortDisable_frame {M : Nat} {s0 : State} {p : Party} {port : ℕ} {s : State} (hM : Covers M 0x1164844d0123a8) (hs2 : Frame M s0 s) :
    NextP (Frame M s0) (execPortDisable p port s) := by
  unfold execPortDisable
  exact (State.action_frame (hM.to rfl) hs2 (hM.fam .lpt rfl) (fun x1 h2 => (State.darken_frame (hM.to rfl) (State.wr_frame h2 (hM.fam .lpt rfl) rfl))))

theorem execReplayCheck_frame {M : Nat} {s0 : State} {port : ℕ} {s : State} (hM : Covers M 0x1164845d0123e0) (hs1 : Frame M s0 s) :
    NextP (Frame M s0) (execReplayCheck port s) := by
  unfold execReplayCheck
  exact (guarded_frame hs1 (fun x1 h2 => (State.enterRetrain_frame (hM.to rfl) (State.err_frame (hM.to rfl) h2 (hM.fam .lpt rfl)))))

theorem State.trainFail_frame {M : Nat} {s0 : State} {s : State} {n : ℕ} {code : ℕ} (hM : Covers M 0x100840c000200) (hs0 : Frame M s0 s) :
    Frame M s0 (State.trainFail s n code) := by
  unfold State.trainFail
  exact (State.err_frame (hM.to rfl) (State.setLstate_frame (hM.to rfl) (State.wr_frame hs0 (hM.fam .lpt rfl) rfl)) (hM.fam .lpt rfl))

theorem State.beginRetry_frame {M : Nat} {s0 : State} {s : State} {n : ℕ} {cause : ℕ} (hM : Covers M 0x1164845d0123e0) (hs0 : Frame M s0 s) :
    Frame M s0 (State.beginRetry s n cause) := by
  unfold State.beginRetry
  extract_lets v1 v2 v3 v4
  have h5 : Frame M s0 v3 := (State.inc_frame (State.setLink_frame (hM.to rfl) hs0) (hM.fam .lpt rfl) rfl)
  clear_value v3
  have h6 : Frame M s0 v4 := (State.sendFlit_frame (hM.to rfl) h5)
  clear_value v4
  exact (ite_rule hs0 (ite_rule (State.enterRetrain_frame (hM.to rfl) (State.err_frame (hM.to rfl) h6 (hM.fam .lpt rfl))) h6))

theorem execCapSend_frame {M : Nat} {s0 : State} {port : ℕ} {s : State} (hM : Covers M 0xc000080) (hs1 : Frame M s0 s) :
    NextP (Frame M s0) (execCapSend port s) := by
  unfold execCapSend
  exact (guarded_frame hs1 (fun x1 h2 => (State.sendFlit_frame (hM.to rfl) h2)))

theorem execKeyReqRepeat_frame {M : Nat} {s0 : State} {port : ℕ} {s : State} (hM : Covers M 0xc000080) (hs1 : Frame M s0 s) :
    NextP (Frame M s0) (execKeyReqRepeat port s) := by
  unfold execKeyReqRepeat
  exact (guarded_frame hs1 (fun x1 h2 => (State.sendFlit_frame (hM.to rfl) h2)))

theorem execKeyFrameLimit_frame {M : Nat} {s0 : State} {port : ℕ} {s : State} (hM : Covers M 0xc000080) (hs1 : Frame M s0 s) :
    NextP (Frame M s0) (execKeyFrameLimit port s) := by
  unfold execKeyFrameLimit
  exact (guarded_frame hs1 (fun x1 h2 => (State.askRekey_frame (hM.to rfl) h2)))

theorem State.opKeyReq_frame {M : Nat} {s0 : State} {n : ℕ} {epoch : ℕ} {s : State} (hM : Covers M 0x100810c000280) (hs2 : Frame M s0 s) :
    Frame M s0 (State.opKeyReq n epoch s) := by
  unfold State.opKeyReq
  extract_lets v1
  exact (ite_rule (State.dropCtl_frame (hM.to rfl) hs2) (ite_rule hs2 (State.readyRekey_frame (hM.to rfl) hs2)))

theorem State.ctl_frame {M : Nat} {s0 : State} {s : State} {n : ℕ} {chk : UnitCheck} {seqLo : ℕ} {f : State → State} (hM : Covers M 0x100800c000280) (hs0 : Frame M s0 s) (hs4 : ∀ y0, Frame M s0 y0 → Frame M s0 (f y0)) :
    Frame M s0 (State.ctl s n chk seqLo f) := by
  unfold State.ctl
  extract_lets v1 v2
  have h3 : Frame M s0 v1 := (ite_rule (State.fecBad_frame (hM.to rfl) hs0) hs0)
  clear_value v1
  exact (ite_rule (hs4 _ (State.setLink_frame (hM.to rfl) h3)) (State.dropCtl_frame (hM.to rfl) h3))

theorem execKeyReq_frame {M : Nat} {s0 : State} {port : ℕ} {epoch : ℕ} {chk : UnitCheck} {seqLo : ℕ} {s : State} (hM : Covers M 0x100810c000280) (hs4 : Frame M s0 s) :
    NextP (Frame M s0) (execKeyReq port epoch chk seqLo s) := by
  unfold execKeyReq
  exact (guarded_frame hs4 (fun x1 h2 => (State.ctl_frame (hM.to rfl) h2 (fun x3 h4 => (State.opKeyReq_frame (hM.to rfl) h4)))))

theorem execTrainTimeout_frame {M : Nat} {s0 : State} {port : ℕ} {s : State} (hM : Covers M 0x100840c000200) (hs1 : Frame M s0 s) :
    NextP (Frame M s0) (execTrainTimeout port s) := by
  unfold execTrainTimeout
  exact (guarded_frame hs1 (fun x1 h2 => (State.trainFail_frame (hM.to rfl) h2)))

theorem execRetryRepeat_frame {M : Nat} {s0 : State} {port : ℕ} {s : State} (hM : Covers M 0xc000080) (hs1 : Frame M s0 s) :
    NextP (Frame M s0) (execRetryRepeat port s) := by
  unfold execRetryRepeat
  exact (guarded_frame hs1 (fun x1 h2 => (State.sendFlit_frame (hM.to rfl) h2)))

theorem State.showKey_frame {M : Nat} {s0 : State} {s : State} {n : ℕ} {epoch : ℕ} {gen : ℕ} (hM : Covers M 0x1000000000000) (hs0 : Frame M s0 s) :
    Frame M s0 (State.showKey s n epoch gen) := by
  unfold State.showKey
  extract_lets v1 v2
  have h3 : Frame M s0 v2 := (State.wr_frame (State.wrPair_frame (State.wr_frame (State.wr_frame hs0 (hM.fam .lpt rfl) rfl) (hM.fam .lpt rfl) rfl) (hM.fam .lpt rfl) rfl rfl) (hM.fam .lpt rfl) rfl)
  clear_value v2
  exact (State.wr_frame (State.wr_frame h3 (hM.fam .lpt rfl) rfl) (hM.fam .lpt rfl) rfl)

theorem State.enterUp_frame {M : Nat} {s0 : State} {s : State} {n : ℕ} (hM : Covers M 0x1000400000080) (hs0 : Frame M s0 s) :
    Frame M s0 (State.enterUp s n) := by
  unfold State.enterUp
  extract_lets v1 v2
  have h3 : Frame M s0 v2 := (State.setLink_frame (hM.to rfl) hs0)
  clear_value v2
  exact (State.setLstate_frame (hM.to rfl) (State.showKey_frame (hM.to rfl) h3))

theorem State.confirmKeys_frame {M : Nat} {s0 : State} {s : State} {n : ℕ} (hM : Covers M 0x100050c000080) (hs0 : Frame M s0 s) :
    Frame M s0 (State.confirmKeys s n) := by
  unfold State.confirmKeys
  extract_lets v1 v2 v3
  have h4 : Frame M s0 v3 := (ite_rule hs0 (State.sendFlit_frame (hM.to rfl) (State.saddled_frame (hM.to rfl) (State.setLink_frame (hM.to rfl) hs0))))
  clear_value v3
  exact (ite_rule (State.enterUp_frame (hM.to rfl) h4) h4)

theorem State.progress_frame {M : Nat} {s0 : State} {s : State} {n : ℕ} (hM : Covers M 0x100850c000280) (hs0 : Frame M s0 s) :
    Frame M s0 (State.progress s n) := by
  unfold State.progress
  extract_lets v1
  split
  · rename_i w2 w3
    exact hs0
  · rename_i w4 w5 w6
    refine (ite_rule hs0 ?_)
    extract_lets v7 v8
    have h9 : Frame M s0 v8 := (State.wr_frame hs0 (hM.fam .lpt rfl) rfl)
    clear_value v8
    exact (ite_rule (State.trainFail_frame (hM.to rfl) hs0) (ite_rule (State.trainFail_frame (hM.to rfl) hs0) (ite_rule h9 (ite_rule (State.trainFail_frame (hM.to rfl) h9) (ite_rule (State.confirmKeys_frame (hM.to rfl) h9) (State.setLstate_frame (hM.to rfl) h9))))))

theorem State.opKeyReady_frame {M : Nat} {s0 : State} {n : ℕ} {epoch : ℕ} {gen : ℕ} {s : State} (hM : Covers M 0x100800c000280) (hs3 : Frame M s0 s) :
    Frame M s0 (State.opKeyReady n epoch gen s) := by
  unfold State.opKeyReady
  refine (ite_rule (State.dropCtl_frame (hM.to rfl) hs3) ?_)
  extract_lets v1 v2
  have h3 : Frame M s0 v2 := (State.setLink_frame (hM.to rfl) hs3)
  clear_value v2
  exact (State.showKey_frame (hM.to rfl) h3)

theorem State.loadTxNext_frame {M : Nat} {s0 : State} {s : State} {n : ℕ} {epoch : ℕ} {gen : ℕ} (hM : Covers M 0x100000080) (hs0 : Frame M s0 s) :
    Frame M s0 (State.loadTxNext s n epoch gen) := by
  unfold State.loadTxNext
  exact (ite_rule hs0 (State.saddled_frame (hM.to rfl) (State.setLink_frame (hM.to rfl) hs0)))

theorem State.keyReadyUp_frame {M : Nat} {s0 : State} {n : ℕ} {epoch : ℕ} {gen : ℕ} {chk : UnitCheck} {seqLo : ℕ} {s : State} (hM : Covers M 0x100810c000280) (hs5 : Frame M s0 s) :
    Frame M s0 (State.keyReadyUp n epoch gen chk seqLo s) := by
  unfold State.keyReadyUp
  extract_lets v1 v2
  have h3 : Frame M s0 v2 := (ite_rule (State.loadTxNext_frame (hM.to rfl) hs5) hs5)
  clear_value v2
  exact (State.ctl_frame (hM.to rfl) h3 (fun x4 h5 => (State.opKeyReady_frame (hM.to rfl) h5)))

theorem State.resendBy_frame {M : Nat} {s0 : State} {n : ℕ} {e : ℕ} {a : List (ℕ × DataFrame)} {p3 : State} (hM : Covers M 0xc000080) (hs3 : Frame M s0 p3) :
    Frame M s0 (State.resendBy n e a p3) := by
  induction a generalizing n e p3
  · unfold State.resendBy
    exact (State.setLink_frame (hM.to rfl) hs3)
  · rename_i hd tl ih
    unfold State.resendBy
    exact (ite_rule (ih (State.emit_frame (hM.to rfl) (State.setLink_frame (hM.to rfl) hs3))) (State.setLink_frame (hM.to rfl) hs3))

theorem State.opDark_frame {M : Nat} {s0 : State} {n : ℕ} {cause : ℕ} {s : State} (hM : Covers M 0x1164844d0123a0) (hs2 : Frame M s0 s) :
    Frame M s0 (State.opDark n cause s) := by
  unfold State.opDark
  extract_lets v1
  have h2 : Frame M s0 v1 := (ite_rule (State.leaveUp_frame (hM.to rfl) hs2) hs2)
  clear_value v1
  exact (State.wr_frame (State.setLstate_frame (hM.to rfl) (State.setLink_frame (hM.to rfl) h2)) (hM.fam .lpt rfl) rfl)

theorem execDark_frame {M : Nat} {s0 : State} {port : ℕ} {cause : ℕ} {chk : UnitCheck} {unauth : Bool} {seqLo : ℕ} {s : State} (hM : Covers M 0x1164844d0123a0) (hs5 : Frame M s0 s) :
    NextP (Frame M s0) (execDark port cause chk unauth seqLo s) := by
  unfold execDark
  exact (guarded_frame hs5 (fun x1 h2 => (ite_rule (ite_rule (State.dropCtl_frame (hM.to rfl) h2) (State.ctl_frame (hM.to rfl) h2 (fun x3 h4 => (State.opDark_frame (hM.to rfl) h4)))) (ite_rule (State.fecBad_frame (hM.to rfl) h2) (ite_rule h2 (State.opDark_frame (hM.to rfl) h2))))))

theorem State.takeCap_frame {M : Nat} {s0 : State} {s : State} {n : ℕ} {c : CapFields} (hM : Covers M 0x100850c0002c0) (hs0 : Frame M s0 s) :
    Frame M s0 (State.takeCap s n c) := by
  unfold State.takeCap
  extract_lets v1 v2 v3 v4 v5 v6
  have h7 : Frame M s0 v4 := (State.setLink_frame (hM.to rfl) hs0)
  clear_value v4
  have h8 : Frame M s0 v5 := (State.setPtime_frame (hM.to rfl) h7)
  clear_value v5
  have h9 : Frame M s0 v6 := (ite_rule h8 (State.setCal_frame (hM.to rfl) h8))
  clear_value v6
  exact (State.progress_frame (hM.to rfl) (State.wr_frame h9 (hM.fam .lpt rfl) rfl))

theorem execPhyReadyFall_frame {M : Nat} {s0 : State} {port : ℕ} {s : State} (hM : Covers M 0x1164845d0123e0) (hs1 : Frame M s0 s) :
    NextP (Frame M s0) (execPhyReadyFall port s) := by
  unfold execPhyReadyFall
  refine (guarded_frame hs1 (fun x1 h2 => ?_))
  extract_lets v3
  have h4 : Frame M s0 v3 := (State.wr_frame h2 (hM.fam .lpt rfl) rfl)
  clear_value v3
  split
  · rename_i w5 w6
    exact (State.enterRetrain_frame (hM.to rfl) h4)
  · rename_i w7 w8
    exact (State.trainFail_frame (hM.to rfl) h4)
  · rename_i w9 w10
    exact (State.trainFail_frame (hM.to rfl) h4)
  · rename_i w11 w12
    exact (State.setLstate_frame (hM.to rfl) h4)
  · rename_i w13 w14 w15 w16 w17
    exact h4

theorem State.opAck_frame {M : Nat} {s0 : State} {n : ℕ} {seq : ℕ} {s : State} (hM : Covers M 0x80) (hs2 : Frame M s0 s) :
    Frame M s0 (State.opAck n seq s) := by
  unfold State.opAck
  extract_lets v1
  exact (State.setLink_frame (hM.to rfl) hs2)

theorem execPhyReadyRise_frame {M : Nat} {s0 : State} {port : ℕ} {s : State} (hM : Covers M 0x100841c0003c0) (hs1 : Frame M s0 s) :
    NextP (Frame M s0) (execPhyReadyRise port s) := by
  unfold execPhyReadyRise
  refine (guarded_frame hs1 (fun x1 h2 => ?_))
  extract_lets v3
  have h4 : Frame M s0 v3 := (State.wr_frame h2 (hM.fam .lpt rfl) rfl)
  clear_value v3
  exact (ite_rule (State.enterTraining_frame (hM.to rfl) h4) h4)

theorem execMarkReceive_frame {M : Nat} {s0 : State} {port : ℕ} {m : MarkFields} {chk : UnitCheck} {hdr : MarkHdr} {sub : ℕ} {s : State} (hM : Covers M 0x100850c0002c0) (hs5 : Frame M s0 s) :
    NextP (Frame M s0) (execMarkReceive port m chk hdr sub s) := by
  unfold execMarkReceive
  refine (guarded_frame hs5 (fun x1 h2 => ?_))
  extract_lets v3
  have h4 : Frame M s0 v3 := (State.opMarkReceive_frame (hM.to rfl) h2)
  clear_value v3
  exact (ite_rule (State.progress_frame (hM.to rfl) h4) h4)

theorem State.resumeResend_frame {M : Nat} {s0 : State} {s : State} {n : ℕ} {e : ℕ} (hM : Covers M 0xc000080) (hs0 : Frame M s0 s) :
    Frame M s0 (State.resumeResend s n e) := by
  unfold State.resumeResend
  split
  · rename_i w1 w2 w3
    exact (State.resendBy_frame (hM.to rfl) hs0)
  · rename_i w4 w5
    exact hs0

theorem State.opPdn_frame {M : Nat} {s0 : State} {n : ℕ} {station : ℕ} {sport : ℕ} {event : ℕ} {s : State} (hM : Covers M 0x100800c010380) (hs4 : Frame M s0 s) :
    Frame M s0 (State.opPdn n station sport event s) := by
  unfold State.opPdn
  refine (ite_rule (ite_rule hs4 ?_) ?_)
  · extract_lets v1 v2
    have h3 : Frame M s0 v1 := (State.err_frame (hM.to rfl) hs4 (hM.fam .lpt rfl))
    clear_value v1
    exact (State.flood_frame (hM.to rfl) (Frame.upd_sync (hM.to rfl) h3))
  · extract_lets v4 v5
    have h6 : Frame M s0 v4 := (State.err_frame (hM.to rfl) (State.wr_frame hs4 (hM.fam .lpt rfl) rfl) (hM.fam .lpt rfl))
    clear_value v4
    exact (Frame.upd_gait (hM.to rfl) h6)

theorem execAckSend_frame {M : Nat} {s0 : State} {port : ℕ} {s : State} (hM : Covers M 0xc000080) (hs1 : Frame M s0 s) :
    NextP (Frame M s0) (execAckSend port s) := by
  unfold execAckSend
  exact (guarded_frame hs1 (fun x1 h2 => (State.sendFlit_frame (hM.to rfl) (State.setLink_frame (hM.to rfl) h2))))

theorem State.trainKeyReady_frame {M : Nat} {s0 : State} {n : ℕ} {epoch : ℕ} {gen : ℕ} {ok : Bool} {s : State} (hM : Covers M 0x100850c000280) (hs4 : Frame M s0 s) :
    Frame M s0 (State.trainKeyReady n epoch gen ok s) := by
  unfold State.trainKeyReady
  extract_lets v1
  exact (ite_rule (State.dropCtl_frame (hM.to rfl) hs4) (ite_rule (State.trainFail_frame (hM.to rfl) hs4) (State.progress_frame (hM.to rfl) (State.setLink_frame (hM.to rfl) hs4))))

theorem execCap_frame {M : Nat} {s0 : State} {port : ℕ} {c : CapFields} {chk : UnitCheck} {s : State} (hM : Covers M 0x1164855d0123e0) (hs3 : Frame M s0 s) :
    NextP (Frame M s0) (execCap port c chk s) := by
  unfold execCap
  refine (guarded_frame hs3 (fun x1 h2 => (ite_rule (State.fecBad_frame (hM.to rfl) h2) (ite_rule h2 ?_))))
  split
  · rename_i w3 w4
    exact (State.takeCap_frame (hM.to rfl) h2)
  · rename_i w5 w6
    exact (State.takeCap_frame (hM.to rfl) h2)
  · rename_i w7 w8
    exact (State.takeCap_frame (hM.to rfl) h2)
  · rename_i w9 w10
    exact (ite_rule h2 (State.enterRetrain_frame (hM.to rfl) (State.setLink_frame (hM.to rfl) h2)))
  · rename_i w11 w12 w13 w14 w15
    exact h2

theorem State.resendFrom_frame {M : Nat} {s0 : State} {s : State} {n : ℕ} {seq : ℕ} (hM : Covers M 0xc000080) (hs0 : Frame M s0 s) :
    Frame M s0 (State.resendFrom s n seq) := by
  unfold State.resendFrom
  extract_lets v1 v2
  exact (ite_rule hs0 (State.resendBy_frame (hM.to rfl) (State.setLink_frame (hM.to rfl) hs0)))

theorem execTrainRetryTimer_frame {M : Nat} {s0 : State} {port : ℕ} {s : State} (hM : Covers M 0x100841c0003c0) (hs1 : Frame M s0 s) :
    NextP (Frame M s0) (execTrainRetryTimer port s) := by
  unfold execTrainRetryTimer
  exact (guarded_frame hs1 (fun x1 h2 => (State.enterTraining_frame (hM.to rfl) h2)))

theorem execKeyStall_frame {M : Nat} {s0 : State} {port : ℕ} {s : State} (hM : Covers M 0x100800c000280) (hs1 : Frame M s0 s) :
    NextP (Frame M s0) (execKeyStall port s) := by
  unfold execKeyStall
  exact (guarded_frame hs1 (fun x1 h2 => (State.err_frame (hM.to rfl) (State.setLink_frame (hM.to rfl) h2) (hM.fam .lpt rfl))))

theorem execRetry_frame {M : Nat} {s0 : State} {port : ℕ} {seq : ℕ} {_cause : ℕ} {chk : UnitCheck} {seqLo : ℕ} {s : State} (hM : Covers M 0x100800c000280) (hs5 : Frame M s0 s) :
    NextP (Frame M s0) (execRetry port seq _cause chk seqLo s) := by
  unfold execRetry
  exact (guarded_frame hs5 (fun x1 h2 => (State.ctl_frame (hM.to rfl) h2 (fun x3 h4 => (State.resendFrom_frame (hM.to rfl) h4)))))

theorem execAckTimeout_frame {M : Nat} {s0 : State} {port : ℕ} {s : State} (hM : Covers M 0xc000080) (hs1 : Frame M s0 s) :
    NextP (Frame M s0) (execAckTimeout port s) := by
  unfold execAckTimeout
  refine (guarded_frame hs1 (fun x1 h2 => ?_))
  split
  · rename_i w3 w4 w5 w6 w7
    exact (State.resendFrom_frame (hM.to rfl) h2)
  · rename_i w8 w9
    exact h2

theorem execKeyReady_frame {M : Nat} {s0 : State} {port : ℕ} {epoch : ℕ} {gen : ℕ} {chk : UnitCheck} {seqLo : ℕ} {s : State} (hM : Covers M 0x100850c000280) (hs5 : Frame M s0 s) :
    NextP (Frame M s0) (execKeyReady port epoch gen chk seqLo s) := by
  unfold execKeyReady
  exact (guarded_frame hs5 (fun x1 h2 => (ite_rule (State.keyReadyUp_frame (hM.to rfl) h2) (ite_rule (ite_rule (State.fecBad_frame (hM.to rfl) h2) (State.trainKeyReady_frame (hM.to rfl) h2)) h2))))

theorem execAck_frame {M : Nat} {s0 : State} {port : ℕ} {seq : ℕ} {chk : UnitCheck} {seqLo : ℕ} {s : State} (hM : Covers M 0x100800c000280) (hs4 : Frame M s0 s) :
    NextP (Frame M s0) (execAck port seq chk seqLo s) := by
  unfold execAck
  exact (guarded_frame hs4 (fun x1 h2 => (State.ctl_frame (hM.to rfl) h2 (fun x3 h4 => (State.opAck_frame (hM.to rfl) h4)))))

theorem execPdn_frame {M : Nat} {s0 : State} {port : ℕ} {station : ℕ} {sport : ℕ} {event : ℕ} {chk : UnitCheck} {seqLo : ℕ} {s : State} (hM : Covers M 0x100800c010380) (hs6 : Frame M s0 s) :
    NextP (Frame M s0) (execPdn port station sport event chk seqLo s) := by
  unfold execPdn
  exact (guarded_frame hs6 (fun x1 h2 => (State.ctl_frame (hM.to rfl) h2 (fun x3 h4 => (State.opPdn_frame (hM.to rfl) h4)))))

theorem execKeyReadyRepeat_frame {M : Nat} {s0 : State} {port : ℕ} {s : State} (hM : Covers M 0xc000080) (hs1 : Frame M s0 s) :
    NextP (Frame M s0) (execKeyReadyRepeat port s) := by
  unfold execKeyReadyRepeat
  exact (guarded_frame hs1 (fun x1 h2 => (State.sendFlit_frame (hM.to rfl) h2)))

end Sys2Proof.Machine
end

