-- ==== Sys2Proof/Laws/FrameCombine.lean ====
section
/-! SUPPORT. What each operation and each meaning of Machine/Combine.lean can change: it keeps the frame `Frame M s0` for every set `M` that
has the parts it names, given that its arguments keep it. -/

namespace Sys2Proof.Machine

theorem State.showCmb_frame {M : Nat} {s0 : State} {s : State} (hM : Covers M 0x200000000000) (hs0 : Frame M s0 s) :
    Frame M s0 (State.showCmb s) := by
  unfold State.showCmb
  exact (State.wr_frame hs0 (hM.fam .cmb rfl) rfl)

theorem State.dropEntry_frame {M : Nat} {s0 : State} {s : State} {k : ℕ} (hM : Covers M 0x200000100000) (hs0 : Frame M s0 s) :
    Frame M s0 (State.dropEntry s k) := by
  unfold State.dropEntry
  exact (State.showCmb_frame (hM.to rfl) (Frame.upd_cmb (hM.to rfl) hs0))

theorem State.noRoute_frame {M : Nat} {s0 : State} {s : State} (hM : Covers M 0x20800c000200) (hs0 : Frame M s0 s) :
    Frame M s0 (State.noRoute s) := by
  unfold State.noRoute
  exact (State.err_frame (hM.to rfl) (State.inc_frame hs0 (hM.fam .cmb rfl) rfl) (hM.fam .cmb rfl))

theorem State.routeFrame_frame {M : Nat} {s0 : State} {s : State} {f : DataFrame} (hM : Covers M 0x1124800d0023a0) (hs0 : Frame M s0 s) :
    Frame M s0 (State.routeFrame s f) := by
  unfold State.routeFrame
  split
  · rename_i w1 w2 w3
    exact (State.queueLoose_frame (hM.to rfl) hs0)
  · rename_i w4 w5
    exact (State.noRoute_frame (hM.to rfl) hs0)

theorem State.opFanout_frame {M : Nat} {s0 : State} {k : ℕ} {status : ℕ} {data : List Byte} {poison : ℕ} {s : State} (hM : Covers M 0x1124800d1023a0) (hs4 : Frame M s0 s) :
    Frame M s0 (State.opFanout k status data poison s) := by
  unfold State.opFanout
  split
  · rename_i w1 w2
    exact hs4
  · rename_i w3 w4 w5
    extract_lets v6
    have h7 : Frame M s0 v6 := (State.dropEntry_frame (hM.to rfl) hs4)
    clear_value v6
    refine (fold_rule h7 fun x8 b9 h10 => ?_)
    extract_lets v11 v12
    exact (State.routeFrame_frame (hM.to rfl) h10)

theorem State.combine_frame {M : Nat} {s0 : State} {s : State} {e : CmbEntry} {a : ℕ} (hM : Covers M 0x100) (hs0 : Frame M s0 s) :
    Frame M s0 (State.combine s e a) := by
  unfold State.combine
  extract_lets v1
  exact (State.setLoose_frame (hM.to rfl) hs0)

theorem State.putEntry_frame {M : Nat} {s0 : State} {s : State} {k : ℕ} {e : CmbEntry} (hM : Covers M 0x100000) (hs0 : Frame M s0 s) :
    Frame M s0 (State.putEntry s k e) := by
  unfold State.putEntry
  exact (Frame.upd_cmb (hM.to rfl) hs0)

theorem State.mergeReq_frame {M : Nat} {s0 : State} {s : State} {inPort : ℕ} {q : ℕ} {f : DataFrame} {o : ℕ} (hM : Covers M 0x200000100100) (hs0 : Frame M s0 s) :
    SndP (Frame M s0) (State.mergeReq s inPort q f o) := by
  unfold State.mergeReq
  extract_lets v1 v2 v3 v4 v5 v6 v7 v8 v9
  have h10 : Frame M s0 v8 := (State.putEntry_frame (hM.to rfl) hs0)
  clear_value v8
  refine (ite_rule (P := (SndP (Frame M s0))) hs0 ?_)
  split
  · rename_i w11 w12 w13 w14
    refine (ite_rule (P := (SndP (Frame M s0))) hs0 ?_)
    extract_lets v15
    have h16 : Frame M s0 v15 := (ite_rule hs0 (State.combine_frame (hM.to rfl) hs0))
    clear_value v15
    exact (State.inc_frame (State.putEntry_frame (hM.to rfl) h16) (hM.fam .cmb rfl) rfl)
  · rename_i w17 w18
    exact (ite_rule (P := (SndP (Frame M s0))) hs0 (State.showCmb_frame (hM.to rfl) (Frame.upd_cmb (hM.to rfl) h10)))

theorem State.mergeFrame_frame {M : Nat} {s0 : State} {s : State} {inPort : ℕ} {q : ℕ} {f : DataFrame} (hM : Covers M 0x1124800d1023a0) (hs0 : Frame M s0 s) :
    Frame M s0 (State.mergeFrame s inPort q f) := by
  unfold State.mergeFrame
  refine (ite_rule (State.queueLoose_frame (hM.to rfl) hs0) ?_)
  extract_lets v1
  have h2 : SndP (Frame M s0) v1 := by
    unfold v1
    refine (fold_rule (P := (SndP (Frame M s0))) hs0 fun x6 b7 h8 => ?_)
    extract_lets v9
    have h10 : SndP (Frame M s0) v9 := (State.mergeReq_frame (hM.to rfl) h8)
    clear_value v9
    exact h10
  clear_value v1
  exact (ite_rule h2 (State.queueLoose_frame (hM.to rfl) h2))

theorem State.passRsp_frame {M : Nat} {s0 : State} {s : State} {f : DataFrame} (hM : Covers M 0x1124800d1023a0) (hs0 : Frame M s0 s) :
    Frame M s0 (State.passRsp s f) := by
  unfold State.passRsp
  extract_lets v1
  have h2 : SndP (Frame M s0) v1 := by
    unfold v1
    refine (fold_rule (P := (SndP (Frame M s0))) hs0 fun x6 b7 h8 => ?_)
    extract_lets v9 v10
    split
    · rename_i w11 w12 w13 w14
      extract_lets v15
      exact (State.opFanout_frame (hM.to rfl) h8)
    · rename_i w16 w17
      exact h8
  clear_value v1
  exact (ite_rule h2 (State.routeFrame_frame (hM.to rfl) h2))

theorem State.passLoose_frame {M : Nat} {s0 : State} {s : State} {inPort : ℕ} {f : DataFrame} (hM : Covers M 0x1124800d1023a0) (hs0 : Frame M s0 s) :
    Frame M s0 (State.passLoose s inPort f) := by
  unfold State.passLoose
  refine (ite_rule (State.passRsp_frame (hM.to rfl) hs0) (ite_rule ?_ (State.routeFrame_frame (hM.to rfl) hs0)))
  split
  · rename_i w1 w2 w3
    exact (State.mergeFrame_frame (hM.to rfl) hs0)
  · rename_i w4 w5
    exact (State.noRoute_frame (hM.to rfl) hs0)

theorem execCmbEntryAge_frame {M : Nat} {s0 : State} {entry : ℕ} {s : State} (hM : Covers M 0x200000100000) (hs1 : Frame M s0 s) :
    NextP (Frame M s0) (execCmbEntryAge entry s) := by
  unfold execCmbEntryAge
  exact (guarded_frame hs1 (fun x1 h2 => (State.dropEntry_frame (hM.to rfl) h2)))

theorem execCmbFanout_frame {M : Nat} {s0 : State} {entry : ℕ} {status : ℕ} {data : List Byte} {poison : ℕ} {s : State} (hM : Covers M 0x1124800d1023a0) (hs4 : Frame M s0 s) :
    NextP (Frame M s0) (execCmbFanout entry status data poison s) := by
  unfold execCmbFanout
  exact (guarded_frame hs4 (fun x1 h2 => (State.opFanout_frame (hM.to rfl) h2)))

end Sys2Proof.Machine
end

