-- ==== Sys2Proof/Laws/FrameReduce.lean ====
section
/-! SUPPORT. What each operation and each meaning of Machine/Reduce.lean can change: it keeps the frame `Frame M s0` for every set `M` that
has the parts it names, given that its arguments keep it. -/

namespace Sys2Proof.Machine

theorem State.applyHeldSigs_frame {M : Nat} {s0 : State} {s : State} {i : RedInst} {status : ℕ} (hM : Covers M 0x1f26855d01fbb2) (hs0 : Frame M s0 s) :
    Frame M s0 (State.applyHeldSigs s i status) := by
  unfold State.applyHeldSigs
  extract_lets v1
  exact (fold_rule hs0 fun x2 b3 h4 => (State.applySignal_frame (hM.to rfl) h4))

theorem State.setRoot_frame {M : Nat} {s0 : State} {s : State} {n : ℕ} {r : RedRoot} (hM : Covers M 0x20000) (hs0 : Frame M s0 s) :
    Frame M s0 (State.setRoot s n r) := by
  unfold State.setRoot
  exact (Frame.upd_red (hM.to rfl) hs0)

theorem State.redCode_frame {M : Nat} {s0 : State} {s : State} {code : ℕ} (hM : Covers M 0x800000000000) (hs0 : Frame M s0 s) :
    Frame M s0 (State.redCode s code) := by
  unfold State.redCode
  exact (State.wr_frame (State.wr_frame hs0 (hM.fam .red rfl) rfl) (hM.fam .red rfl) rfl)

theorem State.opResetRoot_frame {M : Nat} {s0 : State} {s : State} (hM : Covers M 0x1fa6855d03fbb2) (hs0 : Frame M s0 s) :
    Frame M s0 (State.opResetRoot s) := by
  unfold State.opResetRoot
  extract_lets v1 v2 v3 v4 v5
  have h6 : Frame M s0 v4 := (State.setRoot_frame (hM.to rfl) hs0)
  clear_value v4
  have h7 : Frame M s0 v5 := (State.add_frame h6 (hM.fam .red rfl) rfl)
  clear_value v5
  exact (ite_rule (State.redCode_frame (hM.to rfl) hs0) (State.redCode_frame (hM.to rfl) (fold_rule h7 fun x8 b9 h10 => (State.applyHeldSigs_frame (hM.to rfl) h10))))

theorem execResetRoot_frame {M : Nat} {s0 : State} {p : Party} {s : State} (hM : Covers M 0x1fa6855d03fbba) (hs1 : Frame M s0 s) :
    NextP (Frame M s0) (execResetRoot p s) := by
  unfold execResetRoot
  exact (State.action_frame (hM.to rfl) hs1 (hM.fam .red rfl) (fun x1 h2 => (State.opResetRoot_frame (hM.to rfl) h2)))

theorem State.opDescInvalidate_frame {M : Nat} {s0 : State} {s : State} (hM : Covers M 0x80800c020200) (hs0 : Frame M s0 s) :
    Frame M s0 (State.opDescInvalidate s) := by
  unfold State.opDescInvalidate
  extract_lets v1 v2 v3 v4
  exact (ite_rule (State.err_frame (hM.to rfl) (State.redCode_frame (hM.to rfl) hs0) (hM.fam .red rfl)) (ite_rule (State.err_frame (hM.to rfl) (State.redCode_frame (hM.to rfl) hs0) (hM.fam .red rfl)) (State.redCode_frame (hM.to rfl) (Frame.upd_red (hM.to rfl) hs0))))

theorem execRedDescInvalidate_frame {M : Nat} {s0 : State} {p : Party} {s : State} (hM : Covers M 0x80800c020208) (hs1 : Frame M s0 s) :
    NextP (Frame M s0) (execRedDescInvalidate p s) := by
  unfold execRedDescInvalidate
  exact (State.action_frame (hM.to rfl) hs1 (hM.fam .red rfl) (fun x1 h2 => (State.opDescInvalidate_frame (hM.to rfl) h2)))

theorem State.opDescRead_frame {M : Nat} {s0 : State} {s : State} (hM : Covers M 0x800000000000) (hs0 : Frame M s0 s) :
    Frame M s0 (State.opDescRead s) := by
  unfold State.opDescRead
  refine (ite_rule (State.redCode_frame (hM.to rfl) hs0) ?_)
  extract_lets v1 v2
  have h3 : Frame M s0 v2 := (fold_rule hs0 fun x4 b5 h6 => (State.wr_frame h6 (hM.fam .red rfl) rfl))
  clear_value v2
  exact (State.redCode_frame (hM.to rfl) h3)

theorem execRedDescRead_frame {M : Nat} {s0 : State} {p : Party} {s : State} (hM : Covers M 0x80800c000208) (hs1 : Frame M s0 s) :
    NextP (Frame M s0) (execRedDescRead p s) := by
  unfold execRedDescRead
  exact (State.action_frame (hM.to rfl) hs1 (hM.fam .red rfl) (fun x1 h2 => (State.opDescRead_frame (hM.to rfl) h2)))

theorem State.opDescWrite_frame {M : Nat} {s0 : State} {s : State} (hM : Covers M 0x80800c020200) (hs0 : Frame M s0 s) :
    Frame M s0 (State.opDescWrite s) := by
  unfold State.opDescWrite
  extract_lets v1 v2 v3 v4
  exact (ite_rule (State.redCode_frame (hM.to rfl) (Frame.upd_red (hM.to rfl) hs0)) (State.err_frame (hM.to rfl) (State.redCode_frame (hM.to rfl) hs0) (hM.fam .red rfl)))

theorem execRedDescWrite_frame {M : Nat} {s0 : State} {p : Party} {s : State} (hM : Covers M 0x80800c020208) (hs1 : Frame M s0 s) :
    NextP (Frame M s0) (execRedDescWrite p s) := by
  unfold execRedDescWrite
  exact (State.action_frame (hM.to rfl) hs1 (hM.fam .red rfl) (fun x1 h2 => (State.opDescWrite_frame (hM.to rfl) h2)))

theorem State.dropInst_frame {M : Nat} {s0 : State} {s : State} {root : ℕ} {index : ℕ} (hM : Covers M 0x20000) (hs0 : Frame M s0 s) :
    Frame M s0 (State.dropInst s root index) := by
  unfold State.dropInst
  extract_lets v1
  exact (State.setRoot_frame (hM.to rfl) hs0)

theorem State.putInst_frame {M : Nat} {s0 : State} {s : State} {root : ℕ} {i : RedInst} (hM : Covers M 0x20000) (hs0 : Frame M s0 s) :
    Frame M s0 (State.putInst s root i) := by
  unfold State.putInst
  extract_lets v1
  exact (State.setRoot_frame (hM.to rfl) hs0)

theorem State.failInst_frame {M : Nat} {s0 : State} {s : State} {root : ℕ} {i : RedInst} {how : RedEnd} {status : ℕ} (hM : Covers M 0x1fa6855d03fbb2) (hs0 : Frame M s0 s) :
    Frame M s0 (State.failInst s root i how status) := by
  unfold State.failInst
  extract_lets v1
  have h2 : Frame M s0 v1 := (State.inc_frame hs0 (hM.fam .red rfl) rfl)
  clear_value v1
  exact (ite_rule (State.putInst_frame (hM.to rfl) h2) (State.applyHeldSigs_frame (hM.to rfl) (State.dropInst_frame (hM.to rfl) h2)))

theorem State.trapped_frame {M : Nat} {s0 : State} {s : State} {clusters : List ℕ} (hM : Covers M 0x80800c000200) (hs0 : Frame M s0 s) :
    Frame M s0 (State.trapped s clusters) := by
  unfold State.trapped
  exact (fold_rule hs0 fun x1 b2 h3 => (State.err_frame (hM.to rfl) h3 (hM.fam .red rfl)))

theorem State.redFlags_frame {M : Nat} {s0 : State} {s : State} {clusters : List ℕ} {f : ℕ} (hM : Covers M 0x80800c000200) (hs0 : Frame M s0 s) :
    Frame M s0 (State.redFlags s clusters f) := by
  unfold State.redFlags
  extract_lets v1 v2 v3 v4 v5
  have h6 : Frame M s0 v2 := (ite_rule (State.wr_frame hs0 (hM.fam .red rfl) rfl) hs0)
  clear_value v2
  have h7 : Frame M s0 v3 := (ite_rule (State.wr_frame h6 (hM.fam .red rfl) rfl) h6)
  clear_value v3
  have h8 : Frame M s0 v4 := (ite_rule (State.wr_frame h7 (hM.fam .red rfl) rfl) h7)
  clear_value v4
  have h9 : Frame M s0 v5 := (ite_rule (State.wr_frame h8 (hM.fam .red rfl) rfl) h8)
  clear_value v5
  exact (State.trapped_frame (hM.to rfl) h9)

theorem State.finaliseInst_frame {M : Nat} {s0 : State} {s : State} {root : ℕ} {d : RedDesc} {i : RedInst} (hM : Covers M 0x1fb6855d0bfbb2) (hs0 : Frame M s0 s) :
    Frame M s0 (State.finaliseInst s root d i) := by
  unfold State.finaliseInst
  extract_lets v1 v2 v3 v4 v5 v6 v7 v8
  have h9 : Frame M s0 v5 := (fold_rule hs0 fun x10 b11 h12 => (State.add_frame h12 (hM.fam .red rfl) rfl))
  clear_value v5
  have h13 : Frame M s0 v7 := (State.redFlags_frame (hM.to rfl) h9)
  clear_value v7
  have h14 : StP (Frame M s0) v8 := (State.writeAs_frame (hM.to rfl) h13)
  clear_value v8
  exact (ite_rule (State.putInst_frame (hM.to rfl) (State.gaitWrote_frame (hM.to rfl) h14)) (State.failInst_frame (hM.to rfl) h14))

theorem State.endCheck_frame {M : Nat} {s0 : State} {s : State} {root : ℕ} {d : RedDesc} {i : RedInst} (hM : Covers M 0x1fb6855d0bfbb2) (hs0 : Frame M s0 s) :
    Frame M s0 (State.endCheck s root d i) := by
  unfold State.endCheck
  extract_lets v1
  exact (ite_rule (State.failInst_frame (hM.to rfl) (State.err_frame (hM.to rfl) hs0 (hM.fam .red rfl))) (ite_rule (State.putInst_frame (hM.to rfl) hs0) (ite_rule (State.failInst_frame (hM.to rfl) hs0) (ite_rule (State.putInst_frame (hM.to rfl) hs0) (State.finaliseInst_frame (hM.to rfl) hs0)))))

theorem State.countOperands_frame {M : Nat} {s0 : State} {s : State} {i : RedInst} (hM : Covers M 0x800000000000) (hs0 : Frame M s0 s) :
    Frame M s0 (State.countOperands s i) := by
  unfold State.countOperands
  refine (fold_rule hs0 fun x1 b2 h3 => ?_)
  extract_lets v4
  exact (State.wrPair_frame h3 (hM.fam .red rfl) rfl rfl)

theorem State.intoInst_frame {M : Nat} {s0 : State} {s : State} {d : RedDesc} {i : RedInst} {who : ℕ} {p4 : Delivery} (hM : Covers M 0x80800c000200) (hs0 : Frame M s0 s) :
    FstP (Frame M s0) (State.intoInst s d i who p4) := by
  unfold State.intoInst
  extract_lets v1 v2
  split
  · rename_i w3
    exact hs0
  · rename_i w4 w5 w6
    extract_lets v7 v8
    exact (State.trapped_frame (hM.to rfl) (State.countOperands_frame (hM.to rfl) hs0))
  · rename_i w9 w10 w11
    extract_lets v12 v13
    exact (ite_rule (P := (FstP (Frame M s0))) (State.err_frame (hM.to rfl) hs0 (hM.fam .red rfl)) (State.countOperands_frame (hM.to rfl) hs0))

theorem State.stallRoot_frame {M : Nat} {s0 : State} {s : State} {root : ℕ} (hM : Covers M 0x80800c020200) (hs0 : Frame M s0 s) :
    Frame M s0 (State.stallRoot s root) := by
  unfold State.stallRoot
  exact (State.err_frame (hM.to rfl) (State.setRoot_frame (hM.to rfl) hs0) (hM.fam .red rfl))

theorem State.openInst_frame {M : Nat} {s0 : State} {s : State} {root : ℕ} {d : RedDesc} (hM : Covers M 0x20000) (hs0 : Frame M s0 s) :
    SomeP (FstP (Frame M s0)) (State.openInst s root d) := by
  unfold State.openInst
  extract_lets v1 v2 v3 v4 v5
  exact (ite_rule (P := (SomeP (FstP (Frame M s0)))) SomeP.none (SomeP.some (P := (FstP (Frame M s0))) (State.setRoot_frame (hM.to rfl) hs0)))

theorem State.pickInst_frame {M : Nat} {s0 : State} {s : State} {root : ℕ} {d : RedDesc} {who : ℕ} (hM : Covers M 0x20000) (hs0 : Frame M s0 s) :
    InrP (FstP (Frame M s0)) (State.pickInst s root d who) := by
  unfold State.pickInst
  extract_lets v1
  split
  · rename_i w2 w3 w4
    exact (InrP.inr (P := (FstP (Frame M s0))) hs0)
  · rename_i w5 w6
    refine (ite_rule (P := (InrP (FstP (Frame M s0)))) InrP.inl ?_)
    split
    · rename_i w7 w8 w9
      have h10 : FstP (Frame M s0) w8 := SomeP.out w9 (State.openInst_frame (hM.to rfl) hs0)
      exact (InrP.inr (P := (FstP (Frame M s0))) h10)
    · rename_i w11 w12
      exact InrP.inl

theorem State.descFault_frame {M : Nat} {s0 : State} {s : State} (hM : Covers M 0x80800c000200) (hs0 : Frame M s0 s) :
    Frame M s0 (State.descFault s) := by
  unfold State.descFault
  exact (State.err_frame (hM.to rfl) hs0 (hM.fam .red rfl))

theorem State.redDeliver_frame {M : Nat} {s0 : State} {s : State} {desc : ℕ} {who : ℕ} {p3 : Delivery} {sig : Option Sig} (hM : Covers M 0x1fb6855d0bfbb2) (hs0 : Frame M s0 s) :
    FstP (Frame M s0) (State.redDeliver s desc who p3 sig) := by
  unfold State.redDeliver
  extract_lets v1
  have h2 : ∀ y0, Frame M s0 y0 → Frame M s0 (v1 y0) := by
    refine (fun x3 h4 => ?_)
    unfold v1
    split
    · rename_i w5 w6
      exact (State.applySignal_frame (hM.to rfl) h4)
    · rename_i w7
      exact h4
  clear_value v1
  split
  · rename_i w8 w9
    exact (State.descFault_frame (hM.to rfl) hs0)
  · rename_i w10 w11 w12
    extract_lets v13 v14
    refine (ite_rule (P := (FstP (Frame M s0))) (State.descFault_frame (hM.to rfl) hs0) (ite_rule (P := (FstP (Frame M s0))) (h2 _ hs0) (ite_rule (P := (FstP (Frame M s0))) (h2 _ (State.setRoot_frame (hM.to rfl) hs0)) ?_)))
    split
    · rename_i w15 w16
      exact (h2 _ (State.stallRoot_frame (hM.to rfl) hs0))
    · rename_i w17 w18 w19 w20
      exact (h2 _ (State.err_frame (hM.to rfl) (State.inc_frame hs0 (hM.fam .red rfl) rfl) (hM.fam .red rfl)))
    · rename_i w21 w22 w23 w24
      have h25 : Frame M s0 w22 := InrP.out (P := (FstP (Frame M s0))) w24 (State.pickInst_frame (hM.to rfl) hs0)
      extract_lets v26 v27 v28 v29
      have h30 : Frame M s0 v26 := (State.cnt_frame (hM.to rfl) h25)
      clear_value v26
      have h31 : FstP (Frame M s0) v27 := (State.intoInst_frame (hM.to rfl) (State.wakeSlots_frame (hM.to rfl) h30))
      clear_value v27
      exact (State.endCheck_frame (hM.to rfl) h31)

theorem State.redShort_frame {M : Nat} {s0 : State} {s : State} (hM : Covers M 0x4800c000200) (hs0 : Frame M s0 s) :
    Frame M s0 (State.redShort s) := by
  unfold State.redShort
  exact (ite_rule (State.err_frame (hM.to rfl) hs0 (hM.fam .gait rfl)) hs0)

theorem execResultWriteDone_frame {M : Nat} {s0 : State} {root : ℕ} {index : ℕ} {s : State} (hM : Covers M 0x1f26855d03fbb2) (hs2 : Frame M s0 s) :
    NextP (Frame M s0) (execResultWriteDone root index s) := by
  unfold execResultWriteDone
  refine (guarded_frame hs2 (fun x1 h2 => ?_))
  split
  · rename_i w3 w4
    exact h2
  · rename_i w5 w6 w7
    exact (State.applyHeldSigs_frame (hM.to rfl) (State.dropInst_frame (hM.to rfl) h2))

theorem execInstanceDeadline_frame {M : Nat} {s0 : State} {root : ℕ} {index : ℕ} {s : State} (hM : Covers M 0x1fa6855d03fbb2) (hs2 : Frame M s0 s) :
    NextP (Frame M s0) (execInstanceDeadline root index s) := by
  unfold execInstanceDeadline
  refine (guarded_frame hs2 (fun x1 h2 => ?_))
  split
  · rename_i w3 w4
    exact h2
  · rename_i w5 w6 w7
    extract_lets v8 v9 v10
    have h11 : Frame M s0 v9 := (State.failInst_frame (hM.to rfl) h2)
    clear_value v9
    exact (State.err_frame (hM.to rfl) (State.setRoot_frame (hM.to rfl) h11) (hM.fam .red rfl))

end Sys2Proof.Machine
end

