-- ==== Sys2Proof/Laws/FrameGaitLoad.lean ====
section
/-! SUPPORT. What each operation and each meaning of Machine/GaitLoad.lean can change: it keeps the frame `Frame M s0` for every set `M` that
has the parts it names, given that its arguments keep it. -/

namespace Sys2Proof.Machine

theorem State.showActive_frame {M : Nat} {s0 : State} {s : State} (hM : Covers M 0x40000000000) (hs0 : Frame M s0 s) :
    Frame M s0 (State.showActive s) := by
  unfold State.showActive
  exact (State.wr_frame hs0 (hM.fam .gait rfl) rfl)

theorem State.setSwap_frame {M : Nat} {s0 : State} {s : State} {p1 : ℕ} (hM : Covers M 0x40000000000) (hs0 : Frame M s0 s) :
    Frame M s0 (State.setSwap s p1) := by
  unfold State.setSwap
  exact (State.wr_frame hs0 (hM.fam .gait rfl) rfl)

theorem execGo_frame {M : Nat} {s0 : State} {p : Party} {s : State} (hM : Covers M 0x4804c000208) (hs1 : Frame M s0 s) :
    NextP (Frame M s0) (execGo p s) := by
  unfold execGo
  exact (State.action_frame (hM.to rfl) hs1 (hM.fam .gait rfl) (fun x1 h2 => (ite_rule (State.assisted_frame (hM.to rfl) h2 (fun x3 h4 => (State.setSwap_frame (hM.to rfl) (State.haClear_frame (hM.to rfl) h4)))) h2)))

theorem State.opArmClear_frame {M : Nat} {s0 : State} {s : State} (hM : Covers M 0x40040000000) (hs0 : Frame M s0 s) :
    Frame M s0 (State.opArmClear s) := by
  unfold State.opArmClear
  refine (ite_rule hs0 ?_)
  extract_lets v1
  have h2 : Frame M s0 v1 := (State.wr_frame hs0 (hM.fam .gait rfl) rfl)
  clear_value v1
  exact (ite_rule (State.setSwap_frame (hM.to rfl) (ite_rule (State.haClear_frame (hM.to rfl) h2) h2)) h2)

theorem execArmClear_frame {M : Nat} {s0 : State} {p : Party} {s : State} (hM : Covers M 0x4804c000208) (hs1 : Frame M s0 s) :
    NextP (Frame M s0) (execArmClear p s) := by
  unfold execArmClear
  exact (State.action_frame (hM.to rfl) hs1 (hM.fam .gait rfl) (fun x1 h2 => (State.opArmClear_frame (hM.to rfl) h2)))

theorem State.noteNew_frame {M : Nat} {s0 : State} {s : State} {imgs : List (ℕ × GaitImage)} (hM : Covers M 0x100) (hs0 : Frame M s0 s) :
    Frame M s0 (State.noteNew s imgs) := by
  unfold State.noteNew
  exact (Frame.upd_gait (hM.to rfl) hs0)

theorem State.opArm_frame {M : Nat} {s0 : State} {s : State} (hM : Covers M 0x4804c000300) (hs0 : Frame M s0 s) :
    Frame M s0 (State.opArm s) := by
  unfold State.opArm
  refine (ite_rule hs0 ?_)
  extract_lets v1 v2 v3
  have h4 : Frame M s0 v2 := (State.noteNew_frame (hM.to rfl) hs0)
  clear_value v2
  have h5 : Frame M s0 v3 := (State.redShort_frame (hM.to rfl) (State.setSwap_frame (hM.to rfl) (State.wr_frame h4 (hM.fam .gait rfl) rfl)))
  clear_value v3
  exact (ite_rule (State.wr_frame (State.wr_frame hs0 (hM.fam .gait rfl) rfl) (hM.fam .gait rfl) rfl) (ite_rule (State.haPost_frame (hM.to rfl) h5) h5))

theorem execArm_frame {M : Nat} {s0 : State} {p : Party} {s : State} (hM : Covers M 0x4804c000308) (hs1 : Frame M s0 s) :
    NextP (Frame M s0) (execArm p s) := by
  unfold execArm
  exact (State.action_frame (hM.to rfl) hs1 (hM.fam .gait rfl) (fun x1 h2 => (State.opArm_frame (hM.to rfl) h2)))

theorem execSwapCommitPoint_frame {M : Nat} {s0 : State} {s : State} (hM : Covers M 0x40040000000) (hs0 : Frame M s0 s) :
    NextP (Frame M s0) (execSwapCommitPoint s) := by
  unfold execSwapCommitPoint
  exact (guarded_frame hs0 (fun x1 h2 => (State.setSwap_frame (hM.to rfl) (ite_rule (State.fallback_frame (hM.to rfl) (State.haClear_frame (hM.to rfl) h2)) h2))))

theorem State.setNewImage_frame {M : Nat} {s0 : State} {s : State} {n : ℕ} {g : Option GaitImage} (hM : Covers M 0x40000000100) (hs0 : Frame M s0 s) :
    Frame M s0 (State.setNewImage s n g) := by
  unfold State.setNewImage
  extract_lets v1 v2 v3
  exact (State.wr_frame (Frame.upd_gait (hM.to rfl) hs0) (hM.fam .gait rfl) rfl)

theorem State.finishLoad_frame {M : Nat} {s0 : State} {s : State} {p : ℕ} {port : ℕ} {l : List Byte} {avail : ℕ} (hM : Covers M 0x4800c000b00) (hs0 : Frame M s0 s) :
    Frame M s0 (State.finishLoad s p port l avail) := by
  unfold State.finishLoad
  extract_lets v1 v2 v3 v4 v5
  have h6 : Frame M s0 v3 := (State.wr_frame (State.wr_frame (State.wr_frame (State.wr_frame hs0 (hM.fam .gait rfl) rfl) (hM.fam .gait rfl) rfl) (hM.fam .gait rfl) rfl) (hM.fam .gait rfl) rfl)
  clear_value v3
  have h7 : Frame M s0 v4 := (State.wr_frame h6 (hM.fam .gait rfl) rfl)
  clear_value v4
  have h8 : Frame M s0 v5 := (ite_rule (State.setNewImage_frame (hM.to rfl) h7) h7)
  clear_value v5
  exact (ite_rule (State.kres_frame (hM.to rfl) (State.setNewImage_frame (hM.to rfl) h7)) (State.kres_frame (hM.to rfl) (State.err_frame (hM.to rfl) h8 (hM.fam .gait rfl))))

theorem State.imageGot_frame {M : Nat} {s0 : State} {s : State} {p : ℕ} {p2 : Pkt} {ok : Bool} {l : List Byte} (hM : Covers M 0x4800c000f00) (hs0 : Frame M s0 s) :
    Frame M s0 (State.imageGot s p p2 ok l) := by
  unfold State.imageGot
  exact (ite_rule (State.finish_frame (hM.to rfl) hs0) (ite_rule (State.finishLoad_frame (hM.to rfl) hs0) (State.hostRead_frame (hM.to rfl) hs0)))

theorem State.opGaitLoad_frame {M : Nat} {s0 : State} {p : ℕ} {p1 : Pkt} {s : State} (hM : Covers M 0x1f06855d01dfb2) (hs2 : Frame M s0 s) :
    Frame M s0 (State.opGaitLoad p p1 s) := by
  unfold State.opGaitLoad
  extract_lets v1 v2
  refine (ite_rule (State.finishLoad_frame (hM.to rfl) hs2) (ite_rule (State.hostRead_frame (hM.to rfl) hs2) ?_))
  split
  · rename_i w3 w4
    exact (State.finish_frame (hM.to rfl) hs2)
  · rename_i w5 w6 w7
    extract_lets v8 v9
    have h10 : StP (Frame M s0) v8 := (State.readAs_frame (hM.to rfl) hs2)
    clear_value v8
    have h11 : StP (Frame M s0) v9 := (State.readAs_frame (hM.to rfl) h10)
    clear_value v9
    exact (ite_rule (State.finish_frame (hM.to rfl) h10) (ite_rule (State.finishLoad_frame (hM.to rfl) h10) (ite_rule (State.finishLoad_frame (hM.to rfl) h11) (State.finish_frame (hM.to rfl) h11))))

theorem execGaitLoad_frame {M : Nat} {s0 : State} {p : ℕ} {s : State} (hM : Covers M 0x1f06855d01dfb2) (hs1 : Frame M s0 s) :
    NextP (Frame M s0) (execGaitLoad p s) := by
  unfold execGaitLoad
  exact (State.perform_frame (hM.to rfl) hs1 (fun x1 x2 h3 => (State.opGaitLoad_frame (hM.to rfl) h3)))

theorem State.flipPort_frame {M : Nat} {s0 : State} {s : State} {n : ℕ} (hM : Covers M 0x40000000000) (hs0 : Frame M s0 s) :
    Frame M s0 (State.flipPort s n) := by
  unfold State.flipPort
  extract_lets v1 v2 v3
  have h4 : Frame M s0 v3 := (State.wr_frame hs0 (hM.fam .gait rfl) rfl)
  clear_value v3
  split
  · rename_i w5 w6
    exact (State.wr_frame hs0 (hM.fam .gait rfl) rfl)
  · rename_i w7 w8 w9
    extract_lets v10
    have h11 : Frame M s0 v10 := (State.wr_frame (State.wr_frame h4 (hM.fam .gait rfl) rfl) (hM.fam .gait rfl) rfl)
    clear_value v10
    exact (State.wr_frame (State.wr_frame h11 (hM.fam .gait rfl) rfl) (hM.fam .gait rfl) rfl)

end Sys2Proof.Machine
end

