-- ==== Sys2Proof/Laws/FrameFabric.lean ====
section
/-! SUPPORT. What each operation and each meaning of Machine/Fabric.lean can change: it keeps the frame `Frame M s0` for every set `M` that
has the parts it names, given that its arguments keep it. -/

namespace Sys2Proof.Machine

theorem State.showGw_frame {M : Nat} {s0 : State} {s : State} (hM : Covers M 0x80000000000) (hs0 : Frame M s0 s) :
    Frame M s0 (State.showGw s) := by
  unfold State.showGw
  extract_lets v1
  exact (State.wr_frame (State.wr_frame (State.wr_frame (State.wr_frame hs0 (hM.fam .gw rfl) rfl) (hM.fam .gw rfl) rfl) (hM.fam .gw rfl) rfl) (hM.fam .gw rfl) rfl)

theorem State.setSrc_frame {M : Nat} {s0 : State} {s : State} {k : ℕ} {p2 : GwSrc} (hM : Covers M 0x80000040000) (hs0 : Frame M s0 s) :
    Frame M s0 (State.setSrc s k p2) := by
  unfold State.setSrc
  exact (State.showGw_frame (hM.to rfl) (Frame.upd_fab (hM.to rfl) hs0))

theorem State.sendBulk_frame {M : Nat} {s0 : State} {s : State} {dst : ℕ} {share : ℕ} {fn : ℕ} {ctx : ℕ} {sseq : ℕ} {k : ℕ} {payload : List Byte} {map : optParam ℕ 0} (hM : Covers M 0x1124800d0023a0) (hs0 : Frame M s0 s) :
    Frame M s0 (State.sendBulk s dst share fn ctx sseq k payload map) := by
  unfold State.sendBulk
  split
  · rename_i w1 w2 w3
    exact (State.queueLoose_frame (hM.to rfl) hs0)
  · rename_i w4 w5
    exact hs0

theorem State.setOp_frame {M : Nat} {s0 : State} {s : State} {k : ℕ} {o : GwOp} (hM : Covers M 0x80000040000) (hs0 : Frame M s0 s) :
    Frame M s0 (State.setOp s k o) := by
  unfold State.setOp
  extract_lets v1
  exact (State.setSrc_frame (hM.to rfl) hs0)

theorem State.sendOp_frame {M : Nat} {s0 : State} {s : State} {k : ℕ} {o : GwOp} (hM : Covers M 0x1f2e855d05fbb2) (hs0 : Frame M s0 s) :
    Frame M s0 (State.sendOp s k o) := by
  unfold State.sendOp
  extract_lets v1 v2 v3 v4 v5
  have h6 : StP (Frame M s0) v4 := (ite_rule (P := (StP (Frame M s0))) hs0 (State.readAs_frame (hM.to rfl) hs0))
  clear_value v4
  have h7 : Frame M s0 v5 := by
    unfold v5
    refine (fold_rule h6 fun x11 b12 h13 => ?_)
    extract_lets v14
    exact (State.sendBulk_frame (hM.to rfl) h13)
  clear_value v5
  split
  · rename_i w15 w16
    exact (ite_rule (State.setOp_frame (hM.to rfl) h6) (State.setOp_frame (hM.to rfl) (State.addCtr_frame (hM.to rfl) h7)))
  · rename_i w17 w18
    exact (State.setOp_frame (hM.to rfl) (State.sendBulk_frame (hM.to rfl) hs0))
  · rename_i w19 w20 w21
    exact (State.setOp_frame (hM.to rfl) (State.sendBulk_frame (hM.to rfl) hs0))

theorem State.pump_frame {M : Nat} {s0 : State} {s : State} {k : ℕ} (hM : Covers M 0x1f2e855d05fbb2) (hs0 : Frame M s0 s) :
    Frame M s0 (State.pump s k) := by
  unfold State.pump
  refine (ite_rule hs0 (fold_rule hs0 fun x1 b2 h3 => ?_))
  extract_lets v4 v5
  exact (ite_rule h3 (State.sendOp_frame (hM.to rfl) h3))

theorem State.addOp_frame {M : Nat} {s0 : State} {s : State} {dst : ℕ} {ctx : ℕ} {share : ℕ} {o : GwOp} (hM : Covers M 0x1f2e855d05fbb2) (hs0 : Frame M s0 s) :
    Frame M s0 (State.addOp s dst ctx share o) := by
  unfold State.addOp
  extract_lets v1 v2
  exact (State.pump_frame (hM.to rfl) (State.setSrc_frame (hM.to rfl) hs0))

theorem State.copyOp_frame {M : Nat} {s0 : State} {s : State} {p : ℕ} (hM : Covers M 0x1f2e855d05fbb2) (hs0 : Frame M s0 s) :
    Frame M s0 (State.copyOp s p) := by
  unfold State.copyOp
  split
  · rename_i w1 w2
    exact hs0
  · rename_i w3 w4 w5
    extract_lets v6 v7 v8 v9 v10 v11
    refine (ite_rule hs0 ?_)
    split
    · rename_i w12 w13
      exact hs0
    · rename_i w14 w15 w16 w17 w18
      refine (ite_rule (State.setPkt_frame (hM.to rfl) hs0) ?_)
      extract_lets v19 v20 v21
      exact (ite_rule hs0 (State.addOp_frame (hM.to rfl) (State.setPkt_frame (hM.to rfl) hs0)))

theorem State.copyOps_frame {M : Nat} {s0 : State} {a : ℕ} {p1 : ℕ} {p2 : State} (hM : Covers M 0x1f2e855d05fbb2) (hs2 : Frame M s0 p2) :
    Frame M s0 (State.copyOps a p1 p2) := by
  induction a generalizing p1 p2
  · unfold State.copyOps
    exact hs2
  · rename_i k ih
    unfold State.copyOps
    exact (ih (State.copyOp_frame (hM.to rfl) hs2))

theorem State.copyEnd_frame {M : Nat} {s0 : State} {s : State} {p : ℕ} (hM : Covers M 0x102855d00dbb2) (hs0 : Frame M s0 s) :
    Frame M s0 (State.copyEnd s p) := by
  unfold State.copyEnd
  split
  · rename_i w1 w2
    exact hs0
  · rename_i w3 w4 w5
    refine (ite_rule hs0 ?_)
    extract_lets v6
    exact (State.finish_frame (hM.to rfl) (ite_rule (State.addCtr_frame (hM.to rfl) hs0) hs0))

theorem State.copyOpDone_frame {M : Nat} {s0 : State} {s : State} {p : ℕ} {status : ℕ} (hM : Covers M 0x1f2e855d05fbb2) (hs0 : Frame M s0 s) :
    Frame M s0 (State.copyOpDone s p status) := by
  unfold State.copyOpDone
  extract_lets v1
  have h2 : Frame M s0 v1 := (State.modPkt_frame (hM.to rfl) hs0)
  clear_value v1
  exact (State.copyEnd_frame (hM.to rfl) (State.copyOps_frame (hM.to rfl) h2))

theorem State.reportOps_frame {M : Nat} {s0 : State} {a : ℕ} {p1 : ℕ} {p2 : State} (hM : Covers M 0x1f2e855d05fbb2) (hs2 : Frame M s0 p2) :
    Frame M s0 (State.reportOps a p1 p2) := by
  induction a generalizing p1 p2
  · unfold State.reportOps
    exact hs2
  · rename_i k ih
    unfold State.reportOps
    extract_lets v1
    split
    · rename_i w2 w3
      exact hs2
    · rename_i w4 w5 w6 w7
      split
      · rename_i w8 w9
        exact hs2
      · rename_i w10 w11 w12 w13
        extract_lets v14 v15 v16 v17 v18
        have h19 : Frame M s0 v14 := (State.cnt_frame (hM.to rfl) (State.setSrc_frame (hM.to rfl) hs2))
        clear_value v14
        have h20 : Frame M s0 v16 := (State.answer_frame (hM.to rfl) h19)
        clear_value v16
        have h21 : Frame M s0 v17 := by
          unfold v17
          split
          · rename_i w22 w23 w24
            exact (State.applySignal_frame (hM.to rfl) h20)
          · rename_i w25 w26
            exact h20
        clear_value v17
        have h27 : Frame M s0 v18 := by
          unfold v18
          split
          · rename_i w28 w29 w30
            exact (State.copyOpDone_frame (hM.to rfl) h21)
          · rename_i w31 w32
            exact h21
        clear_value v18
        exact (ih h27)

theorem State.askPiece_frame {M : Nat} {s0 : State} {s : State} {p : ℕ} {p2 : Pkt} (hM : Covers M 0xc000c00) (hs0 : Frame M s0 s) :
    Frame M s0 (State.askPiece s p p2) := by
  unfold State.askPiece
  exact (ite_rule hs0 (ite_rule (State.setPkt_frame (hM.to rfl) hs0) (State.hostRead_frame (hM.to rfl) hs0)))

theorem State.copyGo_frame {M : Nat} {s0 : State} {s : State} (hM : Covers M 0x1f2e855d05ffb2) (hs0 : Frame M s0 s) :
    Frame M s0 (State.copyGo s) := by
  unfold State.copyGo
  exact (fold_rule hs0 fun x1 b2 h3 => (State.copyEnd_frame (hM.to rfl) (ite_rule (State.askPiece_frame (hM.to rfl) h3) (State.copyOps_frame (hM.to rfl) h3))))

theorem State.settleStream_frame {M : Nat} {s0 : State} {s : State} {k : ℕ} (hM : Covers M 0x1f2e855d05ffb2) (hs0 : Frame M s0 s) :
    Frame M s0 (State.settleStream s k) := by
  unfold State.settleStream
  exact (State.copyGo_frame (hM.to rfl) (State.pump_frame (hM.to rfl) (State.reportOps_frame (hM.to rfl) hs0)))

theorem State.launchReq_frame {M : Nat} {s0 : State} {s : State} {r : RmtReq} (hM : Covers M 0x1126855d00f3b2) (hs0 : Frame M s0 s) :
    Frame M s0 (State.launchReq s r) := by
  unfold State.launchReq
  extract_lets v1 v2
  have h3 : Frame M s0 v2 := (State.addCtr_frame (hM.to rfl) hs0)
  clear_value v2
  clear_value v1
  split
  · rename_i w4 w5
    exact (State.queueLoose_frame (hM.to rfl) h3)
  · rename_i w6
    exact h3

theorem State.releaseReqs_frame {M : Nat} {s0 : State} {s : State} (hM : Covers M 0x112e855d04f3b2) (hs0 : Frame M s0 s) :
    Frame M s0 (State.releaseReqs s) := by
  unfold State.releaseReqs
  refine (ite_rule (State.showGw_frame (hM.to rfl) hs0) ?_)
  extract_lets v1 v2 v3
  have h4 : SndP (Frame M s0) v1 := by
    unfold v1
    refine (fold_rule (P := (SndP (Frame M s0))) hs0 fun x8 b9 h10 => (ite_rule (P := (SndP (Frame M s0))) ?_ h10))
    extract_lets v11
    exact (State.launchReq_frame (hM.to rfl) h10)
  clear_value v1
  have h12 : Frame M s0 v2 := h4
  exact (State.showGw_frame (hM.to rfl) (Frame.upd_fab (hM.to rfl) h12))

theorem State.endReq_frame {M : Nat} {s0 : State} {s : State} {r : RmtReq} {status : ℕ} {data : List Byte} {poison : ℕ} (hM : Covers M 0x112e855d04f3b2) (hs0 : Frame M s0 s) :
    Frame M s0 (State.endReq s r status data poison) := by
  unfold State.endReq
  extract_lets v1 v2
  have h3 : Frame M s0 v2 := (Frame.upd_fab (hM.to rfl) hs0)
  clear_value v2
  exact (State.releaseReqs_frame (hM.to rfl) (State.dcpAnswer_frame (hM.to rfl) h3))

theorem State.stateCheck_frame {M : Nat} {s0 : State} {s : State} {c : ℕ} (hM : Covers M 0x1f2e855d05ffb2) (hs0 : Frame M s0 s) :
    Frame M s0 (State.stateCheck s c) := by
  unfold State.stateCheck
  extract_lets v1 v2 v3 v4 v5 v6 v7
  have h8 : Frame M s0 v1 := (State.err_frame (hM.to rfl) hs0 (hM.fam .gw rfl))
  clear_value v1
  have h9 : Frame M s0 v5 := (Frame.upd_fab (hM.to rfl) h8)
  clear_value v5
  have h10 : Frame M s0 v6 := (fold_rule h9 fun x11 b12 h13 => (State.endReq_frame (hM.to rfl) h13))
  clear_value v6
  exact (State.ctxLost_frame (hM.to rfl) (fold_rule h10 fun x14 b15 h16 => (State.settleStream_frame (hM.to rfl) (State.setSrc_frame (hM.to rfl) h16))))

theorem State.opPlaneSet_frame {M : Nat} {s0 : State} {s : State} (hM : Covers M 0x112e855d04f3b2) (hs0 : Frame M s0 s) :
    Frame M s0 (State.opPlaneSet s) := by
  unfold State.opPlaneSet
  refine (ite_rule hs0 ?_)
  extract_lets v1 v2
  have h3 : Frame M s0 v2 := (Frame.upd_fab (hM.to rfl) hs0)
  clear_value v2
  exact (State.releaseReqs_frame (hM.to rfl) (State.err_frame (hM.to rfl) h3 (hM.fam .gw rfl)))

theorem execPlaneSetChange_frame {M : Nat} {s0 : State} {s : State} (hM : Covers M 0x112e855d04f3b2) (hs0 : Frame M s0 s) :
    NextP (Frame M s0) (execPlaneSetChange s) := by
  unfold execPlaneSetChange
  exact (guarded_frame hs0 (fun x1 h2 => (State.opPlaneSet_frame (hM.to rfl) h2)))

theorem State.setDst_frame {M : Nat} {s0 : State} {s : State} {k : ℕ} {p2 : GwDst} (hM : Covers M 0x80000040000) (hs0 : Frame M s0 s) :
    Frame M s0 (State.setDst s k p2) := by
  unfold State.setDst
  exact (State.showGw_frame (hM.to rfl) (Frame.upd_fab (hM.to rfl) hs0))

theorem State.gwSigs_frame {M : Nat} {s0 : State} {s : State} {k : ℕ} (hM : Covers M 0x1f2e855d05fbb2) (hs0 : Frame M s0 s) :
    Frame M s0 (State.gwSigs s k) := by
  unfold State.gwSigs
  split
  · rename_i w1 w2
    exact hs0
  · rename_i w3 w4 w5
    extract_lets v6
    exact (fold_rule (State.setDst_frame (hM.to rfl) hs0) fun x7 b8 h9 => (State.applySignal_frame (hM.to rfl) h9))

theorem State.gwDone_frame {M : Nat} {s0 : State} {s : State} {k : ℕ} {q : ℕ} {status : ℕ} {v : ℕ} {sig : Option ℕ} {poison : Bool} (hM : Covers M 0x1f2e855d05fbb2) (hs0 : Frame M s0 s) :
    Frame M s0 (State.gwDone s k q status v sig poison) := by
  unfold State.gwDone
  split
  · rename_i w1 w2
    exact hs0
  · rename_i w3 w4 w5
    extract_lets v6 v7
    exact (State.gwSigs_frame (hM.to rfl) (State.setDst_frame (hM.to rfl) hs0))

theorem State.sendAck_frame {M : Nat} {s0 : State} {s : State} {r : GwRec} {status : ℕ} (hM : Covers M 0x1124800d0023a0) (hs0 : Frame M s0 s) :
    Frame M s0 (State.sendAck s r status) := by
  unfold State.sendAck
  exact (State.sendBulk_frame (hM.to rfl) hs0)

theorem State.putDone_frame {M : Nat} {s0 : State} {s : State} {r : GwRec} {st : ℕ} (hM : Covers M 0x1f2e855d05fbb2) (hs0 : Frame M s0 s) :
    Frame M s0 (State.putDone s r st) := by
  unfold State.putDone
  extract_lets v1 v2
  have h3 : Frame M s0 v2 := (ite_rule hs0 (State.countHome_frame (hM.to rfl) hs0))
  clear_value v2
  split
  · rename_i w4 w5
    exact hs0
  · rename_i w6 w7 w8
    extract_lets v9 v10 v11 v12
    have h13 : Frame M s0 v12 := (State.setDst_frame (hM.to rfl) h3)
    clear_value v12
    exact (ite_rule h13 (State.sendAck_frame (hM.to rfl) (State.gwDone_frame (hM.to rfl) h13)))

theorem State.gwReady_frame {M : Nat} {s0 : State} {s : State} {off : ℕ} {len : ℕ} {write : Bool} (hM : Covers M 0x1136855d08e3b2) (hs0 : Frame M s0 s) :
    SndP (Frame M s0) (State.gwReady s off len write) := by
  unfold State.gwReady
  exact (ite_rule (P := (SndP (Frame M s0))) hs0 (State.prepLines_frame (hM.to rfl) hs0))

theorem State.putWrite_frame {M : Nat} {s0 : State} {s : State} {r : GwRec} (hM : Covers M 0x1f36855d09fbb2) (hs0 : Frame M s0 s) :
    SndP (Frame M s0) (State.putWrite s r) := by
  unfold State.putWrite
  split
  · rename_i w1 w2
    exact hs0
  · rename_i w3 w4 w5
    extract_lets v6 v7
    have h8 : SndP (Frame M s0) v6 := (State.gwReady_frame (hM.to rfl) hs0)
    clear_value v6
    have h9 : StP (Frame M s0) v7 := (State.writeAs_frame (hM.to rfl) h8)
    clear_value v7
    exact (ite_rule (P := (SndP (Frame M s0))) h8 (State.dropLost_frame (hM.to rfl) h9))

theorem State.putFrag_frame {M : Nat} {s0 : State} {s : State} {r : GwRec} (hM : Covers M 0x1f3e855d0dfbb2) (hs0 : Frame M s0 s) :
    SndP (Frame M s0) (State.putFrag s r) := by
  unfold State.putFrag
  extract_lets v1
  refine (ite_rule (P := (SndP (Frame M s0))) hs0 ?_)
  split
  · rename_i w2 w3 w4 w5
    have h6 : Frame M s0 w4 := SndP.out w5 (State.putWrite_frame (hM.to rfl) hs0)
    exact (State.putDone_frame (hM.to rfl) h6)
  · rename_i w7 w8 w9
    have h10 : Frame M s0 w8 := SndP.out w9 (State.putWrite_frame (hM.to rfl) hs0)
    exact h10

theorem State.issueReq_frame {M : Nat} {s0 : State} {s : State} {r : RmtReq} (hM : Covers M 0x112e855d04f3b2) (hs0 : Frame M s0 s) :
    Frame M s0 (State.issueReq s r) := by
  unfold State.issueReq
  extract_lets v1 v2
  exact (State.releaseReqs_frame (hM.to rfl) (Frame.upd_fab (hM.to rfl) hs0))

theorem State.opRsp_frame {M : Nat} {s0 : State} {src : ℕ} {tag : ℕ} {status : ℕ} {data : List Byte} {poison : ℕ} {s : State} (hM : Covers M 0x112e855d04f3b2) (hs5 : Frame M s0 s) :
    Frame M s0 (State.opRsp src tag status data poison s) := by
  unfold State.opRsp
  split
  · rename_i w1 w2
    exact (State.inc_frame hs5 (hM.fam .gw rfl) rfl)
  · rename_i w3 w4 w5
    extract_lets v6 v7
    exact (State.endReq_frame (hM.to rfl) (State.addCtr_frame (hM.to rfl) hs5))

theorem State.giveToken_frame {M : Nat} {s0 : State} {s : State} {n : ℕ} {rank : ℕ} {opnd0 : ℕ} (hM : Covers M 0x80000000000) (hs0 : Frame M s0 s) :
    SndP (Frame M s0) (State.giveToken s n rank opnd0) := by
  unfold State.giveToken
  extract_lets v1 v2
  exact (ite_rule (P := (SndP (Frame M s0))) (State.wr_frame (State.wr_frame hs0 (hM.fam .gw rfl) rfl) (hM.fam .gw rfl) rfl) hs0)

theorem State.passToken_frame {M : Nat} {s0 : State} {s : State} {m : Master} {rank : ℕ} {addr : ℕ} {opnd0 : ℕ} (hM : Covers M 0x1f0a855d01dbb2) (hs0 : Frame M s0 s) :
    SndP (Frame M s0) (State.passToken s m rank addr opnd0) := by
  unfold State.passToken
  split
  · rename_i w1 w2
    exact hs0
  · rename_i w3 w4 w5
    split
    · rename_i w6 w7
      exact (State.giveToken_frame (hM.to rfl) hs0)
    · rename_i w8 w9 w10
      exact (State.giveToken_frame (hM.to rfl) hs0)
    · rename_i w11 w12 w13 w14 w15
      exact (State.refuse_frame (hM.to rfl) hs0)

theorem State.homeToken_frame {M : Nat} {s0 : State} {s : State} {r : RmtRec} (hM : Covers M 0x1f2e855d01fbb2) (hs0 : Frame M s0 s) :
    Frame M s0 (State.homeToken s r) := by
  unfold State.homeToken
  extract_lets v1 v2
  have h3 : SndP (Frame M s0) v2 := (State.passToken_frame (hM.to rfl) hs0)
  clear_value v2
  exact (State.answer_frame (hM.to rfl) (State.countHome_frame (hM.to rfl) h3))

theorem execRmtTokenPass_frame {M : Nat} {s0 : State} {r : RmtRec} {s : State} (hM : Covers M 0x1f2e855d01fbb2) (hs1 : Frame M s0 s) :
    NextP (Frame M s0) (execRmtTokenPass r s) := by
  unfold execRmtTokenPass
  exact (guarded_frame hs1 (fun x1 h2 => (State.homeToken_frame (hM.to rfl) h2)))

theorem State.sendAmoRsp_frame {M : Nat} {s0 : State} {s : State} {r : GwRec} {status : ℕ} {v : ℕ} (hM : Covers M 0x1124800d0023a0) (hs0 : Frame M s0 s) :
    Frame M s0 (State.sendAmoRsp s r status v) := by
  unfold State.sendAmoRsp
  exact (State.sendBulk_frame (hM.to rfl) hs0)

theorem State.homeReq_frame {M : Nat} {s0 : State} {s : State} {op : ℕ} {r : RmtRec} (hM : Covers M 0x1f3e855d09fbb2) (hs0 : Frame M s0 s) :
    Frame M s0 (State.homeReq s op r) := by
  unfold State.homeReq
  extract_lets v1 v2
  have h3 : ∀ y0 y1, Frame M s0 y0 → Frame M s0 (v2 y0 y1) := by
    refine (fun x4 x5 h6 => (State.answer_frame (hM.to rfl) (State.countHome_frame (hM.to rfl) h6)))
  clear_value v2
  split
  · rename_i w7 w8
    exact (h3 _ _ hs0)
  · rename_i w9 w10 w11
    refine (ite_rule (h3 _ _ hs0) ?_)
    extract_lets v12
    exact (ite_rule (h3 _ _ hs0) (State.doAccess_frame (hM.to rfl) hs0))

theorem execRmtSt_frame {M : Nat} {s0 : State} {r : RmtRec} {s : State} (hM : Covers M 0x1f3e855d09fbb2) (hs1 : Frame M s0 s) :
    NextP (Frame M s0) (execRmtSt r s) := by
  unfold execRmtSt
  exact (guarded_frame hs1 (fun x1 h2 => (State.homeReq_frame (hM.to rfl) h2)))

theorem State.amoDone_frame {M : Nat} {s0 : State} {s : State} {r : GwRec} {st : ℕ} {v : ℕ} (hM : Covers M 0x1f2e855d05fbb2) (hs0 : Frame M s0 s) :
    Frame M s0 (State.amoDone s r st v) := by
  unfold State.amoDone
  exact (State.sendAmoRsp_frame (hM.to rfl) (State.gwDone_frame (hM.to rfl) (ite_rule hs0 (State.countHome_frame (hM.to rfl) hs0))))

theorem State.doAmo_frame {M : Nat} {s0 : State} {s : State} {r : GwRec} (hM : Covers M 0x1f3e855d0dfbb2) (hs0 : Frame M s0 s) :
    SndP (Frame M s0) (State.doAmo s r) := by
  unfold State.doAmo
  extract_lets v1 v2
  have h3 : SndP (Frame M s0) v2 := (State.passToken_frame (hM.to rfl) hs0)
  clear_value v2
  refine (ite_rule (P := (SndP (Frame M s0))) (State.amoDone_frame (hM.to rfl) h3) (ite_rule (P := (SndP (Frame M s0))) (State.amoDone_frame (hM.to rfl) hs0) ?_))
  split
  · rename_i w4 w5
    exact (State.amoDone_frame (hM.to rfl) hs0)
  · rename_i w6 w7 w8
    refine (ite_rule (P := (SndP (Frame M s0))) (State.amoDone_frame (hM.to rfl) hs0) ?_)
    extract_lets v9 v10
    have h11 : SndP (Frame M s0) v9 := (State.gwReady_frame (hM.to rfl) hs0)
    clear_value v9
    have h12 : StP (Frame M s0) v10 := (State.atomicAs_frame (hM.to rfl) h11)
    clear_value v10
    exact (ite_rule (P := (SndP (Frame M s0))) h11 (State.amoDone_frame (hM.to rfl) (State.dropLost_frame (hM.to rfl) h12)))

theorem State.sendGot_frame {M : Nat} {s0 : State} {s : State} {r : GwRec} {data : List Byte} {poison : ℕ} (hM : Covers M 0x1124800d0023a0) (hs0 : Frame M s0 s) :
    Frame M s0 (State.sendGot s r data poison) := by
  unfold State.sendGot
  exact (fold_rule hs0 fun x1 b2 h3 => (State.sendBulk_frame (hM.to rfl) h3))

theorem State.getFrags_frame {M : Nat} {s0 : State} {s : State} {r : GwRec} (hM : Covers M 0x1f3e855d0dfbb2) (hs0 : Frame M s0 s) :
    SndP (Frame M s0) (State.getFrags s r) := by
  unfold State.getFrags
  extract_lets v1
  split
  · rename_i w2 w3
    exact (State.sendAck_frame (hM.to rfl) (State.gwDone_frame (hM.to rfl) (State.countHome_frame (hM.to rfl) hs0)))
  · rename_i w4 w5 w6
    extract_lets v7 v8
    have h9 : SndP (Frame M s0) v7 := (State.gwReady_frame (hM.to rfl) hs0)
    clear_value v7
    have h10 : StP (Frame M s0) v8 := (State.readAs_frame (hM.to rfl) h9)
    clear_value v8
    exact (ite_rule (P := (SndP (Frame M s0))) h9 (ite_rule (State.sendAck_frame (hM.to rfl) (State.gwDone_frame (hM.to rfl) (State.countHome_frame (hM.to rfl) h10))) (State.gwDone_frame (hM.to rfl) (State.sendGot_frame (hM.to rfl) h10))))

theorem State.doBulk_frame {M : Nat} {s0 : State} {s : State} {bop : ℕ} {r : GwRec} (hM : Covers M 0x1f3e855d0dfbb2) (hs0 : Frame M s0 s) :
    SndP (Frame M s0) (State.doBulk s bop r) := by
  unfold State.doBulk
  split
  · rename_i w1
    exact (State.putFrag_frame (hM.to rfl) hs0)
  · rename_i w2
    exact (State.getFrags_frame (hM.to rfl) hs0)
  · rename_i w3 w4 w5
    exact (State.doAmo_frame (hM.to rfl) hs0)

theorem execDrainComplete_frame {M : Nat} {s0 : State} {s : State} (hM : Covers M 0x112e855d04f3b2) (hs0 : Frame M s0 s) :
    NextP (Frame M s0) (execDrainComplete s) := by
  unfold execDrainComplete
  exact (guarded_frame hs0 (fun x1 h2 => (State.releaseReqs_frame (hM.to rfl) (Frame.upd_fab (hM.to rfl) h2))))

theorem execRmtLd_frame {M : Nat} {s0 : State} {r : RmtRec} {s : State} (hM : Covers M 0x1f3e855d09fbb2) (hs1 : Frame M s0 s) :
    NextP (Frame M s0) (execRmtLd r s) := by
  unfold execRmtLd
  exact (guarded_frame hs1 (fun x1 h2 => (State.homeReq_frame (hM.to rfl) h2)))

theorem State.homeUnknown_frame {M : Nat} {s0 : State} {s : State} {r : RmtRec} (hM : Covers M 0x112c800d0023a0) (hs0 : Frame M s0 s) :
    Frame M s0 (State.homeUnknown s r) := by
  unfold State.homeUnknown
  extract_lets v1
  exact (State.answer_frame (hM.to rfl) (State.countHome_frame (hM.to rfl) hs0))

theorem execRmtUnsupported_frame {M : Nat} {s0 : State} {r : RmtRec} {_op : ℕ} {s : State} (hM : Covers M 0x112c800d0023a0) (hs2 : Frame M s0 s) :
    NextP (Frame M s0) (execRmtUnsupported r _op s) := by
  unfold execRmtUnsupported
  exact (guarded_frame hs2 (fun x1 h2 => (State.homeUnknown_frame (hM.to rfl) h2)))

theorem State.landReady_frame {M : Nat} {s0 : State} {s : State} {o : GwOp} {r : GwRec} (hM : Covers M 0x1136855d08e3b2) (hs0 : Frame M s0 s) :
    SndP (Frame M s0) (State.landReady s o r) := by
  unfold State.landReady
  exact (ite_rule (P := (SndP (Frame M s0))) (State.gwReady_frame (hM.to rfl) hs0) hs0)

theorem State.sendNak_frame {M : Nat} {s0 : State} {s : State} {r : GwRec} (hM : Covers M 0x112c800d0023a0) (hs0 : Frame M s0 s) :
    Frame M s0 (State.sendNak s r) := by
  unfold State.sendNak
  exact (State.sendBulk_frame (hM.to rfl) (State.err_frame (hM.to rfl) hs0 (hM.fam .gw rfl)))

theorem State.opAmoRsp_frame {M : Nat} {s0 : State} {r : GwRec} {s : State} (hM : Covers M 0x1f2e855d05ffb2) (hs1 : Frame M s0 s) :
    Frame M s0 (State.opAmoRsp r s) := by
  unfold State.opAmoRsp
  split
  · rename_i w1 w2
    exact hs1
  · rename_i w3 w4 w5
    exact (ite_rule hs1 (State.settleStream_frame (hM.to rfl) (State.setOp_frame (hM.to rfl) hs1)))

theorem execAmoRsp_frame {M : Nat} {s0 : State} {r : GwRec} {s : State} (hM : Covers M 0x1f2e855d05ffb2) (hs1 : Frame M s0 s) :
    NextP (Frame M s0) (execAmoRsp r s) := by
  unfold execAmoRsp
  exact (guarded_frame hs1 (fun x1 h2 => (State.opAmoRsp_frame (hM.to rfl) h2)))

theorem State.opBulkRetry_frame {M : Nat} {s0 : State} {k : ℕ} {sseq : ℕ} {s : State} (hM : Covers M 0x1f2e855d05ffb2) (hs2 : Frame M s0 s) :
    Frame M s0 (State.opBulkRetry k sseq s) := by
  unfold State.opBulkRetry
  extract_lets v1
  split
  · rename_i w2 w3
    exact hs2
  · rename_i w4 w5 w6
    refine (ite_rule (State.sendOp_frame (hM.to rfl) (State.inc_frame hs2 (hM.fam .gw rfl) rfl)) ?_)
    extract_lets v7 v8 v9
    have h10 : Frame M s0 v9 := (State.err_frame (hM.to rfl) (State.add_frame hs2 (hM.fam .gw rfl) rfl) (hM.fam .gw rfl))
    clear_value v9
    exact (State.settleStream_frame (hM.to rfl) (State.setSrc_frame (hM.to rfl) h10))

theorem execBulkRetryTimeout_frame {M : Nat} {s0 : State} {stream : ℕ} {sseq : ℕ} {s : State} (hM : Covers M 0x1f2e855d05ffb2) (hs2 : Frame M s0 s) :
    NextP (Frame M s0) (execBulkRetryTimeout stream sseq s) := by
  unfold execBulkRetryTimeout
  exact (guarded_frame hs2 (fun x1 h2 => (State.opBulkRetry_frame (hM.to rfl) h2)))

theorem State.leaveGo_frame {M : Nat} {s0 : State} {s : State} (hM : Covers M 0x1f2e855d05ffb2) (hs0 : Frame M s0 s) :
    Frame M s0 (State.leaveGo s) := by
  unfold State.leaveGo
  extract_lets v1
  have h2 : Frame M s0 v1 := (ite_rule (State.releaseReqs_frame (hM.to rfl) hs0) hs0)
  clear_value v1
  exact (State.copyGo_frame (hM.to rfl) (fold_rule h2 fun x3 b4 h5 => (State.pump_frame (hM.to rfl) h5)))

theorem State.unhold_frame {M : Nat} {s0 : State} {s : State} {k : ℕ} {h : ℕ × GwRec} (hM : Covers M 0x80000040000) (hs0 : Frame M s0 s) :
    Frame M s0 (State.unhold s k h) := by
  unfold State.unhold
  split
  · rename_i w1 w2
    exact hs0
  · rename_i w3 w4 w5
    exact (State.setDst_frame (hM.to rfl) hs0)

theorem State.gwTry_frame {M : Nat} {s0 : State} {s : State} {k : ℕ} {h : ℕ × GwRec} (hM : Covers M 0x1f3e855d0dfbb2) (hs0 : Frame M s0 s) :
    Frame M s0 (State.gwTry s k h) := by
  unfold State.gwTry
  refine (ite_rule ?_ hs0)
  extract_lets v1
  have h2 : SndP (Frame M s0) v1 := (State.doBulk_frame (hM.to rfl) hs0)
  clear_value v1
  exact (ite_rule (State.unhold_frame (hM.to rfl) h2) h2)

theorem State.gwHeld_frame {M : Nat} {s0 : State} {a : ℕ} {p1 : ℕ} {p2 : State} (hM : Covers M 0x1f3e855d0dfbb2) (hs2 : Frame M s0 p2) :
    Frame M s0 (State.gwHeld a p1 p2) := by
  induction a generalizing p1 p2
  · unfold State.gwHeld
    exact hs2
  · rename_i k ih
    unfold State.gwHeld
    extract_lets v1 v2
    have h3 : Frame M s0 v2 := (fold_rule hs2 fun x4 b5 h6 => (State.gwTry_frame (hM.to rfl) h6))
    clear_value v2
    exact (ite_rule (ih h3) h3)

theorem State.gwGoAt_frame {M : Nat} {s0 : State} {s : State} {k : ℕ} (hM : Covers M 0x1f3e855d0dfbb2) (hs0 : Frame M s0 s) :
    Frame M s0 (State.gwGoAt s k) := by
  unfold State.gwGoAt
  exact (State.gwHeld_frame (hM.to rfl) hs0)

theorem State.landGet_frame {M : Nat} {s0 : State} {s : State} {ctx : ℕ} {o : GwOp} {r : GwRec} (hM : Covers M 0x1f02855d01dbb2) (hs0 : Frame M s0 s) :
    SndP (SndP (Frame M s0)) (State.landGet s ctx o r) := by
  unfold State.landGet
  split
  · rename_i w1 w2
    exact hs0
  · rename_i w3 w4 w5
    refine (ite_rule (P := (SndP (SndP (Frame M s0)))) (State.hostWrite_frame (hM.to rfl) hs0) ?_)
    extract_lets v6
    have h7 : StP (Frame M s0) v6 := (State.writeAs_frame (hM.to rfl) hs0)
    clear_value v6
    exact h7

theorem State.waitData_frame {M : Nat} {s0 : State} {s : State} {k : ℕ} {r : GwRec} (hM : Covers M 0x80000040000) (hs0 : Frame M s0 s) :
    Frame M s0 (State.waitData s k r) := by
  unfold State.waitData
  extract_lets v1
  exact (ite_rule hs0 (State.setSrc_frame (hM.to rfl) hs0))

theorem State.opGetData_frame {M : Nat} {s0 : State} {r : GwRec} {s : State} (hM : Covers M 0x1f3e855d0dffb2) (hs1 : Frame M s0 s) :
    Frame M s0 (State.opGetData r s) := by
  unfold State.opGetData
  split
  · rename_i w1 w2
    exact hs1
  · rename_i w3 w4 w5
    extract_lets v6 v7 v8 v9 v10 v11 v12
    have h13 : SndP (Frame M s0) v8 := (State.landReady_frame (hM.to rfl) hs1)
    clear_value v8
    have h14 : SndP (SndP (Frame M s0)) v9 := (State.landGet_frame (hM.to rfl) h13)
    clear_value v9
    have h15 : Frame M s0 v12 := (State.addCtr_frame (hM.to rfl) h14)
    clear_value v12
    exact (ite_rule hs1 (ite_rule (State.waitData_frame (hM.to rfl) h13) (ite_rule (State.settleStream_frame (hM.to rfl) (State.setOp_frame (hM.to rfl) h15)) (ite_rule (State.setOp_frame (hM.to rfl) h15) (State.settleStream_frame (hM.to rfl) (State.setOp_frame (hM.to rfl) h15))))))

theorem State.landGo_frame {M : Nat} {s0 : State} {s : State} {k : ℕ} (hM : Covers M 0x1f3e855d0dffb2) (hs0 : Frame M s0 s) :
    Frame M s0 (State.landGo s k) := by
  unfold State.landGo
  extract_lets v1
  exact (fold_rule (State.setSrc_frame (hM.to rfl) hs0) fun x2 b3 h4 => (State.opGetData_frame (hM.to rfl) h4))

theorem State.gwGo_frame {M : Nat} {s0 : State} {s : State} (hM : Covers M 0x1f3e855d0dffb2) (hs0 : Frame M s0 s) :
    Frame M s0 (State.gwGo s) := by
  unfold State.gwGo
  extract_lets v1
  have h2 : Frame M s0 v1 := (fold_rule hs0 fun x3 b4 h5 => (State.landGo_frame (hM.to rfl) h5))
  clear_value v1
  exact (fold_rule h2 fun x6 b7 h8 => (State.gwGoAt_frame (hM.to rfl) h8))

theorem State.opBulk_frame {M : Nat} {s0 : State} {bop : ℕ} {r : GwRec} {s : State} (hM : Covers M 0x1f3e855d0dfbb2) (hs2 : Frame M s0 s) :
    Frame M s0 (State.opBulk bop r s) := by
  unfold State.opBulk
  extract_lets v1
  split
  · rename_i w2 w3
    exact (State.sendNak_frame (hM.to rfl) hs2)
  · rename_i w4 w5
    exact hs2
  · rename_i w6 w7 w8
    refine (ite_rule ?_ (ite_rule (State.sendNak_frame (hM.to rfl) (State.setDst_frame (hM.to rfl) hs2)) (State.gwGoAt_frame (hM.to rfl) (State.setDst_frame (hM.to rfl) hs2))))
    extract_lets v9
    have h10 : Frame M s0 v9 := (State.setDst_frame (hM.to rfl) hs2)
    clear_value v9
    split
    · rename_i w11
      exact (State.sendAck_frame (hM.to rfl) h10)
    · rename_i w12
      exact (State.getFrags_frame (hM.to rfl) h10)
    · rename_i w13 w14 w15
      exact (State.sendAmoRsp_frame (hM.to rfl) h10)

theorem State.opNak_frame {M : Nat} {s0 : State} {r : GwRec} {s : State} (hM : Covers M 0x80000040000) (hs1 : Frame M s0 s) :
    Frame M s0 (State.opNak r s) := by
  unfold State.opNak
  split
  · rename_i w1 w2
    exact hs1
  · rename_i w3 w4 w5
    exact (State.setOp_frame (hM.to rfl) hs1)

theorem execNak_frame {M : Nat} {s0 : State} {r : GwRec} {s : State} (hM : Covers M 0x80000040000) (hs1 : Frame M s0 s) :
    NextP (Frame M s0) (execNak r s) := by
  unfold execNak
  exact (guarded_frame hs1 (fun x1 h2 => (State.opNak_frame (hM.to rfl) h2)))

theorem execTagQuarantineEnd_frame {M : Nat} {s0 : State} {tag : ℕ} {s : State} (hM : Covers M 0x40000) (hs1 : Frame M s0 s) :
    NextP (Frame M s0) (execTagQuarantineEnd tag s) := by
  unfold execTagQuarantineEnd
  exact (guarded_frame hs1 (fun x1 h2 => (Frame.upd_fab (hM.to rfl) h2)))

theorem execRmtXor_frame {M : Nat} {s0 : State} {r : RmtRec} {four : Bool} {s : State} (hM : Covers M 0x1f3e855d09fbb2) (hs2 : Frame M s0 s) :
    NextP (Frame M s0) (execRmtXor r four s) := by
  unfold execRmtXor
  exact (guarded_frame hs2 (fun x1 h2 => (State.homeReq_frame (hM.to rfl) h2)))

theorem execRmtSwap_frame {M : Nat} {s0 : State} {r : RmtRec} {four : Bool} {s : State} (hM : Covers M 0x1f3e855d09fbb2) (hs2 : Frame M s0 s) :
    NextP (Frame M s0) (execRmtSwap r four s) := by
  unfold execRmtSwap
  exact (guarded_frame hs2 (fun x1 h2 => (State.homeReq_frame (hM.to rfl) h2)))

theorem State.opAckBulk_frame {M : Nat} {s0 : State} {r : GwRec} {s : State} (hM : Covers M 0x1f2e855d05ffb2) (hs1 : Frame M s0 s) :
    Frame M s0 (State.opAckBulk r s) := by
  unfold State.opAckBulk
  split
  · rename_i w1 w2
    exact hs1
  · rename_i w3 w4 w5
    exact (ite_rule hs1 (State.settleStream_frame (hM.to rfl) (State.setOp_frame (hM.to rfl) hs1)))

theorem State.opRemoteTimeout_frame {M : Nat} {s0 : State} {tag : ℕ} {s : State} (hM : Covers M 0x112e855d04f3b2) (hs1 : Frame M s0 s) :
    Frame M s0 (State.opRemoteTimeout tag s) := by
  unfold State.opRemoteTimeout
  split
  · rename_i w1 w2
    exact hs1
  · rename_i w3 w4 w5
    extract_lets v6 v7
    have h8 : Frame M s0 v6 := (State.err_frame (hM.to rfl) (State.inc_frame hs1 (hM.fam .gw rfl) rfl) (hM.fam .gw rfl))
    clear_value v6
    exact (State.endReq_frame (hM.to rfl) (Frame.upd_fab (hM.to rfl) h8))

theorem execRemoteTimeout_frame {M : Nat} {s0 : State} {tag : ℕ} {s : State} (hM : Covers M 0x112e855d04f3b2) (hs1 : Frame M s0 s) :
    NextP (Frame M s0) (execRemoteTimeout tag s) := by
  unfold execRemoteTimeout
  exact (guarded_frame hs1 (fun x1 h2 => (State.opRemoteTimeout_frame (hM.to rfl) h2)))

theorem execRmtCas_frame {M : Nat} {s0 : State} {r : RmtRec} {four : Bool} {s : State} (hM : Covers M 0x1f3e855d09fbb2) (hs2 : Frame M s0 s) :
    NextP (Frame M s0) (execRmtCas r four s) := by
  unfold execRmtCas
  exact (guarded_frame hs2 (fun x1 h2 => (State.homeReq_frame (hM.to rfl) h2)))

theorem execRmtSmin_frame {M : Nat} {s0 : State} {r : RmtRec} {four : Bool} {s : State} (hM : Covers M 0x1f3e855d09fbb2) (hs2 : Frame M s0 s) :
    NextP (Frame M s0) (execRmtSmin r four s) := by
  unfold execRmtSmin
  exact (guarded_frame hs2 (fun x1 h2 => (State.homeReq_frame (hM.to rfl) h2)))

theorem execRmtUmin_frame {M : Nat} {s0 : State} {r : RmtRec} {four : Bool} {s : State} (hM : Covers M 0x1f3e855d09fbb2) (hs2 : Frame M s0 s) :
    NextP (Frame M s0) (execRmtUmin r four s) := by
  unfold execRmtUmin
  exact (guarded_frame hs2 (fun x1 h2 => (State.homeReq_frame (hM.to rfl) h2)))

theorem execRmtAdd_frame {M : Nat} {s0 : State} {r : RmtRec} {four : Bool} {s : State} (hM : Covers M 0x1f3e855d09fbb2) (hs2 : Frame M s0 s) :
    NextP (Frame M s0) (execRmtAdd r four s) := by
  unfold execRmtAdd
  exact (guarded_frame hs2 (fun x1 h2 => (State.homeReq_frame (hM.to rfl) h2)))

theorem execPutData_frame {M : Nat} {s0 : State} {r : GwRec} {s : State} (hM : Covers M 0x1f3e855d0dfbb2) (hs1 : Frame M s0 s) :
    NextP (Frame M s0) (execPutData r s) := by
  unfold execPutData
  exact (guarded_frame hs1 (fun x1 h2 => (State.opBulk_frame (hM.to rfl) h2)))

theorem execBulkAck_frame {M : Nat} {s0 : State} {r : GwRec} {s : State} (hM : Covers M 0x1f2e855d05ffb2) (hs1 : Frame M s0 s) :
    NextP (Frame M s0) (execBulkAck r s) := by
  unfold execBulkAck
  exact (guarded_frame hs1 (fun x1 h2 => (State.opAckBulk_frame (hM.to rfl) h2)))

theorem execGetData_frame {M : Nat} {s0 : State} {r : GwRec} {s : State} (hM : Covers M 0x1f3e855d0dffb2) (hs1 : Frame M s0 s) :
    NextP (Frame M s0) (execGetData r s) := by
  unfold execGetData
  exact (guarded_frame hs1 (fun x1 h2 => (State.opGetData_frame (hM.to rfl) h2)))

theorem execRmtSmax_frame {M : Nat} {s0 : State} {r : RmtRec} {four : Bool} {s : State} (hM : Covers M 0x1f3e855d09fbb2) (hs2 : Frame M s0 s) :
    NextP (Frame M s0) (execRmtSmax r four s) := by
  unfold execRmtSmax
  exact (guarded_frame hs2 (fun x1 h2 => (State.homeReq_frame (hM.to rfl) h2)))

theorem execAmoReq_frame {M : Nat} {s0 : State} {r : GwRec} {s : State} (hM : Covers M 0x1f3e855d0dfbb2) (hs1 : Frame M s0 s) :
    NextP (Frame M s0) (execAmoReq r s) := by
  unfold execAmoReq
  exact (guarded_frame hs1 (fun x1 h2 => (State.opBulk_frame (hM.to rfl) h2)))

theorem execRmtAnd_frame {M : Nat} {s0 : State} {r : RmtRec} {four : Bool} {s : State} (hM : Covers M 0x1f3e855d09fbb2) (hs2 : Frame M s0 s) :
    NextP (Frame M s0) (execRmtAnd r four s) := by
  unfold execRmtAnd
  exact (guarded_frame hs2 (fun x1 h2 => (State.homeReq_frame (hM.to rfl) h2)))

theorem execRmtUmax_frame {M : Nat} {s0 : State} {r : RmtRec} {four : Bool} {s : State} (hM : Covers M 0x1f3e855d09fbb2) (hs2 : Frame M s0 s) :
    NextP (Frame M s0) (execRmtUmax r four s) := by
  unfold execRmtUmax
  exact (guarded_frame hs2 (fun x1 h2 => (State.homeReq_frame (hM.to rfl) h2)))

theorem execRmtOr_frame {M : Nat} {s0 : State} {r : RmtRec} {four : Bool} {s : State} (hM : Covers M 0x1f3e855d09fbb2) (hs2 : Frame M s0 s) :
    NextP (Frame M s0) (execRmtOr r four s) := by
  unfold execRmtOr
  exact (guarded_frame hs2 (fun x1 h2 => (State.homeReq_frame (hM.to rfl) h2)))

theorem execRsp_frame {M : Nat} {s0 : State} {src : ℕ} {tag : ℕ} {status : ℕ} {data : List Byte} {poison : ℕ} {s : State} (hM : Covers M 0x112e855d04f3b2) (hs5 : Frame M s0 s) :
    NextP (Frame M s0) (execRsp src tag status data poison s) := by
  unfold execRsp
  exact (guarded_frame hs5 (fun x1 h2 => (State.opRsp_frame (hM.to rfl) h2)))

theorem execStreamRetire_frame {M : Nat} {s0 : State} {stream : ℕ} {s : State} (hM : Covers M 0x80000040000) (hs1 : Frame M s0 s) :
    NextP (Frame M s0) (execStreamRetire stream s) := by
  unfold execStreamRetire
  refine (guarded_frame hs1 (fun x1 h2 => ?_))
  split
  · rename_i w3 w4
    exact h2
  · rename_i w5 w6 w7
    exact (ite_rule (State.showGw_frame (hM.to rfl) (Frame.upd_fab (hM.to rfl) h2)) h2)

theorem execGetReq_frame {M : Nat} {s0 : State} {r : GwRec} {s : State} (hM : Covers M 0x1f3e855d0dfbb2) (hs1 : Frame M s0 s) :
    NextP (Frame M s0) (execGetReq r s) := by
  unfold execGetReq
  exact (guarded_frame hs1 (fun x1 h2 => (State.opBulk_frame (hM.to rfl) h2)))

end Sys2Proof.Machine
end

