-- ==== Sys2Proof/Laws/FrameCopy.lean ====
section
/-! SUPPORT. What each operation and each meaning of Machine/Copy.lean can change: it keeps the frame `Frame M s0` for every set `M` that
has the parts it names, given that its arguments keep it. -/

namespace Sys2Proof.Machine

theorem State.moverAsk_frame {M : Nat} {s0 : State} {s : State} {p : ℕ} (hM : Covers M 0xc000c00) (hs0 : Frame M s0 s) :
    Frame M s0 (State.moverAsk s p) := by
  unfold State.moverAsk
  split
  · rename_i w1 w2
    exact hs0
  · rename_i w3 w4 w5
    exact (ite_rule (State.askPiece_frame (hM.to rfl) hs0) (State.hostRead_frame (hM.to rfl) hs0))

theorem State.piecePut_frame {M : Nat} {s0 : State} {s : State} {p : ℕ} {p2 : Pkt} {dst : ℕ} {addr : ℕ} {data : List Byte} {mask : ℕ} (hM : Covers M 0x1f2e855d05ffb2) (hs0 : Frame M s0 s) :
    Frame M s0 (State.piecePut s p p2 dst addr data mask) := by
  unfold State.piecePut
  extract_lets v1 v2 v3 v4 v5 v6
  have h7 : Frame M s0 v6 := (State.addOp_frame (hM.to rfl) (State.setPkt_frame (hM.to rfl) hs0))
  clear_value v6
  exact (ite_rule h7 (State.moverAsk_frame (hM.to rfl) h7))

theorem State.moverWrite_frame {M : Nat} {s0 : State} {s : State} {p1 : Pkt} {at_ : ℕ} {data : List Byte} {poison : ℕ} (hM : Covers M 0x1f02855d01dbb2) (hs0 : Frame M s0 s) :
    SndP (Frame M s0) (State.moverWrite s p1 at_ data poison) := by
  unfold State.moverWrite
  split
  · rename_i w1 w2 w3
    extract_lets v4
    have h5 : StP (Frame M s0) v4 := (State.writeAs_frame (hM.to rfl) hs0)
    clear_value v4
    exact h5
  · rename_i w6 w7
    exact (State.addCtr_frame (hM.to rfl) (State.hostWrite_frame (hM.to rfl) hs0))

theorem State.moverEnd_frame {M : Nat} {s0 : State} {s : State} {p : ℕ} {p2 : Pkt} {status : ℕ} (hM : Covers M 0x1f26855d01fbb2) (hs0 : Frame M s0 s) :
    Frame M s0 (State.moverEnd s p p2 status) := by
  unfold State.moverEnd
  extract_lets v1 v2 v3
  have h4 : Frame M s0 v2 := (State.addCtr_frame (hM.to rfl) hs0)
  clear_value v2
  have h5 : Frame M s0 v3 := (ite_rule (State.applySignal_frame (hM.to rfl) h4) h4)
  clear_value v3
  exact (State.finish_frame (hM.to rfl) h5)

theorem State.pieceWrite_frame {M : Nat} {s0 : State} {s : State} {p : ℕ} {p2 : Pkt} {data : List Byte} {poisoned : Bool} {mask : ℕ} (hM : Covers M 0x1f26855d01ffb2) (hs0 : Frame M s0 s) :
    Frame M s0 (State.pieceWrite s p p2 data poisoned mask) := by
  unfold State.pieceWrite
  extract_lets v1 v2 v3
  have h4 : SndP (Frame M s0) v1 := (State.moverWrite_frame (hM.to rfl) hs0)
  clear_value v1
  have h5 : Frame M s0 v3 := (State.setPkt_frame (hM.to rfl) h4)
  clear_value v3
  exact (ite_rule (State.moverEnd_frame (hM.to rfl) h4) (ite_rule (State.moverEnd_frame (hM.to rfl) h5) (State.moverAsk_frame (hM.to rfl) h5)))

theorem State.pieceReady_frame {M : Nat} {s0 : State} {s : State} {p1 : Pkt} {n : ℕ} (hM : Covers M 0x1136855d08e3b2) (hs0 : Frame M s0 s) :
    SndP (Frame M s0) (State.pieceReady s p1 n) := by
  unfold State.pieceReady
  split
  · rename_i w1 w2 w3
    exact (State.gwReady_frame (hM.to rfl) hs0)
  · rename_i w4 w5
    exact hs0

theorem State.moverPut_frame {M : Nat} {s0 : State} {s : State} {p : ℕ} {data : List Byte} {poisoned : Bool} (hM : Covers M 0x1f3e855d0dffb2) (hs0 : Frame M s0 s) :
    Frame M s0 (State.moverPut s p data poisoned) := by
  unfold State.moverPut
  split
  · rename_i w1 w2
    exact hs0
  · rename_i w3 w4 w5
    refine (ite_rule hs0 ?_)
    extract_lets v6 v7 v8 v9
    have h10 : SndP (Frame M s0) v7 := (State.pieceReady_frame (hM.to rfl) hs0)
    clear_value v7
    have h11 : Frame M s0 v8 := h10
    split
    · rename_i w12 w13 w14 w15 w16
      exact (State.piecePut_frame (hM.to rfl) hs0)
    · rename_i w17 w18
      exact (ite_rule (State.pieceWrite_frame (hM.to rfl) h10) (Frame.upd_fab (hM.to rfl) h11))

theorem State.moverGo_frame {M : Nat} {s0 : State} {s : State} (hM : Covers M 0x1f3e855d0dffb2) (hs0 : Frame M s0 s) :
    Frame M s0 (State.moverGo s) := by
  unfold State.moverGo
  exact (fold_rule (Frame.upd_fab (hM.to rfl) hs0) fun x1 b2 h3 => (State.moverPut_frame (hM.to rfl) h3))

theorem State.fabGo_frame {M : Nat} {s0 : State} {s : State} (hM : Covers M 0x1f3e855d0dffb2) (hs0 : Frame M s0 s) :
    Frame M s0 (State.fabGo s) := by
  unfold State.fabGo
  exact (ite_rule hs0 (State.leaveGo_frame (hM.to rfl) (State.moverGo_frame (hM.to rfl) (State.gwGo_frame (hM.to rfl) hs0))))

theorem State.moverFailed_frame {M : Nat} {s0 : State} {s : State} {p : ℕ} (hM : Covers M 0x1f26855d01fbb2) (hs0 : Frame M s0 s) :
    Frame M s0 (State.moverFailed s p) := by
  unfold State.moverFailed
  split
  · rename_i w1 w2
    exact hs0
  · rename_i w3 w4 w5
    exact (ite_rule (State.copyEnd_frame (hM.to rfl) (State.setPkt_frame (hM.to rfl) hs0)) (State.moverEnd_frame (hM.to rfl) hs0))

theorem State.moverGot_frame {M : Nat} {s0 : State} {s : State} {p : ℕ} {data : List Byte} {poisoned : Bool} (hM : Covers M 0x1f3e855d0dffb2) (hs0 : Frame M s0 s) :
    Frame M s0 (State.moverGot s p data poisoned) := by
  unfold State.moverGot
  split
  · rename_i w1 w2
    exact hs0
  · rename_i w3 w4 w5
    exact (ite_rule hs0 (State.moverPut_frame (hM.to rfl) (State.addCtr_frame (hM.to rfl) hs0)))

theorem execHitchAnswer_frame {M : Nat} {s0 : State} {port : ℕ} {r : HitchRec} {s : State} (hM : Covers M 0x1f3e855d0dffb2) (hs2 : Frame M s0 s) :
    NextP (Frame M s0) (execHitchAnswer port r s) := by
  unfold execHitchAnswer
  exact (guarded_frame hs2 (fun x1 h2 => (State.fabGo_frame (hM.to rfl) (State.opAnswer_frame (hM.to rfl) h2))))

theorem execHitchRelease_frame {M : Nat} {s0 : State} {port : ℕ} {r : HitchRec} {s : State} (hM : Covers M 0x1f7e855d0dffb2) (hs2 : Frame M s0 s) :
    NextP (Frame M s0) (execHitchRelease port r s) := by
  unfold execHitchRelease
  exact (guarded_frame hs2 (fun x1 h2 => (State.fabGo_frame (hM.to rfl) (State.opRelease_frame (hM.to rfl) h2))))

theorem execResolve_frame {M : Nat} {s0 : State} {p : ℕ} {s : State} (hM : Covers M 0x1f3e855d0dffb2) (hs1 : Frame M s0 s) :
    NextP (Frame M s0) (execResolve p s) := by
  unfold execResolve
  exact (State.perform_frame (hM.to rfl) hs1 (fun x1 x2 h3 => (ite_rule (State.kres_frame (hM.to rfl) (State.fabGo_frame (hM.to rfl) (State.applyDecision_frame (hM.to rfl) h3))) (State.kres_frame (hM.to rfl) h3))))

end Sys2Proof.Machine
end

