-- ==== Sys2Proof/Laws/FrameGaitRun.lean ====
section
/-! SUPPORT. What each operation and each meaning of Machine/GaitRun.lean can change: it keeps the frame `Frame M s0` for every set `M` that
has the parts it names, given that its arguments keep it. -/

namespace Sys2Proof.Machine

theorem State.dropLate_frame {M : Nat} {s0 : State} {s : State} {o : Occ} (hM : Covers M 0x100) (hs0 : Frame M s0 s) :
    Frame M s0 (State.dropLate s o) := by
  unfold State.dropLate
  exact (State.setLoose_frame (hM.to rfl) hs0)

theorem State.ringDesc_frame {M : Nat} {s0 : State} {s : State} {r : ℕ} (hM : Covers M 0x1f02855d01dbb2) (hs0 : Frame M s0 s) :
    SndP (Frame M s0) (State.ringDesc s r) := by
  unfold State.ringDesc
  extract_lets v1 v2
  have h3 : StP (Frame M s0) v2 := (State.readAs_frame (hM.to rfl) hs0)
  clear_value v2
  exact h3

theorem State.failRx_frame {M : Nat} {s0 : State} {s : State} {o : Occ} {d : Stride} {port : ℕ} {idx : ℕ} {p5 : Outcome} (hM : Covers M 0x1fb6855d0bfbb2) (hs0 : Frame M s0 s) :
    Frame M s0 (State.failRx s o d port idx p5) := by
  unfold State.failRx
  extract_lets v1 v2
  have h3 : Frame M s0 v1 := by
    unfold v1
    split
    · rename_i w4 w5 w6
      exact (State.finish_frame (hM.to rfl) hs0)
    · rename_i w7 w8
      exact hs0
  clear_value v1
  have h9 : SndP (Frame M s0) v2 := (State.ringDesc_frame (hM.to rfl) h3)
  clear_value v2
  refine (ite_rule (ite_rule h3 (State.redDeliver_frame (hM.to rfl) h3)) (ite_rule ?_ h3))
  split
  · rename_i w10 w11 w12 w13 w14 w15
    exact (ite_rule (State.applySignal_frame (hM.to rfl) h9) h9)
  · rename_i w16 w17
    exact h9

theorem State.ringStep_frame {M : Nat} {s0 : State} {s : State} {r : ℕ} {rx : Bool} (hM : Covers M 0x1f02855d01dbb2) (hs0 : Frame M s0 s) :
    Frame M s0 (State.ringStep s r rx) := by
  unfold State.ringStep
  extract_lets v1 v2
  exact (State.writeAs_frame (hM.to rfl) hs0)

theorem State.endSource_frame {M : Nat} {s0 : State} {s : State} {o : Occ} {carry : Bool} {p3 : Outcome} (hM : Covers M 0x1f02855d03dbb2) (hs0 : Frame M s0 s) :
    Frame M s0 (State.endSource s o carry p3) := by
  unfold State.endSource
  refine (ite_rule hs0 ?_)
  extract_lets v1 v2
  have h3 : Frame M s0 v1 := by
    unfold v1
    split
    · rename_i w4 w5 w6
      exact (State.finish_frame (hM.to rfl) hs0)
    · rename_i w7 w8
      exact hs0
  clear_value v1
  have h9 : Frame M s0 v2 := by
    unfold v2
    split
    · rename_i w10 w11 w12
      exact (State.ringStep_frame (hM.to rfl) h3)
    · rename_i w13 w14
      exact h3
  clear_value v2
  split
  · rename_i w15 w16 w17
    split
    · rename_i w18 w19 w20
      exact (State.dropInst_frame (hM.to rfl) h9)
    · rename_i w21 w22
      exact h9
  · rename_i w23 w24
    exact h9

theorem State.countUse_frame {M : Nat} {s0 : State} {s : State} {d : Stride} {rx : Bool} {p3 : Outcome} (hM : Covers M 0x102855d00d3b2) (hs0 : Frame M s0 s) :
    Frame M s0 (State.countUse s d rx p3) := by
  unfold State.countUse
  refine (ite_rule hs0 ?_)
  split
  · rename_i w1 w2
    exact hs0
  · rename_i w3 w4 w5
    exact (State.addCtr_frame (hM.to rfl) (State.addCtr_frame (hM.to rfl) hs0))

theorem State.dropOcc_frame {M : Nat} {s0 : State} {s : State} {o : Occ} (hM : Covers M 0x100) (hs0 : Frame M s0 s) :
    Frame M s0 (State.dropOcc s o) := by
  unfold State.dropOcc
  exact (Frame.upd_gait (hM.to rfl) hs0)

theorem State.countOutcome_frame {M : Nat} {s0 : State} {s : State} {port : ℕ} {idx : ℕ} {rx : Bool} {p4 : Outcome} (hM : Covers M 0x4800c000200) (hs0 : Frame M s0 s) :
    Frame M s0 (State.countOutcome s port idx rx p4) := by
  unfold State.countOutcome
  extract_lets v1 v2
  split
  · rename_i w3
    exact (State.inc_frame hs0 (hM.fam .gait rfl) rfl)
  · rename_i w4
    exact (State.inc_frame hs0 (hM.fam .gait rfl) rfl)
  · rename_i w5
    exact (State.err_frame (hM.to rfl) (State.inc_frame hs0 (hM.fam .gait rfl) rfl) (hM.fam .gait rfl))
  · rename_i w6
    exact (State.err_frame (hM.to rfl) (State.inc_frame hs0 (hM.fam .gait rfl) rfl) (hM.fam .gait rfl))
  · rename_i w7
    exact (ite_rule (State.err_frame (hM.to rfl) (State.inc_frame hs0 (hM.fam .gait rfl) rfl) (hM.fam .gait rfl)) hs0)
  · rename_i w8
    exact (State.err_frame (hM.to rfl) (State.inc_frame hs0 (hM.fam .gait rfl) rfl) (hM.fam .gait rfl))

theorem State.endOcc_frame {M : Nat} {s0 : State} {s : State} {o : Occ} {p2 : Outcome} (hM : Covers M 0x1fb6855d0bfbb2) (hs0 : Frame M s0 s) :
    Frame M s0 (State.endOcc s o p2) := by
  unfold State.endOcc
  extract_lets v1 v2
  have h3 : Frame M s0 v2 := (State.countOutcome_frame (hM.to rfl) (State.dropOcc_frame (hM.to rfl) hs0))
  clear_value v2
  split
  · rename_i w4 w5
    exact h3
  · rename_i w6 w7 w8
    extract_lets v9
    have h10 : Frame M s0 v9 := (State.countUse_frame (hM.to rfl) h3)
    clear_value v9
    refine (ite_rule (State.endSource_frame (hM.to rfl) h10) (ite_rule ?_ (ite_rule h10 (State.failRx_frame (hM.to rfl) h10))))
    split
    · rename_i w11 w12 w13
      exact (State.finish_frame (hM.to rfl) h10)
    · rename_i w14 w15
      exact h10

theorem State.endNow_frame {M : Nat} {s0 : State} {s : State} {o : Occ} (hM : Covers M 0x1fb6855d0bfbb2) (hs0 : Frame M s0 s) :
    Frame M s0 (State.endNow s o) := by
  unfold State.endNow
  exact (State.endOcc_frame (hM.to rfl) (ite_rule (State.dropLate_frame (hM.to rfl) hs0) hs0))

theorem State.endAll_frame {M : Nat} {s0 : State} {s : State} (hM : Covers M 0x1fb6855d0bfbb2) (hs0 : Frame M s0 s) :
    Frame M s0 (State.endAll s) := by
  unfold State.endAll
  exact (fold_rule hs0 fun x1 b2 h3 => (State.endNow_frame (hM.to rfl) h3))

theorem State.stopPorts_frame {M : Nat} {s0 : State} {s : State} (hM : Covers M 0x1fb6855d0bfbb2) (hs0 : Frame M s0 s) :
    Frame M s0 (State.stopPorts s) := by
  unfold State.stopPorts
  extract_lets v1 v2 v3
  have h4 : Frame M s0 v1 := (fold_rule (State.endAll_frame (hM.to rfl) hs0) fun x5 b6 h7 => (State.wr_frame h7 (hM.fam .gait rfl) rfl))
  clear_value v1
  have h8 : Frame M s0 v3 := (Frame.upd_gait (hM.to rfl) h4)
  clear_value v3
  exact (State.showActive_frame (hM.to rfl) (State.wr_frame (State.wr_frame h8 (hM.fam .gait rfl) rfl) (hM.fam .gait rfl) rfl))

theorem execAbandon_frame {M : Nat} {s0 : State} {p : Party} {s : State} (hM : Covers M 0x1fb6855d0bfbba) (hs1 : Frame M s0 s) :
    NextP (Frame M s0) (execAbandon p s) := by
  unfold execAbandon
  exact (State.action_frame (hM.to rfl) hs1 (hM.fam .gait rfl) (fun x1 h2 => (ite_rule (State.assisted_frame (hM.to rfl) h2 (fun x3 h4 => (State.setSwap_frame (hM.to rfl) (State.haClear_frame (hM.to rfl) h4)))) (ite_rule (State.setSwap_frame (hM.to rfl) (State.stopPorts_frame (hM.to rfl) h2)) h2))))

theorem State.endOlder_frame {M : Nat} {s0 : State} {s : State} {port : ℕ} {idx : ℕ} {period : ℕ} (hM : Covers M 0x1fb6855d0bfbb2) (hs0 : Frame M s0 s) :
    Frame M s0 (State.endOlder s port idx period) := by
  unfold State.endOlder
  exact (fold_rule hs0 fun x1 b2 h3 => (State.endNow_frame (hM.to rfl) h3))

theorem State.readSource_frame {M : Nat} {s0 : State} {s : State} {d : Stride} {c : ℕ} {off : ℕ} {len : ℕ} (hM : Covers M 0x1f82855d01dbb2) (hs0 : Frame M s0 s) :
    SndP (Frame M s0) (State.readSource s d c off len) := by
  unfold State.readSource
  extract_lets v1 v2 v3
  have h4 : StP (Frame M s0) v1 := (State.readAs_frame (hM.to rfl) hs0)
  clear_value v1
  exact (ite_rule (P := (SndP (Frame M s0))) h4 (ite_rule (P := (SndP (Frame M s0))) h4 (State.cnt_frame (hM.to rfl) (State.redFlags_frame (hM.to rfl) h4))))

theorem State.sourceCheck_frame {M : Nat} {s0 : State} {s : State} {d : Stride} {span : ℕ} {guard_ : ℕ} {len : ℕ} (hM : Covers M 0x80800c000200) (hs0 : Frame M s0 s) :
    SndP (Frame M s0) (State.sourceCheck s d span guard_ len) := by
  unfold State.sourceCheck
  refine (ite_rule (P := (SndP (Frame M s0))) hs0 ?_)
  extract_lets v1 v2
  exact (ite_rule (P := (SndP (Frame M s0))) (State.err_frame (hM.to rfl) hs0 (hM.fam .red rfl)) (ite_rule (P := (SndP (Frame M s0))) (State.err_frame (hM.to rfl) hs0 (hM.fam .red rfl)) (ite_rule (P := (SndP (Frame M s0))) (State.err_frame (hM.to rfl) hs0 (hM.fam .red rfl)) hs0)))

theorem State.queueSource_frame {M : Nat} {s0 : State} {s : State} {o : Occ} {d : Stride} {span : ℕ} {guard_ : ℕ} (hM : Covers M 0x1f82855d01dbb2) (hs0 : Frame M s0 s) :
    SndP (Frame M s0) (State.queueSource s o d span guard_) := by
  unfold State.queueSource
  extract_lets v1
  refine (ite_rule (P := (SndP (Frame M s0))) hs0 ?_)
  split
  · rename_i w2 w3
    exact hs0
  · rename_i w4 w5 w6 w7
    extract_lets v8
    have h9 : Frame M s0 v8 := (State.setPkt_frame (hM.to rfl) hs0)
    clear_value v8
    split
    · rename_i w10 w11 w12
      exact (State.finish_frame (hM.to rfl) h9)
    · rename_i w13 w14 w15 w16 w17
      extract_lets v18 v19
      have h20 : SndP (Frame M s0) v18 := (State.sourceCheck_frame (hM.to rfl) h9)
      clear_value v18
      have h21 : SndP (Frame M s0) v19 := (State.readSource_frame (hM.to rfl) h20)
      clear_value v19
      split
      · rename_i w22 w23
        exact h20
      · rename_i w24 w25 w26 w27
        exact (State.finish_frame (hM.to rfl) h20)
      · rename_i w28 w29
        split
        · rename_i w30 w31 w32 w33 w34
          exact h21
        · rename_i w35 w36
          exact h21
        · rename_i w37 w38
          exact h21

theorem State.putOcc_frame {M : Nat} {s0 : State} {s : State} {o : Occ} (hM : Covers M 0x100) (hs0 : Frame M s0 s) :
    Frame M s0 (State.putOcc s o) := by
  unfold State.putOcc
  exact (ite_rule (Frame.upd_gait (hM.to rfl) hs0) (Frame.upd_gait (hM.to rfl) hs0))

theorem State.ringFault_frame {M : Nat} {s0 : State} {s : State} (hM : Covers M 0x200800c000200) (hs0 : Frame M s0 s) :
    Frame M s0 (State.ringFault s) := by
  unfold State.ringFault
  exact (State.err_frame (hM.to rfl) hs0 (hM.fam .fe rfl))

theorem State.ringSource_frame {M : Nat} {s0 : State} {s : State} {o : Occ} {d : Stride} {span : ℕ} {guard_ : ℕ} (hM : Covers M 0x1f82855d01dbb2) (hs0 : Frame M s0 s) :
    SndP (Frame M s0) (State.ringSource s o d span guard_) := by
  unfold State.ringSource
  extract_lets v1 v2
  have h3 : SndP (Frame M s0) v1 := (State.ringDesc_frame (hM.to rfl) hs0)
  clear_value v1
  have h4 : Frame M s0 v2 := h3
  split
  · rename_i w5 w6
    exact (State.ringFault_frame (hM.to rfl) h4)
  · rename_i w7 w8 w9 w10 w11 w12
    refine (ite_rule (P := (SndP (Frame M s0))) (State.ringFault_frame (hM.to rfl) h4) (ite_rule (P := (SndP (Frame M s0))) h4 ?_))
    extract_lets v13 v14 v15
    have h16 : SndP (Frame M s0) v14 := (State.sourceCheck_frame (hM.to rfl) h4)
    clear_value v14
    have h17 : SndP (Frame M s0) v15 := (State.readSource_frame (hM.to rfl) h16)
    clear_value v15
    split
    · rename_i w18 w19
      exact h16
    · rename_i w20 w21 w22 w23
      exact (State.ringStep_frame (hM.to rfl) h16)
    · rename_i w24 w25
      split
      · rename_i w26 w27 w28 w29 w30
        exact h17
      · rename_i w31 w32
        exact h17
      · rename_i w33 w34
        exact h17

theorem State.rootSource_frame {M : Nat} {s0 : State} {s : State} {o : Occ} {d : Stride} (hM : Covers M 0x80800c000200) (hs0 : Frame M s0 s) :
    SndP (Frame M s0) (State.rootSource s o d) := by
  unfold State.rootSource
  extract_lets v1
  refine (ite_rule (P := (SndP (Frame M s0))) (State.descFault_frame (hM.to rfl) hs0) ?_)
  split
  · rename_i w2 w3
    exact hs0
  · rename_i w4 w5 w6
    extract_lets v7
    exact hs0

theorem State.claimSource_frame {M : Nat} {s0 : State} {s : State} {o : Occ} {d : Stride} (hM : Covers M 0x1f02855d01dbb2) (hs0 : Frame M s0 s) :
    SndP (Frame M s0) (State.claimSource s o d) := by
  unfold State.claimSource
  extract_lets v1 v2
  have h3 : SndP (Frame M s0) v2 := (State.ringDesc_frame (hM.to rfl) hs0)
  clear_value v2
  refine (ite_rule (P := (SndP (Frame M s0))) hs0 (ite_rule (P := (SndP (Frame M s0))) ?_ (ite_rule (P := (SndP (Frame M s0))) hs0 ?_)))
  · split
    · rename_i w4 w5 w6 w7 w8 w9
      exact h3
    · rename_i w10 w11
      exact h3
  · split
    · rename_i w12 w13 w14 w15
      exact (State.setPkt_frame (hM.to rfl) hs0)
    · rename_i w16 w17
      exact hs0

theorem State.takeSource_frame {M : Nat} {s0 : State} {s : State} {o : Occ} {d : Stride} {span : ℕ} {guard_ : ℕ} (hM : Covers M 0x1f82855d01dbb2) (hs0 : Frame M s0 s) :
    SndP (Frame M s0) (State.takeSource s o d span guard_) := by
  unfold State.takeSource
  exact (ite_rule (P := (SndP (Frame M s0))) (State.claimSource_frame (hM.to rfl) hs0) (ite_rule (P := (SndP (Frame M s0))) (State.claimSource_frame (hM.to rfl) (State.descFault_frame (hM.to rfl) hs0)) (ite_rule (P := (SndP (Frame M s0))) (State.rootSource_frame (hM.to rfl) hs0) (ite_rule (P := (SndP (Frame M s0))) (State.claimSource_frame (hM.to rfl) (State.descFault_frame (hM.to rfl) hs0)) (ite_rule (P := (SndP (Frame M s0))) (State.ringSource_frame (hM.to rfl) hs0) (State.queueSource_frame (hM.to rfl) hs0))))))

theorem State.takeBuffer_frame {M : Nat} {s0 : State} {s : State} {o : Occ} {d : Stride} (hM : Covers M 0x1f82855d01dbb2) (hs0 : Frame M s0 s) :
    SndP (Frame M s0) (State.takeBuffer s o d) := by
  unfold State.takeBuffer
  refine (ite_rule (P := (SndP (Frame M s0))) (ite_rule (P := (SndP (Frame M s0))) hs0 (State.descFault_frame (hM.to rfl) hs0)) (ite_rule (P := (SndP (Frame M s0))) ?_ (ite_rule (P := (SndP (Frame M s0))) hs0 ?_)))
  · extract_lets v1 v2
    have h3 : SndP (Frame M s0) v1 := (State.ringDesc_frame (hM.to rfl) hs0)
    clear_value v1
    have h4 : Frame M s0 v2 := h3
    split
    · rename_i w5 w6
      exact (State.ringFault_frame (hM.to rfl) h4)
    · rename_i w7 w8 w9 w10 w11 w12
      exact (ite_rule (P := (SndP (Frame M s0))) (State.ringFault_frame (hM.to rfl) h4) (ite_rule (P := (SndP (Frame M s0))) h4 h4))
  · split
    · rename_i w13 w14
      exact hs0
    · rename_i w15 w16 w17 w18
      exact (State.setPkt_frame (hM.to rfl) hs0)

theorem State.beginOcc_frame {M : Nat} {s0 : State} {s : State} {port : ℕ} {idx : ℕ} {period : ℕ} {g : GaitImage} {d : Stride} (hM : Covers M 0x1f82855d01dbb2) (hs0 : Frame M s0 s) :
    Frame M s0 (State.beginOcc s port idx period g d) := by
  unfold State.beginOcc
  refine (ite_rule hs0 ?_)
  split
  · rename_i w1 w2
    exact hs0
  · rename_i w3 w4 w5 w6 w7
    extract_lets v8 v9 v10 v11 v12
    have h13 : SndP (Frame M s0) v11 := (ite_rule (P := (SndP (Frame M s0))) (State.takeBuffer_frame (hM.to rfl) hs0) (State.takeSource_frame (hM.to rfl) hs0))
    clear_value v11
    exact (State.putOcc_frame (hM.to rfl) h13)

theorem State.closeTx_frame {M : Nat} {s0 : State} {s : State} {o : Occ} (hM : Covers M 0x1fb6855d0bfbb2) (hs0 : Frame M s0 s) :
    Frame M s0 (State.closeTx s o) := by
  unfold State.closeTx
  exact (ite_rule (State.endOcc_frame (hM.to rfl) hs0) (ite_rule hs0 (ite_rule (State.putOcc_frame (hM.to rfl) hs0) (ite_rule (State.endOcc_frame (hM.to rfl) hs0) (State.endOcc_frame (hM.to rfl) hs0)))))

theorem State.settleLate_frame {M : Nat} {s0 : State} {s : State} {n : ℕ} (hM : Covers M 0x1fb6855d0bfbb2) (hs0 : Frame M s0 s) :
    Frame M s0 (State.settleLate s n) := by
  unfold State.settleLate
  exact (fold_rule hs0 fun x1 b2 h3 => (ite_rule h3 (State.endOcc_frame (hM.to rfl) h3)))

theorem State.dueGo_frame {M : Nat} {s0 : State} {n : ℕ} {upTo : ℕ} {limit : ℕ} {ok : State → Bool} {a : List DataFrame} {p5 : State} (hM : Covers M 0x100000d0000a0) (hs5 : Frame M s0 p5) :
    SndP (Frame M s0) (State.dueGo n upTo limit ok a p5) := by
  induction a generalizing n upTo limit ok p5
  · unfold State.dueGo
    exact hs5
  · rename_i hd tl ih
    unfold State.dueGo
    extract_lets v1
    exact (ite_rule (P := (SndP (Frame M s0))) hs5 (ite_rule (P := (SndP (Frame M s0))) hs5 (ite_rule (P := (SndP (Frame M s0))) hs5 (ih (State.sendFrameAt_frame (hM.to rfl) hs5)))))

theorem State.sendDue_frame {M : Nat} {s0 : State} {s : State} {o : Occ} {upTo : ℕ} (hM : Covers M 0x1fb6855d0bfbb2) (hs0 : Frame M s0 s) :
    Frame M s0 (State.sendDue s o upTo) := by
  unfold State.sendDue
  refine (ite_rule hs0 ?_)
  split
  · rename_i w1 w2
    exact (State.putOcc_frame (hM.to rfl) hs0)
  · rename_i w3 w4 w5 w6
    extract_lets v7 v8
    have h9 : SndP (Frame M s0) v7 := (State.dueGo_frame (hM.to rfl) hs0)
    clear_value v7
    have h10 : Frame M s0 v8 := (State.putOcc_frame (hM.to rfl) h9)
    clear_value v8
    split
    · rename_i w11 w12
      exact (State.putOcc_frame (hM.to rfl) h9)
    · rename_i w13 w14
      exact (State.putOcc_frame (hM.to rfl) h9)
    · rename_i w15 w16
      exact (State.settleLate_frame (hM.to rfl) (fold_rule h10 fun x17 b18 h19 => (State.queueLoose_frame (hM.to rfl) h19)))

theorem State.closeRx_frame {M : Nat} {s0 : State} {s : State} {o : Occ} (hM : Covers M 0x1fb6855d0bfbb2) (hs0 : Frame M s0 s) :
    Frame M s0 (State.closeRx s o) := by
  unfold State.closeRx
  split
  · rename_i w1 w2 w3
    exact (State.endOcc_frame (hM.to rfl) hs0)
  · rename_i w4 w5
    exact (State.putOcc_frame (hM.to rfl) hs0)

theorem execFootprintEnd_frame {M : Nat} {s0 : State} {port : ℕ} {idx : ℕ} {period : ℕ} {s : State} (hM : Covers M 0x1fb6855d0bfbb2) (hs3 : Frame M s0 s) :
    NextP (Frame M s0) (execFootprintEnd port idx period s) := by
  unfold execFootprintEnd
  refine (guarded_frame hs3 (fun x1 h2 => ?_))
  split
  · rename_i w3 w4
    exact h2
  · rename_i w5 w6 w7
    refine (ite_rule (State.closeRx_frame (hM.to rfl) h2) ?_)
    extract_lets v8
    have h9 : Frame M s0 v8 := (State.sendDue_frame (hM.to rfl) h2)
    clear_value v8
    split
    · rename_i w10 w11
      exact h9
    · rename_i w12 w13 w14
      exact (State.closeTx_frame (hM.to rfl) h9)

theorem State.writeGait_frame {M : Nat} {s0 : State} {s : State} {m : Master} {off : ℕ} {data : List Byte} {poison : ℕ} (hM : Covers M 0x1f36855d09fbb2) (hs0 : Frame M s0 s) :
    SndP (Frame M s0) (State.writeGait s m off data poison) := by
  unfold State.writeGait
  split
  · rename_i w1 w2 w3 w4
    exact (State.refuse_frame (hM.to rfl) hs0)
  · rename_i w5 w6
    extract_lets v7
    have h8 : SndP (Frame M s0) v7 := (State.writeRange_frame (hM.to rfl) hs0)
    clear_value v7
    exact (ite_rule (State.gaitWrote_frame (hM.to rfl) (State.countBytes_frame (hM.to rfl) h8)) h8)

theorem State.writeRx_frame {M : Nat} {s0 : State} {s : State} {o : Occ} (hM : Covers M 0x1f36855d09fbb2) (hs0 : Frame M s0 s) :
    SndP (Frame M s0) (State.writeRx s o) := by
  unfold State.writeRx
  split
  · rename_i w1 w2 w3 w4
    split
    · rename_i w5 w6
      exact hs0
    · rename_i w7 w8 w9
      extract_lets v10 v11
      refine (ite_rule (P := (SndP (Frame M s0))) (State.hostWrite_frame (hM.to rfl) hs0) ?_)
      split
      · rename_i w12 w13
        exact (State.finish_frame (hM.to rfl) hs0)
      · rename_i w14 w15 w16
        exact (State.writeGait_frame (hM.to rfl) hs0)
  · rename_i w17 w18 w19 w20 w21
    extract_lets v22
    have h23 : SndP (Frame M s0) v22 := (State.ringDesc_frame (hM.to rfl) hs0)
    clear_value v22
    split
    · rename_i w24 w25
      exact (State.ringFault_frame (hM.to rfl) h23)
    · rename_i w26 w27 w28 w29 w30 w31
      extract_lets v32
      have h33 : SndP (Frame M s0) v32 := (State.writeGait_frame (hM.to rfl) h23)
      clear_value v32
      exact (ite_rule (State.ringStep_frame (hM.to rfl) h33) h33)
  · rename_i w34 w35 w36 w37
    exact hs0

theorem State.keepRx_frame {M : Nat} {s0 : State} {s : State} {o : Occ} (hM : Covers M 0x1fb6855d0bfbb2) (hs0 : Frame M s0 s) :
    Frame M s0 (State.keepRx s o) := by
  unfold State.keepRx
  split
  · rename_i w1 w2 w3 w4 w5
    exact (State.endOcc_frame (hM.to rfl) (State.putOcc_frame (hM.to rfl) hs0))
  · rename_i w6 w7 w8
    exact (State.putOcc_frame (hM.to rfl) hs0)

theorem State.completeRx_frame {M : Nat} {s0 : State} {s : State} {o : Occ} {d : Stride} {port : ℕ} {idx : ℕ} (hM : Covers M 0x1fb6855d0bfbb2) (hs0 : Frame M s0 s) :
    Frame M s0 (State.completeRx s o d port idx) := by
  unfold State.completeRx
  extract_lets v1 v2 v3 v4 v5 v6
  have h7 : FstP (Frame M s0) v3 := (State.redDeliver_frame (hM.to rfl) hs0)
  clear_value v3
  have h8 : SndP (Frame M s0) v5 := (State.writeRx_frame (hM.to rfl) hs0)
  clear_value v5
  have h9 : Frame M s0 v6 := by
    unfold v6
    clear_value v1
    split
    · rename_i w10 w11
      exact (ite_rule (State.applySignal_frame (hM.to rfl) h8) h8)
    · rename_i w12
      exact h8
  clear_value v6
  exact (ite_rule (State.keepRx_frame (hM.to rfl) hs0) (ite_rule (State.keepRx_frame (hM.to rfl) h7) (State.keepRx_frame (hM.to rfl) h9)))

theorem State.frameInto_frame {M : Nat} {s0 : State} {s : State} {o : Occ} {d : Stride} {f : DataFrame} (hM : Covers M 0x1fb6855d0bfbb2) (hs0 : Frame M s0 s) :
    Frame M s0 (State.frameInto s o d f) := by
  unfold State.frameInto
  extract_lets v1 v2 v3
  exact (ite_rule (State.keepRx_frame (hM.to rfl) hs0) (ite_rule (State.putOcc_frame (hM.to rfl) hs0) (State.completeRx_frame (hM.to rfl) hs0)))

theorem execLooseAgeDrop_frame {M : Nat} {s0 : State} {port : ℕ} {s : State} (hM : Covers M 0x20800c000300) (hs1 : Frame M s0 s) :
    NextP (Frame M s0) (execLooseAgeDrop port s) := by
  unfold execLooseAgeDrop
  refine (guarded_frame hs1 (fun x1 h2 => ?_))
  extract_lets v3 v4 v5 v6
  have h7 : Frame M s0 v6 := (State.add_frame (State.setLoose_frame (hM.to rfl) h2) (hM.fam .cmb rfl) rfl)
  clear_value v6
  exact (ite_rule h7 (State.err_frame (hM.to rfl) h7 (hM.fam .cmb rfl)))

theorem State.openWindow_frame {M : Nat} {s0 : State} {s : State} {port : ℕ} {idx : ℕ} {period : ℕ} {g : GaitImage} {d : Stride} (hM : Covers M 0x20) (hs0 : Frame M s0 s) :
    Frame M s0 (State.openWindow s port idx period g d) := by
  unfold State.openWindow
  extract_lets v1 v2 v3 v4
  have h5 : Frame M s0 v3 := (State.wakeSlots_frame (hM.to rfl) hs0)
  clear_value v3
  exact (Frame.upd_power (hM.to rfl) h5)

theorem execWakeAhead_frame {M : Nat} {s0 : State} {port : ℕ} {idx : ℕ} {period : ℕ} {s : State} (hM : Covers M 0x1f82855d01dbb2) (hs3 : Frame M s0 s) :
    NextP (Frame M s0) (execWakeAhead port idx period s) := by
  unfold execWakeAhead
  refine (guarded_frame hs3 (fun x1 h2 => ?_))
  split
  · rename_i w3 w4
    exact h2
  · rename_i w5 w6 w7 w8
    exact (State.beginOcc_frame (hM.to rfl) (State.openWindow_frame (hM.to rfl) h2))

theorem execPlaneDown_frame {M : Nat} {s0 : State} {plane : ℕ} {s : State} (hM : Covers M 0x100) (hs1 : Frame M s0 s) :
    NextP (Frame M s0) (execPlaneDown plane s) := by
  unfold execPlaneDown
  exact (guarded_frame hs1 (fun x1 h2 => (Frame.upd_gait (hM.to rfl) h2)))

theorem State.startTx_frame {M : Nat} {s0 : State} {s : State} {o : Occ} {g : GaitImage} {d : Stride} (hM : Covers M 0x1fb6855d0bfbb2) (hs0 : Frame M s0 s) :
    Frame M s0 (State.startTx s o g d) := by
  unfold State.startTx
  extract_lets v1
  split
  · rename_i w2 w3
    exact (State.putOcc_frame (hM.to rfl) hs0)
  · rename_i w4 w5 w6
    refine (ite_rule hs0 (ite_rule (State.putOcc_frame (hM.to rfl) hs0) ?_))
    extract_lets v7 v8 v9 v10
    have h11 : Frame M s0 v10 := (State.setLink_frame (hM.to rfl) hs0)
    clear_value v10
    exact (State.sendDue_frame (hM.to rfl) (State.putOcc_frame (hM.to rfl) h11))

theorem State.sendAllDue_frame {M : Nat} {s0 : State} {s : State} (hM : Covers M 0x1fb6855d0bfbb2) (hs0 : Frame M s0 s) :
    Frame M s0 (State.sendAllDue s) := by
  unfold State.sendAllDue
  exact (fold_rule hs0 fun x1 b2 h3 => (State.sendDue_frame (hM.to rfl) h3))

theorem State.startOpen_frame {M : Nat} {s0 : State} {s : State} {port : ℕ} {g : GaitImage} {d : Stride} (hM : Covers M 0x1fb6855d0bfbb2) (hs0 : Frame M s0 s) :
    Frame M s0 (State.startOpen s port g d) := by
  unfold State.startOpen
  refine (ite_rule hs0 ?_)
  extract_lets v1 v2
  have h3 : Frame M s0 v2 := (State.resumeResend_frame (hM.to rfl) hs0)
  clear_value v2
  exact (State.settleLate_frame (hM.to rfl) (ite_rule h3 (State.drainLoose_frame (hM.to rfl) h3)))

theorem State.opStrideStart_frame {M : Nat} {s0 : State} {port : ℕ} {idx : ℕ} {period : ℕ} {g : GaitImage} {d : Stride} {s : State} (hM : Covers M 0x1fb6855d0bfbb2) (hs5 : Frame M s0 s) :
    Frame M s0 (State.opStrideStart port idx period g d s) := by
  unfold State.opStrideStart
  extract_lets v1 v2 v3 v4
  have h5 : Frame M s0 v1 := (State.openWindow_frame (hM.to rfl) (State.endOlder_frame (hM.to rfl) hs5))
  clear_value v1
  have h6 : Frame M s0 v2 := (ite_rule h5 (State.wr_frame h5 (hM.fam .gait rfl) rfl))
  clear_value v2
  have h7 : Frame M s0 v3 := (State.beginOcc_frame (hM.to rfl) h6)
  clear_value v3
  have h8 : Frame M s0 v4 := (ite_rule (State.wr_frame h7 (hM.fam .gait rfl) rfl) h7)
  clear_value v4
  refine (ite_rule (ite_rule h6 (State.startOpen_frame (hM.to rfl) h6)) ?_)
  split
  · rename_i w9 w10
    exact h8
  · rename_i w11 w12 w13
    exact (ite_rule h8 (ite_rule (State.endOcc_frame (hM.to rfl) h8) (State.startTx_frame (hM.to rfl) h8)))

theorem execStrideStart_frame {M : Nat} {s0 : State} {port : ℕ} {idx : ℕ} {period : ℕ} {s : State} (hM : Covers M 0x1fb6855d0bfbb2) (hs3 : Frame M s0 s) :
    NextP (Frame M s0) (execStrideStart port idx period s) := by
  unfold execStrideStart
  refine (guarded_frame hs3 (fun x1 h2 => ?_))
  split
  · rename_i w3 w4
    exact h2
  · rename_i w5 w6 w7 w8
    exact (ite_rule h2 (State.opStrideStart_frame (hM.to rfl) h2))

theorem State.leaveStop_frame {M : Nat} {s0 : State} {s : State} (hM : Covers M 0x400000010000) (hs0 : Frame M s0 s) :
    Frame M s0 (State.leaveStop s) := by
  unfold State.leaveStop
  extract_lets v1
  exact (ite_rule (State.wr_frame (Frame.upd_sync (hM.to rfl) hs0) (hM.fam .hitch rfl) rfl) (Frame.upd_sync (hM.to rfl) hs0))

theorem State.showGait_frame {M : Nat} {s0 : State} {s : State} (hM : Covers M 0x4800c000300) (hs0 : Frame M s0 s) :
    Frame M s0 (State.showGait s) := by
  unfold State.showGait
  extract_lets v1 v2 v3 v4
  have h5 : Frame M s0 v1 := (State.showActive_frame (hM.to rfl) hs0)
  clear_value v1
  have h6 : Frame M s0 v4 := (Frame.upd_gait (hM.to rfl) h5)
  clear_value v4
  exact (State.redShort_frame (hM.to rfl) (State.wr_frame (State.wr_frame h6 (hM.fam .gait rfl) rfl) (hM.fam .gait rfl) rfl))

theorem State.flip_frame {M : Nat} {s0 : State} {s : State} (hM : Covers M 0x1ff6855d0bfbb2) (hs0 : Frame M s0 s) :
    Frame M s0 (State.flip s) := by
  unfold State.flip
  extract_lets v1
  have h2 : Frame M s0 v1 := (State.showGait_frame (hM.to rfl) (fold_rule (State.endAll_frame (hM.to rfl) hs0) fun x3 b4 h5 => (State.flipPort_frame (hM.to rfl) h5)))
  clear_value v1
  exact (State.setSwap_frame (hM.to rfl) (State.leaveStop_frame (hM.to rfl) (fold_rule h2 fun x6 b7 h8 => (State.clearPdn_frame (hM.to rfl) h8))))

theorem execSwapDtReached_frame {M : Nat} {s0 : State} {s : State} (hM : Covers M 0x1ff6855d0bfbb2) (hs0 : Frame M s0 s) :
    NextP (Frame M s0) (execSwapDtReached s) := by
  unfold execSwapDtReached
  exact (guarded_frame hs0 (fun x1 h2 => (ite_rule (State.flip_frame (hM.to rfl) h2) (State.err_frame (hM.to rfl) (State.setSwap_frame (hM.to rfl) h2) (hM.fam .gait rfl)))))

theorem execThrottleEnd_frame {M : Nat} {s0 : State} {temp : ℤ} {s : State} (hM : Covers M 0x40000000001) (hs1 : Frame M s0 s) :
    NextP (Frame M s0) (execThrottleEnd temp s) := by
  unfold execThrottleEnd
  refine (guarded_frame hs1 (fun x1 h2 => ?_))
  extract_lets v3 v4
  have h5 : Frame M s0 v4 := (Frame.upd_pins (hM.to rfl) h2)
  clear_value v4
  exact (ite_rule (State.wr_frame h5 (hM.fam .gait rfl) rfl) h5)

theorem execThrottleStart_frame {M : Nat} {s0 : State} {pin : Bool} {temp : ℤ} {s : State} (hM : Covers M 0x40000000001) (hs2 : Frame M s0 s) :
    NextP (Frame M s0) (execThrottleStart pin temp s) := by
  unfold execThrottleStart
  refine (guarded_frame hs2 (fun x1 h2 => ?_))
  extract_lets v3 v4
  have h5 : Frame M s0 v4 := (Frame.upd_pins (hM.to rfl) h2)
  clear_value v4
  exact (ite_rule (State.wr_frame h5 (hM.fam .gait rfl) rfl) h5)

theorem execSwapLateBoundary_frame {M : Nat} {s0 : State} {s : State} (hM : Covers M 0x1ff6855d0bfbb2) (hs0 : Frame M s0 s) :
    NextP (Frame M s0) (execSwapLateBoundary s) := by
  unfold execSwapLateBoundary
  exact (guarded_frame hs0 (fun x1 h2 => (State.flip_frame (hM.to rfl) h2)))

end Sys2Proof.Machine
end

