-- ==== Sys2Proof/Laws/FrameReceive.lean ====
section
/-! SUPPORT. What each operation and each meaning of Machine/Receive.lean can change: it keeps the frame `Frame M s0` for every set `M` that
has the parts it names, given that its arguments keep it. -/

namespace Sys2Proof.Machine

theorem State.badFrame_frame {M : Nat} {s0 : State} {s : State} {n : ℕ} (hM : Covers M 0x100800c000200) (hs0 : Frame M s0 s) :
    Frame M s0 (State.badFrame s n) := by
  unfold State.badFrame
  exact (State.err_frame (hM.to rfl) (State.inc_frame hs0 (hM.fam .lpt rfl) rfl) (hM.fam .lpt rfl))

theorem State.stray_frame {M : Nat} {s0 : State} {s : State} {n : ℕ} (hM : Covers M 0x100800c000200) (hs0 : Frame M s0 s) :
    Frame M s0 (State.stray s n) := by
  unfold State.stray
  exact (State.err_frame (hM.to rfl) (State.inc_frame hs0 (hM.fam .lpt rfl) rfl) (hM.fam .lpt rfl))

theorem State.rspAt_frame {M : Nat} {s0 : State} {s : State} {f : DataFrame} {o : ℕ} (hM : Covers M 0x112e855d04f3b2) (hs0 : Frame M s0 s) :
    Frame M s0 (State.rspAt s f o) := by
  unfold State.rspAt
  extract_lets v1 v2
  exact (State.opRsp_frame (hM.to rfl) hs0)

theorem State.joinRx_frame {M : Nat} {s0 : State} {s : State} {n : ℕ} {g : GaitImage} {d : Stride} {idx : ℕ} {f : DataFrame} (hM : Covers M 0x1fb6855d0bfbb2) (hs0 : Frame M s0 s) :
    Frame M s0 (State.joinRx s n g d idx f) := by
  unfold State.joinRx
  extract_lets v1 v2
  have h3 : Frame M s0 v2 := (ite_rule hs0 (State.beginOcc_frame (hM.to rfl) hs0))
  clear_value v2
  split
  · rename_i w4 w5 w6
    exact (ite_rule (State.stray_frame (hM.to rfl) h3) (State.frameInto_frame (hM.to rfl) h3))
  · rename_i w7 w8
    exact (State.stray_frame (hM.to rfl) h3)

theorem State.relay_frame {M : Nat} {s0 : State} {s : State} {l : List (ℕ × GaitImage × Stride)} {f : DataFrame} (hM : Covers M 0x100000d0000a0) (hs0 : Frame M s0 s) :
    Frame M s0 (State.relay s l f) := by
  unfold State.relay
  refine (fold_rule hs0 fun x1 b2 h3 => ?_)
  extract_lets v4
  exact (ite_rule (State.sendFrameAt_frame (hM.to rfl) h3) h3)

theorem State.acceptPostOwn_frame {M : Nat} {s0 : State} {s : State} {n : ℕ} {f : DataFrame} (hM : Covers M 0x1ff6855d0bfbb2) (hs0 : Frame M s0 s) :
    Frame M s0 (State.acceptPostOwn s n f) := by
  unfold State.acceptPostOwn
  extract_lets v1
  split
  · rename_i w2 w3 w4 w5 w6
    exact (State.relay_frame (hM.to rfl) (State.joinRx_frame (hM.to rfl) (State.smearBy_frame (hM.to rfl) hs0)))
  · rename_i w7 w8
    exact (ite_rule (State.stray_frame (hM.to rfl) hs0) (State.relay_frame (hM.to rfl) hs0))

theorem State.acceptPost_frame {M : Nat} {s0 : State} {s : State} {n : ℕ} {f : DataFrame} (hM : Covers M 0x1ff6855d0bfbb2) (hs0 : Frame M s0 s) :
    Frame M s0 (State.acceptPost s n f) := by
  unfold State.acceptPost
  refine (ite_rule ?_ (ite_rule ?_ (State.acceptPostOwn_frame (hM.to rfl) hs0)))
  · split
    · rename_i w1 w2 w3 w4
      exact (ite_rule (State.frameInto_frame (hM.to rfl) (State.smearBy_frame (hM.to rfl) hs0)) (State.routeFrame_frame (hM.to rfl) hs0))
    · rename_i w5 w6
      exact (State.routeFrame_frame (hM.to rfl) hs0)
  · extract_lets v7
    exact (ite_rule (State.routeFrame_frame (hM.to rfl) hs0) (State.relay_frame (hM.to rfl) hs0))

theorem State.beginAhead_frame {M : Nat} {s0 : State} {s : State} {n : ℕ} {src : ℕ} {lo : ℕ} (hM : Covers M 0x1f82855d01dbb2) (hs0 : Frame M s0 s) :
    Frame M s0 (State.beginAhead s n src lo) := by
  unfold State.beginAhead
  split
  · rename_i w1 w2
    exact hs0
  · rename_i w3 w4 w5
    extract_lets v6
    exact (ite_rule hs0 (fold_rule hs0 fun x7 b8 h9 => (State.beginOcc_frame (hM.to rfl) h9)))

theorem State.acceptMount_frame {M : Nat} {s0 : State} {s : State} {n : ℕ} {f : DataFrame} (hM : Covers M 0x1ff6855d0bfbb2) (hs0 : Frame M s0 s) :
    Frame M s0 (State.acceptMount s n f) := by
  unfold State.acceptMount
  refine (ite_rule (ite_rule (State.stray_frame (hM.to rfl) hs0) ?_) ?_)
  · extract_lets v1 v2
    have h3 : Frame M s0 v2 := (ite_rule (State.beginAhead_frame (hM.to rfl) hs0) hs0)
    clear_value v2
    split
    · rename_i w4 w5 w6 w7
      exact (State.frameInto_frame (hM.to rfl) (State.smearBy_frame (hM.to rfl) h3))
    · rename_i w8 w9
      exact (State.stray_frame (hM.to rfl) h3)
  · split
    · rename_i w10 w11 w12 w13 w14
      exact (State.joinRx_frame (hM.to rfl) (State.smearBy_frame (hM.to rfl) hs0))
    · rename_i w15 w16
      exact (State.stray_frame (hM.to rfl) hs0)

theorem State.reqAt_frame {M : Nat} {s0 : State} {s : State} {port : ℕ} {f : DataFrame} {sync : Bool} {o : ℕ} (hM : Covers M 0x1f3e855d09fbb2) (hs0 : Frame M s0 s) :
    Frame M s0 (State.reqAt s port f sync o) := by
  unfold State.reqAt
  extract_lets v1 v2
  exact (ite_rule (State.homeReq_frame (hM.to rfl) hs0) (ite_rule (State.homeToken_frame (hM.to rfl) hs0) (State.homeUnknown_frame (hM.to rfl) hs0)))

theorem State.routeHitch_frame {M : Nat} {s0 : State} {s : State} {f : DataFrame} (hM : Covers M 0x1164800d0023a0) (hs0 : Frame M s0 s) :
    Frame M s0 (State.routeHitch s f) := by
  unfold State.routeHitch
  exact (ite_rule (State.routeFrame_frame (hM.to rfl) hs0) (State.hitchStale_frame (hM.to rfl) hs0))

theorem State.hitchIn_frame {M : Nat} {s0 : State} {s : State} {port : ℕ} {f : DataFrame} (hM : Covers M 0x1f7e855d0dffb2) (hs0 : Frame M s0 s) :
    Frame M s0 (State.hitchIn s port f) := by
  unfold State.hitchIn
  extract_lets v1 v2
  split
  · rename_i w3 w4
    exact (ite_rule (State.opArrive_frame (hM.to rfl) hs0) hs0)
  · rename_i w5 w6
    exact (State.fabGo_frame (hM.to rfl) (State.opRelease_frame (hM.to rfl) hs0))
  · rename_i w7 w8
    exact (ite_rule (State.routeHitch_frame (hM.to rfl) hs0) (ite_rule (State.opQuery_frame (hM.to rfl) hs0) (State.stray_frame (hM.to rfl) hs0)))
  · rename_i w9 w10
    exact (ite_rule (State.routeHitch_frame (hM.to rfl) hs0) (ite_rule (State.fabGo_frame (hM.to rfl) (State.opAnswer_frame (hM.to rfl) hs0)) (State.stray_frame (hM.to rfl) hs0)))
  · rename_i w11 w12
    exact (State.opStop_frame (hM.to rfl) hs0)
  · rename_i w13 w14
    exact (ite_rule (State.opLeave_frame (hM.to rfl) hs0) hs0)
  · rename_i w15 w16 w17 w18 w19 w20 w21
    exact (State.badFrame_frame (hM.to rfl) hs0)

theorem State.bulkIn_frame {M : Nat} {s0 : State} {s : State} {port : ℕ} {f : DataFrame} (hM : Covers M 0x1f3e855d0dffb2) (hs0 : Frame M s0 s) :
    Frame M s0 (State.bulkIn s port f) := by
  unfold State.bulkIn
  extract_lets v1
  split
  · rename_i w2 w3
    exact (State.opBulk_frame (hM.to rfl) hs0)
  · rename_i w4 w5
    exact (State.opBulk_frame (hM.to rfl) hs0)
  · rename_i w6 w7
    exact (State.opGetData_frame (hM.to rfl) hs0)
  · rename_i w8 w9
    exact (State.opBulk_frame (hM.to rfl) hs0)
  · rename_i w10 w11
    exact (State.opAmoRsp_frame (hM.to rfl) hs0)
  · rename_i w12 w13
    exact (State.opAckBulk_frame (hM.to rfl) hs0)
  · rename_i w14 w15
    exact (State.opNak_frame (hM.to rfl) hs0)
  · rename_i w16 w17 w18 w19 w20 w21 w22 w23
    exact (State.badFrame_frame (hM.to rfl) hs0)

theorem State.cohAt_frame {M : Nat} {s0 : State} {s : State} {f : DataFrame} {o : ℕ} (hM : Covers M 0x1f3e855d09fbb2) (hs0 : Frame M s0 s) :
    Frame M s0 (State.cohAt s f o) := by
  unfold State.cohAt
  extract_lets v1 v2 v3 v4 v5 v6 v7 v8 v9 v10
  clear_value v2
  split
  · rename_i w11
    exact (State.opCohReq_frame (hM.to rfl) hs0)
  · rename_i w12
    exact (State.opCohReq_frame (hM.to rfl) hs0)
  · rename_i w13
    exact (State.opCohReq_frame (hM.to rfl) hs0)
  · rename_i w14
    exact (State.opCohWb_frame (hM.to rfl) hs0)
  · rename_i w15
    exact (State.opCohEvs_frame (hM.to rfl) hs0)
  · rename_i w16
    exact (State.ownCoh_frame (hM.to rfl) hs0)
  · rename_i w17
    exact (State.ownCoh_frame (hM.to rfl) hs0)
  · rename_i w18
    exact (State.ownCoh_frame (hM.to rfl) hs0)
  · rename_i w19
    exact (State.ownCoh_frame (hM.to rfl) hs0)
  · rename_i w20
    exact (State.opMemberSnoop_frame (hM.to rfl) hs0)
  · rename_i w21
    exact (State.opMemberSnoop_frame (hM.to rfl) hs0)
  · rename_i w22
    exact (State.opMemberSnoop_frame (hM.to rfl) hs0)
  · rename_i w23
    exact (State.opMemberSnoop_frame (hM.to rfl) hs0)
  · rename_i w24
    exact (State.opCohAnswer_frame (hM.to rfl) hs0)
  · rename_i w25
    exact (State.opCohAnswer_frame (hM.to rfl) hs0)
  · rename_i w26
    exact (State.opFlushDone_frame (hM.to rfl) hs0)
  · rename_i w27 w28 w29 w30 w31 w32 w33 w34 w35 w36 w37 w38 w39 w40 w41 w42 w43
    exact hs0

theorem State.looseIn_frame {M : Nat} {s0 : State} {s : State} {port : ℕ} {f : DataFrame} (hM : Covers M 0x1f7e855d0dffb2) (hs0 : Frame M s0 s) :
    Frame M s0 (State.looseIn s port f) := by
  unfold State.looseIn
  extract_lets v1
  have h2 : Frame M s0 v1 := (State.smearBy_frame (hM.to rfl) hs0)
  clear_value v1
  split
  · rename_i w3 w4
    exact (fold_rule h2 fun x5 b6 h7 => (State.reqAt_frame (hM.to rfl) h7))
  · rename_i w8 w9
    exact (fold_rule h2 fun x10 b11 h12 => (State.rspAt_frame (hM.to rfl) h12))
  · rename_i w13 w14
    exact (fold_rule h2 fun x15 b16 h17 => (State.cohAt_frame (hM.to rfl) h17))
  · rename_i w18 w19
    exact (fold_rule h2 fun x20 b21 h22 => (State.reqAt_frame (hM.to rfl) h22))
  · rename_i w23 w24
    exact (State.bulkIn_frame (hM.to rfl) h2)
  · rename_i w25 w26 w27 w28 w29 w30
    exact (State.hitchIn_frame (hM.to rfl) h2)

theorem State.acceptLoose_frame {M : Nat} {s0 : State} {s : State} {n : ℕ} {f : DataFrame} (hM : Covers M 0x1f7e855d1dffb2) (hs0 : Frame M s0 s) :
    Frame M s0 (State.acceptLoose s n f) := by
  unfold State.acceptLoose
  extract_lets v1
  exact (ite_rule (State.badFrame_frame (hM.to rfl) hs0) (ite_rule (ite_rule (State.looseIn_frame (hM.to rfl) hs0) (State.stray_frame (hM.to rfl) hs0)) (ite_rule (State.passLoose_frame (hM.to rfl) hs0) (ite_rule (State.looseIn_frame (hM.to rfl) hs0) (State.stray_frame (hM.to rfl) hs0)))))

theorem State.takeFrame_frame {M : Nat} {s0 : State} {s : State} {n : ℕ} {f : DataFrame} (hM : Covers M 0x80) (hs0 : Frame M s0 s) :
    Frame M s0 (State.takeFrame s n f) := by
  unfold State.takeFrame
  extract_lets v1 v2
  exact (State.setLink_frame (hM.to rfl) hs0)

theorem State.opFrame_frame {M : Nat} {s0 : State} {n : ℕ} {f : DataFrame} {chk : UnitCheck} {s : State} (hM : Covers M 0x1ffe855d1ffff2) (hs3 : Frame M s0 s) :
    Frame M s0 (State.opFrame n f chk s) := by
  unfold State.opFrame
  extract_lets v1 v2 v3 v4 v5
  have h6 : Frame M s0 v4 := (State.takeFrame_frame (hM.to rfl) hs3)
  clear_value v4
  have h7 : Frame M s0 v5 := (State.cnt_frame (hM.to rfl) h6)
  clear_value v5
  exact (ite_rule (State.beginRetry_frame (hM.to rfl) (State.fecBad_frame (hM.to rfl) hs3)) (ite_rule (State.beginRetry_frame (hM.to rfl) hs3) (ite_rule (State.setLink_frame (hM.to rfl) hs3) (ite_rule (State.beginRetry_frame (hM.to rfl) hs3) (ite_rule (State.beginRetry_frame (hM.to rfl) (State.err_frame (hM.to rfl) (State.inc_frame hs3 (hM.fam .lpt rfl) rfl) (hM.fam .lpt rfl))) (ite_rule (State.badFrame_frame (hM.to rfl) h6) (ite_rule (State.acceptLoose_frame (hM.to rfl) h7) (ite_rule (State.acceptPost_frame (hM.to rfl) h7) (State.acceptMount_frame (hM.to rfl) h7)))))))))

theorem execDataFrameReceive_frame {M : Nat} {s0 : State} {port : ℕ} {f : DataFrame} {chk : UnitCheck} {s : State} (hM : Covers M 0x1ffe855d1ffff2) (hs3 : Frame M s0 s) :
    NextP (Frame M s0) (execDataFrameReceive port f chk s) := by
  unfold execDataFrameReceive
  exact (guarded_frame hs3 (fun x1 h2 => (State.opFrame_frame (hM.to rfl) h2)))

end Sys2Proof.Machine
end

