-- ==== Sys2Proof/Laws/FrameFront.lean ====
section
/-! SUPPORT. What each operation and each meaning of Machine/Front.lean can change: it keeps the frame `Frame M s0` for every set `M` that
has the parts it names, given that its arguments keep it. -/

namespace Sys2Proof.Machine

theorem State.createQueue_frame {M : Nat} {s0 : State} {s : State} {q : ℕ} {p2 : Queue} (hM : Covers M 0x800) (hs0 : Frame M s0 s) :
    Frame M s0 (State.createQueue s q p2) := by
  unfold State.createQueue
  exact (State.setQueue_frame (hM.to rfl) hs0)

theorem State.kernelQueue_frame {M : Nat} {s0 : State} {s : State} {fn : ℕ} (hM : Covers M 0x800) (hs0 : Frame M s0 s) :
    Frame M s0 (State.kernelQueue s fn) := by
  unfold State.kernelQueue
  extract_lets v1 v2 v3 v4 v5
  exact (ite_rule hs0 (State.createQueue_frame (hM.to rfl) hs0))

theorem State.unbindRing_frame {M : Nat} {s0 : State} {s : State} {r : ℕ} (hM : Covers M 0x10000000000800) (hs0 : Frame M s0 s) :
    Frame M s0 (State.unbindRing s r) := by
  unfold State.unbindRing
  split
  · rename_i w1 w2
    exact hs0
  · rename_i w3 w4 w5
    exact (State.useAdd_frame (hM.to rfl) (Frame.upd_front (hM.to rfl) hs0) rfl)

theorem State.retireQueue_frame {M : Nat} {s0 : State} {s : State} {q : ℕ} (hM : Covers M 0x102855d00cbb2) (hs0 : Frame M s0 s) :
    Frame M s0 (State.retireQueue s q) := by
  unfold State.retireQueue
  extract_lets v1 v2 v3
  have h4 : Frame M s0 v2 := (State.setQueue_frame (hM.to rfl) hs0)
  clear_value v2
  have h5 : Frame M s0 v3 := (ite_rule h4 (State.ctxCount_frame (hM.to rfl) h4))
  clear_value v3
  refine (ite_rule hs0 ?_)
  split
  · rename_i w6 w7 w8
    exact (State.finish_frame (hM.to rfl) h5)
  · rename_i w9 w10
    exact h5

theorem State.dropReads_frame {M : Nat} {s0 : State} {s : State} {use : ℕ} {key : ℕ} (hM : Covers M 0x400) (hs0 : Frame M s0 s) :
    Frame M s0 (State.dropReads s use key) := by
  unfold State.dropReads
  exact (Frame.upd_host (hM.to rfl) hs0)

theorem State.endFetch_frame {M : Nat} {s0 : State} {s : State} {q : ℕ} (hM : Covers M 0xc00) (hs0 : Frame M s0 s) :
    Frame M s0 (State.endFetch s q) := by
  unfold State.endFetch
  extract_lets v1 v2 v3
  have h4 : Frame M s0 v1 := (State.dropReads_frame (hM.to rfl) hs0)
  clear_value v1
  exact (Frame.upd_host_front (hM.to rfl) h4)

theorem State.addWaiter_frame {M : Nat} {s0 : State} {s : State} {w : Waiter} (hM : Covers M 0x800) (hs0 : Frame M s0 s) :
    Frame M s0 (State.addWaiter s w) := by
  unfold State.addWaiter
  exact (Frame.upd_front (hM.to rfl) hs0)

theorem State.testWait_frame {M : Nat} {s0 : State} {s : State} {p : ℕ} {p2 : Pkt} (hM : Covers M 0x102855d00dbb2) (hs0 : Frame M s0 s) :
    Frame M s0 (State.testWait s p p2) := by
  unfold State.testWait
  extract_lets v1 v2 v3
  split
  · rename_i w4 w5 w6
    exact (State.finish_frame (hM.to rfl) hs0)
  · rename_i w7 w8
    exact (ite_rule (State.finish_frame (hM.to rfl) (ite_rule (State.fencePut_frame (hM.to rfl) hs0) hs0)) (State.addWaiter_frame (hM.to rfl) hs0))

theorem State.giveSlot_frame {M : Nat} {s0 : State} {s : State} {v : ℕ} (hM : Covers M 0x902855d00dbb2) (hs0 : Frame M s0 s) :
    Frame M s0 (State.giveSlot s v) := by
  unfold State.giveSlot
  split
  · rename_i w1 w2
    exact hs0
  · rename_i w3 w4 w5 w6
    extract_lets v7 v8 v9 v10
    have h11 : Frame M s0 v8 := (Frame.upd_front (hM.to rfl) hs0)
    clear_value v8
    have h12 : Frame M s0 v9 := by
      unfold v9
      split
      · rename_i w13 w14 w15
        exact (ite_rule h11 (ite_rule (State.testWait_frame (hM.to rfl) h11) (State.testWait_frame (hM.to rfl) (State.fillFence_frame (hM.to rfl) (State.evictFence_frame (hM.to rfl) h11)))))
      · rename_i w16 w17
        exact h11
    clear_value v9
    have h18 : Frame M s0 v10 := (State.haClear_frame (hM.to rfl) (State.showNr_frame (hM.to rfl) h12))
    clear_value v10
    exact (ite_rule h18 (State.haPost_frame (hM.to rfl) h18))

theorem State.opEvict_frame {M : Nat} {s0 : State} {f : ℕ} {s : State} (hM : Covers M 0x902855d00dbb2) (hs1 : Frame M s0 s) :
    Frame M s0 (State.opEvict f s) := by
  unfold State.opEvict
  exact (ite_rule (State.giveSlot_frame (hM.to rfl) hs1) hs1)

theorem execFnsEvict_frame {M : Nat} {s0 : State} {p : Party} {f : ℕ} {s : State} (hM : Covers M 0x902855d00dbba) (hs2 : Frame M s0 s) :
    NextP (Frame M s0) (execFnsEvict p f s) := by
  unfold execFnsEvict
  exact (State.action_frame (hM.to rfl) hs2 (hM.fam .fns rfl) (fun x1 h2 => (State.assisted_frame (hM.to rfl) h2 (fun x3 h4 => (State.opEvict_frame (hM.to rfl) h4)))))

theorem execRingUnbind_frame {M : Nat} {s0 : State} {p : Party} {ring : ℕ} {s : State} (hM : Covers M 0x1200800c000a08) (hs2 : Frame M s0 s) :
    NextP (Frame M s0) (execRingUnbind p ring s) := by
  unfold execRingUnbind
  exact (State.action_frame (hM.to rfl) hs2 (hM.fam .fe rfl) (fun x1 h2 => (State.unbindRing_frame (hM.to rfl) h2)))

theorem State.opKq_frame {M : Nat} {s0 : State} {fn : ℕ} {v : W32} {s : State} (hM : Covers M 0x1fffffec000a00) (hs2 : Frame M s0 s) :
    Frame M s0 (State.opKq fn v s) := by
  unfold State.opKq
  extract_lets v1 v2
  have h3 : Frame M s0 v2 := (ite_rule (State.err_frame (hM.to rfl) (State.setReg_any (hM.to rfl) hs2) (.page (hM.to rfl) _)) (State.setReg_any (hM.to rfl) hs2))
  clear_value v2
  exact (ite_rule (State.kernelQueue_frame (hM.to rfl) h3) h3)

theorem execKqEnable_frame {M : Nat} {s0 : State} {p : Party} {fn : ℕ} {v : W32} {s : State} (hM : Covers M 0x1fffffec000a08) (hs3 : Frame M s0 s) :
    NextP (Frame M s0) (execKqEnable p fn v s) := by
  unfold execKqEnable
  exact (State.action_frame (hM.to rfl) hs3 (.page (hM.to rfl) _) (fun x1 h2 => (State.unlocked_frame (hM.to rfl) h2 (.page (hM.to rfl) _) (fun x3 h4 => (State.opKq_frame (hM.to rfl) h4)))))

theorem State.setSeq_frame {M : Nat} {s0 : State} {s : State} {k : ℕ} {p2 : Seq} (hM : Covers M 0x800) (hs0 : Frame M s0 s) :
    Frame M s0 (State.setSeq s k p2) := by
  unfold State.setSeq
  exact (Frame.upd_front (hM.to rfl) hs0)

theorem State.dispatch_frame {M : Nat} {s0 : State} {s : State} {p : ℕ} {p2 : Pkt} {ks : List ℕ} (hM : Covers M 0xd000800) (hs0 : Frame M s0 s) :
    Frame M s0 (State.dispatch s p p2 ks) := by
  unfold State.dispatch
  extract_lets v1 v2 v3 v4 v5 v6 v7 v8 v9 v10 v11
  have h12 : Frame M s0 v4 := (State.cnt_frame (hM.to rfl) hs0)
  clear_value v4
  have h13 : Frame M s0 v5 := (fold_rule h12 fun x14 b15 h16 => (State.setSeq_frame (hM.to rfl) h16))
  clear_value v5
  have h17 : Frame M s0 v6 := (State.emits_frame (hM.to rfl) h13)
  clear_value v6
  have h18 : Frame M s0 v9 := (Frame.upd_front (hM.to rfl) h17)
  clear_value v9
  have h19 : Frame M s0 v10 := (State.setPkt_frame (hM.to rfl) h18)
  clear_value v10
  exact (ite_rule (State.setQueue_frame (hM.to rfl) h19) h19)

theorem State.dbStray_frame {M : Nat} {s0 : State} {s : State} (hM : Covers M 0x2000000000000) (hs0 : Frame M s0 s) :
    Frame M s0 (State.dbStray s) := by
  unfold State.dbStray
  exact (State.inc_frame hs0 (hM.fam .fe rfl) rfl)

theorem State.doorbell_frame {M : Nat} {s0 : State} {s : State} {q : ℕ} {v : ℕ} (hM : Covers M 0x200800c000a20) (hs0 : Frame M s0 s) :
    Frame M s0 (State.doorbell s q v) := by
  unfold State.doorbell
  extract_lets v1 v2
  have h3 : Frame M s0 v2 := (State.wakeSlots_frame (hM.to rfl) hs0)
  clear_value v2
  exact (ite_rule (State.dbStray_frame (hM.to rfl) hs0) (ite_rule hs0 (ite_rule (State.err_frame (hM.to rfl) (State.inc_frame hs0 (hM.fam .fe rfl) rfl) (hM.fam .fe rfl)) (State.setQueue_frame (hM.to rfl) h3))))

theorem State.dbAccess_frame {M : Nat} {s0 : State} {s : State} {p : Party} {page : ℕ} {off : ℕ} {size : ℕ} {v : W32} (hM : Covers M 0x200800c000a20) (hs0 : Frame M s0 s) :
    Frame M s0 (State.dbAccess s p page off size v) := by
  unfold State.dbAccess
  split
  · rename_i w1 w2
    exact (State.dbStray_frame (hM.to rfl) hs0)
  · rename_i w3 w4 w5
    exact (ite_rule (State.doorbell_frame (hM.to rfl) hs0) (ite_rule hs0 (State.dbStray_frame (hM.to rfl) hs0)))

theorem State.opDoorbell_frame {M : Nat} {s0 : State} {p : Party} {page : ℕ} {off : ℕ} {size : ℕ} {v : W32} {s : State} (hM : Covers M 0x1200800c000a20) (hs5 : Frame M s0 s) :
    Frame M s0 (State.opDoorbell p page off size v s) := by
  unfold State.opDoorbell
  split
  · rename_i w1 w2
    split
    · rename_i w3 w4
      exact (State.dbAccess_frame (hM.to rfl) hs5)
    · rename_i w5 w6
      exact hs5
    · rename_i w7 w8
      exact hs5
    · rename_i w9 w10 w11 w12
      exact (State.err_frame (hM.to rfl) (State.inc_frame hs5 (hM.fam .vf rfl) rfl) (hM.fam .vf rfl))
  · rename_i w13 w14
    exact (State.dbAccess_frame (hM.to rfl) hs5)

theorem State.addPkt_frame {M : Nat} {s0 : State} {s : State} {p1 : Pkt} (hM : Covers M 0x800) (hs0 : Frame M s0 s) :
    Frame M s0 (State.addPkt s p1) := by
  unfold State.addPkt
  exact (Frame.upd_front (hM.to rfl) hs0)

theorem State.countWait_frame {M : Nat} {s0 : State} {s : State} {p : ℕ} {pg : Page} {f : Field} (hM : Covers M 0x800) (hs0 : Frame M s0 s) (hs2 : Covers M pg.fam.mask) (hs3 : f.inPage = true) :
    Frame M s0 (State.countWait s p pg f) := by
  unfold State.countWait
  split
  · rename_i w1 w2 w3
    exact (ite_rule hs0 (State.inc_frame (State.setPkt_frame (hM.to rfl) hs0) hs2 hs3))
  · rename_i w4 w5
    exact hs0

theorem State.pinGraph_frame {M : Nat} {s0 : State} {s : State} {p : ℕ} {p2 : Pkt} (hM : Covers M 0x502855d00cbb2) (hs0 : Frame M s0 s) :
    Frame M s0 (State.pinGraph s p p2) := by
  unfold State.pinGraph
  extract_lets v1 v2 v3 v4
  have h5 : Frame M s0 v4 := (State.putW_frame (hM.to rfl) (State.putW_frame (hM.to rfl) (State.inc_frame hs0 (hM.fam .ctxs rfl) rfl)))
  clear_value v4
  exact (State.modPkt_frame (hM.to rfl) h5)

theorem State.startPkt_frame {M : Nat} {s0 : State} {s : State} {p : ℕ} {p2 : Pkt} (hM : Covers M 0x1ffffffd00cbb2) (hs0 : Frame M s0 s) :
    Frame M s0 (State.startPkt s p p2) := by
  unfold State.startPkt
  extract_lets v1 v2 v3
  have h4 : Frame M s0 v2 := (Frame.upd_front (hM.to rfl) hs0)
  clear_value v2
  have h5 : Frame M s0 v3 := (State.setPkt_frame (hM.to rfl) h4)
  clear_value v3
  split
  · rename_i w6 w7 w8 w9
    extract_lets v10
    have h11 : Frame M s0 v10 := by
      unfold v10
      split
      · rename_i w12 w13
        exact (State.err_frame (hM.to rfl) h5 (.page (hM.to rfl) _))
      · rename_i w14
        exact h5
    clear_value v10
    exact (State.finish_frame (hM.to rfl) (State.inc_frame (State.modPkt_frame (hM.to rfl) h11) (hM.fam .fe rfl) rfl))
  · rename_i w15 w16
    split
    · rename_i w17 w18 w19
      exact (State.finish_frame (hM.to rfl) h5)
    · rename_i w20 w21
      exact (ite_rule (State.pinGraph_frame (hM.to rfl) h5) h5)

theorem State.opStart_frame {M : Nat} {s0 : State} {p : ℕ} {s : State} (hM : Covers M 0x1ffffffd00dbb2) (hs1 : Frame M s0 s) :
    Frame M s0 (State.opStart p s) := by
  unfold State.opStart
  split
  · rename_i w1 w2
    exact hs1
  · rename_i w3 w4 w5
    extract_lets v6
    refine (ite_rule hs1 (ite_rule (ite_rule (State.startPkt_frame (hM.to rfl) hs1) hs1) (ite_rule (State.countWait_frame (hM.to rfl) hs1 (hM.fam .fns rfl) rfl) (ite_rule (State.startPkt_frame (hM.to rfl) hs1) ?_))))
    split
    · rename_i w7 w8
      exact (State.countWait_frame (hM.to rfl) hs1 (hM.fam .ctxs rfl) rfl)
    · rename_i w9 w10 w11
      have h12 : Frame M s0 w10 := SomeP.out w11 (State.loadCtx_frame (hM.to rfl) hs1)
      exact (State.startPkt_frame (hM.to rfl) h12)

theorem State.quota_frame {M : Nat} {s0 : State} {s : State} {p : ℕ} {fn : ℕ} (hM : Covers M 0x1000800c000a00) (hs0 : Frame M s0 s) :
    Frame M s0 (State.quota s p fn) := by
  unfold State.quota
  exact (State.finish_frame (hM.to rfl) (State.err_frame (hM.to rfl) (State.inc_frame hs0 (hM.fam .vf rfl) rfl) (hM.fam .vf rfl)))

theorem State.bindQueue_frame {M : Nat} {s0 : State} {s : State} {p : ℕ} {p2 : Pkt} {q : ℕ} {mode : ℕ} (hM : Covers M 0x1000800c000a00) (hs0 : Frame M s0 s) :
    Frame M s0 (State.bindQueue s p p2 q mode) := by
  unfold State.bindQueue
  extract_lets v1 v2
  have h3 : Frame M s0 v2 := (ite_rule hs0 (State.useAdd_frame (hM.to rfl) hs0 rfl))
  clear_value v2
  exact (ite_rule (State.finish_frame (hM.to rfl) hs0) (ite_rule (State.quota_frame (hM.to rfl) hs0) (State.finish_frame (hM.to rfl) (State.setQueue_frame (hM.to rfl) h3))))

theorem State.bindRing_frame {M : Nat} {s0 : State} {s : State} {p : ℕ} {p2 : Pkt} {r : ℕ} (hM : Covers M 0x1000800c000a00) (hs0 : Frame M s0 s) :
    Frame M s0 (State.bindRing s p p2 r) := by
  unfold State.bindRing
  extract_lets v1 v2 v3
  have h4 : Frame M s0 v3 := (Frame.upd_front (hM.to rfl) hs0)
  clear_value v3
  split
  · rename_i w5 w6 w7
    exact (ite_rule (State.finish_frame (hM.to rfl) hs0) (State.finish_frame (hM.to rfl) hs0))
  · rename_i w8 w9
    exact (ite_rule (State.quota_frame (hM.to rfl) hs0) (State.finish_frame (hM.to rfl) (State.useAdd_frame (hM.to rfl) h4 rfl)))

theorem State.opGaitBind_frame {M : Nat} {s0 : State} {p : ℕ} {p1 : Pkt} {s : State} (hM : Covers M 0x1000800c000a00) (hs2 : Frame M s0 s) :
    Frame M s0 (State.opGaitBind p p1 s) := by
  unfold State.opGaitBind
  exact (ite_rule (State.bindRing_frame (hM.to rfl) hs2) (State.bindQueue_frame (hM.to rfl) hs2))

theorem execGaitBind_frame {M : Nat} {s0 : State} {p : ℕ} {s : State} (hM : Covers M 0x1000800c004a00) (hs1 : Frame M s0 s) :
    NextP (Frame M s0) (execGaitBind p s) := by
  unfold execGaitBind
  exact (State.perform_frame (hM.to rfl) hs1 (fun x1 x2 h3 => (State.opGaitBind_frame (hM.to rfl) h3)))

theorem State.statusWord_frame {M : Nat} {s0 : State} {s : State} {q : ℕ} {i : ℕ} {status : ℕ} {flags : ℕ} {detail : ℕ} (hM : Covers M 0xd000000) (hs0 : Frame M s0 s) :
    Frame M s0 (State.statusWord s q i status flags detail) := by
  unfold State.statusWord
  extract_lets v1
  exact (ite_rule hs0 (State.hostWrite_frame (hM.to rfl) hs0))

theorem State.countPkt_frame {M : Nat} {s0 : State} {s : State} (hM : Covers M 0x2000001000000) (hs0 : Frame M s0 s) :
    Frame M s0 (State.countPkt s) := by
  unfold State.countPkt
  exact (State.cnt_frame (hM.to rfl) (State.wrPair_frame hs0 (hM.fam .fe rfl) rfl rfl))

theorem State.refusePkt_frame {M : Nat} {s0 : State} {s : State} {q : ℕ} {status : ℕ} (hM : Covers M 0x200800d000a00) (hs0 : Frame M s0 s) :
    Frame M s0 (State.refusePkt s q status) := by
  unfold State.refusePkt
  extract_lets v1
  exact (State.countPkt_frame (hM.to rfl) (State.stopQueue_frame (hM.to rfl) (State.statusWord_frame (hM.to rfl) (State.inc_frame hs0 (hM.fam .fe rfl) rfl))))

theorem State.storePkt_frame {M : Nat} {s0 : State} {s : State} {q : ℕ} {l : List Byte} (hM : Covers M 0xd000800) (hs0 : Frame M s0 s) :
    Frame M s0 (State.storePkt s q l) := by
  unfold State.storePkt
  extract_lets v1 v2 v3 v4
  have h5 : Frame M s0 v4 := (State.setQueue_frame (hM.to rfl) (State.addPkt_frame (hM.to rfl) hs0))
  clear_value v4
  exact (ite_rule (State.hostWrite_frame (hM.to rfl) h5) h5)

theorem State.opFetched_frame {M : Nat} {s0 : State} {q : ℕ} {ok : Bool} {l : List Byte} {s : State} (hM : Covers M 0x200800d000e00) (hs3 : Frame M s0 s) :
    Frame M s0 (State.opFetched q ok l s) := by
  unfold State.opFetched
  refine (ite_rule hs3 ?_)
  extract_lets v1 v2 v3
  have h4 : Frame M s0 v1 := (State.endFetch_frame (hM.to rfl) hs3)
  clear_value v1
  exact (ite_rule h4 (ite_rule (State.storePkt_frame (hM.to rfl) h4) (State.refusePkt_frame (hM.to rfl) h4)))

theorem execFetchComplete_frame {M : Nat} {s0 : State} {q : ℕ} {ok : Bool} {l : List Byte} {s : State} (hM : Covers M 0x200800d000e00) (hs3 : Frame M s0 s) :
    NextP (Frame M s0) (execFetchComplete q ok l s) := by
  unfold execFetchComplete
  exact (guarded_frame hs3 (fun x1 h2 => (State.opFetched_frame (hM.to rfl) h2)))

theorem State.opSignal_frame {M : Nat} {s0 : State} {p : ℕ} {p1 : Pkt} {s : State} (hM : Covers M 0x1f26855d01fbb2) (hs2 : Frame M s0 s) :
    Frame M s0 (State.opSignal p p1 s) := by
  unfold State.opSignal
  extract_lets v1 v2 v3
  have h4 : Frame M s0 v3 := (ite_rule (State.applyFence_frame (hM.to rfl) hs2) (State.applySignal_frame (hM.to rfl) hs2))
  clear_value v3
  exact (State.finish_frame (hM.to rfl) h4)

theorem execSignal_frame {M : Nat} {s0 : State} {p : ℕ} {s : State} (hM : Covers M 0x1f26855d01fbb2) (hs1 : Frame M s0 s) :
    NextP (Frame M s0) (execSignal p s) := by
  unfold execSignal
  exact (State.perform_frame (hM.to rfl) hs1 (fun x1 x2 h3 => (State.opSignal_frame (hM.to rfl) h3)))

theorem State.opGraphRun_frame {M : Nat} {s0 : State} {p : ℕ} {p1 : Pkt} {s : State} (hM : Covers M 0x102855d004bb2) (hs2 : Frame M s0 s) :
    Frame M s0 (State.opGraphRun p p1 s) := by
  unfold State.opGraphRun
  extract_lets v1 v2 v3 v4 v5 v6
  have h7 : SndP (SndP (Frame M s0)) v4 := (State.readPhys_frame (hM.to rfl) hs2)
  clear_value v4
  have h8 : Frame M s0 v5 := h7
  exact (ite_rule (State.finish_frame (hM.to rfl) h8) (fold_rule h8 fun x9 b10 h11 => (State.addPkt_frame (hM.to rfl) h11)))

theorem State.graphPart_frame {M : Nat} {s0 : State} {s : State} {g : ℕ} {pos : ℕ} {status : ℕ} (hM : Covers M 0x800) (hs0 : Frame M s0 s) :
    Frame M s0 (State.graphPart s g pos status) := by
  unfold State.graphPart
  split
  · rename_i w1 w2
    exact hs0
  · rename_i w3 w4 w5
    extract_lets v6 v7 v8
    have h9 : Frame M s0 v8 := (State.setPkt_frame (hM.to rfl) hs0)
    clear_value v8
    exact (ite_rule h9 (State.finish_frame (hM.to rfl) h9))

theorem State.unpin_frame {M : Nat} {s0 : State} {s : State} {h : ℕ} {v : ℕ} (hM : Covers M 0x1502855d00d3b2) (hs0 : Frame M s0 s) :
    Frame M s0 (State.unpin s h v) := by
  unfold State.unpin
  extract_lets v1
  exact (State.dropRef_frame (hM.to rfl) (State.putW_frame (hM.to rfl) hs0))

theorem State.advanceCpl_frame {M : Nat} {s0 : State} {s : State} {p1 : Pkt} {status : ℕ} (hM : Covers M 0x1d02855d00dbb2) (hs0 : Frame M s0 s) :
    Frame M s0 (State.advanceCpl s p1 status) := by
  unfold State.advanceCpl
  extract_lets v1
  exact (ite_rule (State.applyFence_frame (hM.to rfl) hs0) hs0)

theorem State.opComplete_frame {M : Nat} {s0 : State} {p : ℕ} {s : State} (hM : Covers M 0x1f02855d00dfb2) (hs1 : Frame M s0 s) :
    Frame M s0 (State.opComplete p s) := by
  unfold State.opComplete
  split
  · rename_i w1 w2
    exact hs1
  · rename_i w3 w4 w5
    split
    · rename_i w6 w7
      exact hs1
    · rename_i w8 w9 w10
      extract_lets v11 v12 v13 v14 v15 v16 v17 v18 v19 v20
      have h21 : Frame M s0 v13 := (ite_rule hs1 (State.statusWord_frame (hM.to rfl) hs1))
      clear_value v13
      have h22 : Frame M s0 v14 := (State.advanceCpl_frame (hM.to rfl) h21)
      clear_value v14
      have h23 : Frame M s0 v15 := (ite_rule (State.emit_frame (hM.to rfl) h22) h22)
      clear_value v15
      have h24 : Frame M s0 v16 := (State.countPkt_frame (hM.to rfl) (State.dropReads_frame (hM.to rfl) h23))
      clear_value v16
      have h25 : Frame M s0 v18 := (Frame.upd_front (hM.to rfl) h24)
      clear_value v18
      have h26 : Frame M s0 v19 := by
        unfold v19
        split
        · rename_i w27 w28 w29
          exact (State.unpin_frame (hM.to rfl) h25)
        · rename_i w30 w31
          exact h25
      clear_value v19
      have h32 : Frame M s0 v20 := by
        unfold v20
        split
        · rename_i w33 w34 w35
          exact (State.graphPart_frame (hM.to rfl) h26)
        · rename_i w36 w37
          exact h26
      clear_value v20
      exact (ite_rule hs1 (State.retireQueue_frame (hM.to rfl) h32))

theorem State.opDispatch_frame {M : Nat} {s0 : State} {p : ℕ} {s : State} (hM : Covers M 0xd000800) (hs1 : Frame M s0 s) :
    Frame M s0 (State.opDispatch p s) := by
  unfold State.opDispatch
  split
  · rename_i w1 w2
    exact hs1
  · rename_i w3 w4 w5
    refine (ite_rule hs1 (ite_rule (State.finish_frame (hM.to rfl) hs1) ?_))
    split
    · rename_i w6 w7
      exact hs1
    · rename_i w8 w9 w10
      exact (State.dispatch_frame (hM.to rfl) hs1)

theorem execLaunchDispatch_frame {M : Nat} {s0 : State} {p : ℕ} {s : State} (hM : Covers M 0xd000800) (hs1 : Frame M s0 s) :
    NextP (Frame M s0) (execLaunchDispatch p s) := by
  unfold execLaunchDispatch
  exact (guarded_frame hs1 (fun x1 h2 => (State.opDispatch_frame (hM.to rfl) h2)))

theorem State.opTaskMsg_frame {M : Nat} {s0 : State} {p : ℕ} {p1 : Pkt} {s : State} (hM : Covers M 0xc000800) (hs2 : Frame M s0 s) :
    Frame M s0 (State.opTaskMsg p p1 s) := by
  unfold State.opTaskMsg
  split
  · rename_i w1 w2
    exact hs2
  · rename_i w3 w4 w5 w6
    extract_lets v7 v8 v9
    have h10 : Frame M s0 v9 := (Frame.upd_front (hM.to rfl) hs2)
    clear_value v9
    exact (State.emits_frame (hM.to rfl) (State.setPkt_frame (hM.to rfl) h10))

theorem State.opTaskMsgAt_frame {M : Nat} {s0 : State} {p : ℕ} {s : State} (hM : Covers M 0xc000800) (hs1 : Frame M s0 s) :
    Frame M s0 (State.opTaskMsgAt p s) := by
  unfold State.opTaskMsgAt
  split
  · rename_i w1 w2 w3
    exact (ite_rule (State.opTaskMsg_frame (hM.to rfl) hs1) hs1)
  · rename_i w4 w5
    exact hs1

theorem State.opPersist_frame {M : Nat} {s0 : State} {p : ℕ} {p1 : Pkt} {s : State} (hM : Covers M 0x800) (hs2 : Frame M s0 s) :
    Frame M s0 (State.opPersist p p1 s) := by
  unfold State.opPersist
  exact (ite_rule hs2 (State.finish_frame (hM.to rfl) hs2))

theorem execPersist_frame {M : Nat} {s0 : State} {p : ℕ} {s : State} (hM : Covers M 0x4800) (hs1 : Frame M s0 s) :
    NextP (Frame M s0) (execPersist p s) := by
  unfold execPersist
  exact (State.perform_frame (hM.to rfl) hs1 (fun x1 x2 h3 => (State.opPersist_frame (hM.to rfl) h3)))

theorem execNop_frame {M : Nat} {s0 : State} {p : ℕ} {s : State} (hM : Covers M 0x4800) (hs1 : Frame M s0 s) :
    NextP (Frame M s0) (execNop p s) := by
  unfold execNop
  exact (State.perform_frame (hM.to rfl) hs1 (fun x1 x2 h3 => (State.finish_frame (hM.to rfl) h3)))

theorem State.opWait_frame {M : Nat} {s0 : State} {p : ℕ} {p1 : Pkt} {s : State} (hM : Covers M 0x902855d00dbb2) (hs2 : Frame M s0 s) :
    Frame M s0 (State.opWait p p1 s) := by
  unfold State.opWait
  extract_lets v1 v2 v3 v4
  have h5 : Frame M s0 v4 := (State.showNr_frame (hM.to rfl) (Frame.upd_front (hM.to rfl) hs2))
  clear_value v4
  refine (ite_rule (State.testWait_frame (hM.to rfl) (State.useFence_frame (hM.to rfl) hs2)) (ite_rule (State.testWait_frame (hM.to rfl) (State.fillFence_frame (hM.to rfl) hs2)) (ite_rule (ite_rule (State.haPost_frame (hM.to rfl) h5) h5) ?_)))
  split
  · rename_i w6 w7 w8
    exact (State.testWait_frame (hM.to rfl) (State.fillFence_frame (hM.to rfl) (State.evictFence_frame (hM.to rfl) hs2)))
  · rename_i w9 w10
    exact (State.setPkt_frame (hM.to rfl) hs2)

theorem execTake_frame {M : Nat} {s0 : State} {p : ℕ} {s : State} (hM : Covers M 0x902855d00dbb2) (hs1 : Frame M s0 s) :
    NextP (Frame M s0) (execTake p s) := by
  unfold execTake
  exact (State.perform_frame (hM.to rfl) hs1 (fun x1 x2 h3 => (State.opWait_frame (hM.to rfl) h3)))

theorem execGraphRun_frame {M : Nat} {s0 : State} {p : ℕ} {s : State} (hM : Covers M 0x102855d004bb2) (hs1 : Frame M s0 s) :
    NextP (Frame M s0) (execGraphRun p s) := by
  unfold execGraphRun
  exact (State.perform_frame (hM.to rfl) hs1 (fun x1 x2 h3 => (State.opGraphRun_frame (hM.to rfl) h3)))

theorem execPacketComplete_frame {M : Nat} {s0 : State} {p : ℕ} {s : State} (hM : Covers M 0x1f02855d00dfb2) (hs1 : Frame M s0 s) :
    NextP (Frame M s0) (execPacketComplete p s) := by
  unfold execPacketComplete
  exact (guarded_frame hs1 (fun x1 h2 => (State.orWait_frame (hM.to rfl) h2 (fun x3 h4 => (State.opComplete_frame (hM.to rfl) h4)))))

theorem State.fetchFor_frame {M : Nat} {s0 : State} {s : State} {q : ℕ} (hM : Covers M 0xc000c00) (hs0 : Frame M s0 s) :
    Frame M s0 (State.fetchFor s q) := by
  unfold State.fetchFor
  extract_lets v1 v2 v3 v4
  have h5 : Frame M s0 v3 := (fold_rule hs0 fun x6 b7 h8 => (State.hostRead_frame (hM.to rfl) h8))
  clear_value v3
  exact (Frame.upd_front (hM.to rfl) h5)

theorem State.opFetch_frame {M : Nat} {s0 : State} {slice : ℕ} {s : State} (hM : Covers M 0xc000c00) (hs1 : Frame M s0 s) :
    Frame M s0 (State.opFetch slice s) := by
  unfold State.opFetch
  split
  · rename_i w1 w2
    exact hs1
  · rename_i w3 w4 w5
    exact (State.fetchFor_frame (hM.to rfl) hs1)

theorem execDoorbellWrite_frame {M : Nat} {s0 : State} {p : Party} {page : ℕ} {off : ℕ} {size : ℕ} {v : W32} {s : State} (hM : Covers M 0x1200800c000a20) (hs5 : Frame M s0 s) :
    NextP (Frame M s0) (execDoorbellWrite p page off size v s) := by
  unfold execDoorbellWrite
  exact (guarded_frame hs5 (fun x1 h2 => (State.opDoorbell_frame (hM.to rfl) h2)))

theorem execWait_frame {M : Nat} {s0 : State} {p : ℕ} {s : State} (hM : Covers M 0x902855d00dbb2) (hs1 : Frame M s0 s) :
    NextP (Frame M s0) (execWait p s) := by
  unfold execWait
  exact (State.perform_frame (hM.to rfl) hs1 (fun x1 x2 h3 => (State.opWait_frame (hM.to rfl) h3)))

theorem execTaskMsg_frame {M : Nat} {s0 : State} {p : ℕ} {s : State} (hM : Covers M 0xc000800) (hs1 : Frame M s0 s) :
    NextP (Frame M s0) (execTaskMsg p s) := by
  unfold execTaskMsg
  exact (NextP.next (State.opTaskMsgAt_frame (hM.to rfl) hs1))

theorem execLaunch_frame {M : Nat} {s0 : State} {p : ℕ} {s : State} (hM : Covers M 0x4800) (hs1 : Frame M s0 s) :
    NextP (Frame M s0) (execLaunch p s) := by
  unfold execLaunch
  exact (State.perform_frame (hM.to rfl) hs1 (fun x1 x2 h3 => h3))

theorem execPacketStart_frame {M : Nat} {s0 : State} {p : ℕ} {s : State} (hM : Covers M 0x1ffffffd00dbb2) (hs1 : Frame M s0 s) :
    NextP (Frame M s0) (execPacketStart p s) := by
  unfold execPacketStart
  exact (guarded_frame hs1 (fun x1 h2 => (State.orWait_frame (hM.to rfl) h2 (fun x3 h4 => (State.opStart_frame (hM.to rfl) h4)))))

theorem State.opWaitTimeout_frame {M : Nat} {s0 : State} {p : ℕ} {s : State} (hM : Covers M 0x1d02855d00dbb2) (hs1 : Frame M s0 s) :
    Frame M s0 (State.opWaitTimeout p s) := by
  unfold State.opWaitTimeout
  split
  · rename_i w1 w2
    exact hs1
  · rename_i w3 w4 w5
    exact (ite_rule (State.testFence_frame (hM.to rfl) (State.dropSlotWait_frame (hM.to rfl) (State.dropWaiters_frame (hM.to rfl) (State.finish_frame (hM.to rfl) hs1)))) hs1)

theorem execWaitTimeout_frame {M : Nat} {s0 : State} {p : ℕ} {s : State} (hM : Covers M 0x1d02855d00dbb2) (hs1 : Frame M s0 s) :
    NextP (Frame M s0) (execWaitTimeout p s) := by
  unfold execWaitTimeout
  exact (guarded_frame hs1 (fun x1 h2 => (State.opWaitTimeout_frame (hM.to rfl) h2)))

theorem execPacketFetch_frame {M : Nat} {s0 : State} {slice : ℕ} {s : State} (hM : Covers M 0xc000c00) (hs1 : Frame M s0 s) :
    NextP (Frame M s0) (execPacketFetch slice s) := by
  unfold execPacketFetch
  exact (guarded_frame hs1 (fun x1 h2 => (State.opFetch_frame (hM.to rfl) h2)))

end Sys2Proof.Machine
end

