-- ==== Sys2Proof/Laws/FrameMover.lean ====
section
/-! SUPPORT. What each operation and each meaning of Machine/Mover.lean can change: it keeps the frame `Frame M s0` for every set `M` that
has the parts it names, given that its arguments keep it. -/

namespace Sys2Proof.Machine

theorem State.moverLocal_frame {M : Nat} {s0 : State} {a : ℕ} {p1 : ℕ} {p2 : Pkt} {p3 : ℕ} {p4 : ℕ} {p5 : Bool} {p6 : State} (hM : Covers M 0x1f26855d01fbb2) (hs6 : Frame M s0 p6) :
    Frame M s0 (State.moverLocal a p1 p2 p3 p4 p5 p6) := by
  induction a generalizing p1 p2 p3 p4 p5 p6
  · unfold State.moverLocal
    exact (State.moverEnd_frame (hM.to rfl) hs6)
  · rename_i k ih
    unfold State.moverLocal
    extract_lets v1 v2 v3 v4
    have h5 : StP (Frame M s0) v3 := (State.readAs_frame (hM.to rfl) hs6)
    clear_value v3
    have h6 : SndP (Frame M s0) v4 := (State.moverWrite_frame (hM.to rfl) h5)
    clear_value v4
    exact (ite_rule (State.moverEnd_frame (hM.to rfl) hs6) (ite_rule (State.moverEnd_frame (hM.to rfl) h5) (ite_rule (State.moverEnd_frame (hM.to rfl) h6) (ih h6))))

theorem State.copyLines_frame {M : Nat} {s0 : State} {s : State} {p1 : Pkt} (hM : Covers M 0x1136855d08e3b2) (hs0 : Frame M s0 s) :
    SndP (Frame M s0) (State.copyLines s p1) := by
  unfold State.copyLines
  extract_lets v1 v2
  have h3 : ∀ y0 y1 y2, SndP (Frame M s0) y0 → SndP (Frame M s0) (v2 y0 y1 y2) := by
    refine (fun x4 x5 x6 h7 => ?_)
    unfold v2
    split
    · rename_i w8 w9 w10
      extract_lets v11
      have h12 : SndP (Frame M s0) v11 := (State.prepLines_frame (hM.to rfl) h7)
      clear_value v11
      exact h12
    · rename_i w13 w14
      exact h7
  clear_value v2
  exact (h3 _ _ _ (h3 _ _ _ hs0))

theorem State.opCopy_frame {M : Nat} {s0 : State} {p : ℕ} {p1 : Pkt} {s : State} (hM : Covers M 0x1f3e855d0dffb2) (hs2 : Frame M s0 s) :
    Frame M s0 (State.opCopy p p1 s) := by
  unfold State.opCopy
  extract_lets v1 v2 v3
  have h4 : SndP (Frame M s0) v2 := (State.copyLines_frame (hM.to rfl) hs2)
  clear_value v2
  have h5 : Frame M s0 v3 := h4
  refine (ite_rule (State.finish_frame (hM.to rfl) (ite_rule (State.badAddress_frame (hM.to rfl) hs2) hs2)) (ite_rule (State.setPkt_frame (hM.to rfl) hs2) (ite_rule (State.setPkt_frame (hM.to rfl) h5) (ite_rule (State.copyEnd_frame (hM.to rfl) (State.copyOps_frame (hM.to rfl) h5)) ?_))))
  split
  · rename_i w6 w7 w8
    exact (State.moverLocal_frame (hM.to rfl) h5)
  · rename_i w9 w10
    exact (State.moverAsk_frame (hM.to rfl) h5)

theorem execCopy_frame {M : Nat} {s0 : State} {p : ℕ} {s : State} (hM : Covers M 0x1f3e855d0dffb2) (hs1 : Frame M s0 s) :
    NextP (Frame M s0) (execCopy p s) := by
  unfold execCopy
  exact (ite_rule (P := (NextP (Frame M s0))) (NextP.next hs1) (State.perform_frame (hM.to rfl) hs1 (fun x1 x2 h3 => (State.opCopy_frame (hM.to rfl) h3))))

theorem State.opReduce_frame {M : Nat} {s0 : State} {p : ℕ} {p1 : Pkt} {s : State} (hM : Covers M 0x1fb6855d0bfbb2) (hs2 : Frame M s0 s) :
    Frame M s0 (State.opReduce p p1 s) := by
  unfold State.opReduce
  extract_lets v1 v2 v3 v4
  refine (ite_rule (State.finish_frame (hM.to rfl) (State.descFault_frame (hM.to rfl) hs2)) ?_)
  split
  · rename_i w5 w6
    exact (State.finish_frame (hM.to rfl) hs2)
  · rename_i w7 w8 w9
    refine (ite_rule (State.finish_frame (hM.to rfl) hs2) ?_)
    extract_lets v10 v11 v12
    have h13 : SndP (Frame M s0) v10 := (State.prepLines_frame (hM.to rfl) hs2)
    clear_value v10
    have h14 : StP (Frame M s0) v11 := (State.readAs_frame (hM.to rfl) h13)
    clear_value v11
    have h15 : FstP (Frame M s0) v12 := (State.redDeliver_frame (hM.to rfl) h14)
    clear_value v12
    exact (ite_rule (State.setPkt_frame (hM.to rfl) h13) (ite_rule (State.finish_frame (hM.to rfl) h14) (State.finish_frame (hM.to rfl) (State.addCtr_frame (hM.to rfl) h15))))

theorem execReduce_frame {M : Nat} {s0 : State} {p : ℕ} {s : State} (hM : Covers M 0x1fb6855d0bfbb2) (hs1 : Frame M s0 s) :
    NextP (Frame M s0) (execReduce p s) := by
  unfold execReduce
  exact (ite_rule (P := (NextP (Frame M s0))) (NextP.next hs1) (State.perform_frame (hM.to rfl) hs1 (fun x1 x2 h3 => (State.opReduce_frame (hM.to rfl) h3))))

end Sys2Proof.Machine
end

