-- ==== Sys2Proof/Laws/FrameObjOps.lean ====
section
/-! SUPPORT. What each operation and each meaning of Machine/ObjOps.lean can change: it keeps the frame `Frame M s0` for every set `M` that
has the parts it names, given that its arguments keep it. -/

namespace Sys2Proof.Machine

theorem State.drainPkt_frame {M : Nat} {s0 : State} {s : State} {e : ℕ × Pkt} (hM : Covers M 0x1d02855d00dbb2) (hs0 : Frame M s0 s) :
    Frame M s0 (State.drainPkt s e) := by
  unfold State.drainPkt
  extract_lets v1
  exact (ite_rule hs0 (ite_rule hs0 (State.cancelPkt_frame (hM.to rfl) hs0)))

theorem State.drainPkts_frame {M : Nat} {s0 : State} {s : State} {q : ℕ} (hM : Covers M 0x1d02855d00dbb2) (hs0 : Frame M s0 s) :
    Frame M s0 (State.drainPkts s q) := by
  unfold State.drainPkts
  exact (fold_rule hs0 fun x1 b2 h3 => (State.drainPkt_frame (hM.to rfl) h3))

theorem State.endBinding_frame {M : Nat} {s0 : State} {s : State} {q : ℕ} (hM : Covers M 0x10000000000800) (hs0 : Frame M s0 s) :
    Frame M s0 (State.endBinding s q) := by
  unfold State.endBinding
  extract_lets v1
  exact (ite_rule (State.useAdd_frame (hM.to rfl) (State.setQueue_frame (hM.to rfl) hs0) rfl) hs0)

theorem State.drainQueue_frame {M : Nat} {s0 : State} {s : State} {q : ℕ} {by_ : Option ℕ} (hM : Covers M 0x1d02855d00dfb2) (hs0 : Frame M s0 s) :
    Frame M s0 (State.drainQueue s q by_) := by
  unfold State.drainQueue
  extract_lets v1 v2 v3
  have h4 : Frame M s0 v1 := (State.endBinding_frame (hM.to rfl) (State.endFetch_frame (hM.to rfl) hs0))
  clear_value v1
  have h5 : Frame M s0 v3 := (State.setQueue_frame (hM.to rfl) h4)
  clear_value v3
  exact (State.retireQueue_frame (hM.to rfl) (State.drainPkts_frame (hM.to rfl) h5))

theorem State.opFnsRead_frame {M : Nat} {s0 : State} {s : State} (hM : Covers M 0x8000000000000) (hs0 : Frame M s0 s) :
    Frame M s0 (State.opFnsRead s) := by
  unfold State.opFnsRead
  extract_lets v1 v2 v3 v4 v5 v6 v7
  have h8 : Frame M s0 v4 := (State.wrPair_frame hs0 (hM.fam .fns rfl) rfl rfl)
  clear_value v4
  have h9 : Frame M s0 v5 := (State.wr_frame (State.wr_frame (State.wr_frame h8 (hM.fam .fns rfl) rfl) (hM.fam .fns rfl) rfl) (hM.fam .fns rfl) rfl)
  clear_value v5
  have h10 : Frame M s0 v6 := (State.wr_frame (State.wr_frame (State.wr_frame h9 (hM.fam .fns rfl) rfl) (hM.fam .fns rfl) rfl) (hM.fam .fns rfl) rfl)
  clear_value v6
  exact (State.wr_frame (State.wr_frame h10 (hM.fam .fns rfl) rfl) (hM.fam .fns rfl) rfl)

theorem execFnsRead_frame {M : Nat} {s0 : State} {p : Party} {s : State} (hM : Covers M 0x800800c000208) (hs1 : Frame M s0 s) :
    NextP (Frame M s0) (execFnsRead p s) := by
  unfold execFnsRead
  exact (State.action_frame (hM.to rfl) hs1 (hM.fam .fns rfl) (fun x1 h2 => (State.opFnsRead_frame (hM.to rfl) h2)))

theorem execCtxsTdDone_frame {M : Nat} {s0 : State} {p : Party} {s : State} (hM : Covers M 0x1502855d00d3ba) (hs1 : Frame M s0 s) :
    NextP (Frame M s0) (execCtxsTdDone p s) := by
  unfold execCtxsTdDone
  exact (State.action_frame (hM.to rfl) hs1 (hM.fam .ctxs rfl) (fun x1 h2 => (ite_rule (State.assisted_frame (hM.to rfl) h2 (fun x3 h4 => (State.completeTd_frame (hM.to rfl) h4))) h2)))

theorem State.opKick_frame {M : Nat} {s0 : State} {h : ℕ} {s : State} (hM : Covers M 0x1502855d00d3b2) (hs1 : Frame M s0 s) :
    Frame M s0 (State.opKick h s) := by
  unfold State.opKick
  extract_lets v1
  have h2 : Frame M s0 v1 := (State.inc_frame hs1 (hM.fam .ctxs rfl) rfl)
  clear_value v1
  exact (ite_rule (State.testObj_frame (hM.to rfl) h2) (State.err_frame (hM.to rfl) h2 (hM.fam .ctxs rfl)))

theorem execCtxsObjKick_frame {M : Nat} {s0 : State} {p : Party} {h : ℕ} {s : State} (hM : Covers M 0x1502855d00d3ba) (hs2 : Frame M s0 s) :
    NextP (Frame M s0) (execCtxsObjKick p h s) := by
  unfold execCtxsObjKick
  exact (State.action_frame (hM.to rfl) hs2 (hM.fam .ctxs rfl) (fun x1 h2 => (State.opKick_frame (hM.to rfl) h2)))

theorem State.opSnap_frame {M : Nat} {s0 : State} {s : State} (hM : Covers M 0x502855d00c3b2) (hs0 : Frame M s0 s) :
    Frame M s0 (State.opSnap s) := by
  unfold State.opSnap
  extract_lets v1 v2 v3 v4
  have h5 : Frame M s0 v2 := (State.wr_frame hs0 (hM.fam .ctxs rfl) rfl)
  clear_value v2
  have h6 : Frame M s0 v3 := by
    unfold v3
    split
    · rename_i w7 w8 w9
      exact (State.writeCtrs_frame (hM.to rfl) h5)
    · rename_i w10 w11
      exact h5
  clear_value v3
  have h12 : Frame M s0 v4 := (State.wr_frame h6 (hM.fam .ctxs rfl) rfl)
  clear_value v4
  exact (ite_rule (State.wr_frame h5 (hM.fam .ctxs rfl) rfl) (fold_rule h12 fun x13 b14 h15 => (State.wr_frame (State.wr_frame h15 (hM.fam .ctxs rfl) rfl) (hM.fam .ctxs rfl) rfl)))

theorem execSnap_frame {M : Nat} {s0 : State} {p : Party} {s : State} (hM : Covers M 0x502855d00c3ba) (hs1 : Frame M s0 s) :
    NextP (Frame M s0) (execSnap p s) := by
  unfold execSnap
  exact (State.action_frame (hM.to rfl) hs1 (hM.fam .ctxs rfl) (fun x1 h2 => (State.opSnap_frame (hM.to rfl) h2)))

theorem State.noteCtx_frame {M : Nat} {s0 : State} {s : State} {fn : ℕ} {c : ℕ} (hM : Covers M 0x400800c000200) (hs0 : Frame M s0 s) :
    Frame M s0 (State.noteCtx s fn c) := by
  unfold State.noteCtx
  refine (ite_rule hs0 ?_)
  extract_lets v1
  have h2 : Frame M s0 v1 := (ite_rule hs0 (State.inc_frame hs0 (hM.fam .ctxs rfl) rfl))
  clear_value v1
  exact (ite_rule h2 (State.err_frame (hM.to rfl) h2 (hM.fam .ctxs rfl)))

theorem State.opQueueCreate_frame {M : Nat} {s0 : State} {p : ℕ} {p1 : Pkt} {s : State} (hM : Covers M 0x502855d00cbb2) (hs2 : Frame M s0 s) :
    Frame M s0 (State.opQueueCreate p p1 s) := by
  unfold State.opQueueCreate
  extract_lets v1 v2 v3 v4 v5 v6
  have h7 : Frame M s0 v3 := (ite_rule hs2 (State.noteCtx_frame (hM.to rfl) hs2))
  clear_value v3
  have h8 : Frame M s0 v6 := (State.createQueue_frame (hM.to rfl) h7)
  clear_value v6
  exact (ite_rule (State.kres_frame (hM.to rfl) h7) (State.kres_frame (hM.to rfl) (State.ctxCount_frame (hM.to rfl) h8)))

theorem State.opQueueResume_frame {M : Nat} {s0 : State} {p : ℕ} {p1 : Pkt} {q : ℕ} {y : Queue} {s : State} (hM : Covers M 0x800) (hs4 : Frame M s0 s) :
    Frame M s0 (State.opQueueResume p p1 q y s) := by
  unfold State.opQueueResume
  extract_lets v1
  exact (ite_rule (State.kres_frame (hM.to rfl) hs4) (ite_rule (State.kres_frame (hM.to rfl) hs4) (State.kres_frame (hM.to rfl) (State.setQueue_frame (hM.to rfl) hs4))))

theorem State.onQueue_frame {M : Nat} {s0 : State} {s : State} {p : ℕ} {p2 : Pkt} {f : ℕ → Queue → State → State} (hM : Covers M 0x800) (hs0 : Frame M s0 s) (hs3 : ∀ y0 y1 y2, Frame M s0 y2 → Frame M s0 (f y0 y1 y2)) :
    Frame M s0 (State.onQueue s p p2 f) := by
  unfold State.onQueue
  extract_lets v1
  exact (ite_rule (hs3 _ _ _ hs0) (State.kres_frame (hM.to rfl) hs0))

theorem State.queueCtl_frame {M : Nat} {s0 : State} {s : State} {p : ℕ} {op : ℕ} {f : Pkt → ℕ → Queue → State → State} (hM : Covers M 0x4800) (hs0 : Frame M s0 s) (hs3 : ∀ y0 y1 y2 y3, Frame M s0 y3 → Frame M s0 (f y0 y1 y2 y3)) :
    NextP (Frame M s0) (State.queueCtl s p op f) := by
  unfold State.queueCtl
  exact (ite_rule (P := (NextP (Frame M s0))) (State.perform_frame (hM.to rfl) hs0 (fun x1 x2 h3 => (State.onQueue_frame (hM.to rfl) h3 (fun x4 x5 x6 h7 => (hs3 _ _ _ _ h7))))) (NextP.next hs0))

theorem execQueueRelease_frame {M : Nat} {s0 : State} {p : ℕ} {s : State} (hM : Covers M 0x4800) (hs1 : Frame M s0 s) :
    NextP (Frame M s0) (execQueueRelease p s) := by
  unfold execQueueRelease
  exact (State.queueCtl_frame (hM.to rfl) hs1 (fun x1 x2 x3 x4 h5 => (State.kres_frame (hM.to rfl) (State.setQueue_frame (hM.to rfl) h5))))

theorem State.noteObj_frame {M : Nat} {s0 : State} {s : State} {fn : ℕ} {h : ℕ} (hM : Covers M 0x400800c000200) (hs0 : Frame M s0 s) :
    Frame M s0 (State.noteObj s fn h) := by
  unfold State.noteObj
  refine (ite_rule hs0 ?_)
  extract_lets v1
  have h2 : Frame M s0 v1 := (State.inc_frame hs0 (hM.fam .ctxs rfl) rfl)
  clear_value v1
  exact (ite_rule h2 (State.err_frame (hM.to rfl) h2 (hM.fam .ctxs rfl)))

theorem State.opGraphStore_frame {M : Nat} {s0 : State} {p : ℕ} {p1 : Pkt} {s : State} (hM : Covers M 0x1f02855d01dbb2) (hs2 : Frame M s0 s) :
    Frame M s0 (State.opGraphStore p p1 s) := by
  unfold State.opGraphStore
  extract_lets v1 v2 v3 v4 v5 v6 v7 v8 v9 v10 v11
  have h12 : Frame M s0 v3 := (State.noteObj_frame (hM.to rfl) hs2)
  clear_value v3
  have h13 : StP (Frame M s0) v6 := (State.readAs_frame (hM.to rfl) h12)
  clear_value v6
  have h14 : SndP (Frame M s0) v7 := (State.writePhys_frame (hM.to rfl) h13)
  clear_value v7
  have h15 : Frame M s0 v8 := h14
  have h16 : Frame M s0 v10 := (State.putW_frame (hM.to rfl) h15)
  clear_value v10
  exact (ite_rule (State.kres_frame (hM.to rfl) h12) (ite_rule (State.kres_frame (hM.to rfl) h12) (ite_rule (State.kres_frame (hM.to rfl) h12) (ite_rule (State.finish_frame (hM.to rfl) h13) (ite_rule (State.kres_frame (hM.to rfl) h13) (ite_rule (State.finish_frame (hM.to rfl) h14) (State.kres_frame (hM.to rfl) (State.putW_frame (hM.to rfl) h16))))))))

theorem State.opFenceCreate_frame {M : Nat} {s0 : State} {p : ℕ} {p1 : Pkt} {s : State} (hM : Covers M 0x1502855d00cbb2) (hs2 : Frame M s0 s) :
    Frame M s0 (State.opFenceCreate p p1 s) := by
  unfold State.opFenceCreate
  extract_lets v1 v2 v3 v4
  have h5 : Frame M s0 v3 := (State.noteCtx_frame (hM.to rfl) hs2)
  clear_value v3
  have h6 : Frame M s0 v4 := (State.putW_frame (hM.to rfl) (State.putW_frame (hM.to rfl) (State.clearAt_frame (hM.to rfl) h5)))
  clear_value v4
  exact (ite_rule (State.kres_frame (hM.to rfl) hs2) (ite_rule (State.kres_frame (hM.to rfl) h5) (State.kres_frame (hM.to rfl) (State.useAdd_frame (hM.to rfl) (State.ctxCount_frame (hM.to rfl) h6) rfl))))

theorem State.opObjCreate_frame {M : Nat} {s0 : State} {p : ℕ} {p1 : Pkt} {s : State} (hM : Covers M 0x1502855d00cbb2) (hs2 : Frame M s0 s) :
    Frame M s0 (State.opObjCreate p p1 s) := by
  unfold State.opObjCreate
  extract_lets v1 v2 v3 v4 v5 v6 v7 v8
  have h9 : Frame M s0 v5 := (State.noteCtx_frame (hM.to rfl) hs2)
  clear_value v5
  have h10 : Frame M s0 v6 := (State.clearAt_frame (hM.to rfl) h9)
  clear_value v6
  have h11 : Frame M s0 v7 := (State.putW_frame (hM.to rfl) h10)
  clear_value v7
  have h12 : Frame M s0 v8 := (State.putW_frame (hM.to rfl) (State.putW_frame (hM.to rfl) (State.putW_frame (hM.to rfl) h11)))
  clear_value v8
  exact (ite_rule (State.kres_frame (hM.to rfl) hs2) (ite_rule (State.kres_frame (hM.to rfl) h9) (ite_rule (State.kres_frame (hM.to rfl) h9) (ite_rule (State.kres_frame (hM.to rfl) h9) (State.kres_frame (hM.to rfl) (State.useAdd_frame (hM.to rfl) (State.ctxCount_frame (hM.to rfl) h12) rfl))))))

theorem State.objPkt_frame {M : Nat} {s0 : State} {s : State} {p : ℕ} {op : ℕ} {f : Pkt → State → State} (hM : Covers M 0x4800) (hs0 : Frame M s0 s) (hs3 : ∀ y0 y1, Frame M s0 y1 → Frame M s0 (f y0 y1)) :
    NextP (Frame M s0) (State.objPkt s p op f) := by
  unfold State.objPkt
  exact (State.perform_frame (hM.to rfl) hs0 (fun x1 x2 h3 => (ite_rule (hs3 _ _ h3) (State.kres_frame (hM.to rfl) h3))))

theorem execObjCreate_frame {M : Nat} {s0 : State} {p : ℕ} {s : State} (hM : Covers M 0x1502855d00cbb2) (hs1 : Frame M s0 s) :
    NextP (Frame M s0) (execObjCreate p s) := by
  unfold execObjCreate
  exact (State.objPkt_frame (hM.to rfl) hs1 (fun x1 x2 h3 => (State.opObjCreate_frame (hM.to rfl) h3)))

theorem State.opFenceDestroy_frame {M : Nat} {s0 : State} {p : ℕ} {p1 : Pkt} {s : State} (hM : Covers M 0x1d02855d00dbb2) (hs2 : Frame M s0 s) :
    Frame M s0 (State.opFenceDestroy p p1 s) := by
  unfold State.opFenceDestroy
  extract_lets v1
  exact (ite_rule (State.kres_frame (hM.to rfl) hs2) (ite_rule (State.kres_frame (hM.to rfl) (State.err_frame (hM.to rfl) hs2 (hM.fam .fns rfl))) (ite_rule (State.kres_frame (hM.to rfl) hs2) (State.kres_frame (hM.to rfl) (State.destroyFence_frame (hM.to rfl) hs2)))))

theorem State.opCtxCreate_frame {M : Nat} {s0 : State} {p : ℕ} {p1 : Pkt} {s : State} (hM : Covers M 0x1102855d00cbb2) (hs2 : Frame M s0 s) :
    Frame M s0 (State.opCtxCreate p p1 s) := by
  unfold State.opCtxCreate
  extract_lets v1 v2 v3 v4 v5 v6
  have h7 : Frame M s0 v5 := (State.clearAt_frame (hM.to rfl) hs2)
  clear_value v5
  have h8 : Frame M s0 v6 := (State.putW_frame (hM.to rfl) h7)
  clear_value v6
  exact (ite_rule (State.kres_frame (hM.to rfl) hs2) (ite_rule (State.kres_frame (hM.to rfl) hs2) (ite_rule (State.kres_frame (hM.to rfl) hs2) (State.kres_frame (hM.to rfl) (State.useAdd_frame (hM.to rfl) h8 rfl)))))

theorem execCtxCreate_frame {M : Nat} {s0 : State} {p : ℕ} {s : State} (hM : Covers M 0x1102855d00cbb2) (hs1 : Frame M s0 s) :
    NextP (Frame M s0) (execCtxCreate p s) := by
  unfold execCtxCreate
  exact (State.objPkt_frame (hM.to rfl) hs1 (fun x1 x2 h3 => (State.opCtxCreate_frame (hM.to rfl) h3)))

theorem execQueueHold_frame {M : Nat} {s0 : State} {p : ℕ} {s : State} (hM : Covers M 0x4800) (hs1 : Frame M s0 s) :
    NextP (Frame M s0) (execQueueHold p s) := by
  unfold execQueueHold
  exact (State.queueCtl_frame (hM.to rfl) hs1 (fun x1 x2 x3 x4 h5 => (State.kres_frame (hM.to rfl) (State.setQueue_frame (hM.to rfl) h5))))

theorem State.destroyCtx_frame {M : Nat} {s0 : State} {s : State} {c : ℕ} (hM : Covers M 0x1502855d00dbb2) (hs0 : Frame M s0 s) :
    Frame M s0 (State.destroyCtx s c) := by
  unfold State.destroyCtx
  extract_lets v1 v2 v3
  have h4 : Frame M s0 v1 := (State.putW_frame (hM.to rfl) hs0)
  clear_value v1
  have h5 : Frame M s0 v2 := (fold_rule h4 fun x6 b7 h8 => (State.destroyFence_frame (hM.to rfl) h8))
  clear_value v2
  have h9 : Frame M s0 v3 := (fold_rule h5 fun x10 b11 h12 => (ite_rule (State.dropRef_frame (hM.to rfl) (State.setObjState_frame (hM.to rfl) h12)) h12))
  clear_value v3
  exact (State.testCtx_frame (hM.to rfl) h9)

theorem execFenceCreate_frame {M : Nat} {s0 : State} {p : ℕ} {s : State} (hM : Covers M 0x1502855d00cbb2) (hs1 : Frame M s0 s) :
    NextP (Frame M s0) (execFenceCreate p s) := by
  unfold execFenceCreate
  exact (State.objPkt_frame (hM.to rfl) hs1 (fun x1 x2 h3 => (State.opFenceCreate_frame (hM.to rfl) h3)))

theorem State.opRatSet_frame {M : Nat} {s0 : State} {p : ℕ} {p1 : Pkt} {s : State} (hM : Covers M 0x1002815c00ca20) (hs2 : Frame M s0 s) :
    Frame M s0 (State.opRatSet p p1 s) := by
  unfold State.opRatSet
  extract_lets v1 v2 v3
  exact (ite_rule (State.tdiError_frame (hM.to rfl) (State.ratStore_frame (hM.to rfl) hs2)) (State.kres_frame (hM.to rfl) (State.ratRefuse_frame (hM.to rfl) hs2)))

theorem execRatSet_frame {M : Nat} {s0 : State} {p : ℕ} {s : State} (hM : Covers M 0x1002815c00ca20) (hs1 : Frame M s0 s) :
    NextP (Frame M s0) (execRatSet p s) := by
  unfold execRatSet
  exact (State.perform_frame (hM.to rfl) hs1 (fun x1 x2 h3 => (State.opRatSet_frame (hM.to rfl) h3)))

theorem execQueueDestroy_frame {M : Nat} {s0 : State} {p : ℕ} {s : State} (hM : Covers M 0x1d02855d00dfb2) (hs1 : Frame M s0 s) :
    NextP (Frame M s0) (execQueueDestroy p s) := by
  unfold execQueueDestroy
  exact (State.perform_frame (hM.to rfl) hs1 (fun x1 x2 h3 => (State.onQueue_frame (hM.to rfl) h3 (fun x4 x5 x6 h7 => (State.drainQueue_frame (hM.to rfl) h7)))))

theorem execQueueCreate_frame {M : Nat} {s0 : State} {p : ℕ} {s : State} (hM : Covers M 0x502855d00cbb2) (hs1 : Frame M s0 s) :
    NextP (Frame M s0) (execQueueCreate p s) := by
  unfold execQueueCreate
  exact (State.perform_frame (hM.to rfl) hs1 (fun x1 x2 h3 => (State.opQueueCreate_frame (hM.to rfl) h3)))

theorem execFenceDestroy_frame {M : Nat} {s0 : State} {p : ℕ} {s : State} (hM : Covers M 0x1d02855d00dbb2) (hs1 : Frame M s0 s) :
    NextP (Frame M s0) (execFenceDestroy p s) := by
  unfold execFenceDestroy
  exact (State.objPkt_frame (hM.to rfl) hs1 (fun x1 x2 h3 => (State.opFenceDestroy_frame (hM.to rfl) h3)))

theorem execQueueCancel_frame {M : Nat} {s0 : State} {p : ℕ} {s : State} (hM : Covers M 0x1d02855d00dbb2) (hs1 : Frame M s0 s) :
    NextP (Frame M s0) (execQueueCancel p s) := by
  unfold execQueueCancel
  exact (State.queueCtl_frame (hM.to rfl) hs1 (fun x1 x2 x3 x4 h5 => (State.kres_frame (hM.to rfl) (State.drainPkts_frame (hM.to rfl) h5))))

theorem execSetPrio_frame {M : Nat} {s0 : State} {p : ℕ} {s : State} (hM : Covers M 0x4800) (hs1 : Frame M s0 s) :
    NextP (Frame M s0) (execSetPrio p s) := by
  unfold execSetPrio
  exact (State.queueCtl_frame (hM.to rfl) hs1 (fun x1 x2 x3 x4 h5 => (State.kres_frame (hM.to rfl) (State.setQueue_frame (hM.to rfl) h5))))

theorem execGraphStore_frame {M : Nat} {s0 : State} {p : ℕ} {s : State} (hM : Covers M 0x1f02855d01dbb2) (hs1 : Frame M s0 s) :
    NextP (Frame M s0) (execGraphStore p s) := by
  unfold execGraphStore
  exact (State.objPkt_frame (hM.to rfl) hs1 (fun x1 x2 h3 => (State.opGraphStore_frame (hM.to rfl) h3)))

theorem execQueueResume_frame {M : Nat} {s0 : State} {p : ℕ} {s : State} (hM : Covers M 0x4800) (hs1 : Frame M s0 s) :
    NextP (Frame M s0) (execQueueResume p s) := by
  unfold execQueueResume
  exact (State.queueCtl_frame (hM.to rfl) hs1 (fun x1 x2 x3 x4 h5 => (State.opQueueResume_frame (hM.to rfl) h5)))

theorem State.opCtxDestroy_frame {M : Nat} {s0 : State} {p : ℕ} {p1 : Pkt} {s : State} (hM : Covers M 0x1502855d00dbb2) (hs2 : Frame M s0 s) :
    Frame M s0 (State.opCtxDestroy p p1 s) := by
  unfold State.opCtxDestroy
  extract_lets v1 v2
  have h3 : Frame M s0 v2 := (State.noteCtx_frame (hM.to rfl) hs2)
  clear_value v2
  exact (ite_rule (State.kres_frame (hM.to rfl) h3) (ite_rule (State.kres_frame (hM.to rfl) h3) (State.kres_frame (hM.to rfl) (State.destroyCtx_frame (hM.to rfl) h3))))

theorem execCtxDestroy_frame {M : Nat} {s0 : State} {p : ℕ} {s : State} (hM : Covers M 0x1502855d00dbb2) (hs1 : Frame M s0 s) :
    NextP (Frame M s0) (execCtxDestroy p s) := by
  unfold execCtxDestroy
  exact (State.objPkt_frame (hM.to rfl) hs1 (fun x1 x2 h3 => (State.opCtxDestroy_frame (hM.to rfl) h3)))

theorem State.opObjDestroy_frame {M : Nat} {s0 : State} {p : ℕ} {p1 : Pkt} {s : State} (hM : Covers M 0x1502855d00dbb2) (hs2 : Frame M s0 s) :
    Frame M s0 (State.opObjDestroy p p1 s) := by
  unfold State.opObjDestroy
  extract_lets v1 v2 v3 v4 v5 v6 v7 v8 v9
  have h10 : Frame M s0 v4 := (State.noteObj_frame (hM.to rfl) hs2)
  clear_value v4
  have h11 : Frame M s0 v5 := (State.setObjState_frame (hM.to rfl) h10)
  clear_value v5
  have h12 : Frame M s0 v6 := (State.putW_frame (hM.to rfl) (State.putW_frame (hM.to rfl) h11))
  clear_value v6
  have h13 : Frame M s0 v8 := (Frame.upd_objs (hM.to rfl) h12)
  clear_value v8
  have h14 : Frame M s0 v9 := (ite_rule (State.wr_frame h13 (hM.fam .ctxs rfl) rfl) h11)
  clear_value v9
  exact (ite_rule (State.kres_frame (hM.to rfl) h10) (ite_rule (State.kres_frame (hM.to rfl) h10) (ite_rule (State.kres_frame (hM.to rfl) h10) (State.kres_frame (hM.to rfl) (State.dropRef_frame (hM.to rfl) h14)))))

theorem execObjDestroy_frame {M : Nat} {s0 : State} {p : ℕ} {s : State} (hM : Covers M 0x1502855d00dbb2) (hs1 : Frame M s0 s) :
    NextP (Frame M s0) (execObjDestroy p s) := by
  unfold execObjDestroy
  exact (State.objPkt_frame (hM.to rfl) hs1 (fun x1 x2 h3 => (State.opObjDestroy_frame (hM.to rfl) h3)))

end Sys2Proof.Machine
end

