-- ==== Sys2Proof/Laws/FrameVf.lean ====
section
/-! SUPPORT. What each operation and each meaning of Machine/Vf.lean can change: it keeps the frame `Frame M s0` for every set `M` that
has the parts it names, given that its arguments keep it. -/

namespace Sys2Proof.Machine

theorem State.provRefuse_frame {M : Nat} {s0 : State} {s : State} {p : ℕ} {code : ℕ} (hM : Covers M 0x1000800c000a00) (hs0 : Frame M s0 s) :
    Frame M s0 (State.provRefuse s p code) := by
  unfold State.provRefuse
  exact (State.kres_frame (hM.to rfl) (State.err_frame (hM.to rfl) hs0 (hM.fam .vf rfl)))

theorem State.resetKq_frame {M : Nat} {s0 : State} {s : State} {n : ℕ} (hM : Covers M 0x1fffffe0000000) (hs0 : Frame M s0 s) :
    Frame M s0 (State.resetKq s n) := by
  unfold State.resetKq
  exact (fold_rule hs0 fun x1 b2 h3 => (State.setReg_any (hM.to rfl) h3))

theorem State.setVstate_frame {M : Nat} {s0 : State} {s : State} {n : ℕ} {p2 : ℕ} (hM : Covers M 0x10000100000000) (hs0 : Frame M s0 s) :
    Frame M s0 (State.setVstate s n p2) := by
  unfold State.setVstate
  extract_lets v1
  have h2 : Frame M s0 v1 := (State.wr_frame hs0 (hM.fam .vf rfl) rfl)
  clear_value v1
  exact (ite_rule (State.setTdi_frame (hM.to rfl) h2) h2)

theorem State.setProv_frame {M : Nat} {s0 : State} {s : State} {n : ℕ} {r : HKind → ℕ × ℕ} {vec : ℕ} {binds : ℕ} {mem : ℕ} {loose : ℕ} (hM : Covers M 0x10000000000000) (hs0 : Frame M s0 s) :
    Frame M s0 (State.setProv s n r vec binds mem loose) := by
  unfold State.setProv
  extract_lets v1 v2 v3 v4 v5 v6
  have h7 : Frame M s0 v2 := (State.wr_frame (State.wr_frame hs0 (hM.fam .vf rfl) rfl) (hM.fam .vf rfl) rfl)
  clear_value v2
  have h8 : Frame M s0 v3 := (State.wr_frame (State.wr_frame h7 (hM.fam .vf rfl) rfl) (hM.fam .vf rfl) rfl)
  clear_value v3
  have h9 : Frame M s0 v4 := (State.wr_frame (State.wr_frame h8 (hM.fam .vf rfl) rfl) (hM.fam .vf rfl) rfl)
  clear_value v4
  have h10 : Frame M s0 v5 := (State.wr_frame (State.wr_frame h9 (hM.fam .vf rfl) rfl) (hM.fam .vf rfl) rfl)
  clear_value v5
  have h11 : Frame M s0 v6 := (State.wr_frame (State.wr_frame h10 (hM.fam .vf rfl) rfl) (hM.fam .vf rfl) rfl)
  clear_value v6
  exact (State.wr_frame (State.wr_frame (State.wr_frame (State.wr_frame h11 (hM.fam .vf rfl) rfl) (hM.fam .vf rfl) rfl) (hM.fam .vf rfl) rfl) (hM.fam .vf rfl) rfl)

theorem State.applyProv_frame {M : Nat} {s0 : State} {s : State} {p1 : Pkt} (hM : Covers M 0x1fffffec002a00) (hs0 : Frame M s0 s) :
    Frame M s0 (State.applyProv s p1) := by
  unfold State.applyProv
  extract_lets v1 v2 v3 v4
  have h5 : Frame M s0 v2 := (State.setProv_frame (hM.to rfl) hs0)
  clear_value v2
  have h6 : Frame M s0 v3 := (ite_rule (State.setVstate_frame (hM.to rfl) (State.resetKq_frame (hM.to rfl) h5)) h5)
  clear_value v3
  exact (ite_rule (State.showMemUse_frame (hM.to rfl) (State.tdiError_frame (hM.to rfl) (State.setFn_frame (hM.to rfl) h6))) (State.setFn_frame (hM.to rfl) (State.setVstate_frame (hM.to rfl) (State.setProv_frame (hM.to rfl) hs0))))

theorem State.finishProv_frame {M : Nat} {s0 : State} {s : State} (hM : Covers M 0x1fffffec002a00) (hs0 : Frame M s0 s) :
    Frame M s0 (State.finishProv s) := by
  unfold State.finishProv
  extract_lets v1 v2 v3
  have h4 : Frame M s0 v1 := (State.haClear_frame (hM.to rfl) (State.wr_frame (State.wr_frame hs0 (hM.fam .vf rfl) rfl) (hM.fam .vf rfl) rfl))
  clear_value v1
  have h5 : Frame M s0 v3 := (Frame.upd_front (hM.to rfl) h4)
  clear_value v3
  split
  · rename_i w6 w7
    exact h4
  · rename_i w8 w9 w10 w11
    split
    · rename_i w12 w13
      exact h5
    · rename_i w14 w15 w16
      extract_lets v17
      exact (ite_rule (State.kres_frame (hM.to rfl) (State.applyProv_frame (hM.to rfl) h5)) (State.provRefuse_frame (hM.to rfl) h5))

theorem execVfHaDone_frame {M : Nat} {s0 : State} {p : Party} {s : State} (hM : Covers M 0x1fffffec002a08) (hs1 : Frame M s0 s) :
    NextP (Frame M s0) (execVfHaDone p s) := by
  unfold execVfHaDone
  exact (State.action_frame (hM.to rfl) hs1 (hM.fam .vf rfl) (fun x1 h2 => (ite_rule (State.assisted_frame (hM.to rfl) h2 (fun x3 h4 => (State.finishProv_frame (hM.to rfl) h4))) h2)))

theorem State.opVfRelease_frame {M : Nat} {s0 : State} {fn : ℕ} {s : State} (hM : Covers M 0x10000100000800) (hs1 : Frame M s0 s) :
    Frame M s0 (State.opVfRelease fn s) := by
  unfold State.opVfRelease
  refine (ite_rule hs1 ?_)
  extract_lets v1
  have h2 : Frame M s0 v1 := (State.setVstate_frame (hM.to rfl) hs1)
  clear_value v1
  exact (ite_rule (State.kernelQueue_frame (hM.to rfl) h2) h2)

theorem execVfRelease_frame {M : Nat} {s0 : State} {p : Party} {fn : ℕ} {s : State} (hM : Covers M 0x1000810c000a08) (hs2 : Frame M s0 s) :
    NextP (Frame M s0) (execVfRelease p fn s) := by
  unfold execVfRelease
  refine (State.action_frame (hM.to rfl) hs2 (hM.fam .vf rfl) (fun x1 h2 => ?_))
  split
  · rename_i w3 w4
    exact (State.err_frame (hM.to rfl) h2 (hM.fam .vf rfl))
  · rename_i w5 w6
    exact (State.opVfRelease_frame (hM.to rfl) h2)

theorem State.startQuiesce_frame {M : Nat} {s0 : State} {s : State} {n : ℕ} (hM : Covers M 0x1d02855d00dfb2) (hs0 : Frame M s0 s) :
    Frame M s0 (State.startQuiesce s n) := by
  unfold State.startQuiesce
  extract_lets v1 v2
  have h3 : Frame M s0 v1 := (State.setVstate_frame (hM.to rfl) (State.tdiError_frame (hM.to rfl) hs0))
  clear_value v1
  have h4 : Frame M s0 v2 := (fold_rule h3 fun x5 b6 h7 => (ite_rule h7 (State.drainQueue_frame (hM.to rfl) h7)))
  clear_value v2
  exact (fold_rule h4 fun x8 b9 h10 => (State.unbindRing_frame (hM.to rfl) h10))

theorem execQuiesce_frame {M : Nat} {s0 : State} {p : Party} {fn : ℕ} {s : State} (hM : Covers M 0x1d02855d00dfba) (hs2 : Frame M s0 s) :
    NextP (Frame M s0) (execQuiesce p fn s) := by
  unfold execQuiesce
  refine (State.action_frame (hM.to rfl) hs2 (hM.fam .vf rfl) (fun x1 h2 => ?_))
  split
  · rename_i w3 w4
    exact (State.err_frame (hM.to rfl) h2 (hM.fam .vf rfl))
  · rename_i w5 w6
    exact (ite_rule (State.startQuiesce_frame (hM.to rfl) h2) h2)

theorem State.showVfEn_frame {M : Nat} {s0 : State} {s : State} (hM : Covers M 0x10000000000000) (hs0 : Frame M s0 s) :
    Frame M s0 (State.showVfEn s) := by
  unfold State.showVfEn
  exact (fold_rule hs0 fun x1 b2 h3 => (State.wr_frame h3 (hM.fam .vf rfl) rfl))

theorem State.setFlrPend_frame {M : Nat} {s0 : State} {s : State} {n : ℕ} {b : Bool} (hM : Covers M 0x10000000000000) (hs0 : Frame M s0 s) :
    Frame M s0 (State.setFlrPend s n b) := by
  unfold State.setFlrPend
  extract_lets v1 v2
  have h3 : Frame M s0 v1 := (State.wr_frame hs0 (hM.fam .vf rfl) rfl)
  clear_value v1
  exact (State.wr_frame h3 (hM.fam .vf rfl) rfl)

theorem State.vfFlr_frame {M : Nat} {s0 : State} {s : State} {n : ℕ} (hM : Covers M 0x1000810c000a00) (hs0 : Frame M s0 s) :
    Frame M s0 (State.vfFlr s n) := by
  unfold State.vfFlr
  extract_lets v1
  have h2 : Frame M s0 v1 := (ite_rule hs0 (State.tdiError_frame (hM.to rfl) hs0))
  clear_value v1
  split
  · rename_i w3 w4
    exact (State.err_frame (hM.to rfl) (State.mapQueues_frame (hM.to rfl) (State.setVstate_frame (hM.to rfl) (State.setFlrPend_frame (hM.to rfl) h2))) (hM.fam .vf rfl))
  · rename_i w5 w6
    exact (State.setFlrPend_frame (hM.to rfl) h2)
  · rename_i w7 w8
    exact (State.setVstate_frame (hM.to rfl) (State.setFlrPend_frame (hM.to rfl) h2))
  · rename_i w9 w10
    exact (State.emit_frame (hM.to rfl) h2)
  · rename_i w11 w12 w13 w14 w15
    exact h2

theorem State.opVfEnable_frame {M : Nat} {s0 : State} {en : Bool} {num : ℕ} {s : State} (hM : Covers M 0x1000810c000a01) (hs2 : Frame M s0 s) :
    Frame M s0 (State.opVfEnable en num s) := by
  unfold State.opVfEnable
  extract_lets v1 v2 v3 v4
  have h5 : Frame M s0 v3 := (Frame.upd_pins (hM.to rfl) hs2)
  clear_value v3
  have h6 : Frame M s0 v4 := (State.showVfEn_frame (hM.to rfl) h5)
  clear_value v4
  exact (ite_rule h5 (ite_rule (fold_rule h6 fun x7 b8 h9 => (State.vfFlr_frame (hM.to rfl) h9)) h6))

theorem execVfEnableChange_frame {M : Nat} {s0 : State} {en : Bool} {num : ℕ} {s : State} (hM : Covers M 0x1000810c000a01) (hs2 : Frame M s0 s) :
    NextP (Frame M s0) (execVfEnableChange en num s) := by
  unfold execVfEnableChange
  exact (NextP.next (State.opVfEnable_frame (hM.to rfl) hs2))

theorem State.resetVfPage_frame {M : Nat} {s0 s : State} {n : Nat} (hM : Covers M 0x10000000000000) (hs0 : Frame M s0 s) :
    Frame M s0 (State.resetVfPage s n) := by
  refine Frame.step hM (Frame.of_regs (fun f hf a q hq hfam => ?_) (fun w => ?_)) hs0
  · have hne : ¬((Page.vf n).base ≤ a ∧ a < (Page.vf n).base + 0x1000) := by
      intro hr
      have e : Page.ofSlot (((Page.vf n).base + (a - (Page.vf n).base)) / 0x1000) = some q := by
        rw [Nat.add_sub_cancel' hr.1]; exact hq
      have k := Page.ofSlot_base (Page.vf n) (a - (Page.vf n).base) (by omega) q e
      rw [hfam] at k
      rw [k] at hf
      exact absurd hf (by show ¬(0x10000000000000 &&& Fam.vf.mask = 0); decide)
    show SMap.getD _ _ a = SMap.getD s.regs _ a
    unfold SMap.getD
    rw [find_filter s.regs _ a (by
      intro v
      simp only [Bool.or_eq_true, Bool.not_eq_true', Bool.and_eq_false_iff, decide_eq_false_iff_not]
      exact Or.inl (Or.inl (Or.inl (not_and_or.1 hne))))]
  · exact ⟨SMap.sorted_filter _ _ w.1, fun e he => w.2 e (List.mem_of_mem_filter he)⟩


theorem State.showUse_frame {M : Nat} {s0 : State} {s : State} {n : ℕ} (hM : Covers M 0x10000000000000) (hs0 : Frame M s0 s) :
    Frame M s0 (State.showUse s n) := by
  unfold State.showUse
  extract_lets v1 v2
  exact (State.wr_frame (State.wr_frame (State.wr_frame hs0 (hM.fam .vf rfl) rfl) (hM.fam .vf rfl) rfl) (hM.fam .vf rfl) rfl)

theorem State.opFlrReset_frame {M : Nat} {s0 : State} {n : ℕ} {s : State} (hM : Covers M 0x1502855d00dbb2) (hs1 : Frame M s0 s) :
    Frame M s0 (State.opFlrReset n s) := by
  unfold State.opFlrReset
  refine (ite_rule hs1 ?_)
  extract_lets v1 v2 v3 v4 v5
  have h6 : Frame M s0 v2 := (fold_rule hs1 fun x7 b8 h9 => (ite_rule h9 (State.putW_frame (hM.to rfl) h9)))
  clear_value v2
  have h10 : Frame M s0 v4 := (fold_rule h6 fun x11 b12 h13 => (State.destroyCtx_frame (hM.to rfl) h13))
  clear_value v4
  have h14 : Frame M s0 v5 := (State.showMemUse_frame (hM.to rfl) (State.showUse_frame (hM.to rfl) (State.resetVfPage_frame (hM.to rfl) h10)))
  clear_value v5
  exact (State.emit_frame (hM.to rfl) (State.setVstate_frame (hM.to rfl) (State.setFlrPend_frame (hM.to rfl) h14)))

theorem execFlrResetDone_frame {M : Nat} {s0 : State} {fn : ℕ} {s : State} (hM : Covers M 0x1502855d00dbb2) (hs1 : Frame M s0 s) :
    NextP (Frame M s0) (execFlrResetDone fn s) := by
  unfold execFlrResetDone
  exact (guarded_frame hs1 (fun x1 h2 => (State.opFlrReset_frame (hM.to rfl) h2)))

theorem State.stopAnswered_frame {M : Nat} {s0 : State} {s : State} {fn : ℕ} (hM : Covers M 0xc200400) (hs0 : Frame M s0 s) :
    Frame M s0 (State.stopAnswered s fn) := by
  unfold State.stopAnswered
  extract_lets v1 v2 v3
  have h4 : Frame M s0 v3 := (Frame.upd_trust (hM.to rfl) hs0)
  clear_value v3
  exact (fold_rule h4 fun x5 b6 h7 => (State.spdmSend_frame (hM.to rfl) h7))

theorem State.opVfProv_frame {M : Nat} {s0 : State} {p : ℕ} {p1 : Pkt} {s : State} (hM : Covers M 0x1fffffec002a00) (hs2 : Frame M s0 s) :
    Frame M s0 (State.opVfProv p p1 s) := by
  unfold State.opVfProv
  extract_lets v1 v2 v3
  have h4 : Frame M s0 v3 := (Frame.upd_front (hM.to rfl) hs2)
  clear_value v3
  exact (ite_rule (State.provRefuse_frame (hM.to rfl) hs2) (ite_rule (State.haPost_frame (hM.to rfl) (State.wr_frame (State.wr_frame h4 (hM.fam .vf rfl) rfl) (hM.fam .vf rfl) rfl)) (State.kres_frame (hM.to rfl) (State.applyProv_frame (hM.to rfl) hs2))))

theorem State.opVfQuiesced_frame {M : Nat} {s0 : State} {fn : ℕ} {s : State} (hM : Covers M 0x1000010c200400) (hs1 : Frame M s0 s) :
    Frame M s0 (State.opVfQuiesced fn s) := by
  unfold State.opVfQuiesced
  exact (ite_rule hs1 (State.stopAnswered_frame (hM.to rfl) (State.funcVec_frame (hM.to rfl) (State.setVstate_frame (hM.to rfl) hs1))))

theorem execVfQuiesced_frame {M : Nat} {s0 : State} {fn : ℕ} {s : State} (hM : Covers M 0x1000010c200400) (hs1 : Frame M s0 s) :
    NextP (Frame M s0) (execVfQuiesced fn s) := by
  unfold execVfQuiesced
  exact (guarded_frame hs1 (fun x1 h2 => (State.opVfQuiesced_frame (hM.to rfl) h2)))

theorem execVfProv_frame {M : Nat} {s0 : State} {p : ℕ} {s : State} (hM : Covers M 0x1fffffec006a00) (hs1 : Frame M s0 s) :
    NextP (Frame M s0) (execVfProv p s) := by
  unfold execVfProv
  exact (State.perform_frame (hM.to rfl) hs1 (fun x1 x2 h3 => (State.opVfProv_frame (hM.to rfl) h3)))

end Sys2Proof.Machine
end

