-- ==== Sys2Proof/Laws/FrameRecovery.lean ====
section
/-! SUPPORT. What each operation and each meaning of Machine/Recovery.lean can change: it keeps the frame `Frame M s0` for every set `M` that
has the parts it names, given that its arguments keep it. -/

namespace Sys2Proof.Machine

theorem State.modSuspect_frame {M : Nat} {s0 : State} {s : State} {i : ℕ} {f : Suspect → Suspect} (hM : Covers M 0x200) (hs0 : Frame M s0 s) :
    Frame M s0 (State.modSuspect s i f) := by
  unfold State.modSuspect
  exact (Frame.upd_faults (hM.to rfl) hs0)

theorem State.noteAction_frame {M : Nat} {s0 : State} {s : State} {i : ℕ} {a : ℕ} (hM : Covers M 0x200) (hs0 : Frame M s0 s) :
    Frame M s0 (State.noteAction s i a) := by
  unfold State.noteAction
  exact (State.modSuspect_frame (hM.to rfl) hs0)

theorem State.freeTask_frame {M : Nat} {s0 : State} {s : State} {q : ℕ} (hM : Covers M 0x1d02855d00dbb2) (hs0 : Frame M s0 s) :
    Frame M s0 (State.freeTask s q) := by
  unfold State.freeTask
  refine (ite_rule hs0 ?_)
  extract_lets v1 v2
  have h3 : Frame M s0 v2 := (State.setQueue_frame (hM.to rfl) hs0)
  clear_value v2
  exact (fold_rule h3 fun x4 b5 h6 => (State.cancelPkt_frame (hM.to rfl) h6))

theorem State.freeTasks_frame {M : Nat} {s0 : State} {s : State} (hM : Covers M 0x1d02855d00dbb2) (hs0 : Frame M s0 s) :
    Frame M s0 (State.freeTasks s) := by
  unfold State.freeTasks
  exact (fold_rule hs0 fun x1 b2 h3 => (State.freeTask_frame (hM.to rfl) h3))

theorem State.endSuspect_frame {M : Nat} {s0 : State} {s : State} {i : ℕ} {p2 : ℕ} (hM : Covers M 0x1d02855d00dbb2) (hs0 : Frame M s0 s) :
    Frame M s0 (State.endSuspect s i p2) := by
  unfold State.endSuspect
  extract_lets v1 v2
  have h3 : Frame M s0 v1 := (State.modSuspect_frame (hM.to rfl) hs0)
  clear_value v1
  exact (State.freeTasks_frame (hM.to rfl) (Frame.upd_faults (hM.to rfl) h3))

theorem State.setIstate_frame {M : Nat} {s0 : State} {s : State} {p1 : ℕ} (hM : Covers M 0x8000000000) (hs0 : Frame M s0 s) :
    Frame M s0 (State.setIstate s p1) := by
  unfold State.setIstate
  exact (State.wr_frame hs0 (hM.fam .err rfl) rfl)

theorem State.endEpisode_frame {M : Nat} {s0 : State} {s : State} (hM : Covers M 0x1d02855d00dbb2) (hs0 : Frame M s0 s) :
    Frame M s0 (State.endEpisode s) := by
  unfold State.endEpisode
  exact (Frame.upd_faults (hM.to rfl) (State.freeTasks_frame (hM.to rfl) (State.setIstate_frame (hM.to rfl) (ite_rule (State.haClear_frame (hM.to rfl) hs0) hs0))))

theorem State.replayNext_frame {M : Nat} {s0 : State} {a : ℕ} {p1 : State} (hM : Covers M 0x1d02855d00dbb2) (hs1 : Frame M s0 p1) :
    Frame M s0 (State.replayNext a p1) := by
  induction a generalizing p1
  · unfold State.replayNext
    exact hs1
  · rename_i k ih
    unfold State.replayNext
    refine (ite_rule hs1 ?_)
    split
    · rename_i w1 w2
      exact (ite_rule hs1 (State.endEpisode_frame (hM.to rfl) hs1))
    · rename_i w3 w4 w5 w6
      extract_lets v7 v8
      have h9 : Frame M s0 v8 := (Frame.upd_faults (hM.to rfl) hs1)
      clear_value v8
      split
      · rename_i w10 w11
        exact (ih h9)
      · rename_i w12 w13 w14
        split
        · rename_i w15 w16
          exact (ih (State.endSuspect_frame (hM.to rfl) h9))
        · rename_i w17 w18 w19
          refine (ite_rule (ih (State.endSuspect_frame (hM.to rfl) h9)) (ite_rule (ih (State.endSuspect_frame (hM.to rfl) (State.finish_frame (hM.to rfl) h9))) ?_))
          split
          · rename_i w20 w21
            exact hs1
          · rename_i w22 w23 w24
            extract_lets v25 v26
            have h27 : Frame M s0 v25 := (State.modSuspect_frame (hM.to rfl) (State.dispatch_frame (hM.to rfl) h9))
            clear_value v25
            exact (Frame.upd_faults (hM.to rfl) h27)

theorem State.replay_frame {M : Nat} {s0 : State} {s : State} (hM : Covers M 0x1d02855d00dbb2) (hs0 : Frame M s0 s) :
    Frame M s0 (State.replay s) := by
  unfold State.replay
  exact (State.replayNext_frame (hM.to rfl) hs0)

theorem State.actionsDone_frame {M : Nat} {s0 : State} {s : State} (hM : Covers M 0x1d02855d00dbb2) (hs0 : Frame M s0 s) :
    Frame M s0 (State.actionsDone s) := by
  unfold State.actionsDone
  extract_lets v1
  exact (State.replay_frame (hM.to rfl) (ite_rule hs0 (State.haClear_frame (hM.to rfl) hs0)))

theorem State.suspectCmd_frame {M : Nat} {s0 : State} {p : Party} {i : ℕ} {c : SvcCmd} {f : Suspect → State → State} {s : State} (hM : Covers M 0x1d02855d00dbba) (hs3 : ∀ y0 y1, Frame M s0 y1 → Frame M s0 (f y0 y1)) (hs4 : Frame M s0 s) :
    NextP (Frame M s0) (State.suspectCmd p i c f s) := by
  unfold State.suspectCmd
  refine (State.action_frame (hM.to rfl) hs4 (hM.fam .err rfl) (fun x1 h2 => (State.assisted_frame (hM.to rfl) h2 (fun x3 h4 => ?_))))
  split
  · rename_i w5 w6
    exact h4
  · rename_i w7 w8 w9
    exact (ite_rule (State.actionsDone_frame (hM.to rfl) (hs3 _ _ h4)) h4)

theorem execSuspectDrop_frame {M : Nat} {s0 : State} {p : Party} {i : ℕ} {s : State} (hM : Covers M 0x1d02855d00dbba) (hs2 : Frame M s0 s) :
    NextP (Frame M s0) (execSuspectDrop p i s) := by
  unfold execSuspectDrop
  exact (State.suspectCmd_frame (hM.to rfl) (fun x1 x2 h3 => (State.endSuspect_frame (hM.to rfl) (State.cancelPkt_frame (hM.to rfl) (State.noteAction_frame (hM.to rfl) h3)))) hs2)

theorem State.loseSuspect_frame {M : Nat} {s0 : State} {s : State} {i : ℕ} {u : Suspect} (hM : Covers M 0x1f02855d01dbb2) (hs0 : Frame M s0 s) :
    Frame M s0 (State.loseSuspect s i u) := by
  unfold State.loseSuspect
  extract_lets v1
  have h2 : Frame M s0 v1 := (State.modPkt_frame (hM.to rfl) hs0)
  clear_value v1
  exact (State.endSuspect_frame (hM.to rfl) (State.ctxLost_frame (hM.to rfl) h2))

theorem execSuspectFail_frame {M : Nat} {s0 : State} {p : Party} {i : ℕ} {s : State} (hM : Covers M 0x1f02855d01dbba) (hs2 : Frame M s0 s) :
    NextP (Frame M s0) (execSuspectFail p i s) := by
  unfold execSuspectFail
  exact (State.suspectCmd_frame (hM.to rfl) (fun x1 x2 h3 => (State.loseSuspect_frame (hM.to rfl) (State.noteAction_frame (hM.to rfl) h3))) hs2)

theorem execSuspectReplay_frame {M : Nat} {s0 : State} {p : Party} {i : ℕ} {s : State} (hM : Covers M 0x1d02855d00dbba) (hs2 : Frame M s0 s) :
    NextP (Frame M s0) (execSuspectReplay p i s) := by
  unfold execSuspectReplay
  refine (State.suspectCmd_frame (hM.to rfl) (fun x1 x2 h3 => ?_) hs2)
  extract_lets v4 v5
  have h6 : Frame M s0 v4 := (State.noteAction_frame (hM.to rfl) h3)
  clear_value v4
  exact (Frame.upd_faults (hM.to rfl) h6)

theorem State.snoopLost_frame {M : Nat} {s0 : State} {s : State} {tid : ℕ} (hM : Covers M 0x1f3e855d09fbb2) (hs0 : Frame M s0 s) :
    Frame M s0 (State.snoopLost s tid) := by
  unfold State.snoopLost
  extract_lets v1
  have h2 : Frame M s0 v1 := by
    unfold v1
    split
    · rename_i w3 w4 w5 w6 w7 w8
      exact (ite_rule (State.loseMember_frame (hM.to rfl) hs0) hs0)
    · rename_i w9 w10
      exact hs0
  clear_value v1
  exact (State.snoopAnswered_frame (hM.to rfl) h2)

theorem State.beginHold_frame {M : Nat} {s0 : State} {s : State} (hM : Covers M 0x202) (hs0 : Frame M s0 s) :
    Frame M s0 (State.beginHold s) := by
  unfold State.beginHold
  extract_lets v1 v2
  exact (Frame.upd_outs_faults (hM.to rfl) hs0)

theorem State.dropLaunches_frame {M : Nat} {s0 : State} {s : State} (hM : Covers M 0x800) (hs0 : Frame M s0 s) :
    Frame M s0 (State.dropLaunches s) := by
  unfold State.dropLaunches
  extract_lets v1 v2
  exact (fold_rule (Frame.upd_front (hM.to rfl) hs0) fun x3 b4 h5 => (State.modPkt_frame (hM.to rfl) h5))

theorem State.enterReset_frame {M : Nat} {s0 : State} {s : State} {g : ℕ} (hM : Covers M 0x1f3e855d09fbb2) (hs0 : Frame M s0 s) :
    Frame M s0 (State.enterReset s g) := by
  unfold State.enterReset
  extract_lets v1
  have h2 : Frame M s0 v1 := (State.noteStopped_frame (hM.to rfl) (State.dropLaunches_frame (hM.to rfl) (State.wr_frame (State.beginHold_frame (hM.to rfl) hs0) (hM.fam .fe rfl) rfl)))
  clear_value v1
  exact (State.freeTasks_frame (hM.to rfl) (fold_rule h2 fun x3 b4 h5 => (State.snoopLost_frame (hM.to rfl) h5)))

theorem State.startReset_frame {M : Nat} {s0 : State} {s : State} (hM : Covers M 0x1f3e855d09fbb2) (hs0 : Frame M s0 s) :
    Frame M s0 (State.startReset s) := by
  unfold State.startReset
  extract_lets v1 v2
  have h3 : Frame M s0 v1 := (State.err_frame (hM.to rfl) (State.incSat_frame (State.setIstate_frame (hM.to rfl) hs0) (hM.fam .err rfl) rfl) (hM.fam .err rfl))
  clear_value v1
  exact (ite_rule (State.enterReset_frame (hM.to rfl) h3) (Frame.upd_faults (hM.to rfl) h3))

theorem State.suspectAgain_frame {M : Nat} {s0 : State} {s : State} (hM : Covers M 0x200) (hs0 : Frame M s0 s) :
    Frame M s0 (State.suspectAgain s) := by
  unfold State.suspectAgain
  extract_lets v1 v2 v3
  exact (Frame.upd_faults (hM.to rfl) hs0)

theorem State.replayReset_frame {M : Nat} {s0 : State} {s : State} (hM : Covers M 0x1f3e855d09fbb2) (hs0 : Frame M s0 s) :
    Frame M s0 (State.replayReset s) := by
  unfold State.replayReset
  extract_lets v1 v2 v3 v4
  have h5 : Frame M s0 v1 := (State.suspectAgain_frame (hM.to rfl) hs0)
  clear_value v1
  have h6 : Frame M s0 v3 := (State.wr_frame h5 (hM.fam .err rfl) rfl)
  clear_value v3
  exact (State.startReset_frame (hM.to rfl) (Frame.upd_faults (hM.to rfl) h6))

theorem State.hangReplay_frame {M : Nat} {s0 : State} {s : State} (hM : Covers M 0x1f3e855d09fbb2) (hs0 : Frame M s0 s) :
    Frame M s0 (State.hangReplay s) := by
  unfold State.hangReplay
  split
  · rename_i w1 w2
    exact (State.replayReset_frame (hM.to rfl) hs0)
  · rename_i w3 w4 w5 w6
    extract_lets v7 v8 v9
    have h10 : Frame M s0 v7 := (State.err_frame (hM.to rfl) hs0 (hM.fam .err rfl))
    clear_value v7
    have h11 : Frame M s0 v9 := (Frame.upd_front (hM.to rfl) h10)
    clear_value v9
    exact (State.replayReset_frame (hM.to rfl) (State.loseSuspect_frame (hM.to rfl) (State.modPkt_frame (hM.to rfl) h11)))

theorem State.hangServing_frame {M : Nat} {s0 : State} {s : State} (hM : Covers M 0x1f3e855d09fbb2) (hs0 : Frame M s0 s) :
    Frame M s0 (State.hangServing s) := by
  unfold State.hangServing
  extract_lets v1 v2 v3
  have h4 : Frame M s0 v2 := (State.wr_frame hs0 (hM.fam .err rfl) rfl)
  clear_value v2
  exact (ite_rule (State.fatal_frame (hM.to rfl) hs0 (hM.fam .err rfl)) (State.startReset_frame (hM.to rfl) (Frame.upd_faults (hM.to rfl) h4)))

theorem State.hang_frame {M : Nat} {s0 : State} {s : State} (hM : Covers M 0x1f3e855d09fbb2) (hs0 : Frame M s0 s) :
    Frame M s0 (State.hang s) := by
  unfold State.hang
  split
  · rename_i w1 w2
    exact (State.hangServing_frame (hM.to rfl) hs0)
  · rename_i w3 w4
    exact (State.hangReplay_frame (hM.to rfl) hs0)
  · rename_i w5 w6 w7
    exact hs0

theorem State.opCrstNow_frame {M : Nat} {s0 : State} {s : State} (hM : Covers M 0x1f3e855d09fbb2) (hs0 : Frame M s0 s) :
    Frame M s0 (State.opCrstNow s) := by
  unfold State.opCrstNow
  exact (ite_rule (State.hang_frame (hM.to rfl) hs0) hs0)

theorem execCrstNow_frame {M : Nat} {s0 : State} {p : Party} {s : State} (hM : Covers M 0x1f3e855d09fbba) (hs1 : Frame M s0 s) :
    NextP (Frame M s0) (execCrstNow p s) := by
  unfold execCrstNow
  exact (State.action_frame (hM.to rfl) hs1 (hM.fam .err rfl) (fun x1 h2 => (State.opCrstNow_frame (hM.to rfl) h2)))

theorem execHbLost_frame {M : Nat} {s0 : State} {k : ℕ} {s : State} (hM : Covers M 0x1f3e855d09fbb2) (hs1 : Frame M s0 s) :
    NextP (Frame M s0) (execHbLost k s) := by
  unfold execHbLost
  exact (guarded_frame hs1 (fun x1 h2 => (State.hang_frame (hM.to rfl) (State.err_frame (hM.to rfl) h2 (hM.fam .fe rfl)))))

theorem State.opGrace_frame {M : Nat} {s0 : State} {p : ℕ} {s : State} (hM : Covers M 0x1f3e855d09fbb2) (hs1 : Frame M s0 s) :
    Frame M s0 (State.opGrace p s) := by
  unfold State.opGrace
  split
  · rename_i w1 w2
    exact hs1
  · rename_i w3 w4 w5 w6
    exact (ite_rule (State.hang_frame (hM.to rfl) hs1) hs1)

theorem State.loseWaiting_frame {M : Nat} {s0 : State} {s : State} (hM : Covers M 0x1f02855d01dbb2) (hs0 : Frame M s0 s) :
    Frame M s0 (State.loseWaiting s) := by
  unfold State.loseWaiting
  exact (fold_rule (Frame.upd_faults (hM.to rfl) hs0) fun x1 b2 h3 => (ite_rule h3 (ite_rule (State.loseSuspect_frame (hM.to rfl) h3) (State.endSuspect_frame (hM.to rfl) h3))))

theorem State.enterReplay_frame {M : Nat} {s0 : State} {s : State} (hM : Covers M 0x8000000a00) (hs0 : Frame M s0 s) :
    Frame M s0 (State.enterReplay s) := by
  unfold State.enterReplay
  extract_lets v1 v2 v3
  have h4 : Frame M s0 v1 := (State.setIstate_frame (hM.to rfl) hs0)
  clear_value v1
  exact (Frame.upd_faults_front (hM.to rfl) h4)

theorem State.opHeartbeatEnd_frame {M : Nat} {s0 : State} {s : State} (hM : Covers M 0x1f02855d01dbb2) (hs0 : Frame M s0 s) :
    Frame M s0 (State.opHeartbeatEnd s) := by
  unfold State.opHeartbeatEnd
  extract_lets v1 v2
  have h3 : Frame M s0 v1 := (State.enterReplay_frame (hM.to rfl) hs0)
  clear_value v1
  exact (ite_rule (State.endEpisode_frame (hM.to rfl) (State.loseWaiting_frame (hM.to rfl) h3)) (ite_rule (State.replay_frame (hM.to rfl) h3) (ite_rule (State.haPost_frame (hM.to rfl) h3) (State.replay_frame (hM.to rfl) (Frame.upd_faults (hM.to rfl) h3)))))

theorem execCrstHeartbeatWaitEnd_frame {M : Nat} {s0 : State} {s : State} (hM : Covers M 0x1f02855d01dbb2) (hs0 : Frame M s0 s) :
    NextP (Frame M s0) (execCrstHeartbeatWaitEnd s) := by
  unfold execCrstHeartbeatWaitEnd
  exact (guarded_frame hs0 (fun x1 h2 => (State.opHeartbeatEnd_frame (hM.to rfl) h2)))

theorem State.lsqBad_frame {M : Nat} {s0 : State} {s : State} (hM : Covers M 0x200800c000200) (hs0 : Frame M s0 s) :
    Frame M s0 (State.lsqBad s) := by
  unfold State.lsqBad
  exact (State.err_frame (hM.to rfl) (State.inc_frame hs0 (hM.fam .fe rfl) rfl) (hM.fam .fe rfl))

theorem execDcpStall_frame {M : Nat} {s0 : State} {port : ℕ} {s : State} (hM : Covers M 0x1f3e855d09fbb2) (hs1 : Frame M s0 s) :
    NextP (Frame M s0) (execDcpStall port s) := by
  unfold execDcpStall
  exact (guarded_frame hs1 (fun x1 h2 => (State.hang_frame (hM.to rfl) (State.err_frame (hM.to rfl) h2 (hM.fam .err rfl)))))

theorem State.opDeassert_frame {M : Nat} {s0 : State} {s : State} (hM : Covers M 0x202) (hs0 : Frame M s0 s) :
    Frame M s0 (State.opDeassert s) := by
  unfold State.opDeassert
  exact (Frame.upd_outs_faults (hM.to rfl) hs0)

theorem execDcpIdleTimeout_frame {M : Nat} {s0 : State} {s : State} (hM : Covers M 0x800c000202) (hs0 : Frame M s0 s) :
    NextP (Frame M s0) (execDcpIdleTimeout s) := by
  unfold execDcpIdleTimeout
  exact (guarded_frame hs0 (fun x1 h2 => (State.opDeassert_frame (hM.to rfl) (State.err_frame (hM.to rfl) h2 (hM.fam .err rfl)))))

theorem State.resendMsgs_frame {M : Nat} {s0 : State} {s : State} {p : ℕ} (hM : Covers M 0xc000000) (hs0 : Frame M s0 s) :
    Frame M s0 (State.resendMsgs s p) := by
  unfold State.resendMsgs
  split
  · rename_i w1 w2 w3 w4 w5 w6 w7
    exact (fold_rule hs0 fun x8 b9 h10 => (State.emits_frame (hM.to rfl) h10))
  · rename_i w11 w12 w13
    exact hs0

theorem State.clearCurrent_frame {M : Nat} {s0 : State} {s : State} (hM : Covers M 0x1d02855d00dbb2) (hs0 : Frame M s0 s) :
    Frame M s0 (State.clearCurrent s) := by
  unfold State.clearCurrent
  split
  · rename_i w1 w2
    exact hs0
  · rename_i w3 w4 w5
    exact (State.replay_frame (hM.to rfl) (State.endSuspect_frame (hM.to rfl) hs0))

theorem State.opProbe_frame {M : Nat} {s0 : State} {s : State} (hM : Covers M 0x1d02855d00dbb2) (hs0 : Frame M s0 s) :
    Frame M s0 (State.opProbe s) := by
  unfold State.opProbe
  split
  · rename_i w1 w2
    exact hs0
  · rename_i w3 w4 w5
    exact (ite_rule (State.clearCurrent_frame (hM.to rfl) (State.resendMsgs_frame (hM.to rfl) hs0)) hs0)

theorem State.withdrawSuspects_frame {M : Nat} {s0 : State} {s : State} (hM : Covers M 0x1d02855d00dbb2) (hs0 : Frame M s0 s) :
    Frame M s0 (State.withdrawSuspects s) := by
  unfold State.withdrawSuspects
  extract_lets v1 v2 v3
  have h4 : Frame M s0 v2 := (fold_rule hs0 fun x5 b6 h7 => (State.noteAction_frame (hM.to rfl) h7))
  clear_value v2
  exact (State.replay_frame (hM.to rfl) (State.haClear_frame (hM.to rfl) (Frame.upd_faults (hM.to rfl) h4)))

theorem execGenerationQuarantineEnd_frame {M : Nat} {s0 : State} {s : State} (hM : Covers M 0x1f3e855d09fbb2) (hs0 : Frame M s0 s) :
    NextP (Frame M s0) (execGenerationQuarantineEnd s) := by
  unfold execGenerationQuarantineEnd
  exact (guarded_frame hs0 (fun x1 h2 => (State.enterReset_frame (hM.to rfl) h2)))

theorem State.endLaunch_frame {M : Nat} {s0 : State} {s : State} {id : ℕ} {l : Launch} (hM : Covers M 0x1f02855d01dbb2) (hs0 : Frame M s0 s) :
    Frame M s0 (State.endLaunch s id l) := by
  unfold State.endLaunch
  extract_lets v1 v2 v3 v4 v5
  have h6 : Frame M s0 v2 := (Frame.upd_front (hM.to rfl) hs0)
  clear_value v2
  have h7 : Frame M s0 v3 := (State.finish_frame (hM.to rfl) h6)
  clear_value v3
  have h8 : Frame M s0 v5 := (ite_rule (State.err_frame (hM.to rfl) h7 (hM.fam .err rfl)) h7)
  clear_value v5
  exact (State.noteStopped_frame (hM.to rfl) (ite_rule (State.freeTasks_frame (hM.to rfl) h8) h8))

theorem State.addBusy_frame {M : Nat} {s0 : State} {s : State} {l : Launch} {busyNs : ℕ} (hM : Covers M 0x102855d00d3b2) (hs0 : Frame M s0 s) :
    Frame M s0 (State.addBusy s l busyNs) := by
  unfold State.addBusy
  exact (ite_rule (State.addCtr_frame (hM.to rfl) hs0) (State.addCtr_frame (hM.to rfl) hs0))

theorem State.opDone_frame {M : Nat} {s0 : State} {k : ℕ} {gen : ℕ} {id : ℕ} {status : ℕ} {busyNs : ℕ} {s : State} (hM : Covers M 0x1f02855d01dbb2) (hs5 : Frame M s0 s) :
    Frame M s0 (State.opDone k gen id status busyNs s) := by
  unfold State.opDone
  refine (ite_rule (State.staleGen_frame (hM.to rfl) hs5) ?_)
  split
  · rename_i w1 w2
    exact (State.lsqBad_frame (hM.to rfl) hs5)
  · rename_i w3 w4 w5
    refine (ite_rule (State.lsqBad_frame (hM.to rfl) hs5) ?_)
    extract_lets v6 v7 v8 v9 v10 v11
    have h12 : Frame M s0 v8 := (State.addBusy_frame (hM.to rfl) (State.setSeq_frame (hM.to rfl) hs5))
    clear_value v8
    have h13 : Frame M s0 v11 := (State.endLaunch_frame (hM.to rfl) h12)
    clear_value v11
    exact (ite_rule (Frame.upd_front (hM.to rfl) h12) (ite_rule (State.clearCurrent_frame (hM.to rfl) h13) (State.replay_frame (hM.to rfl) h13)))

theorem State.opWatchdog_frame {M : Nat} {s0 : State} {p : ℕ} {s : State} (hM : Covers M 0xc000800) (hs1 : Frame M s0 s) :
    Frame M s0 (State.opWatchdog p s) := by
  unfold State.opWatchdog
  split
  · rename_i w1 w2
    exact hs1
  · rename_i w3 w4 w5 w6
    refine (ite_rule hs1 ?_)
    extract_lets v7 v8
    have h9 : Frame M s0 v7 := (State.abortPkt_frame (hM.to rfl) (State.sendAborts_frame (hM.to rfl) hs1))
    clear_value v7
    exact (Frame.upd_front (hM.to rfl) h9)

theorem State.opMsgDone_frame {M : Nat} {s0 : State} {k : ℕ} {gen : ℕ} {id : ℕ} {msgId : ℕ} {status : ℕ} {s : State} (hM : Covers M 0x200800c000a00) (hs5 : Frame M s0 s) :
    Frame M s0 (State.opMsgDone k gen id msgId status s) := by
  unfold State.opMsgDone
  refine (ite_rule (State.staleGen_frame (hM.to rfl) hs5) ?_)
  split
  · rename_i w1 w2 w3 w4 w5 w6
    exact (State.finish_frame (hM.to rfl) hs5)
  · rename_i w7 w8 w9
    exact (State.lsqBad_frame (hM.to rfl) hs5)

theorem execMsgDone_frame {M : Nat} {s0 : State} {k : ℕ} {gen : ℕ} {id : ℕ} {msgId : ℕ} {status : ℕ} {s : State} (hM : Covers M 0x200800c000a00) (hs5 : Frame M s0 s) :
    NextP (Frame M s0) (execMsgDone k gen id msgId status s) := by
  unfold execMsgDone
  exact (guarded_frame hs5 (fun x1 h2 => (State.opMsgDone_frame (hM.to rfl) h2)))

theorem execPersistProbeExpiry_frame {M : Nat} {s0 : State} {s : State} (hM : Covers M 0x1d02855d00dbb2) (hs0 : Frame M s0 s) :
    NextP (Frame M s0) (execPersistProbeExpiry s) := by
  unfold execPersistProbeExpiry
  exact (guarded_frame hs0 (fun x1 h2 => (State.opProbe_frame (hM.to rfl) h2)))

theorem execSeqDone_frame {M : Nat} {s0 : State} {k : ℕ} {gen : ℕ} {id : ℕ} {status : ℕ} {busyNs : ℕ} {s : State} (hM : Covers M 0x1f02855d01dbb2) (hs5 : Frame M s0 s) :
    NextP (Frame M s0) (execSeqDone k gen id status busyNs s) := by
  unfold execSeqDone
  exact (guarded_frame hs5 (fun x1 h2 => (State.opDone_frame (hM.to rfl) h2)))

theorem execLsqProtocol_frame {M : Nat} {s0 : State} {_k : ℕ} {_kind : ℕ} {_gen : ℕ} {_id : ℕ} {s : State} (hM : Covers M 0x200800c000200) (hs4 : Frame M s0 s) :
    NextP (Frame M s0) (execLsqProtocol _k _kind _gen _id s) := by
  unfold execLsqProtocol
  exact (guarded_frame hs4 (fun x1 h2 => (State.lsqBad_frame (hM.to rfl) h2)))

theorem execWatchdogGraceExpiry_frame {M : Nat} {s0 : State} {p : ℕ} {s : State} (hM : Covers M 0x1f3e855d09fbb2) (hs1 : Frame M s0 s) :
    NextP (Frame M s0) (execWatchdogGraceExpiry p s) := by
  unfold execWatchdogGraceExpiry
  exact (guarded_frame hs1 (fun x1 h2 => (State.opGrace_frame (hM.to rfl) h2)))

theorem State.opHeartbeat_frame {M : Nat} {s0 : State} {k : ℕ} {gen : ℕ} {s : State} (hM : Covers M 0xa00) (hs2 : Frame M s0 s) :
    Frame M s0 (State.opHeartbeat k gen s) := by
  unfold State.opHeartbeat
  refine (ite_rule hs2 ?_)
  extract_lets v1 v2 v3
  have h4 : Frame M s0 v2 := (State.setSeq_frame (hM.to rfl) hs2)
  clear_value v2
  exact (Frame.upd_faults (hM.to rfl) h4)

theorem execCrstDeassert_frame {M : Nat} {s0 : State} {s : State} (hM : Covers M 0x202) (hs0 : Frame M s0 s) :
    NextP (Frame M s0) (execCrstDeassert s) := by
  unfold execCrstDeassert
  exact (guarded_frame hs0 (fun x1 h2 => (State.opDeassert_frame (hM.to rfl) h2)))

theorem execResume_frame {M : Nat} {s0 : State} {p : ℕ} {s : State} (hM : Covers M 0x1f02855d01dbb2) (hs1 : Frame M s0 s) :
    NextP (Frame M s0) (execResume p s) := by
  unfold execResume
  exact (State.perform_frame (hM.to rfl) hs1 (fun x1 x2 h3 => (ite_rule (State.kres_frame (hM.to rfl) h3) (State.replay_frame (hM.to rfl) (State.kres_frame (hM.to rfl) (State.saveRecord_frame (hM.to rfl) (Frame.upd_sync (hM.to rfl) h3)))))))

theorem execWatchdogExpiry_frame {M : Nat} {s0 : State} {p : ℕ} {s : State} (hM : Covers M 0xc000800) (hs1 : Frame M s0 s) :
    NextP (Frame M s0) (execWatchdogExpiry p s) := by
  unfold execWatchdogExpiry
  exact (guarded_frame hs1 (fun x1 h2 => (State.opWatchdog_frame (hM.to rfl) h2)))

theorem execCrstHoldExpiry_frame {M : Nat} {s0 : State} {s : State} (hM : Covers M 0x200) (hs0 : Frame M s0 s) :
    NextP (Frame M s0) (execCrstHoldExpiry s) := by
  unfold execCrstHoldExpiry
  exact (guarded_frame hs0 (fun x1 h2 => (Frame.upd_faults (hM.to rfl) h2)))

theorem execHeartbeat_frame {M : Nat} {s0 : State} {k : ℕ} {gen : ℕ} {_running : ℕ} {_seqNo : ℕ} {s : State} (hM : Covers M 0xa00) (hs4 : Frame M s0 s) :
    NextP (Frame M s0) (execHeartbeat k gen _running _seqNo s) := by
  unfold execHeartbeat
  exact (guarded_frame hs4 (fun x1 h2 => (State.opHeartbeat_frame (hM.to rfl) h2)))

end Sys2Proof.Machine
end

