-- ==== Sys2Proof/Laws/FrameWeights.lean ====
section
/-! SUPPORT. What each operation and each meaning of Machine/Weights.lean can change: it keeps the frame `Frame M s0` for every set `M` that
has the parts it names, given that its arguments keep it. -/

namespace Sys2Proof.Machine

theorem State.lastRefuse_frame {M : Nat} {s0 : State} {s : State} {source : ℕ} {code : ℕ} (hM : Covers M 0x100000000) (hs0 : Frame M s0 s) :
    Frame M s0 (State.lastRefuse s source code) := by
  unfold State.lastRefuse
  exact (State.wr_frame (State.wr_frame hs0 (hM.fam .key rfl) rfl) (hM.fam .key rfl) rfl)

theorem State.endFill_frame {M : Nat} {s0 : State} {s : State} {n : ℕ} (hM : Covers M 0x20000004000) (hs0 : Frame M s0 s) :
    Frame M s0 (State.endFill s n) := by
  unfold State.endFill
  extract_lets v1 v2
  have h3 : Frame M s0 v1 := (ite_rule (State.wr_frame hs0 (hM.fam .mch rfl) rfl) hs0)
  clear_value v1
  exact (Frame.upd_mem (hM.to rfl) rfl h3)

theorem State.sealFail_frame {M : Nat} {s0 : State} {s : State} {n : ℕ} (hM : Covers M 0x2815c00c220) (hs0 : Frame M s0 s) :
    Frame M s0 (State.sealFail s n) := by
  unfold State.sealFail
  extract_lets v1
  exact (State.err_frame (hM.to rfl) (State.endFill_frame (hM.to rfl) (State.reinit_frame (hM.to rfl) (State.setRat_frame (hM.to rfl) hs0))) (hM.fam .mch rfl))

theorem execUnwrapAbandon_frame {M : Nat} {s0 : State} {entry : ℕ} {s : State} (hM : Covers M 0x2815c00c220) (hs1 : Frame M s0 s) :
    NextP (Frame M s0) (execUnwrapAbandon entry s) := by
  unfold execUnwrapAbandon
  exact (guarded_frame hs1 (fun x1 h2 => (State.sealFail_frame (hM.to rfl) h2)))

theorem State.opChunk_frame {M : Nat} {s0 : State} {s : State} {u : Unwrap} (hM : Covers M 0x1f02855d01dbb2) (hs0 : Frame M s0 s) :
    Frame M s0 (State.opChunk s u) := by
  unfold State.opChunk
  extract_lets v1 v2 v3 v4 v5 v6 v7 v8
  have h9 : StP (Frame M s0) v3 := (State.readAs_frame (hM.to rfl) hs0)
  clear_value v3
  have h10 : Frame M s0 v6 := (State.inc_frame (State.writePhys_frame (hM.to rfl) h9) (hM.fam .mch rfl) rfl)
  clear_value v6
  have h11 : Frame M s0 v8 := (Frame.upd_mem (hM.to rfl) rfl h10)
  clear_value v8
  exact (ite_rule (State.sealFail_frame (hM.to rfl) h9) (ite_rule (Frame.upd_mem (hM.to rfl) rfl h10) (State.wr_frame (State.setRat_frame (hM.to rfl) h11) (hM.fam .mch rfl) rfl)))

theorem State.opUnwrap_frame {M : Nat} {s0 : State} {p : ℕ} {p1 : Pkt} {s : State} (hM : Covers M 0x1f02855d01dbb2) (hs2 : Frame M s0 s) :
    Frame M s0 (State.opUnwrap p p1 s) := by
  unfold State.opUnwrap
  extract_lets v1 v2 v3 v4 v5 v6 v7 v8 v9
  have h10 : StP (Frame M s0) v4 := (State.readAs_frame (hM.to rfl) hs2)
  clear_value v4
  have h11 : Frame M s0 v6 := (State.saddled_frame (hM.to rfl) (State.wr_frame (State.wr_frame (State.wr_frame h10 (hM.fam .mch rfl) rfl) (hM.fam .mch rfl) rfl) (hM.fam .mch rfl) rfl))
  clear_value v6
  exact (ite_rule (State.kres_frame (hM.to rfl) (State.lastRefuse_frame (hM.to rfl) hs2)) (ite_rule (State.kres_frame (hM.to rfl) (State.lastRefuse_frame (hM.to rfl) (State.sealFail_frame (hM.to rfl) hs2))) (ite_rule (State.finish_frame (hM.to rfl) (Frame.upd_mem (hM.to rfl) rfl h11)) (State.kres_frame (hM.to rfl) (State.lastRefuse_frame (hM.to rfl) (State.sealFail_frame (hM.to rfl) h10))))))

theorem execUnwrap_frame {M : Nat} {s0 : State} {p : ℕ} {s : State} (hM : Covers M 0x1f02855d01dbb2) (hs1 : Frame M s0 s) :
    NextP (Frame M s0) (execUnwrap p s) := by
  unfold execUnwrap
  exact (State.perform_frame (hM.to rfl) hs1 (fun x1 x2 h3 => (State.opUnwrap_frame (hM.to rfl) h3)))

theorem execUnwrapChunk_frame {M : Nat} {s0 : State} {s : State} (hM : Covers M 0x1f02855d01dbb2) (hs0 : Frame M s0 s) :
    NextP (Frame M s0) (execUnwrapChunk s) := by
  unfold execUnwrapChunk
  refine (guarded_frame hs0 (fun x1 h2 => ?_))
  split
  · rename_i w3 w4 w5
    exact (State.orWait_frame (hM.to rfl) h2 (fun x6 h7 => (State.opChunk_frame (hM.to rfl) h7)))
  · rename_i w8 w9
    exact h2

theorem State.useKey_frame {M : Nat} {s0 : State} {s : State} {n : ℕ} {k : ℕ} (hM : Covers M 0x4000) (hs0 : Frame M s0 s) :
    Frame M s0 (State.useKey s n k) := by
  unfold State.useKey
  exact (Frame.upd_mem (hM.to rfl) rfl hs0)

theorem State.opSeal_frame {M : Nat} {s0 : State} {p : ℕ} {p1 : Pkt} {s : State} (hM : Covers M 0x2815c00ca20) (hs2 : Frame M s0 s) :
    Frame M s0 (State.opSeal p p1 s) := by
  unfold State.opSeal
  extract_lets v1 v2 v3
  exact (ite_rule (State.kres_frame (hM.to rfl) hs2) (ite_rule (State.kres_frame (hM.to rfl) hs2) (State.finish_frame (hM.to rfl) (State.useKey_frame (hM.to rfl) (State.reinit_frame (hM.to rfl) (State.setRat_frame (hM.to rfl) hs2))))))

theorem execSeal_frame {M : Nat} {s0 : State} {p : ℕ} {s : State} (hM : Covers M 0x2815c00ca20) (hs1 : Frame M s0 s) :
    NextP (Frame M s0) (execSeal p s) := by
  unfold execSeal
  exact (State.perform_frame (hM.to rfl) hs1 (fun x1 x2 h3 => (State.opSeal_frame (hM.to rfl) h3)))

end Sys2Proof.Machine
end

