-- ==== Sys2Proof/Laws/FrameKeys.lean ====
section
/-! SUPPORT. What each operation and each meaning of Machine/Keys.lean can change: it keeps the frame `Frame M s0` for every set `M` that
has the parts it names, given that its arguments keep it. -/

namespace Sys2Proof.Machine

theorem State.saddleAdd_frame {M : Nat} {s0 : State} {s : State} {prio : ℕ} {u : SaddleUse} (hM : Covers M 0x200000) (hs0 : Frame M s0 s) :
    Frame M s0 (State.saddleAdd s prio u) := by
  unfold State.saddleAdd
  exact (Frame.upd_trust (hM.to rfl) hs0)

theorem State.setSlot_frame {M : Nat} {s0 : State} {s : State} {n : ℕ} {p2 : Slot} (hM : Covers M 0x200000) (hs0 : Frame M s0 s) :
    Frame M s0 (State.setSlot s n p2) := by
  unfold State.setSlot
  exact (Frame.upd_trust (hM.to rfl) hs0)

theorem State.setCcip_frame {M : Nat} {s0 : State} {s : State} {n : ℕ} {c : Ccip} (hM : Covers M 0x400000) (hs0 : Frame M s0 s) :
    Frame M s0 (State.setCcip s n c) := by
  unfold State.setCcip
  exact (Frame.upd_ccip (hM.to rfl) hs0)

theorem State.ccipKey_frame {M : Nat} {s0 : State} {s : State} {n : ℕ} {k : Option (Bool × Key256)} (hM : Covers M 0x10000400000) (hs0 : Frame M s0 s) :
    Frame M s0 (State.ccipKey s n k) := by
  unfold State.ccipKey
  extract_lets v1 v2 v3
  have h4 : Frame M s0 v3 := (State.setCcip_frame (hM.to rfl) hs0)
  clear_value v3
  exact (State.wr_frame (State.wr_frame h4 (hM.fam .ccip rfl) rfl) (hM.fam .ccip rfl) rfl)

theorem State.ccipKeyDone_frame {M : Nat} {s0 : State} {s : State} {n : ℕ} {code : ℕ} (hM : Covers M 0x1800c000200) (hs0 : Frame M s0 s) :
    Frame M s0 (State.ccipKeyDone s n code) := by
  unfold State.ccipKeyDone
  extract_lets v1 v2
  have h3 : Frame M s0 v2 := (State.wr_frame (State.wr_frame (State.wr_frame hs0 (hM.fam .ccip rfl) rfl) (hM.fam .ccip rfl) rfl) (hM.fam .ccip rfl) rfl)
  clear_value v2
  exact (ite_rule h3 (State.err_frame (hM.to rfl) h3 (hM.fam .ccip rfl)))

theorem State.dlkBegun_frame {M : Nat} {s0 : State} {s : State} (hM : Covers M 0x100850c000280) (hs0 : Frame M s0 s) :
    Frame M s0 (State.dlkBegun s) := by
  unfold State.dlkBegun
  exact (fold_rule hs0 fun x1 b2 h3 => (ite_rule (State.readyRekey_frame (hM.to rfl) h3) (ite_rule (State.progress_frame (hM.to rfl) h3) h3)))

theorem State.saddleFail_frame {M : Nat} {s0 : State} {s : State} {u : SaddleUse} (hM : Covers M 0x101850c000392) (hs0 : Frame M s0 s) :
    Frame M s0 (State.saddleFail s u) := by
  unfold State.saddleFail
  extract_lets v1
  have h2 : Frame M s0 v1 := by
    unfold v1
    split
    · rename_i w3 w4 w5
      exact (State.ccipKeyDone_frame (hM.to rfl) hs0)
    · rename_i w6 w7 w8 w9
      exact (State.ccipKeyDone_frame (hM.to rfl) hs0)
    · rename_i w10 w11 w12 w13 w14 w15 w16 w17
      exact hs0
  clear_value v1
  exact (State.fatal_frame (hM.to rfl) h2 (hM.fam .key rfl))

theorem State.koSend_frame {M : Nat} {s0 : State} {s : State} {op : ℕ} {session : ℕ} {stream : ℕ} {kset : ℕ} {dir : ℕ} {sub : ℕ} {key : Key256} {ifv : W64} (hM : Covers M 0xc200000) (hs0 : Frame M s0 s) :
    Frame M s0 (State.koSend s op session stream kset dir sub key ifv) := by
  unfold State.koSend
  exact (State.emit_frame (hM.to rfl) (Frame.upd_trust (hM.to rfl) hs0))

theorem State.saddleDo_frame {M : Nat} {s0 : State} {s : State} {u : SaddleUse} (hM : Covers M 0x1811c600200) (hs0 : Frame M s0 s) :
    Frame M s0 (State.saddleDo s u) := by
  unfold State.saddleDo
  split
  · rename_i w1 w2 w3
    extract_lets v4
    have h5 : SndP (Frame M s0) v4 := (State.draw_frame (hM.to rfl) hs0)
    clear_value v4
    exact (State.ccipKeyDone_frame (hM.to rfl) (State.ccipKey_frame (hM.to rfl) (State.saddled_frame (hM.to rfl) h5)))
  · rename_i w6 w7 w8 w9
    exact (ite_rule (State.ccipKeyDone_frame (hM.to rfl) (State.ccipKey_frame (hM.to rfl) (State.saddled_frame (hM.to rfl) hs0))) (State.ccipKeyDone_frame (hM.to rfl) hs0))
  · rename_i w10 w11 w12 w13 w14 w15 w16 w17
    exact (State.koSend_frame (hM.to rfl) (State.saddled_frame (hM.to rfl) hs0))

theorem State.opSaddle_frame {M : Nat} {s0 : State} {ok : Bool} {s : State} (hM : Covers M 0x101851c600392) (hs1 : Frame M s0 s) :
    Frame M s0 (State.opSaddle ok s) := by
  unfold State.opSaddle
  split
  · rename_i w1 w2
    exact hs1
  · rename_i w3 w4 w5
    extract_lets v6 v7 v8 v9
    have h10 : Frame M s0 v8 := (Frame.upd_trust (hM.to rfl) hs1)
    clear_value v8
    have h11 : Frame M s0 v9 := (State.err_frame (hM.to rfl) (Frame.upd_trust (hM.to rfl) hs1) (hM.fam .key rfl))
    clear_value v9
    refine (ite_rule (State.saddleDo_frame (hM.to rfl) h10) (ite_rule (State.saddleFail_frame (hM.to rfl) h10) ?_))
    split
    · rename_i w12 w13 w14 w15
      exact (State.draw_frame (hM.to rfl) h11)
    · rename_i w16 w17
      exact h11

theorem State.keyLoad_frame {M : Nat} {s0 : State} {s : State} {p : ℕ} {isOp : ℕ → Bool} {f : ℕ → ℕ → State → ℕ × State} (hM : Covers M 0x100004800) (hs0 : Frame M s0 s) (hs3 : ∀ y0 y1 y2, Frame M s0 y2 → SndP (Frame M s0) (f y0 y1 y2)) :
    NextP (Frame M s0) (State.keyLoad s p isOp f) := by
  unfold State.keyLoad
  split
  · rename_i w1 w2
    exact (NextP.next hs0)
  · rename_i w3 w4 w5
    refine (ite_rule (P := (NextP (Frame M s0))) (NextP.next hs0) (State.perform_frame (hM.to rfl) hs0 (fun x6 x7 h8 => ?_)))
    extract_lets v9
    have h10 : SndP (Frame M s0) v9 := (hs3 _ _ _ h8)
    clear_value v9
    exact (ite_rule (State.finish_frame (hM.to rfl) h10) (State.finish_frame (hM.to rfl) (State.lastRefuse_frame (hM.to rfl) h10)))

theorem State.keepMeas_frame {M : Nat} {s0 : State} {s : State} (hM : Covers M 0x200000) (hs0 : Frame M s0 s) :
    Frame M s0 (State.keepMeas s) := by
  unfold State.keepMeas
  exact (Frame.upd_trust (hM.to rfl) hs0)

theorem State.putAnchor_frame {M : Nat} {s0 : State} {s : State} {l : List Byte} (hM : Covers M 0x200000) (hs0 : Frame M s0 s) :
    Frame M s0 (State.putAnchor s l) := by
  unfold State.putAnchor
  exact (State.keepMeas_frame (hM.to rfl) (State.setSlot_frame (hM.to rfl) hs0))

theorem State.opAnchor_frame {M : Nat} {s0 : State} {src : ℕ} {s : State} (hM : Covers M 0x1f02855d21dbb2) (hs1 : Frame M s0 s) :
    SndP (Frame M s0) (State.opAnchor src s) := by
  unfold State.opAnchor
  refine (ite_rule (P := (SndP (Frame M s0))) hs1 ?_)
  extract_lets v1
  have h2 : StP (Frame M s0) v1 := (State.readAs_frame (hM.to rfl) hs1)
  clear_value v1
  exact (ite_rule (P := (SndP (Frame M s0))) hs1 (State.putAnchor_frame (hM.to rfl) h2))

theorem execKeyLoadAnchor_frame {M : Nat} {s0 : State} {p : ℕ} {s : State} (hM : Covers M 0x1f02855d21dfb2) (hs1 : Frame M s0 s) :
    NextP (Frame M s0) (execKeyLoadAnchor p s) := by
  unfold execKeyLoadAnchor
  refine (ite_rule (P := (NextP (Frame M s0))) ?_ (State.keyLoad_frame (hM.to rfl) hs1 (fun x1 x2 x3 h4 => (State.opAnchor_frame (hM.to rfl) h4))))
  split
  · rename_i w5 w6
    exact (NextP.next hs1)
  · rename_i w7 w8 w9
    exact (ite_rule (P := (NextP (Frame M s0))) (NextP.next hs1) (State.perform_frame (hM.to rfl) hs1 (fun x10 x11 h12 => (ite_rule (State.finish_frame (hM.to rfl) (State.lastRefuse_frame (hM.to rfl) h12)) (State.hostRead_frame (hM.to rfl) h12)))))

theorem State.opErase_frame {M : Nat} {s0 : State} {n : ℕ} {s : State} (hM : Covers M 0x200000) (hs1 : Frame M s0 s) :
    SndP (Frame M s0) (State.opErase n s) := by
  unfold State.opErase
  extract_lets v1
  exact (ite_rule (P := (SndP (Frame M s0))) hs1 (ite_rule (P := (SndP (Frame M s0))) hs1 (State.setSlot_frame (hM.to rfl) hs1)))

theorem State.opConfEnter_frame {M : Nat} {s0 : State} {s : State} (hM : Covers M 0x3101000000) (hs0 : Frame M s0 s) :
    SndP (Frame M s0) (State.opConfEnter s) := by
  unfold State.opConfEnter
  refine (ite_rule (P := (SndP (Frame M s0))) hs0 (ite_rule (P := (SndP (Frame M s0))) hs0 ?_))
  extract_lets v1 v2
  have h3 : Frame M s0 v1 := (State.wr_frame (State.wr_frame (State.wr_frame hs0 (hM.fam .key rfl) rfl) (hM.fam .cnt rfl) rfl) (hM.fam .trc rfl) rfl)
  clear_value v1
  exact (Frame.upd_dbg (hM.to rfl) h3)

theorem execConfEnter_frame {M : Nat} {s0 : State} {p : ℕ} {s : State} (hM : Covers M 0x3101004800) (hs1 : Frame M s0 s) :
    NextP (Frame M s0) (execConfEnter p s) := by
  unfold execConfEnter
  exact (State.keyLoad_frame (hM.to rfl) hs1 (fun x1 x2 x3 h4 => (State.opConfEnter_frame (hM.to rfl) h4)))

theorem State.anchorRead_frame {M : Nat} {s0 : State} {s : State} {p : ℕ} {ok : Bool} {l : List Byte} (hM : Covers M 0x100200800) (hs0 : Frame M s0 s) :
    Frame M s0 (State.anchorRead s p ok l) := by
  unfold State.anchorRead
  exact (ite_rule (State.finish_frame (hM.to rfl) (State.lastRefuse_frame (hM.to rfl) hs0)) (ite_rule (State.finish_frame (hM.to rfl) (State.lastRefuse_frame (hM.to rfl) hs0)) (State.finish_frame (hM.to rfl) (State.putAnchor_frame (hM.to rfl) hs0))))

theorem State.opActivate_frame {M : Nat} {s0 : State} {n : ℕ} {s : State} (hM : Covers M 0x100850c200280) (hs1 : Frame M s0 s) :
    SndP (Frame M s0) (State.opActivate n s) := by
  unfold State.opActivate
  extract_lets v1
  exact (ite_rule (P := (SndP (Frame M s0))) hs1 (ite_rule (P := (SndP (Frame M s0))) hs1 (State.dlkBegun_frame (hM.to rfl) (State.setSlot_frame (hM.to rfl) hs1))))

theorem execDlkActivate_frame {M : Nat} {s0 : State} {p : ℕ} {s : State} (hM : Covers M 0x100850c204a80) (hs1 : Frame M s0 s) :
    NextP (Frame M s0) (execDlkActivate p s) := by
  unfold execDlkActivate
  exact (State.keyLoad_frame (hM.to rfl) hs1 (fun x1 x2 x3 h4 => (State.opActivate_frame (hM.to rfl) h4)))

theorem execSaddleOperation_frame {M : Nat} {s0 : State} {checkOk : Bool} {s : State} (hM : Covers M 0x101851c600392) (hs1 : Frame M s0 s) :
    NextP (Frame M s0) (execSaddleOperation checkOk s) := by
  unfold execSaddleOperation
  exact (guarded_frame hs1 (fun x1 h2 => (State.opSaddle_frame (hM.to rfl) h2)))

theorem State.eraseKeys_frame {M : Nat} {s0 : State} {s : State} (hM : Covers M 0x200000) (hs0 : Frame M s0 s) :
    Frame M s0 (State.eraseKeys s) := by
  unfold State.eraseKeys
  exact (Frame.upd_trust (hM.to rfl) hs0)

theorem execErase_frame {M : Nat} {s0 : State} {p : ℕ} {s : State} (hM : Covers M 0x100204800) (hs1 : Frame M s0 s) :
    NextP (Frame M s0) (execErase p s) := by
  unfold execErase
  exact (State.keyLoad_frame (hM.to rfl) hs1 (fun x1 x2 x3 h4 => (State.opErase_frame (hM.to rfl) h4)))

theorem execKeyLoadInvalidOp_frame {M : Nat} {s0 : State} {p : ℕ} {s : State} (hM : Covers M 0x100004800) (hs1 : Frame M s0 s) :
    NextP (Frame M s0) (execKeyLoadInvalidOp p s) := by
  unfold execKeyLoadInvalidOp
  exact (State.keyLoad_frame (hM.to rfl) hs1 (fun x1 x2 x3 h4 => h4))

end Sys2Proof.Machine
end

