-- ==== Sys2Proof/Laws/FrameControl.lean ====
section
/-! SUPPORT. What each operation and each meaning of Machine/Control.lean can change: it keeps the frame `Frame M s0` for every set `M` that
has the parts it names, given that its arguments keep it. -/

namespace Sys2Proof.Machine

theorem State.keyReq_frame {M : Nat} {s0 : State} {s : State} {n : ℕ} {src : ℕ} {slot : ℕ} {small : Bool} {erase : Bool} {slotOk : Bool} (hM : Covers M 0x1810c600200) (hs0 : Frame M s0 s) :
    Frame M s0 (State.keyReq s n src slot small erase slotOk) := by
  unfold State.keyReq
  extract_lets v1 v2 v3
  have h4 : Frame M s0 v3 := (State.wr_frame (State.wr_frame hs0 (hM.fam .ccip rfl) rfl) (hM.fam .ccip rfl) rfl)
  clear_value v3
  exact (ite_rule (State.err_frame (hM.to rfl) (State.wr_frame (State.err_frame (hM.to rfl) hs0 (hM.fam .ccip rfl)) (hM.fam .ccip rfl) rfl) (hM.fam .ccip rfl)) (ite_rule (State.ccipKeyDone_frame (hM.to rfl) (State.ccipKey_frame (hM.to rfl) hs0)) (ite_rule (State.ccipKeyDone_frame (hM.to rfl) hs0) (ite_rule (State.ccipKeyDone_frame (hM.to rfl) hs0) (ite_rule (State.ccipKeyDone_frame (hM.to rfl) hs0) (ite_rule (State.ccipKeyDone_frame (hM.to rfl) (State.err_frame (hM.to rfl) (State.setSlot_frame (hM.to rfl) hs0) (hM.fam .key rfl))) (State.saddleAdd_frame (hM.to rfl) h4)))))))

theorem State.keyReqWord_frame {M : Nat} {s0 : State} {n : ℕ} {v : W32} {s : State} (hM : Covers M 0x1810c600200) (hs2 : Frame M s0 s) :
    Frame M s0 (State.keyReqWord n v s) := by
  unfold State.keyReqWord
  exact (State.keyReq_frame (hM.to rfl) hs2)

theorem State.opAbort_frame {M : Nat} {s0 : State} {n : ℕ} {s : State} (hM : Covers M 0x400000) (hs1 : Frame M s0 s) :
    Frame M s0 (State.opAbort n s) := by
  unfold State.opAbort
  exact (ite_rule (State.setCcip_frame (hM.to rfl) hs1) hs1)

theorem State.ccipDo_frame {M : Nat} {s0 : State} {s : State} {p : Party} {n : ℕ} {f : State → State} (hM : Covers M 0x1800c000208) (hs0 : Frame M s0 s) (hs3 : ∀ y0, Frame M s0 y0 → Frame M s0 (f y0)) :
    NextP (Frame M s0) (State.ccipDo s p n f) := by
  unfold State.ccipDo
  exact (State.action_frame (hM.to rfl) hs0 (hM.fam .ccip rfl) (fun x1 h2 => (ite_rule (hs3 _ h2) (State.err_frame (hM.to rfl) h2 (hM.fam .ccip rfl)))))

theorem execCcipAbort_frame {M : Nat} {s0 : State} {p : Party} {page : ℕ} {s : State} (hM : Covers M 0x1800c400208) (hs2 : Frame M s0 s) :
    NextP (Frame M s0) (execCcipAbort p page s) := by
  unfold execCcipAbort
  exact (State.ccipDo_frame (hM.to rfl) hs2 (fun x1 h2 => (State.opAbort_frame (hM.to rfl) h2)))

theorem State.opCcipStart_frame {M : Nat} {s0 : State} {n : ℕ} {s : State} (hM : Covers M 0x1800c400200) (hs1 : Frame M s0 s) :
    Frame M s0 (State.opCcipStart n s) := by
  unfold State.opCcipStart
  extract_lets v1 v2
  exact (ite_rule (State.err_frame (hM.to rfl) hs1 (hM.fam .ccip rfl)) (State.wr_frame (State.wr_frame (State.setCcip_frame (hM.to rfl) hs1) (hM.fam .ccip rfl) rfl) (hM.fam .ccip rfl) rfl))

theorem execCcipStart_frame {M : Nat} {s0 : State} {p : Party} {page : ℕ} {s : State} (hM : Covers M 0x1800c400208) (hs2 : Frame M s0 s) :
    NextP (Frame M s0) (execCcipStart p page s) := by
  unfold execCcipStart
  exact (State.ccipDo_frame (hM.to rfl) hs2 (fun x1 h2 => (State.opCcipStart_frame (hM.to rfl) h2)))

theorem State.setWindow_frame {M : Nat} {s0 : State} {s : State} {n : ℕ} {l : List Byte} (hM : Covers M 0x10000000000) (hs0 : Frame M s0 s) :
    Frame M s0 (State.setWindow s n l) := by
  unfold State.setWindow
  refine (fold_rule hs0 fun x1 b2 h3 => ?_)
  extract_lets v4 v5
  exact (State.wr_frame h3 (hM.fam .ccip rfl) rfl)

theorem State.clearWindow_frame {M : Nat} {s0 : State} {s : State} {n : ℕ} (hM : Covers M 0x10000000000) (hs0 : Frame M s0 s) :
    Frame M s0 (State.clearWindow s n) := by
  unfold State.clearWindow
  exact (State.setWindow_frame (hM.to rfl) hs0)

theorem State.jobEnd_frame {M : Nat} {s0 : State} {s : State} {n : ℕ} {code : ℕ} {outLen : ℕ} {blocks : ℕ} (hM : Covers M 0x1800c400200) (hs0 : Frame M s0 s) :
    Frame M s0 (State.jobEnd s n code outLen blocks) := by
  unfold State.jobEnd
  extract_lets v1 v2 v3 v4 v5 v6
  have h7 : Frame M s0 v3 := (State.setCcip_frame (hM.to rfl) hs0)
  clear_value v3
  have h8 : Frame M s0 v4 := (ite_rule h7 (State.clearWindow_frame (hM.to rfl) h7))
  clear_value v4
  have h9 : Frame M s0 v5 := (State.wr_frame (State.wr_frame (State.wr_frame h8 (hM.fam .ccip rfl) rfl) (hM.fam .ccip rfl) rfl) (hM.fam .ccip rfl) rfl)
  clear_value v5
  have h10 : Frame M s0 v6 := (State.add_frame (State.wr_frame h9 (hM.fam .ccip rfl) rfl) (hM.fam .ccip rfl) rfl)
  clear_value v6
  exact (ite_rule h10 (State.err_frame (hM.to rfl) h10 (hM.fam .ccip rfl)))

theorem State.engineOut_frame {M : Nat} {s0 : State} {s : State} (hM : Covers M 0x1800c000200) (hs0 : Frame M s0 s) :
    Frame M s0 (State.engineOut s) := by
  unfold State.engineOut
  exact (fold_rule hs0 fun x1 b2 h3 => (State.err_frame (hM.to rfl) (State.wr_frame h3 (hM.fam .ccip rfl) rfl) (hM.fam .ccip rfl)))

theorem execCcipKeyErase_frame {M : Nat} {s0 : State} {p : Party} {page : ℕ} {s : State} (hM : Covers M 0x1810c600208) (hs2 : Frame M s0 s) :
    NextP (Frame M s0) (execCcipKeyErase p page s) := by
  unfold execCcipKeyErase
  exact (State.ccipDo_frame (hM.to rfl) hs2 (fun x1 h2 => (State.keyReq_frame (hM.to rfl) h2)))

theorem State.jobRun_frame {M : Nat} {s0 : State} {s : State} {n : ℕ} {k : ℕ × Key256} {decrypt : Bool} {pad : ℕ} {len : ℕ} (hM : Covers M 0x1800c400200) (hs0 : Frame M s0 s) :
    Frame M s0 (State.jobRun s n k decrypt pad len) := by
  unfold State.jobRun
  refine (ite_rule ?_ ?_)
  · extract_lets v1
    split
    · rename_i w2 w3 w4
      exact (State.jobEnd_frame (hM.to rfl) (State.setWindow_frame (hM.to rfl) hs0))
    · rename_i w5 w6
      exact (State.jobEnd_frame (hM.to rfl) (State.setWindow_frame (hM.to rfl) hs0))
  · extract_lets v7
    exact (State.jobEnd_frame (hM.to rfl) (State.setWindow_frame (hM.to rfl) hs0))

theorem State.opJobDone_frame {M : Nat} {s0 : State} {n : ℕ} {done : ℕ} {parity : ℕ} {bad : Bool} {s : State} (hM : Covers M 0x1800c400200) (hs4 : Frame M s0 s) :
    Frame M s0 (State.opJobDone n done parity bad s) := by
  unfold State.opJobDone
  extract_lets v1 v2 v3 v4 v5 v6 v7 v8 v9
  have h10 : Frame M s0 v9 := (ite_rule hs4 (State.err_frame (hM.to rfl) hs4 (hM.fam .ccip rfl)))
  clear_value v9
  refine (ite_rule (State.jobEnd_frame (hM.to rfl) hs4) (ite_rule (State.jobEnd_frame (hM.to rfl) hs4) (ite_rule (State.jobEnd_frame (hM.to rfl) hs4) ?_)))
  split
  · rename_i w11 w12
    exact (State.jobEnd_frame (hM.to rfl) hs4)
  · rename_i w13 w14 w15
    exact (ite_rule (State.jobEnd_frame (hM.to rfl) (State.engineOut_frame (hM.to rfl) h10)) (ite_rule (State.jobEnd_frame (hM.to rfl) (State.err_frame (hM.to rfl) h10 (hM.fam .ccip rfl))) (ite_rule (State.jobEnd_frame (hM.to rfl) h10) (State.jobRun_frame (hM.to rfl) h10))))

theorem execCcipJobDone_frame {M : Nat} {s0 : State} {page : ℕ} {done : ℕ} {parity : ℕ} {bad : Bool} {s : State} (hM : Covers M 0x1800c400200) (hs4 : Frame M s0 s) :
    NextP (Frame M s0) (execCcipJobDone page done parity bad s) := by
  unfold execCcipJobDone
  exact (guarded_frame hs4 (fun x1 h2 => (State.opJobDone_frame (hM.to rfl) h2)))

theorem execCcipKeyDerive_frame {M : Nat} {s0 : State} {p : Party} {page : ℕ} {v : W32} {slotOk : Bool} {s : State} (hM : Covers M 0x1810c600208) (hs4 : Frame M s0 s) :
    NextP (Frame M s0) (execCcipKeyDerive p page v slotOk s) := by
  unfold execCcipKeyDerive
  exact (State.ccipDo_frame (hM.to rfl) hs4 (fun x1 h2 => (State.keyReq_frame (hM.to rfl) h2)))

theorem execCcipKeyTrng_frame {M : Nat} {s0 : State} {p : Party} {page : ℕ} {v : W32} {s : State} (hM : Covers M 0x1810c600208) (hs3 : Frame M s0 s) :
    NextP (Frame M s0) (execCcipKeyTrng p page v s) := by
  unfold execCcipKeyTrng
  exact (State.ccipDo_frame (hM.to rfl) hs3 (fun x1 h2 => (State.keyReq_frame (hM.to rfl) h2)))

end Sys2Proof.Machine
end

