-- ==== Sys2Proof/Laws/FrameFuse.lean ====
section
/-! SUPPORT. What each operation and each meaning of Machine/Fuse.lean can change: it keeps the frame `Frame M s0` for every set `M` that
has the parts it names, given that its arguments keep it. -/

namespace Sys2Proof.Machine

theorem State.setFuses_frame {M : Nat} {s0 : State} {s : State} {f : Fuses} (hM : Covers M 0x800000) (hs0 : Frame M s0 s) :
    Frame M s0 (State.setFuses s f) := by
  unfold State.setFuses
  exact (Frame.upd_lc (hM.to rfl) hs0)

theorem State.readFuses_frame {M : Nat} {s0 : State} {s : State} (hM : Covers M 0x820c000200) (hs0 : Frame M s0 s) :
    Frame M s0 (State.readFuses s) := by
  unfold State.readFuses
  extract_lets v1 v2 v3 v4 v5
  have h6 : Frame M s0 v3 := (State.wrPair_frame (State.wr_frame (State.wr_frame (State.wr_frame (State.wr_frame hs0 (hM.fam .lcs rfl) rfl) (hM.fam .lcs rfl) rfl) (hM.fam .lcs rfl) rfl) (hM.fam .lcs rfl) rfl) (hM.fam .lcs rfl) rfl rfl)
  clear_value v3
  have h7 : Frame M s0 v4 := (State.wr_frame (State.wr_frame h6 (hM.fam .lcs rfl) rfl) (hM.fam .lcs rfl) rfl)
  clear_value v4
  have h8 : Frame M s0 v5 := (ite_rule (State.err_frame (hM.to rfl) h7 (hM.fam .lcs rfl)) h7)
  clear_value v5
  exact (ite_rule (State.report_frame (hM.to rfl) h8 (hM.fam .lcs rfl)) h8)

theorem State.repairFuses_frame {M : Nat} {s0 : State} {s : State} (hM : Covers M 0x820c800200) (hs0 : Frame M s0 s) :
    Frame M s0 (State.repairFuses s) := by
  unfold State.repairFuses
  extract_lets v1
  exact (ite_rule hs0 (State.err_frame (hM.to rfl) (State.wr_frame (State.setFuses_frame (hM.to rfl) hs0) (hM.fam .lcs rfl) rfl) (hM.fam .lcs rfl)))

end Sys2Proof.Machine
end

