-- ==== Sys2Proof/Laws/FrameReset.lean ====
section
/-! SUPPORT. What each operation and each meaning of Machine/Reset.lean can change: it keeps the frame `Frame M s0` for every set `M` that
has the parts it names, given that its arguments keep it. -/

namespace Sys2Proof.Machine

theorem State.keepKeyPor_frame {M : Nat} {s0 : State} {s : State} {old : State} (hM : Covers M 0x100000000) (hs0 : Frame M s0 s) :
    Frame M s0 (State.keepKeyPor s old) := by
  unfold State.keepKeyPor
  exact (State.wrPair_frame (State.wr_frame hs0 (hM.fam .key rfl) rfl) (hM.fam .key rfl) rfl rfl)

theorem State.blockReset_frame {M : Nat} {s0 s : State} (hM : Covers M 0x1ffffdebffffbe) (hs0 : Frame M s0 s) :
    Frame M s0 (State.blockReset s) := by
  unfold State.blockReset
  extract_lets t pkg
  have h1 : Frame M s0 t := State.keepKeyPor_frame (hM.to rfl)
    (State.resetPages_frame (hM.to rfl) (State.toFree_frame (hM.to rfl) hs0) (hM.to (by unfold Covers; decide)))
  clear_value t pkg
  have h2 := Frame.upd_bytes (m := Mem.empty) (hM.to rfl) (fun _ => rfl) h1
  generalize h : ({ t with mem := Mem.empty } : State) = u at h2
  refine Frame.update (s := u) (N := 0xbffffbe) (hM.to rfl) (fun p hp => ?_) ?_ ?_ ?_ ?_ h2
  · subst h
    cases p <;> first | exact rfl | (intro _ _ _ _; exact rfl) | exact absurd hp (by decide)
  all_goals (subst h; rfl)


theorem execInstReset_frame {M : Nat} {s0 : State} {p : Party} {s : State} (hM : Covers M 0x1ffffdefffffbe) (hs1 : Frame M s0 s) :
    NextP (Frame M s0) (execInstReset p s) := by
  unfold execInstReset
  exact (State.action_frame (hM.to rfl) hs1 (hM.fam .err rfl) (fun x1 h2 => (State.blockReset_frame (hM.to rfl) h2)))

theorem State.redOut_frame {M : Nat} {s0 : State} {s : State} {n : ℕ} (hM : Covers M 0x84800c000200) (hs0 : Frame M s0 s) :
    Frame M s0 (State.redOut s n) := by
  unfold State.redOut
  exact (State.redShort_frame (hM.to rfl) (State.wr_frame hs0 (hM.fam .red rfl) rfl))

theorem State.zeroise_frame {M : Nat} {s0 : State} {s : State} (hM : Covers M 0x604080) (hs0 : Frame M s0 s) :
    Frame M s0 (State.zeroise s) := by
  unfold State.zeroise
  extract_lets v1 v2
  exact (Frame.upd_links_mem_trust_ccip (hM.to rfl) rfl hs0)

theorem State.opTamper_frame {M : Nat} {s0 : State} {s : State} (hM : Covers M 0x1ffffdefffffbf) (hs0 : Frame M s0 s) :
    Frame M s0 (State.opTamper s) := by
  unfold State.opTamper
  extract_lets v1 v2 v3 v4 v5 v6
  have h7 : Frame M s0 v2 := (Frame.upd_pins (hM.to rfl) hs0)
  clear_value v2
  have h8 : Frame M s0 v3 := (State.fatal_frame (hM.to rfl) (State.emit_frame (hM.to rfl) (State.zeroise_frame (hM.to rfl) h7)) (hM.fam .key rfl))
  clear_value v3
  have h9 : Frame M s0 v4 := (State.wrPair_frame (State.wr_frame h8 (hM.fam .key rfl) rfl) (hM.fam .key rfl) rfl rfl)
  clear_value v4
  have h10 : Frame M s0 v5 := (State.blockReset_frame (hM.to rfl) h9)
  clear_value v5
  exact (Frame.upd_boot (hM.to rfl) h10)

theorem execTamper_frame {M : Nat} {s0 : State} {s : State} (hM : Covers M 0x1ffffdefffffbf) (hs0 : Frame M s0 s) :
    NextP (Frame M s0) (execTamper s) := by
  unfold execTamper
  exact (NextP.next (State.opTamper_frame (hM.to rfl) hs0))

theorem State.finishTds_frame {M : Nat} {s0 : State} {s : State} (hM : Covers M 0x1502855d00d3b2) (hs0 : Frame M s0 s) :
    Frame M s0 (State.finishTds s) := by
  unfold State.finishTds
  extract_lets v1 v2 v3
  have h4 : Frame M s0 v3 := (fold_rule (Frame.upd_objs (hM.to rfl) hs0) fun x5 b6 h7 => (State.doTd_frame (hM.to rfl) h7))
  clear_value v3
  exact (ite_rule hs0 (State.fallback_frame (hM.to rfl) h4))

theorem State.cutReply_frame {M : Nat} {s0 : State} {s : State} {r : Reply} (hM : Covers M 0x800c000200) (hs0 : Frame M s0 s) :
    Frame M s0 (State.cutReply s r) := by
  unfold State.cutReply
  split
  · rename_i w1 w2 w3 w4
    exact (State.dcpAnswer_frame (hM.to rfl) hs0)
  · rename_i w5
    exact hs0
  · rename_i w6 w7 w8 w9 w10
    exact hs0

theorem State.cutFabric_frame {M : Nat} {s0 : State} {s : State} (hM : Covers M 0x800c000a00) (hs0 : Frame M s0 s) :
    Frame M s0 (State.cutFabric s) := by
  unfold State.cutFabric
  extract_lets v1 v2 v3 v4
  have h5 : Frame M s0 v2 := (fold_rule hs0 fun x6 b7 h8 => (State.dcpAnswer_frame (hM.to rfl) h8))
  clear_value v2
  have h9 : Frame M s0 v3 := (fold_rule h5 fun x10 b11 h12 => (State.dcpAnswer_frame (hM.to rfl) h12))
  clear_value v3
  have h13 : Frame M s0 v4 := (fold_rule h9 fun x14 b15 h16 => (State.cutReply_frame (hM.to rfl) h16))
  clear_value v4
  refine (fold_rule h13 fun x17 b18 h19 => ?_)
  split
  · rename_i w20 w21 w22
    exact (State.finish_frame (hM.to rfl) h19)
  · rename_i w23 w24
    exact (State.cutReply_frame (hM.to rfl) h19)

theorem State.writeBackObjs_frame {M : Nat} {s0 : State} {s : State} (hM : Covers M 0x102855d00d3b2) (hs0 : Frame M s0 s) :
    Frame M s0 (State.writeBackObjs s) := by
  unfold State.writeBackObjs
  extract_lets v1
  have h2 : Frame M s0 v1 := (fold_rule hs0 fun x3 b4 h5 => (ite_rule (State.writeCtrs_frame (hM.to rfl) h5) h5))
  clear_value v1
  exact (fold_rule h2 fun x6 b7 h8 => (State.evictFence_frame (hM.to rfl) h8))

theorem State.resetFr_frame {M : Nat} {s0 : State} {s : State} (hM : Covers M 0x1f02857d21ffb6) (hs0 : Frame M s0 s) :
    Frame M s0 (State.resetFr s) := by
  unfold State.resetFr
  extract_lets v1 v2 v3 v4 v5 v6 v7 v8 v9 v10 v11 v12 v13 v14 v15 v16 v17 v18 v19 v20
  have h21 : Frame M s0 v1 := (ite_rule hs0 (State.markStepBad_frame (hM.to rfl) hs0))
  clear_value v1
  have h22 : Frame M s0 v2 := (State.finishTds_frame (hM.to rfl) (State.writeBackObjs_frame (hM.to rfl) h21))
  clear_value v2
  have h23 : Frame M s0 v6 := (State.wr_frame (State.resetPages_frame (hM.to rfl) h22 (hM.to (by unfold Covers; decide))) (hM.fam .fe rfl) rfl)
  clear_value v6
  have h24 : Frame M s0 v7 := (State.wr_frame h23 (hM.fam .ver rfl) rfl)
  clear_value v7
  have h25 : Frame M s0 v11 := (Frame.upd_power_host_front_objs_fns (hM.to rfl) h24)
  clear_value v11
  have h26 : Frame M s0 v12 := (ite_rule h25 (State.showVfEn_frame (hM.to rfl) h25))
  clear_value v12
  have h27 : Frame M s0 v13 := (fold_rule h26 fun x28 b29 h30 => (State.wr_frame h30 (hM.fam .key rfl) rfl))
  clear_value v13
  have h31 : Frame M s0 v15 := (Frame.upd_trust (hM.to rfl) h27)
  clear_value v15
  have h32 : Frame M s0 v16 := (fold_rule h31 fun x33 b34 h35 => (ite_rule (State.haClear_frame (hM.to rfl) h35) h35))
  clear_value v16
  have h36 : Frame M s0 v17 := (State.setIstate_frame (hM.to rfl) h32)
  clear_value v17
  have h37 : Frame M s0 v20 := (ite_rule (Frame.upd_outs_faults (hM.to rfl) h36) (Frame.upd_faults (hM.to rfl) h32))
  clear_value v20
  exact (fold_rule h37 fun x38 b39 h40 => (State.emit_frame (hM.to rfl) h40))

theorem execOosHoldExpiry_frame {M : Nat} {s0 : State} {s : State} (hM : Covers M 0x1ffffdebffffbe) (hs0 : Frame M s0 s) :
    NextP (Frame M s0) (execOosHoldExpiry s) := by
  unfold execOosHoldExpiry
  exact (guarded_frame hs0 (fun x1 h2 => (State.blockReset_frame (hM.to rfl) h2)))

theorem execScanModeEntry_frame {M : Nat} {s0 : State} {s : State} (hM : Covers M 0x1ffffdefffffbe) (hs0 : Frame M s0 s) :
    NextP (Frame M s0) (execScanModeEntry s) := by
  unfold execScanModeEntry
  extract_lets v1
  refine (guarded_frame hs0 (fun x2 h3 => ?_))
  extract_lets v4 v5
  have h6 : Frame M s0 v4 := (State.blockReset_frame (hM.to rfl) (State.emit_frame (hM.to rfl) (State.zeroise_frame (hM.to rfl) h3)))
  clear_value v4
  exact (Frame.upd_outs (hM.to rfl) h6)

theorem execBlockReset_frame {M : Nat} {s0 : State} {s : State} (hM : Covers M 0x1ffffdebffffbe) (hs0 : Frame M s0 s) :
    NextP (Frame M s0) (execBlockReset s) := by
  unfold execBlockReset
  exact (NextP.next (State.blockReset_frame (hM.to rfl) hs0))

theorem execFlr_frame {M : Nat} {s0 : State} {fn : ℕ} {s : State} (hM : Covers M 0x1f02857d21ffb6) (hs1 : Frame M s0 s) :
    NextP (Frame M s0) (execFlr fn s) := by
  unfold execFlr
  exact (guarded_frame hs1 (fun x1 h2 => (ite_rule (State.emit_frame (hM.to rfl) (State.resetFr_frame (hM.to rfl) h2)) (ite_rule h2 (State.vfFlr_frame (hM.to rfl) h2)))))

theorem State.bistOut_frame {M : Nat} {s0 : State} {s : State} (hM : Covers M 0x11e4844d0123a0) (hs0 : Frame M s0 s) :
    Frame M s0 (State.bistOut s) := by
  unfold State.bistOut
  exact (fold_rule hs0 fun x1 b2 h3 => (ite_rule (State.darken_frame (hM.to rfl) h3) (ite_rule (State.redOut_frame (hM.to rfl) h3) h3)))

theorem execTamperClear_frame {M : Nat} {s0 : State} {s : State} (hM : Covers M 0x9) (hs0 : Frame M s0 s) :
    NextP (Frame M s0) (execTamperClear s) := by
  unfold execTamperClear
  exact (NextP.next (Frame.upd_pins_boot (hM.to rfl) hs0))

theorem State.cutGait_frame {M : Nat} {s0 : State} {s : State} (hM : Covers M 0x800) (hs0 : Frame M s0 s) :
    Frame M s0 (State.cutGait s) := by
  unfold State.cutGait
  exact (fold_rule hs0 fun x1 b2 h3 => (State.finish_frame (hM.to rfl) h3))

theorem State.resetLr_frame {M : Nat} {s0 : State} {s : State} (hM : Covers M 0x1ffe855d1ffbf6) (hs0 : Frame M s0 s) :
    Frame M s0 (State.resetLr s) := by
  unfold State.resetLr
  extract_lets v1 v2 v3 v4 v5 v6 v7 v8 v9
  have h10 : Frame M s0 v1 := (ite_rule hs0 (State.markStepBad_frame (hM.to rfl) hs0))
  clear_value v1
  have h11 : Frame M s0 v3 := (State.cutGait_frame (hM.to rfl) (State.cutFabric_frame (hM.to rfl) h10))
  clear_value v3
  have h12 : Frame M s0 v4 := (State.resetPages_frame (hM.to rfl) h11 (hM.to (by unfold Covers; decide)))
  clear_value v4
  have h13 : Frame M s0 v7 := (Frame.upd_power_links_gait_sync_red_fab_coh_cmb (hM.to rfl) h12)
  clear_value v7
  have h14 : Frame M s0 v8 := (fold_rule h13 fun x15 b16 h17 => (State.wr_frame h17 (hM.fam .lpt rfl) rfl))
  clear_value v8
  have h18 : Frame M s0 v9 := (fold_rule h14 fun x19 b20 h21 => (State.enterTraining_frame (hM.to rfl) h21))
  clear_value v9
  exact (State.bistOut_frame (hM.to rfl) h18)

theorem State.powerOn_frame {M : Nat} {s0 s : State} {f : Fuses} (hM : Covers M 0x1FFFFFFFFFFFFF) (hs0 : Frame M s0 s) :
    Frame M s0 (State.powerOn s f) := by
  have full : ∀ t : State, t.build = s.build → t.pending = s.pending → t.regs = [] → t.mem.bytes = [] → Frame M s0 t := by
    intro t hb hp hr hm
    refine Frame.step hM (Frame.full hb hp ?_ ?_) hs0
    · unfold State.regsWf
      rw [hr]
      exact ⟨rfl, fun e he => by cases he⟩
    · unfold Mem.wf
      rw [hm]
      rfl
  unfold State.powerOn
  extract_lets src lc t r a b t2
  have h1 : Frame M s0 t := full t rfl rfl rfl rfl
  clear_value t
  have h2 : SndP (Frame M s0) r := State.draw_frame (hM.to rfl) h1
  have h3 : Frame M s0 t2 := Frame.upd_trust (hM.to rfl) h2
  clear_value t2
  exact State.repairFuses_frame (hM.to rfl) (State.readFuses_frame (hM.to rfl) h3)


theorem execPowerOnReset_frame {M : Nat} {s0 : State} {f : Fuses} {s : State} (hM : Covers M 0x1fffffffffffff) (hs1 : Frame M s0 s) :
    NextP (Frame M s0) (execPowerOnReset f s) := by
  unfold execPowerOnReset
  exact (NextP.next (State.powerOn_frame (hM.to rfl) hs1))

theorem execFrRegionReset_frame {M : Nat} {s0 : State} {s : State} (hM : Covers M 0x1f02857d21ffb6) (hs0 : Frame M s0 s) :
    NextP (Frame M s0) (execFrRegionReset s) := by
  unfold execFrRegionReset
  exact (guarded_frame hs0 (fun x1 h2 => (State.resetFr_frame (hM.to rfl) h2)))

theorem execLrRegionReset_frame {M : Nat} {s0 : State} {s : State} (hM : Covers M 0x1ffe855d1ffbf6) (hs0 : Frame M s0 s) :
    NextP (Frame M s0) (execLrRegionReset s) := by
  unfold execLrRegionReset
  exact (guarded_frame hs0 (fun x1 h2 => (State.resetLr_frame (hM.to rfl) h2)))

end Sys2Proof.Machine
end

