-- ==== Sys2Proof/Laws/FrameBist.lean ====
section
/-! SUPPORT. What each operation and each meaning of Machine/Bist.lean can change: it keeps the frame `Frame M s0` for every set `M` that
has the parts it names, given that its arguments keep it. -/

namespace Sys2Proof.Machine

theorem State.burnStatus_frame {M : Nat} {s0 : State} {s : State} {code : ℕ} (hM : Covers M 0x4000000000) (hs0 : Frame M s0 s) :
    Frame M s0 (State.burnStatus s code) := by
  unfold State.burnStatus
  exact (State.wr_frame (State.wr_frame hs0 (hM.fam .bst rfl) rfl) (hM.fam .bst rfl) rfl)

theorem State.opBurn_frame {M : Nat} {s0 : State} {hold : Bool} {s : State} (hM : Covers M 0x4002000002) (hs1 : Frame M s0 s) :
    Frame M s0 (State.opBurn hold s) := by
  unfold State.opBurn
  extract_lets v1 v2 v3 v4
  have h5 : Frame M s0 v2 := (State.wr_frame (State.wr_frame hs1 (hM.fam .bst rfl) rfl) (hM.fam .bst rfl) rfl)
  clear_value v2
  exact (ite_rule (State.burnStatus_frame (hM.to rfl) hs1) (Frame.upd_outs_bist (hM.to rfl) h5))

theorem execHoldLock_frame {M : Nat} {s0 : State} {p : Party} {s : State} (hM : Covers M 0xc00e00020a) (hs1 : Frame M s0 s) :
    NextP (Frame M s0) (execHoldLock p s) := by
  unfold execHoldLock
  exact (State.action_frame (hM.to rfl) hs1 (hM.fam .bst rfl) (fun x1 h2 => (State.opBurn_frame (hM.to rfl) h2)))

theorem execBurn_frame {M : Nat} {s0 : State} {p : Party} {s : State} (hM : Covers M 0xc00e00020a) (hs1 : Frame M s0 s) :
    NextP (Frame M s0) (execBurn p s) := by
  unfold execBurn
  exact (State.action_frame (hM.to rfl) hs1 (hM.fam .bst rfl) (fun x1 h2 => (State.opBurn_frame (hM.to rfl) h2)))

theorem State.showRepairs_frame {M : Nat} {s0 : State} {s : State} (hM : Covers M 0x4000000000) (hs0 : Frame M s0 s) :
    Frame M s0 (State.showRepairs s) := by
  unfold State.showRepairs
  extract_lets v1 v2 v3
  exact (State.wr_frame (State.wr_frame (State.wr_frame (State.wr_frame (State.wr_frame hs0 (hM.fam .bst rfl) rfl) (hM.fam .bst rfl) rfl) (hM.fam .bst rfl) rfl) (hM.fam .bst rfl) rfl) (hM.fam .bst rfl) rfl)

theorem State.runEnded_frame {M : Nat} {s0 : State} {s : State} {pass : Bool} (hM : Covers M 0x4000000000) (hs0 : Frame M s0 s) :
    Frame M s0 (State.runEnded s pass) := by
  unfold State.runEnded
  exact (State.showRepairs_frame (hM.to rfl) (State.wr_frame (State.wr_frame (State.wr_frame hs0 (hM.fam .bst rfl) rfl) (hM.fam .bst rfl) rfl) (hM.fam .bst rfl) rfl))

theorem State.dropSpan_frame {M : Nat} {s0 : State} {s : State} (hM : Covers M 0x20003004020) (hs0 : Frame M s0 s) :
    Frame M s0 (State.dropSpan s) := by
  unfold State.dropSpan
  extract_lets v1 v2
  have h3 : Frame M s0 v2 := (Frame.upd_bist (hM.to rfl) hs0)
  clear_value v2
  refine (fold_rule h3 fun x4 b5 h6 => ?_)
  extract_lets v7 v8
  have h9 : Frame M s0 v8 := (State.setChan_frame (hM.to rfl) h6)
  clear_value v8
  exact (State.dropToken_frame (hM.to rfl) h9)

theorem State.pipesBack_frame {M : Nat} {s0 : State} {s : State} {n : ℕ} (hM : Covers M 0x20000004000) (hs0 : Frame M s0 s) :
    Frame M s0 (State.pipesBack s n) := by
  unfold State.pipesBack
  exact (State.wr_frame (State.setChan_frame (hM.to rfl) hs0) (hM.fam .mch rfl) rfl)

theorem State.sliceOut_frame {M : Nat} {s0 : State} {s : State} {n : ℕ} (hM : Covers M 0x1f02855d01dfb2) (hs0 : Frame M s0 s) :
    Frame M s0 (State.sliceOut s n) := by
  unfold State.sliceOut
  extract_lets v1 v2 v3 v4 v5 v6 v7 v8 v9 v10 v11
  have h12 : Frame M s0 v2 := (State.err_frame (hM.to rfl) (State.wr_frame hs0 (hM.fam .fe rfl) rfl) (hM.fam .fe rfl))
  clear_value v2
  have h13 : Frame M s0 v7 := (fold_rule h12 fun x14 b15 h16 => (State.sendAborts_frame (hM.to rfl) h16))
  clear_value v7
  have h17 : Frame M s0 v10 := (Frame.upd_host_front (hM.to rfl) h13)
  clear_value v10
  have h18 : Frame M s0 v11 := (fold_rule h17 fun x19 b20 h21 => (State.finish_frame (hM.to rfl) h21))
  clear_value v11
  exact (fold_rule h18 fun x22 b23 h24 => (State.ctxLost_frame (hM.to rfl) h24))

theorem State.redFault_frame {M : Nat} {s0 : State} {s : State} {n : ℕ} (hM : Covers M 0x1fa6855d03fbb2) (hs0 : Frame M s0 s) :
    Frame M s0 (State.redFault s n) := by
  unfold State.redFault
  extract_lets v1 v2 v3
  have h4 : Frame M s0 v1 := (State.err_frame (hM.to rfl) (State.redOut_frame (hM.to rfl) hs0) (hM.fam .red rfl))
  clear_value v1
  refine (fold_rule h4 fun x5 b6 h7 => ?_)
  extract_lets v8
  have h9 : Frame M s0 v8 := (State.failInst_frame (hM.to rfl) h7)
  clear_value v8
  exact (ite_rule h9 (State.ctxLost_frame (hM.to rfl) h9))

theorem State.clusterOut_frame {M : Nat} {s0 : State} {s : State} {c : ℕ} {bist : Bool} (hM : Covers M 0x1fe6855f03ffb2) (hs0 : Frame M s0 s) :
    Frame M s0 (State.clusterOut s c bist) := by
  unfold State.clusterOut
  extract_lets v1 v2
  have h3 : Frame M s0 v2 := (ite_rule (Frame.upd_bist (hM.to rfl) hs0) hs0)
  clear_value v2
  exact (ite_rule (State.chanFail_frame (hM.to rfl) h3) (ite_rule (ite_rule (State.darken_frame (hM.to rfl) (State.err_frame (hM.to rfl) h3 (hM.fam .lpt rfl))) h3) (ite_rule (State.redFault_frame (hM.to rfl) h3) (ite_rule (State.sliceOut_frame (hM.to rfl) h3) h3))))

theorem State.readBanks_frame {M : Nat} {s0 : State} {s : State} {ok : Bool} (hM : Covers M 0x1f02855d01dbb2) (hs0 : Frame M s0 s) :
    SndP (Frame M s0) (State.readBanks s ok) := by
  unfold State.readBanks
  split
  · rename_i w1 w2
    exact hs0
  · rename_i w3 w4 w5 w6 w7
    extract_lets v8
    have h9 : StP (Frame M s0) v8 := (State.readAs_frame (hM.to rfl) hs0)
    clear_value v8
    exact h9

theorem State.restoreBanks_frame {M : Nat} {s0 : State} {s : State} {n : ℕ} {ok : Bool} (hM : Covers M 0x1f06c55f01dbb2) (hs0 : Frame M s0 s) :
    Frame M s0 (State.restoreBanks s n ok) := by
  unfold State.restoreBanks
  extract_lets v1 v2 v3 v4 v5 v6 v7 v8 v9
  have h10 : SndP (Frame M s0) v2 := (State.readBanks_frame (hM.to rfl) hs0)
  clear_value v2
  have h11 : Frame M s0 v3 := h10
  have h12 : Frame M s0 v8 := (Frame.upd_gait_bist (hM.to rfl) h11)
  clear_value v8
  have h13 : Frame M s0 v9 := (ite_rule (State.wr_frame h12 (hM.fam .gait rfl) rfl) h12)
  clear_value v9
  exact (State.showActive_frame (hM.to rfl) (ite_rule (State.err_frame (hM.to rfl) h13 (hM.fam .bst rfl)) h13))

theorem State.afterRun_frame {M : Nat} {s0 : State} {s : State} {c : ℕ} {restoreOk : Bool} (hM : Covers M 0x1f06c55f01dbb2) (hs0 : Frame M s0 s) :
    Frame M s0 (State.afterRun s c restoreOk) := by
  unfold State.afterRun
  refine (ite_rule ?_ (ite_rule (State.restoreBanks_frame (hM.to rfl) hs0) hs0))
  extract_lets v1 v2
  have h3 : Frame M s0 v1 := (State.dropSpan_frame (hM.to rfl) hs0)
  clear_value v1
  exact (ite_rule (State.haPost_frame (hM.to rfl) (State.setChan_frame (hM.to rfl) h3)) (State.startWalk_frame (hM.to rfl) h3))

theorem State.endRun_frame {M : Nat} {s0 : State} {s : State} {failed : Bool} {restoreOk : Bool} (hM : Covers M 0x1fe6c55f03ffb2) (hs0 : Frame M s0 s) :
    Frame M s0 (State.endRun s failed restoreOk) := by
  unfold State.endRun
  extract_lets v1 v2 v3 v4 v5 v6 v7
  have h8 : Frame M s0 v2 := (State.afterRun_frame (hM.to rfl) (State.runEnded_frame (hM.to rfl) hs0))
  have h9 : Frame M s0 v3 := (ite_rule (State.err_frame (hM.to rfl) h8 (hM.fam .bst rfl)) h8)
  clear_value v3
  have h10 : Frame M s0 v6 := (Frame.upd_bist (hM.to rfl) h8)
  exact (ite_rule (State.clusterOut_frame (hM.to rfl) h9) (ite_rule (State.pipesBack_frame (hM.to rfl) h8) (ite_rule (ite_rule (State.setLink_frame (hM.to rfl) h10) h10) h8)))

theorem State.saveBanks_frame {M : Nat} {s0 : State} {s : State} {n : ℕ} (hM : Covers M 0x1f02855f01dbb2) (hs0 : Frame M s0 s) :
    Frame M s0 (State.saveBanks s n) := by
  unfold State.saveBanks
  split
  · rename_i w1 w2
    exact hs0
  · rename_i w3 w4 w5
    extract_lets v6 v7 v8
    have h9 : SndP (Frame M s0) v6 := (State.draw_frame (hM.to rfl) hs0)
    clear_value v6
    have h10 : Frame M s0 v7 := (State.writeAs_frame (hM.to rfl) h9)
    clear_value v7
    exact (Frame.upd_bist (hM.to rfl) h10)

theorem State.spanTokens_frame {M : Nat} {s0 : State} {a : ℕ} {p1 : ℕ} {p2 : State} (hM : Covers M 0x20000004020) (hs2 : Frame M s0 p2) :
    SndP (Frame M s0) (State.spanTokens a p1 p2) := by
  induction a generalizing p1 p2
  · unfold State.spanTokens
    exact hs2
  · rename_i k ih
    unfold State.spanTokens
    extract_lets v1
    have h2 : Frame M s0 v1 := (State.askToken_frame (hM.to rfl) hs2)
    clear_value v1
    exact (ite_rule (P := (SndP (Frame M s0))) (ih h2) h2)

theorem State.bistGo_frame {M : Nat} {s0 : State} {s : State} (hM : Covers M 0x1fe6c55f03ffb2) (hs0 : Frame M s0 s) :
    Frame M s0 (State.bistGo s) := by
  unfold State.bistGo
  split
  · rename_i w1 w2
    exact hs0
  · rename_i w3 w4 w5
    extract_lets v6 v7 v8 v9
    have h10 : SndP (Frame M s0) v6 := (State.spanTokens_frame (hM.to rfl) hs0)
    clear_value v6
    have h11 : Frame M s0 v7 := by
      unfold v7
      refine (ite_rule h10 ?_)
      split
      · rename_i w12 w13
        exact (State.wr_frame (State.saveBanks_frame (hM.to rfl) (State.calm_frame (hM.to rfl) h10)) (hM.fam .bst rfl) rfl)
      · rename_i w14 w15 w16
        exact (State.endRun_frame (hM.to rfl) (State.calm_frame (hM.to rfl) h10))
    clear_value v7
    have h17 : Frame M s0 v8 := h10
    exact (ite_rule (Frame.upd_bist (hM.to rfl) h17) (State.dropSpan_frame (hM.to rfl) h11))

theorem State.testsOver_frame {M : Nat} {s0 : State} {s : State} {failed : Bool} {restoreOk : Bool} (hM : Covers M 0x1fe6c55f03ffb2) (hs0 : Frame M s0 s) :
    Frame M s0 (State.testsOver s failed restoreOk) := by
  unfold State.testsOver
  exact (ite_rule (State.bistGo_frame (hM.to rfl) (State.wr_frame (Frame.upd_bist (hM.to rfl) hs0) (hM.fam .bst rfl) rfl)) (State.endRun_frame (hM.to rfl) hs0))

theorem State.opBistAbort_frame {M : Nat} {s0 : State} {s : State} (hM : Covers M 0x1fe6c55f03ffb2) (hs0 : Frame M s0 s) :
    Frame M s0 (State.opBistAbort s) := by
  unfold State.opBistAbort
  exact (ite_rule (State.testsOver_frame (hM.to rfl) (State.wr_frame hs0 (hM.fam .bst rfl) rfl)) (ite_rule (State.dropSpan_frame (hM.to rfl) (State.runEnded_frame (hM.to rfl) hs0)) hs0))

theorem execBistAbort_frame {M : Nat} {s0 : State} {p : Party} {s : State} (hM : Covers M 0x1fe6c55f03ffba) (hs1 : Frame M s0 s) :
    NextP (Frame M s0) (execBistAbort p s) := by
  unfold execBistAbort
  exact (State.action_frame (hM.to rfl) hs1 (hM.fam .bst rfl) (fun x1 h2 => (State.opBistAbort_frame (hM.to rfl) h2)))

theorem State.clearLog_frame {M : Nat} {s0 : State} {s : State} (hM : Covers M 0x1fffffe0000000) (hs0 : Frame M s0 s) :
    Frame M s0 (State.clearLog s) := by
  unfold State.clearLog
  extract_lets v1
  have h2 : Frame M s0 v1 := (fold_rule hs0 fun x3 b4 h5 => (State.setReg_any (hM.to rfl) (State.setReg_any (hM.to rfl) h5)))
  clear_value v1
  exact (State.wr_frame (State.wr_frame (State.setReg_frame (hM.fam .bst rfl) rfl h2) (hM.fam .bst rfl) rfl) (hM.fam .bst rfl) rfl)

theorem State.opRun_frame {M : Nat} {s0 : State} {s : State} (hM : Covers M 0x1ffffffe004220) (hs0 : Frame M s0 s) :
    Frame M s0 (State.opRun s) := by
  unfold State.opRun
  extract_lets v1 v2 v3 v4 v5 v6 v7
  have h8 : Frame M s0 v3 := (State.clearLog_frame (hM.to rfl) hs0)
  clear_value v3
  have h9 : Frame M s0 v5 := (Frame.upd_bist (hM.to rfl) h8)
  clear_value v5
  have h10 : Frame M s0 v7 := (ite_rule (State.askToken_frame (hM.to rfl) (State.writeBack_frame (hM.to rfl) h9)) (ite_rule (Frame.upd_bist (hM.to rfl) h9) h9))
  clear_value v7
  exact (ite_rule (State.err_frame (hM.to rfl) (State.wr_frame hs0 (hM.fam .bst rfl) rfl) (hM.fam .bst rfl)) (State.wr_frame h10 (hM.fam .bst rfl) rfl))

theorem execBistRun_frame {M : Nat} {s0 : State} {p : Party} {s : State} (hM : Covers M 0x1fffffff03ffba) (hs1 : Frame M s0 s) :
    NextP (Frame M s0) (execBistRun p s) := by
  unfold execBistRun
  exact (State.action_frame (hM.to rfl) hs1 (hM.fam .bst rfl) (fun x1 h2 => (ite_rule (State.bistGo_frame (hM.to rfl) (State.opRun_frame (hM.to rfl) h2)) h2)))

theorem State.clearPending_frame {M : Nat} {s0 : State} {s : State} {unit : ℕ} (hM : Covers M 0x4000000000) (hs0 : Frame M s0 s) :
    Frame M s0 (State.clearPending s unit) := by
  unfold State.clearPending
  exact (fold_rule hs0 fun x1 b2 h3 => (ite_rule (State.wr_frame h3 (hM.fam .bst rfl) rfl) h3))

theorem State.burnOne_frame {M : Nat} {s0 : State} {s : State} {unit : ℕ} (hM : Covers M 0x4000800000) (hs0 : Frame M s0 s) :
    Frame M s0 (State.burnOne s unit) := by
  unfold State.burnOne
  split
  · rename_i w1 w2
    exact hs0
  · rename_i w3 w4 w5
    exact (State.clearPending_frame (hM.to rfl) (State.setFuses_frame (hM.to rfl) hs0))

theorem State.opBurnDone_frame {M : Nat} {s0 : State} {done : ℕ} {failed : Option ℕ} {b : Burn} {s : State} (hM : Covers M 0xc00e800202) (hs3 : Frame M s0 s) :
    Frame M s0 (State.opBurnDone done failed b s) := by
  unfold State.opBurnDone
  extract_lets v1 v2 v3 v4 v5 v6 v7 v8
  have h9 : Frame M s0 v3 := (Frame.upd_outs_bist (hM.to rfl) hs3)
  clear_value v3
  have h10 : Frame M s0 v6 := (fold_rule h9 fun x11 b12 h13 => (State.burnOne_frame (hM.to rfl) h13))
  clear_value v6
  have h14 : Frame M s0 v7 := by
    unfold v7
    refine (ite_rule (State.setFuses_frame (hM.to rfl) h9) ?_)
    split
    · rename_i w15 w16 w17 w18 w19
      exact (State.setFuses_frame (hM.to rfl) h10)
    · rename_i w20 w21 w22 w23
      exact h10
  clear_value v7
  have h24 : Frame M s0 v8 := (State.showRepairs_frame (hM.to rfl) (State.burnStatus_frame (hM.to rfl) (State.wr_frame h14 (hM.fam .bst rfl) rfl)))
  clear_value v8
  exact (ite_rule (State.err_frame (hM.to rfl) h24 (hM.fam .bst rfl)) h24)

theorem execBurnDone_frame {M : Nat} {s0 : State} {done : ℕ} {failed : Option ℕ} {s : State} (hM : Covers M 0xc00e800202) (hs2 : Frame M s0 s) :
    NextP (Frame M s0) (execBurnDone done failed s) := by
  unfold execBurnDone
  split
  · rename_i w1 w2 w3
    exact (NextP.next (ite_rule (State.opBurnDone_frame (hM.to rfl) hs2) hs2))
  · rename_i w4 w5
    exact (NextP.next hs2)

theorem State.logFail_frame {M : Nat} {s0 : State} {s : State} {b : BistFail} {repaired : Bool} (hM : Covers M 0xc00c000200) (hs0 : Frame M s0 s) :
    Frame M s0 (State.logFail s b repaired) := by
  unfold State.logFail
  extract_lets v1 v2 v3 v4 v5
  have h6 : Frame M s0 v3 := (State.err_frame (hM.to rfl) hs0 (hM.fam .bst rfl))
  clear_value v3
  have h7 : Frame M s0 v4 := (ite_rule (State.wr_frame h6 (hM.fam .bst rfl) rfl) (State.wr_frame h6 (hM.fam .bst rfl) rfl))
  clear_value v4
  have h8 : Frame M s0 v5 := (State.wr_frame (State.wr_frame (State.wr_frame (State.wr_frame (State.wr_frame h7 (hM.fam .bst rfl) rfl) (hM.fam .bst rfl) rfl) (hM.fam .bst rfl) rfl) (hM.fam .bst rfl) rfl) (hM.fam .bst rfl) rfl)
  clear_value v5
  exact (ite_rule (State.err_frame (hM.to rfl) h7 (hM.fam .bst rfl)) (State.wr_frame (State.wr_frame (State.wr_frame h8 (hM.fam .bst rfl) rfl) (hM.fam .bst rfl) rfl) (hM.fam .bst rfl) rfl))

theorem State.takeFail_frame {M : Nat} {s0 : State} {repair : Bool} {old : List ℕ} {a : List ℕ × State} {b : BistFail} (hM : Covers M 0xc00e000200) (hs2 : SndP (Frame M s0) a) :
    SndP (Frame M s0) (State.takeFail repair old a b) := by
  unfold State.takeFail
  extract_lets v1 v2 v3 v4 v5
  have h6 : Frame M s0 v1 := hs2
  have h7 : Frame M s0 v4 := (ite_rule h6 (Frame.upd_bist (hM.to rfl) h6))
  clear_value v4
  have h8 : Frame M s0 v5 := (ite_rule (State.wr_frame h6 (hM.fam .bst rfl) rfl) h6)
  clear_value v5
  exact (ite_rule (P := (SndP (Frame M s0))) (State.logFail_frame (hM.to rfl) (State.wr_frame h7 (hM.fam .bst rfl) rfl)) (State.logFail_frame (hM.to rfl) h8))

theorem State.findings_frame {M : Nat} {s0 : State} {s : State} {l : List BistFail} (hM : Covers M 0xc00e000200) (hs0 : Frame M s0 s) :
    SndP (Frame M s0) (State.findings s l) := by
  unfold State.findings
  exact (fold_rule (P := (SndP (Frame M s0))) hs0 fun x1 b2 h3 => (State.takeFail_frame (hM.to rfl) h3))

theorem State.opRunDone_frame {M : Nat} {s0 : State} {fails : List BistFail} {restoreOk : Bool} {s : State} (hM : Covers M 0x1fe6c55f03ffb2) (hs2 : Frame M s0 s) :
    Frame M s0 (State.opRunDone fails restoreOk s) := by
  unfold State.opRunDone
  extract_lets v1
  have h2 : SndP (Frame M s0) v1 := (State.findings_frame (hM.to rfl) hs2)
  clear_value v1
  exact (State.testsOver_frame (hM.to rfl) h2)

theorem execBistRunDone_frame {M : Nat} {s0 : State} {fails : List BistFail} {restoreOk : Bool} {s : State} (hM : Covers M 0x1fe6c55f03ffb2) (hs2 : Frame M s0 s) :
    NextP (Frame M s0) (execBistRunDone fails restoreOk s) := by
  unfold execBistRunDone
  exact (guarded_frame hs2 (fun x1 h2 => (State.opRunDone_frame (hM.to rfl) h2)))

end Sys2Proof.Machine
end

