-- ==== Sys2Proof/Laws/FrameBoot.lean ====
section
/-! SUPPORT. What each operation and each meaning of Machine/Boot.lean can change: it keeps the frame `Frame M s0` for every set `M` that
has the parts it names, given that its arguments keep it. -/

namespace Sys2Proof.Machine

theorem execLockstepSecMismatch_frame {M : Nat} {s0 : State} {s : State} (hM : Covers M 0x100840c200392) (hs0 : Frame M s0 s) :
    NextP (Frame M s0) (execLockstepSecMismatch s) := by
  unfold execLockstepSecMismatch
  exact (guarded_frame hs0 (fun x1 h2 => (State.fatal_frame (hM.to rfl) (Frame.upd_trust (hM.to rfl) h2) (hM.fam .err rfl))))

theorem execLockstepSvcMismatch_frame {M : Nat} {s0 : State} {s : State} (hM : Covers M 0x800c000208) (hs0 : Frame M s0 s) :
    NextP (Frame M s0) (execLockstepSvcMismatch s) := by
  unfold execLockstepSvcMismatch
  exact (guarded_frame hs0 (fun x1 h2 => (State.err_frame (hM.to rfl) (Frame.upd_boot (hM.to rfl) h2) (hM.fam .err rfl))))

theorem State.startFirmware_frame {M : Nat} {s0 : State} {s : State} {secVer : W32} {svcVer : W32} (hM : Covers M 0x1fffffec000208) (hs0 : Frame M s0 s) :
    Frame M s0 (State.startFirmware s secVer svcVer) := by
  unfold State.startFirmware
  extract_lets v1 v2 v3 v4
  have h5 : Frame M s0 v3 := (Frame.upd_boot (hM.to rfl) hs0)
  clear_value v3
  have h6 : Frame M s0 v4 := (ite_rule h5 (State.showVfEn_frame (hM.to rfl) h5))
  clear_value v4
  refine (fold_rule h6 fun x7 b8 h9 => ?_)
  split
  · rename_i w10 w11 w12
    exact (State.err_frame (hM.to rfl) h9 (.page (hM.to rfl) _))
  · rename_i w13 w14
    exact h9

theorem State.drawNonce_frame {M : Nat} {s0 : State} {s : State} (hM : Covers M 0x210000000) (hs0 : Frame M s0 s) :
    Frame M s0 (State.drawNonce s) := by
  unfold State.drawNonce
  extract_lets v1
  have h2 : SndP (Frame M s0) v1 := (State.draw_frame (hM.to rfl) hs0)
  clear_value v1
  exact (State.wrPair_frame h2 (hM.fam .lcs rfl) rfl rfl)

theorem State.holdBoot_frame {M : Nat} {s0 : State} {s : State} {code : ℕ} (hM : Covers M 0x800c00020a) (hs0 : Frame M s0 s) :
    Frame M s0 (State.holdBoot s code) := by
  unfold State.holdBoot
  extract_lets v1 v2 v3
  have h4 : Frame M s0 v1 := (State.report_frame (hM.to rfl) (State.wr_frame hs0 (hM.fam .err rfl) rfl) (hM.fam .err rfl))
  clear_value v1
  exact (Frame.upd_outs_boot (hM.to rfl) h4)

theorem State.opFirmware_frame {M : Nat} {s0 : State} {secOk : Bool} {svcOk : Bool} {secVer : W32} {svcVer : W32} {s : State} (hM : Covers M 0x1fffffec00020a) (hs4 : Frame M s0 s) :
    Frame M s0 (State.opFirmware secOk svcOk secVer svcVer s) := by
  unfold State.opFirmware
  exact (ite_rule (State.holdBoot_frame (hM.to rfl) hs4) (ite_rule (State.holdBoot_frame (hM.to rfl) hs4) (State.startFirmware_frame (hM.to rfl) hs4)))

theorem execFirmwareLoad_frame {M : Nat} {s0 : State} {secOk : Bool} {svcOk : Bool} {secVer : W32} {svcVer : W32} {s : State} (hM : Covers M 0x1fffffec00020a) (hs4 : Frame M s0 s) :
    NextP (Frame M s0) (execFirmwareLoad secOk svcOk secVer svcVer s) := by
  unfold execFirmwareLoad
  exact (guarded_frame hs4 (fun x1 h2 => (State.opFirmware_frame (hM.to rfl) h2)))

theorem execSliceRestartDone_frame {M : Nat} {s0 : State} {slice : ℕ} {s : State} (hM : Covers M 0x2000000000000) (hs1 : Frame M s0 s) :
    NextP (Frame M s0) (execSliceRestartDone slice s) := by
  unfold execSliceRestartDone
  exact (guarded_frame hs1 (fun x1 h2 => (ite_rule h2 (State.wr_frame h2 (hM.fam .fe rfl) rfl))))

theorem State.opStraps_frame {M : Nat} {s0 : State} {role : Bool} {inst : ℕ} {policy : Bool} {s : State} (hM : Covers M 0xc31c00421b) (hs3 : Frame M s0 s) :
    Frame M s0 (State.opStraps role inst policy s) := by
  unfold State.opStraps
  extract_lets v1 v2 v3 v4 v5 v6 v7 v8 v9 v10
  have h11 : Frame M s0 v4 := (Frame.upd_pins_outs_boot (hM.to rfl) hs3)
  clear_value v4
  have h12 : Frame M s0 v6 := (Frame.upd_pkg (hM.to rfl) h11)
  clear_value v6
  have h13 : SndP (Frame M s0) v7 := (State.drawKey_frame (hM.to rfl) (State.drawNonce_frame (hM.to rfl) h12))
  clear_value v7
  have h14 : Frame M s0 v8 := h13
  have h15 : Frame M s0 v10 := (State.showRepairs_frame (hM.to rfl) (Frame.upd_mem (hM.to rfl) rfl h14))
  clear_value v10
  exact (ite_rule (State.holdBoot_frame (hM.to rfl) h15) (ite_rule (State.holdBoot_frame (hM.to rfl) h15) (ite_rule (State.holdBoot_frame (hM.to rfl) h15) h15)))

theorem execBlockResetDeassert_frame {M : Nat} {s0 : State} {role : Bool} {inst : ℕ} {policy : Bool} {s : State} (hM : Covers M 0xc31c00421b) (hs3 : Frame M s0 s) :
    NextP (Frame M s0) (execBlockResetDeassert role inst policy s) := by
  unfold execBlockResetDeassert
  exact (guarded_frame hs3 (fun x1 h2 => (State.opStraps_frame (hM.to rfl) h2)))

theorem State.opBootRun_frame {M : Nat} {s0 : State} {fails : List BistFail} {s : State} (hM : Covers M 0x1fffffff03ffba) (hs1 : Frame M s0 s) :
    Frame M s0 (State.opBootRun fails s) := by
  unfold State.opBootRun
  extract_lets v1 v2 v3 v4 v5 v6 v7 v8
  have h9 : SndP (Frame M s0) v1 := (State.findings_frame (hM.to rfl) (State.clearLog_frame (hM.to rfl) hs1))
  clear_value v1
  have h10 : Frame M s0 v3 := (State.runEnded_frame (hM.to rfl) h9)
  clear_value v3
  have h11 : Frame M s0 v5 := (Frame.upd_outs (hM.to rfl) h10)
  clear_value v5
  have h12 : Frame M s0 v6 := (ite_rule (State.err_frame (hM.to rfl) h11 (hM.fam .bst rfl)) h11)
  clear_value v6
  have h13 : Frame M s0 v7 := (fold_rule h12 fun x14 b15 h16 => (State.clusterOut_frame (hM.to rfl) h16))
  clear_value v7
  exact (ite_rule (State.holdBoot_frame (hM.to rfl) h12) (Frame.upd_boot (hM.to rfl) h13))

theorem execBootRun_frame {M : Nat} {s0 : State} {fails : List BistFail} {s : State} (hM : Covers M 0x1fffffff03ffba) (hs1 : Frame M s0 s) :
    NextP (Frame M s0) (execBootRun fails s) := by
  unfold execBootRun
  exact (guarded_frame hs1 (fun x1 h2 => (State.opBootRun_frame (hM.to rfl) h2)))

theorem State.checkMeas_frame {M : Nat} {s0 : State} {s : State} (hM : Covers M 0x810c200200) (hs0 : Frame M s0 s) :
    Frame M s0 (State.checkMeas s) := by
  unfold State.checkMeas
  split
  · rename_i w1 w2
    exact hs0
  · rename_i w3 w4 w5
    exact (ite_rule hs0 (State.err_frame (hM.to rfl) (State.eraseKeys_frame (hM.to rfl) hs0) (hM.fam .key rfl)))

theorem State.opLayer0_frame {M : Nat} {s0 : State} {sec : Dig384} {svc : Dig384} {s : State} (hM : Covers M 0x810c200208) (hs2 : Frame M s0 s) :
    Frame M s0 (State.opLayer0 sec svc s) := by
  unfold State.opLayer0
  extract_lets v1 v2 v3 v4 v5 v6 v7 v8 v9 v10 v11 v12 v13
  have h14 : Frame M s0 v2 := (Frame.upd_trust (hM.to rfl) hs2)
  clear_value v2
  have h15 : Frame M s0 v5 := (Frame.upd_boot_trust (hM.to rfl) h14)
  clear_value v5
  have h16 : Frame M s0 v6 := (State.checkMeas_frame (hM.to rfl) h15)
  clear_value v6
  have h17 : Frame M s0 v10 := (State.setSlot_frame (hM.to rfl) (State.saddled_frame (hM.to rfl) h16))
  clear_value v10
  have h18 : Frame M s0 v11 := (State.setSlot_frame (hM.to rfl) h17)
  clear_value v11
  exact (ite_rule h16 (Frame.upd_trust (hM.to rfl) h18))

theorem execLayer0Identity_frame {M : Nat} {s0 : State} {sec : Dig384} {svc : Dig384} {s : State} (hM : Covers M 0x810c200208) (hs2 : Frame M s0 s) :
    NextP (Frame M s0) (execLayer0Identity sec svc s) := by
  unfold execLayer0Identity
  exact (guarded_frame hs2 (fun x1 h2 => (State.opLayer0_frame (hM.to rfl) h2)))

theorem execClusterFault_frame {M : Nat} {s0 : State} {slot : ℕ} {s : State} (hM : Covers M 0x1fe6855f03ffb2) (hs1 : Frame M s0 s) :
    NextP (Frame M s0) (execClusterFault slot s) := by
  unfold execClusterFault
  refine (guarded_frame hs1 (fun x1 h2 => ?_))
  split
  · rename_i w3 w4 w5
    exact (ite_rule h2 (State.clusterOut_frame (hM.to rfl) h2))
  · rename_i w6 w7
    exact h2

end Sys2Proof.Machine
end

