-- ==== Sys2Proof/Laws/FrameLife.lean ====
section
/-! SUPPORT. What each operation and each meaning of Machine/Life.lean can change: it keeps the frame `Frame M s0` for every set `M` that
has the parts it names, given that its arguments keep it. -/

namespace Sys2Proof.Machine

theorem State.exportDone_frame {M : Nat} {s0 : State} {s : State} {code : ℕ} (hM : Covers M 0x200000000) (hs0 : Frame M s0 s) :
    Frame M s0 (State.exportDone s code) := by
  unfold State.exportDone
  exact (State.wr_frame (State.wr_frame hs0 (hM.fam .lcs rfl) rfl) (hM.fam .lcs rfl) rfl)

theorem State.opExport_frame {M : Nat} {s0 : State} {s : State} (hM : Covers M 0x1f02875d01dbb2) (hs0 : Frame M s0 s) :
    Frame M s0 (State.opExport s) := by
  unfold State.opExport
  extract_lets v1 v2 v3 v4
  have h5 : StP (Frame M s0) v4 := (State.writeAs_frame (hM.to rfl) hs0)
  clear_value v4
  exact (ite_rule (State.exportDone_frame (hM.to rfl) hs0) (ite_rule (ite_rule (State.exportDone_frame (hM.to rfl) hs0) (State.exportDone_frame (hM.to rfl) (State.hostWrite_frame (hM.to rfl) hs0))) (ite_rule (State.exportDone_frame (hM.to rfl) hs0) (State.exportDone_frame (hM.to rfl) h5))))

theorem execLcsExport_frame {M : Nat} {s0 : State} {p : Party} {s : State} (hM : Covers M 0x1f02875d01dbba) (hs1 : Frame M s0 s) :
    NextP (Frame M s0) (execLcsExport p s) := by
  unfold execLcsExport
  exact (State.action_frame (hM.to rfl) hs1 (hM.fam .lcs rfl) (fun x1 h2 => (State.opExport_frame (hM.to rfl) h2)))

theorem State.lcRefuse_frame {M : Nat} {s0 : State} {s : State} {pkt : Option ℕ} {code : ℕ} (hM : Covers M 0x820c000a00) (hs0 : Frame M s0 s) :
    Frame M s0 (State.lcRefuse s pkt code) := by
  unfold State.lcRefuse
  extract_lets v1
  have h2 : Frame M s0 v1 := (State.err_frame (hM.to rfl) hs0 (hM.fam .lcs rfl))
  clear_value v1
  split
  · rename_i w3 w4
    exact (State.finish_frame (hM.to rfl) h2)
  · rename_i w5
    exact h2

theorem State.lcComplete_frame {M : Nat} {s0 : State} {s : State} {pkt : Option ℕ} {status : ℕ} (hM : Covers M 0x1f02855d00dfb2) (hs0 : Frame M s0 s) :
    Frame M s0 (State.lcComplete s pkt status) := by
  unfold State.lcComplete
  split
  · rename_i w1 w2
    exact (ite_rule (State.opComplete_frame (hM.to rfl) (State.finish_frame (hM.to rfl) hs0)) hs0)
  · rename_i w3
    exact hs0

theorem State.endHoldup_frame {M : Nat} {s0 : State} {s : State} (hM : Covers M 0x3) (hs0 : Frame M s0 s) :
    Frame M s0 (State.endHoldup s) := by
  unfold State.endHoldup
  exact (Frame.upd_pins_outs (hM.to rfl) hs0)

theorem State.endCommit_frame {M : Nat} {s0 : State} {s : State} {r : LcReq} {ok : Bool} (hM : Covers M 0x1fffffffffffbf) (hs0 : Frame M s0 s) :
    Frame M s0 (State.endCommit s r ok) := by
  unfold State.endCommit
  extract_lets v1 v2 v3 v4 v5
  have h6 : Frame M s0 v3 := (State.readFuses_frame (hM.to rfl) (Frame.upd_lc (hM.to rfl) hs0))
  clear_value v3
  have h7 : Frame M s0 v4 := (State.wr_frame (State.wr_frame h6 (hM.fam .lcs rfl) rfl) (hM.fam .lcs rfl) rfl)
  clear_value v4
  have h8 : Frame M s0 v5 := (ite_rule h7 (State.fatal_frame (hM.to rfl) h7 (hM.fam .lcs rfl)))
  clear_value v5
  exact (State.blockReset_frame (hM.to rfl) (State.endHoldup_frame (hM.to rfl) (State.lcComplete_frame (hM.to rfl) h8)))

theorem State.opPhase_frame {M : Nat} {s0 : State} {p0 : CopyRead} {r : LcReq} {c : ℕ} {s : State} (hM : Covers M 0x1fffffffffffbf) (hs3 : Frame M s0 s) :
    Frame M s0 (State.opPhase p0 r c s) := by
  unfold State.opPhase
  extract_lets v1 v2 v3
  have h4 : Frame M s0 v2 := (State.setFuses_frame (hM.to rfl) hs3)
  clear_value v2
  exact (ite_rule (State.endCommit_frame (hM.to rfl) h4) (ite_rule (Frame.upd_lc (hM.to rfl) h4) (State.endCommit_frame (hM.to rfl) h4)))

theorem State.lcUds_frame {M : Nat} {s0 : State} {s : State} {src : ℕ} {dst : ℕ} (hM : Covers M 0x110000000) (hs0 : Frame M s0 s) :
    SndP (Frame M s0) (State.lcUds s src dst) := by
  unfold State.lcUds
  refine (ite_rule (P := (SndP (Frame M s0))) hs0 (ite_rule (P := (SndP (Frame M s0))) hs0 ?_))
  extract_lets v1 v2
  have h3 : SndP (Frame M s0) v2 := (State.draw_frame (hM.to rfl) hs0)
  clear_value v2
  exact (ite_rule (P := (SndP (Frame M s0))) hs0 (State.saddled_frame (hM.to rfl) h3))

theorem State.lcLast_frame {M : Nat} {s0 : State} {s : State} {code : ℕ} {src : ℕ} {dst : ℕ} (hM : Covers M 0x210000000) (hs0 : Frame M s0 s) :
    Frame M s0 (State.lcLast s code src dst) := by
  unfold State.lcLast
  extract_lets v1
  exact (State.drawNonce_frame (hM.to rfl) (State.wr_frame (State.wr_frame (State.wr_frame hs0 (hM.fam .lcs rfl) rfl) (hM.fam .lcs rfl) rfl) (hM.fam .lcs rfl) rfl))

theorem State.lcSubmit_frame {M : Nat} {s0 : State} {s : State} {pkt : Option ℕ} {l : List Byte} (hM : Covers M 0x831c800a02) (hs0 : Frame M s0 s) :
    SndP (Frame M s0) (State.lcSubmit s pkt l) := by
  unfold State.lcSubmit
  extract_lets v1 v2 v3 v4 v5 v6 v7 v8 v9
  have h10 : Frame M s0 v4 := (State.lcLast_frame (hM.to rfl) hs0)
  clear_value v4
  have h11 : SndP (Frame M s0) v5 := (State.lcUds_frame (hM.to rfl) h10)
  clear_value v5
  have h12 : Frame M s0 v7 := h11
  exact (ite_rule (P := (SndP (Frame M s0))) (State.lcRefuse_frame (hM.to rfl) h10) (Frame.upd_outs_lc (hM.to rfl) h12))

theorem State.lcUnread_frame {M : Nat} {s0 : State} {s : State} {p : Option ℕ} {code : ℕ} (hM : Covers M 0x821c000a00) (hs0 : Frame M s0 s) :
    Frame M s0 (State.lcUnread s p code) := by
  unfold State.lcUnread
  exact (State.lcRefuse_frame (hM.to rfl) (State.lcLast_frame (hM.to rfl) hs0))

theorem execCommitPhaseDone_frame {M : Nat} {s0 : State} {r : CopyRead} {s : State} (hM : Covers M 0x1fffffffffffbf) (hs1 : Frame M s0 s) :
    NextP (Frame M s0) (execCommitPhaseDone r s) := by
  unfold execCommitPhaseDone
  split
  · rename_i w1 w2 w3 w4 w5 w6
    exact (NextP.next (State.opPhase_frame (hM.to rfl) hs1))
  · rename_i w7 w8 w9
    exact (NextP.next hs1)

theorem State.opHoldupTimeout_frame {M : Nat} {s0 : State} {s : State} (hM : Covers M 0xc20e800a03) (hs0 : Frame M s0 s) :
    Frame M s0 (State.opHoldupTimeout s) := by
  unfold State.opHoldupTimeout
  split
  · rename_i w1 w2 w3 w4 w5
    exact (State.endHoldup_frame (hM.to rfl) (State.burnStatus_frame (hM.to rfl) (Frame.upd_bist (hM.to rfl) hs0)))
  · rename_i w6 w7 w8 w9 w10 w11 w12
    exact (State.endHoldup_frame (hM.to rfl) (State.lcRefuse_frame (hM.to rfl) (State.wr_frame (Frame.upd_lc (hM.to rfl) hs0) (hM.fam .lcs rfl) rfl)))
  · rename_i w13 w14 w15 w16 w17
    exact hs0

theorem execHoldupTimeout_frame {M : Nat} {s0 : State} {s : State} (hM : Covers M 0xc20e800a03) (hs0 : Frame M s0 s) :
    NextP (Frame M s0) (execHoldupTimeout s) := by
  unfold execHoldupTimeout
  exact (guarded_frame hs0 (fun x1 h2 => (State.opHoldupTimeout_frame (hM.to rfl) h2)))

theorem State.lcRead_frame {M : Nat} {s0 : State} {s : State} {p : ℕ} {ok : Bool} {l : List Byte} (hM : Covers M 0x831c800a02) (hs0 : Frame M s0 s) :
    Frame M s0 (State.lcRead s p ok l) := by
  unfold State.lcRead
  exact (ite_rule (State.lcSubmit_frame (hM.to rfl) hs0) (State.lcUnread_frame (hM.to rfl) hs0))

theorem State.opHoldup_frame {M : Nat} {s0 : State} {s : State} (hM : Covers M 0x4202800001) (hs0 : Frame M s0 s) :
    Frame M s0 (State.opHoldup s) := by
  unfold State.opHoldup
  extract_lets v1 v2 v3 v4
  have h5 : Frame M s0 v2 := (Frame.upd_pins (hM.to rfl) hs0)
  clear_value v2
  split
  · rename_i w6 w7 w8 w9 w10
    exact (State.wr_frame (Frame.upd_bist (hM.to rfl) h5) (hM.fam .bst rfl) rfl)
  · rename_i w11 w12 w13 w14 w15 w16 w17
    exact (State.wr_frame (Frame.upd_lc (hM.to rfl) h5) (hM.fam .lcs rfl) rfl)
  · rename_i w18 w19 w20 w21 w22
    exact h5

theorem execHoldupAck_frame {M : Nat} {s0 : State} {s : State} (hM : Covers M 0x4202800001) (hs0 : Frame M s0 s) :
    NextP (Frame M s0) (execHoldupAck s) := by
  unfold execHoldupAck
  exact (guarded_frame hs0 (fun x1 h2 => (State.opHoldup_frame (hM.to rfl) h2)))

theorem State.opLcReq_frame {M : Nat} {s0 : State} {p : ℕ} {p1 : Pkt} {s : State} (hM : Covers M 0x1f02875d81dfb2) (hs2 : Frame M s0 s) :
    Frame M s0 (State.opLcReq p p1 s) := by
  unfold State.opLcReq
  extract_lets v1 v2
  have h3 : StP (Frame M s0) v2 := (State.readAs_frame (hM.to rfl) hs2)
  clear_value v2
  exact (ite_rule (State.lcUnread_frame (hM.to rfl) hs2) (ite_rule (State.hostRead_frame (hM.to rfl) hs2) (ite_rule (State.lcUnread_frame (hM.to rfl) hs2) (State.lcSubmit_frame (hM.to rfl) h3))))

theorem execLcReq_frame {M : Nat} {s0 : State} {p : ℕ} {s : State} (hM : Covers M 0x1f02875d81dfb2) (hs1 : Frame M s0 s) :
    NextP (Frame M s0) (execLcReq p s) := by
  unfold execLcReq
  exact (State.perform_frame (hM.to rfl) hs1 (fun x1 x2 h3 => (State.opLcReq_frame (hM.to rfl) h3)))

end Sys2Proof.Machine
end

