-- ==== Sys2Proof/Laws/FrameSpdm.lean ====
section
/-! SUPPORT. What each operation and each meaning of Machine/Spdm.lean can change: it keeps the frame `Frame M s0` for every set `M` that
has the parts it names, given that its arguments keep it. -/

namespace Sys2Proof.Machine

theorem State.modSession_frame {M : Nat} {s0 : State} {s : State} {id : ℕ} {f : Session → Session} (hM : Covers M 0x200000) (hs0 : Frame M s0 s) :
    Frame M s0 (State.modSession s id f) := by
  unfold State.modSession
  exact (Frame.upd_trust (hM.to rfl) hs0)

theorem State.sessionEnd_frame {M : Nat} {s0 : State} {s : State} {id : ℕ} (hM : Covers M 0x200000) (hs0 : Frame M s0 s) :
    Frame M s0 (State.sessionEnd s id) := by
  unfold State.sessionEnd
  split
  · rename_i w1 w2
    exact hs0
  · rename_i w3 w4 w5
    extract_lets v6 v7
    have h8 : Frame M s0 v6 := (State.setSlot_frame (hM.to rfl) hs0)
    clear_value v6
    exact (Frame.upd_trust (hM.to rfl) h8)

theorem execEndSessions_frame {M : Nat} {s0 : State} {p : Party} {s : State} (hM : Covers M 0x810c200208) (hs1 : Frame M s0 s) :
    NextP (Frame M s0) (execEndSessions p s) := by
  unfold execEndSessions
  exact (State.action_frame (hM.to rfl) hs1 (hM.fam .key rfl) (fun x1 h2 => (fold_rule h2 fun x3 b4 h5 => (State.sessionEnd_frame (hM.to rfl) h5))))

theorem State.inSession_frame {M : Nat} {s0 : State} {s : State} {id : ℕ} {phase : ℕ} {f : Session → State → State} (hM : Covers M 0xc200400) (hs0 : Frame M s0 s) (hs3 : ∀ y0 y1, Frame M s0 y1 → Frame M s0 (f y0 y1)) :
    Frame M s0 (State.inSession s id phase f) := by
  unfold State.inSession
  split
  · rename_i w1 w2
    exact (State.spdmErr_frame (hM.to rfl) hs0)
  · rename_i w3 w4 w5
    extract_lets v6
    have h7 : Frame M s0 v6 := (State.modSession_frame (hM.to rfl) hs0)
    clear_value v6
    exact (ite_rule (State.spdmErr_frame (hM.to rfl) h7) (hs3 _ _ h7))

theorem State.opChunkSend_frame {M : Nat} {s0 : State} {session : ℕ} {last : Bool} {body : List Byte} {s : State} (hM : Covers M 0xc200400) (hs3 : Frame M s0 s) :
    Frame M s0 (State.opChunkSend session last body s) := by
  unfold State.opChunkSend
  extract_lets v1 v2
  exact (ite_rule (State.spdmErr_frame (hM.to rfl) (Frame.upd_trust (hM.to rfl) hs3)) (State.spdmSend_frame (hM.to rfl) (Frame.upd_trust (hM.to rfl) hs3)))

theorem execChunkSend_frame {M : Nat} {s0 : State} {session : ℕ} {last : Bool} {body : List Byte} {s : State} (hM : Covers M 0xc200400) (hs3 : Frame M s0 s) :
    NextP (Frame M s0) (execChunkSend session last body s) := by
  unfold execChunkSend
  exact (guarded_frame hs3 (fun x1 h2 => (State.opChunkSend_frame (hM.to rfl) h2)))

theorem State.opKemPut_frame {M : Nat} {s0 : State} {ct : List Byte} {p1 : Session} {s : State} (hM : Covers M 0x10c200400) (hs2 : Frame M s0 s) :
    Frame M s0 (State.opKemPut ct p1 s) := by
  unfold State.opKemPut
  split
  · rename_i w1 w2
    exact (State.spdmErr_frame (hM.to rfl) hs2)
  · rename_i w3 w4 w5 w6
    refine (ite_rule (State.spdmErr_frame (hM.to rfl) hs2) ?_)
    extract_lets v7 v8 v9 v10 v11
    have h12 : Frame M s0 v11 := (State.setSlot_frame (hM.to rfl) (State.spdmSend_frame (hM.to rfl) (State.saddled_frame (hM.to rfl) hs2)))
    clear_value v11
    exact (State.modSession_frame (hM.to rfl) h12)

theorem State.aliasSign_frame {M : Nat} {s0 : State} {s : State} {m : List Byte} (hM : Covers M 0x100000000) (hs0 : Frame M s0 s) :
    SomeP (SndP (Frame M s0)) (State.aliasSign s m) := by
  unfold State.aliasSign
  exact (SomeP.map (P := (SndP (Frame M s0))) fun x1 => (State.saddled_frame (hM.to rfl) hs0))

theorem State.drawBytes_frame {M : Nat} {s0 : State} {s : State} {n : ℕ} (hM : Covers M 0x10000000) (hs0 : Frame M s0 s) :
    SndP (Frame M s0) (State.drawBytes s n) := by
  unfold State.drawBytes
  extract_lets v1
  have h2 : SndP (Frame M s0) v1 := (State.draw_frame (hM.to rfl) hs0)
  clear_value v1
  exact h2

theorem State.transcript_frame {M : Nat} {s0 : State} {s : State} (hM : Covers M 0x10000000) (hs0 : Frame M s0 s) :
    SndP (Frame M s0) (State.transcript s) := by
  unfold State.transcript
  extract_lets v1
  have h2 : SndP (Frame M s0) v1 := (State.draw_frame (hM.to rfl) hs0)
  clear_value v1
  exact h2

theorem State.serveChain_frame {M : Nat} {s0 : State} {s : State} {u : CertUse} {chain : List Byte} (hM : Covers M 0x11c200400) (hs0 : Frame M s0 s) :
    Frame M s0 (State.serveChain s u chain) := by
  unfold State.serveChain
  split
  · rename_i w1 w2 w3
    refine (ite_rule (State.spdmErr_frame (hM.to rfl) hs0) ?_)
    extract_lets v4
    exact (State.spdmSend_frame (hM.to rfl) hs0)
  · rename_i w5
    exact (State.spdmSend_frame (hM.to rfl) hs0)
  · rename_i w6 w7
    extract_lets v8 v9
    have h10 : SndP (Frame M s0) v8 := (State.transcript_frame (hM.to rfl) hs0)
    clear_value v8
    have h11 : SndP (Frame M s0) v9 := (State.drawBytes_frame (hM.to rfl) h10)
    clear_value v9
    split
    · rename_i w12 w13 w14
      have h15 : SndP (Frame M s0) w13 := SomeP.out w14 (State.aliasSign_frame (hM.to rfl) h11)
      exact (State.spdmSend_frame (hM.to rfl) h15)
    · rename_i w16 w17
      exact (State.spdmErr_frame (hM.to rfl) h11)

theorem State.chainRead_frame {M : Nat} {s0 : State} {s : State} {u : CertUse} {ok : Bool} {l : List Byte} (hM : Covers M 0x811c200600) (hs0 : Frame M s0 s) :
    Frame M s0 (State.chainRead s u ok l) := by
  unfold State.chainRead
  exact (ite_rule (State.spdmErr_frame (hM.to rfl) (State.err_frame (hM.to rfl) hs0 (hM.fam .key rfl))) (State.serveChain_frame (hM.to rfl) hs0))

theorem State.needChain_frame {M : Nat} {s0 : State} {u : CertUse} {s : State} (hM : Covers M 0x1f02855d21dfb2) (hs1 : Frame M s0 s) :
    Frame M s0 (State.needChain u s) := by
  unfold State.needChain
  extract_lets v1 v2 v3 v4
  have h5 : StP (Frame M s0) v4 := (State.readAs_frame (hM.to rfl) hs1)
  clear_value v4
  exact (ite_rule (State.hostRead_frame (hM.to rfl) (Frame.upd_trust (hM.to rfl) hs1)) (State.chainRead_frame (hM.to rfl) h5))

theorem State.afterAlgorithms_frame {M : Nat} {s0 : State} {s : State} {session : ℕ} {f : State → State} (hM : Covers M 0xc200400) (hs0 : Frame M s0 s) (hs2 : ∀ y0, Frame M s0 y0 → Frame M s0 (f y0)) :
    Frame M s0 (State.afterAlgorithms s session f) := by
  unfold State.afterAlgorithms
  exact (ite_rule (hs2 _ hs0) (State.spdmErr_frame (hM.to rfl) hs0))

theorem State.identified_frame {M : Nat} {s0 : State} {s : State} {f : State → State} (hM : Covers M 0xc200400) (hs0 : Frame M s0 s) (hs1 : ∀ y0, Frame M s0 y0 → Frame M s0 (f y0)) :
    Frame M s0 (State.identified s f) := by
  unfold State.identified
  exact (ite_rule (State.spdmErr_frame (hM.to rfl) hs0) (State.afterAlgorithms_frame (hM.to rfl) hs0 hs1))

theorem execGetDigests_frame {M : Nat} {s0 : State} {s : State} (hM : Covers M 0x1f02855d21dfb2) (hs0 : Frame M s0 s) :
    NextP (Frame M s0) (execGetDigests s) := by
  unfold execGetDigests
  exact (guarded_frame hs0 (fun x1 h2 => (State.identified_frame (hM.to rfl) h2 (fun x3 h4 => (State.needChain_frame (hM.to rfl) h4)))))

theorem State.setSpdm_frame {M : Nat} {s0 : State} {s : State} {p1 : SpdmPhase} (hM : Covers M 0x200000) (hs0 : Frame M s0 s) :
    Frame M s0 (State.setSpdm s p1) := by
  unfold State.setSpdm
  exact (Frame.upd_trust (hM.to rfl) hs0)

theorem State.opAlgorithms_frame {M : Nat} {s0 : State} {offers : Bool} {s : State} (hM : Covers M 0xc200400) (hs1 : Frame M s0 s) :
    Frame M s0 (State.opAlgorithms offers s) := by
  unfold State.opAlgorithms
  exact (ite_rule (State.spdmErr_frame (hM.to rfl) hs1) (ite_rule (State.spdmSend_frame (hM.to rfl) (State.setSpdm_frame (hM.to rfl) hs1)) (State.spdmErr_frame (hM.to rfl) hs1)))

theorem execNegotiateAlgorithms_frame {M : Nat} {s0 : State} {offers : Bool} {s : State} (hM : Covers M 0xc200400) (hs1 : Frame M s0 s) :
    NextP (Frame M s0) (execNegotiateAlgorithms offers s) := by
  unfold execNegotiateAlgorithms
  exact (guarded_frame hs1 (fun x1 h2 => (State.opAlgorithms_frame (hM.to rfl) h2)))

theorem State.opKeyExchange_frame {M : Nat} {s0 : State} {reqId : ℕ} {pub : List Byte} {s : State} (hM : Covers M 0x11c200400) (hs2 : Frame M s0 s) :
    Frame M s0 (State.opKeyExchange reqId pub s) := by
  unfold State.opKeyExchange
  refine (ite_rule (State.spdmErr_frame (hM.to rfl) hs2) ?_)
  split
  · rename_i w1 w2
    exact (State.spdmErr_frame (hM.to rfl) hs2)
  · rename_i w3 w4 w5
    extract_lets v6 v7 v8 v9
    have h10 : SndP (Frame M s0) v7 := (State.drawBytes_frame (hM.to rfl) (State.saddled_frame (hM.to rfl) hs2))
    clear_value v7
    have h11 : SndP (Frame M s0) v8 := (State.transcript_frame (hM.to rfl) h10)
    clear_value v8
    split
    · rename_i w12 w13
      exact (State.spdmErr_frame (hM.to rfl) h11)
    · rename_i w14 w15 w16
      have h17 : SndP (Frame M s0) w15 := SomeP.out w16 (State.aliasSign_frame (hM.to rfl) h11)
      refine (State.spdmOut_frame (hM.to rfl) ?_)
      extract_lets v18 v19
      have h20 : Frame M s0 v18 := h17
      exact (Frame.upd_trust (hM.to rfl) h20)

theorem execEndSession_frame {M : Nat} {s0 : State} {session : ℕ} {s : State} (hM : Covers M 0xc200400) (hs1 : Frame M s0 s) :
    NextP (Frame M s0) (execEndSession session s) := by
  unfold execEndSession
  exact (guarded_frame hs1 (fun x1 h2 => (State.inSession_frame (hM.to rfl) h2 (fun x3 x4 h5 => (State.sessionEnd_frame (hM.to rfl) (State.spdmSend_frame (hM.to rfl) h5))))))

theorem State.opChunkGet_frame {M : Nat} {s0 : State} {session : ℕ} {seqNo : ℕ} {s : State} (hM : Covers M 0xc200400) (hs2 : Frame M s0 s) :
    Frame M s0 (State.opChunkGet session seqNo s) := by
  unfold State.opChunkGet
  extract_lets v1 v2 v3
  exact (ite_rule (State.spdmErr_frame (hM.to rfl) hs2) (ite_rule (State.spdmErr_frame (hM.to rfl) hs2) (State.spdmSend_frame (hM.to rfl) (Frame.upd_trust (hM.to rfl) hs2))))

theorem execChunkGet_frame {M : Nat} {s0 : State} {session : ℕ} {seqNo : ℕ} {s : State} (hM : Covers M 0xc200400) (hs2 : Frame M s0 s) :
    NextP (Frame M s0) (execChunkGet session seqNo s) := by
  unfold execChunkGet
  exact (guarded_frame hs2 (fun x1 h2 => (State.opChunkGet_frame (hM.to rfl) h2)))

theorem State.opCapabilities_frame {M : Nat} {s0 : State} {s : State} (hM : Covers M 0x1c200400) (hs0 : Frame M s0 s) :
    Frame M s0 (State.opCapabilities s) := by
  unfold State.opCapabilities
  refine (ite_rule (State.spdmErr_frame (hM.to rfl) hs0) ?_)
  extract_lets v1
  have h2 : SndP (Frame M s0) v1 := (State.draw_frame (hM.to rfl) hs0)
  clear_value v1
  exact (State.spdmSend_frame (hM.to rfl) (State.setSpdm_frame (hM.to rfl) h2))

theorem State.opFinish_frame {M : Nat} {s0 : State} {p0 : Session} {macOk : Bool} {s : State} (hM : Covers M 0x10c200400) (hs2 : Frame M s0 s) :
    Frame M s0 (State.opFinish p0 macOk s) := by
  unfold State.opFinish
  refine (ite_rule (State.spdmErr_frame (hM.to rfl) hs2) (ite_rule (State.sessionEnd_frame (hM.to rfl) (State.spdmErr_frame (hM.to rfl) hs2)) ?_))
  split
  · rename_i w1 w2
    exact (State.sessionEnd_frame (hM.to rfl) (State.spdmErr_frame (hM.to rfl) hs2))
  · rename_i w3 w4 w5
    extract_lets v6 v7 v8
    have h9 : Frame M s0 v7 := (State.setSlot_frame (hM.to rfl) (State.spdmSend_frame (hM.to rfl) (State.saddled_frame (hM.to rfl) hs2)))
    clear_value v7
    have h10 : Frame M s0 v8 := (State.modSession_frame (hM.to rfl) h9)
    clear_value v8
    exact (State.setReg_frame (hM.fam .key rfl) rfl h10)

theorem execFinish_frame {M : Nat} {s0 : State} {session : ℕ} {macOk : Bool} {s : State} (hM : Covers M 0x10c200400) (hs2 : Frame M s0 s) :
    NextP (Frame M s0) (execFinish session macOk s) := by
  unfold execFinish
  exact (guarded_frame hs2 (fun x1 h2 => (State.inSession_frame (hM.to rfl) h2 (fun x3 x4 h5 => (State.opFinish_frame (hM.to rfl) h5)))))

theorem State.newKeys_frame {M : Nat} {s0 : State} {s : State} {id : ℕ} {k : ℕ} (hM : Covers M 0x100200000) (hs0 : Frame M s0 s) :
    Frame M s0 (State.newKeys s id k) := by
  unfold State.newKeys
  split
  · rename_i w1 w2
    exact hs0
  · rename_i w3 w4 w5
    extract_lets v6 v7 v8 v9 v10
    have h11 : Frame M s0 v10 := (State.setSlot_frame (hM.to rfl) (State.saddled_frame (hM.to rfl) hs0))
    clear_value v10
    exact (State.modSession_frame (hM.to rfl) h11)

theorem State.opKeyUpdate_frame {M : Nat} {s0 : State} {id : ℕ} {op : ℕ} {s : State} (hM : Covers M 0x10c200400) (hs2 : Frame M s0 s) :
    Frame M s0 (State.opKeyUpdate id op s) := by
  unfold State.opKeyUpdate
  extract_lets v1
  have h2 : ∀ y0, Frame M s0 y0 → Frame M s0 (v1 y0) := by
    refine (fun x3 h4 => (State.spdmSend_frame (hM.to rfl) h4))
  clear_value v1
  split
  · rename_i w5
    exact (h2 _ (State.newKeys_frame (hM.to rfl) hs2))
  · rename_i w6
    exact (h2 _ (State.newKeys_frame (hM.to rfl) (State.newKeys_frame (hM.to rfl) hs2)))
  · rename_i w7
    exact (h2 _ hs2)
  · rename_i w8 w9 w10 w11
    exact (State.spdmErr_frame (hM.to rfl) hs2)

theorem execKeyUpdate_frame {M : Nat} {s0 : State} {session : ℕ} {op : ℕ} {s : State} (hM : Covers M 0x10c200400) (hs2 : Frame M s0 s) :
    NextP (Frame M s0) (execKeyUpdate session op s) := by
  unfold execKeyUpdate
  exact (guarded_frame hs2 (fun x1 h2 => (State.inSession_frame (hM.to rfl) h2 (fun x3 x4 h5 => (State.opKeyUpdate_frame (hM.to rfl) h5)))))

theorem State.certGot_frame {M : Nat} {s0 : State} {s : State} {ok : Bool} {l : List Byte} (hM : Covers M 0x811c200600) (hs0 : Frame M s0 s) :
    Frame M s0 (State.certGot s ok l) := by
  unfold State.certGot
  split
  · rename_i w1 w2
    exact hs0
  · rename_i w3 w4 w5 w6
    exact (State.chainRead_frame (hM.to rfl) (Frame.upd_trust (hM.to rfl) hs0))

theorem execSlotQuery_frame {M : Nat} {s0 : State} {session : ℕ} {s : State} (hM : Covers M 0xc200400) (hs1 : Frame M s0 s) :
    NextP (Frame M s0) (execSlotQuery session s) := by
  unfold execSlotQuery
  exact (guarded_frame hs1 (fun x1 h2 => (State.inSession_frame (hM.to rfl) h2 (fun x3 x4 h5 => (State.spdmSend_frame (hM.to rfl) h5)))))

theorem execGetVersion_frame {M : Nat} {s0 : State} {s : State} (hM : Covers M 0xc200400) (hs0 : Frame M s0 s) :
    NextP (Frame M s0) (execGetVersion s) := by
  unfold execGetVersion
  exact (guarded_frame hs0 (fun x1 h2 => (State.spdmSend_frame (hM.to rfl) (State.setSpdm_frame (hM.to rfl) h2))))

theorem execGetCertificate_frame {M : Nat} {s0 : State} {slot : ℕ} {off : ℕ} {len : ℕ} {s : State} (hM : Covers M 0x1f02855d21dfb2) (hs3 : Frame M s0 s) :
    NextP (Frame M s0) (execGetCertificate slot off len s) := by
  unfold execGetCertificate
  exact (guarded_frame hs3 (fun x1 h2 => (State.identified_frame (hM.to rfl) h2 (fun x3 h4 => (ite_rule (State.spdmErr_frame (hM.to rfl) h4) (State.needChain_frame (hM.to rfl) h4))))))

theorem execChallenge_frame {M : Nat} {s0 : State} {nonce : List Byte} {s : State} (hM : Covers M 0x1f02855d21dfb2) (hs1 : Frame M s0 s) :
    NextP (Frame M s0) (execChallenge nonce s) := by
  unfold execChallenge
  exact (guarded_frame hs1 (fun x1 h2 => (State.identified_frame (hM.to rfl) h2 (fun x3 h4 => (State.needChain_frame (hM.to rfl) h4)))))

theorem execKemPut_frame {M : Nat} {s0 : State} {session : ℕ} {ct : List Byte} {s : State} (hM : Covers M 0x10c200400) (hs2 : Frame M s0 s) :
    NextP (Frame M s0) (execKemPut session ct s) := by
  unfold execKemPut
  exact (guarded_frame hs2 (fun x1 h2 => (State.inSession_frame (hM.to rfl) h2 (fun x3 x4 h5 => (State.opKemPut_frame (hM.to rfl) h5)))))

theorem execKeyExchange_frame {M : Nat} {s0 : State} {reqId : ℕ} {pub : List Byte} {s : State} (hM : Covers M 0x11c200400) (hs2 : Frame M s0 s) :
    NextP (Frame M s0) (execKeyExchange reqId pub s) := by
  unfold execKeyExchange
  exact (guarded_frame hs2 (fun x1 h2 => (State.identified_frame (hM.to rfl) h2 (fun x3 h4 => (State.opKeyExchange_frame (hM.to rfl) h4)))))

theorem execGetCapabilities_frame {M : Nat} {s0 : State} {s : State} (hM : Covers M 0x1c200400) (hs0 : Frame M s0 s) :
    NextP (Frame M s0) (execGetCapabilities s) := by
  unfold execGetCapabilities
  exact (guarded_frame hs0 (fun x1 h2 => (State.opCapabilities_frame (hM.to rfl) h2)))

theorem execDeliverEncapsulatedResponse_frame {M : Nat} {s0 : State} {session : ℕ} {body : List Byte} {s : State} (hM : Covers M 0xc200400) (hs2 : Frame M s0 s) :
    NextP (Frame M s0) (execDeliverEncapsulatedResponse session body s) := by
  unfold execDeliverEncapsulatedResponse
  exact (guarded_frame hs2 (fun x1 h2 => (State.inSession_frame (hM.to rfl) h2 (fun x3 x4 h5 => (ite_rule (State.spdmErr_frame (hM.to rfl) h5) (State.spdmSend_frame (hM.to rfl) (State.modSession_frame (hM.to rfl) h5)))))))

theorem execHeartbeatExpiry_frame {M : Nat} {s0 : State} {session : ℕ} {s : State} (hM : Covers M 0x200000) (hs1 : Frame M s0 s) :
    NextP (Frame M s0) (execHeartbeatExpiry session s) := by
  unfold execHeartbeatExpiry
  exact (guarded_frame hs1 (fun x1 h2 => (State.sessionEnd_frame (hM.to rfl) h2)))

theorem execUnsupportedRequest_frame {M : Nat} {s0 : State} {session : ℕ} {outOfOrder : Bool} {s : State} (hM : Covers M 0xc200400) (hs2 : Frame M s0 s) :
    NextP (Frame M s0) (execUnsupportedRequest session outOfOrder s) := by
  unfold execUnsupportedRequest
  exact (guarded_frame hs2 (fun x1 h2 => (State.spdmErr_frame (hM.to rfl) h2)))

theorem State.opKemGet_frame {M : Nat} {s0 : State} {p0 : Session} {s : State} (hM : Covers M 0x11c200400) (hs1 : Frame M s0 s) :
    Frame M s0 (State.opKemGet p0 s) := by
  unfold State.opKemGet
  refine (ite_rule (State.spdmErr_frame (hM.to rfl) hs1) ?_)
  extract_lets v1 v2
  have h3 : SndP (Frame M s0) v1 := (State.drawBytes_frame (hM.to rfl) (State.saddled_frame (hM.to rfl) hs1))
  clear_value v1
  exact (State.spdmSend_frame (hM.to rfl) (State.modSession_frame (hM.to rfl) h3))

theorem execKemGet_frame {M : Nat} {s0 : State} {session : ℕ} {s : State} (hM : Covers M 0x11c200400) (hs1 : Frame M s0 s) :
    NextP (Frame M s0) (execKemGet session s) := by
  unfold execKemGet
  exact (guarded_frame hs1 (fun x1 h2 => (State.inSession_frame (hM.to rfl) h2 (fun x3 x4 h5 => (State.opKemGet_frame (hM.to rfl) h5)))))

theorem execSecuredMsgAuthFail_frame {M : Nat} {s0 : State} {session : ℕ} {s : State} (hM : Covers M 0x810c200200) (hs1 : Frame M s0 s) :
    NextP (Frame M s0) (execSecuredMsgAuthFail session s) := by
  unfold execSecuredMsgAuthFail
  exact (guarded_frame hs1 (fun x1 h2 => (ite_rule (State.err_frame (hM.to rfl) (State.sessionEnd_frame (hM.to rfl) h2) (hM.fam .key rfl)) h2)))

theorem execSpdmHeartbeat_frame {M : Nat} {s0 : State} {session : ℕ} {s : State} (hM : Covers M 0xc200400) (hs1 : Frame M s0 s) :
    NextP (Frame M s0) (execSpdmHeartbeat session s) := by
  unfold execSpdmHeartbeat
  exact (guarded_frame hs1 (fun x1 h2 => (State.inSession_frame (hM.to rfl) h2 (fun x3 x4 h5 => (State.spdmSend_frame (hM.to rfl) h5)))))

theorem execGetEncapsulatedRequest_frame {M : Nat} {s0 : State} {session : ℕ} {s : State} (hM : Covers M 0xc200400) (hs1 : Frame M s0 s) :
    NextP (Frame M s0) (execGetEncapsulatedRequest session s) := by
  unfold execGetEncapsulatedRequest
  exact (guarded_frame hs1 (fun x1 h2 => (State.inSession_frame (hM.to rfl) h2 (fun x3 x4 h5 => (ite_rule (State.spdmErr_frame (hM.to rfl) h5) (State.spdmSend_frame (hM.to rfl) (State.modSession_frame (hM.to rfl) h5)))))))

end Sys2Proof.Machine
end

