-- ==== Sys2Proof/Laws/FrameReport.lean ====
section
/-! SUPPORT. What each operation and each meaning of Machine/Report.lean can change: it keeps the frame `Frame M s0` for every set `M` that
has the parts it names, given that its arguments keep it. -/

namespace Sys2Proof.Machine

theorem State.assemble_frame {M : Nat} {s0 : State} {s : State} (hM : Covers M 0x10c200410) (hs0 : Frame M s0 s) :
    Frame M s0 (State.assemble s) := by
  unfold State.assemble
  split
  · rename_i w1 w2 w3 w4 w5 w6 w7 w8
    extract_lets v9 v10 v11 v12 v13 v14
    have h15 : Frame M s0 v11 := (Frame.upd_pkg_trust (hM.to rfl) hs0)
    clear_value v11
    have h16 : Frame M s0 v12 := (State.modSession_frame (hM.to rfl) (State.inc_frame (State.saddled_frame (hM.to rfl) h15) (hM.fam .key rfl) rfl))
    clear_value v12
    refine (ite_rule h15 ?_)
    split
    · rename_i w17 w18
      exact (State.spdmErr_frame (hM.to rfl) h15)
    · rename_i w19 w20 w21
      exact (State.spdmSend_frame (hM.to rfl) (Frame.upd_pkg_trust (hM.to rfl) h16))
  · rename_i w22 w23 w24
    exact hs0

theorem State.measKnown_frame {M : Nat} {s0 : State} {s : State} {missing : Bool} {l : List Byte} (hM : Covers M 0x10c200490) (hs0 : Frame M s0 s) :
    Frame M s0 (State.measKnown s missing l) := by
  unfold State.measKnown
  extract_lets v1 v2 v3 v4
  have h5 : Frame M s0 v2 := (Frame.upd_trust (hM.to rfl) hs0)
  clear_value v2
  exact (ite_rule (State.assemble_frame (hM.to rfl) h5) (State.sendSibs_frame (hM.to rfl) (Frame.upd_pkg (hM.to rfl) h5)))

theorem State.readMeas_frame {M : Nat} {s0 : State} {s : State} (hM : Covers M 0x1f02855d21dfb2) (hs0 : Frame M s0 s) :
    Frame M s0 (State.readMeas s) := by
  unfold State.readMeas
  extract_lets v1 v2 v3
  have h4 : StP (Frame M s0) v3 := (State.readAs_frame (hM.to rfl) hs0)
  clear_value v3
  exact (ite_rule (State.measKnown_frame (hM.to rfl) hs0) (ite_rule (State.hostRead_frame (hM.to rfl) hs0) (State.measKnown_frame (hM.to rfl) h4)))

theorem State.startReport_frame {M : Nat} {s0 : State} {s : State} (hM : Covers M 0x1f02855d21dfb2) (hs0 : Frame M s0 s) :
    Frame M s0 (State.startReport s) := by
  unfold State.startReport
  exact (ite_rule hs0 (ite_rule (State.haPost_frame (hM.to rfl) hs0) (State.readMeas_frame (hM.to rfl) hs0)))

theorem State.nextReports_frame {M : Nat} {s0 : State} {a : ℕ} {p1 : State} (hM : Covers M 0x1f02855d21dfb2) (hs1 : Frame M s0 p1) :
    Frame M s0 (State.nextReports a p1) := by
  induction a generalizing p1
  · unfold State.nextReports
    exact hs1
  · rename_i k ih
    unfold State.nextReports
    exact (ite_rule hs1 (ih (State.startReport_frame (hM.to rfl) hs1)))

theorem State.goReports_frame {M : Nat} {s0 : State} {s : State} (hM : Covers M 0x1f02855d21dfb2) (hs0 : Frame M s0 s) :
    Frame M s0 (State.goReports s) := by
  unfold State.goReports
  exact (State.nextReports_frame (hM.to rfl) hs0)

theorem execKeyHaDone_frame {M : Nat} {s0 : State} {p : Party} {s : State} (hM : Covers M 0x1f02855d21dfba) (hs1 : Frame M s0 s) :
    NextP (Frame M s0) (execKeyHaDone p s) := by
  unfold execKeyHaDone
  exact (State.action_frame (hM.to rfl) hs1 (hM.fam .key rfl) (fun x1 h2 => (ite_rule (State.assisted_frame (hM.to rfl) h2 (fun x3 h4 => (State.goReports_frame (hM.to rfl) (State.readMeas_frame (hM.to rfl) (State.haClear_frame (hM.to rfl) h4))))) h2)))

theorem State.setSibAuth_frame {M : Nat} {s0 : State} {s : State} {p : ℕ} {g : ℕ} (hM : Covers M 0x80000080) (hs0 : Frame M s0 s) :
    Frame M s0 (State.setSibAuth s p g) := by
  unfold State.setSibAuth
  extract_lets v1 v2
  split
  · rename_i w3 w4 w5
    exact (State.wr_frame (State.setLink_frame (hM.to rfl) hs0) (hM.fam .cr rfl) rfl)
  · rename_i w6 w7
    exact (State.wr_frame (State.setLink_frame (hM.to rfl) hs0) (hM.fam .cr rfl) rfl)

theorem State.sibGone_frame {M : Nat} {s0 : State} {s : State} {k : ℕ} (hM : Covers M 0x1f02855d21dfb2) (hs0 : Frame M s0 s) :
    Frame M s0 (State.sibGone s k) := by
  unfold State.sibGone
  extract_lets v1 v2 v3
  have h4 : Frame M s0 v2 := (Frame.upd_pkg (hM.to rfl) hs0)
  clear_value v2
  have h5 : Frame M s0 v3 := (ite_rule (State.leadGone_frame (hM.to rfl) h4) h4)
  clear_value v3
  exact (ite_rule (State.goReports_frame (hM.to rfl) (State.assemble_frame (hM.to rfl) h5)) h5)

theorem State.opMeasurements_frame {M : Nat} {s0 : State} {session : ℕ} {op : ℕ} {nonce : List Byte} {s : State} (hM : Covers M 0x11c200400) (hs3 : Frame M s0 s) :
    Frame M s0 (State.opMeasurements session op nonce s) := by
  unfold State.opMeasurements
  extract_lets v1 v2 v3
  have h4 : SndP (Frame M s0) v3 := (State.transcript_frame (hM.to rfl) hs3)
  clear_value v3
  refine (ite_rule (State.spdmErr_frame (hM.to rfl) hs3) ?_)
  split
  · rename_i w5 w6 w7
    have h8 : SndP (Frame M s0) w6 := SomeP.out w7 (State.aliasSign_frame (hM.to rfl) h4)
    exact (State.spdmSend_frame (hM.to rfl) h8)
  · rename_i w9 w10
    exact (State.spdmErr_frame (hM.to rfl) h4)

theorem State.withdrawReport_frame {M : Nat} {s0 : State} {s : State} (hM : Covers M 0x1f02855d21dfb2) (hs0 : Frame M s0 s) :
    Frame M s0 (State.withdrawReport s) := by
  unfold State.withdrawReport
  exact (State.goReports_frame (hM.to rfl) (State.measKnown_frame (hM.to rfl) (State.fallback_frame (hM.to rfl) (State.haClear_frame (hM.to rfl) hs0))))

theorem execGetMeasurements_frame {M : Nat} {s0 : State} {session : ℕ} {op : ℕ} {nonce : List Byte} {s : State} (hM : Covers M 0x11c200400) (hs3 : Frame M s0 s) :
    NextP (Frame M s0) (execGetMeasurements session op nonce s) := by
  unfold execGetMeasurements
  exact (guarded_frame hs3 (fun x1 h2 => (ite_rule (State.afterAlgorithms_frame (hM.to rfl) h2 (fun x3 h4 => (State.opMeasurements_frame (hM.to rfl) h4))) (State.inSession_frame (hM.to rfl) h2 (fun x5 x6 h7 => (State.opMeasurements_frame (hM.to rfl) h7))))))

theorem State.joinDone_frame {M : Nat} {s0 : State} {s : State} {job : ℕ} {rank : ℕ} (hM : Covers M 0x1164845d2123e0) (hs0 : Frame M s0 s) :
    Frame M s0 (State.joinDone s job rank) := by
  unfold State.joinDone
  refine (ite_rule hs0 ?_)
  extract_lets v1 v2
  have h3 : Frame M s0 v2 := (Frame.upd_trust (hM.to rfl) hs0)
  clear_value v2
  exact (fold_rule h3 fun x4 b5 h6 => (ite_rule h6 (State.enterRetrain_frame (hM.to rfl) h6)))

theorem State.opReportData_frame {M : Nat} {s0 : State} {p : ℕ} {body : List Byte} {s : State} (hM : Covers M 0x1f02855d21dfb2) (hs2 : Frame M s0 s) :
    Frame M s0 (State.opReportData p body s) := by
  unfold State.opReportData
  extract_lets v1 v2 v3
  have h4 : Frame M s0 v3 := (Frame.upd_pkg (hM.to rfl) hs2)
  clear_value v3
  exact (ite_rule (State.goReports_frame (hM.to rfl) (State.assemble_frame (hM.to rfl) h4)) h4)

theorem execLeadHeartbeat_frame {M : Nat} {s0 : State} {s : State} (hM : Covers M 0xc000080) (hs0 : Frame M s0 s) :
    NextP (Frame M s0) (execLeadHeartbeat s) := by
  unfold execLeadHeartbeat
  exact (guarded_frame hs0 (fun x1 h2 => (State.sendSibs_frame (hM.to rfl) h2)))

theorem State.measGot_frame {M : Nat} {s0 : State} {s : State} {ok : Bool} {l : List Byte} (hM : Covers M 0x10c200490) (hs0 : Frame M s0 s) :
    Frame M s0 (State.measGot s ok l) := by
  unfold State.measGot
  exact (ite_rule hs0 (State.measKnown_frame (hM.to rfl) hs0))

theorem State.opReportReq_frame {M : Nat} {s0 : State} {p : ℕ} {s : State} (hM : Covers M 0xc000090) (hs1 : Frame M s0 s) :
    Frame M s0 (State.opReportReq p s) := by
  unfold State.opReportReq
  extract_lets v1 v2 v3
  have h4 : Frame M s0 v2 := (State.sendSib_frame (hM.to rfl) hs1)
  clear_value v2
  exact (ite_rule (Frame.upd_pkg (hM.to rfl) h4) h4)

theorem State.setSibUp_frame {M : Nat} {s0 : State} {s : State} {p : ℕ} {up : Bool} (hM : Covers M 0x80000000) (hs0 : Frame M s0 s) :
    Frame M s0 (State.setSibUp s p up) := by
  unfold State.setSibUp
  extract_lets v1
  exact (State.wr_frame hs0 (hM.fam .cr rfl) rfl)

theorem State.opSibHeartbeat_frame {M : Nat} {s0 : State} {p : ℕ} {gen : ℕ} {s : State} (hM : Covers M 0x80000090) (hs2 : Frame M s0 s) :
    Frame M s0 (State.opSibHeartbeat p gen s) := by
  unfold State.opSibHeartbeat
  extract_lets v1 v2
  have h3 : Frame M s0 v2 := (Frame.upd_pkg (hM.to rfl) hs2)
  clear_value v2
  exact (State.setSibAuth_frame (hM.to rfl) (State.setSibUp_frame (hM.to rfl) h3))

theorem execSibHeartbeat_frame {M : Nat} {s0 : State} {port : ℕ} {gen : ℕ} {s : State} (hM : Covers M 0x80000090) (hs2 : Frame M s0 s) :
    NextP (Frame M s0) (execSibHeartbeat port gen s) := by
  unfold execSibHeartbeat
  exact (guarded_frame hs2 (fun x1 h2 => (State.opSibHeartbeat_frame (hM.to rfl) h2)))

theorem State.opLeadLost_frame {M : Nat} {s0 : State} {s : State} (hM : Covers M 0x1f0285dd21dfb2) (hs0 : Frame M s0 s) :
    Frame M s0 (State.opLeadLost s) := by
  unfold State.opLeadLost
  extract_lets v1
  have h2 : Frame M s0 v1 := (fold_rule hs0 fun x3 b4 h5 => (ite_rule (State.setSibUp_frame (hM.to rfl) h5) h5))
  clear_value v1
  exact (State.sibGone_frame (hM.to rfl) h2)

theorem State.opReportGet_frame {M : Nat} {s0 : State} {nonce : List Byte} {p1 : Session} {s : State} (hM : Covers M 0x1f02855d21dfb2) (hs2 : Frame M s0 s) :
    Frame M s0 (State.opReportGet nonce p1 s) := by
  unfold State.opReportGet
  exact (ite_rule (State.spdmErr_frame (hM.to rfl) hs2) (State.goReports_frame (hM.to rfl) (Frame.upd_trust (hM.to rfl) hs2)))

theorem State.relApply_frame {M : Nat} {s0 : State} {s : State} {l : List Byte} (hM : Covers M 0x1164855d2123e0) (hs0 : Frame M s0 s) :
    Frame M s0 (State.relApply s l) := by
  unfold State.relApply
  extract_lets v1
  have h2 : ∀ y0 y1 y2, Frame M s0 y0 → Frame M s0 (v1 y0 y1 y2) := by
    refine (fun x3 x4 x5 h6 => (State.setSlot_frame (hM.to rfl) h6))
  clear_value v1
  exact (ite_rule (State.joinDone_frame (hM.to rfl) hs0) (ite_rule (ite_rule (State.dlkBegun_frame (hM.to rfl) (h2 _ _ _ hs0)) (h2 _ _ _ hs0)) (h2 _ _ _ hs0)))

theorem State.opReleaseKey_frame {M : Nat} {s0 : State} {l : List Byte} {p1 : Session} {s : State} (hM : Covers M 0x1164855d2127e0) (hs2 : Frame M s0 s) :
    Frame M s0 (State.opReleaseKey l p1 s) := by
  unfold State.opReleaseKey
  refine (ite_rule (State.spdmErr_frame (hM.to rfl) hs2) ?_)
  extract_lets v1
  exact (ite_rule (State.spdmSend_frame (hM.to rfl) (State.inc_frame (State.keepMeas_frame (hM.to rfl) (State.relApply_frame (hM.to rfl) hs2)) (hM.fam .key rfl) rfl)) (State.spdmSend_frame (hM.to rfl) (State.lastRefuse_frame (hM.to rfl) (State.err_frame (hM.to rfl) hs2 (hM.fam .key rfl)))))

theorem execReportReq_frame {M : Nat} {s0 : State} {port : ℕ} {s : State} (hM : Covers M 0xc000090) (hs1 : Frame M s0 s) :
    NextP (Frame M s0) (execReportReq port s) := by
  unfold execReportReq
  exact (guarded_frame hs1 (fun x1 h2 => (State.opReportReq_frame (hM.to rfl) h2)))

theorem execReportGet_frame {M : Nat} {s0 : State} {session : ℕ} {nonce : List Byte} {s : State} (hM : Covers M 0x1f02855d21dfb2) (hs2 : Frame M s0 s) :
    NextP (Frame M s0) (execReportGet session nonce s) := by
  unfold execReportGet
  exact (guarded_frame hs2 (fun x1 h2 => (State.inSession_frame (hM.to rfl) h2 (fun x3 x4 h5 => (State.opReportGet_frame (hM.to rfl) h5)))))

theorem execSibOutOfService_frame {M : Nat} {s0 : State} {port : ℕ} {s : State} (hM : Covers M 0x1f0285dd21dfb2) (hs1 : Frame M s0 s) :
    NextP (Frame M s0) (execSibOutOfService port s) := by
  unfold execSibOutOfService
  exact (guarded_frame hs1 (fun x1 h2 => (State.sibGone_frame (hM.to rfl) (State.setSibAuth_frame (hM.to rfl) (State.setSibUp_frame (hM.to rfl) h2)))))

theorem execRelease_frame {M : Nat} {s0 : State} {session : ℕ} {body : List Byte} {s : State} (hM : Covers M 0x1164855d2127e0) (hs2 : Frame M s0 s) :
    NextP (Frame M s0) (execRelease session body s) := by
  unfold execRelease
  exact (guarded_frame hs2 (fun x1 h2 => (State.inSession_frame (hM.to rfl) h2 (fun x3 x4 h5 => (State.opReleaseKey_frame (hM.to rfl) h5)))))

theorem execLeadLost_frame {M : Nat} {s0 : State} {s : State} (hM : Covers M 0x1f0285dd21dfb2) (hs0 : Frame M s0 s) :
    NextP (Frame M s0) (execLeadLost s) := by
  unfold execLeadLost
  exact (guarded_frame hs0 (fun x1 h2 => (State.opLeadLost_frame (hM.to rfl) h2)))

theorem execReportData_frame {M : Nat} {s0 : State} {port : ℕ} {body : List Byte} {s : State} (hM : Covers M 0x1f02855d21dfb2) (hs2 : Frame M s0 s) :
    NextP (Frame M s0) (execReportData port body s) := by
  unfold execReportData
  exact (guarded_frame hs2 (fun x1 h2 => (State.opReportData_frame (hM.to rfl) h2)))

end Sys2Proof.Machine
end

