-- ==== Sys2Proof/Laws/FrameTdisp.lean ====
section
/-! SUPPORT. What each operation and each meaning of Machine/Tdisp.lean can change: it keeps the frame `Frame M s0` for every set `M` that
has the parts it names, given that its arguments keep it. -/

namespace Sys2Proof.Machine

theorem State.tdispErr_frame {M : Nat} {s0 : State} {s : State} {session : ℕ} {code : ℕ} (hM : Covers M 0x10c200400) (hs0 : Frame M s0 s) :
    Frame M s0 (State.tdispErr s session code) := by
  unfold State.tdispErr
  exact (State.spdmSend_frame (hM.to rfl) (State.lastRefuse_frame (hM.to rfl) hs0))

theorem State.opTdiReport_frame {M : Nat} {s0 : State} {session : ℕ} {fn : ℕ} {off : ℕ} {len : ℕ} {s : State} (hM : Covers M 0x10c200400) (hs4 : Frame M s0 s) :
    Frame M s0 (State.opTdiReport session fn off len s) := by
  unfold State.opTdiReport
  refine (ite_rule (State.tdispErr_frame (hM.to rfl) hs4) ?_)
  extract_lets v1 v2
  exact (ite_rule (State.tdispErr_frame (hM.to rfl) hs4) (State.spdmSend_frame (hM.to rfl) hs4))

theorem State.tdisp_frame {M : Nat} {s0 : State} {s : State} {session : ℕ} {fn : ℕ} {f : State → State} (hM : Covers M 0x10c200400) (hs0 : Frame M s0 s) (hs3 : ∀ y0, Frame M s0 y0 → Frame M s0 (f y0)) :
    Frame M s0 (State.tdisp s session fn f) := by
  unfold State.tdisp
  exact (State.inSession_frame (hM.to rfl) hs0 (fun x1 x2 h3 => (ite_rule (State.spdmErr_frame (hM.to rfl) h3) (ite_rule (State.tdispErr_frame (hM.to rfl) h3) (hs3 _ h3)))))

theorem execGetDeviceInterfaceReport_frame {M : Nat} {s0 : State} {session : ℕ} {fn : ℕ} {off : ℕ} {len : ℕ} {s : State} (hM : Covers M 0x10c200400) (hs4 : Frame M s0 s) :
    NextP (Frame M s0) (execGetDeviceInterfaceReport session fn off len s) := by
  unfold execGetDeviceInterfaceReport
  exact (guarded_frame hs4 (fun x1 h2 => (State.tdisp_frame (hM.to rfl) h2 (fun x3 h4 => (State.opTdiReport_frame (hM.to rfl) h4)))))

theorem execGetTdispVersion_frame {M : Nat} {s0 : State} {session : ℕ} {fn : ℕ} {s : State} (hM : Covers M 0x10c200400) (hs2 : Frame M s0 s) :
    NextP (Frame M s0) (execGetTdispVersion session fn s) := by
  unfold execGetTdispVersion
  exact (guarded_frame hs2 (fun x1 h2 => (State.tdisp_frame (hM.to rfl) h2 (fun x3 h4 => (State.spdmSend_frame (hM.to rfl) h4)))))

theorem State.ideFail_frame {M : Nat} {s0 : State} {s : State} {session : ℕ} {error : ℕ} (hM : Covers M 0x810c200600) (hs0 : Frame M s0 s) :
    Frame M s0 (State.ideFail s session error) := by
  unfold State.ideFail
  exact (State.spdmErr_frame (hM.to rfl) (State.lastRefuse_frame (hM.to rfl) (State.err_frame (hM.to rfl) hs0 (hM.fam .key rfl))))

theorem State.ide_frame {M : Nat} {s0 : State} {s : State} {session : ℕ} {port : ℕ} {f : State → State} (hM : Covers M 0x810c200600) (hs0 : Frame M s0 s) (hs3 : ∀ y0, Frame M s0 y0 → Frame M s0 (f y0)) :
    Frame M s0 (State.ide s session port f) := by
  unfold State.ide
  exact (State.inSession_frame (hM.to rfl) hs0 (fun x1 x2 h3 => (ite_rule (State.ideFail_frame (hM.to rfl) h3) (ite_rule (State.ideFail_frame (hM.to rfl) h3) (ite_rule (State.spdmErr_frame (hM.to rfl) h3) (hs3 _ h3))))))

theorem execKeyProg_frame {M : Nat} {s0 : State} {session : ℕ} {port : ℕ} {stream : ℕ} {kset : ℕ} {dir : ℕ} {sub : ℕ} {key : Key256} {ifv : W64} {s : State} (hM : Covers M 0x810c200600) (hs8 : Frame M s0 s) :
    NextP (Frame M s0) (execKeyProg session port stream kset dir sub key ifv s) := by
  unfold execKeyProg
  exact (guarded_frame hs8 (fun x1 h2 => (State.ide_frame (hM.to rfl) h2 (fun x3 h4 => (State.saddleAdd_frame (hM.to rfl) h4)))))

theorem execKSetGo_frame {M : Nat} {s0 : State} {session : ℕ} {port : ℕ} {stream : ℕ} {kset : ℕ} {dir : ℕ} {sub : ℕ} {s : State} (hM : Covers M 0x810c200600) (hs6 : Frame M s0 s) :
    NextP (Frame M s0) (execKSetGo session port stream kset dir sub s) := by
  unfold execKSetGo
  exact (guarded_frame hs6 (fun x1 h2 => (State.ide_frame (hM.to rfl) h2 (fun x3 h4 => (State.koSend_frame (hM.to rfl) h4)))))

theorem State.koAnswer_frame {M : Nat} {s0 : State} {s : State} {session : ℕ} {f : State → State} (hM : Covers M 0x200000) (hs0 : Frame M s0 s) (hs2 : ∀ y0, Frame M s0 y0 → Frame M s0 (f y0)) :
    Frame M s0 (State.koAnswer s session f) := by
  unfold State.koAnswer
  extract_lets v1 v2
  have h3 : Frame M s0 v2 := (Frame.upd_trust (hM.to rfl) hs0)
  clear_value v2
  exact (ite_rule h3 (hs2 _ h3))

theorem State.opKoTimeout_frame {M : Nat} {s0 : State} {s : State} (hM : Covers M 0x810c200600) (hs0 : Frame M s0 s) :
    Frame M s0 (State.opKoTimeout s) := by
  unfold State.opKoTimeout
  split
  · rename_i w1 w2
    exact hs0
  · rename_i w3 w4 w5 w6 w7
    exact (State.koAnswer_frame (hM.to rfl) (State.err_frame (hM.to rfl) hs0 (hM.fam .key rfl)) (fun x8 h9 => (State.spdmErr_frame (hM.to rfl) h9)))

theorem execKoAckTimeout_frame {M : Nat} {s0 : State} {s : State} (hM : Covers M 0x810c200600) (hs0 : Frame M s0 s) :
    NextP (Frame M s0) (execKoAckTimeout s) := by
  unfold execKoAckTimeout
  exact (guarded_frame hs0 (fun x1 h2 => (State.opKoTimeout_frame (hM.to rfl) h2)))

theorem State.opKoAck_frame {M : Nat} {s0 : State} {status : ℕ} {data : List Byte} {s : State} (hM : Covers M 0x810c200600) (hs2 : Frame M s0 s) :
    Frame M s0 (State.opKoAck status data s) := by
  unfold State.opKoAck
  split
  · rename_i w1 w2
    exact hs2
  · rename_i w3 w4 w5 w6 w7
    extract_lets v8
    have h9 : Frame M s0 v8 := (ite_rule hs2 (State.lastRefuse_frame (hM.to rfl) (State.err_frame (hM.to rfl) hs2 (hM.fam .key rfl))))
    clear_value v8
    exact (State.koAnswer_frame (hM.to rfl) h9 (fun x10 h11 => (State.spdmSend_frame (hM.to rfl) h11)))

theorem State.tdispOrder_frame {M : Nat} {s0 : State} {s : State} {session : ℕ} {fn : ℕ} (hM : Covers M 0x810c200e00) (hs0 : Frame M s0 s) :
    Frame M s0 (State.tdispOrder s session fn) := by
  unfold State.tdispOrder
  exact (State.tdispErr_frame (hM.to rfl) (State.tdiError_frame (hM.to rfl) hs0))

theorem State.opTdiStop_frame {M : Nat} {s0 : State} {session : ℕ} {fn : ℕ} {s : State} (hM : Covers M 0x1d02855d20dfb2) (hs2 : Frame M s0 s) :
    Frame M s0 (State.opTdiStop session fn s) := by
  unfold State.opTdiStop
  refine (ite_rule (State.tdispOrder_frame (hM.to rfl) hs2) ?_)
  extract_lets v1 v2 v3
  have h4 : Frame M s0 v1 := (State.setTdi_frame (hM.to rfl) hs2)
  have h5 : Frame M s0 v3 := (Frame.upd_trust (hM.to rfl) h4)
  exact (ite_rule (State.startQuiesce_frame (hM.to rfl) h5) (ite_rule h5 (State.stopAnswered_frame (hM.to rfl) h5)))

theorem execStopInterfaceRequest_frame {M : Nat} {s0 : State} {session : ℕ} {fn : ℕ} {s : State} (hM : Covers M 0x1d02855d20dfb2) (hs2 : Frame M s0 s) :
    NextP (Frame M s0) (execStopInterfaceRequest session fn s) := by
  unfold execStopInterfaceRequest
  exact (guarded_frame hs2 (fun x1 h2 => (State.tdisp_frame (hM.to rfl) h2 (fun x3 h4 => (State.opTdiStop_frame (hM.to rfl) h4)))))

theorem execIdeQuery_frame {M : Nat} {s0 : State} {session : ℕ} {port : ℕ} {stream : ℕ} {s : State} (hM : Covers M 0x810c200600) (hs3 : Frame M s0 s) :
    NextP (Frame M s0) (execIdeQuery session port stream s) := by
  unfold execIdeQuery
  exact (guarded_frame hs3 (fun x1 h2 => (State.ide_frame (hM.to rfl) h2 (fun x3 h4 => (State.koSend_frame (hM.to rfl) h4)))))

theorem State.opTdiStart_frame {M : Nat} {s0 : State} {session : ℕ} {fn : ℕ} {nonce : List Byte} {s : State} (hM : Covers M 0x810c200e00) (hs3 : Frame M s0 s) :
    Frame M s0 (State.opTdiStart session fn nonce s) := by
  unfold State.opTdiStart
  exact (ite_rule (State.tdispOrder_frame (hM.to rfl) hs3) (ite_rule (State.tdispErr_frame (hM.to rfl) hs3) (State.spdmSend_frame (hM.to rfl) (State.setTdi_frame (hM.to rfl) hs3))))

theorem execGetTdispCapabilities_frame {M : Nat} {s0 : State} {session : ℕ} {fn : ℕ} {s : State} (hM : Covers M 0x11c200400) (hs2 : Frame M s0 s) :
    NextP (Frame M s0) (execGetTdispCapabilities session fn s) := by
  unfold execGetTdispCapabilities
  refine (guarded_frame hs2 (fun x1 h2 => (State.tdisp_frame (hM.to rfl) h2 (fun x3 h4 => ?_))))
  extract_lets v5
  have h6 : SndP (Frame M s0) v5 := (State.draw_frame (hM.to rfl) h4)
  clear_value v5
  exact (State.spdmSend_frame (hM.to rfl) h6)

theorem execGetDeviceInterfaceState_frame {M : Nat} {s0 : State} {session : ℕ} {fn : ℕ} {s : State} (hM : Covers M 0x10c200400) (hs2 : Frame M s0 s) :
    NextP (Frame M s0) (execGetDeviceInterfaceState session fn s) := by
  unfold execGetDeviceInterfaceState
  exact (guarded_frame hs2 (fun x1 h2 => (State.tdisp_frame (hM.to rfl) h2 (fun x3 h4 => (State.spdmSend_frame (hM.to rfl) h4)))))

theorem State.opTdiLock_frame {M : Nat} {s0 : State} {session : ℕ} {fn : ℕ} {s : State} (hM : Covers M 0x811c200e00) (hs2 : Frame M s0 s) :
    Frame M s0 (State.opTdiLock session fn s) := by
  unfold State.opTdiLock
  refine (ite_rule (State.tdispOrder_frame (hM.to rfl) hs2) ?_)
  extract_lets v1 v2 v3
  have h4 : SndP (Frame M s0) v1 := (State.drawBytes_frame (hM.to rfl) hs2)
  clear_value v1
  have h5 : Frame M s0 v2 := (State.setTdi_frame (hM.to rfl) h4)
  clear_value v2
  exact (State.spdmSend_frame (hM.to rfl) (Frame.upd_trust (hM.to rfl) h5))

theorem execLockInterfaceRequest_frame {M : Nat} {s0 : State} {session : ℕ} {fn : ℕ} {_flags : ℕ} {s : State} (hM : Covers M 0x811c200e00) (hs3 : Frame M s0 s) :
    NextP (Frame M s0) (execLockInterfaceRequest session fn _flags s) := by
  unfold execLockInterfaceRequest
  exact (guarded_frame hs3 (fun x1 h2 => (State.tdisp_frame (hM.to rfl) h2 (fun x3 h4 => (State.opTdiLock_frame (hM.to rfl) h4)))))

theorem execStartInterfaceRequest_frame {M : Nat} {s0 : State} {session : ℕ} {fn : ℕ} {nonce : List Byte} {s : State} (hM : Covers M 0x810c200e00) (hs3 : Frame M s0 s) :
    NextP (Frame M s0) (execStartInterfaceRequest session fn nonce s) := by
  unfold execStartInterfaceRequest
  exact (guarded_frame hs3 (fun x1 h2 => (State.tdisp_frame (hM.to rfl) h2 (fun x3 h4 => (State.opTdiStart_frame (hM.to rfl) h4)))))

theorem execKSetStop_frame {M : Nat} {s0 : State} {session : ℕ} {port : ℕ} {stream : ℕ} {kset : ℕ} {dir : ℕ} {sub : ℕ} {s : State} (hM : Covers M 0x810c200600) (hs6 : Frame M s0 s) :
    NextP (Frame M s0) (execKSetStop session port stream kset dir sub s) := by
  unfold execKSetStop
  exact (guarded_frame hs6 (fun x1 h2 => (State.ide_frame (hM.to rfl) h2 (fun x3 h4 => (State.koSend_frame (hM.to rfl) h4)))))

theorem execKoAck_frame {M : Nat} {s0 : State} {status : ℕ} {data : List Byte} {s : State} (hM : Covers M 0x810c200600) (hs2 : Frame M s0 s) :
    NextP (Frame M s0) (execKoAck status data s) := by
  unfold execKoAck
  exact (guarded_frame hs2 (fun x1 h2 => (State.opKoAck_frame (hM.to rfl) h2)))

end Sys2Proof.Machine
end

