-- ==== Sys2Proof/Laws/FramePower.lean ====
section
/-! SUPPORT. What each operation and each meaning of Machine/Power.lean can change: it keeps the frame `Frame M s0` for every set `M` that
has the parts it names, given that its arguments keep it. -/

namespace Sys2Proof.Machine

theorem execMrWake_frame {M : Nat} {s0 : State} {s : State} (hM : Covers M 0x22) (hs0 : Frame M s0 s) :
    NextP (Frame M s0) (execMrWake s) := by
  unfold execMrWake
  exact (guarded_frame hs0 (fun x1 h2 => (Frame.upd_outs_power (hM.to rfl) h2)))

theorem State.askMrOff_frame {M : Nat} {s0 : State} {s : State} (hM : Covers M 0x20081004020) (hs0 : Frame M s0 s) :
    Frame M s0 (State.askMrOff s) := by
  unfold State.askMrOff
  refine (ite_rule hs0 (ite_rule ?_ (State.wr_frame hs0 (hM.fam .cr rfl) rfl)))
  extract_lets v1 v2
  have h3 : Frame M s0 v2 := (Frame.upd_power (hM.to rfl) hs0)
  clear_value v2
  exact (fold_rule h3 fun x4 b5 h6 => (State.farSettle_frame (hM.to rfl) h6))

theorem execMrOffReq_frame {M : Nat} {s0 : State} {p : Option Party} {s : State} (hM : Covers M 0x2808d004229) (hs1 : Frame M s0 s) :
    NextP (Frame M s0) (execMrOffReq p s) := by
  unfold execMrOffReq
  split
  · rename_i w1
    extract_lets v2 v3
    have h4 : Frame M s0 v3 := (Frame.upd_pins (hM.to rfl) hs1)
    clear_value v3
    exact (guarded_frame h4 (fun x5 h6 => (State.askMrOff_frame (hM.to rfl) h6)))
  · rename_i w7 w8
    refine (State.action_frame (hM.to rfl) hs1 (hM.fam .cr rfl) (fun x9 h10 => ?_))
    extract_lets v11
    have h12 : Frame M s0 v11 := (State.wr_frame h10 (hM.fam .cr rfl) rfl)
    clear_value v11
    exact (ite_rule (State.askMrOff_frame (hM.to rfl) h12) h12)

theorem State.opMrOff_frame {M : Nat} {s0 : State} {s : State} (hM : Covers M 0x2815c004222) (hs0 : Frame M s0 s) :
    Frame M s0 (State.opMrOff s) := by
  unfold State.opMrOff
  refine (ite_rule hs0 ?_)
  extract_lets v1 v2 v3
  have h4 : Frame M s0 v1 := by
    unfold v1
    refine (fold_rule hs0 fun x8 b9 h10 => ?_)
    extract_lets v11 v12
    have h13 : Frame M s0 v11 := (State.writeBack_frame (hM.to rfl) h10)
    clear_value v11
    exact (State.wr_frame (State.setChan_frame (hM.to rfl) h13) (hM.fam .mch rfl) rfl)
  clear_value v1
  exact (Frame.upd_outs_power (hM.to rfl) h4)

theorem execMrOffEntered_frame {M : Nat} {s0 : State} {s : State} (hM : Covers M 0x2815c004222) (hs0 : Frame M s0 s) :
    NextP (Frame M s0) (execMrOffEntered s) := by
  unfold execMrOffEntered
  exact (guarded_frame hs0 (fun x1 h2 => (State.opMrOff_frame (hM.to rfl) h2)))

theorem execIdleTimerExpiry_frame {M : Nat} {s0 : State} {cluster : ℕ} {s : State} (hM : Covers M 0x20) (hs1 : Frame M s0 s) :
    NextP (Frame M s0) (execIdleTimerExpiry cluster s) := by
  unfold execIdleTimerExpiry
  refine (guarded_frame hs1 (fun x1 h2 => ?_))
  split
  · rename_i w3 w4 w5
    exact (ite_rule h2 (Frame.upd_power (hM.to rfl) h2))
  · rename_i w6 w7
    exact h2

theorem execClusterWake_frame {M : Nat} {s0 : State} {cluster : ℕ} {s : State} (hM : Covers M 0x20) (hs1 : Frame M s0 s) :
    NextP (Frame M s0) (execClusterWake cluster s) := by
  unfold execClusterWake
  exact (guarded_frame hs1 (fun x1 h2 => (State.wakeSlots_frame (hM.to rfl) h2)))

theorem execMrSupplyLoss_frame {M : Nat} {s0 : State} {s : State} (hM : Covers M 0x100840c000393) (hs0 : Frame M s0 s) :
    NextP (Frame M s0) (execMrSupplyLoss s) := by
  unfold execMrSupplyLoss
  extract_lets v1 v2
  have h3 : Frame M s0 v2 := (Frame.upd_pins (hM.to rfl) hs0)
  clear_value v2
  exact (guarded_frame h3 (fun x4 h5 => (State.outOfService_frame (hM.to rfl) h5)))

theorem State.opMrGood_frame {M : Nat} {s0 : State} {s : State} (hM : Covers M 0x2014c004022) (hs0 : Frame M s0 s) :
    Frame M s0 (State.opMrGood s) := by
  unfold State.opMrGood
  extract_lets v1 v2 v3 v4
  have h5 : Frame M s0 v3 := (Frame.upd_outs_power (hM.to rfl) hs0)
  clear_value v3
  have h6 : Frame M s0 v4 := (State.triggerWalk_frame (hM.to rfl) (fold_rule (State.loadKeys_frame (hM.to rfl) h5) fun x7 b8 h9 => (State.nextToken_frame (hM.to rfl) h9)))
  clear_value v4
  exact (fold_rule h6 fun x10 b11 h12 => (State.farWake_frame (hM.to rfl) h12))

theorem execMrSupplyGood_frame {M : Nat} {s0 : State} {s : State} (hM : Covers M 0x2014c004023) (hs0 : Frame M s0 s) :
    NextP (Frame M s0) (execMrSupplyGood s) := by
  unfold execMrSupplyGood
  extract_lets v1 v2
  have h3 : Frame M s0 v2 := (Frame.upd_pins (hM.to rfl) hs0)
  clear_value v2
  exact (guarded_frame h3 (fun x4 h5 => (State.opMrGood_frame (hM.to rfl) h5)))

end Sys2Proof.Machine
end

