-- ==== Sys2Proof/Laws/FrameHostEnd.lean ====
section
/-! SUPPORT. What each operation and each meaning of Machine/HostEnd.lean can change: it keeps the frame `Frame M s0` for every set `M` that
has the parts it names, given that its arguments keep it. -/

namespace Sys2Proof.Machine

theorem State.doeControl_frame {M : Nat} {s0 : State} {v : W32} {s : State} (hM : Covers M 0xc000400) (hs1 : Frame M s0 s) :
    Frame M s0 (State.doeControl v s) := by
  unfold State.doeControl
  extract_lets v1 v2 v3 v4 v5 v6 v7 v8 v9
  have h10 : Frame M s0 v2 := (Frame.upd_host (hM.to rfl) hs1)
  have h11 : Frame M s0 v5 := (Frame.upd_host (hM.to rfl) h10)
  clear_value v5
  have h12 : Frame M s0 v9 := (Frame.upd_host (hM.to rfl) h11)
  clear_value v9
  exact (ite_rule (Frame.upd_host (hM.to rfl) h10) (ite_rule h10 (ite_rule (Frame.upd_host (hM.to rfl) h11) (ite_rule (ite_rule (State.emit_frame (hM.to rfl) h12) h12) (ite_rule (Frame.upd_host (hM.to rfl) h11) h11)))))

theorem State.fetchGot_frame {M : Nat} {s0 : State} {s : State} {q : ℕ} {tag : ℕ} {data : List Byte} (hM : Covers M 0x200800d000e00) (hs0 : Frame M s0 s) :
    Frame M s0 (State.fetchGot s q tag data) := by
  unfold State.fetchGot
  extract_lets v1 v2 v3 v4
  have h5 : Frame M s0 v2 := (Frame.upd_host (hM.to rfl) hs0)
  clear_value v2
  exact (ite_rule h5 (State.opFetched_frame (hM.to rfl) h5))

theorem execHostLinkUp_frame {M : Nat} {s0 : State} {s : State} (hM : Covers M 0xc000001) (hs0 : Frame M s0 s) :
    NextP (Frame M s0) (execHostLinkUp s) := by
  unfold execHostLinkUp
  exact (NextP.next (Frame.upd_pins_out_egress (hM.to rfl) hs0))

theorem State.readEnd_frame {M : Nat} {s0 : State} {tag : ℕ} {status : ℕ} {data : List Byte} {s : State} (hM : Covers M 0x1f3e875dadffb2) (hs3 : Frame M s0 s) :
    Frame M s0 (State.readEnd tag status data s) := by
  unfold State.readEnd
  split
  · rename_i w1 w2
    exact hs3
  · rename_i w3 w4 w5 w6 w7
    extract_lets v8 v9 v10 v11 v12
    have h13 : Frame M s0 v9 := (Frame.upd_host (hM.to rfl) hs3)
    clear_value v9
    have h14 : Frame M s0 v12 := (ite_rule h13 (State.cnt_frame (hM.to rfl) h13))
    clear_value v12
    refine (ite_rule (ite_rule (State.fetchGot_frame (hM.to rfl) h14) (State.opFetched_frame (hM.to rfl) h14)) (ite_rule (ite_rule (State.moverGot_frame (hM.to rfl) h14) (State.moverFailed_frame (hM.to rfl) h14)) (ite_rule ?_ (ite_rule (State.anchorRead_frame (hM.to rfl) h14) (ite_rule (State.lcRead_frame (hM.to rfl) h14) (ite_rule (State.certGot_frame (hM.to rfl) h14) (ite_rule (State.goReports_frame (hM.to rfl) (State.measGot_frame (hM.to rfl) h14)) h14)))))))
    split
    · rename_i w15 w16
      exact h14
    · rename_i w17 w18 w19
      exact (State.imageGot_frame (hM.to rfl) h14)

theorem execHostReadTimeout_frame {M : Nat} {s0 : State} {tag : ℕ} {s : State} (hM : Covers M 0x1f3e875dadffb2) (hs1 : Frame M s0 s) :
    NextP (Frame M s0) (execHostReadTimeout tag s) := by
  unfold execHostReadTimeout
  exact (guarded_frame hs1 (fun x1 h2 => (State.readEnd_frame (hM.to rfl) h2)))

theorem execDoeAccess_frame {M : Nat} {s0 : State} {off : ℕ} {write : Bool} {v : W32} {s : State} (hM : Covers M 0xc000400) (hs3 : Frame M s0 s) :
    NextP (Frame M s0) (execDoeAccess off write v s) := by
  unfold execDoeAccess
  refine (guarded_frame hs3 (fun x1 h2 => ?_))
  extract_lets v3
  refine (ite_rule ?_ (State.emit_frame (hM.to rfl) h2))
  split
  · rename_i w4
    exact (State.doeControl_frame (hM.to rfl) h2)
  · rename_i w5
    exact (ite_rule (Frame.upd_host (hM.to rfl) h2) h2)
  · rename_i w6
    exact (ite_rule h2 (Frame.upd_host (hM.to rfl) h2))
  · rename_i w7
    exact (Frame.upd_host (hM.to rfl) h2)
  · rename_i w8 w9 w10 w11 w12
    exact h2

theorem execHostLinkDown_frame {M : Nat} {s0 : State} {s : State} (hM : Covers M 0x1f3e875dadffb3) (hs0 : Frame M s0 s) :
    NextP (Frame M s0) (execHostLinkDown s) := by
  unfold execHostLinkDown
  extract_lets v1 v2 v3
  have h4 : Frame M s0 v3 := (Frame.upd_pins (hM.to rfl) hs0)
  clear_value v3
  exact (NextP.next (ite_rule (fold_rule h4 fun x5 b6 h7 => (State.readEnd_frame (hM.to rfl) h7)) h4))

theorem execHostCompletion_frame {M : Nat} {s0 : State} {tag : ℕ} {status : ℕ} {data : List Byte} {s : State} (hM : Covers M 0x1f3e875dadffb2) (hs3 : Frame M s0 s) :
    NextP (Frame M s0) (execHostCompletion tag status data s) := by
  unfold execHostCompletion
  exact (guarded_frame hs3 (fun x1 h2 => (State.readEnd_frame (hM.to rfl) h2)))

end Sys2Proof.Machine
end

