-- ==== Sys2Proof/Laws/FrameCounters.lean ====
section
/-! SUPPORT. What each operation and each meaning of Machine/Counters.lean can change: it keeps the frame `Frame M s0` for every set `M` that
has the parts it names, given that its arguments keep it. -/

namespace Sys2Proof.Machine

theorem State.unlessConf_frame {M : Nat} {s0 : State} {s : State} {f : State → State} (hs0 : Frame M s0 s) (hs1 : ∀ y0, Frame M s0 y0 → Frame M s0 (f y0)) :
    Frame M s0 (State.unlessConf s f) := by
  unfold State.unlessConf
  exact (ite_rule hs0 (hs1 _ hs0))

theorem execCntClear_frame {M : Nat} {s0 : State} {p : Party} {s : State} (hM : Covers M 0xa00d000208) (hs1 : Frame M s0 s) :
    NextP (Frame M s0) (execCntClear p s) := by
  unfold execCntClear
  exact (State.action_frame (hM.to rfl) hs1 (hM.fam .cnt rfl) (fun x1 h2 => (State.unlessConf_frame h2 (fun x3 h4 => (Frame.upd_dbg (hM.to rfl) h4)))))

theorem State.opCntSnap_frame {M : Nat} {s0 : State} {s : State} (hM : Covers M 0x2000000000) (hs0 : Frame M s0 s) :
    Frame M s0 (State.opCntSnap s) := by
  unfold State.opCntSnap
  extract_lets v1 v2
  have h3 : Frame M s0 v2 := (fold_rule hs0 fun x4 b5 h6 => (State.wrPair_frame h6 (hM.fam .cnt rfl) rfl rfl))
  clear_value v2
  exact (State.wr_frame (State.wrPair_frame h3 (hM.fam .cnt rfl) rfl rfl) (hM.fam .cnt rfl) rfl)

theorem execCntSnap_frame {M : Nat} {s0 : State} {p : Party} {s : State} (hM : Covers M 0xa00c000208) (hs1 : Frame M s0 s) :
    NextP (Frame M s0) (execCntSnap p s) := by
  unfold execCntSnap
  exact (State.action_frame (hM.to rfl) hs1 (hM.fam .cnt rfl) (fun x1 h2 => (State.unlessConf_frame h2 (fun x3 h4 => (State.opCntSnap_frame (hM.to rfl) h4)))))

theorem State.traceCtrl_frame {M : Nat} {s0 : State} {s : State} (hM : Covers M 0x900c000200) (hs0 : Frame M s0 s) :
    Frame M s0 (State.traceCtrl s) := by
  unfold State.traceCtrl
  extract_lets v1 v2 v3
  have h4 : Frame M s0 v3 := (State.wr_frame (State.wr_frame hs0 (hM.fam .trc rfl) rfl) (hM.fam .trc rfl) rfl)
  clear_value v3
  exact (ite_rule (State.err_frame (hM.to rfl) h4 (hM.fam .trc rfl)) h4)

theorem State.syncOf_frame {M : Nat} {s0 : State} {s : State} {src : ℕ} (hM : Covers M 0x1c000000) (hs0 : Frame M s0 s) :
    Frame M s0 (State.syncOf s src) := by
  unfold State.syncOf
  extract_lets v1 v2
  have h3 : SndP (Frame M s0) v1 := (State.draw_frame (hM.to rfl) hs0)
  clear_value v1
  have h4 : Frame M s0 v2 := (State.emit_frame (hM.to rfl) h3)
  clear_value v2
  exact (ite_rule (State.emit_frame (hM.to rfl) h4) h4)

theorem execTraceSync_frame {M : Nat} {s0 : State} {s : State} (hM : Covers M 0x1c000000) (hs0 : Frame M s0 s) :
    NextP (Frame M s0) (execTraceSync s) := by
  unfold execTraceSync
  exact (guarded_frame hs0 (fun x1 h2 => (fold_rule h2 fun x3 b4 h5 => (State.syncOf_frame (hM.to rfl) h5))))

end Sys2Proof.Machine
end

