-- ==== Sys2Proof/Laws/FrameInject.lean ====
section
/-! SUPPORT. What each operation and each meaning of Machine/Inject.lean can change: it keeps the frame `Frame M s0` for every set `M` that
has the parts it names, given that its arguments keep it. -/

namespace Sys2Proof.Machine

theorem State.also_frame {M : Nat} {s0 : State} {s : State} {f : State → Res} (hs0 : Frame M s0 s) (hs1 : ∀ y0, Frame M s0 y0 → NextP (Frame M s0) (f y0)) :
    Frame M s0 (State.also s f) := by
  unfold State.also
  split
  · rename_i w1 w2 w3
    have h4 : Frame M s0 w2 := NextP.out w3 (hs1 _ hs0)
    exact h4
  · rename_i w5 w6
    exact hs0

theorem State.injErr_frame {M : Nat} {s0 : State} {s : State} {b : ℕ} (hM : Covers M 0x1f3e855d29fbba) (hs0 : Frame M s0 s) :
    Frame M s0 (State.injErr s b) := by
  unfold State.injErr
  extract_lets v1
  split
  · rename_i w2
    exact (ite_rule (State.hang_frame (hM.to rfl) (State.err_frame (hM.to rfl) hs0 (hM.fam .err rfl))) hs0)
  · rename_i w3
    exact (ite_rule (State.hang_frame (hM.to rfl) (State.err_frame (hM.to rfl) hs0 (hM.fam .err rfl))) hs0)
  · rename_i w4
    exact (State.also_frame hs0 (fun x5 h6 => (execLockstepSvcMismatch_frame (hM.to rfl) h6)))
  · rename_i w7
    exact (State.also_frame hs0 (fun x8 h9 => (execLockstepSecMismatch_frame (hM.to rfl) h9)))
  · rename_i w10 w11 w12 w13 w14
    exact hs0

theorem State.injFns_frame {M : Nat} {s0 : State} {s : State} {b : ℕ} (hM : Covers M 0x1d02855d00dbb2) (hs0 : Frame M s0 s) :
    Frame M s0 (State.injFns s b) := by
  unfold State.injFns
  extract_lets v1
  exact (ite_rule (State.errorFence_frame (hM.to rfl) (State.err_frame (hM.to rfl) hs0 (hM.fam .fns rfl))) hs0)

theorem State.injCtxs_frame {M : Nat} {s0 : State} {s : State} {b : ℕ} (hM : Covers M 0x1f02855d01dbb2) (hs0 : Frame M s0 s) :
    Frame M s0 (State.injCtxs s b) := by
  unfold State.injCtxs
  extract_lets v1
  exact (ite_rule (State.ctxLost_frame (hM.to rfl) (State.err_frame (hM.to rfl) hs0 (hM.fam .ctxs rfl))) hs0)

theorem State.injStore_frame {M : Nat} {s0 : State} {s : State} (hM : Covers M 0x1f02855d00dbb2) (hs0 : Frame M s0 s) :
    Frame M s0 (State.injStore s) := by
  unfold State.injStore
  extract_lets v1
  split
  · rename_i w2 w3
    exact hs0
  · rename_i w4 w5 w6
    extract_lets v7
    have h8 : Frame M s0 v7 := (State.err_frame (hM.to rfl) hs0 (hM.fam .fe rfl))
    clear_value v7
    exact (State.stopQueue_frame (hM.to rfl) (State.cancelPkt_frame (hM.to rfl) h8))

theorem State.injFe_frame {M : Nat} {s0 : State} {s : State} {b : ℕ} (hM : Covers M 0x1f3e855d09ffb2) (hs0 : Frame M s0 s) :
    Frame M s0 (State.injFe s b) := by
  unfold State.injFe
  extract_lets v1
  split
  · rename_i w2
    split
    · rename_i w3 w4 w5
      exact (State.also_frame hs0 (fun x6 h7 => (execHbLost_frame (hM.to rfl) h7)))
    · rename_i w8 w9
      exact hs0
  · rename_i w10
    exact (State.injStore_frame (hM.to rfl) hs0)
  · rename_i w11
    exact (ite_rule (State.sliceOut_frame (hM.to rfl) hs0) hs0)
  · rename_i w12 w13 w14 w15
    exact hs0

theorem State.injMch_frame {M : Nat} {s0 : State} {s : State} {n : ℕ} {b : ℕ} (hM : Covers M 0x102840c004392) (hs0 : Frame M s0 s) :
    Frame M s0 (State.injMch s n b) := by
  unfold State.injMch
  exact (ite_rule (State.pipeFault_frame (hM.to rfl) hs0) hs0)

theorem State.injCmb_frame {M : Nat} {s0 : State} {s : State} {b : ℕ} (hM : Covers M 0x20800c100200) (hs0 : Frame M s0 s) :
    Frame M s0 (State.injCmb s b) := by
  unfold State.injCmb
  split
  · rename_i w1 w2 w3 w4
    exact (ite_rule (State.err_frame (hM.to rfl) (State.dropEntry_frame (hM.to rfl) hs0) (hM.fam .cmb rfl)) hs0)
  · rename_i w5 w6
    exact hs0

theorem State.injGw_frame {M : Nat} {s0 : State} {s : State} {b : ℕ} (hM : Covers M 0x1f2e855d05ffb2) (hs0 : Frame M s0 s) :
    Frame M s0 (State.injGw s b) := by
  unfold State.injGw
  split
  · rename_i w1
    exact (State.also_frame hs0 (fun x2 h3 => (execPlaneSetChange_frame (hM.to rfl) h3)))
  · rename_i w4
    exact (SomeP.getD (SomeP.map fun x5 => (State.stateCheck_frame (hM.to rfl) hs0)) hs0)
  · rename_i w6 w7 w8
    exact hs0

theorem State.injLpt_frame {M : Nat} {s0 : State} {s : State} {n : ℕ} {b : ℕ} (hM : Covers M 0x1fe6855f03fff2) (hs0 : Frame M s0 s) :
    Frame M s0 (State.injLpt s n b) := by
  unfold State.injLpt
  extract_lets v1 v2 v3
  split
  · rename_i w4
    exact (ite_rule (State.beginRetry_frame (hM.to rfl) (State.err_frame (hM.to rfl) (State.inc_frame hs0 (hM.fam .lpt rfl) rfl) (hM.fam .lpt rfl))) hs0)
  · rename_i w5
    exact (ite_rule (State.beginRetry_frame (hM.to rfl) (State.fecBad_frame (hM.to rfl) hs0)) hs0)
  · rename_i w6
    exact (ite_rule (State.enterRetrain_frame (hM.to rfl) (State.err_frame (hM.to rfl) hs0 (hM.fam .lpt rfl))) hs0)
  · rename_i w7
    exact (ite_rule (State.trainFail_frame (hM.to rfl) hs0) hs0)
  · rename_i w8
    exact (State.darken_frame (hM.to rfl) hs0)
  · rename_i w9
    exact (ite_rule (State.err_frame (hM.to rfl) (State.setLink_frame (hM.to rfl) hs0) (hM.fam .lpt rfl)) hs0)
  · rename_i w10
    exact (State.dropCtl_frame (hM.to rfl) hs0)
  · rename_i w11
    exact (State.stray_frame (hM.to rfl) hs0)
  · rename_i w12
    exact (State.badFrame_frame (hM.to rfl) hs0)
  · rename_i w13
    exact (State.also_frame hs0 (fun x14 h15 => (execReplayCheck_frame (hM.to rfl) h15)))
  · rename_i w16
    exact (State.clusterOut_frame (hM.to rfl) hs0)
  · rename_i w17 w18 w19 w20 w21 w22 w23 w24 w25 w26 w27 w28
    exact hs0

theorem State.injTime_frame {M : Nat} {s0 : State} {s : State} {b : ℕ} (hM : Covers M 0x840c000240) (hs0 : Frame M s0 s) :
    Frame M s0 (State.injTime s b) := by
  unfold State.injTime
  split
  · rename_i w1
    exact (ite_rule (State.toHoldover_frame (hM.to rfl) hs0) hs0)
  · rename_i w2
    exact (ite_rule (State.gmApart_frame (hM.to rfl) hs0) (State.also_frame hs0 (fun x3 h4 => (execGmLost_frame (hM.to rfl) h4))))
  · rename_i w5
    exact (State.also_frame hs0 (fun x6 h7 => (execPpsLost_frame (hM.to rfl) h7)))
  · rename_i w8
    exact (State.also_frame hs0 (fun x9 h10 => (execHoldoverExpired_frame (hM.to rfl) h10)))
  · rename_i w11
    exact (State.also_frame hs0 (fun x12 h13 => (execTbCheckMismatch_frame (hM.to rfl) h13)))
  · rename_i w14 w15 w16 w17 w18 w19
    exact hs0

theorem State.detected_frame {M : Nat} {s0 : State} {s : State} {pg : Page} {b : ℕ} (hM : Covers M 0x1fff855f7ffffa) (hs0 : Frame M s0 s) (hs1 : Covers M pg.fam.mask) :
    Frame M s0 (State.detected s pg b) := by
  unfold State.detected
  split
  · rename_i w1 w2
    exact (State.injTime_frame (hM.to rfl) hs0)
  · rename_i w3 w4
    exact (ite_rule (State.err_frame (hM.to rfl) (State.setSwap_frame (hM.to rfl) hs0) hs1) hs0)
  · rename_i w5 w6
    exact (State.injLpt_frame (hM.to rfl) hs0)
  · rename_i w7 w8
    exact (ite_rule (State.redFault_frame (hM.to rfl) hs0) hs0)
  · rename_i w9 w10
    exact (State.injGw_frame (hM.to rfl) hs0)
  · rename_i w11 w12
    exact (State.injCmb_frame (hM.to rfl) hs0)
  · rename_i w13 w14
    exact (ite_rule (State.flushHerd_frame (hM.to rfl) (State.err_frame (hM.to rfl) hs0 hs1)) hs0)
  · rename_i w15 w16
    exact (State.injMch_frame (hM.to rfl) hs0)
  · rename_i w17 w18
    exact (State.injFe_frame (hM.to rfl) hs0)
  · rename_i w19 w20
    exact (State.injCtxs_frame (hM.to rfl) hs0)
  · rename_i w21 w22
    exact (State.injFns_frame (hM.to rfl) hs0)
  · rename_i w23 w24
    exact (ite_rule (State.emit_frame (hM.to rfl) (State.zeroise_frame (hM.to rfl) hs0)) hs0)
  · rename_i w25 w26
    exact (ite_rule (State.engineOut_frame (hM.to rfl) hs0) (ite_rule (State.jobEnd_frame (hM.to rfl) (State.err_frame (hM.to rfl) hs0 hs1)) hs0))
  · rename_i w27 w28
    exact (State.injErr_frame (hM.to rfl) hs0)
  · rename_i w29 w30 w31 w32 w33 w34 w35 w36 w37 w38 w39 w40 w41 w42 w43
    exact hs0

theorem State.injectNow_frame {M : Nat} {s0 : State} {s : State} {pg : Page} {b : ℕ} (hM : Covers M 0x1fffffff7ffffa) (hs0 : Frame M s0 s) (hs1 : Covers M pg.fam.mask) :
    Frame M s0 (State.injectNow s pg b) := by
  unfold State.injectNow
  extract_lets v1 v2 v3 v4 v5 v6 v7
  have h8 : Frame M s0 v3 := (State.setReg_any (hM.to rfl) hs0)
  clear_value v3
  have h9 : Frame M s0 v5 := (Frame.upd_faults (hM.to rfl) h8)
  clear_value v5
  have h10 : Frame M s0 v6 := (State.detected_frame (hM.to rfl) h9 hs1)
  clear_value v6
  have h11 : Frame M s0 v7 := (ite_rule h10 (State.raise_frame (hM.to rfl) h10 hs1))
  clear_value v7
  exact (State.untag_frame (hM.to rfl) h11)

theorem State.injectBit_frame {M : Nat} {s0 : State} {pg : Page} {s : State} {b : ℕ} (hM : Covers M 0x1fffffff7ffffa) (hs0 : Covers M pg.fam.mask) (hs1 : Frame M s0 s) :
    Frame M s0 (State.injectBit pg s b) := by
  unfold State.injectBit
  refine (ite_rule hs1 ?_)
  split
  · rename_i w1 w2 w3
    exact (State.armErr_frame (hM.to rfl) hs1)
  · rename_i w4 w5
    exact (State.injectNow_frame (hM.to rfl) hs1 hs0)

theorem State.inject_frame {M : Nat} {s0 : State} {s : State} {pg : Page} {v : W32} (hM : Covers M 0x1fffffff7ffffa) (hs0 : Frame M s0 s) (hs1 : Covers M pg.fam.mask) :
    Frame M s0 (State.inject s pg v) := by
  unfold State.inject
  exact (ite_rule hs0 (fold_rule hs0 fun x1 b2 h3 => (State.injectBit_frame (hM.to rfl) hs1 h3)))

theorem execErrInjectWrite_frame {M : Nat} {s0 : State} {p : Party} {slot : ℕ} {v : W32} {s : State} (hM : Covers M 0x1fffffff7ffffa) (hs3 : Frame M s0 s) :
    NextP (Frame M s0) (execErrInjectWrite p slot v s) := by
  unfold execErrInjectWrite
  split
  · rename_i w1 w2
    exact (NextP.next hs3)
  · rename_i w3 w4 w5
    exact (State.action_frame (hM.to rfl) hs3 (.page (hM.to rfl) _) (fun x6 h7 => (State.inject_frame (hM.to rfl) h7 (.page (hM.to rfl) _))))

end Sys2Proof.Machine
end

