-- ==== Sys2Proof/Laws/FrameRegisters.lean ====
section
/-! SUPPORT. What each operation and each meaning of Machine/Registers.lean can change: it keeps the frame `Frame M s0` for every set `M` that
has the parts it names, given that its arguments keep it. -/

namespace Sys2Proof.Machine

theorem State.commands_frame {M : Nat} {s0 s : State} {v : W32} {l : List (State → Res)} (hs0 : Frame M s0 s)
    (hs2 : CmdsP (Frame M s0) l) : Frame M s0 (State.commands s v l) := by
  unfold State.commands
  refine fold_mem_rule hs0 fun x b hb h => ?_
  have hf : b.1 ∈ l := (List.mem_zipIdx' (List.mem_of_mem_filter hb)).2 ▸ List.getElem_mem _
  exact State.also_frame h (hs2.mem hf)


theorem State.wakeFor_frame {M : Nat} {s0 : State} {s : State} {pg : Page} {off : ℕ} (hM : Covers M 0x20) (hs0 : Frame M s0 s) :
    Frame M s0 (State.wakeFor s pg off) := by
  unfold State.wakeFor
  exact (ite_rule hs0 (State.wakeSlots_frame (hM.to rfl) hs0))

theorem State.putWords_frame {M : Nat} {s0 : State} {s : State} {pg : Page} {l : List (ℕ × W32)} (hM : Covers M 0x1fffffec000200) (hs0 : Frame M s0 s) (hs1 : Covers M pg.fam.mask) :
    Frame M s0 (State.putWords s pg l) := by
  unfold State.putWords
  extract_lets v1 v2 v3
  have h4 : Frame M s0 v2 := (fold_rule hs0 fun x5 b6 h7 => (State.setReg_any (hM.to rfl) h7))
  clear_value v2
  have h8 : Frame M s0 v3 := (ite_rule (State.err_frame (hM.to rfl) h4 hs1) h4)
  clear_value v3
  exact (ite_rule (State.err_frame (hM.to rfl) h8 hs1) h8)

theorem State.pairMark_frame {M : Nat} {s0 : State} {s : State} {p : Party} {pg : Page} {lo : ℕ} (hM : Covers M 0x1000) (hs0 : Frame M s0 s) :
    Frame M s0 (State.pairMark s p pg lo) := by
  unfold State.pairMark
  refine (ite_rule hs0 ?_)
  split
  · rename_i w1 w2 w3
    exact (ite_rule hs0 (Frame.upd_objs (hM.to rfl) hs0))
  · rename_i w4 w5 w6
    exact (ite_rule hs0 (Frame.upd_objs (hM.to rfl) hs0))
  · rename_i w7 w8 w9
    exact (ite_rule hs0 (Frame.upd_objs (hM.to rfl) hs0))
  · rename_i w10 w11 w12 w13 w14 w15
    exact hs0

theorem State.commitPair_frame {M : Nat} {s0 : State} {s : State} {p : Party} {pg : Page} {lo : ℕ} {l : W32} {h : W32} (hM : Covers M 0x1fffffec001200) (hs0 : Frame M s0 s) (hs2 : Covers M pg.fam.mask) :
    Frame M s0 (State.commitPair s p pg lo l h) := by
  unfold State.commitPair
  exact (ite_rule hs0 (ite_rule hs0 (State.pairMark_frame (hM.to rfl) (State.putWords_frame (hM.to rfl) hs0 hs2))))

theorem State.opLptCtrl_frame {M : Nat} {s0 : State} {p : Party} {n : ℕ} {v : W32} {s : State} (hM : Covers M 0x1164855d0123e8) (hs3 : Frame M s0 s) :
    Frame M s0 (State.opLptCtrl p n v s) := by
  unfold State.opLptCtrl
  extract_lets v1 v2
  have h3 : Frame M s0 v2 := (ite_rule (State.wr_frame hs3 (hM.fam .lpt rfl) rfl) (ite_rule (State.also_frame hs3 (fun x4 h5 => (execPortDisable_frame (hM.to rfl) h5))) hs3))
  clear_value v2
  exact (State.commands_frame h3 ⟨(fun x6 h7 => (execRetrain_frame (hM.to rfl) h7)), ⟨(fun x8 h9 => (execGoDark_frame (hM.to rfl) h9)), ⟨(fun x10 h11 => (execRekeyNow_frame (hM.to rfl) h11)), ⟨(fun x12 h13 => (execPdnClear_frame (hM.to rfl) h13)), trivial⟩⟩⟩⟩)

theorem State.putWord_frame {M : Nat} {s0 : State} {s : State} {pg : Page} {off : ℕ} {v : W32} (hM : Covers M 0x1fffffec000200) (hs0 : Frame M s0 s) (hs1 : Covers M pg.fam.mask) :
    Frame M s0 (State.putWord s pg off v) := by
  unfold State.putWord
  exact (State.putWords_frame (hM.to rfl) hs0 hs1)

theorem State.opCohWrite_frame {M : Nat} {s0 : State} {p : Party} {off : ℕ} {v : W32} {s : State} (hM : Covers M 0x1ffffffd09fbba) (hs3 : Frame M s0 s) :
    Frame M s0 (State.opCohWrite p off v s) := by
  unfold State.opCohWrite
  extract_lets v1
  exact (ite_rule (ite_rule (State.also_frame hs3 (fun x2 h3 => (execCohEnable_frame (hM.to rfl) h3))) (State.also_frame hs3 (fun x4 h5 => (execCohDisable_frame (hM.to rfl) h5)))) (ite_rule (State.err_frame (hM.to rfl) hs3 (hM.fam .coh rfl)) (State.putWord_frame (hM.to rfl) hs3 (hM.fam .coh rfl))))

theorem State.oneCommand_frame {M : Nat} {s0 s : State} {pg : Page} {v : W32} {l : List (State → Res)} (hM : Covers M 0x800c000200)
    (hs0 : Frame M s0 s) (hs1 : Covers M pg.fam.mask) (hs3 : CmdsP (Frame M s0) l) :
    Frame M s0 (State.oneCommand s pg v l) := by
  unfold State.oneCommand
  split
  · exact hs0
  · rename_i f e
    have hf : f ∈ l := by
      have : f ∈ (l.zipIdx.filter fun e => v.getLsbD e.2).map Prod.fst := by rw [e]; simp
      obtain ⟨x, hx, rfl⟩ := List.mem_map.1 this
      exact (List.mem_zipIdx' (List.mem_of_mem_filter hx)).2 ▸ List.getElem_mem _
    exact State.also_frame hs0 (hs3.mem hf)
  · exact State.err_frame (hM.to rfl) hs0 hs1


theorem State.opMchCtrl_frame {M : Nat} {s0 : State} {p : Party} {n : ℕ} {v : W32} {s : State} (hM : Covers M 0x1ffffffd004228) (hs3 : Frame M s0 s) :
    Frame M s0 (State.opMchCtrl p n v s) := by
  unfold State.opMchCtrl
  extract_lets v1 v2 v3
  have h4 : Frame M s0 v2 := (State.putWord_frame (hM.to rfl) hs3 (hM.fam .mch rfl))
  clear_value v2
  have h5 : Frame M s0 v3 := (ite_rule (State.also_frame h4 (fun x6 h7 => (execFarPause_frame (hM.to rfl) h7))) (ite_rule (State.also_frame h4 (fun x8 h9 => (execFarResume_frame (hM.to rfl) h9))) h4))
  clear_value v3
  exact (ite_rule (State.also_frame h5 (fun x10 h11 => (execFarStart_frame (hM.to rfl) h11))) h5)

theorem State.opCcipWrite_frame {M : Nat} {s0 : State} {p : Party} {n : ℕ} {off : ℕ} {v : W32} {s : State} (hM : Covers M 0x1fffffec600208) (hs4 : Frame M s0 s) :
    Frame M s0 (State.opCcipWrite p n off v s) := by
  unfold State.opCcipWrite
  extract_lets v1
  exact (ite_rule (State.commands_frame hs4 ⟨(fun x2 h3 => (execCcipStart_frame (hM.to rfl) h3)), ⟨(fun x4 h5 => (execCcipAbort_frame (hM.to rfl) h5)), trivial⟩⟩) (ite_rule (State.keyReqWord_frame (hM.to rfl) hs4) (ite_rule (ite_rule (State.err_frame (hM.to rfl) hs4 (hM.fam .ccip rfl)) (State.putWord_frame (hM.to rfl) hs4 (hM.fam .ccip rfl))) (ite_rule (State.err_frame (hM.to rfl) hs4 (hM.fam .ccip rfl)) (State.putWord_frame (hM.to rfl) hs4 (hM.fam .ccip rfl))))))

theorem State.opTriageCmd_frame {M : Nat} {s0 : State} {p : Party} {v : W32} {s : State} (hM : Covers M 0x2804c004228) (hs2 : Frame M s0 s) :
    Frame M s0 (State.opTriageCmd p v s) := by
  unfold State.opTriageCmd
  split
  · rename_i w1 w2
    exact (State.err_frame (hM.to rfl) hs2 (hM.fam .err rfl))
  · rename_i w3 w4
    exact (State.also_frame hs2 (fun x5 h6 => (execTriageRetire_frame (hM.to rfl) h6)))
  · rename_i w7 w8
    exact (State.also_frame hs2 (fun x9 h10 => (execTriageRebuild_frame (hM.to rfl) h10)))
  · rename_i w11 w12 w13 w14
    exact (State.also_frame hs2 (fun x15 h16 => (execTriageLeave_frame (hM.to rfl) h16)))

theorem State.opSuspectCmd_frame {M : Nat} {s0 : State} {p : Party} {v : W32} {s : State} (hM : Covers M 0x1f02855d01dbba) (hs2 : Frame M s0 s) :
    Frame M s0 (State.opSuspectCmd p v s) := by
  unfold State.opSuspectCmd
  extract_lets v1
  split
  · rename_i w2 w3
    exact (State.err_frame (hM.to rfl) hs2 (hM.fam .err rfl))
  · rename_i w4 w5
    exact (State.also_frame hs2 (fun x6 h7 => (execSuspectReplay_frame (hM.to rfl) h7)))
  · rename_i w8 w9
    exact (State.also_frame hs2 (fun x10 h11 => (execSuspectFail_frame (hM.to rfl) h11)))
  · rename_i w12 w13 w14 w15
    exact (State.also_frame hs2 (fun x16 h17 => (execSuspectDrop_frame (hM.to rfl) h17)))

theorem State.opRecRptr_frame {M : Nat} {s0 : State} {v : W32} {s : State} (hM : Covers M 0x800c000200) (hs1 : Frame M s0 s) :
    Frame M s0 (State.opRecRptr v s) := by
  unfold State.opRecRptr
  extract_lets v1 v2 v3 v4
  have h5 : Frame M s0 v2 := (State.showUnread_frame (hM.to rfl) (State.wr_frame hs1 (hM.fam .err rfl) rfl))
  clear_value v2
  have h6 : Frame M s0 v4 := (Frame.upd_faults (hM.to rfl) h5)
  clear_value v4
  refine (ite_rule (State.err_frame (hM.to rfl) hs1 (hM.fam .err rfl)) ?_)
  split
  · rename_i w7 w8 w9
    exact (State.errVec_frame (hM.to rfl) h6)
  · rename_i w10 w11
    exact h6

theorem State.opDebugWrite_frame {M : Nat} {s0 : State} {p : Party} {pg : Page} {off : ℕ} {v : W32} {s : State} (hM : Covers M 0x1fffffed000208) (hs1 : Covers M pg.fam.mask) (hs4 : Frame M s0 s) :
    Frame M s0 (State.opDebugWrite p pg off v s) := by
  unfold State.opDebugWrite
  refine (ite_rule (State.putWord_frame (hM.to rfl) hs4 hs1) ?_)
  split
  · rename_i w1 w2
    extract_lets v3 v4 v5
    have h6 : Frame M s0 v4 := (State.putWord_frame (hM.to rfl) hs4 hs1)
    clear_value v4
    exact (ite_rule h6 (Frame.upd_dbg (hM.to rfl) h6))
  · rename_i w7 w8
    exact (State.traceCtrl_frame (hM.to rfl) (State.putWord_frame (hM.to rfl) hs4 hs1))
  · rename_i w9 w10 w11
    exact (State.commands_frame hs4 ⟨(fun x12 h13 => (execCntSnap_frame (hM.to rfl) h13)), ⟨(fun x14 h15 => (execCntClear_frame (hM.to rfl) h15)), trivial⟩⟩)

theorem State.opTimeCtrl_frame {M : Nat} {s0 : State} {p : Party} {v : W32} {s : State} (hM : Covers M 0x1fffffec000208) (hs2 : Frame M s0 s) :
    Frame M s0 (State.opTimeCtrl p v s) := by
  unfold State.opTimeCtrl
  extract_lets v1 v2
  have h3 : Frame M s0 v2 := (State.putWord_frame (hM.to rfl) hs2 (hM.fam .time rfl))
  clear_value v2
  exact (ite_rule (State.also_frame h3 (fun x4 h5 => (execSteerDisable_frame (hM.to rfl) h5))) h3)

theorem State.opPwrCtrl_frame {M : Nat} {s0 : State} {p : Party} {v : W32} {s : State} (hM : Covers M 0x1fffffed00422b) (hs2 : Frame M s0 s) :
    Frame M s0 (State.opPwrCtrl p v s) := by
  unfold State.opPwrCtrl
  extract_lets v1 v2 v3 v4 v5 v6 v7 v8
  have h9 : Frame M s0 v2 := (State.putWord_frame (hM.to rfl) hs2 (hM.fam .cr rfl))
  clear_value v2
  have h10 : Frame M s0 v4 := (ite_rule h9 (Frame.upd_power (hM.to rfl) h9))
  clear_value v4
  have h11 : Frame M s0 v6 := (State.wr_frame h10 (hM.fam .cr rfl) rfl)
  clear_value v6
  have h12 : Frame M s0 v8 := (Frame.upd_power (hM.to rfl) h11)
  clear_value v8
  exact (ite_rule (State.also_frame h10 (fun x13 h14 => (execMrOffReq_frame (hM.to rfl) h14))) (ite_rule (ite_rule h11 (ite_rule (fold_rule h12 fun x15 b16 h17 => (State.farWake_frame (hM.to rfl) (State.nextToken_frame (hM.to rfl) h17))) (State.also_frame h11 (fun x18 h19 => (execMrWake_frame (hM.to rfl) h19))))) h10))

theorem State.opSwArch_frame {M : Nat} {s0 : State} {v : W32} {s : State} (hM : Covers M 0x1fffffec000a00) (hs1 : Frame M s0 s) :
    Frame M s0 (State.opSwArch v s) := by
  unfold State.opSwArch
  extract_lets v1 v2 v3 v4
  have h5 : Frame M s0 v2 := (State.putWord_frame (hM.to rfl) hs1 (hM.fam .ver rfl))
  clear_value v2
  have h6 : Frame M s0 v3 := (State.wr_frame (State.wr_frame (State.wr_frame h5 (hM.fam .ver rfl) rfl) (hM.fam .ver rfl) rfl) (hM.fam .ver rfl) rfl)
  clear_value v3
  exact (ite_rule (State.err_frame (hM.to rfl) hs1 (hM.fam .ver rfl)) (ite_rule h5 (Frame.upd_front (hM.to rfl) h6)))

theorem State.writeReg1_frame {M : Nat} {s0 : State} {s : State} {p : Party} {pg : Page} {off : ℕ} {v : W32} (hM : Covers M 0x1fffffffffffff) (hs0 : Frame M s0 s) (hs2 : Covers M pg.fam.mask) :
    Frame M s0 (State.writeReg1 s p pg off v) := by
  unfold State.writeReg1
  extract_lets v1
  split
  · rename_i w2 w3
    exact (ite_rule (State.opSwArch_frame (hM.to rfl) hs0) (State.putWord_frame (hM.to rfl) hs0 hs2))
  · rename_i w4 w5
    exact (State.putWord_frame (hM.to rfl) hs0 hs2)
  · rename_i w6 w7
    exact (ite_rule (State.opPwrCtrl_frame (hM.to rfl) hs0) (State.putWord_frame (hM.to rfl) hs0 hs2))
  · rename_i w8 w9
    exact (ite_rule (State.commands_frame hs0 ⟨(fun x10 h11 => (execEndSessions_frame (hM.to rfl) h11)), trivial⟩) (ite_rule (State.commands_frame hs0 ⟨(fun x12 h13 => (execKeyHaDone_frame (hM.to rfl) h13)), trivial⟩) (State.putWord_frame (hM.to rfl) hs0 hs2)))
  · rename_i w14 w15
    exact (ite_rule (State.commands_frame hs0 ⟨(fun x16 h17 => (execLcsExport_frame (hM.to rfl) h17)), trivial⟩) (State.putWord_frame (hM.to rfl) hs0 hs2))
  · rename_i w18 w19
    exact (ite_rule (State.opTimeCtrl_frame (hM.to rfl) hs0) (State.putWord_frame (hM.to rfl) hs0 hs2))
  · rename_i w20 w21
    exact (State.opDebugWrite_frame (hM.to rfl) hs2 hs0)
  · rename_i w22 w23
    exact (State.opDebugWrite_frame (hM.to rfl) hs2 hs0)
  · rename_i w24 w25
    exact (State.opDebugWrite_frame (hM.to rfl) hs2 hs0)
  · rename_i w26 w27
    exact (ite_rule (State.commands_frame hs0 ⟨(fun x28 h29 => (execBistRun_frame (hM.to rfl) h29)), ⟨(fun x30 h31 => (execBistAbort_frame (hM.to rfl) h31)), ⟨(fun x32 h33 => (execBurn_frame (hM.to rfl) h33)), ⟨(fun x34 h35 => (execHoldLock_frame (hM.to rfl) h35)), trivial⟩⟩⟩⟩) (State.putWord_frame (hM.to rfl) hs0 hs2))
  · rename_i w36 w37
    exact (ite_rule (State.commands_frame hs0 ⟨(fun x38 h39 => (execInstReset_frame (hM.to rfl) h39)), ⟨(fun x40 h41 => (execCrstNow_frame (hM.to rfl) h41)), trivial⟩⟩) (ite_rule (State.opRecRptr_frame (hM.to rfl) hs0) (ite_rule (State.opSuspectCmd_frame (hM.to rfl) hs0) (ite_rule (State.opTriageCmd_frame (hM.to rfl) hs0) (State.putWord_frame (hM.to rfl) hs0 hs2)))))
  · rename_i w42 w43
    exact (State.opCcipWrite_frame (hM.to rfl) hs0)
  · rename_i w44 w45
    exact (ite_rule (State.opMchCtrl_frame (hM.to rfl) hs0) (ite_rule (State.oneCommand_frame (hM.to rfl) hs0 hs2 ⟨(fun x46 h47 => (execRebuild_frame (hM.to rfl) h47)), ⟨(fun x48 h49 => (execRetire_frame (hM.to rfl) h49)), ⟨(fun x50 h51 => (execWalk_frame (hM.to rfl) h51)), trivial⟩⟩⟩) (ite_rule (State.also_frame hs0 (fun x52 h53 => (execFarGrant_frame (hM.to rfl) h53))) (ite_rule (State.also_frame hs0 (fun x54 h55 => (execMchLinePagesWrite_frame (hM.to rfl) h55))) (ite_rule (State.oneCommand_frame (hM.to rfl) hs0 hs2 ⟨(fun x56 h57 => (execRatCmdWrite_frame (hM.to rfl) h57)), ⟨(fun x58 h59 => (execRatCmdRead_frame (hM.to rfl) h59)), trivial⟩⟩) (State.putWord_frame (hM.to rfl) hs0 hs2))))))
  · rename_i w60 w61
    exact (ite_rule (ite_rule (State.also_frame hs0 (fun x62 h63 => (execArm_frame (hM.to rfl) h63))) (State.also_frame hs0 (fun x64 h65 => (execArmClear_frame (hM.to rfl) h65)))) (ite_rule (State.oneCommand_frame (hM.to rfl) hs0 hs2 ⟨(fun x66 h67 => (execGo_frame (hM.to rfl) h67)), ⟨(fun x68 h69 => (execAbandon_frame (hM.to rfl) h69)), trivial⟩⟩) (State.putWord_frame (hM.to rfl) hs0 hs2)))
  · rename_i w70 w71
    exact (State.putWord_frame (hM.to rfl) hs0 hs2)
  · rename_i w72 w73
    exact (State.opCohWrite_frame (hM.to rfl) hs0)
  · rename_i w74 w75
    exact (ite_rule (State.wr_frame (State.putWord_frame (hM.to rfl) hs0 hs2) hs2 rfl) (State.putWord_frame (hM.to rfl) hs0 hs2))
  · rename_i w76 w77
    exact (ite_rule (State.oneCommand_frame (hM.to rfl) hs0 hs2 ⟨(fun x78 h79 => (execHitchCmdWrite_frame (hM.to rfl) h79)), ⟨(fun x80 h81 => (execHitchCmdRead_frame (hM.to rfl) h81)), ⟨(fun x82 h83 => (execHitchClear_frame (hM.to rfl) h83)), ⟨(fun x84 h85 => (execMemberSet_frame (hM.to rfl) h85)), trivial⟩⟩⟩⟩) (State.putWord_frame (hM.to rfl) hs0 hs2))
  · rename_i w86 w87
    exact (ite_rule (State.oneCommand_frame (hM.to rfl) hs0 hs2 ⟨(fun x88 h89 => (execRedDescWrite_frame (hM.to rfl) h89)), ⟨(fun x90 h91 => (execRedDescRead_frame (hM.to rfl) h91)), ⟨(fun x92 h93 => (execRedDescInvalidate_frame (hM.to rfl) h93)), ⟨(fun x94 h95 => (execResetRoot_frame (hM.to rfl) h95)), trivial⟩⟩⟩⟩) (State.putWord_frame (hM.to rfl) hs0 hs2))
  · rename_i w96 w97
    exact (ite_rule (State.opLptCtrl_frame (hM.to rfl) hs0) (State.putWord_frame (hM.to rfl) hs0 hs2))
  · rename_i w98 w99
    exact (ite_rule (State.also_frame hs0 (fun x100 h101 => (execKqEnable_frame (hM.to rfl) h101))) (ite_rule (State.also_frame hs0 (fun x102 h103 => (execRingUnbind_frame (hM.to rfl) h103))) (State.putWord_frame (hM.to rfl) hs0 hs2)))
  · rename_i w104 w105
    exact (ite_rule (State.commands_frame hs0 ⟨(fun x106 h107 => (execSnap_frame (hM.to rfl) h107)), trivial⟩) (ite_rule (State.also_frame hs0 (fun x108 h109 => (execCtxsObjKick_frame (hM.to rfl) h109))) (ite_rule (State.commands_frame hs0 ⟨(fun x110 h111 => (execCtxsTdDone_frame (hM.to rfl) h111)), trivial⟩) (State.putWord_frame (hM.to rfl) hs0 hs2))))
  · rename_i w112 w113
    exact (ite_rule (State.commands_frame hs0 ⟨(fun x114 h115 => (execFnsRead_frame (hM.to rfl) h115)), trivial⟩) (ite_rule (State.also_frame hs0 (fun x116 h117 => (execFnsEvict_frame (hM.to rfl) h117))) (State.putWord_frame (hM.to rfl) hs0 hs2)))
  · rename_i w118 w119
    exact (ite_rule (State.commands_frame hs0 ⟨(fun x120 h121 => (execQuiesce_frame (hM.to rfl) h121)), ⟨(fun x122 h123 => (execVfRelease_frame (hM.to rfl) h123)), trivial⟩⟩) (ite_rule (State.also_frame hs0 (fun x124 h125 => (execKqEnable_frame (hM.to rfl) h125))) (ite_rule (State.commands_frame hs0 ⟨(fun x126 h127 => (execVfHaDone_frame (hM.to rfl) h127)), trivial⟩) (ite_rule hs0 (State.putWord_frame (hM.to rfl) hs0 hs2)))))

theorem State.commit_frame {M : Nat} {s0 : State} {s : State} {p : Party} {pg : Page} {off : ℕ} {v : W32} (hM : Covers M 0x1fffffffffffff) (hs0 : Frame M s0 s) (hs2 : Covers M pg.fam.mask) :
    Frame M s0 (State.commit s p pg off v) := by
  unfold State.commit
  extract_lets v1
  exact (ite_rule hs0 (ite_rule (State.setReg_any (hM.to rfl) hs0) (ite_rule (State.setReg_any (hM.to rfl) hs0) (ite_rule (State.inject_frame (hM.to rfl) hs0 hs2) (ite_rule (ite_rule (State.setReg_any (hM.to rfl) hs0) hs0) (State.writeReg1_frame (hM.to rfl) hs0 hs2))))))

theorem State.setLatch_frame {M : Nat} {s0 : State} {s : State} {p : Party} {pg : Page} {p3 : Latch} (hM : Covers M 0x4) (hs0 : Frame M s0 s) :
    Frame M s0 (State.setLatch s p pg p3) := by
  unfold State.setLatch
  exact (Frame.upd_latches (hM.to rfl) hs0)

theorem State.write32_frame {M : Nat} {s0 : State} {s : State} {p : Party} {pg : Page} {off : ℕ} {v : W32} (hM : Covers M 0x1fffffffffffff) (hs0 : Frame M s0 s) (hs2 : Covers M pg.fam.mask) :
    Frame M s0 (State.write32 s p pg off v) := by
  unfold State.write32
  refine (ite_rule (State.setLatch_frame (hM.to rfl) hs0) (ite_rule ?_ (State.commit_frame (hM.to rfl) hs0 hs2)))
  extract_lets v1
  split
  · rename_i w2 w3 w4 w5
    exact (ite_rule (State.commitPair_frame (hM.to rfl) (State.setLatch_frame (hM.to rfl) hs0) hs2) (State.pairMark_frame (hM.to rfl) (State.commit_frame (hM.to rfl) hs0 hs2)))
  · rename_i w6 w7
    exact (State.pairMark_frame (hM.to rfl) (State.commit_frame (hM.to rfl) hs0 hs2))

theorem State.write32By_frame {M : Nat} {s0 : State} {s : State} {p : Party} {pg : Page} {off : ℕ} {v : W32} (hM : Covers M 0x1fffffffffffff) (hs0 : Frame M s0 s) (hs2 : Covers M pg.fam.mask) :
    Frame M s0 (State.write32By s p pg off v) := by
  unfold State.write32By
  exact (ite_rule (State.write32_frame (hM.to rfl) (State.wakeFor_frame (hM.to rfl) hs0) hs2) (State.err_frame (hM.to rfl) hs0 hs2))

theorem State.writeSized_frame {M : Nat} {s0 : State} {s : State} {p : Party} {pg : Page} {off : ℕ} {size : ℕ} {v : W64} (hM : Covers M 0x1fffffffffffff) (hs0 : Frame M s0 s) (hs2 : Covers M pg.fam.mask) :
    Frame M s0 (State.writeSized s p pg off size v) := by
  unfold State.writeSized
  extract_lets v1 v2
  exact (ite_rule (State.write32By_frame (hM.to rfl) hs0 hs2) (ite_rule (ite_rule (State.commitPair_frame (hM.to rfl) (State.wakeFor_frame (hM.to rfl) hs0) hs2) (State.err_frame (hM.to rfl) hs0 hs2)) (ite_rule (State.write32By_frame (hM.to rfl) (State.write32By_frame (hM.to rfl) hs0 hs2) hs2) (ite_rule (State.err_frame (hM.to rfl) (State.wakeFor_frame (hM.to rfl) hs0) hs2) (State.err_frame (hM.to rfl) hs0 hs2)))))

theorem State.lostWrite_frame {M : Nat} {s0 : State} {s : State} {pg : Page} (hM : Covers M 0x8) (hs0 : Frame M s0 s) :
    Frame M s0 (State.lostWrite s pg) := by
  unfold State.lostWrite
  exact (Frame.upd_boot (hM.to rfl) hs0)

theorem State.writeTo_frame {M : Nat} {s0 : State} {s : State} {p : Party} {pg : Page} {off : ℕ} {size : ℕ} {v : W64} (hM : Covers M 0x1fffffffffffff) (hs0 : Frame M s0 s) (hs2 : Covers M pg.fam.mask) :
    Frame M s0 (State.writeTo s p pg off size v) := by
  unfold State.writeTo
  exact (ite_rule hs0 (ite_rule (State.lostWrite_frame (hM.to rfl) hs0) (State.writeSized_frame (hM.to rfl) hs0 hs2)))

theorem execVerSwArchWrite_frame {M : Nat} {s0 : State} {p : Party} {v : W32} {s : State} (hM : Covers M 0x1fffffffffffff) (hs2 : Frame M s0 s) :
    NextP (Frame M s0) (execVerSwArchWrite p v s) := by
  unfold execVerSwArchWrite
  exact (NextP.next (State.writeTo_frame (hM.to rfl) hs2 (hM.fam .ver rfl)))

theorem execLockWrite_frame {M : Nat} {s0 : State} {p : Party} {slot : ℕ} {v : W32} {s : State} (hM : Covers M 0x1fffffffffffff) (hs3 : Frame M s0 s) :
    NextP (Frame M s0) (execLockWrite p slot v s) := by
  unfold execLockWrite
  split
  · rename_i w1 w2
    exact (NextP.next hs3)
  · rename_i w3 w4 w5
    exact (NextP.next (State.writeTo_frame (hM.to rfl) hs3 (.page (hM.to rfl) _)))

theorem State.noRead_frame {M : Nat} {s0 : State} {s : State} {pg : Page} {b : ℕ} (hM : Covers M 0x800c000200) (hs0 : Frame M s0 s) (hs1 : Covers M pg.fam.mask) :
    SndP (Frame M s0) (State.noRead s pg b) := by
  unfold State.noRead
  exact (ite_rule (State.err_frame (hM.to rfl) hs0 hs1) hs0)

theorem State.read32_frame {M : Nat} {s0 : State} {s : State} {p : Party} {pg : Page} {off : ℕ} (hM : Covers M 0x4) (hs0 : Frame M s0 s) :
    SndP (Frame M s0) (State.read32 s p pg off) := by
  unfold State.read32
  extract_lets v1 v2 v3
  refine (ite_rule (P := (SndP (Frame M s0))) hs0 (ite_rule (P := (SndP (Frame M s0))) (State.setLatch_frame (hM.to rfl) hs0) (ite_rule (P := (SndP (Frame M s0))) ?_ (ite_rule (P := (SndP (Frame M s0))) hs0 hs0))))
  split
  · rename_i w4 w5 w6 w7
    exact (ite_rule (P := (SndP (Frame M s0))) (State.setLatch_frame (hM.to rfl) hs0) hs0)
  · rename_i w8 w9
    exact hs0

theorem State.read32By_frame {M : Nat} {s0 : State} {s : State} {p : Party} {pg : Page} {off : ℕ} (hM : Covers M 0x800c000204) (hs0 : Frame M s0 s) (hs2 : Covers M pg.fam.mask) :
    SndP (Frame M s0) (State.read32By s p pg off) := by
  unfold State.read32By
  refine (ite_rule (P := (SndP (Frame M s0))) (State.noRead_frame (hM.to rfl) hs0 hs2) ?_)
  extract_lets v1
  have h2 : SndP (Frame M s0) v1 := (State.read32_frame (hM.to rfl) hs0)
  clear_value v1
  exact h2

theorem State.readSized_frame {M : Nat} {s0 : State} {s : State} {p : Party} {pg : Page} {off : ℕ} {size : ℕ} (hM : Covers M 0x800c000204) (hs0 : Frame M s0 s) (hs2 : Covers M pg.fam.mask) :
    SndP (Frame M s0) (State.readSized s p pg off size) := by
  unfold State.readSized
  refine (ite_rule (P := (SndP (Frame M s0))) (State.read32By_frame (hM.to rfl) hs0 hs2) (ite_rule (P := (SndP (Frame M s0))) (ite_rule (P := (SndP (Frame M s0))) (State.noRead_frame (hM.to rfl) hs0 hs2) hs0) (ite_rule (P := (SndP (Frame M s0))) ?_ (ite_rule (P := (SndP (Frame M s0))) (State.noRead_frame (hM.to rfl) hs0 hs2) (State.noRead_frame (hM.to rfl) hs0 hs2)))))
  extract_lets v1 v2
  have h3 : SndP (Frame M s0) v1 := (State.read32By_frame (hM.to rfl) hs0 hs2)
  clear_value v1
  have h4 : SndP (Frame M s0) v2 := (State.read32By_frame (hM.to rfl) h3 hs2)
  clear_value v2
  exact h4

theorem State.readAt_frame {M : Nat} {s0 : State} {s : State} {p : Party} {addr : ℕ} {size : ℕ} (hM : Covers M 0x1fffffec000224) (hs0 : Frame M s0 s) :
    SndP (Frame M s0) (State.readAt s p addr size) := by
  unfold State.readAt
  split
  · rename_i w1 w2
    exact hs0
  · rename_i w3 w4 w5 w6
    exact (ite_rule (P := (SndP (Frame M s0))) hs0 (State.readSized_frame (hM.to rfl) (ite_rule (State.wakeFor_frame (hM.to rfl) hs0) hs0) (.page (hM.to rfl) _)))

theorem State.writeAt_frame {M : Nat} {s0 : State} {s : State} {p : Party} {addr : ℕ} {size : ℕ} {v : W64} (hM : Covers M 0x1fffffffffffff) (hs0 : Frame M s0 s) :
    Frame M s0 (State.writeAt s p addr size v) := by
  unfold State.writeAt
  split
  · rename_i w1 w2
    exact hs0
  · rename_i w3 w4 w5 w6
    exact (State.writeTo_frame (hM.to rfl) hs0 (.page (hM.to rfl) _))

theorem State.readReg_frame {M : Nat} {s0 : State} {s : State} {p : Party} {addr : ℕ} {size : ℕ} (hM : Covers M 0x1fffffec000224) (hs0 : Frame M s0 s) :
    Frame M s0 (State.readReg s p addr size) := by
  unfold State.readReg
  refine (ite_rule hs0 ?_)
  extract_lets v1
  have h2 : SndP (Frame M s0) v1 := (State.readAt_frame (hM.to rfl) hs0)
  clear_value v1
  exact (State.emit_frame (hM.to rfl) h2)

theorem execRegisterRead_frame {M : Nat} {s0 : State} {p : Party} {addr : ℕ} {size : ℕ} {s : State} (hM : Covers M 0x1fffffec000224) (hs3 : Frame M s0 s) :
    NextP (Frame M s0) (execRegisterRead p addr size s) := by
  unfold execRegisterRead
  exact (NextP.next (State.readReg_frame (hM.to rfl) hs3))

theorem execPairHalfRead_frame {M : Nat} {s0 : State} {p : Party} {addr : ℕ} {s : State} (hM : Covers M 0x1fffffec000224) (hs2 : Frame M s0 s) :
    NextP (Frame M s0) (execPairHalfRead p addr s) := by
  unfold execPairHalfRead
  exact (NextP.next (State.readReg_frame (hM.to rfl) hs2))

theorem execRegisterWrite_frame {M : Nat} {s0 : State} {p : Party} {addr : ℕ} {size : ℕ} {v : W64} {s : State} (hM : Covers M 0x1fffffffffffff) (hs4 : Frame M s0 s) :
    NextP (Frame M s0) (execRegisterWrite p addr size v s) := by
  unfold execRegisterWrite
  exact (NextP.next (State.writeAt_frame (hM.to rfl) hs4))

theorem execPairHalfWrite_frame {M : Nat} {s0 : State} {p : Party} {addr : ℕ} {v : W32} {s : State} (hM : Covers M 0x1fffffffffffff) (hs3 : Frame M s0 s) :
    NextP (Frame M s0) (execPairHalfWrite p addr v s) := by
  unfold execPairHalfWrite
  exact (NextP.next (State.writeAt_frame (hM.to rfl) hs3))

theorem execErrRecRptrWrite_frame {M : Nat} {s0 : State} {p : Party} {v : W32} {s : State} (hM : Covers M 0x1fffffffffffff) (hs2 : Frame M s0 s) :
    NextP (Frame M s0) (execErrRecRptrWrite p v s) := by
  unfold execErrRecRptrWrite
  exact (NextP.next (State.writeTo_frame (hM.to rfl) hs2 (hM.fam .err rfl)))

end Sys2Proof.Machine
end

