-- ==== Sys2Proof/Laws/FrameAssist.lean ====
section
/-! SUPPORT. What each operation and each meaning of Machine/Assist.lean can change: it keeps the frame `Frame M s0` for every set `M` that
has the parts it names, given that its arguments keep it. -/

namespace Sys2Proof.Machine

theorem State.withdrawSlot_frame {M : Nat} {s0 : State} {s : State} (hM : Covers M 0x902855d00dbb2) (hs0 : Frame M s0 s) :
    Frame M s0 (State.withdrawSlot s) := by
  unfold State.withdrawSlot
  split
  · rename_i w1 w2 w3
    exact hs0
  · rename_i w4 w5 w6 w7 w8
    exact (State.giveSlot_frame (hM.to rfl) hs0)
  · rename_i w9 w10 w11 w12 w13 w14
    extract_lets v15 v16 v17
    have h18 : Frame M s0 v16 := (State.modPkt_frame (hM.to rfl) (Frame.upd_front (hM.to rfl) hs0))
    clear_value v16
    have h19 : Frame M s0 v17 := (State.haClear_frame (hM.to rfl) (State.showNr_frame (hM.to rfl) h18))
    clear_value v17
    exact (ite_rule h19 (State.haPost_frame (hM.to rfl) h19))

theorem State.inHardware_frame {M : Nat} {s0 : State} {s : State} {n : ℕ} (hM : Covers M 0x1ffffffd01fbb2) (hs0 : Frame M s0 s) :
    Frame M s0 (State.inHardware s n) := by
  unfold State.inHardware
  split
  · rename_i w1
    exact (fold_rule hs0 fun x2 b3 h4 => (State.startWalk_frame (hM.to rfl) h4))
  · rename_i w5
    exact (fold_rule (Frame.upd_mem (hM.to rfl) rfl hs0) fun x6 b7 h8 => (State.wr_frame h8 (hM.fam .mch rfl) rfl))
  · rename_i w9
    exact (State.withdrawSuspects_frame (hM.to rfl) hs0)
  · rename_i w10
    exact (State.completeTd_frame (hM.to rfl) hs0)
  · rename_i w11
    exact (State.withdrawSlot_frame (hM.to rfl) hs0)
  · rename_i w12
    exact (State.actRetire_frame (hM.to rfl) hs0)
  · rename_i w13
    exact (State.finishProv_frame (hM.to rfl) hs0)
  · rename_i w14
    exact (State.withdrawHeld_frame (hM.to rfl) hs0)
  · rename_i w15 w16 w17 w18 w19 w20 w21 w22 w23
    exact hs0

theorem State.opWithdraw_frame {M : Nat} {s0 : State} {n : ℕ} {s : State} (hM : Covers M 0x1ffffffd21ffb2) (hs1 : Frame M s0 s) :
    Frame M s0 (State.opWithdraw n s) := by
  unfold State.opWithdraw
  exact (ite_rule hs1 (ite_rule (State.withdrawReport_frame (hM.to rfl) hs1) (ite_rule (State.inHardware_frame (hM.to rfl) (State.fallback_frame (hM.to rfl) hs1)) (State.inHardware_frame (hM.to rfl) (State.fallback_frame (hM.to rfl) (State.haClear_frame (hM.to rfl) hs1))))))

theorem execHaTimeoutWithdraw_frame {M : Nat} {s0 : State} {fn : ℕ} {s : State} (hM : Covers M 0x1ffffffd21ffba) (hs1 : Frame M s0 s) :
    NextP (Frame M s0) (execHaTimeoutWithdraw fn s) := by
  unfold execHaTimeoutWithdraw
  exact (guarded_frame hs1 (fun x1 h2 => (State.assisted_frame (hM.to rfl) h2 (fun x3 h4 => (State.opWithdraw_frame (hM.to rfl) h4)))))

end Sys2Proof.Machine
end

