-- ==== Sys2Proof/Laws/FrameDcp.lean ====
section
/-! SUPPORT. What each operation and each meaning of Machine/Dcp.lean can change: it keeps the frame `Frame M s0` for every set `M` that
has the parts it names, given that its arguments keep it. -/

namespace Sys2Proof.Machine

theorem State.farData_frame {M : Nat} {s0 : State} {s : State} {r : DcpReq} (hM : Covers M 0x10000000) (hs0 : Frame M s0 s) :
    SndP (Frame M s0) (State.farData s r) := by
  unfold State.farData
  extract_lets v1 v2
  have h3 : SndP (Frame M s0) v2 := (State.draw_frame (hM.to rfl) hs0)
  clear_value v2
  exact (ite_rule (P := (SndP (Frame M s0))) hs0 h3)

theorem State.dcpGateway_frame {M : Nat} {s0 : State} {s : State} {r : DcpReq} {op : ℕ} {dst : ℕ} (hM : Covers M 0x1f2e855d05fbb2) (hs0 : Frame M s0 s) :
    Frame M s0 (State.dcpGateway s r op dst) := by
  unfold State.dcpGateway
  refine (ite_rule hs0 ?_)
  extract_lets v1 v2
  have h3 : SndP (Frame M s0) v1 := (ite_rule (P := (SndP (Frame M s0))) (State.farData_frame (hM.to rfl) hs0) hs0)
  clear_value v1
  exact (State.addOp_frame (hM.to rfl) h3)

theorem State.dcpDirect_frame {M : Nat} {s0 : State} {s : State} {r : DcpReq} {op : ℕ} {dst : ℕ} {sync : Bool} {ordered : Bool} (hM : Covers M 0x112e855d04f3b2) (hs0 : Frame M s0 s) :
    Frame M s0 (State.dcpDirect s r op dst sync ordered) := by
  unfold State.dcpDirect
  refine (ite_rule hs0 ?_)
  extract_lets v1
  have h2 : SndP (Frame M s0) v1 := (ite_rule (P := (SndP (Frame M s0))) (State.farData_frame (hM.to rfl) hs0) hs0)
  clear_value v1
  exact (State.issueReq_frame (hM.to rfl) h2)

theorem State.dcpDone_frame {M : Nat} {s0 : State} {s : State} {r : DcpReq} {status : ℕ} (hM : Covers M 0x800c000200) (hs0 : Frame M s0 s) :
    Frame M s0 (State.dcpDone s r status) := by
  unfold State.dcpDone
  exact (State.dcpAnswer_frame (hM.to rfl) hs0)

theorem State.dcpFar_frame {M : Nat} {s0 : State} {s : State} {r : DcpReq} {op : ℕ} {dst : ℕ} (hM : Covers M 0x1f2e855d05fbb2) (hs0 : Frame M s0 s) :
    Frame M s0 (State.dcpFar s r op dst) := by
  unfold State.dcpFar
  exact (ite_rule (State.dcpDone_frame (hM.to rfl) hs0) (ite_rule (State.dcpDirect_frame (hM.to rfl) hs0) (ite_rule (State.dcpDirect_frame (hM.to rfl) hs0) (State.dcpGateway_frame (hM.to rfl) hs0))))

theorem State.dcpLocal_frame {M : Nat} {s0 : State} {s : State} {r : DcpReq} {op : ℕ} {off : ℕ} (hM : Covers M 0x1f3e855d09fbb2) (hs0 : Frame M s0 s) :
    Frame M s0 (State.dcpLocal s r op off) := by
  unfold State.dcpLocal
  exact (State.doAccess_frame (hM.to rfl) hs0)

theorem State.dcpAccess_frame {M : Nat} {s0 : State} {s : State} {r : DcpReq} {op : ℕ} (hM : Covers M 0x1f3e855d0dfbb2) (hs0 : Frame M s0 s) :
    Frame M s0 (State.dcpAccess s r op) := by
  unfold State.dcpAccess
  extract_lets v1
  split
  · rename_i w2 w3
    exact (State.dcpDone_frame (hM.to rfl) (State.badAddress_frame (hM.to rfl) hs0))
  · rename_i w4 w5 w6
    exact (ite_rule (State.dcpDone_frame (hM.to rfl) hs0) (State.dcpLocal_frame (hM.to rfl) hs0))
  · rename_i w7 w8 w9 w10
    exact (ite_rule (State.dcpDone_frame (hM.to rfl) hs0) (State.dcpFar_frame (hM.to rfl) hs0))

theorem State.dcp_frame {M : Nat} {s0 : State} {s : State} {r : DcpReq} {f : State → State} (hM : Covers M 0x800c000200) (hs0 : Frame M s0 s) (hs2 : ∀ y0, Frame M s0 y0 → Frame M s0 (f y0)) :
    NextP (Frame M s0) (State.dcp s r f) := by
  unfold State.dcp
  exact (guarded_frame hs0 (fun x1 h2 => (ite_rule (hs2 _ h2) (State.staleGen_frame (hM.to rfl) h2))))

theorem execDcpAdd_frame {M : Nat} {s0 : State} {r : DcpReq} {four : Bool} {s : State} (hM : Covers M 0x1f3e855d0dfbb2) (hs2 : Frame M s0 s) :
    NextP (Frame M s0) (execDcpAdd r four s) := by
  unfold execDcpAdd
  exact (State.dcp_frame (hM.to rfl) hs2 (fun x1 h2 => (State.dcpAccess_frame (hM.to rfl) h2)))

theorem execDcpSmin_frame {M : Nat} {s0 : State} {r : DcpReq} {four : Bool} {s : State} (hM : Covers M 0x1f3e855d0dfbb2) (hs2 : Frame M s0 s) :
    NextP (Frame M s0) (execDcpSmin r four s) := by
  unfold execDcpSmin
  exact (State.dcp_frame (hM.to rfl) hs2 (fun x1 h2 => (State.dcpAccess_frame (hM.to rfl) h2)))

theorem State.opTokenPass_frame {M : Nat} {s0 : State} {r : DcpReq} {s : State} (hM : Covers M 0x1f2e855d05fbb2) (hs1 : Frame M s0 s) :
    Frame M s0 (State.opTokenPass r s) := by
  unfold State.opTokenPass
  split
  · rename_i w1 w2
    exact (State.dcpDone_frame (hM.to rfl) (State.badAddress_frame (hM.to rfl) hs1))
  · rename_i w3 w4 w5
    extract_lets v6
    have h7 : SndP (Frame M s0) v6 := (State.passToken_frame (hM.to rfl) hs1)
    clear_value v6
    exact (State.dcpDone_frame (hM.to rfl) h7)
  · rename_i w8 w9 w10 w11
    exact (ite_rule (State.dcpDone_frame (hM.to rfl) hs1) (ite_rule (State.dcpDirect_frame (hM.to rfl) hs1) (State.dcpGateway_frame (hM.to rfl) hs1)))

theorem execDcpTokenPass_frame {M : Nat} {s0 : State} {r : DcpReq} {s : State} (hM : Covers M 0x1f2e855d05fbb2) (hs1 : Frame M s0 s) :
    NextP (Frame M s0) (execDcpTokenPass r s) := by
  unfold execDcpTokenPass
  exact (State.dcp_frame (hM.to rfl) hs1 (fun x1 h2 => (State.opTokenPass_frame (hM.to rfl) h2)))

theorem State.openCoh_frame {M : Nat} {s0 : State} {s : State} {r : DcpReq} (hM : Covers M 0x80000) (hs0 : Frame M s0 s) :
    SndP (Frame M s0) (State.openCoh s r) := by
  unfold State.openCoh
  extract_lets v1 v2
  exact (Frame.upd_coh (hM.to rfl) hs0)

theorem State.dcpCoh_frame {M : Nat} {s0 : State} {s : State} {r : DcpReq} {cm : ℕ} {atHome : ℕ → ℕ → State → State} (hM : Covers M 0x1f2e855d09fbb2) (hs0 : Frame M s0 s) (hs3 : ∀ y0 y1 y2, Frame M s0 y2 → Frame M s0 (atHome y0 y1 y2)) :
    Frame M s0 (State.dcpCoh s r cm atHome) := by
  unfold State.dcpCoh
  extract_lets v1 v2
  have h3 : SndP (Frame M s0) v2 := (State.openCoh_frame (hM.to rfl) hs0)
  clear_value v2
  split
  · rename_i w4 w5
    exact (State.dcpDone_frame (hM.to rfl) (State.badAddress_frame (hM.to rfl) hs0))
  · rename_i w6 w7 w8
    refine (ite_rule (State.dcpDone_frame (hM.to rfl) hs0) ?_)
    split
    · rename_i w9 w10 w11 w12 w13
      exact (State.dcpDone_frame (hM.to rfl) (State.refuse_frame (hM.to rfl) hs0))
    · rename_i w14 w15
      exact (hs3 _ _ _ h3)
  · rename_i w16 w17 w18 w19
    exact (ite_rule (State.dcpDone_frame (hM.to rfl) hs0) (ite_rule hs0 (State.sendCoh_frame (hM.to rfl) h3)))

theorem State.opDcpRead_frame {M : Nat} {s0 : State} {cm : ℕ} {op : ℕ} {r : DcpReq} {s : State} (hM : Covers M 0x1f3e855d09fbb2) (hs3 : Frame M s0 s) :
    Frame M s0 (State.opDcpRead cm op r s) := by
  unfold State.opDcpRead
  exact (State.dcpCoh_frame (hM.to rfl) hs3 (fun x1 x2 x3 h4 => (State.runWaits_frame (hM.to rfl) (State.cohRequest_frame (hM.to rfl) h4))))

theorem execDcpRdM_frame {M : Nat} {s0 : State} {r : DcpReq} {s : State} (hM : Covers M 0x1f3e855d09fbb2) (hs1 : Frame M s0 s) :
    NextP (Frame M s0) (execDcpRdM r s) := by
  unfold execDcpRdM
  exact (State.dcp_frame (hM.to rfl) hs1 (fun x1 h2 => (State.opDcpRead_frame (hM.to rfl) h2)))

theorem execDcpWb_frame {M : Nat} {s0 : State} {r : DcpReq} {s : State} (hM : Covers M 0x1f3e855d09fbb2) (hs1 : Frame M s0 s) :
    NextP (Frame M s0) (execDcpWb r s) := by
  unfold execDcpWb
  exact (State.dcp_frame (hM.to rfl) hs1 (fun x1 h2 => (State.dcpCoh_frame (hM.to rfl) h2 (fun x3 x4 x5 h6 => (State.runWaits_frame (hM.to rfl) (State.opWb_frame (hM.to rfl) h6))))))

theorem execDcpCas_frame {M : Nat} {s0 : State} {r : DcpReq} {four : Bool} {s : State} (hM : Covers M 0x1f3e855d0dfbb2) (hs2 : Frame M s0 s) :
    NextP (Frame M s0) (execDcpCas r four s) := by
  unfold execDcpCas
  exact (State.dcp_frame (hM.to rfl) hs2 (fun x1 h2 => (State.dcpAccess_frame (hM.to rfl) h2)))

theorem execDcpAnd_frame {M : Nat} {s0 : State} {r : DcpReq} {four : Bool} {s : State} (hM : Covers M 0x1f3e855d0dfbb2) (hs2 : Frame M s0 s) :
    NextP (Frame M s0) (execDcpAnd r four s) := by
  unfold execDcpAnd
  exact (State.dcp_frame (hM.to rfl) hs2 (fun x1 h2 => (State.dcpAccess_frame (hM.to rfl) h2)))

theorem execDcpSt_frame {M : Nat} {s0 : State} {r : DcpReq} {s : State} (hM : Covers M 0x1f3e855d0dfbb2) (hs1 : Frame M s0 s) :
    NextP (Frame M s0) (execDcpSt r s) := by
  unfold execDcpSt
  exact (State.dcp_frame (hM.to rfl) hs1 (fun x1 h2 => (State.dcpAccess_frame (hM.to rfl) h2)))

theorem State.opDcpEvs_frame {M : Nat} {s0 : State} {r : DcpReq} {s : State} (hM : Covers M 0x113c800d0823a0) (hs1 : Frame M s0 s) :
    Frame M s0 (State.opDcpEvs r s) := by
  unfold State.opDcpEvs
  extract_lets v1
  split
  · rename_i w2 w3
    exact (State.dcpDone_frame (hM.to rfl) (State.badAddress_frame (hM.to rfl) hs1))
  · rename_i w4 w5 w6
    exact (ite_rule (State.dcpDone_frame (hM.to rfl) (State.opEvs_frame (hM.to rfl) hs1)) (State.dcpDone_frame (hM.to rfl) hs1))
  · rename_i w7 w8 w9 w10
    exact (ite_rule (State.dcpDone_frame (hM.to rfl) hs1) (ite_rule hs1 (State.dcpDone_frame (hM.to rfl) (State.sendCoh_frame (hM.to rfl) hs1))))

theorem execDcpEvs_frame {M : Nat} {s0 : State} {r : DcpReq} {s : State} (hM : Covers M 0x113c800d0823a0) (hs1 : Frame M s0 s) :
    NextP (Frame M s0) (execDcpEvs r s) := by
  unfold execDcpEvs
  exact (State.dcp_frame (hM.to rfl) hs1 (fun x1 h2 => (State.opDcpEvs_frame (hM.to rfl) h2)))

theorem execDcpOr_frame {M : Nat} {s0 : State} {r : DcpReq} {four : Bool} {s : State} (hM : Covers M 0x1f3e855d0dfbb2) (hs2 : Frame M s0 s) :
    NextP (Frame M s0) (execDcpOr r four s) := by
  unfold execDcpOr
  exact (State.dcp_frame (hM.to rfl) hs2 (fun x1 h2 => (State.dcpAccess_frame (hM.to rfl) h2)))

theorem execDcpSwap_frame {M : Nat} {s0 : State} {r : DcpReq} {four : Bool} {s : State} (hM : Covers M 0x1f3e855d0dfbb2) (hs2 : Frame M s0 s) :
    NextP (Frame M s0) (execDcpSwap r four s) := by
  unfold execDcpSwap
  exact (State.dcp_frame (hM.to rfl) hs2 (fun x1 h2 => (State.dcpAccess_frame (hM.to rfl) h2)))

theorem execDcpSmax_frame {M : Nat} {s0 : State} {r : DcpReq} {four : Bool} {s : State} (hM : Covers M 0x1f3e855d0dfbb2) (hs2 : Frame M s0 s) :
    NextP (Frame M s0) (execDcpSmax r four s) := by
  unfold execDcpSmax
  exact (State.dcp_frame (hM.to rfl) hs2 (fun x1 h2 => (State.dcpAccess_frame (hM.to rfl) h2)))

theorem execDcpUpg_frame {M : Nat} {s0 : State} {r : DcpReq} {s : State} (hM : Covers M 0x1f3e855d09fbb2) (hs1 : Frame M s0 s) :
    NextP (Frame M s0) (execDcpUpg r s) := by
  unfold execDcpUpg
  exact (State.dcp_frame (hM.to rfl) hs1 (fun x1 h2 => (State.opDcpRead_frame (hM.to rfl) h2)))

theorem execDcpRdS_frame {M : Nat} {s0 : State} {r : DcpReq} {s : State} (hM : Covers M 0x1f3e855d09fbb2) (hs1 : Frame M s0 s) :
    NextP (Frame M s0) (execDcpRdS r s) := by
  unfold execDcpRdS
  exact (State.dcp_frame (hM.to rfl) hs1 (fun x1 h2 => (State.opDcpRead_frame (hM.to rfl) h2)))

theorem execDcpUmax_frame {M : Nat} {s0 : State} {r : DcpReq} {four : Bool} {s : State} (hM : Covers M 0x1f3e855d0dfbb2) (hs2 : Frame M s0 s) :
    NextP (Frame M s0) (execDcpUmax r four s) := by
  unfold execDcpUmax
  exact (State.dcp_frame (hM.to rfl) hs2 (fun x1 h2 => (State.dcpAccess_frame (hM.to rfl) h2)))

theorem execDcpXor_frame {M : Nat} {s0 : State} {r : DcpReq} {four : Bool} {s : State} (hM : Covers M 0x1f3e855d0dfbb2) (hs2 : Frame M s0 s) :
    NextP (Frame M s0) (execDcpXor r four s) := by
  unfold execDcpXor
  exact (State.dcp_frame (hM.to rfl) hs2 (fun x1 h2 => (State.dcpAccess_frame (hM.to rfl) h2)))

theorem execDcpLd_frame {M : Nat} {s0 : State} {r : DcpReq} {s : State} (hM : Covers M 0x1f3e855d0dfbb2) (hs1 : Frame M s0 s) :
    NextP (Frame M s0) (execDcpLd r s) := by
  unfold execDcpLd
  exact (State.dcp_frame (hM.to rfl) hs1 (fun x1 h2 => (State.dcpAccess_frame (hM.to rfl) h2)))

theorem execDcpUnsupported_frame {M : Nat} {s0 : State} {r : DcpReq} {_op : ℕ} {s : State} (hM : Covers M 0x800c000200) (hs2 : Frame M s0 s) :
    NextP (Frame M s0) (execDcpUnsupported r _op s) := by
  unfold execDcpUnsupported
  exact (State.dcp_frame (hM.to rfl) hs2 (fun x1 h2 => (State.dcpDone_frame (hM.to rfl) h2)))

theorem execDcpUmin_frame {M : Nat} {s0 : State} {r : DcpReq} {four : Bool} {s : State} (hM : Covers M 0x1f3e855d0dfbb2) (hs2 : Frame M s0 s) :
    NextP (Frame M s0) (execDcpUmin r four s) := by
  unfold execDcpUmin
  exact (State.dcp_frame (hM.to rfl) hs2 (fun x1 h2 => (State.dcpAccess_frame (hM.to rfl) h2)))

end Sys2Proof.Machine
end

