-- ==== Sys2Proof/Laws/FrameHalter.lean ====
section
/-! SUPPORT. What each operation and each meaning of Machine/Halter.lean can change: it keeps the frame `Frame M s0` for every set `M` that
has the parts it names, given that its arguments keep it. -/

namespace Sys2Proof.Machine

theorem execHalterDisable_frame {M : Nat} {s0 : State} {p : Party} {s : State} (hM : Covers M 0x1fffffffffffff) (hs1 : Frame M s0 s) :
    NextP (Frame M s0) (execHalterDisable p s) := by
  unfold execHalterDisable
  exact (NextP.next (State.writeTo_frame (hM.to rfl) hs1 (hM.fam .hlt rfl)))

theorem State.say_frame {M : Nat} {s0 : State} {s : State} {l : List Byte} (hM : Covers M 0xc000000) (hs0 : Frame M s0 s) :
    Frame M s0 (State.say s l) := by
  unfold State.say
  exact (State.emit_frame (hM.to rfl) hs0)

theorem State.answered_frame {M : Nat} {s0 : State} {s : State} {cmd : ℕ} {code : ℕ} (hM : Covers M 0x880c000200) (hs0 : Frame M s0 s) :
    Frame M s0 (State.answered s cmd code) := by
  unfold State.answered
  extract_lets v1 v2 v3
  have h4 : Frame M s0 v1 := (State.wr_frame (State.inc_frame hs0 (hM.fam .hlt rfl) rfl) (hM.fam .hlt rfl) rfl)
  clear_value v1
  have h5 : Frame M s0 v2 := (State.wr_frame h4 (hM.fam .hlt rfl) rfl)
  clear_value v2
  have h6 : Frame M s0 v3 := (State.say_frame (hM.to rfl) h5)
  clear_value v3
  exact (ite_rule (State.say_frame (hM.to rfl) h5) (ite_rule (State.err_frame (hM.to rfl) h6 (hM.fam .hlt rfl)) h6))

theorem State.opHltWr_frame {M : Nat} {s0 : State} {off : ℕ} {v : W32} {s : State} (hM : Covers M 0x1fffffffffffff) (hs2 : Frame M s0 s) :
    Frame M s0 (State.opHltWr off v s) := by
  unfold State.opHltWr
  refine (ite_rule (State.answered_frame (hM.to rfl) hs2) ?_)
  extract_lets v1 v2
  have h3 : Frame M s0 v2 := (State.writeAt_frame (hM.to rfl) hs2)
  clear_value v2
  exact (ite_rule (State.answered_frame (hM.to rfl) h3) h3)

theorem State.halter_frame {M : Nat} {s0 : State} {s : State} {cmd : ℕ} {f : State → State} (hM : Covers M 0x880c000200) (hs0 : Frame M s0 s) (hs2 : ∀ y0, Frame M s0 y0 → Frame M s0 (f y0)) :
    Frame M s0 (State.halter s cmd f) := by
  unfold State.halter
  exact (ite_rule hs0 (ite_rule (State.answered_frame (hM.to rfl) hs0) (hs2 _ hs0)))

theorem State.halterCmd_frame {M : Nat} {s0 : State} {s : State} {c : SvcCmd} {cmd : ℕ} {f : State → State} (hM : Covers M 0x880c000208) (hs0 : Frame M s0 s) (hs3 : ∀ y0, Frame M s0 y0 → Frame M s0 (f y0)) :
    NextP (Frame M s0) (State.halterCmd s c cmd f) := by
  unfold State.halterCmd
  exact (NextP.next (State.assisted_frame (hM.to rfl) hs0 (fun x1 h2 => (State.halter_frame (hM.to rfl) h2 hs3))))

theorem execHalterWr_frame {M : Nat} {s0 : State} {addr : ℕ} {v : W32} {s : State} (hM : Covers M 0x1fffffffffffff) (hs2 : Frame M s0 s) :
    NextP (Frame M s0) (execHalterWr addr v s) := by
  unfold execHalterWr
  exact (State.halterCmd_frame (hM.to rfl) hs2 (fun x1 h2 => (State.opHltWr_frame (hM.to rfl) h2)))

theorem State.lineErr_frame {M : Nat} {s0 : State} {s : State} {code : ℕ} (hM : Covers M 0x880c000200) (hs0 : Frame M s0 s) :
    Frame M s0 (State.lineErr s code) := by
  unfold State.lineErr
  exact (State.answered_frame (hM.to rfl) hs0)

theorem State.opHltRst_frame {M : Nat} {s0 : State} {s : State} (hM : Covers M 0x1ffffdefffffbe) (hs0 : Frame M s0 s) :
    Frame M s0 (State.opHltRst s) := by
  unfold State.opHltRst
  exact (State.blockReset_frame (hM.to rfl) (State.answered_frame (hM.to rfl) hs0))

theorem State.opHltLc_frame {M : Nat} {s0 : State} {s : State} (hM : Covers M 0x1000000) (hs0 : Frame M s0 s) :
    Frame M s0 (State.opHltLc s) := by
  unfold State.opHltLc
  exact (Frame.upd_dbg (hM.to rfl) hs0)

theorem State.opHltDevid_frame {M : Nat} {s0 : State} {s : State} (hM : Covers M 0x880c000200) (hs0 : Frame M s0 s) :
    Frame M s0 (State.opHltDevid s) := by
  unfold State.opHltDevid
  extract_lets v1
  exact (ite_rule (State.answered_frame (hM.to rfl) hs0) (State.answered_frame (hM.to rfl) (fold_rule hs0 fun x2 b3 h4 => (State.say_frame (hM.to rfl) h4))))

theorem State.opHltMwr_frame {M : Nat} {s0 : State} {addr : ℕ} {data : List Byte} {s : State} (hM : Covers M 0x1f028d5d01dbb2) (hs2 : Frame M s0 s) :
    Frame M s0 (State.opHltMwr addr data s) := by
  unfold State.opHltMwr
  refine (ite_rule (State.answered_frame (hM.to rfl) hs2) ?_)
  extract_lets v1
  have h2 : StP (Frame M s0) v1 := (State.writeAs_frame (hM.to rfl) hs2)
  clear_value v1
  exact (State.answered_frame (hM.to rfl) h2)

theorem State.opHltMrd_frame {M : Nat} {s0 : State} {addr : ℕ} {len : ℕ} {s : State} (hM : Covers M 0x1f028d5d01dbb2) (hs2 : Frame M s0 s) :
    Frame M s0 (State.opHltMrd addr len s) := by
  unfold State.opHltMrd
  refine (ite_rule (State.answered_frame (hM.to rfl) hs2) (ite_rule (State.answered_frame (hM.to rfl) hs2) ?_))
  extract_lets v1
  have h2 : StP (Frame M s0) v1 := (State.readAs_frame (hM.to rfl) hs2)
  clear_value v1
  exact (ite_rule (State.answered_frame (hM.to rfl) (fold_rule h2 fun x3 b4 h5 => (State.say_frame (hM.to rfl) h5))) (State.answered_frame (hM.to rfl) h2))

theorem State.opHltRd_frame {M : Nat} {s0 : State} {off : ℕ} {s : State} (hM : Covers M 0x1fffffec000224) (hs1 : Frame M s0 s) :
    Frame M s0 (State.opHltRd off s) := by
  unfold State.opHltRd
  refine (ite_rule (State.answered_frame (hM.to rfl) hs1) ?_)
  extract_lets v1
  have h2 : SndP (Frame M s0) v1 := (State.readAt_frame (hM.to rfl) hs1)
  clear_value v1
  exact (ite_rule (State.answered_frame (hM.to rfl) h2) (State.answered_frame (hM.to rfl) (State.say_frame (hM.to rfl) h2)))

theorem State.opHltErr_frame {M : Nat} {s0 : State} {s : State} (hM : Covers M 0x880c000200) (hs0 : Frame M s0 s) :
    Frame M s0 (State.opHltErr s) := by
  unfold State.opHltErr
  exact (State.answered_frame (hM.to rfl) (fold_rule hs0 fun x1 b2 h3 => (State.say_frame (hM.to rfl) h3)))

theorem State.opHltStat_frame {M : Nat} {s0 : State} {s : State} (hM : Covers M 0x880c000200) (hs0 : Frame M s0 s) :
    Frame M s0 (State.opHltStat s) := by
  unfold State.opHltStat
  exact (State.answered_frame (hM.to rfl) (fold_rule hs0 fun x1 b2 h3 => (State.say_frame (hM.to rfl) h3)))

theorem State.opHltVer_frame {M : Nat} {s0 : State} {s : State} (hM : Covers M 0x880c000200) (hs0 : Frame M s0 s) :
    Frame M s0 (State.opHltVer s) := by
  unfold State.opHltVer
  exact (State.answered_frame (hM.to rfl) (fold_rule hs0 fun x1 b2 h3 => (State.say_frame (hM.to rfl) h3)))

theorem State.withArgs_frame {M : Nat} {s0 : State} {s : State} {cmd : ℕ} {f : Option (State → State)} (hM : Covers M 0x880c000200) (hs0 : Frame M s0 s) (hs2 : SomeP (FunP (Frame M s0)) f) :
    Frame M s0 (State.withArgs s cmd f) := by
  unfold State.withArgs
  refine (State.halter_frame (hM.to rfl) hs0 (fun x1 h2 => ?_))
  split
  · rename_i w3 w4
    exact ((hs2 _ rfl) _ h2)
  · rename_i w5
    exact (State.answered_frame (hM.to rfl) h2)

theorem State.command_frame {M : Nat} {s0 : State} {s : State} {ws : List (List Byte)} (hM : Covers M 0x1fffffffffffff) (hs0 : Frame M s0 s) :
    Frame M s0 (State.command s ws) := by
  unfold State.command
  split
  · rename_i w1
    exact hs0
  · rename_i w2 w3 w4
    extract_lets v5
    have h6 : ∀ y0, FunP (Frame M s0) y0 → SomeP (FunP (Frame M s0)) (v5 y0) := by
      refine (fun x7 h8 => (ite_rule (P := (SomeP (FunP (Frame M s0)))) (SomeP.some (P := (FunP (Frame M s0))) h8) SomeP.none))
    clear_value v5
    refine (ite_rule (State.withArgs_frame (hM.to rfl) hs0 (h6 _ (fun x9 h10 => (State.opHltVer_frame (hM.to rfl) h10)))) (ite_rule (State.withArgs_frame (hM.to rfl) hs0 (h6 _ (fun x11 h12 => (State.opHltStat_frame (hM.to rfl) h12)))) (ite_rule (State.withArgs_frame (hM.to rfl) hs0 (h6 _ (fun x13 h14 => (State.opHltErr_frame (hM.to rfl) h14)))) (ite_rule (State.withArgs_frame (hM.to rfl) hs0 ?_) (ite_rule (State.withArgs_frame (hM.to rfl) hs0 ?_) (ite_rule (State.withArgs_frame (hM.to rfl) hs0 ?_) (ite_rule (State.withArgs_frame (hM.to rfl) hs0 ?_) (ite_rule (State.withArgs_frame (hM.to rfl) hs0 (h6 _ (fun x15 h16 => (State.opHltDevid_frame (hM.to rfl) h16)))) (ite_rule (State.withArgs_frame (hM.to rfl) hs0 (h6 _ (fun x17 h18 => (State.opHltLc_frame (hM.to rfl) h18)))) (ite_rule (State.withArgs_frame (hM.to rfl) hs0 (h6 _ (fun x19 h20 => (State.opHltRst_frame (hM.to rfl) h20)))) (State.lineErr_frame (hM.to rfl) hs0)))))))))))
    · split
      · rename_i w21 w22
        exact (SomeP.map (P := (FunP (Frame M s0))) fun x23 => (fun x24 h25 => (State.opHltRd_frame (hM.to rfl) h25)))
      · rename_i w26 w27
        exact SomeP.none
    · split
      · rename_i w28 w29 w30
        split
        · rename_i w31 w32 w33 w34 w35 w36
          exact (ite_rule (P := (SomeP (FunP (Frame M s0)))) (SomeP.some (P := (FunP (Frame M s0))) (fun x37 h38 => (State.opHltWr_frame (hM.to rfl) h38))) SomeP.none)
        · rename_i w39 w40 w41
          exact SomeP.none
      · rename_i w42 w43
        exact SomeP.none
    · split
      · rename_i w44 w45 w46
        split
        · rename_i w47 w48 w49 w50 w51 w52
          exact (SomeP.some (P := (FunP (Frame M s0))) (fun x53 h54 => (State.opHltMrd_frame (hM.to rfl) h54)))
        · rename_i w55 w56 w57
          exact SomeP.none
      · rename_i w58 w59
        exact SomeP.none
    · split
      · rename_i w60 w61 w62
        split
        · rename_i w63 w64 w65 w66 w67 w68
          exact (SomeP.some (P := (FunP (Frame M s0))) (fun x69 h70 => (State.opHltMwr_frame (hM.to rfl) h70)))
        · rename_i w71 w72 w73
          exact SomeP.none
      · rename_i w74 w75
        exact SomeP.none

theorem State.lcGiven_frame {M : Nat} {s0 : State} {s : State} (hM : Covers M 0x8b1d800a02) (hs0 : Frame M s0 s) :
    Frame M s0 (State.lcGiven s) := by
  unfold State.lcGiven
  extract_lets v1 v2 v3 v4
  have h5 : Frame M s0 v3 := (Frame.upd_dbg (hM.to rfl) hs0)
  clear_value v3
  have h6 : SndP (Frame M s0) v4 := (State.lcSubmit_frame (hM.to rfl) h5)
  clear_value v4
  exact (ite_rule (State.answered_frame (hM.to rfl) (State.lcUnread_frame (hM.to rfl) h5)) (State.answered_frame (hM.to rfl) h6))

theorem State.lcLine_frame {M : Nat} {s0 : State} {s : State} {l : List Byte} (hM : Covers M 0x8b1d800a02) (hs0 : Frame M s0 s) :
    Frame M s0 (State.lcLine s l) := by
  unfold State.lcLine
  refine (ite_rule (State.lcGiven_frame (hM.to rfl) hs0) ?_)
  split
  · rename_i w1 w2 w3
    split
    · rename_i w4 w5 w6
      exact (Frame.upd_dbg (hM.to rfl) hs0)
    · rename_i w7 w8
      exact (State.answered_frame (hM.to rfl) (Frame.upd_dbg (hM.to rfl) hs0))
  · rename_i w9
    exact (State.answered_frame (hM.to rfl) (Frame.upd_dbg (hM.to rfl) hs0))

theorem State.opHltLine_frame {M : Nat} {s0 : State} {line : List Byte} {good : Bool} {s : State} (hM : Covers M 0x1fffffffffffff) (hs2 : Frame M s0 s) :
    Frame M s0 (State.opHltLine line good s) := by
  unfold State.opHltLine
  refine (ite_rule hs2 ?_)
  extract_lets v1
  exact (ite_rule (State.lineErr_frame (hM.to rfl) (State.err_frame (hM.to rfl) hs2 (hM.fam .hlt rfl))) (ite_rule (State.lineErr_frame (hM.to rfl) hs2) (ite_rule (State.lcLine_frame (hM.to rfl) hs2) (State.command_frame (hM.to rfl) hs2))))

theorem execHalterErr_frame {M : Nat} {s0 : State} {s : State} (hM : Covers M 0x880c000208) (hs0 : Frame M s0 s) :
    NextP (Frame M s0) (execHalterErr s) := by
  unfold execHalterErr
  exact (State.halterCmd_frame (hM.to rfl) hs0 (fun x1 h2 => (State.opHltErr_frame (hM.to rfl) h2)))

theorem execHalterRst_frame {M : Nat} {s0 : State} {s : State} (hM : Covers M 0x1ffffdefffffbe) (hs0 : Frame M s0 s) :
    NextP (Frame M s0) (execHalterRst s) := by
  unfold execHalterRst
  exact (State.halterCmd_frame (hM.to rfl) hs0 (fun x1 h2 => (State.opHltRst_frame (hM.to rfl) h2)))

theorem execHalterLine_frame {M : Nat} {s0 : State} {line : List Byte} {good : Bool} {s : State} (hM : Covers M 0x1fffffffffffff) (hs2 : Frame M s0 s) :
    NextP (Frame M s0) (execHalterLine line good s) := by
  unfold execHalterLine
  exact (NextP.next (State.assisted_frame (hM.to rfl) hs2 (fun x1 h2 => (State.opHltLine_frame (hM.to rfl) h2))))

theorem execHalterStat_frame {M : Nat} {s0 : State} {s : State} (hM : Covers M 0x880c000208) (hs0 : Frame M s0 s) :
    NextP (Frame M s0) (execHalterStat s) := by
  unfold execHalterStat
  exact (State.halterCmd_frame (hM.to rfl) hs0 (fun x1 h2 => (State.opHltStat_frame (hM.to rfl) h2)))

theorem execHalterLc_frame {M : Nat} {s0 : State} {s : State} (hM : Covers M 0x880d000208) (hs0 : Frame M s0 s) :
    NextP (Frame M s0) (execHalterLc s) := by
  unfold execHalterLc
  exact (State.halterCmd_frame (hM.to rfl) hs0 (fun x1 h2 => (State.opHltLc_frame (hM.to rfl) h2)))

theorem State.takeWaiting_frame {M : Nat} {s0 : State} {s : State} {c : SvcCmd} (hM : Covers M 0x1fffffffffffff) (hs0 : Frame M s0 s) :
    Frame M s0 (State.takeWaiting s c) := by
  unfold State.takeWaiting
  split
  · rename_i w1 w2
    exact (State.also_frame hs0 (fun x3 h4 => (execCtxsTdDone_frame (hM.to rfl) h4)))
  · rename_i w5 w6 w7
    exact (State.also_frame hs0 (fun x8 h9 => (execFnsEvict_frame (hM.to rfl) h9)))
  · rename_i w10 w11
    exact (State.also_frame hs0 (fun x12 h13 => (execKeyHaDone_frame (hM.to rfl) h13)))
  · rename_i w14 w15
    exact (State.also_frame hs0 (fun x16 h17 => (execTriageRetire_frame (hM.to rfl) h17)))
  · rename_i w18 w19
    exact (State.also_frame hs0 (fun x20 h21 => (execTriageRebuild_frame (hM.to rfl) h21)))
  · rename_i w22 w23
    exact (State.also_frame hs0 (fun x24 h25 => (execTriageLeave_frame (hM.to rfl) h25)))
  · rename_i w26 w27
    exact (State.also_frame hs0 (fun x28 h29 => (execVfHaDone_frame (hM.to rfl) h29)))
  · rename_i w30 w31 w32
    exact (State.also_frame hs0 (fun x33 h34 => (execSuspectReplay_frame (hM.to rfl) h34)))
  · rename_i w35 w36 w37
    exact (State.also_frame hs0 (fun x38 h39 => (execSuspectFail_frame (hM.to rfl) h39)))
  · rename_i w40 w41 w42
    exact (State.also_frame hs0 (fun x43 h44 => (execSuspectDrop_frame (hM.to rfl) h44)))
  · rename_i w45 w46 w47 w48
    exact (State.also_frame hs0 (fun x49 h50 => (execFarGrant_frame (hM.to rfl) h50)))
  · rename_i w51 w52 w53
    exact (State.also_frame hs0 (fun x54 h55 => (execWalk_frame (hM.to rfl) h55)))
  · rename_i w56 w57
    exact (State.also_frame hs0 (fun x58 h59 => (execGo_frame (hM.to rfl) h59)))
  · rename_i w60 w61
    exact (State.also_frame hs0 (fun x62 h63 => (execAbandon_frame (hM.to rfl) h63)))
  · rename_i w64 w65
    exact (State.also_frame hs0 (fun x66 h67 => (execMemberSet_frame (hM.to rfl) h67)))
  · rename_i w68 w69
    exact (State.also_frame hs0 (fun x70 h71 => (execHaTimeoutWithdraw_frame (hM.to rfl) h71)))
  · rename_i w72 w73 w74
    exact (State.also_frame hs0 (fun x75 h76 => (execHalterLine_frame (hM.to rfl) h76)))
  · rename_i w77 w78 w79 w80 w81
    refine (State.halter_frame (hM.to rfl) hs0 (fun x82 h83 => ?_))
    split
    · rename_i w84
      exact (State.opHltVer_frame (hM.to rfl) h83)
    · rename_i w85
      exact (State.opHltStat_frame (hM.to rfl) h83)
    · rename_i w86
      exact (State.opHltErr_frame (hM.to rfl) h83)
    · rename_i w87
      exact (State.opHltRd_frame (hM.to rfl) h83)
    · rename_i w88
      exact (State.opHltWr_frame (hM.to rfl) h83)
    · rename_i w89
      exact (State.opHltMrd_frame (hM.to rfl) h83)
    · rename_i w90
      exact (State.opHltMwr_frame (hM.to rfl) h83)
    · rename_i w91
      exact (State.opHltDevid_frame (hM.to rfl) h83)
    · rename_i w92
      exact (State.opHltLc_frame (hM.to rfl) h83)
    · rename_i w93 w94 w95 w96 w97 w98 w99 w100 w101 w102
      exact (State.opHltRst_frame (hM.to rfl) h83)

theorem execSvcPairRestartDone_frame {M : Nat} {s0 : State} {s : State} (hM : Covers M 0x1fffffffffffff) (hs0 : Frame M s0 s) :
    NextP (Frame M s0) (execSvcPairRestartDone s) := by
  unfold execSvcPairRestartDone
  extract_lets v1 v2
  exact (NextP.next (fold_rule (Frame.upd_boot (hM.to rfl) hs0) fun x3 b4 h5 => (State.takeWaiting_frame (hM.to rfl) h5)))

theorem execHalterVer_frame {M : Nat} {s0 : State} {s : State} (hM : Covers M 0x880c000208) (hs0 : Frame M s0 s) :
    NextP (Frame M s0) (execHalterVer s) := by
  unfold execHalterVer
  exact (State.halterCmd_frame (hM.to rfl) hs0 (fun x1 h2 => (State.opHltVer_frame (hM.to rfl) h2)))

theorem execHalterDevid_frame {M : Nat} {s0 : State} {s : State} (hM : Covers M 0x880c000208) (hs0 : Frame M s0 s) :
    NextP (Frame M s0) (execHalterDevid s) := by
  unfold execHalterDevid
  exact (State.halterCmd_frame (hM.to rfl) hs0 (fun x1 h2 => (State.opHltDevid_frame (hM.to rfl) h2)))

theorem execHalterMrd_frame {M : Nat} {s0 : State} {addr : ℕ} {len : ℕ} {s : State} (hM : Covers M 0x1f028d5d01dbba) (hs2 : Frame M s0 s) :
    NextP (Frame M s0) (execHalterMrd addr len s) := by
  unfold execHalterMrd
  exact (State.halterCmd_frame (hM.to rfl) hs2 (fun x1 h2 => (State.opHltMrd_frame (hM.to rfl) h2)))

theorem execHalterMwr_frame {M : Nat} {s0 : State} {addr : ℕ} {data : List Byte} {s : State} (hM : Covers M 0x1f028d5d01dbba) (hs2 : Frame M s0 s) :
    NextP (Frame M s0) (execHalterMwr addr data s) := by
  unfold execHalterMwr
  exact (State.halterCmd_frame (hM.to rfl) hs2 (fun x1 h2 => (State.opHltMwr_frame (hM.to rfl) h2)))

theorem execHalterRd_frame {M : Nat} {s0 : State} {addr : ℕ} {s : State} (hM : Covers M 0x1fffffec00022c) (hs1 : Frame M s0 s) :
    NextP (Frame M s0) (execHalterRd addr s) := by
  unfold execHalterRd
  exact (State.halterCmd_frame (hM.to rfl) hs1 (fun x1 h2 => (State.opHltRd_frame (hM.to rfl) h2)))

end Sys2Proof.Machine
end

