-- ==== Sys2Proof/Laws/State.lean ====
section
/-! SUPPORT. What the operations that set one field of the state leave as it was, field by field, and what a register, a field of a register
and an entry of a table read after a write. -/

namespace Sys2Proof.Machine

/-! ### Fields after an update -/

@[simp] theorem State.setReg_build (s : State) (a : Nat) (v : W32) : (s.setReg a v).build = s.build := rfl
@[simp] theorem State.setReg_pins (s : State) (a : Nat) (v : W32) : (s.setReg a v).pins = s.pins := rfl
@[simp] theorem State.setReg_outs (s : State) (a : Nat) (v : W32) : (s.setReg a v).outs = s.outs := rfl
@[simp] theorem State.setReg_latches (s : State) (a : Nat) (v : W32) : (s.setReg a v).latches = s.latches := rfl
@[simp] theorem State.setReg_boot (s : State) (a : Nat) (v : W32) : (s.setReg a v).boot = s.boot := rfl
@[simp] theorem State.setReg_pkg (s : State) (a : Nat) (v : W32) : (s.setReg a v).pkg = s.pkg := rfl
@[simp] theorem State.setReg_power (s : State) (a : Nat) (v : W32) : (s.setReg a v).power = s.power := rfl
@[simp] theorem State.setReg_time (s : State) (a : Nat) (v : W32) : (s.setReg a v).time = s.time := rfl
@[simp] theorem State.setReg_links (s : State) (a : Nat) (v : W32) : (s.setReg a v).links = s.links := rfl
@[simp] theorem State.setReg_gait (s : State) (a : Nat) (v : W32) : (s.setReg a v).gait = s.gait := rfl
@[simp] theorem State.setReg_faults (s : State) (a : Nat) (v : W32) : (s.setReg a v).faults = s.faults := rfl
@[simp] theorem State.setReg_host (s : State) (a : Nat) (v : W32) : (s.setReg a v).host = s.host := rfl
@[simp] theorem State.setReg_front (s : State) (a : Nat) (v : W32) : (s.setReg a v).front = s.front := rfl
@[simp] theorem State.setReg_objs (s : State) (a : Nat) (v : W32) : (s.setReg a v).objs = s.objs := rfl
@[simp] theorem State.setReg_fns (s : State) (a : Nat) (v : W32) : (s.setReg a v).fns = s.fns := rfl
@[simp] theorem State.setReg_mem (s : State) (a : Nat) (v : W32) : (s.setReg a v).mem = s.mem := rfl
@[simp] theorem State.setReg_sync (s : State) (a : Nat) (v : W32) : (s.setReg a v).sync = s.sync := rfl
@[simp] theorem State.setReg_red (s : State) (a : Nat) (v : W32) : (s.setReg a v).red = s.red := rfl
@[simp] theorem State.setReg_fab (s : State) (a : Nat) (v : W32) : (s.setReg a v).fab = s.fab := rfl
@[simp] theorem State.setReg_coh (s : State) (a : Nat) (v : W32) : (s.setReg a v).coh = s.coh := rfl
@[simp] theorem State.setReg_cmb (s : State) (a : Nat) (v : W32) : (s.setReg a v).cmb = s.cmb := rfl
@[simp] theorem State.setReg_trust (s : State) (a : Nat) (v : W32) : (s.setReg a v).trust = s.trust := rfl
@[simp] theorem State.setReg_ccip (s : State) (a : Nat) (v : W32) : (s.setReg a v).ccip = s.ccip := rfl
@[simp] theorem State.setReg_lc (s : State) (a : Nat) (v : W32) : (s.setReg a v).lc = s.lc := rfl
@[simp] theorem State.setReg_dbg (s : State) (a : Nat) (v : W32) : (s.setReg a v).dbg = s.dbg := rfl
@[simp] theorem State.setReg_bist (s : State) (a : Nat) (v : W32) : (s.setReg a v).bist = s.bist := rfl
@[simp] theorem State.setReg_out (s : State) (a : Nat) (v : W32) : (s.setReg a v).out = s.out := rfl
@[simp] theorem State.setReg_egress (s : State) (a : Nat) (v : W32) : (s.setReg a v).egress = s.egress := rfl
@[simp] theorem State.setReg_draws (s : State) (a : Nat) (v : W32) : (s.setReg a v).draws = s.draws := rfl
@[simp] theorem State.setReg_pending (s : State) (a : Nat) (v : W32) : (s.setReg a v).pending = s.pending := rfl

@[simp] theorem State.wr_build (s : State) (p : Page) (f : Field) (v i : Nat) : (s.wr p f v i).build = s.build := rfl
@[simp] theorem State.wr_pins (s : State) (p : Page) (f : Field) (v i : Nat) : (s.wr p f v i).pins = s.pins := rfl
@[simp] theorem State.wr_outs (s : State) (p : Page) (f : Field) (v i : Nat) : (s.wr p f v i).outs = s.outs := rfl
@[simp] theorem State.wr_latches (s : State) (p : Page) (f : Field) (v i : Nat) : (s.wr p f v i).latches = s.latches := rfl
@[simp] theorem State.wr_boot (s : State) (p : Page) (f : Field) (v i : Nat) : (s.wr p f v i).boot = s.boot := rfl
@[simp] theorem State.wr_pkg (s : State) (p : Page) (f : Field) (v i : Nat) : (s.wr p f v i).pkg = s.pkg := rfl
@[simp] theorem State.wr_power (s : State) (p : Page) (f : Field) (v i : Nat) : (s.wr p f v i).power = s.power := rfl
@[simp] theorem State.wr_time (s : State) (p : Page) (f : Field) (v i : Nat) : (s.wr p f v i).time = s.time := rfl
@[simp] theorem State.wr_links (s : State) (p : Page) (f : Field) (v i : Nat) : (s.wr p f v i).links = s.links := rfl
@[simp] theorem State.wr_gait (s : State) (p : Page) (f : Field) (v i : Nat) : (s.wr p f v i).gait = s.gait := rfl
@[simp] theorem State.wr_faults (s : State) (p : Page) (f : Field) (v i : Nat) : (s.wr p f v i).faults = s.faults := rfl
@[simp] theorem State.wr_host (s : State) (p : Page) (f : Field) (v i : Nat) : (s.wr p f v i).host = s.host := rfl
@[simp] theorem State.wr_front (s : State) (p : Page) (f : Field) (v i : Nat) : (s.wr p f v i).front = s.front := rfl
@[simp] theorem State.wr_objs (s : State) (p : Page) (f : Field) (v i : Nat) : (s.wr p f v i).objs = s.objs := rfl
@[simp] theorem State.wr_fns (s : State) (p : Page) (f : Field) (v i : Nat) : (s.wr p f v i).fns = s.fns := rfl
@[simp] theorem State.wr_mem (s : State) (p : Page) (f : Field) (v i : Nat) : (s.wr p f v i).mem = s.mem := rfl
@[simp] theorem State.wr_sync (s : State) (p : Page) (f : Field) (v i : Nat) : (s.wr p f v i).sync = s.sync := rfl
@[simp] theorem State.wr_red (s : State) (p : Page) (f : Field) (v i : Nat) : (s.wr p f v i).red = s.red := rfl
@[simp] theorem State.wr_fab (s : State) (p : Page) (f : Field) (v i : Nat) : (s.wr p f v i).fab = s.fab := rfl
@[simp] theorem State.wr_coh (s : State) (p : Page) (f : Field) (v i : Nat) : (s.wr p f v i).coh = s.coh := rfl
@[simp] theorem State.wr_cmb (s : State) (p : Page) (f : Field) (v i : Nat) : (s.wr p f v i).cmb = s.cmb := rfl
@[simp] theorem State.wr_trust (s : State) (p : Page) (f : Field) (v i : Nat) : (s.wr p f v i).trust = s.trust := rfl
@[simp] theorem State.wr_ccip (s : State) (p : Page) (f : Field) (v i : Nat) : (s.wr p f v i).ccip = s.ccip := rfl
@[simp] theorem State.wr_lc (s : State) (p : Page) (f : Field) (v i : Nat) : (s.wr p f v i).lc = s.lc := rfl
@[simp] theorem State.wr_dbg (s : State) (p : Page) (f : Field) (v i : Nat) : (s.wr p f v i).dbg = s.dbg := rfl
@[simp] theorem State.wr_bist (s : State) (p : Page) (f : Field) (v i : Nat) : (s.wr p f v i).bist = s.bist := rfl
@[simp] theorem State.wr_out (s : State) (p : Page) (f : Field) (v i : Nat) : (s.wr p f v i).out = s.out := rfl
@[simp] theorem State.wr_egress (s : State) (p : Page) (f : Field) (v i : Nat) : (s.wr p f v i).egress = s.egress := rfl
@[simp] theorem State.wr_draws (s : State) (p : Page) (f : Field) (v i : Nat) : (s.wr p f v i).draws = s.draws := rfl
@[simp] theorem State.wr_pending (s : State) (p : Page) (f : Field) (v i : Nat) : (s.wr p f v i).pending = s.pending := rfl

@[simp] theorem State.setLatch_build (s : State) (p : Party) (pg : Page) (x : Latch) : (s.setLatch p pg x).build = s.build := rfl
@[simp] theorem State.setLatch_pins (s : State) (p : Party) (pg : Page) (x : Latch) : (s.setLatch p pg x).pins = s.pins := rfl
@[simp] theorem State.setLatch_outs (s : State) (p : Party) (pg : Page) (x : Latch) : (s.setLatch p pg x).outs = s.outs := rfl
@[simp] theorem State.setLatch_regs (s : State) (p : Party) (pg : Page) (x : Latch) : (s.setLatch p pg x).regs = s.regs := rfl
@[simp] theorem State.setLatch_boot (s : State) (p : Party) (pg : Page) (x : Latch) : (s.setLatch p pg x).boot = s.boot := rfl
@[simp] theorem State.setLatch_pkg (s : State) (p : Party) (pg : Page) (x : Latch) : (s.setLatch p pg x).pkg = s.pkg := rfl
@[simp] theorem State.setLatch_power (s : State) (p : Party) (pg : Page) (x : Latch) : (s.setLatch p pg x).power = s.power := rfl
@[simp] theorem State.setLatch_time (s : State) (p : Party) (pg : Page) (x : Latch) : (s.setLatch p pg x).time = s.time := rfl
@[simp] theorem State.setLatch_links (s : State) (p : Party) (pg : Page) (x : Latch) : (s.setLatch p pg x).links = s.links := rfl
@[simp] theorem State.setLatch_gait (s : State) (p : Party) (pg : Page) (x : Latch) : (s.setLatch p pg x).gait = s.gait := rfl
@[simp] theorem State.setLatch_faults (s : State) (p : Party) (pg : Page) (x : Latch) : (s.setLatch p pg x).faults = s.faults := rfl
@[simp] theorem State.setLatch_host (s : State) (p : Party) (pg : Page) (x : Latch) : (s.setLatch p pg x).host = s.host := rfl
@[simp] theorem State.setLatch_front (s : State) (p : Party) (pg : Page) (x : Latch) : (s.setLatch p pg x).front = s.front := rfl
@[simp] theorem State.setLatch_objs (s : State) (p : Party) (pg : Page) (x : Latch) : (s.setLatch p pg x).objs = s.objs := rfl
@[simp] theorem State.setLatch_fns (s : State) (p : Party) (pg : Page) (x : Latch) : (s.setLatch p pg x).fns = s.fns := rfl
@[simp] theorem State.setLatch_mem (s : State) (p : Party) (pg : Page) (x : Latch) : (s.setLatch p pg x).mem = s.mem := rfl
@[simp] theorem State.setLatch_sync (s : State) (p : Party) (pg : Page) (x : Latch) : (s.setLatch p pg x).sync = s.sync := rfl
@[simp] theorem State.setLatch_red (s : State) (p : Party) (pg : Page) (x : Latch) : (s.setLatch p pg x).red = s.red := rfl
@[simp] theorem State.setLatch_fab (s : State) (p : Party) (pg : Page) (x : Latch) : (s.setLatch p pg x).fab = s.fab := rfl
@[simp] theorem State.setLatch_coh (s : State) (p : Party) (pg : Page) (x : Latch) : (s.setLatch p pg x).coh = s.coh := rfl
@[simp] theorem State.setLatch_cmb (s : State) (p : Party) (pg : Page) (x : Latch) : (s.setLatch p pg x).cmb = s.cmb := rfl
@[simp] theorem State.setLatch_trust (s : State) (p : Party) (pg : Page) (x : Latch) : (s.setLatch p pg x).trust = s.trust := rfl
@[simp] theorem State.setLatch_ccip (s : State) (p : Party) (pg : Page) (x : Latch) : (s.setLatch p pg x).ccip = s.ccip := rfl
@[simp] theorem State.setLatch_lc (s : State) (p : Party) (pg : Page) (x : Latch) : (s.setLatch p pg x).lc = s.lc := rfl
@[simp] theorem State.setLatch_dbg (s : State) (p : Party) (pg : Page) (x : Latch) : (s.setLatch p pg x).dbg = s.dbg := rfl
@[simp] theorem State.setLatch_bist (s : State) (p : Party) (pg : Page) (x : Latch) : (s.setLatch p pg x).bist = s.bist := rfl
@[simp] theorem State.setLatch_out (s : State) (p : Party) (pg : Page) (x : Latch) : (s.setLatch p pg x).out = s.out := rfl
@[simp] theorem State.setLatch_egress (s : State) (p : Party) (pg : Page) (x : Latch) : (s.setLatch p pg x).egress = s.egress := rfl
@[simp] theorem State.setLatch_draws (s : State) (p : Party) (pg : Page) (x : Latch) : (s.setLatch p pg x).draws = s.draws := rfl
@[simp] theorem State.setLatch_pending (s : State) (p : Party) (pg : Page) (x : Latch) : (s.setLatch p pg x).pending = s.pending := rfl
@[simp] theorem State.setLatch_reg (s : State) (p : Party) (pg : Page) (x : Latch) (b : Nat) : (s.setLatch p pg x).reg b = s.reg b := rfl
@[simp] theorem State.setLatch_rd (s : State) (p : Party) (pg : Page) (x : Latch) (pg' : Page) (g : Field) (j : Nat) : (s.setLatch p pg x).rd pg' g j = s.rd pg' g j := rfl

@[simp] theorem State.lostWrite_build (s : State) (pg : Page) : (s.lostWrite pg).build = s.build := rfl
@[simp] theorem State.lostWrite_pins (s : State) (pg : Page) : (s.lostWrite pg).pins = s.pins := rfl
@[simp] theorem State.lostWrite_outs (s : State) (pg : Page) : (s.lostWrite pg).outs = s.outs := rfl
@[simp] theorem State.lostWrite_regs (s : State) (pg : Page) : (s.lostWrite pg).regs = s.regs := rfl
@[simp] theorem State.lostWrite_latches (s : State) (pg : Page) : (s.lostWrite pg).latches = s.latches := rfl
@[simp] theorem State.lostWrite_pkg (s : State) (pg : Page) : (s.lostWrite pg).pkg = s.pkg := rfl
@[simp] theorem State.lostWrite_power (s : State) (pg : Page) : (s.lostWrite pg).power = s.power := rfl
@[simp] theorem State.lostWrite_time (s : State) (pg : Page) : (s.lostWrite pg).time = s.time := rfl
@[simp] theorem State.lostWrite_links (s : State) (pg : Page) : (s.lostWrite pg).links = s.links := rfl
@[simp] theorem State.lostWrite_gait (s : State) (pg : Page) : (s.lostWrite pg).gait = s.gait := rfl
@[simp] theorem State.lostWrite_faults (s : State) (pg : Page) : (s.lostWrite pg).faults = s.faults := rfl
@[simp] theorem State.lostWrite_host (s : State) (pg : Page) : (s.lostWrite pg).host = s.host := rfl
@[simp] theorem State.lostWrite_front (s : State) (pg : Page) : (s.lostWrite pg).front = s.front := rfl
@[simp] theorem State.lostWrite_objs (s : State) (pg : Page) : (s.lostWrite pg).objs = s.objs := rfl
@[simp] theorem State.lostWrite_fns (s : State) (pg : Page) : (s.lostWrite pg).fns = s.fns := rfl
@[simp] theorem State.lostWrite_mem (s : State) (pg : Page) : (s.lostWrite pg).mem = s.mem := rfl
@[simp] theorem State.lostWrite_sync (s : State) (pg : Page) : (s.lostWrite pg).sync = s.sync := rfl
@[simp] theorem State.lostWrite_red (s : State) (pg : Page) : (s.lostWrite pg).red = s.red := rfl
@[simp] theorem State.lostWrite_fab (s : State) (pg : Page) : (s.lostWrite pg).fab = s.fab := rfl
@[simp] theorem State.lostWrite_coh (s : State) (pg : Page) : (s.lostWrite pg).coh = s.coh := rfl
@[simp] theorem State.lostWrite_cmb (s : State) (pg : Page) : (s.lostWrite pg).cmb = s.cmb := rfl
@[simp] theorem State.lostWrite_trust (s : State) (pg : Page) : (s.lostWrite pg).trust = s.trust := rfl
@[simp] theorem State.lostWrite_ccip (s : State) (pg : Page) : (s.lostWrite pg).ccip = s.ccip := rfl
@[simp] theorem State.lostWrite_lc (s : State) (pg : Page) : (s.lostWrite pg).lc = s.lc := rfl
@[simp] theorem State.lostWrite_dbg (s : State) (pg : Page) : (s.lostWrite pg).dbg = s.dbg := rfl
@[simp] theorem State.lostWrite_bist (s : State) (pg : Page) : (s.lostWrite pg).bist = s.bist := rfl
@[simp] theorem State.lostWrite_out (s : State) (pg : Page) : (s.lostWrite pg).out = s.out := rfl
@[simp] theorem State.lostWrite_egress (s : State) (pg : Page) : (s.lostWrite pg).egress = s.egress := rfl
@[simp] theorem State.lostWrite_draws (s : State) (pg : Page) : (s.lostWrite pg).draws = s.draws := rfl
@[simp] theorem State.lostWrite_pending (s : State) (pg : Page) : (s.lostWrite pg).pending = s.pending := rfl
@[simp] theorem State.lostWrite_reg (s : State) (pg : Page) (b : Nat) : (s.lostWrite pg).reg b = s.reg b := rfl
@[simp] theorem State.lostWrite_rd (s : State) (pg : Page) (pg' : Page) (g : Field) (j : Nat) : (s.lostWrite pg).rd pg' g j = s.rd pg' g j := rfl

@[simp] theorem State.wakeSlots_build (s : State) (l : List Nat) : (s.wakeSlots l).build = s.build := rfl
@[simp] theorem State.wakeSlots_pins (s : State) (l : List Nat) : (s.wakeSlots l).pins = s.pins := rfl
@[simp] theorem State.wakeSlots_outs (s : State) (l : List Nat) : (s.wakeSlots l).outs = s.outs := rfl
@[simp] theorem State.wakeSlots_regs (s : State) (l : List Nat) : (s.wakeSlots l).regs = s.regs := rfl
@[simp] theorem State.wakeSlots_latches (s : State) (l : List Nat) : (s.wakeSlots l).latches = s.latches := rfl
@[simp] theorem State.wakeSlots_boot (s : State) (l : List Nat) : (s.wakeSlots l).boot = s.boot := rfl
@[simp] theorem State.wakeSlots_pkg (s : State) (l : List Nat) : (s.wakeSlots l).pkg = s.pkg := rfl
@[simp] theorem State.wakeSlots_time (s : State) (l : List Nat) : (s.wakeSlots l).time = s.time := rfl
@[simp] theorem State.wakeSlots_links (s : State) (l : List Nat) : (s.wakeSlots l).links = s.links := rfl
@[simp] theorem State.wakeSlots_gait (s : State) (l : List Nat) : (s.wakeSlots l).gait = s.gait := rfl
@[simp] theorem State.wakeSlots_faults (s : State) (l : List Nat) : (s.wakeSlots l).faults = s.faults := rfl
@[simp] theorem State.wakeSlots_host (s : State) (l : List Nat) : (s.wakeSlots l).host = s.host := rfl
@[simp] theorem State.wakeSlots_front (s : State) (l : List Nat) : (s.wakeSlots l).front = s.front := rfl
@[simp] theorem State.wakeSlots_objs (s : State) (l : List Nat) : (s.wakeSlots l).objs = s.objs := rfl
@[simp] theorem State.wakeSlots_fns (s : State) (l : List Nat) : (s.wakeSlots l).fns = s.fns := rfl
@[simp] theorem State.wakeSlots_mem (s : State) (l : List Nat) : (s.wakeSlots l).mem = s.mem := rfl
@[simp] theorem State.wakeSlots_sync (s : State) (l : List Nat) : (s.wakeSlots l).sync = s.sync := rfl
@[simp] theorem State.wakeSlots_red (s : State) (l : List Nat) : (s.wakeSlots l).red = s.red := rfl
@[simp] theorem State.wakeSlots_fab (s : State) (l : List Nat) : (s.wakeSlots l).fab = s.fab := rfl
@[simp] theorem State.wakeSlots_coh (s : State) (l : List Nat) : (s.wakeSlots l).coh = s.coh := rfl
@[simp] theorem State.wakeSlots_cmb (s : State) (l : List Nat) : (s.wakeSlots l).cmb = s.cmb := rfl
@[simp] theorem State.wakeSlots_trust (s : State) (l : List Nat) : (s.wakeSlots l).trust = s.trust := rfl
@[simp] theorem State.wakeSlots_ccip (s : State) (l : List Nat) : (s.wakeSlots l).ccip = s.ccip := rfl
@[simp] theorem State.wakeSlots_lc (s : State) (l : List Nat) : (s.wakeSlots l).lc = s.lc := rfl
@[simp] theorem State.wakeSlots_dbg (s : State) (l : List Nat) : (s.wakeSlots l).dbg = s.dbg := rfl
@[simp] theorem State.wakeSlots_bist (s : State) (l : List Nat) : (s.wakeSlots l).bist = s.bist := rfl
@[simp] theorem State.wakeSlots_out (s : State) (l : List Nat) : (s.wakeSlots l).out = s.out := rfl
@[simp] theorem State.wakeSlots_egress (s : State) (l : List Nat) : (s.wakeSlots l).egress = s.egress := rfl
@[simp] theorem State.wakeSlots_draws (s : State) (l : List Nat) : (s.wakeSlots l).draws = s.draws := rfl
@[simp] theorem State.wakeSlots_pending (s : State) (l : List Nat) : (s.wakeSlots l).pending = s.pending := rfl
@[simp] theorem State.wakeSlots_reg (s : State) (l : List Nat) (b : Nat) : (s.wakeSlots l).reg b = s.reg b := rfl
@[simp] theorem State.wakeSlots_rd (s : State) (l : List Nat) (pg' : Page) (g : Field) (j : Nat) : (s.wakeSlots l).rd pg' g j = s.rd pg' g j := rfl

@[simp] theorem State.setPtime_build (s : State) (k : Nat) (t : PortTime) : (s.setPtime k t).build = s.build := rfl
@[simp] theorem State.setPtime_pins (s : State) (k : Nat) (t : PortTime) : (s.setPtime k t).pins = s.pins := rfl
@[simp] theorem State.setPtime_outs (s : State) (k : Nat) (t : PortTime) : (s.setPtime k t).outs = s.outs := rfl
@[simp] theorem State.setPtime_regs (s : State) (k : Nat) (t : PortTime) : (s.setPtime k t).regs = s.regs := rfl
@[simp] theorem State.setPtime_latches (s : State) (k : Nat) (t : PortTime) : (s.setPtime k t).latches = s.latches := rfl
@[simp] theorem State.setPtime_boot (s : State) (k : Nat) (t : PortTime) : (s.setPtime k t).boot = s.boot := rfl
@[simp] theorem State.setPtime_pkg (s : State) (k : Nat) (t : PortTime) : (s.setPtime k t).pkg = s.pkg := rfl
@[simp] theorem State.setPtime_power (s : State) (k : Nat) (t : PortTime) : (s.setPtime k t).power = s.power := rfl
@[simp] theorem State.setPtime_links (s : State) (k : Nat) (t : PortTime) : (s.setPtime k t).links = s.links := rfl
@[simp] theorem State.setPtime_gait (s : State) (k : Nat) (t : PortTime) : (s.setPtime k t).gait = s.gait := rfl
@[simp] theorem State.setPtime_faults (s : State) (k : Nat) (t : PortTime) : (s.setPtime k t).faults = s.faults := rfl
@[simp] theorem State.setPtime_host (s : State) (k : Nat) (t : PortTime) : (s.setPtime k t).host = s.host := rfl
@[simp] theorem State.setPtime_front (s : State) (k : Nat) (t : PortTime) : (s.setPtime k t).front = s.front := rfl
@[simp] theorem State.setPtime_objs (s : State) (k : Nat) (t : PortTime) : (s.setPtime k t).objs = s.objs := rfl
@[simp] theorem State.setPtime_fns (s : State) (k : Nat) (t : PortTime) : (s.setPtime k t).fns = s.fns := rfl
@[simp] theorem State.setPtime_mem (s : State) (k : Nat) (t : PortTime) : (s.setPtime k t).mem = s.mem := rfl
@[simp] theorem State.setPtime_sync (s : State) (k : Nat) (t : PortTime) : (s.setPtime k t).sync = s.sync := rfl
@[simp] theorem State.setPtime_red (s : State) (k : Nat) (t : PortTime) : (s.setPtime k t).red = s.red := rfl
@[simp] theorem State.setPtime_fab (s : State) (k : Nat) (t : PortTime) : (s.setPtime k t).fab = s.fab := rfl
@[simp] theorem State.setPtime_coh (s : State) (k : Nat) (t : PortTime) : (s.setPtime k t).coh = s.coh := rfl
@[simp] theorem State.setPtime_cmb (s : State) (k : Nat) (t : PortTime) : (s.setPtime k t).cmb = s.cmb := rfl
@[simp] theorem State.setPtime_trust (s : State) (k : Nat) (t : PortTime) : (s.setPtime k t).trust = s.trust := rfl
@[simp] theorem State.setPtime_ccip (s : State) (k : Nat) (t : PortTime) : (s.setPtime k t).ccip = s.ccip := rfl
@[simp] theorem State.setPtime_lc (s : State) (k : Nat) (t : PortTime) : (s.setPtime k t).lc = s.lc := rfl
@[simp] theorem State.setPtime_dbg (s : State) (k : Nat) (t : PortTime) : (s.setPtime k t).dbg = s.dbg := rfl
@[simp] theorem State.setPtime_bist (s : State) (k : Nat) (t : PortTime) : (s.setPtime k t).bist = s.bist := rfl
@[simp] theorem State.setPtime_out (s : State) (k : Nat) (t : PortTime) : (s.setPtime k t).out = s.out := rfl
@[simp] theorem State.setPtime_egress (s : State) (k : Nat) (t : PortTime) : (s.setPtime k t).egress = s.egress := rfl
@[simp] theorem State.setPtime_draws (s : State) (k : Nat) (t : PortTime) : (s.setPtime k t).draws = s.draws := rfl
@[simp] theorem State.setPtime_pending (s : State) (k : Nat) (t : PortTime) : (s.setPtime k t).pending = s.pending := rfl
@[simp] theorem State.setPtime_reg (s : State) (k : Nat) (t : PortTime) (b : Nat) : (s.setPtime k t).reg b = s.reg b := rfl
@[simp] theorem State.setPtime_rd (s : State) (k : Nat) (t : PortTime) (pg' : Page) (g : Field) (j : Nat) : (s.setPtime k t).rd pg' g j = s.rd pg' g j := rfl

@[simp] theorem State.setLink_build (s : State) (n : Nat) (l : Link) : (s.setLink n l).build = s.build := rfl
@[simp] theorem State.setLink_pins (s : State) (n : Nat) (l : Link) : (s.setLink n l).pins = s.pins := rfl
@[simp] theorem State.setLink_outs (s : State) (n : Nat) (l : Link) : (s.setLink n l).outs = s.outs := rfl
@[simp] theorem State.setLink_regs (s : State) (n : Nat) (l : Link) : (s.setLink n l).regs = s.regs := rfl
@[simp] theorem State.setLink_latches (s : State) (n : Nat) (l : Link) : (s.setLink n l).latches = s.latches := rfl
@[simp] theorem State.setLink_boot (s : State) (n : Nat) (l : Link) : (s.setLink n l).boot = s.boot := rfl
@[simp] theorem State.setLink_pkg (s : State) (n : Nat) (l : Link) : (s.setLink n l).pkg = s.pkg := rfl
@[simp] theorem State.setLink_power (s : State) (n : Nat) (l : Link) : (s.setLink n l).power = s.power := rfl
@[simp] theorem State.setLink_time (s : State) (n : Nat) (l : Link) : (s.setLink n l).time = s.time := rfl
@[simp] theorem State.setLink_gait (s : State) (n : Nat) (l : Link) : (s.setLink n l).gait = s.gait := rfl
@[simp] theorem State.setLink_faults (s : State) (n : Nat) (l : Link) : (s.setLink n l).faults = s.faults := rfl
@[simp] theorem State.setLink_host (s : State) (n : Nat) (l : Link) : (s.setLink n l).host = s.host := rfl
@[simp] theorem State.setLink_front (s : State) (n : Nat) (l : Link) : (s.setLink n l).front = s.front := rfl
@[simp] theorem State.setLink_objs (s : State) (n : Nat) (l : Link) : (s.setLink n l).objs = s.objs := rfl
@[simp] theorem State.setLink_fns (s : State) (n : Nat) (l : Link) : (s.setLink n l).fns = s.fns := rfl
@[simp] theorem State.setLink_mem (s : State) (n : Nat) (l : Link) : (s.setLink n l).mem = s.mem := rfl
@[simp] theorem State.setLink_sync (s : State) (n : Nat) (l : Link) : (s.setLink n l).sync = s.sync := rfl
@[simp] theorem State.setLink_red (s : State) (n : Nat) (l : Link) : (s.setLink n l).red = s.red := rfl
@[simp] theorem State.setLink_fab (s : State) (n : Nat) (l : Link) : (s.setLink n l).fab = s.fab := rfl
@[simp] theorem State.setLink_coh (s : State) (n : Nat) (l : Link) : (s.setLink n l).coh = s.coh := rfl
@[simp] theorem State.setLink_cmb (s : State) (n : Nat) (l : Link) : (s.setLink n l).cmb = s.cmb := rfl
@[simp] theorem State.setLink_trust (s : State) (n : Nat) (l : Link) : (s.setLink n l).trust = s.trust := rfl
@[simp] theorem State.setLink_ccip (s : State) (n : Nat) (l : Link) : (s.setLink n l).ccip = s.ccip := rfl
@[simp] theorem State.setLink_lc (s : State) (n : Nat) (l : Link) : (s.setLink n l).lc = s.lc := rfl
@[simp] theorem State.setLink_dbg (s : State) (n : Nat) (l : Link) : (s.setLink n l).dbg = s.dbg := rfl
@[simp] theorem State.setLink_bist (s : State) (n : Nat) (l : Link) : (s.setLink n l).bist = s.bist := rfl
@[simp] theorem State.setLink_out (s : State) (n : Nat) (l : Link) : (s.setLink n l).out = s.out := rfl
@[simp] theorem State.setLink_egress (s : State) (n : Nat) (l : Link) : (s.setLink n l).egress = s.egress := rfl
@[simp] theorem State.setLink_draws (s : State) (n : Nat) (l : Link) : (s.setLink n l).draws = s.draws := rfl
@[simp] theorem State.setLink_pending (s : State) (n : Nat) (l : Link) : (s.setLink n l).pending = s.pending := rfl
@[simp] theorem State.setLink_reg (s : State) (n : Nat) (l : Link) (b : Nat) : (s.setLink n l).reg b = s.reg b := rfl
@[simp] theorem State.setLink_rd (s : State) (n : Nat) (l : Link) (pg' : Page) (g : Field) (j : Nat) : (s.setLink n l).rd pg' g j = s.rd pg' g j := rfl

@[simp] theorem State.setLoose_build (s : State) (n : Nat) (l : List LooseItem) : (s.setLoose n l).build = s.build := rfl
@[simp] theorem State.setLoose_pins (s : State) (n : Nat) (l : List LooseItem) : (s.setLoose n l).pins = s.pins := rfl
@[simp] theorem State.setLoose_outs (s : State) (n : Nat) (l : List LooseItem) : (s.setLoose n l).outs = s.outs := rfl
@[simp] theorem State.setLoose_regs (s : State) (n : Nat) (l : List LooseItem) : (s.setLoose n l).regs = s.regs := rfl
@[simp] theorem State.setLoose_latches (s : State) (n : Nat) (l : List LooseItem) : (s.setLoose n l).latches = s.latches := rfl
@[simp] theorem State.setLoose_boot (s : State) (n : Nat) (l : List LooseItem) : (s.setLoose n l).boot = s.boot := rfl
@[simp] theorem State.setLoose_pkg (s : State) (n : Nat) (l : List LooseItem) : (s.setLoose n l).pkg = s.pkg := rfl
@[simp] theorem State.setLoose_power (s : State) (n : Nat) (l : List LooseItem) : (s.setLoose n l).power = s.power := rfl
@[simp] theorem State.setLoose_time (s : State) (n : Nat) (l : List LooseItem) : (s.setLoose n l).time = s.time := rfl
@[simp] theorem State.setLoose_links (s : State) (n : Nat) (l : List LooseItem) : (s.setLoose n l).links = s.links := rfl
@[simp] theorem State.setLoose_faults (s : State) (n : Nat) (l : List LooseItem) : (s.setLoose n l).faults = s.faults := rfl
@[simp] theorem State.setLoose_host (s : State) (n : Nat) (l : List LooseItem) : (s.setLoose n l).host = s.host := rfl
@[simp] theorem State.setLoose_front (s : State) (n : Nat) (l : List LooseItem) : (s.setLoose n l).front = s.front := rfl
@[simp] theorem State.setLoose_objs (s : State) (n : Nat) (l : List LooseItem) : (s.setLoose n l).objs = s.objs := rfl
@[simp] theorem State.setLoose_fns (s : State) (n : Nat) (l : List LooseItem) : (s.setLoose n l).fns = s.fns := rfl
@[simp] theorem State.setLoose_mem (s : State) (n : Nat) (l : List LooseItem) : (s.setLoose n l).mem = s.mem := rfl
@[simp] theorem State.setLoose_sync (s : State) (n : Nat) (l : List LooseItem) : (s.setLoose n l).sync = s.sync := rfl
@[simp] theorem State.setLoose_red (s : State) (n : Nat) (l : List LooseItem) : (s.setLoose n l).red = s.red := rfl
@[simp] theorem State.setLoose_fab (s : State) (n : Nat) (l : List LooseItem) : (s.setLoose n l).fab = s.fab := rfl
@[simp] theorem State.setLoose_coh (s : State) (n : Nat) (l : List LooseItem) : (s.setLoose n l).coh = s.coh := rfl
@[simp] theorem State.setLoose_cmb (s : State) (n : Nat) (l : List LooseItem) : (s.setLoose n l).cmb = s.cmb := rfl
@[simp] theorem State.setLoose_trust (s : State) (n : Nat) (l : List LooseItem) : (s.setLoose n l).trust = s.trust := rfl
@[simp] theorem State.setLoose_ccip (s : State) (n : Nat) (l : List LooseItem) : (s.setLoose n l).ccip = s.ccip := rfl
@[simp] theorem State.setLoose_lc (s : State) (n : Nat) (l : List LooseItem) : (s.setLoose n l).lc = s.lc := rfl
@[simp] theorem State.setLoose_dbg (s : State) (n : Nat) (l : List LooseItem) : (s.setLoose n l).dbg = s.dbg := rfl
@[simp] theorem State.setLoose_bist (s : State) (n : Nat) (l : List LooseItem) : (s.setLoose n l).bist = s.bist := rfl
@[simp] theorem State.setLoose_out (s : State) (n : Nat) (l : List LooseItem) : (s.setLoose n l).out = s.out := rfl
@[simp] theorem State.setLoose_egress (s : State) (n : Nat) (l : List LooseItem) : (s.setLoose n l).egress = s.egress := rfl
@[simp] theorem State.setLoose_draws (s : State) (n : Nat) (l : List LooseItem) : (s.setLoose n l).draws = s.draws := rfl
@[simp] theorem State.setLoose_pending (s : State) (n : Nat) (l : List LooseItem) : (s.setLoose n l).pending = s.pending := rfl
@[simp] theorem State.setLoose_reg (s : State) (n : Nat) (l : List LooseItem) (b : Nat) : (s.setLoose n l).reg b = s.reg b := rfl
@[simp] theorem State.setLoose_rd (s : State) (n : Nat) (l : List LooseItem) (pg' : Page) (g : Field) (j : Nat) : (s.setLoose n l).rd pg' g j = s.rd pg' g j := rfl

@[simp] theorem State.cutOccs_build (s : State) (n : Nat) : (s.cutOccs n).build = s.build := rfl
@[simp] theorem State.cutOccs_pins (s : State) (n : Nat) : (s.cutOccs n).pins = s.pins := rfl
@[simp] theorem State.cutOccs_outs (s : State) (n : Nat) : (s.cutOccs n).outs = s.outs := rfl
@[simp] theorem State.cutOccs_regs (s : State) (n : Nat) : (s.cutOccs n).regs = s.regs := rfl
@[simp] theorem State.cutOccs_latches (s : State) (n : Nat) : (s.cutOccs n).latches = s.latches := rfl
@[simp] theorem State.cutOccs_boot (s : State) (n : Nat) : (s.cutOccs n).boot = s.boot := rfl
@[simp] theorem State.cutOccs_pkg (s : State) (n : Nat) : (s.cutOccs n).pkg = s.pkg := rfl
@[simp] theorem State.cutOccs_power (s : State) (n : Nat) : (s.cutOccs n).power = s.power := rfl
@[simp] theorem State.cutOccs_time (s : State) (n : Nat) : (s.cutOccs n).time = s.time := rfl
@[simp] theorem State.cutOccs_links (s : State) (n : Nat) : (s.cutOccs n).links = s.links := rfl
@[simp] theorem State.cutOccs_faults (s : State) (n : Nat) : (s.cutOccs n).faults = s.faults := rfl
@[simp] theorem State.cutOccs_host (s : State) (n : Nat) : (s.cutOccs n).host = s.host := rfl
@[simp] theorem State.cutOccs_front (s : State) (n : Nat) : (s.cutOccs n).front = s.front := rfl
@[simp] theorem State.cutOccs_objs (s : State) (n : Nat) : (s.cutOccs n).objs = s.objs := rfl
@[simp] theorem State.cutOccs_fns (s : State) (n : Nat) : (s.cutOccs n).fns = s.fns := rfl
@[simp] theorem State.cutOccs_mem (s : State) (n : Nat) : (s.cutOccs n).mem = s.mem := rfl
@[simp] theorem State.cutOccs_sync (s : State) (n : Nat) : (s.cutOccs n).sync = s.sync := rfl
@[simp] theorem State.cutOccs_red (s : State) (n : Nat) : (s.cutOccs n).red = s.red := rfl
@[simp] theorem State.cutOccs_fab (s : State) (n : Nat) : (s.cutOccs n).fab = s.fab := rfl
@[simp] theorem State.cutOccs_coh (s : State) (n : Nat) : (s.cutOccs n).coh = s.coh := rfl
@[simp] theorem State.cutOccs_cmb (s : State) (n : Nat) : (s.cutOccs n).cmb = s.cmb := rfl
@[simp] theorem State.cutOccs_trust (s : State) (n : Nat) : (s.cutOccs n).trust = s.trust := rfl
@[simp] theorem State.cutOccs_ccip (s : State) (n : Nat) : (s.cutOccs n).ccip = s.ccip := rfl
@[simp] theorem State.cutOccs_lc (s : State) (n : Nat) : (s.cutOccs n).lc = s.lc := rfl
@[simp] theorem State.cutOccs_dbg (s : State) (n : Nat) : (s.cutOccs n).dbg = s.dbg := rfl
@[simp] theorem State.cutOccs_bist (s : State) (n : Nat) : (s.cutOccs n).bist = s.bist := rfl
@[simp] theorem State.cutOccs_out (s : State) (n : Nat) : (s.cutOccs n).out = s.out := rfl
@[simp] theorem State.cutOccs_egress (s : State) (n : Nat) : (s.cutOccs n).egress = s.egress := rfl
@[simp] theorem State.cutOccs_draws (s : State) (n : Nat) : (s.cutOccs n).draws = s.draws := rfl
@[simp] theorem State.cutOccs_pending (s : State) (n : Nat) : (s.cutOccs n).pending = s.pending := rfl
@[simp] theorem State.cutOccs_reg (s : State) (n : Nat) (b : Nat) : (s.cutOccs n).reg b = s.reg b := rfl
@[simp] theorem State.cutOccs_rd (s : State) (n : Nat) (pg' : Page) (g : Field) (j : Nat) : (s.cutOccs n).rd pg' g j = s.rd pg' g j := rfl

@[simp] theorem State.putRec_build (s : State) (w : Nat) (r : ErrRec) : (s.putRec w r).build = s.build := rfl
@[simp] theorem State.putRec_pins (s : State) (w : Nat) (r : ErrRec) : (s.putRec w r).pins = s.pins := rfl
@[simp] theorem State.putRec_outs (s : State) (w : Nat) (r : ErrRec) : (s.putRec w r).outs = s.outs := rfl
@[simp] theorem State.putRec_regs (s : State) (w : Nat) (r : ErrRec) : (s.putRec w r).regs = s.regs := rfl
@[simp] theorem State.putRec_latches (s : State) (w : Nat) (r : ErrRec) : (s.putRec w r).latches = s.latches := rfl
@[simp] theorem State.putRec_boot (s : State) (w : Nat) (r : ErrRec) : (s.putRec w r).boot = s.boot := rfl
@[simp] theorem State.putRec_pkg (s : State) (w : Nat) (r : ErrRec) : (s.putRec w r).pkg = s.pkg := rfl
@[simp] theorem State.putRec_power (s : State) (w : Nat) (r : ErrRec) : (s.putRec w r).power = s.power := rfl
@[simp] theorem State.putRec_time (s : State) (w : Nat) (r : ErrRec) : (s.putRec w r).time = s.time := rfl
@[simp] theorem State.putRec_links (s : State) (w : Nat) (r : ErrRec) : (s.putRec w r).links = s.links := rfl
@[simp] theorem State.putRec_gait (s : State) (w : Nat) (r : ErrRec) : (s.putRec w r).gait = s.gait := rfl
@[simp] theorem State.putRec_host (s : State) (w : Nat) (r : ErrRec) : (s.putRec w r).host = s.host := rfl
@[simp] theorem State.putRec_front (s : State) (w : Nat) (r : ErrRec) : (s.putRec w r).front = s.front := rfl
@[simp] theorem State.putRec_objs (s : State) (w : Nat) (r : ErrRec) : (s.putRec w r).objs = s.objs := rfl
@[simp] theorem State.putRec_fns (s : State) (w : Nat) (r : ErrRec) : (s.putRec w r).fns = s.fns := rfl
@[simp] theorem State.putRec_mem (s : State) (w : Nat) (r : ErrRec) : (s.putRec w r).mem = s.mem := rfl
@[simp] theorem State.putRec_sync (s : State) (w : Nat) (r : ErrRec) : (s.putRec w r).sync = s.sync := rfl
@[simp] theorem State.putRec_red (s : State) (w : Nat) (r : ErrRec) : (s.putRec w r).red = s.red := rfl
@[simp] theorem State.putRec_fab (s : State) (w : Nat) (r : ErrRec) : (s.putRec w r).fab = s.fab := rfl
@[simp] theorem State.putRec_coh (s : State) (w : Nat) (r : ErrRec) : (s.putRec w r).coh = s.coh := rfl
@[simp] theorem State.putRec_cmb (s : State) (w : Nat) (r : ErrRec) : (s.putRec w r).cmb = s.cmb := rfl
@[simp] theorem State.putRec_trust (s : State) (w : Nat) (r : ErrRec) : (s.putRec w r).trust = s.trust := rfl
@[simp] theorem State.putRec_ccip (s : State) (w : Nat) (r : ErrRec) : (s.putRec w r).ccip = s.ccip := rfl
@[simp] theorem State.putRec_lc (s : State) (w : Nat) (r : ErrRec) : (s.putRec w r).lc = s.lc := rfl
@[simp] theorem State.putRec_dbg (s : State) (w : Nat) (r : ErrRec) : (s.putRec w r).dbg = s.dbg := rfl
@[simp] theorem State.putRec_bist (s : State) (w : Nat) (r : ErrRec) : (s.putRec w r).bist = s.bist := rfl
@[simp] theorem State.putRec_out (s : State) (w : Nat) (r : ErrRec) : (s.putRec w r).out = s.out := rfl
@[simp] theorem State.putRec_egress (s : State) (w : Nat) (r : ErrRec) : (s.putRec w r).egress = s.egress := rfl
@[simp] theorem State.putRec_draws (s : State) (w : Nat) (r : ErrRec) : (s.putRec w r).draws = s.draws := rfl
@[simp] theorem State.putRec_pending (s : State) (w : Nat) (r : ErrRec) : (s.putRec w r).pending = s.pending := rfl
@[simp] theorem State.putRec_reg (s : State) (w : Nat) (r : ErrRec) (b : Nat) : (s.putRec w r).reg b = s.reg b := rfl
@[simp] theorem State.putRec_rd (s : State) (w : Nat) (r : ErrRec) (pg' : Page) (g : Field) (j : Nat) : (s.putRec w r).rd pg' g j = s.rd pg' g j := rfl

@[simp] theorem State.setQueue_build (s : State) (q : Nat) (x : Queue) : (s.setQueue q x).build = s.build := rfl
@[simp] theorem State.setQueue_pins (s : State) (q : Nat) (x : Queue) : (s.setQueue q x).pins = s.pins := rfl
@[simp] theorem State.setQueue_outs (s : State) (q : Nat) (x : Queue) : (s.setQueue q x).outs = s.outs := rfl
@[simp] theorem State.setQueue_regs (s : State) (q : Nat) (x : Queue) : (s.setQueue q x).regs = s.regs := rfl
@[simp] theorem State.setQueue_latches (s : State) (q : Nat) (x : Queue) : (s.setQueue q x).latches = s.latches := rfl
@[simp] theorem State.setQueue_boot (s : State) (q : Nat) (x : Queue) : (s.setQueue q x).boot = s.boot := rfl
@[simp] theorem State.setQueue_pkg (s : State) (q : Nat) (x : Queue) : (s.setQueue q x).pkg = s.pkg := rfl
@[simp] theorem State.setQueue_power (s : State) (q : Nat) (x : Queue) : (s.setQueue q x).power = s.power := rfl
@[simp] theorem State.setQueue_time (s : State) (q : Nat) (x : Queue) : (s.setQueue q x).time = s.time := rfl
@[simp] theorem State.setQueue_links (s : State) (q : Nat) (x : Queue) : (s.setQueue q x).links = s.links := rfl
@[simp] theorem State.setQueue_gait (s : State) (q : Nat) (x : Queue) : (s.setQueue q x).gait = s.gait := rfl
@[simp] theorem State.setQueue_faults (s : State) (q : Nat) (x : Queue) : (s.setQueue q x).faults = s.faults := rfl
@[simp] theorem State.setQueue_host (s : State) (q : Nat) (x : Queue) : (s.setQueue q x).host = s.host := rfl
@[simp] theorem State.setQueue_objs (s : State) (q : Nat) (x : Queue) : (s.setQueue q x).objs = s.objs := rfl
@[simp] theorem State.setQueue_fns (s : State) (q : Nat) (x : Queue) : (s.setQueue q x).fns = s.fns := rfl
@[simp] theorem State.setQueue_mem (s : State) (q : Nat) (x : Queue) : (s.setQueue q x).mem = s.mem := rfl
@[simp] theorem State.setQueue_sync (s : State) (q : Nat) (x : Queue) : (s.setQueue q x).sync = s.sync := rfl
@[simp] theorem State.setQueue_red (s : State) (q : Nat) (x : Queue) : (s.setQueue q x).red = s.red := rfl
@[simp] theorem State.setQueue_fab (s : State) (q : Nat) (x : Queue) : (s.setQueue q x).fab = s.fab := rfl
@[simp] theorem State.setQueue_coh (s : State) (q : Nat) (x : Queue) : (s.setQueue q x).coh = s.coh := rfl
@[simp] theorem State.setQueue_cmb (s : State) (q : Nat) (x : Queue) : (s.setQueue q x).cmb = s.cmb := rfl
@[simp] theorem State.setQueue_trust (s : State) (q : Nat) (x : Queue) : (s.setQueue q x).trust = s.trust := rfl
@[simp] theorem State.setQueue_ccip (s : State) (q : Nat) (x : Queue) : (s.setQueue q x).ccip = s.ccip := rfl
@[simp] theorem State.setQueue_lc (s : State) (q : Nat) (x : Queue) : (s.setQueue q x).lc = s.lc := rfl
@[simp] theorem State.setQueue_dbg (s : State) (q : Nat) (x : Queue) : (s.setQueue q x).dbg = s.dbg := rfl
@[simp] theorem State.setQueue_bist (s : State) (q : Nat) (x : Queue) : (s.setQueue q x).bist = s.bist := rfl
@[simp] theorem State.setQueue_out (s : State) (q : Nat) (x : Queue) : (s.setQueue q x).out = s.out := rfl
@[simp] theorem State.setQueue_egress (s : State) (q : Nat) (x : Queue) : (s.setQueue q x).egress = s.egress := rfl
@[simp] theorem State.setQueue_draws (s : State) (q : Nat) (x : Queue) : (s.setQueue q x).draws = s.draws := rfl
@[simp] theorem State.setQueue_pending (s : State) (q : Nat) (x : Queue) : (s.setQueue q x).pending = s.pending := rfl
@[simp] theorem State.setQueue_reg (s : State) (q : Nat) (x : Queue) (b : Nat) : (s.setQueue q x).reg b = s.reg b := rfl
@[simp] theorem State.setQueue_rd (s : State) (q : Nat) (x : Queue) (pg' : Page) (g : Field) (j : Nat) : (s.setQueue q x).rd pg' g j = s.rd pg' g j := rfl

@[simp] theorem State.setPkt_build (s : State) (p : Nat) (x : Pkt) : (s.setPkt p x).build = s.build := rfl
@[simp] theorem State.setPkt_pins (s : State) (p : Nat) (x : Pkt) : (s.setPkt p x).pins = s.pins := rfl
@[simp] theorem State.setPkt_outs (s : State) (p : Nat) (x : Pkt) : (s.setPkt p x).outs = s.outs := rfl
@[simp] theorem State.setPkt_regs (s : State) (p : Nat) (x : Pkt) : (s.setPkt p x).regs = s.regs := rfl
@[simp] theorem State.setPkt_latches (s : State) (p : Nat) (x : Pkt) : (s.setPkt p x).latches = s.latches := rfl
@[simp] theorem State.setPkt_boot (s : State) (p : Nat) (x : Pkt) : (s.setPkt p x).boot = s.boot := rfl
@[simp] theorem State.setPkt_pkg (s : State) (p : Nat) (x : Pkt) : (s.setPkt p x).pkg = s.pkg := rfl
@[simp] theorem State.setPkt_power (s : State) (p : Nat) (x : Pkt) : (s.setPkt p x).power = s.power := rfl
@[simp] theorem State.setPkt_time (s : State) (p : Nat) (x : Pkt) : (s.setPkt p x).time = s.time := rfl
@[simp] theorem State.setPkt_links (s : State) (p : Nat) (x : Pkt) : (s.setPkt p x).links = s.links := rfl
@[simp] theorem State.setPkt_gait (s : State) (p : Nat) (x : Pkt) : (s.setPkt p x).gait = s.gait := rfl
@[simp] theorem State.setPkt_faults (s : State) (p : Nat) (x : Pkt) : (s.setPkt p x).faults = s.faults := rfl
@[simp] theorem State.setPkt_host (s : State) (p : Nat) (x : Pkt) : (s.setPkt p x).host = s.host := rfl
@[simp] theorem State.setPkt_objs (s : State) (p : Nat) (x : Pkt) : (s.setPkt p x).objs = s.objs := rfl
@[simp] theorem State.setPkt_fns (s : State) (p : Nat) (x : Pkt) : (s.setPkt p x).fns = s.fns := rfl
@[simp] theorem State.setPkt_mem (s : State) (p : Nat) (x : Pkt) : (s.setPkt p x).mem = s.mem := rfl
@[simp] theorem State.setPkt_sync (s : State) (p : Nat) (x : Pkt) : (s.setPkt p x).sync = s.sync := rfl
@[simp] theorem State.setPkt_red (s : State) (p : Nat) (x : Pkt) : (s.setPkt p x).red = s.red := rfl
@[simp] theorem State.setPkt_fab (s : State) (p : Nat) (x : Pkt) : (s.setPkt p x).fab = s.fab := rfl
@[simp] theorem State.setPkt_coh (s : State) (p : Nat) (x : Pkt) : (s.setPkt p x).coh = s.coh := rfl
@[simp] theorem State.setPkt_cmb (s : State) (p : Nat) (x : Pkt) : (s.setPkt p x).cmb = s.cmb := rfl
@[simp] theorem State.setPkt_trust (s : State) (p : Nat) (x : Pkt) : (s.setPkt p x).trust = s.trust := rfl
@[simp] theorem State.setPkt_ccip (s : State) (p : Nat) (x : Pkt) : (s.setPkt p x).ccip = s.ccip := rfl
@[simp] theorem State.setPkt_lc (s : State) (p : Nat) (x : Pkt) : (s.setPkt p x).lc = s.lc := rfl
@[simp] theorem State.setPkt_dbg (s : State) (p : Nat) (x : Pkt) : (s.setPkt p x).dbg = s.dbg := rfl
@[simp] theorem State.setPkt_bist (s : State) (p : Nat) (x : Pkt) : (s.setPkt p x).bist = s.bist := rfl
@[simp] theorem State.setPkt_out (s : State) (p : Nat) (x : Pkt) : (s.setPkt p x).out = s.out := rfl
@[simp] theorem State.setPkt_egress (s : State) (p : Nat) (x : Pkt) : (s.setPkt p x).egress = s.egress := rfl
@[simp] theorem State.setPkt_draws (s : State) (p : Nat) (x : Pkt) : (s.setPkt p x).draws = s.draws := rfl
@[simp] theorem State.setPkt_pending (s : State) (p : Nat) (x : Pkt) : (s.setPkt p x).pending = s.pending := rfl
@[simp] theorem State.setPkt_reg (s : State) (p : Nat) (x : Pkt) (b : Nat) : (s.setPkt p x).reg b = s.reg b := rfl
@[simp] theorem State.setPkt_rd (s : State) (p : Nat) (x : Pkt) (pg' : Page) (g : Field) (j : Nat) : (s.setPkt p x).rd pg' g j = s.rd pg' g j := rfl

@[simp] theorem State.setSeq_build (s : State) (k : Nat) (x : Seq) : (s.setSeq k x).build = s.build := rfl
@[simp] theorem State.setSeq_pins (s : State) (k : Nat) (x : Seq) : (s.setSeq k x).pins = s.pins := rfl
@[simp] theorem State.setSeq_outs (s : State) (k : Nat) (x : Seq) : (s.setSeq k x).outs = s.outs := rfl
@[simp] theorem State.setSeq_regs (s : State) (k : Nat) (x : Seq) : (s.setSeq k x).regs = s.regs := rfl
@[simp] theorem State.setSeq_latches (s : State) (k : Nat) (x : Seq) : (s.setSeq k x).latches = s.latches := rfl
@[simp] theorem State.setSeq_boot (s : State) (k : Nat) (x : Seq) : (s.setSeq k x).boot = s.boot := rfl
@[simp] theorem State.setSeq_pkg (s : State) (k : Nat) (x : Seq) : (s.setSeq k x).pkg = s.pkg := rfl
@[simp] theorem State.setSeq_power (s : State) (k : Nat) (x : Seq) : (s.setSeq k x).power = s.power := rfl
@[simp] theorem State.setSeq_time (s : State) (k : Nat) (x : Seq) : (s.setSeq k x).time = s.time := rfl
@[simp] theorem State.setSeq_links (s : State) (k : Nat) (x : Seq) : (s.setSeq k x).links = s.links := rfl
@[simp] theorem State.setSeq_gait (s : State) (k : Nat) (x : Seq) : (s.setSeq k x).gait = s.gait := rfl
@[simp] theorem State.setSeq_faults (s : State) (k : Nat) (x : Seq) : (s.setSeq k x).faults = s.faults := rfl
@[simp] theorem State.setSeq_host (s : State) (k : Nat) (x : Seq) : (s.setSeq k x).host = s.host := rfl
@[simp] theorem State.setSeq_objs (s : State) (k : Nat) (x : Seq) : (s.setSeq k x).objs = s.objs := rfl
@[simp] theorem State.setSeq_fns (s : State) (k : Nat) (x : Seq) : (s.setSeq k x).fns = s.fns := rfl
@[simp] theorem State.setSeq_mem (s : State) (k : Nat) (x : Seq) : (s.setSeq k x).mem = s.mem := rfl
@[simp] theorem State.setSeq_sync (s : State) (k : Nat) (x : Seq) : (s.setSeq k x).sync = s.sync := rfl
@[simp] theorem State.setSeq_red (s : State) (k : Nat) (x : Seq) : (s.setSeq k x).red = s.red := rfl
@[simp] theorem State.setSeq_fab (s : State) (k : Nat) (x : Seq) : (s.setSeq k x).fab = s.fab := rfl
@[simp] theorem State.setSeq_coh (s : State) (k : Nat) (x : Seq) : (s.setSeq k x).coh = s.coh := rfl
@[simp] theorem State.setSeq_cmb (s : State) (k : Nat) (x : Seq) : (s.setSeq k x).cmb = s.cmb := rfl
@[simp] theorem State.setSeq_trust (s : State) (k : Nat) (x : Seq) : (s.setSeq k x).trust = s.trust := rfl
@[simp] theorem State.setSeq_ccip (s : State) (k : Nat) (x : Seq) : (s.setSeq k x).ccip = s.ccip := rfl
@[simp] theorem State.setSeq_lc (s : State) (k : Nat) (x : Seq) : (s.setSeq k x).lc = s.lc := rfl
@[simp] theorem State.setSeq_dbg (s : State) (k : Nat) (x : Seq) : (s.setSeq k x).dbg = s.dbg := rfl
@[simp] theorem State.setSeq_bist (s : State) (k : Nat) (x : Seq) : (s.setSeq k x).bist = s.bist := rfl
@[simp] theorem State.setSeq_out (s : State) (k : Nat) (x : Seq) : (s.setSeq k x).out = s.out := rfl
@[simp] theorem State.setSeq_egress (s : State) (k : Nat) (x : Seq) : (s.setSeq k x).egress = s.egress := rfl
@[simp] theorem State.setSeq_draws (s : State) (k : Nat) (x : Seq) : (s.setSeq k x).draws = s.draws := rfl
@[simp] theorem State.setSeq_pending (s : State) (k : Nat) (x : Seq) : (s.setSeq k x).pending = s.pending := rfl
@[simp] theorem State.setSeq_reg (s : State) (k : Nat) (x : Seq) (b : Nat) : (s.setSeq k x).reg b = s.reg b := rfl
@[simp] theorem State.setSeq_rd (s : State) (k : Nat) (x : Seq) (pg' : Page) (g : Field) (j : Nat) : (s.setSeq k x).rd pg' g j = s.rd pg' g j := rfl

@[simp] theorem State.setFn_build (s : State) (n : Nat) (f : Fn) : (s.setFn n f).build = s.build := rfl
@[simp] theorem State.setFn_pins (s : State) (n : Nat) (f : Fn) : (s.setFn n f).pins = s.pins := rfl
@[simp] theorem State.setFn_outs (s : State) (n : Nat) (f : Fn) : (s.setFn n f).outs = s.outs := rfl
@[simp] theorem State.setFn_regs (s : State) (n : Nat) (f : Fn) : (s.setFn n f).regs = s.regs := rfl
@[simp] theorem State.setFn_latches (s : State) (n : Nat) (f : Fn) : (s.setFn n f).latches = s.latches := rfl
@[simp] theorem State.setFn_boot (s : State) (n : Nat) (f : Fn) : (s.setFn n f).boot = s.boot := rfl
@[simp] theorem State.setFn_pkg (s : State) (n : Nat) (f : Fn) : (s.setFn n f).pkg = s.pkg := rfl
@[simp] theorem State.setFn_power (s : State) (n : Nat) (f : Fn) : (s.setFn n f).power = s.power := rfl
@[simp] theorem State.setFn_time (s : State) (n : Nat) (f : Fn) : (s.setFn n f).time = s.time := rfl
@[simp] theorem State.setFn_links (s : State) (n : Nat) (f : Fn) : (s.setFn n f).links = s.links := rfl
@[simp] theorem State.setFn_gait (s : State) (n : Nat) (f : Fn) : (s.setFn n f).gait = s.gait := rfl
@[simp] theorem State.setFn_faults (s : State) (n : Nat) (f : Fn) : (s.setFn n f).faults = s.faults := rfl
@[simp] theorem State.setFn_host (s : State) (n : Nat) (f : Fn) : (s.setFn n f).host = s.host := rfl
@[simp] theorem State.setFn_front (s : State) (n : Nat) (f : Fn) : (s.setFn n f).front = s.front := rfl
@[simp] theorem State.setFn_objs (s : State) (n : Nat) (f : Fn) : (s.setFn n f).objs = s.objs := rfl
@[simp] theorem State.setFn_mem (s : State) (n : Nat) (f : Fn) : (s.setFn n f).mem = s.mem := rfl
@[simp] theorem State.setFn_sync (s : State) (n : Nat) (f : Fn) : (s.setFn n f).sync = s.sync := rfl
@[simp] theorem State.setFn_red (s : State) (n : Nat) (f : Fn) : (s.setFn n f).red = s.red := rfl
@[simp] theorem State.setFn_fab (s : State) (n : Nat) (f : Fn) : (s.setFn n f).fab = s.fab := rfl
@[simp] theorem State.setFn_coh (s : State) (n : Nat) (f : Fn) : (s.setFn n f).coh = s.coh := rfl
@[simp] theorem State.setFn_cmb (s : State) (n : Nat) (f : Fn) : (s.setFn n f).cmb = s.cmb := rfl
@[simp] theorem State.setFn_trust (s : State) (n : Nat) (f : Fn) : (s.setFn n f).trust = s.trust := rfl
@[simp] theorem State.setFn_ccip (s : State) (n : Nat) (f : Fn) : (s.setFn n f).ccip = s.ccip := rfl
@[simp] theorem State.setFn_lc (s : State) (n : Nat) (f : Fn) : (s.setFn n f).lc = s.lc := rfl
@[simp] theorem State.setFn_dbg (s : State) (n : Nat) (f : Fn) : (s.setFn n f).dbg = s.dbg := rfl
@[simp] theorem State.setFn_bist (s : State) (n : Nat) (f : Fn) : (s.setFn n f).bist = s.bist := rfl
@[simp] theorem State.setFn_out (s : State) (n : Nat) (f : Fn) : (s.setFn n f).out = s.out := rfl
@[simp] theorem State.setFn_egress (s : State) (n : Nat) (f : Fn) : (s.setFn n f).egress = s.egress := rfl
@[simp] theorem State.setFn_draws (s : State) (n : Nat) (f : Fn) : (s.setFn n f).draws = s.draws := rfl
@[simp] theorem State.setFn_pending (s : State) (n : Nat) (f : Fn) : (s.setFn n f).pending = s.pending := rfl
@[simp] theorem State.setFn_reg (s : State) (n : Nat) (f : Fn) (b : Nat) : (s.setFn n f).reg b = s.reg b := rfl
@[simp] theorem State.setFn_rd (s : State) (n : Nat) (f : Fn) (pg' : Page) (g : Field) (j : Nat) : (s.setFn n f).rd pg' g j = s.rd pg' g j := rfl

@[simp] theorem State.setChan_build (s : State) (n : Nat) (c : Chan) : (s.setChan n c).build = s.build := rfl
@[simp] theorem State.setChan_pins (s : State) (n : Nat) (c : Chan) : (s.setChan n c).pins = s.pins := rfl
@[simp] theorem State.setChan_outs (s : State) (n : Nat) (c : Chan) : (s.setChan n c).outs = s.outs := rfl
@[simp] theorem State.setChan_regs (s : State) (n : Nat) (c : Chan) : (s.setChan n c).regs = s.regs := rfl
@[simp] theorem State.setChan_latches (s : State) (n : Nat) (c : Chan) : (s.setChan n c).latches = s.latches := rfl
@[simp] theorem State.setChan_boot (s : State) (n : Nat) (c : Chan) : (s.setChan n c).boot = s.boot := rfl
@[simp] theorem State.setChan_pkg (s : State) (n : Nat) (c : Chan) : (s.setChan n c).pkg = s.pkg := rfl
@[simp] theorem State.setChan_power (s : State) (n : Nat) (c : Chan) : (s.setChan n c).power = s.power := rfl
@[simp] theorem State.setChan_time (s : State) (n : Nat) (c : Chan) : (s.setChan n c).time = s.time := rfl
@[simp] theorem State.setChan_links (s : State) (n : Nat) (c : Chan) : (s.setChan n c).links = s.links := rfl
@[simp] theorem State.setChan_gait (s : State) (n : Nat) (c : Chan) : (s.setChan n c).gait = s.gait := rfl
@[simp] theorem State.setChan_faults (s : State) (n : Nat) (c : Chan) : (s.setChan n c).faults = s.faults := rfl
@[simp] theorem State.setChan_host (s : State) (n : Nat) (c : Chan) : (s.setChan n c).host = s.host := rfl
@[simp] theorem State.setChan_front (s : State) (n : Nat) (c : Chan) : (s.setChan n c).front = s.front := rfl
@[simp] theorem State.setChan_objs (s : State) (n : Nat) (c : Chan) : (s.setChan n c).objs = s.objs := rfl
@[simp] theorem State.setChan_fns (s : State) (n : Nat) (c : Chan) : (s.setChan n c).fns = s.fns := rfl
@[simp] theorem State.setChan_sync (s : State) (n : Nat) (c : Chan) : (s.setChan n c).sync = s.sync := rfl
@[simp] theorem State.setChan_red (s : State) (n : Nat) (c : Chan) : (s.setChan n c).red = s.red := rfl
@[simp] theorem State.setChan_fab (s : State) (n : Nat) (c : Chan) : (s.setChan n c).fab = s.fab := rfl
@[simp] theorem State.setChan_coh (s : State) (n : Nat) (c : Chan) : (s.setChan n c).coh = s.coh := rfl
@[simp] theorem State.setChan_cmb (s : State) (n : Nat) (c : Chan) : (s.setChan n c).cmb = s.cmb := rfl
@[simp] theorem State.setChan_trust (s : State) (n : Nat) (c : Chan) : (s.setChan n c).trust = s.trust := rfl
@[simp] theorem State.setChan_ccip (s : State) (n : Nat) (c : Chan) : (s.setChan n c).ccip = s.ccip := rfl
@[simp] theorem State.setChan_lc (s : State) (n : Nat) (c : Chan) : (s.setChan n c).lc = s.lc := rfl
@[simp] theorem State.setChan_dbg (s : State) (n : Nat) (c : Chan) : (s.setChan n c).dbg = s.dbg := rfl
@[simp] theorem State.setChan_bist (s : State) (n : Nat) (c : Chan) : (s.setChan n c).bist = s.bist := rfl
@[simp] theorem State.setChan_out (s : State) (n : Nat) (c : Chan) : (s.setChan n c).out = s.out := rfl
@[simp] theorem State.setChan_egress (s : State) (n : Nat) (c : Chan) : (s.setChan n c).egress = s.egress := rfl
@[simp] theorem State.setChan_draws (s : State) (n : Nat) (c : Chan) : (s.setChan n c).draws = s.draws := rfl
@[simp] theorem State.setChan_pending (s : State) (n : Nat) (c : Chan) : (s.setChan n c).pending = s.pending := rfl
@[simp] theorem State.setChan_reg (s : State) (n : Nat) (c : Chan) (b : Nat) : (s.setChan n c).reg b = s.reg b := rfl
@[simp] theorem State.setChan_rd (s : State) (n : Nat) (c : Chan) (pg' : Page) (g : Field) (j : Nat) : (s.setChan n c).rd pg' g j = s.rd pg' g j := rfl

@[simp] theorem State.setRat_build (s : State) (n : Nat) (e : RatEntry) : (s.setRat n e).build = s.build := rfl
@[simp] theorem State.setRat_pins (s : State) (n : Nat) (e : RatEntry) : (s.setRat n e).pins = s.pins := rfl
@[simp] theorem State.setRat_outs (s : State) (n : Nat) (e : RatEntry) : (s.setRat n e).outs = s.outs := rfl
@[simp] theorem State.setRat_regs (s : State) (n : Nat) (e : RatEntry) : (s.setRat n e).regs = s.regs := rfl
@[simp] theorem State.setRat_latches (s : State) (n : Nat) (e : RatEntry) : (s.setRat n e).latches = s.latches := rfl
@[simp] theorem State.setRat_boot (s : State) (n : Nat) (e : RatEntry) : (s.setRat n e).boot = s.boot := rfl
@[simp] theorem State.setRat_pkg (s : State) (n : Nat) (e : RatEntry) : (s.setRat n e).pkg = s.pkg := rfl
@[simp] theorem State.setRat_power (s : State) (n : Nat) (e : RatEntry) : (s.setRat n e).power = s.power := rfl
@[simp] theorem State.setRat_time (s : State) (n : Nat) (e : RatEntry) : (s.setRat n e).time = s.time := rfl
@[simp] theorem State.setRat_links (s : State) (n : Nat) (e : RatEntry) : (s.setRat n e).links = s.links := rfl
@[simp] theorem State.setRat_gait (s : State) (n : Nat) (e : RatEntry) : (s.setRat n e).gait = s.gait := rfl
@[simp] theorem State.setRat_faults (s : State) (n : Nat) (e : RatEntry) : (s.setRat n e).faults = s.faults := rfl
@[simp] theorem State.setRat_host (s : State) (n : Nat) (e : RatEntry) : (s.setRat n e).host = s.host := rfl
@[simp] theorem State.setRat_front (s : State) (n : Nat) (e : RatEntry) : (s.setRat n e).front = s.front := rfl
@[simp] theorem State.setRat_objs (s : State) (n : Nat) (e : RatEntry) : (s.setRat n e).objs = s.objs := rfl
@[simp] theorem State.setRat_fns (s : State) (n : Nat) (e : RatEntry) : (s.setRat n e).fns = s.fns := rfl
@[simp] theorem State.setRat_sync (s : State) (n : Nat) (e : RatEntry) : (s.setRat n e).sync = s.sync := rfl
@[simp] theorem State.setRat_red (s : State) (n : Nat) (e : RatEntry) : (s.setRat n e).red = s.red := rfl
@[simp] theorem State.setRat_fab (s : State) (n : Nat) (e : RatEntry) : (s.setRat n e).fab = s.fab := rfl
@[simp] theorem State.setRat_coh (s : State) (n : Nat) (e : RatEntry) : (s.setRat n e).coh = s.coh := rfl
@[simp] theorem State.setRat_cmb (s : State) (n : Nat) (e : RatEntry) : (s.setRat n e).cmb = s.cmb := rfl
@[simp] theorem State.setRat_trust (s : State) (n : Nat) (e : RatEntry) : (s.setRat n e).trust = s.trust := rfl
@[simp] theorem State.setRat_ccip (s : State) (n : Nat) (e : RatEntry) : (s.setRat n e).ccip = s.ccip := rfl
@[simp] theorem State.setRat_lc (s : State) (n : Nat) (e : RatEntry) : (s.setRat n e).lc = s.lc := rfl
@[simp] theorem State.setRat_dbg (s : State) (n : Nat) (e : RatEntry) : (s.setRat n e).dbg = s.dbg := rfl
@[simp] theorem State.setRat_bist (s : State) (n : Nat) (e : RatEntry) : (s.setRat n e).bist = s.bist := rfl
@[simp] theorem State.setRat_out (s : State) (n : Nat) (e : RatEntry) : (s.setRat n e).out = s.out := rfl
@[simp] theorem State.setRat_egress (s : State) (n : Nat) (e : RatEntry) : (s.setRat n e).egress = s.egress := rfl
@[simp] theorem State.setRat_draws (s : State) (n : Nat) (e : RatEntry) : (s.setRat n e).draws = s.draws := rfl
@[simp] theorem State.setRat_pending (s : State) (n : Nat) (e : RatEntry) : (s.setRat n e).pending = s.pending := rfl
@[simp] theorem State.setRat_reg (s : State) (n : Nat) (e : RatEntry) (b : Nat) : (s.setRat n e).reg b = s.reg b := rfl
@[simp] theorem State.setRat_rd (s : State) (n : Nat) (e : RatEntry) (pg' : Page) (g : Field) (j : Nat) : (s.setRat n e).rd pg' g j = s.rd pg' g j := rfl

@[simp] theorem State.putBytes_build (s : State) (off : Nat) (l : List Byte) : (s.putBytes off l).build = s.build := rfl
@[simp] theorem State.putBytes_pins (s : State) (off : Nat) (l : List Byte) : (s.putBytes off l).pins = s.pins := rfl
@[simp] theorem State.putBytes_outs (s : State) (off : Nat) (l : List Byte) : (s.putBytes off l).outs = s.outs := rfl
@[simp] theorem State.putBytes_regs (s : State) (off : Nat) (l : List Byte) : (s.putBytes off l).regs = s.regs := rfl
@[simp] theorem State.putBytes_latches (s : State) (off : Nat) (l : List Byte) : (s.putBytes off l).latches = s.latches := rfl
@[simp] theorem State.putBytes_boot (s : State) (off : Nat) (l : List Byte) : (s.putBytes off l).boot = s.boot := rfl
@[simp] theorem State.putBytes_pkg (s : State) (off : Nat) (l : List Byte) : (s.putBytes off l).pkg = s.pkg := rfl
@[simp] theorem State.putBytes_power (s : State) (off : Nat) (l : List Byte) : (s.putBytes off l).power = s.power := rfl
@[simp] theorem State.putBytes_time (s : State) (off : Nat) (l : List Byte) : (s.putBytes off l).time = s.time := rfl
@[simp] theorem State.putBytes_links (s : State) (off : Nat) (l : List Byte) : (s.putBytes off l).links = s.links := rfl
@[simp] theorem State.putBytes_gait (s : State) (off : Nat) (l : List Byte) : (s.putBytes off l).gait = s.gait := rfl
@[simp] theorem State.putBytes_faults (s : State) (off : Nat) (l : List Byte) : (s.putBytes off l).faults = s.faults := rfl
@[simp] theorem State.putBytes_host (s : State) (off : Nat) (l : List Byte) : (s.putBytes off l).host = s.host := rfl
@[simp] theorem State.putBytes_front (s : State) (off : Nat) (l : List Byte) : (s.putBytes off l).front = s.front := rfl
@[simp] theorem State.putBytes_objs (s : State) (off : Nat) (l : List Byte) : (s.putBytes off l).objs = s.objs := rfl
@[simp] theorem State.putBytes_fns (s : State) (off : Nat) (l : List Byte) : (s.putBytes off l).fns = s.fns := rfl
@[simp] theorem State.putBytes_sync (s : State) (off : Nat) (l : List Byte) : (s.putBytes off l).sync = s.sync := rfl
@[simp] theorem State.putBytes_red (s : State) (off : Nat) (l : List Byte) : (s.putBytes off l).red = s.red := rfl
@[simp] theorem State.putBytes_fab (s : State) (off : Nat) (l : List Byte) : (s.putBytes off l).fab = s.fab := rfl
@[simp] theorem State.putBytes_coh (s : State) (off : Nat) (l : List Byte) : (s.putBytes off l).coh = s.coh := rfl
@[simp] theorem State.putBytes_cmb (s : State) (off : Nat) (l : List Byte) : (s.putBytes off l).cmb = s.cmb := rfl
@[simp] theorem State.putBytes_trust (s : State) (off : Nat) (l : List Byte) : (s.putBytes off l).trust = s.trust := rfl
@[simp] theorem State.putBytes_ccip (s : State) (off : Nat) (l : List Byte) : (s.putBytes off l).ccip = s.ccip := rfl
@[simp] theorem State.putBytes_lc (s : State) (off : Nat) (l : List Byte) : (s.putBytes off l).lc = s.lc := rfl
@[simp] theorem State.putBytes_dbg (s : State) (off : Nat) (l : List Byte) : (s.putBytes off l).dbg = s.dbg := rfl
@[simp] theorem State.putBytes_bist (s : State) (off : Nat) (l : List Byte) : (s.putBytes off l).bist = s.bist := rfl
@[simp] theorem State.putBytes_out (s : State) (off : Nat) (l : List Byte) : (s.putBytes off l).out = s.out := rfl
@[simp] theorem State.putBytes_egress (s : State) (off : Nat) (l : List Byte) : (s.putBytes off l).egress = s.egress := rfl
@[simp] theorem State.putBytes_draws (s : State) (off : Nat) (l : List Byte) : (s.putBytes off l).draws = s.draws := rfl
@[simp] theorem State.putBytes_pending (s : State) (off : Nat) (l : List Byte) : (s.putBytes off l).pending = s.pending := rfl
@[simp] theorem State.putBytes_reg (s : State) (off : Nat) (l : List Byte) (b : Nat) : (s.putBytes off l).reg b = s.reg b := rfl
@[simp] theorem State.putBytes_rd (s : State) (off : Nat) (l : List Byte) (pg' : Page) (g : Field) (j : Nat) : (s.putBytes off l).rd pg' g j = s.rd pg' g j := rfl

@[simp] theorem State.setRoot_build (s : State) (n : Nat) (r : RedRoot) : (s.setRoot n r).build = s.build := rfl
@[simp] theorem State.setRoot_pins (s : State) (n : Nat) (r : RedRoot) : (s.setRoot n r).pins = s.pins := rfl
@[simp] theorem State.setRoot_outs (s : State) (n : Nat) (r : RedRoot) : (s.setRoot n r).outs = s.outs := rfl
@[simp] theorem State.setRoot_regs (s : State) (n : Nat) (r : RedRoot) : (s.setRoot n r).regs = s.regs := rfl
@[simp] theorem State.setRoot_latches (s : State) (n : Nat) (r : RedRoot) : (s.setRoot n r).latches = s.latches := rfl
@[simp] theorem State.setRoot_boot (s : State) (n : Nat) (r : RedRoot) : (s.setRoot n r).boot = s.boot := rfl
@[simp] theorem State.setRoot_pkg (s : State) (n : Nat) (r : RedRoot) : (s.setRoot n r).pkg = s.pkg := rfl
@[simp] theorem State.setRoot_power (s : State) (n : Nat) (r : RedRoot) : (s.setRoot n r).power = s.power := rfl
@[simp] theorem State.setRoot_time (s : State) (n : Nat) (r : RedRoot) : (s.setRoot n r).time = s.time := rfl
@[simp] theorem State.setRoot_links (s : State) (n : Nat) (r : RedRoot) : (s.setRoot n r).links = s.links := rfl
@[simp] theorem State.setRoot_gait (s : State) (n : Nat) (r : RedRoot) : (s.setRoot n r).gait = s.gait := rfl
@[simp] theorem State.setRoot_faults (s : State) (n : Nat) (r : RedRoot) : (s.setRoot n r).faults = s.faults := rfl
@[simp] theorem State.setRoot_host (s : State) (n : Nat) (r : RedRoot) : (s.setRoot n r).host = s.host := rfl
@[simp] theorem State.setRoot_front (s : State) (n : Nat) (r : RedRoot) : (s.setRoot n r).front = s.front := rfl
@[simp] theorem State.setRoot_objs (s : State) (n : Nat) (r : RedRoot) : (s.setRoot n r).objs = s.objs := rfl
@[simp] theorem State.setRoot_fns (s : State) (n : Nat) (r : RedRoot) : (s.setRoot n r).fns = s.fns := rfl
@[simp] theorem State.setRoot_mem (s : State) (n : Nat) (r : RedRoot) : (s.setRoot n r).mem = s.mem := rfl
@[simp] theorem State.setRoot_sync (s : State) (n : Nat) (r : RedRoot) : (s.setRoot n r).sync = s.sync := rfl
@[simp] theorem State.setRoot_fab (s : State) (n : Nat) (r : RedRoot) : (s.setRoot n r).fab = s.fab := rfl
@[simp] theorem State.setRoot_coh (s : State) (n : Nat) (r : RedRoot) : (s.setRoot n r).coh = s.coh := rfl
@[simp] theorem State.setRoot_cmb (s : State) (n : Nat) (r : RedRoot) : (s.setRoot n r).cmb = s.cmb := rfl
@[simp] theorem State.setRoot_trust (s : State) (n : Nat) (r : RedRoot) : (s.setRoot n r).trust = s.trust := rfl
@[simp] theorem State.setRoot_ccip (s : State) (n : Nat) (r : RedRoot) : (s.setRoot n r).ccip = s.ccip := rfl
@[simp] theorem State.setRoot_lc (s : State) (n : Nat) (r : RedRoot) : (s.setRoot n r).lc = s.lc := rfl
@[simp] theorem State.setRoot_dbg (s : State) (n : Nat) (r : RedRoot) : (s.setRoot n r).dbg = s.dbg := rfl
@[simp] theorem State.setRoot_bist (s : State) (n : Nat) (r : RedRoot) : (s.setRoot n r).bist = s.bist := rfl
@[simp] theorem State.setRoot_out (s : State) (n : Nat) (r : RedRoot) : (s.setRoot n r).out = s.out := rfl
@[simp] theorem State.setRoot_egress (s : State) (n : Nat) (r : RedRoot) : (s.setRoot n r).egress = s.egress := rfl
@[simp] theorem State.setRoot_draws (s : State) (n : Nat) (r : RedRoot) : (s.setRoot n r).draws = s.draws := rfl
@[simp] theorem State.setRoot_pending (s : State) (n : Nat) (r : RedRoot) : (s.setRoot n r).pending = s.pending := rfl
@[simp] theorem State.setRoot_reg (s : State) (n : Nat) (r : RedRoot) (b : Nat) : (s.setRoot n r).reg b = s.reg b := rfl
@[simp] theorem State.setRoot_rd (s : State) (n : Nat) (r : RedRoot) (pg' : Page) (g : Field) (j : Nat) : (s.setRoot n r).rd pg' g j = s.rd pg' g j := rfl

@[simp] theorem State.putEntry_build (s : State) (k : Nat) (e : CmbEntry) : (s.putEntry k e).build = s.build := rfl
@[simp] theorem State.putEntry_pins (s : State) (k : Nat) (e : CmbEntry) : (s.putEntry k e).pins = s.pins := rfl
@[simp] theorem State.putEntry_outs (s : State) (k : Nat) (e : CmbEntry) : (s.putEntry k e).outs = s.outs := rfl
@[simp] theorem State.putEntry_regs (s : State) (k : Nat) (e : CmbEntry) : (s.putEntry k e).regs = s.regs := rfl
@[simp] theorem State.putEntry_latches (s : State) (k : Nat) (e : CmbEntry) : (s.putEntry k e).latches = s.latches := rfl
@[simp] theorem State.putEntry_boot (s : State) (k : Nat) (e : CmbEntry) : (s.putEntry k e).boot = s.boot := rfl
@[simp] theorem State.putEntry_pkg (s : State) (k : Nat) (e : CmbEntry) : (s.putEntry k e).pkg = s.pkg := rfl
@[simp] theorem State.putEntry_power (s : State) (k : Nat) (e : CmbEntry) : (s.putEntry k e).power = s.power := rfl
@[simp] theorem State.putEntry_time (s : State) (k : Nat) (e : CmbEntry) : (s.putEntry k e).time = s.time := rfl
@[simp] theorem State.putEntry_links (s : State) (k : Nat) (e : CmbEntry) : (s.putEntry k e).links = s.links := rfl
@[simp] theorem State.putEntry_gait (s : State) (k : Nat) (e : CmbEntry) : (s.putEntry k e).gait = s.gait := rfl
@[simp] theorem State.putEntry_faults (s : State) (k : Nat) (e : CmbEntry) : (s.putEntry k e).faults = s.faults := rfl
@[simp] theorem State.putEntry_host (s : State) (k : Nat) (e : CmbEntry) : (s.putEntry k e).host = s.host := rfl
@[simp] theorem State.putEntry_front (s : State) (k : Nat) (e : CmbEntry) : (s.putEntry k e).front = s.front := rfl
@[simp] theorem State.putEntry_objs (s : State) (k : Nat) (e : CmbEntry) : (s.putEntry k e).objs = s.objs := rfl
@[simp] theorem State.putEntry_fns (s : State) (k : Nat) (e : CmbEntry) : (s.putEntry k e).fns = s.fns := rfl
@[simp] theorem State.putEntry_mem (s : State) (k : Nat) (e : CmbEntry) : (s.putEntry k e).mem = s.mem := rfl
@[simp] theorem State.putEntry_sync (s : State) (k : Nat) (e : CmbEntry) : (s.putEntry k e).sync = s.sync := rfl
@[simp] theorem State.putEntry_red (s : State) (k : Nat) (e : CmbEntry) : (s.putEntry k e).red = s.red := rfl
@[simp] theorem State.putEntry_fab (s : State) (k : Nat) (e : CmbEntry) : (s.putEntry k e).fab = s.fab := rfl
@[simp] theorem State.putEntry_coh (s : State) (k : Nat) (e : CmbEntry) : (s.putEntry k e).coh = s.coh := rfl
@[simp] theorem State.putEntry_trust (s : State) (k : Nat) (e : CmbEntry) : (s.putEntry k e).trust = s.trust := rfl
@[simp] theorem State.putEntry_ccip (s : State) (k : Nat) (e : CmbEntry) : (s.putEntry k e).ccip = s.ccip := rfl
@[simp] theorem State.putEntry_lc (s : State) (k : Nat) (e : CmbEntry) : (s.putEntry k e).lc = s.lc := rfl
@[simp] theorem State.putEntry_dbg (s : State) (k : Nat) (e : CmbEntry) : (s.putEntry k e).dbg = s.dbg := rfl
@[simp] theorem State.putEntry_bist (s : State) (k : Nat) (e : CmbEntry) : (s.putEntry k e).bist = s.bist := rfl
@[simp] theorem State.putEntry_out (s : State) (k : Nat) (e : CmbEntry) : (s.putEntry k e).out = s.out := rfl
@[simp] theorem State.putEntry_egress (s : State) (k : Nat) (e : CmbEntry) : (s.putEntry k e).egress = s.egress := rfl
@[simp] theorem State.putEntry_draws (s : State) (k : Nat) (e : CmbEntry) : (s.putEntry k e).draws = s.draws := rfl
@[simp] theorem State.putEntry_pending (s : State) (k : Nat) (e : CmbEntry) : (s.putEntry k e).pending = s.pending := rfl
@[simp] theorem State.putEntry_reg (s : State) (k : Nat) (e : CmbEntry) (b : Nat) : (s.putEntry k e).reg b = s.reg b := rfl
@[simp] theorem State.putEntry_rd (s : State) (k : Nat) (e : CmbEntry) (pg' : Page) (g : Field) (j : Nat) : (s.putEntry k e).rd pg' g j = s.rd pg' g j := rfl

@[simp] theorem State.setSlot_build (s : State) (n : Nat) (x : Slot) : (s.setSlot n x).build = s.build := rfl
@[simp] theorem State.setSlot_pins (s : State) (n : Nat) (x : Slot) : (s.setSlot n x).pins = s.pins := rfl
@[simp] theorem State.setSlot_outs (s : State) (n : Nat) (x : Slot) : (s.setSlot n x).outs = s.outs := rfl
@[simp] theorem State.setSlot_regs (s : State) (n : Nat) (x : Slot) : (s.setSlot n x).regs = s.regs := rfl
@[simp] theorem State.setSlot_latches (s : State) (n : Nat) (x : Slot) : (s.setSlot n x).latches = s.latches := rfl
@[simp] theorem State.setSlot_boot (s : State) (n : Nat) (x : Slot) : (s.setSlot n x).boot = s.boot := rfl
@[simp] theorem State.setSlot_pkg (s : State) (n : Nat) (x : Slot) : (s.setSlot n x).pkg = s.pkg := rfl
@[simp] theorem State.setSlot_power (s : State) (n : Nat) (x : Slot) : (s.setSlot n x).power = s.power := rfl
@[simp] theorem State.setSlot_time (s : State) (n : Nat) (x : Slot) : (s.setSlot n x).time = s.time := rfl
@[simp] theorem State.setSlot_links (s : State) (n : Nat) (x : Slot) : (s.setSlot n x).links = s.links := rfl
@[simp] theorem State.setSlot_gait (s : State) (n : Nat) (x : Slot) : (s.setSlot n x).gait = s.gait := rfl
@[simp] theorem State.setSlot_faults (s : State) (n : Nat) (x : Slot) : (s.setSlot n x).faults = s.faults := rfl
@[simp] theorem State.setSlot_host (s : State) (n : Nat) (x : Slot) : (s.setSlot n x).host = s.host := rfl
@[simp] theorem State.setSlot_front (s : State) (n : Nat) (x : Slot) : (s.setSlot n x).front = s.front := rfl
@[simp] theorem State.setSlot_objs (s : State) (n : Nat) (x : Slot) : (s.setSlot n x).objs = s.objs := rfl
@[simp] theorem State.setSlot_fns (s : State) (n : Nat) (x : Slot) : (s.setSlot n x).fns = s.fns := rfl
@[simp] theorem State.setSlot_mem (s : State) (n : Nat) (x : Slot) : (s.setSlot n x).mem = s.mem := rfl
@[simp] theorem State.setSlot_sync (s : State) (n : Nat) (x : Slot) : (s.setSlot n x).sync = s.sync := rfl
@[simp] theorem State.setSlot_red (s : State) (n : Nat) (x : Slot) : (s.setSlot n x).red = s.red := rfl
@[simp] theorem State.setSlot_fab (s : State) (n : Nat) (x : Slot) : (s.setSlot n x).fab = s.fab := rfl
@[simp] theorem State.setSlot_coh (s : State) (n : Nat) (x : Slot) : (s.setSlot n x).coh = s.coh := rfl
@[simp] theorem State.setSlot_cmb (s : State) (n : Nat) (x : Slot) : (s.setSlot n x).cmb = s.cmb := rfl
@[simp] theorem State.setSlot_ccip (s : State) (n : Nat) (x : Slot) : (s.setSlot n x).ccip = s.ccip := rfl
@[simp] theorem State.setSlot_lc (s : State) (n : Nat) (x : Slot) : (s.setSlot n x).lc = s.lc := rfl
@[simp] theorem State.setSlot_dbg (s : State) (n : Nat) (x : Slot) : (s.setSlot n x).dbg = s.dbg := rfl
@[simp] theorem State.setSlot_bist (s : State) (n : Nat) (x : Slot) : (s.setSlot n x).bist = s.bist := rfl
@[simp] theorem State.setSlot_out (s : State) (n : Nat) (x : Slot) : (s.setSlot n x).out = s.out := rfl
@[simp] theorem State.setSlot_egress (s : State) (n : Nat) (x : Slot) : (s.setSlot n x).egress = s.egress := rfl
@[simp] theorem State.setSlot_draws (s : State) (n : Nat) (x : Slot) : (s.setSlot n x).draws = s.draws := rfl
@[simp] theorem State.setSlot_pending (s : State) (n : Nat) (x : Slot) : (s.setSlot n x).pending = s.pending := rfl
@[simp] theorem State.setSlot_reg (s : State) (n : Nat) (x : Slot) (b : Nat) : (s.setSlot n x).reg b = s.reg b := rfl
@[simp] theorem State.setSlot_rd (s : State) (n : Nat) (x : Slot) (pg' : Page) (g : Field) (j : Nat) : (s.setSlot n x).rd pg' g j = s.rd pg' g j := rfl

@[simp] theorem State.setCcip_build (s : State) (n : Nat) (c : Ccip) : (s.setCcip n c).build = s.build := rfl
@[simp] theorem State.setCcip_pins (s : State) (n : Nat) (c : Ccip) : (s.setCcip n c).pins = s.pins := rfl
@[simp] theorem State.setCcip_outs (s : State) (n : Nat) (c : Ccip) : (s.setCcip n c).outs = s.outs := rfl
@[simp] theorem State.setCcip_regs (s : State) (n : Nat) (c : Ccip) : (s.setCcip n c).regs = s.regs := rfl
@[simp] theorem State.setCcip_latches (s : State) (n : Nat) (c : Ccip) : (s.setCcip n c).latches = s.latches := rfl
@[simp] theorem State.setCcip_boot (s : State) (n : Nat) (c : Ccip) : (s.setCcip n c).boot = s.boot := rfl
@[simp] theorem State.setCcip_pkg (s : State) (n : Nat) (c : Ccip) : (s.setCcip n c).pkg = s.pkg := rfl
@[simp] theorem State.setCcip_power (s : State) (n : Nat) (c : Ccip) : (s.setCcip n c).power = s.power := rfl
@[simp] theorem State.setCcip_time (s : State) (n : Nat) (c : Ccip) : (s.setCcip n c).time = s.time := rfl
@[simp] theorem State.setCcip_links (s : State) (n : Nat) (c : Ccip) : (s.setCcip n c).links = s.links := rfl
@[simp] theorem State.setCcip_gait (s : State) (n : Nat) (c : Ccip) : (s.setCcip n c).gait = s.gait := rfl
@[simp] theorem State.setCcip_faults (s : State) (n : Nat) (c : Ccip) : (s.setCcip n c).faults = s.faults := rfl
@[simp] theorem State.setCcip_host (s : State) (n : Nat) (c : Ccip) : (s.setCcip n c).host = s.host := rfl
@[simp] theorem State.setCcip_front (s : State) (n : Nat) (c : Ccip) : (s.setCcip n c).front = s.front := rfl
@[simp] theorem State.setCcip_objs (s : State) (n : Nat) (c : Ccip) : (s.setCcip n c).objs = s.objs := rfl
@[simp] theorem State.setCcip_fns (s : State) (n : Nat) (c : Ccip) : (s.setCcip n c).fns = s.fns := rfl
@[simp] theorem State.setCcip_mem (s : State) (n : Nat) (c : Ccip) : (s.setCcip n c).mem = s.mem := rfl
@[simp] theorem State.setCcip_sync (s : State) (n : Nat) (c : Ccip) : (s.setCcip n c).sync = s.sync := rfl
@[simp] theorem State.setCcip_red (s : State) (n : Nat) (c : Ccip) : (s.setCcip n c).red = s.red := rfl
@[simp] theorem State.setCcip_fab (s : State) (n : Nat) (c : Ccip) : (s.setCcip n c).fab = s.fab := rfl
@[simp] theorem State.setCcip_coh (s : State) (n : Nat) (c : Ccip) : (s.setCcip n c).coh = s.coh := rfl
@[simp] theorem State.setCcip_cmb (s : State) (n : Nat) (c : Ccip) : (s.setCcip n c).cmb = s.cmb := rfl
@[simp] theorem State.setCcip_trust (s : State) (n : Nat) (c : Ccip) : (s.setCcip n c).trust = s.trust := rfl
@[simp] theorem State.setCcip_lc (s : State) (n : Nat) (c : Ccip) : (s.setCcip n c).lc = s.lc := rfl
@[simp] theorem State.setCcip_dbg (s : State) (n : Nat) (c : Ccip) : (s.setCcip n c).dbg = s.dbg := rfl
@[simp] theorem State.setCcip_bist (s : State) (n : Nat) (c : Ccip) : (s.setCcip n c).bist = s.bist := rfl
@[simp] theorem State.setCcip_out (s : State) (n : Nat) (c : Ccip) : (s.setCcip n c).out = s.out := rfl
@[simp] theorem State.setCcip_egress (s : State) (n : Nat) (c : Ccip) : (s.setCcip n c).egress = s.egress := rfl
@[simp] theorem State.setCcip_draws (s : State) (n : Nat) (c : Ccip) : (s.setCcip n c).draws = s.draws := rfl
@[simp] theorem State.setCcip_pending (s : State) (n : Nat) (c : Ccip) : (s.setCcip n c).pending = s.pending := rfl
@[simp] theorem State.setCcip_reg (s : State) (n : Nat) (c : Ccip) (b : Nat) : (s.setCcip n c).reg b = s.reg b := rfl
@[simp] theorem State.setCcip_rd (s : State) (n : Nat) (c : Ccip) (pg' : Page) (g : Field) (j : Nat) : (s.setCcip n c).rd pg' g j = s.rd pg' g j := rfl

@[simp] theorem State.setFuses_build (s : State) (f : Fuses) : (s.setFuses f).build = s.build := rfl
@[simp] theorem State.setFuses_pins (s : State) (f : Fuses) : (s.setFuses f).pins = s.pins := rfl
@[simp] theorem State.setFuses_outs (s : State) (f : Fuses) : (s.setFuses f).outs = s.outs := rfl
@[simp] theorem State.setFuses_regs (s : State) (f : Fuses) : (s.setFuses f).regs = s.regs := rfl
@[simp] theorem State.setFuses_latches (s : State) (f : Fuses) : (s.setFuses f).latches = s.latches := rfl
@[simp] theorem State.setFuses_boot (s : State) (f : Fuses) : (s.setFuses f).boot = s.boot := rfl
@[simp] theorem State.setFuses_pkg (s : State) (f : Fuses) : (s.setFuses f).pkg = s.pkg := rfl
@[simp] theorem State.setFuses_power (s : State) (f : Fuses) : (s.setFuses f).power = s.power := rfl
@[simp] theorem State.setFuses_time (s : State) (f : Fuses) : (s.setFuses f).time = s.time := rfl
@[simp] theorem State.setFuses_links (s : State) (f : Fuses) : (s.setFuses f).links = s.links := rfl
@[simp] theorem State.setFuses_gait (s : State) (f : Fuses) : (s.setFuses f).gait = s.gait := rfl
@[simp] theorem State.setFuses_faults (s : State) (f : Fuses) : (s.setFuses f).faults = s.faults := rfl
@[simp] theorem State.setFuses_host (s : State) (f : Fuses) : (s.setFuses f).host = s.host := rfl
@[simp] theorem State.setFuses_front (s : State) (f : Fuses) : (s.setFuses f).front = s.front := rfl
@[simp] theorem State.setFuses_objs (s : State) (f : Fuses) : (s.setFuses f).objs = s.objs := rfl
@[simp] theorem State.setFuses_fns (s : State) (f : Fuses) : (s.setFuses f).fns = s.fns := rfl
@[simp] theorem State.setFuses_mem (s : State) (f : Fuses) : (s.setFuses f).mem = s.mem := rfl
@[simp] theorem State.setFuses_sync (s : State) (f : Fuses) : (s.setFuses f).sync = s.sync := rfl
@[simp] theorem State.setFuses_red (s : State) (f : Fuses) : (s.setFuses f).red = s.red := rfl
@[simp] theorem State.setFuses_fab (s : State) (f : Fuses) : (s.setFuses f).fab = s.fab := rfl
@[simp] theorem State.setFuses_coh (s : State) (f : Fuses) : (s.setFuses f).coh = s.coh := rfl
@[simp] theorem State.setFuses_cmb (s : State) (f : Fuses) : (s.setFuses f).cmb = s.cmb := rfl
@[simp] theorem State.setFuses_trust (s : State) (f : Fuses) : (s.setFuses f).trust = s.trust := rfl
@[simp] theorem State.setFuses_ccip (s : State) (f : Fuses) : (s.setFuses f).ccip = s.ccip := rfl
@[simp] theorem State.setFuses_dbg (s : State) (f : Fuses) : (s.setFuses f).dbg = s.dbg := rfl
@[simp] theorem State.setFuses_bist (s : State) (f : Fuses) : (s.setFuses f).bist = s.bist := rfl
@[simp] theorem State.setFuses_out (s : State) (f : Fuses) : (s.setFuses f).out = s.out := rfl
@[simp] theorem State.setFuses_egress (s : State) (f : Fuses) : (s.setFuses f).egress = s.egress := rfl
@[simp] theorem State.setFuses_draws (s : State) (f : Fuses) : (s.setFuses f).draws = s.draws := rfl
@[simp] theorem State.setFuses_pending (s : State) (f : Fuses) : (s.setFuses f).pending = s.pending := rfl
@[simp] theorem State.setFuses_reg (s : State) (f : Fuses) (b : Nat) : (s.setFuses f).reg b = s.reg b := rfl
@[simp] theorem State.setFuses_rd (s : State) (f : Fuses) (pg' : Page) (g : Field) (j : Nat) : (s.setFuses f).rd pg' g j = s.rd pg' g j := rfl

/-! ### Tables after a write -/

@[simp] theorem State.link_setLink (s : State) (n k : Nat) (l : Link) : (s.setLink n l).link k = if k = n then l else s.link k :=
  SMap.getD_put _ _ _ _ _
@[simp] theorem State.ptime_setPtime (s : State) (n k : Nat) (t : PortTime) : (s.setPtime n t).ptime k = if k = n then t else s.ptime k :=
  SMap.getD_put _ _ _ _ _
@[simp] theorem State.looseOf_setLoose (s : State) (n k : Nat) (l : List LooseItem) :
    (s.setLoose n l).looseOf k = if k = n then l else s.looseOf k := SMap.getD_put _ _ _ _ _
@[simp] theorem State.queue_setQueue (s : State) (n k : Nat) (x : Queue) : (s.setQueue n x).queue k = if k = n then x else s.queue k :=
  SMap.getD_put _ _ _ _ _
@[simp] theorem State.pkt_setPkt (s : State) (n k : Nat) (x : Pkt) : (s.setPkt n x).pkt k = if k = n then some x else s.pkt k :=
  SMap.find?_set _ _ _ _
@[simp] theorem State.seq_setSeq (s : State) (n k : Nat) (x : Seq) : (s.setSeq n x).seq k = if k = n then x else s.seq k :=
  SMap.getD_put _ _ _ _ _
@[simp] theorem State.fnOf_setFn (s : State) (n k : Nat) (f : Fn) : (s.setFn n f).fnOf k = if k = n then f else s.fnOf k :=
  SMap.getD_put _ _ _ _ _
@[simp] theorem State.chan_setChan (s : State) (n k : Nat) (c : Chan) : (s.setChan n c).chan k = if k = n then c else s.chan k :=
  SMap.getD_put _ _ _ _ _
@[simp] theorem State.ratAt_setRat (s : State) (n k : Nat) (e : RatEntry) : (s.setRat n e).ratAt k = if k = n then e else s.ratAt k :=
  SMap.getD_put _ _ _ _ _
@[simp] theorem State.root_setRoot (s : State) (n k : Nat) (r : RedRoot) : (s.setRoot n r).root k = if k = n then r else s.root k :=
  SMap.getD_put _ _ _ _ _
@[simp] theorem State.slot_setSlot (s : State) (n k : Nat) (x : Slot) : (s.setSlot n x).slot k = if k = n then x else s.slot k :=
  SMap.getD_put _ _ _ _ _
@[simp] theorem State.ccipAt_setCcip (s : State) (n k : Nat) (c : Ccip) : (s.setCcip n c).ccipAt k = if k = n then c else s.ccipAt k :=
  SMap.getD_put _ _ _ _ _

/-! ### Registers after a write -/

@[simp] theorem State.reg_setReg (s : State) (a b : Nat) (v : W32) : (s.setReg a v).reg b = if b = a then v else s.reg b := by
  unfold State.reg State.setReg
  by_cases h : b = a
  · subst h; simp
  · unfold SMap.getD
    dsimp only
    rw [SMap.find?_put, if_neg h, if_neg h]

/-- The bits of a register that a write of a field leaves, and the bits that it sets. -/
theorem withField_toNat (v : W32) (lo w x : Nat) (h : lo + w ≤ 32) :
    (withField v lo w x).toNat = v.toNat / 2 ^ (lo + w) * 2 ^ (lo + w) + x % 2 ^ w * 2 ^ lo + v.toNat % 2 ^ lo := by
  have hv : v.toNat < 2 ^ 32 := v.isLt
  have hA : 0 < 2 ^ lo := Nat.two_pow_pos lo
  have hB : 0 < 2 ^ w := Nat.two_pow_pos w
  have hy : x % 2 ^ w < 2 ^ w := Nat.mod_lt _ hB
  have hl : v.toNat % 2 ^ lo < 2 ^ lo := Nat.mod_lt _ hA
  have e1 := Nat.div_add_mod v.toNat (2 ^ lo)
  have e2 := Nat.div_add_mod (v.toNat / 2 ^ lo) (2 ^ w)
  rw [Nat.div_div_eq_div_mul, ← Nat.pow_add] at e2
  have hC : 2 ^ (lo + w) * 2 ^ (32 - (lo + w)) = 2 ^ 32 := by rw [← Nat.pow_add]; congr 1; omega
  have hq : v.toNat / 2 ^ (lo + w) < 2 ^ (32 - (lo + w)) := by
    rw [Nat.div_lt_iff_lt_mul (Nat.two_pow_pos _), Nat.mul_comm, hC]; exact hv
  unfold withField fieldOf
  generalize hf : v.toNat / 2 ^ lo % 2 ^ w = f at *
  generalize hQ : v.toNat / 2 ^ (lo + w) = Q at *
  generalize hL : v.toNat % 2 ^ lo = L at *
  generalize x % 2 ^ w = y at *
  have hp : 2 ^ (lo + w) = 2 ^ lo * 2 ^ w := Nat.pow_add 2 lo w
  have ev : v.toNat = Q * 2 ^ (lo + w) + f * 2 ^ lo + L := by
    rw [← e1, ← e2, hp]; ring
  have en : v.toNat - f * 2 ^ lo + y * 2 ^ lo = Q * 2 ^ (lo + w) + y * 2 ^ lo + L := by
    rw [ev]; omega
  rw [BitVec.toNat_ofNat, en]
  apply Nat.mod_eq_of_lt
  have h1 : (Q + 1) * 2 ^ (lo + w) ≤ 2 ^ 32 := by
    rw [← hC, Nat.mul_comm]; exact Nat.mul_le_mul_left _ hq
  have h2 : (y + 1) * 2 ^ lo ≤ 2 ^ (lo + w) := by rw [hp, Nat.mul_comm]; exact Nat.mul_le_mul_left _ hy
  have h3 : (Q + 1) * 2 ^ (lo + w) = Q * 2 ^ (lo + w) + 2 ^ (lo + w) := by ring
  have h4 : (y + 1) * 2 ^ lo = y * 2 ^ lo + 2 ^ lo := by ring
  omega

theorem fieldOf_withField (v : W32) (lo w x : Nat) (h : lo + w ≤ 32) : fieldOf (withField v lo w x) lo w = x % 2 ^ w := by
  unfold fieldOf
  rw [withField_toNat v lo w x h, Nat.pow_add]
  have hA : 0 < 2 ^ lo := Nat.two_pow_pos lo
  have e : v.toNat / (2 ^ lo * 2 ^ w) * (2 ^ lo * 2 ^ w) + x % 2 ^ w * 2 ^ lo + v.toNat % 2 ^ lo
      = v.toNat % 2 ^ lo + 2 ^ lo * (x % 2 ^ w + 2 ^ w * (v.toNat / (2 ^ lo * 2 ^ w))) := by ring
  rw [e, Nat.add_mul_div_left _ _ hA, Nat.div_eq_of_lt (Nat.mod_lt _ hA), Nat.zero_add, Nat.add_mul_mod_self_left, Nat.mod_mod]

/-- A field read after a write of it; a field of another register. -/
theorem State.rd_wr_same (s : State) (p : Page) (f : Field) (v i : Nat) (h : f.lo + f.w ≤ 32) :
    (s.wr p f v i).rd p f i = v % 2 ^ f.w := by
  unfold State.rd State.wr
  rw [State.reg_setReg, if_pos rfl, fieldOf_withField _ _ _ _ h]

theorem State.rd_wr_other (s : State) (p q : Page) (f g : Field) (v i j : Nat) (h : g.at_ q j ≠ f.at_ p i) :
    (s.wr p f v i).rd q g j = s.rd q g j := by
  unfold State.rd State.wr
  rw [State.reg_setReg, if_neg h]

theorem fieldOf_withField_above (v : W32) (lo w x lo' w' : Nat) (h : lo + w ≤ 32) (h' : lo + w ≤ lo') :
    fieldOf (withField v lo w x) lo' w' = fieldOf v lo' w' := by
  unfold fieldOf
  rw [withField_toNat v lo w x h]
  obtain ⟨d, rfl⟩ := Nat.exists_eq_add_of_le h'
  have hA : 0 < 2 ^ lo := Nat.two_pow_pos lo
  have hy : x % 2 ^ w < 2 ^ w := Nat.mod_lt _ (Nat.two_pow_pos w)
  have hl : v.toNat % 2 ^ lo < 2 ^ lo := Nat.mod_lt _ hA
  have hr : x % 2 ^ w * 2 ^ lo + v.toNat % 2 ^ lo < 2 ^ (lo + w) := by
    have h2 : (x % 2 ^ w + 1) * 2 ^ lo ≤ 2 ^ (lo + w) := by rw [Nat.pow_add, Nat.mul_comm]; exact Nat.mul_le_mul_left _ hy
    have h4 : (x % 2 ^ w + 1) * 2 ^ lo = x % 2 ^ w * 2 ^ lo + 2 ^ lo := by ring
    omega
  rw [Nat.pow_add 2 (lo + w) d, ← Nat.div_div_eq_div_mul, ← Nat.div_div_eq_div_mul, Nat.add_assoc, Nat.add_comm,
    Nat.add_mul_div_right _ _ (Nat.two_pow_pos _), Nat.div_eq_of_lt hr, Nat.zero_add]

theorem fieldOf_withField_below (v : W32) (lo w x lo' w' : Nat) (h : lo + w ≤ 32) (h' : lo' + w' ≤ lo) :
    fieldOf (withField v lo w x) lo' w' = fieldOf v lo' w' := by
  unfold fieldOf
  rw [withField_toNat v lo w x h]
  obtain ⟨d, rfl⟩ := Nat.exists_eq_add_of_le h'
  have e : v.toNat / 2 ^ (lo' + w' + d + w) * 2 ^ (lo' + w' + d + w) + x % 2 ^ w * 2 ^ (lo' + w' + d) + v.toNat % 2 ^ (lo' + w' + d)
      = v.toNat % 2 ^ (lo' + w' + d) + 2 ^ lo' * (2 ^ w' * (2 ^ d * (v.toNat / 2 ^ (lo' + w' + d + w) * 2 ^ w + x % 2 ^ w))) := by
    simp only [Nat.pow_add]; ring
  have e0 : v.toNat = v.toNat % 2 ^ (lo' + w' + d) + 2 ^ lo' * (2 ^ w' * (2 ^ d * (v.toNat / 2 ^ (lo' + w' + d)))) := by
    conv => lhs; rw [← Nat.mod_add_div v.toNat (2 ^ (lo' + w' + d))]
    simp only [Nat.pow_add]; ring
  rw [e, Nat.add_mul_div_left _ _ (Nat.two_pow_pos _), Nat.add_mul_mod_self_left]
  conv => rhs; rw [e0]
  rw [Nat.add_mul_div_left _ _ (Nat.two_pow_pos _), Nat.add_mul_mod_self_left]

/-- Another field of the same register. -/
theorem State.rd_wr_field (s : State) (p : Page) (f g : Field) (v i j : Nat) (h : f.lo + f.w ≤ 32)
    (hd : f.lo + f.w ≤ g.lo ∨ g.lo + g.w ≤ f.lo) (e : g.at_ p j = f.at_ p i) : (s.wr p f v i).rd p g j = s.rd p g j := by
  unfold State.rd State.wr
  rw [e, State.reg_setReg, if_pos rfl]
  rcases hd with hd | hd
  · exact fieldOf_withField_above _ _ _ _ _ _ h hd
  · exact fieldOf_withField_below _ _ _ _ _ _ h hd

end Sys2Proof.Machine
end

