-- ==== Sys2Proof/Laws/Ops.lean ====
section
/-! SUPPORT. What the shared operations answer: guards, writes of command registers, messages, draws, and the report of an error. -/

namespace Sys2Proof.Machine

/-! ### Guards and command registers -/

@[simp] theorem guarded_true (s : State) (f : State → State) : guarded true s f = .next (f s) := rfl
@[simp] theorem guarded_false (s : State) (f : State → State) : guarded false s f = .next s := rfl

theorem guarded_of (ok : Bool) (s : State) (f : State → State) (h : ok = true) : guarded ok s f = .next (f s) := by rw [h]; rfl
theorem guarded_not (ok : Bool) (s : State) (f : State → State) (h : ok = false) : guarded ok s f = .next s := by rw [h]; rfl

/-- A command register of a present page in service, written by a party with the right to: the command acts. -/
theorem State.action_acts (s : State) (p : Party) (pg : Page) (f : State → State) (h0 : s.released = true) (h1 : s.present pg = true)
    (h2 : s.pageUp pg = true) (h3 : mayWrite p pg = true) : s.action p pg f = .next (f s) := by
  have h : (s.boot.phase == .inReset) = false := by
    unfold State.released at h0
    revert h0
    cases s.boot.phase <;> decide
  simp [State.action, h, h1, h2, h3]

/-- An absent page ignores it. -/
theorem State.action_absent (s : State) (p : Party) (pg : Page) (f : State → State) (h1 : s.present pg = false) :
    s.action p pg f = .next s := by
  simp [State.action, h1]

/-- A party without the right is a privilege fault. -/
theorem State.action_priv (s : State) (p : Party) (pg : Page) (f : State → State) (h0 : s.released = true) (h1 : s.present pg = true)
    (h2 : s.pageUp pg = true) (h3 : mayWrite p pg = false) : s.action p pg f = .next (s.err pg Err.PRIV) := by
  have h : (s.boot.phase == .inReset) = false := by
    unfold State.released at h0
    revert h0
    cases s.boot.phase <;> decide
  simp [State.action, h, h1, h2, h3]

/-! ### Messages and draws -/

theorem State.emit_out (s : State) (o : Out) (h : o.toHost = false) : s.emit o = { s with out := s.out ++ [o] } := by
  simp [State.emit, h]
theorem State.emit_linkUp (s : State) (o : Out) (h : s.pins.linkUp = true) : s.emit o = { s with out := s.out ++ [o] } := by
  simp [State.emit, h]
theorem State.emit_waits (s : State) (o : Out) (h : o.toHost = true) (hl : s.pins.linkUp = false) :
    s.emit o = { s with egress := s.egress ++ [o] } := by
  simp [State.emit, h, hl]

@[simp] theorem State.emit_reg (s : State) (o : Out) (a : Nat) : (s.emit o).reg a = s.reg a := by
  unfold State.emit; split <;> rfl
@[simp] theorem State.emit_rd (s : State) (o : Out) (p : Page) (f : Field) (i : Nat) : (s.emit o).rd p f i = s.rd p f i := by
  unfold State.rd; rw [State.emit_reg]
@[simp] theorem State.emit_regs (s : State) (o : Out) : (s.emit o).regs = s.regs := by unfold State.emit; split <;> rfl
@[simp] theorem State.emit_boot (s : State) (o : Out) : (s.emit o).boot = s.boot := by unfold State.emit; split <;> rfl
@[simp] theorem State.emit_build (s : State) (o : Out) : (s.emit o).build = s.build := by unfold State.emit; split <;> rfl
@[simp] theorem State.emit_pins (s : State) (o : Out) : (s.emit o).pins = s.pins := by unfold State.emit; split <;> rfl
@[simp] theorem State.emit_mem (s : State) (o : Out) : (s.emit o).mem = s.mem := by unfold State.emit; split <;> rfl
@[simp] theorem State.emit_front (s : State) (o : Out) : (s.emit o).front = s.front := by unfold State.emit; split <;> rfl
@[simp] theorem State.emit_trust (s : State) (o : Out) : (s.emit o).trust = s.trust := by unfold State.emit; split <;> rfl
@[simp] theorem State.emit_links (s : State) (o : Out) : (s.emit o).links = s.links := by unfold State.emit; split <;> rfl
@[simp] theorem State.emit_pending (s : State) (o : Out) : (s.emit o).pending = s.pending := by unfold State.emit; split <;> rfl

@[simp] theorem State.draw_fst (s : State) (n : Nat) : (s.draw n).1 = s.draws := rfl
@[simp] theorem State.draw_snd (s : State) (n : Nat) : (s.draw n).2 = { s with draws := s.draws + n } := rfl

/-! ### The report of an error -/

/-- Outside the ERR page a report changes one register: the page's ERR_STATUS. -/
theorem State.report_reg (s : State) (p : Page) (b sev : Nat) (i : ErrInfo) (a : Nat) (q : Page) (hq : Page.ofSlot (a / 0x1000) = some q)
    (hf : q.fam ≠ .err) : (s.report p b sev i).reg a =
      if a = p.base + hdrErrStatus then s.reg a ||| BitVec.ofNat 32 (2 ^ b) else s.reg a := by
  have h1 : (s.setErrBit p b).reg a = if a = p.base + hdrErrStatus then s.reg a ||| BitVec.ofNat 32 (2 ^ b) else s.reg a := by
    unfold State.setErrBit
    rw [State.reg_setReg]
    split
    · rename_i e; rw [e]
    · rfl
  unfold State.report
  dsimp only
  split
  · exact h1
  · rw [← h1]
    have fr := State.record_frame (M := 0x800C000200) (Covers.refl _) (Frame.refl _ (s.setErrBit p b))
      (r := (s.setErrBit p b).mkRec p b sev i)
    exact fr.same (.page q.fam) (by revert hf; cases q.fam <;> first | (intro _; rfl) | (intro h; exact absurd rfl h)) a q hq rfl

theorem State.err_reg (s : State) (p : Page) (b : Nat) (i : ErrInfo) (a : Nat) (q : Page) (hq : Page.ofSlot (a / 0x1000) = some q)
    (hf : q.fam ≠ .err) : (s.err p b i).reg a =
      if a = p.base + hdrErrStatus then s.reg a ||| BitVec.ofNat 32 (2 ^ b) else s.reg a :=
  State.report_reg s p b _ i a q hq hf

/-- A report changes registers, the record ring and what is sent, and nothing else. -/
theorem State.err_same (s : State) (p : Page) (b : Nat) (i : ErrInfo) (x : Part) (h1 : x ≠ .faults) (h2 : x ≠ .out) (h3 : x ≠ .egress)
    (h4 : ∀ f, x ≠ .page f) : x.same s (s.err p b i) := by
  have fr := State.err_frame (M := 0x1FFFFFEC000200) (by unfold Covers; decide) (Frame.refl _ s) (p := p) (b := b) (i := i)
    ((Covers.refl _ |>.to (by unfold Covers; decide : Covers 0x1FFFFFEC000200 0x1FFFFFE0000000)).page p.fam)
  refine fr.same x ?_
  cases x <;> first | rfl | exact absurd rfl h1 | exact absurd rfl h2 | exact absurd rfl h3 | exact absurd rfl (h4 _)

end Sys2Proof.Machine
end

