-- ==== Sys2Proof/Laws/Memory.lean ====
section
/-! SUPPORT. What reads and writes of local memory can do: a write that is not refused for poison is done. -/

namespace Sys2Proof.Machine

/-- A write that is no gait write is done unless it is refused for poison (R237, R239). -/
theorem State.writePhys_fst (s : State) (off : Nat) (d : List Byte) (p : Nat) (strb : Option Nat) :
    (s.writePhys off d p false strb).1 = !(s.prepWrite off d.length strb).writeRefused off d.length strb := by
  unfold State.writePhys
  dsimp only
  simp only [Bool.false_eq_true, if_false, Bool.false_and]
  split
  · rename_i h; simp [h]
  · rename_i h; simp [h]

/-- A prepared write that no poison refuses is done. -/
theorem State.writePhys_done (s : State) (off : Nat) (d : List Byte) (p : Nat) (strb : Option Nat)
    (w : (s.prepWrite off d.length strb).writeRefused off d.length strb = false) : (s.writePhys off d p false strb).1 = true := by
  rw [State.writePhys_fst, w]; rfl

/-- A refused write only prepares: what it leaves is the state in which it was refused. -/
theorem State.writePhys_refused (s : State) (off : Nat) (d : List Byte) (p : Nat) (strb : Option Nat)
    (w : (s.prepWrite off d.length strb).writeRefused off d.length strb = true) :
    s.writePhys off d p false strb = (false, s.prepWrite off d.length strb) := by
  unfold State.writePhys
  simp [w]

/-- A write within one 2 MiB piece is done unless it is refused for poison. -/
theorem State.writeRange_fst (s : State) (k off : Nat) (d : List Byte) (h : pieces off d.length = [(off, d.length)])
    (m : (s.prepWrite (s.mapTx k off) d.length none).mapTx k off = s.mapTx k off)
    (w : (s.prepWrite (s.mapTx k off) d.length none).writeRefused (s.mapTx k off) d.length = false) :
    (s.writeRange k off d 0 false).1 = true := by
  have e : (slice d 0 d.length) = d := by simp [slice]
  unfold State.writeRange
  rw [h]
  simp [w, m, e, State.writePhys_fst]

/-- A write through the rights check, within one 2 MiB piece, answers OK unless a right or poison refuses it. -/
theorem State.writeAs_ok (s : State) (m : Master) (off : Nat) (d : List Byte) (c : s.checkRange m 1 off d.length = none)
    (h : pieces off d.length = [(off, d.length)])
    (e : (s.prepWrite (s.mapTx 1 off) d.length none).mapTx 1 off = s.mapTx 1 off)
    (w : (s.prepWrite (s.mapTx 1 off) d.length none).writeRefused (s.mapTx 1 off) d.length = false) :
    (s.writeAs m off d).status = St.OK := by
  unfold State.writeAs
  simp [c, State.writeRange_fst s 1 off d h e w]

/-- `leBytes n` spells `n` bytes. -/
theorem leBytes_length (n v : Nat) : (leBytes n v).length = n := by
  induction n generalizing v with
  | zero => rfl
  | succ n ih => simp [leBytes, ih]

/-- An atomic through the rights check answers OK unless a right or poison refuses it. -/
theorem State.atomicAs_ok (s : State) (m : Master) (off n code a b : Nat) (c : s.checkRange m 2 off n = none)
    (w : (s.prepWrite (s.mapTx 2 off) n none).writeRefused (s.mapTx 2 off) n = false) :
    (s.atomicAs m off n code a b).status = St.OK := by
  have l := leBytes_length n
  unfold State.atomicAs
  simp [c, State.writePhys_fst, l, w]

end Sys2Proof.Machine
end

