-- ==== Sys2Proof/WellFormed.lean ====
section
/-! DEFINITION. Which commands are well formed: every operand within the range that its place in the spec gives it. The meanings are
total and do not ask; a sender of the block sends well-formed commands only. -/

namespace Sys2Proof

/-- A VF's number is 1 to 127 (R37, R353). -/
def Party.wf (p : Party) : Bool :=
  match p with
  | .vf n => decide (0 < n) && decide (n < 128)
  | .pf => true
  | .sec => true
  | .svc => true
  | .halter => true

/-- Widths of a MARK's fields (R69). -/
def MarkFields.wf (m : MarkFields) : Bool :=
  decide (m.state < 4) && decide (m.hops < 16) && decide (m.gmRank < 2 ^ 15) && decide (m.gmPrio < 256) && decide (m.errEst < 2 ^ 32)

/-- SEQ[15:0] of a MARK's header (R112). -/
def MarkHdr.wf (h : MarkHdr) : Bool := decide (h.seqLo < 65536)

/-- SHARE of a coherence frame (R112). -/
def CohSrc.wf (c : CohSrc) : Bool := decide (c.share < 1024)

/-- Widths of a CAP's fields (R129). -/
def CapFields.wf (c : CapFields) : Bool :=
  decide (c.linkVer < 16) && decide (c.nonce < 2 ^ 64) && decide (c.echo < 2 ^ 64) && decide (c.txdly < 65536) && decide (c.rxdly < 65536)

/-- A data frame carries 1 to 16 flits of 256 bytes (R111, R112). -/
def DataFrame.wf (f : DataFrame) : Bool :=
  decide (0 < f.hdr.flits) && decide (f.hdr.flits ≤ 16) && decide (f.data.length = 256 * f.hdr.flits)
    && decide (f.hdr.seqLo < 65536) && decide (f.hdr.srcRank < 2 ^ 15) && decide (f.hdr.dstRank < 2 ^ 15) && decide (f.hdr.share < 1024)

/-- Widths of a hitch record's fields (R217). -/
def HitchRec.wf (r : HitchRec) : Bool :=
  decide (r.hop < 256) && decide (r.hid < 1024) && decide (r.cause < 8) && decide (r.epoch < 65536) && decide (r.lost < 65536)
    && decide (r.origin < 2 ^ 15) && decide (r.event < 65536)

/-- A compute port request: at most 256 bytes, a 64-bit address (R482). -/
def DcpReq.wf (r : DcpReq) : Bool :=
  decide (r.port < 64) && decide (r.addr < 2 ^ 64) && decide (r.len8 < 32) && decide (r.ctx < 4096)

/-- A direct or sync request record (R183). -/
def RmtRec.wf (r : RmtRec) : Bool :=
  decide (r.port < 64) && decide (r.src < 2 ^ 15) && decide (r.ctx < 4096) && decide (r.tag < 65536) && decide (r.addr < 2 ^ 64) && decide (r.share < 1024)

/-- A gateway record (R191). -/
def GwRec.wf (r : GwRec) : Bool :=
  decide (r.port < 64) && decide (r.src < 2 ^ 15) && decide (r.tag < 65536) && decide (r.ctx < 4096) && decide (r.epoch < 256) && decide (r.sseq < 2 ^ 32) && decide (r.share < 1024) && decide (r.status < 256)

/-- A counter block has level 1 to 7; level 0 is a granule (R238, R261). -/
def ReadResult.wf (r : ReadResult) : Bool := decide (r.level < 8) && decide (r.copyBad ≤ 2)

/-- A granule of a page: 64 of 64 bytes (R234). -/
def WriteResult.wf (w : WriteResult) : Bool := decide (w.granule < 64)

/-- Three copies of each row; the widths of the rows (R409, R465). -/
def FuseCopy.wf (w : Nat) (c : FuseCopy) : Bool := decide (c.norm < 2 ^ w) && decide (c.marg < 2 ^ w)
def CopyRead.wf (c : CopyRead) : Bool := c.lcT.wf 18 && c.scrap.wf 1 && c.uds.wf 256
def Fuses.wf (f : Fuses) : Bool :=
  decide (f.copies.length = 3) && f.copies.all CopyRead.wf && decide (f.holdLock.length = 3) && decide (f.serial.length = 3)
    && decide (f.auth.length = 3) && f.repair.all fun e => decide (e.1 < 128) && decide (e.2 < 2 ^ 32)

/-- A failure names a defined cluster; a row and a bit of a 144-bit word (R465, R467). -/
def BistFail.wf (b : BistFail) : Bool :=
  decide (b.unit < 2 ^ 19) && decide (b.unit % 128 < 98) && decide (b.row < 2 ^ 20) && decide (b.bit < 144)

/-- A command whose operands are in range. -/
def Instr.wf (i : Instr) : Bool :=
  match i with
  | .powerOnReset f => f.wf
  | .blockReset => true
  | .blockResetDeassert _ inst _ => decide (inst < 8)
  | .bootRun fails => fails.all BistFail.wf
  | .layer0Identity _ _ => true
  | .firmwareLoad _ _ _ _ => true
  | .frRegionReset => true
  | .lrRegionReset => true
  | .clusterFault _ => true
  | .sliceRestartDone _ => true
  | .lockstepSvcMismatch => true
  | .svcPairRestartDone => true
  | .lockstepSecMismatch => true
  | .leadHeartbeat => true
  | .leadLost => true
  | .sibHeartbeat port _ => decide (port < 64)
  | .sibOutOfService port => decide (port < 64)
  | .reportReq port => decide (port < 64)
  | .reportData port _ => decide (port < 64)
  | .idleTimerExpiry _ => true
  | .clusterWake _ => true
  | .mrOffReq _ => true
  | .mrOffEntered => true
  | .mrWake => true
  | .mrSupplyGood => true
  | .mrSupplyLoss => true
  | .registerWrite p addr _ _ => p.wf && decide (addr < 0x200000)
  | .pairHalfRead p addr => p.wf && decide (addr < 0x200000)
  | .pairHalfWrite p addr _ => p.wf && decide (addr < 0x200000)
  | .lockWrite p slot _ => p.wf && decide (slot < 0x200)
  | .errInjectWrite p slot _ => p.wf && decide (slot < 0x200)
  | .verSwArchWrite p _ => p.wf
  | .haTimeoutWithdraw fn => decide (fn < 128)
  | .errRecRptrWrite p _ => p.wf
  | .tbCheckMismatch _ => true
  | .ppsInEdge sub => decide (sub < 2560)
  | .ppsLost => true
  | .ppsOutCrossing => true
  | .ppsOutFall => true
  | .mark port sub => decide (port < 64) && decide (sub < 2560)
  | .markReceive port m _ hdr sub => decide (port < 64) && m.wf && hdr.wf && decide (sub < 2560)
  | .gmSelfElect => true
  | .parentLost => true
  | .gmLost => true
  | .holdoverExpired => true
  | .steerDisable p => p.wf
  | .gaitLoad _ => true
  | .arm p => p.wf
  | .armClear p => p.wf
  | .go p => p.wf
  | .abandon p => p.wf
  | .swapCommitPoint => true
  | .swapDtReached => true
  | .swapLateBoundary => true
  | .wakeAhead port _ _ => decide (port < 64)
  | .strideStart port _ _ => decide (port < 64)
  | .dataFrameReceive port f _ => decide (port < 64) && f.wf
  | .footprintEnd port _ _ => decide (port < 64)
  | .planeDown plane => decide (plane < 64)
  | .throttleStart _ _ => true
  | .throttleEnd _ => true
  | .looseAgeDrop port => decide (port < 64)
  | .rekeyNow p port => p.wf && decide (port < 64)
  | .keyFrameLimit port => decide (port < 64)
  | .keyReq port epoch _ seqLo => decide (port < 64) && decide (epoch < 2 ^ 32) && decide (seqLo < 65536)
  | .keyReady port epoch _ _ seqLo => decide (port < 64) && decide (epoch < 2 ^ 32) && decide (seqLo < 65536)
  | .keyReqRepeat port => decide (port < 64)
  | .keyReadyRepeat port => decide (port < 64)
  | .keyStall port => decide (port < 64)
  | .ackSend port => decide (port < 64)
  | .ack port _ _ seqLo => decide (port < 64) && decide (seqLo < 65536)
  | .retry port _ _ _ seqLo => decide (port < 64) && decide (seqLo < 65536)
  | .retryRepeat port => decide (port < 64)
  | .ackTimeout port => decide (port < 64)
  | .replayCheck port => decide (port < 64)
  | .signalHandoff _ status _ => decide (status < 256)
  | .pdn port _ sport event _ seqLo => decide (port < 64) && decide (sport < 64) && decide (event < 65536) && decide (seqLo < 65536)
  | .pdnClear p port => p.wf && decide (port < 64)
  | .phyReadyRise port => decide (port < 64)
  | .phyReadyFall port => decide (port < 64)
  | .cap port c _ => decide (port < 64) && c.wf
  | .capSend port => decide (port < 64)
  | .trainTimeout port => decide (port < 64)
  | .trainRetryTimer port => decide (port < 64)
  | .dark port _ _ _ seqLo => decide (port < 64) && decide (seqLo < 65536)
  | .retrain p port => p.wf && decide (port < 64)
  | .goDark p port => p.wf && decide (port < 64)
  | .portDisable p port => p.wf && decide (port < 64)
  | .redDescWrite p => p.wf
  | .redDescRead p => p.wf
  | .redDescInvalidate p => p.wf
  | .resetRoot p => p.wf
  | .instanceDeadline _ _ => true
  | .resultWriteDone _ _ => true
  | .dcpLd r => r.wf
  | .dcpSt r => r.wf
  | .dcpAdd r _ => r.wf
  | .dcpSwap r _ => r.wf
  | .dcpCas r _ => r.wf
  | .dcpSmin r _ => r.wf
  | .dcpSmax r _ => r.wf
  | .dcpUmin r _ => r.wf
  | .dcpUmax r _ => r.wf
  | .dcpAnd r _ => r.wf
  | .dcpOr r _ => r.wf
  | .dcpXor r _ => r.wf
  | .dcpTokenPass r => r.wf
  | .dcpRdS r => r.wf
  | .dcpRdM r => r.wf
  | .dcpUpg r => r.wf
  | .dcpWb r => r.wf
  | .dcpEvs r => r.wf
  | .dcpUnsupported r op => r.wf && decide (op < 256)
  | .rmtLd r => r.wf
  | .rmtSt r => r.wf
  | .rmtAdd r _ => r.wf
  | .rmtSwap r _ => r.wf
  | .rmtCas r _ => r.wf
  | .rmtSmin r _ => r.wf
  | .rmtSmax r _ => r.wf
  | .rmtUmin r _ => r.wf
  | .rmtUmax r _ => r.wf
  | .rmtAnd r _ => r.wf
  | .rmtOr r _ => r.wf
  | .rmtXor r _ => r.wf
  | .rmtTokenPass r => r.wf
  | .rmtUnsupported r op => r.wf && decide (op < 256)
  | .rsp _ _ status _ _ => decide (status < 256)
  | .remoteTimeout _ => true
  | .tagQuarantineEnd _ => true
  | .planeSetChange => true
  | .drainComplete => true
  | .putData r => r.wf
  | .getReq r => r.wf
  | .getData r => r.wf
  | .amoReq r => r.wf
  | .amoRsp r => r.wf
  | .bulkAck r => r.wf
  | .nak r => r.wf
  | .bulkRetryTimeout _ _ => true
  | .streamRetire _ => true
  | .cohRdS src _ _ => src.wf
  | .cohRdM src _ _ => src.wf
  | .cohUpg _ _ _ => true
  | .cohWb src _ _ _ => src.wf
  | .cohEvs _ _ _ => true
  | .dataS _ _ status _ _ => decide (status < 256)
  | .dataM _ _ status _ _ => decide (status < 256)
  | .upgAck _ _ status => decide (status < 256)
  | .wbAck _ _ status => decide (status < 256)
  | .inv _ _ _ => true
  | .snpS _ _ _ => true
  | .snpI _ _ _ => true
  | .herdFlush _ _ => true
  | .invAck _ _ _ => true
  | .snpRsp _ _ _ _ _ => true
  | .flushDone _ _ => true
  | .cohTimeout _ _ => true
  | .snrInvAck tid => decide (tid < 65536)
  | .snrSnpRsp tid _ => decide (tid < 65536)
  | .snrFlushDone tid => decide (tid < 65536)
  | .cohEnable p => p.wf
  | .cohDisable p => p.wf
  | .cmbFanout _ status _ _ => decide (status < 256)
  | .cmbEntryAge _ => true
  | .hitchArrive port r => decide (port < 64) && r.wf
  | .hitchRelease port r => decide (port < 64) && r.wf
  | .hitchQuery port r => decide (port < 64) && r.wf
  | .hitchAnswer port r => decide (port < 64) && r.wf
  | .hitchStop port r => decide (port < 64) && r.wf
  | .leave port r => decide (port < 64) && r.wf
  | .hitchTimeout hid => decide (hid < 1024)
  | .hitchCmdWrite p => p.wf
  | .hitchCmdRead p => p.wf
  | .hitchClear p => p.wf
  | .memberSet p => p.wf
  | .commitDrainDone => true
  | .commitMaxWait => true
  | .commitQueryRepeat => true
  | .inDoubt => true
  | .stopDtReached => true
  | .stopDrainEnd => true
  | .memoryTrained ch _ => decide (ch < 16)
  | .memoryReadResponse ch r => decide (ch < 16) && r.wf
  | .memoryWriteDone ch w => decide (ch < 16) && w.wf
  | .ratCmdWrite p => p.wf
  | .ratCmdRead p => p.wf
  | .ratWriteComplete entry => decide (entry < 256)
  | .mchLinePagesWrite p _ => p.wf
  | .unwrapChunk => true
  | .reencStart ch => decide (ch < 16)
  | .reencComplete ch _ _ => decide (ch < 16)
  | .rebuild p ch => p.wf && decide (ch < 16)
  | .retire p ch => p.wf && decide (ch < 16)
  | .walk p ch => p.wf && decide (ch < 16)
  | .rebuildComplete ch => decide (ch < 16)
  | .coldWalkComplete ch => decide (ch < 16)
  | .scrubChunk ch => decide (ch < 16)
  | .patrolRead _ _ _ => true
  | .tokenRequest ch _ => decide (ch < 16)
  | .tokenRelease ch _ => decide (ch < 16)
  | .farStart p => p.wf
  | .farAutoStart => true
  | .farPageStep ch => decide (ch < 16)
  | .farPageStepDone ch page _ => decide (ch < 16) && decide (page < 128)
  | .farPause p ch => p.wf && decide (ch < 16)
  | .farResume p ch => p.wf && decide (ch < 16)
  | .farGrant p ch _ => p.wf && decide (ch < 16)
  | .doorbellWrite p page _ _ _ => p.wf && decide (page < 128)
  | .packetFetch _ => true
  | .fetchComplete _ _ _ => true
  | .packetStart _ => true
  | .packetComplete _ => true
  | .nop _ => true
  | .launch _ => true
  | .launchDispatch _ => true
  | .copy _ => true
  | .reduce _ => true
  | .signal _ => true
  | .wait _ => true
  | .take _ => true
  | .waitTimeout _ => true
  | .gaitBind _ => true
  | .persist _ => true
  | .taskMsg _ => true
  | .graphRun _ => true
  | .ctxCreate _ => true
  | .ctxDestroy _ => true
  | .queueCreate _ => true
  | .queueDestroy _ => true
  | .queueResume _ => true
  | .queueCancel _ => true
  | .setPrio _ => true
  | .queueHold _ => true
  | .queueRelease _ => true
  | .objCreate _ => true
  | .objDestroy _ => true
  | .fenceCreate _ => true
  | .fenceDestroy _ => true
  | .graphStore _ => true
  | .keyLoadAnchor _ => true
  | .dlkActivate _ => true
  | .erase _ => true
  | .confEnter _ => true
  | .keyLoadInvalidOp _ => true
  | .ratSet _ => true
  | .lcReq _ => true
  | .sigSet _ => true
  | .hitchJoin _ => true
  | .stepCfg _ => true
  | .stopAt _ => true
  | .resume _ => true
  | .resolve _ => true
  | .seal _ => true
  | .unwrap _ => true
  | .vfProv _ => true
  | .seqDone _ _ _ status _ => decide (status < 256)
  | .msgDone _ _ _ _ status => decide (status < 256)
  | .heartbeat _ _ _ _ => true
  | .hbLost _ => true
  | .kqEnable p fn _ => p.wf && decide (fn < 128)
  | .ringUnbind p ring => p.wf && decide (ring < 4096)
  | .snap p => p.wf
  | .ctxsObjKick p handle => p.wf && decide (handle < 262144)
  | .ctxsTdDone p => p.wf
  | .fnsRead p => p.wf
  | .fnsEvict p fence => p.wf && decide (fence < 65536)
  | .quiesce p fn => p.wf && decide (fn < 128)
  | .vfRelease p fn => p.wf && decide (fn < 128)
  | .vfQuiesced fn => decide (fn < 128)
  | .flr fn => decide (fn < 128)
  | .flrResetDone fn => decide (fn < 128)
  | .vfHaDone p => p.wf
  | .getVersion => true
  | .getCapabilities => true
  | .negotiateAlgorithms _ => true
  | .getDigests => true
  | .getCertificate _ _ _ => true
  | .challenge _ => true
  | .getMeasurements session op _ => decide (session < 2 ^ 32) && decide (op < 256)
  | .keyExchange _ _ => true
  | .finish session _ => decide (session < 2 ^ 32)
  | .getEncapsulatedRequest session => decide (session < 2 ^ 32)
  | .deliverEncapsulatedResponse session _ => decide (session < 2 ^ 32)
  | .endSession session => decide (session < 2 ^ 32)
  | .spdmHeartbeat session => decide (session < 2 ^ 32)
  | .heartbeatExpiry session => decide (session < 2 ^ 32)
  | .keyUpdate session op => decide (session < 2 ^ 32) && decide (op < 256)
  | .chunkSend session _ _ => decide (session < 2 ^ 32)
  | .chunkGet session _ => decide (session < 2 ^ 32)
  | .unsupportedRequest session _ => decide (session < 2 ^ 32)
  | .securedMsgAuthFail session => decide (session < 2 ^ 32)
  | .kemGet session => decide (session < 2 ^ 32)
  | .kemPut session _ => decide (session < 2 ^ 32)
  | .reportGet session _ => decide (session < 2 ^ 32)
  | .release session _ => decide (session < 2 ^ 32)
  | .slotQuery session => decide (session < 2 ^ 32)
  | .ideQuery session port _ => decide (session < 2 ^ 32) && decide (port < 64)
  | .keyProg session port _ _ _ sub _ _ => decide (session < 2 ^ 32) && decide (port < 64) && decide (sub < 2560)
  | .kSetGo session port _ _ _ sub => decide (session < 2 ^ 32) && decide (port < 64) && decide (sub < 2560)
  | .kSetStop session port _ _ _ sub => decide (session < 2 ^ 32) && decide (port < 64) && decide (sub < 2560)
  | .koAck status _ => decide (status < 256)
  | .getTdispVersion session fn => decide (session < 2 ^ 32) && decide (fn < 128)
  | .getTdispCapabilities session fn => decide (session < 2 ^ 32) && decide (fn < 128)
  | .lockInterfaceRequest session fn _ => decide (session < 2 ^ 32) && decide (fn < 128)
  | .getDeviceInterfaceReport session fn _ _ => decide (session < 2 ^ 32) && decide (fn < 128)
  | .getDeviceInterfaceState session fn => decide (session < 2 ^ 32) && decide (fn < 128)
  | .startInterfaceRequest session fn _ => decide (session < 2 ^ 32) && decide (fn < 128)
  | .stopInterfaceRequest session fn => decide (session < 2 ^ 32) && decide (fn < 128)
  | .saddleOperation _ => true
  | .endSessions p => p.wf
  | .keyHaDone p => p.wf
  | .tamper => true
  | .tamperClear => true
  | .ccipStart p page => p.wf && decide (page < 16)
  | .ccipAbort p page => p.wf && decide (page < 16)
  | .ccipJobDone page _ _ _ => decide (page < 16)
  | .ccipKeyTrng p page _ => p.wf && decide (page < 16)
  | .ccipKeyDerive p page _ _ => p.wf && decide (page < 16)
  | .ccipKeyErase p page => p.wf && decide (page < 16)
  | .holdupAck => true
  | .holdupTimeout => true
  | .commitPhaseDone r => r.wf
  | .lcsExport p => p.wf
  | .halterLine _ _ => true
  | .halterVer => true
  | .halterStat => true
  | .halterErr => true
  | .halterRd addr => decide (addr < 0x200000)
  | .halterWr addr _ => decide (addr < 0x200000)
  | .halterMrd _ _ => true
  | .halterMwr _ _ => true
  | .halterDevid => true
  | .halterLc => true
  | .halterRst => true
  | .halterDisable p => p.wf
  | .traceSync => true
  | .cntSnap p => p.wf
  | .cntClear p => p.wf
  | .triageRetire p => p.wf
  | .triageRebuild p => p.wf
  | .triageLeave p => p.wf
  | .watchdogExpiry _ => true
  | .watchdogGraceExpiry _ => true
  | .dcpStall port => decide (port < 64)
  | .crstNow p => p.wf
  | .crstHoldExpiry => true
  | .crstDeassert => true
  | .dcpIdleTimeout => true
  | .crstHeartbeatWaitEnd => true
  | .persistProbeExpiry => true
  | .suspectReplay p _ => p.wf
  | .suspectFail p _ => p.wf
  | .suspectDrop p _ => p.wf
  | .oosHoldExpiry => true
  | .instReset p => p.wf
  | .bistRun p => p.wf
  | .bistAbort p => p.wf
  | .bistRunDone fails _ => fails.all BistFail.wf
  | .burn p => p.wf
  | .holdLock p => p.wf
  | .hostCompletion _ status _ => decide (status < 256)
  | .hostReadTimeout _ => true
  | .hostLinkDown => true
  | .doeAccess _ _ _ => true
  | .scanModeEntry => true
  | .lsqProtocol _ _ _ _ => true
  | .registerRead p addr _ => p.wf && decide (addr < 0x200000)
  | .vfEnableChange _ _ => true
  | .hostLinkUp => true
  | .generationQuarantineEnd => true
  | .burnDone _ _ => true
  | .koAckTimeout => true
  | .unwrapAbandon entry => decide (entry < 256)

end Sys2Proof
end

