-- ==== Sys2Proof/Tests/Slice0.lean ====
section
/-! SUPPORT. Tests: states that the tests start from, a command for every check of well-formedness that the check refuses, worked values of the
spec, and for every statement states and operands that meet its hypotheses. -/

open Sys2Proof Sys2Proof.Machine

/-! ### States and operands -/

/-- A block at a given point of its boot. -/
def Demo.at (p : BootPhase) : State := { State.reset with boot := { State.reset.boot with phase := p } }

/-- A Mount block whose firmware runs. -/
def Demo.up : State := Demo.at .running

/-- One of four instances of a package, the lead. -/
def Demo.pack : State := { Demo.up with build := { Build.mount with sibCount := 3 } }

/-- A Mount block with the given power state. -/
def Demo.power (x : Power) : State := { Demo.up with power := x }

/-- Port `n` sees a ready PHY. -/
def Demo.phy (n : Nat) : State := Demo.up.wr (Page.lpt n) Reg.LPT_STATUS.PHY_READY 1

/-- Port `n` is UP. -/
def Demo.linkUp (n : Nat) : State := (Demo.phy n).setLstate n 3

/-- A mark of a neighbour that follows nobody. -/
def Demo.markFields : MarkFields :=
  { seq := 0, txPrev := 0, echoSeq := 0, echoRx := 0, echoTurn := 0, state := 0, hops := 15, gmRank := 0, gmPrio := 255, gmTerm := 0,
    errEst := 0, gaitDist := 15 }

/-- A candidate for grandmaster that has heard a neighbour. -/
def Demo.cand : State :=
  let s := (Demo.linkUp 0).wr Page.time Reg.TIME_GM_CFG.PRIO 1
  let l := [60000, 52000, 44000, 36000, 28000, 20000, 12000].map fun t => ({ m := Demo.markFields, auth := true, at_ := t } : PeerMark)
  let s := s.setPtime 0 { PortTime.empty with peer := l.head?, recent := l }
  { s with
    time := { s.time with loc := 60000 }
    trust := { s.trust with slots := [(9, { kind := 5, state := 2, gen := 1, payload := [] })] } }

/-- A frame with nothing in it. -/
def Demo.frame : DataFrame :=
  { hdr := { fver := 0, ftype := 0, flits := 0, last := true, sig := false, empty := true, late := false, cover := false, keyPh := 0,
             srcRank := 0, srcPost := false, stride := 0, coverPlane := 0, periodLo := 0, share := 0, lkind := 0, seqLo := 0, dstRank := 0 }
    data := [], poison := 0, sigCode := 0, sigRef := 0 }

/-- A port with a key change, an acknowledgement and a retry outstanding. -/
def Demo.busyLink : Link :=
  { Link.empty with replay := [(0, Demo.frame)], ackDue := true, retryWait := true, rekeyTx := true, rekeyRx := true }

/-- A transmit stride of hard class. -/
def Demo.stride : Stride :=
  { start := 0, dur := 2000, cls := 0, rx := false, carry := false, sig := false, guard_ := 0, frames := 1, fpf := 1, lastFlits := 1,
    slack := 0, desc := 0xFFF, srcKind := 0, src := 0, peer := 1, bad := false }

/-- A gait image with that stride. -/
def Demo.image : GaitImage :=
  { port := 0, period := 100000, guardDef := 1000, rank := 0, gaitId := 1, jobId := 0, cableRtt := 0, strides := [Demo.stride], spares := [] }

/-- A LOCKED block with an empty image loaded for port 0 and a swap time set. -/
def Demo.armable : State :=
  let s := (Demo.up.wr Page.time Reg.TIME_STATUS.STATE 2).wr Page.gait Reg.GAIT_SWAP_DT_LO.NS 1000000
  { s with gait := { s.gait with banks := [(0, { a := none, b := some { Demo.image with strides := [] } })] } }

/-- The image is active and the occurrence of its stride waits. -/
def Demo.running : State :=
  let s := (Demo.linkUp 0).wr Page.gait Reg.GAIT_PORTn_STATE.ACTIVE 1 0
  { s with gait := { s.gait with banks := [(0, { a := some Demo.image, b := none })], occs := [Occ.fresh 0 0 0 false] } }

/-- A Post block whose firmware runs. -/
def Demo.post : State := { Demo.up with build := Build.post, boot := { Demo.up.boot with post := true } }

/-- A Post block with a loose frame that has waited too long. -/
def Demo.postLoose : State :=
  { Demo.post with
    time := { Demo.post.time with loc := 200000 }
    gait := { Demo.post.gait with loose := [(0, [{ f := { Demo.frame with hdr := { Demo.frame.hdr with ftype := 1 } }, at_ := 0, fn := 0, shed := false, held := false }])] } }

/-- The descriptor window holds a CONVERT entry of one element. -/
def Demo.redDesc : State :=
  let p := Page.red 0
  ((Demo.up.wr p Reg.RED_DESC_WINw.DATA 0x15 0).wr p Reg.RED_DESC_WINw.DATA 0x1000 2).wr p Reg.RED_DESC_WINw.DATA 1 4

/-- A reduce instance, whose result write may be in progress. -/
def Demo.inst (w : Bool) : RedInst :=
  { index := 0, recs := [], got := [], count := 0, failures := 0, held := [], flags := 0, ended := .open_, writing := w,
    clusters := [], kib := 0 }

/-- The last root has that instance. -/
def Demo.withInst (w : Bool) : State :=
  { Demo.up with red := { Demo.up.red with
      roots := [(4094, { RedRoot.empty with insts := [Demo.inst w] })], desc := [(4094, [0, BitVec.ofNat 64 (2 ^ 48), 0, 0, 0, 0, 0, 0])] } }

/-- A combining entry of one requester. -/
def Demo.entry : CmbEntry := { home := 1, addr := 0, op := 3, len := 8, fetch := true, share := 0, port := 2, parts := [(1, 5, 7, 1)] }

/-- A Post block with that entry. -/
def Demo.withEntry : State :=
  { Demo.post with cmb := { Demo.post.cmb with entries := [(0, Demo.entry), (1, { Demo.entry with parts := [] })] } }

/-- A herd of two: this block, rank 0, in slot 0, and rank 8 in slot 1. -/
def Demo.herd : State :=
  let p := Page.coh
  let s := (((Demo.up.wr p Reg.COH_HERD_CFG.SIZE 2).wr p Reg.COH_MEMBERj.RANK_B 8 0).wr p Reg.COH_WINk_BASE.EN 1 0).wr p Reg.COH_WINk_SIZE.SIZE_MIB 1 0
  let s := s.wr p Reg.COH_STATUS.ACTIVE 1
  { s with
    build := { s.build with mchCount := 1 }
    mem := { s.mem with
      usable := 65536, ready := true
      rat := [(0, { w0 := BitVec.ofNat 64 (1 + 2 ^ 12), w1 := BitVec.ofNat 64 (2 ^ 24), w2 := BitVec.ofNat 64 (2 ^ 21 - 1), w3 := 0 })] }
    outs := { s.outs with crstN := true }
    trust := { s.trust with join := some { jobId := 1, rank := 0 } } }

/-- That herd with line 0 in a state. -/
def Demo.herdLine (d : DirLine) : State := { Demo.herd with coh := { Demo.herd.coh with dir := [(0, d)] } }

/-- A Mount block whose memory is open, with one translation entry of 2 MiB at offset 0 that lets every master read and write. -/
def Demo.mem : State :=
  let s := Demo.up
  { s with
    build := { s.build with mchCount := 1 }
    mem := { s.mem with
      usable := 65536, ready := true
      rat := [(0, { w0 := BitVec.ofNat 64 (1 + 2 ^ 12), w1 := BitVec.ofNat 64 (2 ^ 24), w2 := BitVec.ofNat 64 (2 ^ 21 - 1), w3 := 0 })] }
    outs := { s.outs with crstN := true }
    trust := { s.trust with join := some { jobId := 1, rank := 0 } } }

/-- A request of an integrator DMA. -/
def Demo.req (addr : Nat) : DcpReq :=
  { port := 63, addr := addr, len8 := 0, tag := 5, gen := 0, cls := 1, ctx := 0, attr := 0, wdata := List.replicate 16 1, wstrb := 255 }

/-- The master of that request, and of a remote one. -/
def Demo.dma : Master := { cls := 3, fn := 0, share := 0, rank := 0 }
def Demo.far : Master := { cls := 5, fn := 0, share := 1, rank := 8 }

/-- A record of a remote request. -/
def Demo.rmtRec (addr : Nat) : RmtRec :=
  { port := 0, src := 8, ctx := 0, tag := 1, addr := addr, len := 8, share := 1, sync := false, fetch := true, data := List.replicate 8 1, strb := 255,
    opnd0 := 0, opnd1 := 0 }

/-- An outstanding load of rank 8's memory. -/
def Demo.rmtReq : RmtReq :=
  { tag := 1, port := 0, dcpTag := 5, gen := 0, ctx := 0, fn := 0, share := 0, dst := 8, op := 1, fetch := false, ordered := false,
    sync := false, addr := 8 * 2 ^ 45, len := 8, data := [], opnd0 := 0, opnd1 := 0, sent := true, at_ := 0 }

/-- A record of a gateway stream from rank 8, context 0. -/
def Demo.gw (op : Nat) : GwRec :=
  { port := 0, src := 8, tag := 0, ctx := 0, epoch := 0, sseq := 0, addr := 0x1000, off := 0, len := 8, total := 8, share := 1, status := 0, op := op
    opnd0 := 1, opnd1 := 2, sig := none, ordered := true, data := List.replicate 8 1, poison := 0 }

/-- A get that is under way. -/
def Demo.op : GwOp := { GwOp.blank with kind := 1, len := 8, sent := true }

/-- Its stream at the source. -/
def Demo.source : State :=
  { Demo.up with fab := { Demo.up.fab with srcs := [(8 * 4096, { epoch := 0, nextSeq := 1, share := 0, ops := [Demo.op] })] } }

/-- A Post block with a counter that has ports 1 and 3 as children and port 2 as parent. -/
def Demo.ctr (st : HitchState) : State :=
  let s := (((Demo.post.wr (Page.lpt 1) Reg.LPT_STATUS.PHY_READY 1).setLstate 1 3).wr (Page.lpt 2) Reg.LPT_STATUS.PHY_READY 1).setLstate 2 3
  { s with sync := { s.sync with counters := [(0, { HitchCtr.empty with valid := true, parent := 2, children := 10, state := st })] } }

/-- A Mount block that has joined commit hitch 0 and hitch 1, waits at both, and is DECIDING its step. -/
def Demo.member : State :=
  let s := Demo.linkUp 0
  { s with sync := { s.sync with
      joins := [(0, 3), (1, 1)], epochs := [(0, 4)], waiting := [(0, 0), (1, 0)], stepState := .deciding, history := [(3, true, 0)] } }

/-- A packet of one slot by its first four words, started and not yet performed. -/
def Demo.packet (w0 w1 w2 w3 : Nat) : Pkt :=
  { queue := 0, idx := 0, bytes := leBytes 8 w0 ++ leBytes 8 w1 ++ leBytes 8 w2 ++ leBytes 8 w3 ++ List.replicate 32 0, fn := 0
    started := true, performed := false, result := none, detail := 0, flags := 0, noFence := false, ended := .none, order := 0, at_ := 0
    launch := none, moved := 0, opsOut := 0, bad := 0, graph := none, graphPos := 0, graphVer := none, msgId := 0, waited := false }

/-- The state with a packet in entry 0 of the store and its memory open. -/
def Demo.hold (s : State) (x : Pkt) : State :=
  { s with
    build := { s.build with mchCount := 1 }
    mem := { s.mem with usable := 65536, ready := true }
    front := { s.front with pkts := [(0, x)] } }

/-- A Mount block with that packet, the period of an active gait and a joined commit hitch. -/
def Demo.withPkt (w0 w1 w2 w3 : Nat) : State :=
  let s := (Demo.up.wr Page.gait Reg.GAIT_PERIOD.NS 0x10000).wr Page.time Reg.TIME_STATUS.STATE 2
  Demo.hold { s with sync := { s.sync with joins := [(0, 3)] } } (Demo.packet w0 w1 w2 w3)

/-- That memory with the seal bits of its entry given, a model key in slot 3, and a trust pair in ANCHORED. -/
def Demo.sealable (x : Nat) : State :=
  let s := Demo.mem
  { s with
    mem := { s.mem with
      rat := [(0, { w0 := BitVec.ofNat 64 (1 + 4 * x), w1 := BitVec.ofNat 64 (2 ^ 24), w2 := BitVec.ofNat 64 (2 ^ 21 - 1), w3 := 0 })] }
    trust := { s.trust with slots := [(3, { kind := 6, state := 1, gen := 1, payload := [] })] } }

/-- A Mount block with its kernel queue, four slots of it filled. -/
def Demo.withQueue : State :=
  { Demo.up with
    mem := { Demo.up.mem with usable := 4096, ready := true }
    front := { Demo.up.front with queues := [(0, { Queue.absent with kernel := true, state := .ready, wptr := 4 })] } }

/-- A packet of that queue that has not started. -/
def Demo.waiting (x : Pkt) : State :=
  { Demo.withQueue with front := { Demo.withQueue.front with pkts := [(0, { x with started := false })] } }

/-- The slot of a PERSIST whose target is queue 1. -/
def Demo.taskBytes : List Byte := leBytes 8 0x109 ++ List.replicate 52 0 ++ leBytes 4 1

/-- That PERSIST. -/
def Demo.persistPkt : Pkt := { Demo.packet 0x109 0 0 0 with bytes := Demo.taskBytes }

/-- A persistent task in entry 1 that queue 1 feeds, with a TASK_MSG in entry 0. -/
def Demo.task : State :=
  let s := Demo.withQueue
  { s with front := { s.front with
      pkts := [(0, { Demo.packet 0x10A 8 0 0 with queue := 1 }), (1, { Demo.packet 0x109 0 0 0 with bytes := Demo.taskBytes })]
      launches := [(7, { pkt := 1, ctx := 0, gen := 0, parts := [2], got := [], persist := true, at_ := 0, wdFired := false })] } }

/-- A launch of no parts that waits for its dispatch. -/
def Demo.launching : State := Demo.hold Demo.up { Demo.packet 0x102 0 0 0 with performed := true }

/-- The open memory with context 0 in its table and a packet in entry 0. -/
def Demo.memPkt (x : Pkt) : State :=
  let s := Demo.mem
  { s with mem := { s.mem with bytes := [(0, 1)] }, front := { s.front with pkts := [(0, x)] } }

/-- The state a packet's own effect starts from. -/
def Demo.perf (s : State) (x : Pkt) : State := s.calm.setPkt 0 { x with performed := true }

/-- A COPY of 8 bytes. -/
def Demo.copy (src dst flags : Nat) : Pkt :=
  { Demo.packet 0x103 0 0 0 with
    bytes := leBytes 8 0x103 ++ leBytes 8 src ++ leBytes 8 dst ++ leBytes 8 8 ++ leBytes 8 flags ++ List.replicate 24 0 }

/-- Fence 0 in a slot, with one token, beside a packet. -/
def Demo.fenced (x : Pkt) (v : Nat) : State :=
  { Demo.memPkt x with objs := { Demo.up.objs with fences := [{ fence := 0, value := v, tokens := 1, err := none, used := 0 }] } }

/-- A WAIT with a time limit that waits. -/
def Demo.waits : State :=
  let s := Demo.memPkt (Demo.packet 0x106 0 3 9)
  { s with front := { s.front with waiters := [{ pkt := 0, fence := 0, value := 3, take := false, order := 0 }] } }

/-- The header of a gait image of one stride at 0x1000. -/
def Demo.imageHead : List (Nat × Byte) := [(0x1000, 0x31), (0x1001, 0x54), (0x1002, 0x47), (0x1003, 0x44), (0x1004, 1), (0x1006, 1)]

/-- A graph object of one packet whose descriptor is object 0, its bytes at 0x1000. -/
def Demo.graph : State :=
  let s := Demo.memPkt (Demo.packet 0x10B 0 0 0)
  { s with mem := { s.mem with bytes := [(9, 16), (56, 1), (0x1000, 1), (0x1001, 1)] } }

/-- Memory with the three tables in one entry and plain memory above 32 MiB: context 0, graph object 5 at 32 MiB, fence 3, a graph of one NOP at
32 MiB + 4 KiB; a packet in entry 0. -/
def Demo.tables (x : Pkt) : State :=
  let s := ((Demo.mem.wr Page.ctxs Reg.CTXS_TBL_LO.ADDR (2 ^ 24)).wr Page.fns Reg.FNS_TBL_LO.ADDR (2 ^ 24 + 2 ^ 20))
  { s with
    mem := { s.mem with
      rat := [(0, { w0 := 1, w1 := BitVec.ofNat 64 (16 * 2 ^ 24), w2 := 0xC0028, w3 := 0 }),
        (1, { w0 := 1, w1 := BitVec.ofNat 64 (16 + 16 * 2 ^ 24), w2 := BitVec.ofNat 64 (2 ^ 21 - 1), w3 := 0 })]
      bytes := [(320, 9), (331, 2), (337, 16), (344, 1), (2 ^ 24, 1), (2 ^ 24 + 1, 2), (2 ^ 24 + 2 ^ 20 + 104, 1), (2 ^ 25 + 4096, 1), (2 ^ 25 + 4097, 1)] }
    objs := { s.objs with ctxBaseSet := true, objBaseSet := true, fenceBaseSet := true }
    front := { s.front with pkts := [(0, x)] } }

/-- User queue 1, stopped with an error, beside a kernel packet. -/
def Demo.userQueue (x : Pkt) : State :=
  let s := Demo.tables x
  { s with front := { s.front with queues := [(1, { Queue.absent with state := .error, wptr := 4 })] } }

/-- A launch of packet 0 that is outstanding under number 7. -/
def Demo.flying (l : Launch) : State :=
  let s := Demo.hold Demo.up { Demo.packet 0x102 0 0 0 with performed := true, launch := some 7 }
  { s with front := { s.front with launches := [(7, l)] } }

/-- ISTATE is REPLAY, the persistent task of entry 1 the suspect under replay, with an action or none. -/
def Demo.inReplay (a : Nat) (p : Bool) : State :=
  let s := Demo.task.setIstate 2
  { s with
    front := { s.front with
      pkts := [(1, { Demo.persistPkt with launch := some 7 })]
      launches := [(7, { pkt := 1, ctx := 0, gen := 0, parts := [2], got := [], persist := p, at_ := 0, wdFired := false })] }
    faults := { s.faults with
      phase := .hbWait, current := some 0, suspects := [{ ctx := 0, queue := 0, slot := 1, persist := p, state := 0, action := a }] } }

/-- A VF_PROV that makes VF 1 LIVE with queues 1024 to 1027. -/
def Demo.prov : Pkt :=
  { Demo.packet 0x16C 0 0 0 with
    bytes := leBytes 8 0x16C ++ leBytes 2 0x101 ++ leBytes 2 1024 ++ leBytes 2 4 ++ List.replicate 50 0 }

/-- The open memory with a packet, the anchor in slot 8, a held generation in slot 9, and a join record. -/
def Demo.keyed (x : Pkt) : State :=
  let s := Demo.memPkt x
  { s with trust := { s.trust with
      slots := [(8, { kind := 4, state := 1, gen := 0, payload := [] }), (9, { kind := 5, state := 1, gen := 1, payload := [] })] } }

/-- A block of the OPERATIONAL state with its Alias keys, algorithms negotiated, an open memory and no chain in it. -/
def Demo.attested : State :=
  let s := Demo.mem.wr Page.lcs Reg.LCS_STATUS.STATE 2
  { s with trust := { s.trust with
      phase := .negotiated, deviceId := Config.certKey []
      slots := [(2, { kind := 2, state := 1, gen := 0, payload := [] }), (3, { kind := 2, state := 1, gen := 0, payload := [] })] } }

/-- Session 1 in a phase, its encapsulated flow at a point; anchored and hybrid, or neither. -/
def Demo.sess (phase encap : Nat) (h : Bool) : Session :=
  { id := 1, slot := 4, phase := phase, anchored := h, hybrid := h, kem := if h then some ([], []) else none, kemUsed := h, dhe := [], secret := []
    ivs := [], transcript := 0, encap := encap, chain := [], reqSeq := 0, rspSeq := 0, nonces := [List.replicate 48 0] }

/-- A block with that session. -/
def Demo.session (phase encap : Nat) (h : Bool) : State :=
  let s := Demo.attested
  { s with trust := { s.trust with join := none, sessions := [Demo.sess phase encap h] } }

/-- A RELEASE record: JOIN of job 1, rank 0, for the nonce of zeros. -/
def Demo.joinRecord : List Byte := [0, 1, 0, 0] ++ leBytes 4 1 ++ List.replicate 120 0

/-- A block that waits for hold-up for a transition, or has burnt copies of it. -/
def Demo.committing (c : Option Nat) : State :=
  { Demo.up with
    lc := { Demo.up.lc with req := some { pkt := none, src := 1, dst := 2, tBits := 0, uds := 0 }, copy := c }
    outs := { Demo.up.outs with holdupReq := true } }

/-- A block that waits for hold-up for a burn. -/
def Demo.burning (hold : Bool) : State :=
  { Demo.up with
    bist := { Demo.up.bist with burn := some { hold := hold, units := [], granted := false } }
    outs := { Demo.up.outs with holdupReq := true } }

/-- The self-test of reduce cluster 0 is set up. -/
def Demo.bist : State :=
  ((Demo.up.wr Page.bst Reg.BST_TARGET.CLUSTER 80).wr Page.bst Reg.BST_TARGET.MBIST 1).wr (Page.red 0) Reg.RED_CTRL.EN 0

/-- Halter is enabled, at its full level. -/
def Demo.halter : State := (Demo.mem.wr Page.hlt Reg.HLT_CTRL.EN 1)

/-- Fuses of a fielded unit, and fuses whose copies disagree about a marginal bit. -/
def Demo.fuses : Fuses :=
  { Fuses.blank with copies := List.replicate 3 { CopyRead.blank with lcT := ⟨3, 3⟩ } }
def Demo.badFuses : Fuses :=
  { Fuses.blank with copies := [{ CopyRead.blank with lcT := ⟨1, 1⟩ }, { CopyRead.blank with lcT := ⟨1, 0⟩ }, CopyRead.blank] }

/-- Operands that are in range, and a failure outside the clusters. -/
def Demo.capFields : CapFields :=
  { linkVer := 0, portId := 0, nonce := 0, dlkGen := 0, txdly := 0, rxdly := 0, asym := 0, echo := 0 }
def Demo.goodFrame : DataFrame := { Demo.frame with hdr := { Demo.frame.hdr with flits := 1 }, data := List.replicate 256 0 }
def Demo.hitchRec : HitchRec :=
  { hop := 0, hid := 0, ok := false, cause := 0, epoch := 0, lost := 0, dtNs := 0, origin := 0, event := 0 }
def Demo.readResult : ReadResult :=
  { level := 0, index := 0, firstOk := false, secondOk := false, sealFail := false, pipeFault := false, copyBad := 0, inCache := false }
def Demo.writeResult : WriteResult :=
  { page := 0, granule := 0, pipeFault := false }
def Demo.markHdr : MarkHdr := { unauth := false, seqLo := 0 }
def Demo.cohSrc : CohSrc := { rank := 0, share := 0 }
def Demo.goodCheck : UnitCheck := { tagOk := true, fecBad := false, chkBad := false }
def Demo.bistFail : BistFail := { unit := 98, row := 0, bit := 0, logic := false, shared := false }

/-! ### Well-formedness -/

/-- Commands in range are well formed. -/
theorem test_wf_accepts :
    ([.dcpLd (Demo.req 0), .tamper, .registerWrite (.vf 127) 0 4 0] : List Instr).all Instr.wf = true := by decide

theorem test_wf_refuses_0 : ([
    (.powerOnReset { Fuses.blank with serial := [] } : Instr),
    (.blockResetDeassert false 8 false : Instr),
    (.bootRun [Demo.bistFail] : Instr),
    (.sibHeartbeat 64 0 : Instr),
    (.sibOutOfService 64 : Instr),
    (.reportReq 64 : Instr),
    (.reportData 64 [] : Instr),
    (.registerWrite (.vf 0) 0 0 0 : Instr),
    (.registerWrite .pf 0x200000 0 0 : Instr),
    (.pairHalfRead (.vf 0) 0 : Instr),
    (.pairHalfRead .pf 0x200000 : Instr),
    (.pairHalfWrite (.vf 0) 0 0 : Instr),
    (.pairHalfWrite .pf 0x200000 0 : Instr),
    (.lockWrite (.vf 0) 0 0 : Instr),
    (.lockWrite .pf 0x200 0 : Instr),
    (.errInjectWrite (.vf 0) 0 0 : Instr),
    (.errInjectWrite .pf 0x200 0 : Instr),
    (.verSwArchWrite (.vf 0) 0 : Instr),
    (.haTimeoutWithdraw 128 : Instr),
    (.errRecRptrWrite (.vf 0) 0 : Instr),
    (.ppsInEdge 2560 : Instr),
    (.mark 64 0 : Instr),
    (.mark 0 2560 : Instr),
    (.markReceive 64 Demo.markFields Demo.goodCheck Demo.markHdr 0 : Instr),
    (.markReceive 0 { Demo.markFields with hops := 16 } Demo.goodCheck Demo.markHdr 0 : Instr),
    (.markReceive 0 Demo.markFields Demo.goodCheck { Demo.markHdr with seqLo := 65536 } 0 : Instr),
    (.markReceive 0 Demo.markFields Demo.goodCheck Demo.markHdr 2560 : Instr),
    (.steerDisable (.vf 0) : Instr),
    (.arm (.vf 0) : Instr),
    (.armClear (.vf 0) : Instr)] : List Instr).any Instr.wf = false := by decide

theorem test_wf_refuses_1 : ([
    (.go (.vf 0) : Instr),
    (.abandon (.vf 0) : Instr),
    (.wakeAhead 64 0 0 : Instr),
    (.strideStart 64 0 0 : Instr),
    (.dataFrameReceive 64 Demo.goodFrame Demo.goodCheck : Instr),
    (.dataFrameReceive 0 { Demo.goodFrame with data := [] } Demo.goodCheck : Instr),
    (.footprintEnd 64 0 0 : Instr),
    (.planeDown 64 : Instr),
    (.looseAgeDrop 64 : Instr),
    (.rekeyNow (.vf 0) 0 : Instr),
    (.rekeyNow .pf 64 : Instr),
    (.keyFrameLimit 64 : Instr),
    (.keyReq 64 0 Demo.goodCheck 0 : Instr),
    (.keyReq 0 (2 ^ 32) Demo.goodCheck 0 : Instr),
    (.keyReq 0 0 Demo.goodCheck 65536 : Instr),
    (.keyReady 64 0 0 Demo.goodCheck 0 : Instr),
    (.keyReady 0 (2 ^ 32) 0 Demo.goodCheck 0 : Instr),
    (.keyReady 0 0 0 Demo.goodCheck 65536 : Instr),
    (.keyReqRepeat 64 : Instr),
    (.keyReadyRepeat 64 : Instr),
    (.keyStall 64 : Instr),
    (.ackSend 64 : Instr),
    (.ack 64 0 Demo.goodCheck 0 : Instr),
    (.ack 0 0 Demo.goodCheck 65536 : Instr),
    (.retry 64 0 0 Demo.goodCheck 0 : Instr),
    (.retry 0 0 0 Demo.goodCheck 65536 : Instr),
    (.retryRepeat 64 : Instr),
    (.ackTimeout 64 : Instr),
    (.replayCheck 64 : Instr),
    (.signalHandoff 0 256 false : Instr)] : List Instr).any Instr.wf = false := by decide

theorem test_wf_refuses_2 : ([
    (.pdn 64 0 0 0 Demo.goodCheck 0 : Instr),
    (.pdn 0 0 64 0 Demo.goodCheck 0 : Instr),
    (.pdn 0 0 0 65536 Demo.goodCheck 0 : Instr),
    (.pdn 0 0 0 0 Demo.goodCheck 65536 : Instr),
    (.pdnClear (.vf 0) 0 : Instr),
    (.pdnClear .pf 64 : Instr),
    (.phyReadyRise 64 : Instr),
    (.phyReadyFall 64 : Instr),
    (.cap 64 Demo.capFields Demo.goodCheck : Instr),
    (.cap 0 { Demo.capFields with linkVer := 16 } Demo.goodCheck : Instr),
    (.capSend 64 : Instr),
    (.trainTimeout 64 : Instr),
    (.trainRetryTimer 64 : Instr),
    (.dark 64 0 Demo.goodCheck false 0 : Instr),
    (.dark 0 0 Demo.goodCheck false 65536 : Instr),
    (.retrain (.vf 0) 0 : Instr),
    (.retrain .pf 64 : Instr),
    (.goDark (.vf 0) 0 : Instr),
    (.goDark .pf 64 : Instr),
    (.portDisable (.vf 0) 0 : Instr),
    (.portDisable .pf 64 : Instr),
    (.redDescWrite (.vf 0) : Instr),
    (.redDescRead (.vf 0) : Instr),
    (.redDescInvalidate (.vf 0) : Instr),
    (.resetRoot (.vf 0) : Instr),
    (.dcpLd { Demo.req 0 with len8 := 32 } : Instr),
    (.dcpSt { Demo.req 0 with len8 := 32 } : Instr),
    (.dcpAdd { Demo.req 0 with len8 := 32 } false : Instr),
    (.dcpSwap { Demo.req 0 with len8 := 32 } false : Instr),
    (.dcpCas { Demo.req 0 with len8 := 32 } false : Instr)] : List Instr).any Instr.wf = false := by decide

theorem test_wf_refuses_3 : ([
    (.dcpSmin { Demo.req 0 with len8 := 32 } false : Instr),
    (.dcpSmax { Demo.req 0 with len8 := 32 } false : Instr),
    (.dcpUmin { Demo.req 0 with len8 := 32 } false : Instr),
    (.dcpUmax { Demo.req 0 with len8 := 32 } false : Instr),
    (.dcpAnd { Demo.req 0 with len8 := 32 } false : Instr),
    (.dcpOr { Demo.req 0 with len8 := 32 } false : Instr),
    (.dcpXor { Demo.req 0 with len8 := 32 } false : Instr),
    (.dcpTokenPass { Demo.req 0 with len8 := 32 } : Instr),
    (.dcpRdS { Demo.req 0 with len8 := 32 } : Instr),
    (.dcpRdM { Demo.req 0 with len8 := 32 } : Instr),
    (.dcpUpg { Demo.req 0 with len8 := 32 } : Instr),
    (.dcpWb { Demo.req 0 with len8 := 32 } : Instr),
    (.dcpEvs { Demo.req 0 with len8 := 32 } : Instr),
    (.dcpUnsupported { Demo.req 0 with len8 := 32 } 0 : Instr),
    (.dcpUnsupported (Demo.req 0) 256 : Instr),
    (.rmtLd { Demo.rmtRec 0 with share := 1024 } : Instr),
    (.rmtSt { Demo.rmtRec 0 with share := 1024 } : Instr),
    (.rmtAdd { Demo.rmtRec 0 with share := 1024 } false : Instr),
    (.rmtSwap { Demo.rmtRec 0 with share := 1024 } false : Instr),
    (.rmtCas { Demo.rmtRec 0 with share := 1024 } false : Instr),
    (.rmtSmin { Demo.rmtRec 0 with share := 1024 } false : Instr),
    (.rmtSmax { Demo.rmtRec 0 with share := 1024 } false : Instr),
    (.rmtUmin { Demo.rmtRec 0 with share := 1024 } false : Instr),
    (.rmtUmax { Demo.rmtRec 0 with share := 1024 } false : Instr),
    (.rmtAnd { Demo.rmtRec 0 with share := 1024 } false : Instr),
    (.rmtOr { Demo.rmtRec 0 with share := 1024 } false : Instr),
    (.rmtXor { Demo.rmtRec 0 with share := 1024 } false : Instr),
    (.rmtTokenPass { Demo.rmtRec 0 with share := 1024 } : Instr),
    (.rmtUnsupported { Demo.rmtRec 0 with share := 1024 } 0 : Instr),
    (.rmtUnsupported (Demo.rmtRec 0) 256 : Instr)] : List Instr).any Instr.wf = false := by decide

theorem test_wf_refuses_4 : ([
    (.rsp 0 0 256 [] 0 : Instr),
    (.putData { Demo.gw 0 with epoch := 256 } : Instr),
    (.getReq { Demo.gw 0 with epoch := 256 } : Instr),
    (.getData { Demo.gw 0 with epoch := 256 } : Instr),
    (.amoReq { Demo.gw 0 with epoch := 256 } : Instr),
    (.amoRsp { Demo.gw 0 with epoch := 256 } : Instr),
    (.bulkAck { Demo.gw 0 with epoch := 256 } : Instr),
    (.nak { Demo.gw 0 with epoch := 256 } : Instr),
    (.cohRdS { Demo.cohSrc with share := 1024 } 0 0 : Instr),
    (.cohRdM { Demo.cohSrc with share := 1024 } 0 0 : Instr),
    (.cohWb { Demo.cohSrc with share := 1024 } 0 0 { bytes := [], poison := false } : Instr),
    (.dataS 0 0 256 [] 0 : Instr),
    (.dataM 0 0 256 [] 0 : Instr),
    (.upgAck 0 0 256 : Instr),
    (.wbAck 0 0 256 : Instr),
    (.snrInvAck 65536 : Instr),
    (.snrSnpRsp 65536 none : Instr),
    (.snrFlushDone 65536 : Instr),
    (.cohEnable (.vf 0) : Instr),
    (.cohDisable (.vf 0) : Instr),
    (.cmbFanout 0 256 [] 0 : Instr),
    (.hitchArrive 64 Demo.hitchRec : Instr),
    (.hitchArrive 0 { Demo.hitchRec with hid := 1024 } : Instr),
    (.hitchRelease 64 Demo.hitchRec : Instr),
    (.hitchRelease 0 { Demo.hitchRec with hid := 1024 } : Instr),
    (.hitchQuery 64 Demo.hitchRec : Instr),
    (.hitchQuery 0 { Demo.hitchRec with hid := 1024 } : Instr),
    (.hitchAnswer 64 Demo.hitchRec : Instr),
    (.hitchAnswer 0 { Demo.hitchRec with hid := 1024 } : Instr),
    (.hitchStop 64 Demo.hitchRec : Instr)] : List Instr).any Instr.wf = false := by decide

theorem test_wf_refuses_5 : ([
    (.hitchStop 0 { Demo.hitchRec with hid := 1024 } : Instr),
    (.leave 64 Demo.hitchRec : Instr),
    (.leave 0 { Demo.hitchRec with hid := 1024 } : Instr),
    (.hitchTimeout 1024 : Instr),
    (.hitchCmdWrite (.vf 0) : Instr),
    (.hitchCmdRead (.vf 0) : Instr),
    (.hitchClear (.vf 0) : Instr),
    (.memberSet (.vf 0) : Instr),
    (.memoryTrained 16 0 : Instr),
    (.memoryReadResponse 16 Demo.readResult : Instr),
    (.memoryReadResponse 0 { Demo.readResult with level := 8 } : Instr),
    (.memoryWriteDone 16 Demo.writeResult : Instr),
    (.memoryWriteDone 0 { Demo.writeResult with granule := 64 } : Instr),
    (.ratCmdWrite (.vf 0) : Instr),
    (.ratCmdRead (.vf 0) : Instr),
    (.ratWriteComplete 256 : Instr),
    (.mchLinePagesWrite (.vf 0) 0 : Instr),
    (.reencStart 16 : Instr),
    (.reencComplete 16 0 0 : Instr),
    (.rebuild (.vf 0) 0 : Instr),
    (.rebuild .pf 16 : Instr),
    (.retire (.vf 0) 0 : Instr),
    (.retire .pf 16 : Instr),
    (.walk (.vf 0) 0 : Instr),
    (.walk .pf 16 : Instr),
    (.rebuildComplete 16 : Instr),
    (.coldWalkComplete 16 : Instr),
    (.scrubChunk 16 : Instr),
    (.tokenRequest 16 .scrub : Instr),
    (.tokenRelease 16 .scrub : Instr)] : List Instr).any Instr.wf = false := by decide

theorem test_wf_refuses_6 : ([
    (.farStart (.vf 0) : Instr),
    (.farPageStep 16 : Instr),
    (.farPageStepDone 16 0 [] : Instr),
    (.farPageStepDone 0 128 [] : Instr),
    (.farPause (.vf 0) 0 : Instr),
    (.farPause .pf 16 : Instr),
    (.farResume (.vf 0) 0 : Instr),
    (.farResume .pf 16 : Instr),
    (.farGrant (.vf 0) 0 0 : Instr),
    (.farGrant .pf 16 0 : Instr),
    (.doorbellWrite (.vf 0) 0 0 0 0 : Instr),
    (.doorbellWrite .pf 128 0 0 0 : Instr),
    (.seqDone 0 0 0 256 0 : Instr),
    (.msgDone 0 0 0 0 256 : Instr),
    (.kqEnable (.vf 0) 0 0 : Instr),
    (.kqEnable .pf 128 0 : Instr),
    (.ringUnbind (.vf 0) 0 : Instr),
    (.ringUnbind .pf 4096 : Instr),
    (.snap (.vf 0) : Instr),
    (.ctxsObjKick (.vf 0) 0 : Instr),
    (.ctxsObjKick .pf 262144 : Instr),
    (.ctxsTdDone (.vf 0) : Instr),
    (.fnsRead (.vf 0) : Instr),
    (.fnsEvict (.vf 0) 0 : Instr),
    (.fnsEvict .pf 65536 : Instr),
    (.quiesce (.vf 0) 0 : Instr),
    (.quiesce .pf 128 : Instr),
    (.vfRelease (.vf 0) 0 : Instr),
    (.vfRelease .pf 128 : Instr),
    (.vfQuiesced 128 : Instr)] : List Instr).any Instr.wf = false := by decide

theorem test_wf_refuses_7 : ([
    (.flr 128 : Instr),
    (.flrResetDone 128 : Instr),
    (.vfHaDone (.vf 0) : Instr),
    (.getMeasurements (2 ^ 32) 0 [] : Instr),
    (.getMeasurements 0 256 [] : Instr),
    (.finish (2 ^ 32) false : Instr),
    (.getEncapsulatedRequest (2 ^ 32) : Instr),
    (.deliverEncapsulatedResponse (2 ^ 32) [] : Instr),
    (.endSession (2 ^ 32) : Instr),
    (.spdmHeartbeat (2 ^ 32) : Instr),
    (.heartbeatExpiry (2 ^ 32) : Instr),
    (.keyUpdate (2 ^ 32) 0 : Instr),
    (.keyUpdate 0 256 : Instr),
    (.chunkSend (2 ^ 32) false [] : Instr),
    (.chunkGet (2 ^ 32) 0 : Instr),
    (.unsupportedRequest (2 ^ 32) false : Instr),
    (.securedMsgAuthFail (2 ^ 32) : Instr),
    (.kemGet (2 ^ 32) : Instr),
    (.kemPut (2 ^ 32) [] : Instr),
    (.reportGet (2 ^ 32) [] : Instr),
    (.release (2 ^ 32) [] : Instr),
    (.slotQuery (2 ^ 32) : Instr),
    (.ideQuery (2 ^ 32) 0 0 : Instr),
    (.ideQuery 0 64 0 : Instr),
    (.keyProg (2 ^ 32) 0 0 0 0 0 0 0 : Instr),
    (.keyProg 0 64 0 0 0 0 0 0 : Instr),
    (.keyProg 0 0 0 0 0 2560 0 0 : Instr),
    (.kSetGo (2 ^ 32) 0 0 0 0 0 : Instr),
    (.kSetGo 0 64 0 0 0 0 : Instr),
    (.kSetGo 0 0 0 0 0 2560 : Instr)] : List Instr).any Instr.wf = false := by decide

theorem test_wf_refuses_8 : ([
    (.kSetStop (2 ^ 32) 0 0 0 0 0 : Instr),
    (.kSetStop 0 64 0 0 0 0 : Instr),
    (.kSetStop 0 0 0 0 0 2560 : Instr),
    (.koAck 256 [] : Instr),
    (.getTdispVersion (2 ^ 32) 0 : Instr),
    (.getTdispVersion 0 128 : Instr),
    (.getTdispCapabilities (2 ^ 32) 0 : Instr),
    (.getTdispCapabilities 0 128 : Instr),
    (.lockInterfaceRequest (2 ^ 32) 0 0 : Instr),
    (.lockInterfaceRequest 0 128 0 : Instr),
    (.getDeviceInterfaceReport (2 ^ 32) 0 0 0 : Instr),
    (.getDeviceInterfaceReport 0 128 0 0 : Instr),
    (.getDeviceInterfaceState (2 ^ 32) 0 : Instr),
    (.getDeviceInterfaceState 0 128 : Instr),
    (.startInterfaceRequest (2 ^ 32) 0 [] : Instr),
    (.startInterfaceRequest 0 128 [] : Instr),
    (.stopInterfaceRequest (2 ^ 32) 0 : Instr),
    (.stopInterfaceRequest 0 128 : Instr),
    (.endSessions (.vf 0) : Instr),
    (.keyHaDone (.vf 0) : Instr),
    (.ccipStart (.vf 0) 0 : Instr),
    (.ccipStart .pf 16 : Instr),
    (.ccipAbort (.vf 0) 0 : Instr),
    (.ccipAbort .pf 16 : Instr),
    (.ccipJobDone 16 0 0 false : Instr),
    (.ccipKeyTrng (.vf 0) 0 0 : Instr),
    (.ccipKeyTrng .pf 16 0 : Instr),
    (.ccipKeyDerive (.vf 0) 0 0 false : Instr),
    (.ccipKeyDerive .pf 16 0 false : Instr),
    (.ccipKeyErase (.vf 0) 0 : Instr)] : List Instr).any Instr.wf = false := by decide

theorem test_wf_refuses_9 : ([
    (.ccipKeyErase .pf 16 : Instr),
    (.commitPhaseDone { CopyRead.blank with scrap := ⟨2, 0⟩ } : Instr),
    (.lcsExport (.vf 0) : Instr),
    (.halterRd 0x200000 : Instr),
    (.halterWr 0x200000 0 : Instr),
    (.halterDisable (.vf 0) : Instr),
    (.cntSnap (.vf 0) : Instr),
    (.cntClear (.vf 0) : Instr),
    (.triageRetire (.vf 0) : Instr),
    (.triageRebuild (.vf 0) : Instr),
    (.triageLeave (.vf 0) : Instr),
    (.dcpStall 64 : Instr),
    (.crstNow (.vf 0) : Instr),
    (.suspectReplay (.vf 0) 0 : Instr),
    (.suspectFail (.vf 0) 0 : Instr),
    (.suspectDrop (.vf 0) 0 : Instr),
    (.instReset (.vf 0) : Instr),
    (.bistRun (.vf 0) : Instr),
    (.bistAbort (.vf 0) : Instr),
    (.bistRunDone [Demo.bistFail] false : Instr),
    (.burn (.vf 0) : Instr),
    (.holdLock (.vf 0) : Instr),
    (.hostCompletion 0 256 [] : Instr),
    (.registerRead (.vf 0) 0 0 : Instr),
    (.registerRead .pf 0x200000 0 : Instr),
    (.unwrapAbandon 256 : Instr)] : List Instr).any Instr.wf = false := by decide

/-! ### Worked values -/

/-- Page identifiers and absent pages (register pages, case 1). -/
theorem test_page_id : (Demo.up.look (Page.mch 5) 0).toNat = 0x01100510 ∧ (Demo.post.look (Page.lpt 37) 0).toNat = 0x01102520 := by decide

/-- The version page of the reference Mount build (register pages, case 2). -/
theorem test_version_words :
    (Demo.up.look Page.ver Reg.VER_ARCH.MINOR.off).toNat = 0x0100 ∧ (Demo.up.look Page.ver Reg.VER_FEATn.FEAT.off).toNat = 0x1BF3FF := by decide

/-- Four binary32 values in an MXFP4 block (number formats, case 1). -/
theorem test_mxfp4_block :
    (narrowSpan (NSet.of 8) (fun _ => 0) ([0x41500000, 0x3E99999A, 0xC0200000, 0x40800000].map fun v => widenFloat 0 8 23 127 v false)).1.take 18
      = ([0x80, 0, 0, 0, 0, 0, 0, 0, 0, 0, 0, 0, 0, 0, 0, 0, 0x07, 0x4A] : List Byte) := by decide

/-- A CBFP block of width 9 (number formats, case 2). -/
theorem test_cbfp_block :
    (narrowSpan (NSet.of 10) (fun _ => 0) ([extOfInt (-3000) 0, extOfInt 1001 0] ++ List.replicate 22 (extOfInt 0 0))).1.take 4 = ([0x04, 0xA2, 0x0F, 0xC0] : List Byte) := by decide

/-- Stochastic rounding to bfloat16 (number formats, case 3). -/
theorem test_stochastic_bfloat16 :
    (narrowFloat (NSet.of 0x104) 8 7 127 (widenFloat 0 8 23 127 0x3F806000 false) 0x9F3A).1 = 0x3F80
      ∧ (narrowFloat (NSet.of 0x104) 8 7 127 (widenFloat 0 8 23 127 0x3F806000 false) 0xA000).1 = 0x3F81 := by decide

/-- A CBFP combine sums exactly and narrows once (reduce, case 2). -/
theorem test_cbfp_combine :
    (narrowSpan (NSet.of 0x100A) (fun _ => 0) ([extOfInt (800 - 1200 + 510 + 1600) 0, extOfInt (-12 + 40 - 200 - 112) 0] ++ List.replicate 22 (extOfInt 0 0))).1.take 3
      = ([0x03, 0x6B, 0x77] : List Byte) := by decide

/-- The carve of a 96 GiB channel with 72 GiB of bulk zone (memory engine, case 1). -/
theorem test_carve : carve [25165824] 0x13FA9C0 = (20949440, 22129152) := by decide

/-- Levels and top blocks of that channel (counter tree, case 1). -/
theorem test_tree_levels : treeTop 25165824 = (5, 2) ∧ treePages 25165824 = 399558 := by decide

/-- Cipher inputs of a granule and of a tree block, and where a tag lies (memory engine, case 2; counter tree, case 1). -/
theorem test_cipher_inputs :
    inputBlock 1 6 0x123456 2 128 0 0 = 0x00000000000000010C12345628000000#128
      ∧ tweakBlock 3 9 0x123456 2 1 2 = 0x00000000000000031212345622040000#128
      ∧ tagByte 20949440 1193046 32 = 610839808 := by decide

/-- The status word of an INTEGRATOR unit (life cycle, case 1). -/
theorem test_lcs_status :
    ((({ Demo.up with lc := { Demo.up.lc with fuses := { Fuses.blank with
        copies := List.replicate 3 { lcT := ⟨1, 1⟩, scrap := ⟨0, 0⟩, uds := ⟨1, 1⟩ }, auth := [1, 1, 1] } } } : State).readFuses).look Page.lcs 0x0C).toNat
      = 0x0C09 := by decide

/-- The log of a soft-repaired unit (self-test, case 1). -/
theorem test_bist_log :
    let s := Demo.up.logFail { unit := 0x49283, row := 0x1A2, bit := 77, logic := false, shared := false } true
    (s.look Page.bst Reg.BST_LOGe_LO.UNIT.off).toNat = 0x749283 ∧ (s.look Page.bst Reg.BST_LOGe_HI.ROW.off).toNat = 0x04D001A2 := by decide

/-- The wire time of an 11-flit frame in 10 ps (link engines, case 1). -/
theorem test_wire_time : wireTime 11 = 1424 ∧ wireTime 16 = 2064 := by decide

/-- The header words of the last uplink frame (link engines, case 1). -/
theorem test_header_words :
    let h : FrameHdr := { fver := 1, ftype := 0, flits := 11, last := true, sig := true, empty := false, late := false, cover := false, keyPh := 0
                          srcRank := 7, srcPost := false, stride := 3, coverPlane := 0, periodLo := 0x0B, share := 0, lkind := 0, seqLo := 0x4F2C
                          dstRank := 0x29 }
    frameH0 h = 0x000703A1 ∧ frameH1 h = 0x00160003 ∧ frameH2 h = 0x00294F2C := by decide

/-- Where the blocks of a path are stored (counter tree, case 1). -/
theorem test_block_places :
    blockPlace 25165824 1 0 1193046 = some (24784907, 0x580) ∧ blockPlace 25165824 2 0 18641 = some (25159773, 0x440) ∧
      blockPlace 25165824 3 0 291 = some (25165630, 0x8C0) ∧ blockPlace 25165824 3 1 291 = some (25165726, 0x8C0) ∧
      blockPlace 25165824 4 1 4 = some (25165820, 0x100) ∧ blockPlace 25165824 5 1 0 = some (25165823, 0) := by decide

/-! ### The hypotheses of the statements -/

/-- The hypotheses of ResetCommandsComplete are met. -/
theorem test_hyps_ResetCommandsComplete :
    (Demo.up.boot.phase = .running ∧ mayWrite .pf Page.err = true) ∧
  (Demo.up.boot.phase = .running ∧ (Demo.up.wr Page.err Reg.ERR_STATUS.ISTATE 3).istate = 3 ∧
    ((Demo.up.wr Page.err Reg.ERR_STATUS.ISTATE 3).wr Page.err Reg.ERR_CFG.AUTO_RESET 1).rdb Page.err Reg.ERR_CFG.AUTO_RESET = true) ∧
  Demo.up.serving = true ∧ (Page.ofSlot (0x21000 / 0x1000) = some (Page.mch 1) ∧ Fam.mch.scope ≠ .por ∧ Fam.mch ≠ .key) := by decide

/-- The hypotheses of BootCommandsComplete are met. -/
theorem test_hyps_BootCommandsComplete :
    (State.reset.boot.phase = .inReset ∧ State.reset.boot.tampered = false ∧ State.reset.outs.scan = false ∧
    State.reset.lc.fuses.lost = false ∧ State.reset.build.mrBuilt = true ∧ State.reset.build.dcpCount ≠ 0 ∧
    0 ≤ State.reset.build.sibCount) ∧
  (Demo.at .sampled).boot.phase = .sampled ∧
  ((Demo.at .bistDone).boot.phase = .bistDone ∧ (Demo.at .bistDone).trust.measKept = none) ∧
  ((Demo.at .layer0Done).boot.phase = .layer0Done ∧ releaseOk 0x00010400 = true) ∧
  (Demo.up.boot.phase = .running ∧ Demo.up.lockstepOff = false) ∧ Demo.up.boot.svcWait = [] ∧
  (Demo.up.serving = true ∧ 0x57 < 0x40 + Demo.up.ports ∧ Demo.up.bist.out.contains (88 + 7) = false) := by decide

/-- The hypotheses of PackageCommandsComplete are met. -/
theorem test_hyps_PackageCommandsComplete :
    (Demo.pack.serving = true ∧ Demo.pack.isLead = true) ∧ (0 < Demo.pack.build.sibCount ∧ 2 < Demo.pack.build.sibCount) ∧
  (Demo.pack.pkg.awaited = [] ∧ Demo.pack.trust.hostMeas = none) ∧
  ({ Demo.pack with boot := { Demo.pack.boot with inst := 1 } } : State).isLead = false := by decide

/-- The hypotheses of PowerCommandsComplete are met. -/
theorem test_hyps_PowerCommandsComplete :
    (Demo.up.serving = true ∧ Demo.up.rdb Page.cr Reg.CR_PWR_CTRL.AUTO_GATE_EN = true ∧ clusterAt 0x57 = some 39 ∧
    Demo.up.targetAbsent 39 = false ∧ Demo.up.clusterBusy 0x57 = false ∧ Demo.up.gatedSlot 0x57 = false) ∧
  (Demo.up.mount = true ∧ Demo.up.power = Power.empty ∧ Demo.up.mrMayOff = true) ∧
  ((Demo.up.wr Page.gait Reg.GAIT_STATUS.ANY_ACTIVE 1).mount = true ∧ (Demo.up.wr Page.gait Reg.GAIT_STATUS.ANY_ACTIVE 1).mrMayOff = false) ∧
  ((Demo.power { Power.empty with mrGoingOff := true }).mount = true ∧
    ((Demo.power { Power.empty with mrGoingOff := true }).chanList.any fun n =>
      ((Demo.power { Power.empty with mrGoingOff := true }).chan n).farState == 1 ||
        !((Demo.power { Power.empty with mrGoingOff := true }).chan n).reenc.isEmpty) = false) ∧
  ((Demo.power { Power.empty with mrOff := true }).mount = true ∧ (Demo.power { Power.empty with mrWaking := true }).mount = true) ∧
  (({ Demo.up with outs := { Demo.up.outs with mrPwrEn := true } } : State).mount = true) := by decide

/-- The hypotheses of RegisterAccessCompletes are met. -/
theorem test_hyps_RegisterAccessCompletes :
    (target .svc 0x2020 = some (Page.cr, 0x20) ∧ Demo.up.present Page.cr = true ∧ Demo.up.barDead .svc = false ∧
    mayRead .svc Page.cr = true ∧ isLo Page.cr 0x20 = false ∧ isHi Page.cr 0x20 = false) ∧
  (Demo.up.boot.phase = .running ∧ Demo.up.boot.post = false ∧ Demo.up.locked Page.gw = false) ∧
  (Demo.up.setReg (Page.gw.base + hdrLock) 1).locked Page.gw = true ∧
  (Page.ofSlot 0x31 = some Page.gw ∧ Demo.up.present Page.gw = true ∧ Demo.up.writeOk .pf Page.gw hdrLock = true ∧
    Demo.up.frozen Page.gw = false ∧ Demo.up.absentReg Page.gw hdrLock = false ∧ isLo Page.gw hdrLock = false ∧
    isHi Page.gw hdrLock = false) ∧
  (target .pf 0x3000 = some (Page.key, 0) ∧ Demo.up.present Page.key = true ∧ Demo.up.barDead .pf = false ∧
    Demo.up.writeOk .pf Page.key 0 = false) := by decide

/-- The hypotheses of HeaderCommandsComplete are met. -/
theorem test_hyps_HeaderCommandsComplete :
    (Page.ofSlot 5 = some Page.time ∧ Demo.up.present Page.time = true ∧ mayWrite .pf Page.time = true ∧ Demo.up.conf = false ∧
    Demo.up.lc.fuses.state ≠ 4 ∧ Demo.up.lcState ≠ 4 ∧ Demo.up.istate ≠ 3 ∧
    (Demo.up.reg (Page.time.base + hdrErrStatus)).getLsbD Err.time.PARENT_LOST = false) ∧
  (Demo.up.negotiated = false ∧ fieldOf (0x104 : W32) 8 8 ≠ 0) ∧
  ((fieldOf (0 : W32) 0 16 + 65536 - Demo.up.recRptr) % 65536 ≤ Demo.up.unread) ∧
  ((Demo.up.haPost 1).serving = true ∧ (Demo.up.haPost 1).haPending 1 = true ∧ (Demo.up.haPost 1).boot.svcHalted = false) := by decide

/-- The hypotheses of TimeCommandsComplete are met. -/
theorem test_hyps_TimeCommandsComplete :
    (Demo.up.isGm = false ∧ (Demo.up.wr Page.time Reg.TIME_STATUS.PPS_PRESENT 1).rdb Page.time Reg.TIME_STATUS.PPS_PRESENT = true ∧
    (Demo.up.wr Page.time Reg.TIME_CTRL.PPS_OUT_EN 1).rdb Page.time Reg.TIME_CTRL.PPS_OUT_EN = true) ∧
  ((Demo.phy 23).serving = true ∧ 23 < (Demo.phy 23).ports ∧ (Demo.phy 23).marks 23 = true ∧ (Demo.phy 23).sealedPort 23 = false) ∧
  ((Demo.linkUp 23).marks 23 = true ∧ (Demo.linkUp 23).sealedPort 23 = true ∧
    (Demo.linkUp 23).ctlNext 23 ≤ (Demo.linkUp 23).ctlSeq 23 0 ∧ (Demo.linkUp 23).armedAt Page.time Err.time.MARK_AUTH = none ∧
    ((Demo.linkUp 23).wr Page.time Reg.TIME_CTRL.STEER_EN 0).rdb Page.time Reg.TIME_CTRL.STEER_EN = false) ∧
  (Demo.cand.serving = true ∧ Demo.cand.candidate = true ∧ Demo.cand.isGm = false ∧
    Demo.cand.rdb Page.time Reg.TIME_CTRL.STEER_EN = true ∧ Demo.cand.gmKnown = none ∧
    ((List.range Demo.cand.ports).any Demo.cand.upWithMarks) = true) ∧
  ((Demo.up.wr Page.time Reg.TIME_STATUS.STATE 2).timeState = 2 ∧ (Demo.up.wr Page.time Reg.TIME_STATUS.STATE 2).gmNow = none ∧
    (Demo.up.wr Page.time Reg.TIME_STATUS.STATE 1).timeState = 1) ∧
  (mayWrite .pf Page.time = true ∧ Demo.up.locked Page.time = false) := by decide

/-- The hypotheses of TrainingCommandsComplete are met. -/
theorem test_hyps_TrainingCommandsComplete :
    ((Demo.phy 23).serving = true ∧ 23 < (Demo.phy 23).ports ∧ (Demo.phy 23).lstate 23 = 0 ∧ ((Demo.phy 23).link 23).trained = false ∧
    (Demo.phy 23).rdb (Page.lpt 23) Reg.LPT_CTRL.ENABLE = true ∧ (Demo.phy 23).rdb (Page.lpt 23) Reg.LPT_STATUS.PHY_READY = true ∧
    mayWrite .pf (Page.lpt 23) = true) ∧
  (((Demo.phy 23).setLstate 23 2).lstate 23 = 2 ∧ ((Demo.phy 23).setLstate 23 1).lstate 23 = 1 ∧ ((Demo.phy 23).setLstate 23 1).serving = true ∧
    (((Demo.phy 23).setLink 23 { Link.empty with nonceOwn := 1 }).link 23).nonceOwn % 65536 ≠ 0) := by decide

/-- The hypotheses of LinkKeyAndAckCommandsComplete are met. -/
theorem test_hyps_LinkKeyAndAckCommandsComplete :
    ((Demo.linkUp 23).portUp 23 = true ∧ (Demo.linkUp 23).serving = true ∧ mayWrite .pf (Page.lpt 23) = true) ∧
  (2 ^ ((Demo.linkUp 23).wr (Page.lpt 23) Reg.LPTn_KEY_FRAMES_HI.COUNT (2 ^ 31)).log2Frames 23 ≤
    ((Demo.linkUp 23).wr (Page.lpt 23) Reg.LPTn_KEY_FRAMES_HI.COUNT (2 ^ 31)).keyFrames 23) ∧
  ((Demo.linkUp 23).ctlNext 23 ≤ (Demo.linkUp 23).ctlSeq 23 0 ∧ ((Demo.linkUp 23).link 23).rxNextKey = none ∧
    ((Demo.linkUp 23).link 23).rxEpoch = 0) ∧
  ((Demo.cand.dlkSlot 1).isSome = true ∧ Demo.cand.portUp 0 = true ∧ Demo.cand.epoch 0 = 0 ∧ Demo.cand.serving = true ∧
    Demo.cand.ctlNext 0 ≤ Demo.cand.ctlSeq 0 5) ∧
  ((((Demo.linkUp 23).setLink 23 Demo.busyLink).link 23).ackDue = true ∧ ((Demo.linkUp 23).setLink 23 Demo.busyLink).portUp 23 = true ∧
    (((Demo.linkUp 23).setLink 23 Demo.busyLink).link 23).rekeyTx = true ∧ (((Demo.linkUp 23).setLink 23 Demo.busyLink).link 23).rekeyRx = true) := by decide

/-- The hypotheses of GaitCommandsComplete are met (1 of 2). -/
theorem test_hyps_GaitCommandsComplete :
    (mayWrite .pf Page.gait = true ∧ Demo.armable.swapState = 0 ∧ Demo.armable.armCode = 0 ∧ Demo.armable.hostMode 2 = false ∧
    Demo.armable.boot.phase = .running) ∧
  ((Demo.up.setSwap 1).swapState = 1 ∧ (Demo.up.setSwap 1).haPending 2 = false ∧ ((Demo.up.setSwap 1).haPost 2).haPending 2 = true ∧
    ((Demo.up.setSwap 1).haPost 2).swapState = 1 ∧ (Demo.up.setSwap 1).serving = true) ∧
  ((Demo.armable.setSwap 2).hardOk 1000 = true ∧ (Demo.up.setSwap 2).hardOk (Demo.up.setSwap 2).gait.newGuard = false ∧
    ({ Demo.armable.setSwap 3 with gait := { Demo.armable.gait with newGuard := 1000 } } : State).hardOk 1000 = true) ∧
  ((Demo.linkUp 23).planeDown 22 = true ∧ (Demo.linkUp 23).mount = true) ∧
  (Demo.running.serving = true ∧ Demo.running.noGait = false ∧ Demo.running.strideAt 0 0 = some (Demo.image, Demo.stride) ∧
    Demo.running.endOlder 0 0 0 = Demo.running ∧ Demo.running.occ 0 0 0 = some (Occ.fresh 0 0 0 false) ∧
    ((Demo.running.openWindow 0 0 0 Demo.image Demo.stride).wr Page.gait Reg.GAIT_PORTn_STATE.NEXT (nextTx Demo.image 0) 0).uncoveredNow 0 Demo.stride = false) ∧
  (((Demo.linkUp 23).takeFrame 23 Demo.frame).malformed 23 Demo.frame = false ∧
    fullSeq ((Demo.linkUp 23).link 23).rxNext Demo.frame.hdr.seqLo = ((Demo.linkUp 23).link 23).rxNext) := by decide

/-- The hypotheses of GaitCommandsComplete are met (2 of 2). -/
theorem test_hyps_GaitCommandsComplete_2 :
    (({ Occ.fresh 0 0 0 true with done := true } : Occ).rxOutcome.isSome = true) ∧
  (Demo.postLoose.serving = true ∧ Demo.postLoose.boot.post = true ∧ 0 < Demo.postLoose.ports ∧
    ((Demo.postLoose.looseOf 0).filter fun x => x.f.hdr.ftype == 1 && decide (x.at_ + Demo.postLoose.rd Page.cmb Reg.CMB_CFG.AGE_US * 1000 ≤ Demo.postLoose.now)) ≠ []) := by decide

/-- The hypotheses of ReduceCommandsComplete are met. -/
theorem test_hyps_ReduceCommandsComplete :
    (mayWrite .pf (Page.red 0) = true ∧ Demo.redDesc.descCode Demo.redDesc.redSel Demo.redDesc.redWin = 0 ∧ Demo.redDesc.redSel ≠ 0xFFF ∧
    Demo.up.descCode Demo.up.redSel Demo.up.redWin ≠ 0 ∧ Demo.up.descInUse Demo.up.redSel = false ∧ (Demo.up.root Demo.up.redSel).open_ = []) ∧
  ((Demo.withInst false).serving = true ∧ RedDesc.deadline ((Demo.withInst false).desc 4094) ≠ 0 ∧
    RedDesc.deadline ((Demo.withInst false).desc 0) = 0 ∧ (((Demo.withInst false).root 4094).open_.find? fun i => i.index == 0) = some (Demo.inst false) ∧
    (Demo.withInst true).mount = true ∧
    (((Demo.withInst true).root 4094).insts.find? fun i => i.index == 0 && i.writing) = some (Demo.inst true)) ∧
  (Demo.withEntry.serving = true ∧ Demo.withEntry.boot.post = true ∧ SMap.find? Demo.withEntry.cmb.entries 0 = some Demo.entry ∧
    Demo.entry.parts = [(1, 5, 7, 1)] ∧ SMap.find? Demo.withEntry.cmb.entries 1 = some { Demo.entry with parts := [] }) := by decide

/-- The hypotheses of CoherenceCommandsComplete are met. -/
theorem test_hyps_CoherenceCommandsComplete :
    (Demo.herd.mount = true ∧ Demo.herd.cohSender 8 0 = some 1 ∧ Demo.herd.cohHeld 0 = false ∧ Demo.herd.cohRefused 8 1 1 0 = none ∧ Demo.herd.cohRefused 8 1 0 0 = none ∧
    Demo.herd.coh.waits = [] ∧ Demo.herd.dirLine 0 = DirLine.empty ∧ Demo.herd.setFull 0 = false ∧ Demo.herd.herdSlot 8 = some 1 ∧
    Demo.herd.computeReset = false ∧ Demo.herd.selfRank ≠ some 8) ∧
  ((Demo.herdLine { st := .modified 1, tx := none, queue := [], used := 0 }).cohSender 8 0 = some 1 ∧
    ((0x06 : BitVec 8) &&& ~~~slotMask 1 == 0) = false) ∧
  ((({ Demo.herd.coh with flushWait := 2 } : Coh).flushWait).getLsbD 1 = true ∧ SMap.find? [(0, (1, 2, 3))] 0 = some (1, 2, 3)) ∧
  (Demo.up.boot.post = false ∧ mayWrite .pf Page.coh = true ∧ Demo.up.rdb Page.coh Reg.COH_STATUS.ACTIVE = false ∧ Demo.up.herdCode ≠ 0 ∧
    (Demo.herd.wr Page.coh Reg.COH_STATUS.ACTIVE 0).herdCode = 0) := by decide

/-- The hypotheses of ComputePortCommandsComplete are met. -/
theorem test_hyps_ComputePortCommandsComplete :
    (Demo.mem.reqReady (Demo.req 0x1000) = true ∧ (Demo.req 0x1000).gen = Demo.mem.rd Page.fe Reg.FE_GEN.GEN ∧
    Demo.mem.dest (Demo.req 0x1000).addr = .here 0x1000 ∧ shapeStatus 1 0x1000 (dcpLen (Demo.req 0x1000)) = 0 ∧
    Demo.mem.rdb Page.coh Reg.COH_STATUS.ACTIVE = false ∧ Demo.mem.holding = false ∧ dcpClass (Demo.req 0x1000) ≠ 0) ∧
  (Demo.mem.checkRange Demo.dma 0 0x1000 8 = none ∧ (Demo.mem.readRange 0 0x1000 8).2.1 = 0 ∧ Demo.mem.checkRange Demo.dma 1 0x1000 8 = none ∧
    (Demo.mem.readRange 0 0x1000 8).2.1 = 0 ∧
    ((List.range 8).all fun i => bit (Demo.req 0x1000).wstrb i) = true) ∧
  (Demo.mem.checkRange Demo.dma 2 0x1000 8 = none ∧ Demo.mem.rangeHeld 0 0x1000 8 = false ∧ Demo.mem.rangeHeld 1 0x1000 8 = false ∧
    Demo.mem.rangeHeld 2 0x1000 8 = false) ∧
  (Demo.herd.reqReady (Demo.req (8 * 2 ^ 45)) = true ∧ Demo.herd.dest (8 * 2 ^ 45 / 64 * 64) = .far 8 0 ∧ Demo.herd.herdSlot 8 = some 1 ∧ Demo.herd.mute = false) := by decide

set_option maxRecDepth 8000 in
/-- The store of ComputePortCommandsComplete and RemoteCommandsComplete is not refused for poison. -/
theorem test_hyps_memoryWrite : (Demo.mem.writeRange 1 0x1000 (List.replicate 8 1) 0 false).1 = true :=
  by decide

/-- The hypotheses of RemoteCommandsComplete are met. -/
theorem test_hyps_RemoteCommandsComplete :
    (Demo.mem.mount = true ∧ Demo.mem.localOff (Demo.rmtRec 0x1000).addr = some 0x1000 ∧ Demo.mem.memOpen = true ∧ 0x1000 < Demo.mem.capacity ∧
    shapeStatus 1 0x1000 8 = 0 ∧ Demo.mem.rdb Page.coh Reg.COH_STATUS.ACTIVE = false ∧ Demo.mem.holding = false) ∧
  (Demo.mem.checkRange Demo.far 0 0x1000 8 = none ∧ Demo.mem.checkRange Demo.far 1 0x1000 8 = none ∧
    Demo.mem.checkRange Demo.far 2 0x1000 8 = none ∧ Demo.mem.behind (homeAcc 1 0x1000 (Demo.rmtRec 0x1000)) = false ∧
    Demo.mem.rangeHeld 0 0x1000 8 = false ∧ Demo.mem.rangeHeld 1 0x1000 8 = false ∧ Demo.mem.rangeHeld 2 0x1000 8 = false) ∧
  ((Demo.mem.ratFind 0x1000).isSome = true ∧ Demo.mem.checkAt Demo.far 2 0x1000 = none ∧ Demo.mem.rd Page.gw Reg.GW_TOKENn.OWNER 0 = 0 ∧ bits (0 : Nat) 16 16 = 0) ∧
  (([Demo.rmtReq].find? fun r => r.sent && r.tag == 1 && r.dst == 8) = some Demo.rmtReq ∧
    ([Demo.rmtReq].find? fun r => r.sent && r.tag == 1) = some Demo.rmtReq ∧ Demo.rmtReq.op = 1 ∧
    (Demo.linkUp 23).usablePlanes ≠ (Demo.linkUp 23).fab.planes ∧ Demo.up.outReqs = []) := by decide

set_option maxRecDepth 8000 in
/-- The hypotheses of GatewayCommandsComplete are met. -/
theorem test_hyps_GatewayCommandsComplete :
    (Demo.mem.enterDst (Demo.gw 0x10) = .inl (some (GwDst.open_ 0 0)) ∧ (GwDst.open_ 0 0).isDone 0 = false ∧
    (GwDst.open_ 0 0).turn 1 (Demo.gw 0) = true ∧ (GwDst.open_ 0 0).turn 2 (Demo.gw 0) = true ∧
    (GwDst.open_ 0 0).turn 4 (Demo.gw 0x10) = true ∧ Demo.mem.localOff (Demo.gw 0).addr = some 0x1000) ∧
  (((Demo.mem.setDst (8 * 4096) { GwDst.open_ 0 0 with held := [(1, Demo.gw 0)] }).gwReady 0x1000 8 true).1 = true ∧
    ((Demo.mem.setDst (8 * 4096) { GwDst.open_ 0 0 with held := [(1, Demo.gw 0)] }).gwReady 0x1000 8 false).1 = true ∧
    (((Demo.mem.setDst (8 * 4096) { GwDst.open_ 0 0 with held := [(1, Demo.gw 0)] }).gwReady 0x1000 8 false).2.readAs (Master.remote 8 1) 0x1000 8).status = St.OK) ∧
  (Demo.source.findOp (Demo.gw 0) = some Demo.op ∧ Demo.op.kind = 1 ∧
    ((Demo.source.gwSrc (8 * 4096)).ops.find? fun o => o.seq == 0 && o.sent && o.result.isNone) = some Demo.op ∧
    Demo.op.resends < Demo.source.rd Page.gw Reg.GW_BULK_CFG.RETRY_MAX) ∧
  (({ Demo.up with fab := { Demo.up.fab with dsts := [(0, GwDst.open_ 0 0)] } } : State).gwDst 0 = some (GwDst.open_ 0 0)) := by decide

set_option maxRecDepth 8000 in
/-- The put of GatewayCommandsComplete answers OK in a concrete state. -/
theorem test_hyps_GatewayPut :
    (((Demo.mem.setDst (8 * 4096) { GwDst.open_ 0 0 with held := [(1, Demo.gw 0)] }).gwReady 0x1000 8 true).2.writeAs (Master.remote 8 1) 0x1000
      [1, 2, 3, 4, 5, 6, 7, 8]).status = St.OK :=
  by decide

set_option maxRecDepth 8000 in
/-- The atomic of GatewayCommandsComplete answers OK in a concrete state. -/
theorem test_hyps_GatewayAtomic :
    (((Demo.mem.setDst (8 * 4096) { GwDst.open_ 0 0 with held := [(1, Demo.gw 0)] }).gwReady 0x1000 8 true).2.atomicAs (Master.remote 8 1) 0x1000 4 0 1 2).status = St.OK :=
  by decide

/-- The hypotheses of HitchCommandsComplete are met (1 of 2). -/
theorem test_hyps_HitchCommandsComplete :
    (let s := Demo.ctr .idle;
    s.serving = true ∧ s.boot.post = true ∧ s.portUp 1 = true ∧ s.rdb Page.hitch Reg.HITCH_CTRL.EN = true ∧ (s.ctr 0).valid = true ∧
    (s.ctr 0).children.getLsbD 1 = true ∧ (s.ctr 0).epoch = 0 ∧ (s.ctr 0).state = .idle ∧ mayWrite .pf Page.hitch = true) ∧
  ((Demo.ctr .waitRel).portUp 2 = true ∧ ((Demo.ctr .waitRel).ctr 0).parent = 2 ∧ ((Demo.ctr .collecting).ctr 0).state = .collecting) ∧
  (Demo.member.serving = true ∧ Demo.member.boot.post = false ∧ Demo.member.portUp 0 = true ∧ Demo.member.joined 1 = true ∧
    joinCommit (Demo.member.joinOf 1) = false ∧ (SMap.find? Demo.member.sync.waiting 1).isSome = true ∧ Demo.member.mount = true ∧
    (0, 1) ∉ Demo.member.sync.seenStops) ∧
  ((Demo.member.sync.history.find? fun h => h.1 == 3 && 0 == Demo.member.sync.commitHid) = some (3, true, 0) ∧
    (Demo.member.sync.history.find? fun h => h.1 == 4 && 0 == Demo.member.sync.commitHid) = none ∧
    Demo.member.sync.stepState = .deciding ∧ Demo.member.epochOf 0 = 4) ∧
  (let s := (Demo.ctr .idle).wr Page.hitch Reg.HITCH_WINw.DATA 6 0;
    s.hitchWin 0 ≠ 0 ∧ s.badChildren (s.hitchWin 0) 0 true = false ∧ s.badChildren (s.hitchWin 0) (bits (s.hitchWin 1) 2 6) (bit (s.hitchWin 1) 1) = false) ∧
  (((Demo.ctr .heldForMembers).wr Page.hitch Reg.HITCH_WINw.DATA 8 0).badChildren 8 ((Demo.ctr .heldForMembers).ctr 0).parent false = false) := by decide

/-- The hypotheses of HitchCommandsComplete are met (2 of 2). -/
theorem test_hyps_HitchCommandsComplete_2 :
    (let s := Demo.ctr .idle; s.armedAt Page.hitch Err.hitch.COUNTER_CHECK ≠ some 0 ∧ (s.ctr 0).children &&& ~~~portMask 1 ≠ 0 ∧
    (let c := (s.setCtr 0 { s.ctr 0 with children := portMask 1, root := false }).ctr 0
     c.state = .idle ∧ c.children &&& ~~~portMask 1 = 0 ∧ c.children ≠ 0 ∧ c.root = false)) ∧
  (let s := Demo.ctr .heldForMembers; (s.ctr 0).state = .heldForMembers ∧ s.boot.svcHalted = false ∧
    s.armedAt Page.hitch Err.hitch.COUNTER_CHECK ≠ some 0) ∧
  (SMap.getD Demo.member.sync.ahead 0 1 = 0 ∧ Demo.member.sync.commitHid = 0 ∧ Demo.member.commitEpoch = 4) := by decide

set_option maxRecDepth 8000 in
/-- The hypotheses of CommitAndStopCommandsComplete are met (1 of 2). -/
theorem test_hyps_CommitAndStopCommandsComplete :
    (Demo.member.mount = true ∧ Demo.member.sync.stepState = .deciding ∧ Demo.member.sync.queries = 0 ∧ Demo.member.serving = true ∧
    Demo.member.sync.stopped = false ∧ Demo.member.dtNs = 0) ∧
  ((Demo.withPkt 0x64 0 0x40 0).ready 0 0x64 = true ∧ ((Demo.withPkt 0x64 0 0x40 0).pkt 0).isSome = true ∧ bit ((Demo.packet 0x64 0 0x40 0).f 16 8) 0 = false ∧
    bits ((Demo.packet 0x64 0 0x40 0).f 16 8) 29 3 = 0 ∧ bits ((Demo.packet 0x64 0 0x40 0).f 16 8) 60 4 = 0) ∧
  ((Demo.withPkt 0x65 0 1 0).ready 0 0x65 = true ∧ bit ((Demo.packet 0x65 0 1 0).f 16 8) 0 = true ∧ joinPlane ((Demo.packet 0x65 0 1 0).f 16 8) < Demo.up.ports ∧
    joinCommit ((Demo.packet 0x65 0 1 0).f 16 8) = false) ∧
  ((Demo.withPkt 0x66 0 0x100 0).ready 0 0x66 = true ∧ (Demo.packet 0x66 0 0x100 0).f 24 2 % 1024 = 0 ∧ (Demo.withPkt 0x66 0 0x100 0).joined 0 = true ∧
    joinCommit ((Demo.withPkt 0x66 0 0x100 0).joinOf 0) = true ∧ (Demo.withPkt 0x66 0 0x100 0).sync.stepState = .running) ∧
  ((Demo.withPkt 0x67 0 0x4000000 0).ready 0 0x67 = true ∧ (Demo.packet 0x67 0 0x4000000 0).f 16 8 = 0x4000000 ∧
    (Demo.withPkt 0x67 0 0x4000000 0).activePeriod = 0x10000 ∧ (Demo.withPkt 0x67 0 0x4000000 0).timeState ≠ 0 ∧ (Demo.withPkt 0x67 0 0x4000000 0).dtNs = 0) ∧
  ((Demo.hold Demo.member (Demo.packet 0x69 4 0 0)).ready 0 0x69 = true ∧ (Demo.packet 0x69 4 0 0).f 8 2 = 4 ∧ Demo.member.epochOf 0 = 4) := by decide

set_option maxRecDepth 8000 in
/-- The hypotheses of CommitAndStopCommandsComplete are met (2 of 2). -/
theorem test_hyps_CommitAndStopCommandsComplete_2 :
    (let s : State := { Demo.member with sync := { Demo.member.sync with stepState := .draining } }; s.mount = true ∧
    s.joined s.sync.commitHid = true) ∧
  (let s : State := { Demo.member with sync := { Demo.member.sync with queries := 1, stopArmed := true, stopDt := some 0, stopped := true } };
    s.mount = true ∧ s.sync.stepState = .deciding ∧ s.joined s.sync.commitHid = true ∧ s.sync.queries ≠ 0 ∧ s.sync.stopArmed = true ∧
    0 ≤ s.dtNs ∧ s.serving = true) ∧
  (let x := Demo.packet 0x66 0 0x100 0; let u := Demo.perf (Demo.withPkt 0x66 0 0x100 0) x
    (({ u with sync := { u.sync with record := some 0x100 } } : State).saveRecord.finish 0 St.OK).blocked = false) ∧
  (let x := Demo.packet 0x67 0 0x4000000 0; let u := Demo.perf (Demo.withPkt 0x67 0 0x4000000 0) x
    ((u.armStop 0x4000000).finish 0 St.OK).blocked = false) ∧
  (let x := Demo.packet 0x69 4 0 0; let u := Demo.perf (Demo.hold Demo.member x) x
    (((u.applyDecision (bit (x.f 10 1) 0) 0).fabGo).finish 0 St.OK).blocked = false) := by decide

/-- The hypotheses of MemoryCommandsComplete are met (1 of 2). -/
theorem test_hyps_MemoryCommandsComplete :
    (Demo.up.mount = true ∧ 0 < Demo.up.channels ∧ 1 < Demo.up.channels ∧ (Demo.up.chan 0).trained = false ∧ (Demo.up.chan 1).trained = false ∧
    (Demo.up.clipPages 25165824).isSome = true ∧ Demo.mem.memOpen = true ∧ Demo.mem.istate ≠ 3) ∧
  (let s := Demo.mem.setChan 0 { Chan.empty with leaves := [(0, { major := 1, minors := [(0, 1)] })] };
    SMap.getD (s.leaf 0 0).minors 0 0 ≠ 0 ∧ s.memOpen = true ∧ s.mount = true) ∧
  (mayWrite .pf (Page.mch 0) = true ∧ Demo.mem.ratCode 0 Demo.mem.ratWin false = 0 ∧
    (Demo.mem.wr (Page.mch 0) Reg.RAT_WINw.DATA 1 0).ratCode 0 (Demo.mem.wr (Page.mch 0) Reg.RAT_WINw.DATA 1 0).ratWin false = 2 ∧
    Demo.up.locked (Page.mch 0) = false ∧ (Demo.up.mem.rat.any fun e => e.2.valid) = false ∧ Demo.up.farRunning = false ∧
    Demo.up.mem.ready = false) ∧
  (([(0, none)].find? fun e : Nat × Option Nat => e.1 == 0) = some (0, none) ∧ [((0 : Nat), (none : Option Nat))].erase (0, none) = []) ∧
  (let s := Demo.sealable 0; let x := Demo.packet 0x6A (3 * 2 ^ 32) 0 0;
    (Demo.hold s x).ready 0 0x6A = true ∧ x.f 8 1 = 0 ∧ bits (x.f 12 1) 0 5 = 3 ∧ (s.ratAt 0).valid = true ∧ (s.ratAt 0).sealed = false ∧
    (s.ratAt 0).sealState = 0 ∧ (s.ratAt 0).tx = false ∧ (s.slot 3).kind = 6 ∧ (s.slot 3).state = 1) ∧
  ((Demo.sealable 3).filling 0 = true ∧ (Demo.sealable 3).mount = true) := by decide

/-- The hypotheses of MemoryCommandsComplete are met (2 of 2). -/
theorem test_hyps_MemoryCommandsComplete_2 :
    (let x := Demo.packet 0x6B 0 0x1000 256;
    let s := Demo.hold (Demo.sealable 3) x;
    let s := (s.setRat 1 (Demo.mem.ratAt 0)).setRat 0 { (s.ratAt 0) with w1 := BitVec.ofNat 64 (2 ^ 24 + 1) };
    s.ready 0 0x6B = true ∧ x.f 8 1 = 0 ∧ x.f 16 8 = 0x1000 ∧ s.filling 0 = true ∧
    (s.calm.setPkt 0 { x with performed := true }).checkRange Master.pf 0 0x1000 (x.f 24 8) = none) := by decide

/-- The hypotheses of CounterTreeCommandsComplete are met. -/
theorem test_hyps_CounterTreeCommandsComplete :
    (let s := Demo.mem.setChan 0 { Chan.empty with reencQueue := [{ level := 1, index := 5, forced := false }], reenc := [{ level := 1, index := 6, forced := false }] };
    s.mount = true ∧ s.memOpen = true ∧ 0 < s.channels ∧ (s.chan 0).reencQueue = { level := 1, index := 5, forced := false } :: [] ∧
    s.slotsOpen 0 < 112 ∧ s.mrOn = true ∧ (s.chan 0).slotOf 1 6 = some { level := 1, index := 6, forced := false }) ∧
  (let s := (Demo.mem.setChan 0 { Chan.empty with capPages := 25165824 }).wr (Page.mch 0) Reg.MCHn_TREE_SEL.LEVEL 1;
    s.treeCmdCode 0 false = 0 ∧ s.treeCmdCode 0 true = 0 ∧ mayWrite .pf (Page.mch 0) = true ∧ s.haPending 0 = false ∧
    (s.chan 0).token ≠ some .walk ∧ .walk ∉ (s.chan 0).tokenWait) ∧
  (let s := Demo.mem.setChan 0 { Chan.empty with token := some .rebuild, rebuilds := [{ level := 1, index := 0, retire := false, byHost := true, triage := false }] };
    (s.chan 0).token = some .rebuild ∧ (s.chan 0).rebuilds = [{ level := 1, index := 0, retire := false, byHost := true, triage := false }] ∧
    s.rebuildHeld 0 1 0 = false ∧
    ((Demo.mem.chan 0).rebuilds.any fun x => x.byHost) = false) ∧
  (((Demo.mem.setChan 0 { Chan.empty with token := some .walk }).chan 0).token = some .walk ∧ (Demo.mem.chan 0).token = none ∧
    (Demo.mem.chan 0).tokenWait = [] ∧ ({ Demo.mem with power := { Demo.mem.power with mrOff := true } } : State).mrOn = false ∧
     Demo.mem.rdb (Page.mch 0) Reg.MCH_CTRL.SCRUB_EN = true ∧ (TokenUse.scrub ≠ .reenc)) := by decide

/-- The hypotheses of FarrierCommandsComplete are met. -/
theorem test_hyps_FarrierCommandsComplete :
    (Demo.mem.farCode = 0 ∧ mayWrite .pf (Page.mch 0) = true ∧ Demo.mem.channels ≠ 0 ∧
    (Demo.mem.wr (Page.mch 0) Reg.FAR_CFG.AUTO_HOURS 1).rd (Page.mch 0) Reg.FAR_CFG.AUTO_HOURS ≠ 0) ∧
  (let s := (({ Demo.mem with mem := { Demo.mem.mem with keyNext := some 0 } } : State).setChan 0 { Chan.empty with farState := 1, token := some .farrier, steps := [0] });
    s.mount = true ∧ s.memOpen = true ∧ s.farRunning = true ∧ s.farWake 0 = s ∧ s.farMayStep 0 = true ∧ (s.chan 0).token = some .farrier ∧
    s.farByGrant = false ∧ s.farUrgent 0 = false ∧ (s.chan 0).steps = 0 :: []) ∧
  (Demo.mem.mem.farCut = false ∧ fieldOf 5 0 25 ≠ 0 ∧ Demo.mem.boot.svcHalted = false) ∧
  (({ Demo.mem with mem := { Demo.mem.mem with keyNext := some 0, farHost := true } } : State).farByGrant = true) := by decide

set_option maxRecDepth 8000 in
/-- The hypotheses of FrontEndCommandsComplete are met (1 of 3). -/
theorem test_hyps_FrontEndCommandsComplete :
    (Demo.withQueue.feUp = true ∧ Demo.withQueue.dbQueue .pf 0 = some 0 ∧ (Demo.withQueue.queue 0).state ≠ .absent ∧
    ((8#32).toNat + 2 ^ 32 - (Demo.withQueue.queue 0).wptr) % 2 ^ 32 < 2 ^ 31 ∧
    ((8#32).toNat + 2 ^ 32 - (Demo.withQueue.queue 0).rptr) % 2 ^ 32 ≤ (Demo.withQueue.queue 0).slots) ∧
  (let s : State := { Demo.withQueue with pins := { Demo.withQueue.pins with linkUp := true } };
    s.sliceOk 0 = true ∧ s.rdb Page.fe Reg.FE_CTRL.EN = true ∧ s.pickQueue 0 = some 0) ∧
  (let s : State := { Demo.withQueue with front := { Demo.withQueue.front with fetching := [(0, 0)] } };
    (SMap.find? s.front.fetching 0).isSome = true ∧ (s.queue 0).avail ≠ 0 ∧
    formatStatus false true 0 0 (s.rd Page.ver Reg.VER_FORMATS.PKT) 4 (Demo.packet 0x101 0 0 0).bytes = 0 ∧
    formatStatus false true 0 0 (s.rd Page.ver Reg.VER_FORMATS.PKT) 4 (Demo.packet 1 0 0 0).bytes ≠ 0) ∧
  (let s := Demo.waiting (Demo.packet 0x101 0 0 0); let x := { Demo.packet 0x101 0 0 0 with started := false }; s.pkt 0 = some x ∧ x.started = false ∧ x.result = none ∧ (s.queue x.queue).state = .ready ∧
    s.orderOk 0 x = true ∧ (s.queue x.queue).kernel = true ∧ s.step6 x = none ∧ s.badCtl x = none ∧ s.memOpen = true) ∧
  ((Demo.withPkt 0x101 0 0 0).ready 0 1 = true ∧ (Demo.withPkt 0x102 0 0 0).ready 0 2 = true ∧ (Demo.hold Demo.up Demo.persistPkt).ready 0 9 = true ∧
    ((Demo.hold Demo.up Demo.persistPkt).queue Demo.persistPkt.target).bind = 0 ∧
    ((Demo.hold Demo.up Demo.persistPkt).pktsOf Demo.persistPkt.target).isEmpty = true ∧
    ((Demo.hold Demo.up Demo.persistPkt).queue Demo.persistPkt.target).ctx = (Demo.hold Demo.up Demo.persistPkt).pktCtx Demo.persistPkt) ∧
  (let s := Demo.task; let x := { Demo.packet 0x10A 8 0 0 with queue := 1 }; s.pkt 0 = some x ∧ s.ready 0 0x0A = true ∧ s.msgReady 0 x = true ∧
    (s.taskOf x.queue).isSome = true) := by decide

set_option maxRecDepth 8000 in
/-- The hypotheses of FrontEndCommandsComplete are met (2 of 3). -/
theorem test_hyps_FrontEndCommandsComplete_2 :
    (let s := Demo.launching; let x := { Demo.packet 0x102 0 0 0 with performed := true }; s.pkt 0 = some x ∧ x.opcode = 2 ∧ s.mayDispatch = true ∧
    chooseSeqs (s.seqsFor x) x.width = some [] ∧ s.feUp = true ∧ s.memOpen = true) ∧
  (let x := { Demo.packet 0x101 0 0 0 with result := some 0, ended := EndWord.done }; (Demo.hold Demo.up x).pkt 0 = some x ∧ x.opsOut = 0 ∧ x.launch = none ∧
    (Demo.hold Demo.up x).inOcc 0 = false ∧ x.graph = none ∧ x.graphVer = none) ∧
  (Demo.up.present (kqPage 0) = true ∧ mayWrite .pf (kqPage 0) = true ∧ Demo.up.locked (kqPage 0) = false ∧ Demo.up.badVec 0 0x88 = false) ∧
  (mayWrite .pf Page.fe = true) ∧
  (let x := { Demo.packet 0x101 0 0 0 with started := false }; ((Demo.waiting (Demo.packet 0x101 0 0 0)).calm.startPkt 0 x).blocked = false) ∧
  (let x := { Demo.packet 1 0 0 0 with started := false, queue := 1 }; let t := Demo.tables x
    let s : State := { t with front := { t.front with queues := [(1, { Queue.absent with state := .ready, wptr := 4 })] } }
    s.feUp = true ∧ s.pkt 0 = some x ∧ (s.queue 1).kernel = false ∧ s.orderOk 0 x = true ∧ (s.objs.slots.any (·.ctx == 0)) = false ∧
    s.calm.ctxChecked 0 0 = true ∧ (s.calm.loadCtx 0).isSome = true ∧ (((s.calm.loadCtx 0).getD s).startPkt 0 x).blocked = false) := by decide

set_option maxRecDepth 8000 in
/-- The hypotheses of FrontEndCommandsComplete are met (3 of 3). -/
theorem test_hyps_FrontEndCommandsComplete_3 :
    (let x := { Demo.packet 1 0 0 0 with started := false, queue := 1 }; let t := Demo.tables x
    let s : State := { t with front := { t.front with queues := [(1, { Queue.absent with state := .ready, wptr := 4, ctx := 9 })] } }
    s.orderOk 0 x = true ∧ (s.objs.slots.any (·.ctx == 9)) = false ∧ s.calm.ctxChecked 0 9 = false ∧ (s.calm.startPkt 0 x).blocked = false) ∧
  (let x := { Demo.packet 0x10B 5 0 0 with started := false, queue := 1 }; let t := Demo.tables x
    let s : State := { t with
      mem := { t.mem with bytes := SMap.set (SMap.set t.mem.bytes 368 2) 376 1 }
      front := { t.front with queues := [(1, { Queue.absent with state := .ready, wptr := 4 })] } }
    x.opcode = 0x0B ∧ s.step6 x = none ∧ s.badCtl x = none) ∧
  ((Demo.hold Demo.up Demo.persistPkt).targetFree Demo.persistPkt = true) ∧
  (let x := { Demo.packet 0x101 0 0 0 with result := some 0, ended := EndWord.done }; (((Demo.hold Demo.up x).calm.retireQueue 0)).blocked = false) := by decide

set_option maxRecDepth 8000 in
/-- The hypotheses of PacketCommandsComplete are met (1 of 3). -/
theorem test_hyps_PacketCommandsComplete :
    (({ Demo.withQueue with front := { Demo.withQueue.front with queues := [(0, { Queue.absent with bind := 1 })], pkts := [(0, Demo.packet 0x103 0 0 0)] } } : State).boundPkt 0 = true) ∧
  (let x := Demo.copy 0x1000 0x2000 0; let s := Demo.memPkt x; let u := Demo.perf s x; let v := (u.copyLines x).2
    s.boundPkt 0 = false ∧ s.ready 0 3 = true ∧ s.pkt 0 = some x ∧ u.copyStatus x = 0 ∧ u.copyHeld x = false ∧ (u.copyLines x).1 = true ∧
    v.copyRemote x = none ∧ sideOff (v.copySrc x) = some 0x1000 ∧ (State.moverLocal (x.f 24 5 / moverPiece + 1) 0 x 0x1000 0 false v).blocked = false) ∧
  (let x := Demo.copy (8 * 2 ^ 45) 0x2000 0; let s := Demo.memPkt x; let u := Demo.perf s x; let v := (u.copyLines x).2
    s.boundPkt 0 = false ∧ s.ready 0 3 = true ∧ u.copyStatus x = 0 ∧ u.copyHeld x = false ∧ (u.copyLines x).1 = true ∧ (v.copyRemote x).isSome = true ∧
    (v.copySrc x).isSome = true ∧ ((v.copyOps 8 0).copyEnd 0).blocked = false) ∧
  (let x := Demo.copy 0x1000 0x2000 1; let s := Demo.memPkt x; let u := Demo.perf s x; let v := (u.copyLines x).2
    s.boundPkt 0 = false ∧ s.ready 0 3 = true ∧ u.copyStatus x = 0 ∧ u.copyHeld x = false ∧ (u.copyLines x).1 = true ∧ v.copySrc x = none ∧
    (v.moverAsk 0).blocked = false) ∧
  (let x := Demo.packet 0x104 0x1000 0 0
    let s := ({ Demo.memPkt x with
      objs := { (Demo.memPkt x).objs with ctxBaseSet := true }
      red := { (Demo.memPkt x).red with desc := [(0, [0x1001, 0x1000, 1, 0, 0, 0, 0, 0])] } } : State)
    let u := Demo.perf s x
    let d := s.desc 0
    let len := spanBytes (RedDesc.nset d).fmt (RedDesc.nset d).fvar (RedDesc.elems d)
    let k := u.prepLines (u.herdLines 0x1000 len) false
    s.boundPkt 0 = false ∧ s.ready 0 4 = true ∧ s.pkt 0 = some x ∧ x.f 16 2 % 4096 = 0 ∧ RedDesc.valid d = true ∧ RedDesc.kind d = 0 ∧
    RedDesc.loc d = true ∧ u.localOff (x.f 8 8) = some 0x1000 ∧ (u.root 0).stalled = false ∧ k.1 = true ∧ k.2.rangeHeld 0 0x1000 len = false ∧
    (k.2.readAs (u.ctxMaster (u.pktCtx x)) 0x1000 len).status = St.OK) ∧
  (let x := Demo.packet 0x105 0 0 0; let s := Demo.withPkt 0x105 0 0 0; s.ready 0 5 = true ∧ s.pkt 0 = some x ∧
    (((Demo.perf s x).applySignal 0 0).finish 0 St.OK).blocked = false) := by decide

set_option maxRecDepth 8000 in
/-- The hypotheses of PacketCommandsComplete are met (2 of 3). -/
theorem test_hyps_PacketCommandsComplete_2 :
    (let x := Demo.packet 0x106 0 3 0; let s := Demo.fenced x 5; let u := (Demo.perf s x).useFence 0
    s.ready 0 6 = true ∧ (s.fenceSlot (x.f 8 2)).isSome = true ∧ (u.fenceNow (x.f 8 2)).2.2 = none ∧ x.f 16 8 ≤ (u.fenceNow (x.f 8 2)).1 ∧
    (u.finish 0 St.OK).blocked = false) ∧
  (let x := Demo.packet 0x106 0 3 0; let s := Demo.fenced x 2; let u := (Demo.perf s x).useFence 0
    s.ready 0 6 = true ∧ (s.fenceSlot (x.f 8 2)).isSome = true ∧ (u.fenceNow (x.f 8 2)).2.2 = none ∧ (u.fenceNow (x.f 8 2)).1 < x.f 16 8 ∧
    u.blocked = false) ∧
  (let x := Demo.packet 0x107 0 3 0; let s := Demo.fenced x 5; let u := (Demo.perf s x).useFence 0
    s.ready 0 7 = true ∧ (s.fenceSlot (x.f 8 2)).isSome = true ∧ (u.fenceNow (x.f 8 2)).2.2 = none ∧ x.f 16 8 ≤ (u.fenceNow (x.f 8 2)).1 ∧
    0 < (u.fenceNow (x.f 8 2)).2.1 ∧ ((u.fencePut 0 5 0 none).finish 0 St.OK).blocked = false) ∧
  (let s := Demo.waits; s.feUp = true ∧ (Demo.packet 0x106 0 3 9).opcode = 6 ∧ (Demo.packet 0x106 0 3 9).started = true ∧
    (Demo.packet 0x106 0 3 9).ended = .none ∧ (Demo.packet 0x106 0 3 9).f 24 4 ≠ 0 ∧ s.pkt 0 = some (Demo.packet 0x106 0 3 9)) ∧
  (let s := ({ Demo.fenced (Demo.packet 0x106 0 3 0) 5 with front := { Demo.up.front with slotWait := [0] } } : State);
    s.boot.phase = .running ∧ s.boot.post = false ∧ s.boot.svcHalted = false ∧
    mayWrite .pf Page.fns = true ∧ (s.fenceSlot 0).isSome = true ∧ s.waitersOf 0 = [] ∧ s.front.slotWait ≠ []) ∧
  (let x := Demo.packet 0x108 0x10001 0 0; let s := Demo.memPkt x; let u := Demo.perf s x
    s.ready 0 8 = true ∧ s.pkt 0 = some x ∧ x.f 10 1 = 1 ∧ (u.queue (x.f 8 2)).ctx = u.pktCtx x ∧ (u.queue (x.f 8 2)).bind = 0 ∧ u.pktsOf (x.f 8 2) = [] ∧
    u.bindsFull x.fn = false ∧
    ((((u.useAdd x.fn Reg.VFn_USE0.BINDS true).setQueue 1 { u.queue 1 with bind := 1 }).finish 0 St.OK).blocked = false)) := by decide

set_option maxRecDepth 8000 in
/-- The hypotheses of PacketCommandsComplete are met (3 of 3). -/
theorem test_hyps_PacketCommandsComplete_3 :
    (let x := Demo.packet 0x108 0x30001 0 0; let s := Demo.memPkt x; let u := Demo.perf s x
    s.ready 0 8 = true ∧ x.f 10 1 = 3 ∧ SMap.find? u.front.rings (x.f 11 1) = none ∧ u.bindsFull x.fn = false) ∧
  (let x := Demo.packet 0x161 0 0x1000 (2 ^ 4); let s := Demo.memPkt x; let u := Demo.perf s x
    let h := u.readAs Master.pf 0x1000 (min (x.f 24 4) 64)
    s.ready 0 0x61 = true ∧ s.boot.post = false ∧ u.localOff (x.f 16 8) = some 0x1000 ∧ x.f 24 4 ≠ 0 ∧ h.status = St.OK ∧
    h.st.headDecides h.data (x.f 24 4) = true ∧ (h.st.finishLoad 0 (x.f 8 1 % 64) h.data (x.f 24 4)).blocked = false) ∧
  (let x := Demo.packet 0x161 0 0x1000 88
    let s := ({ Demo.memPkt x with mem := { (Demo.memPkt x).mem with bytes := Demo.imageHead } } : State)
    let u := Demo.perf s x
    let h := u.readAs Master.pf 0x1000 (min (x.f 24 4) 64)
    s.ready 0 0x61 = true ∧ x.f 24 4 ≠ 0 ∧ h.status = St.OK ∧ h.st.headDecides h.data (x.f 24 4) = false ∧
    (h.st.readAs Master.pf 0x1000 (imgLen h.data)).status = St.OK) ∧
  (let x := Demo.packet 0x161 0 0x1000 (2 ^ 4); let s := ({ Demo.post with front := { Demo.post.front with pkts := [(0, x)] } } : State)
    s.ready 0 0x61 = true ∧ s.boot.post = true ∧ ((Demo.perf s x).hostRead 0 (x.f 16 8) (min (x.f 24 4) 64) Use.IMAGE 0).blocked = false) ∧
  (let x := { Demo.packet 0x10B 0 0 0 with graphVer := some 0 }
    let s := ({ Demo.graph with front := { Demo.graph.front with pkts := [(0, x)] } } : State)
    let u := Demo.perf s x; let r := u.readPhys (u.objBase 0) (64 * bits (u.objW 0 7) 0 13)
    s.ready 0 0x0B = true ∧ s.pkt 0 = some x ∧ r.2.1 = 0 ∧ cutPackets (bits (u.objW 0 7) 0 13) r.1 ≠ []) := by decide

set_option maxRecDepth 8000 in
/-- The hypotheses of ObjectCommandsComplete are met (1 of 3). -/
theorem test_hyps_ObjectCommandsComplete :
    (let x := Demo.packet 0x142 (1 + 8 * 2 ^ 32) 0x10000 0; let s := Demo.tables x; let u := Demo.perf s x
    s.ready 0 0x42 = true ∧ s.pkt 0 = some x ∧ u.queueCode x = 0 ∧
    ((((u.noteCtx 0 0).createQueue 1 Queue.absent).ctxCount 0 1 0 true).finish 0 St.OK).blocked = false) ∧
  (let x := Demo.packet 0x143 1 0 0; let s := Demo.userQueue x; let u := Demo.perf s x
    s.ready 0 0x43 = true ∧ u.userQueueOf 0 1 = true ∧ (u.drainQueue 1 (some 0)).blocked = false) ∧
  (let x := Demo.packet 0x144 0x10001 2 0; let s := Demo.userQueue x; let u := Demo.perf s x
    s.ready 0 0x44 = true ∧ u.ctxLostBit (u.queue 1).ctx = false ∧ (u.queue 1).state = .error ∧
    (2 + 2 ^ 32 - (u.queue 1).rptr) % 2 ^ 32 ≤ (u.queue 1).avail ∧ x.f 10 1 = 1) ∧
  (let x := Demo.packet 0x144 0x20001 0 0; let s := Demo.userQueue x; let u := Demo.perf s x
    s.ready 0 0x44 = true ∧ u.userQueueOf 0 1 = true ∧ x.f 10 1 = 2 ∧ ((u.drainPkts 1).finish 0 St.OK).blocked = false) ∧
  ([3, 4, 5].all fun k =>
    let x := Demo.packet 0x144 (k * 2 ^ 16 + 1) 0 0; let s := Demo.userQueue x
    s.ready 0 0x44 && (Demo.perf s x).userQueueOf 0 1 && x.f 10 1 == k) = true ∧
  (let x := Demo.packet 0x140 0x10001 0 0; let s := Demo.tables x; let u := Demo.perf s x
    s.ready 0 0x40 = true ∧ u.tablesSet = true ∧ u.owns 0 .ctx 1 = true ∧ u.ctxValid 1 = false ∧ x.f 10 2 % 1024 = 1 ∧ u.owns 0 .share 1 = true ∧
    bit (x.f 14 1) 0 = false ∧
    ((((u.clearAt (u.ctxOff 1 0) 256).putW (u.ctxOff 1 0) (1 + 2 ^ 9) 8).useAdd 0 Reg.VFn_USE0.CTX true).finish 0 St.OK).blocked = false) := by decide

set_option maxRecDepth 8000 in
/-- The hypotheses of ObjectCommandsComplete are met (2 of 3). -/
theorem test_hyps_ObjectCommandsComplete_2 :
    (let x := Demo.packet 0x141 0 0 0; let s := Demo.tables x; let u := Demo.perf s x; let v := u.noteCtx 0 0
    s.ready 0 0x41 = true ∧ u.tablesSet = true ∧ v.ctxUsable 0 0 = true ∧ v.ctxQueues 0 = 0 ∧ ((v.destroyCtx 0).finish 0 St.OK).blocked = false) ∧
  (let x := Demo.packet 0x145 7 (2 ^ 25) 4096; let s := Demo.tables x; let u := Demo.perf s x; let v := u.noteCtx 0 0
    s.ready 0 0x45 = true ∧ u.owns 0 .obj 7 = true ∧ u.objValid 7 = false ∧ v.ctxUsable 0 0 = true ∧ v.rangeOwned 0 (2 ^ 25) 4096 = true ∧
    x.f 16 8 = 2 ^ 25 ∧ x.f 24 8 = 4096 ∧ (v.clearAt (v.objOff 7 0) 64).blocked = false) ∧
  (let x := Demo.packet 0x146 5 0 0; let s := Demo.tables x; let u := Demo.perf s x; let v := u.noteObj 0 5
    s.ready 0 0x46 = true ∧ v.objUsable 0 5 = true ∧ bit (x.f 14 1) 0 = false ∧ (((v.setObjState 5 1).dropRef 5).finish 0 St.OK).blocked = false) ∧
  (let x := Demo.packet 0x147 4 0 0; let s := Demo.tables x; let u := Demo.perf s x; let v := u.noteCtx 0 0
    s.ready 0 0x47 = true ∧ u.owns 0 .fence 4 = true ∧ u.fenceValid 4 = false ∧ v.ctxUsable 0 0 = true ∧
    (v.clearAt (v.fenceOff 4 0) 32).blocked = false) ∧
  (let x := Demo.packet 0x148 3 0 0; let s := Demo.tables x; let u := Demo.perf s x
    s.ready 0 0x48 = true ∧ u.owns 0 .fence 3 = true ∧ u.fenceChecked 0 3 = true ∧ u.fenceDying 3 = false ∧
    ((u.destroyFence 3 0x01).finish 0 St.OK).blocked = false) ∧
  (let x := Demo.packet 0x149 5 (2 ^ 25 + 4096) 1; let s := Demo.tables x; let v := (Demo.perf s x).noteObj 0 5
    let a := v.readAs (fnMaster 0) (2 ^ 25 + 4096) 64
    s.ready 0 0x49 = true ∧ v.objUsable 0 5 = true ∧ v.objGraph 5 = true ∧ x.f 24 2 = 1 ∧ 1 ≤ v.objSize 5 / 128 ∧
    bits (v.objW 5 6) 0 1 = 0 ∧ bits (v.objW 5 6) 32 16 = 0 ∧ a.status = St.OK ∧
    graphOk 1 (a.st.rd Page.ver Reg.VER_FORMATS.PKT) 0 1 a.data = true ∧
    (a.st.writePhys (a.st.objBase 5 + a.st.objSize 5 / 2) a.data 0 false).1 = true ∧
    (a.st.writePhys (a.st.objBase 5 + a.st.objSize 5 / 2) a.data 0 false).2.blocked = false) := by decide

set_option maxRecDepth 8000 in
/-- The hypotheses of ObjectCommandsComplete are met (3 of 3). -/
theorem test_hyps_ObjectCommandsComplete_3 :
    (let x := Demo.packet 0x162 9 0 0; let s := Demo.tables x; let u := Demo.perf s x
    s.ready 0 0x62 = true ∧ u.ratCode 9 x.ratEntry true = 0 ∧ ((u.ratStore 9 x.ratEntry (some 0)).tdiError x.ratEntry.names).blocked = false) ∧
  (mayWrite .pf Page.ctxs = true ∧ mayWrite .pf Page.fns = true ∧ Demo.mem.ctxValid (Demo.mem.rd Page.ctxs Reg.CTXS_QSEL.CTX) = false ∧
    (Demo.mem.haPost 4).haPending 4 = true ∧ (Demo.mem.haPost 4).boot.svcHalted = false) := by decide

set_option maxRecDepth 8000 in
/-- The hypotheses of RecoveryCommandsComplete are met (1 of 2). -/
theorem test_hyps_RecoveryCommandsComplete :
    (let s := Demo.task; s.feUp = true ∧ s.mount = true ∧ s.feGen = 0 ∧ (s.launchOf 2 7).isSome = true ∧ s.istate = 0 ∧ s.post = false ∧
    0 < s.build.lsqCount ∧ 0 < s.build.dcpCount ∧ s.recentResets.length + 1 < s.rd Page.err Reg.ERR_ESC_CFG.COUNT) ∧
  (let x := { Demo.packet 0x10A 8 0 0 with queue := 1, performed := true, msgId := 3 };
    let s := ({ Demo.task with front := { Demo.task.front with pkts := [(0, x), (1, Demo.persistPkt)] } } : State);
    s.msgOf 7 3 = some 0) ∧
  ((Demo.task.setSeq 4 { Seq.empty with present := true }).seq 4).present = true ∧
  (Demo.mem.computeReset = false ∧ mayWrite .pf Page.err = true) ∧
  (let l : Launch := { pkt := 0, ctx := 0, gen := 0, parts := [2], got := [], persist := false, at_ := 0, wdFired := false };
    (Demo.flying l).launchAt 0 = some (7, l) ∧ (Demo.flying { l with wdFired := true }).launchAt 0 = some (7, { l with wdFired := true })) ∧
  (let s := ({ Demo.mem with faults := { Demo.mem.faults with phase := .quarantine } } : State); s.genFree s.nextGen = true) := by decide

set_option maxRecDepth 8000 in
/-- The hypotheses of RecoveryCommandsComplete are met (2 of 2). -/
theorem test_hyps_RecoveryCommandsComplete_2 :
    ((Demo.inReplay 1 true).enterReplay.faults.replays < (Demo.inReplay 1 true).enterReplay.rd Page.err Reg.ERR_CRST_CFG.REPLAY_MAX ∧
    (Demo.inReplay 1 true).enterReplay.hostMode 3 = false ∧ (Demo.inReplay 1 true).enterReplay.faults.isReplayReset = false) ∧
  (let s := (Demo.inReplay 0 true).haPost 3; s.istate = 2 ∧ s.haPending 3 = true ∧ (s.faults.suspects[0]?).isSome = true ∧ s.boot.svcHalted = false ∧
    (s.faults.current.bind fun i => s.faults.suspects[i]?).isSome = true ∧ ((s.launchAt 1).map fun e => e.2.persist) = some true) ∧
  (let s := (Demo.mem.haPost 7); s.haPending 7 = true ∧ s.boot.svcHalted = false) ∧
  (let x := Demo.packet 0x168 0 0 0; let s := Demo.withPkt 0x168 0 0 0
    let v : State := { s with sync := { s.sync with stopped := true } }
    let u := Demo.perf v x
    v.ready 0 0x68 = true ∧ v.pkt 0 = some x ∧ v.sync.stopped = true ∧
    (((({ u with sync := { u.sync with stopped := false, draining := false, stopDt := none } } : State).saveRecord).finish 0 St.OK).replay).blocked = false) ∧
  (let l : Launch := { pkt := 0, ctx := 0, gen := 0, parts := [2], got := [], persist := false, at_ := 0, wdFired := false }
    let s := Demo.flying l; s.feUp = true ∧ s.mount = true ∧ s.launchOf 2 7 = some l) ∧
  (let t : Triage := { ch := 0, level := 1, index := 0, granule := 0, cause := 0 }
    let v := Demo.mem.haPost 7
    let s : State := { v with faults := { v.faults with triage := [t, { t with level := 0 }] } }
    s.faults.triage = t :: [{ t with level := 0 }] ∧ s.haPending 7 = true ∧ s.boot.svcHalted = false) := by decide

set_option maxRecDepth 8000 in
/-- The hypotheses of FunctionCommandsComplete are met. -/
theorem test_hyps_FunctionCommandsComplete :
    (let x := Demo.prov; let s := ({ Demo.memPkt x with pins := { Demo.up.pins with numVf := 2, vfEn := true } } : State);
    let u := Demo.perf s x
    s.ready 0 0x6C = true ∧ s.pkt 0 = some x ∧ u.provCode x = 0 ∧ u.hostMode 8 = false ∧ ((u.applyProv x).finish 0 St.OK).blocked = false ∧ (s.wr Page.func Reg.FUNC_MODE.VF_REPROV 1).hostMode 8 = true ∧
    (s.wr Page.func Reg.FUNC_MODE.VF_REPROV 1).provCode x = 0) ∧
  (mayWrite .pf (Page.vf 0) = true ∧ mayWrite .pf (Page.vf 3) = true ∧ (Demo.mem.haPost 8).haPending 8 = true) ∧
  ((Demo.mem.wr (Page.vf 3) Reg.VF_STATUS.VSTATE 1).vstate 3 = 1 ∧ (Demo.mem.wr (Page.vf 3) Reg.VF_STATUS.VSTATE 2).vfBusy 3 = false ∧
    (Demo.mem.wr (Page.vf 3) Reg.VF_STATUS.VSTATE 5).memOpen = true ∧
    ({ Demo.mem with pins := { Demo.mem.pins with numVf := 4, vfEn := true } } : State).vfEnabled 3 = true) := by decide

set_option maxRecDepth 8000 in
/-- The hypotheses of KeyAndCipherCommandsComplete are met. -/
theorem test_hyps_KeyAndCipherCommandsComplete :
    (let x := Demo.packet 0x160 1 0x1000 0; let s := Demo.memPkt x; let u := Demo.perf s x; let a := u.readAs Master.pf 0x1000 48
    s.boot.post = false ∧ s.ready 0 0x60 = true ∧ s.pkt 0 = some x ∧ x.f 8 1 = 1 ∧ (s.slot 8).state = 0 ∧ x.f 16 8 = 0x1000 ∧
    u.checkRange Master.pf 0 0x1000 48 = none ∧ a.status = St.OK ∧ ((a.st.putAnchor a.data).finish 0 St.OK).blocked = false) ∧
  (let x := Demo.packet 0x160 0x902 0 0; let s := Demo.keyed x; s.ready 0 0x60 = true ∧ x.f 8 1 = 2 ∧ x.f 9 1 = 9 ∧ (s.slot 9).kind = 5 ∧
    (s.slot 9).state = 1 ∧ s.dlkActive.length < 2 ∧ s.genUsed (s.slot 9).gen = false ∧ (s.mem.sealSlots.any fun e => e.2 == 9) = false) ∧
  (let x := Demo.packet 0x160 4 0 0; let s := (Demo.keyed x).wr Page.lcs Reg.LCS_STATUS.STATE 2; x.f 8 1 = 4 ∧ s.lcState = 2 ∧ (s.slot 8).state = 1 ∧
    s.trust.join.isSome = true ∧ s.ready 0 0x60 = true) ∧
  ((Demo.packet 0x160 0 0 0).f 8 1 = 0 ∧ nextSaddle [{ prio := 4, use := SaddleUse.ccipTrng 0 false, failed := true }] =
    some { prio := 4, use := SaddleUse.ccipTrng 0 false, failed := true } ∧ mayWrite .pf Page.key = true ∧ (Demo.mem.haPost 6).haPending 6 = true) ∧
  (mayWrite .sec (Page.ccip 0) = true ∧ ownerMay .sec (Demo.up.rd (Page.ccip 0) Reg.CCIP_OWNER.OWNER) = true ∧ Demo.up.ccipBusy 0 = false ∧
    Demo.up.rd (Page.ccip 0) Reg.CCIP_OWNER.OWNER = 0 ∧ (Demo.keyed (Demo.packet 0 0 0 0)).derivable (fieldOf 0x48 3 5) = true) ∧
  (let s := Demo.up.setCcip 0 { key := some (256, 0), hadKey := true, running := true, aborting := false }; (s.ccipAt 0).running = true ∧
    (s.ccipAt 0).key = some (256, 0) ∧ s.rdb (Page.ccip 0) Reg.CCIP_STATUS.ENGINE_OUT = false ∧
    badLength (s.rdb (Page.ccip 0) Reg.CCIP_OP.DIR) 1 15 = false ∧ s.up = true) := by decide

set_option maxRecDepth 8000 in
/-- The hypotheses of SpdmConnectionCommandsComplete are met. -/
theorem test_hyps_SpdmConnectionCommandsComplete :
    (Demo.up.up = true ∧ (Demo.up.setSpdm .version).up = true ∧ (Demo.up.setSpdm .version).trust.phase = .version ∧
    (Demo.up.setSpdm .caps).up = true ∧ (Demo.up.setSpdm .caps).trust.phase = .caps) ∧
  (let s := Demo.attested; s.up = true ∧ s.lcState ≠ 0 ∧ s.lcState ≠ 4 ∧ s.trust.phase = .negotiated ∧ s.trust.sessions = [] ∧ s.boot.post = false ∧
    (s.slot 4).state = 0 ∧ (s.slot 2).state = 1 ∧ (s.readAs Master.maint 0 0).status = St.OK ∧ (s.readAs Master.maint 0 0).data = [] ∧
    s.rdPair Page.key Reg.KEY_CERT_BASE_LO.ADDR Reg.KEY_CERT_BASE_HI.ADDR = 0 ∧ s.rd Page.key Reg.KEY_CERT_LEN.BYTES = 0 ∧
    ((s.readAs Master.maint 0 0).st.slot 2).state = 1) ∧
  (let s : State := { Demo.up with trust := { Demo.up.trust with chunkOut := [1] } }; s.up = true ∧ s.trust.chunkOut ≠ [] ∧
    s.trust.chunkOut.length ≤ 4080 ∧ s.trust.chunkNo = 0 ∧ s.trust.chunkIn.length = 0) := by decide

theorem test_hyps_certificate : (Demo.attested.readAs Master.maint 0 0).st.trust = Demo.attested.trust ∧
    slice (Config.certKey []) 0 97 = slice Demo.attested.trust.deviceId 0 97 := ⟨rfl, rfl⟩

set_option maxRecDepth 8000 in
/-- The hypotheses of SpdmSessionCommandsComplete are met. -/
theorem test_hyps_SpdmSessionCommandsComplete :
    (let s := Demo.session 1 0 false; s.up = true ∧ (s.session 1).isSome = true) ∧
  (let s := Demo.session 1 1 false; s.up = true ∧ (s.session 1).isSome = true) ∧
  (let s := Demo.session 2 0 true; s.up = true ∧ s.session 1 = some (Demo.sess 2 0 true) ∧ (Demo.sess 2 0 true).kem.isSome = true ∧
    (Demo.sess 2 0 false).kemUsed = false ∧
    (s.modSession 1 fun y => { y with reqSeq := y.reqSeq + 1 }).relCode { Demo.sess 2 0 true with reqSeq := 1 } Demo.joinRecord = 0 ∧
    Demo.joinRecord.length = 128 ∧ (List.replicate 1568 (0 : Byte)).length = 1568) := by decide

set_option maxRecDepth 8000 in
/-- The hypotheses of InterfaceKeyAndTdispCommandsComplete are met. -/
theorem test_hyps_InterfaceKeyAndTdispCommandsComplete :
    (let s := Demo.session 2 0 true; s.up = true ∧ s.session 1 = some (Demo.sess 2 0 true) ∧ s.ideBusy = false ∧ s.boot.post = false ∧ s.tdi 1 = 0) ∧
  (let s := (Demo.session 2 0 true).koSend 1 1 0 0 0 0 0 0; s.up = true ∧ s.trust.koBeat = some (1, 1, 0) ∧ (s.session 1).isSome = true) ∧
  ((Demo.session 2 0 true).setVstate 1 1).vstate 1 = 1 ∧
  (let s := ((Demo.session 2 0 true).setVstate 1 1).setTdi 1 2; s.tdi 1 = 2 ∧ s.vstate 1 = 1 ∧ s.up = true) ∧
  (let s := (Demo.session 2 0 true).setTdi 127 1; s.tdi 127 = 1 ∧ s.up = true ∧ 0 ≤ (SMap.getD s.trust.tdiRec [] 127).length) ∧
  (let s := (Demo.session 2 0 true).setTdi 1 1; let t : State := { s with trust := { s.trust with tdiNonce := [(1, [])] } }; t.tdi 1 = 1 ∧
    SMap.find? t.trust.tdiNonce 1 = some []) := by decide

set_option maxRecDepth 8000 in
/-- The hypotheses of LifeCycleAndBistCommandsComplete are met (1 of 2). -/
theorem test_hyps_LifeCycleAndBistCommandsComplete :
    (let x := Demo.packet 0x163 0 0 0; let s := Demo.memPkt x; s.ready 0 0x63 = true ∧ x.f 24 4 ≠ 7571 ∧ s.boot.post = false ∧
    (Demo.packet 0x163 0 0x1000 7571).f 24 4 = 7571) ∧
  (let x := Demo.packet 0x163 0 0x1000 7571; let s := Demo.memPkt x; let u := Demo.perf s x
    s.ready 0 0x63 = true ∧ s.pkt 0 = some x ∧ u.checkRange Master.pf 0 0x1000 7571 = none) ∧
  (let s := Demo.committing none; s.outs.holdupReq = true ∧ s.bist.burn = none ∧ s.lc.req.isSome = true ∧ s.lc.copy = none ∧
    s.pins.holdupAck = false) ∧
  (let s := Demo.committing (some 2); s.lc.copy = some 2 ∧ s.lc.req.isSome = true ∧
    CopyRead.holds CopyRead.blank { pkt := none, src := 1, dst := 2, tBits := 0, uds := 0 } = true) ∧
  (let s := Demo.burning true; s.outs.holdupReq = true ∧ s.bist.burn.isSome = true ∧ s.pins.holdupAck = false) ∧
  (mayWrite .pf Page.lcs = true ∧ mayWrite .pf Page.bst = true ∧ Demo.up.boot.phase = .running ∧ Demo.up.trust.exportRec = [] ∧
    Demo.up.runCode ≠ 0 ∧ Demo.up.burnCode true = 0) := by decide

set_option maxRecDepth 8000 in
/-- The hypotheses of LifeCycleAndBistCommandsComplete are met (2 of 2). -/
theorem test_hyps_LifeCycleAndBistCommandsComplete_2 :
    (let s := Demo.bist; s.runCode = 0 ∧ s.bistTarget = 80 ∧ s.bist.span = none ∧ s.boot.phase = .running ∧ s.bist.saved = none ∧
    (let t := ({ s with bist := { s.bist with target := 80 } } : State).wr Page.bst Reg.BST_STATUS.STATE 2
     t.underTest = true ∧ t.serving = true ∧ t.bist.target = 80) ∧
    (let t := s.wr Page.bst Reg.BST_STATUS.STATE 2
     t.underTest = false ∧ t.running = true)) ∧
  (let s := ((Demo.bist.wr Page.bst Reg.BST_LOGe_LO.VALID 1 0).wr Page.bst Reg.BST_LOGe_LO.FUSE_PENDING 1 0); s.burnCode false = 0 ∧ s.boot.phase = .running) := by decide

set_option maxRecDepth 8000 in
/-- The hypotheses of DebugCommandsComplete are met. -/
theorem test_hyps_DebugCommandsComplete :
    (let s := Demo.halter; s.boot.svcHalted = false ∧ s.halterOn = true ∧ s.hltLevel = 3 ∧ (s.halterReg 0x40 false).isSome = true ∧
    (s.halterReg 0x40 true).isSome = true ∧ s.dbg.lcWant = false ∧ s.trust.exportRec = [] ∧ s.conf = false ∧ s.boot.phase = .running ∧
    (s.wr Page.lcs Reg.LCS_STATUS.STATE 1).hltLevel = 3 ∧ (s.wr Page.lcs Reg.LCS_STATUS.STATE 1).lcState = 1) ∧
  ((Demo.halter.writeAt .halter 0x40 4 5).boot.phase = .running ∧ (Demo.halter.readAs Master.debug 0x1000 8).status = St.OK) ∧
  ((Demo.at .sampled).hltLevel = 1 ∧ (Demo.at .sampled).halterOn = true ∧ (Demo.at .sampled).boot.svcHalted = false) ∧
  (mayWrite .pf Page.cnt = true ∧ ((Demo.up.wr Page.trc Reg.TRC_CTRL.EN 1).wr Page.trc Reg.TRC_CTRL.TS_EN 0).traceSources = [1] ∧
    ((Demo.up.wr Page.trc Reg.TRC_CTRL.EN 1).wr Page.trc Reg.TRC_CTRL.TS_EN 0).rdb Page.trc Reg.TRC_CTRL.TS_EN = false) ∧
  State.reset.lc.fuses.state = 0 := by decide

set_option maxRecDepth 8000 in
/-- The hypotheses of HostEndCommandsComplete are met. -/
theorem test_hyps_HostEndCommandsComplete :
    (Demo.up.boot.phase ≠ .inReset ∧ SMap.find? Demo.up.host.reads 0 = none ∧ Demo.up.host.reads = [] ∧ Demo.up.host.doeBusy = false ∧
    Demo.up.host.doeErr = false ∧ Demo.up.up = true) ∧
  (SMap.find? [(3, Use.COPY, 0, 1)] 3 = some (Use.COPY, 0, 1)) ∧
  (let s : State := { Demo.up with host := { Demo.up.host with doeIn := [0x00010001, 3, 0] } }; s.host.doeIn = [0x00010001, 3, 0] ∧ s.up = true) := by decide

/-- The hypotheses of StepRunsTheFrontCommand are met. -/
theorem test_hyps_StepRunsTheFrontCommand :
    ({ Demo.up with pending := [.tamper] } : State).pending = [.tamper] := by decide

/-- The hypotheses of EmptyQueueIsOneClockEdge are met. -/
theorem test_hyps_EmptyQueueIsOneClockEdge :
    Demo.up.pending = [] ∧ 0 ≤ 2 ^ 40 + Demo.up.rate ∧ Demo.up.gait.occs = [] ∧ Demo.up.bist.span = none ∧ Demo.up.fab.srcs = [] ∧
  Demo.up.fab.dsts = [] ∧ Demo.up.fab.pieces = [] ∧ Demo.up.fab.reqs = [] ∧ Demo.up.front.pkts = [] := by decide

/-- The hypotheses of AtomicOperatorsCompute are met. -/
theorem test_hyps_AtomicOperatorsCompute :
    ((4 : Nat) = 4 ∨ (4 : Nat) = 8) ∧ ((8 : Nat) = 4 ∨ (8 : Nat) = 8) := by decide

/-- The hypotheses of StochasticRoundingBits are met. -/
theorem test_hyps_StochasticRoundingBits :
    bit (RedDesc.w [0, 0, 0, 0, 0, 0, 0, 0] 5) 48 = false ∧ bit (RedDesc.w [0, 0, 0, 0, 0, 0x1000000000000, 0, 0] 5) 48 = true := by decide

/-- The hypotheses of TransactionalEntryMapsToItsHalves are met. -/
theorem test_hyps_TransactionalEntryMapsToItsHalves :
    (let e : RatEntry := { w0 := BitVec.ofNat 64 (1 + 2 ^ 1), w1 := BitVec.ofNat 64 (2 * 2 ^ 24), w2 := BitVec.ofNat 64 (2 ^ 21 - 1), w3 := 0 };
    let s : State := { Demo.up with mem := { Demo.up.mem with rat := [(3, e)] } };
    s.ratFind 0 = some (3, e) ∧ s.ratFind (2 ^ 22 - 1) = some (3, e) ∧ e.tx = true ∧ 0 < e.size / 2 ∧ e.base = 0 ∧ e.size = 2 ^ 22 ∧
    s.ratFind (2 ^ 21 - 1) = some (3, e) ∧ s.ratFind (2 ^ 21) = some (3, e)) := by decide

/-- The hypotheses of VotedRowsGiveTheState are met. -/
theorem test_hyps_VotedRowsGiveTheState :
    Fuses.blank.lost = false ∧ bit (rowVote Fuses.blank.scrapRow) 0 = false ∧ Fuses.blank.toggles = 0 ∧ Demo.fuses.lost = false ∧
  Demo.fuses.toggles = 2 ∧ Demo.fuses.state = 2 ∧ Demo.badFuses.lost = true := by decide

set_option maxRecDepth 8000 in
/-- The hypotheses of OneCommandPerWrite are met. -/
theorem test_hyps_OneCommandPerWrite :
    ((Page.mch 0, 0x414, 2, 0x418) ∈ [(Page.mch 0, 0x414, 2, 0x418), (Page.red 0, 0x44, 4, 0x48), (Page.hitch, 0x24, 4, 0x28), (Page.gait, 0x3C, 2, 0x0C)]
      ++ (List.range 16).map (fun n => (Page.mch n, 0x114, 3, 0x118))) ∧
  (Demo.up.boot.phase = .running ∧ Demo.up.present (Page.mch 0) = true ∧ Demo.up.present (Page.mch 15) = true ∧ Demo.up.present (Page.red 0) = true ∧
    Demo.up.present Page.gait = true ∧ Demo.post.boot.phase = .running ∧ Demo.post.present Page.hitch = true) ∧
  ((3 : W32).getLsbD 0 = true ∧ (3 : W32).getLsbD 1 = true ∧ ∀ i < 4, (16 : W32).getLsbD i = false) := by decide

/-- Its hypotheses are met: a permutation of two operands, one of them an infinity, and finite operands for AND. -/
theorem test_hyps_ReduceResultIgnoresOrderAndGrouping :
    [(Ext.fin true 0 0, false), (Ext.inf true, true)].Perm [(Ext.inf true, true), (Ext.fin true 0 0, false)] ∧
      ∀ x ∈ [(Ext.fin false 5 0, false)], ∃ neg m e, x.1 = Ext.fin neg m e :=
  ⟨.swap _ _ _, fun x hx => ⟨false, 5, 0, by simp_all⟩⟩

/-- The hypotheses of RecordSurvivesBeingCarried are met. -/
theorem test_hyps_RecordSurvivesBeingCarried :
    ({ AccRec.empty with got := true } : AccRec).got = true ∧ ({ AccRec.empty with got := true } : AccRec).val = 0 ∧
  -(2 ^ (accBits 2 - 1) : Int) < 5 ∧ (5 : Int) < 2 ^ (accBits 2 - 1) ∧ accBits 1 = 2172 := by decide

/-- The hypotheses of ExactConversionKeepsThePattern are met. -/
theorem test_hyps_ExactConversionKeepsThePattern :
    (floatShape 5 = some (4, 3, 7) ∧ 0xFE < 2 ^ (1 + 4 + 3) ∧ widenFloat 5 4 3 7 0xFE false ≠ .nan ∧ (NSet.of 0x1005).flushOut = false ∧
    (NSet.of 0x1005).fmt = 5) ∧
  (floatShape 3 = some (5, 10, 15) ∧ widenFloat 3 5 10 15 0x7C00 false ≠ .nan ∧ widenFloat 3 5 10 15 1 false ≠ .nan) := by decide

/-- The hypotheses of StoredBytesReadBackAndOthersStay are met: a write that is performed and one that is not. -/
theorem test_hyps_StoredBytesReadBackAndOthersStay :
    (Demo.mem.writePhys 0x1000 [1, 2] 0 false).1 = true ∧ SMap.wf 0 Demo.mem.mem.bytes = true ∧
      (({ Demo.mem with mem := { Demo.mem.mem with poison := [0] } } : State).writePhys 0 [1] 0 false).1 = false := by
  rw [State.writePhys_fst, State.writePhys_fst]
  decide

/-- The hypotheses of KeystreamAndTweakBlocksAreInjective are met. -/
theorem test_hyps_KeystreamAndTweakBlocksAreInjective :
    inputBlock 1 6 0x123456 2 0x80 0 0 = 0x00000000000000010C12345628000000 ∧ tweakBlock 3 9 0x123456 2 1 2 = 0x00000000000000031212345622040000 := by decide

/-- The hypotheses of PartsOutsideACommandsReachStay are met. -/
theorem test_hyps_PartsOutsideACommandsReachStay :
    Part.bytes ∉ touches .leadHeartbeat ∧ Part.page .bst ∉ touches (.dcpLd (Demo.req 0)) := by decide

/-- The hypotheses of StepKeepsTheTablesCanonical are met: a block with a register and a byte set, before a register write. -/
theorem test_hyps_StepKeepsTheTablesCanonical :
    let s : State := { Demo.mem.wr Page.gw Reg.GW_RMT_TIMEOUT.US 20 with pending := [.registerWrite .pf (Page.gw.base + 0x24) 4 30] }
    (SMap.sorted s.regs = true ∧ s.regs.all (fun e => decide (e.2 ≠ windowReset e.1)) = true ∧ s.mem.wf = true) ∧
      s.regs ≠ [] ∧ (match step s with | .next _ => true | _ => false) = true := by decide

/-- The hypotheses of AbsentPagesReadZeroAndIgnoreWrites are met. -/
theorem test_hyps_AbsentPagesReadZeroAndIgnoreWrites :
    Demo.up.released = true ∧ target .pf 0x65000 = some (Page.lpt 37, 0) ∧ Demo.up.present (Page.lpt 37) = false ∧ target .pf 0xF000 = none := by decide

/-- The hypotheses of RetryCommandsComplete are met. -/
theorem test_hyps_RetryCommandsComplete :
    ((Demo.linkUp 23).portUp 23 = true ∧ (Demo.linkUp 23).serving = true ∧ (Demo.linkUp 23).ctlNext 23 ≤ (Demo.linkUp 23).ctlSeq 23 0) ∧
  ((((Demo.linkUp 23).setLink 23 Demo.busyLink).link 23).retryWait = true ∧ ((Demo.linkUp 23).setLink 23 Demo.busyLink).portUp 23 = true ∧
    (((Demo.linkUp 23).setLink 23 Demo.busyLink).link 23).replay = [(0, Demo.frame)] ∧
    (((Demo.linkUp 23).setLink 23 Demo.busyLink).link 23).resend = none ∧
    ((Demo.linkUp 23).setLink 23 Demo.busyLink).sendLimit 23 = none ∧
    ((((Demo.linkUp 23).setLink 23 Demo.busyLink).link 23).replay.any fun e => e.1 == 0) = true) ∧
  ((Demo.running.setLink 0 Demo.busyLink).portUp 0 = true ∧ (Demo.running.setLink 0 Demo.busyLink).sendLimit 0 = some 100000 ∧
    (Demo.running.setLink 0 Demo.busyLink).fitsBy 0 100000 Demo.frame = true) := by decide

/-- The hypotheses of NoticesAndSignalsComplete are met. -/
theorem test_hyps_NoticesAndSignalsComplete :
    ((Demo.linkUp 23).portUp 23 = true ∧ (Demo.linkUp 23).mount = true ∧ (Demo.linkUp 23).ctlNext 23 ≤ (Demo.linkUp 23).ctlSeq 23 0 ∧
    mayWrite .pf (Page.lpt 23) = true ∧ 23 < (Demo.linkUp 23).ports) ∧
  ((Demo.ctr .idle).serving = true ∧ (Demo.ctr .idle).boot.post = true ∧ (Demo.ctr .idle).portUp 1 = true ∧
    (Demo.ctr .idle).ctlNext 1 ≤ (Demo.ctr .idle).ctlSeq 1 0 ∧ (Demo.ctr .idle).sync.seenPdn.contains (7, 1) = false) ∧
  (Demo.mem.mount = true ∧ Demo.mem.memOpen = true ∧ 0 < Demo.mem.channels ∧ (Demo.mem.chan 0).pipesOut < 63) := by decide
end

section
/-! What every command leaves as it was, that it completes, and the invariant of the stored tables. -/

namespace Sys2Proof.Machine

/-! ### Sets of parts written as all but some -/

theorem Covers.union {M A B : Nat} (ha : Covers M A) (hb : Covers M B) : Covers M (A ||| B) := by
  have ha : A &&& M = A := ha
  have hb : B &&& M = B := hb
  show (A ||| B) &&& M = A ||| B
  rw [Nat.and_or_distrib_right, ha, hb]

theorem Covers.or_left {A B : Nat} : Covers (A ||| B) A := by
  show A &&& (A ||| B) = A
  exact Nat.eq_of_testBit_eq fun i => by simpa using Or.inl

theorem Covers.or_right {A B : Nat} : Covers (A ||| B) B := by
  rw [Nat.or_comm]; exact Covers.or_left

theorem Covers.of_mem {l : List Part} {p : Part} (h : p ∈ l) : Covers (maskOf l) p.mask := by
  induction l with
  | nil => cases h
  | cons q r ih =>
    rcases List.mem_cons.1 h with rfl | h
    · exact Covers.or_left
    · exact Covers.or_right.to (ih h)

/-- A set that has each part of a list has the list. -/
theorem Covers.of_forall_mem {M : Nat} {l : List Part} (h : ∀ p ∈ l, Covers M p.mask) : Covers M (maskOf l) := by
  induction l with
  | nil => exact Nat.zero_and M
  | cons p r ih => exact Covers.union (h p (by simp)) (ih fun q hq => h q (by simp [hq]))

/-- Every part is in `l` or in the parts that are not in `l`. -/
theorem covers_allBut_or (l : List Part) : Covers (maskOf (Part.allBut l) ||| maskOf l) (maskOf Part.all) := by
  refine Covers.of_forall_mem fun p hp => ?_
  by_cases h : p ∈ l
  · exact Covers.or_right.to (Covers.of_mem h)
  · exact Covers.or_left.to (Covers.of_mem (by simp [Part.allBut, hp, h]))

theorem Covers.allBut {l : List Part} {N : Nat} (hN : Covers (maskOf Part.all) N) (h : N &&& maskOf l = 0) :
    Covers (maskOf (Part.allBut l)) N := by
  have hN : N &&& (maskOf (Part.allBut l) ||| maskOf l) = N := (covers_allBut_or l).to hN
  rwa [Nat.and_or_distrib_left, h, Nat.or_zero] at hN


/-! ### The frame of every command and of the idle block -/

/-- One arm per command: the frame lemma of its meaning, whose parts the command's list covers. -/
theorem exec_frame (i : Instr) (s : State) : NextP (Frame (maskOf (touches i)) s) (exec i s) := by
  cases i with dsimp only [touches]
  | powerOnReset _ => exact execPowerOnReset_frame (.allBut rfl rfl) (.refl _ s)
  | blockReset => exact execBlockReset_frame (.allBut rfl rfl) (.refl _ s)
  | blockResetDeassert _ _ _ => exact execBlockResetDeassert_frame rfl (.refl _ s)
  | bootRun _ => exact execBootRun_frame (.allBut rfl rfl) (.refl _ s)
  | layer0Identity _ _ => exact execLayer0Identity_frame rfl (.refl _ s)
  | firmwareLoad _ _ _ _ => exact execFirmwareLoad_frame (.allBut rfl rfl) (.refl _ s)
  | frRegionReset => exact execFrRegionReset_frame (.allBut rfl rfl) (.refl _ s)
  | lrRegionReset => exact execLrRegionReset_frame (.allBut rfl rfl) (.refl _ s)
  | clusterFault _ => exact execClusterFault_frame (.allBut rfl rfl) (.refl _ s)
  | sliceRestartDone _ => exact execSliceRestartDone_frame rfl (.refl _ s)
  | lockstepSvcMismatch => exact execLockstepSvcMismatch_frame rfl (.refl _ s)
  | svcPairRestartDone => exact execSvcPairRestartDone_frame (.allBut rfl rfl) (.refl _ s)
  | lockstepSecMismatch => exact execLockstepSecMismatch_frame rfl (.refl _ s)
  | leadHeartbeat => exact execLeadHeartbeat_frame rfl (.refl _ s)
  | leadLost => exact execLeadLost_frame (.allBut rfl rfl) (.refl _ s)
  | sibHeartbeat _ _ => exact execSibHeartbeat_frame rfl (.refl _ s)
  | sibOutOfService _ => exact execSibOutOfService_frame (.allBut rfl rfl) (.refl _ s)
  | reportReq _ => exact execReportReq_frame rfl (.refl _ s)
  | reportData _ _ => exact execReportData_frame (.allBut rfl rfl) (.refl _ s)
  | idleTimerExpiry _ => exact execIdleTimerExpiry_frame rfl (.refl _ s)
  | clusterWake _ => exact execClusterWake_frame rfl (.refl _ s)
  | mrOffReq _ => exact execMrOffReq_frame rfl (.refl _ s)
  | mrOffEntered => exact execMrOffEntered_frame rfl (.refl _ s)
  | mrWake => exact execMrWake_frame rfl (.refl _ s)
  | mrSupplyGood => exact execMrSupplyGood_frame rfl (.refl _ s)
  | mrSupplyLoss => exact execMrSupplyLoss_frame rfl (.refl _ s)
  | registerWrite _ _ _ _ => exact execRegisterWrite_frame (.allBut rfl rfl) (.refl _ s)
  | pairHalfRead _ _ => exact execPairHalfRead_frame (.allBut rfl rfl) (.refl _ s)
  | pairHalfWrite _ _ _ => exact execPairHalfWrite_frame (.allBut rfl rfl) (.refl _ s)
  | lockWrite _ _ _ => exact execLockWrite_frame (.allBut rfl rfl) (.refl _ s)
  | errInjectWrite _ _ _ => exact execErrInjectWrite_frame (.allBut rfl rfl) (.refl _ s)
  | verSwArchWrite _ _ => exact execVerSwArchWrite_frame (.allBut rfl rfl) (.refl _ s)
  | haTimeoutWithdraw _ => exact execHaTimeoutWithdraw_frame (.allBut rfl rfl) (.refl _ s)
  | errRecRptrWrite _ _ => exact execErrRecRptrWrite_frame (.allBut rfl rfl) (.refl _ s)
  | tbCheckMismatch _ => exact execTbCheckMismatch_frame rfl (.refl _ s)
  | ppsInEdge _ => exact execPpsInEdge_frame rfl (.refl _ s)
  | ppsLost => exact execPpsLost_frame rfl (.refl _ s)
  | ppsOutCrossing => exact execPpsOutCrossing_frame rfl (.refl _ s)
  | ppsOutFall => exact execPpsOutFall_frame rfl (.refl _ s)
  | mark _ _ => exact execMark_frame rfl (.refl _ s)
  | markReceive _ _ _ _ _ => exact execMarkReceive_frame rfl (.refl _ s)
  | gmSelfElect => exact execGmSelfElect_frame rfl (.refl _ s)
  | parentLost => exact execParentLost_frame rfl (.refl _ s)
  | gmLost => exact execGmLost_frame rfl (.refl _ s)
  | holdoverExpired => exact execHoldoverExpired_frame rfl (.refl _ s)
  | steerDisable _ => exact execSteerDisable_frame rfl (.refl _ s)
  | gaitLoad _ => exact execGaitLoad_frame (.allBut rfl rfl) (.refl _ s)
  | arm _ => exact execArm_frame rfl (.refl _ s)
  | armClear _ => exact execArmClear_frame rfl (.refl _ s)
  | go _ => exact execGo_frame rfl (.refl _ s)
  | abandon _ => exact execAbandon_frame (.allBut rfl rfl) (.refl _ s)
  | swapCommitPoint => exact execSwapCommitPoint_frame rfl (.refl _ s)
  | swapDtReached => exact execSwapDtReached_frame (.allBut rfl rfl) (.refl _ s)
  | swapLateBoundary => exact execSwapLateBoundary_frame (.allBut rfl rfl) (.refl _ s)
  | wakeAhead _ _ _ => exact execWakeAhead_frame rfl (.refl _ s)
  | strideStart _ _ _ => exact execStrideStart_frame (.allBut rfl rfl) (.refl _ s)
  | dataFrameReceive _ _ _ => exact execDataFrameReceive_frame (.allBut rfl rfl) (.refl _ s)
  | footprintEnd _ _ _ => exact execFootprintEnd_frame (.allBut rfl rfl) (.refl _ s)
  | planeDown _ => exact execPlaneDown_frame rfl (.refl _ s)
  | throttleStart _ _ => exact execThrottleStart_frame rfl (.refl _ s)
  | throttleEnd _ => exact execThrottleEnd_frame rfl (.refl _ s)
  | looseAgeDrop _ => exact execLooseAgeDrop_frame rfl (.refl _ s)
  | rekeyNow _ _ => exact execRekeyNow_frame rfl (.refl _ s)
  | keyFrameLimit _ => exact execKeyFrameLimit_frame rfl (.refl _ s)
  | keyReq _ _ _ _ => exact execKeyReq_frame rfl (.refl _ s)
  | keyReady _ _ _ _ _ => exact execKeyReady_frame rfl (.refl _ s)
  | keyReqRepeat _ => exact execKeyReqRepeat_frame rfl (.refl _ s)
  | keyReadyRepeat _ => exact execKeyReadyRepeat_frame rfl (.refl _ s)
  | keyStall _ => exact execKeyStall_frame rfl (.refl _ s)
  | ackSend _ => exact execAckSend_frame rfl (.refl _ s)
  | ack _ _ _ _ => exact execAck_frame rfl (.refl _ s)
  | retry _ _ cause _ _ => exact execRetry_frame (_cause := cause) rfl (.refl _ s)
  | retryRepeat _ => exact execRetryRepeat_frame rfl (.refl _ s)
  | ackTimeout _ => exact execAckTimeout_frame rfl (.refl _ s)
  | replayCheck _ => exact execReplayCheck_frame rfl (.refl _ s)
  | signalHandoff _ _ _ => exact execSignalHandoff_frame (.allBut rfl rfl) (.refl _ s)
  | pdn _ _ _ _ _ _ => exact execPdn_frame rfl (.refl _ s)
  | pdnClear _ _ => exact execPdnClear_frame rfl (.refl _ s)
  | phyReadyRise _ => exact execPhyReadyRise_frame rfl (.refl _ s)
  | phyReadyFall _ => exact execPhyReadyFall_frame rfl (.refl _ s)
  | cap _ _ _ => exact execCap_frame rfl (.refl _ s)
  | capSend _ => exact execCapSend_frame rfl (.refl _ s)
  | trainTimeout _ => exact execTrainTimeout_frame rfl (.refl _ s)
  | trainRetryTimer _ => exact execTrainRetryTimer_frame rfl (.refl _ s)
  | dark _ _ _ _ _ => exact execDark_frame rfl (.refl _ s)
  | retrain _ _ => exact execRetrain_frame rfl (.refl _ s)
  | goDark _ _ => exact execGoDark_frame rfl (.refl _ s)
  | portDisable _ _ => exact execPortDisable_frame rfl (.refl _ s)
  | redDescWrite _ => exact execRedDescWrite_frame rfl (.refl _ s)
  | redDescRead _ => exact execRedDescRead_frame rfl (.refl _ s)
  | redDescInvalidate _ => exact execRedDescInvalidate_frame rfl (.refl _ s)
  | resetRoot _ => exact execResetRoot_frame (.allBut rfl rfl) (.refl _ s)
  | instanceDeadline _ _ => exact execInstanceDeadline_frame (.allBut rfl rfl) (.refl _ s)
  | resultWriteDone _ _ => exact execResultWriteDone_frame (.allBut rfl rfl) (.refl _ s)
  | dcpLd _ => exact execDcpLd_frame (.allBut rfl rfl) (.refl _ s)
  | dcpSt _ => exact execDcpSt_frame (.allBut rfl rfl) (.refl _ s)
  | dcpAdd _ _ => exact execDcpAdd_frame (.allBut rfl rfl) (.refl _ s)
  | dcpSwap _ _ => exact execDcpSwap_frame (.allBut rfl rfl) (.refl _ s)
  | dcpCas _ _ => exact execDcpCas_frame (.allBut rfl rfl) (.refl _ s)
  | dcpSmin _ _ => exact execDcpSmin_frame (.allBut rfl rfl) (.refl _ s)
  | dcpSmax _ _ => exact execDcpSmax_frame (.allBut rfl rfl) (.refl _ s)
  | dcpUmin _ _ => exact execDcpUmin_frame (.allBut rfl rfl) (.refl _ s)
  | dcpUmax _ _ => exact execDcpUmax_frame (.allBut rfl rfl) (.refl _ s)
  | dcpAnd _ _ => exact execDcpAnd_frame (.allBut rfl rfl) (.refl _ s)
  | dcpOr _ _ => exact execDcpOr_frame (.allBut rfl rfl) (.refl _ s)
  | dcpXor _ _ => exact execDcpXor_frame (.allBut rfl rfl) (.refl _ s)
  | dcpTokenPass _ => exact execDcpTokenPass_frame (.allBut rfl rfl) (.refl _ s)
  | dcpRdS _ => exact execDcpRdS_frame (.allBut rfl rfl) (.refl _ s)
  | dcpRdM _ => exact execDcpRdM_frame (.allBut rfl rfl) (.refl _ s)
  | dcpUpg _ => exact execDcpUpg_frame (.allBut rfl rfl) (.refl _ s)
  | dcpWb _ => exact execDcpWb_frame (.allBut rfl rfl) (.refl _ s)
  | dcpEvs _ => exact execDcpEvs_frame rfl (.refl _ s)
  | dcpUnsupported _ op => exact execDcpUnsupported_frame (_op := op) rfl (.refl _ s)
  | rmtLd _ => exact execRmtLd_frame (.allBut rfl rfl) (.refl _ s)
  | rmtSt _ => exact execRmtSt_frame (.allBut rfl rfl) (.refl _ s)
  | rmtAdd _ _ => exact execRmtAdd_frame (.allBut rfl rfl) (.refl _ s)
  | rmtSwap _ _ => exact execRmtSwap_frame (.allBut rfl rfl) (.refl _ s)
  | rmtCas _ _ => exact execRmtCas_frame (.allBut rfl rfl) (.refl _ s)
  | rmtSmin _ _ => exact execRmtSmin_frame (.allBut rfl rfl) (.refl _ s)
  | rmtSmax _ _ => exact execRmtSmax_frame (.allBut rfl rfl) (.refl _ s)
  | rmtUmin _ _ => exact execRmtUmin_frame (.allBut rfl rfl) (.refl _ s)
  | rmtUmax _ _ => exact execRmtUmax_frame (.allBut rfl rfl) (.refl _ s)
  | rmtAnd _ _ => exact execRmtAnd_frame (.allBut rfl rfl) (.refl _ s)
  | rmtOr _ _ => exact execRmtOr_frame (.allBut rfl rfl) (.refl _ s)
  | rmtXor _ _ => exact execRmtXor_frame (.allBut rfl rfl) (.refl _ s)
  | rmtTokenPass _ => exact execRmtTokenPass_frame (.allBut rfl rfl) (.refl _ s)
  | rmtUnsupported _ op => exact execRmtUnsupported_frame (_op := op) rfl (.refl _ s)
  | rsp _ _ _ _ _ => exact execRsp_frame rfl (.refl _ s)
  | remoteTimeout _ => exact execRemoteTimeout_frame rfl (.refl _ s)
  | tagQuarantineEnd _ => exact execTagQuarantineEnd_frame rfl (.refl _ s)
  | planeSetChange => exact execPlaneSetChange_frame rfl (.refl _ s)
  | drainComplete => exact execDrainComplete_frame rfl (.refl _ s)
  | putData _ => exact execPutData_frame (.allBut rfl rfl) (.refl _ s)
  | getReq _ => exact execGetReq_frame (.allBut rfl rfl) (.refl _ s)
  | getData _ => exact execGetData_frame (.allBut rfl rfl) (.refl _ s)
  | amoReq _ => exact execAmoReq_frame (.allBut rfl rfl) (.refl _ s)
  | amoRsp _ => exact execAmoRsp_frame (.allBut rfl rfl) (.refl _ s)
  | bulkAck _ => exact execBulkAck_frame (.allBut rfl rfl) (.refl _ s)
  | nak _ => exact execNak_frame rfl (.refl _ s)
  | bulkRetryTimeout _ _ => exact execBulkRetryTimeout_frame (.allBut rfl rfl) (.refl _ s)
  | streamRetire _ => exact execStreamRetire_frame rfl (.refl _ s)
  | cohRdS _ _ _ => exact execCohRdS_frame (.allBut rfl rfl) (.refl _ s)
  | cohRdM _ _ _ => exact execCohRdM_frame (.allBut rfl rfl) (.refl _ s)
  | cohUpg _ _ _ => exact execCohUpg_frame (.allBut rfl rfl) (.refl _ s)
  | cohWb _ _ _ _ => exact execCohWb_frame (.allBut rfl rfl) (.refl _ s)
  | cohEvs _ tag _ => exact execCohEvs_frame (_tag := tag) (.allBut rfl rfl) (.refl _ s)
  | dataS src _ _ _ _ => exact execDataS_frame (_src := src) rfl (.refl _ s)
  | dataM src _ _ _ _ => exact execDataM_frame (_src := src) rfl (.refl _ s)
  | upgAck src _ _ => exact execUpgAck_frame (_src := src) rfl (.refl _ s)
  | wbAck src _ _ => exact execWbAck_frame (_src := src) rfl (.refl _ s)
  | inv _ _ _ => exact execInv_frame rfl (.refl _ s)
  | snpS _ _ _ => exact execSnpS_frame rfl (.refl _ s)
  | snpI _ _ _ => exact execSnpI_frame rfl (.refl _ s)
  | herdFlush _ _ => exact execHerdFlush_frame rfl (.refl _ s)
  | invAck _ _ _ => exact execInvAck_frame (.allBut rfl rfl) (.refl _ s)
  | snpRsp _ _ _ _ _ => exact execSnpRsp_frame (.allBut rfl rfl) (.refl _ s)
  | flushDone _ tag => exact execFlushDone_frame (_tag := tag) (.allBut rfl rfl) (.refl _ s)
  | cohTimeout _ _ => exact execCohTimeout_frame (.allBut rfl rfl) (.refl _ s)
  | snrInvAck _ => exact execSnrInvAck_frame (.allBut rfl rfl) (.refl _ s)
  | snrSnpRsp _ _ => exact execSnrSnpRsp_frame (.allBut rfl rfl) (.refl _ s)
  | snrFlushDone _ => exact execSnrFlushDone_frame (.allBut rfl rfl) (.refl _ s)
  | cohEnable _ => exact execCohEnable_frame rfl (.refl _ s)
  | cohDisable _ => exact execCohDisable_frame (.allBut rfl rfl) (.refl _ s)
  | cmbFanout _ _ _ _ => exact execCmbFanout_frame rfl (.refl _ s)
  | cmbEntryAge _ => exact execCmbEntryAge_frame rfl (.refl _ s)
  | hitchArrive _ _ => exact execHitchArrive_frame rfl (.refl _ s)
  | hitchRelease _ _ => exact execHitchRelease_frame (.allBut rfl rfl) (.refl _ s)
  | hitchQuery _ _ => exact execHitchQuery_frame rfl (.refl _ s)
  | hitchAnswer _ _ => exact execHitchAnswer_frame (.allBut rfl rfl) (.refl _ s)
  | hitchStop _ _ => exact execHitchStop_frame (.allBut rfl rfl) (.refl _ s)
  | leave _ _ => exact execLeave_frame rfl (.refl _ s)
  | hitchTimeout _ => exact execHitchTimeout_frame rfl (.refl _ s)
  | hitchCmdWrite _ => exact execHitchCmdWrite_frame rfl (.refl _ s)
  | hitchCmdRead _ => exact execHitchCmdRead_frame rfl (.refl _ s)
  | hitchClear _ => exact execHitchClear_frame rfl (.refl _ s)
  | memberSet _ => exact execMemberSet_frame rfl (.refl _ s)
  | commitDrainDone => exact execCommitDrainDone_frame (.allBut rfl rfl) (.refl _ s)
  | commitMaxWait => exact execCommitMaxWait_frame rfl (.refl _ s)
  | commitQueryRepeat => exact execCommitQueryRepeat_frame rfl (.refl _ s)
  | inDoubt => exact execInDoubt_frame rfl (.refl _ s)
  | stopDtReached => exact execStopDtReached_frame (.allBut rfl rfl) (.refl _ s)
  | stopDrainEnd => exact execStopDrainEnd_frame rfl (.refl _ s)
  | memoryTrained _ _ => exact execMemoryTrained_frame (.allBut rfl rfl) (.refl _ s)
  | memoryReadResponse _ _ => exact execMemoryReadResponse_frame rfl (.refl _ s)
  | memoryWriteDone _ _ => exact execMemoryWriteDone_frame rfl (.refl _ s)
  | ratCmdWrite _ => exact execRatCmdWrite_frame rfl (.refl _ s)
  | ratCmdRead _ => exact execRatCmdRead_frame rfl (.refl _ s)
  | ratWriteComplete _ => exact execRatWriteComplete_frame rfl (.refl _ s)
  | mchLinePagesWrite _ _ => exact execMchLinePagesWrite_frame rfl (.refl _ s)
  | unwrapChunk => exact execUnwrapChunk_frame rfl (.refl _ s)
  | reencStart _ => exact execReencStart_frame rfl (.refl _ s)
  | reencComplete _ _ _ => exact execReencComplete_frame (.allBut rfl rfl) (.refl _ s)
  | rebuild _ _ => exact execRebuild_frame rfl (.refl _ s)
  | retire _ _ => exact execRetire_frame rfl (.refl _ s)
  | walk _ _ => exact execWalk_frame rfl (.refl _ s)
  | rebuildComplete _ => exact execRebuildComplete_frame rfl (.refl _ s)
  | coldWalkComplete _ => exact execColdWalkComplete_frame rfl (.refl _ s)
  | scrubChunk _ => exact execScrubChunk_frame rfl (.refl _ s)
  | patrolRead _ _ _ => exact execPatrolRead_frame rfl (.refl _ s)
  | tokenRequest _ _ => exact execTokenRequest_frame rfl (.refl _ s)
  | tokenRelease _ _ => exact execTokenRelease_frame rfl (.refl _ s)
  | farStart _ => exact execFarStart_frame rfl (.refl _ s)
  | farAutoStart => exact execFarAutoStart_frame rfl (.refl _ s)
  | farPageStep _ => exact execFarPageStep_frame (.allBut rfl rfl) (.refl _ s)
  | farPageStepDone _ _ _ => exact execFarPageStepDone_frame (.allBut rfl rfl) (.refl _ s)
  | farPause _ _ => exact execFarPause_frame rfl (.refl _ s)
  | farResume _ _ => exact execFarResume_frame rfl (.refl _ s)
  | farGrant _ _ _ => exact execFarGrant_frame rfl (.refl _ s)
  | doorbellWrite _ _ _ _ _ => exact execDoorbellWrite_frame rfl (.refl _ s)
  | packetFetch _ => exact execPacketFetch_frame rfl (.refl _ s)
  | fetchComplete _ _ _ => exact execFetchComplete_frame rfl (.refl _ s)
  | packetStart _ => exact execPacketStart_frame (.allBut rfl rfl) (.refl _ s)
  | packetComplete _ => exact execPacketComplete_frame rfl (.refl _ s)
  | nop _ => exact execNop_frame rfl (.refl _ s)
  | launch _ => exact execLaunch_frame rfl (.refl _ s)
  | launchDispatch _ => exact execLaunchDispatch_frame rfl (.refl _ s)
  | copy _ => exact execCopy_frame (.allBut rfl rfl) (.refl _ s)
  | reduce _ => exact execReduce_frame (.allBut rfl rfl) (.refl _ s)
  | signal _ => exact execSignal_frame (.allBut rfl rfl) (.refl _ s)
  | wait _ => exact execWait_frame rfl (.refl _ s)
  | take _ => exact execTake_frame rfl (.refl _ s)
  | waitTimeout _ => exact execWaitTimeout_frame rfl (.refl _ s)
  | gaitBind _ => exact execGaitBind_frame rfl (.refl _ s)
  | persist _ => exact execPersist_frame rfl (.refl _ s)
  | taskMsg _ => exact execTaskMsg_frame rfl (.refl _ s)
  | graphRun _ => exact execGraphRun_frame rfl (.refl _ s)
  | ctxCreate _ => exact execCtxCreate_frame rfl (.refl _ s)
  | ctxDestroy _ => exact execCtxDestroy_frame rfl (.refl _ s)
  | queueCreate _ => exact execQueueCreate_frame rfl (.refl _ s)
  | queueDestroy _ => exact execQueueDestroy_frame rfl (.refl _ s)
  | queueResume _ => exact execQueueResume_frame rfl (.refl _ s)
  | queueCancel _ => exact execQueueCancel_frame rfl (.refl _ s)
  | setPrio _ => exact execSetPrio_frame rfl (.refl _ s)
  | queueHold _ => exact execQueueHold_frame rfl (.refl _ s)
  | queueRelease _ => exact execQueueRelease_frame rfl (.refl _ s)
  | objCreate _ => exact execObjCreate_frame rfl (.refl _ s)
  | objDestroy _ => exact execObjDestroy_frame rfl (.refl _ s)
  | fenceCreate _ => exact execFenceCreate_frame rfl (.refl _ s)
  | fenceDestroy _ => exact execFenceDestroy_frame rfl (.refl _ s)
  | graphStore _ => exact execGraphStore_frame rfl (.refl _ s)
  | keyLoadAnchor _ => exact execKeyLoadAnchor_frame (.allBut rfl rfl) (.refl _ s)
  | dlkActivate _ => exact execDlkActivate_frame rfl (.refl _ s)
  | erase _ => exact execErase_frame rfl (.refl _ s)
  | confEnter _ => exact execConfEnter_frame rfl (.refl _ s)
  | keyLoadInvalidOp _ => exact execKeyLoadInvalidOp_frame rfl (.refl _ s)
  | ratSet _ => exact execRatSet_frame rfl (.refl _ s)
  | lcReq _ => exact execLcReq_frame (.allBut rfl rfl) (.refl _ s)
  | sigSet _ => exact execSigSet_frame rfl (.refl _ s)
  | hitchJoin _ => exact execHitchJoin_frame rfl (.refl _ s)
  | stepCfg _ => exact execStepCfg_frame rfl (.refl _ s)
  | stopAt _ => exact execStopAt_frame (.allBut rfl rfl) (.refl _ s)
  | resume _ => exact execResume_frame rfl (.refl _ s)
  | resolve _ => exact execResolve_frame (.allBut rfl rfl) (.refl _ s)
  | unwrap _ => exact execUnwrap_frame rfl (.refl _ s)
  | vfProv _ => exact execVfProv_frame (.allBut rfl rfl) (.refl _ s)
  | seqDone _ _ _ _ _ => exact execSeqDone_frame rfl (.refl _ s)
  | msgDone _ _ _ _ _ => exact execMsgDone_frame rfl (.refl _ s)
  | heartbeat _ _ running seqNo => exact execHeartbeat_frame (_running := running) (_seqNo := seqNo) rfl (.refl _ s)
  | hbLost _ => exact execHbLost_frame (.allBut rfl rfl) (.refl _ s)
  | kqEnable _ _ _ => exact execKqEnable_frame (.allBut rfl rfl) (.refl _ s)
  | ringUnbind _ _ => exact execRingUnbind_frame rfl (.refl _ s)
  | snap _ => exact execSnap_frame rfl (.refl _ s)
  | ctxsObjKick _ _ => exact execCtxsObjKick_frame rfl (.refl _ s)
  | ctxsTdDone _ => exact execCtxsTdDone_frame rfl (.refl _ s)
  | fnsRead _ => exact execFnsRead_frame rfl (.refl _ s)
  | fnsEvict _ _ => exact execFnsEvict_frame rfl (.refl _ s)
  | quiesce _ _ => exact execQuiesce_frame rfl (.refl _ s)
  | vfRelease _ _ => exact execVfRelease_frame rfl (.refl _ s)
  | vfQuiesced _ => exact execVfQuiesced_frame rfl (.refl _ s)
  | flr _ => exact execFlr_frame (.allBut rfl rfl) (.refl _ s)
  | flrResetDone _ => exact execFlrResetDone_frame rfl (.refl _ s)
  | vfHaDone _ => exact execVfHaDone_frame (.allBut rfl rfl) (.refl _ s)
  | getVersion => exact execGetVersion_frame rfl (.refl _ s)
  | getCapabilities => exact execGetCapabilities_frame rfl (.refl _ s)
  | negotiateAlgorithms _ => exact execNegotiateAlgorithms_frame rfl (.refl _ s)
  | getDigests => exact execGetDigests_frame (.allBut rfl rfl) (.refl _ s)
  | getCertificate _ _ _ => exact execGetCertificate_frame (.allBut rfl rfl) (.refl _ s)
  | challenge _ => exact execChallenge_frame (.allBut rfl rfl) (.refl _ s)
  | getMeasurements _ _ _ => exact execGetMeasurements_frame rfl (.refl _ s)
  | keyExchange _ _ => exact execKeyExchange_frame rfl (.refl _ s)
  | finish _ _ => exact execFinish_frame rfl (.refl _ s)
  | getEncapsulatedRequest _ => exact execGetEncapsulatedRequest_frame rfl (.refl _ s)
  | deliverEncapsulatedResponse _ _ => exact execDeliverEncapsulatedResponse_frame rfl (.refl _ s)
  | endSession _ => exact execEndSession_frame rfl (.refl _ s)
  | spdmHeartbeat _ => exact execSpdmHeartbeat_frame rfl (.refl _ s)
  | heartbeatExpiry _ => exact execHeartbeatExpiry_frame rfl (.refl _ s)
  | keyUpdate _ _ => exact execKeyUpdate_frame rfl (.refl _ s)
  | chunkSend _ _ _ => exact execChunkSend_frame rfl (.refl _ s)
  | chunkGet _ _ => exact execChunkGet_frame rfl (.refl _ s)
  | unsupportedRequest _ _ => exact execUnsupportedRequest_frame rfl (.refl _ s)
  | securedMsgAuthFail _ => exact execSecuredMsgAuthFail_frame rfl (.refl _ s)
  | kemGet _ => exact execKemGet_frame rfl (.refl _ s)
  | kemPut _ _ => exact execKemPut_frame rfl (.refl _ s)
  | reportGet _ _ => exact execReportGet_frame (.allBut rfl rfl) (.refl _ s)
  | release _ _ => exact execRelease_frame rfl (.refl _ s)
  | slotQuery _ => exact execSlotQuery_frame rfl (.refl _ s)
  | ideQuery _ _ _ => exact execIdeQuery_frame rfl (.refl _ s)
  | keyProg _ _ _ _ _ _ _ _ => exact execKeyProg_frame rfl (.refl _ s)
  | kSetGo _ _ _ _ _ _ => exact execKSetGo_frame rfl (.refl _ s)
  | kSetStop _ _ _ _ _ _ => exact execKSetStop_frame rfl (.refl _ s)
  | koAck _ _ => exact execKoAck_frame rfl (.refl _ s)
  | getTdispVersion _ _ => exact execGetTdispVersion_frame rfl (.refl _ s)
  | getTdispCapabilities _ _ => exact execGetTdispCapabilities_frame rfl (.refl _ s)
  | lockInterfaceRequest _ _ flags => exact execLockInterfaceRequest_frame (_flags := flags) rfl (.refl _ s)
  | getDeviceInterfaceReport _ _ _ _ => exact execGetDeviceInterfaceReport_frame rfl (.refl _ s)
  | getDeviceInterfaceState _ _ => exact execGetDeviceInterfaceState_frame rfl (.refl _ s)
  | startInterfaceRequest _ _ _ => exact execStartInterfaceRequest_frame rfl (.refl _ s)
  | stopInterfaceRequest _ _ => exact execStopInterfaceRequest_frame rfl (.refl _ s)
  | saddleOperation _ => exact execSaddleOperation_frame rfl (.refl _ s)
  | endSessions _ => exact execEndSessions_frame rfl (.refl _ s)
  | keyHaDone _ => exact execKeyHaDone_frame (.allBut rfl rfl) (.refl _ s)
  | tamper => exact execTamper_frame (.allBut rfl rfl) (.refl _ s)
  | tamperClear => exact execTamperClear_frame rfl (.refl _ s)
  | ccipStart _ _ => exact execCcipStart_frame rfl (.refl _ s)
  | ccipAbort _ _ => exact execCcipAbort_frame rfl (.refl _ s)
  | ccipJobDone _ _ _ _ => exact execCcipJobDone_frame rfl (.refl _ s)
  | ccipKeyTrng _ _ _ => exact execCcipKeyTrng_frame rfl (.refl _ s)
  | ccipKeyDerive _ _ _ _ => exact execCcipKeyDerive_frame rfl (.refl _ s)
  | ccipKeyErase _ _ => exact execCcipKeyErase_frame rfl (.refl _ s)
  | holdupAck => exact execHoldupAck_frame rfl (.refl _ s)
  | holdupTimeout => exact execHoldupTimeout_frame rfl (.refl _ s)
  | commitPhaseDone _ => exact execCommitPhaseDone_frame (.allBut rfl rfl) (.refl _ s)
  | lcsExport _ => exact execLcsExport_frame (.allBut rfl rfl) (.refl _ s)
  | halterLine _ _ => exact execHalterLine_frame (.allBut rfl rfl) (.refl _ s)
  | halterVer => exact execHalterVer_frame rfl (.refl _ s)
  | halterStat => exact execHalterStat_frame rfl (.refl _ s)
  | halterErr => exact execHalterErr_frame rfl (.refl _ s)
  | halterRd _ => exact execHalterRd_frame (.allBut rfl rfl) (.refl _ s)
  | halterWr _ _ => exact execHalterWr_frame (.allBut rfl rfl) (.refl _ s)
  | halterMrd _ _ => exact execHalterMrd_frame (.allBut rfl rfl) (.refl _ s)
  | halterMwr _ _ => exact execHalterMwr_frame (.allBut rfl rfl) (.refl _ s)
  | halterDevid => exact execHalterDevid_frame rfl (.refl _ s)
  | halterLc => exact execHalterLc_frame rfl (.refl _ s)
  | halterRst => exact execHalterRst_frame (.allBut rfl rfl) (.refl _ s)
  | halterDisable _ => exact execHalterDisable_frame (.allBut rfl rfl) (.refl _ s)
  | traceSync => exact execTraceSync_frame rfl (.refl _ s)
  | cntSnap _ => exact execCntSnap_frame rfl (.refl _ s)
  | cntClear _ => exact execCntClear_frame rfl (.refl _ s)
  | triageRetire _ => exact execTriageRetire_frame rfl (.refl _ s)
  | triageRebuild _ => exact execTriageRebuild_frame rfl (.refl _ s)
  | triageLeave _ => exact execTriageLeave_frame rfl (.refl _ s)
  | watchdogExpiry _ => exact execWatchdogExpiry_frame rfl (.refl _ s)
  | watchdogGraceExpiry _ => exact execWatchdogGraceExpiry_frame (.allBut rfl rfl) (.refl _ s)
  | dcpStall _ => exact execDcpStall_frame (.allBut rfl rfl) (.refl _ s)
  | crstNow _ => exact execCrstNow_frame (.allBut rfl rfl) (.refl _ s)
  | crstHoldExpiry => exact execCrstHoldExpiry_frame rfl (.refl _ s)
  | crstDeassert => exact execCrstDeassert_frame rfl (.refl _ s)
  | dcpIdleTimeout => exact execDcpIdleTimeout_frame rfl (.refl _ s)
  | crstHeartbeatWaitEnd => exact execCrstHeartbeatWaitEnd_frame rfl (.refl _ s)
  | persistProbeExpiry => exact execPersistProbeExpiry_frame rfl (.refl _ s)
  | suspectReplay _ _ => exact execSuspectReplay_frame rfl (.refl _ s)
  | suspectFail _ _ => exact execSuspectFail_frame rfl (.refl _ s)
  | suspectDrop _ _ => exact execSuspectDrop_frame rfl (.refl _ s)
  | oosHoldExpiry => exact execOosHoldExpiry_frame (.allBut rfl rfl) (.refl _ s)
  | instReset _ => exact execInstReset_frame (.allBut rfl rfl) (.refl _ s)
  | bistRun _ => exact execBistRun_frame (.allBut rfl rfl) (.refl _ s)
  | bistAbort _ => exact execBistAbort_frame (.allBut rfl rfl) (.refl _ s)
  | bistRunDone _ _ => exact execBistRunDone_frame (.allBut rfl rfl) (.refl _ s)
  | burn _ => exact execBurn_frame rfl (.refl _ s)
  | holdLock _ => exact execHoldLock_frame rfl (.refl _ s)
  | hostCompletion _ _ _ => exact execHostCompletion_frame (.allBut rfl rfl) (.refl _ s)
  | hostReadTimeout _ => exact execHostReadTimeout_frame (.allBut rfl rfl) (.refl _ s)
  | hostLinkDown => exact execHostLinkDown_frame (.allBut rfl rfl) (.refl _ s)
  | doeAccess _ _ _ => exact execDoeAccess_frame rfl (.refl _ s)
  | scanModeEntry => exact execScanModeEntry_frame (.allBut rfl rfl) (.refl _ s)
  | lsqProtocol seq kind gen id => exact execLsqProtocol_frame (_k := seq) (_kind := kind) (_gen := gen) (_id := id) rfl (.refl _ s)
  | registerRead _ _ _ => exact execRegisterRead_frame (.allBut rfl rfl) (.refl _ s)
  | vfEnableChange _ _ => exact execVfEnableChange_frame rfl (.refl _ s)
  | hostLinkUp => exact execHostLinkUp_frame rfl (.refl _ s)
  | generationQuarantineEnd => exact execGenerationQuarantineEnd_frame (.allBut rfl rfl) (.refl _ s)
  | burnDone _ _ => exact execBurnDone_frame rfl (.refl _ s)
  | koAckTimeout => exact execKoAckTimeout_frame rfl (.refl _ s)
  | unwrapAbandon _ => exact execUnwrapAbandon_frame rfl (.refl _ s)
  | _ => -- SEAL, whose constructor's name is a word of Lean's own
    exact execSeal_frame rfl (.refl _ s)

theorem idle_frame (s : State) : NextP (Frame (maskOf Part.all) s) (idle s) :=
  .next (State.bistGo_frame rfl (State.fabGo_frame rfl (State.sendAllDue_frame rfl (State.tick_frame rfl (.refl _ s)))))

theorem Frame.wf {M : Nat} {s t : State} (h : Frame M s t) (w : s.wf) : t.wf := ⟨h.regs w.1, h.bytes w.2⟩

/-! ### Every command answers a next state -/

/-- A meaning answers a next state (R4, R33, R478). -/
def Completes (r : Res) : Prop := ∃ t, r = .next t

theorem Completes.next (t : State) : Completes (.next t) := ⟨t, rfl⟩

theorem State.perform_completes (s : State) (p op : Nat) (f : Pkt → State → State) : Completes (s.perform p op f) := .next _

theorem State.action_completes (s : State) (p : Party) (pg : Page) (f : State → State) : Completes (s.action p pg f) := .next _

theorem State.queueCtl_completes (s : State) (p op : Nat) (f : Pkt → Nat → Queue → State → State) : Completes (s.queueCtl p op f) :=
  ite_rule (s.perform_completes _ _ _) (.next s)

theorem State.keyLoad_completes (s : State) (p : Nat) (isOp : Nat → Bool) (f : Nat → Nat → State → Nat × State) :
    Completes (s.keyLoad p isOp f) := by
  unfold State.keyLoad
  split
  · exact .next s
  · exact ite_rule (.next s) (s.perform_completes _ _ _)

theorem execKeyLoadAnchor_completes (p : Nat) (s : State) : Completes (execKeyLoadAnchor p s) := by
  unfold execKeyLoadAnchor
  refine ite_rule ?_ (s.keyLoad_completes _ _ _)
  split
  · exact .next s
  · exact ite_rule (.next s) (s.perform_completes _ _ _)

/-- A meaning that does not choose between answers is a next state by definition, as are `guarded`, `State.action` and `State.perform`;
the others answer one in each of their cases. -/
theorem exec_completes (i : Instr) (s : State) : Completes (exec i s) := by
  cases i with dsimp only [exec]
  | copy p => exact ite_rule (.next s) (s.perform_completes _ _ _)
  | reduce p => exact ite_rule (.next s) (s.perform_completes _ _ _)
  | queueResume p => exact s.queueCtl_completes _ _ _
  | queueCancel p => exact s.queueCtl_completes _ _ _
  | setPrio p => exact s.queueCtl_completes _ _ _
  | queueHold p => exact s.queueCtl_completes _ _ _
  | queueRelease p => exact s.queueCtl_completes _ _ _
  | keyLoadAnchor p => exact execKeyLoadAnchor_completes p s
  | dlkActivate p => exact s.keyLoad_completes _ _ _
  | erase p => exact s.keyLoad_completes _ _ _
  | confEnter p => exact s.keyLoad_completes _ _ _
  | keyLoadInvalidOp p => exact s.keyLoad_completes _ _ _
  | mrOffReq p => cases p <;> exact .next _
  | commitPhaseDone r =>
    unfold execCommitPhaseDone
    split <;> exact .next _
  | burnDone done failed =>
    unfold execBurnDone
    split <;> exact .next _
  | errInjectWrite p slot v =>
    unfold execErrInjectWrite
    split
    · exact .next s
    · exact s.action_completes _ _ _
  | lockWrite p slot v =>
    unfold execLockWrite
    split <;> exact .next _
  | _ => exact .next _

/-! ### The statements -/

/-- Settles O48: a part that is not in a command's list is outside the frame of its meaning. -/
theorem partsOutsideACommandsReachStay : Obligations.PartsOutsideACommandsReachStay := by
  intro i s t e p hp
  exact ((exec_frame i s).out e).same p (maskOf_not_mem _ p hp)

/-- Settles O50: a step is a command or the idle block, and the frame of each keeps canonical tables. -/
theorem stepKeepsTheTablesCanonical : Obligations.StepKeepsTheTablesCanonical := by
  intro s t w e
  unfold step at e
  split at e
  · exact ((idle_frame s).out e).wf w
  · exact ((exec_frame _ _).out e).wf w

/-- Settles O49: a command completes, and its frame holds the queue and the build. -/
theorem everyCommandCompletesAndLeavesQueueAndBuild : Obligations.EveryCommandCompletesAndLeavesQueueAndBuild := by
  intro i s
  obtain ⟨t, e⟩ := exec_completes i s
  have fr := (exec_frame i s).out e
  exact ⟨t, e, fr.pending, fr.build⟩

end Sys2Proof.Machine
end

section
/-! What an access to an absent page or a reserved slot answers. -/

namespace Sys2Proof.Machine

variable {p : Party} {addr : Nat} {s : State}

/-- No page present in the sampled role and build has the address (R4, R34, R37). -/
def State.Absent (s : State) (p : Party) (addr : Nat) : Prop :=
  target p addr = none ∨ ∃ pg off, target p addr = some (pg, off) ∧ s.present pg = false

theorem State.readAt_absent (h : s.Absent p addr) (size : Nat) : s.readAt p addr size = (0, s) := by
  unfold State.readAt
  obtain h | ⟨pg, off, h, hp⟩ := h
  · rw [h]
  · rw [h]; simp [hp]

theorem State.writeAt_absent (h : s.Absent p addr) (size : Nat) (v : W64) : s.writeAt p addr size v = s := by
  unfold State.writeAt
  obtain h | ⟨pg, off, h, hp⟩ := h
  · rw [h]
  · rw [h]; simp [State.writeTo, hp]

theorem State.readReg_absent (hr : s.released = true) (h : s.Absent p addr) (size : Nat) :
    s.readReg p addr size = s.emit (.regData p 0) := by
  simp [State.readReg, hr, State.readAt_absent h]

/-- Settles O53: the read finds no page and answers zero, the write finds none and is dropped. -/
theorem absentPagesReadZeroAndIgnoreWrites : Obligations.AbsentPagesReadZeroAndIgnoreWrites := by
  intro p addr size v s hr h
  exact ⟨congrArg Host.Outcome.next (State.readReg_absent hr h size), congrArg Host.Outcome.next (State.writeAt_absent h size v)⟩

end Sys2Proof.Machine
end

section
/-! From block reset to running firmware, lockstep and clusters: what the meaning of each of these commands leads to. -/

namespace Sys2Proof.Machine

theorem State.up_of_running {s : State} (h : s.boot.phase = .running) : s.up = true := by simp [State.up, h]

/-! ### Straps (R3, R34) -/

/-- Straps that neither the fuses, the build nor the package refuse are sampled. -/
theorem State.opStraps_accepted {role policy : Bool} {inst : Nat} {s : State} (hf : s.lc.fuses.lost = false)
    (hr : role = true ∨ s.build.mrBuilt = true ∧ s.build.dcpCount ≠ 0) (hi : inst ≤ s.build.sibCount) :
    (s.opStraps role inst policy).boot = { s.boot with phase := .sampled, post := role, inst := inst, policyRepair := policy } ∧
      (s.opStraps role inst policy).outs = { s.outs with errFatalN := true, crstN := !role, mrPwrEn := !role } := by
  unfold State.opStraps
  extract_lets _ _ _ s1 _ s2 r _ _ t
  have lost : ¬ t.lc.fuses.lost = true := by rw [show t.lc = s.lc from rfl, hf]; decide
  have build : ¬ (!role && (!t.build.mrBuilt || t.build.dcpCount == 0)) = true := by
    rw [show t.build = s.build from rfl]
    obtain rfl | ⟨hm, hd⟩ := hr
    · simp
    · simp [hm, hd]
  have sib : ¬ t.build.sibCount < inst := Nat.not_lt.2 hi
  rw [if_neg lost, if_neg build, if_neg sib]
  exact ⟨rfl, rfl⟩

/-! ### The boot run (R459) -/

theorem State.err_boot (s : State) (p : Page) (b : Nat) (i : ErrInfo) : (s.err p b i).boot = s.boot :=
  s.err_same p b i .boot (by decide) (by decide) (by decide) (fun _ => nofun)

theorem State.err_outs (s : State) (p : Page) (b : Nat) (i : ErrInfo) : (s.err p b i).outs = s.outs :=
  s.err_same p b i .outs (by decide) (by decide) (by decide) (fun _ => nofun)

theorem State.outs_of_err_if {c : Prop} [Decidable c] {s t : State} {p : Page} {b : Nat} {i : ErrInfo}
    (h : t = if c then s.err p b i else s) : t.outs = s.outs := by
  subst h
  split
  · exact s.err_outs p b i
  · rfl

theorem State.findings_nil (s : State) : s.findings [] = ([], s) := rfl

/-- A boot run without findings takes no cluster out: the pins show its end and the pass, and layer 0 is next. -/
theorem State.opBootRun_nil (s : State) : ∃ t : State, t.outs.bistDone = true ∧ t.outs.bistPass = true ∧
    s.opBootRun [] = { t with boot := { t.boot with phase := .bistDone } } := by
  unfold State.opBootRun
  rw [State.findings_nil]
  generalize s.clearLog = c
  extract_lets r bad s1 _ s2 t t' _
  have clean : bad = [] := by simp [bad, r]
  clear_value bad s1
  subst clean
  have outs : t.outs = s2.outs := State.outs_of_err_if rfl
  clear_value t
  have same : t' = t := List.foldl_nil
  exact ⟨t', same ▸ congrArg PinsOut.bistDone outs, same ▸ congrArg PinsOut.bistPass outs, if_neg (by simp)⟩

/-! ### Layer 0 (R364) -/

theorem State.checkMeas_none {s : State} (h : s.trust.measKept = none) : s.checkMeas = s := by simp [State.checkMeas, h]

/-- Layer 0 of a part that keeps no earlier measurement. -/
theorem State.opLayer0_records {sec svc : Dig384} {s : State} (h : s.trust.measKept = none) :
    (s.opLayer0 sec svc).boot.phase = .layer0Done ∧ (s.opLayer0 sec svc).trust.measSec = sec ∧
      (s.opLayer0 sec svc).trust.measSvc = svc := by
  unfold State.opLayer0
  extract_lets _ s1 _ _ s2 s3 st did ali s4 s5 stmt _
  have kept : s3 = s2 := State.checkMeas_none h
  split
  · rw [kept]; exact ⟨rfl, rfl, rfl⟩
  · exact ⟨congrArg (·.boot.phase) kept, congrArg (·.trust.measSec) kept, congrArg (·.trust.measSvc) kept⟩

theorem State.slot_congr {s t : State} {n : Nat} (h : t.trust.slots = s.trust.slots) : t.slot n = s.slot n := by
  unfold State.slot
  rw [h]

/-- Layer 0 gives a part with an identity its two identity slots. -/
theorem State.opLayer0_slots {sec svc : Dig384} {s : State} (h : s.trust.measKept = none) (h0 : s.lc.fuses.state ≠ 0)
    (h4 : s.lc.fuses.state ≠ 4) : ∃ (u : State) (dev ali : List Byte), (s.opLayer0 sec svc).trust.slots =
      ((u.setSlot 2 { kind := 2, state := 1, gen := 0, payload := dev }).setSlot 3
        { kind := 2, state := 1, gen := 0, payload := ali }).trust.slots := by
  unfold State.opLayer0
  extract_lets _ s1 _ _ s2 s3 st did ali s4 s5 stmt _
  have kept : s3 = s2 := State.checkMeas_none h
  have ident : ¬ (st = 0 ∨ st = 4) := by
    unfold st
    rw [kept]
    exact not_or.2 ⟨h0, h4⟩
  rw [if_neg ident]
  exact ⟨s3.saddled 4, slice ali.1 0 64, slice ali.2 0 64, rfl⟩

/-! ### Firmware (R6) -/

theorem State.showVfEn_boot (s : State) : s.showVfEn.boot = s.boot :=
  (State.showVfEn_frame (M := 0x10000000000000) rfl (.refl _ s)).same .boot rfl

/-- The firmware runs with the versions of its images; the errors of lost writes change nothing of that. -/
theorem State.startFirmware_boot (s : State) (a b : W32) :
    (s.startFirmware a b).boot = { s.boot with phase := .running, fwSec := a, fwSvc := b, wrInReset := [] } := by
  unfold State.startFirmware
  extract_lets l _ s1 s2
  have shown : s2.boot = s1.boot := by
    unfold s2
    split
    · rfl
    · exact s1.showVfEn_boot
  refine fold_rule (P := fun t : State => t.boot = s1.boot) shown fun t k ht => ?_
  split
  · exact (State.err_boot _ _ _ _).trans ht
  · exact ht

theorem State.opFirmware_good {a b : W32} (ha : releaseOk a = true) (hb : releaseOk b = true) (s : State) :
    s.opFirmware true true a b = s.startFirmware a b := by
  simp [State.opFirmware, ha, hb]

/-! ### Clusters (R18) -/

/-- The link cluster of a built port is the one that its page's slot names. -/
theorem clusterAt_link {n : Nat} (h : n < 64) : clusterAt (0x40 + n) = some (n + 16) := by
  unfold clusterAt
  rw [if_neg (by omega), if_pos (by omega), Nat.add_sub_cancel_left]

theorem State.targetAbsent_link {s : State} {n : Nat} (hn : n < 64) (h : n < s.ports) : s.targetAbsent (n + 16) = false := by
  have : n + 16 < 80 := by omega
  simp [State.targetAbsent, this, h]

theorem State.clusterOut_link {s : State} {n : Nat} (hn : n < 64) (h : n < s.ports) :
    s.clusterOut (n + 16) false = (s.err (Page.lpt n) Err.lpt.ENGINE_FAULT { place := n, placeKind := 5 }).darken n 2 := by
  have : n + 16 < 80 := by omega
  simp [State.clusterOut, this, h]

theorem execClusterFault_link {s : State} {n : Nat} (hs : s.serving = true) (hn : n < 64) (h : n < s.ports) :
    execClusterFault (0x40 + n) s =
      .next ((s.err (Page.lpt n) Err.lpt.ENGINE_FAULT { place := n, placeKind := 5 }).darken n 2) := by
  simp [execClusterFault, hs, clusterAt_link hn, State.targetAbsent_link hn h, State.clusterOut_link hn h]

/-! ### The statement -/

/-- Settles O2: each command's guard holds, and its meaning leads where the lemma about it says. -/
theorem bootCommandsComplete : Obligations.BootCommandsComplete := by
  unfold Obligations.BootCommandsComplete
  refine ⟨?straps, ?bootRun, ?layer0, ?firmware, ?svc, ?sec, ?restart, ?cluster, ?slice⟩
  case straps =>
    intro role inst policy s hp ht hs hf hr hi
    obtain ⟨boot, outs⟩ := State.opStraps_accepted (policy := policy) hf hr hi
    refine ⟨s.opStraps role inst policy, guarded_of _ _ _ (by simp [hp, ht, hs]), ?_⟩
    rw [boot, outs]
    exact ⟨rfl, rfl, rfl, rfl, rfl, rfl⟩
  case bootRun =>
    intro s hp
    obtain ⟨t, done, pass, run⟩ := s.opBootRun_nil
    exact ⟨s.opBootRun [], guarded_of _ _ _ (by simp [hp]), run ▸ ⟨rfl, done, pass⟩⟩
  case layer0 =>
    intro sec svc s hp hk
    obtain ⟨phase, msec, msvc⟩ := State.opLayer0_records (sec := sec) (svc := svc) hk
    refine ⟨s.opLayer0 sec svc, guarded_of _ _ _ (by simp [hp]), phase, msec, msvc, fun h0 h4 => ?_⟩
    obtain ⟨u, dev, ali, slots⟩ := State.opLayer0_slots (sec := sec) (svc := svc) hk h0 h4
    rw [State.slot_congr slots, State.slot_congr slots]
    simp
  case firmware =>
    intro a b s hp ha hb
    refine ⟨s.opFirmware true true a b, guarded_of _ _ _ (by simp [hp]), ?_⟩
    rw [State.opFirmware_good ha hb, State.startFirmware_boot]
    exact ⟨rfl, rfl, rfl⟩
  case svc =>
    intro s hp hl
    show execLockstepSvcMismatch s = _
    unfold execLockstepSvcMismatch
    rw [guarded_of _ _ _ (by simp [State.up_of_running hp, hl])]
  case sec =>
    intro s hp hl
    show execLockstepSecMismatch s = _
    unfold execLockstepSecMismatch
    rw [guarded_of _ _ _ (by simp [State.up_of_running hp, hl])]
  case restart =>
    intro s hw
    show execSvcPairRestartDone s = _
    simp [execSvcPairRestartDone, hw]
  case cluster =>
    intro slot s hs h1 h2 h3
    obtain ⟨n, rfl⟩ := Nat.exists_eq_add_of_le h1
    rw [Nat.add_sub_cancel_left]
    exact execClusterFault_link hs (by omega) (by omega)
  case slice =>
    intro k s hs hk ho
    show execSliceRestartDone k s = _
    unfold execSliceRestartDone
    rw [guarded_of _ _ _ (by rw [hs, ho, decide_eq_true hk]; rfl)]

end Sys2Proof.Machine
end

section
/-! The state after power-on reset, and the step on an empty queue. -/

namespace Sys2Proof.Machine

/-! ### After power-on reset -/

/-- Every link port of the reference build is DOWN after power-on reset (R131). -/
theorem State.reset_lstate : ∀ n < 24, State.reset.lstate n = 0 := by decide

theorem State.reset_portUp (n : Nat) : State.reset.portUp n = false := by
  unfold State.portUp
  by_cases h : n < State.reset.ports
  · have down := State.reset_lstate n (h.trans_le (by decide))
    rw [down]
    exact Bool.and_false _
  · rw [decide_eq_false h, Bool.false_and]

/-- Settles O35: after power-on reset every table is empty, and reads its default everywhere. -/
theorem powerOnResetState : Obligations.PowerOnResetState :=
  ⟨rfl, fun _ => rfl, fun _ => rfl, rfl, fun _ => rfl, rfl, fun _ => rfl, State.reset_portUp, rfl, rfl, rfl, by decide⟩

/-- Settles O51: empty tables are canonical. -/
theorem resetTablesAreCanonical : Obligations.ResetTablesAreCanonical :=
  ⟨⟨rfl, fun _ h => nomatch h⟩, rfl⟩

/-! ### The step on an empty queue -/

theorem step_of_empty_queue {s : State} (h : s.pending = []) : step s = idle s := by
  unfold step
  rw [h]

/-- One edge takes a copy of DT with its residue on by 10 ns at the steering rate (R63, R64). -/
theorem tickCopy_advances (dt : DT) (res : BitVec 40) {rate : Int} (h : 0 ≤ 2 ^ 40 + rate) :
    ((tickCopy dt res rate).1.toNat * 2 ^ 40 + (tickCopy dt res rate).2.toNat : Int) =
      (dt.toNat * 2 ^ 40 + res.toNat + 2560 * (2 ^ 40 + rate)) % 2 ^ 112 := by
  obtain ⟨t, ht⟩ : ∃ t : Nat, ((dt.toNat * 2 ^ 40 + res.toNat : Nat) : Int) + 2560 * (2 ^ 40 + rate) = t :=
    Int.eq_ofNat_of_zero_le (by omega)
  have copies : tickCopy dt res rate = (BitVec.ofNat 72 (t / 2 ^ 40), BitVec.ofNat 40 t) := by
    simp only [tickCopy, ht, Int.toNat_natCast]
  have split : t / 2 ^ 40 % 2 ^ 72 * 2 ^ 40 + t % 2 ^ 40 = t % 2 ^ 112 := by
    rw [show (2 : Nat) ^ 112 = 2 ^ 40 * 2 ^ 72 from rfl, Nat.mod_mul]
    omega
  have sum : (dt.toNat * 2 ^ 40 + res.toNat + 2560 * (2 ^ 40 + rate) : Int) = t := by
    rw [← ht]
    push_cast
    ring
  rw [copies, sum, BitVec.toNat_ofNat, BitVec.toNat_ofNat]
  exact_mod_cast split

theorem State.sendAllDue_none {s : State} (h : s.gait.occs = []) : s.sendAllDue = s := by
  unfold State.sendAllDue
  rw [h]
  rfl

theorem State.bistGo_none {s : State} (h : s.bist.span = none) : s.bistGo = s := by
  unfold State.bistGo
  rw [h]

theorem State.gwGo_none {s : State} (hs : s.fab.srcs = []) (hd : s.fab.dsts = []) : s.gwGo = s := by
  simp [State.gwGo, hs, hd]

theorem State.moverGo_none {s : State} (h : s.fab.pieces = []) : s.moverGo = s := by
  unfold State.moverGo
  rw [h]
  show ({ s with fab := { s.fab with pieces := [] } } : State) = s
  rw [← h]

theorem State.leaveGo_none {s : State} (hs : s.fab.srcs = []) (hr : s.fab.reqs = []) (hp : s.front.pkts = []) : s.leaveGo = s := by
  simp [State.leaveGo, State.copyGo, State.copying, hs, hr, hp]

/-- At a Post block, and at a Mount block with nothing waiting at the fabric, nothing goes on. -/
theorem State.fabGo_none {s : State} (h : s.boot.post = true ∨
    (s.fab.srcs = [] ∧ s.fab.dsts = [] ∧ s.fab.pieces = [] ∧ s.fab.reqs = [] ∧ s.front.pkts = [])) : s.fabGo = s := by
  unfold State.fabGo
  obtain post | ⟨srcs, dsts, pieces, reqs, pkts⟩ := h
  · rw [if_pos post]
  · rw [State.gwGo_none srcs dsts, State.moverGo_none pieces, State.leaveGo_none srcs reqs pkts, ite_self]

/-- Settles O34: an edge advances both copies of DT, and with nothing waiting each operation that follows it is idle. -/
theorem emptyQueueIsOneClockEdge : Obligations.EmptyQueueIsOneClockEdge := by
  intro s hq
  have edge : step s = .next s.tick.sendAllDue.fabGo.bistGo := step_of_empty_queue hq
  refine ⟨edge, rfl, rfl, fun h => ⟨tickCopy_advances _ _ h, tickCopy_advances _ _ h⟩, fun occs span fab => ?_⟩
  rw [edge, State.sendAllDue_none (s := s.tick) occs, State.fabGo_none (s := s.tick) fab, State.bistGo_none (s := s.tick) span]

end Sys2Proof.Machine
end

section
/-! Clock gating and the power of the memory region: what the meaning of each of these commands leads to. -/

namespace Sys2Proof.Machine

theorem State.serving_of_mount {s : State} (h : s.mount = true) : s.serving = true := (Bool.and_eq_true_iff.1 h).1

theorem State.istate_of_serving {s : State} (h : s.serving = true) : s.istate ≠ 3 := by
  intro e
  simp [State.serving, e] at h

/-! ### Gating (R27, R32) -/

theorem execIdleTimerExpiry_gates {s : State} {k c : Nat} (hs : s.serving = true)
    (hg : s.rdb Page.cr Reg.CR_PWR_CTRL.AUTO_GATE_EN = true) (hc : clusterAt k = some c) (ha : s.targetAbsent c = false)
    (hb : s.clusterBusy k = false) (hn : s.gatedSlot k = false) :
    execIdleTimerExpiry k s = .next { s with power := { s.power with gated := k :: s.power.gated } } := by
  unfold execIdleTimerExpiry
  rw [guarded_of _ _ _ (by rw [hs, hg]; rfl)]
  simp [hc, ha, hb, hn]

/-! ### What maintenance tokens leave of the power of MR

A grant wakes its channel's cluster, so that the tokens change what is gated; no token touches the flags of MR. -/

/-- The power of MR: OFF, going OFF, waking. -/
def State.mrFlags (s : State) : Bool × Bool × Bool := (s.power.mrOff, s.power.mrGoingOff, s.power.mrWaking)

theorem State.mrFlags_congr {s t : State} (h : t.power = s.power) : t.mrFlags = s.mrFlags := by
  unfold State.mrFlags
  rw [h]

theorem State.wakeSlots_mrFlags (s : State) (l : List Nat) : (s.wakeSlots l).mrFlags = s.mrFlags := rfl

theorem State.setFar_power (s : State) (n x : Nat) : (s.setFar n x).power = s.power := by
  unfold State.setFar
  rw [State.wr_power, State.setChan_power]

theorem State.scrubStep_power (s : State) (n : Nat) : (s.scrubStep n).power = s.power :=
  (State.scrubStep_frame (M := 0x20000000000) rfl (.refl _ s)).same .power rfl

theorem State.cnt_power (s : State) (i n : Nat) : (s.cnt i n).power = s.power :=
  (State.cnt_frame (M := 0x1000000) rfl (.refl _ s)).same .power rfl

theorem State.haPost_power (s : State) (n : Nat) : (s.haPost n).power = s.power :=
  (State.haPost_frame (M := 0x4c000000) rfl (.refl _ s)).same .power rfl

theorem State.grantToken_mrFlags (s : State) (n : Nat) (u : TokenUse) : (s.grantToken n u).mrFlags = s.mrFlags := by
  unfold State.grantToken
  extract_lets c t
  have waked : t.mrFlags = s.mrFlags := State.wakeSlots_mrFlags _ _
  clear_value t
  split
  · exact (State.mrFlags_congr ((State.scrubStep_power _ n).trans (State.wr_power _ _ _ _ _))).trans waked
  · exact (State.mrFlags_congr (State.wr_power _ _ _ _ _)).trans waked
  · exact waked

theorem State.askToken_mrFlags (s : State) (n : Nat) (u : TokenUse) : (s.askToken n u).mrFlags = s.mrFlags := by
  unfold State.askToken
  extract_lets c
  split
  · rfl
  · split
    · exact s.grantToken_mrFlags n u
    · rfl

theorem State.nextToken_mrFlags (s : State) (n : Nat) : (s.nextToken n).mrFlags = s.mrFlags := by
  unfold State.nextToken
  extract_lets c
  split
  · rfl
  · split
    · exact State.grantToken_mrFlags _ _ _
    · rfl

theorem State.dropToken_mrFlags (s : State) (n : Nat) (u : TokenUse) : (s.dropToken n u).mrFlags = s.mrFlags := by
  unfold State.dropToken
  split
  · rfl
  · extract_lets t
    have kept : t.power = s.power := by
      unfold t
      split
      · exact (State.cnt_power _ _ _).trans rfl
      · split <;> rfl
    exact (State.nextToken_mrFlags _ _).trans (State.mrFlags_congr kept)

theorem State.farSettle_mrFlags (s : State) (n : Nat) : (s.farSettle n).mrFlags = s.mrFlags := by
  unfold State.farSettle
  extract_lets c
  split
  · exact (State.dropToken_mrFlags _ _ _).trans (State.mrFlags_congr (State.setFar_power _ _ _))
  · rfl

theorem State.triggerWalk_mrFlags (s : State) : s.triggerWalk.mrFlags = s.mrFlags := by
  unfold State.triggerWalk
  split
  · refine (State.mrFlags_congr ((State.haPost_frame (M := 0x4c000000) rfl (.refl _ _)).same .power rfl)).trans ?_
    exact fold_rule (P := fun t : State => t.mrFlags = s.mrFlags) rfl fun _ _ h => h
  · exact fold_rule (P := fun t : State => t.mrFlags = s.mrFlags) rfl fun _ _ h => (State.askToken_mrFlags _ _ _).trans h

/-! ### MR goes OFF and comes back (R28, R291, R505) -/

/-- A request that nothing stands against: MR goes OFF, and no byte of memory changes. -/
theorem State.askMrOff_granted {s : State} (hp : s.power = Power.empty) (h : s.mrMayOff = true) :
    s.askMrOff.pins = s.pins ∧ s.askMrOff.power.mrGoingOff = true ∧ s.askMrOff.mem.bytes = s.mem.bytes := by
  have frame := State.askMrOff_frame (M := 0x20081004020) rfl (.refl _ s)
  refine ⟨frame.same .pins rfl, ?_, frame.same .bytes rfl⟩
  unfold State.askMrOff
  rw [if_neg (by rw [hp]; decide), if_pos h]
  extract_lets _ t
  have kept : (t.chanList.foldl (fun s n => s.farSettle n) t).mrFlags = t.mrFlags :=
    fold_rule (P := fun u : State => u.mrFlags = t.mrFlags) rfl fun _ _ h => (State.farSettle_mrFlags _ _).trans h
  exact congrArg (·.2.1) kept

theorem State.askMrOff_refused {s : State} (hp : s.power = Power.empty) (h : s.mrMayOff = false) :
    s.askMrOff = s.wr Page.cr Reg.CR_PWR_STATUS.MR_OFF_REFUSED 1 := by
  unfold State.askMrOff
  rw [if_neg (by rw [hp]; decide), if_neg (by rw [h]; decide)]

/-- Every pass is paused and every re-encryption has finished: MR is OFF, asleep and without supply. -/
theorem State.opMrOff_enters {s : State}
    (h : (s.chanList.any fun n => (s.chan n).farState == 1 || !(s.chan n).reenc.isEmpty) = false) :
    s.opMrOff.power.mrOff = true ∧ s.opMrOff.power.mrGoingOff = false ∧ s.opMrOff.outs.sleep = true ∧
      s.opMrOff.outs.mrPwrEn = false := by
  unfold State.opMrOff
  rw [if_neg (by rw [h]; decide)]
  exact ⟨rfl, rfl, rfl, rfl⟩

/-- The work that good supply sets off changes neither the flags of MR nor the pins. -/
theorem State.opMrGood_ends (s : State) : s.opMrGood.power.mrOff = false ∧ s.opMrGood.power.mrWaking = false ∧
    s.opMrGood.outs.sleep = false ∧ s.opMrGood.pins = s.pins := by
  have pins := (State.opMrGood_frame (M := 0x2014c004022) rfl (.refl _ s)).same .pins rfl
  unfold State.opMrGood at pins ⊢
  extract_lets _ _ on walked at pins
  have waked : Frame 0x20000004000 walked (walked.chanList.foldl (fun s n => s.farWake n) walked) :=
    fold_rule (.refl _ _) fun _ _ h => State.farWake_frame rfl h
  have outs : walked.outs = on.outs := by
    refine Frame.same (M := 0x2014c004020) (State.triggerWalk_frame rfl ?_) .outs rfl
    exact fold_rule (State.loadKeys_frame rfl (.refl _ _)) fun _ _ h => State.nextToken_frame rfl h
  have flags : walked.mrFlags = on.mrFlags := by
    refine (State.triggerWalk_mrFlags _).trans ?_
    refine fold_rule (P := fun t : State => t.mrFlags = on.mrFlags) ?_ fun _ _ h => (State.nextToken_mrFlags _ _).trans h
    exact State.mrFlags_congr ((State.loadKeys_frame (M := 0x20100004000) rfl (.refl _ on)).same .power rfl)
  have all := (State.mrFlags_congr (waked.same .power rfl)).trans flags
  exact ⟨congrArg (·.1) all, congrArg (·.2.2) all, congrArg (·.sleep) ((waked.same .outs rfl).trans outs), pins⟩

/-- A block in service that leaves it drives ERR_FATAL_N and CRST_N low (R451). -/
theorem State.outOfService_outs {s : State} (h : s.istate ≠ 3) :
    s.outOfService.outs = { s.outs with errFatalN := false, crstN := false } := by
  unfold State.outOfService
  rw [if_neg h]
  extract_lets s1 s2 _ _ s3 s4
  have outs : s3.outs = { s.outs with errFatalN := false, crstN := false } := by
    have ports : Frame 0x100840c000380 s1 s2 := fold_rule (.refl _ _) fun _ _ h => State.disablePort_frame rfl h
    exact congrArg (fun o : PinsOut => { o with errFatalN := false, crstN := false }) (ports.same .outs rfl)
  have told : Frame 0xc000090 s3 s4 := State.sendSibs_frame rfl (.refl _ _)
  have gone : Frame 0xc000090 s3 (s4.leadGone s4.boot.inst) := State.leadGone_frame rfl told
  clear_value s3 s4
  split
  · split
    · exact (told.same .outs rfl).trans outs
    · exact (gone.same .outs rfl).trans outs
  · exact outs

/-! ### The statement -/

/-- Settles O4: each command's guard holds, and its meaning leads where the lemma about it says. -/
theorem powerCommandsComplete : Obligations.PowerCommandsComplete := by
  unfold Obligations.PowerCommandsComplete
  refine ⟨?gate, ?ungate, ?granted, ?refused, ?entered, ?wake, ?good, ?loss⟩
  case gate =>
    intro k c s hs hg hc ha hb hn
    exact execIdleTimerExpiry_gates hs hg hc ha hb hn
  case ungate =>
    intro k s hs
    exact guarded_of _ s (fun s => s.wakeSlots [k]) hs
  case granted =>
    intro s hm hp h
    obtain ⟨pins, going, bytes⟩ := State.askMrOff_granted (s := { s with pins := { s.pins with mrOffReq := true } }) hp h
    exact ⟨_, guarded_of _ _ _ hm, congrArg (·.mrOffReq) pins, going, bytes⟩
  case refused =>
    intro s hm hp h
    have asked := State.askMrOff_refused (s := { s with pins := { s.pins with mrOffReq := true } }) hp h
    exact (guarded_of _ _ _ hm).trans (congrArg _ asked)
  case entered =>
    intro s hm hg h
    exact ⟨s.opMrOff, guarded_of _ _ _ (by rw [hm, hg]; rfl), State.opMrOff_enters h⟩
  case wake =>
    intro s hm ho hw
    show execMrWake s = _
    unfold execMrWake
    rw [guarded_of _ _ _ (by rw [hm, ho, hw]; rfl)]
  case good =>
    intro s hm hw
    obtain ⟨off, waking, sleep, pins⟩ := State.opMrGood_ends { s with pins := { s.pins with mrPwrGood := true } }
    exact ⟨_, guarded_of _ _ _ (Bool.and_eq_true_iff.2 ⟨hm, hw⟩), off, waking, sleep, congrArg (·.mrPwrGood) pins⟩
  case loss =>
    intro s hm he hw
    have left : exec .mrSupplyLoss s = .next ({ s with pins := { s.pins with mrPwrGood := false } } : State).outOfService :=
      guarded_of _ _ _ (by
        show (s.mount && s.outs.mrPwrEn && !s.power.mrWaking) = true
        rw [hm, he, hw]
        rfl)
    have outs := State.outOfService_outs (s := { s with pins := { s.pins with mrPwrGood := false } })
      (State.istate_of_serving (State.serving_of_mount hm))
    exact ⟨left, _, left, congrArg (·.errFatalN) outs, congrArg (·.crstN) outs⟩

end Sys2Proof.Machine
end

section
/-! The resets: what the meaning of each of these commands leaves. -/

namespace Sys2Proof.Machine

/-! ### Power-on reset (R12, R24) -/

/-- The block after power-on with the fuses `f`, which it has not read yet. -/
def State.poweredOn (s : State) (f : Fuses) : State :=
  { State.reset with
    build := s.build, pins := s.pins, out := s.out, draws := s.draws + 1, pending := s.pending, lc := { Lc.empty with fuses := f }
    trust := { Trust.empty with checkKey := Config.trng s.draws } }

/-- Power-on reset empties every part, draws CHECK_KEY, then reads and completes the fuses, which the LCS page and the records show. -/
theorem State.powerOn_frame_poweredOn (s : State) (f : Fuses) : Frame 0x820c800200 (s.poweredOn f) (s.powerOn f) := by
  have on : s.powerOn f = (s.poweredOn f).readFuses.repairFuses := rfl
  rw [on]
  exact State.repairFuses_frame rfl (State.readFuses_frame rfl (.refl _ _))

/-! ### Block reset (R24, R37, R453) -/

theorem SMap.find?_filter_of_not {α : Type} (m : SMap α) {p : Nat × α → Bool} {k : Nat} (h : ∀ v, p (k, v) = false) :
    SMap.find? (m.filter p) k = none := by
  induction m with
  | nil => rfl
  | cons e r ih =>
    obtain ⟨a, v⟩ := e
    by_cases ha : a = k
    · subst ha
      simpa [h] using ih
    · by_cases hp : p (a, v) = true <;> simp [hp, SMap.find?, ha, ih]

/-- The registers of a page whose scope is reset read their reset values. -/
theorem State.resetPages_reg (s : State) {l : List Scope} {a : Nat} {p : Page} (hp : Page.ofSlot (a / 0x1000) = some p)
    (hl : l.contains p.fam.scope = true) : (s.resetPages l).reg a = windowReset a := by
  show SMap.getD (s.regs.filter _) _ a = _
  unfold SMap.getD
  rw [SMap.find?_filter_of_not _ (by intro v; simp only [hp, hl]; rfl)]
  rfl

/-- Every scope but that of power-on reset is one that block reset returns. -/
theorem Scope.block_returns {c : Scope} (h : c ≠ .por) : [Scope.block, .lr, .fr].contains c = true := by
  cases c with
  | por => exact absurd rfl h
  | _ => rfl

theorem Fam.key_mask_and {f : Fam} (h : f ≠ .key) : 0x100000000 &&& f.mask = 0 :=
  Part.mask_and (.page .key) (.page f) fun e => h (Part.page.inj e).symm

/-- Block reset returns every page of block, LR or FR scope; KEY keeps what only power-on reset clears (R395). -/
theorem State.blockReset_reg (s : State) {a : Nat} {p : Page} (hp : Page.ofSlot (a / 0x1000) = some p) (hs : p.fam.scope ≠ .por)
    (hk : p.fam ≠ .key) : s.blockReset.reg a = windowReset a := by
  have kept := (State.keepKeyPor_frame (M := 0x100000000) (old := s) rfl
    (.refl _ (s.toFree.resetPages [.block, .lr, .fr]))).same (.page p.fam) (Fam.key_mask_and hk) a p hp rfl
  exact Eq.trans kept (State.resetPages_reg _ hp (Scope.block_returns hs))

theorem State.blockReset_time (s : State) : s.blockReset.time = s.time := by
  have freed : s.toFree.time = s.time := (State.toFree_frame (M := 0x400000000) rfl (.refl _ s)).same .time rfl
  unfold State.blockReset State.keepKeyPor State.wrPair
  rw [State.wr_time, State.wr_time, State.wr_time]
  exact freed

/-- INST_RESET while the firmware runs is a block reset (R452). -/
theorem execInstReset_resets {s : State} {p : Party} (hr : s.boot.phase = .running) (hw : mayWrite p Page.err = true) :
    execInstReset p s = .next s.blockReset :=
  State.action_acts _ _ _ _ (by simp [State.released, hr]) rfl (by simp [State.pageUp, State.up, hr]) hw

/-- OOS_HOLD_EXPIRY of a block out of service, with AUTO_RESET, is a block reset (R451). -/
theorem execOosHoldExpiry_resets {s : State} (hr : s.boot.phase = .running) (hi : s.istate = 3)
    (ha : s.rdb Page.err Reg.ERR_CFG.AUTO_RESET = true) : execOosHoldExpiry s = .next s.blockReset :=
  guarded_of _ _ _ (by rw [State.up_of_running hr, hi, ha]; rfl)

/-! ### LR region reset (R24, R37)

Training begins again and clusters that a self-test took out stay out; neither finds a hitch counter, so that neither sends a hitch frame. -/

/-- No hitch counter is held and no gait bank. -/
def State.noBank (s : State) : Prop := s.sync.counters = [] ∧ s.gait.banks = []

theorem State.noBank_frame {M : Nat} {s t : State} (f : Frame M s t) (hs : M &&& Part.sync.mask = 0) (hg : M &&& Part.gait.mask = 0)
    (h : s.noBank) : t.noBank :=
  ⟨(congrArg (·.counters) (f.same .sync hs)).trans h.1, (congrArg (·.banks) (f.same .gait hg)).trans h.2⟩

theorem State.hitchPortLost_none {s : State} (h : s.sync.counters = []) (n : Nat) : s.hitchPortLost n = s := by
  unfold State.hitchPortLost
  rw [h]
  rfl

theorem State.cutOccs_noBank {s : State} (h : s.noBank) (n : Nat) : (s.cutOccs n).noBank := h

theorem State.leaveUp_noBank {s : State} (h : s.noBank) (n : Nat) : (s.leaveUp n).noBank := by
  unfold State.leaveUp
  rw [State.hitchPortLost_none (s := s.cutOccs n) h.1]
  extract_lets t ev me u
  have cut : t.noBank := s.cutOccs_noBank h n
  split
  · exact State.noBank_frame (State.flood_frame (M := 0xc000080) rfl (.refl _ _)) rfl rfl cut
  · exact cut

theorem State.disablePort_noBank {s : State} (h : s.noBank) (n c : Nat) : (s.disablePort n c).noBank := by
  unfold State.disablePort
  split
  · exact h
  · extract_lets t u l v
    have cut : t.noBank := State.cutOccs_noBank (State.noBank_frame (State.sendFlit_frame (M := 0xc000080) rfl (.refl _ s)) rfl rfl h) n
    have page : Covers 0x100840c000280 Fam.lpt.mask := .fam .lpt (.refl _) rfl
    have rest : Frame 0x100840c000280 t (v.err (Page.lpt n) Err.lpt.PORT_DARK { place := n, placeKind := 5, detail := c }) :=
      State.err_frame rfl (State.setLink_frame rfl (State.wr_frame (State.setLstate_frame rfl (.refl _ t)) page rfl)) page
    exact State.noBank_frame rest rfl rfl cut

theorem State.darken_noBank {s : State} (h : s.noBank) (n c : Nat) : (s.darken n c).noBank := by
  unfold State.darken
  exact State.disablePort_noBank (ite_rule (P := State.noBank) (State.leaveUp_noBank h n) h) n c

theorem State.bistOut_noBank {s : State} (h : s.noBank) : s.bistOut.noBank := by
  unfold State.bistOut
  refine fold_rule (P := State.noBank) h fun t c ht => ?_
  split
  · exact State.darken_noBank ht _ _
  · split
    · exact State.noBank_frame (State.redOut_frame (M := 0x84800c000200) rfl (.refl _ t)) rfl rfl ht
    · exact ht

theorem State.enterTraining_noBank {s : State} (h : s.noBank) (n : Nat) : (s.enterTraining n).noBank := by
  unfold State.enterTraining
  split
  · exact h
  · extract_lets first t
    have trained : t.noBank := State.noBank_frame (State.startTraining_frame (M := 0x100041c0000c0) rfl (.refl _ s)) rfl rfl h
    split
    · exact trained
    · unfold State.countRetrain
      extract_lets u l recent v
      have counted : v.noBank := State.noBank_frame (M := 0x1000000000080)
        (State.setLink_frame rfl (State.incSat_frame (.refl _ t) (.fam .lpt (.refl _) rfl) rfl)) rfl rfl trained
      exact ite_rule (P := State.noBank) (State.disablePort_noBank counted n 4) counted

theorem State.resetLr_loses (s : State) : s.resetLr.red = Red.empty ∧ s.resetLr.cmb = Cmb.empty ∧ s.resetLr.gait.banks = [] := by
  unfold State.resetLr
  extract_lets s1 phy s2 s3 _ _ lost shown training
  have frame : Frame 0x11e4c45d0123e0 lost training.bistOut :=
    State.bistOut_frame rfl <| fold_rule (fold_rule (.refl _ lost) fun _ _ h => State.wr_frame h (.fam .lpt (.refl _) rfl) rfl)
      fun _ _ h => State.enterTraining_frame rfl h
  have banks : training.bistOut.noBank := by
    refine State.bistOut_noBank (fold_rule (P := State.noBank) ?_ fun _ _ h => State.enterTraining_noBank h _)
    exact fold_rule (P := State.noBank) ⟨rfl, rfl⟩ fun _ _ h => h
  exact ⟨frame.same .red rfl, frame.same .cmb rfl, banks.2⟩

/-! ### FR region reset (R24, R37) -/

theorem State.resetFr_loses (s : State) : s.resetFr.objs = Objects.empty ∧ s.resetFr.fns = [] ∧ s.resetFr.front.queues = [] ∧
    s.resetFr.front.pkts = [] ∧ s.resetFr.front.launches = [] ∧ s.resetFr.front.seqs = [] ∧ s.resetFr.faults.suspects = [] := by
  unfold State.resetFr
  extract_lets s1 s2 owed gen f s3 s4 _ _ _ lost shown tdi _ keys helped back _ _ served
  have answered : Frame 0xc000000 served (owed.foldl (fun s n => s.emit (.flrDone n)) served) :=
    fold_rule (.refl _ _) fun _ _ h => State.emit_frame rfl h
  have suspects : served.faults.suspects = [] := by
    unfold served
    split <;> rfl
  have frame : Frame 0x1000814c200202 lost (owed.foldl (fun s n => s.emit (.flrDone n)) served) := by
    have h1 : Frame 0x1000814c200202 lost shown := ite_rule (.refl _ _) (State.showVfEn_frame rfl (.refl _ _))
    have h2 : Frame 0x1000814c200202 lost keys :=
      Frame.upd_trust rfl (fold_rule h1 fun _ _ h => State.wr_frame h (.fam .key (.refl _) rfl) rfl)
    have h3 : Frame 0x1000814c200202 lost helped := fold_rule h2 fun _ _ h => ite_rule (State.haClear_frame rfl h) h
    have h4 : Frame 0x1000814c200202 lost served :=
      ite_rule (Frame.upd_outs_faults rfl (State.setIstate_frame rfl h3)) (Frame.upd_faults rfl h3)
    exact Frame.step (N := 0xc000000) rfl answered h4
  have front := frame.same .front rfl
  exact ⟨frame.same .objs rfl, frame.same .fns rfl, congrArg (·.queues) front, congrArg (·.pkts) front, congrArg (·.launches) front,
    congrArg (·.seqs) front, (congrArg (·.suspects) (answered.same .faults rfl)).trans suspects⟩

/-! ### The statement -/

/-- Settles O1: a command is the reset that its name says, and each reset leaves what the lemma about it says. -/
theorem resetCommandsComplete : Obligations.ResetCommandsComplete := by
  unfold Obligations.ResetCommandsComplete
  refine ⟨?por, ?block, ?inst, ?hold, ?lr, ?fr⟩
  case por =>
    intro f s
    have frame := s.powerOn_frame_poweredOn f
    have trust := frame.same .trust rfl
    exact ⟨_, rfl, congrArg (·.phase) (frame.same .boot rfl), congrArg (·.slots) trust, congrArg (·.join) trust,
      congrArg (·.checkKey) trust, frame.same .links rfl, frame.same .mem rfl, frame.same .time rfl, frame.build, frame.same .pins rfl⟩
  case block =>
    intro s
    exact ⟨_, rfl, rfl, rfl, rfl, s.blockReset_time, rfl, rfl, rfl, fun _ _ hp hs hk => s.blockReset_reg hp hs hk⟩
  case inst =>
    intro p s hr hw
    have reset : exec (.instReset p) s = .next s.blockReset := execInstReset_resets hr hw
    exact ⟨reset, _, reset, rfl⟩
  case hold =>
    intro s hr hi ha
    have reset : exec .oosHoldExpiry s = .next s.blockReset := execOosHoldExpiry_resets hr hi ha
    exact ⟨reset, _, reset, rfl⟩
  case lr =>
    intro s hs
    exact ⟨_, guarded_of _ _ _ hs, s.resetLr_loses⟩
  case fr =>
    intro s hs
    exact ⟨_, guarded_of _ _ _ hs, s.resetFr_loses⟩

end Sys2Proof.Machine
end

section
/-! The siblings of a package: what the meaning of each of these commands leads to. -/

namespace Sys2Proof.Machine

/-! ### What a unit on a sibling port changes -/

theorem State.sendSib_pkg (s : State) (p : Nat) (u : SibUnit) : (s.sendSib p u).pkg = s.pkg :=
  (State.sendSib_frame (M := 0xc000080) rfl (.refl _ s)).same .pkg rfl

/-- A unit goes out under the port's own number, whatever the host link does. -/
theorem State.sendSib_out (s : State) (p : Nat) (u : SibUnit) :
    ∃ h, (s.sendSib p u).out = s.out ++ [.sib p (s.link (64 + p)).txCtl u h] := by
  unfold State.sendSib
  extract_lets l
  rw [State.emit_out _ _ rfl]
  exact ⟨_, rfl⟩

theorem State.sibAt_congr {s t : State} (hi : t.boot = s.boot) (hb : t.build = s.build) (p : Nat) : t.sibAt p = s.sibAt p := by
  unfold State.sibAt
  rw [hi, hb]

theorem State.sibAt_sendSib (s : State) (p q : Nat) (u : SibUnit) : (s.sendSib p u).sibAt q = s.sibAt q :=
  have frame := State.sendSib_frame (M := 0xc000080) rfl (.refl _ s)
  State.sibAt_congr (frame.same .boot rfl) frame.build q

/-! ### Heartbeats (R22) -/

/-- Bit `p` of the three of CR_SIB_STATUS.UP reads 1 once it has been set. -/
theorem bit_of_set : ∀ v < 8, ∀ p < 3, bit ((clearBit v p + 2 ^ p) % 2 ^ 3) p = true := by decide

theorem State.setSibUp_shows (s : State) {p : Nat} (hp : p < 3) :
    bit ((s.setSibUp p true).rd Page.cr Reg.CR_SIB_STATUS.UP) p = true := by
  unfold State.setSibUp
  rw [State.rd_wr_same _ _ _ _ _ (by decide)]
  have old : s.rd Page.cr Reg.CR_SIB_STATUS.UP < 8 := Nat.mod_lt _ (by decide)
  simpa [b2n, Reg.CR_SIB_STATUS.UP] using bit_of_set _ old p hp

/-- How a port is sealed is shown beside UP. -/
theorem State.setSibAuth_up (s : State) (p g : Nat) :
    (s.setSibAuth p g).rd Page.cr Reg.CR_SIB_STATUS.UP = s.rd Page.cr Reg.CR_SIB_STATUS.UP := by
  unfold State.setSibAuth
  extract_lets v
  split
  · exact State.rd_wr_field _ _ _ _ _ _ _ (by decide) (.inr (by decide)) rfl
  · exact State.rd_wr_field _ _ _ _ _ _ _ (by decide) (.inr (by decide)) rfl

/-- What CR_SIB_STATUS shows of a port, and its seal, are no part of the package's state. -/
theorem State.sibShown_frame (s : State) (p g : Nat) (up : Bool) : Frame 0x80000080 s ((s.setSibUp p up).setSibAuth p g) :=
  State.setSibAuth_frame rfl (State.setSibUp_frame rfl (.refl _ s))

theorem State.opSibHeartbeat_returns (s : State) {p : Nat} (hp : p < 3) (g : Nat) :
    (State.opSibHeartbeat p g s).pkg.out.contains (s.sibAt p) = false ∧
      bit ((State.opSibHeartbeat p g s).rd Page.cr Reg.CR_SIB_STATUS.UP) p = true := by
  unfold State.opSibHeartbeat
  extract_lets _ t
  constructor
  · rw [(t.sibShown_frame p g true).same .pkg rfl]
    simp [t]
  · rw [State.setSibAuth_up]
    exact t.setSibUp_shows hp

/-! ### A member is lost (R22, R451) -/

/-- With no report under assembly, a sibling that is gone is on the list of those out of service, and a lead that is gone has been lost. -/
theorem State.sibGone_lists {s : State} {k : Nat} (h : s.trust.hostMeas = none) :
    (s.sibGone k).pkg.out.contains k = true ∧ (s.pkg.lead = k → (s.sibGone k).pkg.everLost = k :: s.pkg.everLost) := by
  unfold State.sibGone
  extract_lets _ t u
  have none : u.trust.hostMeas = none := by
    unfold u
    split <;> exact h
  rw [if_neg (by simp [none])]
  constructor
  · unfold u
    split <;> exact List.contains_iff_mem.2 (.head _)
  · intro lead
    unfold u
    rw [if_pos lead]
    rfl

theorem execSibOutOfService_goes {s : State} {p : Nat} (hs : s.serving = true) (hp : p < s.build.sibCount) :
    execSibOutOfService p s = .next (((s.setSibUp p false).setSibAuth p 0).sibGone (s.sibAt p)) := by
  unfold execSibOutOfService
  rw [guarded_of _ _ _ (by rw [hs, decide_eq_true hp]; rfl)]

theorem State.opLeadLost_lists {s : State} (h : s.trust.hostMeas = none) :
    (State.opLeadLost s).pkg.out.contains s.pkg.lead = true ∧
      (State.opLeadLost s).pkg.everLost = s.pkg.lead :: s.pkg.everLost := by
  unfold State.opLeadLost
  extract_lets t
  have frame : Frame 0x80000000 s t := fold_rule (.refl _ s) fun _ _ h => ite_rule (State.setSibUp_frame rfl h) h
  have pkg : t.pkg = s.pkg := frame.same .pkg rfl
  have trust : t.trust = s.trust := frame.same .trust rfl
  obtain ⟨out, lost⟩ := State.sibGone_lists (s := t) (k := t.pkg.lead) (trust ▸ h)
  exact ⟨pkg ▸ out, (lost rfl).trans (by rw [pkg])⟩

/-! ### Reports (R382) -/

theorem State.opReportReq_sends (s : State) (p : Nat) :
    ∃ h, (State.opReportReq p s).out = s.out ++ [.sib p (s.link (64 + p)).txCtl (.reportData s.trust.lastReport) h] := by
  unfold State.opReportReq
  extract_lets r t
  obtain ⟨h, sent⟩ := s.sendSib_out p (.reportData r)
  refine ⟨h, ?_⟩
  split <;> exact sent

/-- The sibling vouches for the latest report to the lead that asks, unless it is from before the last change of lead. -/
theorem State.opReportReq_pkg (s : State) (p : Nat) :
    (State.opReportReq p s).pkg =
      if s.sibAt p = s.pkg.lead ∧ s.trust.lastReport.isEmpty = false ∧ s.pkg.stale = false then
        { s.pkg with vouched := reportNonce s.trust.lastReport :: s.pkg.vouched } else s.pkg := by
  unfold State.opReportReq
  extract_lets r t
  have pkg : t.pkg = s.pkg := s.sendSib_pkg p _
  have at_ : t.sibAt p = s.sibAt p := s.sibAt_sendSib p p _
  rw [pkg, at_]
  split
  · rfl
  · exact pkg

/-- REPORT_DATA outside an assembly keeps the digest, and its sender is awaited no more. -/
theorem State.opReportData_keeps {s : State} {p : Nat} {body : List Byte} (hb : body ≠ []) (hm : s.trust.hostMeas = none) :
    State.opReportData p body s = { s with pkg := { s.pkg with
      reports := SMap.set s.pkg.reports (s.sibAt p) (Config.sha384 body)
      awaited := s.pkg.awaited.filter (· != s.sibAt p) } } := by
  simp [State.opReportData, hb, hm]

/-! ### The statement -/

/-- Settles O3: each command's guard holds, and its meaning leads where the lemma about it says. -/
theorem packageCommandsComplete : Obligations.PackageCommandsComplete := by
  unfold Obligations.PackageCommandsComplete
  refine ⟨?beat, ?beaten, ?gone, ?lost, ?req, ?data⟩
  case beat =>
    intro s hs hl
    exact guarded_of _ s (fun s => s.sendSibs (List.range s.build.sibCount) .heartbeat) (by rw [hs, hl]; rfl)
  case beaten =>
    intro port gen s hs hp h3
    exact ⟨_, guarded_of _ _ _ (by rw [hs, decide_eq_true hp]; rfl), s.opSibHeartbeat_returns h3 gen⟩
  case gone =>
    intro port s hs hp _ hm
    have frame := s.sibShown_frame port 0 false
    have pkg := frame.same .pkg rfl
    obtain ⟨out, lost⟩ := State.sibGone_lists (k := s.sibAt port) ((congrArg (·.hostMeas) (frame.same .trust rfl)).trans hm)
    refine ⟨_, execSibOutOfService_goes hs hp, out, fun lead => ?_⟩
    rw [lost ((congrArg (·.lead) pkg).trans lead.symm), pkg, lead]
  case lost =>
    intro s hs hl _ hm
    exact ⟨_, guarded_of _ _ _ (by rw [hs, hl]; rfl), State.opLeadLost_lists hm⟩
  case req =>
    intro port s hs hp
    obtain ⟨h, sent⟩ := s.opReportReq_sends port
    have pkg := s.opReportReq_pkg port
    refine ⟨_, h, guarded_of _ _ _ (by rw [hs, decide_eq_true hp]; rfl), sent, fun lead some fresh => ?_, fun stale => ?_⟩
    · rw [pkg, if_pos ⟨lead, some, fresh⟩]
    · rw [pkg, if_neg fun ⟨_, _, fresh⟩ => absurd (stale.symm.trans fresh) (by decide)]
  case data =>
    intro port body s hs hl hp hb hm
    exact (guarded_of _ _ _ (by rw [hs, hl, decide_eq_true hp]; rfl)).trans (congrArg _ (State.opReportData_keeps hb hm))

end Sys2Proof.Machine
end

section
/-! The step on a queue that begins with a command. -/

namespace Sys2Proof.Machine

theorem step_of_queue_cons {s : State} {c : Instr} {r : List Instr} (h : s.pending = c :: r) :
    step s = exec c { s with pending := r } := by
  unfold step
  rw [h]

/-- Settles O33: of the two cases of a step, a queue that begins with a command takes the one that runs it. -/
theorem stepRunsTheFrontCommand : Obligations.StepRunsTheFrontCommand :=
  fun _ _ _ => step_of_queue_cons

end Sys2Proof.Machine
end

section
/-! Domain time: what the meaning of each of these commands leads to. -/

namespace Sys2Proof.Machine

/-! ### What a frame and a report leave of a register -/

theorem Page.ofSlot_own (f : Fam) : ∀ n < f.slots, Page.ofSlot (f.slot0 + n) = some { fam := f, idx := n } := by
  cases f <;> decide

/-- A field that lies within its page is found on a page of that family. -/
theorem Page.ofSlot_field (p : Page) {f : Field} (hf : f.inPage = true) (i : Nat) :
    Page.ofSlot (f.at_ p i / 0x1000) = some { fam := p.fam, idx := p.idx % p.fam.slots } := by
  have slot : f.at_ p i / 0x1000 = p.fam.slot0 + p.idx % p.fam.slots := by
    have := f.inPage_lt hf i
    unfold Field.at_ Page.base
    omega
  rw [slot]
  exact Page.ofSlot_own _ _ (Nat.mod_lt _ (by cases p.fam <;> decide))

/-- A field of a page that is outside the frame. -/
theorem Frame.rd_same {M : Nat} {s t : State} (h : Frame M s t) {p : Page} {f : Field} (hM : M &&& p.fam.mask = 0)
    (hf : f.inPage = true) (i : Nat) : t.rd p f i = s.rd p f i := by
  unfold State.rd
  rw [h.same (.page p.fam) hM _ _ (p.ofSlot_field hf i) rfl]

/-- A report leaves every field outside the ERR page but the bits of ERR_STATUS. -/
theorem State.rd_err (s : State) (p q : Page) (b : Nat) (e : ErrInfo) {f : Field} {i : Nat} (hq : q.fam ≠ .err) (hf : f.inPage = true)
    (ha : f.at_ q i ≠ p.base + hdrErrStatus) : (s.err p b e).rd q f i = s.rd q f i := by
  unfold State.rd
  rw [State.err_reg s p b e _ _ (q.ofSlot_field hf i) hq, if_neg ha]

theorem State.rd_congr {s t : State} (h : t.regs = s.regs) (p : Page) (f : Field) (i : Nat) : t.rd p f i = s.rd p f i := by
  unfold State.rd State.reg
  rw [h]

theorem State.rd_lt (s : State) (p : Page) (f : Field) (i : Nat) : s.rd p f i < 2 ^ f.w := Nat.mod_lt _ (Nat.two_pow_pos _)

theorem State.link_congr {s t : State} (h : t.links = s.links) (n : Nat) : t.link n = s.link n := by
  unfold State.link
  rw [h]

theorem State.isGm_congr {s t : State} (h : t.rd Page.time Reg.TIME_STATUS.IS_GM = s.rd Page.time Reg.TIME_STATUS.IS_GM) :
    t.isGm = s.isGm := congrArg (· != 0) h

theorem State.err_time (s : State) (p : Page) (b : Nat) (e : ErrInfo) : (s.err p b e).time = s.time :=
  s.err_same p b e .time (by decide) (by decide) (by decide) (fun _ => nofun)

theorem State.ptime_congr {s t : State} (h : t.time = s.time) (k : Nat) : t.ptime k = s.ptime k := by
  unfold State.ptime
  rw [h]

/-! ### PPS (R66, R67) -/

theorem State.reach_regs (s : State) (sub : Nat) : (s.reach sub).regs = s.regs := rfl

/-- In a block that is no grandmaster an edge is stored: nothing follows its error. -/
theorem State.opPps_stores {s : State} (h : s.isGm = false) (sub : Nat) :
    (State.opPps sub s).time.lastPps = some s.now ∧ (State.opPps sub s).rdb Page.time Reg.TIME_STATUS.PPS_PRESENT = true ∧
      (State.opPps sub s).rd Page.time Reg.TIME_PPS_LAST_FRAC.FRAC = s.stamp sub % 256 := by
  unfold State.opPps
  extract_lets p t s1 s2 _ s3 _ _ _
  have gm : s2.rd p Reg.TIME_STATUS.IS_GM = s1.rd p Reg.TIME_STATUS.IS_GM := by
    simp (disch := decide) only [s2, p, State.wrPair, State.rd_wr_field, State.rd_wr_other]
  have present : s2.rd p Reg.TIME_STATUS.PPS_PRESENT = 1 := State.rd_wr_same _ _ _ _ _ (by decide)
  have frac : s2.rd p Reg.TIME_PPS_LAST_FRAC.FRAC = t % 256 := by
    simp (disch := decide) only [s2, p, State.rd_wr_other, State.rd_wr_same]
    exact Nat.mod_mod t 256
  have now : s2.now = s.now := by
    simp only [State.now, s2, State.wrPair, State.wr_time]
    rfl
  clear_value s2
  rw [if_pos (by rw [State.isGm_congr (t := s3) gm, State.isGm_congr (State.rd_congr (s.reach_regs sub) _ _ _), h]; rfl)]
  exact ⟨congrArg some now, congrArg (· != 0) present, frac⟩

theorem execPpsLost_notes {s : State} (h : s.isGm = false) :
    execPpsLost s = .next (s.wr Page.time Reg.TIME_STATUS.PPS_PRESENT 0) := by
  unfold execPpsLost
  extract_lets t
  have gm : t.isGm = s.isGm := State.isGm_congr (State.rd_wr_field _ _ _ _ _ _ _ (by decide) (.inr (by decide)) rfl)
  rw [if_neg (by rw [gm, h]; exact Bool.false_ne_true)]

theorem execPpsOutCrossing_drives {s : State} (h : s.rdb Page.time Reg.TIME_CTRL.PPS_OUT_EN = true) :
    execPpsOutCrossing s = .next { s with outs := { s.outs with ppsOut := true } } := by
  unfold execPpsOutCrossing
  rw [guarded_of _ _ _ h]

/-! ### A mark leaves (R69) -/

theorem State.isTimePort_link {s : State} {k : Nat} (h : k < s.ports) : s.isTimePort k = true := by
  simp [State.isTimePort, h]

/-- A mark leaves a link port under the port's control sequence number; its departure is kept. -/
theorem State.opMark_link {s : State} {k : Nat} (hk : k < 64) (sub : Nat) :
    (State.opMark k sub s).out = s.out ++ [.flit k (s.link k).txCtl (.mark (s.markOut k)) (s.flitHdr k (.mark (s.markOut k)))] ∧
      ((State.opMark k sub s).ptime k).txSeq = ((s.ptime k).txSeq + 1) % 65536 ∧ (State.opMark k sub s).regs = s.regs := by
  unfold State.opMark
  extract_lets m t s1
  rw [if_pos hk]
  have time : (s1.sendFlit k (.mark m)).time = s1.time := (State.sendFlit_frame (M := 0xc000080) rfl (.refl _ s1)).same .time rfl
  have port : s1.ptime k = { t with txSeq := (t.txSeq + 1) % 65536, sent := ((m.seq, s.stamp sub) :: t.sent).take 16 } :=
    (State.ptime_setPtime _ _ _ _).trans (if_pos rfl)
  refine ⟨?out, ?seq, ?regs⟩
  case out =>
    unfold State.sendFlit
    rw [State.emit_out _ _ rfl]
    rfl
  case seq => rw [State.ptime_congr time, port]
  case regs =>
    unfold State.sendFlit
    rw [State.emit_regs]
    rfl

/-! ### A mark arrives (R69, R70, R71, R72)

What calibration and the offset filter do with the stamps touches neither the stored arrival nor the neighbour's fields. -/

/-- What is kept of the mark that last arrived at port `k`: its number and arrival, the neighbour's fields; local time and STEER_EN. -/
def State.markView (s : State) (k : Nat) : Option (Nat × Nat) × Option PeerMark × Nat × Nat :=
  ((s.ptime k).rx, (s.ptime k).peer, s.now, s.rd Page.time Reg.TIME_CTRL.STEER_EN)

theorem State.markView_of {s t : State} (k : Nat) (ht : t.time = s.time)
    (hr : t.rd Page.time Reg.TIME_CTRL.STEER_EN = s.rd Page.time Reg.TIME_CTRL.STEER_EN) : t.markView k = s.markView k := by
  unfold State.markView State.now
  rw [State.ptime_congr ht, ht, hr]

theorem State.setPtime_markView (s : State) (k : Nat) (t : PortTime) :
    (s.setPtime k t).markView k = (t.rx, t.peer, s.now, s.rd Page.time Reg.TIME_CTRL.STEER_EN) := by
  unfold State.markView
  rw [State.ptime_setPtime, if_pos rfl]
  rfl

/-- Every register that a mark changes stands above TIME_CTRL. -/
theorem State.wr_markView (s : State) {f : Field} (h : Reg.TIME_CTRL.STEER_EN.off < f.off) (v i k : Nat) :
    (s.wr Page.time f v i).markView k = s.markView k := by
  refine State.markView_of k rfl (State.rd_wr_other _ _ _ _ _ _ _ _ ?_)
  unfold Field.at_
  rw [show Reg.TIME_CTRL.STEER_EN.stride = 0 from rfl]
  omega

theorem State.twr_markView (s : State) {lf sf : Field} (hl : Reg.TIME_CTRL.STEER_EN.off < lf.off)
    (hs : Reg.TIME_CTRL.STEER_EN.off < sf.off) (n v k : Nat) : (s.twr n lf sf v).markView k = s.markView k := by
  unfold State.twr
  split
  · exact s.wr_markView hl v n k
  · exact s.wr_markView hs v (n - 64) k

theorem State.twr_time (s : State) (n : Nat) (lf sf : Field) (v : Nat) : (s.twr n lf sf v).time = s.time := by
  unfold State.twr
  split <;> rfl

theorem State.err_markView (s : State) (b k : Nat) (e : ErrInfo) : (s.err Page.time b e).markView k = s.markView k :=
  State.markView_of k (s.err_time _ _ _) (s.rd_err _ _ _ _ (by decide) rfl (by decide))

theorem State.struck_markView (s : State) (b k : Nat) {f : State → State} (h : ∀ t : State, (f t).markView k = t.markView k) :
    (s.struck Page.time b f).markView k = s.markView k := by
  unfold State.struck
  split
  · exact h (s.takeArmed Page.time b)
  · exact h s

theorem State.setCal_markView (s : State) (n k : Nat) (b : Bool) : (s.setCal n b).markView k = s.markView k :=
  s.twr_markView (by decide) (by decide) _ _ _

theorem State.calDone_markView (s : State) (n k : Nat) (cable : Int) : (s.calDone n cable).markView k = s.markView k := by
  unfold State.calDone
  extract_lets a
  split
  · exact s.setCal_markView n k true
  · exact s.struck_markView _ _ fun t => (State.err_markView _ _ _ _).trans (t.setCal_markView n k false)

theorem State.calibrate_markView (s : State) (k : Nat) (cable : Int) : (s.calibrate k cable).markView k = s.markView k := by
  unfold State.calibrate
  extract_lets t s1 s2 d s3 s4
  have counted : s2.markView k = s.markView k := (State.wr_markView _ (by decide) _ _ _).trans (s.setPtime_markView k _)
  have shown : s3.markView k = s.markView k := s.wr_markView (by decide) _ _ _
  have sib : s4.markView k = s3.markView k := s3.setPtime_markView k _
  split
  · split
    · exact counted
    · exact (State.calDone_markView _ _ _ _).trans counted
  · split
    · split
      · exact ((State.setCal_markView _ _ _ _).trans sib).trans shown
      · exact sib.trans shown
    · exact shown

theorem State.outlier_markView (s : State) (k : Nat) : (s.outlier k).markView k = s.markView k := by
  unfold State.outlier
  extract_lets t s1
  have restarted : s1.markView k = s.markView k := s.setPtime_markView k _
  refine (State.err_markView _ _ _ _).trans ?_
  split
  · exact restarted
  · exact (State.setCal_markView _ _ _ _).trans restarted

theorem State.acceptTheta_markView (s : State) (k : Nat) (theta : Int) : (s.acceptTheta k theta).markView k = s.markView k := by
  unfold State.acceptTheta
  extract_lets t inj s1 thetas s2
  have counted : s1.markView k = s.markView k := s.twr_markView (by decide) (by decide) _ _ _
  split
  · split
    · refine (s1.setPtime_markView k _).trans ?_
      show ((s.ptime k).rx, (s.ptime k).peer, s1.now, s1.rd Page.time Reg.TIME_CTRL.STEER_EN) = _
      rw [← State.ptime_congr (s.twr_time _ _ _ _ : s1.time = s.time)]
      exact counted
    · exact (s1.struck_markView _ _ fun x => x.outlier_markView k).trans counted
  · exact (s2.twr_markView (by decide) (by decide) _ _ _).trans (s.setPtime_markView k _)

/-- The stamps of a mark are used: its number and its arrival are kept. -/
theorem State.useStamps_markView (s : State) (k : Nat) (m : MarkFields) (auth : Bool) (sub : Nat) :
    (s.useStamps k m auth sub).markView k =
      (some (m.seq, s.stamp sub), (s.ptime k).peer, s.now, s.rd Page.time Reg.TIME_CTRL.STEER_EN) := by
  unfold State.useStamps
  extract_lets got s1
  clear_value got
  have noted : s1.markView k = (some (m.seq, s.stamp sub), (s.ptime k).peer, s.now, s.rd Page.time Reg.TIME_CTRL.STEER_EN) :=
    s.setPtime_markView k _
  split
  · extract_lets s2
    have calibrated : s2.markView k = _ := (s1.calibrate_markView k _).trans noted
    split
    · exact (s2.acceptTheta_markView k _).trans calibrated
    · exact calibrated
  · exact noted

/-- The neighbour's fields are those of the mark. -/
theorem State.notePeer_markView (s : State) (k : Nat) (m : MarkFields) (auth : Bool) :
    (s.notePeer k m auth).markView k =
      ((s.ptime k).rx, some { m := m, auth := auth, at_ := s.now }, s.now, s.rd Page.time Reg.TIME_CTRL.STEER_EN) := by
  unfold State.notePeer
  extract_lets x _ s1 _ s2 s3 s4
  have noted : s2.markView k = ((s.ptime k).rx, some x, s.now, s.rd Page.time Reg.TIME_CTRL.STEER_EN) := s.setPtime_markView k _
  have state : s3.markView k = s2.markView k := s2.twr_markView (by decide) (by decide) _ _ _
  have hops : s4.markView k = s3.markView k := s3.twr_markView (by decide) (by decide) _ _ _
  exact (((s4.twr_markView (by decide) (by decide) _ _ _).trans hops).trans state).trans noted

theorem State.steer_off {s : State} (h : s.rd Page.time Reg.TIME_CTRL.STEER_EN = 0) : s.steer = s := by
  unfold State.steer
  rw [if_pos (by simp [State.rdb, h])]

/-- An authenticated mark in a block that does not steer. -/
theorem State.acceptMark_markView {s : State} {k : Nat} {m : MarkFields} {sub : Nat} (h : s.rd Page.time Reg.TIME_CTRL.STEER_EN = 0) :
    (s.acceptMark k m sub).markView k = (some (m.seq, s.stamp sub), some { m := m, auth := true, at_ := s.now }, s.now, 0) := by
  unfold State.acceptMark
  extract_lets s1 s2
  have counted : s2.markView k = (some (m.seq, s.stamp sub), (s.ptime k).peer, s.now, 0) :=
    (s1.twr_markView (by decide) (by decide) _ _ _).trans (h ▸ s.useStamps_markView k m true sub)
  have rx : (s2.ptime k).rx = some (m.seq, s.stamp sub) := congrArg (·.1) counted
  have now : s2.now = s.now := congrArg (·.2.2.1) counted
  have off : s2.rd Page.time Reg.TIME_CTRL.STEER_EN = 0 := congrArg (·.2.2.2) counted
  have noted : (s2.notePeer k m true).markView k = (some (m.seq, s.stamp sub), some { m := m, auth := true, at_ := s.now }, s.now, 0) := by
    rw [s2.notePeer_markView, rx, now, off]
  rw [State.steer_off (congrArg (·.2.2.2) noted)]
  exact noted

/-- A sealed mark of a link port that authenticates and comes in order is accepted under its control sequence number (R127). -/
theorem State.opMarkReceive_sealed {s : State} {k : Nat} {m : MarkFields} {chk : UnitCheck} {q sub : Nat} (hk : k < 64)
    (hf : chk.fecBad = false) (hc : chk.chkBad = false) (ht : chk.tagOk = true) (hs : s.sealedPort k = true)
    (hq : s.ctlNext k ≤ s.ctlSeq k q) (ha : s.armedAt Page.time Err.time.MARK_AUTH = none) :
    s.opMarkReceive k m chk false q sub = (s.setLink k { s.link k with rxCtl := some (s.ctlSeq k q) }).acceptMark k m sub := by
  simp [State.opMarkReceive, State.sealedMark, hk, hf, hc, ht, hs, hq, ha]

/-- A mark of an unsealed port: its stamps calibrate and nothing else (R70). -/
theorem State.opMarkReceive_bare {s : State} {k : Nat} {m : MarkFields} {chk : UnitCheck} {unauth : Bool} {q sub : Nat}
    (hf : chk.fecBad = false) (hc : chk.chkBad = false) (hs : s.sealedPort k = false) :
    s.opMarkReceive k m chk unauth q sub = s.useStamps k m false sub := by
  simp [State.opMarkReceive, hf, hc, hs]

/-- A mark that a link port takes; in training the port then goes on, which changes nothing of time (R130). -/
theorem execMarkReceive_takes {s : State} {k : Nat} (m : MarkFields) (chk : UnitCheck) (hdr : MarkHdr) (sub : Nat)
    (hs : s.serving = true) (hp : k < s.ports) (hm : s.marks k = true) :
    ∃ t, execMarkReceive k m chk hdr sub s = .next t ∧ t.time = (s.opMarkReceive k m chk hdr.unauth hdr.seqLo sub).time ∧
      ((s.opMarkReceive k m chk hdr.unauth hdr.seqLo sub).lstate k = 3 → t = s.opMarkReceive k m chk hdr.unauth hdr.seqLo sub) := by
  refine ⟨_, guarded_of _ _ _ (by rw [hs, State.isTimePort_link hp, hm]; rfl), ?time, ?up⟩
  case time =>
    dsimp only
    split
    · exact (State.progress_frame (M := 0x100850c000280) rfl (.refl _ _)).same .time rfl
    · rfl
  case up =>
    intro up
    exact if_neg (by simp [up])

theorem State.lstate_of_sealed {s : State} {k : Nat} (hk : k < 64) (h : s.sealedPort k = true) : s.lstate k = 3 := by
  unfold State.sealedPort State.portUp at h
  rw [if_pos hk] at h
  simpa using (Bool.and_eq_true_iff.1 h).2

/-- Acceptance changes no link and no link state. -/
theorem State.acceptMark_leaves (s : State) (k : Nat) (m : MarkFields) (sub n : Nat) :
    (s.acceptMark k m sub).links = s.links ∧ (s.acceptMark k m sub).lstate n = s.lstate n :=
  have frame : Frame 0x840c000240 s (s.acceptMark k m sub) := State.acceptMark_frame rfl (.refl _ s)
  ⟨frame.same .links rfl, frame.rd_same (show 0x840c000240 &&& Fam.lpt.mask = 0 from rfl) rfl 0⟩

/-! ### Grandmaster and time states (R65, R66, R79) -/

theorem State.rd_time_err (s : State) (b : Nat) (e : ErrInfo) {f : Field} {i : Nat} (hf : f.inPage = true)
    (ha : f.at_ Page.time i ≠ Page.time.base + hdrErrStatus) : (s.err Page.time b e).rd Page.time f i = s.rd Page.time f i :=
  s.rd_err _ _ _ _ (by decide) hf ha

theorem State.lockTo_regs (s : State) (g : Option (Nat × Nat)) (b : Bool) : (s.lockTo g b).regs = s.regs := rfl

theorem State.lockTo_topTerm (s : State) (g : Option (Nat × Nat)) (b : Bool) : (s.lockTo g b).time.topTerm = s.time.topTerm := rfl

theorem State.setRate_time (s : State) (r : Int) : (s.setRate r).time = s.time := State.wr_time _ _ _ _ _

theorem State.rd_setRate (s : State) (r : Int) {f : Field} (h : f.at_ Page.time 0 ≠ Reg.TIME_RATE_ADJ.RATE.at_ Page.time 0) :
    (s.setRate r).rd Page.time f = s.rd Page.time f := State.rd_wr_other _ _ _ _ _ _ _ _ h

/-- The grandmaster named: its term, its priority. -/
theorem State.setGm_names (s : State) (g : Nat × Nat) (term : Nat) :
    (s.setGm g term).rd Page.time Reg.TIME_GM_TERM.TERM = term % 65536 ∧
      (s.setGm g term).rd Page.time Reg.TIME_GM_ID.PRIO = g.1 % 256 := by
  unfold State.setGm
  constructor
  · exact State.rd_wr_same _ _ _ _ _ (by decide)
  · simp (disch := decide) only [State.rd_wr_field, State.rd_wr_other, State.rd_wr_same]
    rfl

/-- A block that elects itself is LOCKED to itself under the next term. -/
theorem execGmSelfElect_elects {s : State} (hs : s.serving = true) (hc : s.candidate = true) (hg : s.isGm = false)
    (he : s.rdb Page.time Reg.TIME_CTRL.STEER_EN = true) (hn : s.gmKnown = none)
    (hu : ((List.range s.ports).any s.upWithMarks) = true) :
    ∃ t, execGmSelfElect s = .next t ∧ t.timeState = 2 ∧ t.isGm = true ∧ t.time.topTerm = (s.time.topTerm + 1) % 65536 ∧
      t.rd Page.time Reg.TIME_GM_TERM.TERM = (s.time.topTerm + 1) % 65536 ∧
      t.rd Page.time Reg.TIME_GM_ID.PRIO = s.rd Page.time Reg.TIME_GM_CFG.PRIO := by
  refine ⟨_, guarded_of _ _ _ (by rw [hs, hc, hg, he, hn, hu]; rfl), ?_⟩
  extract_lets term _ s1 s2 p s3 s4
  have regs : s1.regs = s.regs := rfl
  have state : s3.rd p Reg.TIME_STATUS.STATE = 2 := by
    simp (disch := decide) only [s3, p, State.rd_wr_field, State.rd_wr_same]
    decide
  have isGm : s3.rd p Reg.TIME_STATUS.IS_GM = 1 := by
    simp (disch := decide) only [s3, p, State.rd_wr_field, State.rd_wr_same]
    decide
  have named : s3.rd p Reg.TIME_GM_TERM.TERM = term := by
    simp (disch := decide) only [s3, p, State.rd_wr_other]
    exact (s1.setGm_names _ term).1.trans (Nat.mod_mod _ 65536)
  have prio : s3.rd p Reg.TIME_GM_ID.PRIO = s.rd p Reg.TIME_GM_CFG.PRIO := by
    simp (disch := decide) only [s3, p, State.rd_wr_other]
    refine (s1.setGm_names _ term).2.trans ?_
    rw [State.rd_congr regs]
    exact Nat.mod_eq_of_lt (s.rd_lt _ _ _)
  have top : s3.time.topTerm = term := by
    simp only [s3, s2, State.setGm, State.wr_time]
    rfl
  clear_value s3
  have kept (f : Field) (hf : f.at_ p 0 ≠ Reg.TIME_RATE_ADJ.RATE.at_ p 0) :
      (if s4.rdb p Reg.TIME_CTRL.SOURCE then s4 else s4.setRate 0).rd p f = s3.rd p f := by
    have locked : s4.rd p f = s3.rd p f := State.rd_congr (s3.lockTo_regs _ _) _ _ _
    split
    · exact locked
    · exact (s4.rd_setRate 0 hf).trans locked
  refine ⟨(kept _ (by decide)).trans state, congrArg (· != 0) ((kept _ (by decide)).trans isGm), ?_,
    (kept _ (by decide)).trans named, (kept _ (by decide)).trans prio⟩
  have same : s4.time.topTerm = s3.time.topTerm := s3.lockTo_topTerm _ _
  split
  · exact same.trans top
  · rw [State.setRate_time]
    exact same.trans top

theorem State.toHoldover_holds (s : State) : s.toHoldover.timeState = 1 ∧ s.toHoldover.time.holdAt = s.now := by
  unfold State.toHoldover
  extract_lets e rates s1 _ s3
  constructor
  · refine (State.rd_time_err _ _ _ rfl (by decide)).trans ?_
    simp (disch := decide) only [State.rd_wr_field, State.rd_wr_same]
    decide
  · rw [State.err_time]
    show s1.now = s.now
    unfold s1
    split <;> rfl

theorem State.toFree_frees (s : State) : s.toFree.timeState = 0 ∧ s.toFree.hops = 15 := by
  unfold State.toFree
  extract_lets p known s1
  have free : s1.timeState = 0 ∧ s1.hops = 15 := by
    simp (disch := decide) only [s1, p, State.timeState, State.hops, State.rd_wr_field, State.rd_wr_same]
    decide
  split
  · exact free
  · simpa (disch := decide) [State.timeState, State.hops, State.rd_wr_other] using free

theorem execParentLost_holds {s : State} (hs : s.serving = true) (ht : s.timeState = 2) (hg : s.isGm = false) (hn : s.gmNow = none) :
    execParentLost s = .next s.toHoldover := by
  unfold execParentLost
  rw [guarded_of _ _ _ (by rw [hs, ht, hg]; rfl), hn]

theorem execGmLost_reports {s : State} (hs : s.serving = true) (ht : s.timeState = 1) :
    execGmLost s = .next (s.err Page.time Err.time.GM_LOST) := by
  unfold execGmLost
  rw [guarded_of _ _ _ hs, if_pos ht]

theorem execHoldoverExpired_frees {s : State} (hr : s.boot.phase = .running) (ht : s.timeState = 1) :
    execHoldoverExpired s = .next (s.toFree.err Page.time Err.time.HOLDOVER_EXPIRED) :=
  guarded_of _ _ _ (by rw [State.up_of_running hr, ht]; rfl)

theorem execSteerDisable_frees {s : State} {p : Party} (hr : s.boot.phase = .running) (hw : mayWrite p Page.time = true)
    (hl : s.locked Page.time = false) :
    execSteerDisable p s = .next ((s.wr Page.time Reg.TIME_CTRL.STEER_EN 0).toFree.setRate 0) := by
  refine (State.action_acts _ _ _ _ (by simp [State.released, hr]) rfl (by simp [State.pageUp, State.up, hr]) hw).trans ?_
  unfold State.unlocked
  rw [if_pos (by rw [hl]; rfl)]

/-! ### The statement -/

/-- Settles O7: each command's guard holds, and its meaning leads where the lemma about it says. -/
theorem timeCommandsComplete : Obligations.TimeCommandsComplete := by
  unfold Obligations.TimeCommandsComplete
  refine ⟨?check, ?edge, ?noEdge, ?crossing, ?fall, ?mark, ?bare, ?sealed, ?elect, ?parent, ?gm, ?expired, ?disable⟩
  case check => exact fun _ _ => rfl
  case edge =>
    intro sub s hg
    exact ⟨_, rfl, State.opPps_stores hg sub⟩
  case noEdge => exact fun s hg => execPpsLost_notes hg
  case crossing => exact fun s he => execPpsOutCrossing_drives he
  case fall => exact fun _ => rfl
  case mark =>
    intro port sub s hs hk hp hm
    exact ⟨_, guarded_of _ _ _ (by rw [hs, State.isTimePort_link hp, hm]; rfl), State.opMark_link hk sub⟩
  case bare =>
    intro port m chk unauth q sub s hs hp hk hm hf hc hb
    obtain ⟨t, done, time, -⟩ := execMarkReceive_takes m chk { unauth := unauth, seqLo := q } sub hs hp hm
    have view := s.useStamps_markView port m false sub
    rw [State.opMarkReceive_bare hf hc hb] at time
    refine ⟨t, done, ?_⟩
    rw [State.ptime_congr time]
    exact ⟨congrArg (·.1) view, congrArg (·.2.1) view⟩
  case sealed =>
    intro port m chk q sub s hs hp hk hm hf hc ht hb he hq ha
    obtain ⟨t, done, -, up⟩ := execMarkReceive_takes m chk { unauth := false, seqLo := q } sub hs hp hm
    rw [State.opMarkReceive_sealed hk hf hc ht hb hq ha] at up
    set l := s.setLink port { s.link port with rxCtl := some (s.ctlSeq port q) } with hl
    obtain ⟨links, lstate⟩ := l.acceptMark_leaves port m sub port
    have view : (l.acceptMark port m sub).markView port = _ := State.acceptMark_markView (by simpa [State.rdb, hl] using he)
    obtain rfl := up (lstate.trans (State.lstate_of_sealed hk hb))
    refine ⟨_, done, congrArg (·.1) view, congrArg (·.2.1) view, ?_⟩
    rw [State.link_congr links, hl, State.link_setLink, if_pos rfl]
  case elect => exact fun s hs hc hg he hn hu => execGmSelfElect_elects hs hc hg he hn hu
  case parent =>
    intro s hs ht hg hn
    have held : exec .parentLost s = .next s.toHoldover := execParentLost_holds hs ht hg hn
    exact ⟨held, _, held, s.toHoldover_holds⟩
  case gm => exact fun s hs ht => execGmLost_reports hs ht
  case expired =>
    intro s hr ht
    have freed : exec .holdoverExpired s = .next (s.toFree.err Page.time Err.time.HOLDOVER_EXPIRED) := execHoldoverExpired_frees hr ht
    obtain ⟨state, hops⟩ := s.toFree_frees
    exact ⟨freed, _, freed, (State.rd_time_err _ _ _ rfl (by decide)).trans state,
      (State.rd_time_err _ _ _ rfl (by decide)).trans hops⟩
  case disable => exact fun p s hr hw hl => execSteerDisable_frees hr hw hl

end Sys2Proof.Machine
end

section
/-! Copies, contributions, signals, waits, bindings and graphs: what the meaning of each of these packets leads to. -/

namespace Sys2Proof.Machine

variable {s : State} {p : Nat} {x : Pkt}

/-! ### The packet that an engine takes up -/

/-- A ready packet whose engine's work on it leads to `t`, with no access that must wait. -/
theorem State.perform_next {op : Nat} {f : Pkt → State → State} {t : State} (hr : s.ready p op = true) (hx : s.pkt p = some x)
    (hf : f x (s.calm.setPkt p { x with performed := true }) = t) (hb : t.blocked = false) : s.perform p op f = .next t := by
  subst hf
  simp [State.perform, State.orWait, hr, hx, hb]

theorem State.opcode_of_ready {op : Nat} (hr : s.ready p op = true) (hx : s.pkt p = some x) : x.opcode = op := by
  simp only [State.ready, hx, Bool.and_eq_true, beq_iff_eq] at hr
  obtain ⟨-, ⟨⟨opcode, -⟩, -⟩, -⟩ := hr
  exact opcode

/-! ### COPY and REDUCE (R308, R309, R312, R313) -/

theorem execCopy_unbound (hb : s.boundPkt p = false) : execCopy p s = s.perform p 0x03 (State.opCopy p) := by
  simp [execCopy, hb]

theorem execReduce_unbound (hb : s.boundPkt p = false) : execReduce p s = s.perform p 0x04 (State.opReduce p) := by
  simp [execReduce, hb]

/-- On a bound queue both wait for the executor. -/
theorem exec_of_boundPkt (hb : s.boundPkt p = true) : exec (.copy p) s = .next s ∧ exec (.reduce p) s = .next s := by
  change execCopy p s = _ ∧ execReduce p s = _
  simp [execCopy, execReduce, hb]

section
/- The COPY is neither refused nor held, and its lines are ready. -/
variable (hs : s.copyStatus x = 0) (hh : s.copyHeld x = false) (hl : (s.copyLines x).1 = true)
include hs hh hl

theorem State.opCopy_local {src : Nat} (hr : (s.copyLines x).2.copyRemote x = none)
    (ho : sideOff ((s.copyLines x).2.copySrc x) = some src) :
    s.opCopy p x = State.moverLocal (x.f 24 5 / moverPiece + 1) p x src 0 false (s.copyLines x).2 := by
  simp [State.opCopy, hs, hh, hl, hr, ho]

theorem State.opCopy_remote (hr : ((s.copyLines x).2.copyRemote x).isSome = true) (ho : ((s.copyLines x).2.copySrc x).isSome = true) :
    s.opCopy p x = ((s.copyLines x).2.copyOps 8 p).copyEnd p := by
  simp [State.opCopy, hs, hh, hl, hr, Option.ne_none_iff_isSome.2 ho]

theorem State.opCopy_host (ho : (s.copyLines x).2.copySrc x = none) : s.opCopy p x = (s.copyLines x).2.moverAsk p := by
  simp [State.opCopy, hs, hh, hl, ho, sideOff]

end

/-- A local operand of a root in use is read and delivered, and the packet ends with the delivery's status. -/
theorem State.opReduce_delivers {n off len : Nat} {d : RedDesc} {k : Bool × State} {a : Answer}
    (hn : x.f 16 2 % 4096 = n) (hd : s.desc n = d)
    (hlen : spanBytes (RedDesc.nset d).fmt (RedDesc.nset d).fvar (RedDesc.elems d) = len)
    (hk : s.prepLines (s.herdLines off len) false = k) (ha : k.2.readAs (s.ctxMaster (s.pktCtx x)) off len = a)
    (named : n ≠ 0xFFF) (valid : RedDesc.valid d = true) (kind : RedDesc.kind d = 0) (loc : RedDesc.loc d = true)
    (ho : s.localOff (x.f 8 8) = some off) (running : (s.root n).stalled = false) (lines : k.1 = true)
    (free : k.2.rangeHeld 0 off len = false) (ok : a.status = St.OK) :
    s.opReduce p x =
      let r := a.st.redDeliver n localSource (.operand a.data a.poison) none
      (r.1.addCtr (s.pktCtx x) 3 (r.1.now - x.at_)).finish p (deliveryStatus r.2) := by
  simp [State.opReduce, hn, hd, hlen, hk, ha, named, valid, kind, loc, ho, running, lines, free, ok]

/-! ### SIGNAL, WAIT and TAKE (R310, R311, R340 to R342) -/

theorem State.opWait_resident (h : (s.fenceSlot (x.f 8 2)).isSome = true) : s.opWait p x = (s.useFence (x.f 8 2)).testWait p x := by
  simp [State.opWait, h]

section
variable (clean : (s.fenceNow (x.f 8 2)).2.2 = none)
include clean

theorem State.testWait_wait_reached (ho : x.opcode = 0x06) (hv : x.f 16 8 ≤ (s.fenceNow (x.f 8 2)).1) :
    s.testWait p x = s.finish p St.OK := by
  simp [State.testWait, clean, ho, hv]

theorem State.testWait_take_reached (ho : x.opcode = 0x07) (hv : x.f 16 8 ≤ (s.fenceNow (x.f 8 2)).1)
    (ht : 0 < (s.fenceNow (x.f 8 2)).2.1) :
    s.testWait p x =
      (s.fencePut (x.f 8 2) (s.fenceNow (x.f 8 2)).1 ((s.fenceNow (x.f 8 2)).2.1 - 1) none).finish p St.OK := by
  simp [State.testWait, clean, ho, hv, ht]

theorem State.testWait_wait_early (ho : x.opcode = 0x06) (hv : (s.fenceNow (x.f 8 2)).1 < x.f 16 8) :
    s.testWait p x =
      s.addWaiter { pkt := p, fence := x.f 8 2, value := x.f 16 8, take := false, order := x.order } := by
  simp [State.testWait, clean, ho, hv]

end

theorem execWaitTimeout_ends (hu : s.feUp = true) (hx : s.pkt p = some x) (ho : x.opcode = 0x06 ∨ x.opcode = 0x07)
    (started : x.started = true) (ended : x.ended = .none) (limit : x.f 24 4 ≠ 0) :
    execWaitTimeout p s = .next ((((s.finish p St.TIMEOUT).dropWaiters [p]).dropSlotWait p).testFence (x.f 8 2)) := by
  refine (guarded_of _ _ _ hu).trans ?_
  simp [State.opWaitTimeout, hx, ho, started, ended, limit]

theorem State.present_fns (h : s.boot.post = false) : s.present Page.fns = true := congrArg (!·) h

theorem execFnsEvict_gives {q : Party} {f : Nat} (hr : s.boot.phase = .running) (hp : s.boot.post = false)
    (hw : mayWrite q Page.fns = true) (hv : s.boot.svcHalted = false) (resident : (s.fenceSlot f).isSome = true)
    (idle : s.waitersOf f = []) (asked : s.front.slotWait ≠ []) : execFnsEvict q f s = .next (s.giveSlot f) := by
  refine (State.action_acts _ _ _ _ (by simp [State.released, hr]) (State.present_fns hp)
    (by simp [State.pageUp, State.up_of_running hr]) hw).trans ?_
  simp [State.assisted, State.opEvict, hv, resident, idle, asked]

/-! ### GAIT_BIND (R312) -/

theorem State.bindQueue_binds {q mode : Nat} (hc : (s.queue q).ctx = s.pktCtx x) (hb : (s.queue q).bind = 0) (hm : mode ≠ 0)
    (empty : s.pktsOf q = []) (room : s.bindsFull x.fn = false) :
    s.bindQueue p x q mode =
      ((s.useAdd x.fn Reg.VFn_USE0.BINDS true).setQueue q { s.queue q with bind := mode }).finish p St.OK := by
  simp [State.bindQueue, hc, hb, hm, empty, room]

theorem State.bindRing_binds {r : Nat} (free : SMap.find? s.front.rings r = none) (room : s.bindsFull x.fn = false) :
    s.bindRing p x r =
      (({ s with front := { s.front with rings := SMap.set s.front.rings r (s.pktCtx x) } } : State).useAdd x.fn
        Reg.VFn_USE0.BINDS true).finish p St.OK := by
  simp [State.bindRing, free, room]

/-! ### GRAPH_RUN (R336) -/

theorem State.opGraphRun_enters {h v n : Nat} {r : List Byte × Nat × State} (hh : x.f 8 4 % 2 ^ 18 = h) (hv : x.graphVer = some v)
    (hn : bits (s.objW h 7) (16 * v) 13 = n) (hr : s.readPhys (s.objBase h + v * (s.objSize h / 2)) (64 * n) = r)
    (clean : r.2.1 = 0) (stored : cutPackets n r.1 ≠ []) :
    s.opGraphRun p x = (cutPackets n r.1).zipIdx.foldl (fun s e =>
      s.addPkt { Pkt.fresh x.queue x.idx x.fn e.1 with graph := some p, graphPos := e.2 }) r.2.2 := by
  subst hh hn hr
  unfold State.opGraphRun
  rw [hv]
  refine if_neg ?_
  rintro (poisoned | empty)
  · exact poisoned clean
  · exact stored (List.isEmpty_iff.1 empty)

/-! ### GAIT_LOAD (R91, R318) -/

/-- A Post block asks the host for the header. -/
theorem State.opGaitLoad_post (hp : s.boot.post = true) (hl : x.f 24 4 ≠ 0) :
    s.opGaitLoad p x = s.hostRead 0 (x.f 16 8) (min (x.f 24 4) 64) Use.IMAGE p := by
  simp [State.opGaitLoad, hp, hl]

section
variable {off : Nat} {h : Answer} (hp : s.boot.post = false) (hl : x.f 24 4 ≠ 0) (ho : s.localOff (x.f 16 8) = some off)
  (hh : s.readAs Master.pf off (min (x.f 24 4) 64) = h) (ok : h.status = St.OK)
include hp hl ho hh ok

/-- The header of a Mount block's image decides. -/
theorem State.opGaitLoad_head (hd : h.st.headDecides h.data (x.f 24 4) = true) :
    s.opGaitLoad p x = h.st.finishLoad p (x.f 8 1 % 64) h.data (x.f 24 4) := by
  simp [State.opGaitLoad, hp, hl, ho, hh, ok, hd]

/-- It does not: the length that it implies is read and loaded. -/
theorem State.opGaitLoad_image {a : Answer} (hd : h.st.headDecides h.data (x.f 24 4) = false)
    (ha : h.st.readAs Master.pf off (imgLen h.data) = a) (read : a.status = St.OK) :
    s.opGaitLoad p x = a.st.finishLoad p (x.f 8 1 % 64) a.data (x.f 24 4) := by
  simp [State.opGaitLoad, hp, hl, ho, hh, ok, hd, ha, read]

end

/-! ### The statement -/

/-- Settles O22: each packet that its engine takes up is performed, and its operation leads where the lemma about it says. -/
theorem packetCommandsComplete : Obligations.PacketCommandsComplete := by
  unfold Obligations.PacketCommandsComplete
  refine ⟨?bound, ?copy, ?reduce, ?signal, ?waits, ?timeout, ?evict, ?bind, ?graph, ?load⟩
  case bound => exact fun _ _ hb => exec_of_boundPkt hb
  case copy =>
    intro p x s hb hr hx u v hs hh hl
    refine ⟨?here, ?far, ?host⟩
    case here =>
      intro src near ho t free
      exact (execCopy_unbound hb).trans (State.perform_next hr hx (State.opCopy_local hs hh hl near ho) free)
    case far =>
      intro far ho t free
      exact (execCopy_unbound hb).trans (State.perform_next hr hx (State.opCopy_remote hs hh hl far ho) free)
    case host =>
      intro ho free
      exact (execCopy_unbound hb).trans (State.perform_next hr hx (State.opCopy_host hs hh hl ho) free)
  case reduce =>
    intro p off x s hb hr hx u n d len k a r named valid kind loc ho running lines held ok t free
    exact (execReduce_unbound hb).trans (State.perform_next hr hx
      (State.opReduce_delivers (s := u) (k := k) (a := a) rfl rfl rfl rfl rfl named valid kind loc ho running lines held ok) free)
  case signal => exact fun p x s hr hx => State.perform_next hr hx rfl
  case waits =>
    intro p x s hx resident u v t k
    have tested : (s.calm.setPkt p { x with performed := true }).opWait p x = u.testWait p x := State.opWait_resident resident
    refine ⟨?wait, ?take, ?early⟩
    case wait =>
      intro hr clean hv free
      exact State.perform_next hr hx (tested.trans (State.testWait_wait_reached clean (State.opcode_of_ready hr hx) hv)) free
    case take =>
      intro hr clean hv ht free
      exact State.perform_next hr hx (tested.trans (State.testWait_take_reached clean (State.opcode_of_ready hr hx) hv ht)) free
    case early =>
      intro hr clean hv free
      exact State.perform_next hr hx (tested.trans (State.testWait_wait_early clean (State.opcode_of_ready hr hx) hv)) free
  case timeout => exact fun p x s hu hx ho started ended limit => execWaitTimeout_ends hu hx ho started ended limit
  case evict => exact fun q f s hr hp hw hv resident idle asked => execFnsEvict_gives hr hp hw hv resident idle asked
  case bind =>
    intro p x s hr hx u
    refine ⟨?queue, ?ring⟩
    case queue =>
      intro h3 hc hb hm empty room v t free
      exact State.perform_next hr hx ((if_neg h3).trans (State.bindQueue_binds hc hb hm empty room)) free
    case ring =>
      intro h3 unbound room t free
      exact State.perform_next hr hx ((if_pos h3).trans (State.bindRing_binds unbound room)) free
  case graph =>
    intro p v x s hr hx hv u h n r t clean stored free
    exact State.perform_next hr hx (State.opGraphRun_enters (s := u) rfl hv rfl rfl clean stored) free
  case load =>
    intro p off x s hr hx u len h a
    refine ⟨?head, ?image, ?post⟩
    case head =>
      intro hp hl ho ok hd t free
      exact State.perform_next hr hx (State.opGaitLoad_head (s := u) (h := h) hp hl ho rfl ok hd) free
    case image =>
      intro hp hl ho ok hd read t free
      exact State.perform_next hr hx (State.opGaitLoad_image (s := u) (h := h) (a := a) hp hl ho rfl ok hd rfl read) free
    case post =>
      intro hp hl t free
      exact State.perform_next hr hx (State.opGaitLoad_post (s := u) hp hl) free

end Sys2Proof.Machine
end

section
/-! Port engines: what their shared operations leave of the port's registers and of its link, and when their commands act. -/

namespace Sys2Proof.Machine

/-! ### Fields of a port's page -/

/-- Two fields of a page that share no bit: in different registers, or in different bits of one. -/
abbrev Field.Apart (f g : Field) : Prop := g.off ≠ f.off ∨ f.lo + f.w ≤ g.lo ∨ g.lo + g.w ≤ f.lo

/-- A write of a field leaves the fields of its page that share no bit with it. -/
theorem State.rd_wr_apart (s : State) (p : Page) {f g : Field} (v : Nat) (h : f.lo + f.w ≤ 32) (hd : f.Apart g) :
    (s.wr p f v).rd p g = s.rd p g := by
  have place (x : Field) : x.at_ p 0 = p.base + x.off := by simp [Field.at_]
  by_cases ho : g.off = f.off
  · exact State.rd_wr_field _ _ _ _ _ _ _ h (hd.resolve_left (not_not_intro ho)) (by rw [place, place, ho])
  · exact State.rd_wr_other _ _ _ _ _ _ _ _ (by rw [place, place]; omega)

/-- A write of a page of another family. -/
theorem State.rd_port_wr (s : State) (n : Nat) {p : Page} {f g : Field} (v i : Nat) (hp : p.fam ≠ .lpt) (hf : f.inPage = true)
    (hg : g.inPage = true) : (s.wr p f v i).rd (Page.lpt n) g = s.rd (Page.lpt n) g := by
  have written : Frame p.fam.mask s (s.wr p f v i) := State.wr_frame (.refl _ s) (Covers.refl _) hf
  have apart : p.fam.mask &&& Fam.lpt.mask = 0 := Part.mask_and (.page p.fam) (.page .lpt) fun e => hp (Part.page.inj e)
  exact written.rd_same apart hg 0

/-- An error of a port changes its ERR_STATUS alone. -/
theorem State.rd_port_err (s : State) (n b : Nat) (e : ErrInfo) {f : Field} (hf : f.inPage = true) (ho : f.off ≠ hdrErrStatus) :
    (s.err (Page.lpt n) b e).rd (Page.lpt n) f = s.rd (Page.lpt n) f := by
  refine s.rd_err _ _ _ _ (by decide : Fam.lpt ≠ .err) hf ?_
  have : f.at_ (Page.lpt n) 0 = (Page.lpt n).base + f.off := by simp [Field.at_]
  omega

/-! ### Links and the control flits sent -/

@[simp] theorem State.link_setLink_same (s : State) (n : Nat) (l : Link) : (s.setLink n l).link n = l :=
  (State.link_setLink _ _ _ _).trans (if_pos rfl)

@[simp] theorem State.sendFlit_regs (s : State) (n : Nat) (f : Flit) : (s.sendFlit n f).regs = s.regs := State.emit_regs _ _

@[simp] theorem State.sendFlit_rd (s : State) (n : Nat) (f : Flit) (p : Page) (g : Field) (i : Nat) :
    (s.sendFlit n f).rd p g i = s.rd p g i := State.rd_congr (s.sendFlit_regs n f) p g i

/-- A flit takes the next control sequence number. -/
@[simp] theorem State.sendFlit_link (s : State) (n : Nat) (f : Flit) :
    (s.sendFlit n f).link n = { s.link n with txCtl := (s.link n).txCtl + 1 } := by
  unfold State.sendFlit
  rw [State.link_congr (State.emit_links _ _), State.link_setLink_same]

/-! ### Link states -/

theorem State.setLstate_links (s : State) (n x : Nat) : (s.setLstate n x).links = s.links :=
  (State.setLstate_frame (M := 0x1000400000000) rfl (.refl _ s)).same .links rfl

/-- A change of link state leaves the fields of the page other than LSTATE, DARK and VALID. -/
theorem State.rd_setLstate (s : State) (n x : Nat) {g : Field} (hg : g.inPage = true) (hl : Reg.LPT_STATUS.LSTATE.Apart g)
    (hd : Reg.LPT_STATUS.DARK.Apart g) (hv : Reg.LPTn_KEY_SLOT.VALID.Apart g) :
    (s.setLstate n x).rd (Page.lpt n) g = s.rd (Page.lpt n) g := by
  have shown : (s.showLstate n x).rd (Page.lpt n) g = s.rd (Page.lpt n) g :=
    (State.rd_wr_apart _ _ _ (by decide) hd).trans (State.rd_wr_apart _ _ _ (by decide) hl)
  unfold State.setLstate
  split
  · exact shown
  · exact ((State.rd_port_wr _ _ _ _ (by decide) rfl hg).trans (State.rd_wr_apart _ _ _ (by decide) hv)).trans shown

theorem State.lstate_setLstate (s : State) (n : Nat) {x : Nat} (hx : x < 8) : (s.setLstate n x).lstate n = x := by
  have shown : (s.showLstate n x).lstate n = x := by
    refine (State.rd_wr_apart _ _ _ (by decide) (by decide)).trans ?_
    exact (State.rd_wr_same _ _ _ _ _ (by decide)).trans (Nat.mod_eq_of_lt hx)
  unfold State.setLstate
  split
  · exact shown
  · exact ((State.rd_port_wr _ _ _ _ (by decide) rfl rfl).trans (State.rd_wr_apart _ _ _ (by decide) (by decide))).trans shown

theorem State.portUp_iff (s : State) (n : Nat) : s.portUp n = true ↔ n < s.ports ∧ s.lstate n = 3 := by simp [State.portUp]

theorem State.portUp_of_lstate {s : State} {n : Nat} (h : s.lstate n ≠ 3) : s.portUp n = false := by simp [State.portUp, h]

/-! ### When commands of a port act -/

/-- A command register of a link port, written by a party with the right to. -/
theorem State.action_port {s : State} {p : Party} {n : Nat} (f : State → State) (hr : s.boot.phase = .running)
    (hw : mayWrite p (Page.lpt n) = true) (hp : n < s.ports) (hn : n < 64) : s.action p (Page.lpt n) f = .next (f s) :=
  s.action_acts p _ f (by simp [State.released, hr]) (by simp [State.present, hp, Fam.slots, hn])
    (by simp [State.pageUp, State.up_of_running hr]) hw

/-- A control flit authenticates, comes clean, and in order (R127). -/
structure State.CtlGood (s : State) (n q : Nat) (chk : UnitCheck) : Prop where
  tag : chk.tagOk = true
  fec : chk.fecBad = false
  check : chk.chkBad = false
  order : s.ctlNext n ≤ s.ctlSeq n q

/-- The port once it has accepted the control flit that the low bits `q` name. -/
def State.tookCtl (s : State) (n q : Nat) : State := s.setLink n { s.link n with rxCtl := some (s.ctlSeq n q) }

@[simp] theorem State.tookCtl_link (s : State) (n q : Nat) :
    (s.tookCtl n q).link n = { s.link n with rxCtl := some (s.ctlSeq n q) } := State.link_setLink_same _ _ _

/-- A good control flit is accepted and acted upon. -/
theorem State.ctl_accepts {s : State} {n q : Nat} {chk : UnitCheck} (f : State → State) (h : s.CtlGood n q chk) :
    s.ctl n chk q f = f (s.tookCtl n q) := by simp [State.ctl, State.tookCtl, h.tag, h.fec, h.check, h.order]

/-- A command whose flit a port in UP takes only when it is good. -/
theorem guarded_ctl_accepts {s : State} {n q : Nat} {chk : UnitCheck} (f : State → State) (hs : s.serving = true)
    (hu : s.portUp n = true) (hg : s.CtlGood n q chk) :
    guarded (s.serving && s.portUp n) s (fun s => s.ctl n chk q f) = .next (f (s.tookCtl n q)) := by
  rw [guarded_of _ _ _ (by rw [hs, hu]; rfl), State.ctl_accepts f hg]

end Sys2Proof.Machine
end

section
/-! Link training and the way to DISABLED: what the meaning of each of these commands leads to. -/

namespace Sys2Proof.Machine

/-! ### TRAINING begins (R116, R131) -/

/-- Training begins in its link state under a fresh nonce; PHY_READY stays. -/
theorem State.startTraining_begins (s : State) (n : Nat) {st : Nat} (hst : st < 8) :
    (s.startTraining n st).lstate n = st ∧
      (s.startTraining n st).rdb (Page.lpt n) Reg.LPT_STATUS.PHY_READY = s.rdb (Page.lpt n) Reg.LPT_STATUS.PHY_READY ∧
      ((s.startTraining n st).link n).nonceOwn = (Config.trng s.draws).toNat % 2 ^ 64 := by
  unfold State.startTraining
  extract_lets r s1 l _ s2 _ s3 s4
  have published : Frame 0x400000040 s2 s3 := State.setPtime_frame rfl (.refl _ s2)
  have delays : Frame 0x400000040 s2 (s3.setCal n false) := State.setCal_frame rfl published
  have port (f : Field) (hf : f.inPage = true) : (s3.setCal n false).rd (Page.lpt n) f = s.rd (Page.lpt n) f :=
    delays.rd_same (show 0x400000040 &&& Fam.lpt.mask = 0 from rfl) hf 0
  have link : (s4.link n).nonceOwn = (Config.trng s.draws).toNat % 2 ^ 64 := by
    rw [State.link_congr ((State.setLstate_links _ _ _).trans (delays.same .links rfl)), State.link_setLink_same]
    rfl
  refine ⟨(State.sendFlit_rd _ _ _ _ _ _).trans (State.lstate_setLstate _ n hst), congrArg (· != 0) ?phy, ?nonce⟩
  case phy =>
    rw [State.sendFlit_rd, State.rd_setLstate _ _ _ rfl (by decide) (by decide) (by decide)]
    exact port _ rfl
  case nonce => rw [State.sendFlit_link]; exact link

/-- The first training of an enabled port with a ready PHY is not counted. -/
theorem State.enterTraining_first {s : State} {n : Nat} (ht : (s.link n).trained = false)
    (he : s.rdb (Page.lpt n) Reg.LPT_CTRL.ENABLE = true) (hr : s.rdb (Page.lpt n) Reg.LPT_STATUS.PHY_READY = true) :
    s.enterTraining n = s.startTraining n 1 := by simp [State.enterTraining, ht, he, hr]

/-- A port in DOWN that enters TRAINING for the first time. -/
theorem State.enterTraining_begins {s : State} {n : Nat} (ht : (s.link n).trained = false)
    (he : s.rdb (Page.lpt n) Reg.LPT_CTRL.ENABLE = true) (hr : s.rdb (Page.lpt n) Reg.LPT_STATUS.PHY_READY = true) :
    (s.enterTraining n).lstate n = 1 ∧ (s.enterTraining n).rdb (Page.lpt n) Reg.LPT_STATUS.PHY_READY = true ∧
      ((s.enterTraining n).link n).nonceOwn = (Config.trng s.draws).toNat % 2 ^ 64 := by
  rw [State.enterTraining_first ht he hr]
  obtain ⟨state, phy, nonce⟩ := s.startTraining_begins n (st := 1) (by decide)
  exact ⟨state, phy.trans hr, nonce⟩

/-- A rising PHY in DOWN enters TRAINING. -/
theorem execPhyReadyRise_down {s : State} {n : Nat} (hs : s.serving = true) (hp : n < s.ports) (hl : s.lstate n = 0) :
    execPhyReadyRise n s = .next ((s.wr (Page.lpt n) Reg.LPT_STATUS.PHY_READY 1).enterTraining n) := by
  unfold execPhyReadyRise
  rw [guarded_of _ _ _ (by simp [hs, hp])]
  have down : (s.wr (Page.lpt n) Reg.LPT_STATUS.PHY_READY 1).lstate n = 0 := (State.rd_wr_apart _ _ _ (by decide) (by decide)).trans hl
  exact congrArg _ (if_pos down)

theorem execTrainRetryTimer_down {s : State} {n : Nat} (hs : s.serving = true) (hp : n < s.ports) (hl : s.lstate n = 0) :
    execTrainRetryTimer n s = .next (s.enterTraining n) := guarded_of _ _ _ (by simp [hs, hp, hl])

theorem execRetrain_down {s : State} {p : Party} {n : Nat} (hr : s.boot.phase = .running) (hw : mayWrite p (Page.lpt n) = true)
    (hp : n < s.ports) (hn : n < 64) (hl : s.lstate n = 0) : execRetrain p n s = .next (s.enterTraining n) := by
  refine (State.action_port _ hr hw hp hn).trans ?_
  rw [if_neg (by rw [hl]; decide), if_pos hl]

/-! ### In training (R129, R130, R131) -/

/-- A falling PHY in UNKEYED leads to DOWN. -/
theorem execPhyReadyFall_unkeyed {s : State} {n : Nat} (hs : s.serving = true) (hp : n < s.ports) (hl : s.lstate n = 2) :
    execPhyReadyFall n s = .next ((s.wr (Page.lpt n) Reg.LPT_STATUS.PHY_READY 0).setLstate n 0) := by
  unfold execPhyReadyFall
  rw [guarded_of _ _ _ (by simp [hs, hp])]
  have unkeyed : (s.wr (Page.lpt n) Reg.LPT_STATUS.PHY_READY 0).lstate n = 2 :=
    (State.rd_wr_apart _ _ _ (by decide) (by decide)).trans hl
  simp only [unkeyed]

/-- A port in training sends its CAP. -/
theorem execCapSend_training {s : State} {n : Nat} (hs : s.serving = true) (hp : n < s.ports) (hl : s.lstate n = 1) :
    execCapSend n s = .next (s.sendFlit n (.cap (s.capOut n))) := by
  unfold execCapSend
  rw [guarded_of _ _ _ (by simp [hs, hp, hl])]

/-- Before its own nonce is echoed a port goes no further (R130, step 1). -/
theorem State.progress_unechoed {s : State} {n : Nat} (h : (s.link n).echoed = false) : s.progress n = s := by
  unfold State.progress
  extract_lets l
  cases l.cap with
  | none => rfl
  | some c => exact if_pos (by rw [h]; rfl)

/-- A CAP that does not echo the own nonce is kept: its fields, its nonce, the far end's PORT_ID. -/
theorem State.takeCap_keeps {s : State} {n : Nat} {c : CapFields} (he : (s.link n).echoed = false)
    (hc : c.echo % 65536 ≠ (s.link n).nonceOwn % 65536) :
    ((s.takeCap n c).link n).cap = some c ∧ ((s.takeCap n c).link n).noncePeer = some c.nonce ∧
      (s.takeCap n c).rd (Page.lpt n) Reg.LPTn_PEER_ID.PORT_ID = c.portId % 2 ^ 32 ∧ (s.takeCap n c).lstate n = s.lstate n := by
  unfold State.takeCap
  extract_lets l t same s1 s2 s3
  have delays : Frame 0x400000040 s1 s3 :=
    have published : Frame 0x400000040 s1 s2 := State.setPtime_frame rfl (.refl _ s1)
    ite_rule published (State.setCal_frame rfl published)
  have link : (s3.wr (Page.lpt n) Reg.LPTn_PEER_ID.PORT_ID c.portId).link n =
      { l with cap := some c, noncePeer := some c.nonce, echoed := false } := by
    rw [State.link_congr (State.wr_links _ _ _ _ _), State.link_congr (delays.same .links rfl), State.link_setLink_same]
    simp [l, he, hc]
  rw [State.progress_unechoed (by rw [link]), link]
  refine ⟨rfl, rfl, State.rd_wr_same _ _ _ _ _ (by decide), ?_⟩
  exact (State.rd_wr_apart _ _ _ (by decide) (by decide)).trans (delays.rd_same (show 0x400000040 &&& Fam.lpt.mask = 0 from rfl) rfl 0)

theorem execCap_training {s : State} {n : Nat} {c : CapFields} {chk : UnitCheck} (hs : s.serving = true) (hp : n < s.ports)
    (hl : s.lstate n = 1) (hf : chk.fecBad = false) (hc : chk.chkBad = false) : execCap n c chk s = .next (s.takeCap n c) := by
  unfold execCap
  rw [guarded_of _ _ _ (by simp [hs, hp])]
  simp [hf, hc, hl]

/-- A failed training ends in DOWN with its code. -/
theorem State.trainFail_ends (s : State) (n : Nat) {code : Nat} (hc : code < 256) :
    (s.trainFail n code).lstate n = 0 ∧ (s.trainFail n code).rd (Page.lpt n) Reg.LPTn_TRAIN_FAIL.CODE = code := by
  unfold State.trainFail
  constructor
  · exact (State.rd_port_err _ _ _ _ rfl (by decide)).trans (State.lstate_setLstate _ n (by decide))
  · rw [State.rd_port_err _ _ _ _ rfl (by decide), State.rd_setLstate _ _ _ rfl (by decide) (by decide) (by decide)]
    exact (State.rd_wr_same _ _ _ _ _ (by decide)).trans (Nat.mod_eq_of_lt hc)

theorem execTrainTimeout_training {s : State} {n : Nat} (hs : s.serving = true) (hp : n < s.ports) (hl : s.lstate n = 1) :
    execTrainTimeout n s = .next (s.trainFail n 5) := by
  unfold execTrainTimeout
  rw [guarded_of _ _ _ (by simp [hs, hp, hl])]

/-! ### DARK and DISABLED (R127, R131) -/

/-- DARK outside UP leads to DOWN, shows its cause and loses the replay buffer. -/
theorem State.opDark_down {s : State} {n cause : Nat} (hu : s.portUp n = false) (hc : cause < 8) :
    (State.opDark n cause s).lstate n = 0 ∧ (State.opDark n cause s).rd (Page.lpt n) Reg.LPT_STATUS.DARK_CAUSE = cause ∧
      ((State.opDark n cause s).link n).replay = [] := by
  unfold State.opDark
  extract_lets s1
  have left : s1 = s := if_neg (by rw [hu]; exact Bool.false_ne_true)
  rw [left]
  refine ⟨(State.rd_wr_apart _ _ _ (by decide) (by decide)).trans (State.lstate_setLstate _ n (by decide)),
    (State.rd_wr_same _ _ _ _ _ (by decide)).trans (Nat.mod_eq_of_lt hc), ?_⟩
  rw [State.link_congr ((State.wr_links _ _ _ _ _).trans (State.setLstate_links _ _ _)), State.link_setLink_same]
  rfl

theorem execDark_unauthenticated {s : State} {n cause : Nat} {chk : UnitCheck} {q : Nat} (hs : s.serving = true) (hp : n < s.ports)
    (h5 : s.lstate n ≠ 5) (hu : s.portUp n = false) (hf : chk.fecBad = false) (hc : chk.chkBad = false) :
    execDark n cause chk true q s = .next (State.opDark n cause s) := by
  unfold execDark
  rw [guarded_of _ _ _ (by simp [hs, hp, h5])]
  simp [hu, hf, hc]

/-- A port that is not in UP is disabled at once. -/
theorem State.darken_outside_up {s : State} {n : Nat} (cause : Nat) (h3 : s.lstate n ≠ 3) : s.darken n cause = s.disablePort n cause := by
  simp [State.darken, State.portUp_of_lstate h3]

/-- A port is DISABLED with its cause; ENABLE stays. -/
theorem State.disablePort_disables {s : State} {n cause : Nat} (h5 : s.lstate n ≠ 5) (hc : cause < 8) :
    (s.disablePort n cause).lstate n = 5 ∧ (s.disablePort n cause).rd (Page.lpt n) Reg.LPT_STATUS.DARK_CAUSE = cause ∧
      (s.disablePort n cause).rdb (Page.lpt n) Reg.LPT_CTRL.ENABLE = s.rdb (Page.lpt n) Reg.LPT_CTRL.ENABLE := by
  unfold State.disablePort
  rw [if_neg h5]
  extract_lets s1 s2 _ s3
  have sent : s1.regs = s.regs := s.sendFlit_regs n (.dark cause)
  have shown (f : Field) (hf : f.inPage = true) (ho : f.off ≠ hdrErrStatus) (i : ErrInfo) :
      (s3.err (Page.lpt n) Err.lpt.PORT_DARK i).rd (Page.lpt n) f = s2.rd (Page.lpt n) f :=
    (State.rd_port_err s3 n _ i hf ho).trans (State.setLink_rd _ _ _ _ _ _)
  refine ⟨(shown _ rfl (by decide) _).trans ?state, (shown _ rfl (by decide) _).trans ?cause,
    congrArg (· != 0) ((shown _ rfl (by decide) _).trans ?enable)⟩
  case state => exact (State.rd_wr_apart _ _ _ (by decide) (by decide)).trans (State.lstate_setLstate _ n (by decide))
  case cause => exact (State.rd_wr_same _ _ _ _ _ (by decide)).trans (Nat.mod_eq_of_lt hc)
  case enable =>
    refine (State.rd_wr_apart _ _ _ (by decide) (by decide)).trans ?_
    exact (State.rd_setLstate _ _ _ rfl (by decide) (by decide) (by decide)).trans (State.rd_congr sent _ _ _)

theorem execGoDark_outside_up {s : State} {p : Party} {n : Nat} (hr : s.boot.phase = .running)
    (hw : mayWrite p (Page.lpt n) = true) (hp : n < s.ports) (hn : n < 64) (h3 : s.lstate n ≠ 3) :
    execGoDark p n s = .next (s.disablePort n 1) :=
  (State.action_port _ hr hw hp hn).trans (congrArg _ (State.darken_outside_up 1 h3))

/-- PORT_DISABLE clears ENABLE, which leaves the link state to the way to DISABLED. -/
theorem execPortDisable_disables {s : State} {p : Party} {n : Nat} (hr : s.boot.phase = .running)
    (hw : mayWrite p (Page.lpt n) = true) (hp : n < s.ports) (hn : n < 64) (h5 : s.lstate n ≠ 5) (h3 : s.lstate n ≠ 3) :
    ∃ t, execPortDisable p n s = .next t ∧ t.lstate n = 5 ∧ t.rd (Page.lpt n) Reg.LPT_STATUS.DARK_CAUSE = 5 ∧
      t.rdb (Page.lpt n) Reg.LPT_CTRL.ENABLE = false := by
  have same : (s.wr (Page.lpt n) Reg.LPT_CTRL.ENABLE 0).lstate n = s.lstate n := State.rd_wr_apart _ _ _ (by decide) (by decide)
  have off : (s.wr (Page.lpt n) Reg.LPT_CTRL.ENABLE 0).rdb (Page.lpt n) Reg.LPT_CTRL.ENABLE = false :=
    congrArg (· != 0) (State.rd_wr_same _ _ _ _ _ (by decide))
  rw [← same] at h5 h3
  obtain ⟨state, cause, enable⟩ := State.disablePort_disables h5 (cause := 5) (by decide)
  exact ⟨_, (State.action_port _ hr hw hp hn).trans (congrArg _ (State.darken_outside_up 5 h3)), state, cause, enable.trans off⟩

/-! ### The statement -/

/-- Settles O8: each command's guard holds, and its meaning leads where the lemma about it says. -/
theorem trainingCommandsComplete : Obligations.TrainingCommandsComplete := by
  unfold Obligations.TrainingCommandsComplete
  refine ⟨?rise, ?timer, ?retrain, ?fall, ?capSend, ?cap, ?timeout, ?dark, ?goDark, ?disable⟩
  case rise =>
    intro port s hs hp _ hl ht he
    have ready : (s.wr (Page.lpt port) Reg.LPT_STATUS.PHY_READY 1).rdb (Page.lpt port) Reg.LPT_STATUS.PHY_READY = true :=
      congrArg (· != 0) (State.rd_wr_same _ _ _ _ _ (by decide))
    have enabled : (s.wr (Page.lpt port) Reg.LPT_STATUS.PHY_READY 1).rdb (Page.lpt port) Reg.LPT_CTRL.ENABLE = true :=
      (congrArg (· != 0) (State.rd_wr_apart _ _ _ (by decide) (by decide))).trans he
    exact ⟨_, execPhyReadyRise_down hs hp hl, State.enterTraining_begins ht enabled ready⟩
  case timer =>
    intro port s hs hp _ hl ht he hr
    obtain ⟨state, -, nonce⟩ := State.enterTraining_begins ht he hr
    exact ⟨_, execTrainRetryTimer_down hs hp hl, state, nonce⟩
  case retrain =>
    intro p port s hr hw hp hn hl ht he hphy
    obtain ⟨state, -, nonce⟩ := State.enterTraining_begins ht he hphy
    exact ⟨_, execRetrain_down hr hw hp hn hl, state, nonce⟩
  case fall => exact fun port s hs hp _ hl => execPhyReadyFall_unkeyed hs hp hl
  case capSend => exact fun port s hs hp hl => execCapSend_training hs hp hl
  case cap =>
    intro port c chk s hs hp _ hl hf hc he hecho
    obtain ⟨cap, nonce, id, state⟩ := State.takeCap_keeps he hecho
    exact ⟨_, execCap_training hs hp hl hf hc, cap, nonce, id, state.trans hl⟩
  case timeout => exact fun port s hs hp _ hl => ⟨_, execTrainTimeout_training hs hp hl, s.trainFail_ends port (by decide)⟩
  case dark =>
    intro port cause chk q s hs hp _ h5 h3 hf hc hcause
    have outside := State.portUp_of_lstate h3
    exact ⟨_, execDark_unauthenticated hs hp h5 outside hf hc, State.opDark_down outside hcause⟩
  case goDark =>
    intro p port s hr hw hp hn h5 h3
    have done : exec (.goDark p port) s = .next (s.disablePort port 1) := execGoDark_outside_up hr hw hp hn h3
    obtain ⟨state, cause, -⟩ := State.disablePort_disables h5 (cause := 1) (by decide)
    exact ⟨done, _, done, state, cause⟩
  case disable => exact fun p port s hr hw hp hn h5 h3 => execPortDisable_disables hr hw hp hn h5 h3

end Sys2Proof.Machine
end

section
/-! Key changes and acknowledgements of a port in UP: what the meaning of each of these commands leads to. -/

namespace Sys2Proof.Machine

/-! ### Key changes (R117, R118) -/

theorem State.saddled_links (s : State) (k : Nat) : (s.saddled k).links = s.links := State.wr_links _ _ _ _ _

/-- Asking for a change notes it and leaves the rest of the link. -/
theorem State.askRekey_link (s : State) (n : Nat) :
    (s.askRekey n).link n = { s.link n with rekeyTx := true, txCtl := (s.link n).txCtl + 1 } := by
  unfold State.askRekey
  rw [State.sendFlit_link, State.link_setLink_same]

/-- A KEY_READY that loads the next receive latch leaves the receive key in use. -/
theorem State.readyRekey_loads {s : State} {n g : Nat} (h : loadedFor (s.link n).rxNextKey g = false) :
    (s.readyRekey n g).link n = { s.link n with
      rxNextKey := some (s.rxDirKey n ((s.link n).rxEpoch + 1) g), rekeyRx := true, txCtl := (s.link n).txCtl + 1 } := by
  unfold State.readyRekey
  extract_lets l s1
  have loaded : s1.link n = { l with rxNextKey := some (s.rxDirKey n (l.rxEpoch + 1) g), rekeyRx := true } := by
    unfold s1
    rw [if_neg (by rw [h]; exact Bool.false_ne_true), State.link_congr (State.saddled_links _ _), State.link_setLink_same]
  rw [State.sendFlit_link, loaded]

/-- With the latch loaded a KEY_READY goes out and nothing else changes. -/
theorem State.readyRekey_loaded {s : State} {n g : Nat} (h : loadedFor (s.link n).rxNextKey g = true) :
    s.readyRekey n g = s.sendFlit n (.keyReady ((s.link n).rxEpoch + 1) g) := by
  unfold State.readyRekey
  extract_lets l s1
  have same : s1 = s := if_pos h
  rw [same]

theorem isSome_of_loadedFor {k : Option LinkKey} {g : Nat} (h : loadedFor k g = true) : k.isSome = true := by
  cases k with
  | none => simp [loadedFor] at h
  | some _ => rfl

/-- After a KEY_READY the next receive latch holds a key; whether KEY_REQ repeats is as before. -/
theorem State.readyRekey_ready (s : State) (n g : Nat) :
    ((s.readyRekey n g).link n).rxNextKey.isSome = true ∧ ((s.readyRekey n g).link n).rekeyTx = (s.link n).rekeyTx := by
  cases h : loadedFor (s.link n).rxNextKey g with
  | false => rw [State.readyRekey_loads h]; exact ⟨rfl, rfl⟩
  | true =>
    rw [State.readyRekey_loaded h, State.sendFlit_link]
    exact ⟨isSome_of_loadedFor h, rfl⟩

/-- REKEY_NOW of a port in UP changes both directions. -/
theorem execRekeyNow_up {s : State} {p : Party} {n : Nat} (hr : s.boot.phase = .running) (hw : mayWrite p (Page.lpt n) = true)
    (hn : n < 64) (hu : s.portUp n = true) : execRekeyNow p n s = .next ((s.askRekey n).readyRekey n s.dlkGen) :=
  (State.action_port _ hr hw ((s.portUp_iff n).1 hu).1 hn).trans (congrArg _ (if_pos hu))

/-- A KEY_REQ of the next epoch loads the empty next receive latch. -/
theorem State.opKeyReq_loads {s : State} {n epoch : Nat} (he : epoch = (s.link n).rxEpoch + 1) (hk : (s.link n).rxNextKey = none) :
    State.opKeyReq n epoch s = s.readyRekey n s.dlkGen := by simp [State.opKeyReq, he, hk]

theorem execKeyReq_accepts {s : State} {n epoch q : Nat} {chk : UnitCheck} (hs : s.serving = true) (hu : s.portUp n = true)
    (hg : s.CtlGood n q chk) : execKeyReq n epoch chk q s = .next (State.opKeyReq n epoch (s.tookCtl n q)) :=
  guarded_ctl_accepts (State.opKeyReq n epoch) hs hu hg

/-- The key that KEY_READY names stands in the next transmit latch; registers of ports and the tack store stay, and so does what was received. -/
theorem State.loadTxNext_loads (s : State) (n epoch gen : Nat) :
    ((s.loadTxNext n epoch gen).link n).txNextKey.isSome = true ∧
      ((s.loadTxNext n epoch gen).link n).rxCtl = (s.link n).rxCtl ∧
      (s.loadTxNext n epoch gen).readyFits n epoch gen = s.readyFits n epoch gen := by
  have kept : Frame 0x100000080 s (s.loadTxNext n epoch gen) := State.loadTxNext_frame rfl (.refl _ s)
  have fits : (s.loadTxNext n epoch gen).readyFits n epoch gen = s.readyFits n epoch gen := by
    have epochs : (s.loadTxNext n epoch gen).epoch n = s.epoch n := kept.rd_same (show 0x100000080 &&& Fam.lpt.mask = 0 from rfl) rfl 0
    unfold State.readyFits State.dlkSlot State.slot
    rw [epochs, kept.same .trust rfl]
  refine ⟨?loaded, ?received, fits⟩
  all_goals unfold State.loadTxNext
  case loaded =>
    split
    · exact isSome_of_loadedFor ‹_›
    · rw [State.link_congr (State.saddled_links _ _), State.link_setLink_same]; rfl
  case received =>
    split
    · rfl
    · rw [State.link_congr (State.saddled_links _ _), State.link_setLink_same]

/-- The key in use is shown: its epoch; links stay. -/
theorem State.showKey_shows (s : State) (n epoch gen : Nat) :
    (s.showKey n epoch gen).epoch n = epoch % 2 ^ Reg.LPTn_EPOCH.EPOCH.w ∧ (s.showKey n epoch gen).links = s.links := by
  constructor
  · unfold State.showKey State.epoch State.wrPair
    extract_lets p s1
    simp (disch := decide) only [s1, p, State.rd_wr_apart, State.rd_wr_same]
  · exact (State.showKey_frame (M := 0x1000000000000) rfl (.refl _ s)).same .links rfl

/-- A KEY_READY that fits switches the transmit direction to the key in the next latch. -/
theorem State.opKeyReady_switches {s : State} {n epoch gen : Nat} (h : s.readyFits n epoch gen = true) :
    (State.opKeyReady n epoch gen s).link n =
        { s.link n with txKey := (s.link n).txNextKey, txNextKey := none, rekeyTx := false, stalled := false } ∧
      (State.opKeyReady n epoch gen s).epoch n = epoch % 2 ^ Reg.LPTn_EPOCH.EPOCH.w := by
  unfold State.opKeyReady
  rw [if_neg (by rw [h]; decide)]
  extract_lets l s1
  obtain ⟨shown, links⟩ := s1.showKey_shows n epoch gen
  exact ⟨by rw [State.link_congr links, State.link_setLink_same], shown⟩

theorem State.ctlNext_congr {s t : State} {n : Nat} (h : (t.link n).rxCtl = (s.link n).rxCtl) : t.ctlNext n = s.ctlNext n := by
  unfold State.ctlNext
  rw [h]

/-- A KEY_READY that verifies in UP loads the key it names and switches to it. -/
theorem State.keyReadyUp_switches {s : State} {n epoch gen q : Nat} {chk : UnitCheck} (hg : s.CtlGood n q chk)
    (h : s.readyFits n epoch gen = true) :
    State.keyReadyUp n epoch gen chk q s = State.opKeyReady n epoch gen ((s.loadTxNext n epoch gen).tookCtl n q) := by
  obtain ⟨-, received, -⟩ := s.loadTxNext_loads n epoch gen
  have next := State.ctlNext_congr received
  unfold State.keyReadyUp
  extract_lets clean s1
  have loaded : s1 = s.loadTxNext n epoch gen := if_pos (by simp [clean, hg.fec, hg.check, hg.order, h])
  rw [loaded, State.ctl_accepts _ { hg with order := by unfold State.ctlSeq; rw [next]; exact hg.order }]

theorem execKeyReady_up {s : State} {n epoch gen q : Nat} {chk : UnitCheck} (hs : s.serving = true) (hu : s.portUp n = true) :
    execKeyReady n epoch gen chk q s = .next (State.keyReadyUp n epoch gen chk q s) := by
  unfold execKeyReady
  rw [guarded_of _ _ _ (by simp [hs, ((s.portUp_iff n).1 hu).1]), if_pos hu]

/-- KEY_READY of the next epoch and an ACTIVE generation installs the transmit key. -/
theorem execKeyReady_installs {s : State} {n epoch gen q : Nat} {chk : UnitCheck} (hs : s.serving = true) (hu : s.portUp n = true)
    (hg : s.CtlGood n q chk) (he : epoch = s.epoch n + 1) (hk : (s.dlkSlot gen).isSome = true) :
    ∃ t, execKeyReady n epoch gen chk q s = .next t ∧ (t.link n).txKey.isSome = true ∧ (t.link n).txNextKey = none ∧
      (t.link n).rekeyTx = false ∧ (t.link n).stalled = false ∧ t.epoch n = epoch % 2 ^ Reg.LPTn_EPOCH.EPOCH.w := by
  have fits : s.readyFits n epoch gen = true := by simp [State.readyFits, he, hk]
  obtain ⟨loaded, -, same⟩ := s.loadTxNext_loads n epoch gen
  obtain ⟨link, shown⟩ := State.opKeyReady_switches (s := (s.loadTxNext n epoch gen).tookCtl n q) (same.trans fits)
  refine ⟨_, (execKeyReady_up hs hu).trans (congrArg _ (State.keyReadyUp_switches hg fits)), ?_⟩
  rw [link, State.tookCtl_link]
  exact ⟨loaded, rfl, rfl, rfl, shown⟩

theorem execKeyFrameLimit_asks {s : State} {n : Nat} (hs : s.serving = true) (hu : s.portUp n = true)
    (hl : 2 ^ s.log2Frames n ≤ s.keyFrames n + 2 ^ 32) : execKeyFrameLimit n s = .next (s.askRekey n) := by
  unfold execKeyFrameLimit
  rw [guarded_of _ _ _ (by rw [hs, hu, decide_eq_true hl]; rfl)]

theorem execKeyReqRepeat_repeats {s : State} {n : Nat} (hs : s.serving = true) (hu : s.portUp n = true)
    (hk : (s.link n).rekeyTx = true) : execKeyReqRepeat n s = .next (s.sendFlit n (.keyReq (s.epoch n + 1))) := by
  unfold execKeyReqRepeat
  rw [guarded_of _ _ _ (by rw [hs, hu, hk]; rfl)]

theorem execKeyReadyRepeat_repeats {s : State} {n : Nat} (hs : s.serving = true) (hu : s.portUp n = true)
    (hk : (s.link n).rekeyRx = true) :
    execKeyReadyRepeat n s = .next (s.sendFlit n (.keyReady (s.readyNames n).1 (s.readyNames n).2)) := by
  unfold execKeyReadyRepeat
  rw [guarded_of _ _ _ (by simp [hs, hu, hk, ((s.portUp_iff n).1 hu).1])]

theorem execKeyStall_stalls {s : State} {n : Nat} (hs : s.serving = true) (hu : s.portUp n = true)
    (hl : 2 ^ s.log2Frames n ≤ s.keyFrames n) :
    execKeyStall n s = .next ((s.setLink n { s.link n with stalled := true }).err (Page.lpt n) Err.lpt.KEY_STALL
      { place := n, placeKind := 5 }) := by
  unfold execKeyStall
  rw [guarded_of _ _ _ (by rw [hs, hu, decide_eq_true hl]; rfl)]

/-! ### Acknowledgement (R119) -/

theorem execAckSend_sends {s : State} {n : Nat} (hs : s.serving = true) (hu : s.portUp n = true) (hk : (s.link n).ackDue = true) :
    execAckSend n s = .next ((s.setLink n { s.link n with ackDue := false }).sendFlit n (.ack ((s.link n).rxNext - 1))) := by
  unfold execAckSend
  rw [guarded_of _ _ _ (by rw [hs, hu, hk]; rfl)]

theorem execAck_accepts {s : State} {n seq q : Nat} {chk : UnitCheck} (hs : s.serving = true) (hu : s.portUp n = true)
    (hg : s.CtlGood n q chk) : execAck n seq chk q s = .next (State.opAck n seq (s.tookCtl n q)) :=
  guarded_ctl_accepts (State.opAck n seq) hs hu hg

/-- ACK releases the frames up to its number; the control sequence number accepted stays. -/
theorem State.opAck_releases (s : State) (n seq : Nat) :
    ((State.opAck n seq s).link n).replay = (s.link n).replay.filter (fun e => decide (seq < e.1)) ∧
      ((State.opAck n seq s).link n).rxCtl = (s.link n).rxCtl := by
  unfold State.opAck
  rw [State.link_setLink_same]
  exact ⟨rfl, rfl⟩

/-! ### The statement -/

/-- Settles O9: each command's guard holds, and its meaning leads where the lemma about it says. -/
theorem linkKeyAndAckCommandsComplete : Obligations.LinkKeyAndAckCommandsComplete := by
  unfold Obligations.LinkKeyAndAckCommandsComplete
  refine ⟨?rekey, ?limit, ?req, ?ready, ?reqAgain, ?readyAgain, ?stall, ?ackSend, ?ack⟩
  case rekey =>
    intro p port s hr hw hn hu
    have done : exec (.rekeyNow p port) s = .next ((s.askRekey port).readyRekey port s.dlkGen) := execRekeyNow_up hr hw hn hu
    obtain ⟨loaded, asked⟩ := (s.askRekey port).readyRekey_ready port s.dlkGen
    rw [s.askRekey_link port] at asked
    exact ⟨done, _, done, asked, loaded⟩
  case limit => exact fun port s hs hu hl => execKeyFrameLimit_asks hs hu hl
  case req =>
    intro port epoch chk q s hs hu ht hf hc hq he hk
    have link := s.tookCtl_link port q
    have next : ((s.tookCtl port q).link port).rxNextKey = none := by rw [link]; exact hk
    refine ⟨_, (execKeyReq_accepts hs hu ⟨ht, hf, hc, hq⟩).trans (congrArg _ (State.opKeyReq_loads (by rw [link]; exact he) next)), ?_⟩
    rw [State.readyRekey_loads (by rw [next]; rfl), link]
    exact ⟨rfl, rfl, rfl⟩
  case ready => exact fun port epoch gen chk q s hs hu ht hf hc hq he hk => execKeyReady_installs hs hu ⟨ht, hf, hc, hq⟩ he hk
  case reqAgain => exact fun port s hs hu hk => execKeyReqRepeat_repeats hs hu hk
  case readyAgain => exact fun port s hs hu hk => execKeyReadyRepeat_repeats hs hu hk
  case stall => exact fun port s hs hu hl => execKeyStall_stalls hs hu hl
  case ackSend => exact fun port s hs hu hk => execAckSend_sends hs hu hk
  case ack =>
    intro port seq chk q s hs hu ht hf hc hq
    obtain ⟨released, received⟩ := (s.tookCtl port q).opAck_releases port seq
    rw [State.tookCtl_link] at released received
    exact ⟨_, execAck_accepts hs hu ⟨ht, hf, hc, hq⟩, released, received, rfl, rfl⟩

end Sys2Proof.Machine
end

section
/-! Retries of a port in UP: what the meaning of each of these commands leads to. -/

namespace Sys2Proof.Machine

/-! ### Frames of the replay buffer on the wire again (R86, R103, R120) -/

/-- What a resend leaves of the link: the replay buffer, the mark of the resend under way. -/
def Link.resendView (l : Link) : List (Nat × DataFrame) × Option (Nat × Nat) := (l.replay, l.resend)

/-- However far a resend comes, the replay buffer, the mark of the resend and the registers stay. -/
theorem State.resendBy_keeps (n e : Nat) (l : List (Nat × DataFrame)) (s : State) :
    ((State.resendBy n e l s).link n).resendView = (s.link n).resendView ∧ (State.resendBy n e l s).regs = s.regs := by
  induction l generalizing s with
  | nil =>
    unfold State.resendBy
    rw [State.link_setLink_same]
    exact ⟨rfl, rfl⟩
  | cons x r ih =>
    unfold State.resendBy
    split
    · refine ⟨(ih _).1.trans ?_, (ih _).2.trans (State.emit_regs _ _)⟩
      rw [State.link_congr (State.emit_links _ _), State.link_setLink_same]
      rfl
    · rw [State.link_setLink_same]
      exact ⟨rfl, rfl⟩

/-- A frame holds the wire for some time, so that none leaves it by DT 0. -/
theorem State.fitsBy_zero (s : State) (n : Nat) (f : DataFrame) : s.fitsBy n 0 f = false := by
  simp [State.fitsBy, wireTime]

/-- Whether a frame fits is a matter of domain time and of the time when the wire is free. -/
theorem State.fitsBy_congr {s t : State} {n e : Nat} {f : DataFrame} (ht : t.time = s.time)
    (hl : (t.link n).freeAt = (s.link n).freeAt) : t.fitsBy n e f = s.fitsBy n e f := by
  unfold State.fitsBy State.wireFree State.wireNow State.dt
  rw [ht, hl]

/-- With no limit to leave by, the frames wait and nothing goes out. -/
theorem State.resendBy_waits {n : Nat} {l : List (Nat × DataFrame)} {s : State} (h : l ≠ []) :
    (State.resendBy n 0 l s).out = s.out ∧ ((State.resendBy n 0 l s).link n).resendAt.isSome = true := by
  cases l with
  | nil => exact absurd rfl h
  | cons x r =>
    unfold State.resendBy
    rw [if_neg (by rw [State.fitsBy_zero]; exact Bool.false_ne_true), State.link_setLink_same]
    exact ⟨rfl, rfl⟩

/-- The only frame, when it fits, goes out as it was sealed, and none waits. -/
theorem State.resendBy_sends {n e q : Nat} {f : DataFrame} {s : State} (h : s.fitsBy n e f = true) :
    (State.resendBy n e [(q, f)] s).out = s.out ++ [.frame n q (s.sealedEpoch n f) f] ∧
      ((State.resendBy n e [(q, f)] s).link n).resendAt = none := by
  unfold State.resendBy
  rw [if_pos h]
  unfold State.resendBy
  rw [State.emit_out _ _ rfl, State.link_setLink_same]
  exact ⟨rfl, rfl⟩

/-- A resend of a frame that is held, with none under way, begins. -/
theorem State.resendFrom_begins {s : State} {n seq : Nat} (hr : (s.link n).resend = none)
    (hh : ((s.link n).replay.any fun e => e.1 == seq) = true) :
    s.resendFrom n seq = State.resendBy n ((s.sendLimit n).getD 0) (s.replayFrom n seq)
      (s.setLink n { s.link n with resend := some (seq, s.now) }) := by
  unfold State.resendFrom
  extract_lets l stale
  have fresh : stale = false := by unfold stale l; rw [hr]
  rw [if_neg (by rw [fresh, hh]; decide)]

/-- A resend that begins is marked with its number and time; the replay buffer and the registers stay. -/
theorem State.resendFrom_marks {s : State} {n seq : Nat} (hr : (s.link n).resend = none)
    (hh : ((s.link n).replay.any fun e => e.1 == seq) = true) :
    ((s.resendFrom n seq).link n).resend = some (seq, s.now) ∧ ((s.resendFrom n seq).link n).replay = (s.link n).replay ∧
      (s.resendFrom n seq).regs = s.regs := by
  rw [State.resendFrom_begins hr hh]
  obtain ⟨view, regs⟩ := State.resendBy_keeps n ((s.sendLimit n).getD 0) (s.replayFrom n seq)
    (s.setLink n { s.link n with resend := some (seq, s.now) })
  rw [State.link_setLink_same] at view
  exact ⟨congrArg (·.2) view, congrArg (·.1) view, regs⟩

/-- A frame that is held is among those from its number on. -/
theorem State.replayFrom_ne_nil {s : State} {n seq : Nat} (h : ((s.link n).replay.any fun e => e.1 == seq) = true) :
    s.replayFrom n seq ≠ [] := by
  obtain ⟨x, held, number⟩ := List.any_eq_true.1 h
  refine List.ne_nil_of_mem (a := x) (List.mem_filter.2 ⟨held, ?_⟩)
  simpa using (beq_iff_eq.1 number).ge

/-- Outside every footprint nothing goes out and the frames wait. -/
theorem State.resendFrom_waits {s : State} {n seq : Nat} (hr : (s.link n).resend = none)
    (hh : ((s.link n).replay.any fun e => e.1 == seq) = true) (hl : s.sendLimit n = none) :
    (s.resendFrom n seq).out = s.out ∧ ((s.resendFrom n seq).link n).resendAt.isSome = true := by
  rw [State.resendFrom_begins hr hh, hl]
  exact State.resendBy_waits (State.replayFrom_ne_nil hh)

/-- In an open footprint the only frame held goes out, when it fits, as it was sealed. -/
theorem State.resendFrom_sends {s : State} {n seq e : Nat} {f : DataFrame} (hr : (s.link n).resend = none)
    (hf : (s.link n).replay = [(seq, f)]) (hl : s.sendLimit n = some e) (hfit : s.fitsBy n e f = true) :
    (s.resendFrom n seq).out = s.out ++ [.frame n seq (s.sealedEpoch n f) f] ∧ ((s.resendFrom n seq).link n).resendAt = none := by
  have list : s.replayFrom n seq = [(seq, f)] := by simp [State.replayFrom, hf]
  rw [State.resendFrom_begins hr (by simp [hf]), hl, list]
  have same : (s.setLink n { s.link n with resend := some (seq, s.now) }).fitsBy n e f = s.fitsBy n e f :=
    State.fitsBy_congr rfl (by rw [State.link_setLink_same])
  exact State.resendBy_sends (same.trans hfit)

/-! ### The commands -/

theorem execRetry_accepts {s : State} {n seq q : Nat} {chk : UnitCheck} (cause : Nat) (hs : s.serving = true) (hu : s.portUp n = true)
    (hg : s.CtlGood n q chk) :
    execRetry n seq cause chk q s = .next ((s.tookCtl n q).resendFrom n seq) :=
  guarded_ctl_accepts (fun s => s.resendFrom n seq) hs hu hg

/-- ACK_TIMEOUT acts as a RETRY of the oldest frame held. -/
theorem execAckTimeout_resends {s : State} {n q : Nat} {f : DataFrame} {r : List (Nat × DataFrame)} (hs : s.serving = true)
    (hu : s.portUp n = true) (h : (s.link n).replay = (q, f) :: r) : execAckTimeout n s = .next (s.resendFrom n q) := by
  unfold execAckTimeout
  rw [guarded_of _ _ _ (by rw [hs, hu]; rfl)]
  simp only [h]

theorem execRetryRepeat_repeats {s : State} {n : Nat} (hs : s.serving = true) (hu : s.portUp n = true)
    (hw : (s.link n).retryWait = true) :
    execRetryRepeat n s = .next (s.sendFlit n (.retry (s.link n).rxNext (s.link n).retryCause)) := by
  unfold execRetryRepeat
  rw [guarded_of _ _ _ (by rw [hs, hu, hw]; rfl)]

theorem execReplayCheck_retrains {s : State} {n : Nat} (hs : s.serving = true) (hu : s.portUp n = true) :
    execReplayCheck n s = .next ((s.err (Page.lpt n) Err.lpt.REPLAY_CHECK { place := n, placeKind := 5 }).enterRetrain n) := by
  unfold execReplayCheck
  rw [guarded_of _ _ _ (by rw [hs, hu]; rfl)]

/-! ### The statement -/

/-- Settles O54: each command's guard holds; an accepted RETRY notes its control sequence number and leads where the lemmas about a resend
say. -/
theorem retryCommandsComplete : Obligations.RetryCommandsComplete := by
  unfold Obligations.RetryCommandsComplete
  refine ⟨?retry, ?timeout, ?again, ?check⟩
  case retry =>
    intro port seq cause chk q s hs hu ht hf hc hq hr hh
    have link := s.tookCtl_link port q
    have idle : ((s.tookCtl port q).link port).resend = none := by rw [link]; exact hr
    have held : (((s.tookCtl port q).link port).replay.any fun e => e.1 == seq) = true := by rw [link]; exact hh
    obtain ⟨mark, replay, regs⟩ := State.resendFrom_marks idle held
    rw [link] at replay
    refine ⟨_, execRetry_accepts cause hs hu ⟨ht, hf, hc, hq⟩, mark, replay, regs, ?closed, ?opened⟩
    case closed => exact fun hl => State.resendFrom_waits idle held hl
    case opened =>
      intro f e only hl fits
      have same : (s.tookCtl port q).fitsBy port e f = s.fitsBy port e f := State.fitsBy_congr rfl (by rw [link])
      exact State.resendFrom_sends idle (by rw [link]; exact only) hl (same.trans fits)
  case timeout =>
    intro port q f r s hs hu h
    have done : exec (.ackTimeout port) s = .next (s.resendFrom port q) := execAckTimeout_resends hs hu h
    exact ⟨done, fun hr => ⟨_, done, (State.resendFrom_marks hr (by simp [h])).1⟩⟩
  case again => exact fun port s hs hu hw => execRetryRepeat_repeats hs hu hw
  case check => exact fun port s hs hu => execReplayCheck_retrains hs hu

end Sys2Proof.Machine
end

section
/-! Plane-down notices, handed-off signals and completed writes: what the meaning of each of these commands leads to. -/

namespace Sys2Proof.Machine

/-! ### Plane-down notices (R128) -/

theorem execPdn_accepts {s : State} {n st sp ev q : Nat} {chk : UnitCheck} (hs : s.serving = true) (hu : s.portUp n = true)
    (hg : s.CtlGood n q chk) :
    execPdn n st sp ev chk q s = .next (State.opPdn n st sp ev (s.tookCtl n q)) :=
  guarded_ctl_accepts (State.opPdn n st sp ev) hs hu hg

theorem mem_insertUp (l : List Nat) (x : Nat) : x ∈ insertUp l x := by
  induction l with
  | nil => exact List.mem_singleton_self x
  | cons a r ih =>
    unfold insertUp
    split
    · exact List.mem_cons_self
    · split
      next same => exact List.mem_cons.2 (.inl same)
      next => exact List.mem_cons_of_mem a ih

/-- A Mount block notes the plane as down. -/
theorem State.opPdn_mount {s : State} {n st sp ev : Nat} (hp : s.boot.post = false) :
    (State.opPdn n st sp ev s).gait.pdnPlanes.contains n = true ∧ (State.opPdn n st sp ev s).sync = s.sync := by
  unfold State.opPdn
  rw [if_neg (by rw [hp]; exact Bool.false_ne_true)]
  extract_lets s1
  have same : s1.sync = s.sync :=
    (State.err_same _ _ _ _ .sync (by decide) (by decide) (by decide) fun _ => nofun).trans (State.wr_sync _ _ _ _ _)
  exact ⟨List.contains_iff_mem.2 (mem_insertUp _ n), same⟩

/-- A Post block remembers an event that it has not seen; its gait stays. -/
theorem State.opPdn_post {s : State} {n st sp ev : Nat} (hp : s.boot.post = true) (hn : s.sync.seenPdn.contains (st, ev) = false) :
    (State.opPdn n st sp ev s).sync.seenPdn = (st, ev) :: s.sync.seenPdn ∧ (State.opPdn n st sp ev s).gait = s.gait := by
  unfold State.opPdn
  rw [if_pos hp, if_neg (by rw [hn]; exact Bool.false_ne_true)]
  extract_lets s1
  have told : Frame 0x100800c000280 s s1 := State.err_frame rfl (.refl _ s) (Covers.fam (N := 0x100800c000280) .lpt rfl rfl)
  set s2 : State := { s1 with sync := { s1.sync with seenPdn := (st, ev) :: s1.sync.seenPdn } } with noted
  have sent : Frame 0xc000080 s2 (s2.flood n (.pdn st sp ev)) := State.flood_frame rfl (.refl _ s2)
  rw [sent.same .sync rfl, sent.same .gait rfl, noted]
  exact ⟨congrArg (fun x : Sync => (st, ev) :: x.seenPdn) (told.same .sync rfl), told.same .gait rfl⟩

/-! ### Handed-off signals (R213, R214) -/

theorem State.post_of_mount {s : State} (h : s.mount = true) : s.boot.post = false := by simpa using (Bool.and_eq_true_iff.1 h).2

theorem State.mount_of_post {s : State} (h : s.boot.post = true) : s.mount = false := by simp [State.mount, h]

theorem execSignalHandoff_mount {s : State} {ref status : Nat} {late : Bool} (hm : s.mount = true) (hs : status < 9) :
    execSignalHandoff ref status late s = .next (s.applySignal ref status) := by
  unfold execSignalHandoff
  rw [guarded_of _ _ _ (by simp [hm, hs])]

theorem execSignalHandoff_post {s : State} {ref status : Nat} {late : Bool} (hp : s.boot.post = true) :
    execSignalHandoff ref status late s = .next s := by
  unfold execSignalHandoff
  rw [guarded_not _ _ _ (by rw [State.mount_of_post hp]; rfl)]

/-! ### Completed writes (R242, R488) -/

theorem execMemoryWriteDone_open {s : State} {ch : Nat} {w : WriteResult} (hm : s.mount = true) (ho : s.memOpen = true)
    (hc : ch < s.channels) : execMemoryWriteDone ch w s = .next (if w.pipeFault then s.pipeFault ch else s) := by
  unfold execMemoryWriteDone
  rw [guarded_of _ _ _ (by simp [hm, ho, hc])]

theorem State.err_mem (s : State) (p : Page) (b : Nat) (e : ErrInfo) : (s.err p b e).mem = s.mem :=
  s.err_same p b e .mem (by decide) (by decide) (by decide) fun _ => nofun

/-- While a further pipe remains, a parity mismatch takes one out of service and leaves the contents of memory. -/
theorem State.pipeFault_counts {s : State} {n : Nat} (h : (s.chan n).pipesOut < 63) :
    ((s.pipeFault n).chan n).pipesOut = (s.chan n).pipesOut + 1 ∧ (s.pipeFault n).mem.bytes = s.mem.bytes := by
  unfold State.pipeFault
  extract_lets c s1 s2
  rw [if_neg (by unfold c; omega)]
  have mem : s2.mem = (s.setChan n { c with pipesOut := c.pipesOut + 1 }).mem := (State.err_mem _ _ _ _).trans (State.wr_mem _ _ _ _ _)
  have chan : s2.chan n = { c with pipesOut := c.pipesOut + 1 } := by
    unfold State.chan
    rw [mem]
    exact (State.chan_setChan s n n _).trans (if_pos rfl)
  exact ⟨by rw [chan], by rw [mem]; rfl⟩

/-! ### The statement -/

/-- Settles O55: each command's guard holds or, for a signal on a Post block, fails, and its meaning leads where the lemma about it says.
That a completed write changes nothing but its pipe is the model's choice (log entry 113). -/
theorem noticesAndSignalsComplete : Obligations.NoticesAndSignalsComplete := by
  unfold Obligations.NoticesAndSignalsComplete
  refine ⟨?mount, ?post, ?clear, ?signal, ?noSignal, ?write⟩
  case mount =>
    intro port st sp ev chk q s hm hu ht hf hc hq
    exact ⟨_, execPdn_accepts (State.serving_of_mount hm) hu ⟨ht, hf, hc, hq⟩, State.opPdn_mount (State.post_of_mount hm)⟩
  case post =>
    intro port st sp ev chk q s hs hu ht hf hc hq hp hn
    exact ⟨_, execPdn_accepts hs hu ⟨ht, hf, hc, hq⟩, State.opPdn_post hp hn⟩
  case clear => exact fun p port s hr hw hp hn => State.action_port (fun s => s.clearPdn port) hr hw hp hn
  case signal => exact fun ref status late s hm hs => execSignalHandoff_mount hm hs
  case noSignal => exact fun ref status late s hp => execSignalHandoff_post hp
  case write =>
    intro ch w s hm ho hc
    have done : exec (.memoryWriteDone ch w) s = .next (if w.pipeFault then s.pipeFault ch else s) := execMemoryWriteDone_open hm ho hc
    refine ⟨fun hw => ?_, fun hw => ?_, fun hw hp => ⟨_, done, ?_⟩⟩
    · rw [done, hw]; rfl
    · rw [done, hw]; rfl
    · rw [hw]; exact State.pipeFault_counts hp

end Sys2Proof.Machine
end

section
/-! Number formats: what the fields of a scalar float pattern widen to and narrow into, and what an INT32 element spells. -/

namespace Sys2Proof.Machine

/-! ### Fields of a scalar float pattern (R135) -/

section Pattern

variable {eb fb v : Nat}

theorem bits_lt (v lo w : Nat) : bits v lo w < 2 ^ w := Nat.mod_lt _ (Nat.two_pow_pos w)

/-- The top bit of a number of `w + 1` bits, put back at its place. -/
theorem signAt_bit {w : Nat} (h : v < 2 ^ (w + 1)) : signAt (bit v w) w = v / 2 ^ w * 2 ^ w := by
  have top : v / 2 ^ w < 2 := Nat.div_lt_of_lt_mul (by rwa [← Nat.pow_succ])
  unfold signAt bit
  interval_cases v / 2 ^ w <;> simp

/-- A pattern is the sum of its sign, exponent and fraction fields, each at its place. -/
theorem signAt_add_fields (h : v < 2 ^ (1 + eb + fb)) :
    signAt (bit v (eb + fb)) (eb + fb) + (bits v fb eb * 2 ^ fb + bits v 0 fb) = v := by
  rw [signAt_bit (by rwa [Nat.add_comm _ 1, ← Nat.add_assoc]), Nat.add_comm eb fb, Nat.pow_add, ← Nat.div_div_eq_div_mul]
  unfold bits
  rw [Nat.pow_zero, Nat.div_one]
  calc v / 2 ^ fb / 2 ^ eb * (2 ^ fb * 2 ^ eb) + (v / 2 ^ fb % 2 ^ eb * 2 ^ fb + v % 2 ^ fb)
      = (2 ^ eb * (v / 2 ^ fb / 2 ^ eb) + v / 2 ^ fb % 2 ^ eb) * 2 ^ fb + v % 2 ^ fb := by ring
    _ = v := by rw [Nat.div_add_mod, Nat.div_add_mod']

end Pattern

/-! ### Narrowing values that need no rounding (R145 to R149) -/

section Narrow

variable {n : NSet} {eb fb bias m f : Nat} {neg : Bool}

/-- The largest finite magnitude's pattern (R135): E4M3 has it just below its NaN, the others just below infinity. -/
def largestFinite (fmt eb fb : Nat) : Nat := if fmt = 5 then 0x7E else (2 ^ eb - 1) * 2 ^ fb - 1

/-- A value on a grid at least as coarse as the one asked for is not rounded. -/
theorem roundAt_exact {e q : Int} (h : q ≤ e) (mode : Nat) (neg : Bool) (m r : Nat) :
    roundAt mode neg m e q r = (m * 2 ^ (e - q).toNat, true) := if_pos h

theorem narrowFloat_inf (h : n.fmt ≠ 5) (r : Nat) :
    narrowFloat n eb fb bias (.inf neg) r = (signAt neg (eb + fb) + (2 ^ eb - 1) * 2 ^ fb, 0) := by
  simp [narrowFloat, h]

theorem narrowFloat_zero (e : Int) (r : Nat) : narrowFloat n eb fb bias (.fin neg 0 e) r = (signAt neg (eb + fb), 0) := rfl

/-- The value of a subnormal pattern narrows into its fraction field: brought to `fb + 1` significant bits it stays below the
smallest normal value, and it is a multiple of the subnormal grid. -/
theorem narrowFloat_subnormal (ho : n.flushOut = false) (h0 : m ≠ 0) (hm : m < 2 ^ fb) (r : Nat) :
    narrowFloat n eb fb bias (.fin neg m (1 - bias - fb)) r = (signAt neg (eb + fb) + m, 0) := by
  have short : Nat.log2 m < fb := (Nat.log2_lt h0).2 hm
  have below : m * 2 ^ (fb - Nat.log2 m) < 2 ^ (fb + 1) := by
    calc m * 2 ^ (fb - Nat.log2 m) < 2 ^ (Nat.log2 m + 1) * 2 ^ (fb - Nat.log2 m) :=
          Nat.mul_lt_mul_of_pos_right Nat.lt_log2_self (Nat.two_pow_pos _)
      _ = 2 ^ (fb + 1) := by rw [← Nat.pow_add]; congr 1; omega
  have shift : ((1 - bias - fb : Int) - (1 - bias - fb + Nat.log2 m - fb)).toNat = fb - Nat.log2 m := by omega
  unfold narrowFloat
  simp only [roundAt_exact (show (1 - bias - fb + Nat.log2 m - fb : Int) ≤ 1 - bias - fb by omega), roundAt_exact (Int.le_refl _), shift]
  rw [if_neg h0, if_pos ⟨by omega, fun h => below.ne h.2⟩, if_neg (by simp [ho])]
  simp

/-- The value of a normal pattern up to the largest narrows into its two fields: it has exactly `fb + 1` significant bits. -/
theorem narrowFloat_normal {e : Nat} (he : 0 < e) (hf : f < 2 ^ fb) (hmax : e * 2 ^ fb + f ≤ largestFinite n.fmt eb fb) (r : Nat) :
    narrowFloat n eb fb bias (.fin neg (2 ^ fb + f) (e - bias - fb)) r = (signAt neg (eb + fb) + (e * 2 ^ fb + f), 0) := by
  have h0 : 2 ^ fb + f ≠ 0 := by have := Nat.two_pow_pos fb; omega
  have carry : 2 ^ fb + f < 2 ^ (fb + 1) := by rw [Nat.pow_succ]; omega
  have log : Nat.log2 (2 ^ fb + f) = fb := (Nat.log2_eq_iff h0).2 ⟨Nat.le_add_right _ _, carry⟩
  have same : (e - bias - fb + fb - fb : Int) = e - bias - fb := by omega
  have field : (e - bias - fb + fb + bias : Int).toNat = e := by omega
  have fits : ¬ (if n.fmt = 5 then 0x7E else (2 ^ eb - 1) * 2 ^ fb - 1) < e * 2 ^ fb + f := Nat.not_lt.2 hmax
  unfold narrowFloat
  simp only [log, same, roundAt_exact (Int.le_refl _), Int.sub_self, Int.toNat_zero, Nat.pow_zero, Nat.mul_one]
  rw [if_neg h0, if_neg fun h => absurd h.1 (by omega)]
  simp only [carry.ne, if_false, field, Nat.add_sub_cancel_left, beq_iff_eq, gt_iff_lt, fits, if_true]

end Narrow

/-! ### Widening and narrowing back (R141, R152) -/

section Exact

variable {fmt eb fb bias : Nat}

/-- E4M3 alone spends its largest exponent on finite values. -/
theorem floatShape_e4m3 (h : floatShape 5 = some (eb, fb, bias)) : eb = 4 ∧ fb = 3 ∧ bias = 7 := by
  simpa [floatShape, eq_comm] using h

/-- Below the infinities and NaNs of the format, the magnitude of a pattern is at most the largest finite one. -/
theorem fields_le_largestFinite {e f : Nat} (hs : floatShape fmt = some (eb, fb, bias)) (he : e < 2 ^ eb) (hf : f < 2 ^ fb)
    (hn : ¬ (fmt = 5 ∧ e = 15 ∧ f = 7)) (hi : ¬ (fmt ≠ 5 ∧ e = 2 ^ eb - 1)) : e * 2 ^ fb + f ≤ largestFinite fmt eb fb := by
  unfold largestFinite
  by_cases h5 : fmt = 5
  · subst h5
    obtain ⟨rfl, rfl, rfl⟩ := floatShape_e4m3 hs
    rw [if_pos rfl]
    omega
  · rw [if_neg h5]
    have room : (e + 1) * 2 ^ fb ≤ (2 ^ eb - 1) * 2 ^ fb := Nat.mul_le_mul_right _ (by omega)
    rw [Nat.add_one_mul] at room
    omega

end Exact

/-- Settles O45: whichever of infinity, zero, subnormal and normal value a pattern spells, its value narrows exactly into the
pattern's own fields. -/
theorem exactConversionKeepsThePattern : Obligations.ExactConversionKeepsThePattern := by
  intro fmt eb fb bias v r n hs hv hfmt ho hnan
  subst hfmt
  suffices h : narrowFloat n eb fb bias (widenFloat n.fmt eb fb bias v false) r =
      (signAt (bit v (eb + fb)) (eb + fb) + (bits v fb eb * 2 ^ fb + bits v 0 fb), 0) by
    rwa [signAt_add_fields hv] at h
  have he := bits_lt v fb eb
  have hf := bits_lt v 0 fb
  simp only [widenFloat, Bool.false_eq_true, if_false] at hnan ⊢
  generalize bit v (eb + fb) = neg, bits v fb eb = e, bits v 0 fb = f at hnan he hf ⊢
  split_ifs at hnan ⊢ with isNan top frac low
  · exact absurd rfl hnan
  · rw [narrowFloat_inf top.1, ← top.2, frac, Nat.add_zero]
  · exact absurd rfl hnan
  · rw [low, Nat.zero_mul, Nat.zero_add]
    by_cases h0 : f = 0
    · rw [h0, narrowFloat_zero, Nat.add_zero]
    · exact narrowFloat_subnormal ho h0 hf r
  · exact narrowFloat_normal (Nat.pos_of_ne_zero low) hf (fields_le_largestFinite hs he hf isNan top) r

/-! ### INT32 elements (R136) -/

theorem slice_zero (l : List Byte) (off : Nat) : slice l off 0 = [] := rfl

/-- A slice begins with the byte at its offset, zero past the end of the list. -/
theorem slice_succ (l : List Byte) (off n : Nat) : slice l off (n + 1) = l.getD off 0 :: slice l (off + 1) n := by
  unfold slice
  by_cases h : off < l.length
  · rw [List.drop_eq_getElem_cons h, List.take_succ_cons, List.getD_eq_getElem l 0 h]
    simp only [List.length_cons, Nat.add_sub_add_right, List.cons_append]
  · have past : l.length ≤ off := Nat.le_of_not_lt h
    rw [List.drop_eq_nil_of_le past, List.drop_eq_nil_of_le (Nat.le_succ_of_le past)]
    simp [past, List.replicate_succ]

/-- Two's complement of `w` bits is the remainder nearest to zero. -/
theorem signed_eq_bmod (v w : Nat) : signed v w = (v : Int).bmod (2 ^ w) := by
  unfold signed Int.bmod
  simp only [← Int.natCast_emod]
  split_ifs <;> omega

/-- Settles O52: the four bytes' number, taken in two's complement of 32 bits, is the remainder nearest to zero modulo 2^32. -/
theorem integerElementsAreTwosComplement : Obligations.IntegerElementsAreTwosComplement := by
  intro fvar i flush l
  refine ⟨signed (ofLe (slice l (4 * i) 4)) 32, rfl, ?_⟩
  have spelled : ofLe (slice l (4 * i) 4) = (l.getD (4 * i) 0).toNat + 256 * (l.getD (4 * i + 1) 0).toNat
      + 65536 * (l.getD (4 * i + 2) 0).toNat + 16777216 * (l.getD (4 * i + 3) 0).toNat := by
    simp only [slice_succ, slice_zero, ofLe, Nat.add_assoc, Nat.reduceAdd]
    omega
  rw [signed_eq_bmod, spelled]
  refine ⟨Int.le_bmod (by decide), Int.le_of_lt_add_one (Int.bmod_lt (by decide)), ?_⟩
  exact Int.emod_eq_zero_of_dvd Int.dvd_bmod_sub_self

end Sys2Proof.Machine
end

section
/-! Accumulator records: what operands leave in any order and grouping, and a record as a partial carries it. -/

namespace Sys2Proof.Machine

/-! ### Joining records (R161, R163, R169) -/

theorem accJoin_comm (op : Nat) (a b : Int) : accJoin op a b = accJoin op b a := by
  match op with
  | 0 => exact Int.add_comm a b
  | 1 => exact Int.min_comm a b
  | 2 => exact Int.max_comm a b
  | 3 => exact congrArg Nat.cast (Nat.land_comm _ _)
  | 4 => exact congrArg Nat.cast (Nat.lor_comm _ _)
  | 5 => exact congrArg Nat.cast (Nat.xor_comm _ _)
  | _ + 6 => exact Int.add_comm a b

theorem accJoin_assoc (op : Nat) (a b c : Int) : accJoin op (accJoin op a b) c = accJoin op a (accJoin op b c) := by
  match op with
  | 0 => exact Int.add_assoc a b c
  | 1 => exact min_assoc a b c
  | 2 => exact max_assoc a b c
  | 3 => exact congrArg Nat.cast (Nat.land_assoc _ _ _)
  | 4 => exact congrArg Nat.cast (Nat.lor_assoc _ _ _)
  | 5 => exact congrArg Nat.cast (Nat.xor_assoc _ _ _)
  | _ + 6 => exact Int.add_assoc a b c

/-- The value of two records joined: the one that is there, or both combined; `m` and `n` say NONE. -/
def joinVal (op : Nat) (m n : Bool) (x y : Int) : Int := if n then x else if m then y else accJoin op x y

theorem joinVal_assoc (op : Nat) (l m n : Bool) (x y z : Int) :
    joinVal op (l && m) n (joinVal op l m x y) z = joinVal op l (m && n) x (joinVal op m n y z) := by
  cases l <;> cases m <;> cases n <;> simp [joinVal, accJoin_assoc]

theorem joinVal_comm {op : Nat} {m n : Bool} {x y : Int} (hx : m = true → x = 0) (hy : n = true → y = 0) :
    joinVal op m n x y = joinVal op n m y x := by
  unfold joinVal
  split_ifs with isNone other
  · rw [hx other, hy isNone]
  · rfl
  · rfl
  · exact accJoin_comm op x y

/-- The zero-sign state of two records joined. -/
def joinZs (op : Nat) (x y : Bool) : Bool := if op = 0 ∨ op = 6 then x && y else x || y

theorem joinZs_assoc (op : Nat) (x y z : Bool) : joinZs op (joinZs op x y) z = joinZs op x (joinZs op y z) := by
  unfold joinZs
  split_ifs
  · exact Bool.and_assoc x y z
  · exact Bool.or_assoc x y z

theorem joinZs_comm (op : Nat) (x y : Bool) : joinZs op x y = joinZs op y x := by
  unfold joinZs
  rw [Bool.and_comm, Bool.or_comm]

/-- The zero-sign state that an operand leaves. -/
def nextZs (op : Nat) (got zs : Bool) (x : Ext) : Bool :=
  match op with
  | 1 => zs || x.negZero
  | 2 => zs || x.posZero
  | 3 | 4 | 5 => false
  | _ => (!got || zs) && x.negZero

/-- An operand's zero-sign state joins that of a record that AND, OR and XOR have left false. -/
theorem nextZs_eq_join {op : Nat} (hop : op < 7) {zs : Bool} (raw : 3 ≤ op → op ≤ 5 → zs = false) (x : Ext) :
    nextZs op true zs x = joinZs op zs (nextZs op false false x) := by
  interval_cases op <;> simp [nextZs, joinZs, raw]

namespace AccRec

variable {fmt op : Nat} {r a b c : AccRec}

/-- The record that one operand leaves. -/
def operand (fmt op : Nat) (x : Ext × Bool) : AccRec := AccRec.add fmt op .empty x.1 x.2

theorem add_got (x : Ext) (p : Bool) : (AccRec.add fmt op r x p).got = true := by cases x <;> rfl

theorem add_zs (x : Ext) (p : Bool) : (AccRec.add fmt op r x p).zs = nextZs op r.got r.zs x := by cases x <;> rfl

theorem operand_got (x : Ext × Bool) : (operand fmt op x).got = true := add_got _ _

@[simp] theorem empty_join : AccRec.join op .empty b = b := by simp [AccRec.join, AccRec.empty]

/-- A record that an operand has reached joins field by field. -/
theorem join_of_got (ha : a.got = true) : AccRec.join op a b =
    { got := true, none_ := a.none_ && b.none_, val := joinVal op a.none_ b.none_ a.val b.val, nan := a.nan || b.nan
      pinf := a.pinf || b.pinf, ninf := a.ninf || b.ninf, zs := joinZs op a.zs b.zs, poison := a.poison || b.poison } :=
  if_neg (by rw [ha]; decide)

/-- A record that no operand has reached takes the other one, and keeps its poison. -/
theorem join_of_not_got (ha : a.got = false) : AccRec.join op a b = { b with poison := a.poison || b.poison } :=
  if_pos (by rw [ha]; rfl)

theorem join_got (hb : b.got = true) : (AccRec.join op a b).got = true := by
  cases ha : a.got
  · rw [join_of_not_got ha, hb]
  · rw [join_of_got ha]

theorem join_assoc (hb : b.got = true) :
    AccRec.join op (AccRec.join op a b) c = AccRec.join op a (AccRec.join op b c) := by
  cases ha : a.got
  · simp only [join_of_not_got ha, join_of_got hb, join_of_got (a := { b with poison := a.poison || b.poison }) hb, Bool.or_assoc]
  · simp only [join_of_got ha, join_of_got hb, join_of_got, Bool.and_assoc, Bool.or_assoc, joinVal_assoc, joinZs_assoc]

/-- Two records that hold 0 where no finite operand has reached them join in either order. -/
theorem join_comm (ha : a.got = true) (hb : b.got = true) (za : a.none_ = true → a.val = 0) (zb : b.none_ = true → b.val = 0) :
    AccRec.join op a b = AccRec.join op b a := by
  rw [join_of_got ha, join_of_got hb, joinVal_comm za zb, joinZs_comm, Bool.and_comm, Bool.or_comm a.nan, Bool.or_comm a.pinf,
    Bool.or_comm a.ninf, Bool.or_comm a.poison]

/-- What operands leave: nothing before the first one, the value 0 before the first finite one, no zero-sign state under AND, OR
and XOR. -/
structure Left (op : Nat) (r : AccRec) : Prop where
  fresh : r.got = false → r = .empty
  zero : r.none_ = true → r.val = 0
  raw : 3 ≤ op → op ≤ 5 → r.zs = false

theorem Left.empty : Left op .empty := ⟨fun _ => rfl, fun _ => rfl, fun _ _ => rfl⟩

theorem Left.add (h : Left op r) (x : Ext) (p : Bool) : Left op (AccRec.add fmt op r x p) := by
  refine ⟨fun e => absurd e (by simp [add_got]), fun e => ?_, fun l u => ?_⟩
  · cases x <;> simp_all [AccRec.add, h.zero]
  · rw [add_zs]
    interval_cases op <;> rfl

/-- The operands of an operation that the law covers: finite ones under AND, OR and XOR. -/
def Admits (op : Nat) (x : Ext × Bool) : Prop := op < 3 ∨ 5 < op ∨ ∃ neg m e, x.1 = .fin neg m e

/-- An operand that is not finite leaves the value: it is NONE itself under MIN and MAX, and 0 in a sum. -/
theorem joinVal_special {n : Bool} {x : Int} (hop : op < 7) (hs : op < 3 ∨ 5 < op) (zero : n = true → x = 0) :
    joinVal op n (op == 1 || op == 2) x 0 = x := by
  unfold joinVal
  split_ifs with extreme isNone
  · rfl
  · exact (zero isNone).symm
  · have sum : op = 0 ∨ op = 6 := by
      simp only [Bool.or_eq_true, beq_iff_eq] at extreme
      omega
    rcases sum with rfl | rfl <;> exact Int.add_zero x

/-- An operand joins a record as its own record does. -/
theorem add_eq_join (hop : op < 7) (h : Left op r) {x : Ext × Bool} (hx : Admits op x) :
    AccRec.add fmt op r x.1 x.2 = AccRec.join op r (operand fmt op x) := by
  cases hg : r.got
  · rw [h.fresh hg, empty_join, operand]
  · obtain ⟨x, p⟩ := x
    have zs : (AccRec.add fmt op r x p).zs = joinZs op r.zs (operand fmt op (x, p)).zs := by
      rw [operand, add_zs, add_zs, hg]
      exact nextZs_eq_join hop h.raw x
    rw [join_of_got hg, ← zs]
    cases x with
    | fin neg m e => simp [AccRec.add, operand, AccRec.empty, joinVal]
    | nan | inf neg =>
      have special := joinVal_special hop (by simpa [Admits] using hx) h.zero
      simp [AccRec.add, operand, AccRec.empty, special]

/-! ### Operands in any order and grouping (R163, R169, R171) -/

/-- Every code above 5 combines as 6, a sum. -/
theorem add_of_five_lt (hop : 5 < op) : AccRec.add fmt op = AccRec.add fmt 6 := by
  obtain ⟨n, rfl⟩ := Nat.exists_eq_add_of_le' hop
  rfl

/-- The record that a list of operands leaves. -/
def fold (fmt op : Nat) (r : AccRec) (xs : List (Ext × Bool)) : AccRec := xs.foldl (fun r x => AccRec.add fmt op r x.1 x.2) r

theorem Left.fold (h : Left op r) (xs : List (Ext × Bool)) : Left op (fold fmt op r xs) :=
  fold_rule h fun _ x hr => hr.add x.1 x.2

/-- The records of a list of operands, joined one after the other to a record. -/
def joins (fmt op : Nat) (r : AccRec) (xs : List (Ext × Bool)) : AccRec :=
  xs.foldl (fun r x => AccRec.join op r (operand fmt op x)) r

theorem joins_cons (x : Ext × Bool) (xs : List (Ext × Bool)) :
    joins fmt op r (x :: xs) = joins fmt op (AccRec.join op r (operand fmt op x)) xs := rfl

/-- Operands that join one by one leave what their records leave. -/
theorem fold_eq_joins (hop : op < 7) {xs : List (Ext × Bool)} (hx : ∀ x ∈ xs, Admits op x) (h : Left op r) :
    fold fmt op r xs = joins fmt op r xs := by
  induction xs generalizing r with
  | nil => rfl
  | cons x xs ih =>
    rw [joins_cons, ← add_eq_join hop h (hx x (by simp))]
    exact ih (fun y hy => hx y (by simp [hy])) (h.add x.1 x.2)

/-- Two orders of the same operands. -/
theorem fold_perm (hop : op < 7) {xs ys : List (Ext × Bool)} (hp : xs.Perm ys) (hx : ∀ x ∈ xs, Admits op x) :
    fold fmt op .empty xs = fold fmt op .empty ys := by
  rw [fold_eq_joins hop hx .empty, fold_eq_joins hop (fun y hy => hx y (hp.mem_iff.2 hy)) .empty]
  refine hp.foldl_eq' (fun x _ y _ z => ?_) _
  have zero (x : Ext × Bool) := (Left.empty.add (fmt := fmt) (op := op) x.1 x.2).zero
  rw [join_assoc (operand_got _), join_assoc (operand_got _),
    join_comm (operand_got x) (operand_got y) (zero x) (zero y)]

theorem join_joins (hb : b.got = true) (xs : List (Ext × Bool)) :
    AccRec.join op a (joins fmt op b xs) = joins fmt op (AccRec.join op a b) xs := by
  induction xs generalizing b with
  | nil => rfl
  | cons x xs ih => rw [joins_cons, ih (join_got (operand_got x)), ← join_assoc hb, joins_cons]

/-- The record of a non-empty group joins as its operands do one by one. -/
theorem join_fold (hop : op < 7) (h : Left op r) {ys : List (Ext × Bool)} (hn : ys ≠ []) (hy : ∀ y ∈ ys, Admits op y) :
    AccRec.join op r (fold fmt op .empty ys) = fold fmt op r ys := by
  obtain ⟨y, ys, rfl⟩ := List.exists_cons_of_ne_nil hn
  rw [fold_eq_joins hop hy .empty, fold_eq_joins hop hy h, joins_cons, empty_join, join_joins (operand_got y), joins_cons]

theorem admits_of {xs : List (Ext × Bool)} (h : op < 3 ∨ 5 < op ∨ ∀ x ∈ xs, ∃ neg m e, x.1 = .fin neg m e) :
    ∀ x ∈ xs, Admits op x := fun x hx => h.imp_right (.imp_right fun k => k x hx)

end AccRec

/-- Settles O43: an operand joins as its own record does, and joining is associative and, on these records, commutative. -/
theorem reduceResultIgnoresOrderAndGrouping : Obligations.ReduceResultIgnoresOrderAndGrouping := by
  refine ⟨fun fmt op xs ys hp hx => ?order, fun fmt op xs ys hop hn hx => ?grouping⟩
  case order =>
    rcases Nat.lt_or_ge op 7 with hop | hop
    · exact AccRec.fold_perm hop hp (AccRec.admits_of hx)
    · rw [AccRec.add_of_five_lt (by omega)]
      exact AccRec.fold_perm (by decide) hp fun _ _ => .inr (.inl (by decide))
  case grouping =>
    rw [List.foldl_append]
    exact AccRec.join_fold hop (AccRec.Left.empty.fold xs) hn fun y hy => AccRec.admits_of hx y (List.mem_append_right _ hy)

/-! ### A record as it is carried (R161, R162, R169) -/

/-- The `n` bytes of a number spell it modulo `256 ^ n`. -/
theorem ofLe_leBytes (n v : Nat) : ofLe (leBytes n v) = v % 256 ^ n := by
  induction n generalizing v with
  | zero => rw [Nat.pow_zero, Nat.mod_one]; rfl
  | succ n ih => rw [leBytes, ofLe, ih, BitVec.toNat_ofNat, Nat.pow_succ' (n := n), Nat.mod_mul]

section Carried

variable {v w f : Nat}

/-- Bits of a number above its `w` low ones. -/
theorem bit_add_mul_pow (h : v < 2 ^ w) (i : Nat) : bit (v + 2 ^ w * f) (w + i) = bit f i := by
  unfold bit
  rw [Nat.pow_add, ← Nat.div_div_eq_div_mul, Nat.add_mul_div_left _ _ (Nat.two_pow_pos w), Nat.div_eq_of_lt h, Nat.zero_add]

/-- Two's complement of `w` bits reads back the number it writes, whatever stands above. -/
theorem signed_unsigned_add {x : Int} (hw : 0 < w) (l : -(2 ^ (w - 1) : Int) < x) (u : x < 2 ^ (w - 1)) :
    signed (unsigned x w + 2 ^ w * f) w = x := by
  have half : (2 : Int) ^ w = 2 * 2 ^ (w - 1) := (mul_pow_sub_one hw.ne' 2).symm
  have pos := Int.emod_nonneg x (Int.natCast_ne_zero.2 (Nat.two_pow_pos w).ne')
  rw [signed_eq_bmod, unsigned, Int.natCast_add, Int.natCast_mul, Int.toNat_of_nonneg pos, Int.add_mul_bmod_self_left,
    Int.emod_bmod]
  refine Int.bmod_eq_of_le ?_ ?_
  all_goals push_cast; omega

end Carried

/-- The four flags above VAL, as a number. -/
def AccRec.flags (r : AccRec) : Nat := b2n r.nan + 2 * b2n r.pinf + 4 * b2n r.ninf + 8 * b2n r.zs

theorem AccRec.flags_lt (r : AccRec) : r.flags < 16 := by
  unfold AccRec.flags b2n
  split_ifs <;> decide

theorem AccRec.bit_flags (r : AccRec) :
    bit r.flags 0 = r.nan ∧ bit r.flags 1 = r.pinf ∧ bit r.flags 2 = r.ninf ∧ bit r.flags 3 = r.zs := by
  unfold AccRec.flags
  cases r.nan <;> cases r.pinf <;> cases r.ninf <;> cases r.zs <;> decide

/-- VAL as it is carried: NONE of MIN and MAX is the pattern that no value in range has. -/
def AccRec.valBits (fmt op : Nat) (r : AccRec) : Nat :=
  if r.none_ then (if op = 1 ∨ op = 2 then 2 ^ (accBits fmt - 1) else 0) else unsigned r.val (accBits fmt)

/-- A record's bytes spell VAL and its flags at once. -/
theorem AccRec.bytes_eq (fmt op : Nat) (r : AccRec) :
    r.bytes fmt op = leBytes (accBytes fmt) (r.valBits fmt op + 2 ^ accBits fmt * r.flags) := by
  unfold AccRec.bytes AccRec.valBits AccRec.flags
  refine congrArg (leBytes _) ?_
  simp only [Nat.pow_succ]
  ring

/-- VAL and the four flags above it fill the bytes of a record. -/
theorem accBytes_bits (fmt : Nat) : 256 ^ accBytes fmt = 2 ^ accBits fmt * 16 := by
  have : 8 * accBytes fmt = accBits fmt + 4 := by
    unfold accBytes accBits
    split <;> rfl
  rw [show 256 = 2 ^ 8 from rfl, ← Nat.pow_mul, this, Nat.pow_add]

theorem accBits_gt (fmt : Nat) : 32 < accBits fmt := by
  unfold accBits
  split <;> decide

theorem unsigned_lt (x : Int) (w : Nat) : unsigned x w < 2 ^ w := by
  have pos : (0 : Int) < (2 ^ w : Nat) := Int.natCast_pos.2 (Nat.two_pow_pos w)
  exact (Int.toNat_lt (Int.emod_nonneg x pos.ne')).2 (Int.emod_lt_of_pos x pos)

/-- The most negative pattern spells no value that is in range. -/
theorem unsigned_ne_least {x : Int} {w : Nat} (hw : 0 < w) (l : -(2 ^ (w - 1) : Int) < x) (u : x < 2 ^ (w - 1)) :
    unsigned x w ≠ 2 ^ (w - 1) := by
  intro e
  have back := signed_unsigned_add (f := 0) hw l u
  have half : 2 ^ w = 2 * 2 ^ (w - 1) := (mul_pow_sub_one hw.ne' 2).symm
  rw [Nat.mul_zero, Nat.add_zero, e, signed, Nat.mod_eq_of_lt (by omega), if_neg (by omega), half] at back
  push_cast at back
  omega

namespace AccRec

variable {fmt op : Nat} {r : AccRec}

/-- A record whose value lies in the range of its format, NONE only for MIN and MAX. -/
structure Carriable (fmt op : Nat) (r : AccRec) : Prop where
  zero : r.none_ = true → r.val = 0
  extreme : r.none_ = true → op = 1 ∨ op = 2
  raw : 3 ≤ op ∧ op ≤ 5 → 0 ≤ r.val ∧ r.val < 2 ^ 32
  range : ¬ (3 ≤ op ∧ op ≤ 5) → -(2 ^ (accBits fmt - 1) : Int) < r.val ∧ r.val < 2 ^ (accBits fmt - 1)

theorem valBits_lt : r.valBits fmt op < 2 ^ accBits fmt := by
  have := accBits_gt fmt
  unfold valBits
  split_ifs
  · exact Nat.pow_lt_pow_right (by decide) (by omega)
  · exact Nat.two_pow_pos _
  · exact unsigned_lt _ _

/-- The number that the bytes of a record spell. -/
theorem ofLe_bytes : ofLe (r.bytes fmt op) = r.valBits fmt op + 2 ^ accBits fmt * r.flags := by
  have low : r.valBits fmt op < 2 ^ accBits fmt := valBits_lt
  have high : 2 ^ accBits fmt * (r.flags + 1) ≤ 2 ^ accBits fmt * 16 := Nat.mul_le_mul_left _ r.flags_lt
  rw [bytes_eq, ofLe_leBytes, accBytes_bits, Nat.mod_eq_of_lt]
  rw [Nat.mul_succ] at high
  omega

/-- The pattern of NONE stands for NONE alone. -/
theorem valBits_none (h : Carriable fmt op r) :
    ((op == 1 || op == 2) && r.valBits fmt op == 2 ^ (accBits fmt - 1)) = r.none_ := by
  unfold valBits
  cases hn : r.none_ with
  | true => simp [h.extreme hn]
  | false =>
    rw [if_neg (by decide), Bool.and_eq_false_imp]
    intro ext
    have range := h.range (by simp at ext; omega)
    exact beq_false_of_ne (unsigned_ne_least (by have := accBits_gt fmt; omega) range.1 range.2)

/-- AND, OR and XOR keep the raw 32 bits of their value low in VAL. -/
theorem raw_of_bytes (hn : r.none_ = false) (h0 : 0 ≤ r.val) (h1 : r.val < 2 ^ 32) :
    ((ofLe (r.bytes fmt op) % 2 ^ 32 : Nat) : Int) = r.val := by
  obtain ⟨k, wide⟩ := Nat.exists_eq_add_of_lt (accBits_gt fmt)
  have whole : (2 : Int) ^ 32 ≤ (2 ^ accBits fmt : Nat) := by
    exact_mod_cast Nat.pow_le_pow_right (by decide) (accBits_gt fmt).le
  have kept : unsigned r.val (accBits fmt) = r.val.toNat := by
    rw [unsigned, Int.emod_eq_of_lt h0 (Int.lt_of_lt_of_le h1 whole)]
  rw [ofLe_bytes, valBits, hn, if_neg Bool.false_ne_true, kept, wide, Nat.add_assoc, Nat.pow_add, Nat.mul_assoc,
    Nat.add_mul_mod_self_left]
  omega

/-- The value that the bytes spell. -/
theorem val_of_bytes (h : Carriable fmt op r) :
    (if r.none_ = true then 0 else if 3 ≤ op && op ≤ 5 then ((ofLe (r.bytes fmt op) % 2 ^ 32 : Nat) : Int)
      else signed (ofLe (r.bytes fmt op)) (accBits fmt)) = r.val := by
  split_ifs with hn bitwise
  · exact (h.zero hn).symm
  · obtain ⟨h0, h1⟩ := h.raw (by simpa using bitwise)
    exact raw_of_bytes (by simpa using hn) h0 h1
  · obtain ⟨l, u⟩ := h.range (by simpa using bitwise)
    rw [ofLe_bytes, valBits, if_neg hn, signed_unsigned_add (by have := accBits_gt fmt; omega) l u]

/-- A record read back from its own bytes. -/
theorem of_bytes (h : Carriable fmt op r) (hg : r.got = true) : AccRec.of fmt op (r.bytes fmt op) r.poison = r := by
  have low : ofLe (r.bytes fmt op) % 2 ^ accBits fmt = r.valBits fmt op := by
    rw [ofLe_bytes, Nat.add_mul_mod_self_left, Nat.mod_eq_of_lt valBits_lt]
  have flag (i : Nat) : bit (ofLe (r.bytes fmt op)) (accBits fmt + i) = bit r.flags i := by
    rw [ofLe_bytes, bit_add_mul_pow valBits_lt]
  obtain ⟨nan, pinf, ninf, zs⟩ := r.bit_flags
  have first : bit (ofLe (r.bytes fmt op)) (accBits fmt) = bit r.flags 0 := flag 0
  unfold AccRec.of
  simp only [low, valBits_none h, flag, first, nan, pinf, ninf, zs, val_of_bytes h]
  rw [← hg]

end AccRec

/-- Settles O44: the bytes spell VAL with the four flags above it, and each part of that number is read back from its place. -/
theorem recordSurvivesBeingCarried : Obligations.RecordSurvivesBeingCarried := by
  intro fmt op r hg hn hv
  refine ⟨leBytes_length _ _, AccRec.of_bytes ?_ hg⟩
  exact ⟨fun h => (hn h).1, fun h => (hn h).2, fun h => by rwa [if_pos h] at hv, fun h => by rwa [if_neg h] at hv⟩

end Sys2Proof.Machine
end

section
/-! The counted random bits of stochastic rounding. -/

namespace Sys2Proof.Machine

/-! ### The random bits (R172) -/

/-- A word xored with itself shifted right. -/
theorem toNat_xor_shift (z : BitVec 64) (k : Nat) : (z ^^^ (z >>> k)).toNat = z.toNat ^^^ z.toNat / 2 ^ k := by
  rw [BitVec.toNat_xor, BitVec.toNat_ushiftRight, Nat.shiftRight_eq_div_pow]

/-- One round of the recurrence: xor with the word shifted right, then a product. -/
theorem toNat_round (z : BitVec 64) (k : Nat) (c : BitVec 64) :
    ((z ^^^ (z >>> k)) * c).toNat = (z.toNat ^^^ z.toNat / 2 ^ k) * c.toNat % 2 ^ 64 := by
  rw [BitVec.toNat_mul, toNat_xor_shift]

theorem toNat_and_low16 (z : BitVec 64) : (z &&& 0xFFFF).toNat = z.toNat % 65536 :=
  (BitVec.toNat_and _ _).trans (Nat.and_two_pow_sub_one_eq_mod z.toNat 16)

/-- A weighted sum of words is that of the numbers, reduced to the width. -/
theorem toNat_weighted (a b c m n : Nat) :
    (BitVec.ofNat 64 a + BitVec.ofNat 64 b * BitVec.ofNat 64 m + BitVec.ofNat 64 c * BitVec.ofNat 64 n).toNat =
      (a + b * m + c * n) % 2 ^ 64 := by
  rw [← BitVec.ofNat_mul, ← BitVec.ofNat_mul, ← BitVec.ofNat_add, ← BitVec.ofNat_add, BitVec.toNat_ofNat]

/-- The recurrence on words and the one on numbers modulo 2^64 draw the same bits. -/
theorem srBits_eq (seed step x : Nat) :
    let z0 : BitVec 64 := BitVec.ofNat 64 seed + BitVec.ofNat 64 step * 0x9E3779B97F4A7C15 + BitVec.ofNat 64 (x / 4) * 0xD1B54A32D192ED03
    let z1 := (z0 ^^^ (z0 >>> (30 : Nat))) * 0xBF58476D1CE4E5B9
    let z2 := (z1 ^^^ (z1 >>> (27 : Nat))) * 0x94D049BB133111EB
    let z3 := z2 ^^^ (z2 >>> (31 : Nat))
    srBits seed step x = ((z3 >>> (16 * (x % 4))) &&& 0xFFFF).toNat := by
  intro z0 z1 z2 z3
  have start : z0.toNat = (seed + step * 0x9E3779B97F4A7C15 + x / 4 * 0xD1B54A32D192ED03) % 2 ^ 64 := toNat_weighted ..
  have first : z1.toNat = (z0.toNat ^^^ z0.toNat / 2 ^ 30) * 0xBF58476D1CE4E5B9 % 2 ^ 64 := toNat_round z0 30 _
  have second : z2.toNat = (z1.toNat ^^^ z1.toNat / 2 ^ 27) * 0x94D049BB133111EB % 2 ^ 64 := toNat_round z1 27 _
  have third : z3.toNat = z2.toNat ^^^ z2.toNat / 2 ^ 31 := toNat_xor_shift z2 31
  rw [toNat_and_low16, BitVec.toNat_ushiftRight, Nat.shiftRight_eq_div_pow, third, second, first, start, srBits]

theorem State.descStep_current {s : State} {d : RedDesc} (h : bit (RedDesc.w d 5) 48 = true) : s.descStep d = s.sync.step % 2 ^ 48 :=
  if_pos h

theorem State.descStep_value {s : State} {d : RedDesc} (h : bit (RedDesc.w d 5) 48 = false) :
    s.descStep d = bits (RedDesc.w d 6) 0 48 := if_neg (by rw [h]; exact Bool.false_ne_true)

theorem State.descRand_eq {s : State} {d : RedDesc} {n : Nat} (h : s.descStep d = n) (x : Nat) :
    s.descRand d x = srBits (RedDesc.w d 4) n (bits (RedDesc.w d 5) 0 48 + x) := by
  rw [← h]
  rfl

/-- Settles O37: the recurrence of R172 on words, and the seed, step and index that a descriptor gives it. -/
theorem stochasticRoundingBits : Obligations.StochasticRoundingBits :=
  ⟨srBits_eq, fun _ x s => ⟨fun h => s.descRand_eq (s.descStep_value h) x,
    fun h => s.descRand_eq (s.descStep_current h) x⟩⟩

end Sys2Proof.Machine
end

section
/-! The descriptor store, ended collections and combining entries: what the meaning of each of these commands leads to. -/

namespace Sys2Proof.Machine

/-! ### The descriptor commands (R158, R160, R167) -/

/-- A command register of the RED0 page, written by a party with the right to. -/
theorem State.action_red {s : State} {p : Party} (f : State → State) (hr : s.boot.phase = .running)
    (hw : mayWrite p (Page.red 0) = true) : s.action p (Page.red 0) f = .next (f s) :=
  s.action_acts p _ f (by simp [State.released, hr]) rfl (by simp [State.pageUp, State.up_of_running hr]) hw

theorem State.redCode_red (s : State) (c : Nat) : (s.redCode c).red = s.red := rfl

theorem State.root_congr {s t : State} (h : t.red = s.red) (n : Nat) : t.root n = s.root n := by
  unfold State.root
  rw [h]

theorem State.redCode_code (s : State) {c : Nat} (hc : c < 256) :
    (s.redCode c).rd (Page.red 0) Reg.RED_DESC_STATUS.CODE = c :=
  (State.rd_wr_apart _ _ _ (by decide) (by decide)).trans ((State.rd_wr_same _ _ _ _ _ (by decide)).trans (Nat.mod_eq_of_lt hc))

/-- Register `k` of the window: a half of a descriptor's word. -/
def windowWord (d : RedDesc) (k : Nat) : Nat := RedDesc.w d (k / 2) / 2 ^ (32 * (k % 2)) % 2 ^ 32

theorem windowData_at (k : Nat) (hk : k < 16) : Reg.RED_DESC_WINw.DATA.at_ (Page.red 0) k = (Page.red 0).base + 0x100 + k * 4 := by
  unfold Field.at_
  rw [show Reg.RED_DESC_WINw.DATA.n = 16 from rfl, Nat.mod_eq_of_lt hk]
  rfl

theorem State.redCode_window (s : State) (c : Nat) {k : Nat} (hk : k < 16) :
    (s.redCode c).rd (Page.red 0) Reg.RED_DESC_WINw.DATA k = s.rd (Page.red 0) Reg.RED_DESC_WINw.DATA k := by
  have other (f : Field) (hf : f.at_ (Page.red 0) 0 < (Page.red 0).base + 0x100) :
      Reg.RED_DESC_WINw.DATA.at_ (Page.red 0) k ≠ f.at_ (Page.red 0) 0 := by rw [windowData_at k hk]; omega
  exact (State.rd_wr_other _ _ _ _ _ _ _ _ (other _ (by decide))).trans (State.rd_wr_other _ _ _ _ _ _ _ _ (other _ (by decide)))

/-- The state with the first `n` registers of the window written. -/
def State.fillWindow (s : State) (v : Nat → Nat) (n : Nat) : State :=
  (List.range n).foldl (fun s k => s.wr (Page.red 0) Reg.RED_DESC_WINw.DATA (v k) k) s

theorem State.fillWindow_succ (s : State) (v : Nat → Nat) (n : Nat) :
    s.fillWindow v (n + 1) = (s.fillWindow v n).wr (Page.red 0) Reg.RED_DESC_WINw.DATA (v n) n := by
  unfold State.fillWindow
  rw [List.range_succ, List.foldl_append]
  rfl

theorem State.fillWindow_reads (s : State) (v : Nat → Nat) {n k : Nat} (hn : n ≤ 16) (hk : k < n) :
    (s.fillWindow v n).rd (Page.red 0) Reg.RED_DESC_WINw.DATA k = v k % 2 ^ 32 := by
  induction n with
  | zero => omega
  | succ n ih =>
    rw [State.fillWindow_succ]
    rcases Nat.lt_succ_iff_lt_or_eq.1 hk with below | rfl
    · rw [State.rd_wr_other _ _ _ _ _ _ _ _ (by rw [windowData_at k (by omega), windowData_at n (by omega)]; omega), ih (by omega) below]
    · exact State.rd_wr_same _ _ _ _ _ (by decide)

theorem State.fillWindow_red (s : State) (v : Nat → Nat) (n : Nat) : (s.fillWindow v n).red = s.red := by
  induction n with
  | zero => rfl
  | succ n ih => rw [State.fillWindow_succ, State.wr_red, ih]

theorem State.opDescWrite_stores {s : State} (h : s.descCode s.redSel s.redWin = 0) :
    s.opDescWrite = ({ s with red := { s.red with
      desc := SMap.put s.red.desc (List.replicate 8 0) s.redSel s.redWin } } : State).redCode 0 := if_pos h

theorem State.opDescWrite_refuses {s : State} (h : s.descCode s.redSel s.redWin ≠ 0) :
    s.opDescWrite = (s.redCode (s.descCode s.redSel s.redWin)).err (Page.red 0) Err.red.DESC_REFUSED
      { detail := s.descCode s.redSel s.redWin } := if_neg h

theorem State.opDescRead_fills {s : State} (h : s.redSel ≠ 0xFFF) :
    s.opDescRead = (s.fillWindow (windowWord (s.desc s.redSel)) 16).redCode 0 := if_neg h

/-- READ puts the selected entry into the window, with code 0, and leaves the store. -/
theorem State.opDescRead_shows {s : State} (h : s.redSel ≠ 0xFFF) {k : Nat} (hk : k < 16) :
    s.opDescRead.rd (Page.red 0) Reg.RED_DESC_STATUS.CODE = 0 ∧ s.opDescRead.red = s.red ∧
      s.opDescRead.rd (Page.red 0) Reg.RED_DESC_WINw.DATA k = windowWord (s.desc s.redSel) k := by
  rw [State.opDescRead_fills h]
  refine ⟨State.redCode_code _ (by decide), (State.redCode_red _ _).trans (State.fillWindow_red _ _ _), ?_⟩
  rw [State.redCode_window _ _ hk, State.fillWindow_reads _ _ (Nat.le_refl _) hk, windowWord, Nat.mod_mod]

theorem State.opDescInvalidate_clears {s : State} (h : s.redSel ≠ 0xFFF) (hu : s.descInUse s.redSel = false) :
    s.opDescInvalidate = ({ s with red := { s.red with
      desc := SMap.put s.red.desc (List.replicate 8 0) s.redSel
        (BitVec.ofNat 64 (RedDesc.w (s.desc s.redSel) 0 - b2n (RedDesc.valid (s.desc s.redSel))) :: (s.desc s.redSel).drop 1) } } :
      State).redCode 0 := by
  unfold State.opDescInvalidate
  rw [if_neg h, if_neg (by rw [hu]; decide)]

/-- The debts and the stall of the selected root are gone; where none is open, no signal is applied. -/
theorem State.opResetRoot_clears {s : State} (h : s.redSel ≠ 0xFFF) (ho : (s.root s.redSel).open_ = []) :
    (s.opResetRoot.root s.redSel).owe = [] ∧ (s.opResetRoot.root s.redSel).stalled = false ∧
      s.opResetRoot.rd (Page.red 0) Reg.RED_DESC_STATUS.CODE = 0 := by
  unfold State.opResetRoot
  extract_lets n r gone s1 s2
  rw [if_neg h, ho, List.foldl_nil]
  have root : (s2.redCode 0).root n = s1.root n := State.root_congr rfl n
  rw [root, State.root_setRoot, if_pos rfl]
  exact ⟨rfl, rfl, State.redCode_code _ (by decide)⟩

/-! ### Deadlines and finished result writes (R159, R166, R168) -/

theorem execInstanceDeadline_none {s : State} {root index : Nat} (h : RedDesc.deadline (s.desc root) = 0) :
    execInstanceDeadline root index s = .next s := guarded_not _ _ _ (by simp [h])

theorem execInstanceDeadline_ends {s : State} {root index : Nat} {i : RedInst} (hs : s.serving = true)
    (hd : RedDesc.deadline (s.desc root) ≠ 0) (hi : ((s.root root).open_.find? fun i => i.index == index) = some i) :
    execInstanceDeadline root index s =
      .next (((s.failInst root i .incomplete 7).setRoot root { ((s.failInst root i .incomplete 7).root root) with
        owe := ((s.failInst root i .incomplete 7).root root).owe ++ (s.contributors root).filter fun c => !i.got.contains c }).err
          (Page.red 0) Err.red.INCOMPLETE) := by
  unfold execInstanceDeadline
  rw [guarded_of _ _ _ (by simp [hs, hd]), hi]

theorem execResultWriteDone_drops {s : State} {root index : Nat} {i : RedInst} (hm : s.mount = true)
    (hi : ((s.root root).insts.find? fun i => i.index == index && i.writing) = some i) :
    execResultWriteDone root index s = .next ((s.dropInst root index).applyHeldSigs i (if i.recs.any (·.poison) then 1 else 0)) := by
  unfold execResultWriteDone
  rw [guarded_of _ _ _ hm, hi]

/-! ### Combining entries (R203) -/

theorem execCmbFanout_fans {s : State} {k status poison : Nat} {data : List Byte} (hs : s.serving = true) (hp : s.boot.post = true) :
    execCmbFanout k status data poison s = .next (s.opFanout k status data poison) := guarded_of _ _ _ (by rw [hs, hp]; rfl)

theorem State.opFanout_empty {s : State} {k status poison : Nat} {data : List Byte} {e : CmbEntry}
    (he : SMap.find? s.cmb.entries k = some e) (h : e.parts = []) : State.opFanout k status data poison s = s.dropEntry k := by
  unfold State.opFanout
  rw [he]
  simp only [h, List.zipIdx_nil, List.foldl_nil]

theorem State.opFanout_one {s : State} {k status poison port rank tag v : Nat} {data : List Byte} {e : CmbEntry}
    (he : SMap.find? s.cmb.entries k = some e) (h : e.parts = [(port, rank, tag, v)]) :
    State.opFanout k status data poison s =
      (s.dropEntry k).routeFrame (rspFrame e.home e.share rank ((s.dropEntry k).looseHdr 1 e.share rank 1)
        (rspBytes status tag (fanData e status data []))
        (rspMap poison (((rspBytes status tag (fanData e status data [])).length - 16) / 16))) := by
  unfold State.opFanout
  rw [he]
  simp only [h, List.zipIdx_cons, List.zipIdx_nil, List.foldl_cons, List.foldl_nil, List.take_zero, List.map_nil]

theorem execCmbEntryAge_drops {s : State} {k : Nat} (hs : s.serving = true) (hp : s.boot.post = true) :
    execCmbEntryAge k s = .next (s.dropEntry k) := guarded_of _ _ _ (by rw [hs, hp]; rfl)

/-! ### The statement -/

/-- Settles O11: each command's guard holds, and its meaning leads where the lemma about it says. -/
theorem reduceCommandsComplete : Obligations.ReduceCommandsComplete := by
  unfold Obligations.ReduceCommandsComplete
  refine ⟨?write, ?refused, ?read, ?invalidate, ?reset, ?noDeadline, ?deadline, ?written, ?fanNone, ?fanOne, ?age⟩
  case write => exact fun p s hr hw hc => (State.action_red _ hr hw).trans (congrArg _ (State.opDescWrite_stores hc))
  case refused => exact fun p s hr hw hc => (State.action_red _ hr hw).trans (congrArg _ (State.opDescWrite_refuses hc))
  case read => exact fun p k s hr hw hn hk => ⟨_, State.action_red _ hr hw, State.opDescRead_shows hn hk⟩
  case invalidate =>
    exact fun p s hr hw hn hu => (State.action_red _ hr hw).trans (congrArg _ (State.opDescInvalidate_clears hn hu))
  case reset => exact fun p s hr hw hn ho => ⟨_, State.action_red _ hr hw, State.opResetRoot_clears hn ho⟩
  case noDeadline => exact fun root index s _ hd => execInstanceDeadline_none hd
  case deadline => exact fun root index i s hs hd hi => execInstanceDeadline_ends hs hd hi
  case written => exact fun root index i s hm hi => execResultWriteDone_drops hm hi
  case fanNone =>
    exact fun k status data poison e s hs hp he h => (execCmbFanout_fans hs hp).trans (congrArg _ (State.opFanout_empty he h))
  case fanOne =>
    exact fun k status data poison port rank tag v e s hs hp he h =>
      (execCmbFanout_fans hs hp).trans (congrArg _ (State.opFanout_one he h))
  case age => exact fun k s hs hp => execCmbEntryAge_drops hs hp

end Sys2Proof.Machine
end

section
/-! What an atomic writes. -/

namespace Sys2Proof.Machine

variable {w : Nat}

/-- A number below 2^w taken in two's complement is the word's own signed value (R184). -/
theorem signed_toNat (x : BitVec w) : signed x.toNat w = x.toInt := by
  rw [signed_eq_bmod, BitVec.toInt_eq_toNat_bmod]

theorem signed_le_iff_sle (x y : BitVec w) : signed x.toNat w ≤ signed y.toNat w ↔ x.sle y = true := by
  rw [signed_toNat, signed_toNat, BitVec.sle_iff_toInt_le]

/-- Settles O36: the operands are below 2^(8n), so each operator on numbers is the one on words, at any width. -/
theorem atomicOperatorsCompute : Obligations.AtomicOperatorsCompute := by
  intro n m a b _
  have ha : a.toNat % 2 ^ (8 * n) = a.toNat := Nat.mod_eq_of_lt a.isLt
  have hb : b.toNat % 2 ^ (8 * n) = b.toNat := Nat.mod_eq_of_lt b.isLt
  have choose (c : Prop) [Decidable c] (x y : BitVec (8 * n)) : (if c then x else y).toNat = if c then x.toNat else y.toNat :=
    apply_ite BitVec.toNat c x y
  unfold atomNew
  simp only [ha, hb, choose]
  refine ⟨?add, trivial, ?cas, ?smin, ?smax, ?umin, ?umax, ?and, ?or, ?xor⟩
  case add => exact (BitVec.toNat_add m a).symm
  case cas => simp only [BitVec.toNat_inj]
  case smin => simp only [signed_le_iff_sle]
  case smax => simp only [signed_le_iff_sle]
  case umin => simp only [Nat.min_def, BitVec.ule_iff_toNat_le]
  case umax => simp only [Nat.max_def, BitVec.ule_iff_toNat_le]
  case and => exact (BitVec.toNat_and m a).symm
  case or => exact (BitVec.toNat_or m a).symm
  case xor => exact (BitVec.toNat_xor m a).symm

end Sys2Proof.Machine
end

section
/-! Loads, stores and atomics on local memory: an access that nothing holds is performed, and what it answers (R184, R186, R187). -/

namespace Sys2Proof.Machine

/-! ### An access that nothing holds -/

theorem slice_length (l : List Byte) (off n : Nat) : (slice l off n).length = n := by
  induction n generalizing off with
  | zero => rfl
  | succ n ih => rw [slice_succ, List.length_cons, ih]

/-- The right that an access needs (R248): 0 read, 1 write, 2 atomic. -/
def HeldAcc.right (h : HeldAcc) : Nat := if h.op = 1 then 0 else if h.op = 2 then 1 else 2

/-- The bytes that an access covers. -/
def HeldAcc.span (h : HeldAcc) : Nat := if h.op ≤ 2 then h.len else atomBytes h.op

theorem State.herdLine_inactive {s : State} (h : s.rdb Page.coh Reg.COH_STATUS.ACTIVE = false) (l : Nat) : s.herdLine l = false := by
  unfold State.herdLine
  rw [h]
  rfl

/-- What keeps an access from being performed at once: an earlier one to its block, the step, its rights, a re-encryption, the herd. -/
structure HeldAcc.Free (h : HeldAcc) (s : State) : Prop where
  memOpen : s.memOpen = true
  inactive : s.rdb Page.coh Reg.COH_STATUS.ACTIVE = false
  behind : s.behind h = false
  running : h.op = 1 ∨ s.holding = false
  granted : s.checkRange (s.accMaster h) h.right h.off h.span = none
  unheld : s.rangeHeld h.right h.off h.span = false

/-- Outside an active herd no line has to be made ready. -/
theorem State.access_performs {s : State} {h : HeldAcc} (f : h.Free s) : s.access h = s.performAcc h := by
  have lines : h.lines.filter s.herdLine = [] := List.filter_eq_nil_iff.2 fun l _ => by rw [State.herdLine_inactive f.inactive]; decide
  have granted : s.checkRange (s.accMaster h) (if h.op = 1 then 0 else if h.op = 2 then 1 else 2) h.off
    (if h.op ≤ 2 then h.len else atomBytes h.op) = none := f.granted
  have unheld : s.rangeHeld (if h.op = 1 then 0 else if h.op = 2 then 1 else 2) h.off
    (if h.op ≤ 2 then h.len else atomBytes h.op) = false := f.unheld
  unfold State.access
  extract_lets k r
  rw [granted, unheld, f.memOpen]
  have ready : r = (true, s) := by unfold r; rw [lines]; rfl
  rw [ready]
  rfl

theorem State.doAccess_performs {s : State} {h : HeldAcc} (f : h.Free s) : s.doAccess h = s.performAcc h := by
  have runs : (h.writes && s.holding && s.isTx h.off) = false := by
    obtain read | running := f.running
    · simp [HeldAcc.writes, read]
    · simp [running]
  unfold State.doAccess
  rw [f.behind, runs]
  exact State.access_performs f

/-! ### What it answers -/

/-- A granted read without poison. -/
theorem State.readAs_clean {s : State} {m : Master} {off len : Nat} (granted : s.checkRange m 0 off len = none)
    (clean : (s.readRange 0 off len).2.1 = 0) :
    s.readAs m off len = ⟨St.OK, (s.readRange 0 off len).1, 0, (s.readRange 0 off len).2.2.countBytes m 8 len⟩ := by
  unfold State.readAs
  rw [granted]
  simp only [clean, if_true]

/-- A granted write of whole bytes that no poison refuses. -/
theorem State.writeStrobed_whole {s : State} {m : Master} {off strb : Nat} {data : List Byte}
    (granted : s.checkRange m 1 off data.length = none) (strobes : ((List.range data.length).all fun i => bit strb i) = true)
    (done : (s.writeRange 1 off data 0 false).1 = true) :
    s.writeStrobed m off data strb = ⟨St.OK, [], 0, (s.writeRange 1 off data 0 false).2.countBytes m 9 data.length⟩ := by
  unfold State.writeStrobed State.writeAs
  rw [granted]
  simp only [strobes, done, if_true]

/-- A granted atomic on a word that no poison refuses. -/
theorem State.atomicAs_done {s : State} {m : Master} {off n code a b : Nat} (granted : s.checkRange m 2 off n = none)
    {w : Bool × State} (write : s.writePhys (s.mapTx 2 off) (leBytes n (atomNew code n (s.word (s.mapTx 2 off) n) a b)) 0 false = w)
    (done : w.1 = true) :
    s.atomicAs m off n code a b = ⟨St.OK, leBytes n (s.word (s.mapTx 2 off) n), 0, (w.2.countBytes m 8 n).countBytes m 9 n⟩ := by
  unfold State.atomicAs
  rw [granted]
  simp only [write, done, if_true]

theorem State.performAcc_load {s : State} {h : HeldAcc} {a : Answer} (op : h.op = 1)
    (read : s.readAs (s.accMaster h) h.off h.len = a) (ok : a.status = St.OK) :
    s.performAcc h = (a.st.countHome h.reply St.OK).answer h.reply St.OK a.data a.poison := by
  unfold State.performAcc
  simp only [op, read, ok]
  rfl

theorem State.performAcc_store {s : State} {h : HeldAcc} {a : Answer} (op : h.op = 2)
    (write : s.writeStrobed (s.accMaster h) h.off h.data h.strb = a) (ok : a.status = St.OK) :
    s.performAcc h = (a.st.dropLost.countHome h.reply St.OK).answer h.reply St.OK [] a.poison := by
  unfold State.performAcc
  simp only [op, write, ok]
  rfl

theorem State.performAcc_atomic {s : State} {h : HeldAcc} {a : Answer} (op : 2 < h.op)
    (change : s.atomicAs (s.accMaster h) h.off (atomBytes h.op) (h.op % 16) h.opnd0 h.opnd1 = a) (ok : a.status = St.OK) :
    s.performAcc h = (a.st.dropLost.countHome h.reply St.OK).answer h.reply St.OK
      (if returnsOld h.op h.fetch then slice a.data 0 8 else []) a.poison := by
  have load : h.op ≠ 1 := by omega
  have store : h.op ≠ 2 := by omega
  unfold State.performAcc
  split
  · contradiction
  · contradiction
  · simp only [load, store, change, ok, if_false]
    simp

end Sys2Proof.Machine
end

section
/-! Requests at the compute ports: where each goes and what it answers. -/

namespace Sys2Proof.Machine

/-! ### Codes of atomics (R184) -/

theorem atomBytes_atomCode {k : Nat} (hk : k < 10) (four : Bool) : atomBytes (atomCode k four) = if four then 4 else 8 := by
  unfold atomBytes atomCode
  cases four
  · exact if_neg (by simp; omega)
  · exact if_pos (by simp; omega)

theorem atomCode_mod {k : Nat} (hk : k < 10) (four : Bool) : atomCode k four % 16 = k := by
  unfold atomCode
  cases four <;> simp <;> omega

theorem two_lt_atomCode (k : Nat) (four : Bool) : 2 < atomCode k four := by
  unfold atomCode
  cases four <;> simp <;> omega

theorem HeldAcc.right_load {h : HeldAcc} (op : h.op = 1) : h.right = 0 := if_pos op

theorem HeldAcc.right_store {h : HeldAcc} (op : h.op = 2) : h.right = 1 := by
  unfold HeldAcc.right
  rw [if_neg (by omega), if_pos op]

theorem HeldAcc.right_atomic {h : HeldAcc} (op : 2 < h.op) : h.right = 2 := by
  unfold HeldAcc.right
  rw [if_neg (by omega), if_neg (by omega)]

theorem HeldAcc.span_atomic {h : HeldAcc} (op : 2 < h.op) : h.span = atomBytes h.op := if_neg (by omega)

/-! ### Acceptance -/

variable {s : State} {r : DcpReq}

/-- A ready request of the current generation acts. -/
theorem State.dcp_acts {f : State → State} {t : State} (ready : s.reqReady r = true) (gen : r.gen = s.rd Page.fe Reg.FE_GEN.GEN)
    (acts : f s = t) : s.dcp r f = .next t := by
  unfold State.dcp
  rw [guarded_of _ _ _ ready, if_pos gen, acts]

theorem State.memOpen_of_reqReady (ready : s.reqReady r = true) : s.memOpen = true := by
  simp only [State.reqReady, Bool.and_eq_true] at ready
  tauto

theorem State.computeReset_of_reqReady (ready : s.reqReady r = true) : s.computeReset = false := by
  simp only [State.reqReady, Bool.and_eq_true, Bool.not_eq_true'] at ready
  tauto

/-! ### Accesses to local memory -/

/-- The access that a request to local memory makes. -/
def dcpAcc (r : DcpReq) (op off : Nat) : HeldAcc where
  cls := dcpClass r
  fn := 0
  ctx := r.ctx
  share := 0
  rank := 0
  off := off
  op := op
  len := if op ≤ 2 then dcpLen r else 0
  data := slice r.wdata 0 (dcpLen r)
  strb := r.wstrb
  opnd0 := dcpOpnd0 r
  opnd1 := dcpOpnd1 r
  fetch := dcpFetch r
  reply := dcpReply r

theorem State.dcpAccess_here {op off : Nat} (here : s.dest r.addr = .here off)
    (shape : shapeStatus op r.addr (if op ≤ 2 then dcpLen r else atomBytes op) = 0) :
    s.dcpAccess r op = s.doAccess (dcpAcc r op off) := by
  unfold State.dcpAccess
  simp only [here, shape]
  rfl

/-- A request of the compute waits behind no other: the order of R188 is that of remote requests. -/
theorem State.behind_dcpAcc (op off : Nat) : s.behind (dcpAcc r op off) = false := List.any_eq_false.2 fun _ _ => by
  simp [HeldAcc.sameBlock, dcpAcc, dcpReply]

theorem State.accMaster_dcpAcc (cls : dcpClass r ≠ 0) (op off : Nat) :
    s.accMaster (dcpAcc r op off) = { cls := dcpClass r, fn := 0, share := 0, rank := 0 } := if_neg cls

theorem dcpAcc_span (op off : Nat) : (dcpAcc r op off).span = if op ≤ 2 then dcpLen r else atomBytes op := by
  unfold HeldAcc.span dcpAcc
  by_cases h : op ≤ 2
  · simp only [h, if_true]
  · simp only [h, if_false]

/-- The answer to a request stands at its port: the counts of R205 are those of other ranks' requests. -/
theorem State.answer_dcpAcc (t : State) (op off status : Nat) (data : List Byte) (poison : Nat) :
    (t.countHome (dcpAcc r op off).reply status).answer (dcpAcc r op off).reply status data poison =
      t.dcpAnswer r.port r.tag r.gen status data poison := rfl

/-- What a free access of a request does is what it answers with. -/
theorem State.dcpAccess_performs {op off k len : Nat} (size : (if op ≤ 2 then dcpLen r else atomBytes op) = len)
    (right : (dcpAcc r op off).right = k) (here : s.dest r.addr = .here off) (shape : shapeStatus op r.addr len = 0)
    (ready : s.reqReady r = true) (inactive : s.rdb Page.coh Reg.COH_STATUS.ACTIVE = false) (running : op = 1 ∨ s.holding = false)
    (granted : s.checkRange (s.accMaster (dcpAcc r op off)) k off len = none) (unheld : s.rangeHeld k off len = false) :
    s.dcpAccess r op = s.performAcc (dcpAcc r op off) := by
  have span := (dcpAcc_span (r := r) op off).trans size
  subst size right
  exact (State.dcpAccess_here here shape).trans (State.doAccess_performs
    ⟨State.memOpen_of_reqReady ready, inactive, State.behind_dcpAcc op off, running, by rw [span]; exact granted, by rw [span]; exact unheld⟩)

theorem State.dcpAccess_load {off : Nat} {m : Master} (here : s.dest r.addr = .here off) (shape : shapeStatus 1 r.addr (dcpLen r) = 0)
    (ready : s.reqReady r = true) (inactive : s.rdb Page.coh Reg.COH_STATUS.ACTIVE = false)
    (master : s.accMaster (dcpAcc r 1 off) = m) (granted : s.checkRange m 0 off (dcpLen r) = none)
    (unheld : s.rangeHeld 0 off (dcpLen r) = false) (clean : (s.readRange 0 off (dcpLen r)).2.1 = 0) :
    s.dcpAccess r 1 = ((s.readRange 0 off (dcpLen r)).2.2.countBytes m 8 (dcpLen r)).dcpAnswer r.port r.tag r.gen St.OK
      (s.readRange 0 off (dcpLen r)).1 0 := by
  subst master
  have performed : s.dcpAccess r 1 = s.performAcc (dcpAcc r 1 off) :=
    State.dcpAccess_performs (if_pos (by decide)) (HeldAcc.right_load rfl) here shape ready inactive (.inl rfl) granted unheld
  have len : (dcpAcc r 1 off).len = dcpLen r := by simp [dcpAcc]
  have answered := State.performAcc_load (h := dcpAcc r 1 off) rfl (State.readAs_clean (by rwa [len]) (by rwa [len])) rfl
  rwa [State.answer_dcpAcc, len, ← performed] at answered

theorem State.dcpAccess_store {off : Nat} {m : Master} (here : s.dest r.addr = .here off) (shape : shapeStatus 2 r.addr (dcpLen r) = 0)
    (ready : s.reqReady r = true) (inactive : s.rdb Page.coh Reg.COH_STATUS.ACTIVE = false) (running : s.holding = false)
    (master : s.accMaster (dcpAcc r 2 off) = m) (granted : s.checkRange m 1 off (dcpLen r) = none)
    (unheld : s.rangeHeld 1 off (dcpLen r) = false) (strobes : ((List.range (dcpLen r)).all fun i => bit r.wstrb i) = true)
    (done : (s.writeRange 1 off (slice r.wdata 0 (dcpLen r)) 0 false).1 = true) :
    s.dcpAccess r 2 = ((s.writeRange 1 off (slice r.wdata 0 (dcpLen r)) 0 false).2.countBytes m 9 (dcpLen r)).dropLost.dcpAnswer
      r.port r.tag r.gen St.OK [] 0 := by
  subst master
  have performed : s.dcpAccess r 2 = s.performAcc (dcpAcc r 2 off) :=
    State.dcpAccess_performs (if_pos (by decide)) (HeldAcc.right_store rfl) here shape ready inactive (.inr running) granted unheld
  have len : (dcpAcc r 2 off).data.length = dcpLen r := slice_length _ _ _
  have answered := State.performAcc_store (h := dcpAcc r 2 off) rfl (State.writeStrobed_whole (by rwa [len]) (by rwa [len]) done) rfl
  rwa [State.answer_dcpAcc, len, ← performed] at answered

/-- The atomic `k` of R184 on a word of 4 or 8 bytes. -/
theorem State.dcpAccess_atomic {off n k : Nat} {four : Bool} {m : Master} {w : Bool × State} (hk : k < 10)
    (size : (if four then 4 else 8) = n) (here : s.dest r.addr = .here off) (shape : r.addr % n = 0)
    (ready : s.reqReady r = true) (inactive : s.rdb Page.coh Reg.COH_STATUS.ACTIVE = false) (running : s.holding = false)
    (master : s.accMaster (dcpAcc r (atomCode k four) off) = m) (granted : s.checkRange m 2 off n = none)
    (unheld : s.rangeHeld 2 off n = false)
    (write : s.writePhys (s.mapTx 2 off) (leBytes n (atomNew k n (s.word (s.mapTx 2 off) n) (dcpOpnd0 r) (dcpOpnd1 r))) 0 false = w)
    (done : w.1 = true) :
    s.dcpAccess r (atomCode k four) = ((w.2.countBytes m 8 n).countBytes m 9 n).dropLost.dcpAnswer r.port r.tag r.gen St.OK
      (if returnsOld (atomCode k four) (dcpFetch r) then slice (leBytes n (s.word (s.mapTx 2 off) n)) 0 8 else []) 0 := by
  have code := two_lt_atomCode k four
  have bytes : atomBytes (atomCode k four) = n := (atomBytes_atomCode hk four).trans size
  have aligned : shapeStatus (atomCode k four) r.addr n = 0 := by
    unfold shapeStatus
    rw [if_neg (Nat.not_le.2 code), bytes, if_neg (not_not_intro shape)]
  subst master
  rw [State.dcpAccess_performs ((if_neg (Nat.not_le.2 code)).trans bytes) (HeldAcc.right_atomic code) here aligned ready inactive
    (.inr running) granted unheld]
  refine State.performAcc_atomic code (a := ⟨_, _, _, _⟩) ?_ rfl
  show s.atomicAs _ off (atomBytes (atomCode k four)) (atomCode k four % 16) (dcpOpnd0 r) (dcpOpnd1 r) = _
  rw [bytes, atomCode_mod hk]
  exact State.atomicAs_done granted write done

/-! ### Coherent requests to another home (R195, R483) -/

/-- A coherent request to another member of the herd is sent under a fresh identifier. -/
theorem State.dcpCoh_sends {dst off k : Nat} (cm : Nat) (atHome : Nat → Nat → State → State) (far : s.dest (r.addr / 64 * 64) = .far dst off)
    (member : s.herdSlot dst = some k) (gait : s.mute = false) :
    s.dcpCoh r cm atHome = (s.openCoh r).2.sendCoh dst (s.dcpShare r) cm false s.coh.nextReq (r.addr / 64 * 64)
      (if cm = Cm.WB then slice r.wdata 0 64 else []) := by
  unfold State.dcpCoh
  simp only [far, member, gait]
  rfl

theorem State.opDcpEvs_sends {dst off k : Nat} (far : s.dest (r.addr / 64 * 64) = .far dst off) (member : s.herdSlot dst = some k)
    (gait : s.mute = false) :
    State.opDcpEvs r s = (s.sendCoh dst (s.dcpShare r) Cm.EVS false 0 (r.addr / 64 * 64) []).dcpDone r St.OK := by
  unfold State.opDcpEvs
  simp only [far, member, gait]
  rfl

theorem State.opTokenPass_here {off : Nat} (here : s.dest r.addr = .here off) :
    State.opTokenPass r s = (s.passToken (s.dcpMaster r) (s.selfRank.getD 32768) r.addr (dcpOpnd0 r)).2.dcpDone r
      (s.passToken (s.dcpMaster r) (s.selfRank.getD 32768) r.addr (dcpOpnd0 r)).1 := by
  unfold State.opTokenPass
  rw [here]

/-! ### The statement -/

/-- Settles O13: an accepted request does what the lemma about its kind says. -/
theorem computePortCommandsComplete : Obligations.ComputePortCommandsComplete := by
  unfold Obligations.ComputePortCommandsComplete
  refine ⟨?load, ?store, ?atomic, ?token, ?coherent, ?unsupported⟩
  case load =>
    exact fun r off s ready gen here shape inactive cls granted unheld clean => State.dcp_acts (f := fun s => s.dcpAccess r 1) ready gen
      (State.dcpAccess_load here shape ready inactive (State.accMaster_dcpAcc cls 1 off) granted unheld clean)
  case store =>
    exact fun r off s ready gen here shape inactive running granted unheld strobes done => State.dcp_acts (f := fun s => s.dcpAccess r 2) ready gen
      (State.dcpAccess_store here shape ready inactive running rfl granted unheld strobes done)
  case atomic =>
    intro r four off s ready gen here shape inactive running cls m n phys old w T granted unheld done
    have atomic (k : Nat) (hk : k < 10) : s.dcp r (fun s => s.dcpAccess r (atomCode k four)) = .next (T k) :=
      State.dcp_acts ready gen (State.dcpAccess_atomic hk rfl here shape ready inactive running
        (State.accMaster_dcpAcc cls _ off) granted unheld rfl (done k hk))
    exact ⟨atomic 0 (by decide), atomic 1 (by decide), atomic 2 (by decide), atomic 3 (by decide), atomic 4 (by decide),
      atomic 5 (by decide), atomic 6 (by decide), atomic 7 (by decide), atomic 8 (by decide), atomic 9 (by decide)⟩
  case token => exact fun r off s ready gen here => State.dcp_acts ready gen (State.opTokenPass_here here)
  case coherent =>
    intro r dst off k s ready gen far member gait u
    have sends (cm : Nat) (atHome : Nat → Nat → State → State) : s.dcp r (fun s => s.dcpCoh r cm atHome) = .next
        (u.sendCoh dst (s.dcpShare r) cm false s.coh.nextReq (r.addr / 64 * 64) (if cm = Cm.WB then slice r.wdata 0 64 else [])) :=
      State.dcp_acts ready gen (State.dcpCoh_sends cm atHome far member gait)
    exact ⟨sends Cm.RD_S _, sends Cm.RD_M _, sends Cm.UPG _, sends Cm.WB _,
      State.dcp_acts ready gen (State.opDcpEvs_sends far member gait)⟩
  case unsupported =>
    exact fun r op s ready gen => State.dcp_acts (f := fun s => s.dcpDone r St.UNSUPPORTED) ready gen
      (if_pos ⟨gen, by rw [State.computeReset_of_reqReady ready]; rfl⟩)

end Sys2Proof.Machine
end

section
/-! Request records at their home, and responses, timeouts and drains at their requester. -/

namespace Sys2Proof.Machine

variable {s : State} {r : RmtRec}

/-! ### At the home (R184, R185, R187) -/

theorem HeldAcc.span_range {h : HeldAcc} (op : h.op ≤ 2) : h.span = h.len := if_pos op


/-- A record whose address and shape pass asks for its access. -/
theorem State.homeReq_accesses {op off : Nat} (here : s.localOff r.addr = some off) (opened : s.memOpen = true) (cap : off < s.capacity)
    (shape : shapeStatus op off r.len = 0) : s.homeReq op r = s.doAccess (homeAcc op off r) := by
  unfold State.homeReq
  simp only [here, opened, shape, decide_eq_false (Nat.not_le.2 cap)]
  rfl

theorem State.homeReq_performs {op off k len : Nat} (right : (homeAcc op off r).right = k) (span : (homeAcc op off r).span = len)
    (here : s.localOff r.addr = some off) (opened : s.memOpen = true) (cap : off < s.capacity) (shape : shapeStatus op off r.len = 0)
    (inactive : s.rdb Page.coh Reg.COH_STATUS.ACTIVE = false) (running : op = 1 ∨ s.holding = false)
    (granted : s.checkRange (Master.remote r.src r.share) k off len = none) (unheld : s.rangeHeld k off len = false)
    (behind : s.behind (homeAcc op off r) = false) : s.homeReq op r = s.performAcc (homeAcc op off r) := by
  subst right span
  exact (State.homeReq_accesses here opened cap shape).trans
    (State.doAccess_performs ⟨opened, inactive, behind, running, granted, unheld⟩)

theorem State.homeReq_load {off : Nat} {m : Master} (here : s.localOff r.addr = some off) (opened : s.memOpen = true)
    (cap : off < s.capacity) (shape : shapeStatus 1 off r.len = 0) (inactive : s.rdb Page.coh Reg.COH_STATUS.ACTIVE = false)
    (master : m = Master.remote r.src r.share) (granted : s.checkRange m 0 off r.len = none) (unheld : s.rangeHeld 0 off r.len = false)
    (behind : s.behind (homeAcc 1 off r) = false) (clean : (s.readRange 0 off r.len).2.1 = 0) :
    s.homeReq 1 r = ((((s.readRange 0 off r.len).2.2.countBytes m 8 r.len).countHome (.rmt r.src r.tag r.port r.share) St.OK).answer
      (.rmt r.src r.tag r.port r.share) St.OK (s.readRange 0 off r.len).1 0) := by
  subst master
  have performed : s.homeReq 1 r = s.performAcc (homeAcc 1 off r) :=
    State.homeReq_performs (HeldAcc.right_load rfl) (HeldAcc.span_range (Nat.le_succ 1)) here opened cap shape inactive (.inl rfl) granted unheld behind
  have answered := State.performAcc_load (h := homeAcc 1 off r) rfl (State.readAs_clean granted clean) rfl
  exact performed.trans answered

/-- The bytes of a record are all written (R185). -/
theorem all_strobes (n : Nat) : ((List.range n).all fun i => bit (2 ^ n - 1) i) = true := by
  refine List.all_eq_true.2 fun i hi => ?_
  have below : (2 ^ n - 1).testBit i = true := by rw [Nat.testBit_two_pow_sub_one]; simpa using hi
  rw [Nat.testBit_eq_decide_div_mod_eq] at below
  simpa [bit] using below

theorem State.homeReq_store {off : Nat} {m : Master} (here : s.localOff r.addr = some off) (opened : s.memOpen = true)
    (cap : off < s.capacity) (shape : shapeStatus 2 off r.len = 0) (inactive : s.rdb Page.coh Reg.COH_STATUS.ACTIVE = false)
    (running : s.holding = false) (master : m = Master.remote r.src r.share) (granted : s.checkRange m 1 off r.len = none)
    (unheld : s.rangeHeld 1 off r.len = false) (behind : s.behind (homeAcc 2 off r) = false)
    (done : (s.writeRange 1 off (slice r.data 0 r.len) 0 false).1 = true) :
    s.homeReq 2 r = (((s.writeRange 1 off (slice r.data 0 r.len) 0 false).2.countBytes m 9 r.len).dropLost.countHome
      (.rmt r.src r.tag r.port r.share) St.OK).answer (.rmt r.src r.tag r.port r.share) St.OK [] 0 := by
  subst master
  have performed : s.homeReq 2 r = s.performAcc (homeAcc 2 off r) :=
    State.homeReq_performs (HeldAcc.right_store rfl) (HeldAcc.span_range (Nat.le_refl 2)) here opened cap shape inactive (.inr running) granted unheld behind
  have len : (slice r.data 0 r.len).length = r.len := slice_length _ _ _
  have written := State.writeStrobed_whole (s := s) (m := Master.remote r.src r.share) (off := off) (data := slice r.data 0 r.len)
    (strb := 2 ^ r.len - 1) (by rwa [len]) (by rw [len]; exact all_strobes _) done
  rw [len] at written
  have answered := State.performAcc_store (h := homeAcc 2 off r) rfl written rfl
  exact performed.trans answered

/-- The atomic `k` of R184 on a word of 4 or 8 bytes. -/
theorem State.homeReq_atomic {off n k : Nat} {four : Bool} {m : Master} {w : Bool × State} (hk : k < 10)
    (size : (if four then 4 else 8) = n) (here : s.localOff r.addr = some off) (opened : s.memOpen = true) (cap : off < s.capacity)
    (shape : off % n = 0) (inactive : s.rdb Page.coh Reg.COH_STATUS.ACTIVE = false) (running : s.holding = false)
    (master : m = Master.remote r.src r.share) (granted : s.checkRange m 2 off n = none) (unheld : s.rangeHeld 2 off n = false)
    (behind : s.behind (homeAcc (atomCode k four) off r) = false)
    (write : s.writePhys (s.mapTx 2 off)
      (leBytes n (atomNew k n (s.word (s.mapTx 2 off) n) r.opnd0.toNat r.opnd1.toNat)) 0 false = w) (done : w.1 = true) :
    s.homeReq (atomCode k four) r = ((((w.2.countBytes m 8 n).countBytes m 9 n).dropLost.countHome (.rmt r.src r.tag r.port r.share) St.OK).answer
      (.rmt r.src r.tag r.port r.share) St.OK
      (if returnsOld (atomCode k four) r.fetch then slice (leBytes n (s.word (s.mapTx 2 off) n)) 0 8 else []) 0) := by
  subst master
  have code := two_lt_atomCode k four
  have bytes : atomBytes (atomCode k four) = n := (atomBytes_atomCode hk four).trans size
  have aligned : shapeStatus (atomCode k four) off r.len = 0 := by
    unfold shapeStatus
    rw [if_neg (Nat.not_le.2 code), bytes, if_neg (not_not_intro shape)]
  have performed : s.homeReq (atomCode k four) r = s.performAcc (homeAcc (atomCode k four) off r) :=
    State.homeReq_performs (HeldAcc.right_atomic code) ((HeldAcc.span_atomic code).trans bytes) here opened cap aligned inactive
      (.inr running) granted unheld behind
  rw [performed]
  refine State.performAcc_atomic code (a := ⟨_, _, _, _⟩) ?_ rfl
  show s.atomicAs _ off (atomBytes (atomCode k four)) (atomCode k four % 16) r.opnd0.toNat r.opnd1.toNat = _
  rw [bytes, atomCode_mod hk]
  exact State.atomicAs_done granted write done

/-! ### Ownership tokens (R201) -/

/-- The owner passes its token under the generation in force: the new owner, the next generation. -/
theorem State.giveToken_passes {n own opnd0 g : Nat} (owner : s.rd Page.gw Reg.GW_TOKENn.OWNER n = own)
    (gen : s.rd Page.gw Reg.GW_TOKENn.GEN n = g) (named : bits opnd0 16 16 = g) (rank : bits opnd0 0 15 < 24576) :
    (s.giveToken n own opnd0).1 = St.OK ∧ (s.giveToken n own opnd0).2.rd Page.gw Reg.GW_TOKENn.OWNER n = bits opnd0 0 15 ∧
      (s.giveToken n own opnd0).2.rd Page.gw Reg.GW_TOKENn.GEN n = (g + 1) % 65536 := by
  subst gen
  have same : Reg.GW_TOKENn.OWNER.at_ Page.gw n = Reg.GW_TOKENn.GEN.at_ Page.gw n := rfl
  unfold State.giveToken
  extract_lets p g
  rw [if_pos ⟨owner, named, rank⟩]
  refine ⟨rfl, ?_, ?_⟩ <;> dsimp only
  · rw [State.rd_wr_field _ _ _ _ _ _ _ (by decide) (.inr (by decide)) same, State.rd_wr_same _ _ _ _ _ (by decide)]
    exact Nat.mod_eq_of_lt (bits_lt _ _ _)
  · rw [State.rd_wr_same _ _ _ _ _ (by decide)]
    exact Nat.mod_mod _ _

/-- A pass with the right of an atomic is one of the token of the entry that holds the address. -/
theorem State.passToken_gives {m : Master} {rank addr opnd0 off n : Nat} {e : RatEntry} (here : s.localOff addr = some off)
    (granted : s.checkAt m 2 off = none) (entry : s.ratFind off = some (n, e)) :
    s.passToken m rank addr opnd0 = s.giveToken n rank opnd0 := by
  unfold State.passToken
  simp only [here, granted, entry]
  rfl

/-! ### At the requester (R186, R189, R190) -/

/-- The response to a load ends its request with the bytes it carries. -/
theorem State.opRsp_load {src tag poison : Nat} {data : List Byte} {q : RmtReq}
    (open_ : (s.fab.reqs.find? fun r => r.sent && r.tag == tag && r.dst == src) = some q) (op : q.op = 1) :
    State.opRsp src tag St.OK data poison s =
      (s.addCtr q.ctx 11 (slice data 0 q.len).length).endReq q St.OK (slice data 0 q.len) poison := by
  unfold State.opRsp
  simp only [open_, op]
  rfl

theorem State.opRemoteTimeout_ends {tag : Nat} {q : RmtReq}
    (open_ : (s.fab.reqs.find? fun r => r.sent && r.tag == tag) = some q) {u : State}
    (counted : u = (s.inc Page.gw Reg.GW_TIMEOUT_COUNT.COUNT).err Page.gw Err.gw.RMT_TIMEOUT { ctx := some q.ctx, fn := q.fn }) :
    State.opRemoteTimeout tag s =
      ({ u with fab := { u.fab with quarantine := u.fab.quarantine ++ [tag] } } : State).endReq q St.NO_RESPONSE [] 0 := by
  subst counted
  unfold State.opRemoteTimeout
  rw [open_]

theorem execTagQuarantineEnd_frees {tag : Nat} (mount : s.mount = true) : execTagQuarantineEnd tag s =
    .next { s with fab := { s.fab with quarantine := s.fab.quarantine.filter (· != tag) } } := guarded_of _ _ _ mount

theorem execDrainComplete_stops (mount : s.mount = true) (draining : s.fab.draining = true) (out : s.outReqs = []) :
    execDrainComplete s = .next ({ s with fab := { s.fab with draining := false } } : State).releaseReqs :=
  guarded_of _ _ _ (by rw [mount, draining, out]; rfl)

/-! ### The statement -/

/-- Settles O14: each command's guard holds, and its meaning leads where the lemma about it says. -/
theorem remoteCommandsComplete : Obligations.RemoteCommandsComplete := by
  unfold Obligations.RemoteCommandsComplete
  refine ⟨?load, ?store, ?atomic, ?token, ?passed, ?unknown, ?response, ?timeout, ?quarantine, ?planes, ?drained⟩
  case load =>
    exact fun r off s mount here opened cap shape inactive granted unheld behind clean =>
      (guarded_of _ _ (fun s => s.homeReq 1 r) mount).trans (congrArg _
      (State.homeReq_load here opened cap shape inactive rfl granted unheld behind clean))
  case store =>
    exact fun r off s mount here opened cap shape inactive running granted unheld behind done =>
      (guarded_of _ _ (fun s => s.homeReq 2 r) mount).trans (congrArg _ (State.homeReq_store here opened cap shape inactive running rfl granted unheld behind done))
  case atomic =>
    intro r four off s mount here opened cap shape inactive running m n phys old w T granted unheld behind done
    have atomic (k : Nat) (hk : k < 10) : guarded s.mount s (fun s => s.homeReq (atomCode k four) r) = .next (T k) :=
      (guarded_of _ _ _ mount).trans (congrArg _ (State.homeReq_atomic hk rfl here opened cap shape inactive running rfl granted unheld
        (behind k hk) rfl (done k hk)))
    exact ⟨atomic 0 (by decide), atomic 1 (by decide), atomic 2 (by decide), atomic 3 (by decide), atomic 4 (by decide),
      atomic 5 (by decide), atomic 6 (by decide), atomic 7 (by decide), atomic 8 (by decide), atomic 9 (by decide)⟩
  case token => exact fun r s mount => guarded_of _ _ (fun s => s.homeToken r) mount
  case passed =>
    intro r off n g e s here granted entry owner gen named rank _ x
    have gives : x = s.giveToken n r.src r.opnd0.toNat := State.passToken_gives here granted entry
    rw [gives]
    exact State.giveToken_passes owner gen named rank
  case unknown => exact fun r op s mount => guarded_of _ _ (fun s => s.homeUnknown r) mount
  case response =>
    exact fun src tag poison data r s mount open_ op => (guarded_of _ _ _ mount).trans (congrArg _ (State.opRsp_load open_ op))
  case timeout =>
    exact fun tag r s mount open_ => (guarded_of _ _ _ mount).trans (congrArg _ (State.opRemoteTimeout_ends open_ rfl))
  case quarantine => exact fun tag s mount => execTagQuarantineEnd_frees mount
  case planes => exact fun s mount changed => (guarded_of _ _ _ mount).trans (congrArg _ (if_neg changed))
  case drained => exact fun s mount draining out => execDrainComplete_stops mount draining out

end Sys2Proof.Machine
end

section
/-! Gateway streams at their destination and at their source. -/

namespace Sys2Proof.Machine

variable {s : State} {r : GwRec} {k : Nat}

/-! ### The entry of a stream -/

@[simp] theorem State.gwDst_setDst_same (s : State) (k : Nat) (x : GwDst) : (s.setDst k x).gwDst k = some x :=
  (SMap.find?_set s.fab.dsts k k x).trans (if_pos rfl)

theorem State.localOff_congr {t : State} (boot : t.boot = s.boot) (trust : t.trust = s.trust) (a : Nat) : t.localOff a = s.localOff a := by
  unfold State.localOff State.dest State.selfRank
  rw [boot, trust]

theorem State.localOff_setDst (s : State) (k : Nat) (x : GwDst) (a : Nat) : (s.setDst k x).localOff a = s.localOff a :=
  State.localOff_congr rfl rfl a

/-! ### At the destination (R192 to R194) -/

/-- A new record within the window joins those held at its stream, and what can be performed there is. -/
theorem State.opBulk_joins {bop : Nat} {x : GwDst} (entry : s.enterDst r = .inl (some x)) (new : x.isDone r.sseq = false)
    (window : r.sseq < x.next + 256) (fresh : (x.held.any fun h => h.1 == bop && h.2.sseq == r.sseq && h.2.off == r.off) = false) :
    State.opBulk bop r s =
      (s.setDst (streamKey r.src r.ctx) { x with held := x.held ++ [(bop, r)] }).gwGoAt (streamKey r.src r.ctx) := by
  unfold State.opBulk
  simp only [entry, new, Nat.not_le.2 window, fresh]
  rfl

/-- A record that has joined, whose turn has come and whose memory is ready is performed, and held no longer. -/
theorem State.gwTry_performs {bop : Nat} {x : GwDst} {t : State} (turn : x.turn bop r = true)
    (acts : (s.setDst k { x with held := x.held ++ [(bop, r)] }).doBulk bop r = (true, t)) :
    (s.setDst k { x with held := x.held ++ [(bop, r)] }).gwTry k (bop, r) = t.unhold k (bop, r) := by
  have dst := s.gwDst_setDst_same k { x with held := x.held ++ [(bop, r)] }
  have turns : ({ x with held := x.held ++ [(bop, r)] } : GwDst).turn bop r = true := turn
  have holds : ((s.setDst k { x with held := x.held ++ [(bop, r)] }).gwHolds k).contains (bop, r) = true := by
    unfold State.gwHolds
    rw [dst]
    exact List.contains_iff_mem.2 (List.mem_concat_self ..)
  unfold State.gwTry
  rw [dst, holds, acts]
  simp only [Option.map_some, Option.getD_some, turns]
  rfl

/-- A put fragment that is new at its stream is written, and counts towards its acknowledgement. -/
theorem State.putFrag_writes {x : GwDst} {off : Nat} {g : Bool × State} {a : Answer} (dst : s.gwDst (streamKey r.src r.ctx) = some x)
    (new : SMap.getD x.frags [] r.sseq = []) (here : s.localOff r.addr = some off) (memory : s.gwReady off r.data.length true = g)
    (ready : g.1 = true) (write : g.2.writeAs (Master.remote r.src r.share) off r.data r.poison = a) (ok : a.status = 0) :
    s.putFrag r = (true, a.st.dropLost.putDone r 0) := by
  unfold State.putFrag State.putWrite
  rw [dst]
  simp only [Option.map_some, Option.getD_some, new, here, memory, ready, write, ok]
  rfl

theorem State.getFrags_sends {off : Nat} {g : Bool × State} {a : Answer} (here : s.localOff r.addr = some off)
    (memory : s.gwReady off r.total false = g) (ready : g.1 = true)
    (read : g.2.readAs (Master.remote r.src r.share) off r.total = a) (ok : a.status = St.OK) :
    s.getFrags r = (true, (a.st.sendGot r a.data a.poison).gwDone (streamKey r.src r.ctx) r.sseq 0 0 none false) := by
  unfold State.getFrags
  simp only [here, memory, ready, read, ok]
  rfl

theorem State.doAmo_answers {off : Nat} {g : Bool × State} {a : Answer} (here : s.localOff r.addr = some off)
    (code : (0x10 ≤ r.op ∧ r.op ≤ 0x19) ∨ (0x20 ≤ r.op ∧ r.op ≤ 0x29)) (aligned : off % atomBytes r.op = 0)
    (memory : s.gwReady off 8 true = g) (ready : g.1 = true)
    (change : g.2.atomicAs (Master.remote r.src r.share) off (atomBytes r.op) (r.op % 16) r.opnd0.toNat r.opnd1.toNat = a)
    (ok : a.status = St.OK) : s.doAmo r = (true, a.st.dropLost.amoDone r 0 (ofLe a.data)) := by
  have pass : r.op ≠ 0x30 := by omega
  have known : ((decide (0x10 ≤ r.op) && decide (r.op ≤ 0x19)) || (decide (0x20 ≤ r.op) && decide (r.op ≤ 0x29))) = true := by
    simpa using code
  unfold State.doAmo
  simp only [pass, known, here, aligned, memory, ready, change, ok]
  rfl

/-! ### At the source (R192 to R194) -/

theorem State.opAckBulk_completes {o : GwOp} (named : s.findOp r = some o) (kind : o.kind ≠ 2) :
    State.opAckBulk r s =
      (s.setOp (streamKey r.src r.ctx) { o with result := some (r.status, 0) }).settleStream (streamKey r.src r.ctx) := by
  unfold State.opAckBulk
  simp only [named, kind, if_false]

theorem State.opAmoRsp_completes {o : GwOp} (named : s.findOp r = some o) (kind : o.kind = 2) :
    State.opAmoRsp r s =
      (s.setOp (streamKey r.src r.ctx) { o with result := some (r.status, r.opnd0.toNat) }).settleStream (streamKey r.src r.ctx) := by
  unfold State.opAmoRsp
  simp only [named, kind]
  rfl

theorem State.opNak_restarts {o : GwOp} (named : s.findOp r = some o) :
    State.opNak r s = s.setOp (streamKey r.src r.ctx) { o with at_ := s.now } := by
  unfold State.opNak
  rw [named]

/-- The first fragment of a get of the compute that has one is its last. -/
theorem State.opGetData_completes {o : GwOp} (named : s.findOp r = some o) (kind : o.kind = 1) (none_ : o.frags = [])
    (compute : o.pkt = none) (one : o.len ≤ fragBytes) {p : Nat} (poison : p = o.poison ||| r.poison * 2 ^ (r.off / 16)) :
    State.opGetData r s = ((s.addCtr r.ctx 11 r.data.length).setOp (streamKey r.src r.ctx)
      { o with data := overlay o.data r.off r.data, poison := p, frags := [r.off / fragBytes],
               result := some (if p = 0 then St.OK else St.POISON, 0) }).settleStream (streamKey r.src r.ctx) := by
  subst poison
  have last : ¬ 1 < (o.len + fragBytes - 1) / fragBytes := by
    unfold fragBytes at one ⊢
    omega
  unfold State.opGetData State.landReady State.landGet
  simp only [named, kind, none_, compute, List.length_cons, List.length_nil]
  simp [last]

theorem State.opBulkRetry_sends {sseq : Nat} {o : GwOp}
    (waits : ((s.gwSrc k).ops.find? fun o => o.seq == sseq && o.sent && o.result.isNone) = some o)
    (left : o.resends < s.rd Page.gw Reg.GW_BULK_CFG.RETRY_MAX) :
    State.opBulkRetry k sseq s = (s.inc Page.gw Reg.GW_RESEND_COUNT.COUNT).sendOp k { o with resends := o.resends + 1 } := by
  unfold State.opBulkRetry
  simp only [waits, left, if_true]

theorem execStreamRetire_frees {x : GwDst} (mount : s.mount = true) (dst : s.gwDst k = some x) (done : x.done = []) (frags : x.frags = [])
    (held : x.held = []) :
    execStreamRetire k s = .next ({ s with fab := { s.fab with dsts := SMap.erase s.fab.dsts k } } : State).showGw := by
  unfold execStreamRetire
  rw [guarded_of _ _ _ mount, dst]
  simp only [done, frags, held]
  rfl

/-! ### The statement -/

/-- Settles O15: a record joins its stream and is performed as the lemma about its kind says; an answer completes the operation it names. -/
theorem gatewayCommandsComplete : Obligations.GatewayCommandsComplete := by
  unfold Obligations.GatewayCommandsComplete
  refine ⟨?put, ?get, ?atomic, ?source, ?retry, ?retire⟩
  case put =>
    intro r x off s mount entry new window fresh k u
    refine ⟨(guarded_of _ _ (State.opBulk 1 r) mount).trans (congrArg _ (State.opBulk_joins entry new window fresh)), ?_⟩
    exact fun turn here first ready ok => State.gwTry_performs turn
      (State.putFrag_writes (s.gwDst_setDst_same _ _) first ((s.localOff_setDst _ _ _).trans here) rfl ready rfl ok)
  case get =>
    intro r x off s mount entry new window fresh k u
    refine ⟨(guarded_of _ _ (State.opBulk 2 r) mount).trans (congrArg _ (State.opBulk_joins entry new window fresh)), ?_⟩
    exact fun turn here ready ok => State.gwTry_performs turn
      (State.getFrags_sends ((s.localOff_setDst _ _ _).trans here) rfl ready rfl ok)
  case atomic =>
    intro r x off s mount entry new window fresh k u
    refine ⟨(guarded_of _ _ (State.opBulk 4 r) mount).trans (congrArg _ (State.opBulk_joins entry new window fresh)), ?_⟩
    exact fun turn here code aligned ready ok => State.gwTry_performs turn
      (State.doAmo_answers ((s.localOff_setDst _ _ _).trans here) code aligned rfl ready rfl ok)
  case source =>
    exact fun r o s mount named =>
      ⟨fun kind => (guarded_of _ _ (State.opAckBulk r) mount).trans (congrArg _ (State.opAckBulk_completes named kind)),
        fun kind => (guarded_of _ _ (State.opAmoRsp r) mount).trans (congrArg _ (State.opAmoRsp_completes named kind)),
        (guarded_of _ _ (State.opNak r) mount).trans (congrArg _ (State.opNak_restarts named)),
        fun kind none_ compute one => (guarded_of _ _ (State.opGetData r) mount).trans (congrArg _
          (State.opGetData_completes named kind none_ compute one rfl))⟩
  case retry =>
    exact fun k sseq o s mount waits left => (guarded_of _ _ (State.opBulkRetry k sseq) mount).trans (congrArg _
      (State.opBulkRetry_sends waits left))
  case retire => exact fun k x s mount dst done frags held => execStreamRetire_frees mount dst done frags held

end Sys2Proof.Machine
end

section
/-! Memory apart from the rest: whether an access to local memory must wait depends on memory, on what its engines read beside it, and on
nothing of the herd directory (R199, R269, R271, R488). Two states that agree on that part stay in agreement under each operation of the
memory engine. -/

namespace Sys2Proof.Machine

/-! ### What a report leaves of the state that triage reads (R438, R440, R451) -/

/-- Injected errors that await their point, the triage queue, and ISTATE. -/
def State.errView (s : State) : List (Nat × Nat × Nat) × List Triage × Nat := (s.faults.armed, s.faults.triage, s.istate)

theorem State.errView_of {s t : State} (armed : t.faults.armed = s.faults.armed) (triage : t.faults.triage = s.faults.triage)
    (istate : t.istate = s.istate) : t.errView = s.errView := by
  unfold State.errView
  rw [armed, triage, istate]

theorem State.errView_frame {M : Nat} {s t : State} (f : Frame M s t) (hf : M &&& Part.faults.mask = 0) (he : M &&& Fam.err.mask = 0) :
    t.errView = s.errView :=
  State.errView_of (congrArg (·.armed) (f.same .faults hf)) (congrArg (·.triage) (f.same .faults hf)) (f.rd_same he rfl 0)

/-- A field of the ERR page that shares no bit with ISTATE. -/
theorem State.wr_errView (s : State) {f : Field} (v : Nat) (h : f.lo + f.w ≤ 32) (apart : f.Apart Reg.ERR_STATUS.ISTATE) :
    (s.wr Page.err f v).errView = s.errView :=
  State.errView_of rfl rfl (s.rd_wr_apart Page.err v h apart)

theorem State.setErrBit_errView (s : State) (p : Page) (b : Nat) : (s.setErrBit p b).errView = s.errView := by
  have here : Reg.ERR_STATUS.ISTATE.at_ Page.err 0 % 0x1000 = 0xC := by decide
  have there : (p.base + hdrErrStatus) % 0x1000 = 0x10 := by
    unfold Page.base hdrErrStatus
    omega
  have other : Reg.ERR_STATUS.ISTATE.at_ Page.err 0 ≠ p.base + hdrErrStatus := fun e => by omega
  refine State.errView_of rfl rfl ?_
  unfold State.istate State.rd State.setErrBit
  rw [State.reg_setReg, if_neg other]

theorem State.displace_errView (s : State) (k : Nat) : (s.displace k).errView = s.errView := by
  unfold State.displace
  extract_lets nos older t
  have moved : t.errView = s.errView := by
    refine fold_rule (P := fun t : State => t.errView = s.errView) rfl fun t j h => ?_
    split
    · exact h
    · exact h
  exact ((State.wr_errView _ _ (by decide) (by decide)).trans (State.wr_errView _ _ (by decide) (by decide))).trans moved

theorem State.pushRec_errView (s : State) (r : ErrRec) : (s.pushRec r).errView = s.errView :=
  (State.wr_errView _ _ (by decide) (by decide)).trans (State.wr_errView _ _ (by decide) (by decide))

theorem State.errVec_errView (s : State) (sev : Nat) : (s.errVec sev).errView = s.errView := by
  unfold State.errVec
  split
  · exact State.errView_of rfl rfl (State.emit_rd _ _ _ _ _)
  · rfl

theorem State.record_errView (s : State) (r : ErrRec) : (s.record r).errView = s.errView := by
  have pushed (t : State) : ((t.pushRec r).errVec r.sev).errView = t.errView := (State.errVec_errView _ _).trans (State.pushRec_errView _ _)
  unfold State.record
  extract_lets newest
  clear_value newest
  split
  · split_ifs
    · rfl
    · exact pushed s
    · exact State.wr_errView _ _ (by decide) (by decide)
    · exact (State.errVec_errView _ _).trans ((State.setErrBit_errView _ _ _).trans
        ((State.pushRec_errView _ _).trans (State.displace_errView _ _)))
  · exact pushed s

theorem State.report_errView (s : State) (p : Page) (b sev : Nat) (i : ErrInfo) : (s.report p b sev i).errView = s.errView := by
  unfold State.report
  extract_lets t
  have noted : t.errView = s.errView := s.setErrBit_errView p b
  split
  · exact noted
  · exact (State.record_errView _ _).trans noted

theorem State.disablePort_errView (s : State) (n c : Nat) : (s.disablePort n c).errView = s.errView := by
  have lpt : Covers 0x100040c000180 Fam.lpt.mask := .fam .lpt (.refl _) rfl
  unfold State.disablePort
  split
  · rfl
  · extract_lets t u l v
    have port : Frame 0x100040c000180 s v := State.setLink_frame rfl (State.wr_frame (State.setLstate_frame rfl
      (State.cutOccs_frame rfl (State.sendFlit_frame rfl (.refl _ s)))) lpt rfl)
    exact (State.report_errView _ _ _ _ _).trans (State.errView_frame port rfl rfl)

/-- Leaving service ends in ISTATE 3, and keeps what triage reads beside it (R451). -/
theorem State.outOfService_errView (s : State) : s.outOfService.errView = (s.faults.armed, s.faults.triage, 3) := by
  unfold State.outOfService
  by_cases gone : s.istate = 3
  · rw [if_pos gone]
    unfold State.errView
    rw [gone]
  · rw [if_neg gone]
    extract_lets s1 s2 f o s3 s4
    have left : s1.errView = (s.faults.armed, s.faults.triage, 3) :=
      congrArg (fun i => (s.faults.armed, s.faults.triage, i)) (State.rd_wr_same _ _ _ _ _ (by decide))
    have ports : s2.errView = s1.errView :=
      fold_rule (P := fun t : State => t.errView = s1.errView) rfl fun t n h => (t.disablePort_errView n 3).trans h
    have low : s3.errView = s2.errView := rfl
    have told : Frame 0xc000090 s3 s4 := State.sendSibs_frame rfl (.refl _ _)
    have led : Frame 0xc000090 s3 (s4.leadGone s4.boot.inst) := State.leadGone_frame rfl told
    have rest (t : State) (h : Frame 0xc000090 s3 t) : t.errView = (s.faults.armed, s.faults.triage, 3) :=
      (State.errView_frame h rfl rfl).trans (low.trans (ports.trans left))
    clear_value s3 s4
    split_ifs
    · exact rest _ told
    · exact rest _ led
    · exact rest _ (.refl _ _)

/-! ### States that agree on memory -/

/-- The parts that the memory engine changes or reads, errors apart: a frame without them leaves memory alone. -/
def memoryMask : Nat := maskOf [.mem, .power, .time, .boot, .bist, .draws, .page .mch, .page .func]

/-- The parts that hold errors. -/
def errorMask : Nat := maskOf [.faults, .page .err]

/-- `t` has of memory, and of what its engines read, what `s` has. -/
structure SameMem (s t : State) : Prop where
  mem : t.mem = s.mem
  power : t.power = s.power
  time : t.time = s.time
  boot : t.boot = s.boot
  bist : t.bist = s.bist
  draws : t.draws = s.draws
  build : t.build = s.build
  errView : t.errView = s.errView
  regs : ∀ (a : Nat) (q : Page), Page.ofSlot (a / 0x1000) = some q → q.fam = .mch ∨ q.fam = .func → t.reg a = s.reg a

namespace SameMem

variable {s t u : State}

theorem symm (h : SameMem s t) : SameMem t s :=
  ⟨h.mem.symm, h.power.symm, h.time.symm, h.boot.symm, h.bist.symm, h.draws.symm, h.build.symm, h.errView.symm,
    fun a q hq hf => (h.regs a q hq hf).symm⟩

theorem trans (h : SameMem s t) (k : SameMem t u) : SameMem s u :=
  ⟨k.mem.trans h.mem, k.power.trans h.power, k.time.trans h.time, k.boot.trans h.boot, k.bist.trans h.bist, k.draws.trans h.draws,
    k.build.trans h.build, k.errView.trans h.errView, fun a q hq hf => (k.regs a q hq hf).trans (h.regs a q hq hf)⟩

/-- A frame without memory and what its engines read, errors apart, that leaves what triage reads. -/
theorem of_view {N : Nat} (f : Frame N s t) (h : memoryMask &&& N = 0) (view : t.errView = s.errView) : SameMem s t := by
  have out (p : Part) (hp : Covers memoryMask p.mask) : N &&& p.mask = 0 := by rw [Nat.and_comm]; exact hp.zero h
  refine ⟨f.same .mem (out _ rfl), f.same .power (out _ rfl), f.same .time (out _ rfl), f.same .boot (out _ rfl), f.same .bist (out _ rfl),
    f.same .draws (out _ rfl), f.build, view, fun a q hq hf => ?_⟩
  obtain mch | func := hf
  · exact f.same (.page .mch) (out _ rfl) a q hq mch
  · exact f.same (.page .func) (out _ rfl) a q hq func

/-- A frame without memory, what its engines read, and errors. -/
theorem of_frame {N : Nat} (f : Frame N s t) (h : memoryMask &&& N = 0) (e : errorMask &&& N = 0) : SameMem s t := by
  have out (p : Part) (hp : Covers errorMask p.mask) : N &&& p.mask = 0 := by rw [Nat.and_comm]; exact hp.zero e
  exact .of_view f h (State.errView_frame f (out .faults rfl) (out (.page .err) rfl))

/-- What leaves memory alone in two states keeps them in agreement. -/
theorem beside {s' t' : State} (h : SameMem s t) (hs : SameMem s s') (ht : SameMem t t') : SameMem s' t' := (hs.symm.trans h).trans ht

theorem foldl {β : Type} {f : State → β → State} {l : List β} (h : SameMem s t)
    (step : ∀ {s t : State} (b : β), SameMem s t → SameMem (f s b) (f t b)) : SameMem (l.foldl f s) (l.foldl f t) := by
  induction l generalizing s t with
  | nil => exact h
  | cons b r ih => exact ih (step b h)

theorem ite {c : Prop} [Decidable c] {s' t' : State} (h : SameMem s t) (k : SameMem s' t') :
    SameMem (if c then s else s') (if c then t else t') := by
  split
  · exact h
  · exact k

end SameMem

end Sys2Proof.Machine
end

section
/-! Two states that agree on memory read alike, and agree after each operation on registers, counters and channels. -/

namespace Sys2Proof.Machine

namespace SameMem

variable {s t : State}

section
variable (h : SameMem s t)
include h

/-! ### What agreeing states read -/

theorem chan (n : Nat) : t.chan n = s.chan n := by
  unfold State.chan
  rw [h.mem]

theorem leaf (n g : Nat) : t.leaf n g = s.leaf n g := by
  unfold State.leaf
  rw [h.chan]

theorem upper (n k j : Nat) : t.upper n k j = s.upper n k j := by
  unfold State.upper
  rw [h.chan]

theorem channels : t.channels = s.channels := by
  unfold State.channels
  rw [h.boot, h.build]

theorem chAt (k g : Nat) : t.chAt k g = s.chAt k g := by
  unfold State.chAt
  rw [h.channels, h.mem]

theorem chOf (off : Nat) : t.chOf off = s.chOf off := by
  unfold State.chOf
  rw [h.channels, h.chAt]

theorem pageOf (off : Nat) : t.pageOf off = s.pageOf off := by
  unfold State.pageOf
  rw [h.channels]

theorem granSize (off : Nat) : t.granSize off = s.granSize off := by
  unfold State.granSize
  rw [h.pageOf, h.mem]

theorem granStart (off : Nat) : t.granStart off = s.granStart off := by
  unfold State.granStart
  rw [h.granSize]

theorem granIndex (start : Nat) : t.granIndex start = s.granIndex start := by
  unfold State.granIndex
  rw [h.granSize]

theorem granules (off len : Nat) : t.granules off len = s.granules off len := by
  unfold State.granules
  simp only [h.granStart]

theorem wholeGran (start off len : Nat) (strb : Option Nat) : t.wholeGran start off len strb = s.wholeGran start off len strb := by
  unfold State.wholeGran
  rw [h.granSize]

theorem writtenGrans (off len : Nat) (strb : Option Nat) : t.writtenGrans off len strb = s.writtenGrans off len strb := by
  unfold State.writtenGrans
  simp only [h.granules, h.granSize]

theorem extentPoisoned (n g : Nat) : t.extentPoisoned n g = s.extentPoisoned n g := by
  unfold State.extentPoisoned
  rw [h.chan]

theorem granPoisoned (start : Nat) : t.granPoisoned start = s.granPoisoned start := by
  unfold State.granPoisoned
  rw [h.mem, h.extentPoisoned, h.chOf, h.pageOf]

theorem writeRefused (off len : Nat) (strb : Option Nat) : t.writeRefused off len strb = s.writeRefused off len strb := by
  unfold State.writeRefused
  simp only [h.writtenGrans, h.extentPoisoned, h.chOf, h.pageOf, h.wholeGran, h.granPoisoned]

theorem merged (off : Nat) (data : List Byte) (strb : Option Nat) : t.merged off data strb = s.merged off data strb := by
  unfold State.merged
  rw [h.mem]

theorem pageAt (n g : Nat) : t.pageAt n g = s.pageAt n g := by
  unfold State.pageAt
  simp only [h.channels, h.chAt]

theorem farRunning : t.farRunning = s.farRunning := by
  unfold State.farRunning
  rw [h.mem]

theorem underNext (n g : Nat) : t.underNext n g = s.underNext n g := by
  unfold State.underNext
  rw [h.mem, h.chan]

theorem upperNext (n k j : Nat) : t.upperNext n k j = s.upperNext n k j := by
  unfold State.upperNext
  rw [h.farRunning, h.mem, h.chan]

theorem slotsOpen (n : Nat) : t.slotsOpen n = s.slotsOpen n := by
  unfold State.slotsOpen
  rw [h.chan]

theorem mayRaise (n major : Nat) : t.mayRaise n major = s.mayRaise n major := by
  unfold State.mayRaise
  rw [h.slotsOpen]

theorem inZone (n major : Nat) (next : Bool) : t.inZone n major next = s.inZone n major next := by
  unfold State.inZone
  rw [h.chan]

theorem testing (n : Nat) : t.testing n = s.testing n := by
  unfold State.testing
  rw [h.chan, h.bist]

theorem cacheVictim (n b : Nat) : t.cacheVictim n b = s.cacheVictim n b := by
  unfold State.cacheVictim State.cacheSets
  rw [h.chan, h.build]

theorem pathTo (n k j : Nat) : t.pathTo n k j = s.pathTo n k j := by
  unfold State.pathTo
  rw [h.chan]

theorem mrOn : t.mrOn = s.mrOn := by
  unfold State.mrOn
  rw [h.power]

theorem memOpen : t.memOpen = s.memOpen := by
  unfold State.memOpen
  rw [h.mem, h.power]

theorem blocked : t.blocked = s.blocked := by
  unfold State.blocked
  rw [h.mem]

theorem armed : t.faults.armed = s.faults.armed := congrArg (·.1) h.errView
theorem triage : t.faults.triage = s.faults.triage := congrArg (·.2.1) h.errView
theorem istate : t.istate = s.istate := congrArg (·.2.2) h.errView

theorem armedAt (pg : Page) (b : Nat) : t.armedAt pg b = s.armedAt pg b := by
  unfold State.armedAt
  rw [h.armed]

theorem rd {p : Page} {f : Field} (hp : p.fam = .mch ∨ p.fam = .func) (hf : f.inPage = true) (i : Nat) : t.rd p f i = s.rd p f i := by
  unfold State.rd
  rw [h.regs _ _ (p.ofSlot_field hf i) hp]

theorem rdb {p : Page} {f : Field} (hp : p.fam = .mch ∨ p.fam = .func) (hf : f.inPage = true) (i : Nat) : t.rdb p f i = s.rdb p f i :=
  congrArg (· != 0) (h.rd hp hf i)

theorem hostMode (n : Nat) : t.hostMode n = s.hostMode n := by
  unfold State.hostMode
  rw [h.regs (Page.func.base + 0x20) Page.func (by decide) (.inr rfl)]

theorem haPending (n : Nat) : t.haPending n = s.haPending n := by
  unfold State.haPending
  rw [h.rd (.inr rfl) rfl]

theorem dtNs : t.dtNs = s.dtNs := by
  unfold State.dtNs State.dt
  rw [h.time]

theorem now : t.now = s.now := by
  unfold State.now
  rw [h.time]

/-! ### Registers, reports and messages -/

theorem wr {p : Page} {f : Field} (hp : p.fam = .mch ∨ p.fam = .func) (hf : f.inPage = true) {v v' : Nat} (e : v' = v) (i : Nat) :
    SameMem (s.wr p f v i) (t.wr p f v' i) := by
  have err : p.fam.mask &&& Fam.err.mask = 0 := by rcases hp with e | e <;> rw [e] <;> rfl
  have old := h.regs _ _ (p.ofSlot_field hf i) hp
  have view (s : State) (v : Nat) : (s.wr p f v i).errView = s.errView :=
    State.errView_of rfl rfl ((State.wr_frame (.refl _ s) (Covers.refl _) hf).rd_same err rfl 0)
  subst e
  refine ⟨h.mem, h.power, h.time, h.boot, h.bist, h.draws, h.build, (view t _).trans (h.errView.trans (view s _).symm), fun a q hq hf => ?_⟩
  unfold State.wr
  rw [State.reg_setReg, State.reg_setReg, old, h.regs a q hq hf]

theorem wrPair {p : Page} {lo hi : Field} (hp : p.fam = .mch ∨ p.fam = .func) (hl : lo.inPage = true) (hh : hi.inPage = true)
    {v v' : Nat} (e : v' = v) (i : Nat) : SameMem (s.wrPair p lo hi v i) (t.wrPair p lo hi v' i) := by
  subst e
  exact (h.wr hp hl rfl i).wr hp hh rfl i

theorem rdPair {p : Page} {lo hi : Field} (hp : p.fam = .mch ∨ p.fam = .func) (hl : lo.inPage = true) (hh : hi.inPage = true)
    (i : Nat) : t.rdPair p lo hi i = s.rdPair p lo hi i := by
  unfold State.rdPair
  rw [h.rd hp hl, h.rd hp hh]

theorem add {p : Page} {f : Field} (hp : p.fam = .mch ∨ p.fam = .func) (hf : f.inPage = true) {n n' : Nat} (e : n' = n) (i : Nat) :
    SameMem (s.add p f n i) (t.add p f n' i) := h.wr hp hf (by rw [h.rd hp hf, e]) i

theorem inc {p : Page} {f : Field} (hp : p.fam = .mch ∨ p.fam = .func) (hf : f.inPage = true) (i : Nat) :
    SameMem (s.inc p f i) (t.inc p f i) := h.wr hp hf (by rw [h.rd hp hf]) i

theorem incSat {p : Page} {f : Field} (hp : p.fam = .mch ∨ p.fam = .func) (hf : f.inPage = true) (i : Nat) :
    SameMem (s.incSat p f i) (t.incSat p f i) := h.wr hp hf (by rw [h.rd hp hf]) i

/-- Records differ as they may: no engine of memory reads them. -/
theorem report (p : Page) (b sev : Nat) (i : ErrInfo) : SameMem (s.report p b sev i) (t.report p b sev i) := by
  have fr (s : State) : Frame 0x1FFFFFEC000200 s (s.report p b sev i) :=
    State.report_frame (by unfold Covers; decide) (.refl _ s)
      (((Covers.refl _).to (by unfold Covers; decide : Covers 0x1FFFFFEC000200 0x1FFFFFE0000000)).page p.fam)
  refine ⟨?_, ?_, ?_, ?_, ?_, ?_, ?_, ?_, fun a q hq hf => ?_⟩
  · exact ((fr t).same .mem rfl).trans (h.mem.trans ((fr s).same .mem rfl).symm)
  · exact ((fr t).same .power rfl).trans (h.power.trans ((fr s).same .power rfl).symm)
  · exact ((fr t).same .time rfl).trans (h.time.trans ((fr s).same .time rfl).symm)
  · exact ((fr t).same .boot rfl).trans (h.boot.trans ((fr s).same .boot rfl).symm)
  · exact ((fr t).same .bist rfl).trans (h.bist.trans ((fr s).same .bist rfl).symm)
  · exact ((fr t).same .draws rfl).trans (h.draws.trans ((fr s).same .draws rfl).symm)
  · exact (fr t).build.trans (h.build.trans (fr s).build.symm)
  · exact (t.report_errView p b sev i).trans (h.errView.trans (s.report_errView p b sev i).symm)
  · have err : q.fam ≠ .err := by rcases hf with e | e <;> rw [e] <;> decide
    rw [State.report_reg _ _ _ _ _ a q hq err, State.report_reg _ _ _ _ _ a q hq err, h.regs a q hq hf]

theorem err (p : Page) (b : Nat) (i : ErrInfo) : SameMem (s.err p b i) (t.err p b i) := h.report p b _ i

theorem outOfService : SameMem s.outOfService t.outOfService := by
  have fr (s : State) : Frame 0x100840c000392 s s.outOfService := State.outOfService_frame rfl (.refl _ s)
  refine ⟨?_, ?_, ?_, ?_, ?_, ?_, ?_, ?_, fun a q hq hf => ?_⟩
  · exact ((fr t).same .mem rfl).trans (h.mem.trans ((fr s).same .mem rfl).symm)
  · exact ((fr t).same .power rfl).trans (h.power.trans ((fr s).same .power rfl).symm)
  · exact ((fr t).same .time rfl).trans (h.time.trans ((fr s).same .time rfl).symm)
  · exact ((fr t).same .boot rfl).trans (h.boot.trans ((fr s).same .boot rfl).symm)
  · exact ((fr t).same .bist rfl).trans (h.bist.trans ((fr s).same .bist rfl).symm)
  · exact ((fr t).same .draws rfl).trans (h.draws.trans ((fr s).same .draws rfl).symm)
  · exact (fr t).build.trans (h.build.trans (fr s).build.symm)
  · rw [State.outOfService_errView, State.outOfService_errView, h.armed, h.triage]
  · obtain mch | func := hf
    · exact ((fr t).same (.page .mch) rfl a q hq mch).trans ((h.regs a q hq (.inl mch)).trans ((fr s).same (.page .mch) rfl a q hq mch).symm)
    · exact ((fr t).same (.page .func) rfl a q hq func).trans ((h.regs a q hq (.inr func)).trans
        ((fr s).same (.page .func) rfl a q hq func).symm)

theorem fatal (p : Page) (b : Nat) (i : ErrInfo) : SameMem (s.fatal p b i) (t.fatal p b i) := (h.report p b 4 i).outOfService

theorem emit (o o' : Out) : SameMem (s.emit o) (t.emit o') :=
  h.beside (.of_frame (N := 0xc000000) (State.emit_frame rfl (.refl _ s)) rfl rfl) (.of_frame (N := 0xc000000) (State.emit_frame rfl (.refl _ t)) rfl rfl)

theorem saddled : SameMem s.saddled t.saddled :=
  h.beside (.of_frame (N := 0x100000000) (State.saddled_frame rfl (.refl _ s)) rfl rfl)
    (.of_frame (N := 0x100000000) (State.saddled_frame rfl (.refl _ t)) rfl rfl)

theorem cnt (i n : Nat) : SameMem (s.cnt i n) (t.cnt i n) :=
  h.beside (.of_frame (N := 0x1000000) (State.cnt_frame rfl (.refl _ s)) rfl rfl)
    (.of_frame (N := 0x1000000) (State.cnt_frame rfl (.refl _ t)) rfl rfl)

theorem haPost (n : Nat) : SameMem (s.haPost n) (t.haPost n) := by
  have pend := h.rd (p := Page.func) (f := Reg.FUNC_HA_PEND.PEND) (.inr rfl) rfl 0
  have active := h.rd (p := Page.func) (f := Reg.FUNC_ACTIVE.ACTIVE) (.inr rfl) rfl 0
  have posted := (h.wr (p := Page.func) (f := Reg.FUNC_HA_PEND.PEND) (.inr rfl) rfl (congrArg (· ||| 2 ^ n) pend) 0).wr (p := Page.func)
    (f := Reg.FUNC_ACTIVE.ACTIVE) (.inr rfl) rfl (congrArg (· ||| 2 ^ n) active) 0
  unfold State.haPost
  extract_lets was u was' v
  have same : was' = was := congrArg (bit · n) pend
  rw [same]
  exact ite posted (posted.emit _ _)

theorem wakeSlots (l : List Nat) : SameMem (s.wakeSlots l) (t.wakeSlots l) :=
  ⟨h.mem, congrArg (fun p : Power => { p with gated := p.gated.filter fun k => !l.contains k }) h.power, h.time, h.boot, h.bist, h.draws,
    h.build, h.errView, h.regs⟩

/-! ### Memory and its channels -/

theorem setMem {m m' : Mem} (e : m' = m) : SameMem { s with mem := m } { t with mem := m' } :=
  ⟨e, h.power, h.time, h.boot, h.bist, h.draws, h.build, h.errView, h.regs⟩

theorem setChan (n : Nat) {c c' : Chan} (e : c' = c) : SameMem (s.setChan n c) (t.setChan n c') := by
  subst e
  exact h.setMem (by rw [h.mem])

theorem noteStall : SameMem s.noteStall t.noteStall := h.setMem (by rw [h.mem])
theorem noteShort : SameMem s.noteShort t.noteShort := h.setMem (by rw [h.mem])
theorem calm : SameMem s.calm t.calm := h.setMem (by rw [h.mem])
theorem poisonGran (start : Nat) : SameMem (s.poisonGran start) (t.poisonGran start) := h.setMem (by rw [h.mem])
theorem cleanGran (start : Nat) : SameMem (s.cleanGran start) (t.cleanGran start) := h.setMem (by rw [h.mem])
theorem putBytes (off : Nat) (l : List Byte) : SameMem (s.putBytes off l) (t.putBytes off l) := h.setMem (by rw [h.mem])

theorem setLeaf (n g : Nat) (l : Leaf) : SameMem (s.setLeaf n g l) (t.setLeaf n g l) := h.setChan n (by rw [h.chan])

theorem soil (n level index : Nat) : SameMem (s.soil n level index) (t.soil n level index) := ite (h.setChan n (by rw [h.chan])) h

theorem setUpper (n k j : Nat) (l : Leaf) : SameMem (s.setUpper n k j l) (t.setUpper n k j l) :=
  (h.setChan n (by rw [h.chan])).soil n k j

theorem markDone (n g i : Nat) : SameMem (s.markDone n g i) (t.markDone n g i) := h.setChan n (by rw [h.chan])

theorem showHwm (n : Nat) : SameMem (s.showHwm n) (t.showHwm n) :=
  (h.wrPair (.inl rfl) rfl rfl (by rw [h.chan]) 0).wrPair (.inl rfl) rfl rfl (by rw [h.chan]) 0

theorem raiseHwm (n g major : Nat) : SameMem (s.raiseHwm n g major) (t.raiseHwm n g major) := by
  unfold State.raiseHwm
  rw [h.underNext, h.chan]
  exact (ite (h.setChan n rfl) (h.setChan n rfl)).showHwm n

theorem raiseUpper (n k j major : Nat) : SameMem (s.raiseUpper n k j major) (t.raiseUpper n k j major) := by
  unfold State.raiseUpper
  rw [h.upperNext, h.chan]
  exact (ite (h.setChan n rfl) (h.setChan n rfl)).showHwm n

theorem showReenc (n : Nat) : SameMem (s.showReenc n) (t.showReenc n) := by
  unfold State.showReenc
  rw [h.chan]
  exact ((h.wr (.inl rfl) rfl rfl 0).wr (.inl rfl) rfl rfl 0).wr (.inl rfl) rfl rfl 0

theorem openSlot (n level index : Nat) (forced : Bool) (old : Leaf) (done : W64) :
    SameMem (s.openSlot n level index forced old done) (t.openSlot n level index forced old done) :=
  ((h.setChan n (by rw [h.chan])).inc (.inl rfl) rfl 0).showReenc n

theorem queueReenc (n level index : Nat) : SameMem (s.queueReenc n level index) (t.queueReenc n level index) := by
  unfold State.queueReenc
  rw [h.chan]
  exact ite h ((h.setChan n rfl).showReenc n)

end

end SameMem

end Sys2Proof.Machine
end

section
/-! States that agree on memory stay in agreement under the memory engine: passes, counters, counter cache, tokens, triage (R239, R264 to R288). -/

namespace Sys2Proof.Machine

namespace SameMem

variable {s t : State}

section
variable (h : SameMem s t)
include h

/-! ### The Farrier's start and the end zone (R271, R280, R285) -/

theorem farWait (n : Nat) : SameMem (s.farWait n) (t.farWait n) := by
  have waiting := h.wr (p := Page.mch n) (f := Reg.MCH_STATUS.WAIT_GRANT) (.inl rfl) rfl (rfl : 1 = 1) 0
  unfold State.farWait
  extract_lets u v
  rw [show v.haPending 1 = u.haPending 1 from waiting.haPending 1]
  exact ite waiting (waiting.haPost 1)

theorem drawKey : t.drawKey.1 = s.drawKey.1 ∧ SameMem s.drawKey.2 t.drawKey.2 := by
  refine ⟨congrArg memKey h.draws, saddled ?_⟩
  exact ⟨h.mem, h.power, h.time, h.boot, h.bist, congrArg (· + 1) h.draws, h.build, h.errView, h.regs⟩

/-- What the start of a pass does to one channel. -/
theorem shoeChan (n : Nat) : SameMem
    (((((((s.setChan n { s.chan n with keyNextLoaded := true, hwmNext := 0, shoe := 0, farState := 1, farRun := 0, farSince := s.now, steps := [] }
      ).saddled.wr (Page.mch n) Reg.MCH_STATUS.FAR_STATE 1).wr (Page.mch n) Reg.MCH_STATUS.TWO_KEYS 1).wr (Page.mch n) Reg.MCHn_SHOE_LINE.SL 0).wrPair
      (Page.mch n) Reg.MCHn_FAR_MOVED_LO.BYTES Reg.MCHn_FAR_MOVED_HI.BYTES 0)).showHwm n)
    (((((((t.setChan n { t.chan n with keyNextLoaded := true, hwmNext := 0, shoe := 0, farState := 1, farRun := 0, farSince := t.now, steps := [] }
      ).saddled.wr (Page.mch n) Reg.MCH_STATUS.FAR_STATE 1).wr (Page.mch n) Reg.MCH_STATUS.TWO_KEYS 1).wr (Page.mch n) Reg.MCHn_SHOE_LINE.SL 0).wrPair
      (Page.mch n) Reg.MCHn_FAR_MOVED_LO.BYTES Reg.MCHn_FAR_MOVED_HI.BYTES 0)).showHwm n) := by
  rw [h.chan, h.now]
  exact (((((h.setChan n rfl).saddled.wr (.inl rfl) rfl rfl 0).wr (.inl rfl) rfl rfl 0).wr (.inl rfl) rfl rfl 0).wrPair (.inl rfl) rfl rfl rfl 0).showHwm n

theorem chanList : t.chanList = s.chanList := congrArg List.range h.channels

theorem farBegin (cause : Nat) : SameMem (s.farBegin cause) (t.farBegin cause) := by
  obtain ⟨key, drawn⟩ := h.drawKey
  unfold State.farBegin
  extract_lets r drawnS memS s1 s2 s3 r' drawnT memT t1 t2 t3
  have loaded : SameMem s1 t1 := drawn.setMem (by
    rw [show r'.1 = r.1 from key, show memT = memS from drawn.mem, h.hostMode])
  have shod : SameMem s2 t2 := by
    unfold s2 t2
    rw [loaded.chanList]
    exact loaded.foldl fun n k => k.shoeChan n
  have started : SameMem s3 t3 := (shod.wr (.inl rfl) rfl rfl 0).wrPair (.inl rfl) rfl rfl shod.dtNs 0
  have asked : (t3.chanList.filter fun n => t3.rd (Page.mch n) Reg.MCHn_FAR_GRANT.PAGES == 0) =
      s3.chanList.filter fun n => s3.rd (Page.mch n) Reg.MCHn_FAR_GRANT.PAGES == 0 := by
    rw [started.chanList]
    exact List.filter_congr fun n _ => congrArg (· == 0) (started.rd (.inl rfl) rfl 0)
  rw [asked, started.mem]
  exact ite (started.foldl fun n k => k.farWait n) started

theorem endZoneCheck (n major : Nat) : SameMem (s.endZoneCheck n major) (t.endZoneCheck n major) := by
  have zone := ((h.wr (p := Page.mch n) (f := Reg.MCH_STATUS.END_ZONE) (.inl rfl) rfl (rfl : 1 = 1) 0).err (Page.mch n) Err.mch.END_ZONE {}).err
    (Page.mch n) Err.mch.FAR_FORCED {}
  unfold State.endZoneCheck
  rw [h.rdb (.inl rfl) rfl]
  refine ite h ?_
  dsimp only
  rw [zone.farRunning]
  exact ite (zone.wr (.inl rfl) rfl rfl 0) ((zone.farBegin 3).wr (.inl rfl) rfl rfl 0)

/-! ### Counters (R265, R268, R269) -/

theorem overflowLeaf (n g : Nat) (by_ : Option Nat) : SameMem (s.overflowLeaf n g by_) (t.overflowLeaf n g by_) := by
  unfold State.overflowLeaf
  dsimp only
  rw [h.leaf, h.mayRaise, h.inZone, h.underNext]
  exact ite h.noteShort ((((((ite h.noteStall h).setLeaf n g _).soil n 1 g).raiseHwm n g _).openSlot n 1 g _ _ _).endZoneCheck n _)

theorem overflowUpper (n k j : Nat) (forced : Bool) : SameMem (s.overflowUpper n k j forced) (t.overflowUpper n k j forced) := by
  unfold State.overflowUpper
  dsimp only
  rw [h.upper, h.mayRaise, h.inZone, h.upperNext]
  exact ite h.noteShort (((((ite h.noteStall h).setUpper n k j _).raiseUpper n k j _).openSlot n k j _ _ _).endZoneCheck n _)

theorem bumpUpper (n k j i : Nat) : SameMem (s.bumpUpper n k j i) (t.bumpUpper n k j i) := by
  unfold State.bumpUpper
  rw [h.upper]
  extract_lets l m u v
  have raised : SameMem u v := h.setUpper n k j _
  rw [raised.rd (.inl rfl) rfl]
  exact ite (h.overflowUpper n k j true) (ite (raised.queueReenc n k j) raised)

theorem bumpLeaf (n g i : Nat) : SameMem (s.bumpLeaf n g i) (t.bumpLeaf n g i) := by
  unfold State.bumpLeaf
  rw [h.leaf]
  extract_lets l m u v
  have raised : SameMem u v := (h.setLeaf n g _).soil n 1 g
  rw [raised.rd (.inl rfl) rfl]
  exact ite (h.overflowLeaf n g (some i)) (ite (raised.queueReenc n 1 g) raised)

omit h in
theorem writeBlock (fuel n : Nat) : ∀ (level index : Nat) {s t : State}, SameMem s t →
    SameMem (State.writeBlock fuel n level index s) (State.writeBlock fuel n level index t) := by
  induction fuel with
  | zero => exact fun _ _ _ _ h => h
  | succ fuel ih =>
    intro level index s t h
    have risen := h.bumpUpper n (level + 1) (index / 64) (index % 64)
    unfold State.writeBlock
    rw [h.chan]
    exact ite (h.setChan n rfl) (ite (ih (level + 1) (index / 64) risen) risen)

theorem cleanBlock (n level index : Nat) : SameMem (s.cleanBlock n level index) (t.cleanBlock n level index) :=
  writeBlock 8 n level index (h.setChan n (by rw [h.chan]))

/-! ### The maintenance token (R471, R472, R277) -/

theorem scrubStep (n : Nat) : SameMem (s.scrubStep n) (t.scrubStep n) := by
  unfold State.scrubStep
  dsimp only
  rw [h.rd (.inl rfl) rfl, h.mem]
  exact ite (h.wr (.inl rfl) rfl rfl 0) ((h.wr (.inl rfl) rfl rfl 0).incSat (.inl rfl) rfl 0)

theorem grantToken (n : Nat) (u : TokenUse) : SameMem (s.grantToken n u) (t.grantToken n u) := by
  have granted : SameMem ((s.setChan n { s.chan n with token := some u }).wakeSlots [0x20 + n])
      ((t.setChan n { t.chan n with token := some u }).wakeSlots [0x20 + n]) := (h.setChan n (by rw [h.chan])).wakeSlots _
  unfold State.grantToken
  extract_lets a b
  split
  · exact (granted.wr (.inl rfl) rfl rfl 0).scrubStep n
  · exact granted.wr (.inl rfl) rfl rfl 0
  · exact granted

theorem askToken (n : Nat) (u : TokenUse) : SameMem (s.askToken n u) (t.askToken n u) := by
  unfold State.askToken
  rw [h.chan, h.mrOn]
  exact ite h (ite (h.grantToken n u) (h.setChan n rfl))

theorem addRebuild (n : Nat) (e : Rebuild) : SameMem (s.addRebuild n e) (t.addRebuild n e) :=
  (h.setChan n (by rw [h.chan])).askToken n .rebuild

/-! ### Poisoned extents, triage and lost blocks (R273, R274, R440) -/

theorem showPsn (n : Nat) : SameMem (s.showPsn n) (t.showPsn n) := by
  unfold State.showPsn
  rw [h.chan]
  refine foldl ((h.wr (.inl rfl) rfl rfl 0).wr (.inl rfl) rfl rfl 0) fun e k => ?_
  split
  · exact (((k.wr (.inl rfl) rfl rfl e).wr (.inl rfl) rfl rfl e).wr (.inl rfl) rfl rfl e).wr (.inl rfl) rfl rfl e
  · exact (((k.wr (.inl rfl) rfl rfl e).wr (.inl rfl) rfl rfl e).wr (.inl rfl) rfl rfl e).wr (.inl rfl) rfl rfl e

theorem poisonExtent (n level index cause : Nat) : SameMem (s.poisonExtent n level index cause) (t.poisonExtent n level index cause) := by
  unfold State.poisonExtent
  rw [h.chan]
  extract_lets c
  clear_value c
  refine ite h ?_
  split
  · exact h.fatal _ _ _
  · exact (h.setChan n rfl).showPsn n

theorem triageRetire (shown : Bool) (i : Triage) : SameMem (s.triageRetire shown i) (t.triageRetire shown i) := by
  unfold State.triageRetire
  dsimp only
  rw [h.pageAt, h.granSize]
  exact ite (h.poisonGran _) (h.addRebuild _ _)

/-- The queue of triage is the part of the faults that memory's engines read. -/
theorem queueTriage (i : Triage) : SameMem { s with faults := { s.faults with triage := s.faults.triage ++ [i] } }
    { t with faults := { t.faults with triage := t.faults.triage ++ [i] } } := by
  refine ⟨h.mem, h.power, h.time, h.boot, h.bist, h.draws, h.build, ?_, h.regs⟩
  exact Prod.ext h.armed (Prod.ext (congrArg (· ++ [i]) h.triage) h.istate)

omit h in
theorem of_showTriage (s : State) : SameMem s s.showTriage := by
  have item : (s.showTriage).errView = s.errView := by
    unfold State.showTriage
    dsimp only
    iterate 8 rw [State.wr_errView _ _ (by decide) (by decide)]
  exact .of_view (N := 0x8000000000) (State.showTriage_frame rfl (.refl _ s)) rfl item

theorem showTriage : SameMem s.showTriage t.showTriage := h.beside (of_showTriage s) (of_showTriage t)

theorem triageAdd (i : Triage) : SameMem (s.triageAdd i) (t.triageAdd i) := by
  have shown := (h.queueTriage i).showTriage
  unfold State.triageAdd
  rw [h.hostMode, congrArg List.length h.triage, congrArg List.isEmpty h.triage]
  exact ite (h.triageRetire false i) (ite (shown.haPost 7) shown)

theorem treeLost (n level index cause : Nat) : SameMem (s.treeLost n level index cause) (t.treeLost n level index cause) := by
  have poisoned := h.poisonExtent n level index cause
  unfold State.treeLost
  dsimp only
  rw [h.chan, poisoned.istate]
  exact ite poisoned (poisoned.triageAdd _)

theorem cacheLost (n level index : Nat) : SameMem (s.cacheLost n level index) (t.cacheLost n level index) := by
  have written := (writeBlock 8 n level index h).err (Page.mch n) Err.mch.CACHE_LOST { place := index, placeKind := 2 }
  exact (written.setChan n (by rw [written.chan])).treeLost n level index 3

theorem blockLost (n level index : Nat) (sealFail : Bool) : SameMem (s.blockLost n level index sealFail) (t.blockLost n level index sealFail) :=
  (h.err _ _ _).treeLost n level index _

/-! ### Injected errors at their point (R279) -/

theorem takeArmed (p : Page) (b : Nat) : SameMem (s.takeArmed p b) (t.takeArmed p b) := by
  refine ⟨h.mem, h.power, h.time, h.boot, h.bist, h.draws, h.build, ?_, h.regs⟩
  exact Prod.ext (congrArg (fun l => l.filter fun e => !armedFor p b e) h.armed) (Prod.ext h.triage h.istate)

theorem untag : SameMem s.untag t.untag := ⟨h.mem, h.power, h.time, h.boot, h.bist, h.draws, h.build, h.errView, h.regs⟩

theorem struck (p : Page) (b : Nat) {f : State → State} (step : ∀ {s t : State}, SameMem s t → SameMem (f s) (f t)) :
    SameMem (s.struck p b f) (t.struck p b f) := by
  unfold State.struck
  rw [h.armedAt]
  exact ite (step (h.takeArmed p b)).untag (step h)

theorem strikeAt (n : Nat) (codes : List Nat) (b : Nat) : SameMem (State.strikeAt n codes s b) (State.strikeAt n codes t b) := by
  unfold State.strikeAt
  dsimp only
  rw [h.armedAt]
  split
  · exact h
  · refine ite h (h.struck _ _ fun k => ?_)
    split
    · exact k.blockLost _ _ _ _
    · exact k.blockLost _ _ _ _
    · exact k.cacheLost _ _ _
    · rw [k.rdb (.inl rfl) rfl]
      exact ite (k.err _ _ _) (k.endZoneCheck _ _)

/-! ### The counter cache (R267) -/

theorem evict (n b : Nat) : SameMem (s.evict n b) (t.evict n b) := by
  unfold State.evict
  rw [h.chan]
  exact ite ((h.setChan n rfl).cleanBlock n _ _) (h.setChan n rfl)

theorem useBlock (n b : Nat) : SameMem (s.useBlock n b) (t.useBlock n b) := by
  unfold State.useBlock
  rw [h.chan, h.cacheVictim]
  extract_lets u c v d
  have room : SameMem u v := by
    refine ite h ?_
    split
    · exact h.evict n _
    · exact h
  exact room.setChan n (by rw [show d = c from room.chan n, room.chan])

theorem walkTo (n k j : Nat) : SameMem (s.walkTo n k j) (t.walkTo n k j) := by
  unfold State.walkTo
  rw [h.chan, h.pathTo]
  exact (h.foldl fun b k => k.useBlock n b).add (.inl rfl) rfl rfl 0

theorem touch (n g : Nat) : SameMem (s.touch n g) (t.touch n g) := by
  unfold State.touch
  rw [h.pathTo]
  exact (h.walkTo n 1 g).foldl fun b k => k.strikeAt n _ b

/-! ### Granules (R237 to R239, R269) -/

theorem sweptWrite (n g i : Nat) : SameMem (s.sweptWrite n g i) (t.sweptWrite n g i) := by
  unfold State.sweptWrite
  rw [h.chan]
  exact ite h.noteShort ((h.setChan n rfl).soil n 1 g)

theorem raiseMinor (n g i : Nat) (gait : Bool) : SameMem (s.raiseMinor n g i gait) (t.raiseMinor n g i gait) := by
  unfold State.raiseMinor
  rw [h.chan]
  split
  · exact ite (h.sweptWrite n g i) (h.bumpLeaf n g i)
  · rw [h.leaf]
    exact ite (h.bumpLeaf n g i) (((h.setLeaf n g _).soil n 1 g).markDone n g i)

theorem visit (start : Nat) : SameMem (s.visit start) (t.visit start) := by
  unfold State.visit
  rw [h.chOf, h.pageOf]
  extract_lets n g u v
  have used : SameMem u v := (h.wakeSlots _).touch n g
  rw [used.chan, used.testing]
  exact ite used.noteStall used

theorem countRead (start : Nat) : SameMem (s.countRead start) (t.countRead start) := by
  unfold State.countRead
  rw [h.chOf]
  extract_lets n p u v
  have counted : SameMem u v := (h.wrPair (.inl rfl) rfl rfl (congrArg (· + 1) (h.rdPair (.inl rfl) rfl rfl 0)) 0).visit start
  rw [counted.extentPoisoned, counted.pageOf, counted.mem]
  exact ite counted (ite ((counted.inc (.inl rfl) rfl 0).err _ _ _) (ite ((counted.inc (.inl rfl) rfl 0).err _ _ _) counted))

theorem prepWrite (off len : Nat) (strb : Option Nat) : SameMem (s.prepWrite off len strb) (t.prepWrite off len strb) := by
  unfold State.prepWrite
  rw [h.writtenGrans]
  refine h.foldl fun g k => ?_
  rw [k.wholeGran]
  exact ite (k.visit g) (k.countRead g)

theorem writeGran (start off len : Nat) (strb : Option Nat) (units : Nat → Bool) (gait : Bool) :
    SameMem (State.writeGran start off len strb units gait s) (State.writeGran start off len strb units gait t) := by
  unfold State.writeGran
  rw [h.chOf, h.pageOf, h.granIndex]
  extract_lets n s1 p s2 s3 m s4 d t1 t2 t3 m' t4 d'
  have raised : SameMem s1 t1 := h.raiseMinor n _ _ gait
  have counted : SameMem s2 t2 := raised.wrPair (.inl rfl) rfl rfl (congrArg (· + 1) (raised.rdPair (.inl rfl) rfl rfl 0)) 0
  have merge : SameMem s3 t3 := by
    unfold s3 t3
    rw [counted.wholeGran]
    exact ite counted (counted.inc (.inl rfl) rfl 0)
  have written : SameMem s4 t4 := merge.setMem (by rw [show m' = m from merge.mem, merge.mem])
  have same : d' = d := by unfold d' d; rw [written.granSize]
  rw [same]
  exact ite (written.poisonGran start) (written.cleanGran start)

theorem writePhys (off : Nat) (data : List Byte) (poison : Nat) :
    SameMem (s.writePhys off data poison false).2 (t.writePhys off data poison false).2 := by
  have prep := h.prepWrite off data.length none
  unfold State.writePhys
  simp only [Bool.false_eq_true, if_false, Bool.false_and]
  rw [prep.writeRefused]
  split
  · exact prep
  · rw [prep.writtenGrans, prep.merged]
    exact (foldl prep fun g k => k.writeGran g _ _ _ _ _).putBytes _ _ |>.cnt _ _

/-- Whether a write must wait is read from memory (R269, R271). -/
theorem physHeld (off len : Nat) : t.physHeld off len true = s.physHeld off len true :=
  (h.calm.writePhys off _ 0).blocked

end

end SameMem

end Sys2Proof.Machine
end

section
/-! The herd directory: one line changes while the others wait for nothing (R197), and what a transaction leaves when its last answer has come. -/

namespace Sys2Proof.Machine

/-! ### A table's entries of other keys -/

theorem SMap.filter_erase {α : Type} (m : SMap α) {p : Nat × α → Bool} {k : Nat} (h : ∀ v, p (k, v) = false) :
    (SMap.erase m k).filter p = m.filter p := by
  induction m with
  | nil => rfl
  | cons e r ih =>
    unfold SMap.erase
    split
    next same =>
      subst same
      rw [ih, List.filter_cons_of_neg (by rw [h]; decide)]
    next => rw [List.filter_cons, List.filter_cons, ih]

theorem SMap.filter_ins {α : Type} (m : SMap α) {p : Nat × α → Bool} {k : Nat} {v : α} (h : p (k, v) = false) :
    (SMap.ins m k v).filter p = m.filter p := by
  induction m with
  | nil => exact List.filter_cons_of_neg (by rw [h]; decide)
  | cons e r ih =>
    unfold SMap.ins
    split
    · exact List.filter_cons_of_neg (by rw [h]; decide)
    · rw [List.filter_cons, List.filter_cons, ih]

theorem SMap.filter_put {α : Type} [DecidableEq α] (m : SMap α) (d : α) {p : Nat × α → Bool} {k : Nat} (v : α) (h : ∀ v, p (k, v) = false) :
    (SMap.put m d k v).filter p = m.filter p := by
  unfold SMap.put SMap.set
  split
  · exact SMap.filter_erase m h
  · rw [SMap.filter_ins _ (h v), SMap.filter_erase m h]

theorem SMap.mem_put {α : Type} [DecidableEq α] (m : SMap α) (d : α) (k : Nat) (v : α) (e : Nat × α) (h : e ∈ SMap.put m d k v) :
    e = (k, v) ∨ (e ∈ m ∧ e.1 ≠ k) := by
  unfold SMap.put SMap.set at h
  split at h
  · exact .inr (SMap.mem_erase m k e h)
  · exact (SMap.mem_ins _ k v e h).imp_right (SMap.mem_erase m k e)

/-! ### One line of the directory -/

/-- A line as the directory keeps it: an untracked one that nothing waits for is forgotten with its last use. -/
def DirLine.kept (d : DirLine) : DirLine := if d.st = .invalid ∧ d.tx = none ∧ d.queue.isEmpty then DirLine.empty else d

theorem DirLine.kept_st (d : DirLine) : d.kept.st = d.st := by
  unfold DirLine.kept
  split
  next untracked => exact untracked.1.symm
  next => rfl

theorem DirLine.kept_tx (d : DirLine) : d.kept.tx = d.tx := by
  unfold DirLine.kept
  split
  next untracked => exact untracked.2.1.symm
  next => rfl

theorem DirLine.kept_queue (d : DirLine) : d.kept.queue = d.queue := by
  unfold DirLine.kept
  split
  next untracked => exact (List.isEmpty_iff.mp untracked.2.2).symm
  next => rfl

theorem State.putLine_dir (s : State) (l : Nat) (d : DirLine) : (s.putLine l d).coh.dir = SMap.put s.coh.dir DirLine.empty l d.kept := rfl

theorem State.dirLine_putLine (s : State) (l k : Nat) (d : DirLine) : (s.putLine l d).dirLine k = if k = l then d.kept else s.dirLine k := by
  unfold State.dirLine
  rw [State.putLine_dir, SMap.getD_put]

@[simp] theorem State.dirLine_putLine_same (s : State) (l : Nat) (d : DirLine) : (s.putLine l d).dirLine l = d.kept := by
  rw [State.dirLine_putLine, if_pos rfl]

/-- The ways of a line's set are those of the other lines. -/
theorem State.setFull_putLine (s : State) (l : Nat) (d : DirLine) : (s.putLine l d).setFull l = s.setFull l := by
  have mates : (s.putLine l d).setMates l = s.setMates l := by
    unfold State.setMates
    rw [State.putLine_dir, SMap.filter_put _ _ _ (by simp)]
  have others : (s.setMates l).filter (fun k => ((s.putLine l d).dirLine k).inUse) = (s.setMates l).filter fun k => (s.dirLine k).inUse := by
    refine List.filter_congr fun k hk => ?_
    have other : k ≠ l := by
      obtain ⟨e, he, rfl⟩ := List.mem_map.mp hk
      simpa using (Bool.and_eq_true_iff.mp (List.mem_filter.mp he).2).2
    rw [State.dirLine_putLine, if_neg other]
  unfold State.setFull
  rw [mates, others]

/-! ### What an operation leaves of the directory -/

/-- `t` has the directory and the waiting accesses of `s`. -/
structure SameDir (s t : State) : Prop where
  dir : t.coh.dir = s.coh.dir
  waits : t.coh.waits = s.coh.waits

theorem SameDir.refl (s : State) : SameDir s s := ⟨rfl, rfl⟩
theorem SameDir.trans {s t u : State} (h : SameDir s t) (k : SameDir t u) : SameDir s u := ⟨k.dir.trans h.dir, k.waits.trans h.waits⟩

theorem SameDir.of_frame {N : Nat} {s t : State} (f : Frame N s t) (h : N &&& Part.coh.mask = 0) : SameDir s t :=
  have same : t.coh = s.coh := f.same .coh h
  ⟨congrArg (·.dir) same, congrArg (·.waits) same⟩

theorem SameDir.dirLine {s t : State} (h : SameDir s t) (l : Nat) : t.dirLine l = s.dirLine l := by
  unfold State.dirLine
  rw [h.dir]

theorem State.ownCoh_sameDir (s : State) (tid status : Nat) (data : List Byte) (poison : Nat) : SameDir s (s.ownCoh tid status data poison) := by
  unfold State.ownCoh
  split
  · exact .refl s
  · exact SameDir.trans (t := { s with coh := { s.coh with reqs := SMap.erase s.coh.reqs tid } }) ⟨rfl, rfl⟩
      (.of_frame (N := 0x800c000200) (State.dcpAnswer_frame rfl (.refl _ _)) rfl)

theorem State.homeReply_sameDir (s : State) (l slot cm tid : Nat) : SameDir s (s.homeReply l slot cm tid) := by
  unfold State.homeReply
  extract_lets withData r t
  have read : SameDir s t := by
    unfold t r
    split
    · exact .of_frame (N := 0x102855d0043b2) (State.readPhys_frame rfl (.refl _ s)) rfl
    · exact .refl s
  split
  · exact read.trans (State.ownCoh_sameDir _ _ _ _ _)
  · exact read.trans (.of_frame (N := 0x1124800d0023a0) (State.sendCoh_frame rfl (.refl _ _)) rfl)

theorem State.homeWrite_sameDir (s : State) (l : Nat) (data : List Byte) (poison : Bool) : SameDir s (s.homeWrite l data poison) := by
  unfold State.homeWrite
  extract_lets t
  have written : SameDir s t := .of_frame (N := 0x102855d00c3b2) (State.writePhys_frame rfl (.refl _ s)) rfl
  exact written.trans ⟨rfl, rfl⟩

/-! ### A line held -/

/-- A line is held alike by states that agree on memory and on the flush. -/
theorem SameMem.cohHeld {s t : State} (h : SameMem s t) (flush : t.rd Page.coh Reg.COH_STATUS.FLUSHING = s.rd Page.coh Reg.COH_STATUS.FLUSHING)
    (l : Nat) : t.cohHeld l = s.cohHeld l := by
  unfold State.cohHeld State.rdb
  rw [flush, h.memOpen, h.physHeld]

theorem State.cohHeld_putLine (s : State) (l k : Nat) (d : DirLine) : (s.putLine l d).cohHeld k = s.cohHeld k :=
  (SameMem.of_frame (N := 0x100000080000) (State.putLine_frame rfl (.refl _ s)) rfl rfl).cohHeld
    (State.rd_wr_other _ _ _ _ _ _ _ _ (by decide)) k

theorem State.err_sameMem (s : State) (b : Nat) (i : ErrInfo) : SameMem s (s.err Page.coh b i) :=
  have fr : Frame 0x10800c000200 s (s.err Page.coh b i) := State.err_frame (by unfold Covers; decide) (.refl _ s) (by unfold Covers; decide)
  .of_view fr rfl (s.report_errView _ _ _ _)

theorem State.cohHeld_err (s : State) (l b : Nat) (i : ErrInfo) : (s.err Page.coh b i).cohHeld l = s.cohHeld l :=
  (s.err_sameMem b i).cohHeld (s.rd_err _ _ _ _ (by decide) rfl (by decide)) l

theorem State.not_flushing {s : State} {l : Nat} (h : s.cohHeld l = false) : s.rdb Page.coh Reg.COH_STATUS.FLUSHING = false := by
  unfold State.cohHeld at h
  simp only [Bool.or_eq_false_iff] at h
  exact h.1.1

/-! ### A line alone -/

/-- No access waits, and no line but `l` is in a transaction or has requests waiting. -/
structure AloneAt (s : State) (l : Nat) : Prop where
  waits : s.coh.waits = []
  others : ∀ e ∈ s.coh.dir, e.1 = l ∨ (e.2.tx = none ∧ e.2.queue = [])

theorem AloneAt.of_all {s : State} {l : Nat} (waits : s.coh.waits = [])
    (quiet : (s.coh.dir.all fun e => e.1 == l || (e.2.tx.isNone && e.2.queue.isEmpty)) = true) : AloneAt s l :=
  ⟨waits, fun e he => by simpa using List.all_eq_true.mp quiet e he⟩

theorem AloneAt.sameDir {s t : State} {l : Nat} (h : AloneAt s l) (k : SameDir s t) : AloneAt t l :=
  ⟨k.waits.trans h.waits, fun e he => h.others e (k.dir ▸ he)⟩

theorem AloneAt.putLine {s : State} {l : Nat} (h : AloneAt s l) (d : DirLine) : AloneAt (s.putLine l d) l := by
  refine ⟨h.waits, fun e he => ?_⟩
  obtain rfl | old := SMap.mem_put _ _ _ _ e he
  · exact .inl rfl
  · exact h.others e old.1

/-- Line `l` stands in state `st`, and neither it nor any other line or access waits for anything. -/
structure SettledAt (s : State) (l : Nat) (st : DirState) : Prop where
  waits : s.coh.waits = []
  quiet : ∀ e ∈ s.coh.dir, e.2.tx = none ∧ e.2.queue = []
  stands : (s.dirLine l).st = st
  free : (s.dirLine l).tx = none
  served : (s.dirLine l).queue = []

theorem SettledAt.sameDir {s t : State} {l : Nat} {st : DirState} (h : SettledAt s l st) (k : SameDir s t) : SettledAt t l st :=
  ⟨k.waits.trans h.waits, fun e he => h.quiet e (k.dir ▸ he), by rw [k.dirLine]; exact h.stands, by rw [k.dirLine]; exact h.free,
    by rw [k.dirLine]; exact h.served⟩

theorem AloneAt.settles {s : State} {l : Nat} {d : DirLine} (h : AloneAt s l) (free : d.tx = none) (served : d.queue = []) :
    SettledAt (s.putLine l d) l d.st := by
  refine ⟨h.waits, fun e he => ?_, ?_, ?_, ?_⟩
  · obtain rfl | ⟨old, other⟩ := SMap.mem_put _ _ _ _ e he
    · exact ⟨d.kept_tx.trans free, d.kept_queue.trans served⟩
    · exact (h.others e old).resolve_left other
  · rw [State.dirLine_putLine_same, DirLine.kept_st]
  · rw [State.dirLine_putLine_same, DirLine.kept_tx, free]
  · rw [State.dirLine_putLine_same, DirLine.kept_queue, served]

end Sys2Proof.Machine
end

section
/-! Coherence requests, answers and snoops end to end (R195 to R199, R485): what each command of the herd leads to. -/

namespace Sys2Proof.Machine

/-! ### Going on at a line -/

theorem State.cohRun_nil (n : Nat) (s : State) : State.cohRun n [] s = s := by cases n <;> rfl

/-- A line that waits for nothing is left as it is. -/
theorem SettledAt.cohRun {s : State} {l : Nat} {st : DirState} (h : SettledAt s l st) (n : Nat) : State.cohRun n [l] s = s := by
  cases n with
  | zero => rfl
  | succ n =>
    unfold State.cohRun
    simp [h.free, h.served, State.cohRun_nil]

theorem SettledAt.runWaits {s : State} {l : Nat} {st : DirState} (h : SettledAt s l st) : s.runWaits = s := by
  have none_waits : (s.coh.dir.filter fun e => e.2.tx.isSome || !e.2.queue.isEmpty) = [] := by
    refine List.filter_eq_nil_iff.mpr fun e he => ?_
    obtain ⟨free, served⟩ := h.quiet e he
    simp [free, served]
  have still : s.cohAll = s := by
    unfold State.cohAll
    rw [none_waits]
    exact State.cohRun_nil _ s
  unfold State.runWaits
  rw [still]
  simp only [h.waits, List.foldl_nil]
  rw [← h.waits]

theorem State.cohRun_last {s : State} {l : Nat} {t : DirTx} (now : s.cohHeld l = false) (tx : (s.dirLine l).tx = some t) (last : t.wait = 0)
    (own : t.op ≠ 0x12) (n : Nat) : State.cohRun (n + 1) [l] s = State.cohRun n [l] (s.completeTx l) := by
  rw [State.cohRun]
  simp [now, tx, last, own]

theorem State.cohRun_request {s t : State} {l : Nat} {q : Nat × Nat × Nat} {w : List (Nat × Nat × Nat)} (now : s.cohHeld l = false)
    (free : (s.dirLine l).tx = none) (asked : (s.dirLine l).queue = q :: w)
    (applied : (s.putLine l { s.dirLine l with queue := w }).cohApply l q.1 q.2.1 q.2.2 = (true, t)) (n : Nat) :
    State.cohRun (n + 1) [l] s = State.cohRun n [l] t := by
  rw [State.cohRun]
  dsimp only
  rw [if_neg (by rw [now]; decide), free, asked]
  dsimp only
  rw [← free, applied]
  exact if_pos rfl

theorem State.cohFuel_pos (s : State) : ∃ n, s.cohFuel = n + 1 :=
  Nat.exists_eq_add_one.mpr (fold_rule (P := fun n => 0 < n) (by decide) fun _ _ h => Nat.add_pos_left h _)

/-! ### A line's last step -/

theorem AloneAt.setDir {s : State} {l : Nat} (h : AloneAt s l) (free : (s.dirLine l).tx = none) (served : (s.dirLine l).queue = [])
    (st : DirState) : SettledAt (s.setDir l st) l st :=
  AloneAt.settles (d := { s.dirLine l with st := st, used := s.coh.useNo + 1 }) ⟨h.waits, h.others⟩ free served

theorem AloneAt.answered {s : State} {l : Nat} (h : AloneAt s l) (free : (s.dirLine l).tx = none) (served : (s.dirLine l).queue = [])
    (st : DirState) (slot cm tid : Nat) : SettledAt ((s.setDir l st).homeReply l slot cm tid) l st :=
  (h.setDir free served st).sameDir (State.homeReply_sameDir _ _ _ _ _)

/-- What a line is when the transaction of a request or a write-back ends with no copy lost (R197). -/
def DirTx.leaves (t : DirTx) (st : DirState) : DirState :=
  match t.op with
  | 1 => .shared ((match st with
      | .modified o => slotMask o
      | .shared v => v
      | .invalid => 0) ||| slotMask t.asker)
  | 4 => .invalid
  | _ => .modified t.asker

/-- A transaction of a member's request or write-back. -/
abbrev DirTx.Asked (t : DirTx) : Prop := t.op = 1 ∨ t.op = 2 ∨ t.op = 3 ∨ t.op = 4

/-- The home with a transaction ended and what the owner gave back written. -/
def State.handedBack (s : State) (l : Nat) (t : DirTx) : State :=
  match t.data with
  | some x => (s.putLine l { s.dirLine l with tx := none }).homeWrite l x.1 x.2
  | none => s.putLine l { s.dirLine l with tx := none }

theorem State.handedBack_sameDir (s : State) (l : Nat) (t : DirTx) : SameDir (s.putLine l { s.dirLine l with tx := none }) (s.handedBack l t) := by
  unfold State.handedBack
  split
  · exact State.homeWrite_sameDir _ _ _ _
  · exact .refl _

theorem AloneAt.completeTx {s : State} {l : Nat} {t : DirTx} (h : AloneAt s l) (tx : (s.dirLine l).tx = some t)
    (served : (s.dirLine l).queue = []) (asked : t.Asked) (whole : t.lost = false) :
    SettledAt (s.completeTx l) l (t.leaves (s.dirLine l).st) := by
  have kept := s.handedBack_sameDir l t
  have alone : AloneAt (s.handedBack l t) l := (h.putLine _).sameDir kept
  have free : ((s.handedBack l t).dirLine l).tx = none := by rw [kept.dirLine, State.dirLine_putLine_same, DirLine.kept_tx]
  have none_waits : ((s.handedBack l t).dirLine l).queue = [] := by
    rw [kept.dirLine, State.dirLine_putLine_same, DirLine.kept_queue, served]
  unfold State.completeTx
  dsimp only
  rw [tx]
  simp only [whole, Bool.false_eq_true, if_false]
  unfold DirTx.leaves
  obtain op | op | op | op := asked
  all_goals
    rw [op]
    exact alone.answered free none_waits _ _ _ _

/-- Going on at a line whose transaction has its last answer. -/
theorem AloneAt.cohGo {s : State} {l : Nat} {t : DirTx} (h : AloneAt s l) (now : s.cohHeld l = false) (tx : (s.dirLine l).tx = some t)
    (served : (s.dirLine l).queue = []) (asked : t.Asked) (whole : t.lost = false) (last : t.wait = 0) :
    SettledAt (s.cohGo l) l (t.leaves (s.dirLine l).st) := by
  obtain ⟨n, fuel⟩ := s.cohFuel_pos
  have ended := h.completeTx tx served asked whole
  have own : t.op ≠ 0x12 := by omega
  unfold State.cohGo
  rw [fuel, State.cohRun_last now tx last own, ended.cohRun]
  exact ended

/-- The line with a transaction. -/
def State.withTx (s : State) (l : Nat) (t : DirTx) : State := s.putLine l { s.dirLine l with tx := some t }

theorem State.dirLine_withTx (s : State) (l : Nat) (t : DirTx) : (s.withTx l t).dirLine l = { s.dirLine l with tx := some t } :=
  (State.dirLine_putLine_same _ _ _).trans (if_neg fun untracked => nomatch untracked.2.1)

theorem AloneAt.withTx_cohGo {s : State} {l : Nat} {t : DirTx} (h : AloneAt s l) (now : s.cohHeld l = false)
    (served : (s.dirLine l).queue = []) (asked : t.Asked) (whole : t.lost = false) (last : t.wait = 0) :
    SettledAt ((s.withTx l t).cohGo l) l (t.leaves (s.dirLine l).st) := by
  have line := s.dirLine_withTx l t
  have alone : AloneAt (s.withTx l t) l := h.putLine _
  have settled := alone.cohGo ((s.cohHeld_putLine l l _).trans now) (by rw [line]) (by rw [line]; exact served) asked whole last
  rw [line] at settled
  exact settled

/-! ### Requests of members -/

/-- A request at an untracked line whose set has a way for it. -/
theorem State.cohApply_untracked {s : State} {l : Nat} (untracked : (s.dirLine l).st = .invalid) (room : s.setFull l = false)
    (slot tag : Nat) {op : Nat} (asks : op < 0x10) :
    s.cohApply l slot op tag = (true, (s.setDir l (if op = 1 then .shared (slotMask slot) else .modified slot)).homeReply l slot
      (if op = 1 then Cm.DATA_S else Cm.DATA_M) tag) := by
  unfold State.cohApply
  rw [untracked]
  simp only [room, if_neg (Nat.not_le.mpr asks), Bool.false_eq_true, if_false]
  split
  · rfl
  · rfl

theorem AloneAt.cohRequest {s : State} {l : Nat} (h : AloneAt s l) (now : s.cohHeld l = false) (untracked : s.dirLine l = DirLine.empty)
    (room : s.setFull l = false) (slot tag : Nat) {op : Nat} (asks : op < 0x10) :
    SettledAt (s.cohRequest l slot op tag) l (if op = 1 then .shared (slotMask slot) else .modified slot) := by
  let u := s.putLine l { DirLine.empty with queue := [(slot, op, tag)] }
  let v := u.putLine l { u.dirLine l with queue := [] }
  have line : u.dirLine l = { DirLine.empty with queue := [(slot, op, tag)] } := by
    rw [State.dirLine_putLine_same]
    rfl
  have held : u.cohHeld l = false := by rw [State.cohHeld_putLine, now]
  have full : v.setFull l = false := by rw [State.setFull_putLine, State.setFull_putLine, room]
  have bare : v.dirLine l = DirLine.empty := by
    rw [State.dirLine_putLine_same, line]
    rfl
  have alone : AloneAt v l := (h.putLine _).putLine _
  have done := alone.answered (by rw [bare]; rfl) (by rw [bare]; rfl) (if op = 1 then .shared (slotMask slot) else .modified slot) slot
    (if op = 1 then Cm.DATA_S else Cm.DATA_M) tag
  have applied := State.cohApply_untracked (s := v) (l := l) (by rw [bare]; rfl) full slot tag asks
  obtain ⟨n, fuel⟩ := u.cohFuel_pos
  have ran : State.cohRun u.cohFuel [l] u = _ :=
    fuel ▸ State.cohRun_request held (by rw [line]; rfl) (by rw [line]) applied n
  unfold State.cohRequest State.cohGo
  rw [untracked]
  change SettledAt (State.cohRun u.cohFuel [l] u) l _
  rw [ran, done.cohRun]
  exact done

theorem AloneAt.opCohReq {s : State} {src l k share op : Nat} (h : AloneAt s l) (now : s.cohHeld l = false)
    (untracked : s.dirLine l = DirLine.empty) (room : s.setFull l = false) (sender : s.cohSender src l = some k) (asks : op < 0x10)
    (granted : op = 3 ∨ s.cohRefused src share 0 l = none) (tag : Nat) :
    SettledAt (s.opCohReq src l op tag share) l (if op = 1 then .shared (slotMask k) else .modified k) := by
  have settled := h.cohRequest now untracked room k tag asks
  have free : (if op = 3 then none else s.cohRefused src share 0 l) = none := by
    obtain own | rights := granted
    · exact if_pos own
    · rw [rights]
      split <;> rfl
  unfold State.opCohReq
  rw [sender]
  dsimp only
  rw [free]
  dsimp only
  rw [settled.runWaits]
  exact settled

/-- A write-back of the owner (R197). -/
theorem AloneAt.opCohWb {s : State} {src l k share : Nat} (h : AloneAt s l) (now : s.cohHeld l = false) (owned : (s.dirLine l).st = .modified k)
    (free : (s.dirLine l).tx = none) (served : (s.dirLine l).queue = []) (sender : s.cohSender src l = some k)
    (granted : s.cohRefused src share 1 l = none) (tag : Nat) (data : List Byte) (poison : Bool) :
    SettledAt (s.opCohWb src l tag share data poison) l .invalid := by
  have back := h.withTx_cohGo (t := ⟨k, 4, tag, 0, 0, some (data, poison), false⟩) now served (.inr (.inr (.inr rfl))) rfl rfl
  have written : s.opWb l k tag data poison = (s.withTx l ⟨k, 4, tag, 0, 0, some (data, poison), false⟩).cohGo l := by
    unfold State.opWb
    dsimp only
    rw [State.not_flushing now, free]
    exact (if_neg (by decide)).trans (if_pos owned)
  unfold State.opCohWb
  rw [sender]
  dsimp only
  rw [granted]
  dsimp only
  rw [written, back.runWaits]
  exact back

/-- An eviction that leaves other holders (R197). -/
theorem AloneAt.opCohEvs {s : State} {src l k : Nat} {v : BitVec 8} (h : AloneAt s l) (held : (s.dirLine l).st = .shared v)
    (free : (s.dirLine l).tx = none) (served : (s.dirLine l).queue = []) (sender : s.cohSender src l = some k)
    (others : (v &&& ~~~slotMask k == 0) = false) : SettledAt (s.opCohEvs src l) l (.shared (v &&& ~~~slotMask k)) := by
  have off := h.setDir free served (.shared (v &&& ~~~slotMask k))
  unfold State.opCohEvs State.opEvs
  rw [sender, held]
  dsimp only
  rw [if_neg (by rw [others]; decide), off.runWaits]
  exact off

/-! ### Answers of members (R197, R199) -/

theorem slotMask_self (k : Nat) (h : k < 8) : (slotMask k).getLsbD k = true ∧ slotMask k &&& ~~~slotMask k = 0 := by
  refine ⟨?_, by simp⟩
  unfold slotMask
  rw [if_pos h]
  interval_cases k <;> decide

/-- A transaction with a member's answer noted. -/
def DirTx.noted (t : DirTx) (slot : Nat) (data : Option (List Byte × Bool)) : DirTx :=
  { t with wait := t.wait &&& ~~~slotMask slot, data := if data.isSome then data else t.data }

theorem State.memberAnswer_noted {s : State} {l slot : Nat} {t : DirTx} {data : Option (List Byte × Bool)} (tx : (s.dirLine l).tx = some t)
    (waits : t.wait.getLsbD slot = true) (own : t.op ≠ 0x13) (back : data.isSome = true ∨ (s.dirLine l).st ≠ .modified slot) :
    s.memberAnswer l slot t.sid data = s.withTx l (t.noted slot data) := by
  have whole : (data.isNone && (s.dirLine l).st == .modified slot) = false := by
    obtain some | other := back
    · rw [Option.isNone_eq_false_iff.mpr some, Bool.false_and]
    · rw [beq_eq_false_iff_ne.mpr other, Bool.and_false]
  unfold State.memberAnswer
  dsimp only
  rw [tx]
  dsimp only
  rw [beq_eq_false_iff_ne.mpr own, Bool.not_false, Bool.true_and, whole, waits, if_neg (by simp), Bool.or_false]
  rfl

/-- The last answer to a transaction comes, with the line when its sender owns it. -/
theorem AloneAt.lastAnswer {s : State} {l k : Nat} {t : DirTx} {data : Option (List Byte × Bool)} (h : AloneAt s l)
    (now : s.cohHeld l = false) (tx : (s.dirLine l).tx = some t) (served : (s.dirLine l).queue = []) (asked : t.Asked)
    (whole : t.lost = false) (slot : k < 8) (last : t.wait = slotMask k) (back : data.isSome = true ∨ (s.dirLine l).st ≠ .modified k) :
    SettledAt ((s.memberAnswer l k t.sid data).cohGo l) l (t.leaves (s.dirLine l).st) := by
  obtain ⟨waits, none_left⟩ := slotMask_self k slot
  have other : t.op ≠ 0x13 := by omega
  have settled := h.withTx_cohGo (t := t.noted k data) now served asked whole (by unfold DirTx.noted; rw [last, none_left])
  rw [State.memberAnswer_noted tx (by rw [last, waits]) other back]
  exact settled

theorem AloneAt.opCohAnswer {s : State} {src l k : Nat} {t : DirTx} {data : Option (List Byte × Bool)} (h : AloneAt s l)
    (now : s.cohHeld l = false) (tx : (s.dirLine l).tx = some t) (served : (s.dirLine l).queue = []) (asked : t.Asked)
    (whole : t.lost = false) (slot : k < 8) (last : t.wait = slotMask k) (back : data.isSome = true ∨ (s.dirLine l).st ≠ .modified k)
    (sender : s.cohSender src l = some k) : SettledAt (s.opCohAnswer src l t.sid data) l (t.leaves (s.dirLine l).st) := by
  have settled := h.lastAnswer now tx served asked whole slot last back
  unfold State.opCohAnswer
  rw [sender]
  dsimp only
  rw [settled.runWaits]
  exact settled

theorem State.err_sameDir (s : State) (b : Nat) (i : ErrInfo) : SameDir s (s.err Page.coh b i) :=
  have fr : Frame 0x10800c000200 s (s.err Page.coh b i) := State.err_frame (by unfold Covers; decide) (.refl _ s) (by unfold Covers; decide)
  .of_frame fr rfl

/-- A member that does not answer in time holds no copy. -/
theorem AloneAt.opCohTimeout {s : State} {l k : Nat} {t : DirTx} (h : AloneAt s l) (now : s.cohHeld l = false)
    (tx : (s.dirLine l).tx = some t) (served : (s.dirLine l).queue = []) (asked : t.Asked) (whole : t.lost = false) (slot : k < 8)
    (last : t.wait = slotMask k) (other : (s.dirLine l).st ≠ .modified k) (noFlush : s.coh.flushWait.getLsbD k = false) :
    SettledAt (s.opCohTimeout l k) l (t.leaves (s.dirLine l).st) := by
  have told := s.err_sameDir Err.coh.COH_TIMEOUT { place := l * 64, placeKind := 1 }
  have line := told.dirLine l
  have settled := (h.sameDir told).lastAnswer (data := none) ((s.cohHeld_err l _ _).trans now) (by rw [line, tx]) (by rw [line, served]) asked whole slot
    last (.inr (by rw [line]; exact other))
  rw [line] at settled
  unfold State.opCohTimeout
  rw [noFlush, tx]
  dsimp only
  rw [last, (slotMask_self k slot).1, settled.runWaits]
  exact settled

/-! ### Snoops at a member (R485) -/

/-- A snoop is offered to the compute under a fresh identifier. -/
theorem State.snoopCompute_offers (s : State) (home cm tid addr : Nat) :
    (s.snoopCompute home cm tid addr).out =
      s.out ++ [.snoop (if cm = Cm.INV then 1 else if cm = Cm.SNP_S then 2 else if cm = Cm.SNP_I then 3 else 4) addr s.coh.nextTid] ∧
    SMap.find? (s.snoopCompute home cm tid addr).coh.snoops s.coh.nextTid = some (home, cm, tid, addr) := by
  unfold State.snoopCompute
  dsimp only
  rw [State.emit_out _ _ rfl]
  exact ⟨rfl, (SMap.find?_set _ _ _ _).trans (if_pos rfl)⟩

theorem State.opMemberSnoop_offers {s : State} (ready : s.computeReset = false) (src cm tag addr : Nat) :
    s.opMemberSnoop src cm tag addr = s.snoopCompute src cm tag addr := by
  unfold State.opMemberSnoop
  rw [ready]
  exact if_neg (by decide)

/-- The answer of the compute to a snoop of another home is sent there. -/
theorem State.snoopAnswered_far {s : State} {tid home cm tag addr : Nat} (asked : SMap.find? s.coh.snoops tid = some (home, cm, tag, addr))
    (far : s.selfRank ≠ some home) (data : Option (List Byte)) :
    s.snoopAnswered tid data =
      let t : State := { s with coh := { s.coh with snoops := SMap.erase s.coh.snoops tid } }
      if cm = Cm.HERD_FLUSH then t.sendCoh home 0 Cm.FLUSH_DONE false tag addr []
      else if cm = Cm.INV then t.sendCoh home 0 Cm.INV_ACK false tag addr []
      else t.sendCoh home 0 Cm.SNP_RSP data.isNone tag addr (data.getD []) := by
  unfold State.snoopAnswered
  rw [asked]
  exact if_neg far

/-! ### The herd's commands (R195, R199) -/

/-- A command register of the COH page, written by a party with the right to. -/
theorem State.action_coh {s : State} {p : Party} (f : State → State) (hr : s.boot.phase = .running) (mount : s.boot.post = false)
    (hw : mayWrite p Page.coh = true) : s.action p Page.coh f = .next (f s) :=
  s.action_acts p _ f (by simp [State.released, hr]) (congrArg (!·) mount) (by simp [State.pageUp, State.up_of_running hr]) hw

theorem State.opCohEnable_refused {s : State} (off : s.rdb Page.coh Reg.COH_STATUS.ACTIVE = false) (bad : s.herdCode ≠ 0) :
    s.opCohEnable = (s.wr Page.coh Reg.COH_STATUS.CFG_REFUSE s.herdCode).err Page.coh Err.coh.CFG_REFUSED { detail := s.herdCode } := by
  unfold State.opCohEnable
  rw [off]
  exact if_neg bad

theorem State.opCohEnable_acts {s : State} (off : s.rdb Page.coh Reg.COH_STATUS.ACTIVE = false) (good : s.herdCode = 0) :
    s.opCohEnable = ((s.wr Page.coh Reg.COH_CTRL.EN 1).wr Page.coh Reg.COH_STATUS.ACTIVE 1).wr Page.coh Reg.COH_STATUS.CFG_REFUSE 0 := by
  unfold State.opCohEnable
  rw [off]
  exact if_pos good

theorem State.opCohDisable_off {s : State} (off : s.rdb Page.coh Reg.COH_STATUS.ACTIVE = false) :
    s.opCohDisable = s.wr Page.coh Reg.COH_CTRL.EN 0 := by
  have still : (s.wr Page.coh Reg.COH_CTRL.EN 0).rdb Page.coh Reg.COH_STATUS.ACTIVE = false :=
    (congrArg (· != 0) (State.rd_wr_apart _ _ _ (by decide) (by decide))).trans off
  unfold State.opCohDisable
  dsimp only
  rw [still]
  rfl

/-! ### The home's answers at the member that asked (R195) -/

theorem State.ownCoh_asked {s : State} {tid port tag gen : Nat} (asked : SMap.find? s.coh.reqs tid = some (port, tag, gen)) (status : Nat)
    (data : List Byte) (poison : Nat) : s.ownCoh tid status data poison =
      ({ s with coh := { s.coh with reqs := SMap.erase s.coh.reqs tid } } : State).dcpAnswer port tag gen status data poison := by
  unfold State.ownCoh
  rw [asked]

end Sys2Proof.Machine
end

section
/-! The herd's obligation, from the lemmas about a line that is alone. -/

namespace Sys2Proof.Machine

/-- Settles O12: each message finds its line alone, and leaves it settled. -/
theorem coherenceCommandsComplete : Obligations.CoherenceCommandsComplete := by
  unfold Obligations.CoherenceCommandsComplete
  refine ⟨?request, ?writeBack, ?evict, ?answer, ?snoop, ?lastInv, ?lastData, ?flush, ?answered, ?enable⟩
  case request =>
    intro src tag l share k s mount sender now waits untracked room quiet
    have alone := AloneAt.of_all waits quiet
    refine ⟨fun granted => ⟨_, guarded_of _ s (fun s => s.opCohReq src l 1 tag share) mount, ?_⟩,
      fun granted => ⟨_, guarded_of _ s (fun s => s.opCohReq src l 2 tag share) mount, ?_⟩,
      ⟨_, guarded_of _ s (fun s => s.opCohReq src l 3 tag 0) mount, ?_⟩⟩
    · have settled := alone.opCohReq now untracked room sender (by decide : 1 < 0x10) (.inr granted) tag
      exact ⟨settled.stands, settled.free⟩
    · have settled := alone.opCohReq now untracked room sender (by decide : 2 < 0x10) (.inr granted) tag
      exact ⟨settled.stands, settled.free⟩
    · have settled := alone.opCohReq (share := 0) now untracked room sender (by decide : 3 < 0x10) (.inl rfl) tag
      exact ⟨settled.stands, settled.free⟩
  case writeBack =>
    intro src tag l share k u data poison s mount sender now waits granted quiet line
    have settled := (AloneAt.of_all waits quiet).opCohWb now (by rw [line]) (by rw [line]) (by rw [line]) sender granted tag data poison
    exact ⟨_, guarded_of _ s (fun s => s.opCohWb src l tag share data poison) mount, settled.stands⟩
  case evict =>
    intro src tag l k u v s mount sender waits quiet line others
    have settled := (AloneAt.of_all waits quiet).opCohEvs (by rw [line]) (by rw [line]) (by rw [line]) sender others
    exact ⟨_, guarded_of _ s (fun s => s.opCohEvs src l) mount, settled.stands⟩
  case answer =>
    intro src tag status port dt gen data poison s mount asked
    have own (data : List Byte) (poison : Nat) := guarded_of _ s (fun s => s.ownCoh tag status data poison) mount
    have answer (data : List Byte) (poison : Nat) := (own data poison).trans (congrArg Host.Outcome.next (State.ownCoh_asked asked status data poison))
    exact ⟨answer data poison, rfl, answer [] 0, rfl⟩
  case snoop =>
    intro src tag l s mount ready
    have offers (cm addr : Nat) : ∃ t, guarded s.mount s (fun s => s.opMemberSnoop src cm tag addr) = .next t ∧
        t.out = s.out ++ [.snoop (if cm = Cm.INV then 1 else if cm = Cm.SNP_S then 2 else if cm = Cm.SNP_I then 3 else 4) addr s.coh.nextTid] ∧
        SMap.find? t.coh.snoops s.coh.nextTid = some (src, cm, tag, addr) :=
      ⟨_, guarded_of _ _ _ mount, by rw [State.opMemberSnoop_offers ready]; exact s.snoopCompute_offers src cm tag addr⟩
    exact ⟨offers Cm.INV _, offers Cm.SNP_S _, offers Cm.SNP_I _, offers Cm.HERD_FLUSH _⟩
  case lastInv =>
    intro src tag l k u a q v s mount sender slot waits now quiet line
    have alone := AloneAt.of_all waits quiet
    refine ⟨⟨_, guarded_of _ s (fun s => s.opCohAnswer src l tag none) mount, ?_⟩,
      fun noFlush => ⟨_, guarded_of _ s (State.opCohTimeout l k) mount, ?_⟩⟩
    · have settled := alone.opCohAnswer (data := none) now (by rw [line]) (by rw [line]) (.inr (.inl rfl)) rfl slot rfl (.inr (by simp [line])) sender
      exact ⟨settled.stands, settled.free⟩
    · have settled := alone.opCohTimeout now (by rw [line]) (by rw [line]) (.inr (.inl rfl)) rfl slot rfl (by simp [line]) noFlush
      exact ⟨settled.stands, settled.free⟩
  case lastData =>
    intro src tag l k u a q b poison s mount sender slot waits now quiet line
    have settled := (AloneAt.of_all waits quiet).opCohAnswer (data := some (b, poison)) now (by rw [line]) (by rw [line]) (.inl rfl) rfl slot rfl
      (.inl rfl) sender
    refine ⟨_, guarded_of _ s (fun s => s.opCohAnswer src l tag (some (b, poison))) mount, ?_, settled.free⟩
    rw [settled.stands, line]
    rfl
  case flush =>
    intro src tag k s mount member waited
    refine (guarded_of _ s (State.opFlushDone src) mount).trans (congrArg Host.Outcome.next ?_)
    unfold State.opFlushDone
    rw [member]
    exact if_pos waited
  case answered =>
    intro tid home tag addr data s mount ready far
    have up : (s.mount && !s.computeReset) = true := by rw [mount, ready]; rfl
    have sent {cm : Nat} (asked : SMap.find? s.coh.snoops tid = some (home, cm, tag, addr)) (data : Option (List Byte)) :=
      (guarded_of _ s (fun s => s.snoopAnswered tid data) up).trans (congrArg Host.Outcome.next (State.snoopAnswered_far asked far data))
    exact ⟨fun asked => sent asked none, fun asked => sent asked data, fun asked => sent asked none⟩
  case enable =>
    intro p s running right mount off
    exact ⟨fun good => (State.action_coh _ running mount right).trans (congrArg Host.Outcome.next (State.opCohEnable_acts off good)),
      fun bad => (State.action_coh _ running mount right).trans (congrArg Host.Outcome.next (State.opCohEnable_refused off bad)),
      (State.action_coh _ running mount right).trans (congrArg Host.Outcome.next (State.opCohDisable_off off))⟩

end Sys2Proof.Machine
end

section
/-! Transactional regions: which half of an entry an access reaches. -/

namespace Sys2Proof.Machine

/-- Where the working half of a transactional entry begins in a step (R222). -/
def RatEntry.workHalf (e : RatEntry) (step : Nat) : Nat := if step % 2 = 0 then e.base else e.base + e.size / 2

/-- Where the visible half begins. -/
def RatEntry.seenHalf (e : RatEntry) (step : Nat) : Nat := if step % 2 = 0 then e.base + e.size / 2 else e.base

/-- The next step makes the working half visible. -/
theorem RatEntry.seenHalf_succ (e : RatEntry) (step : Nat) : e.seenHalf (step + 1) = e.workHalf step := by
  unfold RatEntry.seenHalf RatEntry.workHalf
  by_cases even : step % 2 = 0
  · have odd : (step + 1) % 2 ≠ 0 := by omega
    rw [if_pos even, if_neg odd]
  · have next : (step + 1) % 2 = 0 := by omega
    rw [if_neg even, if_pos next]

/-- The two halves share no byte. -/
theorem RatEntry.seenHalf_apart (e : RatEntry) (step : Nat) {i j : Nat} (hi : i < e.size / 2) (hj : j < e.size / 2) :
    e.seenHalf step + i ≠ e.workHalf step + j := by
  unfold RatEntry.seenHalf RatEntry.workHalf
  split <;> omega

section
variable {s : State} {slot off : Nat} {e : RatEntry} (found : s.ratFind off = some (slot, e)) (tx : e.tx = true)
include found tx

/-- A read of the visible window goes to the visible half (R222, R251). -/
theorem State.mapTx_visible (window : off < e.base + e.size / 2) :
    s.mapTx 0 off = e.seenHalf s.sync.step + (off - e.base) % (e.size / 2) := by
  unfold State.mapTx
  simp [found, tx, window, RatEntry.seenHalf]

/-- Every other access goes to the working half. -/
theorem State.mapTx_working {k : Nat} (other : ¬(off < e.base + e.size / 2 ∧ k = 0)) :
    s.mapTx k off = e.workHalf s.sync.step + (off - e.base) % (e.size / 2) := by
  unfold State.mapTx
  simp only [found, tx, Bool.not_true, Bool.false_eq_true, if_false, if_neg other, RatEntry.workHalf]

end

/-- Settles O38: an access is mapped by its window and kind, and the halves, which share no byte, trade places with each step. -/
theorem transactionalEntryMapsToItsHalves : Obligations.TransactionalEntryMapsToItsHalves := by
  unfold Obligations.TransactionalEntryMapsToItsHalves
  intro slot off e s found tx room half w work seen next
  refine ⟨?window, ?working, ?apart⟩
  case window =>
    intro window
    have write : s.mapTx 1 off = work + w := State.mapTx_working found tx (by simp)
    have later : next.mapTx 0 off = e.seenHalf (s.sync.step + 1) + w := State.mapTx_visible (s := next) found tx window
    refine ⟨State.mapTx_visible found tx window, write, State.mapTx_working found tx (by simp), ?_⟩
    rw [later, write, RatEntry.seenHalf_succ]
    rfl
  case working =>
    intro above
    have other (k : Nat) : ¬(off < e.base + e.size / 2 ∧ k = 0) := fun h => absurd h.1 (Nat.not_lt.mpr above)
    exact ⟨State.mapTx_working found tx (other 0), State.mapTx_working found tx (other 1), State.mapTx_working found tx (other 2)⟩
  case apart =>
    intro off' window found'
    rw [State.mapTx_visible found tx window, State.mapTx_working found' tx (by simp)]
    exact e.seenHalf_apart s.sync.step (Nat.mod_lt _ room) (Nat.mod_lt _ room)

end Sys2Proof.Machine
end

section
/-! Hitch counters and member releases: what the meaning of each of these commands leads to. -/

namespace Sys2Proof.Machine

/-! ### Access to a counter (R50, R233) -/

/-- No injected COUNTER_CHECK awaits the counter: an access finds it as it is. -/
theorem State.touchCtr_unarmed {s : State} {hid : Nat} (h : s.armedAt Page.hitch Err.hitch.COUNTER_CHECK ≠ some hid) :
    s.touchCtr hid = s := if_neg h

/-- What counters keep and send leaves the role. -/
theorem State.closeOcc_actHeld_boot (s : State) (hid : Nat) : ((s.closeOcc hid).actHeld hid).boot = s.boot :=
  (State.actHeld_frame (M := 0x1164804d0123a0) rfl (State.closeOcc_frame rfl (.refl _ s))).same .boot rfl

theorem State.sendHitches_boot (s : State) (ports : List Nat) (r : HitchRec) : (s.sendHitches ports r).boot = s.boot :=
  (State.sendHitches_frame (M := 0x1124800d0023a0) rfl (.refl _ s)).same .boot rfl

/-! ### Frames at a counter (R219, R221) -/

section
variable {s : State} {port : Nat} {r : HitchRec} (unarmed : s.armedAt Page.hitch Err.hitch.COUNTER_CHECK ≠ some r.hid)
  (on : s.rdb Page.hitch Reg.HITCH_CTRL.EN = true) (valid : (s.ctr r.hid).valid = true)
include unarmed on valid

theorem State.opArrive_recorded (child : (s.ctr r.hid).children.getLsbD port = true) (epoch : r.epoch = (s.ctr r.hid).epoch)
    (expected : (s.ctr r.hid).state = .idle ∨ ((s.ctr r.hid).state = .collecting ∧ (s.ctr r.hid).arrived.getLsbD port = false)) :
    State.opArrive port r s = (s.recordArrival r.hid port r.ok r.cause r.lost).advanceCtr r.hid := by
  have current : r.epoch = (s.ctr r.hid).epoch ∧
      ((s.ctr r.hid).state = .idle ∨ ((s.ctr r.hid).state = .collecting ∧ (!(s.ctr r.hid).arrived.getLsbD port) = true)) :=
    ⟨epoch, expected.imp_right fun h => ⟨h.1, by rw [h.2]; rfl⟩⟩
  unfold State.opArrive
  rw [State.touchCtr_unarmed unarmed]
  dsimp only
  rw [on, valid, child, if_neg (by decide), if_pos current]

theorem State.opCounterRelease_forwards (waits : (s.ctr r.hid).state = .waitRel) (parent : (s.ctr r.hid).parent = port)
    (epoch : r.epoch = (s.ctr r.hid).epoch) :
    State.opCounterRelease port r s =
      ((s.sendHitches ((maskPorts (s.ctr r.hid).children).filter s.portUp) r).closeOcc r.hid).actHeld r.hid := by
  unfold State.opCounterRelease
  rw [State.touchCtr_unarmed unarmed]
  dsimp only
  rw [on, valid, waits, parent, epoch]
  exact if_neg (by simp)

theorem State.opLeave_found : State.opLeave port r s =
    if (s.ctr r.hid).state = .idle then s.keepKids r.hid (s.ctr r.hid) ((s.ctr r.hid).children &&& ~~~portMask port)
    else if (s.ctr r.hid).state = .heldForMembers then
      s.setCtr r.hid { s.ctr r.hid with children := (s.ctr r.hid).children &&& ~~~portMask port }
    else s.setCtr r.hid { s.ctr r.hid with leaving := (s.ctr r.hid).leaving ||| portMask port } := by
  unfold State.opLeave
  rw [State.touchCtr_unarmed unarmed]
  dsimp only
  rw [on, valid, if_neg (by decide)]

theorem State.opLeave_idle (idle : (s.ctr r.hid).state = .idle) :
    State.opLeave port r s = s.keepKids r.hid (s.ctr r.hid) ((s.ctr r.hid).children &&& ~~~portMask port) := by
  rw [State.opLeave_found unarmed on valid, if_pos idle]

theorem State.opLeave_held (held : (s.ctr r.hid).state = .heldForMembers) : State.opLeave port r s =
    s.setCtr r.hid { s.ctr r.hid with children := (s.ctr r.hid).children &&& ~~~portMask port } := by
  rw [State.opLeave_found unarmed on valid, if_neg (by simp [held]), if_pos held]

/-- While an occurrence is under way, the child goes when it ends. -/
theorem State.opLeave_later (under : (s.ctr r.hid).state = .collecting ∨ (s.ctr r.hid).state = .waitRel) : State.opLeave port r s =
    s.setCtr r.hid { s.ctr r.hid with leaving := (s.ctr r.hid).leaving ||| portMask port } := by
  obtain h | h := under
  all_goals rw [State.opLeave_found unarmed on valid, if_neg (by simp [h]), if_neg (by simp [h])]

end

/-- Children remain: the counter stays with its parent. -/
theorem State.keepKids_some (s : State) (hid : Nat) (c : HitchCtr) {kids : BitVec 64} (remain : kids ≠ 0) :
    s.keepKids hid c kids = s.setCtr hid { c with children := kids } := by
  unfold State.keepKids
  rw [beq_eq_false_iff_ne.mpr remain]
  rfl

/-- The last child of a counter that is not the root has left: the counter leaves its parent. -/
theorem State.keepKids_none (s : State) (hid : Nat) (c : HitchCtr) (had : c.children ≠ 0) (notRoot : c.root = false) :
    s.keepKids hid c 0 = (s.setCtr hid { c with children := 0 }).sendHitch c.parent 0 (HitchRec.blank 6 hid c.epoch) := by
  have last : ((0 : BitVec 64) == 0 && c.children != 0 && !c.root) = true := by rw [bne_iff_ne.mpr had, notRoot]; rfl
  exact if_pos last

/-- A timeout marks the children that are missing, or abandons the release (R219). -/
theorem execHitchTimeout_acts {s : State} {hid : Nat} (serving : s.serving = true) (post : s.boot.post = true)
    (valid : (s.ctr hid).valid = true) (unarmed : s.armedAt Page.hitch Err.hitch.COUNTER_CHECK ≠ some hid) :
    let c := s.ctr hid
    (c.state = .collecting → execHitchTimeout hid s = .next (((s.setCtr hid
      { c with timedOut := c.children &&& ~~~(c.arrived ||| c.lostNow) }).err Page.hitch Err.hitch.TIMEOUT).advanceCtr hid)) ∧
    (c.state = .waitRel → execHitchTimeout hid s = .next (s.abandonRel hid)) := by
  have acts : (s.serving && s.boot.post && (s.ctr hid).valid) = true := by rw [serving, post, valid]; rfl
  refine ⟨fun collecting => (guarded_of _ s _ acts).trans ?_, fun waits => (guarded_of _ s _ acts).trans ?_⟩
  · rw [State.touchCtr_unarmed unarmed]
    simp only [collecting]
  · rw [State.touchCtr_unarmed unarmed]
    simp only [waits]

/-! ### At a member (R224, R225) -/

section
variable {s : State} {r : HitchRec}

/-- The release that a member waits for, of a hitch that is not the commit hitch. -/
theorem State.memberRelease_plain (joined : s.joined r.hid = true) (plain : joinCommit (s.joinOf r.hid) = false)
    (epoch : r.epoch = s.epochOf r.hid) (waits : (SMap.find? s.sync.waiting r.hid).isSome = true) :
    s.memberRelease r = s.plainRelease r.hid := by
  have awaited : (SMap.find? s.sync.waiting r.hid).isNone = false := Option.isNone_eq_false_iff.mpr waits
  unfold State.memberRelease
  rw [joined, plain, epoch, awaited]
  simp

/-- A member that has not arrived ahead waits no longer. -/
theorem State.plainRelease_last {hid : Nat} (gone : SMap.getD s.sync.ahead 0 hid = 0) :
    s.plainRelease hid = ({ s with sync := { s.sync with
      waiting := SMap.erase s.sync.waiting hid, ahead := SMap.put s.sync.ahead 0 hid 0
      epochs := SMap.put s.sync.epochs 0 hid ((s.epochOf hid + 1) % 65536) } } : State).releaseFence (s.joinOf hid) false := by
  unfold State.plainRelease
  dsimp only
  rw [gone]
  rfl

/-- An answer that decides the step under way. -/
theorem State.opAnswer_decides (knows : r.cause ≠ 5) (hid : r.hid = s.sync.commitHid) (epoch : r.epoch = s.commitEpoch)
    (undecided : s.sync.stepState = .deciding ∨ s.sync.stepState = .inDoubt) : State.opAnswer r s = s.applyDecision r.ok r.cause := by
  unfold State.opAnswer
  rw [if_neg knows, if_pos ⟨hid, epoch, undecided⟩]

/-- An anchor whose record has the decision gives it. -/
theorem State.opQuery_found {port : Nat} {h : Nat × Bool × Nat}
    (found : (s.sync.history.find? fun h => h.1 == r.epoch && r.hid == s.sync.commitHid) = some h) :
    State.opQuery port r s = s.sendHitch port r.origin { HitchRec.blank 4 r.hid r.epoch with
      dtNs := r.dtNs, origin := r.origin, ok := h.2.1, cause := if h.2.2 = 5 then 0 else h.2.2 } := by
  unfold State.opQuery
  simp only [found]

theorem State.opQuery_unknown {port : Nat}
    (unknown : (s.sync.history.find? fun h => h.1 == r.epoch && r.hid == s.sync.commitHid) = none) :
    State.opQuery port r s = s.sendHitch port r.origin { HitchRec.blank 4 r.hid r.epoch with
      dtNs := r.dtNs, origin := r.origin, cause := 5 } := by
  unfold State.opQuery
  simp only [unknown]

/-- A stop that the block has not seen is forwarded and armed. -/
theorem State.opStop_new {port : Nat} (new : (r.origin, r.event) ∉ s.sync.seenStops)
    (on : s.boot.post = false ∨ s.rdb Page.hitch Reg.HITCH_CTRL.EN = true) :
    let u : State := { s with sync := { s.sync with seenStops := ((r.origin, r.event) :: s.sync.seenStops).take 16 } }
    State.opStop port r s = (u.sendHitches (s.upPorts.filter (· != port)) r).armStop r.dtNs := by
  have listens : (s.boot.post && !s.rdb Page.hitch Reg.HITCH_CTRL.EN) = false := by
    obtain mount | enabled := on
    · rw [mount, Bool.false_and]
    · rw [enabled, Bool.not_true, Bool.and_false]
  have unseen : s.sync.seenStops.contains (r.origin, r.event) = false := by simpa using new
  unfold State.opStop
  rw [listens, unseen]
  rfl

end

/-! ### The counter commands (R221, R232) -/

/-- A command register of the HITCH page, written by a party with the right to. -/
theorem State.action_hitch {s : State} {p : Party} (f : State → State) (running : s.boot.phase = .running) (post : s.boot.post = true)
    (right : mayWrite p Page.hitch = true) : s.action p Page.hitch f = .next (f s) :=
  s.action_acts p _ f (by simp [State.released, running]) post (by simp [State.pageUp, State.up_of_running running]) right

section
variable {s : State} (unarmed : s.armedAt Page.hitch Err.hitch.COUNTER_CHECK ≠ some s.hitchSel)
include unarmed

theorem State.opHitchWrite_stores (idle : (s.ctr s.hitchSel).state = .idle) (named : s.hitchWin 0 ≠ 0)
    (good : s.badChildren (s.hitchWin 0) (bits (s.hitchWin 1) 2 6) (bit (s.hitchWin 1) 1) = false)
    (clear : bits (s.hitchWin 1) 30 34 = 0) :
    s.opHitchWrite = (s.setCtr s.hitchSel { s.ctr s.hitchSel with
      valid := bit (s.hitchWin 1) 0, root := bit (s.hitchWin 1) 1, parent := bits (s.hitchWin 1) 2 6
      children := BitVec.ofNat 64 (s.hitchWin 0) }).hitchCode 0 := by
  unfold State.opHitchWrite
  dsimp only
  rw [State.touchCtr_unarmed unarmed, if_neg (by simp [idle]), if_neg named, if_neg (by simp [good]), if_neg (by simp [clear])]

theorem State.opHitchClear_clears : s.opHitchClear =
    let c := s.ctr s.hitchSel
    let u := s.setCtr s.hitchSel { c.rest with state := .idle, epoch := 0, held := [], leaving := 0, withdrawn := false }
    (if c.state = .heldForMembers then u.endHeld else u).hitchCode 0 := by
  unfold State.opHitchClear
  rw [State.touchCtr_unarmed unarmed]

theorem State.opMemberSet_sets (held : (s.ctr s.hitchSel).state = .heldForMembers) (named : s.hitchWin 0 ≠ 0)
    (good : s.badChildren (s.hitchWin 0) (s.ctr s.hitchSel).parent (s.ctr s.hitchSel).root = false) :
    s.opMemberSet = ((((s.setCtr s.hitchSel { (s.ctr s.hitchSel).rest with
      state := .idle, children := BitVec.ofNat 64 (s.hitchWin 0) }).actHeld s.hitchSel).endHeld).hitchCode 0) := by
  unfold State.opMemberSet
  dsimp only
  rw [State.touchCtr_unarmed unarmed, if_neg (by simp [held]), if_neg named, if_neg (by simp [good])]

end

/-- Word `k` of the window holds `v`. -/
def State.putHitchWin (s : State) (k v : Nat) : State :=
  (s.wr Page.hitch Reg.HITCH_WINw.DATA (v % 2 ^ 32) (2 * k)).wr Page.hitch Reg.HITCH_WINw.DATA (v / 2 ^ 32) (2 * k + 1)

theorem State.putHitchWin_sync (s : State) (k v : Nat) : (s.putHitchWin k v).sync = s.sync := rfl

theorem State.hitchCode_sync (s : State) (c : Nat) : (s.hitchCode c).sync = s.sync := rfl

theorem hitchWinData_at {i : Nat} (h : i < 8) : Reg.HITCH_WINw.DATA.at_ Page.hitch i = Page.hitch.base + 0x100 + i * 4 := by
  unfold Field.at_
  rw [show Reg.HITCH_WINw.DATA.n = 8 from rfl, Nat.mod_eq_of_lt h]
  rfl

/-- One register of the window is written; another is not. -/
theorem State.rd_hitchWin_other (s : State) (v : Nat) {i j : Nat} (hi : i < 8) (hj : j < 8) (h : j ≠ i) :
    (s.wr Page.hitch Reg.HITCH_WINw.DATA v i).rd Page.hitch Reg.HITCH_WINw.DATA j = s.rd Page.hitch Reg.HITCH_WINw.DATA j :=
  State.rd_wr_other _ _ _ _ _ _ _ _ (by rw [hitchWinData_at hi, hitchWinData_at hj]; omega)

theorem State.hitchWin_putHitchWin_same (s : State) (v : Nat) {k : Nat} (hk : k < 4) : (s.putHitchWin k v).hitchWin k = v % 2 ^ 64 := by
  have low : (s.putHitchWin k v).rd Page.hitch Reg.HITCH_WINw.DATA (2 * k) = v % 2 ^ 32 % 2 ^ 32 :=
    (State.rd_hitchWin_other _ _ (by omega) (by omega) (by omega)).trans (State.rd_wr_same _ _ _ _ _ (by decide))
  have high : (s.putHitchWin k v).rd Page.hitch Reg.HITCH_WINw.DATA (2 * k + 1) = v / 2 ^ 32 % 2 ^ 32 :=
    State.rd_wr_same _ _ _ _ _ (by decide)
  unfold State.hitchWin
  rw [low, high]
  omega

theorem State.hitchWin_putHitchWin_other (s : State) (v : Nat) {j k : Nat} (hj : j < 4) (hk : k < 4) (h : j ≠ k) :
    (s.putHitchWin k v).hitchWin j = s.hitchWin j := by
  have kept {i : Nat} (hi : i < 8) (low : i ≠ 2 * k) (high : i ≠ 2 * k + 1) :
      (s.putHitchWin k v).rd Page.hitch Reg.HITCH_WINw.DATA i = s.rd Page.hitch Reg.HITCH_WINw.DATA i :=
    (State.rd_hitchWin_other _ _ (by omega) hi high).trans (State.rd_hitchWin_other _ _ (by omega) hi low)
  unfold State.hitchWin
  rw [kept (by omega) (by omega) (by omega), kept (by omega) (by omega) (by omega)]

theorem State.hitchWin_hitchCode (s : State) (c : Nat) {k : Nat} (hk : k < 4) : (s.hitchCode c).hitchWin k = s.hitchWin k := by
  have kept {i : Nat} (hi : i < 8) :
      (s.hitchCode c).rd Page.hitch Reg.HITCH_WINw.DATA i = s.rd Page.hitch Reg.HITCH_WINw.DATA i := by
    have other (f : Field) (hf : f.at_ Page.hitch 0 < Page.hitch.base + 0x100) :
        Reg.HITCH_WINw.DATA.at_ Page.hitch i ≠ f.at_ Page.hitch 0 := by rw [hitchWinData_at hi]; omega
    exact (State.rd_wr_other _ _ _ _ _ _ _ _ (other _ (by decide))).trans (State.rd_wr_other _ _ _ _ _ _ _ _ (other _ (by decide)))
  unfold State.hitchWin
  rw [kept (by omega), kept (by omega)]

/-- READ fills the window with the selected counter's words. -/
theorem State.opHitchRead_fills {s : State} (unarmed : s.armedAt Page.hitch Err.hitch.COUNTER_CHECK ≠ some s.hitchSel) :
    let c := s.ctr s.hitchSel
    s.opHitchRead = ((((s.putHitchWin 0 c.children.toNat).putHitchWin 1 c.word1).putHitchWin 2 c.lostNow.toNat).putHitchWin 3
      c.arrived.toNat).hitchCode 0 := by
  unfold State.opHitchRead
  rw [State.touchCtr_unarmed unarmed]
  simp only [show List.range 4 = [0, 1, 2, 3] from rfl, List.foldl_cons, List.foldl_nil, State.putHitchWin, List.getD_cons_zero,
    List.getD_cons_succ]

theorem State.opHitchRead_shows {s : State} (unarmed : s.armedAt Page.hitch Err.hitch.COUNTER_CHECK ≠ some s.hitchSel) :
    let c := s.ctr s.hitchSel
    s.opHitchRead.hitchWin 0 = c.children.toNat ∧ s.opHitchRead.hitchWin 1 = c.word1 % 2 ^ 64 ∧
      s.opHitchRead.hitchWin 2 = c.lostNow.toNat ∧ s.opHitchRead.hitchWin 3 = c.arrived.toNat ∧ s.opHitchRead.sync = s.sync := by
  intro c
  have word (v : BitVec 64) : v.toNat % 2 ^ 64 = v.toNat := Nat.mod_eq_of_lt v.isLt
  rw [State.opHitchRead_fills unarmed]
  simp (disch := decide) only [State.hitchWin_hitchCode, State.hitchWin_putHitchWin_same, State.hitchWin_putHitchWin_other, word]
  exact ⟨rfl, rfl, rfl, rfl, by rw [State.hitchCode_sync, State.putHitchWin_sync, State.putHitchWin_sync, State.putHitchWin_sync,
    State.putHitchWin_sync]⟩

/-! ### The statement -/

/-- Settles O16: no injected error awaits the counter, so that each frame and each command finds it as it stands. -/
theorem hitchCommandsComplete : Obligations.HitchCommandsComplete := by
  unfold Obligations.HitchCommandsComplete
  refine ⟨?arrive, ?release, ?member, ?leave, ?timeout, ?query, ?answer, ?stop, ?commands⟩
  case arrive =>
    intro port r s serving post up on valid child epoch unarmed expected
    have acts : (s.serving && s.boot.post && s.portUp port) = true := by rw [serving, post, up]; rfl
    exact (guarded_of _ s (State.opArrive port r) acts).trans
      (congrArg Host.Outcome.next (State.opArrive_recorded unarmed on valid child epoch expected))
  case release =>
    intro port r s serving post up on valid waits parent epoch unarmed
    have acts : (s.serving && s.portUp port) = true := by rw [serving, up]; rfl
    refine (guarded_of _ s (fun s => (State.opRelease port r s).fabGo) acts).trans (congrArg Host.Outcome.next ?_)
    have forwards : State.opRelease port r s = _ :=
      (if_pos post).trans (State.opCounterRelease_forwards unarmed on valid waits parent epoch)
    rw [forwards]
    refine State.fabGo_none (.inl ?_)
    rw [State.closeOcc_actHeld_boot, State.sendHitches_boot, post]
  case member =>
    intro port r s serving mount up joined epoch plain waits
    have acts : (s.serving && s.portUp port) = true := by rw [serving, up]; rfl
    refine ⟨(guarded_of _ s (fun s => (State.opRelease port r s).fabGo) acts).trans (congrArg Host.Outcome.next ?_), fun gone => ?_⟩
    · have released : State.opRelease port r s = s.plainRelease r.hid :=
        (if_neg (by rw [mount]; decide)).trans (State.memberRelease_plain joined plain epoch waits)
      rw [released]
    · rw [State.plainRelease_last gone, epoch]
  case leave =>
    intro port r s serving post up on valid unarmed kids
    have leaves {t : State} (h : State.opLeave port r s = t) : exec (.leave port r) s = .next t :=
      (guarded_of _ s (State.opLeave port r) (by rw [serving, post, up]; rfl)).trans (congrArg Host.Outcome.next h)
    refine ⟨fun idle remain => leaves ?_, fun idle gone had notRoot => leaves ?_, fun held => leaves ?_, fun under => leaves ?_⟩
    · exact (State.opLeave_idle unarmed on valid idle).trans (State.keepKids_some s _ _ remain)
    · refine (State.opLeave_idle unarmed on valid idle).trans ?_
      change s.keepKids r.hid (s.ctr r.hid) kids = _
      rw [gone]
      exact State.keepKids_none s _ _ had notRoot
    · exact State.opLeave_held unarmed on valid held
    · exact State.opLeave_later unarmed on valid under
  case timeout =>
    intro hid s serving post valid unarmed
    exact execHitchTimeout_acts serving post valid unarmed
  case query =>
    intro port r s mount up a
    have answers {t : State} (h : State.opQuery port r s = t) : exec (.hitchQuery port r) s = .next t :=
      (guarded_of _ s (State.opQuery port r) (by rw [mount, up]; rfl)).trans (congrArg Host.Outcome.next h)
    exact ⟨fun h found => answers (State.opQuery_found found), fun unknown => answers (State.opQuery_unknown unknown)⟩
  case answer =>
    intro port r s mount up knows hid epoch undecided
    refine (guarded_of _ s (fun s => (State.opAnswer r s).fabGo) (by rw [mount, up]; rfl)).trans (congrArg Host.Outcome.next ?_)
    rw [State.opAnswer_decides knows hid epoch undecided]
  case stop =>
    intro port r s serving up new on
    exact (guarded_of _ s (State.opStop port r) (by rw [serving, up]; rfl)).trans (congrArg Host.Outcome.next (State.opStop_new new on))
  case commands =>
    intro p s running post right hid unarmed c w
    refine ⟨fun idle named good clear => ?write, ⟨_, State.action_hitch _ running post right, State.opHitchRead_shows unarmed⟩, ?clear,
      fun svc held named good => ?members⟩
    case write =>
      exact (State.action_hitch _ running post right).trans
        (congrArg Host.Outcome.next (State.opHitchWrite_stores unarmed idle named good clear))
    case clear =>
      exact (State.action_hitch _ running post right).trans (congrArg Host.Outcome.next (State.opHitchClear_clears unarmed))
    case members =>
      have now : s.assisted (.memberSet p) State.opMemberSet = s.opMemberSet := if_neg (by rw [svc]; decide)
      exact (State.action_hitch (fun s => s.assisted (.memberSet p) State.opMemberSet) running post right).trans
        (congrArg Host.Outcome.next (now.trans (State.opMemberSet_sets unarmed held named good)))

end Sys2Proof.Machine
end

section
/-! The commit of a transactional step, the global stop and the packets that set them up: what the meaning of each leads to. -/

namespace Sys2Proof.Machine

/-! ### The step's decision (R224) -/

theorem execInDoubt_raises {s : State} (mount : s.mount = true) (deciding : s.sync.stepState = .deciding) (asked : s.sync.queries ≠ 0) :
    execInDoubt s = .next ((({ s with sync := { s.sync with stepState := .inDoubt } } : State).raise Page.err Err.err.IN_DOUBT).saveRecord) :=
  guarded_of _ s _ (by simp [mount, deciding, asked])

/-! ### The stop (R228, R229) -/

/-- A stop in time, at a Post block: no occurrence and no launch begins any more, and the HITCH page shows it. -/
theorem State.doStop_post {s : State} (post : s.boot.post = true) :
    (s.doStop false).sync.stopped = true ∧ (s.doStop false).sync.gaitStopped = true ∧
      (s.doStop false).rd Page.hitch Reg.HITCH_STATUS.STOPPED = 1 := by
  unfold State.doStop
  extract_lets y s1 s2
  have still : s2.boot.post = true := post
  rw [if_pos still]
  exact ⟨rfl, rfl, (State.rd_wr_apart _ _ _ (by decide) (by decide)).trans (State.rd_wr_same _ _ _ _ _ (by decide))⟩

/-- An armed stop whose DT is reached. -/
theorem execStopDtReached_stops {s : State} {d : Nat} (serving : s.serving = true) (armed : s.sync.stopArmed = true)
    (due : s.sync.stopDt = some d) (reached : d ≤ s.dtNs) : execStopDtReached s = .next (s.doStop false) :=
  guarded_of _ s _ (by simp [serving, armed, due, reached])

/-- The end of the drain, shown by a Post block and recorded by a Mount block. -/
theorem execStopDrainEnd_ends {s : State} (serving : s.serving = true) (stopped : s.sync.stopped = true) :
    let u : State := { s with sync := { s.sync with draining := false } }
    execStopDrainEnd s = .next (if u.boot.post then u.wr Page.hitch Reg.HITCH_STATUS.DRAINING 0 else u.saveRecord) :=
  guarded_of _ s _ (by simp [serving, stopped])

/-! ### Packets (R216, R223, R227, R318) -/

/-- The end of a packet reaches no memory: it makes no access wait. -/
theorem State.blocked_finish (s : State) (p status : Nat) : (s.finish p status).blocked = s.blocked := by
  unfold State.finish State.modPkt
  split <;> rfl

section
variable {s : State} {p : Nat} {x : Pkt} (at_ : s.pkt p = some x)
include at_

/-- SIG_SET of an entry that is not valid, or whose context and, where it names one, whose fence fit. -/
theorem execSigSet_stores (ready : s.ready p 0x64 = true) :
    let u := s.calm.setPkt p { x with performed := true }
    (bit (x.f 16 8) 0 = false ∨ (u.ctxUsable (u.ctxFn (bits (x.f 16 8) 48 12)) (bits (x.f 16 8) 48 12) = true ∧
      (bit (x.f 16 8) 1 = true ∨ (u.fenceUsable (u.ctxFn (bits (x.f 16 8) 48 12)) (bits (x.f 16 8) 3 16) = true ∧
        u.fenceCtx (bits (x.f 16 8) 3 16) = bits (x.f 16 8) 48 12 ∧ bits (x.f 16 8) 32 16 ≠ 0)))) →
    execSigSet p s = .next (({ u with sync := { u.sync with
      signals := SMap.put u.sync.signals 0 (x.f 8 2 % 4096) (BitVec.ofNat 64 (x.f 16 8)) } } : State).finish p St.OK) := by
  intro u fits
  refine State.perform_next ready at_ (if_neg ?_) (State.blocked_finish _ _ _)
  obtain empty | ⟨ctx, hitch | ⟨fence, owner, inc⟩⟩ := fits
  · simp [empty]
  · simp [ctx, hitch, u]
  · simp [ctx, fence, owner, inc, u]

/-- HITCH_JOIN of an entry that is not valid, or whose plane the block has and that makes no second commit hitch. -/
theorem execHitchJoin_stores (ready : s.ready p 0x65 = true)
    (fits : bit (x.f 16 8) 0 = false ∨ (joinPlane (x.f 16 8) < s.ports ∧ (joinCommit (x.f 16 8) = false ∨
      (s.sync.joins.any fun j => j.1 != x.f 8 2 % 1024 && bit j.2.toNat 0 && joinCommit j.2.toNat) = false))) :
    let u := s.calm.setPkt p { x with performed := true }
    execHitchJoin p s = .next (({ u with sync := { u.sync with
      joins := SMap.put u.sync.joins 0 (x.f 8 2 % 1024) (BitVec.ofNat 64 (x.f 16 8))
      epochs := SMap.erase u.sync.epochs (x.f 8 2 % 1024), waiting := SMap.erase u.sync.waiting (x.f 8 2 % 1024)
      ahead := SMap.erase u.sync.ahead (x.f 8 2 % 1024) } } : State).finish p St.OK) := by
  intro u
  have plane : ¬(bit (x.f 16 8) 0 && decide (joinPlane (x.f 16 8) ≥ u.ports)) = true := by
    obtain empty | ⟨has, -⟩ := fits
    · simp [empty]
    · have has : joinPlane (x.f 16 8) < u.ports := has
      simp [has]
  have one : ¬(bit (x.f 16 8) 0 && joinCommit (x.f 16 8) &&
      u.sync.joins.any fun j => j.1 != x.f 8 2 % 1024 && bit j.2.toNat 0 && joinCommit j.2.toNat) = true := by
    obtain empty | ⟨-, plain | alone⟩ := fits
    · simp [empty]
    · simp [plain]
    · have alone : (u.sync.joins.any fun j => j.1 != x.f 8 2 % 1024 && bit j.2.toNat 0 && joinCommit j.2.toNat) = false := alone
      rw [alone, Bool.and_false]
      decide
  exact State.perform_next ready at_ ((if_neg plane).trans (if_neg one)) (State.blocked_finish _ _ _)

theorem execStepCfg_sets (ready : s.ready p 0x66 = true) (aligned : x.f 16 8 % 256 = 0) (joined : s.joined (x.f 24 2 % 1024) = true)
    (commit : joinCommit (s.joinOf (x.f 24 2 % 1024)) = true) (running : s.sync.stepState = .running) :
    let u := s.calm.setPkt p { x with performed := true }
    let t := (({ u with sync := { u.sync with
      record := some (x.f 16 8), commitHid := x.f 24 2 % 1024, anchor0 := x.f 26 2, anchor1 := x.f 28 2
      step := x.f 32 6 } } : State).saveRecord).finish p St.OK
    t.blocked = false → execStepCfg p s = .next t := by
  intro u t free
  have place : (x.f 16 8 % 256 != 0) = false := bne_eq_false_iff_eq.mpr aligned
  have member : (!(u.joined (x.f 24 2 % 1024) && joinCommit (u.joinOf (x.f 24 2 % 1024)))) = false :=
    congrArg (!·) (Bool.and_eq_true_iff.mpr ⟨joined, commit⟩)
  have between : (u.sync.stepState != .running) = false := bne_eq_false_iff_eq.mpr running
  exact State.perform_next ready at_ ((if_neg (ne_true_of_eq_false place)).trans ((if_neg (ne_true_of_eq_false member)).trans
    (if_neg (ne_true_of_eq_false between)))) free

theorem execStopAt_arms (ready : s.ready p 0x67 = true) (gait : s.activePeriod ≠ 0) (whole : x.f 16 8 % s.activePeriod = 0)
    (later : s.dtNs + 20000 ≤ x.f 16 8) (soon : x.f 16 8 ≤ s.dtNs + 10000000000) (timed : s.timeState ≠ 0) :
    let u := s.calm.setPkt p { x with performed := true }
    let ev := (s.sync.eventNo + 1) % 65536
    let me := s.selfRank.getD 0
    let v : State := { u with sync := { u.sync with eventNo := ev, seenStops := ((me, ev) :: u.sync.seenStops).take 16 } }
    let t := ((v.sendHitches s.upPorts
      { HitchRec.blank 5 0 0 with dtNs := x.f 16 8, origin := me, event := ev }).armStop (x.f 16 8)).finish p St.OK
    t.blocked = false → execStopAt p s = .next t := by
  intro u ev me v t free
  have stride : ¬(u.activePeriod = 0 ∨ x.f 16 8 % u.activePeriod ≠ 0) := not_or.mpr ⟨gait, not_not.mpr whole⟩
  have window : ¬(x.f 16 8 < u.dtNs + 20000 ∨ x.f 16 8 > u.dtNs + 10000000000) :=
    not_or.mpr ⟨Nat.not_lt.mpr later, Nat.not_lt.mpr soon⟩
  exact State.perform_next ready at_ ((if_neg stride).trans ((if_neg window).trans (if_neg timed))) free

theorem execResolve_decides (ready : s.ready p 0x69 = true) (epoch : x.f 8 2 = s.commitEpoch)
    (undecided : s.sync.stepState = .deciding ∨ s.sync.stepState = .inDoubt) :
    let u := s.calm.setPkt p { x with performed := true }
    let t := ((u.applyDecision (bit (x.f 10 1) 0) 0).fabGo).finish p St.OK
    t.blocked = false → execResolve p s = .next t := by
  intro u t free
  exact State.perform_next ready at_ (if_pos ⟨epoch, undecided⟩) free

end

/-! ### The statement -/

/-- Settles O17: each command's guard holds, and its meaning leads where the lemma about it says. -/
theorem commitAndStopCommandsComplete : Obligations.CommitAndStopCommandsComplete := by
  unfold Obligations.CommitAndStopCommandsComplete
  refine ⟨?drained, ?queries, ?doubt, ?stop, ?stopped, ?packets⟩
  case drained =>
    intro s mount draining joined
    exact guarded_of _ s (fun s => s.sendCommit (s.sync.arrivedOk && !s.sync.stepBad) 1) (by simp [mount, draining, joined])
  case queries =>
    intro s mount deciding joined r port u t
    exact ⟨fun first => guarded_of _ s State.sendQueries (by simp [mount, deciding, joined, first]),
      fun again => guarded_of _ s State.sendQueries (by simp [mount, deciding, joined, again])⟩
  case doubt =>
    intro s mount deciding asked
    exact execInDoubt_raises mount deciding asked
  case stop =>
    intro d s serving armed due reached
    exact ⟨_, execStopDtReached_stops serving armed due reached, rfl, State.doStop_post⟩
  case stopped =>
    intro s serving stopped u
    have ends := execStopDrainEnd_ends serving stopped
    exact ⟨fun post => ends.trans (congrArg Host.Outcome.next (if_pos post)),
      fun mount => ends.trans (congrArg Host.Outcome.next (if_neg (ne_true_of_eq_false mount)))⟩
  case packets =>
    intro p x s at_ u
    exact ⟨fun ready fits => execSigSet_stores at_ ready fits, fun ready fits => execHitchJoin_stores at_ ready fits,
      fun ready aligned joined commit running => execStepCfg_sets at_ ready aligned joined commit running,
      fun ready gait whole later soon timed => execStopAt_arms at_ ready gait whole later soon timed,
      fun ready epoch undecided => execResolve_decides at_ ready epoch undecided⟩

end Sys2Proof.Machine
end

section
/-! The layout of memory: the two zones of a channel, and the fields of the blocks that the cipher is fed. -/

namespace Sys2Proof.Machine

/-! ### The zones of a channel (R234, R243) -/

theorem down64_mod (x : Nat) : down64 x % 64 = 0 := Nat.mul_mod_left _ _

theorem down64_le (x : Nat) : down64 x ≤ x := Nat.div_mul_le_self x 64

/-- With their tags, 64 pages of the bulk zone take 65. -/
theorem bulkPages_eq (a : Nat) : bulkPages a = a / 65 * 64 := by
  unfold bulkPages down64
  omega

/-- The line zone leaves room for its tags, one page for eight. -/
theorem carveOf_line_fits (p req : Nat) : 9 * (carveOf p req).1 / 8 ≤ p - treePages p := by
  have room : (carveOf p req).1 ≤ (p - treePages p) * 8 / 9 := (Nat.min_le_right _ _).trans (down64_le _)
  omega

theorem carveOf_line_mod (p req : Nat) : (carveOf p req).1 % 64 = 0 := by
  obtain asked | most := min_choice (down64 req) (down64 ((p - treePages p) * 8 / 9))
  · exact (congrArg (· % 64) asked).trans (down64_mod _)
  · exact (congrArg (· % 64) most).trans (down64_mod _)

/-- The bulk zone has 64 pages for every 65 that the line zone and its tags leave. -/
theorem carveOf_usable (p req : Nat) :
    (carveOf p req).2 = (carveOf p req).1 + (p - treePages p - 9 * (carveOf p req).1 / 8) / 65 * 64 :=
  congrArg ((carveOf p req).1 + ·) (bulkPages_eq _)

/-- Settles O41: of the pages that the line zone leaves, whole groups of 65 go to the bulk zone, and fewer than 65 remain. -/
theorem carveFitsTheChannel : Obligations.CarveFitsTheChannel := by
  unfold Obligations.CarveFitsTheChannel
  refine ⟨fun p req => ?_, by decide, by decide, by decide⟩
  intro a l u
  have line : l % 64 = 0 := carveOf_line_mod p req
  have asked : l ≤ req := (Nat.min_le_left _ _).trans (down64_le req)
  have fits : 9 * l / 8 ≤ a := carveOf_line_fits p req
  have total : u = l + (a - 9 * l / 8) / 65 * 64 := carveOf_usable p req
  clear_value a l u
  omega

/-! ### Input blocks and tweak blocks (R235, R263) -/

theorem inputBlock_fields (M m p c b g t : Nat) :
    let x := (inputBlock M m p c b g t).toNat
    bits x 64 64 = M % 2 ^ 64 ∧ bits x 57 7 = m % 2 ^ 7 ∧ bits x 32 25 = p % 2 ^ 25 ∧ bits x 28 4 = c % 2 ^ 4 ∧
      bits x 20 8 = b % 2 ^ 8 ∧ bits x 19 1 = g % 2 ∧ bits x 17 2 = t % 4 := by
  simp only [inputBlock, BitVec.toNat_ofNat, bits]
  omega

theorem tweakBlock_fields (M m i c l t : Nat) :
    let x := (tweakBlock M m i c l t).toNat
    bits x 64 64 = M % 2 ^ 64 ∧ bits x 57 7 = m % 2 ^ 7 ∧ bits x 32 25 = i % 2 ^ 25 ∧ bits x 28 4 = c % 2 ^ 4 ∧
      bits x 25 3 = l % 2 ^ 3 ∧ bits x 17 2 = t % 4 := by
  simp only [tweakBlock, BitVec.toNat_ofNat, bits]
  omega

/-- Settles O47: each field stands at bits of its own, and the type tells the two kinds of block apart. The worked blocks are the
model's tests. -/
theorem keystreamAndTweakBlocksAreInjective : Obligations.KeystreamAndTweakBlocksAreInjective := by
  unfold Obligations.KeystreamAndTweakBlocksAreInjective
  refine ⟨?input, ?tweak, ?apart⟩
  case input =>
    intro M m p c b g t M' m' p' c' b' g' t' _ _ _ _ _ _ _ _ _ _ _ _ _ _ same
    have left := inputBlock_fields M m p c b g t
    have right := inputBlock_fields M' m' p' c' b' g' t'
    rw [same] at left
    omega
  case tweak =>
    intro M m i c l t M' m' i' c' l' t' _ _ _ _ _ _ _ _ _ _ _ _ same
    have left := tweakBlock_fields M m i c l t
    have right := tweakBlock_fields M' m' i' c' l' t'
    rw [same] at left
    omega
  case apart =>
    intro M m p c b g t M' m' i c' l t' _ _ _ same
    obtain ⟨-, -, -, -, -, -, input⟩ := inputBlock_fields M m p c b g t
    obtain ⟨-, -, -, -, -, tweak⟩ := tweakBlock_fields M' m' i c' l t'
    rw [same] at input
    omega

end Sys2Proof.Machine
end

section
/-! What a write of local memory, below the rights check, leaves of the bytes. -/

namespace Sys2Proof.Machine

/-! ### A table of bytes after a run of writes -/

/-- The table of bytes with `l`, numbered from `k`, put at `off` and on. -/
def putRun (m : SMap Byte) (off k : Nat) (l : List Byte) : SMap Byte :=
  (l.zipIdx k).foldl (fun m e => SMap.put m 0 (off + e.2) e.1) m

theorem State.putBytes_bytes (s : State) (off : Nat) (l : List Byte) : (s.putBytes off l).mem.bytes = putRun s.mem.bytes off 0 l := rfl

theorem putRun_cons (m : SMap Byte) (off k : Nat) (b : Byte) (l : List Byte) :
    putRun m off k (b :: l) = putRun (SMap.put m 0 (off + k) b) off (k + 1) l := rfl

theorem getD_putRun_outside (m : SMap Byte) (off k : Nat) (l : List Byte) {a : Nat} (h : a < off + k ∨ off + k + l.length ≤ a) :
    SMap.getD (putRun m off k l) 0 a = SMap.getD m 0 a := by
  induction l generalizing m k with
  | nil => rfl
  | cons b l ih =>
    rw [List.length_cons] at h
    rw [putRun_cons, ih _ _ (by omega), SMap.getD_put, if_neg (by omega)]

theorem getD_putRun_inside (m : SMap Byte) (off k : Nat) (l : List Byte) {i : Nat} (h : i < l.length) :
    SMap.getD (putRun m off k l) 0 (off + k + i) = l[i] := by
  induction l generalizing m k i with
  | nil => exact absurd h (Nat.not_lt_zero i)
  | cons b l ih =>
    rw [putRun_cons]
    cases i with
    | zero => rw [getD_putRun_outside _ _ _ _ (by omega), SMap.getD_put, if_pos (by omega), List.getElem_cons_zero]
    | succ i =>
      have next := ih (SMap.put m 0 (off + k) b) (k + 1) (i := i) (by simpa using h)
      rwa [show off + (k + 1) + i = off + k + (i + 1) by omega] at next

theorem State.bytesAt_of_putRun {s : State} {m : SMap Byte} {off : Nat} {l : List Byte} (h : s.mem.bytes = putRun m off 0 l) :
    s.bytesAt off l.length = l := by
  refine List.ext_getElem (by simp [State.bytesAt]) fun i _ hi => ?_
  have read := getD_putRun_inside m off 0 l hi
  simpa [State.bytesAt, h] using read

/-! ### The write (R237, R239, R241) -/

theorem State.prepWrite_bytes (s : State) (off len : Nat) (strb : Option Nat) : (s.prepWrite off len strb).mem.bytes = s.mem.bytes :=
  (State.prepWrite_frame (M := 0x102855c0043b2) rfl (.refl _ s)).same .bytes rfl

theorem State.writeGran_bytes (g off len : Nat) (strb : Option Nat) (units : Nat → Bool) (gait : Bool) (s : State) :
    (State.writeGran g off len strb units gait s).mem.bytes = s.mem.bytes :=
  (State.writeGran_frame (M := 0x2815c004200) rfl (.refl _ s)).same .bytes rfl

/-- Counters, marks and poison stand apart from the bytes: a write that is performed puts its own, any other puts none. -/
theorem State.writePhys_bytes (s : State) (off : Nat) (data : List Byte) (poison : Nat) (gait : Bool) :
    (s.writePhys off data poison gait).2.mem.bytes =
      if (s.writePhys off data poison gait).1 then putRun s.mem.bytes off 0 data else s.mem.bytes := by
  unfold State.writePhys
  extract_lets len u t units r
  have prepared : t.mem.bytes = s.mem.bytes := by
    have calm : u.mem.bytes = s.mem.bytes := by unfold u; split <;> rfl
    exact (State.prepWrite_bytes u off len none).trans calm
  have counted : r.mem.bytes = s.mem.bytes :=
    fold_rule (P := fun x : State => x.mem.bytes = s.mem.bytes) prepared fun x g h => (State.writeGran_bytes ..).trans h
  split
  · exact prepared
  split
  · exact (congrArg Mem.bytes (State.err_mem ..)).trans prepared
  · calc ((r.putBytes off data).cnt 1 len).mem.bytes
      _ = (r.putBytes off data).mem.bytes := (State.cnt_frame (M := 0x1000000) rfl (.refl _ _)).same .bytes rfl
      _ = putRun r.mem.bytes off 0 data := State.putBytes_bytes r off data
      _ = putRun s.mem.bytes off 0 data := by rw [counted]

/-- Settles O46: what a write leaves of the bytes is the run of its own or nothing, and each byte put keeps the table canonical. -/
theorem storedBytesReadBackAndOthersStay : Obligations.StoredBytesReadBackAndOthersStay := by
  unfold Obligations.StoredBytesReadBackAndOthersStay
  intro off poison a data gait s r
  have left : r.2.mem.bytes = if r.1 then putRun s.mem.bytes off 0 data else s.mem.bytes := s.writePhys_bytes off data poison gait
  refine ⟨fun done => ?_, fun apart => ?_, ?_⟩
  · rw [if_pos done] at left
    exact State.bytesAt_of_putRun left
  · rw [left]
    split
    next done => exact getD_putRun_outside _ _ _ _ (apart.resolve_left (by simp [done]))
    next => rfl
  · exact (State.writePhys_frame (M := 0x102855d00c3b2) rfl (.refl _ s) : Frame _ s r.2).bytes

end Sys2Proof.Machine
end

section
/-! Training, read results, the region table and sealed regions: what the meaning of each of these commands leads to. -/

namespace Sys2Proof.Machine

/-! ### Training (R243, R488) -/

theorem State.channels_congr {s t : State} (boot : t.boot = s.boot) (build : t.build = s.build) : t.channels = s.channels := by
  unfold State.channels
  rw [boot, build]

/-- While another channel is not trained, a trained one shows its pages, and the memory region does not start. -/
theorem State.opTrained_shows {s t : State} {ch cap q k : Nat} (leads : s.opTrained ch cap = t) (clip : s.clipPages cap = some q)
    (built : k < s.channels) (other : k ≠ ch) (untrained : (s.chan k).trained = false) :
    (t.chan ch).trained = true ∧ (t.chan ch).capPages = q ∧ t.rd (Page.mch ch) Reg.MCHn_CAP_PAGES.P = q % 2 ^ 25 ∧
      t.mem.ready = s.mem.ready := by
  unfold State.opTrained at leads
  simp -zeta only [clip] at leads
  extract_lets pg top c s1 s2 o s3 at leads
  have mem : s3.mem = s1.mem := by simp only [s3, s2, State.wr_mem]
  have chan (j : Nat) : s3.chan j = if j = ch then { s.chan ch with trained := true, capPages := q } else s.chan j := by
    have kept : s3.chan j = s1.chan j := by rw [State.chan, mem]; rfl
    exact kept.trans (State.chan_setChan s ch j _)
  have channels : s3.channels = s.channels :=
    State.channels_congr (by simp only [s3, s2, s1, State.wr_boot, State.setChan_boot])
      (by simp only [s3, s2, s1, State.wr_build, State.setChan_build])
  have waits : (s3.chanList.all fun j => (s3.chan j).trained) = false := by
    have lacks : (s3.chan k).trained = false := by rw [chan, if_neg other, untrained]
    exact List.all_eq_false.mpr ⟨k, List.mem_range.mpr (built.trans_eq channels.symm), by simp [lacks]⟩
  simp only [waits, Bool.false_eq_true, if_false] at leads
  subst leads
  refine ⟨by rw [chan, if_pos rfl], by rw [chan, if_pos rfl], ?_, by rw [mem]; rfl⟩
  calc s2.rd pg Reg.MCHn_CAP_PAGES.P
    _ = ((s1.wr pg Reg.MCH_STATUS.CH_STATE 1).wr pg Reg.MCHn_CAP_PAGES.P q).rd pg Reg.MCHn_CAP_PAGES.P :=
      (State.rd_wr_apart _ _ _ (by decide) (by decide)).trans ((State.rd_wr_apart _ _ _ (by decide) (by decide)).trans
        (State.rd_wr_apart _ _ _ (by decide) (by decide)))
    _ = q % 2 ^ 25 := State.rd_wr_same _ _ _ _ _ (by decide)

/-! ### Read results (R238) -/

/-- A granule that the pipes answer for. -/
theorem execMemoryReadResponse_granule {s : State} {ch : Nat} {r : ReadResult} (mount : s.mount = true) (open_ : s.memOpen = true)
    (built : ch < s.channels) (whole : r.pipeFault = false) (serving : s.istate ≠ 3) (data : r.level = 0) :
    execMemoryReadResponse ch r s = .next (s.granResult ch r) := by
  refine (guarded_of _ s _ (by simp [mount, open_, built])).trans ?_
  simp [State.opReadResponse, whole, serving, data]

theorem State.granResult_good {s : State} {ch : Nat} {r : ReadResult} (first : r.firstOk = true) : s.granResult ch r = s := by
  simp [State.granResult, first]

theorem State.granResult_fails {s : State} {ch : Nat} {r : ReadResult} (first : r.firstOk = false) (second : r.secondOk = false)
    (written : SMap.getD (s.leaf ch (r.index / 64)).minors 0 (r.index % 64) ≠ 0) :
    let off := s.pageAt ch (r.index / 64)
    let start := off + r.index % 64 * s.granSize off
    let u := (s.inc (Page.mch ch) Reg.MCHn_TAG_FAIL.COUNT).err (Page.mch ch) Err.mch.TAG_FAIL { place := start, placeKind := 1 }
    s.granResult ch r = (({ u with mem := { u.mem with failed := insertUp u.mem.failed start } } : State).triageAdd
      { ch := ch, level := 0, index := r.index / 64, granule := r.index % 64, cause := 0 }) := by
  simp [State.granResult, first, second, written]

theorem execMemoryWriteDone_whole {s : State} {w : WriteResult} (whole : w.pipeFault = false) (ch : Nat) :
    execMemoryWriteDone ch w s = .next s := by
  simp [execMemoryWriteDone, guarded, whole]

/-! ### The region table (R244, R246, R247, R250) -/

/-- A command register of the first channel's page, written by a party with the right to. -/
theorem State.action_mch {s : State} {p : Party} (f : State → State) (running : s.boot.phase = .running) (built : s.channels ≠ 0)
    (right : mayWrite p (Page.mch 0) = true) : s.action p (Page.mch 0) f = .next (f s) :=
  s.action_acts p _ f (by simp [State.released, running]) (by simp [State.present, Fam.slots, Nat.pos_of_ne_zero built])
    (by simp [State.pageUp, State.up_of_running running]) right

/-- Word `k` of the window, and the window with a word put there. -/
def State.ratWord (s : State) (k : Nat) : W64 :=
  BitVec.ofNat 64 (s.rd (Page.mch 0) Reg.RAT_WINw.DATA (2 * k) + 2 ^ 32 * s.rd (Page.mch 0) Reg.RAT_WINw.DATA (2 * k + 1))
def State.putRatWord (s : State) (k : Nat) (w : W64) : State :=
  (s.wr (Page.mch 0) Reg.RAT_WINw.DATA (w.toNat % 2 ^ 32) (2 * k)).wr (Page.mch 0) Reg.RAT_WINw.DATA (w.toNat / 2 ^ 32) (2 * k + 1)

theorem State.ratWin_words (s : State) : s.ratWin = ⟨s.ratWord 0, s.ratWord 1, s.ratWord 2, s.ratWord 3⟩ := rfl

theorem State.opRatRead_puts (s : State) :
    let e := s.ratAt (s.rd (Page.mch 0) Reg.RAT_SEL.ENTRY)
    s.opRatRead = (((s.putRatWord 0 e.w0).putRatWord 1 e.w1).putRatWord 2 e.w2).putRatWord 3 e.w3 := rfl

/-- One register of the window is written; another is not. -/
theorem State.rd_ratWin_other (s : State) (v : Nat) {i j : Nat} (hi : i < 8) (hj : j < 8) (h : j ≠ i) :
    (s.wr (Page.mch 0) Reg.RAT_WINw.DATA v i).rd (Page.mch 0) Reg.RAT_WINw.DATA j = s.rd (Page.mch 0) Reg.RAT_WINw.DATA j := by
  have place {n : Nat} (hn : n < 8) : Reg.RAT_WINw.DATA.at_ (Page.mch 0) n = (Page.mch 0).base + 0x440 + n * 4 := by
    unfold Field.at_
    rw [show Reg.RAT_WINw.DATA.n = 8 from rfl, Nat.mod_eq_of_lt hn]
    rfl
  exact State.rd_wr_other _ _ _ _ _ _ _ _ (by rw [place hi, place hj]; omega)

theorem State.ratWord_putRatWord_same (s : State) {k : Nat} (w : W64) (hk : k < 4) : (s.putRatWord k w).ratWord k = w := by
  have low : (s.putRatWord k w).rd (Page.mch 0) Reg.RAT_WINw.DATA (2 * k) = w.toNat % 2 ^ 32 % 2 ^ 32 :=
    (State.rd_ratWin_other _ _ (by omega) (by omega) (by omega)).trans (State.rd_wr_same _ _ _ _ _ (by decide))
  have high : (s.putRatWord k w).rd (Page.mch 0) Reg.RAT_WINw.DATA (2 * k + 1) = w.toNat / 2 ^ 32 % 2 ^ 32 :=
    State.rd_wr_same _ _ _ _ _ (by decide)
  unfold State.ratWord
  rw [low, high]
  bv_omega

theorem State.ratWord_putRatWord_other (s : State) {j k : Nat} (w : W64) (hj : j < 4) (hk : k < 4) (h : j ≠ k) :
    (s.putRatWord k w).ratWord j = s.ratWord j := by
  have kept {i : Nat} (hi : i < 8) (low : i ≠ 2 * k) (high : i ≠ 2 * k + 1) :
      (s.putRatWord k w).rd (Page.mch 0) Reg.RAT_WINw.DATA i = s.rd (Page.mch 0) Reg.RAT_WINw.DATA i :=
    (State.rd_ratWin_other _ _ (by omega) hi high).trans (State.rd_ratWin_other _ _ (by omega) hi low)
  unfold State.ratWord
  rw [kept (by omega) (by omega) (by omega), kept (by omega) (by omega) (by omega)]

theorem State.opRatRead_shows (s : State) :
    s.opRatRead.ratWin = s.ratAt (s.rd (Page.mch 0) Reg.RAT_SEL.ENTRY) ∧ s.opRatRead.mem = s.mem := by
  rw [State.opRatRead_puts, State.ratWin_words]
  simp (disch := decide) only [State.ratWord_putRatWord_same, State.ratWord_putRatWord_other]
  exact ⟨trivial, by simp only [State.putRatWord, State.wr_mem]⟩

theorem State.opRatWrite_accepted {s : State} (good : s.ratCode (s.rd (Page.mch 0) Reg.RAT_SEL.ENTRY) s.ratWin false = 0) :
    s.opRatWrite = (s.ratStore (s.rd (Page.mch 0) Reg.RAT_SEL.ENTRY) s.ratWin none).tdiError s.ratWin.names := if_pos good

theorem State.opRatWrite_refused {s : State} (bad : s.ratCode (s.rd (Page.mch 0) Reg.RAT_SEL.ENTRY) s.ratWin false ≠ 0) :
    s.opRatWrite = s.ratRefuse s.ratWin (s.ratCode (s.rd (Page.mch 0) Reg.RAT_SEL.ENTRY) s.ratWin false) := if_neg bad

/-- The completion of the last write that waits, one that no packet asked for. -/
theorem State.opRatDone_last {s : State} {n : Nat} {e : Nat × Option Nat} (oldest : (s.mem.ratPending.find? fun e => e.1 == n) = some e)
    (window : e.2 = none) (last : s.mem.ratPending.erase e = []) :
    s.opRatDone n = ({ s with mem := { s.mem with ratPending := [] } } : State).wr (Page.mch 0) Reg.RAT_STATUS.DONE 1 := by
  simp [State.opRatDone, oldest, window, last]

/-- The page is not locked, so that the write acts. -/
theorem execMchLinePagesWrite_unlocked {s : State} {p : Party} (v : W32) (running : s.boot.phase = .running) (built : s.channels ≠ 0)
    (right : mayWrite p (Page.mch 0) = true) (open_ : s.locked (Page.mch 0) = false) :
    execMchLinePagesWrite p v s = .next (s.opLinePages v) := by
  unfold execMchLinePagesWrite
  rw [State.action_mch _ running built right, State.unlocked, open_]
  rfl

/-- With no region, no pass and no memory yet, the register takes its new value and nothing is carved again. -/
theorem State.opLinePages_sets {s : State} (v : W32) (none_ : (s.mem.rat.any fun e => e.2.valid) = false) (still : s.farRunning = false)
    (early : s.mem.ready = false) :
    s.opLinePages v = if down64 (fieldOf v 0 25) = s.rd (Page.mch 0) Reg.MCH_LINE_PAGES.PAGES then s
      else s.wr (Page.mch 0) Reg.MCH_LINE_PAGES.PAGES (down64 (fieldOf v 0 25)) := by
  simp [State.opLinePages, none_, still, early]

/-! ### Sealed regions (R252, R253, R388, R389) -/

/-- SEAL of a valid entry that is neither sealed nor transactional, with the slot of a weight key. -/
theorem State.opSeal_fills {s : State} {p : Nat} {x : Pkt} {e : RatEntry} {y : Slot} (entry : s.ratAt (x.f 8 1) = e)
    (slot : s.slot (bits (x.f 12 1) 0 5) = y) (valid : e.valid = true) (plain : e.sealed = false) (empty : e.sealState = 0)
    (single : e.tx = false) (kind : y.kind = 6) (live : y.state = 1) :
    s.opSeal p x = (((s.setRat (x.f 8 1) (e.withSeal true 1 (x.f 10 2))).reinit e.base e.size).useKey (x.f 8 1)
      (bits (x.f 12 1) 0 5)).finish p St.OK := by
  simp [State.opSeal, entry, slot, valid, plain, empty, single, kind, live]

/-- UNWRAP into an entry in FILLING, from a source that the host PF class may read: the header decides. -/
theorem State.opUnwrap_reads {s : State} {p : Nat} {x : Pkt} (fills : s.filling (x.f 8 1) = true)
    (readable : s.checkRange Master.pf 0 (x.f 16 8) (x.f 24 8) = none) :
    let n := x.f 8 1
    let a := s.readAs Master.maint (x.f 16 8) (min (x.f 24 8) 128)
    let h := slice a.data 0 128
    let u := (((a.st.wr (Page.mch 0) Reg.UNWRAP_STATUS.ENTRY n).wr (Page.mch 0) Reg.UNWRAP_STATUS.ACTIVE 1).wr (Page.mch 0)
      Reg.UNWRAP_CHUNKS.COUNT 0).saddled
    let k := SMap.getD u.mem.sealSlots 0 n
    let v : Unwrap := { entry := n, slot := k, src := x.f 16 8, bytes := x.f 24 8, hdr := slice h 0 112, chunk := 0, key := keyOf (u.slot k).payload }
    s.opUnwrap p x = if s.unwrapOk n (x.f 24 8) h (a.status != St.OK) then
        ({ u with mem := { u.mem with unwrap := some v } } : State).finish p St.OK
      else ((a.st.sealFail n).lastRefuse 3 3).kres p 3 :=
  (if_neg (by simp [fills])).trans (if_neg (by simp [readable]))

/-- The chunk under way, while none of its accesses must wait. -/
theorem execUnwrapChunk_next {s t : State} {u : Unwrap} (mount : s.mount = true) (open_ : s.memOpen = true) (busy : s.mem.unwrap = some u)
    (leads : s.calm.opChunk u = t) (free : t.blocked = false) : execUnwrapChunk s = .next t := by
  subst leads
  refine (guarded_of _ s _ (by simp [mount, open_])).trans ?_
  simp [busy, State.orWait, free]

theorem execUnwrapAbandon_fails {s : State} {n : Nat} (mount : s.mount = true) (fills : s.filling n = true) :
    execUnwrapAbandon n s = .next (s.sealFail n) :=
  guarded_of _ s _ (by simp [mount, fills])

/-- An uncorrectable word of a signal entry (R433). -/
theorem execPatrolRead_signal {s : State} {index : Nat} (serving : s.serving = true) :
    execPatrolRead 2 index true s = .next { s with sync := { s.sync with signals := SMap.erase s.sync.signals (index % 4096) } } :=
  guarded_of _ s _ (by simp [serving])

/-! ### The statement -/

/-- Settles O18: each command's guard holds, and its meaning leads where the lemma about it says. The model's choices among them: SEAL and
UNWRAP end when accepted and a bad header or chunk fails the entry (log entries 32 and 33), a lost signal entry counts as not valid (77),
and a completed write changes no contents (113). -/
theorem memoryCommandsComplete : Obligations.MemoryCommandsComplete := by
  unfold Obligations.MemoryCommandsComplete
  refine ⟨?trained, ?good, ?fails, ?written, ?window, ?done, ?carve, ?fill, ?unwrap, ?chunk, ?abandon, ?patrol⟩
  case trained =>
    intro ch cap q s mount built new clip ⟨k, hk, other, untrained⟩
    exact ⟨_, guarded_of _ s (State.opTrained ch cap) (by simp [mount, built, new]), State.opTrained_shows rfl clip hk other untrained⟩
  case good =>
    intro ch r s mount open_ built whole serving data first
    exact (execMemoryReadResponse_granule mount open_ built whole serving data).trans (congrArg _ (State.granResult_good first))
  case fails =>
    intro ch r s mount open_ built whole serving data first second written
    exact (execMemoryReadResponse_granule mount open_ built whole serving data).trans
      (congrArg _ (State.granResult_fails first second written))
  case written => exact fun ch w s whole => execMemoryWriteDone_whole whole ch
  case window =>
    intro p s running built right n
    have write := State.action_mch State.opRatWrite running built right
    exact ⟨fun good => write.trans (congrArg _ (State.opRatWrite_accepted good)),
      fun bad => write.trans (congrArg _ (State.opRatWrite_refused bad)),
      _, State.action_mch State.opRatRead running built right, s.opRatRead_shows⟩
  case done =>
    intro n e s mount oldest window last
    exact (guarded_of _ s (State.opRatDone n) mount).trans (congrArg _ (State.opRatDone_last oldest window last))
  case carve =>
    intro p v s running built right open_ none_ still early
    exact (execMchLinePagesWrite_unlocked v running built right open_).trans (congrArg _ (State.opLinePages_sets v none_ still early))
  case fill =>
    intro p x s ready at_ n k e valid plain empty single kind live u t free
    have entry : (s.calm.setPkt p { x with performed := true }).ratAt n = e := rfl
    have slot : (s.calm.setPkt p { x with performed := true }).slot k = s.slot k := rfl
    have fills : State.opSeal p x (s.calm.setPkt p { x with performed := true }) = (u.useKey n k).finish p St.OK :=
      State.opSeal_fills entry slot valid plain empty single kind live
    exact State.perform_next ready at_ fills free
  case unwrap =>
    intro p x s ready at_ n src w a h fills readable u k v t free
    exact State.perform_next ready at_ (State.opUnwrap_reads fills readable) free
  case chunk =>
    intro u s mount open_ busy size len a ct e v t free
    refine execUnwrapChunk_next mount open_ busy ?_ free
    -- The read's status and the tag are tested as one disjunction.
    unfold State.opChunk
    simp only [Bool.or_eq_true, bne_iff_ne]
    rfl
  case abandon => exact fun n s mount fills => execUnwrapAbandon_fails mount fills
  case patrol => exact fun index s serving => execPatrolRead_signal serving

end Sys2Proof.Machine
end

section
/-! The life-cycle state: what the voted fuse rows give, where it is shown, and which moves out of it a request may ask for. -/

namespace Sys2Proof
open Sys2Proof.Machine

/-! ### The state code and k (R410, R411) -/

theorem Fuses.toggles_le (f : Fuses) : f.toggles ≤ 18 :=
  (List.takeWhile_sublist _).length_le

theorem Fuses.state_of_lost {f : Fuses} (lost : f.lost = true) : f.state = 5 := if_pos lost

theorem Fuses.state_of_scrap {f : Fuses} (sound : f.lost = false) (scrap : bit (rowVote f.scrapRow) 0 = true) : f.state = 4 := by
  simp [Fuses.state, sound, scrap]

theorem Fuses.state_of_kept {f : Fuses} (sound : f.lost = false) (kept : bit (rowVote f.scrapRow) 0 = false) :
    f.state = if f.toggles = 0 then 0 else if f.toggles = 1 then 1 else if f.toggles % 2 = 0 then 2 else 3 := by
  simp [Fuses.state, sound, kept]

theorem Fuses.state_lt (f : Fuses) : f.state < 6 := by
  unfold Fuses.state
  split_ifs <;> decide

end Sys2Proof

namespace Sys2Proof.Machine

/-- The byte holds the code and k, neither cut short. -/
theorem Fuses.stateByte_toNat (f : Sys2Proof.Fuses) : (Fuses.stateByte f).toNat = f.state + 8 * f.toggles := by
  have code := f.state_lt
  have k := f.toggles_le
  exact (BitVec.toNat_ofNat _ _).trans (Nat.mod_eq_of_lt (by omega))

/-! ### Where the code is shown (R379, R411) -/

/-- Reading the rows shows the code: neither the fields written after it nor a report of what the rows hold touches it. -/
theorem State.lcState_readFuses (s : State) : s.readFuses.lcState = s.readFuses.lc.fuses.state := by
  have rows : s.readFuses.lc = s.lc := (State.readFuses_frame (Covers.refl _) (.refl _ s)).same .lc rfl
  rw [rows]
  have code : s.lc.fuses.state < 2 ^ 3 := s.lc.fuses.state_lt.trans (by decide)
  have kept (t : State) (b sev : Nat) : (t.report Page.lcs b sev).lcState = t.lcState := by
    have same := t.report_reg Page.lcs b sev {} (Reg.LCS_STATUS.STATE.at_ Page.lcs 0) Page.lcs (by decide) (by decide)
    exact congrArg (fieldOf · _ _) (same.trans (if_neg (by decide)))
  unfold State.readFuses State.wrPair
  extract_lets f p s1 s2 s3
  have shown : s2.lcState = f.state := by
    simp (disch := decide) only [s2, s1, p, State.lcState, State.rd_wr_apart]
    exact (State.rd_wr_same _ _ _ _ _ (by decide)).trans (Nat.mod_eq_of_lt code)
  have marginal : s3.lcState = f.state := by
    simp only [s3]
    split
    · exact (kept s2 _ _).trans shown
    · exact shown
  split
  · exact (kept s3 _ _).trans marginal
  · exact marginal

/-- A field of a sum of fields: what stands below it fits below it, what stands above it is a multiple. -/
theorem bits_of_sum {low x high lo w : Nat} (hl : low < 2 ^ lo) (hx : x < 2 ^ w) : bits (low + 2 ^ lo * (x + 2 ^ w * high)) lo w = x := by
  rw [bits, Nat.add_mul_div_left _ _ (Nat.two_pow_pos lo), Nat.div_eq_of_lt hl, Nat.zero_add, Nat.add_mul_mod_self_left, Nat.mod_eq_of_lt hx]

theorem State.reportFlags_lcState (s : State) (missing : Bool) (pkgs : Nat) : bits (s.reportFlags missing pkgs) 13 3 = s.lcState := by
  have flag (b : Bool) : b2n b ≤ 1 := by cases b <;> decide
  have post := flag s.boot.post
  have conf := flag s.conf
  have join := flag s.trust.join.isSome
  have miss := flag missing
  have seen : s.rd Page.key Reg.KEY_STATUS.TAMPER_SEEN < 2 ^ 1 := s.rd_lt _ _ _
  have fields : s.reportFlags missing pkgs = (1 + 2 ^ 8 * b2n s.boot.post + 2 ^ 9 * b2n s.conf
      + 2 ^ 10 * s.rd Page.key Reg.KEY_STATUS.TAMPER_SEEN + 2 ^ 11 * b2n s.trust.join.isSome + 2 ^ 12 * b2n missing)
      + 2 ^ 13 * (s.lcState + 2 ^ 3 * (s.boot.inst + 2 ^ 2 * b2n s.isLead + 2 ^ 3 * pkgs)) := by
    unfold State.reportFlags
    ring
  rw [fields]
  exact bits_of_sum (by omega) (s.rd_lt _ _ _)

/-- Settles O39: the code's cases, the byte that holds it with k, and the two places that show it. -/
theorem votedRowsGiveTheState : Obligations.VotedRowsGiveTheState := by
  unfold Obligations.VotedRowsGiveTheState
  refine ⟨?code, ?differ, State.lcState_readFuses, fun missing pkgs s => s.reportFlags_lcState missing pkgs⟩
  case code =>
    intro f
    have code := f.state_lt
    have k := f.toggles_le
    refine ⟨Fuses.state_of_lost, Fuses.state_of_scrap, ?kept, code, ?low, ?high⟩
    case kept =>
      intro sound kept
      rw [Fuses.state_of_kept sound kept]
      refine ⟨fun h => ?_, fun h => ?_, fun h h' => ?_, fun h h' => ?_⟩ <;> split_ifs <;> omega
    case low => rw [Fuses.stateByte_toNat, bits]; omega
    case high => rw [Fuses.stateByte_toNat, bits]; omega
  case differ =>
    intro f g differ same
    have codes := congrArg BitVec.toNat same
    rw [Fuses.stateByte_toNat, Fuses.stateByte_toNat] at codes
    have hf := f.state_lt
    have hg := g.state_lt
    omega

/-! ### Requests (R412 to R414) -/

/-- A check that gives no code is passed, and the next one decides. -/
theorem passes_of_ite {c : Prop} [Decidable c] {n code : Nat} (h : (if c then n + 1 else code) = 0) : ¬c ∧ code = 0 := by
  split_ifs at h with hc
  exact ⟨hc, h⟩

/-- What an accepted record meets, check by check. -/
theorem State.lcCode_accepted {l : List Byte} {s : State} (accepted : s.lcCode l = 0) :
    ofLe (slice l 5 1) = s.lcState ∧ lcPair (ofLe (slice l 5 1)) (ofLe (slice l 6 1)) = true ∧ ofLe (slice l 8 8) = s.lc.fuses.serialNo ∧
      lcLimit (ofLe (slice l 5 1)) (ofLe (slice l 6 1)) s.lc.fuses.toggles = false ∧ s.conf = false ∧ s.lc.req = none := by
  obtain ⟨-, rest⟩ := passes_of_ite accepted
  obtain ⟨here, rest⟩ := passes_of_ite rest
  obtain ⟨pair, rest⟩ := passes_of_ite rest
  obtain ⟨serial, rest⟩ := passes_of_ite rest
  obtain ⟨-, rest⟩ := passes_of_ite rest
  obtain ⟨-, rest⟩ := passes_of_ite rest
  obtain ⟨-, rest⟩ := passes_of_ite rest
  obtain ⟨-, rest⟩ := passes_of_ite rest
  obtain ⟨limit, rest⟩ := passes_of_ite rest
  obtain ⟨conf, rest⟩ := passes_of_ite rest
  obtain ⟨idle, -⟩ := passes_of_ite rest
  exact ⟨not_not.mp here, by simpa using pair, not_not.mp serial, by simpa using limit, by simpa using conf,
    by simpa using (not_or.mp idle).1⟩

/-- The pairs of the table, each with its limit on k. -/
theorem lcPair_cases {a b k : Nat} (pair : lcPair a b = true) (limit : lcLimit a b k = false) :
    (a = 0 ∧ b = 1) ∨ (a = 1 ∧ b = 2) ∨ (a = 2 ∧ b = 3 ∧ k ≤ 16) ∨ (a = 3 ∧ b = 2 ∧ k ≤ 17) ∨ (a < 4 ∧ b = 4) := by
  simp only [lcPair, Bool.or_eq_true, Bool.and_eq_true, beq_iff_eq, decide_eq_true_eq] at pair
  obtain (((first | second) | ⟨rfl, rfl⟩) | ⟨rfl, rfl⟩) | scrap := pair
  · exact .inl first
  · exact .inr (.inl second)
  · exact .inr (.inr (.inl ⟨rfl, rfl, by simpa [lcLimit] using limit⟩))
  · exact .inr (.inr (.inr (.inl ⟨rfl, rfl, by simpa [lcLimit] using limit⟩)))
  · exact .inr (.inr (.inr (.inr scrap)))

/-- Settles O40: an accepted record passes every check; the pair that it names leaves MAKER, INTEGRATOR, FIELDED or RETURNED. -/
theorem acceptedRequestIsAPermittedMove : Obligations.AcceptedRequestIsAPermittedMove := by
  unfold Obligations.AcceptedRequestIsAPermittedMove
  intro l s src dst k
  by_cases refused : s.lcCode l ≠ 0
  · exact .inl refused
  obtain ⟨here, pair, serial, limit, conf, req⟩ := State.lcCode_accepted (not_not.mp refused)
  have move := lcPair_cases pair limit
  exact .inr ⟨here, by omega, by omega, move, serial, req, conf⟩

end Sys2Proof.Machine
end

section
/-! The Farrier's pass: what the meaning of each of its commands leads to. -/

namespace Sys2Proof.Machine

/-! ### Command registers -/

/-- A command register of a page that is present, written by a party with the right to while the firmware runs. -/
theorem State.action_running {s : State} {p : Party} {pg : Page} (f : State → State) (running : s.boot.phase = .running)
    (there : s.present pg = true) (right : mayWrite p pg = true) : s.action p pg f = .next (f s) :=
  s.action_acts p pg f (by simp [State.released, running]) there (by simp [State.pageUp, State.up_of_running running]) right

theorem State.present_mch {s : State} {ch : Nat} (built : ch < s.channels) (page : ch < 16) : s.present (Page.mch ch) = true := by
  simp [State.present, Fam.slots, built, page]

/-! ### Starting and grants (R285, R287) -/

theorem State.opFarStart_begins {s : State} (allowed : s.farCode = 0) :
    s.opFarStart = (s.wr (Page.mch 0) Reg.FAR_START_STATUS.CODE 0).farBegin 1 := by
  simp [State.opFarStart, allowed]

theorem execFarGrant_stores {s : State} {p : Party} {ch : Nat} {v : W32} (running : s.boot.phase = .running) (built : ch < s.channels)
    (page : ch < 16) (right : mayWrite p (Page.mch ch) = true) (service : s.boot.svcHalted = false) (kept : s.mem.farCut = false)
    (some_ : fieldOf v 0 25 ≠ 0) :
    execFarGrant p ch v s = .next (((s.wr (Page.mch ch) Reg.MCHn_FAR_GRANT.PAGES (fieldOf v 0 25)).wr (Page.mch ch)
      Reg.MCH_STATUS.WAIT_GRANT 0).farGranted) := by
  refine (State.action_running _ running (State.present_mch built page) right).trans ?_
  simp [State.assisted, State.opFarGrant, service, kept, some_]

/-! ### Page steps (R282, R283, R288, R289) -/

/-- A channel that holds the token and may step, and that no missing grant stops, opens the step of its next page. -/
theorem State.opFarStep_holder {s : State} {ch : Nat} (awake : s.farWake ch = s) (may : s.farMayStep ch = true)
    (token : (s.chan ch).token = some .farrier)
    (granted : s.farByGrant = true → s.farUrgent ch = false → s.rd (Page.mch ch) Reg.MCHn_FAR_GRANT.PAGES ≠ 0) :
    State.opFarStep ch s = s.orWait fun s => if s.farByGrant && !s.farUrgent ch then s.farByGrantStep ch else s.farOpen ch := by
  have holds : s.farMayHold ch = true := by simp [State.farMayHold, token]
  have asked : s.askToken ch .farrier = s := by simp [State.askToken, token]
  have waits : ¬(s.farByGrant && !s.farUrgent ch && decide (s.rd (Page.mch ch) Reg.MCHn_FAR_GRANT.PAGES = 0)) = true := by
    simp only [Bool.and_eq_true, Bool.not_eq_true', decide_eq_true_eq]
    rintro ⟨⟨grant, urgent⟩, spent⟩
    exact granted grant urgent spent
  unfold State.opFarStep
  simp [awake, may, holds, asked, waits, token]

theorem State.orWait_free {s : State} {f : State → State} (free : (f s.calm).blocked = false) : s.orWait f = f s.calm := by
  simp [State.orWait, free]

/-- The step at the shoe line closes. -/
theorem State.opFarStepDone_closes {s : State} {ch g : Nat} {r : List Nat} (bad : List Nat) (first : (s.chan ch).steps = g :: r) :
    State.opFarStepDone ch g bad s = s.orWait fun s =>
      let u := if s.farSkips ch g then s else s.farSweep ch g bad
      ((u.setChan ch { u.chan ch with steps := r }).showReenc ch).farAdvance ch := by
  simp [State.opFarStepDone, first]

/-! ### The statement -/

/-- Settles O20: each command's guard holds, and its meaning leads where the lemma about it says. -/
theorem farrierCommandsComplete : Obligations.FarrierCommandsComplete := by
  unfold Obligations.FarrierCommandsComplete
  refine ⟨?start, ?auto, ?step, ?done, ?pause, ?grant⟩
  case start =>
    intro p s running built right allowed
    exact (State.action_mch _ running built right).trans (congrArg _ (State.opFarStart_begins allowed))
  case auto => exact fun s mount hours allowed => guarded_of _ s (fun s => s.farBegin 2) (by simp [mount, hours, allowed])
  case step =>
    intro ch s mount open_ pass built awake may token
    have steps : exec (.farPageStep ch) s = .next (State.opFarStep ch s) :=
      guarded_of _ s _ (by simp [mount, open_, pass, built])
    refine ⟨?free, ?byGrant⟩
    case free =>
      intro alone free
      have opens (t : State) (h : t.farByGrant = false ∨ t.farUrgent ch = true) :
          (if t.farByGrant && !t.farUrgent ch then t.farByGrantStep ch else t.farOpen ch) = t.farOpen ch := by
        obtain h | h := h <;> simp [h]
      rw [steps, State.opFarStep_holder awake may token (by obtain h | h := alone <;> simp [h]),
        State.orWait_free (by rw [opens s.calm alone]; exact free), opens s.calm alone]
    case byGrant =>
      intro grant urgent pages free
      have opens (t : State) (h : t.farByGrant = true) (h' : t.farUrgent ch = false) :
          (if t.farByGrant && !t.farUrgent ch then t.farByGrantStep ch else t.farOpen ch) = t.farByGrantStep ch := by
        simp [h, h']
      rw [steps, State.opFarStep_holder awake may token (fun _ _ => pages),
        State.orWait_free (by rw [opens s.calm grant urgent]; exact free), opens s.calm grant urgent]
  case done =>
    intro ch g r bad s mount pass built first u t free
    refine (guarded_of _ s _ (by simp [mount, pass, built])).trans (congrArg _ ?_)
    exact (State.opFarStepDone_closes bad first).trans (State.orWait_free free)
  case pause =>
    intro p ch s running built page right
    have there := State.present_mch built (page.trans (by decide : 12 < 16))
    exact ⟨State.action_running (fun s => (s.wr (Page.mch ch) Reg.MCH_CTRL.FAR_PAUSE 1).farSettle ch) running there right,
      State.action_running (fun s => (s.wr (Page.mch ch) Reg.MCH_CTRL.FAR_PAUSE 0).farWake ch) running there right⟩
  case grant =>
    intro p ch v s running built page right service kept some_
    exact execFarGrant_stores running built (page.trans (by decide)) right service kept some_

end Sys2Proof.Machine
end

section
/-! Doorbells, fetching, starting, dispatching and completing packets: what the meaning of each of these commands leads to. -/

namespace Sys2Proof.Machine

variable {s : State} {p q : Nat} {x : Pkt}

/-! ### Doorbells and fetching (R296, R298, R300, R301) -/

/-- A write by any party but a VF reaches the BAR as it is. -/
theorem State.opDoorbell_host {who : Party} (host : ∀ n, who ≠ .vf n) (page off size : Nat) (v : W32) :
    State.opDoorbell who page off size v s = s.dbAccess who page off size v := by
  cases who with
  | vf n => exact absurd rfl (host n)
  | pf | sec | svc | halter => rfl

/-- A new write pointer that does not go back and leaves no more than a ring's slots. -/
theorem State.doorbell_moves {v : Nat} (there : (s.queue q).state ≠ .absent) (ahead : (v + 2 ^ 32 - (s.queue q).wptr) % 2 ^ 32 < 2 ^ 31)
    (fits : (v + 2 ^ 32 - (s.queue q).rptr) % 2 ^ 32 ≤ (s.queue q).slots) :
    s.doorbell q v = (s.wakeSlots [0x600 + sliceOf q]).setQueue q { s.queue q with wptr := v } := by
  unfold State.doorbell
  rw [if_neg there, if_neg (Nat.not_le.mpr ahead), if_neg (Nat.not_lt.mpr fits)]

theorem execDoorbellWrite_moves {who : Party} {page : Nat} {v : W32} (up : s.feUp = true) (host : ∀ n, who ≠ .vf n)
    (named : s.dbQueue who page = some q) (there : (s.queue q).state ≠ .absent)
    (ahead : (v.toNat + 2 ^ 32 - (s.queue q).wptr) % 2 ^ 32 < 2 ^ 31)
    (fits : (v.toNat + 2 ^ 32 - (s.queue q).rptr) % 2 ^ 32 ≤ (s.queue q).slots) :
    execDoorbellWrite who page 0 4 v s = .next ((s.wakeSlots [0x600 + sliceOf q]).setQueue q { s.queue q with wptr := v.toNat }) := by
  refine (guarded_of _ _ _ up).trans ?_
  rw [State.opDoorbell_host host, ← State.doorbell_moves there ahead fits]
  simp [State.dbAccess, named]

theorem execPacketFetch_reads {slice : Nat} (up : s.feUp = true) (ok : s.sliceOk slice = true) (link : s.pins.linkUp = true)
    (on : s.rdb Page.fe Reg.FE_CTRL.EN = true) (picked : s.pickQueue slice = some q) :
    execPacketFetch slice s = .next (s.fetchFor q) := by
  refine (guarded_of _ _ _ (by simp [up, ok, link, on])).trans ?_
  simp [State.opFetch, picked]

/-- Slots that have come for a READY queue: steps 1 to 5 decide. -/
theorem execFetchComplete_checks {l : List Byte} (up : s.feUp = true) (asked : (SMap.find? s.front.fetching q).isSome = true)
    (ready : (s.queue q).state = .ready) (some_ : (s.queue q).avail ≠ 0) :
    let y := s.queue q
    let st := formatStatus s.boot.post y.kernel y.fn y.bind (s.rd Page.ver Reg.VER_FORMATS.PKT) y.avail l
    execFetchComplete q true l s = .next (if st = 0 then (s.endFetch q).storePkt q l else (s.endFetch q).refusePkt q st) := by
  intro y st
  have fetching : (SMap.find? s.front.fetching q).isNone = false := by simpa [Option.isNone_iff_eq_none, Option.isSome_iff_ne_none] using asked
  have taken : ¬(((s.endFetch q).queue q).state ≠ .ready ∨ ((s.endFetch q).queue q).avail = 0) := not_or.mpr ⟨not_not.mpr ready, some_⟩
  refine (guarded_of _ _ _ up).trans (congrArg _ ?_)
  unfold State.opFetched
  rw [fetching]
  exact if_neg taken

/-! ### Starting (R300, R304, R330) -/

/-- A packet whose turn has come on a READY queue. -/
structure State.Due (s : State) (p : Nat) (x : Pkt) : Prop where
  at_ : s.pkt p = some x
  fresh : x.started = false
  open_ : x.result = none
  ready : (s.queue x.queue).state = .ready
  order : s.orderOk p x = true

/-- What the due packet waits for, and which state it starts in. -/
theorem State.Due.opStart (h : s.Due p x) :
    State.opStart p s =
      if (s.queue x.queue).kernel then (if !s.boot.svcHalted then s.startPkt p x else s)
      else if (x.opcode == 0x06 || x.opcode == 0x07) && s.owns x.fn .fence (x.f 8 2) && !s.slotFor (x.f 8 2) then
        s.countWait p Page.fns Reg.FNS_SLOT_WAIT.COUNT
      else if !(s.objs.slots.any (·.ctx == (s.queue x.queue).ctx)) && !s.ctxChecked x.fn (s.queue x.queue).ctx then s.startPkt p x
      else match s.loadCtx (s.queue x.queue).ctx with
        | none => s.countWait p Page.ctxs Reg.CTXS_RES_WAIT.COUNT
        | some s => s.startPkt p x := by
  unfold State.opStart
  rw [h.at_]
  refine if_neg ?_
  simp [h.fresh, h.open_, h.ready, h.order]

/-- A due packet starts in the state that the start leaves, while none of its accesses must wait. -/
theorem execPacketStart_next {t : State} (up : s.feUp = true) (open_ : s.boot.post = true ∨ s.memOpen = true)
    (leads : State.opStart p s.calm = t) (free : t.blocked = false) : execPacketStart p s = .next t := by
  subst leads
  refine (guarded_of _ _ _ ?_).trans (congrArg _ (State.orWait_free free))
  obtain h | h := open_ <;> simp [up, h]

theorem State.startPkt_passes (p : Nat) (x : Pkt) (s : State) :
    let u : State := { s with front := { s.front with nextOrder := s.front.nextOrder + 1 } }
    let v := u.setPkt p { x with started := true, order := s.front.nextOrder + 1, at_ := s.now }
    v.step6 x = none → v.badCtl x = none → s.startPkt p x = if x.opcode = 0x0B then v.pinGraph p x else v := by
  intro u v handles form
  have handles : (u.setPkt p { x with started := true, order := u.front.nextOrder, at_ := u.now }).step6 x = none := handles
  have form : (u.setPkt p { x with started := true, order := u.front.nextOrder, at_ := u.now }).badCtl x = none := form
  unfold State.startPkt
  extract_lets
  rw [handles]
  dsimp only
  rw [form]
  rfl

/-! ### Launches, tasks and messages (R307, R315) -/

theorem State.calm_setPkt_free (s : State) (p : Nat) (x : Pkt) : (s.calm.setPkt p x).blocked = false := rfl

theorem execLaunch_waits (at_ : s.pkt p = some x) (ready : s.ready p 0x02 = true) :
    execLaunch p s = .next (s.calm.setPkt p { x with performed := true }) :=
  State.perform_next (f := fun _ s => s) ready at_ rfl (State.calm_setPkt_free _ _ _)

theorem execNop_ends (at_ : s.pkt p = some x) (ready : s.ready p 0x01 = true) :
    execNop p s = .next ((s.calm.setPkt p { x with performed := true }).finish p St.OK) :=
  State.perform_next ready at_ rfl (State.blocked_finish _ _ _)

/-- A PERSIST keeps its target queue, or ends BUSY. -/
theorem execPersist_targets (at_ : s.pkt p = some x) (ready : s.ready p 0x09 = true) :
    let u := s.calm.setPkt p { x with performed := true }
    execPersist p s = .next (if (u.queue x.target).ctx = u.pktCtx x ∧ (u.queue x.target).bind = 0 ∧ u.pktsOf x.target = [] then u
      else u.finish p St.BUSY) := by
  intro u
  have free : u.targetFree x = true ↔ (u.queue x.target).ctx = u.pktCtx x ∧ (u.queue x.target).bind = 0 ∧ u.pktsOf x.target = [] := by
    simp [State.targetFree, and_assoc]
  have leads : State.opPersist p x u = if (u.queue x.target).ctx = u.pktCtx x ∧ (u.queue x.target).bind = 0 ∧ u.pktsOf x.target = [] then u
      else u.finish p St.BUSY := if_congr free rfl rfl
  refine State.perform_next ready at_ leads ?_
  split
  · exact State.calm_setPkt_free _ _ _
  · exact (State.blocked_finish _ _ _).trans (State.calm_setPkt_free _ _ _)

theorem execTaskMsg_delivers {id : Nat} {l : Launch} (at_ : s.pkt p = some x) (ready : s.ready p 0x0A = true) (turn : s.msgReady p x = true)
    (task : s.taskOf x.queue = some (id, l)) :
    let w : State := { s with front := { s.front with nextMsg := (s.front.nextMsg + 1) % 2 ^ 32 } }
    execTaskMsg p s = .next ((w.setPkt p { x with performed := true, msgId := s.front.nextMsg }).emits
      (l.parts.map fun k => .msg k l.gen id s.front.nextMsg (slice x.bytes 16 (x.f 8 2)))) := by
  unfold execTaskMsg State.opTaskMsgAt State.opTaskMsg
  simp [at_, ready, turn, task]

/-- A LAUNCH, or a PERSIST whose target is free, with enough credits. -/
theorem execLaunchDispatch_dispatches {ks : List Nat} (up : s.feUp = true) (open_ : s.memOpen = true) (at_ : s.pkt p = some x)
    (kind : x.opcode = 0x02 ∨ (x.opcode = 0x09 ∧ s.targetFree x = true)) (performed : x.performed = true) (live : x.ended = .none)
    (fresh : x.launch = none) (may : s.mayDispatch = true) (credits : chooseSeqs (s.seqsFor x) x.width = some ks) :
    execLaunchDispatch p s = .next (s.dispatch p x ks) := by
  refine (guarded_of _ _ _ (by simp [up, open_])).trans ?_
  obtain launch | ⟨persist, free⟩ := kind
  · simp [State.opDispatch, at_, launch, performed, live, fresh, may, credits, Pkt.persist]
  · simp [State.opDispatch, at_, persist, free, performed, live, fresh, may, credits]

/-! ### Completion, kernel queues and rings (R302, R312, R323) -/

theorem execPacketComplete_next {t : State} (up : s.feUp = true) (leads : State.opComplete p s.calm = t) (free : t.blocked = false) :
    execPacketComplete p s = .next t := by
  subst leads
  exact (guarded_of _ _ _ up).trans (congrArg _ (State.orWait_free free))

theorem execKqEnable_stores {who : Party} {fn : Nat} {v : W32} (running : s.boot.phase = .running) (there : s.present (kqPage fn) = true)
    (right : mayWrite who (kqPage fn) = true) (open_ : s.locked (kqPage fn) = false) (vec : s.badVec fn v = false) :
    let u := s.setReg (kqBase fn) (s.kqWord fn v)
    execKqEnable who fn v s =
      .next (if (s.kqWord fn v).getLsbD 7 ∧ (fn = 0 ∨ u.vstate fn = 1) then u.kernelQueue fn else u) := by
  refine (State.action_running _ running there right).trans ?_
  simp [State.unlocked, State.opKq, open_, vec]

theorem execRingUnbind_frees {who : Party} {ring c : Nat} (running : s.boot.phase = .running) (right : mayWrite who Page.fe = true)
    (bound : SMap.find? s.front.rings ring = some c) :
    execRingUnbind who ring s = .next (({ s with front := { s.front with rings := SMap.erase s.front.rings ring } } : State).useAdd
      (s.ctxFn c) Reg.VFn_USE0.BINDS false) := by
  refine (State.action_running _ running (by rfl) right).trans ?_
  simp [State.unbindRing, bound]

/-! ### The statement -/

/-- Settles O21: each command's guard holds, and its meaning leads where the lemma about it says. The model's choices among them: a fetch
reads at most five slots (log entry 80, a design choice), and no status word is written for a packet of a stored graph (82, deduced). -/
theorem frontEndCommandsComplete : Obligations.FrontEndCommandsComplete := by
  unfold Obligations.FrontEndCommandsComplete
  refine ⟨?doorbell, ?fetch, ?fetched, ?start, State.startPkt_passes, ?engines, ?dispatch, ?complete, ?create, ?ring⟩
  case doorbell => exact fun who page q v s up host named there ahead fits => execDoorbellWrite_moves up host named there ahead fits
  case fetch => exact fun slice q s up ok link on picked => execPacketFetch_reads up ok link on picked
  case fetched =>
    intro q l s up asked ready some_ y st
    have checks := execFetchComplete_checks (l := l) up asked ready some_
    exact ⟨fun passes => checks.trans (congrArg _ (if_pos passes)), fun fails => checks.trans (congrArg _ (if_neg fails))⟩
  case start =>
    intro p x s up open_ at_ fresh result ready order c q
    have due : c.Due p x := ⟨at_, fresh, result, ready, order⟩
    refine ⟨?kernel, ?user⟩
    case kernel =>
      intro kernel service free
      refine execPacketStart_next up open_ (due.opStart.trans ((if_pos kernel).trans (if_pos ?_))) free
      exact congrArg (!·) service
    case user =>
      intro user slots
      have starts := due.opStart.trans ((if_neg (ne_true_of_eq_false user)).trans (if_neg (ne_true_of_eq_false slots)))
      refine ⟨?faulty, ?loads⟩
      case faulty =>
        intro away unchecked free
        refine execPacketStart_next up open_ (starts.trans (if_pos ?_)) free
        exact Bool.and_eq_true_iff.mpr ⟨congrArg (!·) away, congrArg (!·) unchecked⟩
      case loads =>
        intro v good loaded free
        refine execPacketStart_next up open_ (starts.trans ((if_neg ?_).trans ?_)) free
        · rintro refused
          obtain ⟨away, unchecked⟩ := Bool.and_eq_true_iff.mp refused
          obtain h | h := good
          · exact absurd h (ne_true_of_eq_false ((Bool.not_eq_true' _).mp away))
          · exact absurd h (ne_true_of_eq_false ((Bool.not_eq_true' _).mp unchecked))
        · rw [show c.loadCtx (c.queue x.queue).ctx = some v from loaded]
  case engines =>
    intro p x s at_ u
    exact ⟨fun ready => execNop_ends at_ ready, fun ready => execLaunch_waits at_ ready,
      fun ready => execPersist_targets at_ ready, fun id l ready turn task => execTaskMsg_delivers at_ ready turn task⟩
  case dispatch =>
    exact fun p x ks s up open_ at_ kind performed live fresh may credits =>
      execLaunchDispatch_dispatches up open_ at_ kind performed live fresh may credits
  case complete =>
    intro p st x s up at_ ended ops launch occ s' c a b d e f g h free
    refine execPacketComplete_next up ?_ free
    have quiet : ¬(x.opsOut ≠ 0 ∨ (x.launch.map fun id => (SMap.find? c.front.launches id).isSome).getD false = true ∨ c.inOcc p = true) := by
      simp [ops, launch, show c.inOcc p = false from occ]
    unfold State.opComplete
    rw [show s'.calm.pkt p = some x from at_]
    dsimp only
    rw [ended]
    exact if_neg quiet
  case create => exact fun who fn v s running there right open_ vec => execKqEnable_stores running there right open_ vec
  case ring => exact fun who ring c s running right bound => execRingUnbind_frees running right bound

end Sys2Proof.Machine
end

section
/-! Queues, contexts, memory objects, fences and stored graphs: what the kernel packets on them and the page commands of their tables
lead to. -/

namespace Sys2Proof.Machine

variable {s : State} {p : Nat} {x : Pkt}

/-! ### Kernel packets -/

@[simp] theorem State.kres_zero (s : State) (p : Nat) : s.kres p 0 = s.finish p St.OK := rfl

/-- A condition that something is lacking, and one that something is lacking or wrong. -/
theorem not_lacks {a : Bool} (h : a = true) : ¬(!a) = true := by simp [h]
theorem not_lacks_or {a b : Bool} (h : a = true) (k : ¬b = true) : ¬(!a || b) = true := by simp [h, k]

theorem State.finish_free (s : State) (p status : Nat) (free : s.blocked = false) : (s.finish p status).blocked = false :=
  (State.blocked_finish _ _ _).trans free

/-- A packet on a user queue of its function. -/
theorem State.onQueue_user {f : Nat → Queue → State → State} (mine : s.userQueueOf x.fn (x.f 8 2 % 8192) = true) :
    s.onQueue p x f = f (x.f 8 2 % 8192) (s.queue (x.f 8 2 % 8192)) s := if_pos mine

/-- A QUEUE_CTL packet with its OP, on a user queue of its function. -/
theorem State.queueCtl_next {op : Nat} {f : Pkt → Nat → Queue → State → State} {t : State} (at_ : s.pkt p = some x)
    (mine : (s.calm.setPkt p { x with performed := true }).userQueueOf x.fn (x.f 8 2 % 8192) = true) (ready : s.ready p 0x44 = true)
    (named : x.f 10 1 = op)
    (leads : f x (x.f 8 2 % 8192) ((s.calm.setPkt p { x with performed := true }).queue (x.f 8 2 % 8192))
      (s.calm.setPkt p { x with performed := true }) = t) (free : t.blocked = false) : s.queueCtl p op f = .next t := by
  have chosen : ((s.pkt p).map fun x => x.f 10 1 == op).getD false = true := by simp [at_, named]
  exact (if_pos chosen).trans (State.perform_next ready at_ ((State.onQueue_user mine).trans leads) free)

/-- A QUEUE_CTL packet that changes its queue's entry alone. -/
theorem State.queueCtl_sets {op : Nat} {f : Pkt → Nat → Queue → State → State} {y : Queue} (at_ : s.pkt p = some x)
    (mine : (s.calm.setPkt p { x with performed := true }).userQueueOf x.fn (x.f 8 2 % 8192) = true) (ready : s.ready p 0x44 = true)
    (named : x.f 10 1 = op)
    (leads : f x (x.f 8 2 % 8192) ((s.calm.setPkt p { x with performed := true }).queue (x.f 8 2 % 8192))
      (s.calm.setPkt p { x with performed := true }) =
        ((s.calm.setPkt p { x with performed := true }).setQueue (x.f 8 2 % 8192) y).finish p St.OK) :
    s.queueCtl p op f = .next (((s.calm.setPkt p { x with performed := true }).setQueue (x.f 8 2 % 8192) y).finish p St.OK) :=
  State.queueCtl_next at_ mine ready named leads (State.finish_free _ _ _ (State.calm_setPkt_free s p { x with performed := true }))

/-- An object packet while the tables are set (R325). -/
theorem State.objPkt_next {op : Nat} {f : Pkt → State → State} {t : State} (at_ : s.pkt p = some x)
    (set : (s.calm.setPkt p { x with performed := true }).tablesSet = true) (ready : s.ready p op = true)
    (leads : f x (s.calm.setPkt p { x with performed := true }) = t) (free : t.blocked = false) : s.objPkt p op f = .next t :=
  State.perform_next ready at_ ((if_pos set).trans leads) free

/-! ### Queues (R305, R318) -/

theorem State.opQueueCreate_creates (code : s.queueCode x = 0) :
    let g := x.f 13 1
    let y : Queue := { Queue.absent with
      fn := x.fn, ctx := x.f 10 2 % 4096, log2 := x.f 12 1, prio := bits g 0 2, statEn := bit g 2, wbEn := bit g 3, vec := x.f 14 2 % 2048
      ring := x.f 16 8, stat := x.f 24 8, wb := x.f 32 8, budget := x.f 40 2 }
    s.opQueueCreate p x = (((s.noteCtx x.fn (x.f 10 2 % 4096)).createQueue (x.f 8 2 % 8192) y).ctxCount (x.f 10 2 % 4096) 1 0 true).finish p
      St.OK := by
  simp [State.opQueueCreate, code]

theorem State.opQueueResume_resumes {q : Nat} {y : Queue} (kept : s.ctxLostBit y.ctx = false) (stopped : y.state = .error)
    (near : (x.f 16 4 + 2 ^ 32 - y.rptr) % 2 ^ 32 ≤ y.avail) :
    s.opQueueResume p x q y = (s.setQueue q { y with state := .ready, rptr := x.f 16 4, stop := 0 }).finish p St.OK :=
  (if_neg (ne_true_of_eq_false kept)).trans (if_neg (by simpa [stopped] using near))

/-! ### Contexts (R329) -/

theorem State.opCtxCreate_creates (own : s.owns x.fn .ctx (x.f 8 2 % 4096) = true) (new : s.ctxValid (x.f 8 2 % 4096) = false)
    (share : x.f 10 2 % 1024 ≠ 0) (shareOwn : s.owns x.fn .share (x.f 10 2 % 1024) = true)
    (model : bit (x.f 14 1) 0 = false ∨ s.modelOwned x.fn (x.f 12 2) = true) :
    let c := x.f 8 2 % 4096
    let a := s.clearAt (s.ctxOff c 0) 256
    s.opCtxCreate p x = ((a.putW (a.ctxOff c 0) (1 + x.fn * 2 ^ 2 + x.f 10 2 % 1024 * 2 ^ 9 + b2n (bit (x.f 14 1) 0) * 2 ^ 19 +
      x.f 12 2 * 2 ^ 20) 8).useAdd x.fn Reg.VFn_USE0.CTX true).finish p St.OK := by
  have given : ¬(x.f 10 2 % 1024 == 0 || !s.owns x.fn .share (x.f 10 2 % 1024)) = true := by simp [share, shareOwn]
  have sealed : ¬(bit (x.f 14 1) 0 && !s.modelOwned x.fn (x.f 12 2)) = true := by
    obtain h | h := model <;> simp [h]
  unfold State.opCtxCreate
  extract_lets
  rw [if_neg (not_lacks_or own (ne_true_of_eq_false new)), if_neg given, if_neg sealed]
  rfl

theorem State.opCtxDestroy_destroys (usable : (s.noteCtx x.fn (x.f 8 2 % 4096)).ctxUsable x.fn (x.f 8 2 % 4096) = true)
    (idle : (s.noteCtx x.fn (x.f 8 2 % 4096)).ctxQueues (x.f 8 2 % 4096) = 0) :
    s.opCtxDestroy p x = ((s.noteCtx x.fn (x.f 8 2 % 4096)).destroyCtx (x.f 8 2 % 4096)).finish p St.OK := by
  unfold State.opCtxDestroy
  extract_lets
  rw [if_neg (not_lacks usable), if_neg (not_not.mpr idle)]
  exact State.kres_zero _ _

/-! ### Memory objects (R333) -/

theorem State.opObjCreate_creates (own : s.owns x.fn .obj (x.f 8 4 % 2 ^ 18) = true) (new : s.objValid (x.f 8 4 % 2 ^ 18) = false)
    (usable : (s.noteCtx x.fn (x.f 12 2 % 4096)).ctxUsable x.fn (x.f 12 2 % 4096) = true) (base : x.f 16 8 % 4096 = 0)
    (size : x.f 24 8 % 4096 = 0) (some_ : x.f 24 8 ≠ 0) (below : x.f 16 8 + x.f 24 8 < 2 ^ 45)
    (range : (s.noteCtx x.fn (x.f 12 2 % 4096)).rangeOwned x.fn (x.f 16 8) (x.f 24 8) = true) :
    let h := x.f 8 4 % 2 ^ 18
    let c := x.f 12 2 % 4096
    let v := s.noteCtx x.fn c
    let a := v.clearAt (v.objOff h 0) 64
    let b := a.putW (a.objOff h 0) (1 + b2n (bit (x.f 14 1) 0) * 2 ^ 3 + b2n (bit (x.f 14 1) 1) * 2 ^ 4 + x.fn * 2 ^ 5 + c * 2 ^ 12) 8
    let d := ((b.putW (b.objOff h 1) (x.f 16 8) 8).putW (b.objOff h 2) (x.f 24 8) 8).putW (b.objOff h 3) 1 8
    s.opObjCreate p x = ((d.ctxCount c 2 0 true).useAdd x.fn Reg.VFn_USE_OBJ.COUNT true).finish p St.OK :=
  (if_neg (not_lacks_or own (ne_true_of_eq_false new))).trans ((if_neg (not_lacks usable)).trans ((if_neg (by simp [base, size, some_])).trans
    (if_neg (not_or.mpr ⟨Nat.not_le.mpr below, ne_false_of_eq_true range⟩))))

theorem State.opObjDestroy_destroys (usable : (s.noteObj x.fn (x.f 8 4 % 2 ^ 18)).objUsable x.fn (x.f 8 4 % 2 ^ 18) = true)
    (plain : bit (x.f 14 1) 0 = false) :
    s.opObjDestroy p x = (((s.noteObj x.fn (x.f 8 4 % 2 ^ 18)).setObjState (x.f 8 4 % 2 ^ 18) 1).dropRef (x.f 8 4 % 2 ^ 18)).finish p
      St.OK := by
  unfold State.opObjDestroy
  rw [plain]
  extract_lets
  rw [if_neg (not_lacks usable)]
  rfl

/-! ### Fences (R338) -/

theorem State.opFenceCreate_creates (own : s.owns x.fn .fence (x.f 8 2) = true) (new : s.fenceValid (x.f 8 2) = false)
    (usable : (s.noteCtx x.fn (x.f 10 2 % 4096)).ctxUsable x.fn (x.f 10 2 % 4096) = true) :
    let f := x.f 8 2
    let c := x.f 10 2 % 4096
    let v := s.noteCtx x.fn c
    s.opFenceCreate p x = (((((v.clearAt (v.fenceOff f 0) 32).putW (v.fenceOff f 0) (x.f 16 8) 8).putW (v.fenceOff f 1)
      (1 + c * 2 ^ 10 + x.fn * 2 ^ 22) 8).ctxCount c 1 32 true).useAdd x.fn Reg.VFn_USE_FENCE.COUNT true).finish p St.OK :=
  (if_neg (not_lacks_or own (ne_true_of_eq_false new))).trans (if_neg (not_lacks usable))

theorem State.opFenceDestroy_destroys (own : s.owns x.fn .fence (x.f 8 2) = true) (good : s.fenceChecked x.fn (x.f 8 2) = true)
    (live : s.fenceDying (x.f 8 2) = false) : s.opFenceDestroy p x = (s.destroyFence (x.f 8 2) 0x01).finish p St.OK :=
  (if_neg (not_lacks own)).trans ((if_neg (not_lacks good)).trans (if_neg (ne_true_of_eq_false live)))

/-! ### Stored graphs (R335) -/

theorem State.opGraphStore_stores :
    let h := x.f 8 4 % 2 ^ 18
    let v := s.noteObj x.fn h
    let w := v.objW h 6
    let k := 1 - bits w 0 1
    let a := v.readAs (fnMaster x.fn) (x.f 16 8) (64 * x.f 24 2)
    v.objUsable x.fn h = true → v.objGraph h = true → x.f 24 2 ≠ 0 → x.f 24 2 ≤ 4096 → x.f 24 2 ≤ v.objSize h / 128 →
    bits w (16 + 16 * k) 16 = 0 → a.status = St.OK → graphOk (x.f 24 2) (a.st.rd Page.ver Reg.VER_FORMATS.PKT) x.fn (x.f 24 2) a.data = true →
    let r := a.st.writePhys (a.st.objBase h + k * (a.st.objSize h / 2)) a.data 0 false
    let b := r.2
    let o7 := b.objW h 7
    let c := b.putW (b.objOff h 7) (o7 - bits o7 (16 * k) 13 * 2 ^ (16 * k) + x.f 24 2 * 2 ^ (16 * k)) 8
    let w' := w - bits w 0 1 + k
    r.1 = true → s.opGraphStore p x = (c.putW (c.objOff h 6) (if bit w (1 + k) then w' else w' + 2 ^ (1 + k)) 8).finish p St.OK := by
  intro h v w k a usable graph some_ few fits free ok passes r b o7 c w' done
  refine (if_neg (not_lacks_or usable (not_lacks graph))).trans ?_
  refine (if_neg (not_or.mpr ⟨some_, not_or.mpr ⟨Nat.not_lt.mpr few, Nat.not_lt.mpr fits⟩⟩)).trans ?_
  refine (if_neg (not_not.mpr free)).trans ((if_neg (not_not.mpr ok)).trans ?_)
  exact (if_neg (not_lacks passes)).trans (if_neg (not_lacks done))

/-! ### The page commands of the tables (R332, R334, R343, R351) -/

theorem State.present_ctxs (h : s.boot.post = false) : s.present Page.ctxs = true := congrArg (!·) h

/-- Whether a context exists, no register of the page but its table's base tells. -/
theorem State.ctxValid_wr (s : State) {f : Field} (v : Nat) (c : Nat) (h : f.lo + f.w ≤ 32) (lo : f.Apart Reg.CTXS_TBL_LO.ADDR)
    (hi : f.Apart Reg.CTXS_TBL_HI.ADDR) : (s.wr Page.ctxs f v).ctxValid c = s.ctxValid c := by
  have table : (s.wr Page.ctxs f v).ctxTbl = s.ctxTbl := by
    unfold State.ctxTbl State.rdPair
    rw [State.rd_wr_apart _ _ _ h lo, State.rd_wr_apart _ _ _ h hi]
  unfold State.ctxValid State.ctxW State.ctxOff
  rw [table]
  rfl

theorem State.opSnap_absent (none_ : s.ctxValid (s.rd Page.ctxs Reg.CTXS_QSEL.CTX) = false) :
    s.opSnap = (s.wr Page.ctxs Reg.CTXS_QSTATUS.DONE 1).wr Page.ctxs Reg.CTXS_QSTATUS.ABSENT 1 := by
  have none_ : (s.wr Page.ctxs Reg.CTXS_QSTATUS.DONE 1).ctxValid (s.rd Page.ctxs Reg.CTXS_QSEL.CTX) = false :=
    (s.ctxValid_wr 1 _ (by decide) (by decide) (by decide)).trans none_
  simp [State.opSnap, none_]

/-- The words of a window beside the page's other registers. -/
theorem State.rd_foldl_window (l : List (Nat × Nat)) (s : State) :
    (l.foldl (fun s e => (s.wr Page.ctxs Reg.CTXS_QWINw.DATA (e.1 % 2 ^ 32) (2 * e.2)).wr Page.ctxs Reg.CTXS_QWINw.DATA (e.1 / 2 ^ 32)
      (2 * e.2 + 1)) s).rd Page.ctxs Reg.CTXS_QSTATUS.DONE = s.rd Page.ctxs Reg.CTXS_QSTATUS.DONE := by
  have below : Reg.CTXS_QSTATUS.DONE.off < Reg.CTXS_QWINw.DATA.off := by decide
  have beside (s : State) (v i : Nat) :
      (s.wr Page.ctxs Reg.CTXS_QWINw.DATA v i).rd Page.ctxs Reg.CTXS_QSTATUS.DONE = s.rd Page.ctxs Reg.CTXS_QSTATUS.DONE :=
    State.rd_wr_other _ _ _ _ _ _ _ _ (by simp [Field.at_]; omega)
  induction l generalizing s with
  | nil => rfl
  | cons e l ih => exact (ih _).trans ((beside _ _ _).trans (beside _ _ _))

theorem State.opSnap_done (s : State) : s.opSnap.rd Page.ctxs Reg.CTXS_QSTATUS.DONE = 1 := by
  have done : (s.wr Page.ctxs Reg.CTXS_QSTATUS.DONE 1).rd Page.ctxs Reg.CTXS_QSTATUS.DONE = 1 := State.rd_wr_same _ _ _ _ _ (by decide)
  have absent (t : State) (v : Nat) :
      (t.wr Page.ctxs Reg.CTXS_QSTATUS.ABSENT v).rd Page.ctxs Reg.CTXS_QSTATUS.DONE = t.rd Page.ctxs Reg.CTXS_QSTATUS.DONE :=
    State.rd_wr_apart _ _ _ (by decide) (by decide)
  have written (t : State) (y : CtxSlot) : (t.writeCtrs y).rd Page.ctxs Reg.CTXS_QSTATUS.DONE = t.rd Page.ctxs Reg.CTXS_QSTATUS.DONE :=
    (State.writeCtrs_frame (M := 0x102855d00c3b2) (Covers.refl _) (.refl _ t)).rd_same (by decide) rfl 0
  unfold State.opSnap
  extract_lets c t u
  split
  · exact (absent _ _).trans done
  · refine (State.rd_foldl_window _ _).trans ((absent _ _).trans ?_)
    unfold u
    split
    · exact (written _ _).trans done
    · exact done

/-- Whether a fence exists, no register of the page but its table's base tells. -/
theorem State.fenceValid_wr (s : State) {g : Field} (v : Nat) (f : Nat) (h : g.lo + g.w ≤ 32) (lo : g.Apart Reg.FNS_TBL_LO.ADDR)
    (hi : g.Apart Reg.FNS_TBL_HI.ADDR) : (s.wr Page.fns g v).fenceValid f = s.fenceValid f := by
  have table : (s.wr Page.fns g v).fenceTbl = s.fenceTbl := by
    unfold State.fenceTbl State.rdPair
    rw [State.rd_wr_apart _ _ _ h lo, State.rd_wr_apart _ _ _ h hi]
  unfold State.fenceValid State.fence1 State.fenceOff
  rw [table]
  rfl

theorem b2n_mod_two (b : Bool) : b2n b % 2 = b2n b := by cases b <;> rfl

theorem State.opFnsRead_shows (s : State) :
    let f := s.rd Page.fns Reg.FNS_SEL.FENCE
    let t := s.opFnsRead
    t.rdPair Page.fns Reg.FNS_VALUE_LO.VALUE Reg.FNS_VALUE_HI.VALUE = (s.fenceNow f).1 % 2 ^ 64 ∧
      t.rd Page.fns Reg.FNS_INFO.VALID = b2n (s.fenceValid f) ∧ t.rd Page.fns Reg.FNS_INFO.RESIDENT = b2n (s.fenceSlot f).isSome ∧
      t.mem = s.mem ∧ t.objs = s.objs ∧ t.front = s.front := by
  intro f t
  refine ⟨?value, ?valid, ?resident, ?mem, ?objs, ?front⟩
  case value =>
    unfold t State.opFnsRead State.wrPair State.rdPair
    simp (disch := decide) only [State.rd_wr_apart, State.rd_wr_same]
    exact (Nat.mod_mul (a := 2 ^ 32) (b := 2 ^ 32)).symm
  case valid =>
    unfold t State.opFnsRead State.wrPair
    simp (disch := decide) only [State.rd_wr_apart, State.rd_wr_same, State.fenceValid_wr]
    exact b2n_mod_two _
  case resident =>
    unfold t State.opFnsRead State.wrPair
    simp (disch := decide) only [State.rd_wr_apart, State.rd_wr_same]
    exact b2n_mod_two _
  case mem => simp only [t, State.opFnsRead, State.wrPair, State.wr_mem]
  case objs => simp only [t, State.opFnsRead, State.wrPair, State.wr_objs]
  case front => simp only [t, State.opFnsRead, State.wrPair, State.wr_front]

/-! ### The statement -/

/-- Settles O23: each packet's and page command's guard holds, and its meaning leads where the lemma about it says. The model's choices among
them: a kick counts a walk of the tables (log entry 143, a design choice), and GRAPH_STORE reads its source as the class of its queue (88,
deduced). -/
theorem objectCommandsComplete : Obligations.ObjectCommandsComplete := by
  unfold Obligations.ObjectCommandsComplete
  refine ⟨?create, ?queues, ?objects, ?rat, ?ctxs, ?fns⟩
  case create =>
    intro p x s ready at_ u g code y t free
    exact State.perform_next ready at_ (State.opQueueCreate_creates code) free
  case queues =>
    intro p x s at_ u q y mine
    refine ⟨?destroy, ?resume, ?cancel, ?prio, ?hold, ?release⟩
    case destroy =>
      exact fun ready free => State.perform_next (f := fun x s => s.onQueue p x fun q _ s => s.drainQueue q (some p)) ready at_
        (State.onQueue_user mine) free
    case resume =>
      exact fun ready op kept stopped near => State.queueCtl_sets at_ mine ready op (State.opQueueResume_resumes kept stopped near)
    case cancel => exact fun ready op free => State.queueCtl_next at_ mine ready op (State.kres_zero _ _) free
    case prio => exact fun ready op => State.queueCtl_sets at_ mine ready op (State.kres_zero _ _)
    case hold => exact fun ready op => State.queueCtl_sets at_ mine ready op (State.kres_zero _ _)
    case release => exact fun ready op => State.queueCtl_sets at_ mine ready op (State.kres_zero _ _)
  case objects =>
    intro p x s at_ u h set
    refine ⟨?ctxCreate, ?ctxDestroy, ?objCreate, ?objDestroy, ?fenceCreate, ?fenceDestroy, ?graphStore⟩
    case ctxCreate =>
      intro c a w ready own new share shareOwn model t free
      exact State.objPkt_next at_ set ready (State.opCtxCreate_creates own new share shareOwn model) free
    case ctxDestroy =>
      intro c v ready usable idle t free
      exact State.objPkt_next at_ set ready (State.opCtxDestroy_destroys usable idle) free
    case objCreate =>
      intro c v a b d ready own new usable base size some_ below range t free
      exact State.objPkt_next at_ set ready (State.opObjCreate_creates own new usable base size some_ below range) free
    case objDestroy =>
      intro v ready usable plain t free
      exact State.objPkt_next at_ set ready (State.opObjDestroy_destroys usable plain) free
    case fenceCreate =>
      intro f c v t ready own new usable free
      exact State.objPkt_next at_ set ready (State.opFenceCreate_creates own new usable) free
    case fenceDestroy =>
      intro f ready own good live t free
      exact State.objPkt_next at_ set ready (State.opFenceDestroy_destroys own good live) free
    case graphStore =>
      intro v w k a ready usable graph some_ few fits free ok passes r b o7 c w' t done unblocked
      exact State.objPkt_next at_ set ready (State.opGraphStore_stores usable graph some_ few fits free ok passes done) unblocked
  case rat =>
    intro p x s ready at_ u t code free
    exact State.perform_next ready at_ (if_pos code) free
  case ctxs =>
    intro q s running mount right
    have acts (f : State → State) : s.action q Page.ctxs f = .next (f s) := State.action_running f running (State.present_ctxs mount) right
    refine ⟨?absent, ?done, ?kick, ?teardown⟩
    case absent => exact fun none_ => (acts _).trans (congrArg _ (State.opSnap_absent none_))
    case done => exact ⟨_, acts _, s.opSnap_done⟩
    case kick => exact fun h => acts _
    case teardown =>
      intro pending service
      exact (acts _).trans (congrArg _ ((if_pos pending).trans (if_neg (ne_true_of_eq_false service))))
  case fns => exact fun q s running mount right => ⟨_, State.action_running _ running (State.present_fns mount) right, s.opFnsRead_shows⟩

end Sys2Proof.Machine
end

section
/-! Sequencer responses, hangs, the compute-only reset and suspect replay: what the meaning of each of these commands leads to. -/

namespace Sys2Proof.Machine

variable {s : State}

/-! ### Responses of the sequencers (R307, R315, R321) -/

/-- What a first DONE of a part leaves: the launch with it, and the sequencer's credit returned. -/
theorem State.opDone_answered {k gen id st busy : Nat} {l : Launch} (now_ : gen = s.feGen) (named : s.launchOf k id = some l)
    (first : (l.got.any fun g => g.1 == k) = false) :
    let m : Launch := { l with got := l.got ++ [(k, st)] }
    let u := (s.setSeq k { s.seq k with credits := min 16 ((s.seq k).credits + 1) }).addBusy m busy
    State.opDone k gen id st busy s =
      if m.got.length < m.parts.length then { u with front := { u.front with launches := SMap.set u.front.launches id m } }
      else if u.underReplay m.pkt then (u.endLaunch id m).clearCurrent else (u.endLaunch id m).replay := by
  unfold State.opDone
  rw [if_neg (not_not.mpr now_), named]
  exact if_neg (ne_true_of_eq_false first)

theorem State.opMsgDone_ends {k gen id msg st p : Nat} {l : Launch} (now_ : gen = s.feGen) (named : s.launchOf k id = some l)
    (message : s.msgOf id msg = some p) :
    State.opMsgDone k gen id msg st s = s.finish p (if st = 0 then St.OK else if st = 2 then St.CANCELLED else St.FAULT) := by
  unfold State.opMsgDone
  rw [if_neg (not_not.mpr now_), named, message]

/-! ### Hangs (R441, R442, R443, R449, R450) -/

theorem State.hang_serving (service : s.istate = 0) (few : s.recentResets.length + 1 < s.rd Page.err Reg.ERR_ESC_CFG.COUNT) :
    let u := s.wr Page.err Reg.ERR_ESC_STATE.REPLAY_RESETS 0
    s.hang = ({ u with faults := { u.faults with escTimes := u.now :: s.recentResets, suspects := u.newSuspects, order := [], current := none
                                                 replays := 0, isReplayReset := false } } : State).startReset := by
  unfold State.hang
  rw [service]
  exact if_neg (Nat.not_le.mpr few)

theorem State.opWatchdog_aborts {p id : Nat} {l : Launch} (out : s.launchAt p = some (id, l)) (plain : l.persist = false)
    (first : l.wdFired = false) :
    let u := (s.sendAborts p).abortPkt p St.WATCHDOG
    State.opWatchdog p s = { u with front := { u.front with launches := SMap.set u.front.launches id { l with wdFired := true } } } := by
  simp [State.opWatchdog, out, plain, first]

theorem State.opGrace_hangs {p id : Nat} {l : Launch} (out : s.launchAt p = some (id, l)) (fired : l.wdFired = true) :
    State.opGrace p s = s.hang := by
  simp [State.opGrace, out, fired]

/-! ### Replay (R445 to R448) -/

theorem State.opHeartbeatEnd_gives_up (spent : s.enterReplay.rd Page.err Reg.ERR_CRST_CFG.REPLAY_MAX ≤ s.enterReplay.faults.replays) :
    s.opHeartbeatEnd = s.enterReplay.loseWaiting.endEpisode := if_pos spent

/-- In hardware mode, and not after a replay reset, every waiting suspect is replayed. -/
theorem State.opHeartbeatEnd_replays (left_ : s.enterReplay.faults.replays < s.enterReplay.rd Page.err Reg.ERR_CRST_CFG.REPLAY_MAX)
    (fresh : s.enterReplay.faults.isReplayReset = false) (hardware : s.enterReplay.hostMode 3 = false) :
    let u := s.enterReplay
    s.opHeartbeatEnd = ({ u with faults := { u.faults with order := u.waitingSuspects } } : State).replay := by
  unfold State.opHeartbeatEnd
  rw [if_neg (Nat.not_le.mpr left_), if_neg (ne_true_of_eq_false fresh), if_neg (by simp [hardware])]

theorem State.opProbe_clears {u : Suspect} {id : Nat} {l : Launch}
    (current : (s.faults.current.bind fun i => s.faults.suspects[i]?) = some u) (out : s.launchAt u.slot = some (id, l))
    (task : l.persist = true) : s.opProbe = (s.resendMsgs u.slot).clearCurrent := by
  unfold State.opProbe
  rw [current]
  exact if_pos (by simp [out, task])

/-- RESUME of a block that has stopped. -/
theorem execResume_resumes {p : Nat} {x : Pkt} (ready : s.ready p 0x68 = true) (at_ : s.pkt p = some x) (stopped : s.sync.stopped = true) :
    let u := s.calm.setPkt p { x with performed := true }
    let t := ((({ u with sync := { u.sync with
      stopped := false, draining := false, stopDt := if u.sync.stopArmed then u.sync.stopDt else none } } : State).saveRecord).finish p St.OK).replay
    t.blocked = false → execResume p s = .next t := by
  intro u t free
  have stopped : u.sync.stopped = true := stopped
  refine State.perform_next ready at_ ?_ free
  rw [if_neg (not_lacks stopped), State.kres_zero]

/-! ### Answers to the requests of host software (R440, R448) -/

/-- A command register of the ERR page that answers a host-assisted request while the service pair runs. -/
theorem State.action_err_assisted {p : Party} (c : SvcCmd) (f : State → State) (running : s.boot.phase = .running)
    (right : mayWrite p Page.err = true) (service : s.boot.svcHalted = false) :
    (s.action p Page.err fun s => s.assisted c f) = .next (f s) :=
  (State.action_running _ running (by rfl) right).trans (congrArg _ (if_neg (ne_true_of_eq_false service)))

/-- An action on a suspect that waits for one. -/
theorem State.suspectCmd_acts {p : Party} {i : Nat} {u : Suspect} (c : SvcCmd) (f : Suspect → State → State)
    (running : s.boot.phase = .running) (right : mayWrite p Page.err = true) (service : s.boot.svcHalted = false) (replay : s.istate = 2)
    (asked : s.haPending 3 = true) (there : s.faults.suspects[i]? = some u) (open_ : u.action = 0) (waits : u.state = 0) :
    State.suspectCmd p i c f s = .next (f u s).actionsDone := by
  refine (State.action_err_assisted _ _ running right service).trans ?_
  simp [there, replay, asked, open_, waits]

theorem State.triageAct_answers {e : Triage} {r : List Triage} (f : State → Triage → State) (later : Triage → Bool)
    (shown : s.faults.triage = e :: r) (asked : s.haPending 7 = true) :
    s.triageAct f later = if later e then f (s.haClear 7) e else (f (s.haClear 7) e).triageNext := by
  unfold State.triageAct
  rw [shown]
  exact if_neg (not_lacks asked)

/-! ### The statement -/

/-- Settles O24: each command's guard holds, and its meaning leads where the lemma about it says. The model's reading among
them: a MSG_DONE gives its TASK_MSG a status as a DONE gives its launch one (log entry 93, deduced; R321 gives that status no values). -/
theorem recoveryCommandsComplete : Obligations.RecoveryCommandsComplete := by
  unfold Obligations.RecoveryCommandsComplete
  refine ⟨?done, ?message, ?heartbeat, ?reserved, ?lost, ?stall, ?crst, ?hang, ?watchdog, ?quarantine, ?hold, ?idle, ?replay, ?probe,
    ?suspect, ?triage, ?resume⟩
  case done =>
    intro k gen id st busy l s up mount now_ named first m u
    have answers : exec (.seqDone k gen id st busy) s = .next (State.opDone k gen id st busy s) := guarded_of _ s _ (by simp [up, mount])
    have leads := State.opDone_answered (st := st) (busy := busy) now_ named first
    exact ⟨fun more => answers.trans (congrArg _ (leads.trans (if_pos more))),
      fun last => answers.trans (congrArg _ (leads.trans (if_neg (Nat.not_lt.mpr last))))⟩
  case message =>
    intro k gen id msg st p l s up mount now_ named message
    exact (guarded_of _ s (State.opMsgDone k gen id msg st) (by simp [up, mount])).trans
      (congrArg _ (State.opMsgDone_ends now_ named message))
  case heartbeat =>
    intro k gen a b s up mount built now_ u
    exact (guarded_of _ s (State.opHeartbeat k gen) (by simp [up, mount, built])).trans (congrArg _ (if_neg (not_not.mpr now_)))
  case reserved => exact fun k kind gen id s up mount => guarded_of _ s _ (by simp [up, mount])
  case lost =>
    exact fun k s up mount there service => guarded_of _ s (fun s => (s.err Page.fe Err.fe.HB_LOST).hang)
      (by simp [up, mount, there, service])
  case stall =>
    exact fun port s mount built out =>
      guarded_of _ s (fun s => (s.err Page.err Err.err.DCP_STALL { place := port, placeKind := 5 }).hang) (by simp [mount, built, out])
  case crst =>
    intro p s running right service mount
    exact (State.action_running _ running (by rfl) right).trans (congrArg _ (if_pos ⟨service, mount⟩))
  case hang => exact fun s service few => State.hang_serving service few
  case watchdog =>
    intro p id l s up mount out
    refine ⟨?fires, ?grace⟩
    case fires =>
      intro plain first
      exact (guarded_of _ s (State.opWatchdog p) (by simp [up, mount])).trans (congrArg _ (State.opWatchdog_aborts out plain first))
    case grace =>
      intro fired
      exact (guarded_of _ s (State.opGrace p) (by simp [up, mount])).trans (congrArg _ (State.opGrace_hangs out fired))
  case quarantine => exact fun s mount phase free => guarded_of _ s (fun s => s.enterReset s.nextGen) (by simp [mount, phase, free])
  case hold =>
    exact fun s mount phase =>
      guarded_of _ s (fun s => { s with faults := { s.faults with phase := .idleWait } }) (by simp [mount, phase])
  case idle =>
    exact fun s mount phase => ⟨guarded_of _ s State.opDeassert (by simp [mount, phase]),
      guarded_of _ s (fun s => (s.err Page.err Err.err.DCP_STALL).opDeassert) (by simp [mount, phase])⟩
  case replay =>
    intro s mount up phase u
    have ends : exec .crstHeartbeatWaitEnd s = .next s.opHeartbeatEnd := guarded_of _ s _ (by simp [mount, up, phase])
    exact ⟨fun spent => ends.trans (congrArg _ (State.opHeartbeatEnd_gives_up spent)),
      fun left_ fresh hardware => ends.trans (congrArg _ (State.opHeartbeatEnd_replays left_ fresh hardware))⟩
  case probe =>
    intro u id l s up mount replay current out task
    exact (guarded_of _ s State.opProbe (by simp [up, mount, replay])).trans (congrArg _ (State.opProbe_clears current out task))
  case suspect =>
    intro p i u s running right service replay asked there open_ waits v
    have acts (c : SvcCmd) (f : Suspect → State → State) := State.suspectCmd_acts c f running right service replay asked there open_ waits
    exact ⟨acts _ _, acts _ _, acts _ _⟩
  case triage =>
    intro p e r s running right service shown asked u entry
    have acts (c : SvcCmd) (f : State → State) := State.action_err_assisted c f running right service
    have answers (f : State → Triage → State) (later : Triage → Bool) := State.triageAct_answers f later shown asked
    refine ⟨?extent, ?granule, ?rebuild, ?leave⟩
    case extent =>
      intro extent
      have level : max 1 e.level = e.level := Nat.max_eq_right (Nat.one_le_iff_ne_zero.mpr extent)
      refine (acts _ _).trans (congrArg _ ((answers _ _).trans ((if_pos (by simp [extent])).trans ?_)))
      simp [State.triageRetire, extent, entry, level, u]
    case granule =>
      intro granule
      refine (acts _ _).trans (congrArg _ ((answers _ _).trans ((if_neg (by simp [granule])).trans ?_)))
      simp [State.triageRetire, granule, u]
    case rebuild => exact (acts _ _).trans (congrArg _ (answers _ _))
    case leave => exact (acts _ _).trans (congrArg _ (answers _ _))
  case resume =>
    exact fun p x s ready at_ stopped free => execResume_resumes ready at_ stopped free

end Sys2Proof.Machine
end

section
/-! Key loads, the saddle, tamper and the control cipher: what the meaning of each of these commands leads to. -/

namespace Sys2Proof.Machine

variable {s : State} {p : Nat} {x : Pkt}

/-! ### KEY_LOAD (R387) -/

theorem State.blocked_congr {t : State} (h : t.mem = s.mem) : t.blocked = s.blocked := by
  unfold State.blocked
  rw [h]

/-- The end of a packet changes its entry alone. -/
theorem State.finish_mem (s : State) (p status detail : Nat) : (s.finish p status detail).mem = s.mem := by
  unfold State.finish State.modPkt
  split <;> rfl

theorem State.lastRefuse_mem (s : State) (source code : Nat) : (s.lastRefuse source code).mem = s.mem := by
  simp only [State.lastRefuse, State.wr_mem]

theorem State.finish_trust (s : State) (p status detail : Nat) : (s.finish p status detail).trust = s.trust := by
  unfold State.finish State.modPkt
  split <;> rfl

theorem State.finish_regs (s : State) (p status detail : Nat) : (s.finish p status detail).regs = s.regs := by
  unfold State.finish State.modPkt
  split <;> rfl

/-- A KEY_LOAD packet whose OP's meaning succeeds. -/
theorem State.keyLoad_loads {isOp : Nat → Bool} {f : Nat → Nat → State → Nat × State} {v : State} (at_ : s.pkt p = some x)
    (ready : s.ready p 0x60 = true) (named : isOp (x.f 8 1) = true)
    (leads : f (x.f 9 1) (x.f 16 8) (s.calm.setPkt p { x with performed := true }) = (0, v)) (free : v.blocked = false) :
    s.keyLoad p isOp f = .next (v.finish p St.OK) := by
  unfold State.keyLoad
  rw [at_]
  exact (if_neg (not_lacks named)).trans (State.perform_next ready at_ (by rw [leads]; rfl) (State.finish_free _ _ _ free))

/-- One that its OP's meaning refuses. -/
theorem State.keyLoad_refuses {isOp : Nat → Bool} {f : Nat → Nat → State → Nat × State} {code : Nat} {v : State} (at_ : s.pkt p = some x)
    (ready : s.ready p 0x60 = true) (named : isOp (x.f 8 1) = true)
    (leads : f (x.f 9 1) (x.f 16 8) (s.calm.setPkt p { x with performed := true }) = (code, v)) (refused : code ≠ 0)
    (free : v.blocked = false) : s.keyLoad p isOp f = .next ((v.lastRefuse 2 code).finish p St.REFUSED code) := by
  unfold State.keyLoad
  rw [at_]
  have ends : ((v.lastRefuse 2 code).finish p St.REFUSED code).blocked = false :=
    (State.blocked_congr ((State.finish_mem _ _ _ _).trans (v.lastRefuse_mem _ _))).trans free
  exact (if_neg (not_lacks named)).trans (State.perform_next ready at_ (by rw [leads]; exact if_neg refused) ends)

/-- An empty slot 8 and a source that the PF may read. -/
theorem State.opAnchor_puts {src : Nat} (empty : (s.slot 8).state = 0) (allowed : s.checkRange Master.pf 0 src 48 = none)
    (ok : (s.readAs Master.pf src 48).status = St.OK) :
    s.opAnchor src = (0, (s.readAs Master.pf src 48).st.putAnchor (s.readAs Master.pf src 48).data) := by
  unfold State.opAnchor
  rw [if_neg (by simp [empty])]
  exact if_neg (by simp [allowed, ok])

theorem State.opActivate_activates {n : Nat} (link : 9 ≤ n) (kind : (s.slot n).kind = 5) (held : (s.slot n).state = 1)
    (few : s.dlkActive.length < 2) : s.opActivate n = (0, (s.setSlot n { s.slot n with state := 2 }).dlkBegun) := by
  unfold State.opActivate
  rw [if_neg (by simp [link, kind, held])]
  exact if_neg (Nat.not_le.mpr few)

/-- What follows an activation at the ports touches no memory. -/
theorem State.dlkBegun_blocked (s : State) : s.dlkBegun.blocked = s.blocked :=
  State.blocked_congr ((State.dlkBegun_frame (M := 0x100850c000280) (Covers.refl _) (.refl _ s)).same .mem rfl)

theorem State.opErase_frees {n : Nat} (low : 9 ≤ n) (high : n < 32)
    (link : (s.slot n).kind = 5 → (s.slot n).state ≠ 0 → s.genUsed (s.slot n).gen = false)
    (weight : (s.slot n).kind = 6 → (s.mem.sealSlots.any fun e => e.2 == n) = false) : s.opErase n = (0, s.setSlot n Slot.free) := by
  have unused : ¬((s.slot n).kind == 5 && (s.slot n).state != 0 && s.genUsed (s.slot n).gen ||
      (s.slot n).kind == 6 && s.mem.sealSlots.any fun e => e.2 == n) = true := by
    simp only [Bool.or_eq_true, Bool.and_eq_true, beq_iff_eq, bne_iff_ne, ne_eq, not_or, not_and]
    exact ⟨fun ⟨kind, state⟩ => ne_true_of_eq_false (link kind state), fun kind => ne_true_of_eq_false (weight kind)⟩
  unfold State.opErase
  rw [if_neg (by simp [low, high])]
  exact if_neg unused

/-- The registers of confidential mode: CONF is set, the counters freeze, the trace ends. -/
def State.confRegs (s : State) : State :=
  ((s.wr Page.key Reg.KEY_STATUS.CONF 1).wr Page.cnt Reg.CNT_STATUS.FROZEN 1).wr Page.trc Reg.TRC_STATUS.RUNNING 0

/-- What CONF_ENTER leaves. -/
def State.confEntered (s : State) : State := { s.confRegs with dbg := { s.confRegs.dbg with lcLines := [], lcWant := false } }

/-- A fielded unit with its anchor and its join record enters confidential mode. -/
theorem State.opConfEnter_enters (fielded : s.lcState = 2) (anchor : (s.slot 8).state = 1) (joined : s.trust.join.isSome = true) :
    s.opConfEnter = (0, s.confEntered) := by
  have whole : ¬((s.slot 8).state != 1 || s.trust.join.isNone) = true := by
    simpa [anchor, Option.isSome_iff_ne_none] using joined
  unfold State.opConfEnter
  rw [if_neg (by simp [fielded]), if_neg whole]
  rfl

theorem State.confEntered_regs (s : State) : s.confEntered.regs = s.confRegs.regs := rfl

theorem State.confEntered_mem (s : State) : s.confEntered.mem = s.mem := by
  simp only [State.confEntered, State.confRegs, State.wr_mem]

theorem State.confEntered_trust (s : State) : s.confEntered.trust = s.trust := by
  simp only [State.confEntered, State.confRegs, State.wr_trust]

theorem State.confRegs_rd (s : State) : s.confRegs.rd Page.key Reg.KEY_STATUS.CONF = 1 ∧
    s.confRegs.rd Page.cnt Reg.CNT_STATUS.FROZEN = 1 ∧ s.confRegs.rd Page.trc Reg.TRC_STATUS.RUNNING = 0 := by
  have beside (s : State) (p q : Page) (f g : Field) (v : Nat) (apart : g.at_ q 0 ≠ f.at_ p 0) : (s.wr p f v).rd q g = s.rd q g :=
    State.rd_wr_other _ _ _ _ _ _ _ _ apart
  refine ⟨?conf, ?frozen, State.rd_wr_same _ _ _ _ _ (by decide)⟩
  case conf =>
    exact (beside _ _ _ _ _ _ (by decide)).trans ((beside _ _ _ _ _ _ (by decide)).trans (State.rd_wr_same _ _ _ _ _ (by decide)))
  case frozen => exact (beside _ _ _ _ _ _ (by decide)).trans (State.rd_wr_same _ _ _ _ _ (by decide))

/-- The end of a CONF_ENTER packet leaves what the command did. -/
theorem State.confEntered_finish (s : State) (p : Nat) :
    let t := s.confEntered.finish p St.OK
    t.rd Page.key Reg.KEY_STATUS.CONF = 1 ∧ t.rd Page.cnt Reg.CNT_STATUS.FROZEN = 1 ∧ t.rd Page.trc Reg.TRC_STATUS.RUNNING = 0 ∧
      t.trust = s.trust ∧ t.mem = s.mem := by
  have kept (q : Page) (f : Field) : (s.confEntered.finish p St.OK).rd q f = s.confRegs.rd q f :=
    State.rd_congr ((State.finish_regs _ _ _ _).trans s.confEntered_regs) q f 0
  obtain ⟨shown, frozen, trace⟩ := s.confRegs_rd
  exact ⟨(kept _ _).trans shown, (kept _ _).trans frozen, (kept _ _).trans trace,
    (State.finish_trust _ _ _ _).trans s.confEntered_trust, (State.finish_mem _ _ _ _).trans s.confEntered_mem⟩

/-! ### The saddle (R371, R372) -/

theorem State.opSaddle_good {y : SaddleOp} (next : nextSaddle s.trust.saddleQ = some y) :
    State.opSaddle true s = ({ s with trust := { s.trust with saddleQ := s.trust.saddleQ.erase y } } : State).saddleDo y.use := by
  unfold State.opSaddle
  rw [next]
  rfl

theorem State.opSaddle_fails {y : SaddleOp} (next : nextSaddle s.trust.saddleQ = some y) (again : y.failed = true) :
    State.opSaddle false s = ({ s with trust := { s.trust with saddleQ := s.trust.saddleQ.erase y } } : State).saddleFail y.use := by
  unfold State.opSaddle
  rw [next]
  exact (if_neg Bool.false_ne_true).trans (if_pos again)

/-! ### Tamper (R392, R393) -/

theorem State.opTamper_slots (s : State) : s.opTamper.trust.slots = [] := by
  let z := ({ s with pins := { s.pins with tamperN := false } } : State).zeroise.emit .koZeroize
  have kept : (z.fatal Page.key Err.key.TAMPER).trust = z.trust :=
    (State.fatal_frame (Covers.or_left (B := Page.key.fam.mask)) (.refl _ z) Covers.or_right).same .trust rfl
  have empty : z.trust.slots = [] := by simp only [z, State.emit_trust, State.zeroise]
  have reset : s.opTamper.trust.slots = (z.fatal Page.key Err.key.TAMPER).trust.slots.filter fun e => 8 ≤ e.1 := rfl
  rw [reset, kept, empty]
  rfl

/-! ### The control cipher (R398 to R407) -/

/-- A command of one of a page's owner's parties. -/
theorem State.ccipDo_owner {q : Party} {n : Nat} (f : State → State) (running : s.boot.phase = .running) (page : n < 16)
    (right : mayWrite q (Page.ccip n) = true) (owner : ownerMay q (s.rd (Page.ccip n) Reg.CCIP_OWNER.OWNER) = true) :
    s.ccipDo q n f = .next (f s) := by
  have there : s.present (Page.ccip n) = true := by simp [State.present, Fam.slots, page]
  exact (State.action_running _ running there right).trans (congrArg _ (if_pos owner))

theorem State.keyReq_trng {n : Nat} (idle : s.ccipBusy n = false) (small : Bool) :
    s.keyReq n 1 0 small false true =
      ((s.wr (Page.ccip n) Reg.CCIP_STATUS.BUSY 1).wr (Page.ccip n) Reg.CCIP_KEY_STATUS.DONE 0).saddleAdd 5 (.ccipTrng n small) := by
  simp [State.keyReq, idle]

theorem State.keyReq_derive {n slot : Nat} (idle : s.ccipBusy n = false) (sec : s.rd (Page.ccip n) Reg.CCIP_OWNER.OWNER = 0)
    (source : s.derivable slot = true) (small : Bool) :
    s.keyReq n 2 slot small false true =
      ((s.wr (Page.ccip n) Reg.CCIP_STATUS.BUSY 1).wr (Page.ccip n) Reg.CCIP_KEY_STATUS.DONE 0).saddleAdd 5 (.ccipDerive n slot small) := by
  simp [State.keyReq, idle, sec, source]

theorem State.keyReq_erase {n : Nat} (idle : s.ccipBusy n = false) (small slotOk : Bool) :
    s.keyReq n 0 0 small true slotOk = (s.ccipKey n none).ccipKeyDone n 0 := by
  simp [State.keyReq, idle]

theorem State.opJobDone_runs {n : Nat} {k : Nat × Key256} (done : Nat) (had : (s.ccipAt n).hadKey = true) (key : (s.ccipAt n).key = some k)
    (going : (s.ccipAt n).aborting = false) (engine : s.rdb (Page.ccip n) Reg.CCIP_STATUS.ENGINE_OUT = false)
    (length : badLength (s.rdb (Page.ccip n) Reg.CCIP_OP.DIR) (s.rd (Page.ccip n) Reg.CCIP_OP.PAD) (s.rd (Page.ccip n) Reg.CCIP_LEN.LEN) = false) :
    State.opJobDone n done 0 false s =
      s.jobRun n k (s.rdb (Page.ccip n) Reg.CCIP_OP.DIR) (s.rd (Page.ccip n) Reg.CCIP_OP.PAD) (s.rd (Page.ccip n) Reg.CCIP_LEN.LEN) := by
  simp [State.opJobDone, had, key, going, engine, length]

/-! ### The statement -/

/-- Settles O26: each command's guard holds, and its meaning leads where the lemma about it says. -/
theorem keyAndCipherCommandsComplete : Obligations.KeyAndCipherCommandsComplete := by
  unfold Obligations.KeyAndCipherCommandsComplete
  refine ⟨?load, ?saddle, ?sessions, ?tamper, ?cipher, ?job⟩
  case load =>
    intro p x s mount ready at_ u n
    refine ⟨?anchor, ?activate, ?erase, ?conf, ?invalid⟩
    case anchor =>
      intro op empty allowed ok t free
      have anchors : exec (.keyLoadAnchor p) s = s.keyLoad p (· == 1) fun _ src s => s.opAnchor src :=
        if_neg (ne_true_of_eq_false mount)
      exact anchors.trans (State.keyLoad_loads at_ ready (by simp [op]) (State.opAnchor_puts empty allowed ok)
        ((State.blocked_finish _ _ _).symm.trans free))
    case activate =>
      intro op link kind held few
      exact State.keyLoad_loads (isOp := (· == 2)) (f := fun n _ s => s.opActivate n) at_ ready (by simp [op])
        (State.opActivate_activates link kind held few) (State.dlkBegun_blocked _)
    case erase =>
      intro op low high link weight
      exact State.keyLoad_loads (isOp := (· == 3)) (f := fun n _ s => s.opErase n) at_ ready (by simp [op])
        (State.opErase_frees low high link weight) rfl
    case conf =>
      intro op fielded anchor joined
      have sameState : u.lcState = s.lcState := rfl
      have sameSlot : u.slot 8 = s.slot 8 := rfl
      have enters : u.opConfEnter = (0, u.confEntered) :=
        State.opConfEnter_enters (sameState.trans fielded) ((congrArg Slot.state sameSlot).trans anchor) joined
      have free : u.confEntered.blocked = false := (State.blocked_congr u.confEntered_mem).trans (State.calm_setPkt_free _ _ _)
      exact ⟨_, State.keyLoad_loads (isOp := (· == 4)) (f := fun _ _ s => s.opConfEnter) at_ ready (by simp [op]) enters free,
        u.confEntered_finish p⟩
    case invalid =>
      intro op
      exact State.keyLoad_refuses (isOp := fun op => op == 0 || 4 < op) (f := fun _ _ s => (9, s)) at_ ready (by simpa using op) rfl
        (by decide) rfl
  case saddle =>
    intro y s serving next u
    exact ⟨(guarded_of _ s (State.opSaddle true) serving).trans (congrArg _ (State.opSaddle_good next)),
      fun again => (guarded_of _ s (State.opSaddle false) serving).trans (congrArg _ (State.opSaddle_fails next again))⟩
  case sessions =>
    intro q s running right
    have acts (f : State → State) : s.action q Page.key f = .next (f s) := State.action_running f running (by rfl) right
    refine ⟨acts fun s => (s.trust.sessions.map Session.id).foldl (fun s id => s.sessionEnd id) s, fun asked service => ?_⟩
    exact (acts _).trans (congrArg _ ((if_pos asked).trans (if_neg (ne_true_of_eq_false service))))
  case tamper => exact fun s => ⟨⟨rfl, s.opTamper_slots, rfl⟩, rfl⟩
  case cipher =>
    intro q n v s running page right owner u
    have acts (f : State → State) := State.ccipDo_owner f running page right owner
    refine ⟨?trng, ?derive, ?clear, ?start, ?abort⟩
    case trng => exact fun idle => (acts fun s => s.keyReq n 1 0 (v.getLsbD 2) false true).trans (congrArg _ (State.keyReq_trng idle _))
    case derive =>
      exact fun idle sec source => (acts fun s => s.keyReq n 2 (fieldOf v 3 5) (v.getLsbD 2) false true).trans
        (congrArg _ (State.keyReq_derive idle sec source _))
    case clear => exact fun idle => (acts fun s => s.keyReq n 0 0 false true true).trans (congrArg _ (State.keyReq_erase idle _ _))
    case start => exact fun idle => (acts _).trans (congrArg _ (if_neg (ne_true_of_eq_false idle)))
    case abort => exact fun busy => (acts _).trans (congrArg _ (if_pos busy))
  case job =>
    intro n done k s up busy had key going engine decrypt pad len length
    exact (guarded_of _ s (State.opJobDone n done 0 false) (by simp [up, busy])).trans
      (congrArg _ (State.opJobDone_runs done had key going engine length))

end Sys2Proof.Machine
end

section
/-! SPDM connection set-up, certificates, measurements, key exchange and large messages: what the meaning of each of these requests leads to. -/

namespace Sys2Proof.Machine

variable {s : State}

/-! ### When requests are taken (R374, R419) -/

theorem State.afterAlgorithms_of (session : Nat) (f : State → State) (agreed : s.trust.phase = .negotiated) :
    s.afterAlgorithms session f = f s := if_pos agreed

/-- A request that needs an identity, at a unit that has one. -/
theorem State.identified_of (f : State → State) (maker : s.lcState ≠ 0) (scrapped : s.lcState ≠ 4) (agreed : s.trust.phase = .negotiated) :
    s.identified f = f s :=
  (if_neg (by simp [State.noIdentity, maker, scrapped])).trans (if_pos agreed)

/-- A signature while the Alias slot is usable. -/
theorem State.aliasSign_of (m : List Byte) (usable : (s.slot 2).state = 1) :
    s.aliasSign m = some (p384Sig (slice (s.slot 2).payload 0 48) m, s.saddled) := by
  simp [State.aliasSign, State.slotKey, usable]

/-! ### Connection set-up (R373 to R375) -/

theorem State.opCapabilities_answers (asked : s.trust.phase = .version) :
    s.opCapabilities = ((s.draw 1).2.setSpdm .caps).spdmSend 0 Spdm.CAPABILITIES
      ([0, by1 (Config.free (s.draw 1).1).toNat, 0, 0] ++ leBytes 4 0x273D6 ++ leBytes 4 4096 ++ leBytes 4 65536) :=
  if_neg (not_not.mpr asked)

theorem State.opAlgorithms_answers (asked : s.trust.phase = .caps) (offers : Bool) :
    State.opAlgorithms offers s = if offers then (s.setSpdm .negotiated).spdmSend 0 Spdm.ALGORITHMS spdmAlgorithms
      else s.spdmErr 0 Spdm.InvalidRequest :=
  if_neg (not_not.mpr asked)

/-! ### Certificates (R366) -/

/-- The chain of the block's own DeviceID key is served. -/
theorem State.needChain_serves (u : CertUse) (mount : s.boot.post = false) :
    let r := s.readAs Master.maint (s.rdPair Page.key Reg.KEY_CERT_BASE_LO.ADDR Reg.KEY_CERT_BASE_HI.ADDR) (s.rd Page.key Reg.KEY_CERT_LEN.BYTES)
    r.status = St.OK → slice (Config.certKey r.data) 0 97 = slice r.st.trust.deviceId 0 97 →
    s.needChain u = r.st.serveChain u (Config.certChain r.data r.st.trust.aliasCert r.st.trust.aliasStmt) := by
  intro r ok own
  have good : ¬(!(r.status == St.OK) || slice (Config.certKey r.data) 0 97 != slice r.st.trust.deviceId 0 97) = true := by
    simp [ok, own]
  exact (if_neg (ne_true_of_eq_false mount)).trans (if_neg good)

/-- A challenge is answered with drawn bytes, signed. -/
theorem State.serveChain_challenge (nonce chain : List Byte) (usable : (s.slot 2).state = 1) :
    ∃ (u : State) (t : Nat) (ours : List Byte), { u with draws := s.draws } = s ∧ s.serveChain (.challenge nonce) chain =
      u.saddled.spdmSend 0 Spdm.CHALLENGE_AUTH
        (shaBytes chain ++ ours ++ p384Sig (slice (s.slot 2).payload 0 48) (leBytes 8 t ++ nonce ++ ours)) := by
  let t := s.transcript
  let r := t.2.drawBytes 32
  have sameSlot : r.2.slot 2 = s.slot 2 := rfl
  refine ⟨r.2, t.1, r.1, rfl, ?_⟩
  have signs := State.aliasSign_of (s := r.2) (leBytes 8 t.1 ++ nonce ++ r.1) ((congrArg Slot.state sameSlot).trans usable)
  unfold State.serveChain
  dsimp only
  rw [signs, sameSlot]

/-! ### Key exchange (R376) -/

/-- The session that a KEY_EXCHANGE begins in slot 4. -/
def Session.begun (reqId transcript : Nat) (dhe : List Byte) : Session :=
  { id := reqId % 65536 + 65536 * 4, slot := 4, phase := 1, anchored := false, hybrid := false, kem := none, kemUsed := false, dhe := dhe
    secret := [], ivs := [], transcript := transcript, encap := 0, chain := [], reqSeq := 0, rspSeq := 0, nonces := [] }

/-- The first session takes slot 4. -/
theorem State.opKeyExchange_first (reqId : Nat) (pub : List Byte) (none_ : s.trust.sessions = []) (free : (s.slot 4).state = 0)
    (usable : (s.slot 2).state = 1) :
    let r := s.saddled.drawBytes 48
    let t := r.2.transcript
    let u := t.2.saddled
    s.opKeyExchange reqId pub =
      ({ u with trust := { u.trust with sessions := [Session.begun reqId t.1 (Config.p384Shared r.1 pub)] } }).spdmOut 0 Spdm.KEY_EXCHANGE_RSP
        (leBytes 2 4 ++ [2] ++ p384Key r.1 ++ p384Sig (slice (s.slot 2).payload 0 48) (leBytes 8 t.1 ++ pub)) := by
  intro r t u
  have few : ¬4 ≤ s.trust.sessions.length := by simp [none_]
  have first : ((List.range 4).find? fun k =>
      (s.slot (4 + k)).state = 0 ∧ (s.trust.sessions.any fun x => x.slot == 4 + k) = false) = some 0 :=
    List.find?_cons_of_pos (by simp [free, none_])
  have sameSlot : t.2.slot 2 = s.slot 2 := rfl
  have signs := State.aliasSign_of (s := t.2) (leBytes 8 t.1 ++ pub) ((congrArg Slot.state sameSlot).trans usable)
  have alone : u.trust.sessions ++ [Session.begun reqId t.1 (Config.p384Shared r.1 pub)] = [Session.begun reqId t.1 (Config.p384Shared r.1 pub)] := by
    rw [show u.trust.sessions = [] from none_]
    rfl
  unfold State.opKeyExchange
  rw [if_neg few, first]
  dsimp only
  rw [signs, sameSlot]
  rw [← alone]
  rfl

/-! ### Measurements (R374) -/

theorem State.opMeasurements_signed (session op : Nat) (nonce : List Byte) (usable : (s.slot 2).state = 1) (low : op ≤ 1) :
    ∃ (u : State) (t : Nat), { u with draws := s.draws } = s ∧
      let body := if op = 0 then [4] else beBytes 48 s.trust.measSec.toNat
      State.opMeasurements session op nonce s =
        u.saddled.spdmSend session Spdm.MEASUREMENTS (body ++ p384Sig (slice (s.slot 2).payload 0 48) (leBytes 8 t ++ nonce ++ body)) := by
  let t := s.transcript
  have sameSlot : t.2.slot 2 = s.slot 2 := rfl
  refine ⟨t.2, t.1, rfl, ?_⟩
  have signs (m : List Byte) := State.aliasSign_of (s := t.2) m ((congrArg Slot.state sameSlot).trans usable)
  have known : ¬(4 < op ∧ op ≠ 0xFF) := by omega
  unfold State.opMeasurements
  extract_lets
  rw [if_neg known, signs, sameSlot]
  obtain rfl | rfl : op = 0 ∨ op = 1 := by omega
  · rfl
  · rfl

/-! ### Large messages (R373) -/

theorem State.opChunkSend_keeps (session : Nat) (last : Bool) {body : List Byte} (fits : s.trust.chunkIn.length + body.length ≤ 65536) :
    State.opChunkSend session last body s =
      ({ s with trust := { s.trust with chunkIn := if last then [] else s.trust.chunkIn ++ body } }).spdmSend session Spdm.CHUNK_SEND_ACK [] :=
  if_neg (by rw [List.length_append]; omega)

/-- The last piece. -/
theorem State.opChunkGet_last (session : Nat) {seqNo : Nat} (some_ : s.trust.chunkOut ≠ []) (short : s.trust.chunkOut.length ≤ 4080)
    (next : seqNo = s.trust.chunkNo) :
    State.opChunkGet session seqNo s = ({ s with trust := { s.trust with chunkOut := [], chunkNo := 0 } }).spdmSend session
      Spdm.CHUNK_RESPONSE ([1] ++ leBytes 2 seqNo ++ s.trust.chunkOut) := by
  have rest : s.trust.chunkOut.drop 4080 = [] := List.drop_eq_nil_of_le short
  have whole : s.trust.chunkOut.take 4080 = s.trust.chunkOut := List.take_of_length_le short
  unfold State.opChunkGet
  rw [if_neg (by simpa using some_), if_neg (not_not.mpr next)]
  dsimp only
  rw [rest, whole]
  rfl

/-! ### The statement -/

/-- Settles O27: each request's guard holds, and its meaning leads where the lemma about it says. The model's choices among them: the codes and
layouts of the messages (log entry 15, presumed), the free number that stands for a transcript (16) and the pieces of a large message (19). -/
theorem spdmConnectionCommandsComplete : Obligations.SpdmConnectionCommandsComplete := by
  unfold Obligations.SpdmConnectionCommandsComplete
  refine ⟨?setup, ?chain, ?exchange, ?measure, ?chunks⟩
  case setup =>
    intro s up
    refine ⟨guarded_of _ s (fun s => (s.setSpdm .version).spdmSend 0 Spdm.VERSION ([0, 2] ++ leBytes 2 0x1200 ++ leBytes 2 0x1300)) up,
      ?capabilities, ?algorithms⟩
    case capabilities =>
      intro asked
      exact ⟨_, (s.draw 1).2, (guarded_of _ s State.opCapabilities up).trans (congrArg _ (State.opCapabilities_answers asked)), rfl, rfl⟩
    case algorithms =>
      intro asked
      exact ⟨(guarded_of _ s (State.opAlgorithms true) up).trans (congrArg _ (State.opAlgorithms_answers asked true)),
        (guarded_of _ s (State.opAlgorithms false) up).trans (congrArg _ (State.opAlgorithms_answers asked false))⟩
  case chain =>
    intro off len nonce key s up mount maker scrapped agreed r chain ok own same
    have serves (u : CertUse) : s.needChain u = r.st.serveChain u chain := by
      have serves := State.needChain_serves u mount ok (own.trans (by rw [← same]))
      rw [show (s.readAs Master.maint (s.rdPair Page.key Reg.KEY_CERT_BASE_LO.ADDR Reg.KEY_CERT_BASE_HI.ADDR)
        (s.rd Page.key Reg.KEY_CERT_LEN.BYTES)).st.trust = s.trust from same] at serves
      exact serves
    have takes (f : State → State) : guarded s.up s (fun s => s.identified f) = .next (f s) :=
      (guarded_of _ s _ up).trans (congrArg _ (State.identified_of f maker scrapped agreed))
    refine ⟨?digests, ?certificate, ?challenge⟩
    case digests => exact (takes _).trans (congrArg _ (serves _))
    case certificate =>
      intro within
      exact (takes fun s => if 0 ≠ 0 then s.spdmErr 0 Spdm.InvalidRequest else s.needChain (.cert off len)).trans
        (congrArg _ ((serves _).trans (if_neg (Nat.not_lt.mpr within))))
    case challenge =>
      intro usable named
      obtain ⟨u, t, ours, same, answers⟩ := State.serveChain_challenge nonce chain usable
      exact ⟨u, t, ours, same, (takes _).trans (congrArg _ ((serves _).trans (by rw [answers, named])))⟩
  case exchange =>
    intro reqId pub key s up maker scrapped agreed none_ free usable named
    subst named
    exact ⟨_, _, _, (guarded_of _ s (fun s => s.identified (State.opKeyExchange reqId pub)) up).trans
      (congrArg _ ((State.identified_of _ maker scrapped agreed).trans (State.opKeyExchange_first reqId pub none_ free usable))),
      rfl, rfl, rfl, rfl, rfl, rfl, rfl⟩
  case measure =>
    intro op nonce key s up agreed usable named
    subst named
    have takes : exec (.getMeasurements 0 op nonce) s = .next (State.opMeasurements 0 op nonce s) :=
      (guarded_of _ s (fun s => s.afterAlgorithms 0 (State.opMeasurements 0 op nonce)) up).trans
        (congrArg _ (State.afterAlgorithms_of 0 _ agreed))
    by_cases low : op ≤ 1
    · obtain ⟨u, t, same, answers⟩ := State.opMeasurements_signed 0 op nonce usable low
      refine ⟨u, t, same, ?count, ?block⟩
      case count =>
        rintro rfl
        exact takes.trans (congrArg _ answers)
      case block =>
        rintro rfl
        exact takes.trans (congrArg _ answers)
    · exact ⟨s, 0, rfl, fun count => absurd count (by omega), fun block => absurd block (by omega)⟩
  case chunks =>
    intro session seqNo last outOfOrder body s up
    refine ⟨?send, ?get, guarded_of _ s
      (fun s => s.spdmErr session (if outOfOrder then Spdm.UnexpectedRequest else Spdm.UnsupportedRequest)) up⟩
    case send =>
      exact fun fits => (guarded_of _ s (State.opChunkSend session last body) up).trans (congrArg _ (State.opChunkSend_keeps session last fits))
    case get =>
      exact fun some_ short next =>
        (guarded_of _ s (State.opChunkGet session seqNo) up).trans (congrArg _ (State.opChunkGet_last session some_ short next))

end Sys2Proof.Machine
end

section
/-! IDE key management over the key-out port, and TDISP: what the meaning of each of these requests leads to. -/

namespace Sys2Proof.Machine

variable {s : State} {id fn : Nat} {x : Session}

/-! ### Messages of a session (R376) -/

/-- The session has counted one more request. -/
abbrev State.counted (s : State) (id : Nat) : State := s.modSession id fun y => { y with reqSeq := y.reqSeq + 1 }

theorem State.inSession_of (f : Session → State → State) (there : s.session id = some x) {n : Nat} (phase : x.phase = n) :
    s.inSession id n f = f { x with reqSeq := x.reqSeq + 1 } (s.counted id) := by
  unfold State.inSession
  rw [there]
  exact if_neg (not_not.mpr phase)

/-! ### IDE_KM (R390, R494) -/

/-- An IDE_KM request in an anchored hybrid session, for port index 0, while the port takes a command. -/
theorem State.ide_of (f : State → State) (there : s.session id = some x) (phase : x.phase = 2) (anchored : x.anchored = true)
    (hybrid : x.hybrid = true) (idle : s.ideBusy = false) : s.ide id 0 f = f (s.counted id) := by
  refine (State.inSession_of _ there phase).trans ?_
  have idle : (s.counted id).ideBusy = false := idle
  simp [anchored, hybrid, idle]

theorem State.ide_port (f : State → State) (there : s.session id = some x) (phase : x.phase = 2) (anchored : x.anchored = true)
    (hybrid : x.hybrid = true) {port : Nat} (other : port ≠ 0) : s.ide id port f = (s.counted id).ideFail id Spdm.InvalidRequest := by
  refine (State.inSession_of _ there phase).trans ?_
  simp [anchored, hybrid, other]

/-- The port's beat is over. -/
def State.beatOver (s : State) : State := { s with trust := { s.trust with koBeat := none } }

/-- A session that still lives is answered. -/
theorem State.koAnswer_of (f : State → State) (there : (s.session id).isSome = true) : s.koAnswer id f = f s.beatOver :=
  if_neg (by simpa [State.session] using there)

theorem State.opKoAck_answers {op stream : Nat} (data : List Byte) (beat : s.trust.koBeat = some (op, id, stream))
    (there : (s.session id).isSome = true) :
    State.opKoAck 0 data s = s.beatOver.spdmSend id Spdm.VENDOR ((0 : Byte) :: (if op = 1 then slice data 0 16 else [])) := by
  unfold State.opKoAck
  rw [beat]
  exact State.koAnswer_of _ there

theorem State.err_session (s : State) (p : Page) (b : Nat) (i : ErrInfo) (id : Nat) : (s.err p b i).session id = s.session id := by
  have same : (s.err p b i).trust = s.trust := s.err_same p b i .trust (by decide) (by decide) (by decide) (fun _ => nofun)
  unfold State.session
  rw [same]

theorem State.opKoTimeout_answers {op stream : Nat} (beat : s.trust.koBeat = some (op, id, stream)) (there : (s.session id).isSome = true) :
    s.opKoTimeout = (s.err Page.key Err.key.IDE_KM_FAIL).beatOver.spdmErr id Spdm.Unspecified := by
  unfold State.opKoTimeout
  rw [beat]
  exact State.koAnswer_of _ (by rw [State.err_session]; exact there)

/-! ### The state of a TDI (R391) -/

/-- A field of a number after its value has been replaced. -/
theorem bits_replaced (v lo w : Nat) {c : Nat} (h : c < 2 ^ w) : bits (v - bits v lo w * 2 ^ lo + c * 2 ^ lo) lo w = c := by
  have parts : v = v % 2 ^ lo + 2 ^ lo * (bits v lo w + 2 ^ w * (v / 2 ^ lo / 2 ^ w)) := by
    rw [bits, Nat.mod_add_div, Nat.mod_add_div]
  have replaced : v - bits v lo w * 2 ^ lo + c * 2 ^ lo = v % 2 ^ lo + 2 ^ lo * (c + 2 ^ w * (v / 2 ^ lo / 2 ^ w)) := by
    rw [Nat.mul_add] at parts ⊢
    rw [Nat.mul_comm (bits v lo w), Nat.mul_comm c]
    omega
  rw [replaced]
  exact bits_of_sum (Nat.mod_lt _ (Nat.two_pow_pos lo)) h

/-- A field that lies below the bits that are cut off. -/
theorem bits_mod_two_pow (v : Nat) {lo w n : Nat} (h : lo + w ≤ n) : bits (v % 2 ^ n) lo w = bits v lo w := by
  obtain ⟨d, rfl⟩ := Nat.exists_eq_add_of_le h
  unfold bits
  rw [Nat.add_assoc, Nat.pow_add, Nat.mod_mul_right_div_self, Nat.mod_mod_of_dvd _ (Nat.pow_dvd_pow 2 (Nat.le_add_right w d))]

theorem State.tdi_setTdi (s : State) (n x : Nat) : (s.setTdi n x).tdi n = x % 4 := by
  have within : 2 * (n % 16) + 2 ≤ 32 := by omega
  unfold State.setTdi
  rw [State.tdi, State.rd_wr_same _ _ _ _ _ (by decide)]
  exact (bits_mod_two_pow _ within).trans (bits_replaced _ _ 2 (Nat.mod_lt _ (by decide)))

/-- The registers of a VF's page do not tell a TDI's state. -/
theorem State.setTdi_reg_vf (s : State) (n x m : Nat) {off : Nat} (h : off < 0x1000) :
    (s.setTdi n x).reg ((Page.vf m).base + off) = s.reg ((Page.vf m).base + off) := by
  have slot : ((Page.vf m).base + off) / 0x1000 = Fam.vf.slot0 + m % Fam.vf.slots := by
    have base : (Page.vf m).base = (Fam.vf.slot0 + m % Fam.vf.slots) * 0x1000 := rfl
    omega
  have own := Page.ofSlot_own .vf (m % Fam.vf.slots) (Nat.mod_lt _ (by decide))
  exact (State.setTdi_frame (M := 0x100000000) (Covers.refl _) (.refl _ s)).same (.page .vf) rfl _ _ (by rw [slot, own]) rfl

theorem State.setTdi_rd_vf (s : State) (n x m : Nat) {f : Field} (h : f.inPage = true) :
    (s.setTdi n x).rd (Page.vf m) f = s.rd (Page.vf m) f :=
  (State.setTdi_frame (M := 0x100000000) (Covers.refl _) (.refl _ s)).rd_same (p := Page.vf m) (by decide : 0x100000000 &&& Fam.vf.mask = 0) h 0

/-- What a lock records of a VF does not depend on its TDI's state. -/
theorem State.tdiReport_setTdi (s : State) (n x m : Nat) : (s.setTdi n x).tdiReport m = s.tdiReport m := by
  have queues : (s.setTdi n x).rd (Page.vf m) Reg.VFn_QUEUES.QCOUNT = s.rd (Page.vf m) Reg.VFn_QUEUES.QCOUNT := s.setTdi_rd_vf n x m rfl
  have provisioning : ((List.range 9).flatMap fun k => leBytes 4 ((s.setTdi n x).reg ((Page.vf m).base + 0x20 + 4 * k)).toNat)
      = (List.range 9).flatMap fun k => leBytes 4 (s.reg ((Page.vf m).base + 0x20 + 4 * k)).toNat := by
    refine List.flatMap_congr fun k hk => ?_
    rw [Nat.add_assoc, s.setTdi_reg_vf n x m (by have := List.mem_range.mp hk; omega)]
  have entry (k : Nat) : (s.setTdi n x).ratAt k = s.ratAt k := rfl
  unfold State.tdiReport State.vfRange
  simp only [queues, provisioning, entry]

/-! ### TDISP (R391) -/

/-- An answer leaves the TDIs' nonces and records. -/
theorem State.spdmOut_tdis (s : State) (session code : Nat) (body : List Byte) :
    (s.spdmOut session code body).trust.tdiNonce = s.trust.tdiNonce ∧ (s.spdmOut session code body).trust.tdiRec = s.trust.tdiRec := by
  unfold State.spdmOut
  extract_lets a b c
  have here : c.trust.tdiNonce = s.trust.tdiNonce ∧ c.trust.tdiRec = s.trust.tdiRec := by simp [c, b, a]
  split
  · exact here
  · split
    · rw [State.emit_trust]
      exact here
    · exact here

theorem State.spdmSend_tdis (s : State) (session code : Nat) (body : List Byte) :
    (s.spdmSend session code body).trust.tdiNonce = s.trust.tdiNonce ∧ (s.spdmSend session code body).trust.tdiRec = s.trust.tdiRec := by
  unfold State.spdmSend
  split
  · exact State.spdmOut_tdis _ _ _ _
  · exact State.spdmOut_tdis _ _ _ _

theorem State.tdi_spdmSend (s : State) (session code : Nat) (body : List Byte) (n : Nat) : (s.spdmSend session code body).tdi n = s.tdi n :=
  congrArg (bits · _ 2) ((State.spdmSend_frame (M := 0xc200400) (Covers.refl _) (.refl _ s)).rd_same rfl rfl _)

/-- A request about one of the VFs 1 to 127, in a session of a Mount block. -/
theorem State.tdisp_of (f : State → State) (mount : s.boot.post = false) (there : s.session id = some x) (phase : x.phase = 2)
    (vf : 0 < fn) (low : fn < 128) : s.tdisp id fn f = f (s.counted id) :=
  (State.inSession_of _ there phase).trans ((if_neg (ne_true_of_eq_false mount)).trans (if_neg (by omega)))

theorem State.tdisp_other (f : State → State) (mount : s.boot.post = false) (there : s.session id = some x) (phase : x.phase = 2)
    (none_ : fn = 0 ∨ 127 < fn) : s.tdisp id fn f = (s.counted id).tdispErr id Tdisp.InvalidInterface :=
  (State.inSession_of _ there phase).trans ((if_neg (ne_true_of_eq_false mount)).trans (if_pos none_))

/-- LOCK of an unlocked TDI of a LIVE VF. -/
theorem State.opTdiLock_locks (unlocked : s.tdi fn = 0) (live : s.vstate fn = 1) :
    (State.opTdiLock id fn s).tdi fn = 1 ∧ (SMap.find? (State.opTdiLock id fn s).trust.tdiNonce fn).isSome = true ∧
      SMap.find? (State.opTdiLock id fn s).trust.tdiRec fn = some (s.tdiReport fn) := by
  let r := s.drawBytes 32
  let u := r.2.setTdi fn 1
  let v : State := { u with trust := { u.trust with
    tdiNonce := SMap.set u.trust.tdiNonce fn r.1, tdiRec := SMap.set u.trust.tdiRec fn (u.tdiReport fn) } }
  have locks : State.opTdiLock id fn s = v.spdmSend id Spdm.VENDOR (by1 3 :: r.1) := if_neg (by simp [unlocked, live])
  obtain ⟨nonce, record⟩ := v.spdmSend_tdis id Spdm.VENDOR (by1 3 :: r.1)
  have report : u.tdiReport fn = s.tdiReport fn := r.2.tdiReport_setTdi fn 1 fn
  rw [locks, nonce, record, State.tdi_spdmSend]
  refine ⟨State.tdi_setTdi r.2 fn 1, ?_, ?_⟩
  · simp [v]
  · simp [v, report]

theorem State.opTdiReport_answers {off len : Nat} (locked : s.tdi fn = 1) (within : off ≤ (SMap.getD s.trust.tdiRec [] fn).length) :
    let r := SMap.getD s.trust.tdiRec [] fn
    State.opTdiReport id fn off len s = s.spdmSend id Spdm.VENDOR (by1 4 :: leBytes 2 ((r.drop off).take len).length
      ++ leBytes 2 (r.length - off - ((r.drop off).take len).length) ++ (r.drop off).take len) :=
  (if_neg (fun h => h.1 locked)).trans (if_neg (Nat.not_lt.mpr within))

theorem State.opTdiStart_runs {nonce : List Byte} (locked : s.tdi fn = 1) (kept : SMap.find? s.trust.tdiNonce fn = some nonce) :
    State.opTdiStart id fn nonce s = (s.setTdi fn 2).spdmSend id Spdm.VENDOR [6] :=
  (if_neg (not_not.mpr locked)).trans (if_neg (not_not.mpr kept))

/-- STOP of a running TDI of a LIVE VF. -/
theorem State.opTdiStop_quiesces (runs : s.tdi fn = 2) (live : s.vstate fn = 1) :
    let u := s.setTdi fn 0
    State.opTdiStop id fn s = ({ u with trust := { u.trust with
      tdiNonce := SMap.erase s.trust.tdiNonce fn, tdiRec := SMap.erase s.trust.tdiRec fn
      tdiStop := s.trust.tdiStop ++ [(fn, id)] } } : State).startQuiesce fn :=
  (if_neg (fun h => h.1 runs)).trans (if_pos (Or.inl ((s.setTdi_rd_vf fn 0 fn rfl).trans live)))

/-! ### The statement -/

/-- Settles O29: each request's guard holds, and its meaning leads where the lemma about it says. The model's choices among them: the layouts of
the messages (log entry 15, presumed), the states in which a report is served and a STOP is in order (26), what the report holds (27), and
how IDE_KM is refused (28), the last three deduced. -/
theorem interfaceKeyAndTdispCommandsComplete : Obligations.InterfaceKeyAndTdispCommandsComplete := by
  unfold Obligations.InterfaceKeyAndTdispCommandsComplete
  refine ⟨?ide, ?engine, ?tdisp, ?other⟩
  case ide =>
    intro id port stream kset dir sub key ifv x s up there phase anchored hybrid w
    refine ⟨fun idle => ?zero, fun other => ?port⟩
    case zero =>
      have takes (f : State → State) : guarded s.up s (fun s => s.ide id 0 f) = .next (f w) :=
        (guarded_of _ s _ up).trans (congrArg _ (State.ide_of f there phase anchored hybrid idle))
      exact ⟨takes fun s => s.koSend 1 id stream 0 0 0 0 0, takes fun s => s.saddleAdd 4 (.ide id stream kset dir sub key ifv),
        takes fun s => s.koSend 3 id stream kset dir sub 0 0, takes fun s => s.koSend 4 id stream kset dir sub 0 0⟩
    case port =>
      exact (guarded_of _ s (fun s => s.ide id port fun s => s.koSend 1 id stream 0 0 0 0 0) up).trans
        (congrArg _ (State.ide_port _ there phase anchored hybrid other))
  case engine =>
    intro op id stream data s up beat there u
    exact ⟨(guarded_of _ s (State.opKoAck 0 data) up).trans (congrArg _ (State.opKoAck_answers data beat there)),
      (guarded_of _ s State.opKoTimeout up).trans (congrArg _ (State.opKoTimeout_answers beat there))⟩
  case tdisp =>
    intro id fn flags off len nonce x s up mount there phase vf low w
    have takes (f : State → State) : guarded s.up s (fun s => s.tdisp id fn f) = .next (f w) :=
      (guarded_of _ s _ up).trans (congrArg _ (State.tdisp_of f mount there phase vf low))
    refine ⟨takes fun s => s.spdmSend id Spdm.VENDOR [1, 1, 0x10], takes fun s => s.spdmSend id Spdm.VENDOR [5, by1 (s.tdi fn)],
      ?capabilities, ?lock, ?order, ?report, ?start, ?stop⟩
    case capabilities =>
      exact ⟨(w.draw 1).2, leBytes 8 (Config.free (w.draw 1).1).toNat, rfl, leBytes_length _ _,
        takes fun s => (s.draw 1).2.spdmSend id Spdm.VENDOR (by1 2 :: leBytes 8 (Config.free (s.draw 1).1).toNat)⟩
    case lock =>
      intro unlocked live
      exact ⟨_, takes (State.opTdiLock id fn), State.opTdiLock_locks (s := w) unlocked live⟩
    case order => exact fun locked => (takes (State.opTdiLock id fn)).trans (congrArg _ (if_pos (Or.inl locked)))
    case report =>
      intro r locked within
      exact (takes (State.opTdiReport id fn off len)).trans (congrArg _ (State.opTdiReport_answers (s := w) locked within))
    case start =>
      intro locked kept
      exact (takes (State.opTdiStart id fn nonce)).trans (congrArg _ (State.opTdiStart_runs (s := w) locked kept))
    case stop =>
      intro runs live
      exact ⟨_, takes (State.opTdiStop id fn), State.opTdiStop_quiesces (s := w) runs live⟩
  case other =>
    intro id fn x s up mount there phase none_
    exact (guarded_of _ s (fun s => s.tdisp id fn fun s => s.spdmSend id Spdm.VENDOR [1, 1, 0x10]) up).trans
      (congrArg _ (State.tdisp_other _ mount there phase none_))

end Sys2Proof.Machine
end

section
/-! Life-cycle requests and commits, the DeviceID record, self-test runs and fuse burns: what the meaning of each of these commands leads to. -/

namespace Sys2Proof.Machine

variable {s : State}

/-! ### Requests (R413, R414) -/

theorem State.lcLast_mem (s : State) (code src dst : Nat) : (s.lcLast code src dst).mem = s.mem :=
  (State.lcLast_frame (M := 0x210000000) (Covers.refl _) (.refl _ s)).same .mem rfl

theorem State.lcRefuse_mem (s : State) (pkt : Option Nat) (code : Nat) : (s.lcRefuse pkt code).mem = s.mem :=
  (State.lcRefuse_frame (M := 0x820c000a00) (Covers.refl _) (.refl _ s)).same .mem rfl

theorem State.lcRefuse_lc (s : State) (pkt : Option Nat) (code : Nat) : (s.lcRefuse pkt code).lc = s.lc :=
  (State.lcRefuse_frame (M := 0x820c000a00) (Covers.refl _) (.refl _ s)).same .lc rfl

theorem State.lcSubmit_mem (s : State) (pkt : Option Nat) (l : List Byte) : (s.lcSubmit pkt l).2.mem = s.mem :=
  (State.lcSubmit_frame (M := 0x831c800a02) (Covers.refl _) (.refl _ s)).same .mem rfl

/-- A refusal leaves the code that LCS_LAST shows. -/
theorem State.lcRefuse_last (s : State) (pkt : Option Nat) (code : Nat) :
    (s.lcRefuse pkt code).rd Page.lcs Reg.LCS_LAST.CODE = s.rd Page.lcs Reg.LCS_LAST.CODE := by
  have reported := s.rd_err Page.lcs Page.lcs Err.lcs.LC_REFUSED { detail := code } (f := Reg.LCS_LAST.CODE) (i := 0) (by decide) rfl (by decide)
  unfold State.lcRefuse
  cases pkt with
  | none => exact reported
  | some p => exact (State.rd_congr (State.finish_regs _ _ _ _) _ _ _).trans reported

theorem State.opLcReq_short {p : Nat} {x : Pkt} (short : x.f 24 4 ≠ 7571) : s.opLcReq p x = s.lcUnread (some p) 1 := if_pos short

theorem State.opLcReq_reads {p : Nat} {x : Pkt} (whole : x.f 24 4 = 7571) (mount : s.boot.post = false)
    (allowed : s.checkRange Master.pf 0 (x.f 16 8) 7571 = none) (ok : (s.readAs Master.pf (x.f 16 8) 7571).status = St.OK) :
    let a := s.readAs Master.pf (x.f 16 8) 7571
    s.opLcReq p x = (a.st.lcSubmit (some p) a.data).2 := by
  unfold State.opLcReq
  rw [if_neg (not_not.mpr whole), if_neg (ne_true_of_eq_false mount)]
  exact if_neg (by simp [allowed, ok])

/-! ### Hold-up and the commit (R415, R466) -/

theorem State.opHoldup_commits {r : LcReq} (still : s.bist.burn = none) (asked : s.lc.req = some r) (fresh : s.lc.copy = none) :
    s.opHoldup.lc = { s.lc with copy := some 0, start := s.now } ∧ s.opHoldup.pins.holdupAck = true ∧
      s.opHoldup.rd Page.lcs Reg.LCS_STATUS.COMMITTING = 1 := by
  unfold State.opHoldup
  dsimp only
  rw [still, asked, fresh]
  exact ⟨rfl, rfl, State.rd_wr_same _ _ _ _ _ (by decide)⟩

theorem State.opHoldup_burns {b : Burn} (asked : s.bist.burn = some b) :
    s.opHoldup.bist = { s.bist with burn := some { b with granted := true } } ∧ s.opHoldup.rd Page.bst Reg.BST_STATUS.BURNING = 1 := by
  unfold State.opHoldup
  dsimp only
  rw [asked]
  exact ⟨rfl, State.rd_wr_same _ _ _ _ _ (by decide)⟩

theorem State.opHoldupTimeout_refuses {r : LcReq} (still : s.bist.burn = none) (asked : s.lc.req = some r) (fresh : s.lc.copy = none) :
    let t := s.opHoldupTimeout
    t.lc.req = none ∧ t.outs.holdupReq = false ∧ t.lc.fuses = s.lc.fuses ∧ t.rd Page.lcs Reg.LCS_LAST.CODE = 13 := by
  let u := ({ s with lc := { s.lc with req := none } } : State).wr Page.lcs Reg.LCS_LAST.CODE 13
  have leads : s.opHoldupTimeout = (u.lcRefuse r.pkt 13).endHoldup := by
    unfold State.opHoldupTimeout
    rw [still, asked, fresh]
  have lc : (u.lcRefuse r.pkt 13).endHoldup.lc = { s.lc with req := none } := u.lcRefuse_lc r.pkt 13
  have last : (u.lcRefuse r.pkt 13).endHoldup.rd Page.lcs Reg.LCS_LAST.CODE = 13 :=
    (u.lcRefuse_last r.pkt 13).trans (State.rd_wr_same _ _ _ _ _ (by decide))
  intro t
  unfold t
  rw [leads, lc]
  exact ⟨rfl, rfl, rfl, last⟩

/-- What a burn's end shows. -/
theorem State.burnStatus_shows (s : State) (code : Nat) :
    (s.burnStatus code).rd Page.bst Reg.BST_BURN_STATUS.CODE = code % 2 ^ 8 ∧ (s.burnStatus code).rd Page.bst Reg.BST_BURN_STATUS.DONE = 1 :=
  ⟨(State.rd_wr_apart _ _ _ (by decide) (by decide)).trans (State.rd_wr_same _ _ _ _ _ (by decide)), State.rd_wr_same _ _ _ _ _ (by decide)⟩

theorem State.opHoldupTimeout_ends {b : Burn} (asked : s.bist.burn = some b) :
    let t := s.opHoldupTimeout
    t.bist.burn = none ∧ t.outs.holdupReq = false ∧ t.rd Page.bst Reg.BST_BURN_STATUS.CODE = 5 ∧
      t.rd Page.bst Reg.BST_BURN_STATUS.DONE = 1 := by
  have leads : s.opHoldupTimeout = (({ s with bist := { s.bist with burn := none } } : State).burnStatus 5).endHoldup := by
    unfold State.opHoldupTimeout
    rw [asked]
  obtain ⟨code, done⟩ := ({ s with bist := { s.bist with burn := none } } : State).burnStatus_shows 5
  intro t
  unfold t
  rw [leads]
  exact ⟨rfl, rfl, code, done⟩

/-- The end of a commit: no request is left, and the block is in reset. -/
theorem State.endCommit_ends (s : State) (r : LcReq) :
    (s.endCommit r true).boot.phase = .inReset ∧ (s.endCommit r true).lc.req = none ∧ (s.endCommit r true).lc.copy = none := by
  let u := ({ s with lc := { s.lc with req := none, copy := none } } : State).readFuses
  let v := (u.wr Page.lcs Reg.LCS_STATUS.COMMITTING 0).wr Page.lcs Reg.LCS_COMMIT_US.US ((s.now - s.lc.start) / 1000)
  have ended : s.endCommit r true = (v.lcComplete r.pkt St.OK).endHoldup.blockReset := rfl
  have read : u.lc = { s.lc with req := none, copy := none } :=
    (State.readFuses_frame (M := 0x820c000200) (Covers.refl _) (.refl _ _)).same .lc rfl
  have shown : v.lc = u.lc := by simp only [v, State.wr_lc]
  have completed : (v.lcComplete r.pkt St.OK).lc = v.lc :=
    (State.lcComplete_frame (M := 0x1f02855d00dfb2) (Covers.refl _) (.refl _ v)).same .lc rfl
  have left_ (y : State) : y.endHoldup.blockReset.lc = { y.lc with req := y.lc.req.map fun r => { r with pkt := none } } := rfl
  have reset (y : State) : y.blockReset.boot.phase = .inReset := rfl
  rw [ended, left_, completed, shown, read]
  exact ⟨reset _, rfl, rfl⟩

theorem State.opPhase_next {k : CopyRead} {r : LcReq} {c : Nat} (holds : CopyRead.holds k r = true) (more : c < 2) :
    (State.opPhase k r c s).lc.copy = some (c + 1) ∧ (State.opPhase k r c s).lc.req = s.lc.req := by
  unfold State.opPhase
  extract_lets
  rw [if_neg (not_lacks holds), if_pos more]
  exact ⟨rfl, rfl⟩

theorem State.opPhase_last {k : CopyRead} {r : LcReq} {c : Nat} (holds : CopyRead.holds k r = true) (last : c = 2) :
    ∃ u : State, State.opPhase k r c s = u.endCommit r true := by
  subst last
  unfold State.opPhase
  extract_lets f u
  exact ⟨u, (if_neg (not_lacks holds)).trans (if_neg (by decide))⟩

/-! ### Runs (R461 to R464) -/

/-- Nothing is saved or restored: there is nothing to carry on. -/
theorem State.bistGo_still (still : s.bist.span = none) : s.bistGo = s := by
  unfold State.bistGo
  rw [still]

theorem State.clearLog_bist (s : State) : s.clearLog.bist = s.bist :=
  (State.clearLog_frame (M := 0x1fffffe0000000) (Covers.refl _) (.refl _ s)).same .bist rfl

/-- A run of a target that is neither a channel nor a port. -/
theorem State.opRun_starts (met : s.runCode = 0) (high : 80 ≤ s.bistTarget) (still : s.bist.span = none) :
    s.opRun = ({ s.clearLog with bist := { s.clearLog.bist with target := s.bistTarget } } : State).wr Page.bst Reg.BST_STATUS.STATE 2 := by
  have channel : ¬s.bistTarget < 16 := by omega
  have port : ¬(16 ≤ s.bistTarget && s.bistTarget < 80 &&
      ({ s.clearLog with bist := { s.clearLog.bist with target := s.bistTarget } } : State).rdb Page.bst Reg.BST_TARGET.SAVE) = true := by
    simp [show ¬s.bistTarget < 80 from Nat.not_lt.mpr high]
  have still : s.clearLog.bist.span.isSome = false := by rw [State.clearLog_bist, still]; rfl
  unfold State.opRun
  extract_lets code c u old v _ w
  have same : w = v := (if_neg channel).trans (if_neg port)
  rw [if_neg (not_not.mpr met), same]
  exact congrArg (fun n => v.wr Page.bst Reg.BST_STATUS.STATE n) (if_neg (ne_true_of_eq_false still))

theorem State.opRun_refused (refused : s.runCode ≠ 0) :
    s.opRun = (s.wr Page.bst Reg.BST_RESULT.CODE s.runCode).err Page.bst Err.bst.RUN_REFUSED { detail := s.runCode } := if_pos refused

theorem State.err_bist (s : State) (p : Page) (b : Nat) (i : ErrInfo) : (s.err p b i).bist = s.bist :=
  s.err_same p b i .bist (by decide) (by decide) (by decide) (fun _ => nofun)

theorem State.opBistAbort_fails (tested : s.underTest = true) :
    s.opBistAbort = (s.wr Page.bst Reg.BST_RESULT.UNREPAIRABLE 1).testsOver true true := if_pos tested

/-- A run that still waits for its token. -/
theorem State.opBistAbort_drops (untested : s.underTest = false) (runs : s.running = true) (still : s.bist.span = none) :
    s.opBistAbort = (s.runEnded false).dropSpan :=
  (if_neg (ne_true_of_eq_false untested)).trans (if_pos (by simp [runs, still]))

/-- A run without findings, of a target that is neither a channel nor a port. -/
theorem State.opRunDone_passes (high : 80 ≤ s.bist.target) (unsaved : s.bist.saved = none) : State.opRunDone [] true s = s.runEnded true := by
  have none_ : ¬s.bist.saved.isSome = true := by simp [unsaved]
  have channel : ¬s.bist.target < 16 := by omega
  have port : ¬s.bist.target < 80 := by omega
  have after : (s.runEnded true).afterRun s.bist.target true = s.runEnded true := (if_neg channel).trans (if_neg port)
  have tests : State.opRunDone [] true s = s.testsOver false true := rfl
  have ended : s.endRun false true = (s.runEnded true).afterRun s.bist.target true := by
    simp only [State.endRun, Bool.false_eq_true, if_false, channel, port, Bool.not_false]
  rw [tests, ← after, ← ended]
  exact if_neg none_

/-- The counts that BST_REPAIRS shows, and the policy, beside the page's other registers. -/
theorem State.rd_showRepairs (s : State) {f : Field} (other : f.off ≠ Reg.BST_REPAIRS.SOFT.off) (policy : Reg.BST_STATUS.POLICY.Apart f) :
    s.showRepairs.rd Page.bst f = s.rd Page.bst f := by
  have soft : Reg.BST_REPAIRS.SOFT.Apart f := Or.inl other
  have fuse : Reg.BST_REPAIRS.FUSE.Apart f := Or.inl other
  have blank : Reg.BST_REPAIRS.BLANK.Apart f := Or.inl other
  have void : Reg.BST_REPAIRS.VOID.Apart f := Or.inl other
  unfold State.showRepairs
  extract_lets
  rw [State.rd_wr_apart _ _ _ (by decide) policy, State.rd_wr_apart _ _ _ (by decide) void, State.rd_wr_apart _ _ _ (by decide) blank,
    State.rd_wr_apart _ _ _ (by decide) fuse, State.rd_wr_apart _ _ _ (by decide) soft]

theorem State.runEnded_shows (s : State) :
    (s.runEnded true).rd Page.bst Reg.BST_STATUS.DONE = 1 ∧ (s.runEnded true).rd Page.bst Reg.BST_STATUS.PASS = 1 := by
  unfold State.runEnded
  rw [State.rd_showRepairs _ (by decide) (by decide), State.rd_showRepairs _ (by decide) (by decide)]
  exact ⟨(State.rd_wr_apart _ _ _ (by decide) (by decide)).trans (State.rd_wr_same _ _ _ _ _ (by decide)), State.rd_wr_same _ _ _ _ _ (by decide)⟩

/-! ### Burns (R466) -/

/-- A write of a register below an array leaves the array. -/
theorem State.rd_wr_below (s : State) (p : Page) {f g : Field} (v i : Nat) (below : f.off < g.off) : (s.wr p f v).rd p g i = s.rd p g i :=
  State.rd_wr_other _ _ _ _ _ _ _ _ (by simp [Field.at_]; omega)

theorem State.burnUnits_wr (s : State) {f : Field} (v : Nat) (below : f.off < Reg.BST_LOGe_LO.UNIT.off) :
    (s.wr Page.bst f v).burnUnits = s.burnUnits := by
  unfold State.burnUnits State.pendingUnits State.rdb
  simp only [s.rd_wr_below Page.bst v _ (show f.off < Reg.BST_LOGe_LO.VALID.off from below),
    s.rd_wr_below Page.bst v _ (show f.off < Reg.BST_LOGe_LO.FUSE_PENDING.off from below), s.rd_wr_below Page.bst v _ below]

/-- A burn that may be asked for. -/
theorem State.opBurn_asks {hold : Bool} (allowed : s.burnCode hold = 0) :
    let t := State.opBurn hold s
    t.outs.holdupReq = true ∧ t.bist.burn = some { hold := hold, units := if hold then [] else s.burnUnits, granted := false } ∧
      t.rd Page.bst Reg.BST_BURN_STATUS.DONE = 0 := by
  let u := (s.wr Page.bst Reg.BST_BURN_STATUS.CODE 0).wr Page.bst Reg.BST_BURN_STATUS.DONE 0
  let v : State := { u with
    bist := { u.bist with burn := some { hold := hold, units := if hold then [] else u.burnUnits, granted := false } }
    outs := { u.outs with holdupReq := true } }
  have leads : State.opBurn hold s = v := if_neg (not_not.mpr allowed)
  have units : u.burnUnits = s.burnUnits := (State.burnUnits_wr _ _ (by decide)).trans (State.burnUnits_wr _ _ (by decide))
  have done : u.rd Page.bst Reg.BST_BURN_STATUS.DONE = 0 := State.rd_wr_same _ _ _ _ _ (by decide)
  intro t
  unfold t
  rw [leads, ← units]
  exact ⟨rfl, rfl, done⟩

/-- The burn no longer stands, hold-up is released. -/
def State.burnOver (s : State) : State := { s with bist := { s.bist with burn := none }, outs := { s.outs with holdupReq := false } }

/-- A burn without a bad read-back changes the fuses and the log, and shows its end. -/
theorem State.opBurnDone_leads (s : State) (n : Nat) (b : Burn) :
    ∃ v, Frame 0x4000800000 s.burnOver v ∧ State.opBurnDone n none b s = ((v.wr Page.bst Reg.BST_STATUS.BURNING 0).burnStatus 0).showRepairs := by
  unfold State.opBurnDone
  cases b.hold with
  | true => exact ⟨_, State.setFuses_frame rfl (.refl _ _), rfl⟩
  | false =>
    exact ⟨(b.units.take n).foldl State.burnOne s.burnOver, fold_rule (.refl _ _) fun _ _ h => State.burnOne_frame (Covers.refl _) h, rfl⟩

theorem State.opBurnDone_ends (s : State) (n : Nat) (b : Burn) :
    let t := State.opBurnDone n none b s
    t.bist.burn = none ∧ t.outs.holdupReq = false ∧ t.rd Page.bst Reg.BST_STATUS.BURNING = 0 ∧ t.rd Page.bst Reg.BST_BURN_STATUS.DONE = 1 ∧
      t.rd Page.bst Reg.BST_BURN_STATUS.CODE = 0 := by
  obtain ⟨v, frame, leads⟩ := s.opBurnDone_leads n b
  let w := v.wr Page.bst Reg.BST_STATUS.BURNING 0
  have shown : Frame 0x4000800000 s.burnOver (w.burnStatus 0).showRepairs :=
    State.showRepairs_frame rfl (State.burnStatus_frame rfl (State.wr_frame frame rfl rfl))
  have bist : (w.burnStatus 0).showRepairs.bist = s.burnOver.bist := shown.same .bist rfl
  have outs : (w.burnStatus 0).showRepairs.outs = s.burnOver.outs := shown.same .outs rfl
  obtain ⟨code, done⟩ := w.burnStatus_shows 0
  have burning : (w.burnStatus 0).rd Page.bst Reg.BST_STATUS.BURNING = 0 :=
    (State.rd_wr_apart _ _ _ (by decide) (by decide)).trans ((State.rd_wr_apart _ _ _ (by decide) (by decide)).trans
      (State.rd_wr_same _ _ _ _ _ (by decide)))
  intro t
  unfold t
  rw [leads, bist, outs, State.rd_showRepairs _ (by decide) (by decide), State.rd_showRepairs _ (by decide) (by decide),
    State.rd_showRepairs _ (by decide) (by decide)]
  exact ⟨rfl, rfl, burning, done, code⟩

/-! ### The statement -/

/-- Settles O30: each command's guard holds, and its meaning leads where the lemma about it says. The model's choices among them: a target under
test that is aborted counts as unrepairable and a refused burn shows its code and DONE (log entry 101, deduced), which units fail is an
operand of the run's end (100), and a request of another length or without its hold-up shows code 1 or 13 (102). -/
theorem lifeCycleAndBistCommandsComplete : Obligations.LifeCycleAndBistCommandsComplete := by
  unfold Obligations.LifeCycleAndBistCommandsComplete
  refine ⟨?request, ?commit, ?burn, ?phase, ?deviceId, ?run, ?passed, ?burnt⟩
  case request =>
    intro p x s ready at_ mount u a
    refine ⟨fun short => ?short, fun whole allowed ok free => ?whole⟩
    case short =>
      have free : (u.lcUnread (some p) 1).blocked = false :=
        (State.blocked_congr ((State.lcRefuse_mem _ _ _).trans (State.lcLast_mem _ _ _ _))).trans (State.calm_setPkt_free _ _ _)
      exact State.perform_next ready at_ (State.opLcReq_short short) free
    case whole =>
      exact State.perform_next ready at_ (State.opLcReq_reads whole mount allowed ok) ((State.blocked_congr (State.lcSubmit_mem _ _ _)).trans free)
  case commit =>
    intro r s held still asked fresh
    refine ⟨⟨_, guarded_of _ s State.opHoldup held, State.opHoldup_commits still asked fresh⟩, fun open_ => ?_⟩
    exact ⟨_, guarded_of _ s State.opHoldupTimeout (by simp [held, open_]), State.opHoldupTimeout_refuses still asked fresh⟩
  case burn =>
    intro b s held asked
    refine ⟨⟨_, guarded_of _ s State.opHoldup held, State.opHoldup_burns asked⟩, fun open_ => ?_⟩
    exact ⟨_, guarded_of _ s State.opHoldupTimeout (by simp [held, open_]), State.opHoldupTimeout_ends asked⟩
  case phase =>
    intro r c k s asked copy
    have leads : exec (.commitPhaseDone k) s = .next (State.opPhase k r c s) := by
      show execCommitPhaseDone k s = _
      unfold execCommitPhaseDone
      rw [asked, copy]
    refine ⟨fun holds more => ?next, fun holds last => ?last⟩
    case next =>
      obtain ⟨next, kept⟩ := State.opPhase_next (s := s) holds more
      exact ⟨_, leads, next, kept.trans asked⟩
    case last =>
      obtain ⟨u, ends⟩ := State.opPhase_last (s := s) holds last
      exact ⟨_, leads.trans (congrArg _ ends), u.endCommit_ends r⟩
  case deviceId =>
    intro p s running right none_
    exact (State.action_running State.opExport running (by rfl) right).trans (congrArg _ (if_pos (by rw [none_]; rfl)))
  case run =>
    intro p s running right
    have acts (f : State → State) : s.action p Page.bst f = .next (f s) := State.action_running f running (by rfl) right
    have runs (t : State) (leads : s.opRun = t) (still : t.bist.span = none) : exec (.bistRun p) s = .next t := by
      refine (acts fun s => if s.up then s.opRun.bistGo else s).trans (congrArg _ ((if_pos (State.up_of_running running)).trans ?_))
      rw [leads, State.bistGo_still still]
    refine ⟨?starts, ?refused, ?fails, ?drops, ?burn, ?hold⟩
    case starts =>
      intro met high still
      exact runs _ (State.opRun_starts met high still) (by simp only [State.wr_bist, State.clearLog_bist, still])
    case refused =>
      intro refused still
      exact runs _ (State.opRun_refused refused) (by rw [State.err_bist, State.wr_bist, still])
    case fails => exact fun tested => (acts State.opBistAbort).trans (congrArg _ (State.opBistAbort_fails tested))
    case drops => exact fun untested waits still => (acts State.opBistAbort).trans (congrArg _ (State.opBistAbort_drops untested waits still))
    case burn =>
      intro allowed
      exact ⟨_, acts (State.opBurn false), State.opBurn_asks allowed⟩
    case hold =>
      intro allowed
      obtain ⟨asked, noted, -⟩ := State.opBurn_asks allowed
      exact ⟨_, acts (State.opBurn true), asked, noted⟩
  case passed =>
    intro s serving tested high unsaved
    exact ⟨(guarded_of _ s (State.opRunDone [] true) (by simp [serving, tested])).trans (congrArg _ (State.opRunDone_passes high unsaved)),
      s.runEnded_shows⟩
  case burnt =>
    intro n b s asked granted
    have leads : exec (.burnDone n none) s = .next (State.opBurnDone n none b s) := by
      show execBurnDone n none s = _
      unfold execBurnDone
      rw [asked]
      exact congrArg _ (if_pos granted)
    exact ⟨_, leads, s.opBurnDone_ends n b⟩

end Sys2Proof.Machine
end
